-- ==== Sys2Proof/Config.lean ====
section
/-! DEFINITION. The free values of the model: what the spec leaves open and the machine goes on with. Each is an opaque
constant without a body: nothing can be proved of its value. Each has a row in the assumption log. -/

namespace Sys2Proof.Config

/-- A value the spec does not state, numbered by the fresh counter of the state. -/
opaque freeValue : Nat → Nat

/-- exp(−x) as the device computes it (spec/03_canopy_limits_and_faults.md R66): the decay of U. -/
opaque expDecay : Rat → Rat

/-- x raised to e / 100 as the device computes it (spec/06_cooling_and_loops.md R161), for 0 < e < 100. -/
opaque powRatio : Rat → Nat → Rat

/-- The point at which an internal step of the thermal twin takes the slope of R161, cut to the range between the nodes and one step along
the present slopes; the integration rule is not stated. -/
opaque twinPoint : Rat × Rat × Rat → Rat × Rat × Rat

/-- The flow of a port without a TW_CABLE record, whose K_FLOW nothing states (R160, R161): port and interval in µs. -/
opaque flowNoRecord : Nat → Nat → Nat

/-- The place of the device's rounding of a value of the sine sweep within one unit of single precision at AMP
(spec/06_cooling_and_loops.md R182): the exact value. -/
opaque sineRound : Rat → Rat

/-- √x as the device computes it (spec/08_sleeve_metrology.md R242), where the root is no exact fraction. -/
opaque root : Rat → Rat

/-- The correction that a head's calibration constants make to a scaled value (R235): constants, channel (0 voltage,
1 current), converter code, shunt temperature. -/
opaque headCorr : Nat → Nat → Int → Int → Rat

/-- The receive error counter after a good frame that found it above 127, as an offset from 119 (ISO 11898-1 allows 119 to 127;
spec/04_module_bus.md R97). -/
opaque recAfter : Nat → Nat

/-- How far the 4 MHz RC timebase of the Cuff retained domain lies off, counted in thousandths from 10 % below (spec/13_cuff_and_hem.md R370):
used modulo 201. -/
opaque rcRate : Nat → Nat

/-- In diagnostic boot, a controller only monitors its bus (spec/04_module_bus.md Table 4.1): bus and instant. No rule says how software
asks for it. -/
opaque diagListen : Nat → Nat → Bool

/-- Length in bytes of the EXI body of an answer to a vehicle, which the standards fix (spec/05_vehicle_ports.md R138): SessionID, TCP
sequence number and instant of the answer. -/
opaque answerLen : Nat → Nat → Nat → Nat

/-- The device's first TCP sequence number of a connection, and a traffic secret of its TLS 1.3 handshake (spec/10_seam_pair.md R289,
spec/14_cloak_keys.md R403): random draw; and direction. -/
opaque tcpFirst : Nat → Nat
opaque trafficSecret : Nat → Nat → Nat

/-- SHA-256 of a byte string, as a number of 256 bits. -/
opaque sha256 : List (BitVec 8) → Nat

/-- HMAC-SHA-256 under a key, as a number of 256 bits. -/
opaque hmac : Nat → List (BitVec 8) → Nat

/-- Bytes of one signature that verifies: scheme, public key, message, index. A scheme with a private key behind the public
key has at least one. -/
opaque sigOne : Nat → List (BitVec 8) → List (BitVec 8) → Nat → BitVec 8

/-- Every other signature that verifies: scheme, public key, message, signature. -/
opaque sigOther : Nat → List (BitVec 8) → List (BitVec 8) → List (BitVec 8) → Bool

/-- A signature of `n` bytes over a message verifies under a public key. -/
def sigVerify (scheme n : Nat) (pk msg sig : List (BitVec 8)) : Bool :=
  sig == (List.range n).map (sigOne scheme pk msg) || sigOther scheme pk msg sig

/-- The LMS/HSS signature that the holder of a key has made over a message. -/
def hssOne (pk msg : List (BitVec 8)) : List (BitVec 8) := (List.range 2964).map (sigOne 0 pk msg)

/-- An LMS/HSS signature of 2,964 bytes verifies under a public key (spec/14_cloak_keys.md R398). -/
def hssVerify (pk msg sig : List (BitVec 8)) : Bool := sigVerify 0 2964 pk msg sig

/-- The Llynvedar manufacturing root public key in ROM (spec/14_cloak_keys.md Table 14.5). -/
opaque rootPublic : List (BitVec 8)

/-- The Esing service authority public key in ROM (spec/14_cloak_keys.md Table 14.5). -/
opaque servicePublic : List (BitVec 8)

/-- The public key of a Sleeve's record key (spec/09_billing_and_tamper.md R271), by the Sleeve's serial number: generated inside the
Sleeve at manufacture, so that nothing is known of it. -/
opaque recordPublic : Nat → List (BitVec 8)

/-- The public key of a Sleeve's ECDSA key, by the serial number (R271). -/
opaque recordEcPublic : Nat → List (BitVec 8)

/-- The bytes of a legal parameter block (spec/08_sleeve_metrology.md R254), whose layout no rule gives: its values. -/
opaque legalLayout : List Nat → List (BitVec 8)

/-- The metrology release public key in the Sleeve (spec/08_sleeve_metrology.md R222, R254). -/
opaque metroPublic : List (BitVec 8)

/-- The firmware image that the Sleeve has from its manufacture (R222). -/
opaque slvFirmware : List (BitVec 8)

/-- The HSS signature that the key number signs over a message with a leaf, as a number. -/
opaque hssSign : Nat → Nat → List (BitVec 8) → Nat

/-- The ECDSA signature that the key number makes over a message, as a number. -/
opaque ecdsaSign : Nat → List (BitVec 8) → Nat

/-- The text of a field of an OCMF string that R273 names and gives no value (spec/09_billing_and_tamper.md): place in the string, record
body. -/
opaque ocmfValue : Nat → List (BitVec 8) → List (BitVec 8)

/-- The helper data of manufacture, the secret that helper data give back from the device's silicon, and what a reading gives whose bit
errors they cannot correct, by their number (spec/14_cloak_keys.md R388). -/
opaque helperData : List (BitVec 8)
opaque helperSecret : List (BitVec 8) → Nat
opaque pufWrong : Nat → Nat

/-- The root secret. -/
def rootSecret : Nat := helperSecret helperData

/-- HKDF-Extract with a salt over a secret (R388), as a number. -/
opaque hkdfExtract : List (BitVec 8) → Nat → Nat

/-- HKDF-Expand of a pseudorandom key under a label, as a number. -/
opaque hkdfExpand : Nat → List (BitVec 8) → Nat

/-- HKDF-SHA-256 with a salt over a secret under a label, 32 bytes (R392, R394). -/
def hkdf (salt : List (BitVec 8)) (ikm : Nat) (info : List (BitVec 8)) : Nat := hkdfExpand (hkdfExtract salt ikm) info % 2 ^ 256

/-- The public key of an ECDSA key in uncompressed form, 97 bytes filled with zeros (R401): curve code 3 or 4, private value. -/
opaque ecPublic : Nat → Nat → List (BitVec 8)

/-- The ECDH shared secret of a private value and a public key (R403): curve code 3 or 4. -/
opaque ecdh : Nat → Nat → List (BitVec 8) → Nat

/-- The 60-byte HSS public key of an identity slot's content (R399). -/
opaque hssPublic : Nat → List (BitVec 8)

/-- The bytes of an identity certificate in the CLK_CERT window, whose layout no rule gives (R399), and the length of the manufacturing
root's signature in it: DEV_ID, identity public key, slot 1's public key, signature; index. -/
opaque certByte : Nat → List (BitVec 8) → List (BitVec 8) → List (BitVec 8) → Nat → BitVec 8
opaque rootSigLen : Nat

/-- What stands for the image authority key hash where neither copy passes its check, which no rule gives (Table 14.5). -/
opaque anchorLost : Nat

/-- The firmware release key of the running main-die firmware, and that firmware (spec/14_cloak_keys.md R398). -/
opaque fwPublic : List (BitVec 8)
opaque fwImage : List (BitVec 8)

/-- A byte of the key stream of AES-256-GCM: key, nonce, index. -/
opaque gcmStream : Nat → List (BitVec 8) → Nat → BitVec 8

/-- The AES-256-GCM tag: key, nonce, additional data, payload. -/
opaque gcmTag : Nat → List (BitVec 8) → List (BitVec 8) → List (BitVec 8) → Nat

/-- The DETAIL bytes of a log entry (spec/18_host_and_discovery.md Table 18.4), whose layout no rule gives: event and index. -/
opaque logDetail : Nat → Nat → Nat

/-- The depth of a Thicket queue, 4 to 64 (spec/17_thicket_and_events.md R458), as an offset from 4: queue number. -/
opaque queueDepth : Nat → Nat

end Sys2Proof.Config
end

