-- ==== Sys2Proof/Word.lean ====
section
/-! DEFINITION. The word and byte types of the device (spec/00_scope.md, Conventions): registers are 32 bits wide, at byte addresses. -/

namespace Sys2Proof

/-- A register word: registers are 32 bits wide (spec/00_scope.md, Conventions). -/
abbrev Word := BitVec 32

/-- One byte of a frame, record or buffer. -/
abbrev Byte := BitVec 8

end Sys2Proof
end

