-- ==== Sys2Proof/Machine/Bits.lean ====
section
/-! DEFINITION. Bit fields, byte order, saturation, CRCs and the ordered lists that every unit uses
(spec/00_scope.md R10, R512, Table 0.3). -/

namespace Sys2Proof.Machine

/-- Field [lo + w - 1 : lo] of the number `v`. -/
def field (lo w v : Nat) : Nat := (v >>> lo) % 2 ^ w

/-- Bit `i` of the number `v`. -/
def bitOf (i v : Nat) : Bool := (v >>> i) % 2 == 1

/-- The value `v`, cut to `w` bits, placed at bit `lo` of a word: how a register word is put together. -/
def put (lo w v : Nat) : Nat := (v % 2 ^ w) <<< lo

/-- One-bit field. -/
def putB (lo : Nat) (b : Bool) : Nat := put lo 1 (if b then 1 else 0)

/-- The two's complement code of `v` in `w` bits (spec/00_scope.md R10). -/
def enc (w : Nat) (v : Int) : Nat := (v % (2 ^ w : Int)).toNat

/-- The two's complement value of the `w` low bits of `n` (spec/00_scope.md R10). -/
def dec (w n : Nat) : Int :=
  let m := n % 2 ^ w
  if m < 2 ^ (w - 1) then (m : Int) else (m : Int) - 2 ^ w

/-- Signed field placed at `lo`. -/
def putI (lo w : Nat) (v : Int) : Nat := put lo w (enc w v)

/-- A counter of `w` bits that saturates. -/
def satInc (w n : Nat) : Nat := if n + 1 < 2 ^ w then n + 1 else 2 ^ w - 1

/-- The value `n` saturated to `w` bits. -/
def sat (w n : Nat) : Nat := min n (2 ^ w - 1)

/-- The value `v` saturated to a signed field of `w` bits. -/
def satI (w : Nat) (v : Int) : Int :=
  max (-(2 ^ (w - 1) : Int)) (min v ((2 ^ (w - 1) : Int) - 1))

/-- The mask whose bit i is `f i`, for i below `n`. -/
def maskOf (n : Nat) (f : Nat → Bool) : Nat :=
  (List.range n).foldl (fun m i => if f i then m + 2 ^ i else m) 0

/-- The indices below `n` whose bit of the mask is 1, rising. -/
def bitsOf (n m : Nat) : List Nat := (List.range n).filter (fun i => bitOf i m)

/-- Change entry `i` of a table. -/
def upd {α : Type} {n : Nat} (v : Vector α n) (i : Fin n) (f : α → α) : Vector α n :=
  v.set i.val (f v[i]) i.isLt

/-- Entry `i` of a table for a plain number; outside the table, `d`. -/
def atD {α : Type} {n : Nat} (v : Vector α n) (i : Nat) (d : α) : α :=
  if h : i < n then v[i] else d

/-- Change entry `i` of a table for a plain number; outside the table, nothing. -/
def updN {α : Type} {n : Nat} (v : Vector α n) (i : Nat) (f : α → α) : Vector α n :=
  if h : i < n then v.set i (f v[i]) h else v

/-- Apply `f` to every entry of a table, with its index. -/
def mapIdx {α : Type} {n : Nat} (v : Vector α n) (f : Nat → α → α) : Vector α n :=
  (List.range n).foldl (fun v i => updN v i (f i)) v

/-- The little-endian number of a byte list (spec/00_scope.md R10). -/
def leNat : List Byte → Nat
  | [] => 0
  | b :: bs => b.toNat + 256 * leNat bs

/-- The big-endian number of a byte list (for the protocols that keep that order). -/
def beNat (bs : List Byte) : Nat := bs.foldl (fun a b => a * 256 + b.toNat) 0

/-- `k` bytes of `n`, little-endian. -/
def leBytes : Nat → Nat → List Byte
  | 0, _ => []
  | k + 1, n => BitVec.ofNat 8 n :: leBytes k (n / 256)

/-- `k` bytes of `n`, big-endian. -/
def beBytes (k n : Nat) : List Byte := (leBytes k n).reverse

/-- The little-endian number of the `k` bytes from offset `o` (absent bytes count as nothing). -/
def leAt (bs : List Byte) (o k : Nat) : Nat := leNat ((bs.drop o).take k)

/-- The signed little-endian number of the `k` bytes from offset `o`. -/
def leAtI (bs : List Byte) (o k : Nat) : Int := dec (8 * k) (leAt bs o k)

/-- Reverse the `w` low bits of `n`. -/
def reflect (w n : Nat) : Nat :=
  (List.range w).foldl (fun r i => if bitOf i n then r + 2 ^ (w - 1 - i) else r) 0

/-- The parameters of a CRC (spec/00_scope.md Table 0.3). -/
structure CrcKind where
  width  : Nat
  poly   : Nat
  init   : Nat
  refl   : Bool
  xorOut : Nat
  deriving DecidableEq, Repr

/-- spec/00_scope.md Table 0.3. -/
def crc8Kind : CrcKind := ⟨8, 0x07, 0x00, false, 0x00⟩
/-- spec/00_scope.md Table 0.3. -/
def crc16Kind : CrcKind := ⟨16, 0x1021, 0xFFFF, false, 0x0000⟩
/-- spec/00_scope.md Table 0.3. -/
def crc32cKind : CrcKind := ⟨32, 0x1EDC6F41, 0xFFFFFFFF, true, 0xFFFFFFFF⟩

/-- One bit into the CRC register, most significant end first. -/
def crcBit (k : CrcKind) (r : Nat) (b : Bool) : Nat :=
  let top := bitOf (k.width - 1) r
  let sh := (r * 2) % 2 ^ k.width
  if top != b then sh ^^^ k.poly else sh

/-- The CRC over a bit string in the order in which the bits are sent (spec/00_scope.md R512). -/
def crcBits (k : CrcKind) (bits : List Bool) : Nat :=
  let r := bits.foldl (crcBit k) k.init
  (if k.refl then reflect k.width r else r) ^^^ k.xorOut

/-- The bits of a byte in the order in which the CRC takes them: most significant first, or least
significant first where the CRC is reflected. -/
def crcByteBits (k : CrcKind) (b : Byte) : List Bool :=
  if k.refl then (List.range 8).map (fun i => bitOf i b.toNat)
  else (List.range 8).map (fun i => bitOf (7 - i) b.toNat)

/-- The CRC over bytes in the order in which they are sent or stored (spec/00_scope.md R512). -/
def crcOf (k : CrcKind) (bs : List Byte) : Nat := crcBits k (bs.flatMap (crcByteBits k))

/-- CRC-8 of Table 0.3. -/
def crc8 (bs : List Byte) : Nat := crcOf crc8Kind bs
/-- CRC-16 of Table 0.3. -/
def crc16 (bs : List Byte) : Nat := crcOf crc16Kind bs
/-- CRC-32C of Table 0.3. -/
def crc32c (bs : List Byte) : Nat := crcOf crc32cKind bs

/-- Insert into a list kept in rising order of `key`; equal keys keep their order of arrival. -/
def insertBy {α : Type} (key : α → Nat) (x : α) : List α → List α
  | [] => [x]
  | y :: ys => if key x < key y then x :: y :: ys else y :: insertBy key x ys

/-- The list in rising order of `key`, equal keys in their order. -/
def sortBy {α : Type} (key : α → Nat) (xs : List α) : List α :=
  xs.foldl (fun acc x => insertBy key x acc) []

/-- Insert by a comparison (`lt x y`: x goes before y). -/
def insertLt {α : Type} (lt : α → α → Bool) (x : α) : List α → List α
  | [] => [x]
  | y :: ys => if lt x y then x :: y :: ys else y :: insertLt lt x ys

/-- The list ordered by a comparison, equal entries in their order. -/
def sortLt {α : Type} (lt : α → α → Bool) (xs : List α) : List α :=
  xs.foldl (fun acc x => insertLt lt x acc) []

/-- Sum of a list of rationals. -/
def sumQ (xs : List Rat) : Rat := xs.foldl (· + ·) 0
/-- Sum of a list of naturals. -/
def sumN (xs : List Nat) : Nat := xs.foldl (· + ·) 0
/-- Sum of a list of integers. -/
def sumI (xs : List Int) : Int := xs.foldl (· + ·) 0

/-- Round to the nearest integer, halves away from zero. -/
def roundHalfAway (q : Rat) : Int :=
  if 0 ≤ q then (q + 1 / 2).floor else -((-q + 1 / 2).floor)

/-- The integer nearest zero side: truncation. -/
def truncQ (q : Rat) : Int := if 0 ≤ q then q.floor else -((-q).floor)

/-- Limit `x` to the range lo..hi (hi wins where the range is empty). -/
def clampQ (lo hi x : Rat) : Rat := min hi (max lo x)

/-- Absolute value of a rational. -/
def absQ (q : Rat) : Rat := if q < 0 then -q else q

/-- Put `x` in a list without repeats. -/
def addSet {α : Type} [DecidableEq α] (x : α) (xs : List α) : List α := if x ∈ xs then xs else xs ++ [x]

/-- Remove `x` from a list. -/
def delSet {α : Type} [DecidableEq α] (x : α) (xs : List α) : List α := xs.filter (fun y => decide (y ≠ x))

/-- Keep a word of a mirror or window at its byte offset: a list in rising order without zero words. -/
def mirPut (off v : Nat) (m : List (Nat × Nat)) : List (Nat × Nat) :=
  let m := m.filter (fun e => e.1 ≠ off)
  if v = 0 then m else insertBy (·.1) (off, v) m

/-- A word of a mirror or window; 0 where nothing has come. -/
def mirGet (off : Nat) (m : List (Nat × Nat)) : Nat := ((m.find? (fun e => e.1 == off)).map (·.2)).getD 0

/-- The bytes of `n` words of a window from offset `o`. -/
def winBytes (o n : Nat) (m : List (Nat × Nat)) : List Byte :=
  (List.range n).flatMap (fun k => leBytes 4 (mirGet (o + 4 * k) m))

/-- Put a byte string, in whole words, into a window from offset `o`. -/
def winPut (o : Nat) (bs : List Byte) (m : List (Nat × Nat)) : List (Nat × Nat) :=
  (List.range ((bs.length + 3) / 4)).foldl (fun m k => mirPut (o + 4 * k) (leAt bs (4 * k) 4) m) m

/-- The bytes of an ASCII text. -/
def ascii (t : String) : List Byte := t.toList.map (fun c => BitVec.ofNat 8 c.toNat)

end Sys2Proof.Machine
end

