-- ==== Sys2Proof/Machine/State/Site.lean ====
section
/-! DEFINITION. Variants and fuses (spec/00_scope.md), status codes and events (spec/17_thicket_and_events.md
Tables 17.5 and 17.6), and the phase of a port as Canopy sees it (spec/02_canopy_allocation.md R39). -/

namespace Sys2Proof.Machine

/-- The variants of spec/00_scope.md Table 0.2. -/
inductive Variant where
  | mx | m | s | l
  deriving DecidableEq, Repr

/-- Number of vehicle ports (Table 0.2). -/
def Variant.ports : Variant → Nat
  | .mx => 12 | .m => 12 | .s => 8 | .l => 4
/-- Sleeve and billing present (Table 0.2). -/
def Variant.sleeve : Variant → Bool
  | .mx => true | .m => true | .s => false | .l => true
/-- Seam present (Table 0.2). -/
def Variant.seam : Variant → Bool
  | .mx => true | .m => false | .s => true | .l => false
/-- Number of module buses (Table 0.2). -/
def Variant.buses : Variant → Nat
  | .mx => 4 | .m => 4 | .s => 2 | .l => 1
/-- Number of Lacing chains (Table 0.2). -/
def Variant.chains : Variant → Nat
  | .mx => 4 | .m => 4 | .s => 2 | .l => 0
/-- Bramble present (Table 0.2). -/
def Variant.bramble : Variant → Bool
  | .mx => true | .m => true | .s => true | .l => false
/-- Number of Cuff channels (Table 0.2). -/
def Variant.cuffs : Variant → Nat
  | .mx => 16 | .m => 16 | .s => 16 | .l => 8
/-- The VARIANT field of SYS_CAPS (Table 0.1). -/
def Variant.code : Variant → Nat
  | .mx => 1 | .m => 2 | .s => 3 | .l => 4
/-- The SYS_CAPS word (spec/00_scope.md R1, R2). -/
def Variant.caps (v : Variant) : Nat :=
  put 0 4 v.ports + putB 4 v.sleeve + putB 5 v.seam + putB 6 v.bramble + put 8 4 v.buses + put 12 4 v.chains
    + put 16 5 v.cuffs + put 24 4 v.code

/-- Cipher suites, groups and signature algorithms of a TLS 1.3 handshake that R403 of spec/14_cloak_keys.md names, and any other by its
code. -/
inductive TlsSuite where
  | aes256GcmSha384
  | other (code : Nat)
  deriving DecidableEq, Repr
/-- Groups. -/
inductive TlsGroup where
  | secp384r1 | secp256r1
  | other (code : Nat)
  deriving DecidableEq, Repr
/-- Signature algorithms. -/
inductive TlsSig where
  | secp384r1Sha384 | secp256r1Sha256
  | other (code : Nat)
  deriving DecidableEq, Repr

/-- What the other side of a TLS 1.3 handshake offers; `pskOnly`: it wants a pre-shared key without a group. 0-RTT data is not read. -/
structure TlsHello where
  suites : List TlsSuite := [.aes256GcmSha384]
  groups : List TlsGroup := [.secp384r1]
  sigs : List TlsSig := [.secp384r1Sha384]
  pskOnly : Bool := false
  deriving DecidableEq, Repr

/-- The device finds a suite, a group and a signature algorithm that it supports (spec/14_cloak_keys.md R403). -/
def TlsHello.ok (h : TlsHello) : Bool :=
  h.suites.contains .aes256GcmSha384 && !h.pskOnly
    && (h.groups.contains .secp384r1 || h.groups.contains .secp256r1)
    && (h.sigs.contains .secp384r1Sha384 || h.sigs.contains .secp256r1Sha256)

/-- PRK of a device identity and its root secret (spec/14_cloak_keys.md R388): the salt is DEV_ID followed by the label. -/
def rootPrk (devId secret : Nat) : Nat := Config.hkdfExtract (leBytes 16 devId ++ ascii "DXN-ROOT") secret

/-- The content of slot 0 (spec/14_cloak_keys.md Table 14.2): the seed's 32 bytes, then the identifier's 16. -/
def idContent (prk : Nat) : Nat :=
  Config.hkdfExpand prk (ascii "DXN-ID-HSS-SEED") % 2 ^ 256 + Config.hkdfExpand prk (ascii "DXN-ID-HSS-I") % 2 ^ 128 * 2 ^ 256

/-- What manufacture fixes in the device: the capability word's variant (spec/00_scope.md R2), the device
identity, the network addresses and the Bramble address. -/
structure Fuses where
  variant : Variant := .mx
  /-- CLK_ID, 128 bits (spec/14_cloak_keys.md). -/
  devId   : Nat := 0
  /-- CLK_IDH, 256 bits: the SHA-256 of the identity public key of the device made with DEV_ID 0 (spec/14_cloak_keys.md R399). -/
  idHash  : Nat := Config.sha256 (Config.hssPublic (idContent (rootPrk 0 Config.rootSecret)))
  /-- BRM_ID, 48 bits (spec/12_bramble_site_link.md). -/
  brmId   : Nat := 0
  /-- The four MAC addresses, 48 bits each (spec/18_host_and_discovery.md). -/
  macs    : Vector Nat 4 := Vector.replicate 4 0
  /-- The default image authority key hash from manufacture (spec/14_cloak_keys.md Table 14.5). -/
  anchor  : Nat := 0
  /-- The key authority key hash (spec/14_cloak_keys.md R393). -/
  kaHash  : Nat := 0
  /-- Factory calibration and identity of the peer's trust are elsewhere; the firmware version, compared with
  FW_MIN (spec/15_image_and_start.md). -/
  fw      : Nat := 0x010000
  /-- The main-die firmware with the HSS public key it carries and its signature (spec/14_cloak_keys.md R398). -/
  fwImage : List Byte := Config.fwImage
  fwPk    : List Byte := Config.fwPublic
  fwSig   : List Byte := Config.hssOne Config.fwPublic Config.fwImage
  /-- The CRC of the pads' fuse map holds (spec/16_reset_clocks_domains.md R441). -/
  mapOk   : Bool := true
  deriving DecidableEq, Repr

/-- The main-die firmware verifies: its public key is the one whose hash stands in ROM, and its signature holds (spec/14_cloak_keys.md
R398, Table 14.5). -/
def Fuses.fwOk (f : Fuses) : Bool := Config.sha256 f.fwPk == Config.sha256 Config.fwPublic && Config.hssVerify f.fwPk f.fwImage f.fwSig

/-- Status codes (spec/17_thicket_and_events.md Table 17.5). -/
inductive Status where
  | ok | notPresent | notInState | badValue | badLength | unmapped | dataError | busy | denied
  deriving DecidableEq, Repr

/-- The code of a status (Table 17.5). -/
def Status.code : Status → Nat
  | .ok => 0 | .notPresent => 1 | .notInState => 2 | .badValue => 3 | .badLength => 4
  | .unmapped => 5 | .dataError => 6 | .busy => 7 | .denied => 8

/-- The 64 event sources (spec/17_thicket_and_events.md Table 17.6). -/
inductive Ev where
  | safetyTrip | siteState | safetyInput | inputDiscrepancy | gaiterDiagnostic | portShed | importOver
  | canopyBudget | intakeStale | bufferStale | selectionTimeout | moduleRefused | partnerRefused
  | priorityFrame | oneShotFail | busOff | busRecovered | contactorWeld | thermalThrottle | thermalCut
  | cableSensorFault | loopFault | loopSinkFault | injectionEnded | headError | supplyDisturbance
  | sleeveState | sleeveGateFail | meterTamper | peerLost | peerUnfit | seamProtocol
  | takeoverStarted | takeoverDone | lacingChain | cellLimit | cellDeviation | openWire | openWireTestLate
  | bramblePartnerLost | brambleEstop | clampLock | hemVsel | hemFault | cloakFault | cloakMargin
  | keyMissing | keyUpdate | signingState | imageRefused | strapInvalid | dieTemperature | enclosureTamper
  | notInState | dataError | fabricStall | sessionStarted | sessionEnded | recordReady | backOfficeLink
  | partnerAdmitted | canopyMode | deviceRestarted | software
  deriving DecidableEq, Repr

/-- The number of an event source (Table 17.6). -/
def Ev.num : Ev → Nat
  | .safetyTrip => 0 | .siteState => 1 | .safetyInput => 2 | .inputDiscrepancy => 3 | .gaiterDiagnostic => 4
  | .portShed => 5 | .importOver => 6 | .canopyBudget => 7 | .intakeStale => 8 | .bufferStale => 9
  | .selectionTimeout => 10 | .moduleRefused => 11 | .partnerRefused => 12 | .priorityFrame => 13
  | .oneShotFail => 14 | .busOff => 15 | .busRecovered => 16 | .contactorWeld => 17 | .thermalThrottle => 18
  | .thermalCut => 19 | .cableSensorFault => 20 | .loopFault => 21 | .loopSinkFault => 22 | .injectionEnded => 23
  | .headError => 24 | .supplyDisturbance => 25 | .sleeveState => 26 | .sleeveGateFail => 27 | .meterTamper => 28
  | .peerLost => 29 | .peerUnfit => 30 | .seamProtocol => 31 | .takeoverStarted => 32 | .takeoverDone => 33
  | .lacingChain => 34 | .cellLimit => 35 | .cellDeviation => 36 | .openWire => 37 | .openWireTestLate => 38
  | .bramblePartnerLost => 39 | .brambleEstop => 40 | .clampLock => 41 | .hemVsel => 42 | .hemFault => 43
  | .cloakFault => 44 | .cloakMargin => 45 | .keyMissing => 46 | .keyUpdate => 47 | .signingState => 48
  | .imageRefused => 49 | .strapInvalid => 50 | .dieTemperature => 51 | .enclosureTamper => 52
  | .notInState => 53 | .dataError => 54 | .fabricStall => 55 | .sessionStarted => 56 | .sessionEnded => 57
  | .recordReady => 58 | .backOfficeLink => 59 | .partnerAdmitted => 60 | .canopyMode => 61
  | .deviceRestarted => 62 | .software => 63

/-- Phase of a port (spec/02_canopy_allocation.md R39). -/
inductive Phase where
  | off | check | precharge | energy | stopping
  deriving DecidableEq, Repr

/-- The phase code of R39. -/
def Phase.code : Phase → Nat
  | .off => 0 | .check => 1 | .precharge => 2 | .energy => 3 | .stopping => 4

end Sys2Proof.Machine
end

