-- ==== Sys2Proof/Machine/State/Bus.lean ====
section
/-! DEFINITION. State of the module buses MB0 to MB3 and the MB_BUS record (spec/04_module_bus.md R96–R126). -/

namespace Sys2Proof.Machine

/-- 0x0400 MB_BUS (Table 4.2), with its defaults. -/
structure MbBusRec where
  bus : Nat := 0
  tdcEn : Bool := true
  nbrp : Nat := 1
  nsjw : Nat := 16
  ntseg1 : Nat := 63
  ntseg2 : Nat := 16
  dbrp : Nat := 1
  dtseg1 : Nat := 7
  dtseg2 : Nat := 2
  dsjw : Nat := 2
  tdco : Nat := 8
  hpId : Nat := 0x010
  hpMask : Nat := 0x7F0
  deriving DecidableEq, Repr

/-- How a received frame ends for the receiver's error counter (ISO 11898-1, Table 4.1): without error, with an error that it
detects, or with an error and a dominant bit after its error flag. -/
inductive RxFlaw where
  | none | error | dominant
  deriving DecidableEq, Repr

/-- A frame as a controller hears it (Table 4.1): identifier, format bits, payload and its time on the bus in µs. -/
structure CanFrame where
  id : Nat
  ext : Bool := false
  rtr : Bool := false
  fd : Bool := true
  /-- A recessive res bit: a protocol exception (Table 4.1). -/
  resRecessive : Bool := false
  flaw : RxFlaw := .none
  data : List Byte := []
  busTime : Nat := 0
  deriving DecidableEq, Repr

/-- A frame in a queue or buffer with its start-of-frame time (R99). -/
structure RxFrame where
  id : Nat := 0
  data : List Byte := []
  /-- Low 32 bits of the device timebase at start of frame. -/
  ts : Nat := 0
  /-- The same instant on the model's clock. -/
  at_ : Nat := 0
  deriving DecidableEq, Repr

/-- A frame in a transmit buffer (R102, R103). -/
structure TxFrame where
  id : Nat := 0
  data : List Byte := []
  seq : Nat := 0
  deriving DecidableEq, Repr

/-- The content of a status frame (Table 4.8) and its instant. -/
structure ModStatus where
  iRep : Int := 0
  vOut : Nat := 0
  iAvail : Nat := 0xFFFF
  sel : Nat := 0xF
  closed : Bool := false
  fault : Bool := false
  outOff : Bool := false
  inhibit : Bool := false
  wd : Bool := false
  hold : Bool := false
  selRej : Bool := false
  depart : Bool := false
  epoch : Nat := 0
  seq : Nat := 0
  temp : Int := 0
  fcode : Nat := 0
  scnt : Nat := 0
  at_ : Nat := 0
  deriving DecidableEq, Repr

/-- One address of a bus: MBn_PMa_LINK (Table 4.14), the last status and what R124 keeps. -/
structure PmLink where
  scnt : Nat := 0
  gaps : Nat := 0
  admitted : Bool := false
  refuse : Nat := 0
  lost : Bool := false
  /-- Serial number of the admitted module. -/
  serial : Nat := 0
  /-- Admission since the last Canopy tick (R21, R124): the module is a new arrival. -/
  fresh : Bool := false
  /-- Declared lost since the last Canopy tick (R22): Canopy removes the module even where it has been admitted again. -/
  gone : Bool := false
  last : Option ModStatus := none
  /-- Serial and instant of the last ANNOUNCE of a module that is not admitted (R124, reason 4). -/
  announced : Option (Nat × Nat) := none
  deriving DecidableEq, Repr

/-- Result of a one-shot frame (R103, codes of Table 4.14). -/
inductive TxResult where
  | ok | arbLost | error | withdrawn
  deriving DecidableEq, Repr

/-- What ISO 11898-1 tells apart of an error in an attempt of one's own (R97): no acknowledgement; a stuff error during arbitration that
a dominant bit in place of a recessive one causes; a dominant bit after the error flag; any other. -/
inductive TxFlaw where
  | noAck | arbStuff | dominant | other
  deriving DecidableEq, Repr

/-- The code of a one-shot result (Table 4.14). -/
def TxResult.code : TxResult → Nat
  | .ok => 0 | .arbLost => 1 | .error => 2 | .withdrawn => 3

/-- MBn_GRPj_TX and MBn_GRPj_TS (Table 4.14). -/
structure GrpTx where
  result : TxResult := .ok
  seq : Nat := 0
  ts : Nat := 0
  deriving DecidableEq, Repr

/-- Fault confinement state (MBn_STAT.FCS, Table 4.14). -/
inductive Fcs where
  | off | active | passive | busOff
  deriving DecidableEq, Repr

/-- The code of MBn_STAT.FCS. -/
def Fcs.code : Fcs → Nat
  | .off => 0 | .active => 1 | .passive => 2 | .busOff => 3

/-- One module-bus controller: its registers (Table 4.14), queue, buffers and port limit frame. -/
structure MBus where
  tec : Nat := 0
  recv : Nat := 0
  fcs : Fcs := .off
  boff : Nat := 0
  arb : Nat := 0
  err : Nat := 0
  ovf : Nat := 0
  badLen : Nat := 0
  unadm : Nat := 0
  pexc : Nat := 0
  /-- Frames of the last 100 ms: instant, and time on the bus in cycles of the 80 MHz CAN clock (MBn_LOAD). -/
  loadLog : List (Nat × Nat) := []
  loadPeak : Nat := 0
  hpId : Nat := 0
  hpNew : Bool := false
  hpOvr : Bool := false
  hpTs : Nat := 0
  /-- The one-entry high-priority buffer (R101). -/
  hpBuf : Option RxFrame := none
  grpTx : Vector GrpTx 4 := Vector.replicate 4 {}
  link : Vector PmLink 64 := Vector.replicate 64 {}
  /-- The 64-entry receive queue, oldest first (R100). -/
  rxq : List RxFrame := []
  /-- Transmit buffers 0–3 (R102). -/
  txGrp : Vector (Option TxFrame) 4 := Vector.replicate 4 none
  /-- HOLD frames of the echo engine that wait, oldest first (R118, spec/10_seam_pair.md R294). -/
  txHold : List TxFrame := []
  /-- Transmit buffer 4, the port limit frame, and buffer 5, management frames, oldest first (R102). -/
  txLimit : Option TxFrame := none
  txMgmt : List TxFrame := []
  /-- The frame that the controller offers to the bus: 0–3 a group frame, 4 HOLD, 5 port limit, 6 management (R102). -/
  offered : Option Nat := none
  /-- The 32 acceptance filter elements: identifier and mask (R100). -/
  filters : Vector (Option (Nat × Nat)) 32 := Vector.replicate 32 none
  /-- The values and the instant of the last port limit frame (R119). -/
  limitVals : List Nat := []
  limitAt : Option Nat := none
  deriving DecidableEq, Repr

/-- The module-bus unit: the four controllers, the epoch of MRAM (R112) and the sequence (R113). -/
structure BusUnit where
  bus : Vector MBus 4 := Vector.replicate 4 {}
  /-- The epoch in MRAM (R112); 0 before the first start of Canopy. -/
  epoch : Nat := 0
  /-- MBn_EPOCH.EPOCH: the epoch of the running Canopy; 0 after a reset until Canopy starts (Table 4.14). -/
  shown : Nat := 0
  /-- SEQ of the group frames released last (R113). -/
  seq : Nat := 0
  deriving DecidableEq, Repr

end Sys2Proof.Machine
end

