-- ==== Sys2Proof/Machine/State/Canopy.lean ====
section
/-! DEFINITION. State of Canopy and its image records (spec/02_canopy_allocation.md R26–R63,
spec/03_canopy_limits_and_faults.md R64–R95), and the two site status registers (spec/01_site_and_partners.md R25). -/

namespace Sys2Proof.Machine

/-- 0x0300 CNP_GLOBAL (spec/02_canopy_allocation.md Table 2.8), with its defaults. -/
structure CnpGlobal where
  wE : Nat := 1
  wK : Nat := 1600
  wB : Nat := 1
  wPrio : Vector Nat 8 := #v[128, 64, 32, 16, 8, 4, 2, 1]
  tol : Nat := 5
  nEng : Nat := 4
  uRel : Nat := 80
  tRel : Nat := 50
  tSel : Nat := 200
  preempt : Bool := true
  preemptHold : Nat := 10
  deriving DecidableEq, Repr

/-- 0x0310 CNP_PORT (Table 2.9). -/
structure CnpPort where
  port : Nat := 0
  prio : Nat := 0
  rampUp : Nat := 1
  rampDn : Nat := 1
  nMin : Nat := 1
  shedRank : Nat := 0
  checkCap : Nat := 50
  deriving DecidableEq, Repr

/-- 0x0320 CNP_MODULE (Table 2.10). -/
structure CnpModule where
  pm : Nat := 0
  buf : Bool := false
  bidir : Bool := false
  serialBind : Bool := false
  mask : Nat := 0
  iRated : Nat := 5
  pRated : Nat := 1
  vMin : Nat := 0
  vMax : Nat := 0
  eta : Nat := 8000
  ramp : Nat := 1
  groupA : Nat := 0xFF
  groupB : Nat := 0xFF
  serial : Nat := 0
  deriving DecidableEq, Repr

/-- 0x0330 CNP_GROUP (Table 2.11). -/
structure CnpGroup where
  group : Nat := 0
  pCap : Nat := 1
  deriving DecidableEq, Repr

/-- 0x0340 CNP_INTAKE (spec/03_canopy_limits_and_faults.md Table 3.3). -/
structure CnpIntake where
  gCapCfg : Nat := 1
  eCap : Nat := 0
  gMargin : Nat := 200
  tauRel : Nat := 50
  lStale : Nat := 0
  measTmo : Nat := 1000
  srcHost : Bool := false
  trim : Bool := false
  trimMax : Nat := 500
  uNom : Nat := 0
  deriving DecidableEq, Repr

/-- 0x0350 CNP_BUFFER (Table 3.4). -/
structure CnpBuffer where
  pChgMax : Nat := 0
  pDisMax : Nat := 0
  socMin : Nat := 0
  socMax : Nat := 1
  socTgt : Nat := 0
  taper : Nat := 500
  socTmo : Nat := 100
  vbModules : Bool := false
  trim : Bool := false
  vCellHi : Nat := 2000
  vCellLo : Nat := 1000
  deriving DecidableEq, Repr

/-- CNP_STAT.MODE (Table 2.14). -/
inductive CnpMode where
  | off | reduced | run | hold | clearing
  deriving DecidableEq, Repr

/-- The code of a mode (Table 2.14). -/
def CnpMode.code : CnpMode → Nat
  | .off => 0 | .reduced => 1 | .run => 2 | .hold => 3 | .clearing => 4

/-- CNP_STAT.RESULT (Table 2.14). -/
inductive CnpResult where
  | optimal | budget | fallback | infeasible
  deriving DecidableEq, Repr

/-- The code of a result (Table 2.14). -/
def CnpResult.code : CnpResult → Nat
  | .optimal => 0 | .budget => 1 | .fallback => 2 | .infeasible => 3

/-- Selection states (Table 2.6, codes of Table 2.22). -/
inductive SelState where
  | free | engaging | engaged | releasing | blocked
  deriving DecidableEq, Repr

/-- The code of a selection state (Table 2.22). -/
def SelState.code : SelState → Nat
  | .free => 0 | .engaging => 1 | .engaged => 2 | .releasing => 3 | .blocked => 4

/-- Canopy's state for one port: the registers of Tables 2.19 to 2.21 and 3.6, and the references of R38, R47, R48,
R59 and R83. Currents are in 0.1 A. -/
structure CnpPortSt where
  dem : Int := 0
  phase : Phase := .off
  bpt : Bool := false
  prio : Nat := 0
  cap : Int := 0
  src : Nat := 0
  alloc : Int := 0
  nmod : Nat := 0
  short : Bool := false
  shed : Bool := false
  hcap : Nat := 0xFFFF
  adv : Int := 0
  lim : Bool := false
  site : Bool := false
  advDis : Int := 0
  /-- ADV_p, ADV_DIS and the current-limit-achieved flag of the tick released last: what the port stack answers
  with (R86). -/
  toldAdv : Int := 0
  toldDis : Int := 0
  toldLim : Bool := false
  /-- I_prev (R38): the allocation last sent. -/
  iPrev : Int := 0
  /-- The reduction of I_prev for lo_p by R83, used in the next bounds, in A. -/
  floorCut : Rat := 0
  /-- cap_nr_p of R85, in A. -/
  capNr : Rat := 0
  /-- Ticks for which the release condition of R47 has held. -/
  relTicks : Nat := 0
  /-- Tick of the last preemption by this port (R48). -/
  preemptAt : Option Nat := none
  /-- The ceiling reference of R83 and the ticks for which it has been in force. -/
  ceilRef : Option Int := none
  ceilTicks : Nat := 0
  /-- I_req of R59. -/
  iReq : Option Int := none
  /-- Ticks for which the soft request of R59 has been in force. -/
  softTicks : Nat := 0
  /-- A demand taken from the journal until the port's stack delivers one (R92). -/
  heldDem : Option Int := none
  /-- V_p of the latest snapshot, in V (spec/18_host_and_discovery.md R482). -/
  snapV : Rat := 0
  deriving DecidableEq, Repr

/-- Canopy's state for one module: CNP_PMn (Table 2.22) and what R43, R82 and R84 keep. Currents are in 0.1 A. -/
structure CnpModSt where
  sp : Int := 0
  sel : Nat := 0xF
  st : SelState := .free
  admitted : Bool := false
  selFail : Nat := 0
  /-- Instant at which the module became ENGAGING (R43). -/
  engagedAt : Nat := 0
  /-- The tick, counted without wrap, whose snapshot confirmed the selection: bounds come from the next one (R43). -/
  engTick : Nat := 0
  /-- The release in progress was chosen by R47. -/
  byRule : Bool := false
  /-- Instant from which status has been free of faults (R84). -/
  okSince : Option Nat := none
  /-- End of a hold under R84. -/
  holdUntil : Nat := 0
  /-- The module was declared lost while BLOCKED (R43). -/
  lost : Bool := false
  /-- The limit imposed by a follow error (R82). -/
  limit : Option Int := none
  followBad : Nat := 0
  followOk : Nat := 0
  /-- Instants at which R82 limited the module (R84). -/
  limitTimes : List Nat := []
  /-- A reported limit is in force (R82). -/
  repLimited : Bool := false
  /-- Setpoint of the last group frame for the module that ended with OK (R105). -/
  okSp : Int := 0
  /-- Selection of that frame: what the module has last been sent (R43). -/
  okSel : Nat := 0xF
  deriving DecidableEq, Repr

/-- CNP_GRPj (Table 2.22). -/
structure CnpGrpSt where
  sum : Int := 0
  active : Bool := false
  deriving DecidableEq, Repr

/-- One module's row of the problem of a tick (Tables 2.3 and 2.4); currents in A, k in kW per A. -/
structure ModRow where
  pm : Nat
  /-- Selected port 0–11, 0xE buffer, 0xF none. -/
  sel : Nat
  /-- Member of E_p (R41). -/
  eng : Bool
  lo : Rat
  hi : Rat
  cap : Rat
  k : Rat
  sPrev : Rat
  /-- The module has bounds of its own: buffer role and not BLOCKED, ENGAGED before this tick, or RELEASING (R43, R49, R77). -/
  ready : Bool
  grpA : Nat
  grpB : Nat
  deriving DecidableEq, Repr

/-- One port's row of the problem of a tick. -/
structure PortRow where
  p : Nat
  phase : Phase
  bpt : Bool
  lo : Rat
  hi : Rat
  /-- hi_p without the ramp term (R45, R77). -/
  hiNr : Rat
  /-- -hi_dis where energy may flow both ways, else 0 (R38, R77). -/
  loMin : Rat
  dem : Rat
  weight : Rat
  prio : Nat
  rank : Nat
  capNr : Rat
  disNr : Rat
  /-- w_k / W, the square of s_p (R42). -/
  dead2 : Rat
  rating : Rat
  src : Nat
  short : Bool
  /-- ENGAGED and RELEASING modules (Table 2.21). -/
  nmod : Nat
  relLo : Bool
  relHi : Bool
  deriving DecidableEq, Repr

/-- The problem of one tick, from the snapshot to the result (R27, R29, Table 2.3). -/
structure TickWork where
  tick : Nat
  mods : List ModRow
  ports : List PortRow
  groups : List (Nat × Rat)
  vB : Rat
  dLo : Rat
  dHi : Rat
  dRef : Rat
  lx : Rat
  gLo : Rat
  /-- G_CAP, absent in an overrun tick (R80). -/
  gHi : Option Rat
  /-- G_CAP in force, kept for the restart of R79. -/
  gCap : Rat
  wE : Rat
  wB : Rat
  tol : Rat
  bufReleased : Bool
  overrun : Bool
  /-- At least one entry was released (R78). -/
  released : Bool
  deriving DecidableEq, Repr

/-- One module's entry of the group frames (R56): setpoint in 0.1 A, selection, admitted. -/
structure GrpEntry where
  pm : Nat
  sp : Int
  sel : Nat
  adm : Bool
  deriving DecidableEq, Repr

/-- What the vehicles are told of a tick (R86): port, ADV_p, ADV_DIS, current-limit-achieved. -/
structure Told where
  p : Nat
  adv : Int
  advDis : Int
  lim : Bool
  deriving DecidableEq, Repr

/-- The result of a tick as it is sent (R29): entries, each port's rounded allocation in 0.1 A, and what its vehicles are told. -/
structure TickResult where
  tick : Nat
  entries : List GrpEntry
  alloc : List (Nat × Int)
  told : List Told
  deriving DecidableEq, Repr

/-- One journal entry (R91). -/
structure JEntry where
  tick : Nat := 0
  mode : CnpMode := .off
  /-- Setpoint, selection, state, and the serial number while admitted (R91). -/
  mods : List (Int × Nat × SelState × Option Nat) := []
  ports : List (Phase × Int × Int × Rat × Int) := []
  u : Rat := 0
  tau : Rat := 0
  tauB : Rat := 0
  soc : Nat := 0
  deriving DecidableEq, Repr

/-- Canopy (R63, R95 and the state their rules name). Reset values are those of Tables 2.13 to 2.22 and 3.6. -/
structure Canopy where
  /-- Canopy has been started by the first leaf or by a takeover. -/
  started : Bool := false
  mode : CnpMode := .off
  result : CnpResult := .optimal
  /-- CNP_CTRL.FREEZE as written, and the value that the last snapshot latched (R27, R63). -/
  freeze : Bool := false
  frozen : Bool := false
  tick : Nat := 0
  /-- Ticks run since Canopy started, without wrap, for the holds counted in ticks. -/
  ticks : Nat := 0
  timeLast : Nat := 0
  timeMax : Nat := 0
  cntBudget : Nat := 0
  cntInfeas : Nat := 0
  importW : Int := 0
  dispatch : Int := 0
  ports : Vector CnpPortSt 12 := Vector.replicate 12 {}
  mods : Vector CnpModSt 256 := Vector.replicate 256 {}
  grps : Vector CnpGrpSt 64 := Vector.replicate 64 {}
  gcapHost : Nat := 0xFFFFFFFF
  gcapEff : Nat := 0
  /-- L_x in force (R66), in kW; CNP_LX shows it in 0.1 kW. -/
  lx : Rat := 0
  pmeasHost : Int := 0
  bufSocW : Nat := 0
  bufRef : Int := 0
  /-- S in use (R71), in 0.01 %. -/
  soc : Nat := 0
  /-- Instant of the last CNP_BUF_SOC write; before the first, of Canopy's start or takeover (R71, R92). -/
  socAt : Nat := 0
  socStale : Bool := false
  /-- V_B (R70), in V. -/
  vB : Rat := 0
  vbInvalid : Bool := false
  chgBlk : Bool := false
  disBlk : Bool := false
  /-- Ports released in the last tick (CNP_SHED), and in the tick before it (R78). -/
  shedPorts : Nat := 0
  shedLast : Nat := 0
  shedBuf : Bool := false
  overrun : Bool := false
  cert : Bool := false
  lossPm : Nat := 0
  lossPort : Nat := 0xF
  lossKind : Nat := 0
  lossCount : Nat := 0
  /-- The uncommanded-load estimate U (R66), in kW. -/
  u : Rat := 0
  /-- The trim τ and τ_b (R66, R73): values of loops 63 and 62. -/
  tau : Rat := 0
  tauB : Rat := 0
  /-- Instant of the last valid intake measurement, or of Canopy's start before the first (R68). -/
  measAt : Nat := 0
  measStale : Bool := false
  /-- P_meas in kW and the samples of the last second for the process value of R67. -/
  pMeas : Rat := 0
  pMeasLog : List (Nat × Rat) := []
  /-- The site limit of the active OCPP ChargingStationMaxProfile, in kW (R64). -/
  stationMax : Option Rat := none
  /-- A certificate carries the releases into the next tick (R79). -/
  certCarry : Bool := false
  work : Option TickWork := none
  /-- Instant at which the solve of `work` began. -/
  workAt : Nat := 0
  ready : Option TickResult := none
  sent : Option TickResult := none
  /-- The rest of the image has been applied; RUN begins at the next tick (R89). -/
  restIn : Bool := false
  /-- The journal entry restored at a takeover, with the instant of its stamp (R92, R93). -/
  restore : Option (JEntry × Nat) := none
  /-- The image's rest was refused: every port ramps down (R90). -/
  rampDown : Bool := false
  deriving DecidableEq, Repr

/-- SYS_SITE0 and SYS_SITE1 (spec/01_site_and_partners.md Tables 1.3 and 1.4). -/
structure SiteRegs where
  pmAdmit : Nat := 0
  lacNodes : Nat := 0
  bufPm : Nat := 0
  vehMask : Nat := 0
  brmPartners : Nat := 0
  peer : Bool := false
  intakeSrc : Bool := false
  deriving DecidableEq, Repr

end Sys2Proof.Machine
end

