-- ==== Sys2Proof/Machine/CanopyCore.lean ====
section
/-! DEFINITION. Canopy's computation over one snapshot: site model, bounds, selection, floor check, problem, residuals,
rounding, repair and advertised limits (spec/02_canopy_allocation.md R26–R61, spec/03_canopy_limits_and_faults.md
R64–R90). Currents of the problem are in A and powers in kW, exact rationals; setpoints and allocations in 0.1 A. -/

namespace Sys2Proof.Machine

/-- What the snapshot latches of one port (R27, R38, R40). -/
structure PortIn where
  cfg : Option CnpPort
  phase : Phase
  bpt : Bool
  /-- D_p in A (R40). -/
  dem : Rat
  /-- Port voltage in V. -/
  v : Rat
  rating : Rat
  vehMax : Option Rat
  disMax : Option Rat
  tcap : Option Rat
  profile : Option Rat
  degCap : Option Rat
  deriving DecidableEq, Repr

/-- What the snapshot latches of one module (R27). -/
structure ModIn where
  cfg : Option CnpModule
  admitted : Bool
  /-- Admitted since the last tick (R21). -/
  arrive : Bool
  /-- Declared lost, or lost since the last tick and admitted again (R22). -/
  lost : Bool
  status : Option ModStatus
  deriving DecidableEq, Repr

/-- The snapshot of a tick (R27). -/
structure CnpIn where
  now : Nat
  ports : List PortIn
  mods : List ModIn
  clearing : Bool
  /-- A soft request of Gaiter, or the ramp-down of R90, is in force (R59). -/
  soft : Bool
  glob : CnpGlobal
  intake : CnpIntake
  buffer : Option CnpBuffer
  groups : List CnpGroup
  /-- G_CAP in kW (R64). -/
  gcap : Rat
  /-- CNP_PORT records in force (R88). -/
  nCfg : Nat
  /-- Mean string voltage of the admitted strings over their latest complete sweeps, in V, and whether one of them completed
  within 1 s (R70). -/
  vbLac : Option Rat
  vbFresh : Bool
  /-- Highest and lowest cell of the latest sweeps, in mV (R72). -/
  cells : Option (Nat × Nat)
  tau : Rat
  tauB : Rat
  deriving DecidableEq, Repr

/-- A point of the solver with its multipliers (R50). Absent entries are 0. -/
structure SolvePoint where
  mods : List (Nat × Rat) := []
  ports : List (Nat × Rat) := []
  d : Rat := 0
  g : Rat := 0
  boxM : List (Nat × Rat) := []
  balP : List (Nat × Rat) := []
  boxP : List (Nat × Rat) := []
  balD : Rat := 0
  boxD : Rat := 0
  balG : Rat := 0
  boxG : Rat := 0
  grp : List (Nat × Rat) := []
  deriving DecidableEq, Repr

/-- How the solver stopped (R50): at a point within tolerance, or with a certificate of infeasibility. -/
inductive SolveEnd where
  | optimum (x : SolvePoint)
  | certificate (x : SolvePoint)
  deriving DecidableEq, Repr

/-- The value of an index in a sparse list, 0 where absent. -/
def qAt (xs : List (Nat × Rat)) (i : Nat) : Rat := ((xs.find? (fun e => e.1 == i)).map (·.2)).getD 0

/-- Round down to a multiple of 0.5. -/
def floorHalf (q : Rat) : Rat := ((q * 2).floor : Rat) / 2
/-- Round up to a multiple of 0.5. -/
def ceilHalf (q : Rat) : Rat := -(floorHalf (-q))
/-- Round towards zero to a multiple of 0.5. -/
def truncHalf (q : Rat) : Rat := (truncQ (q * 2) : Rat) / 2
/-- The nearest multiple of 0.5; exact quarters go towards zero (R53). -/
def nearHalf (q : Rat) : Rat :=
  if 0 ≤ q then -(((1 / 2 - q * 2).floor : Rat) / 2) else ((1 / 2 + q * 2).floor : Rat) / 2

/-- 0.1 A to A. -/
def amps (i : Int) : Rat := (i : Rat) / 10
/-- A to 0.1 A, rounded to the nearest. -/
def deci (q : Rat) : Int := roundHalfAway (q * 10)

/-- Number of ports in a mask. -/
def reach (m : Nat) : Nat := (bitsOf 12 m).length

/-- cap_m before any limit of R82 (R32). -/
def capBase (m : CnpModule) (v : Rat) : Rat :=
  let i := (m.iRated : Rat) / 10
  floorHalf (if v < 1 then i else min i (1000 * ((m.pRated : Rat) / 10) / v))

/-- The limit a status reports, in A, none for 0xFFFF (R82, spec/04_module_bus.md Table 4.8). -/
def repLimit (st : Option ModStatus) : Option Rat :=
  st.bind (fun t => if t.iAvail == 0xFFFF then none else some ((t.iAvail : Rat) / 10))

/-- cap_m with the limits of R82. -/
def capOf (m : CnpModule) (v : Rat) (st : Option ModStatus) (lim : Option Int) : Rat :=
  let c := capBase m v
  let c := match repLimit st with
    | some l => if l < c then floorHalf l else c
    | none => c
  match lim with
  | some l => min c (floorHalf (max 0 (amps l)))
  | none => c

/-- R34: the voltage lies in the module's range. -/
def inRange (m : CnpModule) (v : Rat) : Bool := decide ((m.vMin : Rat) ≤ v) && decide (v ≤ (m.vMax : Rat))

/-- k_m of R33 for a port module. -/
def kPort (m : CnpModule) (v : Rat) : Rat := v / (1000 * ((m.eta : Rat) / 10000))
/-- k_m of R33 for a buffer-role module with previous setpoint `sp`. -/
def kBuf (m : CnpModule) (v : Rat) (sp : Int) : Rat :=
  if 0 < sp then v / (1000 * ((m.eta : Rat) / 10000)) else v * ((m.eta : Rat) / 10000) / 1000

/-- The snapshot of module `n`. -/
def CnpIn.mod (i : CnpIn) (n : Nat) : ModIn := i.mods.getD n ⟨none, false, false, false, none⟩
/-- The snapshot of port `p`. -/
def CnpIn.port (i : CnpIn) (p : Nat) : PortIn :=
  i.ports.getD p ⟨none, .off, false, 0, 0, 0, none, none, none, none, none⟩

/-- Canopy's record of module `n`. -/
def Canopy.mod (c : Canopy) (n : Nat) : CnpModSt := atD c.mods n {}
/-- Canopy's record of port `p`. -/
def Canopy.port (c : Canopy) (p : Nat) : CnpPortSt := atD c.ports p {}
/-- Change Canopy's record of module `n`. -/
def Canopy.setMod (c : Canopy) (n : Nat) (f : CnpModSt → CnpModSt) : Canopy := { c with mods := updN c.mods n f }
/-- Change Canopy's record of port `p`. -/
def Canopy.setPort (c : Canopy) (p : Nat) (f : CnpPortSt → CnpPortSt) : Canopy := { c with ports := updN c.ports p f }

/-- The modules of the model in rising number: admitted, with a record (R30). -/
def CnpIn.model (i : CnpIn) (c : Canopy) : List Nat :=
  (List.range 256).filter (fun n => (c.mod n).admitted && (i.mod n).cfg.isSome)

/-- The record of module `n`. -/
def CnpIn.mcfg (i : CnpIn) (n : Nat) : CnpModule := (i.mod n).cfg.getD {}

/-- The voltage module `n` feeds, by its selection (R32). -/
def CnpIn.vOf (i : CnpIn) (c : Canopy) (n : Nat) : Rat :=
  if (i.mcfg n).buf then c.vB else (i.port (c.mod n).sel).v

/-- cap_m of module `n` at voltage `v`. -/
def CnpIn.capAt (i : CnpIn) (c : Canopy) (n : Nat) (v : Rat) : Rat :=
  capOf (i.mcfg n) v (i.mod n).status (c.mod n).limit

/-- k_m of module `n` (R33). A module that feeds nothing has no voltage and counts 0. -/
def CnpIn.kOf (i : CnpIn) (c : Canopy) (n : Nat) : Rat :=
  let m := i.mcfg n
  if m.buf then kBuf m c.vB (c.mod n).sp
  else if (c.mod n).sel < 12 then kPort m (i.port (c.mod n).sel).v else 0

/-- P_model of R66: the sum of k_m times the last reported current. -/
def CnpIn.pModel (i : CnpIn) (c : Canopy) : Rat :=
  sumQ ((i.model c).map (fun n => i.kOf c n * amps (((i.mod n).status.map (·.iRep)).getD 0)))

/-! ### Site model (R21, R22, R81 to R84) -/

/-- Record an entry in CNP_LOSS (R84). -/
def Canopy.loss (c : Canopy) (n kind : Nat) : Canopy :=
  { c with lossPm := n, lossPort := (c.mod n).sel, lossKind := kind, lossCount := satInc 16 c.lossCount }

/-- R83: module `n` loses `a` amperes of its previous setpoint: both references of its port change. -/
def Canopy.lossRefs (c : Canopy) (n : Nat) (a : Rat) : Canopy :=
  let p := (c.mod n).sel
  if p < 12 && decide (a ≠ 0) then
    c.setPort p (fun q => { q with floorCut := q.floorCut + a, ceilRef := some q.iPrev, ceilTicks := 0 })
  else c

/-- Place module `n` in BLOCKED (R43, R81): kind 0 lost, 1 fault or inhibit; R84's hold keeps the kind of the limit. A
buffer-role module stays selected to the buffer (R44). No rule gives a port module's selection while it is BLOCKED outside Clearing:
DESIGN CHOICE, none. -/
def Canopy.block (c : Canopy) (n : Nat) (kind : Nat) (lost : Bool) (hold : Nat) (buf : Bool) : Canopy :=
  let c := (c.loss n kind).lossRefs n (amps (c.mod n).sp)
  c.setMod n (fun m => { m with
    st := .blocked, sel := if buf then 0xE else 0xF, okSince := none, lost := lost, holdUntil := hold,
    byRule := false, limitTimes := if hold = 0 then m.limitTimes else [] })

/-- A status with a fault and its output off, or an inhibit outside Clearing (R81). -/
def statusFaulty (clearing : Bool) (st : Option ModStatus) : Bool :=
  match st with
  | some t => (t.fault && t.outOff) || (t.inhibit && !clearing)
  | none => false

/-- The instants of the last 60 s (R84). -/
def lastMinute (now : Nat) (ts : List Nat) : List Nat := ts.filter (fun t => decide (now < t + 60000000))

/-- A module declared lost leaves the model (R22): it is BLOCKED at the tick, and no longer admitted. -/
def loseMod (buf : Bool) (c : Canopy) (n : Nat) : Canopy :=
  let m := c.mod n
  let c := if m.st = .blocked then c.setMod n (fun m => { m with lost := true }) else
    if m.admitted then c.block n 0 true 0 buf else c
  c.setMod n (fun m => { m with admitted := false })

/-- A new arrival (R22, R84): FREE at 0 A with nothing kept of an earlier stay but the count of selection timeouts. -/
def arriveMod (buf : Bool) (m : CnpModSt) : CnpModSt :=
  { admitted := true, sel := if buf then 0xE else 0xF, selFail := m.selFail }

/-- Faults, inhibit and limits of an admitted module that is not BLOCKED (R81 to R84). -/
def judgeMod (i : CnpIn) (c : Canopy) (n : Nat) : Canopy :=
  let st := (i.mod n).status
  let cfg := i.mcfg n
  if statusFaulty i.clearing st then c.block n 1 false 0 cfg.buf
  else
    -- a reported limit below cap_m (R82)
    let base := capBase cfg (i.vOf c n)
    let lim := match repLimit st with
      | some l => decide (l < base)
      | none => false
    let c := if lim && !(c.mod n).repLimited then
        (c.loss n 2).setMod n (fun m => { m with repLimited := true, limitTimes := lastMinute i.now m.limitTimes ++ [i.now] })
      else c.setMod n (fun m => { m with repLimited := lim })
    if 3 ≤ (lastMinute i.now (c.mod n).limitTimes).length then
      c.block n (if lim then 2 else 3) false (i.now + 60000000) cfg.buf
    else
      let cap := i.capAt c n (i.vOf c n)
      let sp := amps (c.mod n).sp
      if cap < base ∧ cap < sp then c.lossRefs n (sp - cap) else c

/-- The site model change of one module at the start of a tick (R21, R22, R43, R81, R82, R84): a loss first, then an arrival. -/
def siteMod (i : CnpIn) (c : Canopy) (n : Nat) : Canopy :=
  let mi := i.mod n
  let buf := (i.mcfg n).buf
  let c := if mi.lost then loseMod buf c n else c
  if mi.admitted = false then c
  else
    let c := c.setMod n (fun m => if mi.arrive then arriveMod buf m else { m with admitted := true, sel := if buf then 0xE else m.sel })
    if (c.mod n).st = .blocked then c else judgeMod i c n

/-- The site model changes of a tick (R21), all modules in rising number. -/
def siteStep (i : CnpIn) (c : Canopy) : Canopy := (List.range 256).foldl (siteMod i) c

/-! ### Buffer (R70 to R73) -/

/-- The buffer-role modules of the model. -/
def bufMods (i : CnpIn) (c : Canopy) : List Nat := (i.model c).filter (fun n => (i.mcfg n).buf)

/-- The mean that R70 makes V_B, and whether its source is recent enough: none while the source has given nothing. -/
def bufVoltage (i : CnpIn) (c : Canopy) (b : CnpBuffer) : Option Rat × Bool :=
  if b.vbModules then
    let rs := (bufMods i c).filterMap (fun n => (i.mod n).status)
    (if rs.isEmpty then none else some (sumQ (rs.map (fun t => (t.vOut : Rat) / 10)) / (rs.length : Rat)),
     rs.any (fun t => decide (i.now ≤ t.at_ + 50000)))
  else (i.vbLac, i.vbFresh)

/-- V_B, the cell blocks and their flags at a snapshot (R70, R72). No rule says which V_B is shown and enters cap_m and k_m while
it is invalid: DESIGN CHOICE, the mean of the source as it stands, and the last one while the source gives none. -/
def bufStep (i : CnpIn) (c : Canopy) : Canopy :=
  match i.buffer with
  | none => { c with vbInvalid := false, chgBlk := false, disBlk := false }
  | some b =>
    let (v, fresh) := bufVoltage i c b
    let ok : Bool := match v with
      | some x => fresh && decide (1 ≤ x) && decide (x ≤ 1250)
      | none => false
    let (chg, dis) := match i.cells with
      | none => (c.chgBlk, c.disBlk)
      | some (hi, lo) =>
        (if b.vCellHi * 10 ≤ hi then true else if hi < (b.vCellHi - 20) * 10 then false else c.chgBlk,
         if lo ≤ b.vCellLo * 10 then true else if (b.vCellLo + 20) * 10 < lo then false else c.disBlk)
    { c with vB := v.getD c.vB, vbInvalid := !ok, chgBlk := chg, disBlk := dis }

/-- The factor min(1, max(0, x / T)) of R71; with T = 0, 1 inside the window and 0 at or beyond its edge. -/
def taperFactor (x t : Int) : Rat :=
  if t = 0 then (if 0 < x then 1 else 0) else clampQ 0 1 ((x : Rat) / (t : Rat))

/-- P_CHG and P_DIS in kW (R70 to R72, R74, R88). -/
def bufPower (i : CnpIn) (c : Canopy) : Rat × Rat :=
  match i.buffer with
  | none => (0, 0)
  | some b =>
    if (bufMods i c).isEmpty || c.vbInvalid || c.socStale || decide (c.mode = .reduced) then (0, 0)
    else
      let chg := ((b.pChgMax : Rat) / 10) * taperFactor ((b.socMax : Int) - c.soc) b.taper
      let dis := ((b.pDisMax : Rat) / 10) * taperFactor ((c.soc : Int) - b.socMin) b.taper
      (if c.chgBlk then 0 else chg, if c.disBlk then 0 else dis)

/-- d_ref of R73. -/
def bufRefOf (i : CnpIn) (c : Canopy) : Rat :=
  let (chg, dis) := bufPower i c
  let r := (c.bufRef : Rat) / 10
  let r := match i.buffer with
    | some b => if b.trim then r + c.tauB else r
    | none => r
  clampQ (-chg) dis r

/-! ### Port limits (R38, R59, R88) -/

/-- S_red of R88 in kW. -/
def sRed (i : CnpIn) : Rat :=
  if i.nCfg = 0 then 0 else max 0 (((i.intake.gCapCfg : Rat) - i.intake.lStale) / 10) / (i.nCfg : Rat)

/-- The reduced-service cap of R88 in A. -/
def reducedCap (i : CnpIn) (q : PortIn) : Rat :=
  let s := sRed i
  if s = 0 then 0 else if q.v < 1 then q.rating / 4 else max 0 (min (q.rating / 4) (1000 * s / q.v))

/-- The limits of Table 2.5 that apply to a port in its phase, without ramp, check cap and zero: number of the bit
and value in A. `veh` is the vehicle's limit of the direction in question. -/
def portLimits (i : CnpIn) (c : Canopy) (p : Nat) (q : PortIn) (veh : Option Rat) : List (Nat × Rat) :=
  let ps := c.port p
  let en := q.phase = .energy
  [(0, q.rating)]
    ++ (match veh with | some x => if en ∨ q.phase = .stopping then [(1, x)] else [] | none => [])
    ++ (match q.tcap with | some x => [(2, x)] | none => [])
    ++ (match q.profile with | some x => if en then [(3, x)] else [] | none => [])
    ++ (if ps.hcap = 0xFFFF then [] else [(4, (ps.hcap : Rat) / 10)])
    ++ (match q.degCap with | some x => [(5, x)] | none => [])
    ++ (if c.mode = .reduced then [(6, reducedCap i q)] else [])

/-- The smallest value of a list of limits (0 of an empty list). -/
def minLimit : List (Nat × Rat) → Rat
  | [] => 0
  | (_, x) :: xs => xs.foldl (fun a e => min a e.2) x

/-- The length of a tick in s, 0 while FREEZE holds every setpoint (R63). No rule says which governs when FREEZE meets a soft
request for Clearing: DESIGN CHOICE, FREEZE holds the setpoints there too; the contactors open as Gaiter's rules say. -/
def dTick (c : Canopy) : Rat := if c.frozen then 0 else 1 / 500

/-- The demand that enters the tick (R39, R40, R59): 0 in STOPPING, and 0 in a soft request, where every port has to reach 0 A
(DEDUCED: R59 names the descent and no demand). -/
def demandOf (i : CnpIn) (c : Canopy) (p : Nat) (q : PortIn) : Rat :=
  if q.phase = .stopping || q.phase = .off || i.soft then 0
  else match (c.port p).heldDem with
    | some d => amps d
    | none => q.dem

/-- |I_req| of R59 in A: the magnitude of the allocation when the soft request was latched. -/
def softStart (c : Canopy) (p : Nat) : Rat := absQ (amps ((c.port p).iReq.getD (c.port p).iPrev))

/-- The line of R59 from |I_req| to 0 A in 45 ticks (90 ms), at the tick that the snapshot begins. The bounds keep to it although
each is rounded to 0.5 A, since every port reaches 0 A within 90 ms (DEDUCED). -/
def softLine (c : Canopy) (p : Nat) : Rat := softStart c p * max 0 (1 - dTick c * 500 * ((c.port p).softTicks : Rat) / 45)

/-- The current of a port's lower bound before its limits (R38, R59, R83): I_prev less the fall of one tick. -/
def floorRef (i : CnpIn) (c : Canopy) (p : Nat) (k : CnpPort) : Rat :=
  let ps := c.port p
  let prev := amps ps.iPrev - ps.floorCut
  if i.soft && !c.frozen then min (prev - softStart c p / (9 / 100) * dTick c) (softLine c p) else prev - (k.rampDn : Rat) * dTick c

/-- The ramp limit of a port (Table 2.5, R83); a port that gives back energy rises to 0 A with the descent of R59. -/
def ceilOf (i : CnpIn) (c : Canopy) (p : Nat) (k : CnpPort) : Rat :=
  let ps := c.port p
  let up := amps (ps.ceilRef.getD ps.iPrev) + (k.rampUp : Rat) * dTick c
  if i.soft && decide (ps.iPrev < 0) then max up (-(softLine c p)) else up

/-- The row of port `p` (R38, R40, R41, R42, Table 2.5). Whether a limit 'equals hi_p' for CNP_PORTn_CAP.SRC is judged before
hi_p is rounded to 0.5 A (DESIGN CHOICE: R63 does not say). -/
def portRow (i : CnpIn) (c : Canopy) (p : Nat) : PortRow :=
  let q := i.port p
  match q.cfg with
  | none =>
    { p := p, phase := q.phase, bpt := q.bpt, lo := 0, hi := 0, hiNr := 0, loMin := 0, dem := demandOf i c p q,
      weight := 0, prio := 7, rank := 11, capNr := 0, disNr := 0, dead2 := 0, rating := q.rating, src := 0,
      short := false, nmod := 0, relLo := false, relHi := false }
  | some k =>
    let w : Rat := (atD i.glob.wPrio k.prio 1 : Nat)
    let lims := portLimits i c p q q.vehMax
    let checking : Bool := q.phase = .check || q.phase = .precharge
    let chk : Rat := (k.checkCap : Rat) / 10
    let base := if checking then min chk (minLimit lims) else if q.phase = .off then 0 else minLimit lims
    let ramp := ceilOf i c p k
    let raw := if q.phase = .energy then min base ramp else base
    let hi := floorHalf raw
    let dis := if q.bpt then
        (let m := minLimit (portLimits i c p q q.disMax)
         if checking then min chk m else if q.phase = .off then 0 else m) else 0
    let fall := floorRef i c p k
    let lo := ceilHalf (if q.bpt then max (-dis) fall else max 0 fall)
    let src := maskOf 8 (fun b =>
      (lims.any (fun e => e.1 == b && decide (e.2 = raw))) || (b == 7 && q.phase = .energy && decide (ramp = raw)))
    { p := p, phase := q.phase, bpt := q.bpt, lo := min lo hi, hi := hi, hiNr := floorHalf base, loMin := -(floorHalf dis),
      dem := demandOf i c p q, weight := w, prio := k.prio, rank := k.shedRank,
      capNr := if checking then chk else minLimit lims,
      disNr := if q.bpt then (if checking then chk else minLimit (portLimits i c p q q.disMax)) else 0,
      dead2 := (i.glob.wK : Rat) / w, rating := q.rating, src := src, short := false, nmod := 0, relLo := false, relHi := false }

/-! ### Selection (R43 to R49) -/

/-- Modules of the model in selection state `st` on port `p`. -/
def modsOn (i : CnpIn) (c : Canopy) (p : Nat) (f : SelState → Bool) : List Nat :=
  (i.model c).filter (fun n => f (c.mod n).st && (c.mod n).sel == p && !(i.mcfg n).buf)

/-- The transitions of Table 2.6 that the snapshot causes in one module. -/
def selMod (i : CnpIn) (c : Canopy) (n : Nat) : Canopy :=
  let m := c.mod n
  let q := i.port m.sel
  let idle : Bool := q.phase = .stopping || q.phase = .off
  let st := (i.mod n).status
  match m.st with
  | .engaging =>
    if idle then c.setMod n (fun m => { m with st := .free, sel := 0xF })
    else match st with
      | some t => if t.closed && t.sel == m.sel then c.setMod n (fun m => { m with st := .engaged, engTick := c.ticks }) else c
      | none => c
  | .engaged =>
    if idle || !(inRange (i.mcfg n) q.v) then c.setMod n (fun m => { m with st := .releasing, byRule := false }) else c
  | .releasing =>
    match st with
    | some t => if m.sp = 0 ∧ t.iRep = 0 then c.setMod n (fun m => { m with st := .free, sel := 0xF, byRule := false }) else c
    | none => c
  | _ => c

/-- H_p of R45: capacity of the ENGAGED and ENGAGING modules of port `p`. -/
def holdOf (i : CnpIn) (c : Canopy) (p : Nat) : Rat :=
  sumQ ((modsOn i c p (fun s => s = .engaged || s = .engaging)).map (fun n => i.capAt c n (i.port p).v))

/-- Number of ENGAGED and ENGAGING modules of port `p`. -/
def countOf (i : CnpIn) (c : Canopy) (p : Nat) : Nat :=
  (modsOn i c p (fun s => s = .engaged || s = .engaging)).length

/-- E_p of R45. -/
def needOf (r : PortRow) : Rat := min (absQ r.dem) (absQ r.hiNr)

/-- E_p − H_p > s_p (R42, R45), judged on squares. -/
def isShort (r : PortRow) (h : Rat) : Bool :=
  let x := needOf r - h
  decide (0 < x) && decide (r.dead2 < x * x)

/-- A module may change its selected port (R16): setpoint and last reported current are 0 A; what has never reported feeds
nothing. -/
def idleMod (i : CnpIn) (c : Canopy) (n : Nat) : Bool :=
  (c.mod n).sp == 0 && (((i.mod n).status.map (·.iRep)).getD 0) == 0

/-- The candidates of port `p` in the order of R46: a module that has become FREE is first sent selection none (R43). -/
def candidates (i : CnpIn) (c : Canopy) (p : Nat) : List Nat :=
  let q := i.port p
  sortBy (fun n => reach (i.mcfg n).mask)
    ((i.model c).filter (fun n =>
      let m := i.mcfg n
      (c.mod n).st = .free && (c.mod n).okSel == 0xF && idleMod i c n && !m.buf && bitOf p m.mask && inRange m q.v && (!q.bpt || m.bidir)))

/-- Engage FREE modules to port `p` until H_p ≥ E_p and the count reaches N_MIN, at most `k` of them (R45). -/
def engage (i : CnpIn) (r : PortRow) (nMin : Nat) : Nat → Canopy → Canopy
  | 0, c => c
  | k + 1, c =>
    if decide (needOf r ≤ holdOf i c r.p) && decide (nMin ≤ countOf i c r.p) then c
    else match candidates i c r.p with
      | [] => c
      | n :: _ =>
        engage i r nMin k (c.setMod n (fun m => { m with st := .engaging, sel := r.p, engagedAt := i.now, byRule := false }))

/-- Ports with a record, in priority order, then rising number (R45). -/
def portOrder (rs : List PortRow) : List PortRow := sortBy (fun r => r.prio * 16 + r.p) rs

/-- Engagement of one port (R45). -/
def engagePort (i : CnpIn) (c : Canopy) (r : PortRow) : Canopy :=
  match (i.port r.p).cfg with
  | none => c
  | some k =>
    let act : Bool := r.phase = .check || r.phase = .precharge || r.phase = .energy
    if isShort r (holdOf i c r.p) || (act && decide (countOf i c r.p < k.nMin)) then engage i r k.nMin i.glob.nEng c else c

/-- The ENGAGED module R47 would release: most reachable ports first, then the highest number. -/
def releaseChoice (i : CnpIn) (c : Canopy) (p : Nat) (ok : Nat → Bool) : Option Nat :=
  let xs := (modsOn i c p (fun s => s = .engaged)).filter ok
  xs.foldl (fun best n => match best with
    | none => some n
    | some b => if reach (i.mcfg b).mask ≤ reach (i.mcfg n).mask then some n else some b) none

/-- The release condition of R47 holds for port `p`. -/
def releaseCond (i : CnpIn) (c : Canopy) (r : PortRow) : Bool :=
  match releaseChoice i c r.p (fun _ => true) with
  | none => false
  | some x => decide (needOf r ≤ (holdOf i c r.p - i.capAt c x (i.port r.p).v) * (i.glob.uRel : Rat) / 100)

/-- Count the ticks for which R47's condition has held. -/
def releaseCount (i : CnpIn) (c : Canopy) (r : PortRow) : Canopy :=
  c.setPort r.p (fun q => { q with relTicks := if releaseCond i c r then q.relTicks + 1 else 0 })

/-- Preemption for port `r.p` (R48). -/
def preempt (i : CnpIn) (rs : List PortRow) (c : Canopy) (r : PortRow) : Canopy :=
  let free : Bool := match (c.port r.p).preemptAt with
    | some t => decide (t + 5 * i.glob.preemptHold ≤ c.ticks)
    | none => true
  if i.glob.preempt && free && (i.port r.p).cfg.isSome && isShort r (holdOf i c r.p) && (candidates i c r.p).isEmpty then
    let ok (n : Nat) : Bool := bitOf r.p (i.mcfg n).mask && inRange (i.mcfg n) (i.port r.p).v
    let qs := (portOrder rs).filter (fun q => decide (r.prio < q.prio) && (releaseChoice i c q.p ok).isSome)
    match qs.getLast? with
    | none => c
    | some q =>
      match releaseChoice i c q.p ok with
      | none => c
      | some n =>
        (c.setMod n (fun m => { m with st := .releasing, byRule := false })).setPort r.p
          (fun x => { x with preemptAt := some c.ticks })
  else c

/-- The selection step of a tick (R42 to R49). -/
def selectStep (i : CnpIn) (rs : List PortRow) (c : Canopy) : Canopy :=
  let c := (i.model c).foldl (selMod i) c
  let ord := portOrder rs
  let c := ord.foldl (engagePort i) c
  let c := ord.foldl (releaseCount i) c
  ord.foldl (preempt i rs) c

/-! ### The problem (R35 to R37) -/

/-- The bounds of an ENGAGED module before rounding (Table 2.4). In a soft request its ramp does not slow the descent to 0 A (R59). -/
def engagedBounds (soft both : Bool) (s ramp cap : Rat) : Rat × Rat :=
  let least : Rat := if both then -cap else 0
  if soft then (max least (min 0 (s - ramp)), min cap (max (s + ramp) 0)) else (max least (s - ramp), min cap (s + ramp))

/-- Bounds of a module (Table 2.4, R37, R43, R59, R63): a module confirmed in this tick has none yet; FREEZE holds the setpoint of a
RELEASING module too. -/
def modBounds (i : CnpIn) (c : Canopy) (n : Nat) (cap : Rat) : Rat × Rat :=
  let m := i.mcfg n
  let s := amps (c.mod n).sp
  let ramp : Rat := (m.ramp : Rat) * dTick c
  let (lo, hi) :=
    if m.buf && (c.mod n).st != .blocked then engagedBounds false true s ramp cap
    else match (c.mod n).st with
      | .engaged =>
        if (c.mod n).engTick = c.ticks then (0, 0) else engagedBounds (i.soft && !c.frozen) (i.port (c.mod n).sel).bpt s ramp cap
      | .releasing => (if c.frozen then max 0 s else 0, max 0 (s - ramp))
      | _ => (0, 0)
  let hi := floorHalf hi
  let lo := ceilHalf lo
  (min lo hi, hi)

/-- Module `n` has bounds of its own in this tick (R43, R44, R49). -/
def readyMod (i : CnpIn) (c : Canopy) (n : Nat) : Bool :=
  let m := c.mod n
  if (i.mcfg n).buf then m.st != .blocked else m.st == .releasing || (m.st == .engaged && m.engTick != c.ticks)

/-- The row of module `n`. -/
def modRow (i : CnpIn) (c : Canopy) (n : Nat) : ModRow :=
  let m := i.mcfg n
  let cap := i.capAt c n (i.vOf c n)
  let (lo, hi) := modBounds i c n cap
  { pm := n, sel := (c.mod n).sel, eng := (c.mod n).st = .engaged && !m.buf, lo := lo, hi := hi, cap := cap,
    k := i.kOf c n, sPrev := amps (c.mod n).sp, ready := readyMod i c n, grpA := m.groupA, grpB := m.groupB }

/-- The rows selected to port `p`. -/
def rowsOf (ms : List ModRow) (p : Nat) : List ModRow := ms.filter (fun m => m.sel == p)
/-- The rows of the buffer. -/
def rowsBuf (ms : List ModRow) : List ModRow := ms.filter (fun m => m.sel == 0xE)
/-- The rows of cabinet group `j` (R36). -/
def rowsGrp (ms : List ModRow) (j : Nat) : List ModRow := ms.filter (fun m => m.grpA == j || m.grpB == j)
/-- Σ f over rows. -/
def sumRows (ms : List ModRow) (f : ModRow → Rat) : Rat := sumQ (ms.map f)

/-- κ_p of R75 for a term of the given sign. -/
def kappa (ms : List ModRow) (term : Rat) : Rat :=
  match ms.map (·.k) with
  | [] => 0
  | k :: ks => if 0 < term then ks.foldl min k else ks.foldl max k

/-- The outcome of the floor check (R75): ports that fail condition 1, and whether the import and the export side fail. -/
structure FloorCheck where
  c1 : List Nat
  imp : Bool
  exp : Bool
  deriving DecidableEq, Repr

/-- The floor check of R75. -/
def floorCheck (w : TickWork) : FloorCheck :=
  let f (r : PortRow) := max r.lo (sumRows (rowsOf w.mods r.p) (·.lo))
  let cp (r : PortRow) := min r.hi (sumRows (rowsOf w.mods r.p) (·.hi))
  let term (g : PortRow → Rat) (r : PortRow) := kappa (rowsOf w.mods r.p) (g r) * g r
  let buf := rowsBuf w.mods
  let c1 := (w.ports.filter (fun r => decide (cp r < f r))).map (·.p)
  let c2 : Bool := decide (w.lx + sumQ (w.ports.map (term f)) + sumRows buf (fun m => m.k * m.lo) ≤ w.gCap)
  let c3 : Bool := decide (w.gLo ≤ w.lx + sumQ (w.ports.map (term cp)) + sumRows buf (fun m => m.k * m.hi))
  let dMax := -(sumRows buf (fun m => w.vB * m.lo / 1000))
  let dMin := -(sumRows buf (fun m => w.vB * m.hi / 1000))
  let c4imp : Bool := decide (w.dLo ≤ dMax)
  let c4exp : Bool := decide (dMin ≤ w.dHi)
  let c5 : Bool := w.groups.all (fun g => decide (sumRows (rowsGrp w.mods g.1) (fun m => m.k * m.lo) ≤ g.2))
  { c1 := c1, imp := !c1.isEmpty || !c2 || !c4imp || !c5, exp := !c3 || !c4exp }

/-- The floor check passes. -/
def FloorCheck.pass (f : FloorCheck) : Bool := f.c1.isEmpty && !f.imp && !f.exp

/-- Release a port on its sides (R77). Its ENGAGING modules keep the 0 A of R49; a module that R43 has just confirmed keeps them
too. -/
def releasePort (lo hi : Bool) (w : TickWork) (p : Nat) : TickWork :=
  let bpt := (w.ports.find? (fun r => r.p == p)).map (·.bpt) == some true
  { w with
    released := true
    ports := w.ports.map (fun r => if r.p == p then
      { r with lo := if lo then min r.loMin (if hi then r.hiNr else r.hi) else r.lo, hi := if hi then r.hiNr else r.hi,
               relLo := r.relLo || lo, relHi := r.relHi || hi } else r)
    mods := w.mods.map (fun m => if m.sel == p && m.ready then
      { m with lo := if lo then (if bpt then -m.cap else 0) else m.lo, hi := if hi then m.cap else m.hi } else m) }

/-- Release the buffer on its sides (R77); a BLOCKED module stays at 0 A. -/
def releaseBuf (lo hi : Bool) (w : TickWork) : TickWork :=
  { w with
    released := true
    bufReleased := true
    mods := w.mods.map (fun m => if m.sel == 0xE && m.ready then
      { m with lo := if lo then -m.cap else m.lo, hi := if hi then m.cap else m.hi } else m) }

/-- The ports not in OFF in release order (R76): rising SHED_RANK, then lower priority, then higher number. A port without a
CNP_PORT record has no rank, no modules and bounds of 0 A: it has nothing to release. -/
def releaseOrder (w : TickWork) : List Nat :=
  (sortBy (fun r => r.rank * 4096 + (7 - r.prio) * 64 + (15 - r.p))
    (w.ports.filter (fun r => r.phase != .off && decide (r.weight ≠ 0)))).map (·.p)

/-- The entries in release order (R76); 0xE is the buffer. -/
def allEntries (w : TickWork) : List Nat := (if (rowsBuf w.mods).isEmpty then [] else [0xE]) ++ releaseOrder w

/-- The entries not yet released, in order. -/
def openEntries (w : TickWork) : List Nat :=
  (allEntries w).filter (fun e => if e == 0xE then !w.bufReleased else !(w.ports.any (fun r => r.p == e && (r.relLo || r.relHi))))

/-- Release entry `e` on its sides. -/
def releaseEntry (lo hi : Bool) (w : TickWork) (e : Nat) : TickWork :=
  if e == 0xE then releaseBuf lo hi w else releasePort lo hi w e

/-- Release entries one at a time until the check passes or none is left (R76, R77). -/
def releaseLoop : Nat → TickWork → TickWork
  | 0, w => w
  | fuel + 1, w =>
    let f := floorCheck w
    if f.pass then w
    else match (openEntries w).filter (fun e => f.c1.contains e) ++ openEntries w with
      | [] => w
      | e :: _ => releaseLoop fuel (releaseEntry f.imp f.exp w e)

/-- Release every entry on both sides (R79). -/
def releaseAll (w : TickWork) : TickWork := (allEntries w).foldl (releaseEntry true true) w

/-- The overrun of R80. -/
def overrunWork (w : TickWork) : TickWork :=
  let dMax := min w.dHi (-(sumRows (rowsBuf w.mods) (fun m => w.vB * m.lo / 1000)))
  { w with ports := w.ports.map (fun r => { r with hi := 0, lo := min r.lo 0 }), dLo := dMax, dHi := dMax, gHi := none,
           overrun := true }

/-- The bound check of R51 passes. -/
def boundCheck (w : TickWork) : Bool :=
  w.ports.all (fun r => decide (sumRows (rowsOf w.mods r.p) (·.lo) ≤ r.hi) && decide (r.lo ≤ sumRows (rowsOf w.mods r.p) (·.hi)))
    && (match w.gHi with | some g => decide (sumRows w.mods (fun m => m.k * m.lo) + w.lx ≤ g) | none => true)
    && w.groups.all (fun g => decide (sumRows (rowsGrp w.mods g.1) (fun m => m.k * m.lo) ≤ g.2))

/-- Assemble the problem of a tick after selection (Table 2.3). -/
def assemble (i : CnpIn) (c : Canopy) (rs : List PortRow) : TickWork :=
  let (chg, dis) := bufPower i c
  let ms := (i.model c).map (modRow i c)
  { tick := c.tick, mods := ms,
    ports := rs.map (fun r => { r with
      short := isShort r (holdOf i c r.p), nmod := (modsOn i c r.p (fun s => s = .engaged || s = .releasing)).length }),
    groups := (i.groups.filter (fun g => !(rowsGrp ms g.group).isEmpty)).map (fun g => (g.group, (g.pCap : Rat) / 10)),
    vB := c.vB, dLo := -chg, dHi := dis, dRef := bufRefOf i c, lx := c.lx, gLo := -((i.intake.eCap : Rat) / 10),
    gHi := some i.gcap, gCap := i.gcap, wE := i.glob.wE, wB := i.glob.wB, tol := (i.glob.tol : Rat) / 100,
    bufReleased := false, overrun := false, released := false }

/-- The floor check with its releases and the overrun (R75 to R80); an overrun keeps each entry released on the side that failed. -/
def resolveFloors (carry : Bool) (w : TickWork) : TickWork :=
  let w := if carry then releaseAll w else w
  let w := releaseLoop 14 w
  if (floorCheck w).pass then w else overrunWork w

/-! ### The solver's stop (R41, R50) -/

/-- A value within a box and its multiplier: primal violation below `t`, and the multiplier acts only at a bound. -/
def boxOk (t x lo : Rat) (hi : Option Rat) (mu : Rat) : Bool :=
  decide (lo - t < x) && (match hi with | some h => decide (x < h + t) | none => true)
    && (decide (mu ≤ 0) || (match hi with | some h => decide (h - t ≤ x) | none => false))
    && (decide (0 ≤ mu) || decide (x ≤ lo + t))

/-- Q_p: the capacity of E_p (R41). -/
def qOf (w : TickWork) (p : Nat) : Rat := sumRows ((rowsOf w.mods p).filter (·.eng)) (·.cap)

/-- The share of row `m` in the spread term: i_m − I_p × cap_m / Q_p. -/
def spread (w : TickWork) (x : SolvePoint) (m : ModRow) : Rat :=
  if m.eng && decide (qOf w m.sel ≠ 0) then qAt x.mods m.pm - qAt x.ports m.sel * m.cap / qOf w m.sel else 0

/-- Aᵀy for module row `m`: balance, buffer, grid and group multipliers. -/
def atyMod (w : TickWork) (x : SolvePoint) (m : ModRow) : Rat :=
  qAt x.boxM m.pm - (if m.sel < 12 then qAt x.balP m.sel else 0)
    + (if m.sel == 0xE then x.balD * w.vB / 1000 else 0) - x.balG * m.k
    + sumQ ((w.groups.filter (fun g => m.grpA == g.1 || m.grpB == g.1)).map (fun g => qAt x.grp g.1 * m.k))

/-- The primal residual of Table 2.3 at a point, in A and kW. -/
def primalOf (w : TickWork) (x : SolvePoint) : Rat :=
  let vio (v lo : Rat) (hi : Option Rat) : Rat := max (lo - v) (match hi with | some h => v - h | none => 0)
  let i (m : ModRow) := qAt x.mods m.pm
  ((w.mods.map (fun m => vio (i m) m.lo (some m.hi)))
    ++ (w.ports.map (fun r => vio (qAt x.ports r.p) r.lo (some r.hi)))
    ++ (w.ports.map (fun r => absQ (qAt x.ports r.p - sumRows (rowsOf w.mods r.p) i)))
    ++ [absQ (x.d + sumRows (rowsBuf w.mods) (fun m => w.vB * i m / 1000)), vio x.d w.dLo (some w.dHi),
        absQ (x.g - sumRows w.mods (fun m => m.k * i m) - w.lx), vio x.g w.gLo w.gHi]
    ++ (w.groups.map (fun g => sumRows (rowsGrp w.mods g.1) (fun m => m.k * i m) - g.2))).foldl max 0

/-- The dual residual at a point: the largest component of the gradient of the Lagrangian of R41. -/
def dualOf (w : TickWork) (x : SolvePoint) : Rat :=
  ((w.mods.map (fun m => absQ (2 * w.wE * spread w x m + atyMod w x m)))
    ++ (w.ports.map (fun r =>
        let es := (rowsOf w.mods r.p).filter (·.eng)
        let q := qOf w r.p
        let sp := if q = 0 then 0 else sumRows es (fun m => 2 * w.wE * spread w x m * (-(m.cap / q)))
        absQ (2 * r.weight * (qAt x.ports r.p - r.dem) + sp + qAt x.balP r.p + qAt x.boxP r.p)))
    ++ [absQ (2 * w.wB * (x.d - w.dRef) + x.balD + x.boxD), absQ (x.balG + x.boxG)]).foldl max 0

/-- The multipliers act only at active bounds, and group multipliers are not negative. -/
def complementary (w : TickWork) (x : SolvePoint) : Bool :=
  let t := w.tol
  w.mods.all (fun m => boxOk t (qAt x.mods m.pm) m.lo (some m.hi) (qAt x.boxM m.pm))
    && w.ports.all (fun r => boxOk t (qAt x.ports r.p) r.lo (some r.hi) (qAt x.boxP r.p))
    && boxOk t x.d w.dLo (some w.dHi) x.boxD && boxOk t x.g w.gLo w.gHi x.boxG
    && w.groups.all (fun g =>
        let y := qAt x.grp g.1
        decide (0 ≤ y) && (decide (y = 0) ||
          decide (g.2 - t ≤ sumRows (rowsGrp w.mods g.1) (fun m => m.k * qAt x.mods m.pm))))

/-- The point meets R50's first stopping condition. -/
def optimumOk (w : TickWork) (x : SolvePoint) : Bool :=
  decide (primalOf w x < w.tol) && decide (dualOf w x < w.tol) && complementary w x

/-- The multipliers prove that Table 2.3 has no solution (R50): a combination of the constraints that no point meets. -/
def certificateOk (w : TickWork) (x : SolvePoint) : Bool :=
  let sup (mu lo : Rat) (hi : Option Rat) : Rat :=
    if 0 < mu then (match hi with | some h => mu * h | none => 0) else mu * lo
  (w.gHi.isSome || decide (x.boxG ≤ 0))
    && w.mods.all (fun m => decide (atyMod w x m = 0))
    && w.ports.all (fun r => decide (qAt x.balP r.p + qAt x.boxP r.p = 0))
    && decide (x.balD + x.boxD = 0) && decide (x.balG + x.boxG = 0)
    && w.groups.all (fun g => decide (0 ≤ qAt x.grp g.1))
    && decide (sumRows w.mods (fun m => sup (qAt x.boxM m.pm) m.lo (some m.hi))
        + sumQ (w.ports.map (fun r => sup (qAt x.boxP r.p) r.lo (some r.hi)))
        + sup x.boxD w.dLo (some w.dHi) + sup x.boxG w.gLo w.gHi + x.balG * w.lx
        + sumQ (w.groups.map (fun g => qAt x.grp g.1 * g.2)) < 0)

/-! ### Rounding and repair (R53, R54) -/

/-- Setpoints by module and allocations by port, in A. -/
structure Rounded where
  sp : List (Nat × Rat)
  alloc : List (Nat × Rat)
  deriving DecidableEq, Repr

/-- Hand out `k` steps of 0.5 A in list order to rows whose bound allows it (R53); what is left comes back. -/
def handOut : Nat → List (ModRow × Rat × Rat) → List (Nat × Rat) × Nat
  | k, [] => ([], k)
  | 0, (m, _, s) :: xs => ((m.pm, s) :: (handOut 0 xs).1, 0)
  | k + 1, (m, _, s) :: xs =>
    if s + 1 / 2 ≤ m.hi then
      let (r, left) := handOut k xs
      ((m.pm, s + 1 / 2) :: r, left)
    else
      let (r, left) := handOut (k + 1) xs
      ((m.pm, s) :: r, left)

/-- The rounding procedure of R53 for one group of rows: target `t`, solver values `y`. -/
def roundGroup (ms : List ModRow) (t : Rat) (y : Nat → Rat) : List (Nat × Rat) × Rat :=
  let xs := ms.map (fun m => (m, y m.pm, truncHalf (y m.pm)))
  let k := truncQ ((t - sumQ (xs.map (fun e => e.2.2))) * 2)
  let ord := sortLt (fun a b => decide (b.2.1 - b.2.2 < a.2.1 - a.2.2)) xs
  let (sp, left) := handOut k.toNat ord
  (sp, if 0 < k then t - (left : Rat) / 2 else t)

/-- A row mirrored, for a port that gives back energy (R53). -/
def ModRow.neg (m : ModRow) : ModRow := { m with lo := -m.hi, hi := -m.lo }

/-- Rounding of one port (R53). -/
def roundPort (w : TickWork) (x : SolvePoint) (r : PortRow) : List (Nat × Rat) × Rat :=
  let ms := rowsOf w.mods r.p
  let xp := qAt x.ports r.p
  if r.bpt && decide (xp < 0) then
    let (sp, a) := roundGroup (ms.map ModRow.neg) (min (nearHalf (-xp)) (-r.lo)) (fun n => -(qAt x.mods n))
    (sp.map (fun e => (e.1, -e.2)), -a)
  else roundGroup ms (min (nearHalf xp) r.hi) (qAt x.mods)

/-- Rounding of the buffer-role modules as one further group (R53). -/
def roundBuf (w : TickWork) (x : SolvePoint) : List (Nat × Rat) :=
  let ms := rowsBuf w.mods
  let tot := sumRows ms (fun m => qAt x.mods m.pm)
  if tot < 0 then
    ((roundGroup (ms.map ModRow.neg) (nearHalf (-tot)) (fun n => -(qAt x.mods n))).1).map (fun e => (e.1, -e.2))
  else (roundGroup ms (nearHalf tot) (qAt x.mods)).1

/-- Rounding of the whole result (R53). -/
def roundAll (w : TickWork) (x : SolvePoint) : Rounded :=
  let rs := w.ports.map (fun r => (r.p, roundPort w x r))
  { sp := rs.flatMap (fun e => e.2.1) ++ roundBuf w x, alloc := rs.map (fun e => (e.1, e.2.2)) }

/-- Σ k_m × setpoint + L_x: the import of rounded setpoints. -/
def importOf (w : TickWork) (sp : List (Nat × Rat)) : Rat := sumRows w.mods (fun m => m.k * qAt sp m.pm) + w.lx
/-- The dispatch of rounded setpoints. -/
def dispatchOf (w : TickWork) (sp : List (Nat × Rat)) : Rat :=
  -(sumRows (rowsBuf w.mods) (fun m => w.vB * qAt sp m.pm / 1000))
/-- The sum of group `j` over rounded setpoints. -/
def grpSum (w : TickWork) (sp : List (Nat × Rat)) (j : Nat) : Rat := sumRows (rowsGrp w.mods j) (fun m => m.k * qAt sp m.pm)

/-- Lower port `p` by 0.5 A, from its module with the largest setpoint, ties to the highest number (R54, R79); a port at 0 A would
change its sign and stays. -/
def lowerPort (w : TickWork) (r : Rounded) (p : Nat) : Rounded :=
  let best := (rowsOf w.mods p).foldl (fun b m => match b with
    | none => some m.pm
    | some n => if qAt r.sp n ≤ qAt r.sp m.pm then some m.pm else some n) none
  match best with
  | none => r
  | some n =>
    if qAt r.alloc p ≠ 0 then
      { sp := r.sp.map (fun e => if e.1 == n then (e.1, e.2 - 1 / 2) else e),
        alloc := r.alloc.map (fun e => if e.1 == p then (e.1, e.2 - 1 / 2) else e) }
    else r

/-- A limit of R54: the grid upper bound or a group. -/
inductive Limit where
  | grid (cap : Rat)
  | group (j : Nat) (cap : Rat)
  deriving DecidableEq, Repr

/-- The limits of a tick that the rounded values must keep (R54). -/
def limitsOf (w : TickWork) : List Limit :=
  (match w.gHi with | some g => [Limit.grid g] | none => []) ++ w.groups.map (fun g => Limit.group g.1 g.2)

/-- The limit is exceeded by rounded setpoints. -/
def Limit.over (w : TickWork) (sp : List (Nat × Rat)) : Limit → Bool
  | .grid g => decide (g < importOf w sp)
  | .group j g => decide (g < grpSum w sp j)

/-- The ports whose modules appear in a limit. -/
def Limit.ports (w : TickWork) : Limit → List Nat
  | .grid _ => (w.ports.map (·.p)).filter (fun p => !(rowsOf w.mods p).isEmpty)
  | .group j _ => (w.ports.map (·.p)).filter (fun p => !(rowsGrp (rowsOf w.mods p) j).isEmpty)

/-- Lowest priority first, ties to the highest port number (R54). -/
def lowOrder (w : TickWork) (ps : List Nat) : List Nat :=
  (sortBy (fun r => (7 - r.prio) * 64 + (15 - r.p)) (w.ports.filter (fun r => ps.contains r.p))).map (·.p)

/-- Repair one limit: each port at most once in the tick (R54). -/
def repairLimit (w : TickWork) (a : Rounded × List Nat) (l : Limit) : Rounded × List Nat :=
  (lowOrder w (l.ports w)).foldl (fun (r, done) p =>
    if l.over w r.sp && !(done.contains p) then (lowerPort w r p, p :: done) else (r, done)) a

/-- The repair after rounding (R54). -/
def repairAll (w : TickWork) (r : Rounded) : Rounded := ((limitsOf w).foldl (repairLimit w) (r, [])).1

/-- The rounded values exceed some limit. -/
def anyOver (w : TickWork) (r : Rounded) : Bool := (limitsOf w).any (fun l => l.over w r.sp)

/-- The rounded values break a grid or group constraint (R52): a limit exceeded, or an export beyond E_CAP. -/
def gridBroken (w : TickWork) (r : Rounded) : Bool := anyOver w r || decide (importOf w r.sp < w.gLo)

/-- The fallback of R52: previous allocations clipped to the new bounds and split in proportion to cap_m. The rule speaks of ports:
each buffer-role module keeps its previous setpoint, clipped to its new bounds (DESIGN CHOICE). -/
def fallbackPoint (c : Canopy) (w : TickWork) : SolvePoint :=
  let prev (r : PortRow) : Rat := clampQ r.lo r.hi (amps (c.port r.p).iPrev)
  let share (m : ModRow) : Rat :=
    if m.sel == 0xE then clampQ m.lo m.hi m.sPrev
    else match w.ports.find? (fun r => r.p == m.sel) with
      | none => clampQ m.lo m.hi 0
      | some r =>
        let q := sumRows (rowsOf w.mods r.p) (·.cap)
        clampQ m.lo m.hi (if q = 0 then 0 else prev r * m.cap / q)
  { mods := w.mods.map (fun m => (m.pm, share m)),
    ports := w.ports.map (fun r => (r.p, sumRows (rowsOf w.mods r.p) share)) }

/-- Lower one port by 0.5 A at a time until the limits hold (R79), at most `fuel` steps and, as in R54, not past 0 A. -/
def lowerWhile (w : TickWork) (p : Nat) : Nat → Rounded → Rounded
  | 0, r => r
  | fuel + 1, r => if anyOver w r && decide (0 < qAt r.alloc p) then lowerWhile w p fuel (lowerPort w r p) else r

/-- The setpoints of an infeasible tick (R79, steps 1 to 3). -/
def infeasibleRounded (w : TickWork) : Rounded :=
  let w := releaseAll w
  let sp := w.mods.map (fun m => (m.pm, truncHalf (clampQ m.lo m.hi m.sPrev)))
  let al := w.ports.map (fun r => (r.p, sumRows (rowsOf w.mods r.p) (fun m => qAt sp m.pm)))
  (releaseOrder w).foldl (fun r p => lowerWhile w p 6001 r) { sp := sp, alloc := al }

/-! ### Publication (R29, R63, R78, R85, R86, R95) -/

/-- The largest integer not above a + √x, for x not negative. -/
def floorAddSqrt (a x : Rat) : Int :=
  let k : Int := (Nat.sqrt x.floor.toNat : Int)
  let n := a.floor + k
  if ((n + 1 : Int) : Rat) ≤ a ∨ (((n + 1 : Int) : Rat) - a) * (((n + 1 : Int) : Rat) - a) ≤ x then n + 1 else n

/-- ⌊min(capNr, alloc + G_p)⌋ with G_p = max(s_p, 2 % of the rating) (R85). -/
def advSite (capNr alloc dead2 rating : Rat) : Int :=
  min capNr.floor (max (floorAddSqrt alloc dead2) (alloc + rating / 50).floor)

/-- The advertised limit of one direction (R85): `dem` and `alloc` in that direction. -/
def advOf (overrun site : Bool) (capNr alloc dem dead2 rating : Rat) : Int :=
  if overrun then 0
  else if site && decide (alloc < min dem capNr - 1 / 2) then advSite capNr alloc dead2 rating
  else capNr.floor

/-- The modules of port `p` touch an active group. -/
def portInActive (w : TickWork) (act : List Nat) (p : Nat) : Bool :=
  (rowsOf w.mods p).any (fun m => act.contains m.grpA || act.contains m.grpB)

/-- The advertised limits that a port row and its allocation give (R85). -/
def PortRow.told (w : TickWork) (site : Bool) (al : Rat) (q : PortRow) : Told where
  p := q.p
  adv := max 0 (advOf w.overrun site q.capNr al q.dem q.dead2 q.rating)
  advDis := if q.bpt then max 0 (advOf w.overrun site q.disNr (-al) (-q.dem) q.dead2 q.rating) else 0
  lim := decide (al < q.dem - 1 / 2)

/-- A port was released in this tick (R78). -/
def TickWork.shed (w : TickWork) (p : Nat) : Bool := w.ports.any (fun q => q.p == p && (q.relLo || q.relHi))

/-- Port `q.p` is site-constrained (R85). -/
def siteBound (w : TickWork) (gridAct : Bool) (act : List Nat) (c : Canopy) (q : PortRow) : Bool :=
  gridAct || portInActive w act q.p || w.shed q.p || q.short || (c.port q.p).ceilRef.isSome

/-- The entries of the modules of a tick's problem with their selections, as the group frames carry them (R29, R56). -/
def TickWork.entries (w : TickWork) (sp : List (Nat × Rat)) : List GrpEntry :=
  w.mods.map (fun m => { pm := m.pm, sp := deci (qAt sp m.pm), sel := m.sel, adm := true })

/-- The registers of a port that its row gives before the solve (Tables 2.19 and 2.20). -/
def PortRow.show (q : PortRow) (x : CnpPortSt) : CnpPortSt :=
  { x with dem := deci q.dem, phase := q.phase, bpt := q.bpt, prio := if q.weight = 0 then 0 else q.prio, cap := deci q.hi, src := q.src }

/-- Publish a result: registers, advertised limits and the entries that wait for the release (R28, R29, R56, R85).
`gridAct` and `act` say which constraints were active in the solve. No rule gives the direction in which g, d and the group sums
are rounded to register units: DESIGN CHOICE, the nearest unit, halves away from zero. -/
def publish (w : TickWork) (r : Rounded) (gridAct : Bool) (act : List Nat) (c : Canopy) : Canopy :=
  let told := w.ports.map (fun q => q.told w (siteBound w gridAct act c q) (qAt r.alloc q.p))
  let setP (c : Canopy) (q : PortRow) : Canopy :=
    let al := qAt r.alloc q.p
    let site := siteBound w gridAct act c q
    let t := q.told w site al
    c.setPort q.p (fun x => { q.show x with
      alloc := deci al, nmod := q.nmod, short := q.short, shed := w.shed q.p, capNr := q.capNr, adv := t.adv, advDis := t.advDis,
      lim := t.lim, site := site, floorCut := 0,
      ceilRef := match x.ceilRef with
        | some k => if k ≤ deci al then none else some k
        | none => none })
  let c := w.ports.foldl setP c
  { c with
    grps := mapIdx c.grps (fun j g => { g with
      sum := if w.groups.any (fun e => e.1 == j) then roundHalfAway (grpSum w r.sp j) else 0, active := act.contains j })
    importW := roundHalfAway (importOf w r.sp * 10)
    dispatch := roundHalfAway (dispatchOf w r.sp * 10)
    shedPorts := maskOf 12 w.shed
    shedBuf := w.bufReleased
    overrun := w.overrun
    work := none
    ready := some { tick := w.tick, entries := w.entries r.sp, alloc := r.alloc.map (fun e => (e.1, deci e.2)), told := told } }

/-- The entries of the admitted modules as Canopy's records hold them, where no problem was solved (R60, R92). -/
def entriesOf (c : Canopy) : List GrpEntry :=
  ((List.range 256).filter (fun n => (c.mod n).admitted)).map (fun n => { pm := n, sp := (c.mod n).sp, sel := (c.mod n).sel, adm := true })

/-- The groups whose constraint is active at a point (Table 2.22). No rule says when a constraint counts as active (R85): DESIGN CHOICE,
where the unrounded point lies within the solver's tolerance of its cap; in an infeasible tick, which has no point, the grid constraint
counts as active and no group does. -/
def activeGroups (w : TickWork) (x : SolvePoint) : List Nat :=
  (w.groups.filter (fun g => decide (g.2 - w.tol ≤ sumRows (rowsGrp w.mods g.1) (fun m => m.k * qAt x.mods m.pm)))).map (·.1)

/-- The grid constraint is active at a point, at its import or at its export end (R85). -/
def gridActive (w : TickWork) (x : SolvePoint) : Bool :=
  let g := sumRows w.mods (fun m => m.k * qAt x.mods m.pm) + w.lx
  decide (g ≤ w.gLo + w.tol) || (match w.gHi with
    | some h => decide (h - w.tol ≤ g)
    | none => false)

/-- The port-shed events of the ports that `w` releases beyond those of `before`, where the tick before did not release them (R78). -/
def newShed (before : Nat → Bool) (w : TickWork) (c : Canopy) : List (Ev × Nat) :=
  ((List.range 12).filter (fun p => w.shed p && !before p && !(bitOf p c.shedLast))).map (fun p => (Ev.portShed, p))

/-- End a tick as infeasible under R79; `cert` where a certificate or the fallback led to it. A tick with a release
has already been counted (R78). R51 gives a tick whose bound check alone fails to R79, which names the certificate and the fallback
only: DESIGN CHOICE, its setpoints and releases are those of R79's steps 1 to 3 and 5, and CERT stays 0. -/
def finishInfeasible (w : TickWork) (cert : Bool) (c : Canopy) : Canopy × List (Ev × Nat) :=
  let wr := releaseAll w
  let c' := publish wr (infeasibleRounded w) true [] c
  ({ c' with
    result := .infeasible, cntInfeas := if w.released then c.cntInfeas else satInc 16 c.cntInfeas,
    cert := cert, certCarry := true }, newShed w.shed wr c)

/-- A rounded and repaired result at a point, published (R53, R54, R78): a tick with a release is INFEASIBLE without a certificate. -/
def finishWith (w : TickWork) (x : SolvePoint) (r : Rounded) (res : CnpResult) (c : Canopy) : Canopy :=
  let c := publish w r (gridActive w x) (activeGroups w x) c
  { c with result := if w.released then .infeasible else res, cert := if w.released then false else c.cert }

/-- The rounded and repaired result of a point, published (R53, R54). -/
def finishPoint (w : TickWork) (x : SolvePoint) (res : CnpResult) (c : Canopy) : Canopy :=
  finishWith w x (repairAll w (roundAll w x)) res c

/-! ### The tick (R26, R27, R58, R60, R88 to R93) -/

/-- A module in Clearing (R60): not BLOCKED becomes FREE, BLOCKED stays; setpoint 0 A and selection none go out to all. -/
def clearMod (m : CnpModSt) : CnpModSt :=
  if m.st = .blocked then { m with sel := 0xF } else { m with st := .free, sel := 0xF, byRule := false }

/-- What a port shows and its vehicle is told in Clearing (R60, R63, R86): no allocation; the limits of R85 stay as they were last. -/
def PortRow.cleared (q : PortRow) (x : CnpPortSt) : CnpPortSt :=
  { q.show x with
    alloc := 0, nmod := 0, short := false, shed := false, ceilRef := none, floorCut := 0, lim := decide ((1 : Rat) / 2 < q.dem) }

/-- The device is in Clearing (R60): every module is sent 0 A and selection none. Demand, phase and cap are published as at any tick
(DEDUCED from R63). -/
def clearingTick (rs : List PortRow) (c : Canopy) : Canopy :=
  let c := { c with mods := mapIdx c.mods (fun _ => clearMod) }
  let c := rs.foldl (fun c q => c.setPort q.p q.cleared) c
  { c with
    mode := .clearing, work := none, restore := none, shedPorts := 0, shedBuf := false, overrun := false,
    grps := c.grps.map (fun _ => {}), importW := roundHalfAway (c.lx * 10), dispatch := 0,
    ready := some {
      tick := c.tick, entries := (entriesOf c).map (fun e => { e with sp := 0 }), alloc := (List.range 12).map (fun p => (p, 0)),
      told := rs.map (fun q => { p := q.p, adv := (c.port q.p).adv, advDis := (c.port q.p).advDis, lim := (c.port q.p).lim }) } }

/-- The first tick after a takeover with a recent journal entry (R92): what was journaled goes out unchanged. `c0` is Canopy before
the site model changes of the tick. -/
def holdTick (c0 c : Canopy) : Canopy :=
  { c with
    work := none, restore := none,
    ready := some {
      tick := c.tick, entries := entriesOf c0, alloc := (List.range 12).map (fun p => (p, (c0.port p).iPrev)),
      told := (List.range 12).map (fun p =>
        { p := p, adv := (c.port p).adv, advDis := (c.port p).advDis, lim := decide ((c.port p).iPrev < (c.port p).dem - 5) }) } }

/-- What Canopy restores of a journal entry that is too old, or of none (R93): every port module FREE, every setpoint and allocation 0;
the buffer-role modules stay at 0 A. The site model changes of the tick come after it. -/
def oldEntry (i : CnpIn) (c : Canopy) : Canopy :=
  { c with
    restore := none
    mods := mapIdx c.mods (fun n (m : CnpModSt) =>
      if (i.mcfg n).buf then { m with sp := 0 } else { m with sp := 0, sel := 0xF, st := .free, lost := false, holdUntil := 0 })
    ports := mapIdx c.ports (fun _ (q : CnpPortSt) => { q with iPrev := 0, alloc := 0, ceilRef := none, ceilTicks := 0, floorCut := 0 }) }

/-- The journal entry that Canopy restores at its first tick is 500 ms old or less (R92). -/
def Canopy.recent (i : CnpIn) (c : Canopy) : Bool :=
  match c.restore with
  | some (_, t) => decide (i.now ≤ t + 500000)
  | none => false

/-- MODE at a tick outside Clearing (R88, R89, R92). -/
def nextMode (c : Canopy) : CnpMode := if c.restIn then .run else .reduced

/-- Ticks of the ceiling reference and of the soft request, I_req and the trims at a snapshot (R59, R66, R83). -/
def portTick (i : CnpIn) (c : Canopy) : Canopy :=
  { c with
    ports := mapIdx c.ports (fun _ (q : CnpPortSt) => { q with
      ceilTicks := if q.ceilRef.isSome then q.ceilTicks + 1 else 0,
      iReq := if i.soft then some (q.iReq.getD q.iPrev) else none,
      softTicks := if i.soft then q.softTicks + 1 else 0 }),
    tau := if c.measStale then c.tau else if i.intake.trim then clampQ 0 (i.intake.trimMax : Rat) i.tau else 0,
    tauB := i.tauB }

/-- L_x in force (R66, R68). -/
def lxOf (i : CnpIn) (c : Canopy) : Rat :=
  if c.measStale then (i.intake.lStale : Rat) / 10 else c.u + (i.intake.gMargin : Rat) + c.tau

/-- What a tick with its releases shows at once (R78, R80): the ports and the buffer released, the overrun, and INFEASIBLE for a tick
with a release, whose result may still be abandoned. -/
def Canopy.showShed (w : TickWork) (c : Canopy) : Canopy :=
  { c with
    certCarry := false, shedPorts := maskOf 12 w.shed, shedBuf := w.bufReleased, overrun := w.overrun,
    result := if w.released then .infeasible else c.result,
    cntInfeas := if w.released then satInc 16 c.cntInfeas else c.cntInfeas,
    ports := mapIdx c.ports (fun p (q : CnpPortSt) => { q with shed := w.shed p }) }

/-- A normal tick: bounds, selection, floor check and bound check, up to the start of the solve (R27 to R51, R75 to R80). -/
def runTick (i : CnpIn) (present : List Nat) (c : Canopy) : Canopy × List (Ev × Nat) :=
  let c := { c with mode := nextMode c }
  let rs := present.map (portRow i c)
  let c := selectStep i rs c
  let w := resolveFloors c.certCarry (assemble i c rs)
  let evs := newShed (fun _ => false) w c ++ (if w.overrun then [(Ev.importOver, 0)] else [])
  let c := c.showShed w
  if boundCheck w then ({ c with work := some w, workAt := i.now }, evs)
  else
    let r := finishInfeasible w false c
    (r.1, evs ++ r.2)

/-- What a tick latches before anything else (R27, R63): its number, G_CAP, FREEZE and the port voltages. -/
def tickLatch (i : CnpIn) (c : Canopy) : Canopy :=
  { c with
    tick := (c.tick + 1) % 2 ^ 32, ticks := c.ticks + 1, gcapEff := (i.gcap * 10).floor.toNat, ready := none, frozen := c.freeze,
    shedLast := c.shedPorts,
    ports := mapIdx c.ports (fun n (q : CnpPortSt) => { q with snapV := ((i.ports[n]?).map (·.v)).getD q.snapV }) }

/-- One Canopy tick over its snapshot (R26). Nothing happens before Canopy has started. -/
def tickCore (i : CnpIn) (present : List Nat) (c : Canopy) : Canopy × List (Ev × Nat) :=
  if !c.started then (c, [])
  else
    let c0 := tickLatch i c
    let c1 := if c0.restore.isSome && !c0.recent i then oldEntry i c0 else c0
    let c2 := bufStep i (portTick i (siteStep i c1))
    let c3 := { c2 with lx := lxOf i c2 }
    let (t, evs) :=
      if i.clearing then (clearingTick (present.map (portRow i c3)) c3, [])
      else if c3.recent i then (holdTick c1 { c3 with mode := .hold }, [])
      else runTick i present c3
    (t, (if t.mode = c.mode then [] else [(Ev.canopyMode, 0)]) ++ evs)

/-! ### The end of a tick (R28, R50, R52, R57) -/

/-- The solver stops (R50): a point within tolerance is rounded and published, a certificate makes the tick infeasible.
What is neither stops nothing. `us` is the solve time. No rule says what CNP_TIME.LAST shows after a tick without a solve that ends:
DESIGN CHOICE, the time of the last one. -/
def solveEnd (us : Nat) (e : SolveEnd) (c : Canopy) : Canopy × List (Ev × Nat) :=
  match c.work with
  | none => (c, [])
  | some w =>
    let t := { c with timeLast := sat 10 us, timeMax := max c.timeMax (sat 10 us) }
    match e with
    | .optimum x => if optimumOk w x && decide (us ≤ 600) then (finishPoint w x .optimal t, []) else (c, [])
    | .certificate x => if certificateOk w x && decide (us ≤ 600) then finishInfeasible w true t else (c, [])

/-- A tick that the solver's limit ends (R52): within 0.5 A the result is taken; else the fallback, rounded and repaired as any result
(R53, R54), unless it breaks a grid or group constraint. -/
def budgetFinish (x : SolvePoint) (w : TickWork) (c : Canopy) : Canopy × List (Ev × Nat) :=
  if primalOf w x ≤ 1 / 2 then (finishPoint w x .budget c, [])
  else
    let f := fallbackPoint c w
    let r := repairAll w (roundAll w f)
    if gridBroken w r then finishInfeasible w true c else (finishWith w f r .fallback c, [])

/-- The solver reaches its limit at the point `x` (R52): the tick is counted and the canopy-budget event raised. -/
def budgetEnd (now : Nat) (x : SolvePoint) (c : Canopy) : Canopy × List (Ev × Nat) :=
  match c.work with
  | none => (c, [])
  | some w =>
    if now < c.workAt + 720 then (c, [])
    else
      let r := budgetFinish x w { c with timeLast := 600, timeMax := max c.timeMax 600, cntBudget := satInc 16 c.cntBudget }
      (r.1, (Ev.canopyBudget, 0) :: r.2)

/-- The result that the release sends (R28, R57): the tick's own, or that of the tick before; the flag says that
the tick is counted under BUDGET. -/
def releaseResult (c : Canopy) : Option TickResult × Bool :=
  match c.ready with
  | some r => (some r, false)
  | none => (c.sent, true)

/-- What the port stacks answer with from the release on (R86). -/
def Told.tell (t : Told) (q : CnpPortSt) : CnpPortSt := { q with toldAdv := t.adv, toldDis := t.advDis, toldLim := t.lim }

/-- What Canopy keeps of a result that is sent: setpoints shown, s_prev and I_prev (R38, R57, R63), what the vehicles are told (R86). An
address that is not admitted is sent 0 A in the frame of its group (spec/04_module_bus.md R111). -/
def markSent (r : TickResult) (c : Canopy) : Canopy :=
  let inGrp (n : Nat) : Bool := r.entries.any (fun e => e.pm / 16 == n / 16)
  let c := { c with mods := mapIdx c.mods (fun n (m : CnpModSt) => if inGrp n then { m with sp := 0 } else m) }
  let c := r.entries.foldl (fun c e => c.setMod e.pm (fun m => { m with sp := e.sp })) c
  let c := r.alloc.foldl (fun c e => c.setPort e.1 (fun q => { q with iPrev := e.2 })) c
  let c := r.told.foldl (fun c t => c.setPort t.p t.tell) c
  { c with sent := some r, ready := none, work := none }

end Sys2Proof.Machine
end

