-- ==== Sys2Proof/Machine/Approx.lean ====
section
/-! DEFINITION. Values that a rule defines as a real number and that the device holds rounded: the decay of
spec/03_canopy_limits_and_faults.md R66, the powers of spec/06_cooling_and_loops.md R161 and the roots of
spec/08_sleeve_metrology.md R242. A rational enclosure is computed from the rule; only the place inside it, the device's rounding, is
free. -/

namespace Sys2Proof.Machine

/-- The first 13 terms of the series of exp at y. -/
def expSeries (y : Rat) : Rat := (List.range 12).reverse.foldl (fun a k => 1 + y / ((k : Rat) + 1) * a) 1

/-- More than what the series leaves out for 0 ≤ y ≤ 1: twice its next term, 13! being 6,227,020,800. -/
def expRest (y : Rat) : Rat := 2 * y ^ 13 / 6227020800

/-- A lower bound of exp(−x) for x ≥ 0. -/
def expLo (x : Rat) : Rat :=
  let n := x.floor.toNat
  let y := x - (n : Rat)
  if 64 < n then 0 else 1 / ((expSeries 1 + expRest 1) ^ n * (expSeries y + expRest y))

/-- An upper bound of exp(−x) for x ≥ 0. -/
def expHi (x : Rat) : Rat :=
  let n := x.floor.toNat
  let y := x - (n : Rat)
  if 64 < n then 1 / 2 ^ 64 else 1 / (expSeries 1 ^ n * expSeries y)

/-- exp(−x) as the device computes it, for x ≥ 0. -/
def decay (x : Rat) : Rat := clampQ (expLo x) (expHi x) (Config.expDecay x)

/-- The largest number of 64 bits whose n-th power is at most v, bit by bit from the top. -/
def natRoot (n v : Nat) : Nat := (List.range 64).reverse.foldl (fun r i => if (r + 2 ^ i) ^ n ≤ v then r + 2 ^ i else r) 0

/-- The n-th root of x ≥ 0, rounded down to a multiple of 2⁻²⁴. -/
def rootLo (n : Nat) (x : Rat) : Rat := (natRoot n (x * 2 ^ (24 * n)).floor.toNat : Rat) / 2 ^ 24

/-- The n-th root of x ≥ 0, rounded up: the same where the root is exact. -/
def rootHi (n : Nat) (x : Rat) : Rat := if rootLo n x ^ n = x then rootLo n x else rootLo n x + 1 / 2 ^ 24

/-- The square root of x ≥ 0 as the device computes it: the root itself where it is exact. -/
def sqrtQ (x : Rat) : Rat := if rootLo 2 x = rootHi 2 x then rootLo 2 x else clampQ (rootLo 2 x) (rootHi 2 x) (Config.root x)

/-- x raised to e / 100 for x ≥ 0, as the device computes it: the power itself where it is exact. -/
def powQ (x : Rat) (e : Nat) : Rat :=
  if rootLo 100 (x ^ e) = rootHi 100 (x ^ e) then rootLo 100 (x ^ e)
  else clampQ (rootLo 100 (x ^ e)) (rootHi 100 (x ^ e)) (Config.powRatio x e)

/-- A number of the grid of 2⁻⁹⁶, at or below x. -/
def grid96 (x : Rat) : Rat := ((x * 2 ^ 96).floor : Rat) / 2 ^ 96

/-- ½ ln((1 + z) / (1 − z)) for 0 ≤ z ≤ 1/3, to more than 80 bits. -/
def atanhQ (z : Rat) : Rat := z * (List.range 32).reverse.foldl (fun a i => grid96 (1 / (2 * (i : Rat) + 1) + z * z * a)) 0

/-- ln x for x ≥ 1, to more than 70 bits. -/
def lnQ (x : Rat) : Rat :=
  let k := Nat.log2 x.floor.toNat
  let m := x / 2 ^ k
  2 * atanhQ ((m - 1) / (m + 1)) + (k : Rat) * (2 * atanhQ (1 / 3))

/-- exp y for 0 ≤ y ≤ 1, to more than 80 bits. -/
def expFrac (y : Rat) : Rat := (List.range 32).reverse.foldl (fun a k => grid96 (1 + y / ((k : Rat) + 1) * a)) 1

/-- exp y for y ≥ 0. -/
def expQ (y : Rat) : Rat := expFrac 1 ^ y.floor.toNat * expFrac (y - (y.floor : Rat))

/-- 2π = 6.28318530717958647692528676655900…, to 32 digits. -/
def twoPi : Rat := 628318530717958647692528676655900 / 10 ^ 32

/-- sin(2πc) of a number of cycles, to more than 60 bits of its last cycle: minus the sine of the angle from the middle of the cycle. -/
def sinCycles (c : Rat) : Rat :=
  let x := (c - (c.floor : Rat) - 1 / 2) * twoPi
  let y := (List.range 24).reverse.foldl (fun a i => grid96 (1 - x * x / ((2 * (i : Rat) + 2) * (2 * (i : Rat) + 3)) * a)) 1
  x * y * (-1)

/-- The cycles that a sweep from f0 to f1 Hz over d s has passed t s after its start
(spec/06_cooling_and_loops.md R182): the integral of f0 (f1/f0)^(t/d). -/
def sweepCycles (f0 f1 d t : Rat) : Rat :=
  let l := lnQ (f1 / f0)
  f0 * d * (expQ (l * t / d) - 1) / l

end Sys2Proof.Machine
end

