-- ==== Sys2Proof/Machine/Float32.lean ====
section
/-! DEFINITION. IEEE 754 single precision over 32-bit codes, as Coppice computes (spec/06_cooling_and_loops.md R175,
R189): round to nearest, ties to even, one operation at a time. -/

namespace Sys2Proof.Machine

/-- The quiet NaN code that the spec names for a lost float (spec/17_thicket_and_events.md R464). -/
def fNaN : Nat := 0x7FC00000

/-- Exponent field. -/
def fExp (a : Nat) : Nat := field 23 8 a
/-- Fraction field. -/
def fFrac (a : Nat) : Nat := field 0 23 a
/-- Sign bit. -/
def fNeg (a : Nat) : Bool := bitOf 31 a
/-- NaN. -/
def fIsNaN (a : Nat) : Bool := fExp a == 255 && fFrac a != 0
/-- Infinity. -/
def fIsInf (a : Nat) : Bool := fExp a == 255 && fFrac a == 0
/-- Neither NaN nor infinity (R187, R189). -/
def fFinite (a : Nat) : Bool := fExp a != 255
/-- A zero of either sign. -/
def fZero (a : Nat) : Bool := fExp a == 0 && fFrac a == 0

/-- 2 to an integer power. -/
def pow2 (e : Int) : Rat := if 0 ≤ e then ((2 ^ e.toNat : Nat) : Rat) else 1 / ((2 ^ (-e).toNat : Nat) : Rat)

/-- The value of a finite code. -/
def fVal (a : Nat) : Rat :=
  let m : Rat := if fExp a = 0 then (fFrac a : Rat) * pow2 (-149)
    else ((2 ^ 23 + fFrac a : Nat) : Rat) * pow2 ((fExp a : Int) - 150)
  if fNeg a then -m else m

/-- Round a rational to the nearest integer, ties to even. -/
def roundEven (q : Rat) : Int :=
  let f := q.floor
  let r := q - f
  if r < 1 / 2 then f else if 1 / 2 < r then f + 1 else if f % 2 = 0 then f else f + 1

/-- Floor of the binary logarithm of a positive rational. -/
def log2Q (q : Rat) : Int :=
  let e : Int := (Nat.log2 q.num.toNat : Int) - (Nat.log2 q.den : Int)
  if pow2 e ≤ q then e else e - 1

/-- The code nearest to a rational; `neg` is the sign of a zero result. -/
def fRound (neg : Bool) (q : Rat) : Nat :=
  let sg := if q < 0 ∨ (q = 0 ∧ neg) then 2 ^ 31 else 0
  if q = 0 then sg
  else
    let a := absQ q
    let e := max (log2Q a) (-126)
    let m := (roundEven (a / pow2 (e - 23))).toNat
    let (m, e) := if 2 ^ 24 ≤ m then (m / 2, e + 1) else (m, e)
    if 127 < e then sg + 0x7F800000
    else if m < 2 ^ 23 then sg + m
    else sg + ((e + 127).toNat * 2 ^ 23 + (m - 2 ^ 23))

/-- A rational as a float. -/
def fOf (q : Rat) : Nat := fRound false q

/-- Negation. -/
def fnegate (a : Nat) : Nat := if fNeg a then a - 2 ^ 31 else a + 2 ^ 31

/-- Sum. -/
def fadd (a b : Nat) : Nat :=
  if fIsNaN a || fIsNaN b then fNaN
  else if fIsInf a then (if fIsInf b && fNeg a != fNeg b then fNaN else a)
  else if fIsInf b then b
  else fRound (fNeg a && fNeg b) (fVal a + fVal b)

/-- Difference. -/
def fsub (a b : Nat) : Nat := fadd a (fnegate b)

/-- Product. -/
def fmul (a b : Nat) : Nat :=
  let s := fNeg a != fNeg b
  if fIsNaN a || fIsNaN b then fNaN
  else if fIsInf a || fIsInf b then
    (if fZero a || fZero b then fNaN else (if s then 0xFF800000 else 0x7F800000))
  else fRound s (fVal a * fVal b)

/-- Quotient. -/
def fdiv (a b : Nat) : Nat :=
  let s := fNeg a != fNeg b
  if fIsNaN a || fIsNaN b then fNaN
  else if fIsInf a then (if fIsInf b then fNaN else (if s then 0xFF800000 else 0x7F800000))
  else if fIsInf b then (if s then 2 ^ 31 else 0)
  else if fZero b then (if fZero a then fNaN else (if s then 0xFF800000 else 0x7F800000))
  else fRound s (fVal a / fVal b)

/-- The value of a code that is not NaN, infinities beyond every finite value. -/
def fOrd (a : Nat) : Rat := if fIsInf a then (if fNeg a then -pow2 200 else pow2 200) else fVal a

/-- a < b; false where either is NaN. -/
def flt (a b : Nat) : Bool := !(fIsNaN a) && !(fIsNaN b) && decide (fOrd a < fOrd b)

/-- The value limited to lo..hi. -/
def fclamp (a lo hi : Nat) : Nat := if flt a lo then lo else if flt hi a then hi else a

end Sys2Proof.Machine
end

