-- ==== Sys2Proof/Machine/State/Thermal.lean ====
section
/-! DEFINITION. State of the thermal twin and of Coppice, and their records
(spec/06_cooling_and_loops.md R159–R189). -/

namespace Sys2Proof.Machine

/-- 0x0600 TW_CABLE (Table 6.3). -/
structure TwCable where
  port : Nat := 0
  pinEn : Bool := false
  res20 : Nat := 1
  alpha : Nat := 0
  c1 : Nat := 1
  c2 : Nat := 1
  c3 : Nat := 1
  g12 : Nat := 1
  g23n : Nat := 1
  qn : Nat := 1
  cw : Nat := 1000
  exp : Nat := 0
  xh : Nat := 0
  tHsLim : Nat := 300
  tPinLim : Nat := 300
  fastBand : Nat := 10
  failCap : Nat := 0
  kFlow : Nat := 1
  dtSub : Nat := 0
  deriving DecidableEq, Repr

/-- 0x0610 CPC_LOOP (Table 6.4); floats are their 32-bit codes. -/
structure CpcLoop where
  loop : Nat := 0
  mode0 : Nat := 0
  reverse : Bool := false
  test : Bool := false
  safeHold : Bool := false
  coolPort : Nat := 0xFF
  period : Nat := 1
  pvSrc : Nat := 0x3F
  pvIdx : Nat := 0
  outSnk : Nat := 0
  outIdx : Nat := 0
  spSrc : Nat := 0
  sp : Nat := 0
  kp : Nat := 0
  ki : Nat := 0
  kd : Nat := 0
  tf : Nat := 0
  outMin : Nat := 0
  outMax : Nat := 0
  outSafe : Nat := 0
  fastMin : Nat := 0
  deriving DecidableEq, Repr

/-- One temperature input (R159): the reading in 0.1 °C, its fault, and the measurements in a row that lead to a change. -/
structure TempIn where
  t : Int := 0
  fault : Bool := false
  run : Nat := 0
  /-- The input has been read valid since start. -/
  seen : Bool := false
  deriving DecidableEq, Repr

/-- The temperatures of the three nodes in °C (R161). -/
structure Nodes where
  t1 : Rat := 0
  t2 : Rat := 0
  t3 : Rat := 0
  deriving DecidableEq, Repr

/-- The thermal twin of one port (R159–R172, Table 6.5). Currents are in 0.1 A. -/
structure Twin where
  ta : TempIn := {}
  tb : TempIn := {}
  tc : TempIn := {}
  /-- Q in L/min (R160). -/
  q : Rat := 0
  lastEdge : Option Nat := none
  /-- Edges of the last 10 ms (R160). -/
  edges : List Nat := []
  flFault : Bool := false
  /-- The last instant at which the edge rate was 2,000 Hz or above (R160). -/
  flHighAt : Nat := 0
  nodes : Nodes := {}
  /-- The nodes have been given their first reading (R162). -/
  seeded : Bool := false
  /-- The instant of that reading while no evaluation has followed: the other inputs of the same instant still count (R162). -/
  seedAt : Option Nat := none
  started : Bool := false
  /-- C_th has been set once under R162. -/
  capSet : Bool := false
  cTh : Nat := 0
  iAllow : Nat := 0
  peak : Rat := 0
  fast : Bool := false
  pin : Bool := false
  cut : Bool := false
  steps : Nat := 0
  lastStep : Option Int := none
  /-- Instant from which the raise conditions of R168 have held, and of the last raise. -/
  raiseSince : Option Nat := none
  lastRaise : Option Nat := none
  /-- Instant from which no fast-mode condition has held (R164). -/
  quietSince : Option Nat := none
  tLoc : Rat := 0
  /-- Σ I_p² in A² and the number of Canopy ticks since the last evaluation (R161). -/
  sumI2 : Rat := 0
  nTicks : Nat := 0
  /-- An evaluation whose result the journal is still to carry, and the instant of the last one that it carried (R172). -/
  jDue : Bool := false
  jAt : Option Nat := none
  deriving DecidableEq, Repr

/-- What the journal carries of a twin (R172); the last throttle step as its age in µs. -/
structure TwinJ where
  nodes : Nodes := {}
  cTh : Nat := 0
  fast : Bool := false
  stepAgo : Option Nat := none
  deriving DecidableEq, Repr

/-- Loop states (Table 6.2, codes of Table 6.7). -/
inductive LoopState where
  | off | manual | auto | track | fault
  deriving DecidableEq, Repr

/-- The code of a loop state (Table 6.7). -/
def LoopState.code : LoopState → Nat
  | .off => 0 | .manual => 1 | .auto => 2 | .track => 3 | .fault => 4

/-- One Coppice loop (R174–R180, Table 6.7); floats are their 32-bit codes. -/
structure Loop where
  recd : Option CpcLoop := none
  /-- MODE as last written (R176): 0 OFF, 1 MANUAL, 2 AUTO. -/
  mode : Nat := 0
  st : LoopState := .off
  sat : Bool := false
  sinkf : Bool := false
  held : Bool := false
  sp : Nat := 0
  pvf : Nat := 0
  pvfPrev : Nat := 0
  out : Nat := 0
  man : Nat := 0
  kp : Nat := 0
  ki : Nat := 0
  kd : Nat := 0
  tf : Nat := 0
  outMin : Nat := 0
  outMax : Nat := 0
  pvh : Nat := 0
  int : Nat := 0
  /-- Preset at the next sample (R176). -/
  preset : Bool := false
  /-- Instant from which the process value has been valid in FAULT (R176). -/
  validSince : Option Nat := none
  /-- Instant of the last sample (R174). -/
  lastAt : Option Nat := none
  faults : Nat := 0
  sinks : Nat := 0
  deriving DecidableEq, Repr

/-- The running injection (R182 to R185). -/
structure Inj where
  loop : Nat := 0
  point : Bool := false
  form : Nat := 0
  order : Nat := 0
  hold : Nat := 1
  amp : Nat := 0
  f0 : Nat := 0
  f1 : Nat := 0
  len : Nat := 0
  /-- PERIOD of the loop. -/
  period : Nat := 1
  chan : Nat := 7
  decim : Nat := 1
  /-- Samples of the loop taken since the start. -/
  k : Nat := 0
  lfsr : Nat := 0
  deriving DecidableEq, Repr

/-- Coppice (Tables 6.6 and 6.7). -/
structure Coppice where
  loops : Vector Loop 64 := Vector.replicate 64 {}
  injLoop : Nat := 0
  injPoint : Bool := false
  injForm : Nat := 0
  injOrder : Nat := 0
  injHold : Nat := 1
  injAmp : Nat := 0
  injF0 : Nat := 0
  injF1 : Nat := 0
  injLen : Nat := 0
  capChan : Nat := 7
  capDecim : Nat := 1
  capState : Nat := 0
  capAbort : Nat := 0
  /-- The capture buffer, oldest value first (R185). -/
  cap : List Nat := []
  inj : Option Inj := none
  deriving DecidableEq, Repr

end Sys2Proof.Machine
end

