-- ==== Sys2Proof/Machine/CoppiceCore.lean ====
section
/-! DEFINITION. Coppice loops, injection and capture (spec/06_cooling_and_loops.md R173–R189). Quantities of a loop are
single-precision codes. -/

namespace Sys2Proof.Machine

/-- What a sample of a loop reads of other units. -/
structure LoopEnv where
  /-- The process value, none where its source is invalid (R179). -/
  pv : Option Nat
  /-- The sink is faulted (R180). -/
  sinkBad : Bool
  /-- The twin of COOL_PORT is in fast mode (R173). -/
  fast : Bool
  /-- The setpoint that a fixed source gives (R67, R73), else none. -/
  sp : Option Nat
  now : Nat
  deriving DecidableEq, Repr

/-- Entry `n` of the loops. -/
def Coppice.loop (c : Coppice) (n : Nat) : Loop := atD c.loops n {}
/-- Change a loop. -/
def Coppice.setLoop (c : Coppice) (n : Nat) (f : Loop → Loop) : Coppice := { c with loops := updN c.loops n f }

/-- The child of loop `n`: the loop its output is a setpoint of (R177). -/
def Coppice.child (c : Coppice) (n : Nat) : Option Nat :=
  (c.loop n).recd.bind (fun r => if r.outSnk = 2 ∧ (c.loop r.outIdx).recd.isSome then some r.outIdx else none)

/-- The parent of loop `n`. -/
def Coppice.parent (c : Coppice) (n : Nat) : Option Nat := (List.range 64).find? (fun m => c.child m == some n)

/-- The sample rate sum of the configured loops (R174). -/
def Coppice.rate (c : Coppice) : Nat :=
  sumN ((List.range 64).map (fun n => match (c.loop n).recd with | some r => 10000 / r.period | none => 0))

/-- The sample time in s as a float: PERIOD times 100 µs. -/
def tsOf (r : CpcLoop) : Nat := fOf ((r.period : Rat) / 10000)

/-- The lower clamp in force (R173). -/
def loMin (l : Loop) (r : CpcLoop) (fast : Bool) : Nat := if fast && flt l.outMin r.fastMin then r.fastMin else l.outMin

/-- The proportional and derivative parts of R175 for a filtered value. -/
def pdParts (l : Loop) (r : CpcLoop) (sp pvf : Nat) : Nat × Nat × Nat :=
  let sg (x : Nat) : Nat := if r.reverse then fnegate x else x
  let e := sg (fsub sp pvf)
  let p := fmul l.kp e
  let d := fdiv (fmul (fmul (fnegate (sg (fOf 1))) l.kd) (fsub pvf l.pvfPrev)) (tsOf r)
  (e, p, d)

/-- The measurement filter of R175. -/
def filtered (l : Loop) (r : CpcLoop) (pv : Nat) : Nat :=
  let ts := tsOf r
  fadd l.pvf (fmul (fdiv ts (fadd l.tf ts)) (fsub pv l.pvf))

/-- The integrator and the output of one AUTO sample (R175): integrator, output, and whether the integrator was held. -/
def pidStep (l : Loop) (r : CpcLoop) (sp pvf lo injOut : Nat) (held : Bool) : Nat × Nat × Bool :=
  let (e, p, d) := pdParts l r sp pvf
  let iNew := fadd l.int (fmul (fmul l.ki (tsOf r)) e)
  let u := fadd (fadd p iNew) d
  let stop := (flt l.outMax u && flt 0 e) || (flt u lo && flt e 0) || held
  let i := fclamp (if stop then l.int else iNew) lo l.outMax
  (i, fclamp (fadd (fadd (fadd p i) d) injOut) lo l.outMax, stop)

/-- The preset of R176. -/
def presetInt (l : Loop) (r : CpcLoop) (sp pvf lo : Nat) : Nat :=
  let (_, p, d) := pdParts l r sp pvf
  fclamp (fsub (fsub l.out p) d) lo l.outMax

/-- The output is at a clamp: at the last sample's, which R173 may have raised, or at one written since. -/
def atClamp (l : Loop) : Bool := l.sat || l.out == l.outMin || l.out == l.outMax

/-- held of R175: the child is at OUT_MIN or OUT_MAX or has SINKF set; a sink fault also holds the integrator (R180). -/
def heldOf (c : Coppice) (n : Nat) : Bool :=
  (match c.child n with
   | some k => atClamp (c.loop k) || (c.loop k).sinkf
   | none => false) || (c.loop n).sinkf

/-! ### Injection (R182 to R185) -/

/-- The order of a PRBS code (Table 6.6). -/
def prbsOrder (k : Nat) : Nat := match k with | 0 => 7 | 1 => 9 | 2 => 11 | _ => 15
/-- The second tap of the polynomial (R182). -/
def prbsTap (k : Nat) : Nat := match k with | 0 => 6 | 1 => 5 | 2 => 9 | _ => 14

/-- One step of the PRBS register: the sum of the two taps enters at bit 0. -/
def prbsNext (k r : Nat) : Nat :=
  let n := prbsOrder k
  let b := bitOf (n - 1) r != bitOf (prbsTap k - 1) r
  (r * 2 + (if b then 1 else 0)) % 2 ^ n

/-- The value injected at the present sample (R182). The time of a sweep is that of the loop's samples since the start. -/
def injValue (j : Inj) : Nat :=
  if j.len ≤ j.k then 0
  else match j.form with
    | 0 => j.amp
    | 1 => if bitOf (prbsOrder j.order - 1) j.lfsr then j.amp else fnegate j.amp
    | _ =>
      let a := fVal j.amp
      let t : Rat := (j.period : Rat) / 10000
      let v := a * sinCycles (sweepCycles (fVal j.f0) (fVal j.f1) ((j.len : Rat) * t) ((j.k : Rat) * t))
      let d := absQ a / 2 ^ 23
      fOf (clampQ (v - d) (v + d) (Config.sineRound v))

/-- Advance the injection by one sample of its loop. -/
def injNext (j : Inj) : Inj :=
  { j with
    k := j.k + 1, lfsr := if j.form = 1 ∧ (j.k + 1) % j.hold = 0 then prbsNext j.order j.lfsr else j.lfsr }

/-- End or abort the injection (R184): 0 the end. -/
def injStop (why : Nat) (c : Coppice) : Coppice × Bool :=
  match c.inj with
  | none => (c, false)
  | some _ => ({ c with inj := none, capState := if why = 0 then 2 else 3, capAbort := why }, true)

/-- Abort if the injection runs on loop `n`. -/
def injAbort (n why : Nat) (c : Coppice) : Coppice × Bool :=
  match c.inj with
  | some j => if j.loop = n then injStop why c else (c, false)
  | none => (c, false)

/-- The capture of R185 at a sample of the injected loop. -/
def capStore (j : Inj) (l : Loop) (inj : Nat) (c : Coppice) : Coppice :=
  if j.k % j.decim = 0 ∧ j.k < j.len ∧ c.capState = 1 then
    let vs := (if bitOf 0 j.chan then [l.sp] else []) ++ (if bitOf 1 j.chan then [l.pvf] else [])
      ++ (if bitOf 2 j.chan then [l.out] else []) ++ (if bitOf 3 j.chan then [inj] else [])
    let cap := (c.cap ++ vs).take 16384
    { c with cap := cap, capState := if 16384 ≤ cap.length then 2 else c.capState }
  else c

/-- An output that is not of a sample with the raised clamp of R173: OFF and FAULT take the loop's own clamps (Table 6.7). -/
def Loop.giveOut (out : Nat) (l : Loop) : Loop := { l with out := out, sat := out == l.outMin || out == l.outMax }

/-! ### Cascades (R176, R177) -/

/-- A loop enters MANUAL, OFF or FAULT (Table 6.2): its parent in AUTO enters TRACK. The flag says that an injection on the parent was
aborted by its mode change (R184). -/
def childLeft (c : Coppice) (n : Nat) : Coppice × Bool :=
  match c.parent n with
  | some p => if (c.loop p).st = .auto then injAbort p 2 (c.setLoop p (fun l => { l with st := .track })) else (c, false)
  | none => (c, false)

/-- A loop leaves TRACK or FAULT for the mode last written (R176): OUT_SAFE in OFF, a preset in AUTO; MAN stays. -/
def takeMode (n : Nat) (c : Coppice) : Coppice :=
  c.setLoop n (fun l => match l.mode with
    | 0 => { l.giveOut (l.recd.getD {}).outSafe with st := .off }
    | 1 => { l with st := .manual }
    | _ => { l with st := .auto, preset := true })

/-- A loop has entered AUTO: its parent leaves TRACK (Table 6.2), and the parent's own parent follows where that ends outside AUTO. -/
def childBack (c : Coppice) (n : Nat) : Coppice × Bool :=
  match c.parent n with
  | some p =>
    if (c.loop p).st = .track then
      let c := takeMode p c
      if (c.loop p).st = .auto then (c, false) else childLeft c p
    else (c, false)
  | none => (c, false)

/-- A loop has changed to the mode that stands in it: the parent follows, and an injection on the loop aborts (R184). -/
def modeMoved (n : Nat) (c : Coppice) : Coppice × Bool :=
  let r := if (c.loop n).st = .auto then childBack c n else childLeft c n
  let q := injAbort n 2 r.1
  (q.1, r.2 || q.2)

/-- The setpoint that a parent gives its child (R177). -/
def giveChild (n sp : Nat) (c : Coppice) : Coppice :=
  match c.child n with
  | some k => if (c.loop k).recd.any (fun q => q.spSrc == 2) then c.setLoop k (fun x => { x with sp := sp }) else c
  | none => c

/-! ### A sample (R174 to R180) -/

/-- Enter FAULT (R176): OUT_SAFE, or held with SAFE_HOLD and for the trims of loops 62 and 63 (R179). -/
def loopFault (n : Nat) (r : CpcLoop) (l : Loop) : Loop :=
  { l.giveOut (if r.safeHold ∨ n = 62 ∨ n = 63 then l.out else r.outSafe) with
    st := .fault, validSince := none, held := true, faults := satInc 16 l.faults }

/-- One sample of loop `n` (R175, R176, R180, R182, R185). The integrator counts as not advanced wherever R175 does not run (Table 6.7). A
parent in MANUAL gives its child MAN, with the value injected at its output (R177, R182). The events are those of the loop and of an
aborted injection. -/
def loopSample (n : Nat) (e : LoopEnv) (c : Coppice) : Coppice × List Ev :=
  let l := c.loop n
  match l.recd with
  | none => (c, [])
  | some r =>
    let newSink := e.sinkBad && !l.sinkf
    let ev1 := if newSink then [Ev.loopSinkFault] else []
    let l := { l with sinkf := e.sinkBad, sinks := if newSink then satInc 16 l.sinks else l.sinks, sp := e.sp.getD l.sp }
    match e.pv with
    | none =>
      match l.st with
      | .manual | .auto | .track =>
        let c := c.setLoop n (fun _ => loopFault n r l)
        let (c, ab) := childLeft c n
        let (c, ab') := injAbort n 3 c
        (giveChild n (c.loop n).out c, ev1 ++ [Ev.loopFault] ++ (if ab || ab' then [Ev.injectionEnded] else []))
      | _ => (c.setLoop n (fun _ => { l.giveOut l.out with validSince := none, held := true }), ev1)
    | some pv =>
      let inj : Option Inj := match c.inj with
        | some j => if j.loop = n then some j else none
        | none => none
      let iv := match inj with | some j => injValue j | none => 0
      let iSp := match inj with | some j => if j.point then 0 else iv | none => 0
      let iOut := match inj with | some j => if j.point then iv else 0 | none => 0
      let pvf := filtered l r pv
      let lo := loMin l r e.fast
      let sp := if inj.isSome then fadd l.sp iSp else l.sp
      let man := if inj.isSome then fadd l.man iOut else l.man
      let held := heldOf (c.setLoop n (fun _ => l)) n
      let l := match l.st with
        | .off => { l with pvf := pvf, out := r.outSafe, held := true }
        | .manual => { l with pvf := pvf, out := fclamp man lo l.outMax, held := true }
        | .auto =>
          let l := if l.preset then { l with int := presetInt l r sp pvf lo, preset := false } else l
          let (i, out, h) := pidStep l r sp pvf lo iOut held
          { l with pvf := pvf, int := i, out := out, held := h }
        | .track =>
          let out := match c.child n with | some k => (c.loop k).pvf | none => l.out
          let i := presetInt l r sp pvf lo
          let l := { l with out := if e.fast && flt out lo then lo else out }
          { l with pvf := pvf, int := i, held := true }
        | .fault => { l with pvf := pvf, held := true, validSince := some (l.validSince.getD e.now) }
      let lo := if l.st = .off ∨ l.st = .fault then l.outMin else lo
      let l := { l with pvfPrev := pvf, sat := l.out == lo || l.out == l.outMax }
      let c := c.setLoop n (fun _ => l)
      let c := match inj with
        | some j => { capStore j { l with sp := sp } iv c with inj := some (injNext j) }
        | none => c
      (giveChild n (if l.st = .manual then man else l.out) c, ev1)

/-- 1 s of valid process value in FAULT: the loop takes the mode last written (R176). -/
def loopRecover (n now : Nat) (c : Coppice) : Coppice × Bool :=
  let l := c.loop n
  match l.recd, l.validSince with
  | some _, some t => if l.st = .fault ∧ t + 1000000 ≤ now then modeMoved n (takeMode n c) else (c, false)
  | _, _ => (c, false)

/-- A write of CPC_Ln_MODE.MODE (Table 6.2); the flag says that an injection was aborted (R184). In TRACK and FAULT the mode is only kept. -/
def loopMode (n m : Nat) (c : Coppice) : Coppice × Bool :=
  let l := c.loop n
  match l.recd with
  | none => (c, false)
  | some r =>
    let c := c.setLoop n (fun l => { l with mode := m })
    let enter (f : Loop → Loop) : Coppice × Bool := modeMoved n (c.setLoop n f)
    match l.st, m with
    | .off, 1 => enter (fun l => { l with st := .manual, man := r.outSafe })
    | .off, 2 => enter (fun l => { l with st := .auto, out := r.outSafe, preset := true })
    | .manual, 2 => enter (fun l => { l with st := .auto, preset := true })
    | .auto, 1 => enter (fun l => { l with st := .manual, man := l.out })
    | .manual, 0 | .auto, 0 => enter (fun l => { l.giveOut r.outSafe with st := .off })
    | _, _ => (c, false)

/-- The registers of a loop that R178 names. -/
inductive LoopCoeff where
  | sp | kp | ki | kd | tf | outMin | outMax
  deriving DecidableEq, Repr

/-- A write of a coefficient or of the setpoint (R178, R189). -/
def loopCoeff (n : Nat) (k : LoopCoeff) (v : Nat) (c : Coppice) : Coppice × Status :=
  let l := c.loop n
  if !(fFinite v) then (c, .badValue)
  else match l.recd with
    | none => (c, .ok)
    | some r =>
      match k with
      | .sp => if r.spSrc = 1 then (c.setLoop n (fun l => { l with sp := v }), .ok) else (c, .ok)
      | .kp => (c.setLoop n (fun l => { l with kp := v }), .ok)
      | .ki => (c.setLoop n (fun l => { l with ki := v }), .ok)
      | .kd => (c.setLoop n (fun l => { l with kd := v }), .ok)
      | .tf => (c.setLoop n (fun l => { l with tf := v }), .ok)
      | .outMin => if flt v l.outMax then (c.setLoop n (fun l => { l with outMin := v }), .ok) else (c, .badValue)
      | .outMax => if flt l.outMin v then (c.setLoop n (fun l => { l with outMax := v }), .ok) else (c, .badValue)

/-- A write of CPC_Ln_MAN (R189); a loop without a record stays in OFF. -/
def loopMan (n v : Nat) (c : Coppice) : Coppice × Status :=
  if !(fFinite v) then (c, .badValue)
  else if (c.loop n).st = .manual then (c.setLoop n (fun l => { l with man := v }), .ok)
  else (c, .notInState)

/-- A write of CPC_Ln_PVH (R189). -/
def loopPvh (n v : Nat) (c : Coppice) : Coppice × Status :=
  if !(fFinite v) then (c, .badValue)
  else if (c.loop n).recd.isNone then (c, .ok) else (c.setLoop n (fun l => { l with pvh := v }), .ok)

/-- The parameters of CPC_INJ_ and CPC_CAP_CTRL lie in their ranges (R182, R183, Table 6.6). -/
def injRangeOk (c : Coppice) : Bool :=
  let r := (c.loop c.injLoop).recd
  decide (c.injForm ≤ 2) && decide (1 ≤ c.injHold) && fFinite c.injAmp && decide (1 ≤ c.injLen) && decide (1 ≤ c.capDecim)
    && (c.injForm != 2 ||
        (fFinite c.injF0 && fFinite c.injF1 && decide (1 / 1000 ≤ fVal c.injF0) && decide (fVal c.injF0 < fVal c.injF1)
          && (match r with | some k => decide (fVal c.injF1 ≤ 10000 / (k.period : Rat) / 10) | none => false)))

/-- A write of 1 to CPC_INJ_CTRL.START (R183). -/
def injStart (clearing fast : Bool) (c : Coppice) : Coppice × Status :=
  let l := c.loop c.injLoop
  if !(injRangeOk c) then (c, .badValue)
  else if c.inj.isSome || !(l.recd.any (·.test)) || l.st = .off || l.st = .fault || l.st = .track || clearing || fast then
    (c, .notInState)
  else
    ({ c with
       inj := some { loop := c.injLoop, point := c.injPoint, form := c.injForm, order := c.injOrder, hold := c.injHold,
                     amp := c.injAmp, f0 := c.injF0, f1 := c.injF1, len := c.injLen, period := (l.recd.getD {}).period, chan := c.capChan, decim := c.capDecim,
                     k := 0, lfsr := 2 ^ prbsOrder c.injOrder - 1 },
       cap := [], capState := 1, capAbort := 0 }, .ok)

/-- The injection has taken LEN samples (R184). -/
def injEnd (c : Coppice) : Coppice × Bool :=
  match c.inj with
  | some j => if j.len ≤ j.k then injStop 0 c else (c, false)
  | none => (c, false)

/-- A loop as its record starts it (Table 6.4, Table 6.7). -/
def loopStart (r : CpcLoop) : Loop :=
  { recd := some r, mode := r.mode0, st := (match r.mode0 with | 1 => .manual | 2 => .auto | _ => .off), sp := r.sp, out := r.outSafe,
    man := if r.mode0 = 1 then r.outSafe else 0, kp := r.kp, ki := r.ki, kd := r.kd, tf := r.tf, outMin := r.outMin, outMax := r.outMax,
    preset := r.mode0 == 2 }

end Sys2Proof.Machine
end

