-- ==== Sys2Proof/Machine/State/Gaiter.lean ====
section
/-! DEFINITION. State of Gaiter and its records (spec/07_gaiter_safety.md R190–R215). -/

namespace Sys2Proof.Machine

/-- 0x0700 GTR_GLOBAL (Table 7.5), with its defaults. -/
structure GtrGlobal where
  degEn : Bool := true
  startResume : Bool := false
  degCap : Nat := 50
  degTime : Nat := 240
  cufOff : Nat := 0
  tClrMin : Nat := 50
  fcTestMax : Nat := 24
  offp : Nat := 30
  deriving DecidableEq, Repr

/-- RESP of an input (R196). -/
inductive SafResp where
  | monitor | hard | soft | port
  deriving DecidableEq, Repr

/-- 0x0710 GTR_INPUT (Table 7.6). -/
structure GtrInput where
  si : Nat := 0
  anti : Bool := false
  resp : SafResp := .monitor
  test : Bool := false
  tDisc : Nat := 1
  tDeb : Nat := 1
  ports : Nat := 0
  deriving DecidableEq, Repr

/-- 0x0720 GTR_CMP (Table 7.7). -/
structure GtrCmp where
  fc : Nat := 0
  below : Bool := false
  selfTest : Bool := false
  thr : Nat := 0
  filt : Nat := 0
  port : Nat := 0xFF
  deriving DecidableEq, Repr

/-- 0x0730 GTR_OUTPUT (Table 7.8). -/
structure GtrOutput where
  so : Nat := 0
  mode : Nat := 1
  arg : Nat := 0
  pulse : Bool := false
  deriving DecidableEq, Repr

/-- Site states (Table 7.3, codes of Table 7.10). -/
inductive GState where
  | hold | run | degraded | soft | clearing
  deriving DecidableEq, Repr

/-- The code of a site state. -/
def GState.code : GState → Nat
  | .hold => 0 | .run => 1 | .degraded => 2 | .soft => 3 | .clearing => 4

/-- A cause (R204, codes of Table 7.10): kind, index and instant. -/
structure Cause where
  kind : Nat := 0
  idx : Nat := 0
  ts : Nat := 0
  deriving DecidableEq, Repr

/-- What the second contact of an input still owes within T_DISC (R194): contact B or A must signal open or closed, counted from an
instant. -/
structure DiscWait where
  isB : Bool
  open_ : Bool
  at_ : Nat
  deriving DecidableEq, Repr

/-- One safety input (R193 to R196): contact levels as sampled (true: the contact is closed) and the instant of the last change of each;
beside it the same with the test masks, for an input whose TEST flag is set: an opening inside its mask is not counted. Both are kept from
Gaiter's release, since no record is applied yet (R193). -/
structure SafIn where
  a : Bool := false
  b : Bool := false
  aAt : Nat := 0
  bAt : Nat := 0
  /-- An opening inside the test mask, not yet counted (R195). -/
  aMasked : Bool := false
  bMasked : Bool := false
  aEff : Nat := 0
  bEff : Nat := 0
  closed : Bool := false
  fault : Bool := false
  /-- Since entry to FAULT both contacts have signalled open together (R194). -/
  bothOpen : Bool := false
  wait : Option DiscWait := none
  deriving DecidableEq, Repr

/-- One fast comparator (R197, R198). -/
structure FastCmp where
  active : Bool := false
  cross : Bool := false
  lastPass : Nat := 0
  lastTest : Option Nat := none
  /-- Became active inside the mask of its self-test (R198). -/
  hidden : Bool := false
  deriving DecidableEq, Repr

/-- One safe output (R207, R208). -/
structure SafeOut where
  on : Bool := false
  fail : Bool := false
  host : Bool := false
  /-- Start of an off-pulse whose second read-back is awaited (R207). -/
  pulseAt : Option Nat := none
  deriving DecidableEq, Repr

/-- The output is on at an instant: off during its off-pulse of OFFP × 10 µs (R207). -/
def SafeOut.level (offp now : Nat) (x : SafeOut) : Bool :=
  x.on && (match x.pulseAt with
    | some t => decide (t + offp * 10 ≤ now)
    | none => true)

/-- One gate (R206), with the instant of a PORT response that still waits for the current (R196). -/
structure Gate where
  en : Bool := false
  req : Bool := false
  rbBad : Bool := false
  dropAt : Option Nat := none
  deriving DecidableEq, Repr

/-- What stood before a cause was taken in the present cycle, and the place of that cause in the order of R204: a cause that goes before
it and arrives in the same cycle is taken as if it had come first. -/
structure GLow where
  rank : Nat
  st : GState
  trip : Bool
  cause : Cause
  softAt : Nat
  softLimit : Nat
  clrAt : Nat
  deriving DecidableEq, Repr

/-- Gaiter (Table 7.10 and the state its rules name). -/
structure Gaiter where
  st : GState := .hold
  trip : Bool := true
  /-- The trip latch with its first cause, until a cycle has taken it (R199). -/
  latch : Option Cause := none
  unfit : Bool := false
  standby : Bool := false
  /-- The trip path is disarmed (R212). -/
  disarmed : Bool := false
  cause : Cause := {}
  ins : Vector SafIn 16 := Vector.replicate 16 {}
  fc : Vector FastCmp 24 := Vector.replicate 24 {}
  so : Vector SafeOut 8 := Vector.replicate 8 {}
  gates : Vector Gate 12 := Vector.replicate 12 {}
  /-- GTR_DIAG.FLT. -/
  diag : Nat := 0
  /-- The first essential fault flagged since the last power-on or system reset (R205). -/
  ess : Option Nat := none
  /-- The instant at which the degraded timer ends, once it has started (R209). -/
  degEnd : Option Nat := none
  trips : Nat := 0
  softs : Nat := 0
  softAt : Nat := 0
  /-- Ramp limit of the present SOFT in µs (R203). -/
  softLimit : Nat := 100000
  clrAt : Nat := 0
  /-- Instant of the last heartbeat (R210) and the port currents it carried, in 0.1 A. -/
  hbAt : Option Nat := none
  hbI : Vector Int 12 := Vector.replicate 12 0
  /-- The present loss of heartbeat has been judged (R211). -/
  hbLost : Bool := false
  /-- Gaiter waits for the Seam handover (R211). -/
  hbWait : Bool := false
  /-- The last CRC mismatch of the parameters (Table 7.1, row PARAM). -/
  paramAt : Option Nat := none
  maskA : Option Nat := none
  maskB : Option Nat := none
  /-- Soft requests of inputs, taken by the next cycle (R203, R204). -/
  pendSoft : List Cause := []
  /-- The cause taken first in the present cycle (R204). -/
  low : Option GLow := none
  /-- The first-leaf block has been applied (R193, R201). -/
  applied : Bool := false
  appliedAt : Nat := 0
  /-- The instant from which the two die sensors are next compared (Table 7.1, row TEMP). -/
  tempNext : Nat := 0
  deriving DecidableEq, Repr

end Sys2Proof.Machine
end

