-- ==== Sys2Proof/Machine/GaiterCore.lean ====
section
/-! DEFINITION. Gaiter: inputs, comparators, trip path, site states, gates, safe outputs, degraded mode and heartbeat
(spec/07_gaiter_safety.md R190–R212). -/

namespace Sys2Proof.Machine

/-- Effects of Gaiter on other units. -/
inductive GEff where
  | ev (e : Ev)
  /-- A PORT response ends the session of a port; `si` is the input (R196). -/
  | endPort (p si : Nat)
  deriving DecidableEq, Repr

/-- Gaiter at work: state, records, time and effects. -/
structure GCtx where
  g : Gaiter
  glob : GtrGlobal
  ins : List GtrInput
  cmps : List GtrCmp
  outs : List GtrOutput
  /-- I_OPEN of each port in 0.1 A (spec/05_vehicle_ports.md Table 5.4). -/
  iOpen : List Nat
  /-- The die sensors in 0.1 °C; 6 and 7 are Gaiter's (spec/16_reset_clocks_domains.md R453). -/
  temps : Vector Int 8
  /-- The device timebase, for the time stamp of a cause. -/
  tb : Nat
  now : Nat
  eff : List GEff
  deriving DecidableEq, Repr

/-- Change Gaiter's state. -/
def GCtx.mod (c : GCtx) (f : Gaiter → Gaiter) : GCtx := { c with g := f c.g }
/-- Raise an event. -/
def GCtx.ev (c : GCtx) (e : Ev) : GCtx := { c with eff := c.eff ++ [GEff.ev e] }

/-- The record of input `n`. -/
def GCtx.inRec (c : GCtx) (n : Nat) : Option GtrInput := c.ins.find? (fun r => r.si == n)
/-- The record of comparator `n`. -/
def GCtx.cmpRec (c : GCtx) (n : Nat) : Option GtrCmp := c.cmps.find? (fun r => r.fc == n)
/-- The record of output `n`. -/
def GCtx.outRec (c : GCtx) (n : Nat) : Option GtrOutput := c.outs.find? (fun r => r.so == n)
/-- Input `n`. -/
def GCtx.inp (c : GCtx) (n : Nat) : SafIn := atD c.g.ins n {}
/-- Change input `n`. -/
def GCtx.setIn (c : GCtx) (n : Nat) (f : SafIn → SafIn) : GCtx := c.mod (fun g => { g with ins := updN g.ins n f })

/-- Contact A signals open; an opening inside the test mask is disregarded on an input with TEST (R195). -/
def aOpen (r : GtrInput) (x : SafIn) : Bool := !x.a && !(r.test && x.aMasked)
/-- Contact B signals open: for ANTI, a closed contact B is the unsafe level (R193). -/
def bOpen (r : GtrInput) (x : SafIn) : Bool := (if r.anti then x.b else !x.b) && !(r.test && x.bMasked)
/-- The instant from which contact A signals as it does. -/
def aSince (r : GtrInput) (x : SafIn) : Nat := if r.test then x.aEff else x.aAt
/-- The instant from which contact B signals as it does. -/
def bSince (r : GtrInput) (x : SafIn) : Nat := if r.test then x.bEff else x.bAt
/-- A contact signals open. -/
def kOpen (isB : Bool) (r : GtrInput) (x : SafIn) : Bool := if isB then bOpen r x else aOpen r x
/-- Both contacts signal closed. -/
def bothClosed (r : GtrInput) (x : SafIn) : Bool := !(aOpen r x) && !(bOpen r x)
/-- The contacts signal differently (R194). -/
def differ (r : GtrInput) (x : SafIn) : Bool := aOpen r x != bOpen r x

/-- Both contacts have signalled closed without interruption for T_DEB (R193). -/
def settled (now : Nat) (r : GtrInput) (x : SafIn) : Bool :=
  bothClosed r x && decide (max (aSince r x) (bSince r x) + r.tDeb * 1000 ≤ now)

/-- The input is debouncing: both contacts closed, not yet for T_DEB, and not in FAULT (R193, R201). -/
def debouncing (r : GtrInput) (x : SafIn) : Bool := bothClosed r x && !x.closed && !x.fault

/-! ### Gates, trip and states -/

/-- Disable gate `p`. -/
def gateOff (p : Nat) (g : Gaiter) : Gaiter := { g with gates := updN g.gates p (fun x => { x with en := false, dropAt := none }) }
/-- Disable every gate (R199, R202). -/
def gatesOff (g : Gaiter) : Gaiter := { g with gates := mapIdx g.gates (fun _ (x : Gate) => { x with en := false, dropAt := none }) }
/-- Safe outputs follow their MODE (R207, R208); a standby keeps them off (R212). -/
def outsFollow (c : GCtx) : GCtx :=
  c.mod (fun g => { g with
    so := mapIdx g.so (fun n (x : SafeOut) =>
      let on : Bool := match c.outRec n with
        | none => false
        | some r =>
          match r.mode with
          | 1 => g.st = .run || g.st = .degraded || g.st = .soft
          | 2 => (atD g.gates r.arg {}).en
          | 3 => x.host && (g.st = .run || g.st = .degraded)
          | _ => false
      { x with on := on && !x.fail && !g.standby }) })

/-- Change the site state; each change raises the site-state event (Table 17.6). -/
def goState (st : GState) (c : GCtx) : GCtx :=
  if c.g.st = st then c else outsFollow ((c.mod (fun g => { g with st := st })).ev .siteState)

/-- The trip latch sets (R199): TRIP asserted, every gate disabled, the cause kept for the cycle. -/
def hardTrip (k : Cause) (c : GCtx) : GCtx :=
  if c.g.disarmed then c
  else outsFollow (c.mod (fun g => { gatesOff g with trip := true, latch := some (g.latch.getD k), trips := satInc 16 g.trips }))

/-- Record the cause of an entry to SOFT or CLEARING (R204): the first one stays. -/
def recordCause (k : Cause) (c : GCtx) : GCtx :=
  match c.g.st with
  | .soft | .clearing => c
  | _ => c.mod (fun g => { g with cause := k })

/-- Enter CLEARING (R202, Table 7.3). -/
def enterClearing (c : GCtx) : GCtx :=
  let c := c.mod (fun g => { gatesOff g with trip := true, clrAt := if g.st = .clearing then g.clrAt else c.now, hbWait := false })
  goState .clearing c

/-- A cause of a place in the order of R204 is about to be taken: what stood before it is kept for the cycle. -/
def keepLow (rank : Nat) (c : GCtx) : GCtx :=
  c.mod (fun g => { g with
    low := some (g.low.getD { rank := rank, st := g.st, trip := g.trip, cause := g.cause, softAt := g.softAt, softLimit := g.softLimit,
                              clrAt := g.clrAt }) })

/-- A cause arrives that goes before one taken in this cycle (R204): the later one is taken back. A RESUME of this cycle has then changed
nothing. -/
def outrank (rank : Nat) (c : GCtx) : GCtx :=
  match c.g.low with
  | none => c
  | some x =>
    if x.rank ≤ rank then c
    else outsFollow (c.mod (fun g =>
      let g := if x.st = .clearing then gatesOff g else g
      { g with st := x.st, trip := g.trip || x.trip, cause := x.cause, softAt := x.softAt, softLimit := x.softLimit, clrAt := x.clrAt,
               low := none }))

/-- The place of a soft request in the order of R204: host writes, the degraded timer, non-essential faults, and all others. -/
def softRank (k : Cause) : Nat := if k.kind = 6 then 6 else if k.kind = 5 then 5 else if k.kind = 4 then 4 else 3

/-- A cycle takes the trip latch (R199, R204), which goes before every cause of that cycle: RUN, DEGRADED and SOFT become CLEARING. A
standby trips and keeps its role and its site state (R212). -/
def settleTrip (c : GCtx) : GCtx :=
  match c.g.latch with
  | none => c
  | some k =>
    let rank := if k.kind = 4 then 2 else 1
    let c := (outrank rank c).mod (fun g => { g with latch := none })
    if c.g.standby then c.ev .safetyTrip
    else match c.g.st with
    | .run | .degraded | .soft => (enterClearing (recordCause k (keepLow rank c))).ev .safetyTrip
    | _ => c.ev .safetyTrip

/-- One soft request at work (R203): RUN and DEGRADED enter SOFT; in SOFT and CLEARING it changes nothing but the count. -/
def softOne (limit : Nat) (c : GCtx) (k : Cause) : GCtx :=
  let c := (outrank (softRank k) c).mod (fun g => { g with softs := satInc 16 g.softs })
  match c.g.st with
  | .run | .degraded =>
    goState .soft ((recordCause k (keepLow (softRank k) c)).mod (fun g => { g with softAt := c.now, softLimit := limit }))
  | _ => c

/-- The causes that go before others of the same cycle (R204): the trip latch, then the soft requests of inputs that wait. -/
def takeSoft (c : GCtx) : GCtx :=
  let c := settleTrip c
  let ks := c.g.pendSoft
  ks.foldl (softOne 100000) (c.mod (fun g => { g with pendSoft := [] }))

/-- A soft request (R203), after those that wait (R204). -/
def softReq (limit : Nat) (k : Cause) (c : GCtx) : GCtx := softOne limit (takeSoft c) k

/-- A cause at the present instant. -/
def GCtx.causeAt (c : GCtx) (kind idx : Nat) : Cause := { kind := kind, idx := idx, ts := c.tb % 2 ^ 32 }

/-- Set a diagnostic flag (R192); the event is raised when it is new. -/
def setDiag (bit : Nat) (c : GCtx) : GCtx :=
  if bitOf bit c.g.diag then c else (c.mod (fun g => { g with diag := g.diag + 2 ^ bit })).ev .gaiterDiagnostic

/-- The flags of the non-essential diagnostics (Table 7.1). -/
def nonEssentialBits : List Nat := [2, 4, 8, 9, 11, 12]

/-- An essential fault (R192): as a qualifying event with cause kind 4; a standby releases TRIP, disarms and is unfit (R212), with the
Gaiter-diagnostic event also where the flag was set before. -/
def essential (bit : Nat) (c : GCtx) : GCtx :=
  let again : Bool := c.g.standby && !c.g.unfit && bitOf bit c.g.diag
  let c := (setDiag bit c).mod (fun g => { g with ess := some (g.ess.getD bit) })
  let c := if again then c.ev .gaiterDiagnostic else c
  if c.g.standby then c.mod (fun g => { g with trip := false, disarmed := true, unfit := true, latch := none })
  else
    let c := outrank 2 c
    match c.g.st with
    | .run | .degraded | .soft => settleTrip (hardTrip (c.causeAt 4 bit) (settleTrip c))
    | _ => hardTrip (c.causeAt 4 bit) c

/-- A non-essential fault (R192, R209, R212, Table 7.3), after the soft requests that wait (R204). -/
def nonEssential (bit : Nat) (c : GCtx) : GCtx :=
  let first := !(bitOf bit c.g.diag)
  let c := setDiag bit (takeSoft c)
  if c.g.standby then c
  else
    let c := outrank 4 c
    let c := if c.glob.degEn && c.g.degEnd.isNone then c.mod (fun g => { g with degEnd := some (c.now + c.glob.degTime * 60000000) }) else c
    match c.g.st with
    | .run => if c.glob.degEn then goState .degraded c else if first then softReq 100000 (c.causeAt 4 bit) c else c
    | _ => c

/-! ### Inputs (R193 to R196) -/

/-- The response of an input that becomes OPEN (R196). -/
def respond (n : Nat) (r : GtrInput) (c : GCtx) : GCtx :=
  match r.resp with
  | .monitor => c.ev .safetyInput
  | .hard => hardTrip (c.causeAt 1 n) c
  | .soft => c.mod (fun g => { g with pendSoft := g.pendSoft ++ [c.causeAt 2 n] })
  | .port =>
    (bitsOf 12 r.ports).foldl (fun c p =>
      let c := { c with eff := c.eff ++ [GEff.endPort p n] }
      c.mod (fun g => { g with gates := updN g.gates p (fun x => if x.en then { x with dropAt := some (x.dropAt.getD c.now) } else x) })) c

/-- The input becomes OPEN; the response follows where it was CLOSED. -/
def becomeOpen (n : Nat) (r : GtrInput) (c : GCtx) : GCtx :=
  if (c.inp n).closed then respond n r (c.setIn n (fun x => { x with closed := false })) else c

/-- The opening of a contact outside its test mask (R193, R199): on an input with RESP HARD each is a qualifying event, whether the
input was CLOSED or still debouncing. -/
def contactOpened (n : Nat) (r : GtrInput) (c : GCtx) : GCtx :=
  if r.resp = .hard then hardTrip (c.causeAt 1 n) (c.setIn n (fun x => { x with closed := false })) else becomeOpen n r c

/-- The input enters FAULT (R194): treated as OPEN. -/
def inputFault (n : Nat) (r : GtrInput) (c : GCtx) : GCtx :=
  if (c.inp n).fault then c
  else
    let c := (c.setIn n (fun x => { x with fault := true, bothOpen := aOpen r x && bOpen r x, wait := none })).ev .inputDiscrepancy
    becomeOpen n r c

/-- What is owed after contact `isB` has changed (R194): after it signals open, the other must; after it signals closed from both open,
the other must. An obligation on a contact ends when that contact fulfils it. -/
def nextWait (r : GtrInput) (isB : Bool) (now : Nat) (x : SafIn) : Option DiscWait :=
  let op := kOpen isB r x
  if op = kOpen (!isB) r x then (match x.wait with
    | some w => if w.isB = isB ∧ w.open_ = op then none else some w
    | none => none)
  else match x.wait with
    | some w => if w.isB = !isB ∧ w.open_ = op then some w else some { isB := !isB, open_ := op, at_ := now }
    | none => some { isB := !isB, open_ := op, at_ := now }

/-- The time of R194 is broken: more than T_DISC has passed, or all of it at the end of T_DISC itself. -/
def waitLate (r : GtrInput) (x : SafIn) (now : Nat) (atEnd : Bool) : Bool :=
  match x.wait with
  | some w => decide (w.at_ + r.tDisc * 10000 < now) || (atEnd && decide (w.at_ + r.tDisc * 10000 ≤ now))
  | none => false

/-- An input in FAULT clears after both contacts have signalled open together and then closed within T_DISC of each other (R194); closings
further apart need both open again. -/
def clearFault (r : GtrInput) (x : SafIn) : SafIn :=
  if !x.fault then x
  else if aOpen r x && bOpen r x then { x with bothOpen := true }
  else if bothClosed r x && x.bothOpen then
    { x with bothOpen := false, fault := !decide (max (aSince r x) (bSince r x) - min (aSince r x) (bSince r x) ≤ r.tDisc * 10000) }
  else x

/-- Judge a change of what contact `isB` of an input signals (R193, R194). -/
def judgeInput (n : Nat) (isB : Bool) (r : GtrInput) (c : GCtx) : GCtx :=
  let c := if waitLate r (c.inp n) c.now false then inputFault n r c else c
  let c := c.setIn n (fun x => clearFault r { x with wait := if x.fault then none else nextWait r isB c.now x })
  if kOpen isB r (c.inp n) then contactOpened n r c else c

/-- The test mask of a source is open: GTP_A supplies contact A, GTP_B contact B (R195). -/
def maskOpen (c : GCtx) (srcB : Bool) : Bool := (if srcB then c.g.maskB else c.g.maskA).isSome

/-- A contact takes a level (R193). Behind the test mask, an opening inside it is disregarded, and so is the closing that ends one. -/
def SafIn.take (isB level mask : Bool) (now : Nat) (x : SafIn) : SafIn :=
  if isB then { x with
    b := level, bAt := now, bMasked := !level && mask, bEff := if (level && x.bMasked) || (!level && mask) then x.bEff else now }
  else { x with
    a := level, aAt := now, aMasked := !level && mask, aEff := if (level && x.aMasked) || (!level && mask) then x.aEff else now }

/-- After a change of an input with a record: it is judged where what the contact signals has changed. -/
def judgeChange (n : Nat) (isB : Bool) (x0 : SafIn) (c : GCtx) : GCtx :=
  match c.inRec n with
  | none => c
  | some r => if c.g.applied && (kOpen isB r x0 != kOpen isB r (c.inp n)) then judgeInput n isB r c else c

/-- A contact changes its level (R193). -/
def contactChange (n : Nat) (isB : Bool) (level : Bool) (c : GCtx) : GCtx :=
  let x := c.inp n
  if (if isB then x.b else x.a) = level then c
  else judgeChange n isB x (c.setIn n (SafIn.take isB level (maskOpen c isB) c.now))

/-- Both contacts have signalled closed for T_DEB (R193). -/
def debounceDone (n : Nat) (c : GCtx) : GCtx :=
  match c.inRec n with
  | none => c
  | some r =>
    if c.g.applied ∧ debouncing r (c.inp n) ∧ settled c.now r (c.inp n) then c.setIn n (fun x => { x with closed := true })
    else c

/-- The second contact has not followed within T_DISC (R194). -/
def discrepancy (n : Nat) (c : GCtx) : GCtx :=
  match c.inRec n with
  | none => c
  | some r => if c.g.applied && waitLate r (c.inp n) c.now true then inputFault n r c else c

/-- A test pulse starts: the mask of its source opens (R195). -/
def pulseStart (srcB : Bool) (c : GCtx) : GCtx :=
  if (if srcB then c.g.maskA else c.g.maskB).isSome then c
  else c.mod (fun g => if srcB then { g with maskB := some c.now } else { g with maskA := some c.now })

/-- At 180 µs every contact on the source must read open; bit n of `closed` says that the contact of SIn reads closed (R195). -/
def pulseSample (srcB : Bool) (closed : Nat) (c : GCtx) : GCtx :=
  match (if srcB then c.g.maskB else c.g.maskA) with
  | none => c
  | some t =>
    if c.now < t + 180 ∨ !c.g.applied then c
    else (List.range 16).foldl (fun c n => match c.inRec n with
      | some r => if r.test && bitOf n closed then inputFault n r c else c
      | none => c) c

/-- The opening that a mask has hidden counts at its end (R195). -/
def SafIn.unmask (isB : Bool) (now : Nat) (x : SafIn) : SafIn :=
  if isB then (if x.bMasked then { x with bMasked := false, bEff := now } else x)
  else (if x.aMasked then { x with aMasked := false, aEff := now } else x)

/-- 240 µs after the start the mask ends, and a contact still open counts as open (R195). -/
def maskEnd (srcB : Bool) (c : GCtx) : GCtx :=
  match (if srcB then c.g.maskB else c.g.maskA) with
  | none => c
  | some t =>
    if c.now < t + 240 then c
    else
      let c := c.mod (fun g => if srcB then { g with maskB := none } else { g with maskA := none })
      (List.range 16).foldl (fun c n => judgeChange n srcB (c.inp n) (c.setIn n (SafIn.unmask srcB c.now))) c

/-! ### Comparators (R197, R198) -/

/-- Comparator `n`. -/
def GCtx.cmp (c : GCtx) (n : Nat) : FastCmp := atD c.g.fc n {}
/-- Change comparator `n`. -/
def GCtx.setCmp (c : GCtx) (n : Nat) (f : FastCmp → FastCmp) : GCtx := c.mod (fun g => { g with fc := updN g.fc n f })

/-- The mask of a self-test is open: 40 µs (R198). -/
def testMasked (now : Nat) (x : FastCmp) : Bool := match x.lastTest with | some t => decide (now < t + 40) | none => false

/-- A pad crosses in the trip direction (R197): a qualifying event of an enabled comparator, but for one inside the mask of its
self-test (R198). -/
def crossing (n : Nat) (c : GCtx) : GCtx :=
  match c.cmpRec n with
  | none => c
  | some _ =>
    if (c.cmp n).active then c
    else
      let hid := testMasked c.now (c.cmp n)
      let c := c.setCmp n (fun x => { x with active := true, cross := true, hidden := hid })
      if hid then c else hardTrip (c.causeAt 3 n) c

/-- A comparator that has become active inside its mask and is still active after it reaches the trip latch then. -/
def unhide (n : Nat) (c : GCtx) : GCtx :=
  let x := c.cmp n
  if x.hidden && x.active && !(testMasked c.now x) then hardTrip (c.causeAt 3 n) (c.setCmp n (fun x => { x with hidden := false })) else c

/-- The pad returns past the hysteresis point (R197). -/
def cmpReturn (n : Nat) (c : GCtx) : GCtx := c.setCmp n (fun x => { x with active := false, hidden := false })

/-- A self-test of a comparator (R198): `quiet` says that its port is in IDLE, ENDED or DISABLED with both contactors agreeing
open, `ok` that the output changed. -/
def selfTest (n : Nat) (quiet ok : Bool) (c : GCtx) : GCtx :=
  match c.cmpRec n with
  | none => c
  | some r =>
    let due : Bool := match (c.cmp n).lastTest with | some t => decide (t + 60000000 ≤ c.now) | none => true
    if r.selfTest && quiet && due && !(c.cmp n).active then
      let c := c.setCmp n (fun x => { x with lastTest := some c.now, lastPass := if ok then c.now else x.lastPass })
      if ok then c else essential 10 c
    else c

/-- No test of a comparator has passed within FC_TEST_MAX hours, counted at first from the application of its record (R198). -/
def testLate (n : Nat) (c : GCtx) : GCtx :=
  match c.cmpRec n with
  | none => c
  | some r =>
    if r.selfTest ∧ c.g.applied ∧ max (c.cmp n).lastPass c.g.appliedAt + c.glob.fcTestMax * 3600000000 ≤ c.now then nonEssential 11 c else c

/-! ### Gates (R196, R203, R206) -/

/-- Every input whose PORTS mask includes `p` is CLOSED. -/
def inputsFor (c : GCtx) (p : Nat) : Bool := c.ins.all (fun r => !(bitOf p r.ports) || ((c.inp r.si).closed && !(c.inp r.si).fault))

/-- The conditions of R206 but for the request; until a Seam handover is complete the gates stay as they are (R211). -/
def gateCond (c : GCtx) (p : Nat) : Bool :=
  (c.g.st = .run || c.g.st = .degraded) && inputsFor c p && !(atD c.g.gates p {}).rbBad && !c.g.standby && !c.g.hbWait && c.g.latch.isNone

/-- Enable gate `p` where it is requested and its conditions hold (R206). -/
def tryGate (p : Nat) (c : GCtx) : GCtx :=
  let x := atD c.g.gates p {}
  if x.req && !x.en && gateCond c p then
    outsFollow (c.mod (fun g => { g with gates := updN g.gates p (fun x => { x with en := true, dropAt := none }) }))
  else c

/-- The port stack requests its gate. -/
def gateRequest (p : Nat) (c : GCtx) : GCtx :=
  tryGate p (c.mod (fun g => { g with gates := updN g.gates p (fun x => { x with req := true }) }))

/-- The port stack withdraws its request: the gate goes off at once (R206). -/
def gateWithdraw (p : Nat) (c : GCtx) : GCtx :=
  outsFollow (c.mod (fun g => { g with gates := updN g.gates p (fun _ => { (atD g.gates p {}) with req := false, en := false, dropAt := none }) }))

/-- A heartbeat is present: one within the last 10 ms (R210). -/
def hbPresent (c : GCtx) : Bool := match c.g.hbAt with | some t => decide (c.now ≤ t + 10000) | none => false

/-- |I_p| of a port counts as below I_OPEN (R203). -/
def belowOpen (c : GCtx) (p : Nat) : Bool :=
  hbPresent c && decide ((atD c.g.hbI p 0).natAbs < c.iOpen.getD p 0)

/-- Gates that a PORT response or SOFT disables once the current has fallen (R196, R203). -/
def gateFalls (c : GCtx) : GCtx :=
  let c := (List.range 12).foldl (fun c p =>
    let x := atD c.g.gates p {}
    if x.en && (x.dropAt.isSome || c.g.st = .soft) && belowOpen c p then c.mod (gateOff p) else c) c
  outsFollow c

/-- 100 ms after a PORT input opened (R196). -/
def portTimeout (p : Nat) (c : GCtx) : GCtx :=
  match (atD c.g.gates p {}).dropAt with
  | some t => if t + 100000 ≤ c.now then outsFollow (c.mod (gateOff p)) else c
  | none => c

/-- SOFT ends when every gate is disabled (R203). -/
def softDone (c : GCtx) : GCtx :=
  if c.g.st = .soft ∧ (List.range 12).all (fun p => !(atD c.g.gates p {}).en) then enterClearing c else c

/-- The ramp limit of SOFT (R203). -/
def rampLimit (c : GCtx) : GCtx :=
  if c.g.st = .soft ∧ c.g.softAt + c.g.softLimit ≤ c.now then enterClearing c else c

/-! ### The cycle (R191, R192, R204) -/

/-- What the diagnostics of a cycle find (Table 7.1). -/
structure GaiterObs where
  compute : Bool := false
  ram : Bool := false
  param : Bool := false
  tripRb : Bool := false
  /-- Ports whose driver enable reads on. -/
  gateRb : Nat := 0
  /-- Outputs whose read-back is high. -/
  soHigh : Nat := 0
  gtp : Bool := false
  deriving DecidableEq, Repr

/-- The essential faults of a cycle; PARAM is essential at a second mismatch within 10 s. A driver enable that reads on and an output that
reads high are faults where the gate is disabled and where the output is off. -/
def obsEssential (o : GaiterObs) (c : GCtx) : GCtx :=
  let again : Bool := match c.g.paramAt with | some t => decide (c.now < t + 10000000) | none => false
  let rb (p : Nat) : Bool := bitOf p o.gateRb && !(atD c.g.gates p {}).en
  let so (n : Nat) : Bool := bitOf n o.soHigh && !((atD c.g.so n {}).level c.glob.offp c.now)
  let badGate := (List.range 12).any rb
  let badSo := (List.range 8).any so
  let c := c.mod (fun g => { g with gates := mapIdx g.gates (fun p (x : Gate) => if rb p then { x with rbBad := true } else x) })
  let c := if o.compute then essential 0 c else c
  let c := if o.ram then essential 1 c else c
  let c := if o.param && again then essential 2 c else c
  let c := if o.tripRb && c.g.trip then essential 5 c else c
  let c := if badGate then essential 6 c else c
  if badSo then essential 7 c else c

/-- One of Gaiter's two die sensors differs from one of the other six by more than 10 K (Table 7.1, row TEMP). -/
def tempBad (ts : Vector Int 8) : Bool :=
  [6, 7].any (fun k => (List.range 6).any (fun n => decide (100 < (atD ts k 0 - atD ts n 0).natAbs)))

/-- The non-essential faults of a cycle; the die sensors are compared every 1 s. -/
def obsNonEssential (o : GaiterObs) (c : GCtx) : GCtx :=
  let again : Bool := match c.g.paramAt with | some t => decide (c.now < t + 10000000) | none => false
  let c := if o.param && !again then nonEssential 2 c else c
  let c := if o.param then c.mod (fun g => { g with paramAt := some c.now }) else c
  let c := if o.gtp then nonEssential 9 c else c
  if c.now < c.g.tempNext then c
  else
    let c := c.mod (fun g => { g with tempNext := c.now + 1000000 })
    if tempBad c.temps then nonEssential 12 c else c

/-- One Gaiter cycle, its causes in the order of R204, then gates and outputs. -/
def gaiterCycle (o : GaiterObs) (c : GCtx) : GCtx :=
  let c := settleTrip ((List.range 24).foldl (fun c n => unhide n c) c)
  let c := obsNonEssential o (takeSoft (obsEssential o c))
  let c := softDone (gateFalls c)
  (outsFollow ((List.range 12).foldl (fun c p => tryGate p c) c)).mod (fun g => { g with low := none })

/-- The clock comparison at the end of a window (R192, rows 3 and 4): deviations in 0.1 %. -/
def clockWindow (dRef dGl : Int) (c : GCtx) : GCtx :=
  let r := decide (30 < dRef.natAbs)
  let g := decide (50 < dGl.natAbs)
  if r && g then essential 3 c else if r || g then nonEssential 4 c else c

/-! ### HOLD, RESUME, degraded timer, heartbeat -/

/-- A non-essential fault has been flagged. -/
def nonEssentialFlag (c : GCtx) : Option Nat := nonEssentialBits.find? (fun b => bitOf b c.g.diag)

/-- The first input with the given RESP that is not CLOSED. -/
def inputNot (c : GCtx) (k : SafResp) : Option Nat :=
  (List.range 16).find? (fun n => match c.inRec n with
    | some r => r.resp = k && !((c.inp n).closed && !(c.inp n).fault)
    | none => false)

/-- The first active comparator. -/
def activeCmp (c : GCtx) : Option Nat := (List.range 24).find? (fun n => (c.cmp n).active)

/-- Degraded time is left (R209). -/
def degLeft (c : GCtx) : Nat := match c.g.degEnd with
  | some t => t - c.now
  | none => 0

/-- The first cause present in HOLD, in the order of Table 7.3. -/
def holdCause (c : GCtx) : Option Cause :=
  match inputNot c .hard with
  | some n => some (c.causeAt 1 n)
  | none =>
    match activeCmp c with
    | some n => some (c.causeAt 3 n)
    | none =>
      match c.g.ess with
      | some b => some (c.causeAt 4 b)
      | none =>
        match inputNot c .soft with
        | some n => some (c.causeAt 2 n)
        | none =>
          match (if c.glob.degEn then none else nonEssentialFlag c) with
          | some b => some (c.causeAt 4 b)
          | none => if hbPresent c then none else some (c.causeAt 9 13)

/-- No input with RESP HARD or SOFT is debouncing (R201). -/
def noDebounce (c : GCtx) : Bool :=
  c.ins.all (fun r => !(r.resp = .hard || r.resp = .soft) || !(debouncing r (c.inp r.si)))

/-- Gaiter leaves HOLD (R201, Table 7.3). A standby only releases its TRIP pads, in whatever site state it is (R212). -/
def leaveHold (c : GCtx) : GCtx :=
  if (c.g.st = .hold ∨ c.g.standby) ∧ c.g.applied ∧ noDebounce c then
    if c.g.standby then (if c.g.latch.isNone then c.mod (fun g => { g with trip := false }) else c)
    else match holdCause c with
    | some k => enterClearing ((c.mod (fun g => { g with latch := none })).mod (fun g => { g with cause := k }))
    | none =>
      if c.glob.startResume then enterClearing (c.mod (fun g => { g with cause := c.causeAt 10 0, latch := none }))
      else goState (if degLeft c = 0 then .run else .degraded) (c.mod (fun g => { g with trip := false, latch := none }))
  else c

/-- RESUME would be accepted now (R205). -/
def resumable (c : GCtx) : Bool :=
  c.g.st = .clearing && decide (c.g.clrAt + c.glob.tClrMin * 100000 ≤ c.now) && c.g.latch.isNone
    && (inputNot c .hard).isNone && (inputNot c .soft).isNone && c.g.pendSoft.isEmpty && (activeCmp c).isNone
    && (c.g.ess).isNone && (c.glob.degEn || (nonEssentialFlag c).isNone)
    && c.g.cause.kind != 5 && c.g.cause.kind != 8 && hbPresent c

/-- A write of 1 to GTR_CTRL.RESUME (R205): the flag says that it was accepted. A cause that arrives later in the same cycle takes it back
(R204). -/
def resumeWrite (c : GCtx) : GCtx × Bool :=
  if resumable c then
    (goState (if degLeft c = 0 then .run else .degraded) ((keepLow 6 c).mod (fun g => { g with trip := false })), true)
  else (c, false)

/-- A write of 1 to GTR_CTRL.SOFT (R203); the causes that go before it in the cycle are taken first (R204). -/
def softWrite (c : GCtx) : GCtx × Bool :=
  let t := takeSoft c
  match t.g.st with
  | .soft | .clearing => (c, false)
  | _ => (softReq 100000 (c.causeAt 6 0) c, true)

/-- The degraded timer expires (R209), after the causes that go before it in the cycle (R204). -/
def degExpiry (c : GCtx) : GCtx :=
  match c.g.degEnd with
  | some t =>
    let c := outrank 5 c
    let x := takeSoft c
    if x.g.st = .degraded ∧ t ≤ c.now then softReq 100000 (c.causeAt 5 0) c else c
  | none => c

/-- A heartbeat with the port currents in 0.1 A (R203, R210). -/
def heartbeat (is : Vector Int 12) (c : GCtx) : GCtx := c.mod (fun g => { g with hbAt := some c.now, hbI := is, hbLost := false })

/-- No heartbeat for 10 ms after the first one (R210, R211), in every site state. -/
def hbLoss (fitPeer : Bool) (c : GCtx) : GCtx :=
  match c.g.hbAt with
  | none => c
  | some t =>
    if c.g.hbLost ∨ c.now < t + 10000 then c
    else
      let c := setDiag 13 (c.mod (fun g => { g with hbLost := true }))
      if c.g.standby then c
      else if fitPeer then c.mod (fun g => { g with hbWait := true })
      else softReq 120000 (c.causeAt 9 13) c

/-- The handover has not completed 650 ms after the last heartbeat (R211). -/
def handoverTimeout (c : GCtx) : GCtx :=
  match c.g.hbAt with
  | some t =>
    if c.g.hbWait ∧ t + 650000 ≤ c.now then enterClearing (recordCause (c.causeAt 9 13) c) else c
  | none => c

/-- The handover is complete (R211): gates disabled, standby role. -/
def handoverDone (c : GCtx) : GCtx :=
  outsFollow (c.mod (fun g => { gatesOff g with hbWait := false, standby := true }))

/-- A standby's Gaiter takes over in the journaled site state with its remaining degraded time (spec/10_seam_pair.md R301); a
non-essential fault that it has recorded starts the timer with the full time, unless the journaled one is shorter (R212), so that RUN
becomes DEGRADED, and a RESUME in CLEARING or the leaving of HOLD leads there (R209). In HOLD it asserts TRIP (R202) and leaves HOLD as
any unit does. -/
def gaiterTakeover (j : GState) (left : Nat) (c : GCtx) : GCtx :=
  let full := c.glob.degTime * 60000000
  let fault := (nonEssentialFlag c).isSome
  let until_ : Option Nat :=
    if fault then some (c.now + (if left = 0 ∧ j ≠ .degraded then full else min left full))
    else if j = .degraded ∨ 0 < left then some (c.now + left) else c.g.degEnd
  let c := c.mod (fun g => { g with standby := false, degEnd := until_, low := none })
  match j with
  | .soft | .clearing => enterClearing c
  | .hold => outsFollow (c.mod (fun g => { gatesOff g with st := .hold, trip := true }))
  | .run | .degraded =>
    outsFollow (goState (if fault then .degraded else j) (c.mod (fun g => { g with trip := g.latch.isSome })))

/-! ### Safe outputs (R207) -/

/-- Keep output `n` off until the next power-on or system reset (R207). -/
def failOut (n : Nat) (c : GCtx) : GCtx :=
  c.mod (fun g => { g with so := updN g.so n (fun x => { x with fail := true, on := false }) })

/-- The off-pulse of an output that is on with PULSE set: it goes off for OFFP; `fell` is the read-back at OFFP − 20 µs (R207). -/
def offPulse (n : Nat) (fell : Bool) (c : GCtx) : GCtx :=
  match c.outRec n with
  | none => c
  | some r =>
    if r.pulse && (atD c.g.so n {}).on && (atD c.g.so n {}).pulseAt.isNone then
      let c := c.mod (fun g => { g with so := updN g.so n (fun x => { x with pulseAt := some c.now }) })
      if fell then c else essential 7 c
    else c

/-- The read-back within 100 µs after an off-pulse (R207): an output that does not return high stays off. -/
def outReadback (n : Nat) (high : Bool) (c : GCtx) : GCtx :=
  match (atD c.g.so n {}).pulseAt with
  | none => c
  | some t =>
    if c.now < t + c.glob.offp * 10 then c
    else
      let was := (atD c.g.so n {}).on
      let c := c.mod (fun g => { g with so := updN g.so n (fun x => { x with pulseAt := none }) })
      if was && !high then nonEssential 8 (failOut n c) else c

/-- The inputs at the application of the first-leaf block (R193), over the levels since Gaiter's release. A discrepancy counts from the
application: the contact that changed last is the one that the other must follow. -/
def applyInputs (c : GCtx) : GCtx :=
  let c := c.mod (fun g => { g with applied := true, appliedAt := c.now })
  c.ins.foldl (fun c r => c.setIn r.si (fun x =>
    let lastB : Bool := decide (aSince r x < bSince r x)
    { x with
      closed := settled c.now r x
      wait := if differ r x then some { isB := !lastB, open_ := kOpen lastB r x, at_ := c.now } else none })) c

end Sys2Proof.Machine
end

