-- ==== Sys2Proof/Machine/State/Hst.lean ====
section
/-! DEFINITION. State of the host interfaces, of the OCPP client and of the partner table
(spec/18_host_and_discovery.md R473–R488, R514). -/

namespace Sys2Proof.Machine

/-- The header of an Esing message (spec/18_host_and_discovery.md R479): FLAGS, the payload length the header gives, TAG. -/
structure EsHead where
  flags : Nat := 0
  len   : Nat := 0
  tag   : Nat := 0
  deriving DecidableEq, Repr

/-- A request of the Esing protocol that waits for the one before it on its connection (R479). -/
inductive EsReq where
  | read (m : EsHead) (addr count : Nat)
  | write (m : EsHead) (addr count : Nat) (ws : List Nat)
  | log (m : EsHead) (first count : Nat)
  | sub (m : EsHead) (mask : Nat)
  deriving DecidableEq, Repr

/-- An Esing connection (R477, R480): role 0 VIEW, 1 OPERATE, 2 SERVICE. -/
structure EsConn where
  role : Nat := 0
  mask : Nat := 0
  unsent : Nat := 0
  lastAt : Nat := 0
  /-- Requests that wait, in order of arrival, while one of this connection is relayed to the peer (R479). -/
  waiting : List EsReq := []
  deriving DecidableEq, Repr

/-- Purposes of a charging profile (Table 18.5, block K). -/
inductive ProfPurpose where
  | station | txDefault | tx
  deriving DecidableEq, Repr

/-- Kinds of a charging profile. -/
inductive ProfKind where
  | absolute | daily | weekly | relative
  deriving DecidableEq, Repr

/-- A charging profile. Limits in W, or in A with `amps`; times in s of legal time. -/
structure Profile where
  id : Nat := 0
  purpose : ProfPurpose := .station
  /-- EVSE id: n + 1 for VPn, 0 for all. -/
  evse : Nat := 0
  stack : Nat := 0
  kind : ProfKind := .absolute
  amps : Bool := false
  validFrom : Option Nat := none
  validTo : Option Nat := none
  start : Nat := 0
  duration : Option Nat := none
  /-- Periods: start after the schedule's start in s, and limit; rising. -/
  periods : List (Nat × Rat) := []
  /-- Session number of the transactionId of a TxProfile. -/
  txId : Option Nat := none
  deriving DecidableEq, Repr

/-- Kinds of TransactionEvent messages (R483, R484). -/
inductive OcppKind where
  | started | meter | ended | late
  deriving DecidableEq, Repr

/-- A TransactionEvent message (R483, R485): session number, messageId as GEN and counter, and the record it carries. -/
structure OcppMsg where
  kind : OcppKind
  port : Nat
  tx : Nat
  gen : Nat
  ctr : Nat
  record : Option (List Byte) := none
  ocmf : Option (List Byte) := none
  deriving DecidableEq, Repr

/-- A signed meter value of Ended (R483); the texts are none where the rule gives none. -/
structure SignedValue where
  data : List Byte
  signing : Option String
  encoding : String
  key : Option (List Byte)
  deriving DecidableEq, Repr

/-- A TransactionEvent as it goes out (R481, R483, R485): its kind, the EVSE, the texts of its ids and its signed values. -/
structure OcppWire where
  kind : OcppKind
  evse : Nat
  messageId : List Byte
  transactionId : List Byte
  signed : List SignedValue
  deriving DecidableEq, Repr

/-- A transaction of a port (R483): session number; the session has ended and its record is awaited since then. -/
structure OcppTx where
  num : Nat
  startAt : Nat := 0
  endAt : Option Nat := none
  /-- Ended has been sent without the record (R483). -/
  late : Bool := false
  /-- Instant of the last meter values, or of Started before the first (R483). -/
  meterAt : Nat := 0
  deriving DecidableEq, Repr

/-- The OCPP client (R481–R485). -/
structure Ocpp where
  /-- HST_STAT.OCPP: 0 off, 1 connecting, 2 booting, 3 online, 4 offline. -/
  st : Nat := 0
  delay : Nat := 1
  lostAt : Nat := 0
  queue : List OcppMsg := []
  ctr : Nat := 0
  /-- Ports for which the client holds an authorisation (R140). -/
  held : Vector Bool 12 := Vector.replicate 12 false
  tx : Vector (Option OcppTx) 12 := Vector.replicate 12 none
  /-- Ended transactions that await their records while the port has a later one (R483). -/
  old : List (Fin 12 × OcppTx) := []
  profiles : List Profile := []
  /-- Limits in force (R482): station in kW, port limits in A. -/
  station : Option Rat := none
  limit : Vector (Option Rat) 12 := Vector.replicate 12 none
  /-- Authorisation cache and local list: tokens accepted (Table 18.5). -/
  cache : List Nat := []
  localList : List Nat := []
  deriving DecidableEq, Repr

/-- An entry of the partner table (Table 18.8). -/
structure PtEntry where
  cls : Nat := 0
  st : Nat := 0
  idx : Nat := 0
  id : Nat := 0
  sec : Nat := 0
  deriving DecidableEq, Repr

/-- The host interfaces (Table 18.10). -/
structure Hst where
  /-- LINK and SPEED of the ports as HST_STAT shows them next: the PHYs set them, and the spec gives no command for it. DESIGN CHOICE
  (log 23): after a reset they read 0, and each read leaves a free value. -/
  phy : Nat := 0
  ip : Vector Nat 2 := Vector.replicate 2 0
  conn : Vector (Option EsConn) 2 := Vector.replicate 2 none
  denied : Nat := 0
  tlsFail : Nat := 0
  spiCrc : Nat := 0
  evDrop : Nat := 0
  ptSeq : Nat := 0
  ptRefused : Nat := 0
  /-- The partner table: place and entry, rising, no empty entry (R487). -/
  pt : List (Nat × PtEntry) := []
  ocpp : Ocpp := {}
  deriving DecidableEq, Repr

end Sys2Proof.Machine
end

