-- ==== Sys2Proof/Machine/State/Bramble.lean ====
section
/-! DEFINITION. State of Bramble, the site link over power wiring (spec/12_bramble_site_link.md R333–R361), with what the rules
let a partner keep (R348, R349, R359). -/

namespace Sys2Proof.Machine

/-- 0x0A00 BRM_GLOBAL (Table 12.8). -/
structure BrmGlobal where
  estopLoss : Bool := false
  fbEn : Bool := true
  mainsF : Nat := 50
  bcnP : Nat := 10
  lostN : Nat := 3
  txLevel : Nat := 0
  blankThr : Nat := 6
  tmMargin : Nat := 3
  keySlot : Nat := 0
  deriving DecidableEq, Repr

/-- 0x0A10 BRM_BIND (Table 12.9). -/
structure BrmBind where
  bind : Nat := 0
  cmd : Bool := false
  addr : Nat := 0
  chan : Nat := 0
  maxAge : Nat := 10
  cmdTmo : Nat := 0
  deriving DecidableEq, Repr

/-- 0x0A20 BRM_PARTNER (Table 12.10); no address: a wildcard. -/
structure BrmPartner where
  addr : Option Nat := none
  kind : Nat := 0
  count : Nat := 1
  deriving DecidableEq, Repr

/-- States of a neighbour (BRM_NBRn_HI.STATE). -/
inductive NbrSt where
  | empty | admitted | unreachable | lost
  deriving DecidableEq, Repr

/-- Codes of BRM_NBRn_HI.STATE. -/
def NbrSt.code : NbrSt → Nat
  | .empty => 0 | .admitted => 1 | .unreachable => 2 | .lost => 3

/-- Frame classes (R343). -/
inductive BrmCls where
  | emerg | control | telemetry
  deriving DecidableEq, Repr

/-- Codes of FLAGS (Table 12.4). -/
def BrmCls.code : BrmCls → Nat
  | .emerg => 0 | .control => 1 | .telemetry => 2

/-- A unicast frame waiting or in flight (R342, R344). -/
structure BrmTx where
  ftype : Nat
  cls : BrmCls
  body : List Byte
  seq : Nat
  /-- The binding whose SET this is (R359). -/
  bind : Option Nat := none
  /-- Attempts made; route in use (repeaters); bytes last sent and their tone map, none in robust mode; instant and duration of the last
  attempt in µs. -/
  tries : Nat := 0
  route : List Nat := []
  sent : List Byte := []
  tm : Option (List Nat × Nat) := none
  sentAt : Nat := 0
  dur : Nat := 0
  deriving DecidableEq, Repr

/-- One neighbour: the registers of Table 12.11, tone maps, session, queue. -/
structure BrmNbr where
  addr : Nat := 0
  kind : Nat := 0
  st : NbrSt := .empty
  phase : Nat := 0
  /-- Tone map for sending (loadings, TMID); none: robust mode. -/
  tx : Option (List Nat × Nat) := none
  /-- Tone maps made for receiving, newest first, at most two (R341). -/
  rx : List (List Nat × Nat) := []
  pend : Bool := false
  pendAt : Nat := 0
  /-- Last TMR, and the next retry after a failed refresh (R342). -/
  tmrAt : Nat := 0
  retryAt : Option Nat := none
  errs : Nat := 0
  /-- Last frame heard from the partner, and last one heard on the direct link (R350, R352). -/
  heardAt : Option Nat := none
  linkAt : Option Nat := none
  rcost : Nat := 0xFFFF
  parent : Nat := 0xFE
  /-- Links that the partner's beacon advertises: short address, cost. -/
  links : List (Nat × Nat) := []
  sid : Nat := 0
  txSeq : Nat := 0
  rxSeq : Option Nat := none
  queue : List BrmTx := []
  cur : Option BrmTx := none
  deriving DecidableEq, Repr

/-- A binding's value (R359). -/
structure BindSt where
  val : Nat := 0
  at_ : Option Nat := none
  stale : Bool := true
  deriving DecidableEq, Repr

/-- The flywheel (R338): last crossing taken, half period in µs, crossings ignored in a row. -/
structure Flywheel where
  lock : Bool := false
  last : Option Nat := none
  half : Nat := 10000
  ign : Nat := 0
  deriving DecidableEq, Repr

/-- What a partner keeps (R348, R359): latest nonce, session, last SEQ, channel values with their instant and CMD_TMO. -/
structure BrmRemote where
  addr : Nat
  kind : Nat
  nonce : Nat := 0
  short : Nat := 0xFD
  sid : Option Nat := none
  seq : Option Nat := none
  chans : List (Nat × Nat × Nat × Nat) := []
  deriving DecidableEq, Repr

/-- Bramble. -/
structure Bramble where
  run : Bool := false
  nbrSel : Nat := 0
  admNo : Nat := 0
  /-- The partner table; entry 64 stands for a partner whose JOIN is being refused. -/
  nbr : Vector BrmNbr 65 := Vector.replicate 65 {}
  /-- Last SEQ accepted in a JOIN, by address (R347). -/
  joins : List (Nat × Nat) := []
  bind : Vector BindSt 64 := Vector.replicate 64 {}
  zc : Flywheel := {}
  /-- Partners heard only on the fallback path: addresses. -/
  fbOnly : List Nat := []
  eCrc : Nat := 0
  eBad : Nat := 0
  eLate : Nat := 0
  eAuth : Nat := 0
  eTm : Nat := 0
  eDrop : Nat := 0
  eNoise : Nat := 0
  fbRx : Nat := 0
  fbBad : Nat := 0
  /-- The phase on which the fallback receiver has found SYNC (R356). -/
  fbPhase : Nat := 0
  /-- Sequence of the controller's broadcasts, and the broadcast sent last. -/
  bcnSeq : Nat := 0
  bcast : Option BrmTx := none
  /-- Instant at which the last frame, the answer to it and in-band energy end (R337, R343). -/
  idleAt : Nat := 0
  remote : List BrmRemote := []
  deriving DecidableEq, Repr

end Sys2Proof.Machine
end

