-- ==== Sys2Proof/Machine/State/Cloak.lean ====
section
/-! DEFINITION. State of Cloak, the key storage and cryptographic engine (spec/14_cloak_keys.md R388–R405). -/

namespace Sys2Proof.Machine

/-- Type of a slot (R391; codes of Tables 14.3 and 14.8). -/
inductive KeyType where
  | empty | hmac | aes | p256 | p384 | hss
  deriving DecidableEq, Repr

/-- Code of a slot type (Table 14.8). -/
def KeyType.code : KeyType → Nat
  | .empty => 0 | .hmac => 1 | .aes => 2 | .p256 => 3 | .p384 => 4 | .hss => 5

/-- KTYPE of a key-update message (Table 14.3). -/
def KeyType.ofKtype : Nat → Option KeyType
  | 1 => some .hmac | 2 => some .aes | 3 => some .p256 | 4 => some .p384 | _ => none

/-- One slot: its descriptor and content (R391). ORIGIN: 0 derived, 1 generated, 2 agreed, 3 imported. -/
structure KeySlot where
  typ     : KeyType := .empty
  origin  : Nat := 0
  usage   : Nat := 0
  version : Nat := 0
  key     : Nat := 0
  deriving DecidableEq, Repr

/-- One attempt to regenerate the root secret (R388, R389): in how many of its 32,768 bits the reading differs from the pattern that was
enrolled. -/
structure RootTry where
  errors : Nat
  deriving DecidableEq, Repr

/-- One of the two copies of an MRAM record, with its CRC-32C. -/
structure Copy (α : Type) where
  val : α
  crc : Nat
  deriving DecidableEq, Repr

/-- An MRAM record in two copies (R388, R396, R398). -/
structure Twice (α : Type) where
  a : Copy α
  b : Copy α
  deriving DecidableEq, Repr

/-- A copy passes its check. -/
def Copy.ok {α : Type} (ser : α → List Byte) (c : Copy α) : Bool := c.crc == crc32c (ser c.val)

/-- A record as it is written: twice. -/
def Twice.of {α : Type} (ser : α → List Byte) (x : α) : Twice α := ⟨⟨x, crc32c (ser x)⟩, ⟨x, crc32c (ser x)⟩⟩

/-- The newer copy that passes its check; of equal ones the first. -/
def Twice.take {α : Type} (ser : α → List Byte) (age : α → Nat) (t : Twice α) : Option α :=
  if t.a.ok ser then (if t.b.ok ser && decide (age t.a.val < age t.b.val) then some t.b.val else some t.a.val)
  else if t.b.ok ser then some t.b.val else none

/-- A copy no longer passes its check. -/
def Copy.spoil {α : Type} (ser : α → List Byte) (c : Copy α) : Copy α := { c with crc := crc32c (ser c.val) + 1 }

/-- One copy no longer passes its check. -/
def Twice.spoil {α : Type} (ser : α → List Byte) (second : Bool) (t : Twice α) : Twice α :=
  if second then { t with b := t.b.spoil ser } else { t with a := t.a.spoil ser }

/-- The helper data and the check value stored with them (R388). -/
structure Helper where
  data  : List Byte := Config.helperData
  check : Nat := Config.hkdfExpand (rootPrk 0 Config.rootSecret) (ascii "DXN-ROOT-CHK") % 2 ^ 128
  deriving DecidableEq, Repr

/-- The helper data as bytes. -/
def Helper.bytes (h : Helper) : List Byte := h.data ++ leBytes 16 h.check

/-- The MRAM record of a committed message (R396): the new descriptor, the new content sealed, its tag, and COUNTER. -/
structure KeyRec where
  typ     : KeyType
  origin  : Nat
  usage   : Nat
  version : Nat
  cipher  : List Byte
  tag     : Nat
  ctr     : Nat
  deriving DecidableEq, Repr

/-- The descriptor of a record as bytes. -/
def KeyRec.head (r : KeyRec) : List Byte := leBytes 1 r.typ.code ++ leBytes 1 r.origin ++ leBytes 1 r.usage ++ leBytes 2 r.version

/-- A record as bytes. -/
def KeyRec.bytes (r : KeyRec) : List Byte := r.head ++ r.cipher ++ leBytes 16 r.tag ++ leBytes 8 r.ctr

/-- The image authority key hash as bytes. -/
def anchorBytes (n : Nat) : List Byte := leBytes 32 n

/-- An MRAM record that is kept in two copies (spec/17_thicket_and_events.md Table 17.3, row 4): Cloak's, or the boot-select word with the
BAD marks (spec/15_image_and_start.md R418). -/
inductive MramRec where
  | helper | key (slot : Fin 64) | anchor | boot
  deriving DecidableEq, Repr

/-- An identity certificate (R399): DEV_ID, identity public key, slot 1's public key, signature of the manufacturing root. -/
structure IdCert where
  devId : Nat := 0
  idPk  : List Byte := []
  ktPk  : List Byte := []
  sig   : List Byte := []
  deriving DecidableEq, Repr

/-- The order of the group of P-256 (FIPS 186). -/
def orderP256 : Nat := 0xFFFFFFFF00000000FFFFFFFFFFFFFFFFBCE6FAADA7179E84F3B9CAC2FC632551
/-- The order of the group of P-384 (FIPS 186). -/
def orderP384 : Nat := 0xFFFFFFFFFFFFFFFFFFFFFFFFFFFFFFFFFFFFFFFFFFFFFFFFC7634D81F4372DDF581A0DB248B0A77AECEC196ACCC52973

/-- The first derived value below the order, over the retry counts (Table 14.2, slot 1). -/
def ktValue (prk : Nat) : Nat :=
  ((List.range 256).map (fun k => Config.hkdfExpand prk (ascii "DXN-KT-P384" ++ leBytes 1 k) % 2 ^ 384)).find?
    (fun v => decide (0 < v ∧ v < orderP384)) |>.getD 0

/-- What the manufacturing root signs in a certificate. -/
def IdCert.body (c : IdCert) : List Byte := leBytes 16 c.devId ++ c.idPk ++ c.ktPk

/-- The certificate that manufacture gives a device (R399). -/
def IdCert.made (devId secret : Nat) : IdCert :=
  let prk := rootPrk devId secret
  let c : IdCert := { devId := devId, idPk := Config.hssPublic (idContent prk), ktPk := Config.ecPublic 4 (ktValue prk) }
  { c with sig := (List.range Config.rootSigLen).map (Config.sigOne 1 Config.rootPublic c.body) }
/-- An attestation statement being formed (R401): slot number, the descriptor, the content and CLK_KUCTR when it began (R397), leaf,
challenge. -/
structure AttJob where
  num : Nat
  slot : KeySlot
  kuCtr : Nat
  leaf : Nat
  challenge : List Byte
  deriving DecidableEq, Repr

/-- 0x0D00 CLK_BIND (R404). -/
structure ClkBind where
  service : Nat := 0
  slot : Nat := 16
  deriving DecidableEq, Repr

/-- Cloak. -/
structure Cloak where
  /-- CLK_STAT. -/
  ready : Bool := false
  rootFail : Bool := false
  margin : Bool := false
  rngFail : Bool := false
  attempts : Nat := 0
  /-- PRK (R388) while the root secret is held. -/
  prk : Option Nat := none
  /-- The helper data (R388). -/
  helper : Twice Helper := Twice.of Helper.bytes {}
  slots : Vector KeySlot 64 := Vector.replicate 64 {}
  /-- The records of committed messages, by the slot that they name (R396). -/
  store : Vector (Option (Twice KeyRec)) 64 := Vector.replicate 64 none
  /-- The identity that slot 2 is bound to (R392). -/
  bound : Option Nat := none
  /-- CLK_KUCTR. -/
  kuCtr : Nat := 0
  /-- CLK_KU window, words at byte offset. -/
  ku : List (Nat × Nat) := []
  /-- The message being judged. -/
  job : Option (List Byte) := none
  result : Nat := 0
  /-- Image authority key hash (Table 14.5); none: the default from manufacture. -/
  anchor : Option (Twice Nat) := none
  /-- CLK_ATT window and CLK_ATT_CTRL. -/
  att : List (Nat × Nat) := []
  attSlot : Nat := 0
  attDone : Bool := false
  attJob : Option AttJob := none
  /-- Next leaf to use and N_RES (R400). -/
  leaf : Nat := 0
  nRes : Nat := 0
  kuRefused : Nat := 0
  keyMiss : Nat := 0
  /-- Identity certificate (R399). -/
  cert : IdCert := IdCert.made 0 Config.rootSecret
  /-- The DRBG (R402): instant of its last reseeding and the requests since. -/
  seededAt : Nat := 0
  requests : Nat := 0
  /-- Healthy samples in succession since the health test failed (R402). -/
  healthy : Nat := 0
  deriving DecidableEq, Repr

end Sys2Proof.Machine
end

