-- ==== Sys2Proof/Machine/State/Lacing.lean ====
section
/-! DEFINITION. State of Lacing, the stack-monitor chain master (spec/11_lacing_stack_chain.md R310–R332). Cell voltages are
in 100 µV as a node returns them; registers show mV. -/

namespace Sys2Proof.Machine

/-- 0x0900 LAC_GLOBAL (Table 11.8). -/
structure LacGlobal where
  sweepP : Nat := 100
  balEn : Bool := true
  balGate : Bool := true
  settle : Nat := 3
  gateEvery : Nat := 10
  owSettle : Nat := 3
  owPeriod : Nat := 60
  owThr : Nat := 400
  balOn : Nat := 20
  balOff : Nat := 5
  balFloor : Nat := 0
  devD : Nat := 150
  pairTol : Nat := 50
  deriving DecidableEq, Repr

/-- 0x0910 LAC_CHAIN (Table 11.9). -/
structure LacChain where
  chain : Nat := 0
  nodes : Nat := 1
  cellOv : Nat := 1500
  cellUv : Nat := 500
  tOt : Int := 0
  tUt : Int := -400
  deriving DecidableEq, Repr

/-- Chain states (Table 11.6). -/
inductive LacSt where
  | off | wake | enum | run | fault
  deriving DecidableEq, Repr

/-- Codes of LACc_STAT.STATE (Table 11.10). -/
def LacSt.code : LacSt → Nat
  | .off => 0 | .wake => 1 | .enum => 2 | .run => 3 | .fault => 4

/-- One cell: its latest reading as reported and as the node gave it, flags, and its latest reading without BALX with the instant. -/
structure LacCell where
  v : Nat := 0
  raw : Nat := 0
  balx : Bool := false
  open_ : Bool := false
  dev : Bool := false
  /-- A test without an open wire has confirmed the deviation (R328). -/
  real : Bool := false
  clean : Option (Nat × Nat) := none
  /-- Beyond CELL_OV or CELL_UV at the last complete sweep (R323). -/
  beyond : Bool := false
  elig : Bool := false
  deriving DecidableEq, Repr

/-- One node. -/
structure LacNode where
  cell : Vector LacCell 16 := Vector.replicate 16 {}
  t0 : Int := 0
  t1 : Int := 0
  stk : Nat := 0
  /-- Temperatures beyond T_OT or T_UT at the last complete sweep (R323): bit 0 T0, bit 1 T1. -/
  beyondT : Nat := 0
  /-- Mask in force during the last sweep, and the mask last written. -/
  mask : Nat := 0
  maskW : Nat := 0
  /-- A result block since the node's admission has shown the mask that it had kept (R319). -/
  known : Bool := false
  /-- The node stands beyond NODES and is refused (R316). -/
  refused : Bool := false
  lost : Bool := false
  uv : Bool := false
  ref : Bool := false
  balHot : Bool := false
  /-- Suspect wires W0–W16 (R327), confirmed open wires, tests in a row without a signature per open wire. -/
  suspect : Nat := 0
  openW : Nat := 0
  clean : Vector Nat 17 := Vector.replicate 17 0
  /-- A valid result block of the sweep in progress has come. -/
  got : Bool := false
  /-- Consecutive sweeps without results. -/
  miss : Nat := 0
  serial : Nat := 0
  testedAt : Option Nat := none
  late : Bool := false
  deriving DecidableEq, Repr

/-- What a command in flight is for. -/
inductive LacOp where
  | ident (h : Nat) | read (h : Nat) | mask (h v : Nat) | owt (h : Nat) | owRead (h : Nat)
  deriving DecidableEq, Repr

/-- A command that awaits its response (R314). -/
structure LacCmd where
  op : LacOp
  cseq : Nat
  retried : Bool := false
  sentAt : Nat
  deriving DecidableEq, Repr

/-- One chain. -/
structure LacCh where
  st : LacSt := .off
  wakeAt : Nat := 0
  faultAt : Nat := 0
  attempts : Nat := 0
  found : Nat := 0
  /-- Identities read in this enumeration (serial numbers), and whether the reading has ended. -/
  idents : List Nat := []
  enumDone : Bool := false
  /-- Node 31 has a node beyond it (R316). -/
  more : Bool := false
  admitAt : Nat := 0
  complete : Bool := false
  partial_ : Bool := false
  limit : Bool := false
  owLate : Bool := false
  swid : Nat := 0
  sum : Nat := 0
  /-- Instant of the last complete sweep. -/
  doneAt : Option Nat := none
  vmin : Nat × Nat × Nat := (0, 0, 0)
  vmax : Nat × Nat × Nat := (0, 0, 0)
  tmax : Int × Nat × Nat := (0, 0, 0)
  eCrc : Nat := 0
  eTmo : Nat := 0
  eBad : Nat := 0
  eStale : Nat := 0
  owWire : Nat := 0
  owNode : Nat := 0
  tests : Nat := 0
  node : Vector LacNode 32 := Vector.replicate 32 {}
  cseq : Nat := 0
  cmd : Option LacCmd := none
  /-- The step of the sweep period (R321), and its commands that are still to be sent. -/
  step : Nat := 6
  todo : List LacOp := []
  /-- Commands answered with BUSY, repeated at the next step (R314). -/
  busy : List LacOp := []
  /-- The sweep in progress has been evaluated (step 3). -/
  evald : Bool := true
  /-- The instant of the last CONVERT (R321), and whether it carried GATE. -/
  convAt : Nat := 0
  gate : Bool := true
  /-- Test requested by the host. -/
  req : Option Nat := none
  /-- OWT running: node and the instant of the command; whether its read has been repeated. -/
  owt : Option (Nat × Nat × Bool) := none
  /-- A test has been started in this sweep period. -/
  owtDone : Bool := false
  deriving DecidableEq, Repr

/-- Lacing (Table 11.10). -/
structure Lacing where
  run : Nat := 0xF
  sweep : Nat := 0
  /-- SWID of the sweep in progress. -/
  swid : Nat := 0
  ch : Vector LacCh 4 := Vector.replicate 4 {}
  deriving DecidableEq, Repr

end Sys2Proof.Machine
end

