-- ==== Sys2Proof/Machine/State/Port.lean ====
section
/-! DEFINITION. State of the vehicle ports, the VP_PORT record and the messages a port exchanges with its vehicle
(spec/05_vehicle_ports.md R127–R158). -/

namespace Sys2Proof.Machine

/-- 0x0500 VP_PORT (Table 5.4). -/
structure VpPort where
  port : Nat := 0
  mcs : Bool := false
  din : Bool := false
  iso2 : Bool := false
  iso20 : Bool := false
  bpt : Bool := false
  pnc : Bool := false
  vsrcMod : Bool := false
  iRated : Nat := 10
  vRated : Nat := 50
  pRated : Nat := 1
  iDis : Nat := 0
  imdSi : Nat := 0
  chkCu : Nat := 0xFF
  tPull : Nat := 10
  holdDuty : Nat := 40
  tFb : Nat := 50
  iOpen : Nat := 5
  tSc : Nat := 10
  tImd : Nat := 50
  pxLo : Nat := 0
  pxHi : Nat := 100
  tStop : Nat := 50
  tPc : Nat := 50
  tLink : Nat := 20
  tAuth : Nat := 60
  deriving DecidableEq, Repr

/-- Port states (Table 5.5). -/
inductive PortState where
  | idle | link | setup | check | precharge | energy | stopping | opening | ended | fault | locked | disabled
  deriving DecidableEq, Repr

/-- The code of a port state (Table 5.5). -/
def PortState.code : PortState → Nat
  | .idle => 0 | .link => 1 | .setup => 2 | .check => 3 | .precharge => 4 | .energy => 5 | .stopping => 6
  | .opening => 7 | .ended => 8 | .fault => 9 | .locked => 10 | .disabled => 11

/-- The Canopy phase of a port state (Table 5.5). -/
def PortState.phase : PortState → Phase
  | .check => .check | .precharge => .precharge | .energy => .energy | .stopping => .stopping | _ => .off

/-- "Any session state" of Table 5.6: LINK to OPENING (R143). -/
def PortState.inSession : PortState → Bool
  | .link | .setup | .check | .precharge | .energy | .stopping | .opening => true
  | _ => false

/-- What the pilot generator drives (R129, Table 5.5; high-impedance before the port runs, spec/15_image_and_start.md R423). -/
inductive Waveform where
  | highZ | plus12 | pwm5 | minus12
  deriving DecidableEq, Repr

/-- The waveform of a port state (Table 5.5). -/
def PortState.wave : PortState → Waveform
  | .idle => .plus12
  | .link | .setup | .check | .precharge | .energy | .stopping | .opening | .ended => .pwm5
  | .fault | .locked | .disabled => .minus12

/-- The two link units of a port (R127, R128): which is powered, and whether the 10BASE-T1S pads are driven. -/
structure LinkUnits where
  modem : Bool
  phy : Bool
  phyPads : Bool
  deriving DecidableEq, Repr

/-- The port kind selects the link: a CCS port powers its modem, an MCS port its 10BASE-T1S PHY; the pads of a PHY that is powered down
are high-impedance (R128). -/
def VpPort.link (k : VpPort) : LinkUnits := { modem := !k.mcs, phy := k.mcs, phyPads := k.mcs }

/-- Pilot classes (Table 5.2, codes of VPn_STAT.PILOT). -/
inductive PilotClass where
  | a | b | c | d | e | diode | invalid
  deriving DecidableEq, Repr

/-- The code of a pilot class (Table 5.10). -/
def PilotClass.code : PilotClass → Nat
  | .a => 0 | .b => 1 | .c => 2 | .d => 3 | .e => 4 | .diode => 5 | .invalid => 6

/-- Protocols (Table 5.3, codes of VPn_STAT.PROTO). -/
inductive Proto where
  | din | iso2 | iso20
  deriving DecidableEq, Repr

/-- The code of a protocol (Table 5.10). -/
def Proto.code : Proto → Nat
  | .din => 1 | .iso2 => 2 | .iso20 => 3

/-- End reasons (Table 5.11). -/
inductive EndReason where
  | none | vehicle | host | credit | pilot | proximity | link | auth | insulation | precharge | contactor
  | dropped | weld | clearing | comm | tls | disabled | short
  deriving DecidableEq, Repr

/-- The code of an end reason (Table 5.11). -/
def EndReason.code : EndReason → Nat
  | .none => 0 | .vehicle => 1 | .host => 2 | .credit => 3 | .pilot => 4 | .proximity => 5 | .link => 6 | .auth => 7
  | .insulation => 8 | .precharge => 9 | .contactor => 10 | .dropped => 11 | .weld => 12 | .clearing => 13
  | .comm => 14 | .tls => 15 | .disabled => 16 | .short => 17

/-- Authorisation of a session (R140); `waiting`: the vehicle has asked while it is not known whether there is a client. -/
inductive Auth where
  | none | waiting | asked | given | refused
  deriving DecidableEq, Repr

/-- The requests a vehicle can make (spec/05_vehicle_ports.md R139–R151). -/
inductive V2gReq where
  | appProtocol | sessionSetup | serviceDiscovery | serviceSelection | authorization | cableCheck | preCharge
  | powerDelivery | chargeLoop | sessionStop | certificateInstallation
  deriving DecidableEq, Repr

/-- Response codes that the rules name (R139, R149, R155, R156, Table 5.6). -/
inductive V2gCode where
  | ok | okNewSession | ongoing | finished | failed | failedMalfunction | failedNoNegotiation | failedSequence
  | failedUnknownSession | failedServiceSelection
  deriving DecidableEq, Repr

/-- The values of a charge-loop response (R86, R150); currents in 0.1 A or A, voltages in 0.1 V. -/
structure LoopAns where
  v : Nat
  i : Int
  adv : Int
  advDis : Int
  pLimit : Int
  vRated : Nat
  vAchieved : Bool
  pAchieved : Bool
  iAchieved : Bool
  stopNote : Bool
  deriving DecidableEq, Repr

/-- An answer of the port to its vehicle. -/
structure V2gAns where
  req : V2gReq
  code : V2gCode
  sid : Nat := 0
  proto : Option Proto := none
  bpt : Bool := false
  v : Nat := 0
  loop : Option LoopAns := none
  deriving DecidableEq, Repr

/-- The head of a received V2GTP message as Table 5.8 judges it. -/
structure V2gHead where
  /-- Version and inverse-version bytes right and payload type known. -/
  formOk : Bool := true
  /-- Payload length field. -/
  len : Nat := 0
  /-- The EXI body decodes. -/
  exiOk : Bool := true
  /-- SessionID carried. -/
  sid : Nat := 0
  /-- EVCCID that a SessionSetup carries. -/
  evcc : Nat := 0
  deriving DecidableEq, Repr

/-- A charge-loop request (R149): currents in 0.1 A, voltages in 0.1 V, power in 0.1 kW. -/
structure LoopReq where
  dynamic : Bool := false
  tgtI : Int := 0
  tgtV : Nat := 0
  maxI : Nat := 0
  maxV : Nat := 0
  maxP : Nat := 0
  disI : Nat := 0
  deriving DecidableEq, Repr

/-- A V2G connection (R156). -/
structure Conn where
  /-- The application handshake is done. -/
  app : Bool := false
  /-- The SessionID that this connection's SessionSetup assigned. -/
  sid : Option Nat := none
  /-- The connection runs over TLS 1.3. -/
  tls : Bool := false
  deriving DecidableEq, Repr

/-- The transport of a V2G connection (spec/10_seam_pair.md R289): the next TCP sequence number of each direction, and under TLS 1.3 the
traffic secrets with their record sequence numbers. -/
structure V2gLink where
  seqIn : Nat := 0
  seqOut : Nat := 0
  tls : Bool := false
  keyIn : Nat := 0
  keyOut : Nat := 0
  recIn : Nat := 0
  recOut : Nat := 0
  deriving DecidableEq, Repr

/-- Bytes that a V2GTP message of `n` payload bytes takes in the stream: its header of 8, and under TLS a record around it, of 5 bytes
of header, the content type and a tag of 16. -/
def V2gLink.bytes (n : Nat) (l : V2gLink) : Nat := n + 8 + (if l.tls then 22 else 0)
/-- A message has been received. -/
def V2gLink.heard (n : Nat) (l : V2gLink) : V2gLink :=
  { l with seqIn := (l.seqIn + l.bytes n) % 2 ^ 32, recIn := if l.tls then l.recIn + 1 else l.recIn }
/-- A message has been sent. -/
def V2gLink.sent (n : Nat) (l : V2gLink) : V2gLink :=
  { l with seqOut := (l.seqOut + l.bytes n) % 2 ^ 32, recOut := if l.tls then l.recOut + 1 else l.recOut }

/-- The drive of the contactor coils (R132). -/
inductive Drive where
  | off | pull | hold
  deriving DecidableEq, Repr

/-- The feedback of the contactors against their command (R135): agreement, a mismatch since an instant, a mismatch that has been
acted on. -/
inductive Mismatch where
  | none
  | since (t : Nat)
  | told
  deriving DecidableEq, Repr

/-- One vehicle port: the registers of Table 5.10 and the state that Tables 5.6 and 5.8 name. -/
structure Port where
  /-- The port's record is applied and the port runs (spec/15_image_and_start.md R421). -/
  run : Bool := false
  enable : Bool := true
  st : PortState := .idle
  /-- Phase OFF while the state is still CHECK or PRECHARGE (R147). -/
  phaseOff : Bool := false
  cls : Option PilotClass := some .a
  hi : Int := 0
  lo : Int := 0
  duty : Nat := 0
  /-- Instant from which pilot D, E or INVALID has been accepted in IDLE (Table 5.6). -/
  pilotBadSince : Option Nat := none
  pilotErrs : Nat := 0
  prox : Bool := false
  kCmd : Bool := false
  kCmdAt : Nat := 0
  drive : Drive := .off
  k0 : Bool := false
  k1 : Bool := false
  /-- How long the feedback has not matched the command (R135). -/
  mis : Mismatch := .none
  /-- Both contactors have agreed closed since the close command (R154). -/
  agreed : Bool := false
  chkOn : Bool := false
  /-- Trigger of an abrupt end whose contactors are still to open (R143). -/
  abruptAt : Option Nat := none
  /-- A FAILED answer still to be given, with its deadline (R143); the flag says EVSE_Malfunction. -/
  failPend : Option (Nat × Bool) := none
  conn : Option Conn := none
  seqAt : Nat := 0
  linkAt : Nat := 0
  auth : Auth := .none
  authAt : Nat := 0
  checkAt : Nat := 0
  checkOkSince : Option Nat := none
  checkPassed : Bool := false
  /-- The insulation input was healthy at the last step (Table 5.6). -/
  imdSeen : Bool := false
  pcAt : Nat := 0
  /-- Instant of a PowerDelivery start whose closing condition is still awaited (R148). -/
  pdAt : Option Nat := none
  /-- PowerDelivery start has been met and the contactors are to close (R148). -/
  pdMet : Bool := false
  stopAt : Nat := 0
  /-- The stop was begun by the port (R150). -/
  portStop : Bool := false
  /-- The vehicle's PowerDelivery stop or SessionStop has come (R150). -/
  vehStop : Bool := false
  faultAt : Nat := 0
  /-- Instants of SHORT and CONTACTOR ends (Table 5.6). -/
  lockTimes : List Nat := []
  shortSince : Option Nat := none
  /-- Instant at which a short was declared, while the check path is still on (R147). -/
  shortAt : Option Nat := none
  proto : Option Proto := none
  bpt : Bool := false
  measV : Nat := 0
  measI : Int := 0
  /-- V_bus, the module-side voltage (R137), in 0.1 V. -/
  vBus : Nat := 0
  evI : Nat := 0
  evV : Nat := 0
  evP : Nat := 0
  evDis : Nat := 0
  dynamic : Bool := false
  /-- A charge-loop request has come in this session (R149). -/
  looped : Bool := false
  tgtV : Nat := 0
  tgtI : Int := 0
  sess : Nat := 0
  /-- EVCCID of the vehicle's last SessionSetup (spec/18_host_and_discovery.md Table 18.8). -/
  evcc : Nat := 0
  sid : Nat := 0
  /-- The session has been reported started and not yet stopped (R152). -/
  reported : Bool := false
  endR : EndReason := .none
  /-- The reason of an end that has begun: STOPPING, or a short whose check path is still on (R158). -/
  pendR : EndReason := .none
  cntShort : Nat := 0
  cntInsul : Nat := 0
  cntWeld : Nat := 0
  cntDrop : Nat := 0
  rej : Nat := 0
  bptTgt : Int := 0
  bptValid : Bool := false
  /-- The port requests its Gaiter gate (R134). -/
  gateReq : Bool := false
  deriving DecidableEq, Repr

/-- The feedback of a contactor does not match its command (R135). -/
def Port.mismatch (p : Port) : Bool := p.k0 != p.kCmd || p.k1 != p.kCmd

/-- The pilot generator of the port (R129, R423). -/
def Port.wave (p : Port) : Waveform := if p.run || p.st = .disabled then p.st.wave else .highZ

end Sys2Proof.Machine
end

