-- ==== Sys2Proof/Machine/State/Power.lean ====
section
/-! DEFINITION. State of Cuff, the protected load-switch array, and of Hem, the auxiliary converter
(spec/13_cuff_and_hem.md R362–R387). -/

namespace Sys2Proof.Machine

/-- 0x0B10 CUF_CHAN (Table 13.7). -/
structure CufChan where
  ch : Nat := 0
  /-- 0 HOST, 1 LOOP, 2 PORT. -/
  owner : Nat := 0
  pwm : Bool := false
  pg : Nat := 0
  ilimC : Nat := 40
  tOc : Nat := 10
  shedRank : Nat := 0
  retain : Bool := false
  retryN : Nat := 0
  retryT : Nat := 1
  phase : Nat := 0
  startDuty : Nat := 0
  deriving DecidableEq, Repr

/-- Causes of Table 13.9. -/
inductive CufCause where
  | none | short | overcurrent | thermal | total | over
  deriving DecidableEq, Repr

/-- Codes of CAUSE (Table 13.9). -/
def CufCause.code : CufCause → Nat
  | .none => 0 | .short => 1 | .overcurrent => 2 | .thermal => 3 | .total => 4 | .over => 5

/-- One Cuff channel in the retained domain (R370). Currents in 10 mA, energies in mJ. -/
structure CufCh where
  /-- The applied settings: the record, or what R386 gives a check-path channel without one. -/
  cfg : Option CufChan := none
  on : Bool := false
  duty : Nat := 0
  phase : Nat := 0
  /-- The duty of the pulses now given; a new duty takes effect at the start of the channel's next period (R369). -/
  dutyNow : Nat := 0
  /-- Back from FAULT, LOCKED or a force, the channel conducts again at the start of its next period (R367, R372). -/
  wait : Bool := false
  force : Bool := false
  fault : Bool := false
  lock : Bool := false
  /-- Why the channel is in FAULT. -/
  cause : CufCause := .none
  /-- A clamp event exceeded 150 mJ (R368). -/
  clampOver : Bool := false
  open_ : Bool := false
  i : Nat := 0
  /-- Sum and number of the current samples of the running period (R365). -/
  acc : Nat := 0
  cnt : Nat := 0
  tj : Int := 25
  faultAt : Nat := 0
  shortSince : Option Nat := none
  ocSince : Option Nat := none
  lowSince : Option Nat := none
  /-- Clamp events: end instant and energy, newest first. -/
  clamps : List (Nat × Nat) := []
  last : Nat := 0
  events : Nat := 0
  faults : Nat := 0
  locks : Nat := 0
  retries : Nat := 0
  /-- Instants of own retries (R367). -/
  retryLog : List Nat := []
  deriving DecidableEq, Repr

/-- Cuff. -/
structure Cuff where
  ch : Vector CufCh 16 := Vector.replicate 16 {}
  /-- Generator frequencies in Hz (Table 13.6). -/
  freq : Vector Nat 4 := Vector.replicate 4 1000
  /-- Where each generator stands in its period, in parts of which a period has 256 × 10⁹, at the last step and its instant (R369). -/
  pos : Vector Nat 4 := Vector.replicate 4 0
  posAt : Nat := 0
  /-- Sum of the channel currents at the last step, in 10 mA. -/
  total : Nat := 0
  /-- The sums of the last 100 ms with their instants, newest first (R366). -/
  hist : List (Nat × Nat) := []
  tshed : Bool := false
  shedAt : Option Nat := none
  deriving DecidableEq, Repr

/-- 0x0C00 HEM_CFG (Table 13.8). -/
structure HemCfg where
  phases : Nat := 1
  minPh : Nat := 1
  fSw : Nat := 100
  vout : Vector Nat 8 := Vector.replicate 8 0
  ssRate : Nat := 1
  nHic : Nat := 5
  tHic : Nat := 200
  ilimPk : Nat := 10
  iPh : Nat := 10
  slope : Nat := 1
  shedPct : Nat := 30
  addPct : Nat := 35
  tShed : Nat := 1
  dvFast : Nat := 10
  rSh : Nat := 50
  kp : Nat := 0
  ki : Nat := 0
  vfbDiv : Nat := 1000
  vinMin : Nat := 50
  vinMax : Nat := 60
  droop : Nat := 0
  deriving DecidableEq, Repr

/-- Hem states (Table 13.3). -/
inductive HemSt where
  | off | softstart | run | hiccup | latched | vinWait
  deriving DecidableEq, Repr

/-- Codes of HEM_STAT.STATE (Table 13.10). -/
def HemSt.code : HemSt → Nat
  | .off => 0 | .softstart => 1 | .run => 2 | .hiccup => 3 | .latched => 4 | .vinWait => 5

/-- A pulse of a phase's PWM output (R377): its start and length, in hundredths of HP0's period, counted from that period's start. -/
structure HemPulse where
  start : Nat := 0
  len : Nat := 0
  deriving DecidableEq, Repr

/-- Hem. Voltages of registers in 10 mV (VIN 0.1 V), currents in 0.1 A; the loop's own values are exact, in V and A. -/
structure Hem where
  cfg : Option HemCfg := none
  st : HemSt := .off
  active : Nat := 0
  phFlt : Nat := 0
  vsel : Nat := 0
  vselBad : Bool := false
  /-- Shedding is blocked since this instant (R384). -/
  blkAt : Option Nat := none
  hic : Nat := 0
  vout : Nat := 0
  vref : Rat := 0
  /-- Target in 10 mV. -/
  target : Nat := 0
  vin : Nat := 0
  iph : Vector Int 4 := Vector.replicate 4 0
  hiccups : Nat := 0
  sheds : Nat := 0
  aborts : Nat := 0
  faults : Nat := 0
  fsel : Nat := 0
  /-- The ring of fault records in MRAM, newest first (R385). -/
  ring : List (List Byte) := []
  integ : Rat := 0
  iC : Rat := 0
  /-- Sums of the phases' mean currents of the last 16 periods, newest first, in 0.1 A (R383). -/
  iHist : List Rat := []
  /-- Consecutive periods in which each phase reached ILIM_PK. -/
  peaks : Vector Nat 4 := Vector.replicate 4 0
  /-- Each phase's share of I_c, in 32nds (R383). -/
  share : Vector Nat 4 := Vector.replicate 4 0
  /-- Each phase's pulse in its last period (R377). -/
  pwm : Vector HemPulse 4 := Vector.replicate 4 {}
  /-- The phase on its way out (R383). -/
  shedding : Option Nat := none
  hicAt : Nat := 0
  runAt : Nat := 0
  lowHalf : Option Nat := none
  low85 : Option Nat := none
  high115 : Option Nat := none
  vinOk : Option Nat := none
  shedOk : Option Nat := none
  addN : Nat := 0
  deriving DecidableEq, Repr

end Sys2Proof.Machine
end

