-- ==== Sys2Proof/Machine/State/Seam.lean ====
section
/-! DEFINITION. State of Seam, the pair link (spec/10_seam_pair.md R282–R309). -/

namespace Sys2Proof.Machine

/-- 0x0800 SEAM_PAIR (Table 10.10). -/
structure SeamPair where
  peerId : Nat := 0
  swapEn : Bool := false
  swapH : Nat := 0
  deriving DecidableEq, Repr

/-- Pair roles (Table 10.1; codes of SEAM_STAT.ROLE). -/
inductive SeamRole where
  | single | start | active | standby | taking | released
  deriving DecidableEq, Repr

/-- Codes of SEAM_STAT.ROLE (Table 10.12). -/
def SeamRole.code : SeamRole → Nat
  | .single => 0 | .start => 1 | .active => 2 | .standby => 3 | .taking => 4 | .released => 5

/-- The items that a journal entry carries when they have changed (R289): twins, ports and the transport of their connections by number, the
OCPP transactions, the top of the session counter's reservation, the epoch, Gaiter's state with the remaining degraded time in µs. -/
structure JExtra where
  twins : List (Nat × TwinJ) := []
  ports : List (Nat × Port) := []
  links : List (Nat × V2gLink) := []
  ocpp : Option Ocpp := none
  sessTop : Option Nat := none
  epoch : Option Nat := none
  gaiter : Option (GState × Nat) := none
  deriving DecidableEq, Repr

/-- A journal entry (R289): Canopy's state of R91 and the other items. -/
structure JFull where
  c : JEntry := {}
  x : JExtra := {}
  deriving DecidableEq, Repr

/-- The bytes of a journal entry or of a state image, whose layout no rule gives (R289, R304). -/
opaque journalBytes : JFull → List Byte

/-- An entry in the standby's ring: the LSEQ of its last frame, the entry, and the unit's own stamp at its receipt (R91); its first slot
of 2 KiB, their number, and the CRC-32C that stands with each of its two copies (R290). -/
structure JHeld where
  lseq : Nat
  e : JFull
  at_ : Nat
  slot : Nat := 0
  slots : Nat := 1
  crc : Vector Nat 2 := Vector.replicate 2 0
  deriving DecidableEq, Repr

/-- A STATUS payload (Table 10.3), with the role that the sender's strap prefers (R283). -/
structure SeamStatus where
  role : Nat := 0
  fit : Nat := 0
  digest : Nat := 0
  fw : Nat := 0
  unfit : Bool := false
  gaiter : Nat := 0
  prefActive : Bool := false
  deriving DecidableEq, Repr

/-- A Seam frame (Table 10.2) with its payload in clear; of a frame that carries a part of an entry or image, the segment header and
the entry. -/
structure SeamFrame where
  typ : Nat := 0
  flags : Nat := 0
  len : Nat := 0
  gen : Nat := 0
  lseq : Nat := 0
  pay : List Byte := []
  /-- The payload as it travels, encrypted. -/
  cipher : List Byte := []
  /-- GCM tag. -/
  tag : Nat := 0
  /-- CRC-32C of all bytes before it. -/
  check : Nat := 0
  entry : Option JFull := none
  deriving DecidableEq, Repr

/-- One lane (R285, R287). -/
structure SeamLane where
  up : Bool := false
  /-- Down for 100 ms after tag failures. -/
  downAt : Option Nat := none
  /-- End of the frames placed on it, in ns: its queue (R285). -/
  freeAt : Nat := 0
  deriving DecidableEq, Repr

/-- What the echo engine or the echo check holds of one group on one bus (R292, R293). -/
structure EchoSt where
  /-- Last EPOCH and SEQ that the module rule accepted. -/
  last : Option (Nat × Nat) := none
  /-- An echo waiting: the frame's bytes and the instant from which it is eligible. -/
  wait : Option (List Byte × Nat) := none
  /-- An original ended OK whose echo is expected: bytes and start. -/
  expect : Option (List Byte × Nat) := none
  deriving DecidableEq, Repr

/-- A relayed access under way at the active (R306). -/
structure RelayPend where
  tag : Nat
  write : Bool
  /-- Next address, words still to do, words of a write, words read so far. -/
  addr : Nat
  left : Nat
  words : List Nat
  got : List Nat
  at_ : Nat
  /-- Channel of the host that asked: 0 SPI, n + 1 Esing connection n; the TAG of its request. -/
  chan : Nat
  esTag : Nat := 0
  /-- The bytes of an SPI transaction so far (spec/18_host_and_discovery.md R474). -/
  sent : List Byte := []
  deriving DecidableEq, Repr

/-- Seam (Table 10.12 and the state its rules name). -/
structure Seam where
  pair : Option SeamPair := none
  role : SeamRole := .single
  /-- Start of the role choice (R283). -/
  startAt : Nat := 0
  /-- The unit drives OWN_N low; another unit drives it low. -/
  drive : Bool := false
  other : Bool := false
  /-- Instant from which another unit has driven OWN_N low (spec/13_cuff_and_hem.md R373). -/
  lowAt : Nat := 0
  /-- A standby has seen OWN_N low. -/
  seenLow : Bool := false
  lane : Vector SeamLane 2 := Vector.replicate 2 {}
  lastAt : Nat := 0
  lastStatusAt : Option Nat := none
  peerLost : Bool := true
  peer : Option SeamStatus := none
  /-- Result shown in PEER_FIT, and the conditions of Table 10.5. -/
  fit : Bool := false
  cond : Nat := 0
  /-- Pair generation, in MRAM. -/
  gen : Nat := 0
  /-- The key of the running generation, where slot 2 has been bound anew since it began (spec/14_cloak_keys.md R397). -/
  genKey : Option Nat := none
  txSeq : Nat := 0
  rxSeq : Option Nat := none
  /-- LSEQ of the last journal frame sent and of the last acknowledged; entries sent but not acknowledged. -/
  jSent : Option Nat := none
  jAck : Option Nat := none
  unacked : List Nat := []
  /-- The active's last 64 entries with the LSEQ of their frames (R290). -/
  kept : List (Nat × JFull) := []
  /-- The items sent last, to find what has changed (R289), and the entries sent since the last that took more than one slot, up to 31
  (R290). -/
  sentX : JExtra := {}
  small : Nat := 31
  /-- Resync in progress; the instant from which entries are acknowledged without a gap (R304). -/
  resync : Bool := false
  resyncAt : Option Nat := none
  /-- A resync has been completed since the roles were taken (R304). -/
  synced : Bool := false
  /-- The standby has asked for a resync in the present GEN (R304). -/
  asked : Bool := false
  /-- The standby's ring, newest first, its next slot, and the items mirrored. -/
  ring : List JHeld := []
  slot : Nat := 0
  mir : JExtra := {}
  /-- The twins mirrored, each with the unit's own stamp at its receipt (spec/06_cooling_and_loops.md R172). -/
  mirTwins : List (Nat × TwinJ × Nat) := []
  /-- LSEQ of the last entry held in the present GEN (R290). -/
  held : Option Nat := none
  /-- Segments of an entry or snapshot being assembled: total, segments held. -/
  asm : Option (Nat × List Nat) := none
  snapAsm : Option (Nat × List Nat) := none
  echo : Vector (Vector EchoSt 4) 4 := Vector.replicate 4 (Vector.replicate 4 {})
  /-- Instants of echo failures on each bus (R293). -/
  echoBad : Vector (List Nat) 4 := Vector.replicate 4 []
  /-- HOLD_N of each bus (R294). -/
  holdN : Vector Nat 4 := Vector.replicate 4 0
  authTimes : List Nat := []
  crcErr : Nat := 0
  badLen : Nat := 0
  late : Nat := 0
  auth : Nat := 0
  mismatch : Nat := 0
  missing : Nat := 0
  /-- Instant of a RELEASE sent whose OWN_N release is due (R296). -/
  relAt : Option Nat := none
  takes : Nat := 0
  reason : Nat := 0
  dur : Nat := 0
  takeTs : Nat := 0
  /-- t0 on the model's clock, and the instant of the last takeover (R305). -/
  t0 : Nat := 0
  lastTake : Option Nat := none
  /-- The ports whose contactors this unit has taken over since it became active (R299). -/
  handed : Vector Bool 12 := Vector.replicate 12 true
  /-- Instant from which the scheduled swap counts. -/
  swapAt : Nat := 0
  /-- Control has been released for a swap, and the tick in which the last heartbeat was written (spec/20_known_limitations.md R507). -/
  swapped : Bool := false
  beatTick : Option Nat := none
  relay : Option RelayPend := none
  relayTag : Nat := 0
  /-- At the standby: the end of the service window (R306). -/
  relayWin : Option Nat := none
  deriving DecidableEq, Repr

end Sys2Proof.Machine
end

