-- ==== Sys2Proof/Machine/State/Image.lean ====
section
/-! DEFINITION. The records of an Otvor image, the configuration they make, the image flash and the loader
(spec/15_image_and_start.md R406–R429, spec/18_host_and_discovery.md Tables 18.1, 18.2, 18.6). -/

namespace Sys2Proof.Machine

/-- 0x0E00 HST_NET (Table 18.1); IPV4, GW and DNS as their four bytes stand. -/
structure HstNet where
  port : Nat := 0
  dhcp : Bool := false
  slaac : Bool := false
  esing : Bool := false
  pfxLen : Nat := 0
  ipv4 : Nat := 0
  gw : Nat := 0
  dns : Nat := 0
  tcp : Nat := 4870
  deriving DecidableEq, Repr

/-- 0x0E10 HST_USER (Table 18.2): key hash and role 0 VIEW, 1 OPERATE, 2 SERVICE. -/
structure HstUser where
  hash : Nat := 0
  role : Nat := 0
  deriving DecidableEq, Repr

/-- 0x0E20 HST_OCPP (Table 18.6). -/
structure HstOcpp where
  url : List Byte := []
  ident : List Byte := []
  secProf : Nat := 2
  offlineUnknown : Bool := false
  meterInt : Nat := 60
  tReconn : Nat := 120
  deriving DecidableEq, Repr

/-- One image record, by type. -/
inductive ImgRec where
  | cnpGlobal (r : CnpGlobal)
  | cnpPort (r : CnpPort)
  | cnpModule (r : CnpModule)
  | cnpGroup (r : CnpGroup)
  | cnpIntake (r : CnpIntake)
  | cnpBuffer (r : CnpBuffer)
  | mbBus (r : MbBusRec)
  | vpPort (r : VpPort)
  | twCable (r : TwCable)
  | cpcLoop (r : CpcLoop)
  | gtrGlobal (r : GtrGlobal)
  | gtrInput (r : GtrInput)
  | gtrCmp (r : GtrCmp)
  | gtrOutput (r : GtrOutput)
  | seamPair (r : SeamPair)
  | lacGlobal (r : LacGlobal)
  | lacChain (r : LacChain)
  | brmGlobal (r : BrmGlobal)
  | brmBind (r : BrmBind)
  | brmPartner (r : BrmPartner)
  | cufGlobal (r : Vector Nat 4)
  | cufChan (r : CufChan)
  | hemCfg (r : HemCfg)
  | clkBind (r : ClkBind)
  | hstNet (r : HstNet)
  | hstUser (r : HstUser)
  | hstOcpp (r : HstOcpp)
  deriving DecidableEq, Repr

/-- The configuration in force: the records applied so far. -/
structure Cfg where
  cnpGlobal  : Option CnpGlobal := none
  cnpPort    : List CnpPort := []
  cnpModule  : List CnpModule := []
  cnpGroup   : List CnpGroup := []
  cnpIntake  : Option CnpIntake := none
  cnpBuffer  : Option CnpBuffer := none
  mbBus      : List MbBusRec := []
  vpPort     : List VpPort := []
  twCable    : List TwCable := []
  cpcLoop    : List CpcLoop := []
  gtrGlobal  : Option GtrGlobal := none
  gtrInput   : List GtrInput := []
  gtrCmp     : List GtrCmp := []
  gtrOutput  : List GtrOutput := []
  seamPair   : Option SeamPair := none
  lacGlobal  : Option LacGlobal := none
  lacChain   : List LacChain := []
  brmGlobal  : Option BrmGlobal := none
  brmBind    : List BrmBind := []
  brmPartner : List BrmPartner := []
  cufGlobal  : Option (Vector Nat 4) := none
  cufChan    : List CufChan := []
  hemCfg     : Option HemCfg := none
  clkBind    : List ClkBind := []
  hstNet     : List HstNet := []
  hstUser    : List HstUser := []
  hstOcpp    : Option HstOcpp := none
  deriving DecidableEq, Repr

/-- A byte store of the device or of its flash: cells in rising address order, none equal to what an unlisted address
reads as. -/
abbrev Store := List Host.Cell

/-- Loader states (Table 15.7a). -/
inductive LoadSt where
  | start | flb | rest | run | wait | refused
  deriving DecidableEq, Repr

/-- Codes of SYS_IMG_STAT.STATE (Table 15.13). -/
def LoadSt.code : LoadSt → Nat
  | .start => 0 | .flb => 1 | .rest => 2 | .run => 3 | .wait => 4 | .refused => 5

/-- An image operation under way (Table 15.9). -/
inductive ImgOp where
  | erase | prog | check | select
  deriving DecidableEq, Repr

/-- How a running operation will end (R427): FAILED, and RESULT where the operation gives one. -/
structure OpEnd where
  failed : Bool := false
  result : Option Nat := none
  deriving DecidableEq, Repr

/-- What the MRAM holds for the loader (R418, R427). -/
structure ImgMram where
  bad : Vector Bool 2 := Vector.replicate 2 false
  /-- Each of the two copies of the boot-select word and the BAD marks passes its CRC-32C (R418). -/
  copyOk : Vector Bool 2 := Vector.replicate 2 true
  checked : Vector Bool 2 := Vector.replicate 2 false
  /-- The boot-select word; none: invalid. -/
  sel : Option (Fin 2) := none
  /-- A staged page 0: its slot and 4 KiB. -/
  staged : Option (Fin 2 × List Byte) := none
  deriving DecidableEq, Repr

/-- The read commands of the flash (R407): the fastest 1-4-4 or 1-8-8 read that the SFDP table advertises, at up to 100 MHz, or command
0x03 on one line at 25 MHz. -/
inductive FlashRead where
  | single | quad | octal
  deriving DecidableEq, Repr

/-- The loader, its registers and the image flash. -/
structure Loader where
  st : LoadSt := .start
  /-- The strap has been decoded since the last reset (R408). -/
  strapOk : Bool := false
  strap : Nat := 0
  strapInv : Bool := false
  sfdp : Bool := false
  /-- How the flash is read (R407). -/
  read : FlashRead := .single
  slot : Fin 2 := 0
  fallback : Bool := false
  /-- Slots tried since START. -/
  tried : List (Fin 2) := []
  errReason : Nat := 0
  errPart : Nat := 0
  errSlot : Nat := 0
  errWord : Nat := 0
  skipAbsent : Nat := 0
  skipUnknown : Nat := 0
  serial : Nat := 0
  /-- Digest of the applied image; 0 before RUN (R425). -/
  digest : Nat := 0
  /-- Records of the applied first-leaf block, with their slot offsets. -/
  leaf : List (Nat × ImgRec) := []
  /-- The image shadow in MRAM: the first-leaf block (R426). -/
  shadow : List Byte := []
  page : Nat := 0
  win : List (Nat × Nat) := []
  /-- An operation running, and how it will end. -/
  op : Option (ImgOp × OpEnd) := none
  opState : Nat := 0
  result : Nat := 0
  mram : ImgMram := {}
  /-- The two slots of the flash (R406): unlisted addresses are erased and read 0xFF. -/
  flash : Vector Store 2 := Vector.replicate 2 []
  /-- The heartbeat has stopped under R424. -/
  hbStopped : Bool := false
  deriving DecidableEq, Repr

end Sys2Proof.Machine
end

