-- ==== Sys2Proof/Machine/HostCore.lean ====
section
/-! DEFINITION. Charging profiles and composite schedules, the OCPP message queue, Esing rights and certificates, and the
partner table (spec/18_host_and_discovery.md R477–R487). -/

namespace Sys2Proof.Machine

/-- The instant at which a profile's schedule began, for the present second; `tx` is the start of the transaction. -/
def Profile.began (p : Profile) (now tx : Nat) : Option Nat :=
  match p.kind with
  | .absolute => if p.start ≤ now then some p.start else none
  | .daily => if p.start ≤ now then some (now - (now - p.start) % 86400) else none
  | .weekly => if p.start ≤ now then some (now - (now - p.start) % 604800) else none
  | .relative => if tx ≤ now then some tx else none

/-- The limit that a profile gives at a second of legal time. -/
def Profile.limitAt (p : Profile) (now tx : Nat) : Option Rat :=
  let early := match p.validFrom with
    | some a => decide (now < a)
    | none => false
  let late := match p.validTo with
    | some b => decide (b ≤ now)
    | none => false
  if early || late then none
  else match p.began now tx with
    | none => none
    | some a =>
      let o := now - a
      let ended := match p.duration with
        | some d => decide (d ≤ o)
        | none => false
      if ended then none else ((p.periods.filter (fun x => decide (x.1 ≤ o))).getLast?).map (·.2)

/-- The profile of the highest stack level that gives a limit now, with its limit. -/
def topProfile (now tx : Nat) (ps : List Profile) : Option (Profile × Rat) :=
  (ps.filterMap (fun p => (p.limitAt now tx).map (fun l => (p, l)))).foldl
    (fun best x => match best with
      | none => some x
      | some b => if b.1.stack < x.1.stack then some x else some b) none

/-- The composite schedule of VPn: a TxProfile of its transaction, else a TxDefaultProfile. -/
def portProfile (o : Ocpp) (n now : Nat) : Option (Profile × Rat) :=
  let tx := atD o.tx n none
  let t0 := (tx.map (·.startAt)).getD 0
  let mine := o.profiles.filter (fun p => p.purpose == .tx && p.evse == n + 1 && tx.isSome && p.txId == tx.map (·.num))
  match topProfile now t0 mine with
  | some x => some x
  | none => topProfile now t0 (o.profiles.filter (fun p => p.purpose == .txDefault && (p.evse == n + 1 || p.evse == 0)))

/-- The station's limit in kW (R482): `uPh` is U in V. -/
def stationLimit (o : Ocpp) (now : Nat) (uPh : Rat) : Option Rat :=
  (topProfile now 0 (o.profiles.filter (fun p => p.purpose == .station))).map
    (fun x => if x.1.amps then x.2 * uPh * 3 / 1000 else x.2 / 1000)

/-- A port's bit 3 limit in A (R482): `v` is V_p in V; in W below 1 V the last value stays, 0 W is 0 A at once. -/
def portLimitA (o : Ocpp) (n now : Nat) (v : Rat) : Option Rat :=
  match portProfile o n now with
  | none => none
  | some (p, l) => if p.amps then some l else if l = 0 then some 0 else if v < 1 then atD o.limit n none else some (l / v)

/-- The composite schedules are evaluated (R482). `vs` are the port voltages in V. -/
def evaluate (now : Nat) (uPh : Rat) (vs : List Rat) (o : Ocpp) : Ocpp :=
  { o with
    station := stationLimit o now uPh
    limit := mapIdx o.limit (fun n _ => portLimitA o n now (vs.getD n 0)) }

/-- A received profile is rejected (R482). `noU`: a variant without a Sleeve whose U_NOM is 0. -/
def profileRejected (noU : Bool) (o : Ocpp) (p : Profile) : Bool :=
  match p.purpose with
  | .station => p.amps && noU
  | .txDefault => false
  | .tx => match atD o.tx (p.evse - 1) none with
    | none => true
    | some t => p.evse == 0 || p.txId != some t.num || t.endAt.isSome

/-- Store a profile: it takes the place of one with its id, or with its purpose, EVSE and stack level. -/
def storeProfile (p : Profile) (o : Ocpp) : Ocpp :=
  let same (q : Profile) : Bool := q.id == p.id || (q.purpose == p.purpose && q.evse == p.evse && q.stack == p.stack)
  { o with profiles := o.profiles.filter (fun q => !same q) ++ [p] }

/-- Place a message in the queue of a lost link (R484): a full queue drops its oldest message of meter values only. -/
def enqueue (m : OcppMsg) (q : List OcppMsg) : List OcppMsg :=
  if q.length < 4096 then q ++ [m]
  else match q.findIdx? (fun x => x.kind == .meter) with
    | some i => q.eraseIdx i ++ [m]
    | none => if m.kind = .meter then q else q ++ [m]

/-- The queue holds only Started and Ended messages and is full: new sessions are refused (R484). -/
def Ocpp.queueFull (o : Ocpp) : Bool := decide (4096 ≤ o.queue.length) && o.queue.all (fun m => m.kind != .meter)

/-- A message is formed (R485): messageId of GEN and a 32-bit counter. -/
def newMsg (kind : OcppKind) (port tx gen : Nat) (rc oc : Option (List Byte)) (o : Ocpp) : OcppMsg × Ocpp :=
  ({ kind := kind, port := port, tx := tx, gen := gen, ctr := o.ctr, record := rc, ocmf := oc }, { o with ctr := (o.ctr + 1) % 2 ^ 32 })

/-- The upper-case hexadecimal digits of a number, most significant first. -/
def hexText (digits n : Nat) : List Byte :=
  let hex (d : Nat) : Byte := if d < 10 then BitVec.ofNat 8 (48 + d) else BitVec.ofNat 8 (55 + d)
  (List.range digits).map (fun k => hex (n / 16 ^ (digits - 1 - k) % 16))

/-- The transactionId of a session number (R483): "DXN" and 8 upper-case hexadecimal digits. -/
def transactionId (n : Nat) : List Byte := ascii "DXN" ++ hexText 8 n

/-- The messageId of a message (R485): GEN and a 32-bit counter in hexadecimal. DESIGN CHOICE (log 121): 8 upper-case digits each. -/
def OcppMsg.messageId (m : OcppMsg) : List Byte := hexText 8 m.gen ++ hexText 8 m.ctr

/-- The character of a 6-bit group in base64. -/
def base64Char (n : Nat) : Byte :=
  let c := if n < 26 then 65 + n else if n < 52 then 71 + n else if n < 62 then n - 4 else if n = 62 then 43 else 47
  BitVec.ofNat 8 c

/-- Base64 with padding. -/
def base64 : List Byte → List Byte
  | [] => []
  | [a] =>
    let v := a.toNat * 16
    [base64Char (v / 64), base64Char (v % 64), 61, 61]
  | [a, b] =>
    let v := a.toNat * 1024 + b.toNat * 4
    [base64Char (v / 4096), base64Char (v / 64 % 64), base64Char (v % 64), 61]
  | a :: b :: c :: rest =>
    let v := a.toNat * 65536 + b.toNat * 256 + c.toNat
    [base64Char (v / 262144), base64Char (v / 4096 % 64), base64Char (v / 64 % 64), base64Char (v % 64)] ++ base64 rest

/-- The signed meter values of a message (R483): its record and, with OCMF, the string. `pk` and `ec` are the public keys of the
Sleeve's two record keys (spec/09_billing_and_tamper.md R271). DESIGN CHOICE (log 121): the string goes out as it is with the key that it
was signed with, and the rule gives the second value no signing method. -/
def OcppMsg.signed (pk ec : List Byte) (m : OcppMsg) : List SignedValue :=
  (match m.record with
    | some r => [{ data := base64 r, signing := some "HSS-SHA256", encoding := "DXN-REC-1", key := some pk }]
    | none => [])
  ++ (match m.ocmf with
    | some t => [{ data := t, signing := none, encoding := "OCMF", key := some ec }]
    | none => [])

/-- A message as it goes out (R481, R483, R485): EVSE id n + 1 is VPn. -/
def OcppMsg.wire (pk ec : List Byte) (m : OcppMsg) : OcppWire :=
  { kind := m.kind, evse := m.port + 1, messageId := m.messageId, transactionId := transactionId m.tx, signed := m.signed pk ec }

/-- A client certificate as the Esing server judges it (R478). -/
structure EsCert where
  /-- What the client offers in its TLS 1.3 handshake (spec/14_cloak_keys.md R403). -/
  hello : TlsHello := {}
  pub : List Byte := []
  /-- Issued directly by the service authority: body signed, and the signature. -/
  body : List Byte := []
  sig : List Byte := []
  /-- ECDSA P-256 or P-384 key, key usage digitalSignature, extended key usage id-kp-clientAuth. -/
  profileOk : Bool := true
  notBefore : Nat := 0
  notAfter : Nat := 0
  deriving DecidableEq, Repr

/-- The role of a client (R478), none: the handshake fails. `utc` is the legal time while its clock is valid. -/
def clientRole (users : List HstUser) (utc : Option Nat) (c : EsCert) : Option Nat :=
  if users.isEmpty then
    let dates := match utc with
      | none => true
      | some t => decide (c.notBefore ≤ t) && decide (t ≤ c.notAfter)
    if c.profileOk && dates && Config.sigVerify 3 c.sig.length Config.servicePublic c.body c.sig then some 2 else none
  else (users.find? (fun u => u.hash == Config.sha256 c.pub)).map (·.role)

/-- The registers that only SERVICE may write (R478): device addresses. -/
def serviceOnly (a : Nat) : Bool :=
  a == 0x70 || a == 0x74 || (decide (0x1000 ≤ a) && decide (a < 0x2000)) || (decide (0x21000 ≤ a) && decide (a < 0x21C84)) || a == 0x20048
    || a == 0x2004 || a == 0x3000 || a == 0x4030 || a == 0x4034

/-- A client of a role may write a register (R478). -/
def mayWrite (role a : Nat) : Bool := role == 2 || (role == 1 && !serviceOnly a)

/-- The registers that a relayed write may address (spec/10_seam_pair.md R306): address and, for GLD_CTRL, the value. -/
def relayWritable (a w : Nat) : Bool :=
  a == 0x70 || a == 0x74 || (decide (0x1000 ≤ a) && decide (a < 0x2000)) || (decide (0x21000 ≤ a) && decide (a < 0x21C84)) || a == 0x20048
    || a == 0x20054 || (decide (0x22000 ≤ a) && decide (a < 0x22C40)) || a == 0x2004 || (a == 0x3000 && w % 4 == 2)

/-- An entry of the partner table is set: a change increments HST_PT_SEQ and takes GLD_SEC (R487). -/
def ptSet (place : Nat) (e : PtEntry) (sec : Nat) (h : Hst) : Hst :=
  let old := (h.pt.find? (fun x => x.1 == place)).map (·.2)
  let same := match old with
    | none => e.cls == 0
    | some o => decide ({ o with sec := 0 } = { e with sec := 0 })
  if same then h
  else
    let rest := h.pt.filter (fun x => x.1 ≠ place)
    { h with
      pt := if e.cls = 0 then rest else insertBy (·.1) (place, { e with sec := sec }) rest
      ptSeq := (h.ptSeq + 1) % 2 ^ 32 }

/-- The 16 bytes of an entry (Table 18.8). -/
def PtEntry.bytes (e : PtEntry) : List Byte :=
  leBytes 1 e.cls ++ leBytes 1 e.st ++ leBytes 2 e.idx ++ leBytes 8 e.id ++ leBytes 4 e.sec

/-- A word of the HST_PT window at byte offset `o` (Tables 18.8 and 18.9). -/
def ptWord (h : Hst) (o : Nat) : Nat :=
  match h.pt.find? (fun x => x.1 == o / 16) with
  | none => 0
  | some x => leAt x.2.bytes (o % 16) 4

/-- Power-on and system reset of the host interfaces (Table 18.10): the queue, the lists and the transactions are in MRAM
and in the journal (R484, R485). -/
def Hst.sysReset (h : Hst) : Hst :=
  { ocpp := { queue := h.ocpp.queue, ctr := h.ocpp.ctr, cache := h.ocpp.cache, localList := h.ocpp.localList } }

end Sys2Proof.Machine
end

