-- ==== Sys2Proof/Machine/PortCore.lean ====
section
/-! DEFINITION. The session state machine of one vehicle port: triggers of Table 5.6, judging of received messages
(Table 5.8), contactors, check path, insulation check, precharge and demand (spec/05_vehicle_ports.md R129–R158). A trigger
takes a port with what the port reads of other units and gives the port with the effects it has on them. -/

namespace Sys2Proof.Machine

/-- What a port reads of other units. -/
structure PEnv where
  now : Nat
  cfg : VpPort
  /-- Gaiter's gate for the port is enabled (R133). -/
  gate : Bool
  /-- The Sleeve gate is closed, or there is none (R133). -/
  sgate : Bool
  /-- IMD_SI reports healthy (R145). -/
  imdOk : Bool
  clearing : Bool
  /-- An HST_OCPP record is applied (R140). -/
  ocpp : Bool
  /-- The whole image is applied (R140). -/
  whole : Bool
  /-- The client holds an authorisation for the port (R140). -/
  held : Bool
  /-- CHECK_CAP in A (spec/02_canopy_allocation.md Table 2.9). -/
  checkCap : Rat
  /-- Four bytes of Cloak's random source (R155). -/
  rand : Nat
  /-- The random source runs (spec/14_cloak_keys.md R402). -/
  rngOk : Bool
  /-- The V2G server has a key to open TLS with (spec/14_cloak_keys.md R404, Table 14.1). -/
  tlsKey : Bool
  /-- The next value of the session counter (R155). -/
  nextSess : Nat
  /-- The port's allocation last sent in 0.1 A, and the limits of R85 in A as the tick released last gives them (R86). -/
  alloc : Int
  adv : Int
  advDis : Int
  lim : Bool
  deriving DecidableEq, Repr

/-- Effects of a port on other units. -/
inductive PEff where
  | ev (e : Ev)
  | answer (a : V2gAns)
  /-- The connection is closed by the port. -/
  | close
  /-- A TLS handshake finds no suitable slot (spec/14_cloak_keys.md R391). -/
  | keyMiss
  /-- A request for a random value completes with NOT_IN_STATE (spec/14_cloak_keys.md R402). -/
  | rngMiss
  /-- The OCPP client is asked for an authorisation; the flag says Plug and Charge, with the contract certificate (R140). -/
  | askAuth (pnc : Bool) (cert : List Byte)
  /-- A held authorisation is used up (R140). -/
  | useHeld
  /-- The Sleeve is told the start of a session (R152). -/
  | sleeveStart
  /-- The Sleeve is told its stop (R152). -/
  | sleeveStop
  /-- A value of the session counter is used (R155). -/
  | newSess
  deriving DecidableEq, Repr

/-- A port at work. -/
structure PCtx where
  p : Port
  e : PEnv
  eff : List PEff
  deriving DecidableEq, Repr

/-- Change the port. -/
def PCtx.mod (c : PCtx) (f : Port → Port) : PCtx := { c with p := f c.p }
/-- Add an effect. -/
def PCtx.add (c : PCtx) (x : PEff) : PCtx := { c with eff := c.eff ++ [x] }

/-! ### Pilot and proximity (R129 to R131) -/

/-- The waveform is PWM: LINK through ENDED (R129). -/
def PortState.pwm (st : PortState) : Bool := st.wave = .pwm5

/-- The pilot is measured unless it is steady −12 V (R129). -/
def PortState.measured (st : PortState) : Bool := st.wave != .minus12

/-- The class of one pilot period (Table 5.2); plateaus in 0.1 V. Under steady +12 V only the high plateau counts. A value
on the edge of two ranges belongs to the higher one. -/
def pilotClass (pwm : Bool) (hi lo : Int) : PilotClass :=
  let low : Bool := !pwm || (decide (-135 ≤ lo) && decide (lo ≤ -105))
  let bcd (k : PilotClass) : PilotClass := if low then k else if -105 < lo then .diode else .invalid
  if 105 ≤ hi ∧ hi ≤ 135 then .a
  else if 75 ≤ hi ∧ hi < 105 then bcd .b
  else if 45 ≤ hi ∧ hi < 75 then bcd .c
  else if 15 < hi ∧ hi < 45 then bcd .d
  else if -15 ≤ hi ∧ hi ≤ 15 then .e
  else .invalid

/-- One pilot period as measured: plateaus in 0.1 V, duty in 0.1 %. -/
structure PilotPeriod where
  hi : Int
  lo : Int
  duty : Nat
  deriving DecidableEq, Repr

/-- B or C. -/
def PilotClass.isBC : PilotClass → Bool
  | .b | .c => true
  | _ => false

/-! ### Entering states -/

/-- Count and record a SHORT or CONTACTOR end, a DROPPED or an INSULATION end (Table 5.10). -/
def countEnd (r : EndReason) (p : Port) : Port :=
  match r with
  | .short => { p with cntShort := satInc 8 p.cntShort }
  | .insulation => { p with cntInsul := satInc 8 p.cntInsul }
  | .contactor | .dropped => { p with cntDrop := satInc 8 p.cntDrop }
  | .weld => { p with cntWeld := satInc 8 p.cntWeld }
  | _ => p

/-- The instants of the last 10 min. -/
def lastTenMin (now : Nat) (ts : List Nat) : List Nat := ts.filter (fun t => decide (now < t + 600000000))

/-- Report the end of a session that moved or could move energy (R152): entry to ENDED, FAULT, LOCKED or DISABLED from any
state later than SETUP. -/
def reportStop (c : PCtx) : PCtx :=
  if c.p.reported then
    ((c.mod (fun p => { p with reported := false })).add .sleeveStop).add (.ev .sessionEnded)
  else c

/-- Leave the session: end reason (R158), session values, connection (closed unless a FAILED answer is still to be given, R143),
gate request withdrawn (R134), check path off (R136), BPT target no longer valid (Table 5.10). -/
def leaveSession (r : EndReason) (c : PCtx) : PCtx :=
  let c := reportStop c
  let c := if c.p.conn.isSome && c.p.failPend.isNone then c.add .close else c
  c.mod (fun p => { p with
    endR := r, pendR := .none, conn := if p.failPend.isSome then p.conn else none, gateReq := false, chkOn := false, phaseOff := false,
    bptValid := false, auth := .none, pdAt := none, pdMet := false, checkPassed := false, checkOkSince := none, shortSince := none,
    shortAt := none, portStop := false, vehStop := false, bpt := false, tgtI := 0, dynamic := false, looped := false, evP := 0, evDis := 0 })

/-- A new command: T_FB counts from it where the feedback does not match (R135). -/
def Port.newCmd (now : Nat) (p : Port) : Port := { p with mis := if p.mismatch then .since now else .none }

/-- Command the contactors open (R132): drive is removed at once. -/
def cmdOpen (c : PCtx) : PCtx :=
  if c.p.kCmd then c.mod (fun p => Port.newCmd c.e.now { p with kCmd := false, kCmdAt := c.e.now, drive := .off, agreed := false })
  else c.mod (fun p => { p with drive := .off })

/-- Command the contactors closed (R132): the coil at 100 % for T_PULL. -/
def cmdClose (c : PCtx) : PCtx :=
  if c.p.kCmd then c
  else c.mod (fun p => Port.newCmd c.e.now { p with kCmd := true, kCmdAt := c.e.now, drive := .pull, agreed := false })

/-- Enter FAULT, or LOCKED at the third SHORT or CONTACTOR end within 10 min (Table 5.6). -/
def enterFault (r : EndReason) (c : PCtx) : PCtx :=
  let c := leaveSession r c
  let ts := if r = .short ∨ r = .contactor then lastTenMin c.e.now c.p.lockTimes ++ [c.e.now] else c.p.lockTimes
  let lock : Bool := (r = .short || r = .contactor) && decide (3 ≤ ts.length)
  c.mod (fun p => { p with st := if lock then .locked else .fault, faultAt := c.e.now, lockTimes := ts, cls := none })

/-- An abrupt end into FAULT (R143): phase OFF at once, contactors opened when |I_p| falls below I_OPEN or after 100 ms. A
short already declared keeps its reason. -/
def abruptEnd (r : EndReason) (c : PCtx) : PCtx :=
  let r := if c.p.shortAt.isSome then .short else r
  let closed := c.p.kCmd
  let c := enterFault r (c.mod (if r = .short then id else countEnd r))
  if closed then c.mod (fun p => { p with abruptAt := some c.e.now }) else c

/-- A weld (R153): LOCKED, the other drive kept off, counted, event. -/
def weld (c : PCtx) : PCtx :=
  let c := cmdOpen (leaveSession .weld (c.mod (countEnd .weld)))
  (c.mod (fun p => { p with st := .locked, cls := none, abruptAt := none })).add (.ev .contactorWeld)

/-- A FAILED answer: to the vehicle's request that still waits, which closes the connection, else to its next request within 2 s
(R143). The flag says EVSE_Malfunction, which ISO 15118-20 does not carry (R147). -/
def failNext (malf : Bool) (c : PCtx) : PCtx :=
  let code : V2gCode := if malf && c.p.proto != some .iso20 then .failedMalfunction else .failed
  if c.p.conn.isNone then c
  else if c.p.pdAt.isSome && !c.p.pdMet then
    ((c.add (.answer { req := .powerDelivery, code := code, sid := c.p.sid })).mod
      (fun p => { p with pdAt := none, conn := none })).add .close
  else c.mod (fun p => { p with failPend := some (c.e.now + 2000000, malf) })

/-- Begin STOPPING (Table 5.6): D_p = 0; the end reason is that of the trigger, written when the session ends (R158). The sequence
timer goes on. -/
def beginStop (r : EndReason) (byPort : Bool) (c : PCtx) : PCtx :=
  c.mod (fun p => { p with st := .stopping, stopAt := c.e.now, pendR := r, portStop := byPort, tgtI := 0, vehStop := !byPort })

/-- Enter ENDED with the end reason already fixed (Table 5.6). -/
def enterEnded (r : EndReason) (c : PCtx) : PCtx := (leaveSession r c).mod (fun p => { p with st := .ended })

/-- IDLE with inserted connector and pilot B or C starts the link (Table 5.6). -/
def tryLink (c : PCtx) : PCtx :=
  let bc : Bool := match c.p.cls with | some k => k.isBC | none => false
  if c.p.st = .idle ∧ bc ∧ c.p.prox then
    c.mod (fun p => { p with st := .link, linkAt := c.e.now, pilotBadSince := none, auth := .none, proto := none })
  else c

/-- ENDED with pilot A and the connector released returns to IDLE (Table 5.6). -/
def tryIdle (c : PCtx) : PCtx :=
  if c.p.st = .ended ∧ c.p.cls = some .a ∧ c.p.prox = false then c.mod (fun p => { p with st := .idle }) else c

/-- A pilot class is accepted (R130, Table 5.6). From the PowerDelivery start that met its condition, pilot B ends the session (R148). -/
def pilotAccept (k : PilotClass) (c : PCtx) : PCtx :=
  if !(c.p.st.measured) then c
  else
    let c := c.mod (fun p => { p with cls := some k })
    let bad : Bool := k = .d || k = .e || k = .invalid
    match c.p.st with
    | .idle =>
      tryLink (c.mod (fun p => { p with
        pilotBadSince := if bad then some (p.pilotBadSince.getD c.e.now) else none }))
    | .ended =>
      if bad || k = .diode then
        let r := c.p.endR
        (enterFault r c).mod (fun p => { p with pilotErrs := p.pilotErrs + 1 })
      else tryIdle c
    | .energy => if k = .c then c else abruptEnd .pilot c
    | .precharge => if bad || k = .diode || k = .a || (k = .b && c.p.pdMet) then abruptEnd .pilot c else c
    | _ => if bad || k = .diode || k = .a then abruptEnd .pilot c else c

/-- Three consecutive periods of one class make it accepted (R130). The plateaus shown are those of the last period, the duty the mean of
the three, rounded to the nearest 0.1 %. -/
def pilotPeriods (a b d : PilotPeriod) (c : PCtx) : PCtx :=
  if !(c.p.st.measured) then c
  else
    let pwm := c.p.st.pwm
    let ka := pilotClass pwm a.hi a.lo
    let duty := (2 * (a.duty + b.duty + d.duty) + 3) / 6
    let c := c.mod (fun p => { p with hi := satI 10 d.hi, lo := satI 10 d.lo, duty := min 1000 duty })
    if ka = pilotClass pwm b.hi b.lo ∧ ka = pilotClass pwm d.hi d.lo ∧ c.p.cls ≠ some ka then pilotAccept ka c else c

/-- The proximity voltage has been in or out of band for 20 ms (R131). -/
def proxChange (mv : Nat) (c : PCtx) : PCtx :=
  let ins := decide (c.e.cfg.pxLo ≤ mv) && decide (mv ≤ c.e.cfg.pxHi)
  if c.p.prox = ins then c
  else
    let c := c.mod (fun p => { p with prox := ins })
    if ins then tryLink c
    else match c.p.st with
      | .energy => abruptEnd .proximity c
      | .ended => tryIdle c
      | .fault =>
        if c.p.faultAt + 5000000 ≤ c.e.now then c.mod (fun p => { p with st := .idle, cls := none }) else c
      | _ => c

/-! ### Contactors (R132, R135, R143, R153, R154) -/

/-- T_PULL has passed: the drive becomes the economiser PWM (R132). -/
def pullInDone (c : PCtx) : PCtx :=
  if c.p.drive = .pull ∧ c.p.kCmdAt + c.e.cfg.tPull * 10000 ≤ c.e.now then c.mod (fun p => { p with drive := .hold }) else c

/-- Both contactors agree closed (Table 5.6, R136): in PRECHARGE after PowerDelivery start the port enters ENERGY. The demand is 0
until the first charge-loop request (R149). -/
def enterEnergy (c : PCtx) : PCtx :=
  c.mod (fun p => { p with st := .energy, chkOn := false, pdAt := none, pdMet := false, looped := false })

/-- The feedback levels (R135): a mismatch counts from the instant it is first seen. -/
def setFeedback (f0 f1 : Bool) (c : PCtx) : PCtx :=
  c.mod (fun p =>
    let p := { p with k0 := f0, k1 := f1 }
    { p with mis := if !p.mismatch then .none else if p.mis = .none then .since c.e.now else p.mis })

/-- Both contactors report closed; not after a declared short (R147). -/
def agreeClosed (c : PCtx) : PCtx :=
  let c := setFeedback true true c
  if c.p.kCmd then
    let c := c.mod (fun p => { p with agreed := true, chkOn := false })
    if c.p.st = .precharge ∧ c.p.pdMet ∧ c.p.shortAt.isNone then enterEnergy c else c
  else c

/-- Both contactors report open; in OPENING the port enters ENDED with the reason of the stop (Table 5.6, R158). -/
def agreeOpen (c : PCtx) : PCtx :=
  let c := setFeedback false false c
  if c.p.kCmd then c
  else if c.p.st = .opening then enterEnded c.p.pendR c else c

/-- A mismatch that has lasted T_FB is a disagreement, acted on once (R135): with an open command a weld, also in LOCKED and in IDLE, ENDED
and DISABLED (R153); with a close command a contactor that failed to close, or has dropped (R154). -/
def disagreeStep (c : PCtx) : PCtx :=
  match c.p.mis with
  | .since t =>
    let live : Bool := c.p.st = .check || c.p.st = .precharge || c.p.st = .energy || c.p.st = .stopping
    if c.e.now < t + c.e.cfg.tFb * 1000 then c
    else if !c.p.kCmd then weld (c.mod (fun p => { p with mis := .told }))
    else if !live then c
    else
      let r : EndReason := if c.p.agreed then (if c.e.sgate then .dropped else .credit) else .contactor
      abruptEnd r (c.mod (fun p => { p with agreed := false, mis := .told }))
  | _ => c

/-- Feedback levels that do not agree with the command, judged now. -/
def disagree (f0 f1 : Bool) (c : PCtx) : PCtx := disagreeStep (setFeedback f0 f1 c)

/-- The low-side drivers have lost their supply and conduct no more (spec/10_seam_pair.md R299): the contactors of a closed port drop. -/
def driversLost (c : PCtx) : PCtx :=
  let off (p : Port) : Port := { p with drive := .off }
  if c.p.kCmd && c.p.agreed then abruptEnd .dropped (c.mod (fun p => { off p with agreed := false })) else c.mod off

/-- After an abrupt end the contactors open below I_OPEN or 100 ms after the trigger (R143). -/
def abruptOpen (c : PCtx) : PCtx :=
  match c.p.abruptAt with
  | none => c
  | some t =>
    if (c.p.measI.natAbs < c.e.cfg.iOpen * 10) ∨ t + 100000 ≤ c.e.now then
      cmdOpen (c.mod (fun p => { p with abruptAt := none }))
    else c

/-! ### Clearing (Table 5.6) -/

/-- The device enters Clearing: contactors open through the gate, end reason CLEARING. -/
def clearingStep (c : PCtx) : PCtx :=
  if c.e.clearing && c.p.st.inSession then cmdOpen (enterFault .clearing c) else c

/-! ### Check, precharge, short (R145 to R148) -/

/-- Clip at 0. -/
def pos (q : Rat) : Rat := max 0 q

/-- V_CHK of R145 in V. -/
def vChk (c : PCtx) : Rat := min ((c.p.evV : Rat) / 10) (c.e.cfg.vRated : Rat)
/-- I_PC of R146 in A. -/
def iPc (c : PCtx) : Rat := min (pos ((c.p.tgtI : Rat) / 10)) c.e.checkCap

/-- D_p of R40 in A (R145, R146, R149). In ENERGY it comes from the latest charge-loop request, 0 before the first; only a session with
bidirectional transfer has a negative one. -/
def demand (c : PCtx) : Rat :=
  let v := (c.p.measV : Rat) / 10
  if c.p.phaseOff then 0
  else match c.p.st with
  | .check => if c.p.checkPassed then 0 else pos (min c.e.checkCap ((vChk c - v) / 2))
  | .precharge => pos (min (iPc c) (((c.p.tgtV : Rat) / 10 - v) / 2))
  | .energy =>
    let imax := (c.p.evI : Rat) / 10
    if !c.p.looped then 0
    else if c.p.dynamic then
      if v < 1 then 0
      else if c.p.bpt && c.p.bptValid then
        max (-((c.p.evDis : Rat) / 10)) (min imax ((c.p.bptTgt : Rat) / 10))
      else min imax (1000 * ((c.p.evP : Rat) / 10) / v)
    else if c.p.bpt then (c.p.tgtI : Rat) / 10
    else pos ((c.p.tgtI : Rat) / 10)
  | _ => 0

/-- The check condition of R145 holds now. -/
def checkHolds (c : PCtx) : Bool :=
  decide (vChk c - 20 ≤ (c.p.measV : Rat) / 10) && c.e.imdOk

/-- The short condition of R147 holds at a snapshot. -/
def shortHolds (c : PCtx) : Bool :=
  let i := (c.p.measI : Rat) / 10
  let v := (c.p.measV : Rat) / 10
  match c.p.st with
  | .check => decide (c.e.checkCap * 9 / 10 ≤ i) && decide (v < vChk c / 2)
  | .precharge => decide (iPc c * 9 / 10 ≤ i) && decide (v < (c.p.tgtV : Rat) / 10 / 2)
  | _ => false

/-- A snapshot latches V_p, I_p and V_bus, and follows the spans of R145 and R147. -/
def snapPort (v : Nat) (i : Int) (vb : Nat) (c : PCtx) : PCtx :=
  let c := c.mod (fun p => { p with measV := sat 16 v, measI := satI 16 i, vBus := sat 16 vb })
  c.mod (fun p => { p with
    checkOkSince := if p.st = .check ∧ checkHolds c then some (p.checkOkSince.getD c.e.now) else none,
    shortSince := if p.shortAt.isNone ∧ shortHolds c then some (p.shortSince.getD c.e.now) else none })

/-- The insulation input opens in CHECK (Table 5.6): it was healthy at the step before. One that is open already ends the check only
after 20 s. -/
def insulationStep (c : PCtx) : PCtx :=
  let opens := c.p.imdSeen && !c.e.imdOk
  let c := c.mod (fun p => { p with imdSeen := c.e.imdOk })
  if c.p.st = .check ∧ opens ∧ c.p.shortAt.isNone then abruptEnd .insulation (failNext false c) else c

/-- A PORT response ends the session of a port (Table 5.6, spec/07_gaiter_safety.md R196): in CHECK the insulation input also has the
next request answered FAILED. -/
def portResponse (imd : Bool) (c : PCtx) : PCtx :=
  if imd && c.p.st = .check && c.p.shortAt.isNone then abruptEnd .insulation (failNext false c)
  else abruptEnd (if imd then .insulation else .clearing) c

/-- The cable check passes (R145). -/
def checkPass (c : PCtx) : PCtx :=
  match c.p.checkOkSince with
  | some t =>
    if c.p.st = .check ∧ !c.p.checkPassed ∧ checkHolds c ∧ t + c.e.cfg.tImd * 100000 ≤ c.e.now then
      c.mod (fun p => { p with checkPassed := true })
    else c
  | none => c

/-- 20 s in CHECK without a pass (Table 5.6). -/
def checkTimeout (c : PCtx) : PCtx :=
  if c.p.st = .check ∧ !c.p.checkPassed ∧ c.p.shortAt.isNone ∧ c.p.checkAt + 20000000 ≤ c.e.now then
    abruptEnd .insulation (failNext false c)
  else c

/-- A short is declared (R147): phase OFF, counted, the next request answered FAILED; without a check path FAULT at once. -/
def shortDeclare (c : PCtx) : PCtx :=
  match c.p.shortSince with
  | some t =>
    if (c.p.st = .check ∨ c.p.st = .precharge) ∧ c.p.shortAt.isNone ∧ t + c.e.cfg.tSc * 10000 ≤ c.e.now then
      let c := failNext true (c.mod (fun p => { countEnd .short p with phaseOff := true, shortAt := some c.e.now, shortSince := none, pendR := .short }))
      if c.e.cfg.chkCu = 0xFF then abruptEnd .short c else c
    else c
  | none => c

/-- The check path goes off below 0.5 A or 20 ms after the declaration, and the port enters FAULT (R147). -/
def shortPathOff (c : PCtx) : PCtx :=
  match c.p.shortAt with
  | some t => if c.p.measI.natAbs < 5 ∨ t + 20000 ≤ c.e.now then abruptEnd .short c else c
  | none => c

/-- The closing condition of R148. -/
def closeCond (c : PCtx) : Bool :=
  c.p.cls = some .c && c.e.gate
    && (c.e.cfg.chkCu == 0xFF || decide ((((c.p.vBus : Int) - (c.p.measV : Int)).natAbs) ≤ 200))

/-- PowerDelivery start met (Table 5.6, R148): close, and ENERGY when the contactors already agree closed. -/
def deliver (c : PCtx) : PCtx :=
  let c := (cmdClose (c.mod (fun p => { p with pdMet := true }))).add (.answer { req := .powerDelivery, code := .ok, sid := c.p.sid })
  if c.p.agreed then enterEnergy c else c

/-- A waiting PowerDelivery start whose condition has become true; none after a declared short (R147). -/
def deliverStep (c : PCtx) : PCtx :=
  if c.p.st = .precharge ∧ c.p.pdAt.isSome ∧ !c.p.pdMet ∧ c.p.shortAt.isNone ∧ closeCond c then deliver c else c

/-- The closing condition has not been met within 1 s (R148). -/
def deliverTimeout (c : PCtx) : PCtx :=
  match c.p.pdAt with
  | some t =>
    if c.p.st = .precharge ∧ !c.p.pdMet ∧ c.p.shortAt.isNone ∧ t + 1000000 ≤ c.e.now then
      abruptEnd .precharge (c.add (.answer { req := .powerDelivery, code := .failed, sid := c.p.sid }))
    else c
  | none => c

/-! ### Timers (Table 5.6) -/

/-- T_LINK expires in LINK. -/
def linkTimeout (c : PCtx) : PCtx :=
  if c.p.st = .link ∧ c.p.linkAt + c.e.cfg.tLink * 1000000 ≤ c.e.now then abruptEnd .link c else c

/-- T_AUTH expires in SETUP (R140). -/
def authTimeout (c : PCtx) : PCtx :=
  if c.p.st = .setup ∧ (c.p.auth = .asked ∨ c.p.auth = .waiting) ∧ c.p.authAt + c.e.cfg.tAuth * 1000000 ≤ c.e.now then enterEnded .auth (failNext false c)
  else c

/-- The sequence timer: 60 s in SETUP, 2 s in CHECK to STOPPING (Table 5.6). -/
def seqLimit (st : PortState) : Option Nat :=
  match st with
  | .setup => some 60000000
  | .check | .precharge | .energy | .stopping => some 2000000
  | _ => none

/-- The sequence timer expires. -/
def seqTimeout (c : PCtx) : PCtx :=
  match seqLimit c.p.st with
  | some d => if c.p.seqAt + d ≤ c.e.now then abruptEnd .comm c else c
  | none => c

/-- T_PC expires before PowerDelivery start. -/
def pcTimeout (c : PCtx) : PCtx :=
  if c.p.st = .precharge ∧ c.p.pdAt.isNone ∧ c.p.shortAt.isNone ∧ c.p.pcAt + c.e.cfg.tPc * 100000 ≤ c.e.now then
    abruptEnd .precharge (failNext false c)
  else c

/-- |I_p| < I_OPEN or T_STOP expires in STOPPING. -/
def stopRamp (c : PCtx) : PCtx :=
  if c.p.st = .stopping ∧ (c.p.measI.natAbs < c.e.cfg.iOpen * 10 ∨ c.p.stopAt + c.e.cfg.tStop * 100000 ≤ c.e.now) then
    cmdOpen (c.mod (fun p => { p with st := .opening }))
  else c

/-- 5 s in FAULT with the connector released. -/
def faultMin (c : PCtx) : PCtx :=
  if c.p.st = .fault ∧ c.p.prox = false ∧ c.p.faultAt + 5000000 ≤ c.e.now then
    c.mod (fun p => { p with st := .idle, cls := none })
  else c

/-- The FAILED answer was not asked for within 2 s: the port closes the connection (R143). -/
def failClose (c : PCtx) : PCtx :=
  match c.p.failPend with
  | some (t, _) =>
    if t ≤ c.e.now then (c.mod (fun p => { p with failPend := none, conn := none })).add .close else c
  | none => c

/-- A pilot error that has lasted 1 s in IDLE (Table 5.6). -/
def pilotErrStep (c : PCtx) : PCtx :=
  match c.p.pilotBadSince with
  | some t =>
    if c.p.st = .idle ∧ t + 1000000 ≤ c.e.now then c.mod (fun p => { p with pilotErrs := p.pilotErrs + 1, pilotBadSince := none })
    else c
  | none => c

/-- The timers of a step, in the order of Table 5.6. -/
def timerStep (c : PCtx) : PCtx :=
  let c := pilotErrStep (pullInDone c)
  let c := authTimeout (linkTimeout c)
  let c := checkTimeout (checkPass c)
  let c := shortPathOff (shortDeclare c)
  let c := deliverTimeout (deliverStep c)
  let c := seqTimeout (pcTimeout c)
  let c := abruptOpen (stopRamp c)
  failClose (faultMin c)

/-! ### Host writes (R157) -/

/-- VPn_CTRL.ENABLE written (Table 5.6). A port without a record stays as it is (R141); a session whose short was its third of 10 min
ends in LOCKED. -/
def enableWrite (b : Bool) (c : PCtx) : PCtx :=
  let c := c.mod (fun p => { p with enable := b })
  if !c.p.run then c
  else if b then (if c.p.st = .disabled then c.mod (fun p => { p with st := .idle, cls := none }) else c)
  else if c.p.st = .locked || c.p.st = .disabled then c
  else if c.p.st.inSession then
    (abruptEnd .disabled c).mod (fun p => { p with st := if p.st = .locked then .locked else .disabled })
  else (leaveSession c.p.endR c).mod (fun p => { p with st := .disabled, cls := none })

/-- VPn_CTRL.STOP or an OCPP stop request; refused outside ENERGY. -/
def portStopWrite (c : PCtx) : PCtx × Bool :=
  if c.p.st = .energy then (beginStop .host true c, true) else (c, false)

/-- VPn_CTRL.CLR_LOCK; refused outside LOCKED or while the feedback still disagrees (R153). -/
def clrLockWrite (c : PCtx) : PCtx × Bool :=
  if c.p.st = .locked ∧ !(c.p.k0 || c.p.k1) then
    (c.mod (fun p => { p with st := if p.enable then .idle else .disabled, cls := none }), true)
  else (c, false)

/-- The port is in a DC_BPT session (R157). -/
def Port.inBpt (p : Port) : Bool := p.bpt && p.st.inSession

/-- VPn_BPT_TGT written; refused outside a DC_BPT session. -/
def bptTgtWrite (t : Int) (v : Bool) (c : PCtx) : PCtx × Bool :=
  if c.p.inBpt then (c.mod (fun p => { p with bptTgt := t, bptValid := v }), true) else (c, false)

/-- The Sleeve announces exhausted credit (R133). -/
def creditNotice (c : PCtx) : PCtx := if c.p.st = .energy then beginStop .credit true c else c

/-- The authorisation is given: the port requests its Gaiter gate (R134). -/
def giveAuth (c : PCtx) : PCtx := c.mod (fun p => { p with auth := .given, gateReq := true })

/-- The answer of the OCPP client (R140). -/
def authAnswer (ok : Bool) (c : PCtx) : PCtx :=
  if c.p.st = .setup ∧ c.p.auth = .asked then
    if ok then giveAuth c
    else enterEnded .auth (failNext false c)
  else c

/-! ### Connections and messages (R139, R140, R149 to R151, R155, R156) -/

/-- Close the connection; in a session state the session ends with COMM (R156). -/
def closeComm (c : PCtx) : PCtx :=
  let c := (c.mod (fun p => { p with conn := none, failPend := none })).add .close
  if c.p.st.inSession then abruptEnd .comm c else c

/-- The vehicle closes the connection. -/
def connClosed (c : PCtx) : PCtx :=
  if c.p.conn.isNone then c
  else
    let quiet := c.p.failPend.isSome
    let c := c.mod (fun p => { p with conn := none, failPend := none })
    if c.p.st.inSession && !quiet then abruptEnd .comm c else c

/-- The TLS handshake fails (R139): the connection closes and SETUP ends with TLS. In ENDED no session is left whose reason could
change (R158). -/
def tlsFail (c : PCtx) : PCtx :=
  if c.p.conn.isNone then c
  else
    let c := (c.mod (fun p => { p with conn := none, failPend := none })).add .close
    if c.p.st = .setup then enterEnded .tls c else c

/-- The vehicle opens a connection, with a TLS 1.3 handshake or without. One connection stands at a time (R156); a handshake for which
Cloak has no key, or whose offer has nothing that R403 supports, fails (spec/14_cloak_keys.md R403, R404). -/
def connOpen (tls : Option TlsHello) (c : PCtx) : PCtx :=
  if c.p.conn.isSome then c.mod (fun p => { p with rej := satInc 16 p.rej })
  else if c.p.st = .setup ∨ c.p.st = .ended then
    let c := c.mod (fun p => { p with conn := some { tls := tls.isSome } })
    if tls.isSome && !c.e.tlsKey then tlsFail (c.add .keyMiss)
    else if tls.any (fun h => !h.ok) then tlsFail c
    else c
  else c

/-- SECC discovery on an up link (Table 5.6). -/
def sdpRequest (c : PCtx) : PCtx :=
  if c.p.st = .link then c.mod (fun p => { p with st := .setup, seqAt := c.e.now }) else c

/-- The present voltage that an answer carries: every PreCharge response has it (R146). -/
def vOf (req : V2gReq) (p : Port) : Nat := if req = .preCharge then p.measV else 0

/-- Refuse a message of Table 5.8 with an answer or without. DESIGN CHOICE (log entry 123): the refusals of R139 and R149, which are no
rows of that table, count in VPn_REJ too. -/
def refuse (req : V2gReq) (code : Option V2gCode) (c : PCtx) : PCtx :=
  let c := c.mod (fun p => { p with rej := satInc 16 p.rej })
  let c := match code with
    | some k => c.add (.answer { req := req, code := k, sid := c.p.sid, v := vOf req c.p })
    | none => c
  closeComm c

/-- The message is allowed in the present state (Table 5.8). Requests before CHECK belong to SETUP; SessionSetup and the
application handshake also to ENDED with pilot B or C; the charge loop also to STOPPING and OPENING after a stop that the port
began, until the vehicle's own stop (R150). Certificate installation is a part of Plug and Charge (Table 5.3); DESIGN CHOICE (log entry
123): where the port does not offer that, the message is one not allowed. -/
def allowed (k : VpPort) (req : V2gReq) (p : Port) : Bool :=
  let bc : Bool := match p.cls with | some k => k.isBC | none => false
  match req with
  | .appProtocol | .sessionSetup => p.st = .setup || (p.st = .ended && bc)
  | .serviceDiscovery | .serviceSelection | .authorization => p.st = .setup
  | .certificateInstallation => p.st = .setup && k.pnc && p.proto = some .iso20
  | .cableCheck => p.st = .setup || (p.st = .check && p.shortAt.isNone)
  | .preCharge => (p.st = .check && p.checkPassed) || p.st = .precharge
  | .powerDelivery => p.st = .precharge || p.st = .energy || ((p.st = .stopping || p.st = .opening) && p.portStop)
  | .chargeLoop => p.st = .energy || ((p.st = .stopping || p.st = .opening) && p.portStop && !p.vehStop)
  | .sessionStop => p.st = .energy || p.st = .stopping || p.st = .opening

/-- Judge a received message (Table 5.8) and, where it is accepted, restart the sequence timer and do `f`. A pending FAILED answer (R143)
goes to a message that the port can read. -/
def judge (req : V2gReq) (h : V2gHead) (f : PCtx → PCtx) (c : PCtx) : PCtx :=
  match c.p.conn with
  | none => c
  | some k =>
    if !h.formOk || decide (16376 < h.len) || !h.exiOk || (!k.app && req != .appProtocol) then refuse req none c
    else match c.p.failPend with
    | some (_, malf) =>
      let code : V2gCode := if malf && c.p.proto != some .iso20 then .failedMalfunction else .failed
      ((c.add (.answer { req := req, code := code, sid := c.p.sid, v := vOf req c.p })).mod
        (fun p => { p with failPend := none, conn := none })).add .close
    | none =>
      if k.app && k.sid.isNone && req != .sessionSetup then refuse req (some .failedSequence) c
      else if k.sid.isSome && req != .sessionSetup && k.sid != some h.sid then refuse req (some .failedUnknownSession) c
      else if !(allowed c.e.cfg req c.p) then refuse req (some .failedSequence) c
      else f (c.mod (fun p => { p with seqAt := c.e.now }))

/-- Answer with the present V_p. -/
def ansV (req : V2gReq) (code : V2gCode) (c : PCtx) : PCtx :=
  c.add (.answer { req := req, code := code, sid := c.p.sid, proto := c.p.proto, bpt := c.p.bpt, v := c.p.measV })

/-- The port record enables a protocol. -/
def VpPort.enables (k : VpPort) : Proto → Bool
  | .din => k.din | .iso2 => k.iso2 | .iso20 => k.iso20

/-- A protocol runs on this connection: ISO 15118-20 over TLS 1.3, the others without TLS (R138, Table 14.1 of spec/14_cloak_keys.md). -/
def PCtx.carries (c : PCtx) (k : Proto) : Bool := c.e.cfg.enables k && (k == .iso20) == (c.p.conn.map (·.tls)).getD false

/-- SupportedAppProtocol (R139): the offers in the vehicle's order of priority, highest first. -/
def appProtocol (offers : List Proto) (c : PCtx) : PCtx :=
  match offers.find? c.carries with
  | some k =>
    let c := c.mod (fun p => { p with proto := some k, conn := p.conn.map (fun x => { x with app := true }) })
    c.add (.answer { req := .appProtocol, code := .ok, proto := some k })
  | none => refuse .appProtocol (some .failedNoNegotiation) c

/-- SessionSetup (R155; FAILED while the random source has stopped, spec/14_cloak_keys.md R402): a new SessionID of the session counter and the random source. Bytes 0 to 3 are the counter, most
significant byte first; byte 0 stands in bits [7:0] of SID0. The rule gives no ResponseCode for a request with SessionID 0: DESIGN
CHOICE (log entry 123), OK. -/
def sessionSetup (reqSid evcc : Nat) (c : PCtx) : PCtx :=
  if !c.e.rngOk then ansV .sessionSetup .failed (c.add .rngMiss) else
  let ctr := c.e.nextSess % 2 ^ 32
  let sid := leNat (beBytes 4 ctr) + (c.e.rand % 2 ^ 32) * 2 ^ 32
  let c := if c.p.st = .ended then c.mod (fun p => { p with st := .setup }) else c
  let c := c.mod (fun p => { p with sess := ctr, evcc := evcc, sid := sid, conn := p.conn.map (fun x => { x with sid := some sid }), auth := .none })
  (c.add .newSess).add (.answer { req := .sessionSetup, code := if reqSid = 0 then .ok else .okNewSession, sid := sid, proto := c.p.proto })

/-- ServiceDiscovery (R149): DC, and DC_BPT with PROTO.BPT, a service of ISO 15118-20 (R138). -/
def serviceDiscovery (c : PCtx) : PCtx :=
  c.add (.answer { req := .serviceDiscovery, code := .ok, sid := c.p.sid, proto := c.p.proto, bpt := c.e.cfg.bpt && c.p.proto = some .iso20 })

/-- ServiceSelection (R149). -/
def serviceSelection (bpt : Bool) (c : PCtx) : PCtx :=
  if bpt && !(c.e.cfg.bpt && c.p.proto = some .iso20) then refuse .serviceSelection (some .failedServiceSelection) c
  else ansV .serviceSelection .ok (c.mod (fun p => { p with bpt := bpt }))

/-- Plug and Charge is offered: the record enables it, the protocol has it (R138), and there is a client to check the certificate
(R140). -/
def pncOffered (c : PCtx) : Bool := c.e.cfg.pnc && c.p.proto = some .iso20 && (c.e.ocpp || !c.e.whole)

/-- T_AUTH counts from the first authorisation request of the session (R140). -/
def authPend (a : Auth) (c : PCtx) : PCtx :=
  c.mod (fun p => { p with auth := a, authAt := if p.auth = .waiting then p.authAt else c.e.now })

/-- Authorization (R140). An identification that the port does not offer is refused. A request in REDUCED without a known client waits;
the vehicle's next request after the whole image has been applied asks the client, or is authorised by the port itself. -/
def authorization (pnc : Bool) (cert : List Byte) (c : PCtx) : PCtx :=
  match c.p.auth with
  | .given => ansV .authorization .finished c
  | .asked => ansV .authorization .ongoing c
  | .refused => ansV .authorization .failed c
  | .none | .waiting =>
    if pnc && !pncOffered c then enterEnded .auth (ansV .authorization .failed c)
    else if c.e.held then ansV .authorization .finished ((giveAuth (authPend .given c)).add .useHeld)
    else if c.e.ocpp then ansV .authorization .ongoing ((authPend .asked c).add (.askAuth pnc cert))
    else if c.e.whole then ansV .authorization .finished (giveAuth (authPend .given c))
    else ansV .authorization .ongoing (authPend .waiting c)

/-- Entry to CHECK (Table 5.6, R136, R152). -/
def enterCheck (vmax imax : Nat) (c : PCtx) : PCtx :=
  let c := c.mod (fun p => { p with st := .check, checkAt := c.e.now, checkOkSince := none, checkPassed := false, shortSince := none,
                                    shortAt := none, imdSeen := c.e.imdOk, phaseOff := false, evV := sat 16 vmax, evI := sat 16 imax, reported := true,
                                    dynamic := false, looped := false, evP := 0, evDis := 0, tgtI := 0 })
  let c := if c.e.cfg.chkCu = 0xFF then cmdClose c else c.mod (fun p => { p with chkOn := true })
  (c.add .sleeveStart).add (.ev .sessionStarted)

/-- CableCheck (R134, R145); the vehicle's maximum voltage and current of its parameters in 0.1 V and 0.1 A. No rule says how one is
answered in SETUP before authorisation is given: DESIGN CHOICE (log entry 123), Ongoing, as where the gate is awaited. -/
def cableCheck (vmax imax : Nat) (c : PCtx) : PCtx :=
  match c.p.st with
  | .setup =>
    if c.p.auth = .given ∧ c.e.gate then ansV .cableCheck .ongoing (enterCheck vmax imax c) else ansV .cableCheck .ongoing c
  | _ => ansV .cableCheck (if c.p.checkPassed then .finished else .ongoing) c

/-- PreCharge (R146). -/
def preCharge (tgtV : Nat) (tgtI : Int) (c : PCtx) : PCtx :=
  let c := if c.p.st = .check then c.mod (fun p => { p with st := .precharge, pcAt := c.e.now, pdAt := none, pdMet := false }) else c
  ansV .preCharge .ok (c.mod (fun p => { p with tgtV := sat 16 tgtV, tgtI := satI 16 tgtI }))

/-- PowerDelivery (R148, R150); a start after the stop has begun is not allowed in that state (Table 5.8). -/
def powerDelivery (start : Bool) (c : PCtx) : PCtx :=
  match c.p.st with
  | .precharge =>
    if start then
      if c.p.pdAt.isSome then c
      else deliverStep (c.mod (fun p => { p with pdAt := some c.e.now }))
    else refuse .powerDelivery (some .failedSequence) c
  | .energy =>
    if start then ansV .powerDelivery .ok c else ansV .powerDelivery .ok (beginStop .vehicle false c)
  | _ =>
    if start then refuse .powerDelivery (some .failedSequence) c
    else ansV .powerDelivery .ok (c.mod (fun p => { p with vehStop := true }))

/-- The power limit of R86 in 0.1 kW. -/
def powerLimit (c : PCtx) : Int :=
  min (c.e.cfg.pRated : Int) ((c.e.adv : Rat) * ((c.p.measV : Rat) / 10) / 100).floor

/-- The answer to a charge-loop request (R86, R150). -/
def loopAns (c : PCtx) : LoopAns :=
  let stop := c.p.st != .energy
  { v := c.p.measV, i := c.p.measI, adv := c.e.adv, advDis := c.e.advDis, pLimit := powerLimit c, vRated := c.e.cfg.vRated,
    vAchieved := decide ((min (c.e.cfg.vRated * 10) c.p.evV : Nat) ≤ c.p.measV + 20),
    pAchieved := decide (((powerLimit c - 10 : Int) : Rat) / 10 ≤ ((c.p.measV : Rat) / 10) * ((c.e.alloc : Rat) / 10) / 1000),
    iAchieved := c.e.lim, stopNote := stop }

/-- A charge-loop request (R149, R150); only ISO 15118-20 has the dynamic mode (R138). -/
def chargeLoop (r : LoopReq) (c : PCtx) : PCtx :=
  let c := if c.p.st = .energy then
      c.mod (fun p => { p with
        looped := true, dynamic := r.dynamic && p.proto = some .iso20, tgtI := satI 16 r.tgtI, tgtV := sat 16 r.tgtV, evI := sat 16 r.maxI, evV := sat 16 r.maxV, evP := r.maxP,
        evDis := r.disI })
    else c
  c.add (.answer { req := .chargeLoop, code := .ok, sid := c.p.sid, proto := c.p.proto, bpt := c.p.bpt, v := c.p.measV,
                   loop := some (loopAns c) })

/-- SessionStop (Table 5.6, R150). -/
def sessionStop (c : PCtx) : PCtx :=
  match c.p.st with
  | .energy => ansV .sessionStop .ok (beginStop .vehicle false c)
  | _ => ansV .sessionStop .ok (c.mod (fun p => { p with vehStop := true }))

/-- A request of the vehicle with its content. -/
inductive PortMsg where
  | appProtocol (h : V2gHead) (offers : List Proto)
  | sessionSetup (h : V2gHead)
  | serviceDiscovery (h : V2gHead)
  | serviceSelection (h : V2gHead) (bpt : Bool)
  | authorization (h : V2gHead) (pnc : Bool) (cert : List Byte)
  | cableCheck (h : V2gHead) (vmax imax : Nat)
  | preCharge (h : V2gHead) (tgtV : Nat) (tgtI : Int)
  | powerDelivery (h : V2gHead) (start : Bool)
  | chargeLoop (h : V2gHead) (r : LoopReq)
  | sessionStop (h : V2gHead)
  | certificateInstallation (h : V2gHead)
  | connOpen (isn : Nat) (tls : Option TlsHello)
  | connClosed
  | tlsFail
  | sdp
  deriving DecidableEq, Repr

/-- The head that a message carries. -/
def PortMsg.head : PortMsg → Option V2gHead
  | .appProtocol h _ | .sessionSetup h | .serviceDiscovery h | .serviceSelection h _ | .authorization h _ _ | .cableCheck h _ _
  | .preCharge h _ _ | .powerDelivery h _ | .chargeLoop h _ | .sessionStop h | .certificateInstallation h => some h
  | .connOpen _ _ | .connClosed | .tlsFail | .sdp => none

/-- What a received message does. -/
def doMsg (m : PortMsg) (c : PCtx) : PCtx :=
  match m with
  | .appProtocol h o => judge .appProtocol h (appProtocol o) c
  | .sessionSetup h => judge .sessionSetup h (sessionSetup h.sid h.evcc) c
  | .serviceDiscovery h => judge .serviceDiscovery h serviceDiscovery c
  | .serviceSelection h b => judge .serviceSelection h (serviceSelection b) c
  | .authorization h b x => judge .authorization h (authorization b x) c
  | .cableCheck h v i => judge .cableCheck h (cableCheck v i) c
  | .preCharge h v i => judge .preCharge h (preCharge v i) c
  | .powerDelivery h b => judge .powerDelivery h (powerDelivery b) c
  | .chargeLoop h r => judge .chargeLoop h (chargeLoop r) c
  | .sessionStop h => judge .sessionStop h sessionStop c
  | .certificateInstallation h => judge .certificateInstallation h (ansV .certificateInstallation .ok) c
  | .connOpen _ tls => connOpen tls c
  | .connClosed => connClosed c
  | .tlsFail => tlsFail c
  | .sdp => sdpRequest c

/-- A trigger that reaches a port in a step (R144). -/
inductive PortTrig where
  | pilot (a b d : PilotPeriod)
  | prox (mv : Nat)
  | feedback (f0 f1 : Bool)
  | msg (m : PortMsg)
  | enable (b : Bool)
  | stop
  | clrLock
  deriving DecidableEq, Repr

/-- The class of a trigger in the order of R144; Clearing (1) and the timers (4) are taken from the state. -/
def PortTrig.cls : PortTrig → Nat
  | .pilot _ _ _ => 2 | .prox _ => 2 | .feedback _ _ => 3 | .msg _ => 5 | .enable _ => 6 | .stop => 6 | .clrLock => 6

/-- What feedback levels do: agreement, or a mismatch that is judged after all levels of the step (R135). -/
def feedback (f0 f1 : Bool) (c : PCtx) : PCtx :=
  if f0 && f1 && c.p.kCmd then agreeClosed c
  else if !f0 && !f1 && !c.p.kCmd then agreeOpen c
  else setFeedback f0 f1 c

/-- What one trigger does. -/
def doTrig (t : PortTrig) (c : PCtx) : PCtx :=
  match t with
  | .pilot a b d => pilotPeriods a b d c
  | .prox mv => proxChange mv c
  | .feedback f0 f1 => feedback f0 f1 c
  | .msg m => doMsg m c
  | .enable b => enableWrite b c
  | .stop => (portStopWrite c).1
  | .clrLock => (clrLockWrite c).1

/-- The 1 ms step of the port (R144): Clearing, pilot and proximity, feedback, timers, messages, host writes. -/
def portStep (ts : List PortTrig) (c : PCtx) : PCtx :=
  let c := clearingStep c
  let c := (ts.filter (fun t => t.cls == 2)).foldl (fun c t => doTrig t c) c
  let c := insulationStep (disagreeStep ((ts.filter (fun t => t.cls == 3)).foldl (fun c t => doTrig t c) c))
  let c := timerStep c
  let c := (ts.filter (fun t => t.cls == 5)).foldl (fun c t => doTrig t c) c
  (ts.filter (fun t => t.cls == 6)).foldl (fun c t => doTrig t c) c

end Sys2Proof.Machine
end

