-- ==== Sys2Proof/Machine/PowerCore.lean ====
section
/-! DEFINITION. Cuff and Hem (spec/13_cuff_and_hem.md R362–R385). -/

namespace Sys2Proof.Machine

/-! ## Cuff -/

/-- Channel `n`. -/
def Cuff.get (c : Cuff) (n : Nat) : CufCh := atD c.ch n {}
/-- Change channel `n`. -/
def Cuff.set (c : Cuff) (n : Nat) (f : CufCh → CufCh) : Cuff := { c with ch := updN c.ch n f }

/-- How a channel's command acts on its output (R364, R369): 0 off, 1 on, 2 pulsing. -/
def cufCmd (c : Cuff) (k : CufCh) : Nat :=
  match k.cfg with
  | some r =>
    if r.pwm then
      let f := atD c.freq r.pg 1000
      -- on-time and off-time in µs are duty × 1,000 / f and (1,000 − duty) × 1,000 / f
      if k.dutyNow * 1000 < 2 * f then 0 else if (1000 - k.dutyNow) * 1000 < 2 * f then 1 else 2
    else if k.on then 1 else 0
  | none => if k.on then 1 else 0

/-- A channel conducts or pulses (R364); one that is back from FAULT, LOCKED or a force waits for the start of its next period. -/
def cufOn (c : Cuff) (k : CufCh) : Bool := cufCmd c k ≠ 0 && !k.wait && !k.force && !k.fault && !k.lock

/-- CUF_CHn_STAT.STATE (Table 13.9). DESIGN CHOICE (log 116): where several hold, FORCED stands before FAULT and FAULT before LOCKED; a
channel that waits for its next period shows OFF. -/
def cufState (c : Cuff) (k : CufCh) : Nat :=
  if k.force then 5 else if k.fault then 3 else if k.lock then 4 else if k.wait then 0 else cufCmd c k

/-- CUF_CHn_STAT.CAUSE (Table 13.9). DESIGN CHOICE (log 116): in FAULT its cause, else OVER while that flag is set. -/
def CufCh.shown (k : CufCh) : CufCause := if k.fault || !k.clampOver then k.cause else .over

/-- A command reaches a channel: turning it off is never delayed (R364), another duty waits for the next period (R369). -/
def CufCh.command (on : Bool) (duty : Nat) (k : CufCh) : CufCh :=
  { k with on := on, duty := duty, dutyNow := if duty = 0 then 0 else k.dutyNow }

/-- The start of a new switch-on (R367, R372): the channel waits for the start of its next period, and the spans that the protection
counts begin anew. -/
def CufCh.anew (k : CufCh) : CufCh := { k with wait := true, open_ := false, shortSince := none, ocSince := none, lowSince := none }

/-- The window sum (R368): events that ended 10,000 ms or less ago. -/
def cufSum (now : Nat) (k : CufCh) : Nat := sumN ((k.clamps.filter (fun e => now ≤ e.1 + 10000000)).map (·.2))

/-- A channel enters FAULT (R365). -/
def cufFault (cause : CufCause) (now : Nat) (k : CufCh) : CufCh :=
  if k.fault then k else { k with fault := true, cause := cause, faultAt := now, faults := satInc 8 k.faults, open_ := false, ocSince := none, shortSince := none }

/-- What one step of 10 µs sees of a channel: current in 10 mA, junction in °C, at the hardware limit. -/
structure CufMeas where
  i : Nat := 0
  tj : Int := 25
  lim : Bool := false
  deriving DecidableEq, Repr

/-- The parts of a generator's period. -/
def pgParts : Nat := 256000000000

/-- How far generator `g` has come by `now`, from the start of the period in which the last step found it (R369): `rate` thousandths of
its frequency. DESIGN CHOICE (log 128): the generators' periods begin together at the start of the retained domain, and another
frequency leaves a generator where it stands in its period. -/
def Cuff.pgAt (c : Cuff) (rate now g : Nat) : Nat := atD c.pos g 0 + rate * (256 * (atD c.freq g 1000 * (now - c.posAt)))

/-- A channel's period begins in the step that ends at `now`: its generator's period start plus the channel's offset (R369). -/
def Cuff.begins (c : Cuff) (rate now : Nat) (k : CufCh) : Bool :=
  let g := (k.cfg.map (·.pg)).getD 0
  let past (p : Nat) : Nat := (p + pgParts - k.phase % 256 * 1000000000) / pgParts
  past (atD c.pos g 0) != past (c.pgAt rate now g)

/-- Since when a condition holds. -/
def since (b : Bool) (now : Nat) (o : Option Nat) : Option Nat := if b then some (o.getD now) else none

/-- A condition has held for `d`. -/
def heldFor (o : Option Nat) (d now : Nat) : Bool := match o with | some t => decide (t + d ≤ now) | none => false

/-- The start of a channel's period: the commanded duty is in force, a channel that waited is back, and the mean of the period just
over is formed (R365, R367, R369). -/
def CufCh.begin (begins : Bool) (m : CufMeas) (k : CufCh) : CufCh :=
  if begins then
    { k with dutyNow := k.duty, wait := false, i := if k.cnt = 0 then k.i else sat 16 (k.acc / k.cnt), acc := m.i, cnt := 1 }
  else { k with acc := k.acc + m.i, cnt := k.cnt + 1 }

/-- The current that a step compares with the limits (R365): in PWM mode the mean over the generator period. DESIGN CHOICE (log
116): CUF_CHn_STAT.I shows this current. -/
def CufCh.compared (m : CufMeas) (k : CufCh) : Nat := if (k.cfg.map (·.pwm)).getD false then k.i else sat 16 m.i

/-- The protection check of one channel (R365, R367, R374). DESIGN CHOICE (log 116): the OPEN flag falls when the current is back or
the channel is off. -/
def cufCheck (c : Cuff) (rate now : Nat) (m : CufMeas) (k : CufCh) : CufCh :=
  let k := k.begin (c.begins rate now k) m
  let on := cufOn c k
  let i := k.compared m
  let ilim := (k.cfg.map (·.ilimC)).getD 40
  let toc := (k.cfg.map (·.tOc)).getD 10
  let low := on && decide (i < 1)
  let k := { k with i := i, tj := m.tj,
                    shortSince := since (on && m.lim) now k.shortSince,
                    ocSince := since (on && decide (ilim * 10 < i)) now k.ocSince,
                    lowSince := since low now k.lowSince }
  let k := { k with open_ := heldFor k.lowSince 100000 now || (k.open_ && low) }
  if heldFor k.shortSince 50 now then cufFault .short now k
  else if 150 < m.tj then cufFault .thermal now k
  else if heldFor k.ocSince (toc * 1000) now then cufFault .overcurrent now k
  else k

/-- The protection check of every channel, and the generators' way since the last. The sum of the currents joins those of the last 100 ms (R366); DESIGN CHOICE (log 116):
CUF_TOTAL.I shows the sum of the step. -/
def cuffCheck (rate now : Nat) (ms : List CufMeas) (c : Cuff) : Cuff :=
  let sum := sumN (ms.map (·.i))
  { c with ch := mapIdx c.ch (fun n k => cufCheck c rate now (ms.getD n {}) k),
           pos := mapIdx c.pos (fun g _ => c.pgAt rate now g % pgParts), posAt := now, total := sat 16 sum,
           hist := (now, sum) :: c.hist.filter (fun e => now < e.1 + 100000) }

/-- The sum of all channel currents, averaged over 100 ms, exceeds 24.0 A (R366). -/
def cuffOver (now : Nat) (c : Cuff) : Bool :=
  let xs := c.hist.filter (fun e => now < e.1 + 100000)
  decide (2400 * xs.length < sumN (xs.map (·.2)))

/-- The channel was conducting when the total-current rule came: OVERCURRENT stands after TOTAL where both fall in one step of 10 µs
(R374). -/
def cufBefore (c : Cuff) (now : Nat) (k : CufCh) : Bool :=
  cufOn c (if k.fault && k.cause == .overcurrent && k.faultAt / 10 == now / 10 then { k with fault := false } else k)

/-- TOTAL puts a channel in FAULT, in place of an OVERCURRENT of the same step. -/
def cufTotalFault (now : Nat) (k : CufCh) : CufCh := if k.fault then { k with cause := .total } else cufFault .total now k

/-- The total-current rule (R366): the conducting channel with the highest SHED_RANK, then the highest number, every 10 ms until the
sum is back. -/
def cuffTotal (now : Nat) (c : Cuff) : Cuff :=
  if !cuffOver now c then { c with shedAt := none }
  else if (match c.shedAt with | some t => decide (now < t + 10000) | none => false) then c else
  let cand := (List.range 16).filter (fun n => cufBefore c now (c.get n))
  let rank (n : Nat) : Nat := (((c.get n).cfg.map (·.shedRank)).getD 0) * 16 + n
  match cand.foldl (fun (b : Option Nat) n => match b with | none => some n | some m => if rank m < rank n then some n else b) none with
  | some n => { (c.set n (cufTotalFault now)) with tshed := true, shedAt := some now }
  | none => c

/-- A channel retries on its own (R367). Where RETRY_N retries lie in the 60 s before the instant at which the next is due, the channel waits
for a host clear. -/
def cuffRetry (now n : Nat) (c : Cuff) : Cuff :=
  let k := c.get n
  match k.cfg with
  | some r =>
    let due := k.faultAt + r.retryT * 100000
    let recent := k.retryLog.filter (fun t => due < t + 60000000)
    if k.fault ∧ r.retryN ≠ 0 ∧ due ≤ now ∧ recent.length < r.retryN then
      c.set n (fun k => { k.anew with fault := false, cause := .none, retries := satInc 8 k.retries, retryLog := now :: recent })
    else c
  | none => c

/-- A sample of a clamp event: the clamp voltage in mV, the channel current in mA, and how long they stand for in µs. -/
structure ClampSample where
  mv : Nat
  ma : Nat
  us : Nat
  deriving DecidableEq, Repr

/-- The energy of a clamp event in mJ: the integral of clamp voltage times channel current (R368). DESIGN CHOICE (log 116): rounded to
the nearest mJ, halves up. -/
def clampEnergy (xs : List ClampSample) : Nat := (sumN (xs.map (fun x => x.mv * x.ma * x.us)) + 500000000) / 1000000000

/-- A clamp event of `e` mJ ends (R368); true: the channel becomes LOCKED. -/
def cuffClamp (now n e : Nat) (c : Cuff) : Cuff × Bool :=
  let k := c.get n
  let k := { k with clamps := ((now, e) :: k.clamps).filter (fun v => now ≤ v.1 + 10000000), last := sat 11 e, events := satInc 8 k.events }
  let tooBig := decide (150 < e)
  let lock := decide (1200 ≤ cufSum now k) || tooBig
  let new := lock && !k.lock
  let k := if lock then { k with lock := true, clampOver := k.clampOver || tooBig, locks := if new then satInc 8 k.locks else k.locks } else k
  (c.set n (fun _ => k), new)

/-- The bits of a CUF_CLR write that may not be cleared now (R367, R368), or that meet a new fault of the same step of 10 µs (R374). -/
def clrRefused (now : Nat) (k : CufCh) : Bool :=
  (k.fault && (k.faultAt / 10 == now / 10 || (k.cause == .thermal && decide (130 < k.tj)))) || (k.lock && decide (600 ≤ cufSum now k))

/-- A CUF_CLR write; none: NOT_IN_STATE. DESIGN CHOICE (log 116): a write in which one bit may not be cleared clears none. -/
def cuffClr (now mask : Nat) (c : Cuff) : Option Cuff :=
  if (bitsOf 16 mask).any (fun n => clrRefused now (c.get n)) then none
  else some ((bitsOf 16 mask).foldl (fun c n => c.set n (fun k =>
    if k.fault || k.lock then { k.anew with fault := false, lock := false, cause := .none, clampOver := false } else k)) c)

/-- A host write to CUF_CHn_CTRL (R363, R368). DESIGN CHOICE (log 116): a channel without a record has no owner, so the host is not its
owner. -/
def cuffWrite (n w : Nat) (c : Cuff) : Status × Cuff :=
  let k := c.get n
  if 1000 < field 1 10 w then (.badValue, c)
  else if (match k.cfg with | some r => decide (r.owner ≠ 0) | none => true) || k.lock then (.notInState, c)
  else (.ok, c.set n (fun k => { k.command (bitOf 0 w) (field 1 10 w) with phase := field 11 8 w }))

/-- The command of a loop (owner 1) or a port (owner 2): duty in 0.1 %, to a channel that is theirs (R363, R369). -/
def cuffDuty (owner n duty : Nat) (c : Cuff) : Cuff :=
  c.set n (fun k => if k.cfg.any (fun r => r.owner == owner) then k.command (duty ≠ 0) duty else k)

/-- A channel that the image leaves out is turned off and has no owner (R363, R371). -/
def cuffDrop (n : Nat) (c : Cuff) : Cuff := c.set n (fun k => { k.command false 0 with cfg := none })

/-- VLS has stayed below 16.0 V for 1 ms (R370). DESIGN CHOICE (log 116): the settings of an applied record are the image's and stay;
the generators fall back to the 1,000 Hz that Table 13.6 gives as default. -/
def cuffClear (c : Cuff) : Cuff :=
  { c with ch := mapIdx c.ch (fun _ k => { ({} : CufCh) with cfg := k.cfg }), freq := Vector.replicate 4 1000, total := 0, hist := [], tshed := false, shedAt := none }

/-- Every channel is commanded off (R373). -/
def cuffAllOff (c : Cuff) : Cuff := { c with ch := mapIdx c.ch (fun _ k => k.command false 0) }

/-- A channel's record is applied (R371). -/
def cuffApply (r : CufChan) (c : Cuff) : Cuff :=
  c.set r.ch (fun k => if r.retain then { k with cfg := some r }
    else { k.command (r.startDuty ≠ 0) r.startDuty with cfg := some r, phase := r.phase })

/-- A check-path channel without a record (R386). -/
def cuffPortDefault (n : Nat) : CufChan := { ch := n, owner := 2, ilimC := 40, tOc := 10 }

/-! ## Hem -/

/-- What Hem needs of other units for a fault record (Table 13.5). -/
structure HemEnv where
  now : Nat
  ts : Nat
  boot : Nat
  temp : Int
  deriving DecidableEq, Repr

/-- Hem at work: the state, and the number of Hem-fault and Hem-VSEL events raised. -/
structure HX where
  h : Hem
  e : HemEnv
  evs : List Ev := []
  deriving DecidableEq, Repr

/-- Change Hem. -/
def HX.mod (x : HX) (f : Hem → Hem) : HX := { x with h := f x.h }
/-- Raise an event. -/
def HX.raise (x : HX) (e : Ev) : HX := { x with evs := x.evs ++ [e] }

/-- Number of phases in a mask. -/
def phCount (m : Nat) : Nat := (bitsOf 4 m).length

/-- A fault record (Table 13.5), written to the ring of 8 (R385). DEDUCED (log 117): "at the fault" is the moment before the actions of
Table 13.3, so a record shows the state, the phases and HIC as the fault met them. -/
def hemRecord (kind : Nat) (x : HX) : HX :=
  let h := x.h
  let b := leBytes 1 kind ++ leBytes 1 h.st.code ++ leBytes 1 (put 0 4 h.active + put 4 4 h.phFlt) ++ leBytes 1 h.vsel ++ leBytes 4 x.e.ts
    ++ leBytes 2 x.e.boot ++ leBytes 2 h.vin ++ leBytes 2 h.vout ++ leBytes 2 h.vref.floor.toNat
    ++ h.iph.toList.flatMap (fun i => leBytes 2 (enc 16 i)) ++ leBytes 1 (enc 8 x.e.temp) ++ leBytes 1 h.hic
    ++ leBytes 2 ((h.cfg.map (·.fSw)).getD 0)
  x.mod (fun h => { h with ring := ((b ++ leBytes 4 (crc32c b)) :: h.ring).take 8, faults := satInc 8 h.faults })

/-- Phases off. -/
def hemOff (st : HemSt) (x : HX) : HX :=
  x.mod (fun h => { h with
    st := st, active := 0, integ := 0, iC := 0, iHist := [], shedding := none, share := Vector.replicate 4 0, pwm := Vector.replicate 4 {},
    lowHalf := none, low85 := none, high115 := none, shedOk := none, addN := 0, peaks := Vector.replicate 4 0 })

/-- A soft start (R380): VREF begins at the measured output; all enabled phases take part. -/
def hemSoftStart (x : HX) : HX :=
  match x.h.cfg with
  | none => x
  | some c => x.mod (fun h => { h with
      st := .softstart, vref := h.vout, active := c.phases &&& (15 - h.phFlt % 16), integ := 0, iC := 0,
      iHist := [], shedding := none, share := Vector.replicate 4 32, lowHalf := none, low85 := none, high115 := none, peaks := Vector.replicate 4 0 })

/-- VIN lies within its range. -/
def hemVinIn (h : Hem) : Bool := match h.cfg with | some c => decide (c.vinMin ≤ h.vin) && decide (h.vin ≤ c.vinMax) | none => false

/-- OFF is left when the record is applied, the code valid and VIN in range (Table 13.3). -/
def hemTryStart (x : HX) : HX := if x.h.st = .off ∧ !x.h.vselBad ∧ hemVinIn x.h then hemSoftStart x else x

/-- A VSEL code has been stable for 1 ms (R379). -/
def vselChange (code : Nat) (x : HX) : HX :=
  match x.h.cfg with
  | none => x.mod (fun h => { h with vsel := code % 8 })
  | some c =>
    let v := atD c.vout (code % 8) 0
    if v = 0 then (x.mod (fun h => { h with vselBad := true })).raise .hemVsel
    else hemTryStart (x.mod (fun h => { h with vsel := code % 8, target := v, vselBad := false }))

/-- HEM_CFG is applied (R375, R379). -/
def hemApply (c : HemCfg) (x : HX) : HX :=
  let x := x.mod (fun h => { h with cfg := some c })
  let v := atD c.vout x.h.vsel 0
  if v = 0 then (x.mod (fun h => { h with vselBad := true })).raise .hemVsel
  else hemTryStart (x.mod (fun h => { h with target := v, vselBad := false }))

/-- What one HP0 period senses: HEM_VFB in µV, the input in 0.1 V (the image gives no ratio for its divider), and each phase's shunt
voltage in µV, sampled at the hundredths of its period from the start of its slot. -/
structure HemMeas where
  vfb : Nat
  vin : Nat
  sense : Vector (List Int) 4
  deriving DecidableEq, Repr

/-- The output voltage in 10 mV that HEM_VFB shows through the divider VFB_DIV (Table 13.8). -/
def hemVout (c : HemCfg) (m : HemMeas) : Rat := (m.vfb : Rat) * c.vfbDiv / 10000000

/-- A shunt voltage in µV as a current in A (Table 13.8, R_SH). -/
def hemAmps (c : HemCfg) (u : Rat) : Rat := u / c.rSh

/-- Mean current of a phase over its period, in 0.1 A. -/
def hemMean (c : HemCfg) (xs : List Int) : Rat := if xs = [] then 0 else 10 * hemAmps c ((sumI xs : Rat) / xs.length)

/-- A phase reaches ILIM_PK in its period. -/
def hemPeak (c : HemCfg) (xs : List Int) : Bool := xs.any (fun u => decide ((c.ilimPk : Rat) / 10 ≤ hemAmps c u))

/-- The hundredth of its period at which the high side turns off (R377): the sensed current plus the slope ramp reaches the phase's
command, ILIM_PK is reached, or the duty is 90 %. DESIGN CHOICE (log 117): the instant is taken to the hundredth. -/
def hemTurnOff (c : HemCfg) (cmd : Rat) : Nat → List Int → Nat
  | _, [] => 90
  | k, u :: us =>
    let ramp : Rat := (c.slope : Rat) / 100 * (1000 / c.fSw) * k / 100
    if 90 ≤ k then 90
    else if cmd ≤ hemAmps c u + ramp ∨ (c.ilimPk : Rat) / 10 ≤ hemAmps c u then k
    else hemTurnOff c cmd (k + 1) us

/-- Filtered total current in 0.1 A (R383). DEDUCED (log 117): the filter over 16 periods is their mean; the periods before a start
count as 0, since no phase ran. -/
def hemTot (h : Hem) : Rat := sumQ h.iHist / 16

/-- The pulse of phase `n` in the period that ends (R377): its slot starts n × 90° after HP0's period. -/
def hemPulse (c : HemCfg) (m : HemMeas) (on : Bool) (h : Hem) (n : Nat) : HemPulse where
  start := 25 * n
  len := if on && bitOf n h.active then hemTurnOff c (h.iC * ((atD h.share n 0 : Nat) : Rat) / 32) 0 (atD m.sense n []) else 0

/-- What the period that ends has sensed, and the pulses it gave (R377, R383). -/
def hemSense (c : HemCfg) (m : HemMeas) (now : Nat) (on : Bool) (h : Hem) : Hem :=
  let h := { h with
    vout := sat 16 (hemVout c m).floor.toNat, vin := sat 16 m.vin,
    iph := mapIdx h.iph (fun n _ => roundHalfAway (hemMean c (atD m.sense n []))),
    iHist := if on then (sumQ (m.sense.toList.map (hemMean c)) :: h.iHist).take 16 else h.iHist,
    pwm := mapIdx h.pwm (fun n _ => hemPulse c m on h n),
    peaks := mapIdx h.peaks (fun n p => if on && bitOf n h.active && hemPeak c (atD m.sense n []) then p + 1 else 0) }
  { h with vinOk := since (hemVinIn h) now h.vinOk }

/-- The phases' shares of I_c move by 1/32 a period; a phase whose share has come to zero stops its PWM (R383). -/
def hemShares (h : Hem) : Hem :=
  let h := { h with share := mapIdx h.share (fun n k =>
    if h.shedding = some n then k - 1 else if bitOf n h.active then min 32 (k + 1) else 0) }
  match h.shedding with
  | some p => if atD h.share p 0 = 0 then
      { h with shedding := none, active := h.active - (if bitOf p h.active then 2 ^ p else 0), sheds := satInc 8 h.sheds, shedOk := none } else h
  | none => h

/-- VREF moves towards the target at SS_RATE (R379). -/
def hemRef (c : HemCfg) (h : Hem) : Rat :=
  let t : Rat := h.target
  let step : Rat := (c.ssRate * 10 : Rat) / c.fSw
  if h.vref < t then min t (h.vref + step) else max t (h.vref - step)

/-- The voltage loop (R377): the integrator and the current command. -/
def hemRegulate (c : HemCfg) (m : HemMeas) (h : Hem) : Hem :=
  let vd := h.vref / 100 - (c.droop : Rat) / 1000 * (hemTot h / 10) / (phCount c.phases * (c.iPh : Rat) / 10)
  let e := vd - hemVout c m / 100
  let lim : Rat := (c.ilimPk : Rat) / 10
  let integ := clampQ 0 lim (h.integ + fVal c.ki * e / (c.fSw * 1000))
  { h with integ := integ, iC := clampQ 0 lim (fVal c.kp * e + integ) }

/-- The conditions whose spans Hem times (R381, Table 13.3, R383). -/
def hemSpans (c : HemCfg) (m : HemMeas) (now : Nat) (h : Hem) : Hem :=
  let v := hemVout c m
  let n := phCount h.active
  let tot := hemTot h
  { h with
    lowHalf := since (h.st == .softstart && decide (v < h.vref / 2)) now h.lowHalf,
    low85 := since (h.st == .run && decide (v < h.vref * 85 / 100)) now h.low85,
    high115 := since (decide (h.vref * 115 / 100 < v)) now h.high115,
    shedOk := since (h.st == .run && decide (tot ≤ (c.shedPct : Rat) / 100 * ((n : Rat) - 1) * c.iPh)) now h.shedOk,
    addN := if decide ((c.addPct : Rat) / 100 * n * c.iPh ≤ tot) then h.addN + 1 else 0 }

/-- The HP0 period: what it sensed, VREF, the voltage loop, shares on their way (R377, R379, R383). -/
def hemLoop (m : HemMeas) (x : HX) : HX :=
  match x.h.cfg with
  | none => x.mod (fun h => { h with vin := sat 16 m.vin })
  | some c =>
    let on := x.h.st == .softstart || x.h.st == .run
    let x := x.mod (hemSense c m x.e.now on)
    if !on then hemTryStart x else
    let x := x.mod (fun h => { h with vref := hemRef c h })
    x.mod (fun h => hemSpans c m x.e.now (hemShares (hemRegulate c m h)))

/-- The soft start is complete (R380). -/
def softStartDone (x : HX) : HX :=
  let h := x.h
  let t : Rat := h.target
  if h.st = .softstart ∧ h.vref = t ∧ absQ ((h.vout : Rat) - t) ≤ t * 3 / 100 then
    x.mod (fun h => { h with st := .run, runAt := x.e.now, shedOk := none, addN := 0 })
  else x

/-- A short during a soft start (R381, Table 13.3). -/
def hemShort (x : HX) : HX :=
  match x.h.cfg with
  | none => x
  | some c =>
    if x.h.st = .softstart ∧ (heldFor x.h.lowHalf 500 x.e.now ∨ x.h.peaks.toList.any (64 ≤ ·)) then
      if x.h.hic + 1 < c.nHic then
        let x := if x.h.hic = 0 then hemRecord 1 x else x
        (hemOff .hiccup (x.mod (fun h => { h with hic := h.hic + 1, hicAt := x.e.now, hiccups := satInc 8 h.hiccups }))).raise .hemFault
      else (hemOff .latched ((hemRecord 6 x).mod (fun h => { h with hic := h.hic + 1 }))).raise .hemFault
    else x

/-- T_HIC has passed (Table 13.3). -/
def hiccupExpiry (x : HX) : HX :=
  match x.h.cfg with
  | some c => if x.h.st = .hiccup ∧ x.h.hicAt + c.tHic * 1000 ≤ x.e.now then hemSoftStart x else x
  | none => x

/-- HIC clears after 1 s in RUN (R381). -/
def hicClear (x : HX) : HX := if x.h.st = .run ∧ x.h.runAt + 1000000 ≤ x.e.now then x.mod (fun h => { h with hic := 0 }) else x

/-- Output below 85 % of VREF for 1 ms (Table 13.3). -/
def hemUv (x : HX) : HX :=
  if x.h.st = .run ∧ heldFor x.h.low85 1000 x.e.now then
    let x := hemRecord 2 x
    (hemOff .hiccup (x.mod (fun h => { h with hic := 1, hicAt := x.e.now, hiccups := satInc 8 h.hiccups }))).raise .hemFault
  else x

/-- Output above 115 % of VREF for 20 µs (Table 13.3). -/
def hemOv (x : HX) : HX :=
  if (x.h.st = .run ∨ x.h.st = .softstart) ∧ heldFor x.h.high115 20 x.e.now then (hemOff .latched (hemRecord 3 x)).raise .hemFault else x

/-- VIN outside its range (Table 13.3). -/
def hemVinOut (x : HX) : HX :=
  if (x.h.st = .run ∨ x.h.st = .softstart ∨ x.h.st = .hiccup) ∧ !hemVinIn x.h then (hemOff .vinWait (hemRecord 5 x)).raise .hemFault else x

/-- VIN within range for 10 ms (Table 13.3). -/
def hemVinOk (x : HX) : HX := if x.h.st = .vinWait ∧ heldFor x.h.vinOk 10000 x.e.now then hemSoftStart x else x

/-- A phase has reached ILIM_PK in 256 consecutive periods in RUN (R382). Hem is LATCHED once no fitted phase is without a fault. -/
def phaseOc (p : Nat) (x : HX) : HX :=
  if x.h.st = .run ∧ bitOf p x.h.active ∧ 256 ≤ atD x.h.peaks p 0 then
    let x := ((hemRecord 4 x).mod (fun h => { h with
      active := h.active - 2 ^ p, phFlt := h.phFlt ||| 2 ^ p, shedding := if h.shedding = some p then none else h.shedding })).raise .hemFault
    if ((x.h.cfg.map (·.phases)).getD 0) &&& (15 - x.h.phFlt % 16) = 0 then (hemOff .latched x).raise .hemFault else x
  else x

/-- HEM_CTRL.CLR (Table 13.3); false: NOT_IN_STATE. -/
def hemClr (x : HX) : HX × Bool :=
  if x.h.st = .latched then (hemTryStart (x.mod (fun h => { h with st := .off, hic := 0, phFlt := 0 })), true) else (x, false)

/-- A shed begins (R383). -/
def phaseShed (x : HX) : HX :=
  match x.h.cfg with
  | some c =>
    let h := x.h
    if h.st = .run ∧ h.blkAt.isNone ∧ h.shedding.isNone ∧ c.minPh < phCount h.active ∧ heldFor h.shedOk (c.tShed * 1000) x.e.now then
      match (bitsOf 4 h.active).getLast? with
      | some p => x.mod (fun h => { h with shedding := some p, shedOk := none })
      | none => x
    else x
  | none => x

/-- A phase is added (R383). -/
def phaseAdd (x : HX) : HX :=
  match x.h.cfg with
  | some c =>
    let h := x.h
    let shed := c.phases &&& (15 - h.phFlt % 16) &&& (15 - h.active % 16)
    if h.st = .run ∧ 16 ≤ h.addN then
      match (bitsOf 4 shed).head? with
      | some p => x.mod (fun h => { h with active := h.active + 2 ^ p, share := updN h.share p (fun _ => 0), addN := 0 })
      | none => x
    else x
  | none => x

/-- The fast condition (R384): a shed is aborted, every phase takes the full I_c, and shedding is blocked. DEDUCED (log 117): it acts in
RUN; in a soft start all phases take part anyway and shedding is suspended (R380). -/
def hemFast (x : HX) : HX :=
  match x.h.cfg with
  | some c =>
    let h := x.h
    let droop := decide ((h.vout : Rat) + c.dvFast < h.vref)
    let pk := (bitsOf 4 h.active).any (fun p => 2 ≤ atD h.peaks p 0)
    if h.st = .run ∧ (droop ∨ pk) then
      x.mod (fun h => { h with
        aborts := if h.shedding.isSome then satInc 8 h.aborts else h.aborts, shedding := none,
        active := c.phases &&& (15 - h.phFlt % 16), share := Vector.replicate 4 32, blkAt := some x.e.now, shedOk := none })
    else x
  | none => x

/-- The block of 1 s ends (R384). -/
def shedBlockEnd (x : HX) : HX := if heldFor x.h.blkAt 1000000 x.e.now then x.mod (fun h => { h with blkAt := none }) else x

/-- Word `w` of the selected record; zero where the ring holds none or its CHECK fails (R385). -/
def hemFrec (h : Hem) (w : Nat) : Nat :=
  match h.ring[h.fsel]? with
  | some b => if leAt b 28 4 = crc32c (b.take 28) then leAt b (4 * w) 4 else 0
  | none => 0

end Sys2Proof.Machine
end

