-- ==== Sys2Proof/Machine/State/Sleeve.lean ====
section
/-! DEFINITION. State of the Sleeve, the sealed metrology die, and of the main die's side of its link
(spec/08_sleeve_metrology.md R220–R255, spec/09_billing_and_tamper.md R256–R281). Energies are exact, in mJ (mvar·s). -/

namespace Sys2Proof.Machine

/-- Sleeve states (Table 8.8). -/
inductive SlvState where
  | boot | unsealed | run | service | fatal
  deriving DecidableEq, Repr

/-- State codes (Table 8.8). -/
def SlvState.code : SlvState → Nat
  | .boot => 0 | .unsealed => 1 | .run => 2 | .service => 3 | .fatal => 4

/-- Per-head legal parameters (Table 9.1, Table 8.9): I_N in A, R_LOSS in µΩ. -/
structure HeadParam where
  serial : Nat := 0
  iN : Nat := 500
  rLoss : Nat := 0
  deriving DecidableEq, Repr

/-- The legal and billing parameters (Tables 8.9 and 9.1). Thresholds in 0.01 %, U_N in 0.1 V, F_NOM in Hz. -/
structure LegalParams where
  role : Nat := 0
  peer : Nat := 0
  uN : Nat := 2300
  fNom : Nat := 50
  vt : Rat := 1
  ctPh : Rat := 1
  ctN : Rat := 1
  /-- Rated primary phase current in A (R278). -/
  ratedI : Rat := 5
  nLatch : Nat := 50
  sagThr : Nat := 9000
  swellThr : Nat := 11000
  intThr : Nat := 500
  hyst : Nat := 200
  heads : Vector (Option HeadParam) 12 := Vector.replicate 12 none
  defTariff : Nat := 0
  demMode : Nat := 0
  demLen : Nat := 15
  demSub : Nat := 3
  billDay : Nat := 1
  clkStep : Nat := 30
  clkDay : Nat := 300
  leadT : Nat := 12
  sigMode : Nat := 0
  ocmf : Nat := 0
  comp : Nat := 0
  tampE : Nat := 7
  tampM : Nat := 3
  bypThr : Nat := 10
  tariffPk : List Byte := []
  deriving DecidableEq, Repr

/-- What pairing stored of a head (R232): serial number, I_N in A, voltage rating in V, calibration constants, link key. -/
structure Pairing where
  serial : Nat := 0
  iN : Nat := 500
  vRated : Nat := 1000
  cal : Nat := 0
  key : Nat := 0
  deriving DecidableEq, Repr

/-- What a head reports at its pairing (R232, R233): serial number, I_N in A, voltage rating in V, calibration constants. -/
structure HeadData where
  serial : Nat := 0
  iN : Nat := 500
  vRated : Nat := 1000
  cal : Nat := 0
  deriving DecidableEq, Repr

/-- Head condition (Pn_STAT.HEAD, Table 8.11). -/
inductive HeadSt where
  | unpaired | ok | error
  deriving DecidableEq, Repr

/-- Code of Pn_STAT.HEAD. -/
def HeadSt.code : HeadSt → Nat
  | .unpaired => 0 | .ok => 1 | .error => 2

/-- The energies that one block or session accumulates, in mJ (R235, R236). -/
structure Energy where
  imp : Rat := 0
  exp : Rat := 0
  cimp : Rat := 0
  cexp : Rat := 0
  deriving DecidableEq, Repr

/-- One head input: pairing, condition, the block in progress and the running means (R231–R235). -/
structure Head where
  pair : Option Pairing := none
  st : HeadSt := .unpaired
  /-- The tag of the last complete block did not match (R232): the head is not treated as paired. -/
  mismatch : Bool := false
  /-- Last BLOCK accepted. -/
  lastBlock : Option Nat := none
  /-- Consecutive verified blocks (R234). -/
  okRun : Nat := 0
  /-- Kept time of the last verified block, µs. -/
  lastVer : Nat := 0
  gaps : Nat := 0
  ovr : Nat := 0
  /-- Sample frames of the block in progress; the bytes 0–9 of each, newest first. -/
  count : Nat := 0
  bytes : List (List Byte) := []
  bad : Bool := false
  blkOvr : Bool := false
  /-- Every sample of the block below 1 % of I_N (R275). -/
  allLow : Bool := true
  pend : Energy := {}
  /-- Sample ends since the end of the last block, and since the nominal start of the block in progress (R233). -/
  since : Nat := 0
  age : Nat := 0
  /-- The sample to be forwarded: mV, mA (R227); none when it is not valid. -/
  fwd : Option (Int × Int) := none
  /-- Sums of the 2 ms means (R255): V, I, P and the number of samples; then the means in mV, mA, W. -/
  sumV : Rat := 0
  sumI : Rat := 0
  sumP : Rat := 0
  sumN : Nat := 0
  meanV : Int := 0
  meanI : Int := 0
  meanP : Int := 0
  deriving DecidableEq, Repr

/-- A session of a port (R239, R249, R270). -/
structure Sess where
  num : Nat
  prepaid : Bool := false
  credit : Nat := 0
  /-- The start value is latched. -/
  latched : Bool := false
  startImp : Nat := 0
  startExp : Nat := 0
  tStart : Nat := 0
  clkStart : Bool := false
  mcStart : Nat := 0
  offset : Int := 0
  endR : Nat := 0
  /-- MCNT, legal time and clock at the accepted stop. -/
  mcStop : Nat := 0
  tStop : Nat := 0
  clkStop : Bool := false
  linkLoss : Bool := false
  gap : Bool := false
  gaps : Nat := 0
  creditFl : Bool := false
  tamper : Bool := false
  gateFail : Bool := false
  /-- A stop has been accepted and its value is still to be latched (R239). -/
  stopping : Bool := false
  deriving DecidableEq, Repr

/-- The energies of a session, kept with the energy registers (R224, R270). -/
structure SessEnergy where
  imp : Rat := 0
  cimp : Rat := 0
  cexp : Rat := 0
  timp : Vector Rat 8 := Vector.replicate 8 0
  deriving DecidableEq, Repr

/-- The Sleeve gate of a port (R274–R277). -/
structure SlvGate where
  open_ : Bool := false
  openAt : Nat := 0
  notice : Bool := false
  noticeAt : Nat := 0
  /-- SFBn, true closed. -/
  fb : Bool := false
  /-- The feedback has been judged since the gate opened (R276). -/
  judged : Bool := false
  fail : Bool := false
  /-- Opened by a close under R251, until a frame is accepted (R277). -/
  linkLoss : Bool := false
  deriving DecidableEq, Repr

/-- A maximum demand in 0.1 kW with its stamp (R262, R269). -/
structure MaxDem where
  dem : Nat := 0
  stamp : Nat := 0
  noclk : Bool := false
  deriving DecidableEq, Repr

/-- A demand interval or subinterval (R262): import in mJ, start or duration in µs of kept time, flags. -/
structure DemInt where
  e : Rat := 0
  t : Nat := 0
  pf : Bool := false
  long : Bool := false
  short : Bool := false
  deriving DecidableEq, Repr

/-- A completed demand (BIL_DEM_LAST). -/
structure DemLast where
  dem : Nat := 0
  pf : Bool := false
  short : Bool := false
  long : Bool := false
  tariff : Nat := 0
  deriving DecidableEq, Repr

/-- One closed billing period (R263). -/
structure Period where
  timp : Vector Rat 8 := Vector.replicate 8 0
  texp : Vector Rat 8 := Vector.replicate 8 0
  md : Vector MaxDem 8 := Vector.replicate 8 {}
  deriving DecidableEq, Repr

/-- Kinds of legal log entries (R224, R248, R252, R253, R259, R266, R276, R280). -/
inductive LogKind where
  | auth (lane : Nat) | replay (lane : Nat) | uncommitted | watchdog | repair | serviceEntry | serviceExit
  | fatalCause (cause : Nat) | tableRefused | timeSet (old new : Int) | gateFail (port : Nat) | power
  | tamperBegin (kind : Nat) | tamperEnd (kind : Nat)
  deriving DecidableEq, Repr

/-- A legal log entry, with legal time in s and meter counter. -/
structure LogEntry where
  kind : LogKind
  utc : Nat
  mc : Nat
  deriving DecidableEq, Repr

/-- An entry of the disturbance ring (R245): kind 1 sag, 2 swell, 3 interruption; duration ms; extreme 0.01 %. -/
structure DistEntry where
  kind : Nat := 0
  mask : Nat := 0
  extPh : Nat := 0
  long : Bool := false
  mc : Nat := 0
  utc : Nat := 0
  dur : Nat := 0
  ext : Nat := 0
  deriving DecidableEq, Repr

/-- What the Sleeve writes to its MRAM every 1 s and at power failure (R224). -/
structure SlvReg where
  port : Vector Energy 12 := Vector.replicate 12 {}
  sess : Vector SessEnergy 12 := Vector.replicate 12 {}
  /-- Energies of the first stopped session whose stop value is not latched yet; one that stops in the same block has none. -/
  closing : Vector SessEnergy 12 := Vector.replicate 12 {}
  /-- The 16 intake registers r = 4s + q. -/
  er : Vector Rat 16 := Vector.replicate 16 0
  timp : Vector Rat 8 := Vector.replicate 8 0
  texp : Vector Rat 8 := Vector.replicate 8 0
  md : Vector MaxDem 8 := Vector.replicate 8 {}
  dem : DemInt := {}
  /-- The last subintervals, newest first (sliding mode). -/
  subs : List DemInt := []
  demLast : DemLast := {}
  periods : List Period := []
  periodCnt : Nat := 0
  log : List LogEntry := []
  dist : Vector DistEntry 16 := Vector.replicate 16 {}
  distNext : Nat := 0
  cntSag : Nat := 0
  cntSwell : Nat := 0
  cntIntr : Nat := 0
  /-- Latest UTC and local times reached (R267), µs. -/
  lutc : Nat := 0
  lloc : Int := 0
  /-- Kept time at the write, µs. -/
  mc : Nat := 0
  deriving DecidableEq, Repr

/-- The codes of one sample of the seven intake inputs, 24 bits each (R240). -/
structure AcCodes where
  u : Vector Int 3 := Vector.replicate 3 0
  i : Vector Int 3 := Vector.replicate 3 0
  n : Int := 0
  deriving DecidableEq, Repr

/-- The correction of one intake input (R240): volts or amperes at the secondary per code, and the delay of its channel in samples. -/
structure AcCal where
  gain : Rat := 1
  delay : Rat := 0
  deriving DecidableEq, Repr

/-- A disturbance detector (R244). -/
structure Det where
  on : Bool := false
  mask : Nat := 0
  mc : Nat := 0
  utc : Nat := 0
  ext : Nat := 0
  extPh : Nat := 0
  deriving DecidableEq, Repr

/-- Intake measurement (R240–R243). Means are sums over the cycles since the last latch. -/
structure Intake where
  valid : Bool := false
  freerun : Bool := false
  /-- The latest samples, oldest first, at most 1,024 of them. -/
  buf : List AcCodes := []
  /-- Start of the line cycle in progress, the last refresh and the one before it, as places in `buf` (R241, R244). -/
  start : Option Rat := none
  refAt : Option Rat := none
  refPrev : Option Rat := none
  /-- Reference phase (R241). -/
  ref : Option (Fin 3) := none
  /-- Kept time since when no phase qualifies. -/
  noRefAt : Option Nat := none
  pcyc : Int := 0
  cycSeq : Nat := 0
  cycles : Nat := 0
  sumU : Vector Rat 3 := Vector.replicate 3 0
  sumI : Vector Rat 3 := Vector.replicate 3 0
  sumP : Vector Rat 3 := Vector.replicate 3 0
  sumQ : Vector Rat 3 := Vector.replicate 3 0
  sumF : Rat := 0
  lastIn : Rat := 0
  /-- The latched set (R243). -/
  latU : Vector Nat 3 := Vector.replicate 3 0
  latI : Vector Nat 3 := Vector.replicate 3 0
  latP : Vector Int 3 := Vector.replicate 3 0
  latQ : Vector Int 3 := Vector.replicate 3 0
  latIn : Nat := 0
  latF : Nat := 0
  latPt : Int := 0
  latQt : Int := 0
  latE : Vector Nat 16 := Vector.replicate 16 0
  latUtc : Nat := 0
  latMc : Nat := 0
  lcnt : Nat := 0
  sag : Det := {}
  swell : Det := {}
  intr : Det := {}
  deriving DecidableEq, Repr

/-- A command lane (R246, R247): key, last accepted counter, the MRAM ring, the silence timer. -/
structure Lane where
  key : Option Nat := none
  ctr : Option Nat := none
  ring : List Nat := []
  aliveAt : Nat := 0
  deriving DecidableEq, Repr

/-- A switch point of a day profile (Table 9.2). -/
structure Switch where
  minute : Nat
  tariff : Nat
  deriving DecidableEq, Repr

/-- A special day (Table 9.2); no year: every year. -/
structure Special where
  day : Nat
  month : Nat
  year : Option Nat
  prof : Nat
  deriving DecidableEq, Repr

/-- A season (Table 9.2). -/
structure Season where
  day : Nat
  month : Nat
  week : Nat
  deriving DecidableEq, Repr

/-- A tariff table (Table 9.2). -/
structure Tariff where
  version : Nat
  activate : Nat
  seasons : List Season
  weeks : List (List Nat)
  days : List (List Switch)
  specials : List Special
  deriving DecidableEq, Repr

/-- A tamper kind (R278–R280): its condition, since when held or absent. -/
structure Tamp where
  active : Bool := false
  latch : Bool := false
  /-- Kept time from which the condition has held without a break. -/
  heldAt : Option Nat := none
  /-- Kept time from which it has been absent. -/
  goneAt : Option Nat := none
  deriving DecidableEq, Repr

/-- A session record (R270–R273): sequence number, bytes, and the OCMF string if one is formed. -/
structure Rec where
  seq : Nat
  body : List Byte
  sig : List Byte
  ocmf : Option (List Byte)
  /-- Kept time of forming and the number of later sendings done. -/
  formedAt : Nat
  sent : Nat
  deriving DecidableEq, Repr

/-- A command frame as it arrives on a lane: ALEN, CTR, the 40 ARGS bytes, TAG (Table 8.6). -/
structure CmdFrame where
  lane : Fin 2
  alen : Nat
  ctr : Nat
  args : List Byte
  tag : List Byte
  deriving DecidableEq, Repr

/-- The firmware held in the Sleeve (R222): the version its image carries, packed, the image and its signature. The image is the one of
the manufacture, which the metrology release key has signed. -/
structure SlvFw where
  version : Nat := 0x010000
  img : List Byte := Config.slvFirmware
  sig : List Byte := Config.hssOne Config.metroPublic Config.slvFirmware
  deriving DecidableEq, Repr

/-- The Sleeve. -/
structure Sleeve where
  /-- Serial number (Table 9.5). -/
  serial : Nat := 0
  st : SlvState := .boot
  /-- VSLV present and the Sleeve started. -/
  powered : Bool := false
  /-- Nothing is registered until the next start (R265). -/
  stopped : Bool := false
  vbks : Bool := true
  /-- Both supplies have been lost since the last start (R225). -/
  lostBoth : Bool := false
  /-- The write of R224 completed. -/
  writeOk : Bool := true
  /-- The next start records a watchdog reset (R253). -/
  wdog : Bool := false
  /-- Started before: the first start records no failure. -/
  everRan : Bool := false
  fw : SlvFw := {}
  /-- Published at the last start (R222): version, hash, and whether the signature verified. -/
  fwVer : Nat := 0
  fwHash : List Byte := []
  fwOk : Bool := false
  legal : Option LegalParams := none
  legalNew : Bool := false
  parCnt : Nat := 0
  clkV : Bool := false
  /-- Legal UTC time in µs, and the local offset in minutes. -/
  utc : Nat := 0
  off : Int := 0
  /-- Kept time in µs: the meter counter with its fraction. -/
  mc : Nat := 0
  reg : SlvReg := {}
  /-- The two MRAM copies (R252); a start restores the first. -/
  mram : SlvReg := {}
  mram2 : SlvReg := {}
  /-- Kept time of the last write. -/
  commitAt : Nat := 0
  head : Vector Head 12 := Vector.replicate 12 {}
  sess : Vector (Option Sess) 12 := Vector.replicate 12 none
  /-- Stopped sessions whose stop values are not latched yet, in the order of their stops (R239). -/
  closing : Vector (List Sess) 12 := Vector.replicate 12 []
  /-- Sessions closed at each port (R249). -/
  lastClosed : Vector (List Nat) 12 := Vector.replicate 12 []
  gate : Vector SlvGate 12 := Vector.replicate 12 {}
  inp : Intake := {}
  acCal : Vector AcCal 7 := Vector.replicate 7 {}
  lane : Vector Lane 2 := Vector.replicate 2 {}
  /-- Frames accepted in the present sample, in order, with their command codes (R264). -/
  cmdq : List (Nat × CmdFrame) := []
  chAuth : Nat := 0
  chReplay : Nat := 0
  chOther : Nat := 0
  act : Option Tariff := none
  pas : Option Tariff := none
  /-- Assembly of a table: next segment and its bytes. -/
  asm : Option (Nat × List Byte) := none
  tariff : Nat := 0
  deflt : Bool := true
  corr : List (Nat × Nat) := []
  clkLast : Int := 0
  tamp : Vector Tamp 5 := Vector.replicate 5 {}
  tampElec : Nat := 0
  tampMech : Nat := 0
  /-- Tamper events to raise at the next start (R280). -/
  pendTamp : Nat := 0
  recs : List Rec := []
  recSeq : Nat := 0
  leaf : Nat := 0
  leafTop : Nat := 0
  fseq : Nat := 0
  rseq : Nat := 0
  /-- Record frames waiting: RTYPE and BODY (Table 9.6). -/
  outq : List (Nat × List Byte) := []
  /-- The mirror words sent last: page, offset, word. -/
  sent : List (Nat × Nat × Nat) := []
  deriving DecidableEq, Repr

/-- A record being assembled by the main die (R272): number, total, segments held. -/
structure RecAsm where
  seq : Nat
  ocmf : Bool
  total : Nat
  segs : List (Nat × List Byte)
  deriving DecidableEq, Repr

/-- What the main die keeps of one forward stream (R228, R230). -/
structure SlvStream where
  fseq : Option Nat := none
  record : Bool := false
  cycSeq : Option Nat := none
  deriving DecidableEq, Repr

/-- The samples a port has taken in the present tick, and its last valid sample (R228). -/
structure SlvPort where
  sumV : Int := 0
  sumI : Int := 0
  n : Nat := 0
  lastOk : Option Nat := none
  /-- The measurement is invalid (R228). -/
  invalid : Bool := true
  deriving DecidableEq, Repr

/-- The main die's side of the Sleeve link: SLV_LINK, mirrors, record assembly and the command lane's counter. -/
structure SlvLink where
  crcErr : Nat := 0
  gaps : Nat := 0
  stream : Vector SlvStream 2 := Vector.replicate 2 {}
  port : Vector SlvPort 12 := Vector.replicate 12 {}
  /-- Mirrored words of the SLV_ and BIL_ groups: offset and word, rising, no zero word. -/
  slv : List (Nat × Nat) := []
  bil : List (Nat × Nat) := []
  asm : List RecAsm := []
  /-- First complete copies (R272), oldest first. -/
  done : List (Nat × Bool × List Byte) := []
  /-- SESSION_START frames sent: counter and session number; sessions whose start completed with STATE (R249). -/
  starts : List (Nat × Nat) := []
  noRec : List Nat := []
  deriving DecidableEq, Repr

/-- The main die's counter of the command lane in MRAM (R247): next value and the top of the reservation. -/
structure SlvCtr where
  next : Nat := 1
  top : Nat := 1
  deriving DecidableEq, Repr

end Sys2Proof.Machine
end

