-- ==== Sys2Proof/Machine/BillingCore.lean ====
section
/-! DEFINITION. The billing functions of the Sleeve (spec/09_billing_and_tamper.md R256–R281): calendar, tariff
tables, demand, billing period, legal clock, session records, credit and the legal log. -/

namespace Sys2Proof.Machine

/-- The Sleeve at work, with the events it raises. -/
structure SX where
  s : Sleeve
  evs : List Ev := []
  deriving DecidableEq, Repr

/-- Change the Sleeve. -/
def SX.mod (x : SX) (f : Sleeve → Sleeve) : SX := { x with s := f x.s }
/-- Raise an event. -/
def SX.raise (x : SX) (e : Ev) : SX := { x with evs := x.evs ++ [e] }

/-- Legal time in s. -/
def Sleeve.utcS (s : Sleeve) : Nat := s.utc / 1000000
/-- MCNT (R225). -/
def Sleeve.mcS (s : Sleeve) : Nat := s.mc / 1000000 % 2 ^ 32
/-- Local time in µs. -/
def Sleeve.loc (s : Sleeve) : Int := (s.utc : Int) + s.off * 60000000
/-- The legal parameters in force; defaults without a block. -/
def Sleeve.lp (s : Sleeve) : LegalParams := s.legal.getD {}
/-- RUN or SERVICE, powered, and not past the write of a power failure (R253, R265). -/
def Sleeve.registers (s : Sleeve) : Bool := s.powered && !s.stopped && (s.st == .run || s.st == .service)
/-- The legal time that records carry: 0 without a clock. -/
def Sleeve.stampUtc (s : Sleeve) : Nat := if s.clkV then s.utcS else 0
/-- The calendar is held (R267). -/
def Sleeve.frozen (s : Sleeve) : Bool := s.clkV && (decide (s.utc < s.reg.lutc) || decide (s.loc < s.reg.lloc))
/-- A head is treated as paired (R232): it has been paired, and the legal parameters name no other serial number. I_N is that of the
legal parameters. -/
def Sleeve.paired (s : Sleeve) (p : Nat) : Option Pairing :=
  match (atD s.head p {}).pair with
  | none => none
  | some q =>
    match atD s.lp.heads p none with
    | some h => if h.serial = q.serial then some { q with iN := h.iN } else none
    | none => some q
/-- A port's head takes sessions (R232, R249): paired, and its tags match. -/
def Sleeve.trusts (s : Sleeve) (p : Nat) : Bool := (s.paired p).isSome && !(atD s.head p {}).mismatch
/-- The legal log is full (R280). -/
def Sleeve.logFull (s : Sleeve) : Bool := decide (4096 ≤ s.reg.log.length)

/-- Tamper and power entries overwrite the oldest of a full log (R280). -/
def LogKind.forced : LogKind → Bool
  | .tamperBegin _ | .tamperEnd _ | .uncommitted | .watchdog | .power => true
  | .auth _ | .replay _ | .repair | .serviceEntry | .serviceExit | .fatalCause _ | .tableRefused | .timeSet _ _
  | .gateFail _ => false

/-- A log with one entry more (R280). -/
def logPush (e : LogEntry) (l : List LogEntry) : List LogEntry :=
  if l.length < 4096 then l ++ [e] else if e.kind.forced then l.drop 1 ++ [e] else l

/-- Enter `k` in the legal log (R280); without VSLV directly in the two MRAM copies, which the next start restores. -/
def logAdd (k : LogKind) (s : Sleeve) : Sleeve :=
  let push (r : SlvReg) : SlvReg := { r with log := logPush { kind := k, utc := s.stampUtc, mc := s.mcS } r.log }
  { s with reg := push s.reg, mram := if s.powered then s.mram else push s.mram, mram2 := if s.powered then s.mram2 else push s.mram2 }

/-! ## Calendar -/

/-- Day, month and year of a day counted from 1970-01-01. -/
def civil (days : Nat) : Nat × Nat × Nat :=
  let z := days + 719468
  let era := z / 146097
  let doe := z % 146097
  let yoe := (doe - doe / 1460 + doe / 36524 - doe / 146096) / 365
  let doy := doe - (365 * yoe + yoe / 4 - yoe / 100)
  let mp := (5 * doy + 2) / 153
  let d := doy - (153 * mp + 2) / 5 + 1
  let m := if mp < 10 then mp + 3 else mp - 9
  (d, m, yoe + era * 400 + (if m ≤ 2 then 1 else 0))

/-- Weekday of a day counted from 1970-01-01, 0 Monday. -/
def weekday (days : Nat) : Nat := (days + 3) % 7

/-- The tariff of a table at a local time in µs (R260). -/
def tariffAt (t : Tariff) (loc : Int) : Nat :=
  let mins := (loc / 60000000).toNat
  let days := mins / 1440
  let minute := mins % 1440
  let (d, m, y) := civil days
  let hit (year : Option Nat) := t.specials.find? (fun s => s.day == d && s.month == m && s.year == year)
  let prof := match (if 2000 ≤ y then hit (some (y - 2000)) else none), hit none with
    | some s, _ => s.prof
    | none, some s => s.prof
    | none, none =>
      let key (s : Season) := s.month * 32 + s.day
      let best (l : List Season) : Option Season :=
        l.foldl (fun b s => match b with | none => some s | some c => if key c < key s then some s else some c) none
      let past := t.seasons.filter (fun s => key s ≤ m * 32 + d)
      match best (if past.isEmpty then t.seasons else past) with
      | some s => ((t.weeks.getD s.week []).getD (weekday days) 0)
      | none => 0
  (((t.days.getD prof []).filter (fun p => p.minute ≤ minute)).getLast?.map (·.tariff)).getD 0

/-- The tariff that R260 gives now, and whether it is DEF_TARIFF. -/
def tariffNow (s : Sleeve) : Nat × Bool :=
  if s.clkV then
    match s.act with
    | some t => (tariffAt t s.loc, false)
    | none => (s.lp.defTariff, true)
  else (s.lp.defTariff, true)

/-- The multiples of `p` in (a, b], rising. -/
def multiplesIn (p a b : Int) : List Int :=
  if p ≤ 0 then [] else
    (List.range ((b / p) - (a / p)).toNat).map (fun k => (a / p + 1 + k) * p)

/-! ## Tariff tables -/

/-- A table as Table 9.2 lays it out, with the checks of R259 on fields, indices, profiles and seasons. -/
def parseTariff (bs : List Byte) : Option Tariff :=
  let b (i : Nat) : Nat := (bs.getD i 0).toNat
  let nS := b 12; let nW := b 13; let nD := b 14; let nX := b 15
  let seas : List Season := (List.range nS).map (fun i => { day := b (16 + 4 * i), month := b (17 + 4 * i), week := b (18 + 4 * i) })
  let weeks := (List.range nW).map (fun i => (List.range 7).map (fun j => b (32 + 7 * i + j)))
  let word (i j : Nat) : Nat := leAt bs (88 + 24 * i + 2 * j) 2
  let pts (i : Nat) : List Nat := (List.range 12).map (word i)
  let used (i : Nat) : List Nat := (pts i).takeWhile (fun w => bitOf 15 w)
  let days := (List.range nD).map (fun i => (used i).map (fun w => ({ minute := field 0 11 w, tariff := field 11 3 w } : Switch)))
  let spec : List Special := (List.range nX).map (fun i =>
    { day := b (472 + 4 * i), month := b (473 + 4 * i),
      year := if b (474 + 4 * i) = 255 then none else some (b (474 + 4 * i)), prof := b (475 + 4 * i) })
  let zero (lo hi : Nat) : Bool := ((bs.drop lo).take (hi - lo)).all (· == 0)
  let dayOk (i : Nat) : Bool :=
    (pts i).all (fun w => field 0 11 w < 1440 && !bitOf 14 w)
      && ((pts i).drop (used i).length).all (fun w => !bitOf 15 w)
      && ((used i).head?.map (fun w => field 0 11 w == 0)).getD false
      && (List.range ((used i).length - 1)).all (fun j => field 0 11 ((used i).getD j 0) < field 0 11 ((used i).getD (j + 1) 0))
  let dm (d m : Nat) : Bool := 1 ≤ d && d ≤ 31 && 1 ≤ m && m ≤ 12
  let ok := bs.length == 728 && 1 ≤ leAt bs 0 4 && 1 ≤ nS && nS ≤ 4 && 1 ≤ nW && nW ≤ 8 && 1 ≤ nD && nD ≤ 16 && nX ≤ 64
    && seas.all (fun s => dm s.day s.month && s.week < nW && !(s.day == 29 && s.month == 2))
    && (List.range nS).all (fun i => b (19 + 4 * i) == 0)
    && (seas.map (fun s => s.month * 32 + s.day)).Nodup
    && weeks.all (fun w => w.all (· < nD))
    && (List.range nD).all dayOk
    && spec.all (fun s => dm s.day s.month && s.prof < nD)
    && zero (16 + 4 * nS) 32 && zero (32 + 7 * nW) 88 && zero (88 + 24 * nD) 472 && zero (472 + 4 * nX) 728
  if ok then
    some { version := leAt bs 0 4, activate := leAt bs 4 8, seasons := seas, weeks := weeks, days := days, specials := spec }
  else none

/-! ## Demand and periods -/

/-- Demand in 0.1 kW of an energy in mJ over a duration in ms (R262), rounded down. -/
def slvDemandOf (e : Rat) (ms : Nat) : Nat := sat 24 (e / ms / 100).floor.toNat

/-- Interval or subinterval length in µs (R262). -/
def demStep (s : Sleeve) : Nat :=
  (if s.lp.demMode = 1 then s.lp.demLen / s.lp.demSub else s.lp.demLen) * 60000000

/-- A demand is complete (R262). -/
def demComplete (d : DemInt) (s : Sleeve) : Sleeve :=
  if d.t = 0 then s else
  let v := slvDemandOf d.e d.t
  let old := atD s.reg.md s.tariff {}
  let skip := d.short && d.t * 2 < s.lp.demLen * 60000
  let md := if v > old.dem && !skip then
      updN s.reg.md s.tariff (fun _ => { dem := v, stamp := if s.clkV then s.utcS else s.mcS, noclk := !s.clkV })
    else s.reg.md
  { s with reg := { s.reg with md := md, demLast := { dem := v, pf := d.pf, short := d.short, long := d.long, tariff := s.tariff } } }

/-- The interval or subinterval in progress ends (R262, step 2 of R264). -/
def endDemand (short : Bool) (s : Sleeve) : Sleeve :=
  let d := s.reg.dem
  let done : DemInt := { d with t := (s.mc - d.t) / 1000, short := d.short || short }
  let s := if s.lp.demMode = 1 then
      let subs := (done :: s.reg.subs).take s.lp.demSub
      let s := { s with reg := { s.reg with subs := subs } }
      if subs.length = s.lp.demSub then
        demComplete { e := sumQ (subs.map (·.e)), t := sumN (subs.map (·.t)), pf := subs.any (·.pf), long := subs.any (·.long),
                      short := subs.any (·.short) } s
      else s
    else demComplete done s
  { s with reg := { s.reg with dem := { t := s.mc } } }

/-- The billing period closes (R263). -/
def closePeriod (s : Sleeve) : Sleeve :=
  { s with reg := { s.reg with periods := ({ timp := s.reg.timp, texp := s.reg.texp, md := s.reg.md } :: s.reg.periods).take 13,
                               periodCnt := (s.reg.periodCnt + 1) % 2 ^ 16,
                               md := Vector.replicate 8 {} } }

/-- The billing periods whose local midnight lies after the latest local time close (R263, step 3 of R264). -/
def settlePeriods (s : Sleeve) : Sleeve :=
  (multiplesIn 86400000000 s.reg.lloc s.loc).foldl (fun s m =>
    if s.lp.billDay ≠ 0 ∧ (civil (m / 86400000000).toNat).1 = s.lp.billDay then closePeriod s else s) s

/-- A passive table activates (R259, step 4 of R264), unless the calendar is held (R267). -/
def settleTable (s : Sleeve) : Sleeve :=
  match s.pas with
  | some t => if !s.frozen && decide (t.activate * 1000000 ≤ s.utc) then { s with act := some t, pas := none } else s
  | none => s

/-- The tariff in force is taken (R260, step 5 of R264), unless the calendar is held (R267). -/
def settleTariff (s : Sleeve) : Sleeve :=
  if s.frozen then s else { s with tariff := (tariffNow s).1, deflt := (tariffNow s).2 }

/-- The latest times reached (R267). -/
def settleLatest (s : Sleeve) : Sleeve :=
  { s with reg := { s.reg with lutc := max s.reg.lutc s.utc, lloc := max s.reg.lloc s.loc } }

/-- Steps 3 to 5 of R264 at the present legal time. -/
def settle (s : Sleeve) : Sleeve := settleLatest (settleTariff (settleTable (settlePeriods s)))

/-- The boundaries of one instant `b` of legal time, reached at kept time `m` (steps 2 to 5 of R264). -/
def atInstant (b m : Nat) (s : Sleeve) : Sleeve :=
  let s := { s with utc := b, mc := m }
  let s := if s.reg.lutc < b ∧ demStep s ≠ 0 ∧ b % demStep s = 0 then endDemand false s else s
  settle s

/-- The instants in (a, b] at which a boundary can fall: demand ends, local midnights and the activation of a table; and b itself. -/
def instants (s : Sleeve) (a b : Nat) : List Nat :=
  let dem := (multiplesIn (demStep s) a b).map Int.toNat
  let mid := (multiplesIn 86400000000 (a + s.off * 60000000) (b + s.off * 60000000)).map (fun m => (m - s.off * 60000000).toNat)
  let act := ((s.pas.map (fun t => t.activate * 1000000)).toList).filter (fun t => a < t && t ≤ b)
  sortBy id ((mid ++ act).foldl (fun acc m => addSet m acc) (addSet b dem))

/-- Kept time passes by `d` µs with a valid clock or without one (R264, R265, R269). `gap`: nothing registered meanwhile, so that the
tariff of an interval is the one before its end; `pf`: VSLV was absent (R262). -/
def passTime (gap pf : Bool) (d : Nat) (s : Sleeve) : Sleeve :=
  if s.clkV then
    let a := s.utc
    let m := s.mc
    (instants s a (a + d)).foldl (fun s b =>
      let before : Sleeve := { s with utc := b - 1 }
      let s := if gap && !before.frozen then { s with tariff := (tariffNow before).1 } else s
      let s := atInstant b (m + (b - a)) s
      if pf then { s with reg := { s.reg with dem := { s.reg.dem with pf := true } } } else s) s
  else
    let m := s.mc
    let s := (multiplesIn (demStep s) m (m + d)).foldl (fun s b => endDemand false { s with mc := b.toNat }) s
    let s := { s with mc := m + d, tariff := s.lp.defTariff, deflt := true }
    match s.pas with
    | some t => if t.activate = 0 then { s with act := some t, pas := none } else s
    | none => s

/-! ## The legal clock -/

/-- The clock is set to `new` seconds and offset `off` (R266–R269), the setting having been accepted. DESIGN CHOICE (log 124): a setting to
the second that the clock shows changes the offset alone and leaves the fraction of the second. -/
def setClock (new : Nat) (off : Int) (s : Sleeve) : Sleeve :=
  let wasValid := s.clkV
  let old := s.utcS
  let s := logAdd (.timeSet (if wasValid then old else 0) new) s
  let back := wasValid && decide (new < old)
  let s := { s with clkLast := if wasValid then satI 32 ((new : Int) - old) else s.clkLast,
                    utc := if wasValid ∧ new = old then s.utc else new * 1000000, off := off, clkV := true }
  if wasValid then
    let s := if s.reg.lutc < s.utc ∧ old < new then
        let s := endDemand true s
        { s with reg := { s.reg with dem := { s.reg.dem with short := decide (s.utc % demStep s ≠ 0) } } }
      else s
    let s := if back then { s with reg := { s.reg with dem := { s.reg.dem with long := true } } } else s
    settle s
  else
    let s := endDemand true s
    let s := { s with reg := { s.reg with dem := { s.reg.dem with short := decide (s.utc % demStep s ≠ 0) } } }
    let s := if s.reg.lutc = 0 then { s with reg := { s.reg with lutc := s.utc, lloc := s.loc } } else s
    settle s

/-- Sum of the corrections of the last 86,400 s of meter counter (R266). -/
def corrSum (s : Sleeve) : Nat := sumN ((s.corr.filter (fun c => s.mcS < c.1 + 86400)).map (·.2))

/-- A SET_TIME is judged; none: accepted (R266). -/
def setTimeOk (new : Nat) (off : Int) (s : Sleeve) : Bool :=
  let d := ((new : Int) - s.utcS).natAbs
  off % 15 == 0 && decide (-720 ≤ off) && decide (off ≤ 840)
    && (if s.clkV then decide (d ≤ s.lp.clkStep) && decide (d + corrSum s ≤ s.lp.clkDay)
        else decide (s.mram.lutc / 1000000 ≤ new))

/-- A SET_TIME is carried out (R266). -/
def setTime (new : Nat) (off : Int) (s : Sleeve) : Sleeve :=
  let d := ((new : Int) - s.utcS).natAbs
  let s' := setClock new off s
  if s.clkV ∧ d ≠ 0 then { s' with corr := (s'.corr ++ [(s.mcS, d)]).filter (fun c => s.mcS < c.1 + 86400) } else s'

/-! ## Record frames, records -/

/-- Put a record frame in the queue of the forward link (R227, Table 9.6). -/
def pushRec (rtype : Nat) (body : List Byte) (s : Sleeve) : Sleeve := { s with outq := s.outq ++ [(rtype, body)] }

/-- The 40 bytes of ARGS. -/
def CmdFrame.args40 (f : CmdFrame) : List Byte := (f.args ++ List.replicate 40 0).take 40

/-- Bytes 0–47 of the frame (Table 8.6). -/
def CmdFrame.head (code : Nat) (f : CmdFrame) : List Byte :=
  leBytes 1 code ++ leBytes 1 0 ++ leBytes 2 f.alen ++ leBytes 4 f.ctr ++ f.args40

/-- The first 16 bytes of an HMAC (R231, R246). -/
def tag16 (key : Nat) (bs : List Byte) : List Byte := (beBytes 32 (Config.hmac key bs)).take 16

/-- A command frame of 64 bytes under the lane's key (Table 8.6). -/
def cmdFrame (key code ctr : Nat) (args : List Byte) : List Byte :=
  let h := CmdFrame.head code { lane := 0, alen := args.length, ctr := ctr, args := args, tag := [] }
  h ++ tag16 key h

/-- The bytes of a list in pieces of 108 (R272). -/
def chunks : Nat → List Byte → List (List Byte)
  | 0, _ => []
  | n + 1, bs => if bs.isEmpty then [] else bs.take 108 :: chunks n (bs.drop 108)

/-- The segments of one byte string of record `seq` (R272, R273). -/
def segFrames (seq : Nat) (ocmf : Bool) (bs : List Byte) : List (Nat × List Byte) :=
  let cs := chunks (bs.length / 108 + 1) bs
  (List.range cs.length).map (fun i =>
    let c := cs.getD i []
    (3, leBytes 4 seq ++ leBytes 2 (i + if ocmf then 32768 else 0) ++ leBytes 2 cs.length ++ leBytes 1 c.length ++ leBytes 3 0
        ++ c ++ List.replicate (108 - c.length) 0))

/-- A record is sent (R272, R273). -/
def sendRec (r : Rec) (s : Sleeve) : Sleeve :=
  let a := segFrames r.seq false (r.body ++ r.sig)
  let b := match r.ocmf with | some t => segFrames r.seq true t | none => []
  { s with outq := s.outq ++ a ++ b }

/-- Whole Wh of an energy in mJ, rounded down (R235). -/
def wh (e : Rat) : Nat := (e / 3600000).floor.toNat

/-- The body of a session record (Table 9.5). -/
def recBody (p : Nat) (x : Sess) (en : SessEnergy) (stopImp stopExp : Nat) (s : Sleeve) : List Byte :=
  let flags := maskOf 8 (fun i => [x.prepaid, x.clkStart, x.clkStop, x.linkLoss, x.gap, x.creditFl, x.tamper, x.gateFail].getD i false)
  let serial := match (atD s.head p {}).pair with | some h => h.serial | none => 0
  leBytes 2 1 ++ leBytes 1 p ++ leBytes 1 flags ++ leBytes 4 x.num ++ leBytes 8 s.serial ++ leBytes 8 serial
    ++ leBytes 8 x.tStart ++ leBytes 8 x.tStop ++ leBytes 4 x.mcStart ++ leBytes 4 x.mcStop ++ leBytes 2 (enc 16 x.offset)
    ++ leBytes 1 x.endR ++ leBytes 1 0
    ++ leBytes 8 x.startImp ++ leBytes 8 stopImp ++ leBytes 8 x.startExp ++ leBytes 8 stopExp
    ++ leBytes 4 (wh en.cimp) ++ leBytes 4 (wh en.cexp) ++ en.timp.toList.flatMap (fun e => leBytes 4 (wh e))
    ++ leBytes 2 (min x.gaps 65535) ++ leBytes 2 0 ++ leBytes 4 x.credit ++ leBytes 4 s.fwVer ++ leBytes 4 s.parCnt
    ++ leBytes 4 ((s.act.map (·.version)).getD 0) ++ leBytes 4 s.recSeq ++ leBytes 12 0

/-- The decimal digits of a number. -/
def decText (n : Nat) : List Byte := (Nat.toDigits 10 n).map (fun c => BitVec.ofNat 8 c.toNat)

/-- Wh as kWh with three decimals (R273). -/
def kwhText (n : Nat) : List Byte := decText (n / 1000) ++ [0x2E#8] ++ ((decText (1000 + n % 1000)).drop 1)

/-- The bytes of a text. -/
def textBytes (t : String) : List Byte := t.toList.map (fun c => BitVec.ofNat 8 c.toNat)

/-- A text in quotes. -/
def quoted (bs : List Byte) : List Byte := [0x22#8] ++ bs ++ [0x22#8]

/-- Named fields in braces, separated by commas. -/
def fieldsText (fs : List (String × List Byte)) : List Byte :=
  [0x7B#8] ++ ((fs.map (fun f => quoted (textBytes f.1) ++ [0x3A#8] ++ f.2)).intersperse [0x2C#8]).flatten ++ [0x7D#8]

/-- One reading of RD: its number and the value of RV (R273). -/
def ocmfReading (body : List Byte) (k rv : Nat) : List Byte :=
  let v (i : Nat) : List Byte := Config.ocmfValue (100 * (k + 1) + i) body
  fieldsText [("TM", v 0), ("TX", v 1), ("RV", kwhText rv), ("RI", v 3), ("RU", v 4), ("ST", v 5)]

/-- The payload of an OCMF string (R273): the readings at the start and at the stop. -/
def ocmfPayload (rv : List Nat) (body : List Byte) : List Byte :=
  let names := ["FV", "GI", "GS", "GV", "PG", "MV", "MM", "MS", "MF", "IS", "IT", "ID", "TT"]
  let rd := ((List.range rv.length).map (fun k => ocmfReading body k (rv.getD k 0))).intersperse [0x2C#8]
  fieldsText ((List.range 13).map (fun i => (names.getD i "", Config.ocmfValue i body)) ++ [("RD", [0x5B#8] ++ rd.flatten ++ [0x5D#8])])

/-- Two lower-case hexadecimal digits of a byte. -/
def hexByte (b : Byte) : List Byte := textBytes (String.ofList [Nat.digitChar (b.toNat / 16), Nat.digitChar (b.toNat % 16)])

/-- The OCMF string of a record (R273): payload, and signature under the ECDSA key number `key` (R271). -/
def ocmfText (key : Nat) (rv : List Nat) (body : List Byte) : List Byte :=
  let pay := ocmfPayload rv body
  textBytes "OCMF|" ++ pay ++ textBytes "|"
    ++ fieldsText [("SA", quoted (textBytes "ECDSA-secp256r1-SHA256")),
                   ("SD", quoted ((beBytes 64 (Config.ecdsaSign key pay)).flatMap hexByte))]

/-- The energy that counts as compensated is that of R236. DESIGN CHOICE (log 124): where R_LOSS is zero, so that R236 accumulates none, it is
the uncompensated one. -/
def Sleeve.compensates (s : Sleeve) (p : Nat) : Bool := s.lp.comp == 1 && ((atD s.lp.heads p none).map (·.rLoss)).getD 0 != 0

/-- A closed session's record is formed, signed and sent (R270–R273). -/
def formRecord (p : Nat) (x : Sess) (en : SessEnergy) (stopImp stopExp : Nat) (s : Sleeve) : Sleeve :=
  let s := { s with recSeq := s.recSeq + 1, leaf := s.leaf + 1,
                    leafTop := if s.leaf < s.leafTop then s.leafTop else s.leafTop + 64 }
  let body := recBody p x en stopImp stopExp s
  let hss := beBytes 3124 (Config.hssSign s.serial (s.leaf - 1) body)
  let ec := if s.lp.sigMode = 1 then beBytes 64 (Config.ecdsaSign s.serial body) else []
  let comp := wh (atD s.reg.port p {}).cimp
  let rv := if s.compensates p then [comp - wh en.cimp, comp] else [x.startImp, stopImp]
  let r : Rec := { seq := s.recSeq, body := body, sig := hss ++ ec,
                   ocmf := if s.lp.ocmf = 1 then some (ocmfText s.serial rv body) else none, formedAt := s.mc, sent := 0 }
  sendRec r { s with recs := (r :: s.recs).take 128 }

/-- The stop values of the sessions that have stopped are latched and their records formed, in the order of the stops (R239, R270). -/
def latchStop (p : Nat) (s : Sleeve) : Sleeve :=
  let e := atD s.reg.port p {}
  let one (s : Sleeve) (x : Sess) (en : SessEnergy) : Sleeve :=
    let x := if x.latched then x else { x with latched := true, startImp := wh e.imp, startExp := wh e.exp }
    formRecord p x en (wh e.imp) (wh e.exp) s
  match atD s.closing p [] with
  | [] => s
  | x :: xs =>
    let s := xs.foldl (fun s x => one s x {}) (one s x (atD s.reg.closing p {}))
    { s with closing := updN s.closing p (fun _ => []), reg := { s.reg with closing := updN s.reg.closing p (fun _ => {}) } }

/-- The start value of a new session is latched (R239, R249). -/
def latchStart (p : Nat) (s : Sleeve) : Sleeve :=
  let e := atD s.reg.port p {}
  { s with sess := updN s.sess p (fun o => o.map (fun x =>
      if x.latched then x else { x with latched := true, startImp := wh e.imp, startExp := wh e.exp })) }

/-! ## Credit and gates -/

/-- The session import that the credit counts (R274), in mJ. -/
def countedImp (s : Sleeve) (p : Nat) : Rat :=
  let en := atD s.reg.sess p {}
  if s.compensates p then en.cimp else en.imp

/-- Remaining credit in Wh, exact (R274). -/
def creditLeft (s : Sleeve) (p : Nat) (x : Sess) : Rat := x.credit - countedImp s p / 3600000

/-- NOTICE is set for port p (R275). -/
def setNotice (p : Nat) (s : Sleeve) : Sleeve :=
  let g := atD s.gate p {}
  if g.notice then s else { s with gate := updN s.gate p (fun g => { g with notice := true, noticeAt := s.mc }) }

/-- The Sleeve opens the gate of port p (R275); the record carries CREDIT. -/
def openGate (p : Nat) (s : Sleeve) : Sleeve :=
  let g := atD s.gate p {}
  if g.open_ then s else
    { s with gate := updN s.gate p (fun g => { g with open_ := true, openAt := s.mc, judged := false }),
             sess := updN s.sess p (fun o => o.map (fun x => { x with creditFl := true })) }

/-- The credit check of a block of import `blk` mJ (R275); `low`: current below 1 % of I_N throughout. -/
def creditCheck (p : Nat) (verified low : Bool) (blk : Rat) (s : Sleeve) : Sleeve :=
  match atD s.sess p none with
  | some x =>
    if x.prepaid && x.latched then
      let left := creditLeft s p x
      let due := decide (left ≤ blk / 64 * s.lp.leadT / 3600) || decide (left ≤ 0)
        || (atD s.head p {}).st == .error
      let s := if due && (verified || (atD s.head p {}).st == .error) then setNotice p s else s
      if (atD s.gate p {}).notice && verified && low then openGate p s else s
    else s
  | none => s

/-- The gate of port p conducts (R253, R274–R277, and spec/19_pins_electrical_package.md R494: an unpowered Sleeve's gate
reads open). -/
def Sleeve.gateClosed (s : Sleeve) (p : Nat) : Bool :=
  s.powered && (match s.st with
    | .run | .service => !(atD s.gate p {}).open_
    | .boot | .unsealed => true
    | .fatal => !(((atD s.sess p none).map (·.prepaid)).getD false) && !(atD s.gate p {}).linkLoss)

/-! ## Session commands -/

/-- Results of a command (R248). -/
inductive CmdRes where
  | ok | auth | replay | unknown | length | state | value
  deriving DecidableEq, Repr

/-- Codes of R248. -/
def CmdRes.code : CmdRes → Nat
  | .ok => 0 | .auth => 1 | .replay => 2 | .unknown => 3 | .length => 4 | .state => 5 | .value => 6

/-- SESSION_START (R249, R274, R277). -/
def sessionStart (args : List Byte) (s : Sleeve) : CmdRes × Sleeve :=
  let p := leAt args 0 1
  let num := leAt args 4 4
  if !s.registers then (.state, s)
  else if 12 ≤ p then (.value, s)
  else if !s.trusts p then (.state, s)
  else
    let unl (s : Sleeve) : Sleeve := { s with gate := updN s.gate p (fun g => { g with open_ := false, notice := false, linkLoss := false }) }
    match atD s.sess p none with
    | some x => if x.num = num then (.ok, s) else (.state, s)
    | none =>
      let x : Sess := { num := num, prepaid := bitOf 0 (leAt args 1 1), credit := if bitOf 0 (leAt args 1 1) then leAt args 8 4 else 0,
                        tStart := s.stampUtc, clkStart := s.clkV, mcStart := s.mcS, offset := s.off }
      (.ok, unl { s with sess := updN s.sess p (fun _ => some x), reg := { s.reg with sess := updN s.reg.sess p (fun _ => {}) } })

/-- SESSION_STOP (R249, R277). -/
def slvSessionStop (args : List Byte) (s : Sleeve) : CmdRes × Sleeve :=
  let p := leAt args 0 1
  let num := leAt args 4 4
  if !s.registers then (.state, s)
  else if 12 ≤ p ∨ 17 < leAt args 1 1 then (.value, s)
  else match atD s.sess p none with
    | some x =>
      if x.num ≠ num then (if (atD s.lastClosed p []).contains num then .ok else .state, s)
      else
        let x := { x with endR := leAt args 1 1, mcStop := s.mcS, tStop := s.stampUtc, clkStop := s.clkV, stopping := true }
        (.ok, { s with sess := updN s.sess p (fun _ => none), closing := updN s.closing p (fun xs => xs ++ [x]),
                       lastClosed := updN s.lastClosed p (fun l => num :: l),
                       gate := updN s.gate p (fun g => { g with open_ := false, notice := false, linkLoss := false }),
                       reg := { s.reg with closing := if (atD s.closing p []).isEmpty then updN s.reg.closing p (fun _ => atD s.reg.sess p {})
                                             else s.reg.closing,
                                           sess := updN s.reg.sess p (fun _ => {}) } })
    | none => (if (atD s.lastClosed p []).contains num then .ok else .state, s)

/-- Every open session is closed with the link-loss mark (R251, R270, R277). -/
def linkLossClose (s : Sleeve) : Sleeve :=
  (List.range 12).foldl (fun s p =>
    match atD s.sess p none with
    | none => s
    | some x =>
      let e := atD s.reg.port p {}
      let x := if x.latched then x else { x with latched := true, startImp := wh e.imp, startExp := wh e.exp }
      let x := { x with endR := 255, linkLoss := true, mcStop := s.mcS, tStop := s.stampUtc, clkStop := s.clkV }
      let en := atD s.reg.sess p {}
      let s := { s with sess := updN s.sess p (fun _ => none), lastClosed := updN s.lastClosed p (fun l => x.num :: l),
                        reg := { s.reg with sess := updN s.reg.sess p (fun _ => {}) },
                        gate := updN s.gate p (fun g => if x.prepaid then
                            { g with open_ := true, openAt := s.mc, judged := false, linkLoss := true } else g) }
      formRecord p x en (wh e.imp) (wh e.exp) s) s

/-- TARIFF_SEG (R258, R259). Segment 0 discards a partial assembly, and so does one that does not carry the next index. A table that passes
waits as the passive table for the boundary step of a sample. -/
def tariffSeg (alen : Nat) (args : List Byte) (s : Sleeve) : CmdRes × Sleeve :=
  if s.logFull then (.state, s) else
  let seg := leAt args 1 1
  let want := if seg = 102 then 24 else 40
  let drop : Sleeve := { s with asm := none }
  let held : Option (Nat × List Byte) := if seg = 0 then some (0, []) else s.asm.filter (fun a => a.1 == seg)
  match held with
  | none => (.value, drop)
  | some (_, bs) =>
    if leAt args 0 1 ≠ 0 ∨ leAt args 2 1 ≠ 103 ∨ alen ≠ want then (.value, if seg = 0 then drop else s)
    else
      let t := bs ++ (args.drop 4).take (want - 4)
      if seg < 102 then (.ok, { s with asm := some (seg + 1, t) })
      else
        let newer (t : Tariff) : Bool := decide (((s.act.map (·.version)).getD 0) < t.version)
          && decide (((s.pas.map (·.version)).getD 0) < t.version)
        match parseTariff (t.take 728) with
        | some tab =>
          if Config.hssVerify s.lp.tariffPk (t.take 728) (t.drop 728) && newer tab then
            (.ok, { drop with pas := some tab })
          else (.value, logAdd .tableRefused drop)
        | none => (.value, logAdd .tableRefused drop)

/-- SET_TIME as a command (R266, R280). -/
def setTimeCmd (args : List Byte) (s : Sleeve) : CmdRes × Sleeve :=
  let new := leAt args 0 8
  let off := leAtI args 8 2
  if s.logFull then (.state, s)
  else if setTimeOk new off s then (.ok, setTime new off s)
  else (.value, s)

end Sys2Proof.Machine
end

