-- ==== Sys2Proof/Machine/SleeveCore.lean ====
section
/-! DEFINITION. The Sleeve's measurement, heads, states and forward link, and the main die's receiving side
(spec/08_sleeve_metrology.md R220–R255, spec/09_billing_and_tamper.md R272, R276–R280). -/

namespace Sys2Proof.Machine

/-! ## Heads -/

/-- The nominal value of a converter code over a span, ends at 0x7FFFFF and 0x800000 (R233). -/
def codeValue (span : Rat) (code : Int) : Rat :=
  if 0 ≤ code then span * code / 8388607 else span * code / 8388608

/-- Voltage in V of a head's code (R233, R235). -/
def headV (q : Pairing) (code temp : Int) : Rat := codeValue (q.vRated * 3 / 2) code + Config.headCorr q.cal 0 code temp

/-- Current in A of a head's code (R233, R235). -/
def headI (q : Pairing) (code temp : Int) : Rat := codeValue (q.iN * 2) code + Config.headCorr q.cal 1 code temp

/-- One sample adds to the energies (R235, R236). `rLoss` in µΩ. -/
def addSample (iN rLoss : Nat) (v i : Rat) (e : Energy) : Energy :=
  let low := decide (absQ i < iN / 1000)
  let p : Rat := if low then 0 else v * i
  let pc : Rat := if low then 0 else if rLoss = 0 then p else p - i * i * rLoss / 1000000
  { imp := e.imp + max p 0 / 4, exp := e.exp + max (-p) 0 / 4,
    cimp := if rLoss = 0 then e.cimp else e.cimp + max pc 0 / 4,
    cexp := if rLoss = 0 then e.cexp else e.cexp + max (-pc) 0 / 4 }

/-- A head enters ERROR (R234, R275). -/
def headError (p : Nat) (x : SX) : SX :=
  if (atD x.s.head p {}).st = .ok then
    let x := (x.mod (fun s => { s with head := updN s.head p (fun h => { h with st := .error, okRun := 0 }) })).raise .headError
    match atD x.s.sess p none with
    | some q => if q.prepaid then x.mod (setNotice p) else x
    | none => x
  else x

/-- The energy of a verified block is registered, split by tariff for its session (R233, R236, R261). -/
def commitBlock (p : Nat) (e : Energy) (s : Sleeve) : Sleeve :=
  let add (a : Energy) : Energy := { imp := a.imp + e.imp, exp := a.exp + e.exp, cimp := a.cimp + e.cimp, cexp := a.cexp + e.cexp }
  let addS (a : SessEnergy) : SessEnergy :=
    { imp := a.imp + e.imp, cimp := a.cimp + e.cimp, cexp := a.cexp + e.cexp, timp := updN a.timp s.tariff (· + e.imp) }
  let r := { s.reg with port := updN s.reg.port p add }
  let r := match atD s.closing p [], atD s.sess p none with
    | c :: _, _ => if c.latched then { r with closing := updN r.closing p addS } else r
    | [], some x => if x.latched then { r with sess := updN r.sess p addS } else r
    | [], none => r
  { s with reg := r }

/-- A gap of `n` blocks in the session whose blocks these are (R233): the one that has stopped and is still to be latched, or the open
one. -/
def sessGap (p n : Nat) (s : Sleeve) : Sleeve :=
  let g (x : Sess) : Sess := if x.latched then { x with gap := true, gaps := x.gaps + n } else x
  match atD s.closing p [] with
  | [] => { s with sess := updN s.sess p (fun o => o.map g) }
  | x :: xs => { s with closing := updN s.closing p (fun _ => g x :: xs) }

/-- A block that is not registered (R233): a gap, counted in GAPS. -/
def gapBlock (p : Nat) (s : Sleeve) : Sleeve :=
  sessGap p 1 { s with head := updN s.head p (fun h => { h with gaps := satInc 8 h.gaps, okRun := 0 }) }

/-- A new block begins. -/
def newBlock (h : Head) : Head :=
  { h with count := 0, bytes := [], bad := false, blkOvr := false, allLow := true, pend := {}, since := 0, age := 0 }

/-- What the end of a block of head p does: registered or a gap, latches, head condition, credit (R233, R234, R239, R249, R275). -/
def closeBlock (p : Nat) (verified : Bool) (block : Nat) (x : SX) : SX :=
  let h := atD x.s.head p {}
  x.mod (fun s =>
    let s := if verified && s.registers then commitBlock p h.pend s else if verified then s else gapBlock p s
    let s := if verified then { s with head := updN s.head p (fun h =>
        let run := h.okRun + 1
        { h with lastBlock := some block, lastVer := s.mc, okRun := run, ovr := if h.blkOvr then satInc 8 h.ovr else h.ovr,
                 st := if h.st = .error ∧ 16 ≤ run then .ok else h.st }) }
      else s
    let sessHad := atD s.sess p none
    let s := latchStart p (latchStop p s)
    match sessHad with
      | some q => if q.latched then creditCheck p verified h.allLow (if verified then h.pend.imp else 0) s else s
      | none => s)

/-- The block in progress of head p ends and the next begins. -/
def blockEnd (p : Nat) (verified : Bool) (block : Nat) (x : SX) : SX :=
  (closeBlock p verified block x).mod (fun s => { s with head := updN s.head p newBlock })

/-- The authentication frame of a block has not come (R233): the block is a gap. A block that has begun since goes on. -/
def blockMissed (p : Nat) (x : SX) : SX :=
  (closeBlock p false 0 x).mod (fun s => { s with head := updN s.head p (fun h =>
    { (if 0 < h.count ∧ h.age < 256 then h else newBlock h) with since := 2 }) })

/-- A sample frame of a head (R231, R233–R236). -/
def headSample (p : Nat) (bs : List Byte) (x : SX) : SX :=
  if !x.s.powered ∨ bs.length ≠ 12 ∨ leAt bs 0 1 ≠ 0xA5 then x else
  match x.s.paired p with
  | none => x
  | some q =>
    let good := decide (crc16 (bs.take 10) = leAt bs 10 2)
    -- the next block has begun and no authentication frame has come: the last one is a gap
    let x := if good && decide (leAt bs 1 1 < (atD x.s.head p {}).count) then blockEnd p false 0 x else x
    if !good then
      x.mod (fun s => { s with head := updN s.head p (fun h => { h with
        bad := true, count := h.count + 1, fwd := none, age := if h.count = 0 then 0 else h.age }) })
    else
      let seq := leAt bs 1 1
      let cv := leAtI bs 2 3
      let ci := leAtI bs 5 3
      let stat := leAt bs 8 1
      let temp := leAtI bs 9 1
      let v := headV q cv temp
      let i := headI q ci temp
      let ovr := cv == 8388607 || cv == -8388608 || ci == 8388607 || ci == -8388608 || bitOf 0 stat || bitOf 1 stat
      let rLoss := ((atD x.s.lp.heads p none).map (·.rLoss)).getD 0
      let x := x.mod (fun s => { s with head := updN s.head p (fun h =>
        let full := decide (h.sumN = 7)
        let sv := h.sumV + v; let si := h.sumI + i; let sp := h.sumP + v * i
        { h with bad := h.bad || decide (seq ≠ h.count), count := seq + 1, age := if h.count = 0 then seq else h.age, bytes := (bs.take 10) :: h.bytes,
                 blkOvr := h.blkOvr || ovr, allLow := h.allLow && decide (absQ i < q.iN / 100),
                 pend := addSample q.iN rLoss v i h.pend,
                 fwd := if stat % 8 = 0 then some (satI 32 (v * 1000).floor, satI 32 (i * 1000).floor) else none,
                 sumV := if full then 0 else sv, sumI := if full then 0 else si, sumP := if full then 0 else sp,
                 sumN := if full then 0 else h.sumN + 1,
                 meanV := if full then satI 32 (sv / 8 * 1000).floor else h.meanV,
                 meanI := if full then satI 32 (si / 8 * 1000).floor else h.meanI,
                 meanP := if full then satI 32 (sp / 8).floor else h.meanP }) })
      if bitOf 2 stat then headError p x else x

/-- An authentication frame of a head (R231–R234). -/
def headAuth (p : Nat) (bs : List Byte) (x : SX) : SX :=
  if !x.s.powered ∨ bs.length ≠ 24 ∨ leAt bs 0 1 ≠ 0x5B then x else
  match x.s.paired p with
  | none => x
  | some q =>
    let h := atD x.s.head p {}
    let block := leAt bs 2 6
    let newer := match h.lastBlock with | some l => decide (l < block) | none => true
    let whole := !h.bad && h.count == 256
    let match_ := decide (bs.drop 8 = tag16 q.key (((bs.drop 2).take 6) ++ h.bytes.reverse.flatten))
    -- R232: a head whose tags fail is not treated as paired, until a tag matches again
    let x := if whole then x.mod (fun s => { s with head := updN s.head p (fun h => { h with mismatch := !match_ }) }) else x
    blockEnd p (whole && newer && match_) block (if whole && !match_ then headError p x else x)

/-- No block has verified for 250 ms (R234). -/
def headTimeout (p : Nat) (x : SX) : SX :=
  let h := atD x.s.head p {}
  if x.s.powered ∧ h.st = .ok ∧ h.lastVer + 250000 ≤ x.s.mc then headError p x else x

/-- A head is paired through SLV_SVC (R232): its data and the link key are stored in the legal parameters; one that presents another serial
number than these name is not treated as paired. -/
def headPair (p : Nat) (d : HeadData) (key : Nat) (x : SX) : SX :=
  if !x.s.powered ∨ x.s.st ≠ .service ∨ 12 ≤ p then x else
  let q : Pairing := { serial := d.serial, iN := d.iN, vRated := d.vRated, cal := d.cal, key := key }
  let put (o : Option HeadParam) : Option HeadParam := match o with
    | some h => if h.serial = d.serial then some { h with iN := d.iN } else some h
    | none => some { serial := d.serial, iN := d.iN }
  let x := x.mod (fun s => { s with
    legalNew := true, legal := s.legal.map (fun l => { l with heads := updN l.heads p put }),
    head := updN s.head p (fun h =>
      { newBlock h with pair := some q, st := .ok, mismatch := false, lastBlock := none, okRun := 0, lastVer := s.mc }) })
  match x.s.paired p with
  | some _ => x
  | none => headError p x

/-! ## Power, watchdog, states -/

/-- A change of state raises the Sleeve-state event (R252). -/
def slvTo (st : SlvState) (x : SX) : SX := if x.s.st = st then x else (x.mod (fun s => { s with st := st })).raise .sleeveState

/-- FATAL (Table 8.8): the gates of prepaid sessions open, announced as exhausted credit (R253). -/
def fatalTo (x : SX) : SX :=
  (slvTo .fatal x).mod (fun s => (List.range 12).foldl (fun s p =>
    if ((atD s.sess p none).map (·.prepaid)).getD false then openGate p (setNotice p s) else s) s)

/-- FATAL with its cause entered in the log (Table 8.8). -/
def slvFatal (cause : Nat) (x : SX) : SX := fatalTo (x.mod (logAdd (.fatalCause cause)))

/-- The write of R224 to the two MRAM copies (R252). -/
def slvCommit (s : Sleeve) : Sleeve :=
  let r := { s.reg with mc := s.mc }
  { s with reg := r, mram := r, mram2 := r, commitAt := s.mc }

/-- Raise an event `n` times. -/
def raiseN (e : Ev) : Nat → SX → SX
  | 0, x => x
  | n + 1, x => raiseN e n (x.raise e)

/-- A start of the Sleeve (Table 8.8: firmware verified, hashed and published, R222, R224, R225, R253, R265): registers restored, boundaries passed, gaps; the conditions
of the electrical tamper family begin afresh (R278). `d`: kept time that has passed since the Sleeve stopped, beyond what the cover samples
counted, or since VBKS came back after a loss of both supplies; `lost`: the last write is missing. -/
def slvStart (lost : Bool) (d : Nat) (x : SX) : SX :=
  let x := slvTo .boot x
  let s := x.s
  let utcNow := s.utc + d
  let mcNow := if s.lostBoth then (s.mram.mc / 1000000 + 1) * 1000000 + d else s.mc + d
  let clk := s.clkV && !s.lostBoth
  let s := { s with powered := true, stopped := false, cmdq := [], reg := s.mram, clkV := clk, mc := mcNow, utc := utcNow,
                    leaf := if s.leaf = 0 then 0 else max s.leaf s.leafTop,
                    fwVer := s.fw.version, fwHash := beBytes 32 (Config.sha256 s.fw.img),
                    fwOk := Config.hssVerify Config.metroPublic s.fw.img s.fw.sig }
  let s := { s with reg := { s.reg with dem := { s.reg.dem with pf := s.reg.dem.pf || (s.everRan && !s.wdog) }, subs := [] } }
  -- boundaries that the clock passed, in time order, with no energy
  let s := if clk ∧ s.everRan ∧ s.reg.lutc < utcNow then
      let back := utcNow - s.reg.lutc
      passTime true (!s.wdog) back { s with utc := s.reg.lutc, mc := mcNow - back }
    else settleTariff s
  let s := if s.everRan && lost then logAdd .uncommitted s else s
  let s := if s.wdog then logAdd .watchdog s else s
  let s := if s.everRan ∧ lost then (List.range 12).foldl (fun s p => sessGap p 15 s) s else s
  let x := { x with s := s }
  -- the block in progress is a gap; latches
  let x := if s.everRan then (List.range 12).foldl (fun x p =>
      if (atD x.s.head p {}).pair.isSome then blockEnd p false 0 x else x) x else x
  let x := x.mod (fun s => { s with
    wdog := false, writeOk := true,
    tamp := mapIdx s.tamp (fun k t => if k < 3 then { t with heldAt := none, goneAt := none } else t), lostBoth := false, everRan := true, commitAt := s.mc,
    lane := s.lane.map (fun l => { l with aliveAt := s.mc }),
    head := s.head.map (fun h => { h with lastVer := s.mc }),
    inp := { s.inp with
      valid := false, freerun := false, buf := [], start := none, refAt := none, refPrev := none, ref := none, noRefAt := some s.mc } })
  let n := x.s.pendTamp
  let x := raiseN .meterTamper n (x.mod (fun s => { s with pendTamp := 0 }))
  if !x.s.fwOk then fatalTo x
  else if x.s.legal.isNone then slvTo .unsealed x
  else slvTo .run x

/-- VSLV powers on (R224, R225, R245, R265). `refresh`: from the start to the first refresh, µs; `free`: the duration of an
interruption that no clock measured; `vbks`: VBKS is present. -/
def slvPowerOn (d refresh free : Nat) (vbks : Bool) (x : SX) : SX :=
  if x.s.powered then x else
  let x := x.mod (fun s => { s with vbks := vbks })
  let lost := !x.s.writeOk
  let both := x.s.lostBoth
  let det := x.s.inp.intr
  let x := slvStart lost d x
  if det.on then
    let s := x.s
    let dur := if both then free else (s.mc + refresh - det.mc) / 1000
    let e : DistEntry := { kind := 3, mask := det.mask, extPh := det.extPh, long := true, mc := det.mc / 1000000 % 2 ^ 32,
                           utc := det.utc, dur := dur % 2 ^ 32, ext := det.ext }
    (x.mod (fun s => { s with
      inp := { s.inp with intr := {} },
      reg := { s.reg with dist := updN s.reg.dist s.reg.distNext (fun _ => e), distNext := (s.reg.distNext + 1) % 16,
                          cntIntr := satInc 8 s.reg.cntIntr } })).raise .supplyDisturbance
  else x

/-- VBKS is lost; with VSLV absent too the clock becomes invalid (R225). -/
def slvVbksLoss (s : Sleeve) : Sleeve :=
  if s.powered then { s with vbks := false } else { s with vbks := false, lostBoth := true, clkV := false }

/-- The watchdog expires (R221, R253). -/
def slvWatchdog (x : SX) : SX :=
  if !x.s.powered ∨ x.s.st = .fatal then x
  else slvStart true 0 (x.mod (fun s => { s with wdog := true }))

/-- The metrology self-test (R252): deviations in ppm; whether the CRC-32C of each register copy passes.
The registers are kept in every state; the checks that lead to FATAL belong to RUN and SERVICE (Table 8.8). -/
def slvSelfTest (refPpm xtalPpm : Int) (copyA copyB : Bool) (x : SX) : SX :=
  let works := x.s.st == .run || x.s.st == .service
  if !x.s.powered ∨ x.s.st = .boot ∨ x.s.st = .fatal then x
  else if works ∧ 500 < refPpm.natAbs then slvFatal 1 x
  else if works ∧ 10000 < xtalPpm.natAbs then slvFatal 2 x
  else if works ∧ !copyA ∧ !copyB then slvFatal 3 x
  else if copyA != copyB then x.mod (fun s => logAdd .repair
      { s with mram := if copyA then s.mram else s.mram2, mram2 := if copyA then s.mram else s.mram2 })
  else x

/-- A SERVICE session opens (Table 8.8). -/
def svcOpen (auth : Bool) (x : SX) : SX :=
  if x.s.powered && auth && (x.s.st == .unsealed || x.s.st == .run) then slvTo .service (x.mod (logAdd .serviceEntry)) else x

/-- What is done through SLV_SVC in a session before it closes: clock setting, archive of the log, key of SLV_CMD1. -/
structure SvcWork where
  time : Option (Nat × Int) := none
  archive : Bool := false
  peerKey : Option Nat := none
  deriving DecidableEq, Repr

/-- A SERVICE session closes (Table 8.8, R247, R266, R280). -/
def svcClose (w : SvcWork) (x : SX) : SX :=
  if !x.s.powered ∨ x.s.st ≠ .service then x else
  let s := x.s
  let s := if w.archive then { s with reg := { s.reg with log := [] } } else s
  let s := match w.time with | some (t, o) => setClock t o s | none => s
  let s := match w.peerKey with
    | some k => if s.lp.peer = 1 then { s with lane := updN s.lane 1 (fun l => { l with key := some k }) } else s
    | none => s
  let s := { s with tampElec := 0, tampMech := 0, tamp := s.tamp.map (fun t => { t with latch := false }) }
  let s := logAdd .serviceExit s
  if s.legal.isSome then
    slvTo .run { x with s := { s with parCnt := if s.legalNew then (s.parCnt + 1) % 2 ^ 16 else s.parCnt, legalNew := false } }
  else slvTo .unsealed { x with s := s }

/-- Ranges of Tables 8.9 and 9.1. -/
def LegalParams.ok (l : LegalParams) : Bool :=
  l.role ≤ 1 && l.peer ≤ 1 && 10 ≤ l.uN && l.uN ≤ 5000000 && (l.fNom == 50 || l.fNom == 60)
    && decide (1 ≤ l.vt) && decide (l.vt ≤ 5000) && decide (1 ≤ l.ctPh) && decide (l.ctPh ≤ 20000)
    && decide (1 ≤ l.ctN) && decide (l.ctN ≤ 20000) && 1 ≤ l.nLatch && l.nLatch ≤ 255
    && 5000 ≤ l.sagThr && l.sagThr ≤ 9500 && 10500 ≤ l.swellThr && l.swellThr ≤ 15000
    && 100 ≤ l.intThr && l.intThr ≤ 1000 && 100 ≤ l.hyst && l.hyst ≤ 500
    && l.heads.toList.all (fun h => match h with | some h => 50 ≤ h.iN && h.iN ≤ 3000 && h.rLoss ≤ 100000 | none => true)
    && l.defTariff ≤ 7 && l.demMode ≤ 1 && [5, 10, 15, 20, 30, 60].contains l.demLen
    && 2 ≤ l.demSub && l.demSub ≤ 15 && l.demLen % l.demSub == 0 && l.billDay ≤ 28
    && 1 ≤ l.clkStep && l.clkStep ≤ 3600 && l.clkStep ≤ l.clkDay && l.clkDay ≤ 86400
    && 2 ≤ l.leadT && l.leadT ≤ 30 && l.sigMode ≤ 1 && l.ocmf ≤ 1 && (l.ocmf == 0 || l.sigMode == 1) && l.comp ≤ 1
    && l.tampE ≤ 7 && l.tampM ≤ 3 && 5 ≤ l.bypThr && l.bypThr ≤ 50
    && l.tariffPk.length == 60

/-- The values of the parameters of Tables 8.9 and 9.1, one after another, as a block holds them (R254). -/
def LegalParams.words (l : LegalParams) : List Nat :=
  let q (r : Rat) : List Nat := [r.num.natAbs, r.den]
  [l.role, l.peer, l.uN, l.fNom] ++ q l.vt ++ q l.ctPh ++ q l.ctN ++ q l.ratedI ++ [l.nLatch, l.sagThr, l.swellThr, l.intThr, l.hyst]
    ++ l.heads.toList.flatMap (fun h => match h with | some h => [1, h.serial, h.iN, h.rLoss] | none => [0])
    ++ [l.defTariff, l.demMode, l.demLen, l.demSub, l.billDay, l.clkStep, l.clkDay, l.leadT, l.sigMode, l.ocmf, l.comp, l.tampE, l.tampM,
        l.bypThr] ++ l.tariffPk.map BitVec.toNat

/-- A head that the legal parameters do not name is in ERROR (R232, R234). -/
def headsJudge (x : SX) : SX :=
  (List.range 12).foldl (fun x p => if (atD x.s.head p {}).pair.isSome ∧ (x.s.paired p).isNone then headError p x else x) x

/-- A legal parameter block is loaded (R254): the parameters it holds and its signature, which verifies over their layout under the
metrology release key. -/
def legalLoad (l : LegalParams) (sig : List Byte) (x : SX) : SX :=
  if x.s.powered && x.s.st == .service && l.ok && Config.hssVerify Config.metroPublic (Config.legalLayout l.words) sig then
    headsJudge (x.mod (fun s => { s with legal := some l, legalNew := s.legalNew || decide (s.legal ≠ some l) }))
  else x

/-- Firmware is loaded (R222): only through SLV_SVC in SERVICE, or by the loader in FATAL after a signature that failed (Table 8.8). The next
start verifies it. -/
def fwLoad (version : Nat) (img sig : List Byte) (s : Sleeve) : Sleeve :=
  if s.powered && (s.st == .service || (s.st == .fatal && !s.fwOk)) then
    { s with fw := { version := version % 2 ^ 24, img := img, sig := sig } }
  else s

/-! ## Intake -/

/-- A channel of a sample: 0 to 2 the phase voltages, 3 to 5 the phase currents, 6 the neutral current (R240). -/
def AcCodes.chan (a : AcCodes) (c : Nat) : Int := if c < 3 then atD a.u c 0 else if c < 6 then atD a.i (c - 3) 0 else a.n

/-- The codes of a sample lie in 24 bits (R240). -/
def AcCodes.ok (a : AcCodes) : Bool := (List.range 7).all (fun c => decide (-8388608 ≤ a.chan c) && decide (a.chan c ≤ 8388607))

/-- The VT or CT ratio of a channel (R240). -/
def LegalParams.ratio (l : LegalParams) (c : Nat) : Rat := if c < 3 then l.vt else if c < 6 then l.ctPh else l.ctN

/-- A channel's code at a whole place of a series; 0 outside it. -/
def codeAt (xs : List AcCodes) (c : Nat) (k : Int) : Rat := if k < 0 then 0 else (((xs.getD k.toNat {}).chan c : Int) : Rat)

/-- A channel's code at a place between samples, interpolated. -/
def codeLerp (xs : List AcCodes) (c : Nat) (x : Rat) : Rat :=
  let f := x - (x.floor : Rat)
  (1 - f) * codeAt xs c x.floor + f * codeAt xs c (x.floor + 1)

/-- A channel's primary value at a place of the kept samples (R240): corrected in phase and gain, and scaled. The form of the correction, a
delay and a factor, is the model's. -/
def Sleeve.prim (s : Sleeve) (c : Nat) (x : Rat) : Rat :=
  let k := atD s.acCal c {}
  codeLerp s.inp.buf c (x + k.delay) * k.gain * s.lp.ratio c

/-- The part of a sample's interpolation that lies below `x`, measured from its place. -/
def hatBelow (x : Rat) : Rat :=
  if x ≤ -1 then 0 else if x ≤ 0 then (x + 1) ^ 2 / 2 else if x ≤ 1 then 1 - (1 - x) ^ 2 / 2 else 1

/-- A mean over the span from `a` to `b` (R242): whole samples weigh 1, those at the ends what their interpolation has in the span. -/
def spanMean (a b : Rat) (f : Rat → Rat) : Rat :=
  let k (j : Nat) : Rat := ((a.floor + j : Int) : Rat)
  sumQ ((List.range (b.ceil - a.floor + 1).toNat).map (fun j => (hatBelow (b - k j) - hatBelow (a - k j)) * f (k j))) / (b - a)

/-- The first zero crossing of channel c after place `a`, interpolated (R241): a rising one, or either with `both`. -/
def Sleeve.crossing (s : Sleeve) (c : Nat) (both : Bool) (a : Rat) : Option Rat :=
  (List.range (s.inp.buf.length - 1)).findSome? (fun i =>
    let u := s.prim c (i : Rat)
    let v := s.prim c ((i : Rat) + 1)
    let x := (i : Rat) + u / (u - v)
    if (u < 0 ∧ 0 ≤ v ∨ both ∧ 0 ≤ u ∧ v < 0) ∧ a < x then some x else none)

/-- Samples arrive; the latest 1,024 are kept. -/
def Intake.take (xs : List AcCodes) (i : Intake) : Intake :=
  let all := i.buf ++ xs
  let d := all.length - 1024
  let back (x : Rat) : Rat := x - (d : Rat)
  { i with buf := all.drop d, start := i.start.map back, refAt := i.refAt.map back, refPrev := i.refPrev.map back }

/-- The place of the last sample. -/
def Intake.last (i : Intake) : Rat := (i.buf.length : Rat) - 1

/-- The end of the line cycle that began at `a` (R241): the next rising crossing of the reference phase, or the nominal period in FREERUN. -/
def Sleeve.cycleEnd (s : Sleeve) (a : Rat) : Option Rat :=
  if s.inp.freerun then
    let b := a + 8000 / (s.lp.fNom : Rat)
    if b ≤ s.inp.last then some b else none
  else s.inp.ref.bind (fun k => s.crossing k.val false a)

/-- Add to a condition of the electrical family after a cycle (R278). -/
def tampCycle (hold : Bool) (start : Nat) (t : Tamp) : Tamp :=
  if hold then { t with heldAt := some (t.heldAt.getD start), goneAt := none }
  else { t with heldAt := none, goneAt := some (t.goneAt.getD start) }

/-- A line cycle from place `a` to place `b` of the kept samples has ended (R242, R261, R278). -/
def cycleDone (a b : Rat) (s : Sleeve) : Sleeve :=
  let l := s.lp
  let T : Rat := (b - a) / 8000
  let u (k : Fin 3) (x : Rat) : Rat := s.prim k.val x
  let c (k : Fin 3) (x : Rat) : Rat := s.prim (3 + k.val) x
  let P (k : Fin 3) : Rat := spanMean a b (fun x => u k x * c k x)
  let Q (k : Fin 3) : Rat := spanMean a b (fun x => u k (x - (b - a) / 4) * c k x)
  let u2 (k : Fin 3) : Rat := spanMean a b (fun x => u k x ^ 2)
  let i2 (k : Fin 3) : Rat := spanMean a b (fun x => c k x ^ 2)
  let n2 : Rat := spanMean a b (fun x => s.prim 6 x ^ 2)
  let Pt := P 0 + P 1 + P 2
  let Qt := Q 0 + Q 1 + Q 2
  let reg4 (p q : Rat) : List Rat := [max p 0, max (-p) 0, max q 0, max (-q) 0].map (fun e => e * T * 1000)
  let es := reg4 (P 0) (Q 0) ++ reg4 (P 1) (Q 1) ++ reg4 (P 2) (Q 2) ++ reg4 Pt Qt
  let r := if s.registers then
      { s.reg with er := mapIdx s.reg.er (fun k e => e + es.getD k 0),
                   timp := updN s.reg.timp s.tariff (· + es.getD 12 0),
                   texp := updN s.reg.texp s.tariff (· + es.getD 13 0),
                   dem := { s.reg.dem with e := s.reg.dem.e + es.getD 12 0 } }
    else s.reg
  let uN : Rat := (l.uN : Rat) / 10
  let rev := ([0, 1, 2] : List (Fin 3)).any (fun k => decide (P k * Pt < 0) && decide (uN * l.ratedI / 100 ≤ absQ (P k)))
  let bypR := spanMean a b (fun x => (c 0 x + c 1 x + c 2 x - s.prim 6 x) ^ 2)
  let iMax := max (i2 0) (max (i2 1) (i2 2))
  let byp := decide (iMax * l.bypThr * l.bypThr / 10000 < bypR) && decide (l.ratedI * l.ratedI * 4 / 10000 < bypR)
  let neuR := spanMean a b (fun x => (u 0 x + u 1 x + u 2 x) ^ 2)
  let neu := decide (uN * uN * 4 / 100 < neuR)
  let start := s.mc - (T * 1000000).floor.toNat
  let t0 := fun (k : Nat) (hold : Bool) (v : Vector Tamp 5) =>
    updN v k (tampCycle (hold && bitOf k l.tampE) start)
  let acc (v : Vector Rat 3) (f : Fin 3 → Rat) : Vector Rat 3 := #v[v[0] + f 0, v[1] + f 1, v[2] + f 2]
  { s with reg := r, tamp := t0 2 neu (t0 1 byp (t0 0 rev s.tamp)),
           inp := { s.inp with valid := true, start := some b, pcyc := satI 32 Pt.floor, cycSeq := (s.inp.cycSeq + 1) % 2 ^ 16,
                               cycles := s.inp.cycles + 1,
                               sumU := acc s.inp.sumU (fun k => sqrtQ (u2 k)), sumI := acc s.inp.sumI (fun k => sqrtQ (i2 k)),
                               sumP := acc s.inp.sumP P, sumQ := acc s.inp.sumQ Q,
                               sumF := s.inp.sumF + 1 / T, lastIn := sqrtQ n2 } }

/-- The samples since the last command arrive, and the line cycle in progress ends if it does (R241): the first crossing begins the first
cycle. -/
def lineCycle (xs : List AcCodes) (s : Sleeve) : Sleeve :=
  if !s.powered ∨ s.st = .boot ∨ s.st = .fatal then s else
  let s : Sleeve := { s with inp := s.inp.take xs }
  match s.inp.start with
  | none => { s with inp := { s.inp with start := s.inp.ref.bind (fun k => s.crossing k.val false (-1)) } }
  | some a => match s.cycleEnd a with
    | some b => cycleDone a b s
    | none => s

/-- The latch at the end of every N-th cycle (R243). -/
def intakeLatch (s : Sleeve) : Sleeve :=
  let i := s.inp
  if !s.powered ∨ i.cycles < s.lp.nLatch then s else
  let n : Rat := i.cycles
  let nat (q : Rat) : Nat := sat 32 q.floor.toNat
  { s with inp := { i with
      cycles := 0,
      latU := i.sumU.map (fun x => nat (x / n * 10)), latI := i.sumI.map (fun x => nat (x / n * 1000)),
      latP := i.sumP.map (fun x => satI 32 (x / n).floor), latQ := i.sumQ.map (fun x => satI 32 (x / n).floor),
      latIn := nat (i.lastIn * 1000), latF := nat (i.sumF / n * 1000),
      latPt := satI 32 ((i.sumP[0] + i.sumP[1] + i.sumP[2]) / n).floor,
      latQt := satI 32 ((i.sumQ[0] + i.sumQ[1] + i.sumQ[2]) / n).floor,
      latE := s.reg.er.map wh, latUtc := s.stampUtc, latMc := s.mcS, lcnt := (i.lcnt + 1) % 2 ^ 24,
      sumU := Vector.replicate 3 0, sumI := Vector.replicate 3 0, sumP := Vector.replicate 3 0, sumQ := Vector.replicate 3 0,
      sumF := 0 } }

/-- No phase has qualified for 1.5 nominal periods (R241): cycles of the nominal period follow the last one. -/
def freerunEnter (s : Sleeve) : Sleeve :=
  match s.inp.noRefAt with
  | some t => if s.powered ∧ t + 1500000 / s.lp.fNom ≤ s.mc then { s with inp := { s.inp with freerun := true, start := some (s.inp.start.getD s.inp.last) } } else s
  | none => s

/-- The kinds of R244 with their conditions. -/
def detStep (s : Sleeve) (kind : Nat) (beginC endC : Bool) (crossed : Nat) (ext extPh : Nat) (worse : Nat → Bool) (x : SX) (d : Det) : SX × Det :=
  if d.on then
    let d := if worse d.ext then { d with ext := ext, extPh := extPh } else d
    let d := { d with mask := d.mask ||| crossed }
    if endC then
      let e : DistEntry := { kind := kind, mask := d.mask, extPh := d.extPh, mc := d.mc / 1000000 % 2 ^ 32, utc := d.utc,
                             dur := (s.mc - d.mc) / 1000 % 2 ^ 32, ext := d.ext }
      ((x.mod (fun s => { s with reg := { s.reg with
          dist := updN s.reg.dist s.reg.distNext (fun _ => e), distNext := (s.reg.distNext + 1) % 16,
          cntSag := if kind = 1 then satInc 16 s.reg.cntSag else s.reg.cntSag,
          cntSwell := if kind = 2 then satInc 8 s.reg.cntSwell else s.reg.cntSwell,
          cntIntr := if kind = 3 then satInc 8 s.reg.cntIntr else s.reg.cntIntr } })).raise .supplyDisturbance, {})
    else (x, d)
  else if beginC then (x, { on := true, mask := crossed, mc := s.mc, utc := s.stampUtc, ext := ext, extPh := extPh })
  else (x, d)

/-- A half-cycle refresh with U_h of the three phases in 0.01 % of U_n (R241, R244, R245): rounded down, and rounded up where a value above a
threshold counts. -/
def halfJudge (uh uc : Vector Nat 3) (x : SX) : SX :=
  let l := x.s.lp
  let us := uh.toList
  let cs := uc.toList
  let lo := min uh[0] (min uh[1] uh[2])
  let hi := max uc[0] (max uc[1] uc[2])
  let s := x.s
  let (x, sag) := detStep s 1 (us.any (· < l.sagThr)) (us.all (l.sagThr + l.hyst ≤ ·))
    (maskOf 3 (fun k => decide (us.getD k 0 < l.sagThr))) lo (us.findIdx (· == lo)) (fun e => lo < e) x s.inp.sag
  let (x, swell) := detStep s 2 (cs.any (l.swellThr < ·)) (cs.all (· ≤ l.swellThr - l.hyst))
    (maskOf 3 (fun k => decide (l.swellThr < cs.getD k 0))) hi (cs.findIdx (· == hi)) (fun e => e < hi) x s.inp.swell
  let (x, intr) := detStep s 3 (us.all (· < l.intThr)) (us.any (l.intThr + l.hyst ≤ ·))
    (maskOf 3 (fun k => decide (us.getD k 0 < l.intThr))) lo (us.findIdx (· == lo)) (fun e => lo < e) x s.inp.intr
  let ref := ([0, 1, 2] : List (Fin 3)).find? (fun k => decide (l.intThr < uc[k]))
  x.mod (fun s => { s with inp := { s.inp with
    sag := sag, swell := swell, intr := intr, ref := ref,
    noRefAt := if ref.isSome then none else some (s.inp.noRefAt.getD s.mc),
    freerun := if ref.isSome then false else s.inp.freerun } })

/-- The place of the refresh after the one at `a` (R244): the next crossing of the reference phase; half a nominal period on where no phase
is the reference or FREERUN is set. A reference that gives no crossing for 1.5 nominal periods is refreshed then. -/
def Sleeve.refreshAt (s : Sleeve) (a : Rat) : Option Rat :=
  let half := 4000 / (s.lp.fNom : Rat)
  let by_ (b : Rat) : Option Rat := if b ≤ s.inp.last then some b else none
  match if s.inp.freerun then none else s.inp.ref with
  | some k => match s.crossing k.val true a with
    | some b => if b ≤ a + 3 * half then some b else by_ (a + 3 * half)
    | none => by_ (a + 3 * half)
  | none => by_ (a + half)

/-- U_h of a phase over the last full cycle, from `a` to `b`, in 0.01 % of U_n, rounded down (R244). -/
def Sleeve.uHalf (s : Sleeve) (a b : Rat) (k : Nat) : Nat :=
  let uN : Rat := (s.lp.uN : Rat) / 10
  natRoot 2 (spanMean a b (fun x => s.prim k x ^ 2) * 100000000 / (uN * uN)).floor.toNat

/-- The same rounded up. -/
def Sleeve.uHalfUp (s : Sleeve) (a b : Rat) (k : Nat) : Nat :=
  let uN : Rat := (s.lp.uN : Rat) / 10
  let q := s.uHalf a b k
  if (q : Rat) ^ 2 = spanMean a b (fun x => s.prim k x ^ 2) * 100000000 / (uN * uN) then q else q + 1

/-- The samples since the last command arrive, and the half-cycle values are refreshed if a refresh is due (R244). A full cycle lies between a
refresh and the second before it; the first sample stands for a refresh where none has been. -/
def halfCycle (xs : List AcCodes) (x : SX) : SX :=
  if !x.s.powered ∨ x.s.st = .boot ∨ x.s.st = .fatal then x else
  let x := x.mod (fun s => { s with inp := s.inp.take xs })
  let a := x.s.inp.refAt.getD 0
  match x.s.refreshAt a with
  | none => x
  | some b =>
    let s := x.s
    let x := match s.inp.refPrev with
      | some p => halfJudge (Vector.ofFn (fun k => s.uHalf p b k.val)) (Vector.ofFn (fun k => s.uHalfUp p b k.val)) x
      | none => x
    x.mod (fun s => { s with inp := { s.inp with refPrev := some a, refAt := some b } })

/-! ## Tamper (R278–R280) -/

/-- The electrical family works: the intake is valid (R278). -/
def Sleeve.intakeOn (s : Sleeve) : Bool := s.powered && s.inp.valid && s.st != .boot && s.st != .fatal

/-- A tamper condition begins (R278–R280). -/
def tampBegin (k : Fin 5) (x : SX) : SX :=
  let t := x.s.tamp[k]
  let need := if k.val = 0 ∨ k.val = 1 then 10000000 else if k.val = 2 then 5000000 else 50000
  match t.heldAt with
  | none => x
  | some a =>
    if t.active ∨ x.s.mc < a + need then x
    else if k.val < 3 ∧ !x.s.intakeOn then x
    else
      let x := x.mod (fun s =>
        let s := logAdd (.tamperBegin k.val) { s with tamp := upd s.tamp k (fun t => { t with active := true, latch := true }) }
        { s with tampElec := if k.val < 3 then satInc 8 s.tampElec else s.tampElec,
                 tampMech := if k.val < 3 then s.tampMech else satInc 8 s.tampMech,
                 sess := s.sess.map (fun o => o.map (fun q => { q with tamper := true })) })
      if x.s.powered then x.raise .meterTamper else x.mod (fun s => { s with pendTamp := s.pendTamp + 1 })

/-- A tamper condition ends (R278–R280). -/
def tampEnd (k : Fin 5) (s : Sleeve) : Sleeve :=
  let t := s.tamp[k]
  let need := if k.val < 3 then 10000000 else 50000
  match t.goneAt with
  | none => s
  | some a =>
    if !t.active ∨ s.mc < a + need ∨ (k.val < 3 ∧ !s.intakeOn) then s
    else logAdd (.tamperEnd k.val) { s with tamp := upd s.tamp k (fun t => { t with active := false }) }

/-- The cover switches are sampled every 10 ms from VBKS (R279): true is open. While VSLV is absent kept time advances here. -/
def coverSample (meter term : Bool) (s : Sleeve) : Sleeve :=
  if !s.powered ∧ !s.vbks then s else
  let s := if s.powered then s else { s with mc := s.mc + 10000, utc := if s.clkV then s.utc + 10000 else s.utc }
  let one (k : Nat) (bit : Nat) (op : Bool) (v : Vector Tamp 5) : Vector Tamp 5 :=
    updN v k (tampCycle (op && bitOf bit s.lp.tampM) s.mc)
  { s with tamp := one 4 1 term (one 3 0 meter s.tamp) }

/-! ## Credit gate rows -/

/-- LEAD_T after NOTICE the gate opens (R275). -/
def creditGate (p : Nat) (s : Sleeve) : Sleeve :=
  let g := atD s.gate p {}
  if s.registers ∧ g.notice ∧ g.noticeAt + s.lp.leadT * 1000000 ≤ s.mc
      ∧ ((atD s.sess p none).map (·.prepaid)).getD false then openGate p s else s

/-- The gate feedback is judged (R276): SFBn as read; 200 ms after the gate opened it must not report closed. -/
def gateFeedback (p : Nat) (fb : Bool) (x : SX) : SX :=
  if !x.s.powered then x else
  let x := x.mod (fun s => { s with gate := updN s.gate p (fun g => { g with fb := fb }) })
  let g := atD x.s.gate p {}
  if g.open_ ∧ !g.judged ∧ g.openAt + 200000 ≤ x.s.mc then
    let x := x.mod (fun s => { s with gate := updN s.gate p (fun g => { g with judged := true, fail := g.fail || fb }) })
    if fb then
      (x.mod (fun s => logAdd (.gateFail p) { s with sess := updN s.sess p (fun o => o.map (fun q => { q with gateFail := true })) })).raise
        .sleeveGateFail
    else x
  else x

/-- A record is sent again 1 s, 10 s and 60 s after it was formed (R272). -/
def recResend (seq : Nat) (s : Sleeve) : Sleeve :=
  match s.recs.find? (fun r => r.seq == seq) with
  | some r =>
    let due := match r.sent with | 0 => some 1000000 | 1 => some 10000000 | 2 => some 60000000 | _ => none
    match due with
    | some d =>
      if s.powered ∧ r.formedAt + d ≤ s.mc then
        sendRec r { s with recs := s.recs.map (fun q => if q.seq = seq then { q with sent := q.sent + 1 } else q) }
      else s
    | none => s
  | none => s

/-! ## Command lanes (R246–R251) -/

/-- The argument length that Table 8.7 gives. -/
def cmdLen (code : Nat) : Option Nat :=
  match code with
  | 0x01 => some 0 | 0x10 => some 12 | 0x20 => some 40 | 0x30 => some 12 | 0x31 => some 8 | _ => none

/-- A refusal is counted in SLV_CHAN (R248, Table 8.11). -/
def countRes (r : CmdRes) (s : Sleeve) : Sleeve :=
  match r with
  | .ok => s
  | .auth => { s with chAuth := satInc 8 s.chAuth }
  | .replay => { s with chReplay := satInc 8 s.chReplay }
  | .unknown | .length | .state | .value => { s with chOther := satInc 8 s.chOther }

/-- Carry out a recognised command (Table 8.7). -/
def cmdDo (code : Nat) (f : CmdFrame) (s : Sleeve) : CmdRes × Sleeve :=
  if s.st = .boot ∨ s.st = .fatal then (.state, s) else
  match code with
  | 0x01 => (.ok, s)
  | 0x10 => setTimeCmd f.args40 s
  | 0x20 => tariffSeg f.alen f.args40 s
  | 0x30 => sessionStart f.args40 s
  | 0x31 => slvSessionStop f.args40 s
  | _ => (.unknown, s)

/-- The result of a frame is counted and returned in a record frame (R248). -/
def cmdReply (f : CmdFrame) (r : CmdRes) (s : Sleeve) : Sleeve :=
  pushRec 2 (leBytes 1 f.lane.val ++ leBytes 1 r.code ++ leBytes 2 0 ++ leBytes 4 f.ctr) (countRes r s)

/-- A command frame is accepted (R247, R251): its CTR, the instant of the lane's last valid frame, and the gates that the loss of the link
opened. -/
def slvAccept (code : Nat) (f : CmdFrame) (s : Sleeve) : Sleeve :=
  { s with lane := upd s.lane f.lane (fun l => { l with ctr := some f.ctr, ring := (f.ctr :: l.ring).take 64, aliveAt := s.mc }),
           gate := s.gate.map (fun g => if g.linkLoss then { g with linkLoss := false, open_ := false } else g),
           cmdq := s.cmdq ++ [(code, f)] }

/-- A command frame with code `code` arrives (R246, R247): refused, or accepted and carried out at the end of the sample (R264). -/
def slvCommand (code : Nat) (f : CmdFrame) (s : Sleeve) : Sleeve :=
  if !s.powered then s else
  let la := s.lane[f.lane]
  let good := match la.key with | some k => decide (f.tag = tag16 k (f.head code)) | none => false
  if !good then cmdReply f .auth (logAdd (.auth f.lane.val) s)
  else if (match la.ctr with | some c => decide (f.ctr ≤ c) | none => false) then
    cmdReply f .replay (logAdd (.replay f.lane.val) s)
  else slvAccept code f s

/-- An accepted frame is carried out (R246, R248–R250). -/
def cmdRun (s : Sleeve) (c : Nat × CmdFrame) : Sleeve :=
  let f := c.2
  match cmdLen c.1 with
  | none => cmdReply f .unknown s
  | some n =>
    if 40 < f.alen ∨ n < f.alen ∨ (f.args40.drop f.alen).any (· != 0) then cmdReply f .length s
    else
      let (r, s) := cmdDo c.1 f s
      cmdReply f r s

/-- A sample ends (R264 steps 1 to 6, R225, R239): kept time and the legal clock advance by 250 µs, and the commands accepted in the sample
are carried out. -/
def sampleEnd (x : SX) : SX :=
  if !x.s.powered then x else
  let x := x.mod (passTime false false 250)
  let x := x.mod (fun s => { s with head := s.head.map (fun h =>
    if h.pair.isSome then { h with since := h.since + 1, age := h.age + 1 } else h) })
  let x := (List.range 12).foldl (fun x p =>
    if (atD x.s.head p {}).pair.isSome ∧ 258 ≤ (atD x.s.head p {}).since then blockMissed p x else x) x
  x.mod (fun s => s.cmdq.foldl cmdRun { s with cmdq := [] })

/-- Power failure (R224): the sample in which it falls ends with its boundaries (R264 step 7), the write completes or not, and nothing more
is registered (R265). `vbks`: VBKS is present. -/
def slvPowerFail (complete vbks : Bool) (x : SX) : SX :=
  if !x.s.powered then x else
  (sampleEnd x).mod (fun s =>
    let s := if complete then slvCommit s else s
    let s := { s with powered := false, stopped := true, writeOk := complete, vbks := true }
    if vbks then s else slvVbksLoss s)

/-- No frame accepted on any lane for 10 s (R251). -/
def linkLoss (s : Sleeve) : Sleeve :=
  if s.powered ∧ s.lane.toList.all (fun l => decide (l.aliveAt + 10000000 ≤ s.mc)) then linkLossClose s
  else s

/-! ## The forward link: sending -/

/-- The words of the SLV_ mirror (Tables 8.10 and 8.11): offset and word. -/
def slvWords (s : Sleeve) : List (Nat × Nat) :=
  let lo (n : Nat) : Nat := n % 2 ^ 32
  let hi (n : Nat) : Nat := n / 2 ^ 32 % 2 ^ 32
  let i := s.inp
  let stat := put 0 3 s.st.code + putB 3 s.clkV + putB 4 (i.valid && s.st != .boot && s.st != .fatal) + putB 5 i.freerun + putB 6 (s.legal.isSome && s.lp.role == 0)
    + putB 7 (s.lane[1]).key.isSome + put 8 12 (maskOf 12 (fun p => (atD s.head p {}).st == .ok))
  [(0x000, stat), (0x004, put 0 24 s.fwVer), (0x008, put 0 16 s.parCnt), (0x00C, s.mcS),
   (0x010, lo s.stampUtc), (0x014, hi s.stampUtc), (0x018, put 0 8 s.chAuth + put 8 8 s.chReplay + put 16 8 s.chOther)]
  ++ (List.range 8).map (fun k => (0x020 + 4 * k, leAt s.fwHash (4 * k) 4))
  ++ (List.range 12).flatMap (fun n =>
      let h := atD s.head n {}
      let e := atD s.reg.port n {}
      let b := 0x100 + 0x20 * n
      [(b, put 0 2 h.st.code + putB 2 (atD s.sess n none).isSome + putB 3 (((atD s.sess n none).map (·.prepaid)).getD false)
          + put 16 8 h.gaps + put 24 8 h.ovr),
       (b + 4, enc 32 h.meanV), (b + 8, enc 32 h.meanI), (b + 12, enc 32 h.meanP),
       (b + 16, lo (wh e.imp)), (b + 20, hi (wh e.imp)), (b + 24, lo (wh e.exp)), (b + 28, hi (wh e.exp)),
       (0x300 + 0x10 * n, lo (wh e.cimp)), (0x304 + 0x10 * n, hi (wh e.cimp)),
       (0x308 + 0x10 * n, lo (wh e.cexp)), (0x30C + 0x10 * n, hi (wh e.cexp))])
  ++ (List.range 3).flatMap (fun x => [(0x400 + 0x10 * x, atD i.latU x 0), (0x404 + 0x10 * x, atD i.latI x 0),
       (0x408 + 0x10 * x, enc 32 (atD i.latP x 0)), (0x40C + 0x10 * x, enc 32 (atD i.latQ x 0))])
  ++ [(0x430, i.latIn), (0x434, i.latF), (0x438, enc 32 i.latPt), (0x43C, enc 32 i.latQt),
      (0x440, put 0 8 s.lp.nLatch + put 8 24 i.lcnt)]
  ++ (List.range 16).flatMap (fun r => [(0x500 + 8 * r, lo (atD i.latE r 0)), (0x504 + 8 * r, hi (atD i.latE r 0))])
  ++ [(0x600, put 0 16 s.reg.cntSag + put 16 8 s.reg.cntSwell + put 24 8 s.reg.cntIntr)]
  ++ (List.range 16).flatMap (fun e =>
      let d := atD s.reg.dist e {}
      [(0x610 + 0x10 * e, put 0 2 d.kind + put 2 3 d.mask + put 5 2 d.extPh + putB 7 d.long), (0x614 + 0x10 * e, d.mc),
       (0x618 + 0x10 * e, d.dur), (0x61C + 0x10 * e, put 0 16 d.ext)])

/-- The words of the BIL_ mirror (Tables 9.7 and 9.8). The last closed period shows its maxima (R263). -/
def bilWords (s : Sleeve) : List (Nat × Nat) :=
  let lo (n : Nat) : Nat := n % 2 ^ 32
  let hi (n : Nat) : Nat := n / 2 ^ 32 % 2 ^ 32
  let d := s.reg.demLast
  let cur := slvDemandOf s.reg.dem.e ((s.mc - s.reg.dem.t) / 1000)
  let act := maskOf 5 (fun k => (atD s.tamp k {}).active)
  let lat := maskOf 5 (fun k => (atD s.tamp k {}).latch)
  let per : Period := s.reg.periods.head?.getD {}
  [(0x000, put 0 3 s.tariff + putB 3 s.deflt + putB 4 s.frozen + putB 5 s.pas.isSome + put 6 1 s.lp.demMode + putB 7 s.logFull
      + put 8 6 s.lp.demLen),
   (0x004, (s.act.map (·.version)).getD 0), (0x008, (s.pas.map (·.version)).getD 0),
   (0x00C, put 0 24 d.dem + putB 24 d.pf + putB 25 d.short + putB 26 d.long + put 27 3 d.tariff), (0x010, put 0 24 cur),
   (0x014, put 0 16 s.reg.periodCnt), (0x018, enc 32 s.clkLast), (0x01C, put 0 5 act + put 8 5 lat),
   (0x020, put 0 8 s.tampElec + put 8 8 s.tampMech), (0x024, s.recSeq % 2 ^ 32), (0x028, put 0 17 (corrSum s))]
  ++ (List.range 8).flatMap (fun t =>
      let a := wh (atD per.timp t 0); let b := wh (atD per.texp t 0); let m := atD per.md t {}
      [(0x100 + 0x10 * t, lo a), (0x104 + 0x10 * t, hi a), (0x108 + 0x10 * t, lo b), (0x10C + 0x10 * t, hi b),
       (0x200 + 8 * t, put 0 24 m.dem + putB 24 m.noclk), (0x204 + 8 * t, m.stamp % 2 ^ 32)])
  ++ (List.range 12).flatMap (fun n =>
      let g := atD s.gate n {}
      let b := 0x300 + 0x10 * n
      let x := atD s.sess n none
      [(b, (x.map (·.num)).getD 0), (b + 4, if x.isSome then wh (atD s.reg.sess n {}).imp % 2 ^ 32 else 0),
       (b + 8, match x with | some q => if q.prepaid then enc 32 (creditLeft s n q).floor else 0 | none => 0),
       (b + 12, putB 0 (!s.gateClosed n) + putB 1 g.notice + putB 2 g.fb + putB 3 g.fail)])

/-- The words of both mirrors. -/
def mirrorWords (s : Sleeve) : List (Nat × Nat × Nat) :=
  (slvWords s).map (fun w => (0, w.1, w.2)) ++ (bilWords s).map (fun w => (1, w.1, w.2))

/-- A mirror update frame (Table 9.6, RTYPE 0x01): its words stand one behind the other from that of `w` on. -/
def mirrorFrame (w : Nat × Nat × Nat) (ws : List (Nat × Nat × Nat)) : Nat × List Byte :=
  (1, leBytes 2 w.1 ++ leBytes 2 w.2.1 ++ leBytes 1 ws.length ++ leBytes 3 0 ++ ws.flatMap (fun v => leBytes 4 v.2.2))

/-- The mirror words that have changed since they were sent (R255). -/
def mirrorDiff (s : Sleeve) : List (Nat × Nat × Nat) :=
  let old (w : Nat × Nat × Nat) : Nat := ((s.sent.find? (fun v => v.1 == w.1 && v.2.1 == w.2.1)).map (·.2.2)).getD 0
  (mirrorWords s).filter (fun w => decide (old w ≠ w.2.2))

/-- The words of the next mirror update (R255), at most 28 from a changed one on: those of the ports' V, I and P first, which change every
2 ms. DESIGN CHOICE (log 124): the order among the other words. -/
def mirrorRun (s : Sleeve) : List (Nat × Nat × Nat) :=
  let d := mirrorDiff s
  let port (w : Nat × Nat × Nat) : Bool := w.1 == 0 && decide (0x100 ≤ w.2.1) && decide (w.2.1 < 0x280)
  match (d.find? port).or d.head? with
  | none => []
  | some a =>
    let all := mirrorWords s
    let run := ((List.range 28).map (fun k => all.find? (fun w => w.1 == a.1 && w.2.1 == a.2.1 + 4 * k))).takeWhile Option.isSome
    ((run.filterMap id).reverse.dropWhile (fun w => !d.contains w)).reverse

/-- A mirror update is put before the frames in `q`, if a word has changed. -/
def mirrorSend (q : List (Nat × List Byte)) (s : Sleeve) : List (Nat × List Byte) × Sleeve :=
  let ws := mirrorRun s
  match ws with
  | [] => (q, s)
  | w :: _ =>
    (mirrorFrame w ws :: q, { s with sent := ws ++ s.sent.filter (fun v => !(ws.any (fun w => w.1 == v.1 && w.2.1 == v.2.1))) })

/-- Close a frame of 124 bytes with its CHECK. -/
def withCheck (bs : List Byte) : List Byte := bs ++ leBytes 4 (crc32c bs)

/-- The sample frame (Table 8.1); `free` gives the entries of samples that are not valid. -/
def sampleFrame (free : Nat → Nat) (s : Sleeve) : List Byte :=
  let dead := decide (s.st = .boot ∨ s.st = .fatal)
  let ok (p : Nat) : Bool := !dead && (atD s.head p {}).fwd.isSome
  let i := s.inp
  let flags := putB 0 s.clkV + putB 1 (i.valid && !dead) + putB 2 i.freerun + putB 3 (s.legal.isSome && s.lp.role == 0)
    + putB 4 (i.sag.on || i.swell.on || i.intr.on)
  withCheck (leBytes 1 0x51 ++ leBytes 1 s.fseq ++ leBytes 2 (maskOf 12 ok)
    ++ (List.range 12).flatMap (fun p => match (atD s.head p {}).fwd with
        | some (v, a) => if dead then leBytes 4 (free (2 * p)) ++ leBytes 4 (free (2 * p + 1)) else leBytes 4 (enc 32 v) ++ leBytes 4 (enc 32 a)
        | none => leBytes 4 (free (2 * p)) ++ leBytes 4 (free (2 * p + 1)))
    ++ leBytes 4 (enc 32 i.pcyc) ++ leBytes 2 i.cycSeq ++ leBytes 1 s.st.code ++ leBytes 1 flags ++ leBytes 4 s.mcS ++ leBytes 12 0)

/-- A record frame (Table 9.6). -/
def recFrame (seq : Nat) (r : Nat × List Byte) : List Byte :=
  withCheck (leBytes 1 0x52 ++ leBytes 1 r.1 ++ leBytes 2 seq ++ ((r.2 ++ List.replicate 120 0).take 120))

/-- The Sleeve sends one sample frame and at most two record frames (R227): mirror updates, of which one gives way to a waiting record
frame. DESIGN CHOICE (log 124): how the two kinds share the frames. -/
def sampleSend (free : Nat → Nat) (s : Sleeve) : List (List Byte) × Sleeve :=
  if !s.powered then ([], s) else
  let f := sampleFrame free s
  let s : Sleeve := { s with fseq := (s.fseq + 1) % 256, head := s.head.map (fun h => { h with fwd := none }) }
  let (m, s) := mirrorSend [] s
  let (m, s) := if s.outq.isEmpty then mirrorSend m s else (m, s)
  let k := 2 - m.length
  let rs := m.reverse ++ s.outq.take k
  let frames := (List.range rs.length).map (fun k => recFrame ((s.rseq + k) % 2 ^ 16) (rs.getD k (0, [])))
  (f :: frames, { s with outq := s.outq.drop k, rseq := (s.rseq + rs.length) % 2 ^ 16 })

/-! ## The forward link: receiving on the main die -/

/-- Missing FSEQ values (R228). -/
def fseqGap (old : Option Nat) (new : Nat) : Nat := match old with | some o => (new + 256 - (o + 1) % 256) % 256 | none => 0

/-- What a received sample frame tells the main die. -/
structure SampleIn where
  /-- Valid samples of the ports: mV, mA. -/
  vi : List (Nat × Int × Int) := []
  /-- A new intake measurement in W (R229). -/
  pmeas : Option Int := none
  deriving DecidableEq, Repr

/-- A sample frame is received on stream `k` (R228–R230). -/
def linkSample (k : Fin 2) (bs : List Byte) (now : Nat) (l : SlvLink) : SampleIn × SlvLink :=
  if bs.length ≠ 128 ∨ leAt bs 0 1 ≠ 0x51 ∨ leAt bs 124 4 ≠ crc32c (bs.take 124) ∨ ((bs.drop 112).take 12).any (· != 0) then
    ({}, { l with crcErr := satInc 16 l.crcErr })
  else
    let st := l.stream[k]
    let fs := leAt bs 1 1
    let flags := leAt bs 107 1
    let rec_ := bitOf 3 flags
    let cs := leAt bs 104 2
    let inp := bitOf 1 flags
    let l := { l with gaps := sat 16 (l.gaps + fseqGap st.fseq fs),
                      stream := upd l.stream k (fun t => { t with fseq := some fs, record := rec_, cycSeq := if inp then some cs else t.cycSeq }) }
    if !rec_ then ({}, l) else
    let ok := leAt bs 2 2
    let vi := ((List.range 12).filter (fun p => bitOf p ok)).map (fun p => (p, leAtI bs (4 + 8 * p) 4, leAtI bs (8 + 8 * p) 4))
    let l := { l with port := vi.foldl (fun t (p, v, i) => updN t p (fun q =>
      { sumV := q.sumV + v, sumI := q.sumI + i, n := q.n + 1, lastOk := some now, invalid := false })) l.port }
    ({ vi := vi, pmeas := if inp ∧ st.cycSeq ≠ some cs then some (leAtI bs 100 4) else none }, l)

/-- A SESSION_START of the internal lane completed with STATE: its session runs without a record (R249). -/
def SlvLink.startFails (ctr : Nat) (l : SlvLink) : SlvLink :=
  { l with noRec := l.noRec ++ (l.starts.filter (fun x => x.1 == ctr)).map (·.2) }

/-- The reserved and unused bytes of a record frame's BODY are zero, and its RTYPE is one of Table 9.6 (R272). -/
def recClean (rtype : Nat) (b : List Byte) : Bool :=
  match rtype with
  | 1 => leAt b 5 3 == 0 && (b.drop (8 + 4 * leAt b 4 1)).all (· == 0)
  | 2 => leAt b 2 2 == 0 && (b.drop 8).all (· == 0)
  | 3 => leAt b 9 3 == 0 && (b.drop (12 + leAt b 8 1)).all (· == 0)
  | _ => false

/-- A record frame is received (R228, R272): the link, and whether a first complete copy of a record is held. -/
def linkRecord (bs : List Byte) (l : SlvLink) : SlvLink × Bool :=
  if bs.length ≠ 128 ∨ leAt bs 0 1 ≠ 0x52 ∨ leAt bs 124 4 ≠ crc32c (bs.take 124)
      ∨ !recClean (leAt bs 1 1) ((bs.drop 4).take 120) then ({ l with crcErr := satInc 16 l.crcErr }, false)
  else
    let b := (bs.drop 4).take 120
    match leAt bs 1 1 with
    | 1 =>
      let page := leAt b 0 2
      let off := leAt b 2 2
      let n := leAt b 4 1
      if n = 0 ∨ 28 < n ∨ 1 < page then ({ l with crcErr := satInc 16 l.crcErr }, false)
      else
        let f (m : List (Nat × Nat)) : List (Nat × Nat) := (List.range n).foldl (fun m k => mirPut (off + 4 * k) (leAt b (8 + 4 * k) 4) m) m
        (if page = 0 then { l with slv := f l.slv } else { l with bil := f l.bil }, false)
    | 2 => (if leAt b 0 1 = 0 ∧ leAt b 1 1 = CmdRes.state.code then l.startFails (leAt b 4 4) else l, false)
    | 3 =>
      let seq := leAt b 0 4
      let sg := leAt b 4 2
      let oc := bitOf 15 sg
      let i := sg % 32768
      let tot := leAt b 6 2
      let len := leAt b 8 1
      if len = 0 ∨ 108 < len ∨ tot ≤ i then ({ l with crcErr := satInc 16 l.crcErr }, false)
      else if l.done.any (fun d => d.1 == seq && d.2.1 == oc) then (l, false)
      else
        let cur := (l.asm.find? (fun a => a.seq == seq && a.ocmf == oc)).getD { seq := seq, ocmf := oc, total := tot, segs := [] }
        let rest := l.asm.filter (fun a => !(a.seq == seq && a.ocmf == oc))
        let segs := mirSeg i ((b.drop 12).take len) cur.segs
        if segs.length = cur.total then
          ({ l with asm := rest, done := l.done ++ [(seq, oc, (segs.map (·.2)).flatten)] }, !oc)
        else ({ l with asm := rest ++ [{ cur with segs := segs }] }, false)
    | _ => (l, false)
where
  /-- Put a segment in its place; a segment already held stays. -/
  mirSeg (i : Nat) (d : List Byte) (segs : List (Nat × List Byte)) : List (Nat × List Byte) :=
    if segs.any (fun s => s.1 == i) then segs else insertBy (·.1) (i, d) segs

end Sys2Proof.Machine
end

