-- ==== Sys2Proof/Machine/State/Sys.lean ====
section
/-! DEFINITION. State of reset, clocks, Glade and the temperature bands (spec/16_reset_clocks_domains.md R430–R457), and of
Thicket with events and the device log (spec/17_thicket_and_events.md R458–R472, spec/18_host_and_discovery.md R480). -/

namespace Sys2Proof.Machine

/-- A reset in progress, until its release sequence ends (R431, R437): level 0 power-on, 1 system, 2 core. -/
structure Hold where
  level : Nat := 0
  src   : Nat := 1
  defer : Bool := false
  /-- Instant from which the reset, or its release sequence, runs (R435). -/
  at_   : Nat := 0
  deriving DecidableEq, Repr

/-- A deferred system reset that is pending (R433): its source, the instant at which that fired, and, as bits, the release causes of
spec/10_seam_pair.md Table 10.6 among what has fired. -/
structure PendReset where
  src : Nat
  at_ : Nat
  causes : Nat := 0
  deriving DecidableEq, Repr

/-- Reset and clock controller (Table 16.8). Temperatures in 0.1 °C. -/
structure Rst where
  src : Nat := 0
  level : Nat := 0
  defer : Bool := false
  seen : Nat := 0
  pend : Option PendReset := none
  /-- A source of R433 has applied its core reset: the cores serve only RST_, GLD_, THK_ and SPI (R433). -/
  coresOut : Bool := false
  hold : Option Hold := some {}
  refOk : Bool := false
  lock : Vector Bool 3 := Vector.replicate 3 false
  fail : Nat := 0
  temp : Vector Int 8 := Vector.replicate 8 0
  valid : Nat := 0
  band : Nat := 1
  noSens : Bool := false
  tMax : Int := 0
  /-- Instant from which the hottest valid sensor has read 125 °C or more (R453). -/
  hotAt : Option Nat := none
  /-- The last restart of a single application core (R430): core and instant. -/
  appAt : Option (Nat × Nat) := none
  deriving DecidableEq, Repr

/-- Glade (Table 16.9) and its reset counters (Table 16.8). -/
structure Glade where
  /-- Instant of VGLADE power-on, from which GLD_SEC counts. -/
  startAt : Nat := 0
  rc32 : Bool := false
  wake : Nat := 0
  /-- Present levels of GLD_TMP0_N and GLD_TMP1_N: true open. -/
  level : Vector Bool 2 := Vector.replicate 2 false
  pwren : Bool := true
  alarm : Nat := 0
  wakePin : Bool := true
  wakeAlarm : Bool := false
  wakeTamp : Bool := true
  latch : Nat := 0
  cnt : Vector Nat 2 := Vector.replicate 2 0
  ts : Nat := 0
  /-- Consecutive open samples of each pad (R452). -/
  run : Vector Nat 2 := Vector.replicate 2 0
  /-- Enclosure-tamper events to raise at the next start (R452). -/
  pendTamp : Nat := 0
  /-- Counters of sources 1 to 8 (R436). -/
  resets : Vector Nat 8 := #v[1, 0, 0, 0, 0, 0, 0, 0]
  /-- Instant at which SLEEP was accepted (R450). -/
  sleepAt : Option Nat := none
  deriving DecidableEq, Repr

/-- Traffic classes (Table 17.1). -/
inductive TrafficClass where
  | rt | sys | bulk
  deriving DecidableEq, Repr

/-- A transaction in flight (R459): its tag, class, the device address that it accesses and its instant; the words that the
same host access has read before it, and how many words are missing; for an SPI transaction its bytes so far (R474). -/
structure Trans where
  tag  : Nat
  cls  : TrafficClass
  addr : Nat
  at_  : Nat
  words : List Nat := []
  pad  : Nat := 0
  spi  : Option (List Byte) := none
  deriving DecidableEq, Repr

/-- One entry of the device log (Table 18.4). -/
structure LogE where
  seq : Nat
  ts  : Nat
  sec : Nat
  ev  : Nat
  detail : Nat
  deriving DecidableEq, Repr

/-- Thicket (Table 17.7). -/
structure Thicket where
  trans : List Trans := []
  peak : Nat := 0
  eSram : Nat := 0
  eQueue : Nat := 0
  eCrc : Nat := 0
  eLost : Nat := 0
  sRt : Nat := 0
  sSys : Nat := 0
  sBulk : Nat := 0
  sTmo : Nat := 0
  coal : Nat := 0
  derr : Nat := 0
  nis : Nat := 0
  nisAddr : Nat := 0
  /-- The event that a chapter names in place of not-in-state for the access being judged (R467). -/
  own : Option Ev := none
  last : Nat := 0
  lastAddr : Nat := 0
  ev : Nat := 0
  even : Nat := 0
  cnt : Vector Nat 64 := Vector.replicate 64 0
  evLast : Nat := 0
  evLastTs : Nat := 0
  /-- Queues with items in them: queue number and entries in use, rising, none with 0. -/
  used : List (Nat × Nat) := []
  /-- Producers in a stall episode (R462). -/
  stalled : List Nat := []
  /-- Registers whose stored value fails its parity check (R464): address, and the value that failed; once another value stands there,
  the register's owner has stored it. -/
  bad : List (Nat × Nat) := []
  /-- The device log (R480), oldest first, at most 8,192 entries, and the last sequence number written; both in MRAM. -/
  log : List LogE := []
  logSeq : Nat := 0
  deriving DecidableEq, Repr

end Sys2Proof.Machine
end

