-- ==== Sys2Proof/Machine/SysCore.lean ====
section
/-! DEFINITION. Reset counters and causes, temperature bands, Glade, and Thicket's counters, tags, events and log
(spec/16_reset_clocks_domains.md R430–R457, spec/17_thicket_and_events.md R458–R472). -/

namespace Sys2Proof.Machine

/-- A firing of source `src` is counted (R436). -/
def Glade.count (src : Nat) (g : Glade) : Glade := { g with resets := updN g.resets (src - 1) (satInc 16) }

/-- GLD_CTRL.CLR_CNT (R436). -/
def Glade.clearCounts (g : Glade) : Glade := { g with resets := Vector.replicate 8 0 }

/-- GLD_SEC at an instant (Table 16.9). -/
def Glade.sec (now : Nat) (g : Glade) : Nat := ((now - g.startAt) / 1000000) % 2 ^ 32

/-- RST_CAUSE is written at the end of a release (R436, Table 16.8). -/
def Rst.cause (h : Hold) (r : Rst) : Rst :=
  { r with
    src := h.src
    level := h.level
    defer := h.defer
    seen := r.seen ||| 2 ^ (h.src - 1) }

/-- Release ends (R437): the reference runs, the PLLs are locked. -/
def Rst.released (h : Hold) (r : Rst) : Rst :=
  { r.cause h with hold := none, refOk := true, lock := Vector.replicate 3 true }

/-- The registers of level S (Table 16.8), and the hold of the new reset. -/
def Rst.sysReset (h : Hold) (r : Rst) : Rst :=
  { src := r.src, level := r.level, defer := r.defer, seen := r.seen, fail := r.fail, hold := some h }

/-- The registers of level P (Table 16.8). -/
def Rst.powerReset (h : Hold) : Rst := { hold := some h }

/-- The middle of five temperatures (R453). -/
def median5 (xs : List Int) : Int :=
  (sortLt (fun a b => decide (a < b)) xs).getD 2 0

/-- A main-die sensor is valid (R453). -/
def sensorValid (ts : List Int) (n : Nat) : Bool :=
  let t := ts.getD n 0
  let m := median5 (ts.eraseIdx n)
  decide (-550 ≤ t) && decide (t ≤ 1750) && decide (t - m ≤ 150) && decide (m - t ≤ 150)

/-- Lower edge of a band in 0.1 °C (Table 16.6). -/
def bandEdge : Nat → Int
  | 1 => -200 | 2 => 850 | 3 => 1100 | 4 => 1250 | _ => -100000

/-- The band after a reading (R453), SHUTDOWN entered only after 10 ms. `hot` says that these have passed. -/
def bandNext (hot : Bool) (b : Nat) (t : Int) : Nat :=
  let up := if decide (bandEdge 3 ≤ t) then 3 else if decide (bandEdge 2 ≤ t) then 2 else if decide (bandEdge 1 ≤ t) then 1 else 0
  let fall (b : Nat) : Nat := if t ≤ bandEdge b - 50 then b - 1 else b
  let down := if fall b = b then b else (if fall (b - 1) = b - 1 then b - 1 else (if fall (b - 2) = b - 2 then b - 2 else fall (b - 3)))
  if hot then 4 else max up down

/-- What a reading leads to besides the registers: the die-temperature event, and entry to SHUTDOWN. -/
structure TempOut where
  r : Rst
  event : Bool := false
  shut : Bool := false
  deriving DecidableEq, Repr

/-- The sensors are read (R453–R455). -/
def tempRead (now : Nat) (ts : Vector Int 8) (r : Rst) : TempOut :=
  let main := ts.toList.take 6
  let valid := maskOf 6 (sensorValid main)
  let good := (bitsOf 6 valid).map (fun n => main.getD n 0)
  let r : Rst := { r with temp := ts, valid := valid }
  match good with
  | [] => { r := { r with band := 1, noSens := true, hotAt := none }, event := !r.noSens }
  | t :: rest =>
    let hot := rest.foldl max t
    let since := if 1250 ≤ hot then some (r.hotAt.getD now) else none
    let ten := match since with
      | some a => decide (a + 10000 ≤ now)
      | none => false
    let b := bandNext ten r.band hot
    { r := { r with band := b, noSens := false, tMax := hot, hotAt := since }
      event := (b == 3 || b == 4) && r.band != b
      shut := b == 4 && r.band != 4 }

/-- The enclosure tamper pads are sampled (R452): true open. The mask of pads whose opening begins comes back. -/
def tamperSample (now : Nat) (o0 o1 : Bool) (g : Glade) : Glade × Nat :=
  let lv : Vector Bool 2 := #v[o0, o1]
  let run := mapIdx g.run (fun n k => if atD lv n false then k + 1 else 0)
  let begins := maskOf 2 (fun n => atD run n 0 == 2)
  let g : Glade := { g with level := lv, run := run }
  if begins = 0 then (g, 0)
  else
    ({ g with
      latch := g.latch ||| begins
      cnt := mapIdx g.cnt (fun n k => if bitOf n begins then satInc 8 k else k)
      ts := g.sec now }, begins)

/-- A wake source of R451 is enabled and true: 1 WAKE_N, 2 alarm, 3 tamper. -/
def wakeOk (now src : Nat) (g : Glade) : Bool :=
  match src with
  | 1 => g.wakePin
  | 2 => g.wakeAlarm && g.alarm != 0 && g.sec now == g.alarm
  | 3 => g.wakeTamp && (g.run.toList.any (fun k => decide (k = 2)))
  | _ => false

/-- The status register's code of a class's stall count is raised (R462). -/
def Thicket.stall (c : TrafficClass) (t : Thicket) : Thicket :=
  match c with
  | .rt => { t with sRt := satInc 8 t.sRt }
  | .sys => { t with sSys := satInc 8 t.sSys }
  | .bulk => { t with sBulk := satInc 8 t.sBulk }

/-- The stall limit of a class in µs (Table 17.1). -/
def TrafficClass.limit : TrafficClass → Nat
  | .rt => 20 | .sys => 1000 | .bulk => 100000

/-- The log entry of a raise (R480, Table 18.4). -/
def Thicket.entry (e : Ev) (idx tb sec : Nat) (t : Thicket) : LogE :=
  { seq := (t.logSeq + 1) % 2 ^ 32, ts := tb % 2 ^ 32, sec := sec, ev := e.num, detail := Config.logDetail e.num idx % 2 ^ 96 }

/-- An event source is raised (R470, R480): bit, count, last event, one log entry. `idx` is what its rule names. -/
def Thicket.raise (e : Ev) (idx tb sec : Nat) (t : Thicket) : Thicket :=
  let n := e.num
  let entry := t.entry e idx tb sec
  { t with
    ev := t.ev ||| 2 ^ n
    cnt := updN t.cnt n (satInc 8)
    evLast := n
    evLastTs := tb % 2 ^ 32
    log := (t.log ++ [entry]).drop (t.log.length + 1 - 8192)
    logSeq := entry.seq }

/-- The bytes of a log entry (Table 18.4). -/
def LogE.bytes (e : LogE) : List Byte :=
  let b := leBytes 4 e.seq ++ leBytes 4 e.ts ++ leBytes 4 e.sec ++ leBytes 1 e.ev ++ leBytes 3 0 ++ leBytes 12 e.detail
  b ++ leBytes 4 (crc32c b)

/-- EVENT_N is low (R471). -/
def Thicket.eventN (t : Thicket) : Bool := (t.ev &&& t.even) != 0

/-- A command in the wrong state is counted (R467); `addr` where it carries a register address. -/
def Thicket.countNis (addr : Option Nat) (t : Thicket) : Thicket :=
  { t with nis := satInc 16 t.nis, nisAddr := addr.getD t.nisAddr }

/-- An access has ended with a status other than OK (Table 17.7). -/
def Thicket.endWith (code addr : Nat) (t : Thicket) : Thicket :=
  if code = 0 then t else { t with last := code, lastAddr := addr }

/-- The tags that a class may take, in order (R459): its own part, then the shared one. -/
def TrafficClass.tags : TrafficClass → List Nat
  | .rt => List.range 32 ++ (List.range 64).map (· + 64)
  | .sys => (List.range 32).map (· + 32) ++ (List.range 64).map (· + 64)
  | .bulk => (List.range 64).map (· + 64)

/-- Take a tag for a transaction (R459); none: the producer waits. -/
def Thicket.takeTag (c : TrafficClass) (addr now : Nat) (ws : List Nat) (pad : Nat) (spi : Option (List Byte)) (t : Thicket) : Option Thicket :=
  match c.tags.find? (fun k => !t.trans.any (fun x => x.tag == k)) with
  | none => none
  | some k =>
    let tr := t.trans ++ [{ tag := k, cls := c, addr := addr, at_ := now, words := ws, pad := pad, spi := spi }]
    some { t with trans := tr, peak := max t.peak tr.length }

/-- A transaction that completes at once has held a tag (R459, THK_STAT.PEAK). -/
def Thicket.pulseTag (t : Thicket) : Thicket := { t with peak := max t.peak (min 128 (t.trans.length + 1)) }

/-- The transaction of a tag that has had no completion for 10 ms (R461). -/
def Thicket.overdue (tag now : Nat) (t : Thicket) : Option Trans := t.trans.find? (fun x => x.tag == tag && decide (x.at_ + 10000 ≤ now))

/-- Its tag is freed, and BUSY is counted (R461). -/
def Thicket.timeout (x : Trans) (t : Thicket) : Thicket :=
  { t with trans := t.trans.filter (fun y => y.tag != x.tag), sTmo := satInc 8 t.sTmo, last := 7, lastAddr := x.addr }

/-- Entries in use of a queue. -/
def Thicket.inUse (q : Nat) (t : Thicket) : Nat := mirGet q t.used

/-- The depth of a queue, 4 to 64 (R458). -/
def depthOf (q : Nat) : Nat := 4 + Config.queueDepth q % 61

/-- The consumer removes an item (R458): the credit returns. A producer that waited sends with it, and its stall episode ends. -/
def Thicket.credit (q : Nat) (t : Thicket) : Thicket :=
  if t.inUse q = 0 then t
  else if t.stalled.contains q then { t with stalled := delSet q t.stalled }
  else { t with used := mirPut q (t.inUse q - 1) t.used }

/-- A producer of queue `q` has waited past its class's limit (R462): its queue is full. True: a new episode. -/
def Thicket.stalledAt (c : TrafficClass) (q : Nat) (t : Thicket) : Thicket × Bool :=
  if t.stalled.contains q then (t, false)
  else ({ t.stall c with stalled := t.stalled ++ [q], used := mirPut q (depthOf q) t.used }, true)

/-- What a detection concerns: a row of Table 17.3, or an item that cannot be recomputed (R464). -/
inductive ErrGuard where
  | sram | queue | crc
  deriving DecidableEq, Repr

/-- A detection is counted and recorded (R463, R464). -/
def Thicket.detect (g : ErrGuard) (row : Nat) (lost : Bool) (t : Thicket) : Thicket :=
  let t : Thicket := match g with
    | .sram => { t with eSram := satInc 8 t.eSram }
    | .queue => { t with eQueue := satInc 8 t.eQueue }
    | .crc => { t with eCrc := satInc 8 t.eCrc }
  { t with derr := row, eLost := if lost then satInc 8 t.eLost else t.eLost }

/-- A register that no reset of the main die restores ("—", or "P" for a system reset): the Glade and Cuff groups, the reset counters, the
cause of the last reset, the Hem records. -/
def regKept (power : Bool) (a : Nat) : Bool :=
  decide (0x3000 ≤ a ∧ a < 0x4000) || decide (0x9000 ≤ a ∧ a < 0xA000) || decide (0x2010 ≤ a ∧ a < 0x2020) || decide (0x7040 ≤ a ∧ a < 0x7060)
    || (!power && a == 0x2000)

/-- Power-on and system reset of Thicket (Table 17.7): the log stays in MRAM; a stored value that failed its parity check stays so where
the reset does not restore it (R464). -/
def Thicket.sysReset (power : Bool) (t : Thicket) : Thicket :=
  { log := t.log, logSeq := t.logSeq, bad := t.bad.filter (fun e => regKept power e.1) }

end Sys2Proof.Machine
end

