-- ==== Sys2Proof/Syntax.lean ====
section
/-! DEFINITION. The commands of the device: one constructor for each row of the spec's table of operations and events
(spec/opcode_table.json). The operands are what the command carries or what the outside world shows the device at it: a
measured value, a frame, a register word. -/

namespace Sys2Proof

open Machine

/-- What a detection of Thicket concerns (spec/17_thicket_and_events.md R463–R465, Table 17.3). -/
inductive DataErr where
  /-- Row 1: Canopy's snapshot, problem, solver state or result. -/
  | canopy
  /-- Row 2: the configuration item whose record stands at a slot offset; how many of its readings then fail their CRC: the
  first two from the shadow, the third from the applied slot. -/
  | config (off : Nat) (fails : Nat)
  /-- Row 3: a journal entry; whether both copies fail. -/
  | journal (both : Bool)
  /-- Row 4: an MRAM record kept in two copies: which, and whether the second copy fails; none: one of the Sleeve's or of another unit. -/
  | mram (r : Option (MramRec × Bool))
  /-- Row 5: the state of a loop. -/
  | loop (n : Fin 64)
  /-- Row 6: the node state of a twin. -/
  | twin (p : Fin 12)
  /-- Row 7: a received status frame, Lacing response or Seam frame; with a CRC, else parity. -/
  | frame (crc : Bool)
  /-- Row 8: a host access in a queue. -/
  | access (addr : Nat)
  /-- An item that cannot be recomputed. -/
  | lost (g : ErrGuard)
  /-- The stored value of a register no longer passes its parity check. -/
  | register (addr : Nat)
  deriving DecidableEq, Repr

/-- A command. -/
inductive Instr where
  /-- REGISTER_WRITE (R469): A host write to a register field that has no row of its own completes with a status code, judged for presence, length, value and state. -/
  | registerWrite (addr : Nat) (w : Word)
  /-- CANOPY_TICK (R26): Every 2,000 µs Canopy starts a tick, latches the snapshot, applies site model changes and runs bounds, floor check and selection. -/
  | canopyTick
  /-- SOLVE_COMPLETE (R50): The solver stops on its residual tolerance or an infeasibility certificate, and Canopy rounds and publishes the result. -/
  | solveComplete (us : Nat) (e : SolveEnd)
  /-- SOLVE_BUDGET_EXPIRED (R52): The solver reaches its 600 µs limit and Canopy accepts the result or uses the fallback split. -/
  | solveBudgetExpired (x : SolvePoint)
  /-- GROUP_FRAME_RELEASE (R28): At 840 µs into the tick Canopy releases the tick's group frames, or those of tick k − 1 if no result is ready. -/
  | groupFrameRelease
  /-- SELECTION_TIMEOUT (R43): An ENGAGING module unconfirmed within T_SEL is sent selection none, counted and returned to FREE. -/
  | selectionTimeout (pm : Fin 256)
  /-- RELEASE_HOLD_EXPIRY (R47): The release condition has held for T_REL, so Canopy places one engaged module of the port in RELEASING. -/
  | releaseHoldExpiry (p : Fin 12)
  /-- BLOCK_RELEASE (R84): A BLOCKED module with 10 s of fault-free status and no hold in force becomes FREE. -/
  | blockRelease (pm : Fin 256)
  /-- CEILING_REF_EXPIRY (R83): After 250 ticks the ceiling reference of a port that lost a module is dropped. -/
  | ceilingRefExpiry (p : Fin 12)
  /-- FREEZE_WRITE (R63): A write to CNP_CTRL.FREEZE holds every setpoint, accepted only after a diagnostic boot. -/
  | freezeWrite (on : Bool)
  /-- CLR_MAX (R63): Writing 1 to CNP_CTRL.CLR_MAX clears CNP_TIME.MAX. -/
  | clrMax
  /-- INTAKE_MEASUREMENT (R66): A new intake measurement updates the uncommanded-load estimate U. -/
  | intakeMeasurement (watts : Int)
  /-- INTAKE_STALE (R68): No valid intake measurement for MEAS_TMO sets L_x to L_STALE, holds τ and raises the intake-stale event. -/
  | intakeStale
  /-- PMEAS_HOST_WRITE (R69): A write to CNP_PMEAS_HOST is a new measurement with SRC = 1, or completes with NOT_IN_STATE with SRC = 0. -/
  | pmeasHostWrite (w : Word)
  /-- BUF_SOC_WRITE (R71): A write to CNP_BUF_SOC sets the buffer state of charge, or completes with NOT_IN_STATE without buffer modules. -/
  | bufSocWrite (w : Word)
  /-- BUF_REF_WRITE (R73): A write to CNP_BUF_REF sets the dispatch reference, or completes with NOT_IN_STATE without buffer modules. -/
  | bufRefWrite (w : Word)
  /-- BUFFER_STALE (R71): No CNP_BUF_SOC write for SOC_TMO makes S stale, zeroes the buffer bounds and raises the buffer-stale event. -/
  | bufferStale
  /-- CAN_FRAME_RECEIVE (R100): A controller receives a frame, timestamps it, filters it into the receive queue or high-priority buffer, or discards it. -/
  | canFrameReceive (b : Fin 4) (f : CanFrame)
  /-- ONE_SHOT_RESULT (R103): A one-shot group or HOLD frame ends with OK, ARB_LOST, ERROR or WITHDRAWN and the result is recorded. -/
  | oneShotResult (b : Fin 4) (slot : Fin 7) (r : TxResult) (w : TxFlaw)
  /-- BUS_OFF (R106): A controller enters bus-off and raises the bus-off event. -/
  | busOff (b : Fin 4)
  /-- BUS_OFF_RECOVERY (R106): After 128 sequences of 11 recessive bits the controller leaves bus-off and raises the bus-recovered event. -/
  | busOffRecovery (b : Fin 4)
  /-- PORT_LIMIT_FRAME_SEND (R119): Every 10 ms, and after any change, the controller sends the port limit frame. -/
  | portLimitFrameSend (b : Fin 4)
  /-- STATUS_FRAME (R121): The device takes a module's status frame, judging duplicates, gaps, admission, faults, limits and follow error. -/
  | statusFrame (b : Fin 4)
  /-- MODULE_LOST_TIMEOUT (R122): A module whose last valid status frame is over 35 ms old at a snapshot is declared lost. -/
  | moduleLostTimeout (pm : Fin 256)
  /-- ANNOUNCE (R124): The device judges a module's ANNOUNCE and answers with an ADMIT reply. -/
  | announce (b : Fin 4)
  /-- PILOT_STATE_ACCEPT (R130): Three consecutive pilot periods of one class make a new pilot state accepted for the port. -/
  | pilotStateAccept (p : Fin 12) (x y z : PilotPeriod)
  /-- PROXIMITY_CHANGE (R131): The proximity voltage in or out of band for 20 ms makes the connector count as inserted or released. -/
  | proximityChange (p : Fin 12) (mv : Nat)
  /-- PORT_STEP (R144): Once per 1 ms the port state machine takes the triggers of the step in the fixed order. -/
  | portStep (p : Fin 12) (ts : List PortTrig)
  /-- CONTACTOR_PULL_IN_EXPIRY (R132): After T_PULL the contactor drive passes from 100 % to the economiser PWM. -/
  | contactorPullInExpiry (p : Fin 12)
  /-- CONTACTOR_DISAGREE (R135): Contactor feedback fails to agree with its command within T_FB, or a mismatch persists for T_FB. -/
  | contactorDisagree (p : Fin 12) (f0 f1 : Bool)
  /-- CONTACTORS_AGREE_CLOSED (R143): Both contactors agree closed in PRECHARGE, so the check path opens and the port enters ENERGY. -/
  | contactorsAgreeClosed (p : Fin 12)
  /-- CONTACTORS_AGREE_OPEN (R143): Both contactors agree open in OPENING and the port enters ENDED. -/
  | contactorsAgreeOpen (p : Fin 12)
  /-- ABRUPT_END_OPEN (R143): After an abrupt end the contactors open when |I_p| falls below I_OPEN or 100 ms after the trigger. -/
  | abruptEndOpen (p : Fin 12)
  /-- FAILED_ANSWER_CLOSE (R143): After a FAILED answer is given, or 2 s pass, the port closes the V2G connection. -/
  | failedAnswerClose (p : Fin 12)
  /-- SDP_REQUEST (R143): A SECC discovery request on an up link is answered and the port enters SETUP with the sequence timer running. -/
  | sdpRequest (p : Fin 12)
  /-- T_LINK_EXPIRY (R143): T_LINK expires in LINK, ending with reason LINK in FAULT. -/
  | tLinkExpiry (p : Fin 12)
  /-- T_AUTH_EXPIRY (R140): Authorisation does not arrive within T_AUTH, so the port answers FAILED and ends with AUTH. -/
  | tAuthExpiry (p : Fin 12)
  /-- SEQUENCE_TIMER_EXPIRY (R143): No accepted request within the sequence timer ends the session abruptly with COMM. -/
  | sequenceTimerExpiry (p : Fin 12)
  /-- CHECK_TIMEOUT (R143): 20 s in CHECK without a pass ends the session with INSULATION. -/
  | checkTimeout (p : Fin 12)
  /-- CABLE_CHECK_PASS (R145): Voltage and insulation have held for T_IMD, so the cable check passes. -/
  | cableCheckPass (p : Fin 12)
  /-- T_PC_EXPIRY (R143): T_PC expires in PRECHARGE before PowerDelivery start, ending with PRECHARGE. -/
  | tPcExpiry (p : Fin 12)
  /-- POWER_DELIVERY_CONDITION_TIMEOUT (R148): The closing condition is not met within 1 s of PowerDelivery start, so the port answers FAILED. -/
  | powerDeliveryConditionTimeout (p : Fin 12)
  /-- SHORT_DECLARED (R147): The short condition has held at every snapshot for T_SC, so the phase goes OFF and the short is counted. -/
  | shortDeclared (p : Fin 12)
  /-- SHORT_CHECK_PATH_OFF (R147): After a short the check path is switched off at current below 0.5 A or after 20 ms, and the port enters FAULT. -/
  | shortCheckPathOff (p : Fin 12)
  /-- STOP_RAMP_COMPLETE (R143): In STOPPING |I_p| falls below I_OPEN or T_STOP expires, and the port commands the contactors open. -/
  | stopRampComplete (p : Fin 12)
  /-- FAULT_MIN_TIME_EXPIRY (R143): Once 5 s have passed in FAULT with the connector released, the port returns to IDLE. -/
  | faultMinTimeExpiry (p : Fin 12)
  /-- V2G_CONNECTION_OPEN (R156): A TCP connection to the port is set up, refused if one is already open. -/
  | v2gConnectionOpen (p : Fin 12) (isn : Nat) (tls : Option TlsHello)
  /-- V2G_CONNECTION_CLOSED (R156): The V2G connection closes in a session state, ending the session with COMM. -/
  | v2gConnectionClosed (p : Fin 12)
  /-- TLS_HANDSHAKE_FAIL (R139): The TLS 1.3 handshake of an ISO 15118-20 session fails, so the port closes the connection and ends with TLS. -/
  | tlsHandshakeFail (p : Fin 12)
  /-- SUPPORTED_APP_PROTOCOL_REQ (R139): The port chooses the vehicle's highest-priority enabled protocol, or answers Failed_NoNegotiation. -/
  | supportedAppProtocolReq (p : Fin 12) (h : V2gHead) (offers : List Proto)
  /-- SESSION_SETUP_REQ (R155): The port assigns a new SessionID from the session counter and Cloak's random source. -/
  | sessionSetupReq (p : Fin 12) (h : V2gHead)
  /-- SERVICE_DISCOVERY_REQ (R149): The port lists DC, and DC_BPT only when PROTO.BPT is set. -/
  | serviceDiscoveryReq (p : Fin 12) (h : V2gHead)
  /-- SERVICE_SELECTION_REQ (R149): The port accepts the selected service, or refuses DC_BPT without PROTO.BPT and closes the connection. -/
  | serviceSelectionReq (p : Fin 12) (h : V2gHead) (bpt : Bool)
  /-- AUTHORIZATION_REQ (R140): The port asks the OCPP client, or authorises itself, and answers Ongoing until the client answers. -/
  | authorizationReq (p : Fin 12) (h : V2gHead) (pnc : Bool) (token : Nat) (cert : List Byte)
  /-- CABLE_CHECK_REQ (R134): With authorisation and an enabled gate the port closes the check path or contactors and enters CHECK, otherwise answers Ongoing. -/
  | cableCheckReq (p : Fin 12) (h : V2gHead) (vmax imax : Nat)
  /-- PRE_CHARGE_REQ (R146): After the check has passed the port starts precharge and reports V_p. -/
  | preChargeReq (p : Fin 12) (h : V2gHead) (tgtV : Nat) (tgtI : Int)
  /-- POWER_DELIVERY_REQ (R148): A start closes the contactors when the closing condition holds; a stop sets D_p to 0 and enters STOPPING. -/
  | powerDeliveryReq (p : Fin 12) (h : V2gHead) (start : Bool)
  /-- CHARGE_LOOP_REQ (R149): A charge-loop request sets D_p and the vehicle's maximum current and is answered with present values and limits. -/
  | chargeLoopReq (p : Fin 12) (h : V2gHead) (r : LoopReq)
  /-- SESSION_STOP_REQ (R143): A SessionStop request in ENERGY sets D_p to 0 and enters STOPPING. -/
  | sessionStopReq (p : Fin 12) (h : V2gHead)
  /-- CERTIFICATE_INSTALLATION_REQ (R151): A certificate installation or update request is answered within 2 s. -/
  | certificateInstallationReq (p : Fin 12) (h : V2gHead)
  /-- CREDIT_NOTICE (R133): The Sleeve announces exhausted credit and the port begins STOPPING with end reason CREDIT. -/
  | creditNotice (p : Fin 12)
  /-- PORT_ENABLE_WRITE (R157): A write to VPn_CTRL.ENABLE forces DISABLED on 0, or leaves DISABLED for IDLE on 1. -/
  | portEnableWrite (p : Fin 12) (on : Bool)
  /-- PORT_STOP (R157): Writing 1 to VPn_CTRL.STOP in ENERGY begins STOPPING with end reason HOST, else NOT_IN_STATE. -/
  | portStop (p : Fin 12)
  /-- CLR_LOCK (R153): Writing 1 to VPn_CTRL.CLR_LOCK leaves LOCKED, or completes with NOT_IN_STATE while the feedback still disagrees. -/
  | clrLock (p : Fin 12)
  /-- BPT_TGT_WRITE (R157): A write to VPn_BPT_TGT sets the dynamic DC_BPT target, or completes with NOT_IN_STATE outside a DC_BPT session. -/
  | bptTgtWrite (p : Fin 12) (w : Word)
  /-- TEMP_MEASUREMENT (R159): A PT1000 input is measured and faulted or made valid after 3 consecutive measurements. -/
  | tempMeasurement (p : Fin 12) (k : Fin 3) (ohm : Nat) (t : Int)
  /-- FLOW_PULSE_EDGE (R160): A flow-meter rising edge updates the flow Q and the over-rate fault check. -/
  | flowPulseEdge (p : Fin 12)
  /-- FLOW_TIMEOUT (R160): No flow edge for 2 s sets Q to 0. -/
  | flowTimeout (p : Fin 12)
  /-- FLOW_FAULT_CLEAR (R160): The edge rate has stayed below 2,000 Hz for 1 s, so FL leaves its fault. -/
  | flowFaultClear (p : Fin 12)
  /-- THERMAL_EVALUATION (R163): Every 500th tick, or 5th in fast mode, the twin integrates the model, computes I_allow and PEAK and applies the cap rules. -/
  | thermalEvaluation (p : Fin 12)
  /-- FAST_MODE_EXIT (R164): After 10 s without any fast-mode condition the twin returns to slow mode. -/
  | fastModeExit (p : Fin 12)
  /-- LOOP_SAMPLE (R175): At its sample instant a Coppice loop reads its process value, runs the PID update and applies its output. -/
  | loopSample (n : Fin 64)
  /-- LOOP_FAULT_RECOVERY (R176): After 1 s of valid process value the loop leaves FAULT for the mode last written. -/
  | loopFaultRecovery (n : Fin 64)
  /-- LOOP_MODE_WRITE (R176): A write to CPC_Ln_MODE.MODE changes the loop mode as Table 6.2 gives, or sets the mode taken on leaving TRACK or FAULT. -/
  | loopModeWrite (n : Fin 64) (w : Word)
  /-- LOOP_COEFF_WRITE (R178): A write to a loop's SP, KP, KI, KD, TF, OUT_MIN or OUT_MAX takes effect at its next sample, or completes with BAD_VALUE. -/
  | loopCoeffWrite (n : Fin 64) (k : LoopCoeff) (w : Word)
  /-- LOOP_MAN_WRITE (R189): A write to CPC_Ln_MAN sets the manual output, or completes with NOT_IN_STATE outside MANUAL. -/
  | loopManWrite (n : Fin 64) (w : Word)
  /-- LOOP_PVH_WRITE (R187): A write to CPC_Ln_PVH sets the host process value of source 0x3F. -/
  | loopPvhWrite (n : Fin 64) (w : Word)
  /-- INJECTION_START (R183): Writing 1 to CPC_INJ_CTRL.START starts an injection and capture, or completes with NOT_IN_STATE or BAD_VALUE. -/
  | injectionStart
  /-- INJECTION_STOP (R184): Writing 1 to CPC_INJ_CTRL.STOP aborts the running injection. -/
  | injectionStop
  /-- INJECTION_END (R184): The injection ends after LEN samples and raises the injection-ended event. -/
  | injectionEnd
  /-- GAITER_CYCLE (R191): Every 1 ms Gaiter evaluates its safety logic twice, runs its diagnostics and updates gates, outputs and site state. -/
  | gaiterCycle (o : GaiterObs)
  /-- CLOCK_CHECK_WINDOW (R192): At the end of each comparison window Gaiter checks its clock against the reference and Glade. -/
  | clockCheckWindow (dRef dGl : Int)
  /-- SAFETY_CONTACT_CHANGE (R193): A safety contact signals open or closed; an opening outside its mask makes the input OPEN at once. -/
  | safetyContactChange (si : Fin 16) (isB level : Bool)
  /-- INPUT_DEBOUNCE_DONE (R193): Both contacts have signalled closed for T_DEB, so the input becomes CLOSED. -/
  | inputDebounceDone (si : Fin 16)
  /-- INPUT_DISCREPANCY (R194): The second contact does not follow within T_DISC, so the input enters FAULT and raises the input-discrepancy event. -/
  | inputDiscrepancy (si : Fin 16)
  /-- TEST_PULSE_START (R195): Every 100 ms Gaiter drives GTP_A, and 50 ms later GTP_B, low for 200 µs and opens the test mask. -/
  | testPulseStart (srcB : Bool)
  /-- TEST_PULSE_SAMPLE (R195): At 180 µs into a pulse every contact on the source must read open, else its input enters FAULT. -/
  | testPulseSample (srcB : Bool) (closed : Nat)
  /-- TEST_MASK_END (R195): 240 µs after a pulse starts the mask ends and a contact still open counts as open. -/
  | testMaskEnd (srcB : Bool)
  /-- COMPARATOR_CROSSING (R197): A fast comparator's pad crosses its threshold in the trip direction, a qualifying event. -/
  | comparatorCrossing (fc : Fin 24)
  /-- COMPARATOR_RETURN (R197): The comparator's pad returns past the hysteresis point and it stops being active. -/
  | comparatorReturn (fc : Fin 24)
  /-- COMPARATOR_SELF_TEST (R198): Gaiter masks a comparator for 40 µs, steps its threshold and sets FC_FAIL if the output does not change. -/
  | comparatorSelfTest (fc : Fin 24) (ok : Bool)
  /-- FC_TEST_LATE (R198): No comparator self-test has passed within FC_TEST_MAX, so FC_LATE is set. -/
  | fcTestLate (fc : Fin 24)
  /-- PORT_RESPONSE_TIMEOUT (R196): 100 ms after a PORT input opens Gaiter disables the port's gate if the current has not fallen first. -/
  | portResponseTimeout (p : Fin 12)
  /-- SOFT_RAMP_LIMIT (R203): The SOFT ramp limit is reached, so Gaiter disables remaining gates, asserts TRIP and enters CLEARING. -/
  | softRampLimit
  /-- RESUME (R205): Writing 1 to GTR_CTRL.RESUME releases TRIP when every condition holds, else completes with NOT_IN_STATE. -/
  | resume
  /-- SOFT_WRITE (R203): Writing 1 to GTR_CTRL.SOFT makes a soft request of kind 6, or completes with NOT_IN_STATE in SOFT or CLEARING. -/
  | softWrite
  /-- GATE_REQUEST (R206): A port stack requests its gate and Gaiter enables it within one cycle when its conditions hold. -/
  | gateRequest (p : Fin 12)
  /-- GATE_WITHDRAW (R206): The port stack withdraws its request and Gaiter disables the gate at once. -/
  | gateWithdraw (p : Fin 12)
  /-- SAFE_OUTPUT_OFF_PULSE (R207): Once a second Gaiter switches a pulsed safe output off for OFFP and checks its read-back. -/
  | safeOutputOffPulse (so : Fin 8) (fell : Bool)
  /-- SAFE_OUTPUT_READBACK (R207): After the off-pulse the output must read high within 100 µs, else SO_FAIL holds it off. -/
  | safeOutputReadback (so : Fin 8) (high : Bool)
  /-- DEGRADED_TIMER_EXPIRY (R209): The degraded timer expires and Gaiter makes a soft request with cause kind 5. -/
  | degradedTimerExpiry
  /-- HEARTBEAT (R210): The real-time core writes a heartbeat, with port currents, to Gaiter. -/
  | heartbeat
  /-- HEARTBEAT_LOST (R211): No heartbeat for 10 ms sets GTR_DIAG.HB and leads to SOFT, or to waiting for a Seam handover with a fit peer. -/
  | heartbeatLost
  /-- HANDOVER_TIMEOUT (R211): The handover has not completed 650 ms after the last heartbeat, so Gaiter enters CLEARING with cause kind 9. -/
  | handoverTimeout
  /-- GAITER_LEAVE_HOLD (R201): With the first-leaf block applied and no input debouncing, Gaiter leaves HOLD for RUN, DEGRADED or CLEARING. -/
  | gaiterLeaveHold
  /-- SAMPLE_FRAME_RECEIVE (R228): The main die checks a Sleeve sample frame and uses its port samples and intake measurement. -/
  | sampleFrameReceive (k : Fin 2) (bs : List Byte)
  /-- PORT_MEASUREMENT_INVALID (R228): 10 ms without a valid Sleeve sample makes the port measurement invalid. -/
  | portMeasurementInvalid (p : Fin 12)
  /-- RECORD_FRAME_RECEIVE (R272): The main die checks a Sleeve record frame and fills the mirrors or assembles the record segment. -/
  | recordFrameReceive (bs : List Byte)
  /-- SLEEVE_SAMPLE_SEND (R227): Every 250 µs the Sleeve sends one sample frame on the forward link. -/
  | sleeveSampleSend
  /-- HEAD_SAMPLE_FRAME (R231): The Sleeve takes a head sample frame and accumulates its energy in the pending register. -/
  | headSampleFrame (p : Fin 12) (bs : List Byte)
  /-- HEAD_AUTH_FRAME (R233): The Sleeve verifies a head block's tag and registers or gaps its energy. -/
  | headAuthFrame (p : Fin 12) (bs : List Byte)
  /-- HEAD_ERROR_TIMEOUT (R234): No block verified for 250 ms puts the head in ERROR and raises the head-error event. -/
  | headErrorTimeout (p : Fin 12)
  /-- HEAD_PAIRING (R232): In SERVICE the Sleeve pairs a head, sending it a link key and storing its constants. -/
  | headPairing (p : Fin 12) (d : HeadData)
  /-- SLEEVE_COMMIT (R224): Every 1 s the Sleeve writes its energy registers and pending log values to MRAM. -/
  | sleeveCommit
  /-- SLEEVE_POWER_FAIL (R224): VSLV below 1.65 V or PFAIL_N low makes the Sleeve commit to MRAM within 2 ms and stop registering. -/
  | sleevePowerFail (complete vbks : Bool)
  /-- SLEEVE_POWER_ON (R252): VSLV powers on and the Sleeve boots, restoring registers and processing missed boundaries. -/
  | sleevePowerOn (elapsed refresh : Nat) (vbks : Bool)
  /-- SLEEVE_WATCHDOG (R253): The Sleeve watchdog expires after 256 ms and the Sleeve restarts in BOOT. -/
  | sleeveWatchdog
  /-- SLEEVE_SAMPLE_END (R264): At each 250 µs sample end the Sleeve processes that instant's boundaries and commands in fixed order. -/
  | sleeveSampleEnd
  /-- LINE_CYCLE_END (R242): At each line cycle end the Sleeve computes RMS, power and energy and accumulates the registers. -/
  | lineCycleEnd (xs : List AcCodes)
  /-- INTAKE_LATCH (R243): Every N-th cycle the Sleeve latches the intake values into the mirror. -/
  | intakeLatch
  /-- FREERUN_ENTER (R241): No phase qualifies for 1.5 nominal periods, so cycles are timed at the nominal period with FREERUN. -/
  | freerunEnter
  /-- HALF_CYCLE_REFRESH (R244): At each reference zero crossing the Sleeve refreshes U_h and runs the sag, swell and interruption detectors. -/
  | halfCycleRefresh (xs : List AcCodes)
  /-- KEEPALIVE (R248): Command 0x01 restarts the lane's silence timer. -/
  | keepalive (f : CmdFrame)
  /-- SET_TIME (R266): Command 0x10 sets the legal clock and offset within the step and daily limits. -/
  | setTime (f : CmdFrame)
  /-- TARIFF_SEG (R258): Command 0x20 carries one segment of a tariff table; the last checks the whole table. -/
  | tariffSeg (f : CmdFrame)
  /-- SESSION_START (R249): Command 0x30 opens a port's session and latches its start meter value. -/
  | sessionStart (f : CmdFrame)
  /-- SESSION_STOP (R249): Command 0x31 closes a port's session, latches the stop value and forms the signed record. -/
  | sessionStop (f : CmdFrame)
  /-- UNKNOWN_COMMAND (R250): A command code outside Table 8.7 completes with UNKNOWN. -/
  | unknownCommand (code : Nat) (f : CmdFrame)
  /-- LINK_LOSS_CLOSE (R251): No frame accepted on any lane for 10 s closes every open session with the link-loss mark. -/
  | linkLossClose
  /-- METROLOGY_SELF_TEST (R252): Every 1 s the Sleeve checks its reference and crystal, entering FATAL on failure. -/
  | metrologySelfTest (refPpm xtalPpm : Int) (copyA copyB : Bool)
  /-- SERVICE_SESSION_OPEN (R252): An authorised session on SLV_SVC puts the Sleeve in SERVICE. -/
  | serviceSessionOpen (auth : Bool)
  /-- SERVICE_SESSION_CLOSE (R252): Closing the SLV_SVC session returns the Sleeve to RUN or UNSEALED. -/
  | serviceSessionClose (work : SvcWork)
  /-- FIRMWARE_LOAD (R222): Sleeve firmware is loaded through SLV_SVC in SERVICE. -/
  | firmwareLoad (version : Nat) (img sig : List Byte)
  /-- LEGAL_PARAM_LOAD (R254): A signed legal parameter block is loaded through SLV_SVC in SERVICE. -/
  | legalParamLoad (l : LegalParams) (sig : List Byte)
  /-- RECORD_RESEND (R272): The Sleeve sends a record again 1 s, 10 s and 60 s after forming it. -/
  | recordResend (seq : Nat)
  /-- CREDIT_GATE_OPEN (R275): LEAD_T after NOTICE, or at a low-current block, the Sleeve opens its gate. -/
  | creditGateOpen (p : Fin 12)
  /-- GATE_FEEDBACK_CHECK (R276): SFBn still closed 200 ms after the gate opened sets GATE_FAIL and raises the Sleeve-gate-fail event. -/
  | gateFeedbackCheck (p : Fin 12) (fb : Bool)
  /-- TAMPER_CONDITION_BEGIN (R280): An electrical or mechanical tamper condition begins and is logged, latched and counted. -/
  | tamperConditionBegin (k : Fin 5)
  /-- TAMPER_CONDITION_END (R280): A tamper condition ends and is logged. -/
  | tamperConditionEnd (k : Fin 5)
  /-- COVER_SWITCH_SAMPLE (R279): Every 10 ms the Sleeve samples the meter and terminal cover switches. -/
  | coverSwitchSample (meter term : Bool)
  /-- ROLE_CHOICE_TIMEOUT (R283): No Seam lane trains within 2 s, or 7 s for a standby strap, so the unit asserts OWN_N if the line is high. -/
  | roleChoiceTimeout
  /-- LANE_DOWN (R285): A lane that loses symbol lock for 1 ms is down and its traffic moves to the other lane. -/
  | laneDown (k : Fin 2)
  /-- LANE_RETRAIN (R287): After three tag failures both lanes are down for 100 ms and then retrain. -/
  | laneRetrain
  /-- PEER_LOST (R285): No valid Seam frame for 30 ms clears SYS_SITE1.PEER and raises the peer-lost event. -/
  | peerLost
  /-- STATUS_SEND (R286): Every 10 ms each unit sends a STATUS frame. -/
  | statusSend
  /-- JOURNAL (R290): The standby stores a complete journal entry twice and sends ACK, or asks for resync on a gap. -/
  | journal (f : SeamFrame)
  /-- ACK (R291): The active takes the standby's acknowledgement of journal entries. -/
  | ack (f : SeamFrame)
  /-- STATUS (R291): A received STATUS frame updates role choice and the fitness conditions. -/
  | status (f : SeamFrame)
  /-- RELEASE (R297): The standby accepts RELEASE and starts a takeover. -/
  | release (f : SeamFrame)
  /-- HANDOVER (R282): The old active accepts HANDOVER, disables its gates and stops its pilot drive. -/
  | handover (f : SeamFrame)
  /-- RESYNC_REQ (R290): The active resends missing journal entries or starts a full resync. -/
  | resyncReq (f : SeamFrame)
  /-- SNAPSHOT_FRAME (R304): The standby writes a segment of the active's full state image. -/
  | snapshotFrame (f : SeamFrame)
  /-- RELAY (R306): The standby serves a relayed register read or write. -/
  | relay (f : SeamFrame)
  /-- RELAY_RSP (R306): The active returns the standby's status and words to the host. -/
  | relayRsp (f : SeamFrame)
  /-- RELAY_TIMEOUT (R306): The standby has not answered a RELAY frame within 100 ms, so the access completes with BUSY. -/
  | relayTimeout
  /-- RELAY_WINDOW_END (R306): 1 s after the last relayed access the standby turns application core 0 and Cloak engines off. -/
  | relayWindowEnd
  /-- OWN_N_HIGH (R282): A standby sees OWN_N high for 10 µs after low and starts a takeover. -/
  | ownNHigh
  /-- OWN_N_LOW (R282): A released unit sees OWN_N low for 10 µs and disables its gates. -/
  | ownNLow
  /-- RELEASE_CAUSE (R295): The active finds a release cause and, with a fit peer, sends RELEASE and withdraws its frames. -/
  | releaseCause (reason : Nat)
  /-- OWN_N_RELEASE (R296): 100 µs after sending RELEASE the releasing unit releases OWN_N. -/
  | ownNRelease
  /-- TAKEOVER_FIRST_TICK (R297): The new active's Canopy sends its first group frames under the new epoch and sends HANDOVER. -/
  | takeoverFirstTick
  /-- ECHO_ELIGIBLE (R292): 300 µs after the original the standby's echo of a group frame becomes eligible to transmit. -/
  | echoEligible (b : Fin 4) (g : Fin 4)
  /-- ECHO_CHECK_TIMEOUT (R293): No matching echo within 1,000 µs is counted in SEAM_ECHO and may clear the ECHO condition. -/
  | echoCheckTimeout (b : Fin 4) (g : Fin 4)
  /-- HOLD_FRAME_SEND (R294): During a takeover the echo engine sends HOLD frames on every bus every 2,000 µs. -/
  | holdFrameSend
  /-- RESYNC_COMPLETE (R304): The standby has acknowledged entries for 1 s without a gap, so resync is complete and GEN increments. -/
  | resyncComplete
  /-- SWAP (R305): Writing 1 to SEAM_CTRL.SWAP makes the active release with REASON 8, or completes with NOT_IN_STATE. -/
  | swap
  /-- SCHEDULED_SWAP (R305): The SWAP_H interval expires and the active releases once the swap conditions hold. -/
  | scheduledSwap
  /-- LACING_RUN_WRITE (R315): A write to LAC_CTRL.RUN starts a chain's wake, or sends SLEEP, or completes with NOT_IN_STATE without a record. -/
  | lacingRunWrite (w : Word)
  /-- WAKE_DONE (R315): 10 ms after the wake pattern the master starts enumeration. -/
  | wakeDone (c : Fin 4)
  /-- ENUMERATION (R316): Enumeration reads node identities and admits nodes, or counts a failed attempt. -/
  | enumeration (c : Fin 4)
  /-- LACING_FAULT_RETRY (R315): 10 s after a chain enters FAULT the master sends the wake pattern again. -/
  | lacingFaultRetry (c : Fin 4)
  /-- SWEEP_PERIOD (R321): Every SWEEP_P the master sends CONVERT and reads, evaluates, balances and tests each chain. -/
  | sweepPeriod
  /-- LACING_RESPONSE (R314): The master judges a node response and uses or discards it, repeating once on error. -/
  | lacingResponse (c : Fin 4) (bs : List Byte)
  /-- LACING_RESPONSE_TIMEOUT (R314): No response begins in time, so the master repeats the command once. -/
  | lacingResponseTimeout (c : Fin 4)
  /-- LACING_NODE_LOST (R315): A node's results are missing in 3 consecutive sweeps, so it is LOST and the chain rewakes. -/
  | lacingNodeLost (c : Fin 4) (h : Fin 32)
  /-- OWT_READ (R328): OW_SETTLE × 2 + 2.6 ms after OWT the master reads the open-wire block and confirms open wires. -/
  | owtRead (c : Fin 4) (resp : Option (List Byte))
  /-- OWT_REQUEST (R329): A host write to LAC_OWT.GO requests a node's test, or completes with NOT_IN_STATE. -/
  | owtRequest (w : Word)
  /-- OW_TEST_LATE (R329): A node untested for twice OW_PERIOD sets OW_LATE and raises the open-wire-test-late event. -/
  | owTestLate (c : Fin 4) (h : Fin 32)
  /-- FCH_RECEIVE (R337): A Bramble receiver decodes a frame control header or discards it and defers. -/
  | fchReceive (fch : List Byte) (nbr : Option (Fin 64)) (energy : Nat) (pay : List Byte) (xs : List Int)
  /-- BEACON (R349): A received BEACON updates neighbour links, routes and partner rejoin. -/
  | beacon (bs : List Byte)
  /-- JOIN (R349): The controller admits a partner against the image and answers with JOIN_ACK. -/
  | join (bs : List Byte)
  /-- JOIN_ACK (R348): A partner accepts a JOIN_ACK that echoes its address and nonce. -/
  | joinAck (bs : List Byte)
  /-- TMREQ (R341): The receiver measures carrier SNR and answers with a new tone map in TMR. -/
  | tmreq (bs : List Byte) (snr : List Int)
  /-- TMR (R341): The sender takes the new tone map and ends the pending refresh. -/
  | tmr (bs : List Byte)
  /-- SET (R359): A partner applies a SET command to its channel. -/
  | set (bs : List Byte)
  /-- VALUES (R359): The controller takes VALUES entries into its value bindings. -/
  | values (bs : List Byte)
  /-- ESTOP (R358): A pressed ESTOP from a kind-2 station makes a soft request of kind 7 and raises the Bramble-estop event. -/
  | estop (bs : List Byte)
  /-- LEAVE (R350): A partner's LEAVE declares it lost at once. -/
  | leave (bs : List Byte)
  /-- BRAMBLE_ACK (R344): An ACK completes a unicast frame's delivery. -/
  | brambleAck (n : Fin 65) (ref : Nat)
  /-- BRAMBLE_NACK (R344): A NACK counts a failed attempt and leads to the next attempt. -/
  | brambleNack (n : Fin 65) (ref : Nat)
  /-- ACK_TIMEOUT (R344): A unicast frame draws no answer and the next attempt of Table 12.2 follows, or the frame fails. -/
  | ackTimeout (n : Fin 65)
  /-- ZERO_CROSSING (R338): A mains crossing on BRM_ZC updates the flywheel or is replaced by the prediction. -/
  | zeroCrossing
  /-- TONE_MAP_REFRESH (R342): 120 s after the last TMR, or after 3 frame errors, the sender queues a TMREQ and holds unicast frames. -/
  | toneMapRefresh (n : Fin 64)
  /-- TMR_TIMEOUT (R342): No TMR within 400 ms makes the sender use robust mode and retry every 10 s. -/
  | tmrTimeout (n : Fin 64)
  /-- TONE_MAP_REFRESH_WRITE (R361): Writing 1 to BRM_CTRL.REFRESH starts a refresh, or completes with NOT_IN_STATE for a neighbour not admitted. -/
  | toneMapRefreshWrite
  /-- BEACON_SEND (R349): Every BCN_P the controller sends a robust BEACON. -/
  | beaconSend
  /-- BRAMBLE_PARTNER_LOST (R350): Nothing heard for LOST_N × BCN_P declares the partner lost. -/
  | bramblePartnerLost (n : Fin 64)
  /-- PULSE_BEACON (R357): A fallback PULSE_BEACON from an admitted address is answered with ATTEND and counted. -/
  | pulseBeacon (a b c : Nat)
  /-- FALLBACK_ESTOP (R358): A pressed ESTOP on the fallback path makes a soft request of kind 7. -/
  | fallbackEstop (a b c : Nat)
  /-- CTRL_BEACON_SEND (R357): Every 60 s with FB_EN set the controller sends CTRL_BEACON on the fallback path. -/
  | ctrlBeaconSend
  /-- BINDING_STALE (R359): A value binding older than MAXAGE is stale and counts as a lost partner. -/
  | bindingStale (k : Fin 64)
  /-- CUFF_PROTECTION_CHECK (R365): Every 10 µs Cuff compares each channel's current and temperature and puts it in FAULT on a cause. -/
  | cuffProtectionCheck (ms : List CufMeas)
  /-- TOTAL_CURRENT_SHED (R366): Total current above 24.0 A puts the highest-ranked conducting channel in FAULT, repeated every 10 ms. -/
  | totalCurrentShed
  /-- CUFF_RETRY (R367): RETRY_T after a fault the channel retries on its own. -/
  | cuffRetry (n : Fin 16)
  /-- CLAMP_EVENT_END (R368): At the end of a clamp event Cuff adds its energy to the window and locks the channel when over budget. -/
  | clampEventEnd (n : Fin 16) (xs : List ClampSample)
  /-- CUF_CLR (R367): Writing 1 to a CUF_CLR bit clears a channel's FAULT or LOCK, or completes with NOT_IN_STATE. -/
  | cufClr (w : Word)
  /-- CUF_CHANNEL_WRITE (R363): A write to CUF_CHn_CTRL sets the commanded state, duty or offset, refused when not HOST-owned or LOCKED. -/
  | cufChannelWrite (n : Fin 16) (w : Word)
  /-- CUFF_FORCE (R372): Gaiter sets or clears a channel's force latch, turning it off within 10 µs or returning it. -/
  | cuffForce (n : Fin 16) (on : Bool)
  /-- VLS_LOSS (R370): VLS below 16.0 V for 1 ms clears the Cuff retained state. -/
  | vlsLoss
  /-- CUFF_STANDBY_OFF (R373): With its OWN_N driver released and the line low for 200 ms, the unit's Cuff turns every channel off. -/
  | cuffStandbyOff
  /-- VSEL_CHANGE (R379): A VSEL code stable for 1 ms sets Hem's target, or sets VSEL_BAD for an unused entry. -/
  | vselChange (code : Fin 8)
  /-- SOFT_START_COMPLETE (R380): VREF has reached target with the output within ±3 %, so Hem enters RUN. -/
  | softStartComplete
  /-- HEM_SHORT (R381): A short during soft start turns phases off and enters HICCUP or LATCHED. -/
  | hemShort
  /-- HICCUP_EXPIRY (R381): T_HIC after a short Hem begins a new soft start. -/
  | hiccupExpiry
  /-- HIC_CLEAR (R381): After 1 s in RUN the failed-start count clears. -/
  | hicClear
  /-- HEM_UNDERVOLTAGE (R382): Output below 85 % of VREF for 1 ms puts Hem in HICCUP. -/
  | hemUndervoltage
  /-- HEM_OVERVOLTAGE (R382): Output above 115 % of VREF for 20 µs latches Hem off. -/
  | hemOvervoltage
  /-- HEM_VIN_OUT (R382): VIN outside its range turns the phases off and enters VIN_WAIT. -/
  | hemVinOut
  /-- HEM_VIN_OK (R382): VIN within range for 10 ms starts a soft start. -/
  | hemVinOk
  /-- PHASE_OVERCURRENT (R382): A phase at ILIM_PK for 256 periods is turned off and flagged. -/
  | phaseOvercurrent (p : Fin 4)
  /-- HEM_CLR (R382): Writing 1 to HEM_CTRL.CLR leaves LATCHED for OFF, or completes with NOT_IN_STATE. -/
  | hemClr
  /-- PHASE_SHED (R383): Low total current for T_SHED sheds the highest active phase over 32 periods. -/
  | phaseShed
  /-- PHASE_ADD (R383): High total current for 16 periods adds the lowest shed phase. -/
  | phaseAdd
  /-- FAST_CONDITION (R384): A voltage droop or repeated peak current aborts shedding, enables every phase and blocks shedding for 1 s. -/
  | fastCondition
  /-- SHED_BLOCK_EXPIRY (R384): The 1 s shedding block ends. -/
  | shedBlockExpiry
  /-- HEM_LOOP_UPDATE (R377): Once per HP0 period the voltage loop updates the current command. -/
  | hemLoopUpdate (m : HemMeas)
  /-- KEY_UPDATE_GO (R395): Writing 1 to CLK_KU_CTRL.GO makes Cloak judge the key-update message in the window. -/
  | keyUpdateGo
  /-- KEY_UPDATE_JUDGED (R396): Judging ends with a refusal or an atomic commit that raises the key-update event. -/
  | keyUpdateJudged
  /-- PAIR_BINDING (R392): The units exchange certificates and ephemeral keys and bind the pair key in slot 2. -/
  | pairBinding (cert : IdCert) (epk sig : List Byte)
  /-- ATTESTATION_GO (R401): Writing 1 to CLK_ATT_CTRL.GO makes Cloak form and sign an attestation statement. -/
  | attestationGo (slot : Fin 64)
  /-- ATTESTATION_DONE (R401): The signed statement is placed in the window and DONE is set. -/
  | attestationDone
  /-- RNG_HEALTH_FAIL (R402): A health test failure stops random output and sets RNG_FAIL. -/
  | rngHealthFail
  /-- RNG_RECOVER (R402): 1,024 consecutive healthy samples resume random output. -/
  | rngRecover (n : Nat)
  /-- DRBG_RESEED (R402): The DRBG reseeds every 1 s and after 65,536 requests. -/
  | drbgReseed
  /-- STRAP_LATCH (R408): The strap converter latches its code, or uses code 0 and raises the strap-invalid event. -/
  | strapLatch (ratio : Rat)
  /-- LOADER_START (R417): With the strap decoded and regeneration ended, the loader chooses a slot or enters WAIT. -/
  | loaderStart (sfdp : Bool)
  /-- FIRST_LEAF_APPLY (R421): The first-leaf block passes and its records apply at one instant, starting Gaiter, Canopy REDUCED, ports, Hem and Seam. -/
  | firstLeafApply
  /-- FIRST_LEAF_REFUSED (R417): The first-leaf block is refused and the loader reads the other slot or enters WAIT. -/
  | firstLeafRefused (answers : Bool)
  /-- REST_APPLY (R422): At the first tick after the image signature verifies, the rest applies and Canopy enters RUN. -/
  | restApply
  /-- REST_REFUSED (R424): The rest is refused, the slot marked BAD and a soft request of kind 8 made. -/
  | restRefused (answers : Bool)
  /-- HEARTBEAT_STOP (R424): 200 ms after Gaiter enters CLEARING in REFUSED the real-time core stops its heartbeat. -/
  | heartbeatStop
  /-- IMAGE_ERASE (R427): OP 1 erases a slot and clears its marks. -/
  | imageErase (slot : Fin 2)
  /-- IMAGE_PROG (R427): OP 2 programs a 4 KiB page, staging page 0 in MRAM. -/
  | imageProg (slot : Fin 2) (verify : Bool)
  /-- IMAGE_CHECK (R427): OP 3 judges a slot and sets CHECKED or records the reason. -/
  | imageCheck (slot : Fin 2) (answers : Bool)
  /-- IMAGE_SELECT (R427): OP 4 writes staged page 0 and the boot-select word for a CHECKED slot. -/
  | imageSelect (slot : Fin 2) (verify : Bool)
  /-- IMAGE_OP_DONE (R427): An image operation completes with done or failed in SYS_IMG_PROG. -/
  | imageOpDone
  /-- POWER_ON_RESET (R430): VSYS, VDDIO0 or GLD_PWREN low causes a power-on reset. -/
  | powerOnReset (k : Fin 3)
  /-- BROWN_OUT (R430): VSYS or a regulator output below its limit for 5 µs causes a power-on reset. -/
  | brownOut
  /-- PIN_RESET (R430): RST_N low for at least 1 µs causes a system reset. -/
  | pinReset (ns : Nat)
  /-- WATCHDOG_EXPIRY (R433): The real-time core watchdog, or two application watchdogs, expire, applying a core reset and pending a system reset. -/
  | watchdogExpiry (app : Bool)
  /-- APP_CORE_RESTART (R430): A single application core's watchdog expires and that core alone restarts. -/
  | appCoreRestart (core : Nat)
  /-- RESET_SYS_WRITE (R434): A keyed write of RST_CTRL.SYS starts a system reset or a soft request, or completes with NOT_IN_STATE or BAD_VALUE. -/
  | resetSysWrite (w : Word)
  /-- RESET_CORE_WRITE (R434): A keyed write of RST_CTRL.CORE applies a core reset in diagnostic boot, else NOT_IN_STATE. -/
  | resetCoreWrite (w : Word)
  /-- DEBUG_RESET_REQUEST (R430): A debug-port request in diagnostic boot causes a system or core reset. -/
  | debugResetRequest (sys : Bool)
  /-- CLOCK_FAILURE (R443): The clock monitor finds a missing, off-frequency or unlocked clock and fires source 7. -/
  | clockFailure (mask : Fin 16)
  /-- LOCK_UP (R430): A core stops on an unrecoverable fault, causing a core reset and a pending system reset. -/
  | lockUp
  /-- DEFERRED_SYSTEM_RESET (R433): The pending system reset follows when Gaiter enters CLEARING, hands over, or 700 ms pass. -/
  | deferredSystemReset
  /-- RELEASE_SEQUENCE (R437): After reset the domains are released one at a time every 2.56 µs and RST_CAUSE is written. -/
  | releaseSequence (tries : List RootTry)
  /-- PLL_STOP (R443): A PLL not requested for 1 ms stops. -/
  | pllStop (k : Fin 3)
  /-- PLL_REQUEST (R443): A block requests a stopped PLL and it relocks within 50 µs. -/
  | pllRequest (k : Fin 3)
  /-- GLADE_XTAL_LOSS (R444): No Glade crystal edge for 1 ms moves Glade to its RC oscillator. -/
  | gladeXtalLoss
  /-- GLADE_XTAL_RETURN (R444): After the crystal has run for 1 s Glade returns to it. -/
  | gladeXtalReturn
  /-- GLADE_SLEEP (R450): Writing 1 to GLD_CTRL.SLEEP completes MRAM writes and drives GLD_PWREN low 10 ms later, or completes with NOT_IN_STATE. -/
  | gladeSleep
  /-- GLADE_WAKE (R451): An enabled wake source drives GLD_PWREN high and records the source. -/
  | gladeWake (src : Nat)
  /-- GLD_CLR_CNT (R436): Writing 1 to GLD_CTRL.CLR_CNT clears the reset counters. -/
  | gldClrCnt
  /-- ENCLOSURE_TAMPER_SAMPLE (R452): Every 31.25 ms Glade samples the enclosure tamper pads and latches an opening. -/
  | enclosureTamperSample (o0 o1 : Bool)
  /-- TEMPERATURE_READ (R453): Every 10 ms the die sensors are read and the temperature band is updated. -/
  | temperatureRead (ts : Vector Int 8)
  /-- CREDIT_RETURN (R458): A consumer removes a queue item and its credit returns to the producer. -/
  | creditReturn (q : Nat)
  /-- TRANSACTION_TIMEOUT (R461): A transaction without completion after 10 ms frees its tag and completes with BUSY. -/
  | transactionTimeout (tag : Fin 128)
  /-- FABRIC_STALL (R462): A producer waiting past its class stall limit is counted and raises the fabric-stall event. -/
  | fabricStall (c : TrafficClass) (q : Nat)
  /-- DATA_ERROR_DETECTED (R463): A consumer detects a parity or CRC error, discards the item and recomputes it from its source. -/
  | dataErrorDetected (e : DataErr)
  /-- SOFTWARE_EVENT (R470): Writing 1 to THK_EVCTRL.SET raises EV63. -/
  | softwareEvent
  /-- SPI_READ (R474): SPI command 0x0B reads words from a device address. -/
  | spiRead (addr count : Nat)
  /-- SPI_WRITE (R474): SPI command 0x02 writes words to a device address. -/
  | spiWrite (addr count : Nat) (ws : List Word)
  /-- SPI_PEER_READ (R306): SPI command 0x4B reads the pair peer's registers through the relay. -/
  | spiPeerRead (addr count : Nat)
  /-- SPI_PEER_WRITE (R306): SPI command 0x42 writes the pair peer's registers through the relay. -/
  | spiPeerWrite (addr count : Nat) (ws : List Word)
  /-- SPI_CRC_REPORT (R488): Writing 1 to HST_SPIERR.CRC counts a host-detected CRC mismatch. -/
  | spiCrcReport
  /-- ESING_CONNECT (R477): A TLS connection to the Esing server is set up and its client certificate judged for a role. -/
  | esingConnect (eth : Fin 2) (cert : EsCert)
  /-- ESING_IDLE_CLOSE (R477): An Esing connection without traffic for 300 s is closed. -/
  | esingIdleClose (k : Fin 2)
  /-- READ (R479): Esing READ returns words from a device address, or the peer's with PEER set. -/
  | read (k : Fin 2) (m : EsHead) (addr count : Nat)
  /-- WRITE (R479): Esing WRITE writes words word by word, stopping at the first failing status. -/
  | write (k : Fin 2) (m : EsHead) (addr count : Nat) (ws : List Word)
  /-- LOG (R480): Esing LOG returns log entries from a sequence number. -/
  | log (k : Fin 2) (m : EsHead) (first count : Nat)
  /-- SUB (R480): Esing SUB sets the connection's event mask for EVENT messages. -/
  | sub (k : Fin 2) (m : EsHead) (mask : Nat)
  /-- SCHEDULE_EVALUATION (R482): Every second the OCPP client evaluates the composite schedules into the station and port limits. -/
  | scheduleEvaluation (t : Nat)
  /-- SET_CHARGING_PROFILE (R482): A received charging profile is evaluated at once, or Rejected. -/
  | setChargingProfile (prof : Profile) (t : Nat)
  /-- REQUEST_START_TRANSACTION (R140): A RequestStartTransaction gives an authorisation held for the port's next request. -/
  | requestStartTransaction (p : Fin 12)
  /-- REQUEST_STOP_TRANSACTION (R143): An OCPP stop request in ENERGY begins STOPPING with end reason HOST. -/
  | requestStopTransaction (tx : Nat)
  /-- CHANGE_AVAILABILITY (R481): ChangeAvailability maps to VPn_CTRL.ENABLE. -/
  | changeAvailability (p : Fin 12) (on : Bool)
  /-- OCPP_RESET (R481): An OCPP Reset maps to RST_CTRL.SYS. -/
  | ocppReset
  /-- OCPP_UNSUPPORTED_CALL (R481): A request of an unsupported block is answered with CALLERROR NotImplemented. -/
  | ocppUnsupportedCall (block : String)
  /-- AUTHORIZE_RESPONSE (R140): The back office answers an authorisation and the port gives or refuses it. -/
  | authorizeResponse (p : Fin 12) (ok : Bool) (token : Nat)
  /-- METER_VALUES_SEND (R483): Every METER_INT the client sends transaction meter values. -/
  | meterValuesSend (p : Fin 12)
  /-- TRANSACTION_ENDED (R483): The client sends TransactionEvent Ended with the Sleeve record when received. -/
  | transactionEnded (p : Fin 12)
  /-- RECORD_WAIT_TIMEOUT (R483): No record 90 s after session end, so Ended is sent without signedMeterValue. -/
  | recordWaitTimeout (p : Fin 12)
  /-- OCPP_LINK_LOST (R484): The WebSocket closes or a CALL draws no answer within 30 s, raising the back-office-link event. -/
  | ocppLinkLost
  /-- OCPP_RECONNECT (R484): The reconnect delay expires and the client reconnects, doubling the delay up to T_RECONN. -/
  | ocppReconnect (h : TlsHello)
  /-- BOOT_ACCEPTED (R484): BootNotification Accepted establishes or restores the link and raises the back-office-link event. -/
  | bootAccepted
  /-- SEAM_LANE_TRAINED (R283): A Seam lane gains symbol lock and finishes training, so the units can exchange STATUS frames and the role choice can proceed. -/
  | seamLaneTrained (k : Fin 2)
  /-- VGLADE_POWER_ON (R436): VGLADE powers on, which clears the Glade reset counters and restarts GLD_SEC before the power-on reset is counted. -/
  | vgladePowerOn
  /-- VBKS_LOSS (R225): VBKS is lost while VSLV is absent, so both Sleeve supplies are gone, the legal clock becomes invalid and the meter counter stops. -/
  | vbksLoss
  deriving DecidableEq, Repr

end Sys2Proof
end

