-- ==== Sys2Proof/Decode.lean ====
section
/-! DEFINITION. The command that a word spells: the rows of the table of operations and events give no bits, so no word
spells a command. -/

namespace Sys2Proof

/-- The command that an instruction word of `nbits` bits spells (spec/opcode_table.json gives no row any bits): none. -/
def decodeTableWord (_nbits _w : Nat) : Option Instr := none

end Sys2Proof
end

