-- ==== Sys2Proof/Machine/Flags.lean ====
section
/-! DEFINITION. What the access kinds of a register field do to a value (spec/00_scope.md R8 to R10): write one to clear, keep
reserved bits zero. -/

namespace Sys2Proof.Machine

/-- Write one to clear: the bits of `old` that are 1 in `w` become 0. -/
def w1c (old w : Nat) : Nat := old - (old &&& w)

/-- Set bit `i` of a mask. -/
def setBit (i m : Nat) : Nat := m ||| 2 ^ i

/-- Clear bit `i` of a mask. -/
def clrBit (i m : Nat) : Nat := m - (m &&& 2 ^ i)

/-- The floor of a rational as a number that is not negative. -/
def floorNat (q : Rat) : Nat := q.floor.toNat

end Sys2Proof.Machine
end

