-- ==== Sys2Proof/Machine/BrambleCore.lean ====
section
/-! DEFINITION. Bramble (spec/12_bramble_site_link.md R333–R359): frames, judging, tone maps, attempts, routes, admission,
fallback path, bindings. -/

namespace Sys2Proof.Machine

/-- A frame on the line (R334, R336): the header of Table 12.1, the payload, its bits per symbol (0 in robust mode), and the attenuation of the
transmit output in dB. -/
structure BrmFrame where
  fch : List Byte
  pay : List Byte := []
  bits : Nat := 0
  atten : Nat := 0
  deriving DecidableEq, Repr

/-- What Bramble puts out or asks of other units. -/
inductive BrmOut where
  /-- A frame that starts at an instant, unless it defers and is put out anew (R343). -/
  | frame (f : BrmFrame) (start : Nat)
  /-- A fallback frame of 80 bits, and TX_LEVEL. -/
  | fb (bits atten : Nat)
  | ev (e : Ev)
  /-- A soft request of kind 7 (R358). -/
  | soft
  /-- The partner of this address is lost or unreachable (R350), or heard again. -/
  | lost (addr : Nat)
  deriving DecidableEq, Repr

/-- Bramble at work. -/
structure BX where
  b : Bramble
  now : Nat
  g : BrmGlobal
  parts : List BrmPartner
  binds : List BrmBind
  epoch : Nat
  own : Nat
  /-- The site key (R346); none: the slot holds none. -/
  key : Option Nat
  /-- A free byte for what a frame leaves open; where the next free values lie, and how many slots have been drawn. -/
  free : Nat
  fresh : Nat := 0
  draws : Nat := 0
  out : List BrmOut := []
  deriving DecidableEq, Repr

/-- Change Bramble. -/
def BX.mod (x : BX) (f : Bramble → Bramble) : BX := { x with b := f x.b }
/-- Put out. -/
def BX.put (x : BX) (o : BrmOut) : BX := { x with out := x.out ++ [o] }
/-- Neighbour `n`. -/
def BX.nb (x : BX) (n : Nat) : BrmNbr := atD x.b.nbr n {}
/-- Change neighbour `n`. -/
def BX.setNb (x : BX) (n : Nat) (f : BrmNbr → BrmNbr) : BX := x.mod (fun b => { b with nbr := updN b.nbr n f })

/-- Send or raise under a condition. -/
def BX.put' (b : Bool) (o : BrmOut) (x : BX) : BX := if b then x.put o else x

/-- newer(x, y) of spec/04_module_bus.md R114. -/
def newer (x y : Nat) : Bool := let d := (x + 65536 - y % 65536) % 65536; decide (1 ≤ d) && decide (d ≤ 32767)

/-! ## Frames -/

/-- MIC (R346): the first 8 bytes of the HMAC over bytes 0 to 15 + BLEN with TX and RX zero. -/
def brmMic (key : Nat) (bs : List Byte) : List Byte :=
  (beBytes 32 (Config.hmac key (bs.take 4 ++ [0, 0] ++ bs.drop 6))).take 8

/-- The first slot of a class's window and the number of its slots (R343). -/
def slotWindow : BrmCls → Nat × Nat
  | .emerg => (0, 2) | .control => (2, 8) | .telemetry => (10, 32)

/-- A station that contends draws a slot of its class (R343): any of them. -/
def BX.slot (cls : BrmCls) (x : BX) : Nat × BX :=
  ((slotWindow cls).1 + Config.freeValue (x.fresh + x.draws) % (slotWindow cls).2, { x with draws := x.draws + 1 })

/-- ZCD of a frame that starts at `start` (Table 12.1, R338): 0xFF while the flywheel is unlocked. -/
def BX.zcd (start : Nat) (x : BX) : Nat :=
  match x.b.zc.lock, x.b.zc.last with
  | true, some t => min ((start - t) % x.b.zc.half / 64) (if x.g.mainsF = 60 then 130 else 156)
  | _, _ => 0xFF

/-- A frame control header (Table 12.1). -/
def fchBytes (ty : Nat) (robo : Bool) (tmid plen zcd ref : Nat) : List Byte :=
  let b := leBytes 1 (put 0 2 ty + putB 2 robo) ++ leBytes 1 tmid ++ leBytes 2 plen ++ leBytes 1 zcd ++ leBytes 1 ref ++ leBytes 1 0
  b ++ leBytes 1 (crc8 b)

/-- The convolutional code of R336: rate 1/2, constraint length 7, generators 0o171 and 0o133, with 6 tail bits. -/
def convBits (bs : List Bool) : List Bool :=
  let parity (n : Nat) : Bool := (bitsOf 7 n).length % 2 == 1
  ((bs ++ List.replicate 6 false).foldl (fun (x : Nat × List Bool) b =>
    let r := b.toNat * 64 + x.1 / 2
    (r, x.2 ++ [parity (r &&& 0o171), parity (r &&& 0o133)])) (0, [])).2

/-- The symbols of a byte string (R336): coded, four times in robust mode, and interleaved with one row per symbol. DESIGN CHOICE (log 127): a
byte's least significant bit comes first, the repetitions follow one another, and the coded bits enter column by column. -/
def brmSymbols (bytes : List Byte) (bits : Nat) : List (List Bool) :=
  let c := convBits (bytes.flatMap (fun b => (List.range 8).map (fun i => b.getLsbD i)))
  let c := if bits = 0 then (List.replicate 4 c).flatten else c
  let w := if bits = 0 then 28 else bits
  let n := (c.length + w - 1) / w
  (List.range n).map (fun k => (List.range w).map (fun j => c.getD (j * n + k) false))

/-- The symbols of a frame after its preamble: the header in robust mode, then the payload. -/
def BrmFrame.symbols (f : BrmFrame) : List (List Bool) := brmSymbols f.fch 0 ++ if f.pay.isEmpty then [] else brmSymbols f.pay f.bits

/-- A payload (Table 12.4). -/
def brmPayload (key ftype : Nat) (cls : BrmCls) (ack : Bool) (route : List Nat) (src dst tx rx sid seq : Nat) (body : List Byte) : List Byte :=
  let routed := !route.isEmpty
  let fl := put 0 2 cls.code + putB 2 ack + putB 3 routed
  let h1 := if routed then route.getD 0 0xFE else 0
  let h2 := if routed then route.getD 1 0xFE else 0xFE
  let b := leBytes 1 ftype ++ leBytes 1 fl ++ leBytes 1 src ++ leBytes 1 dst ++ leBytes 1 tx ++ leBytes 1 rx ++ leBytes 1 h1 ++ leBytes 1 h2
    ++ leBytes 4 sid ++ leBytes 2 seq ++ leBytes 2 body.length ++ body
  let b := b ++ brmMic key b
  b ++ leBytes 4 (crc32c b)

/-- The payload symbols of PLEN bytes (R336): under a tone map of `bits`, or robust. -/
def paySymbols (plen bits : Nat) (robo : Bool) : Nat :=
  let n := 2 * (8 * plen + 6)
  if robo then (4 * n + 27) / 28 else (n + bits - 1) / bits

/-- Duration of a DATA frame in µs (R336): preamble and FCH, then the payload's symbols. -/
def brmDur (plen bits : Nat) (robo : Bool) : Nat :=
  16128 + 576 * paySymbols plen bits robo

/-- Bits per symbol of a tone map (R335). -/
def toneBits (m : List Nat) : Nat := sumN m

/-- The tone map used towards a neighbour: none, robust mode (R335, R342). -/
def BrmNbr.map (n : BrmNbr) : Option (List Nat × Nat) := n.tx.filter (fun m => 14 ≤ toneBits m.1)

/-- The loading that an SNR in dB gives (R341). -/
def snrLoad (margin : Nat) (snr : Int) : Nat :=
  if (17 + margin : Int) ≤ snr then 3 else if (11 + margin : Int) ≤ snr then 2 else if (5 + margin : Int) ≤ snr then 1 else 0

/-! ## Costs and routes (R352, R353) -/

/-- Cost of the direct link to neighbour `n` (R352). -/
def linkCost (x : BX) (n : Nat) : Nat :=
  let b := x.nb n
  match b.linkAt with
  | none => 0xFFFF
  | some t => if t + x.g.lostN * x.g.bcnP * 1000000 ≤ x.now then 0xFFFF else
    match b.map with
    | some m => (5376 + toneBits m.1 - 1) / toneBits m.1
    | none => 768

/-- Neighbour entry of a short address. -/
def nbrOf (short : Nat) : Nat := short - 1
/-- Short address of a neighbour entry. -/
def shortOf (n : Nat) : Nat := n + 1

/-- The cost of the link from a partner to a short address, as its beacon advertises it. -/
def advCost (x : BX) (n short : Nat) : Nat := (((x.nb n).links.find? (fun l => l.1 == short)).map (·.2)).getD 0xFFFF

/-- The routes of at most 3 hops to neighbour `d` whose first hop is not `avoid`: cost and repeaters (short addresses). -/
def routesTo (x : BX) (d : Nat) (avoid : Option Nat) : List (Nat × List Nat) :=
  let live (n : Nat) : Bool := ((x.nb n).st == .admitted || (x.nb n).st == .unreachable) && decide (n ≠ d)
  let ns := (List.range 64).filter live
  let first := ns.filter (fun n => avoid ≠ some (shortOf n) && linkCost x n < 0xFFFF)
  let two := first.filterMap (fun r => let c := advCost x r (shortOf d); if c < 0xFFFF then some (linkCost x r + c, [shortOf r]) else none)
  let three := first.flatMap (fun r => ns.filterMap (fun q =>
    let a := advCost x r (shortOf q); let b := advCost x q (shortOf d)
    if q ≠ r ∧ a < 0xFFFF ∧ b < 0xFFFF then some (linkCost x r + a + b, [shortOf r, shortOf q]) else none))
  two ++ three

/-- The cheapest of a list of routes. -/
def cheapest (rs : List (Nat × List Nat)) : Option (Nat × List Nat) :=
  rs.foldl (fun (b : Option (Nat × List Nat)) r => match b with | none => some r | some m => if r.1 < m.1 then some r else b) none

/-- The first route of a CONTROL frame (R353): the direct link unless a routed path costs at least 25 % less. -/
def firstRoute (x : BX) (d : Nat) : List Nat :=
  let direct := linkCost x d
  match cheapest (routesTo x d none) with
  | some (c, r) => if direct = 0xFFFF ∨ c * 4 ≤ direct * 3 then r else []
  | none => []

/-- The second route: the cheapest that avoids the first hop of the first (R353). -/
def secondRoute (x : BX) (d : Nat) (r1 : List Nat) : List Nat :=
  let hop := r1.getD 0 (shortOf d)
  let direct : List (Nat × List Nat) := if hop = shortOf d ∨ linkCost x d = 0xFFFF then [] else [(linkCost x d, [])]
  match cheapest (direct ++ routesTo x d (some hop)) with
  | some (_, r) => r
  | none => r1

/-! ## Sending unicast frames (R342, R344) -/

/-- Attempts that Table 12.2 gives a class. -/
def maxTries : BrmCls → Nat
  | .emerg => 10 | .control => 5 | .telemetry => 2

/-- A DATA frame contends for the medium (R343): AIFS after the last frame and the answer to it comes the slot drawn. Its start and its
duration. The answer that it asks for keeps the medium too. -/
def brmContend (cls : BrmCls) (pay : List Byte) (map : Option (List Nat × Nat)) (ack : Bool) (x : BX) : Nat × Nat × BX :=
  let (slot, x) := x.slot cls
  let start := max x.now x.b.idleAt + 1152 + 576 * slot
  let bits := (map.map (fun m => toneBits m.1)).getD 0
  let dur := brmDur pay.length bits map.isNone
  let f : BrmFrame := { fch := fchBytes 0 map.isNone ((map.map (·.2)).getD 0) pay.length (x.zcd start) 0,
                        pay := pay, bits := bits, atten := x.g.txLevel }
  (start, dur, (x.mod (fun b => { b with idleAt := start + dur + if ack then 1152 + 16128 else 0 })).put (.frame f start))

/-- An answer to a frame that has just ended, AIFS later (R343): type 1 ACK, 2 NACK. -/
def brmReply (ty ref : Nat) (x : BX) : BX :=
  let start := x.now + 1152
  (x.mod (fun b => { b with idleAt := max b.idleAt (start + 16128) })).put
    (.frame { fch := fchBytes ty false 0 0 (x.zcd start) ref, atten := x.g.txLevel } start)

/-- A frame that contends begins again with another slot. -/
def brmAgain (f : BrmTx) (ack : Bool) (x : BX) : BrmTx × BX :=
  let (start, dur, x) := brmContend f.cls f.sent f.tm ack x
  ({ f with sentAt := start, dur := dur }, x)

/-- A preamble has begun at `p` (R343): every frame of this station that had not started defers and draws again. -/
def brmDefer (p : Nat) (x : BX) : BX :=
  let late (f : BrmTx) : Bool := decide (p < f.sentAt)
  let ns := sortBy (fun n => (((x.nb n).cur.map (·.sentAt)).getD 0)) ((List.range 65).filter (fun n => (x.nb n).cur.any late))
  let x := ns.foldl (fun x n => match (x.nb n).cur with
    | some f => let (f, x) := brmAgain f true x; x.setNb n (fun b => { b with cur := some f })
    | none => x) x
  match x.b.bcast.filter late with
  | some f => let (f, x) := brmAgain f false x; x.mod (fun b => { b with bcast := some f })
  | none => x

/-- Send one attempt of `f` to neighbour `n`. -/
def brmAttempt (n : Nat) (f : BrmTx) (x : BX) : BX :=
  match x.key with
  | none => x.put (.ev .keyMissing)
  | some key =>
    let r1 := if f.tries = 0 then (if f.cls = .control ∧ f.ftype ≠ 0x03 then firstRoute x n else []) else f.route
    let route := if f.cls = .control ∧ f.tries = 3 ∧ f.ftype ≠ 0x03 then secondRoute x n r1 else r1
    let hop := route.getD 0 (shortOf n)
    let nb := x.nb n
    let map := if f.cls ≠ .emerg ∧ f.tries = 0 ∧ f.ftype ≠ 0x03 ∧ f.ftype ≠ 0x04 then (x.nb (nbrOf hop)).map else none
    -- a JOIN_ACK goes straight to a partner that has no short address yet (R346)
    let bs := if f.ftype = 0x03 then brmPayload key 0x03 f.cls true [] 0 0xFD 0 0xFD nb.sid f.seq f.body
      else brmPayload key f.ftype f.cls true route 0 (shortOf n) 0 hop nb.sid f.seq f.body
    let (start, dur, x) := brmContend f.cls bs map true x
    let f := { f with tries := f.tries + 1, route := route, sent := bs, tm := map, sentAt := start, dur := dur }
    x.setNb n (fun b => { b with cur := some f })

/-- Send the next waiting frame of neighbour `n`, unless one is in flight or a refresh holds it (R342). -/
def brmNext (n : Nat) (x : BX) : BX :=
  let nb := x.nb n
  if nb.cur.isSome then x else
  match nb.queue.find? (fun f => f.cls = .emerg || !nb.pend || f.ftype == 0x04) with
  | none => x
  | some f => brmAttempt n f (x.setNb n (fun b => { b with queue := b.queue.erase f }))

/-- Queue a unicast frame to neighbour `n`; a newer SET replaces a queued one of its binding that has not been sent (R359). -/
def brmSend (n ftype : Nat) (cls : BrmCls) (bind : Option Nat) (body : List Byte) (x : BX) : BX :=
  let nb := x.nb n
  let f : BrmTx := { ftype := ftype, cls := cls, body := body, seq := nb.txSeq, bind := bind }
  let q := if bind.isSome then nb.queue.filter (fun g => g.bind ≠ bind ∨ 0 < g.tries) else nb.queue
  brmNext n (x.setNb n (fun b => { b with queue := q ++ [f], txSeq := (b.txSeq + 1) % 65536 }))

/-- A partner is lost (R350). -/
def brmLost (n : Nat) (x : BX) : BX :=
  let nb := x.nb n
  if nb.st = .admitted ∨ nb.st = .unreachable then
    let x := ((x.setNb n (fun b => { b with st := .lost, queue := [], cur := none, pend := false })).put (.ev .bramblePartnerLost)).put (.lost nb.addr)
    if x.g.estopLoss ∧ nb.kind = 2 then x.put .soft else x
  else x

/-- A frame has failed every attempt (R344, R350). -/
def brmFailed (n : Nat) (f : BrmTx) (x : BX) : BX :=
  let x := x.setNb n (fun b => { b with cur := none })
  let x := match f.cls with
    | .telemetry => x.mod (fun b => { b with eDrop := satInc 8 b.eDrop })
    | .control => if (x.nb n).st = .admitted then (x.setNb n (fun b => { b with st := .unreachable })).put (.lost (x.nb n).addr) else x
    | .emerg => x
  brmNext n x

/-- The attempt in flight to neighbour `n` has failed; `err`: it counts as a frame error (R342, R344). While a refresh is pending the retry waits
at the head of the queue, unless the frame is EMERG or the TMREQ itself. -/
def brmFail (n : Nat) (err : Bool) (x : BX) : BX :=
  match (x.nb n).cur with
  | none => x
  | some f =>
    let hop := nbrOf (f.route.getD 0 (shortOf n))
    let x := if err then x.setNb hop (fun b => { b with errs := satInc 8 b.errs }) else x
    if maxTries f.cls ≤ f.tries then brmFailed n f x
    else if (x.nb n).pend ∧ f.cls ≠ .emerg ∧ f.ftype ≠ 0x04 then brmNext n (x.setNb n (fun b => { b with cur := none, queue := f :: b.queue }))
    else brmAttempt n f x

/-- A frame of neighbour `n` has been heard (R350). -/
def brmHeard (n : Nat) (x : BX) : BX :=
  x.setNb n (fun b => { b with heardAt := some x.now, st := if b.st = .unreachable then .admitted else b.st })

/-- Neighbour `n` has been heard on the direct link (R350, R352). -/
def brmNear (n : Nat) (x : BX) : BX := (brmHeard n x).setNb n (fun b => { b with linkAt := some x.now })

/-- A payload with the addresses SRC and TX has been heard. -/
def brmHear (src tx : Nat) (x : BX) : BX :=
  let at_ (a : Nat) (f : Nat → BX → BX) (x : BX) : BX := if 1 ≤ a ∧ a ≤ 0x40 ∧ (x.nb (nbrOf a)).st ≠ .empty then f (nbrOf a) x else x
  at_ tx brmNear (at_ src brmHeard x)

/-- An ACK with REF `ref` (R344). -/
def brmAck (n ref : Nat) (x : BX) : BX :=
  match (x.nb n).cur with
  | none => x
  | some f =>
    if crc32c (f.sent.take (f.sent.length - 4)) % 256 = ref then
      let hop := nbrOf (f.route.getD 0 (shortOf n))
      brmNext n ((brmNear hop (x.setNb hop (fun b => { b with errs := 0 }))).setNb n (fun b => { b with cur := none }))
    else x

/-- A NACK with REF `ref`, bit 7 NOISE (R344, R345). -/
def brmNack (n ref : Nat) (x : BX) : BX :=
  match (x.nb n).cur with
  | none => x
  | some f =>
    if crc32c (f.sent.take (f.sent.length - 4)) % 128 = ref % 128 then
      let noise := bitOf 7 ref
      let x := if noise then x.mod (fun b => { b with eNoise := satInc 8 b.eNoise }) else x
      brmFail n (!noise) (brmNear (nbrOf (f.route.getD 0 (shortOf n))) x)
    else x

/-- The frame in flight has drawn no answer: AIFS and a preamble after its end (R343, R344). -/
def brmAckTimeout (n : Nat) (x : BX) : BX :=
  match (x.nb n).cur with
  | none => x
  | some f => if f.sentAt + f.dur + 1152 + 4608 ≤ x.now then brmFail n true x else x

/-! ## Receiving -/

/-- The body lengths of Table 12.5. -/
def brmLenOk (ftype blen : Nat) (body : List Byte) : Bool :=
  match ftype with
  | 0x01 => 13 ≤ blen && leAt body 12 1 * 3 + 13 == blen && leAt body 12 1 ≤ 8
  | 0x02 => blen == 12 | 0x03 => blen == 16 | 0x04 => blen == 0 | 0x05 => blen == 8 | 0x10 => blen == 8
  | 0x11 => 2 ≤ blen && leAt body 0 1 * 6 + 2 == blen && 1 ≤ leAt body 0 1 && leAt body 0 1 ≤ 16
  | 0x12 => blen == 4 | 0x13 => blen == 0
  | _ => true

/-- The known frame types. -/
def brmKnown (ftype : Nat) : Bool := [0x01, 0x02, 0x03, 0x04, 0x05, 0x10, 0x11, 0x12, 0x13].contains ftype

/-- An accepted payload: source short address, neighbour entry (none for 0xFD), body. -/
structure BrmIn where
  src : Nat
  nbr : Option Nat
  body : List Byte
  deriving DecidableEq, Repr

/-- A station not yet admitted, or an address in range (R346). -/
def brmAddrOk (a : Nat) : Bool := !(decide (0x41 ≤ a) && decide (a ≤ 0xFC))

/-- The reserved bytes of a body are zero (Table 12.5). -/
def brmReserved (ftype : Nat) (body : List Byte) : Bool :=
  match ftype with
  | 0x10 | 0x11 => leAt body 1 1 == 0
  | 0x12 => leAt body 2 2 == 0
  | _ => true

/-- An emergency-stop station's address (R358). -/
def brmStation (addr : Nat) (x : BX) : Bool :=
  x.parts.any (fun p => p.addr == some addr && p.kind == 2) || x.b.nbr.toList.any (fun n => n.st ≠ .empty && n.addr == addr && n.kind == 2)

/-- The emergency-stop station that an ESTOP with source `n` comes from (R358). DESIGN CHOICE (log 127): the frame of a station without a short
address names none, and is taken for that of a record of kind 2 whose station is not admitted. -/
def brmStop (n : Option Nat) (x : BX) : Option Nat :=
  match n with
  | some k => if (x.nb k).st ≠ .empty ∧ brmStation (x.nb k).addr x then some (x.nb k).addr else none
  | none =>
    let here (a : Nat) : Bool := x.b.nbr.toList.any (fun b => (b.st == .admitted || b.st == .unreachable) && b.addr == a)
    (x.parts.filterMap (fun p => if p.kind = 2 then p.addr else none)).find? (fun a => !here a)

/-- A payload is judged (Table 12.6): none, refused, ignored or a repetition. An ESTOP of a station that is not admitted is accepted
(R358). -/
def brmJudge (bs : List Byte) (x : BX) : BX × Option BrmIn :=
  let plen := bs.length
  let blen := leAt bs 14 2
  let ft := leAt bs 0 1
  let fl := leAt bs 1 1
  let body := (bs.drop 16).take blen
  let bad (x : BX) : BX × Option BrmIn := (x.mod (fun b => { b with eBad := satInc 8 b.eBad }), none)
  if plen < 28 ∨ leAt bs (plen - 4) 4 ≠ crc32c (bs.take (plen - 4)) then (x.mod (fun b => { b with eCrc := satInc 8 b.eCrc }), none)
  else if 252 < plen ∨ blen ≠ plen - 28 ∨ !brmLenOk ft blen body then bad x
  else if !brmKnown ft ∨ !brmReserved ft body ∨ 16 ≤ fl ∨ fl % 4 = 3
      ∨ ((bs.drop 2).take (if bitOf 3 fl then 6 else 4)).any (fun a => !brmAddrOk a.toNat) then bad x
  else if (match x.key with | some k => decide (((bs.drop (16 + blen)).take 8) ≠ brmMic k (bs.take (16 + blen))) | none => true) then
    ((x.mod (fun b => { b with eAuth := satInc 8 b.eAuth })).put' x.key.isNone (.ev .keyMissing), none)
  else
    let rx := leAt bs 5 1
    if rx ≠ 0 ∧ rx ≠ 0xFF then (x, none)
    else
      let src := leAt bs 2 1
      let n := if 1 ≤ src ∧ src ≤ 0x40 then some (nbrOf src) else none
      let sid := leAt bs 8 4
      let seq := leAt bs 12 2
      let ackFor (x : BX) : BX := brmHear src (leAt bs 4 1) (if bitOf 2 fl then brmReply 1 (leAt bs (plen - 4) 1) x else x)
      let got : BrmIn := { src := src, nbr := n, body := body }
      let late : BX × Option BrmIn := (x.mod (fun b => { b with eLate := satInc 8 b.eLate }), none)
      let current := match n with | some k => (x.nb k).st != .empty && (x.nb k).sid == sid | none => false
      let bySeq (last : Option Nat) (keep : BX → BX) : BX × Option BrmIn :=
        if last = some seq then (ackFor x, none)
        else if last.any (fun q => !newer seq q) then late
        else (ackFor (keep x), some got)
      if ft = 0x02 then
        let addr := leAt body 0 6
        bySeq ((x.b.joins.find? (fun j => j.1 == addr)).map (·.2))
          (fun x => x.mod (fun b => { b with joins := (addr, seq) :: b.joins.filter (fun j => j.1 ≠ addr) }))
      else if ft ≠ 0x01 ∧ !current then
        if ft = 0x12 ∧ (brmStop n x).isSome then (ackFor x, some got) else late
      else match n with
        | none => (ackFor x, some got)
        | some k => bySeq (x.nb k).rxSeq (fun x => x.setNb k (fun b => { b with rxSeq := some seq }))

/-- A mains phase from a sender's ZCD and the own delay (R339): 0, 1 (120°) or 2 (240°). -/
def zcPhase (half : Nat) (own : Int) (zcd : Nat) : Nat :=
  let d := (own - (zcd * 64 : Int)) % (half : Int)
  let k := (d * 3 + half / 2) / half
  if k = 1 then 2 else if k = 2 then 1 else 0

/-- The sum of the squares of samples. -/
def squares (xs : List Int) : Nat := sumN (xs.map (fun x => x.natAbs ^ 2))

/-- Sample `i` of a stream is set to zero before the transform (R340): above `thr` times the RMS of the 1,024 samples before it. -/
def blanked (thr : Nat) (xs : List Int) (i : Nat) : Bool :=
  decide (thr ^ 2 * squares ((xs.drop (i - 1024)).take 1024) < 1024 * (xs.getD i 0).natAbs ^ 2)

/-- Payload symbol `k` of a stream that starts 1,024 samples before the payload is erased (R333, R340): a guard of 16 samples, then 128
samples of which more than 32 are blanked. -/
def symErased (thr : Nat) (xs : List Int) (k : Nat) : Bool :=
  decide (32 < ((List.range 128).filter (fun j => blanked thr xs (1024 + 144 * k + 16 + j))).length)

/-- A frame control header is received (R337, R339 to R341, R343, R345, R350, R352): its 8 bytes, the neighbour it comes from, for how long in-band
energy goes on after it in µs, and for a DATA frame the payload as decoded and the samples of the receiver, from 1,024 before the payload to
its end. Other stations defer for the answer that a frame asks for, or may ask for where its payload fails. -/
def fchReceive (fch : List Byte) (nbr : Option Nat) (energy : Nat) (pay : List Byte) (xs : List Int) (x : BX) : BX :=
  let ft := leAt fch 0 1
  let ty := ft % 4
  let robo := bitOf 2 ft
  let tm := leAt fch 1 1
  let plen := leAt fch 2 2
  let zcd := leAt fch 4 1
  let zmax := if x.g.mainsF = 60 then 130 else 156
  let form := fch.length = 8 ∧ crc8 (fch.take 7) = leAt fch 7 1 ∧ ft < 8 ∧ ty ≠ 3 ∧ tm < 16 ∧ (robo → tm = 0)
    ∧ (if ty = 0 then 28 ≤ plen ∧ plen ≤ 252 else plen = 0) ∧ (zcd ≤ zmax ∨ zcd = 0xFF) ∧ (ty = 0 → leAt fch 5 1 = 0) ∧ leAt fch 6 1 = 0
  let crcOk := decide (4 ≤ pay.length) && leAt pay (pay.length - 4) 4 == crc32c (pay.take (pay.length - 4))
  let asks := decide (form) && ty == 0 && (!crcOk || bitOf 2 (leAt pay 1 1))
  let x := brmDefer (x.now - 16128) (x.mod (fun b => { b with idleAt := x.now + energy + if asks then 1152 + 16128 else 0 }))
  if ¬ form then x
  else
    let x := match nbr with
      | some n => if (x.nb n).st = NbrSt.empty then x else brmNear n x
      | none => x
    let x := match nbr, x.b.zc.last with
      | some n, some t => if zcd ≠ 0xFF ∧ x.b.zc.lock then
          x.setNb n (fun b => { b with phase := zcPhase x.b.zc.half ((x.now : Int) - 16128 - t) zcd }) else x
      | _, _ => x
    if ty ≠ 0 then x
    else if !robo && (match nbr with | some n => !((x.nb n).rx.any (fun m => m.2 == tm)) | none => true) then
      x.mod (fun b => { b with eTm := satInc 8 b.eTm })
    else if !crcOk then
      let x := x.mod (fun b => { b with eCrc := satInc 8 b.eCrc })
      let maps := match nbr with
        | some n => (x.nb n).rx
        | none => []
      let bits := ((maps.find? (fun m => m.2 == tm)).map (fun m => toneBits m.1)).getD 0
      let total := paySymbols plen bits robo
      let erased := ((List.range total).filter (symErased x.g.blankThr xs)).length
      if leAt pay 5 1 = 0 ∧ total ≠ 0 ∧ total ≤ erased * 4 then
        brmReply 2 (leAt pay (pay.length - 4) 1 % 128 + 128) (x.mod (fun b => { b with eNoise := satInc 8 b.eNoise }))
      else x
    else x

/-- A BEACON (R349, R352, R354). -/
def brmBeacon (bs : List Byte) (x : BX) : BX :=
  let (x, i) := brmJudge bs x
  match i with
  | some ⟨_, some n, d⟩ =>
    if (x.nb n).st = .admitted ∨ (x.nb n).st = .unreachable then
      let k := leAt d 12 1
      let links := (List.range k).map (fun j => (leAt d (13 + 3 * j) 1, leAt d (14 + 3 * j) 2))
      x.setNb n (fun b => { b with rcost := leAt d 9 2, parent := leAt d 11 1, links := links })
    else x
  | _ => x

/-- What the image says of an address and kind (R20, R349): 0 admitted, 1 not in image, 2 count. -/
def brmAdmit (addr kind : Nat) (x : BX) : Nat :=
  let here (n : BrmNbr) : Bool := n.st == .admitted || n.st == .unreachable
  let others := x.b.nbr.toList.filter (fun n => here n && n.addr ≠ addr)
  match x.parts.find? (fun p => p.addr == some addr) with
  | some p => if p.kind = kind then (if others.length < 64 then 0 else 2) else 1
  | none =>
    match x.parts.find? (fun p => p.addr.isNone && p.kind == kind) with
    | some p =>
      let wild := others.filter (fun n => n.kind == kind && !(x.parts.any (fun q => q.addr == some n.addr)))
      if wild.length < p.count ∧ others.length < 64 then 0 else 2
    | none => 1

/-- The entry that an address gets (R349): its former one, else the lowest that is empty, else the lowest lost one. -/
def brmEntry (addr : Nat) (x : BX) : Option Nat :=
  match (List.range 64).find? (fun n => (x.nb n).st ≠ .empty && (x.nb n).addr == addr) with
  | some n => some n
  | none =>
    match (List.range 64).find? (fun n => (x.nb n).st == .empty) with
    | some n => some n
    | none => (List.range 64).find? (fun n => (x.nb n).st == .lost)

/-- The partner of an address, as it keeps itself. -/
def setRemote (addr : Nat) (f : BrmRemote → BrmRemote) (d : BrmRemote) (b : Bramble) : Bramble :=
  if b.remote.any (fun r => r.addr == addr) then { b with remote := b.remote.map (fun r => if r.addr = addr then f r else r) }
  else { b with remote := b.remote ++ [f d] }

/-- A JOIN (R348, R349): the JOIN_ACK goes out under Table 12.2, one that refuses in the name of entry 64. -/
def brmJoin (bs : List Byte) (x : BX) : BX :=
  let (x, i) := brmJudge bs x
  match i with
  | none => x
  | some ⟨_, _, d⟩ =>
    if leAt bs 0 1 ≠ 0x02 then x else
    let addr := leAt d 0 6
    let kind := leAt d 6 1
    let nonce := leAt d 7 4
    let x := x.mod (setRemote addr (fun r => { r with nonce := nonce }) { addr := addr, kind := kind })
    let res := if leAt d 11 1 ≠ 1 then 3 else if brmAdmit addr kind x ≠ 0 then brmAdmit addr kind x
      else if 0xFFFF ≤ x.b.admNo then 4 else 0
    let body (short sid : Nat) : List Byte := leBytes 6 addr ++ leBytes 4 nonce ++ leBytes 1 res ++ leBytes 1 short ++ leBytes 4 sid
    let refuse (x : BX) : BX := brmSend 64 0x03 .control none (body 0xFE 0) x
    if res ≠ 0 then refuse (if res = 2 then x.put (.ev .partnerRefused) else x)
    else match brmEntry addr x with
      | none => refuse (x.put (.ev .partnerRefused))
      | some n =>
        let no := x.b.admNo + 1
        let sid := (x.epoch % 65536) * 65536 + no
        let x := x.mod (fun b => { b with admNo := no, fbOnly := b.fbOnly.filter (· ≠ addr) })
        let x := x.setNb n (fun b => {
          addr := addr, kind := kind, st := .admitted, phase := b.phase, sid := sid, heardAt := some x.now, linkAt := b.linkAt, tmrAt := x.now })
        brmSend n 0x03 .control none (body (shortOf n) sid) (x.put (.ev .partnerAdmitted))

/-- A JOIN_ACK reaches the partner it names (R348). -/
def brmJoinAck (bs : List Byte) (x : BX) : BX :=
  let d := (bs.drop 16).take 16
  if bs.length ≠ 44 ∨ leAt bs 0 1 ≠ 0x03 then x else
  x.mod (fun b => { b with remote := b.remote.map (fun r =>
    if r.addr = leAt d 0 6 ∧ r.nonce = leAt d 6 4 ∧ leAt d 10 1 = 0 then { r with short := leAt d 11 1, sid := some (leAt d 12 4), seq := none }
    else r) })

/-- A TMREQ (R341): the receiver measures `snr` dB on each carrier and answers with a new map. -/
def brmTmreq (bs : List Byte) (snr : List Int) (x : BX) : BX :=
  let (x, i) := brmJudge bs x
  match i with
  | some ⟨_, some n, _⟩ =>
    let m := (List.range 28).map (fun k => snrLoad x.g.tmMargin (snr.getD k (-1000)))
    let id := match (x.nb n).rx with | (_, t) :: _ => (t + 1) % 16 | [] => 0
    let x := x.setNb n (fun b => { b with rx := ((m, id) :: b.rx).take 2 })
    let bits := sumN ((List.range 28).map (fun k => put (2 * k) 2 (m.getD k 0)))
    brmSend n 0x05 .control none (leBytes 1 id ++ leBytes 7 bits) x
  | _ => x

/-- A TMR (R341, R342). -/
def brmTmr (bs : List Byte) (x : BX) : BX :=
  let (x, i) := brmJudge bs x
  match i with
  | some ⟨_, some n, d⟩ =>
    let m := (List.range 28).map (fun k => field (2 * k) 2 (leAt d 1 7))
    brmNext n (x.setNb n (fun b =>
      { b with tx := some (m, leAt d 0 1 % 16), pend := false, tmrAt := x.now, errs := 0, retryAt := none }))
  | _ => x

/-- A SET reaches the partner it is for (R348, R359): its channel takes the value. -/
def brmSet (bs : List Byte) (x : BX) : BX :=
  let d := (bs.drop 16).take 8
  if bs.length ≠ 36 ∨ leAt bs 0 1 ≠ 0x10 then x else
  x.mod (fun b => { b with remote := b.remote.map (fun r =>
    if r.short == leAt bs 3 1 && r.sid == some (leAt bs 8 4) && (match r.seq with | some q => newer (leAt bs 12 2) q | none => true) then
      { r with seq := some (leAt bs 12 2),
               chans := insertBy (·.1) (leAt d 0 1, leAt d 4 4, leAt d 2 2, x.now) (r.chans.filter (fun c => c.1 ≠ leAt d 0 1)) }
    else r) })

/-- VALUES (R359). -/
def brmValues (bs : List Byte) (x : BX) : BX :=
  let (x, i) := brmJudge bs x
  match i with
  | some ⟨_, some n, d⟩ =>
    let addr := (x.nb n).addr
    (List.range (leAt d 0 1)).foldl (fun x j =>
      let o := 2 + 6 * j
      if leAt d (o + 1) 1 ≠ 0 then x else
      x.binds.foldl (fun x r =>
        if !r.cmd && r.addr == addr && r.chan == leAt d o 1 then
          x.mod (fun b => { b with bind := updN b.bind r.bind (fun _ => { val := leAt d (o + 2) 4, at_ := some x.now, stale := false }) })
        else x) x) x
  | _ => x

/-- An accepted press (R358). -/
def brmPress (addr : Nat) (pressed : Bool) (x : BX) : BX :=
  if pressed && brmStation addr x then (x.put .soft).put (.ev .brambleEstop) else x

/-- ESTOP on the OFDM path (R358), of a station that is admitted or not. -/
def brmEstop (bs : List Byte) (x : BX) : BX :=
  let (x, i) := brmJudge bs x
  match i with
  | some ⟨_, n, d⟩ => match brmStop n x with
    | some addr => brmPress addr (leAt d 1 1 == 1) x
    | none => x
  | none => x

/-- LEAVE (R350). -/
def brmLeave (bs : List Byte) (x : BX) : BX :=
  let (x, i) := brmJudge bs x
  match i with
  | some ⟨_, some n, _⟩ => brmLost n x
  | _ => x

/-! ## Zero crossings, refresh, beacons -/

/-- A crossing on BRM_ZC (R338). One that is ignored leaves the last crossing where it was, so that the predictions go on from it. -/
def zeroCrossing (x : BX) : BX :=
  x.mod (fun b =>
    let z := b.zc
    let nom := 500000 / x.g.mainsF
    match z.last with
    | none => { b with zc := { z with last := some x.now, half := nom, ign := 0 } }
    | some t =>
      if z.lock then
        let k := max 1 ((x.now - t + z.half / 2) / z.half)
        let pred := t + k * z.half
        let err := if pred ≤ x.now then x.now - pred else pred - x.now
        if err ≤ 500 then { b with zc := { z with last := some x.now, half := (x.now - t) / k, ign := 0 } }
        else if 9 ≤ z.ign then { b with zc := { lock := false, last := some x.now, half := nom, ign := 0 } }
        else { b with zc := { z with ign := z.ign + 1 } }
      else
        let h := x.now - t
        if nom * 95 ≤ h * 100 ∧ h * 100 ≤ nom * 105 then { b with zc := { lock := true, last := some x.now, half := h, ign := 0 } }
        else { b with zc := { z with last := some x.now } })

/-- A refresh starts: TMREQ is queued and unicast frames are held (R342). -/
def refreshStart (n : Nat) (x : BX) : BX :=
  let x := x.setNb n (fun b => { b with pend := true, pendAt := x.now, retryAt := none })
  brmSend n 0x04 .control none [] x

/-- A refresh is due (R342). -/
def refreshDue (n : Nat) (x : BX) : Bool :=
  let b := x.nb n
  (b.st == .admitted || b.st == .unreachable) && !b.pend
    && (decide (3 ≤ b.errs) || decide (b.tmrAt + 120000000 ≤ x.now) || (match b.retryAt with | some t => decide (t ≤ x.now) | none => false))
    && (match b.retryAt with | some t => decide (t ≤ x.now) | none => true)

/-- No TMR within 400 ms (R342). -/
def tmrTimeout (n : Nat) (x : BX) : BX :=
  let b := x.nb n
  if b.pend ∧ b.pendAt + 400000 ≤ x.now then
    brmNext n (x.setNb n (fun b => { b with pend := false, tx := none, retryAt := some (x.now + 10000000) }))
  else x

/-- A robust BEACON (R349, R352): address, kind, epoch, cost 0, no parent, up to 8 neighbours. -/
def beaconSend (x : BX) : BX :=
  match x.key with
  | none => x.put (.ev .keyMissing)
  | some k =>
    let ns := ((List.range 64).filter (fun n => (x.nb n).st == .admitted || (x.nb n).st == .unreachable)).take 8
    let body := leBytes 6 x.own ++ leBytes 1 x.free ++ leBytes 2 x.epoch ++ leBytes 2 0 ++ leBytes 1 0xFE ++ leBytes 1 ns.length
      ++ ns.flatMap (fun n => leBytes 1 (shortOf n) ++ leBytes 2 (linkCost x n))
    let pay := brmPayload k 0x01 .telemetry false [] 0 0xFF 0 0xFF 0 x.b.bcnSeq body
    let (start, dur, x) := brmContend .telemetry pay none false x
    x.mod (fun b => { b with
      bcnSeq := (b.bcnSeq + 1) % 65536, bcast := some { ftype := 0x01, cls := .telemetry, body := body, seq := b.bcnSeq, sent := pay,
                                                        sentAt := start, dur := dur } })

/-- Nothing has been heard for LOST_N × BCN_P (R350). -/
def brmLostTimeout (n : Nat) (x : BX) : BX :=
  match (x.nb n).heardAt with
  | some t => if t + x.g.lostN * x.g.bcnP * 1000000 ≤ x.now then brmLost n x else x
  | none => x

/-! ## Fallback path (R355–R358) -/

/-- The 60 bits over which the fallback CRC runs, most significant first. -/
def fbCrc (ty addr arg : Nat) : Nat :=
  let v := put 56 4 ty + put 8 48 addr + put 0 8 arg
  crcBits crc8Kind ((List.range 60).map (fun i => bitOf (59 - i) v))

/-- A fallback frame (Table 12.7). -/
def fbFrame (ty addr arg : Nat) : Nat := put 68 12 0xE25 + put 64 4 ty + put 16 48 addr + put 8 8 arg + put 0 8 (fbCrc ty addr arg)

/-- A fallback frame is received (R356), from the 80 bits that stand in the bit windows of the phases 0°, 120° and 240°: it is that of the phase
with SYNC, the one of the lock before the others. None when it is discarded. -/
def fbReceive (vs : List Nat) (x : BX) : BX × Option (Nat × Nat × Nat) :=
  match (x.b.fbPhase :: List.range 3).find? (fun k => field 68 12 (vs.getD k 0) == 0xE25) with
  | none => (x, none)
  | some ph =>
  if !x.g.fbEn ∨ !x.b.zc.lock then (x, none)
  else
    let v := vs.getD ph 0
    let x := x.mod (fun b => { b with fbPhase := ph })
    let ty := field 64 4 v
    let addr := field 16 48 v
    let arg := field 8 8 v
    if field 0 8 v ≠ fbCrc ty addr arg ∨ ty = 0 ∨ 4 < ty then (x.mod (fun b => { b with fbBad := satInc 8 b.fbBad }), none)
    else (x.mod (fun b => { b with fbRx := satInc 8 b.fbRx }), some (ty, addr, arg))

/-- PULSE_BEACON (R357). -/
def pulseBeacon (v : List Nat) (x : BX) : BX :=
  match fbReceive v x with
  | (x, some (1, addr, kind)) =>
    if brmAdmit addr kind x = 0 then
      let joined := x.b.nbr.toList.any (fun n => n.st == .admitted && n.addr == addr)
      let x := if joined then x else x.mod (fun b => { b with fbOnly := addSet addr b.fbOnly })
      x.put (.fb (fbFrame 4 addr 0) x.g.txLevel)
    else x
  | (x, _) => x

/-- ESTOP on the fallback path (R358). -/
def fallbackEstop (v : List Nat) (x : BX) : BX :=
  match fbReceive v x with
  | (x, some (2, addr, arg)) => brmPress addr (bitOf 0 arg) x
  | (x, _) => x

/-- CTRL_BEACON (R357). -/
def ctrlBeacon (x : BX) : BX := if x.g.fbEn ∧ x.b.zc.lock then x.put (.fb (fbFrame 3 x.own 0) x.g.txLevel) else x

/-! ## Bindings (R359) -/

/-- A value binding is older than MAXAGE (R359). -/
def bindStale (k : Nat) (x : BX) : BX :=
  match x.binds.find? (fun r => r.bind == k && !r.cmd), (atD x.b.bind k {}).at_ with
  | some r, some t => if t + r.maxAge * 100000 < x.now then x.mod (fun b => { b with bind := updN b.bind k (fun s => { s with stale := true }) }) else x
  | _, _ => x

/-- A command binding sends its loop's output (R359). -/
def bindCommand (k v : Nat) (x : BX) : BX :=
  match x.binds.find? (fun r => r.bind == k && r.cmd) with
  | none => x
  | some r =>
    let x := x.mod (fun b => { b with bind := updN b.bind k (fun _ => { val := v, at_ := some x.now, stale := false }) })
    match (List.range 64).find? (fun n => ((x.nb n).st == .admitted || (x.nb n).st == .unreachable) && (x.nb n).addr == r.addr) with
    | some n => brmSend n 0x10 .control (some k) (leBytes 1 r.chan ++ leBytes 1 0 ++ leBytes 2 r.cmdTmo ++ leBytes 4 v) x
    | none => x

/-- The partner of a binding is lost or unreachable, or the value is stale (R350, R359). -/
def bindBad (k : Nat) (x : BX) : Bool :=
  match x.binds.find? (fun r => r.bind == k) with
  | none => true
  | some r =>
    let here := x.b.nbr.toList.any (fun n => n.st == .admitted && n.addr == r.addr)
    !here || (!r.cmd && ((atD x.b.bind k {}).stale || (match (atD x.b.bind k {}).at_ with
      | some t => decide (t + r.maxAge * 100000 < x.now) | none => true)))

end Sys2Proof.Machine
end

