-- ==== Sys2Proof/Machine/CloakCore.lean ====
section
/-! DEFINITION. Cloak: root secret, slots, key-update messages, pair binding, attestation, random source
(spec/14_cloak_keys.md R388–R404). -/

namespace Sys2Proof.Machine

/-- Cloak with the events that an effect raises. -/
structure CkX where
  c : Cloak
  evs : List Ev := []
  /-- A request of the device's own completes with NOT_IN_STATE, which raises this event (R391, R400, R402). -/
  miss : Option Ev := none
  deriving DecidableEq, Repr

/-- The number of identity signatures (R399). -/
def identityLeaves : Nat := 1048576

/-- Cloak in FAULT, or the root secret not held yet: no keyed service runs (R389). -/
def Cloak.noKeys (c : Cloak) : Bool := c.rootFail || !c.ready

/-- A slot as every reader and service sees it: EMPTY in FAULT (R389). -/
def Cloak.slot (c : Cloak) (n : Nat) : KeySlot := if c.rootFail then {} else atD c.slots n {}

/-- CLK_LMS.REMAIN: the leaves left (R400). -/
def Cloak.remain (c : Cloak) : Nat := identityLeaves - c.leaf

/-- CLK_STAT.LOW (R400). -/
def Cloak.low (c : Cloak) : Bool := decide (c.remain < 4096)

/-- The check value of a PRK: the first 16 bytes (R388). -/
def rootCheck (prk : Nat) : Nat := Config.hkdfExpand prk (ascii "DXN-ROOT-CHK") % 2 ^ 128

/-- The key of the Sleeve's internal lane (Table 14.2, slot 3) of a device and its root secret. -/
def sleeveLaneKey (devId secret : Nat) : Nat := Config.hkdfExpand (rootPrk devId secret) (ascii "DXN-SLV-LANE") % 2 ^ 256

/-- Content derived into a slot (R391): the version counts a change of it. -/
def KeySlot.derive (typ : KeyType) (usage key : Nat) (s : KeySlot) : KeySlot :=
  { typ := typ, origin := 0, usage := usage, key := key, version := if s.typ = typ ∧ s.key = key then s.version else (s.version + 1) % 2 ^ 16 }

/-- The derived system slots (Table 14.2). DESIGN CHOICE (log 118): usage bit 0 SIGN of slot 0, bit 4 DERIVE of slot 1, bit 1 MAC of
slot 3. -/
def deriveSlots (prk : Nat) (v : Vector KeySlot 64) : Vector KeySlot 64 :=
  updN (updN (updN v 3 (KeySlot.derive .hmac 2 (Config.hkdfExpand prk (ascii "DXN-SLV-LANE") % 2 ^ 256))) 1 (KeySlot.derive .p384 16 (ktValue prk)))
    0 (KeySlot.derive .hss 1 (idContent prk))

/-- AES-256-GCM in either direction: the bytes and the key stream. -/
def gcmCrypt (key : Nat) (nonce bs : List Byte) : List Byte :=
  (List.range bs.length).map (fun i => bs.getD i 0 ^^^ Config.gcmStream key nonce i)

/-- The key that seals the slots' content in MRAM (R396). -/
def sealKey (prk : Nat) : Nat := Config.hkdfExpand prk (ascii "DXN-SEAL") % 2 ^ 256

/-- The nonce of a record (log 118): its slot and COUNTER. -/
def sealNonce (n ctr : Nat) : List Byte := leBytes 8 ctr ++ leBytes 1 n ++ leBytes 3 0

/-- The record of slot `n` with its content sealed under PRK (R396). -/
def keySeal (prk n ctr : Nat) (s : KeySlot) : KeyRec :=
  let r : KeyRec := { typ := s.typ, origin := s.origin, usage := s.usage, version := s.version, tag := 0, ctr := ctr,
                      cipher := gcmCrypt (sealKey prk) (sealNonce n ctr) (leBytes 48 s.key) }
  { r with tag := Config.gcmTag (sealKey prk) (sealNonce n ctr) r.head r.cipher % 2 ^ 128 }

/-- The slot that a record gives back; EMPTY where its tag does not hold (log 118). -/
def keyOpen (prk n : Nat) (r : KeyRec) : KeySlot :=
  if Config.gcmTag (sealKey prk) (sealNonce n r.ctr) r.head r.cipher % 2 ^ 128 = r.tag then
    { typ := r.typ, origin := r.origin, usage := r.usage, version := r.version, key := leNat (gcmCrypt (sealKey prk) (sealNonce n r.ctr) r.cipher) }
  else {}

/-- The record of slot `n` in force: the newer copy that passes its check (R396). -/
def Cloak.stored (c : Cloak) (n : Nat) : Option KeyRec := (atD c.store n none).bind (Twice.take KeyRec.bytes (·.ctr))

/-- At start the slots that messages write take what MRAM holds of them (R396); a slot of which neither copy passes is EMPTY (log 118). -/
def Cloak.restore (prk : Nat) (c : Cloak) : Cloak :=
  { c with
    slots := mapIdx c.slots (fun n s => if (atD c.store n none).isNone || n == 0 then s else ((c.stored n).map (keyOpen prk n)).getD {})
    kuCtr := (List.range 64).foldl (fun m n => max m (((c.stored n).map (·.ctr)).getD 0)) c.kuCtr }

/-- What an attempt gives back as the root secret (R388): the helper data correct up to 15 % of the bits; without a copy that passes there is
nothing. -/
def Cloak.attempt (c : Cloak) (t : RootTry) : Option (Nat × Nat) :=
  (c.helper.take Helper.bytes (fun _ => 0)).map (fun h =>
    (if t.errors * 100 ≤ 15 * 32768 then Config.helperSecret h.data else Config.pufWrong t.errors, h.check))

/-- An attempt passes its check (R388). -/
def Cloak.rootGood (devId : Nat) (c : Cloak) (t : RootTry) : Bool :=
  (c.attempt t).any (fun a => rootCheck (rootPrk devId a.1) == a.2)

/-- Regeneration of the root secret at power-on and system reset: at most 4 attempts (R388–R390). Attempts that the
list does not hold fail. -/
def rootRegenerate (devId : Nat) (tries : List RootTry) (c : Cloak) : CkX :=
  let ts := tries.take 4
  match ts.find? (c.rootGood devId) with
  | some t =>
    let n := (ts.findIdx (c.rootGood devId)) + 1
    let prk := rootPrk devId (((c.attempt t).map (·.1)).getD 0)
    let m := decide (8 * 32768 < t.errors * 100)
    { c := { c.restore prk with ready := true, rootFail := false, margin := m, attempts := n, prk := some prk, slots := deriveSlots prk (c.restore prk).slots },
      evs := if m then [.cloakMargin] else [] }
  | none => { c := { c with ready := false, rootFail := true, margin := false, attempts := 4, prk := none }, evs := [.cloakFault] }

/-- A service found no suitable slot: KEYMISS and the key-missing event (R391, Table 14.8). -/
def keyMissing (c : Cloak) : CkX := { c := { c with keyMiss := satInc 16 c.keyMiss }, miss := some .keyMissing }

/-- The slot that a service may use: of one of the types, with a usage bit (R391). -/
def Cloak.usable (c : Cloak) (n : Nat) (types : List KeyType) (bit : Nat) : Option KeySlot :=
  let s := c.slot n
  if c.noKeys then none else if types.contains s.typ && bitOf bit s.usage then some s else none

/-- Reserve and take the next identity leaf (R400); none when no leaf is left. -/
def takeLeaf (c : Cloak) : Option (Nat × CkX) :=
  if identityLeaves ≤ c.leaf then none
  else
    let r := decide (c.nRes ≤ c.leaf)
    let c' : Cloak := { c with leaf := c.leaf + 1, nRes := if r then min identityLeaves (c.leaf + 64) else c.nRes }
    some (c.leaf, { c := c', evs := if r && c.low then [.signingState] else [] })

/-- The SLOT, OP, KTYPE, USAGE, KLEN and WKEY fields of a message (Table 14.3). -/
structure KuMsg where
  format : Nat
  op : Nat
  slot : Nat
  devId : Nat
  idHash : Nat
  counter : Nat
  ktype : Nat
  usage : Nat
  klen : Nat
  wkey : List Byte
  tail : Nat
  body : List Byte
  sig : List Byte
  deriving DecidableEq, Repr

/-- The fields of a key-update message (Table 14.3). -/
def kuParse (m : List Byte) : KuMsg :=
  { format := leAt m 0 2, op := leAt m 2 1, slot := leAt m 3 1, devId := leAt m 4 16, idHash := leAt m 20 32, counter := leAt m 52 8,
    ktype := leAt m 60 1, usage := leAt m 61 1, klen := leAt m 62 2, wkey := (m.drop 173).take 48, tail := leAt m 237 3,
    body := m.take 240, sig := (m.drop 240).take 2964 }

/-- KLEN that OP and KTYPE ask for (Table 14.3). -/
def kuLen (op ktype : Nat) : Nat := if op = 1 then (if ktype = 4 then 48 else 32) else if op = 4 then 32 else 0

/-- Row 2 FORMAT of Table 14.4. -/
def kuFormatOk (k : KuMsg) : Bool :=
  k.format == 1 && (match k.op with
    | 1 => (KeyType.ofKtype k.ktype).isSome
    | 2 => (KeyType.ofKtype k.ktype).isSome
    | 3 => k.ktype == 0
    | 4 => k.ktype == 0
    | _ => false)

/-- Row 6 SLOT of Table 14.4. -/
def kuSlotOk (k : KuMsg) : Bool :=
  if k.op = 4 then k.slot == 0
  else (k.slot == 4 && k.ktype == 1) || (decide (16 ≤ k.slot) && decide (k.slot ≤ 63))

/-- Row 7 TYPE of Table 14.4: bit 0 SIGN, 1 MAC, 2 ENCRYPT, 3 TLS. -/
def kuUsageOk (k : KuMsg) : Bool :=
  let ec := k.ktype == 3 || k.ktype == 4
  (!bitOf 0 k.usage || ec) && (!bitOf 3 k.usage || ec) && (!bitOf 1 k.usage || k.ktype == 1) && (!bitOf 2 k.usage || k.ktype == 2)

/-- A private value lies below its group's order (row 8 of Table 14.4). -/
def keyInGroup (ktype v : Nat) : Bool :=
  if ktype = 3 then decide (v < orderP256) else if ktype = 4 then decide (v < orderP384) else true

/-- The value that GENERATE draws, within the range of its type (R396). -/
def drawKey (ktype free : Nat) : Nat :=
  if ktype = 3 then free % (orderP256 - 1) + 1 else if ktype = 4 then free % (orderP384 - 1) + 1 else free % 2 ^ 256

/-- The wrapping key of an IMPORT (R394): HKDF over the P-384 secret of EPK and slot 1, salted with COUNTER. -/
def kuWrapKey (c : Cloak) (m : List Byte) : Nat :=
  Config.hkdf ((m.drop 52).take 8) (Config.ecdh 4 (c.slot 1).key ((m.drop 64).take 97)) (ascii "DXN-KU-WRAP" ++ (m.drop 3).take 1)

/-- The NONCE of a message. -/
def kuNonce (m : List Byte) : List Byte := (m.drop 161).take 12

/-- WKEY without the bytes beyond KLEN. -/
def kuWrapped (m : List Byte) : List Byte := ((m.drop 173).take 48).take (leAt m 62 2)

/-- The tag that unwrapping computes, with bytes 0 to 63 as additional data (R394). -/
def kuTag (c : Cloak) (m : List Byte) : Nat := Config.gcmTag (kuWrapKey c m) (kuNonce m) (m.take 64) (kuWrapped m)

/-- The value that unwrapping gives (R394). -/
def kuValue (c : Cloak) (m : List Byte) : Nat := leNat (gcmCrypt (kuWrapKey c m) (kuNonce m) (kuWrapped m))

/-- Table 14.4: the result of a message, and the key that an accepted IMPORT brings. -/
def kuJudge (f : Fuses) (kaHash : Nat) (c : Cloak) (m : List Byte) : Nat × Nat :=
  let k := kuParse m
  if k.klen ≠ kuLen k.op k.ktype ∨ leNat (k.wkey.drop k.klen) ≠ 0 ∨ k.tail ≠ 0 then (1, 0)
  else if !kuFormatOk k then (2, 0)
  else if k.devId ≠ f.devId ∨ k.idHash ≠ f.idHash then (3, 0)
  else if k.counter ≤ c.kuCtr then (4, 0)
  else if !Config.sigVerify 2 2964 (leBytes 32 kaHash) k.body k.sig then (5, 0)
  else if !kuSlotOk k then (6, 0)
  else if !kuUsageOk k then (7, 0)
  else if k.op ≠ 1 then (0, 0)
  else if kuTag c m % 2 ^ 128 ≠ leAt m 221 16 then (8, 0)
  else if keyInGroup k.ktype (kuValue c m) then (0, kuValue c m) else (8, 0)

/-- CLK_KU_CTRL.GO (R395): the message in the window is judged; NOT_IN_STATE while another is, or without keys. -/
def kuGo (c : Cloak) : Status × Cloak :=
  if c.job.isSome || c.noKeys then (.notInState, c)
  else (.ok, { c with job := some (winBytes 0 801 c.ku) })

/-- A message commits as one MRAM record, written twice (R396): the slot, or the anchor (R398), and COUNTER. -/
def Cloak.commit (n ctr : Nat) (s : KeySlot) (c : Cloak) : Cloak :=
  { c with kuCtr := ctr, store := updN c.store n (fun _ => some (Twice.of KeyRec.bytes (keySeal (c.prk.getD 0) n ctr s))) }

/-- The change that an accepted message makes to its slot or to the anchor (R396). -/
def kuCommit (k : KuMsg) (key : Nat) (c : Cloak) : Cloak :=
  let v := ((atD c.slots k.slot {}).version + 1) % 2 ^ 16
  let put_ (s : KeySlot) : Cloak := let a := c.commit k.slot k.counter s
                                    { a with slots := updN a.slots k.slot (fun _ => s) }
  if k.op = 4 then
    let a := c.commit 0 k.counter {}
    { a with anchor := some (Twice.of anchorBytes (leNat (k.wkey.take 32))) }
  else if k.op = 3 then put_ { version := v }
  else put_ { typ := (KeyType.ofKtype k.ktype).getD .empty, origin := if k.op = 2 then 1 else 3, usage := k.usage % 32, version := v, key := key }

/-- An MRAM record of Cloak loses one of its copies (spec/17_thicket_and_events.md Table 17.3, row 4). -/
def Cloak.spoil (second : Bool) (c : Cloak) : MramRec → Cloak
  | .helper => { c with helper := c.helper.spoil Helper.bytes second }
  | .key n => { c with store := upd c.store n (Option.map (Twice.spoil KeyRec.bytes second)) }
  | .anchor => { c with anchor := c.anchor.map (Twice.spoil anchorBytes second) }
  | .boot => c

/-- Judging ends (R395, R396): the result; a refusal changes no slot, anchor or counter; a commit raises its event.
`free` is the value of the random source, and the result where GENERATE finds it stopped. -/
def kuJudged (f : Fuses) (kaHash free : Nat) (c : Cloak) : CkX :=
  match c.job with
  | none => { c := c }
  | some m =>
    let k := kuParse m
    let (r, key) := kuJudge f kaHash c m
    let c : Cloak := { c with job := none }
    if r ≠ 0 then { c := { c with result := r, kuRefused := satInc 16 c.kuRefused } }
    else if k.op = 2 ∧ c.rngFail = true then { c := { c with result := free % 16 }, miss := some .notInState }
    else
      let key := if k.op = 2 then drawKey k.ktype free else key
      { c := { kuCommit k key c with result := 0, requests := if k.op = 2 then c.requests + 1 else c.requests }, evs := [.keyUpdate] }

/-- An identity certificate verifies under the manufacturing root (R392, R399). -/
def IdCert.ok (c : IdCert) : Bool := Config.sigVerify 1 c.sig.length Config.rootPublic c.body c.sig

/-- The pair key (R392): HKDF over the P-384 secret, salted with the two DEV_IDs, the lower identity first. -/
def pairKey (own : Nat) (epk : List Byte) (a b : Nat) : Nat :=
  Config.hkdf (leBytes 16 (min a b) ++ leBytes 16 (max a b)) (Config.ecdh 4 own epk) (ascii "DXN-PAIR")

/-- Pair binding (R392): the peer's certificate, its ephemeral public key and that key's signature; `own` is the
unit's own ephemeral private value. Without keys the identity slot reads EMPTY (R389, R391); without the random source or a leaf the request
completes with NOT_IN_STATE (R400, R402). -/
def pairBind (f : Fuses) (peerId own : Nat) (cert : IdCert) (epk sig : List Byte) (c : Cloak) : CkX :=
  if c.bound = some peerId then { c := c }
  else if c.noKeys then keyMissing c
  else if c.rngFail then { c := c, miss := some .notInState }
  else match takeLeaf c with
    | none => { c := c, miss := some .notInState }
    | some (_, x) =>
      if !cert.ok || cert.devId != peerId || !Config.hssVerify cert.idPk epk sig then x
      else
        { x with c := { x.c with
            bound := some peerId
            requests := x.c.requests + 1
            slots := updN x.c.slots 2 (fun s =>
              { typ := .hmac, origin := 2, usage := 18, version := (s.version + 1) % 2 ^ 16, key := pairKey own epk f.devId peerId }) } }

/-- A slot that attestation does not take: EMPTY, as every slot in FAULT, or 5 to 15 (R401). -/
def Cloak.noAttest (c : Cloak) (slot : Nat) : Bool :=
  (c.slot slot).typ == .empty || (decide (5 ≤ slot) && decide (slot ≤ 15)) || c.noKeys

/-- A write of CLK_ATT_CTRL (R401): SLOT, and GO. A write of 1 to GO that cannot be taken changes nothing; an unsuitable slot is a
missing key (R391). -/
def attWrite (slot : Nat) (go : Bool) (c : Cloak) : Status × CkX :=
  if !go then (.ok, { c := { c with attSlot := slot } })
  else if c.attJob.isSome then (.notInState, { c := c })
  else if c.noAttest slot then (.notInState, { c := (keyMissing c).c })
  else match takeLeaf c with
    | none => (.notInState, { c := c })
    | some (q, x) =>
      (.ok, { x with c := { x.c with
          attSlot := slot
          attDone := false
          attJob := some { num := slot, slot := c.slot slot, kuCtr := c.kuCtr, leaf := q, challenge := winBytes 40 8 c.att } } })

/-- The PUB field of a statement (Table 14.7): 97 bytes; of a secret key the HMAC under it of "DXN-KCV" (log 118). -/
def attPub (s : KeySlot) : List Byte :=
  match s.typ with
  | .p256 => (Config.ecPublic 3 s.key ++ List.replicate 97 0).take 97
  | .p384 => (Config.ecPublic 4 s.key ++ List.replicate 97 0).take 97
  | _ => beBytes 32 (Config.hmac s.key (ascii "DXN-KCV")) ++ List.replicate 65 0

/-- The statement body of Table 14.7: 172 bytes. -/
def attBody (devId : Nat) (j : AttJob) : List Byte :=
  leBytes 2 1 ++ leBytes 1 j.num ++ leBytes 1 j.slot.typ.code ++ leBytes 1 j.slot.origin ++ leBytes 1 j.slot.usage
    ++ leBytes 1 1 ++ leBytes 1 0 ++ leBytes 16 devId ++ leBytes 8 j.kuCtr ++ leBytes 4 j.slot.version ++ leBytes 4 j.leaf
    ++ j.challenge ++ attPub j.slot ++ leBytes 3 0

/-- The statement is signed and placed in the window (R401): 172 bytes and a signature of 2,964. -/
def attDone (f : Fuses) (c : Cloak) : Cloak :=
  match c.attJob with
  | none => c
  | some j =>
    let body := attBody f.devId j
    let sig := leBytes 2964 (Config.hssSign (c.slot 0).key j.leaf body)
    { c with attJob := none, attDone := true, att := winPut 0 (body ++ sig) c.att }

/-- A health test fails (R402): the count of healthy samples begins anew. -/
def rngHealthFail (c : Cloak) : Cloak := { c with rngFail := true, healthy := 0 }

/-- `n` more healthy samples in succession: output resumes after 1,024 (R402). -/
def rngRecover (n : Nat) (c : Cloak) : Cloak :=
  if !c.rngFail then c else if 1024 ≤ c.healthy + n then { c with rngFail := false, healthy := 0 } else { c with healthy := c.healthy + n }

/-- The DRBG is reseeded every 1 s and after 65,536 requests (R402); not while the source has failed. -/
def drbgReseed (now : Nat) (c : Cloak) : Cloak :=
  if c.rngFail = false ∧ (c.seededAt + 1000000 ≤ now ∨ 65536 ≤ c.requests) then { c with seededAt := now, requests := 0 } else c

/-- Power-on and system reset (Table 14.8): the registers of level S, the jobs and the windows; slots, counters and
leaves stay in MRAM. At the start signing resumes at N_RES (R400). -/
def Cloak.sysReset (c : Cloak) : Cloak :=
  { c with
    ready := false
    rootFail := false
    margin := false
    rngFail := false
    attempts := 0
    prk := none
    ku := []
    job := none
    result := 0
    att := []
    attSlot := 0
    attDone := false
    attJob := none
    leaf := c.nRes
    kuRefused := 0
    keyMiss := 0
    requests := 0
    healthy := 0 }

end Sys2Proof.Machine
end

