-- ==== Sys2Proof/Machine/RecordParse.lean ====
section
/-! DEFINITION. The image records: types, lengths, absent units, field ranges, duplicates and count limits, references, and
the configuration they make (spec/15_image_and_start.md R412–R416 and the record rules of each chapter). -/

namespace Sys2Proof.Machine

/-- A value lies in its stated range. -/
def rng (lo hi v : Nat) : Bool := decide (lo ≤ v) && decide (v ≤ hi)

/-- A bytes's reserved bits above `n` are zero. -/
def flagsOk (n v : Nat) : Bool := decide (v < 2 ^ n)

/-- Every index named by a mask is present. -/
def maskOk (n m : Nat) : Bool := decide (m < 2 ^ n)

/-- Unsigned field of `k` bytes at offset `o`. -/
abbrev u (b : List Byte) (o k : Nat) : Nat := leAt b o k

/-- A value when its checks hold. -/
def guardSome {α : Type} (ok : Bool) (a : α) : Option α := if ok then some a else none

/-- Payload length of a record type; none for an unknown type (R413 steps 3 and 4). -/
def recLen : Nat → Option Nat
  | 0x300 => some 40 | 0x310 => some 12 | 0x320 => some 28 | 0x330 => some 8 | 0x340 => some 24 | 0x350 => some 28
  | 0x400 => some 20 | 0x500 => some 32 | 0x600 => some 32 | 0x610 => some 48
  | 0x700 => some 12 | 0x710 => some 8 | 0x720 => some 8 | 0x730 => some 4 | 0x800 => some 24
  | 0x900 => some 20 | 0x910 => some 12 | 0xA00 => some 12 | 0xA10 => some 16 | 0xA20 => some 8
  | 0xB00 => some 8 | 0xB10 => some 16 | 0xC00 => some 52 | 0xD00 => some 4
  | 0xE00 => some 24 | 0xE10 => some 36 | 0xE20 => some 200
  | _ => none

/-- The record is for an absent unit or instance of the variant (R7, R413 step 3). `b` is its payload. -/
def recAbsent (v : Variant) (ty : Nat) (b : List Byte) : Bool :=
  let i := u b 0 1
  let gone (n top : Nat) : Bool := !b.isEmpty && decide (n ≤ i) && decide (i < top)
  match ty with
  | 0x310 => gone v.ports 12
  | 0x320 => !b.isEmpty && decide (v.buses ≤ i / 64)
  | 0x400 => gone v.buses 4
  | 0x500 => gone v.ports 12
  | 0x600 => gone v.ports 12
  | 0x720 => gone (2 * v.ports) 24
  | 0x800 => !v.seam
  | 0x900 => v.chains == 0
  | 0x910 => v.chains == 0 || gone v.chains 4
  | 0xA00 => !v.bramble
  | 0xA10 => !v.bramble
  | 0xA20 => !v.bramble
  | 0xB10 => gone v.cuffs 16
  | _ => false

/-- Table 2.8. -/
def parseCnpGlobal (b : List Byte) : Option CnpGlobal :=
  let r : CnpGlobal :=
    { wE := u b 0 2, wK := u b 2 2, wB := u b 4 2
      wPrio := #v[u b 8 2, u b 10 2, u b 12 2, u b 14 2, u b 16 2, u b 18 2, u b 20 2, u b 22 2]
      tol := u b 24 2, nEng := u b 26 1, uRel := u b 27 1, tRel := u b 28 2, tSel := u b 30 2
      preempt := bitOf 0 (u b 32 1), preemptHold := u b 33 1 }
  guardSome (rng 0 1024 r.wE && rng 0 1024 r.wB && r.wPrio.toList.all (rng 1 65535) && rng 1 100 r.tol && rng 1 16 r.nEng
    && rng 50 95 r.uRel && rng 1 600 r.tRel && rng 20 1000 r.tSel && flagsOk 1 (u b 32 1) && rng 1 255 r.preemptHold
    && u b 6 2 == 0 && u b 34 6 == 0) r

/-- Table 2.9. -/
def parseCnpPort (b : List Byte) : Option CnpPort :=
  let r : CnpPort :=
    { port := u b 0 1, prio := u b 1 1, rampUp := u b 2 2, rampDn := u b 4 2, nMin := u b 6 1, shedRank := u b 7 1, checkCap := u b 8 2 }
  guardSome (rng 0 11 r.port && rng 0 7 r.prio && rng 1 10000 r.rampUp && rng 1 10000 r.rampDn && rng 1 64 r.nMin
    && rng 0 11 r.shedRank && rng 10 200 r.checkCap && u b 10 2 == 0) r

/-- Table 2.10, with the mask of R15. -/
def parseCnpModule (v : Variant) (b : List Byte) : Option CnpModule :=
  let f := u b 1 1
  let r : CnpModule :=
    { pm := u b 0 1, buf := bitOf 0 f, bidir := bitOf 1 f, serialBind := bitOf 2 f, mask := u b 2 2, iRated := u b 4 2, pRated := u b 6 2
      vMin := u b 8 2, vMax := u b 10 2, eta := u b 12 2, ramp := u b 14 2, groupA := u b 16 1, groupB := u b 17 1, serial := u b 20 8 }
  let grp (g : Nat) : Bool := decide (g ≤ 63) || g == 0xFF
  guardSome (flagsOk 3 f && maskOk v.ports r.mask && (!r.buf || r.mask == 0) && rng 5 30000 r.iRated && rng 1 10000 r.pRated
    && rng 0 1250 r.vMin && rng r.vMin 1250 r.vMax && rng 8000 10000 r.eta && rng 1 50000 r.ramp && grp r.groupA && grp r.groupB
    && (r.groupA != r.groupB || (r.groupA == 0xFF && r.groupB == 0xFF)) && (r.serialBind || r.serial == 0) && u b 18 2 == 0) r

/-- Table 2.11. -/
def parseCnpGroup (b : List Byte) : Option CnpGroup :=
  let r : CnpGroup := { group := u b 0 1, pCap := u b 4 4 }
  guardSome (rng 0 63 r.group && rng 1 400000 r.pCap && u b 1 3 == 0) r

/-- Table 3.3, with the rule of R94 on SRC. -/
def parseIntake (v : Variant) (b : List Byte) : Option CnpIntake :=
  let r : CnpIntake :=
    { gCapCfg := u b 0 4, eCap := u b 4 4, gMargin := u b 8 2, tauRel := u b 10 2, lStale := u b 12 4, measTmo := u b 16 2
      srcHost := u b 18 1 == 1, trim := bitOf 0 (u b 19 1), trimMax := u b 20 2, uNom := u b 22 2 }
  guardSome (rng 1 1000000 r.gCapCfg && rng 0 1000000 r.eCap && rng 0 5000 r.gMargin && rng 1 600 r.tauRel && rng 0 1000000 r.lStale
    && rng 20 5000 r.measTmo && rng 0 1 (u b 18 1) && flagsOk 1 (u b 19 1) && rng 0 5000 r.trimMax && (r.srcHost || v.sleeve)) r

/-- Table 3.4. -/
def parseBuffer (b : List Byte) : Option CnpBuffer :=
  let r : CnpBuffer :=
    { pChgMax := u b 0 4, pDisMax := u b 4 4, socMin := u b 8 2, socMax := u b 10 2, socTgt := u b 12 2, taper := u b 14 2
      socTmo := u b 16 2, vbModules := u b 18 1 == 1, trim := bitOf 0 (u b 19 1), vCellHi := u b 20 2, vCellLo := u b 22 2 }
  guardSome (rng 0 1000000 r.pChgMax && rng 0 1000000 r.pDisMax && rng 0 9999 r.socMin && rng (r.socMin + 1) 10000 r.socMax
    && rng r.socMin r.socMax r.socTgt && rng 0 2000 r.taper && rng 1 600 r.socTmo && rng 0 1 (u b 18 1) && flagsOk 1 (u b 19 1)
    && rng 2000 5000 r.vCellHi && rng 1000 (r.vCellHi - 100) r.vCellLo && u b 24 4 == 0) r

/-- Table 4.2 with the rates of R98. -/
def parseMbBus (b : List Byte) : Option MbBusRec :=
  let r : MbBusRec :=
    { bus := u b 0 1, tdcEn := bitOf 0 (u b 1 1), nbrp := u b 2 1, nsjw := u b 3 1, ntseg1 := u b 4 2, ntseg2 := u b 6 1, dbrp := u b 7 1
      dtseg1 := u b 8 1, dtseg2 := u b 9 1, dsjw := u b 10 1, tdco := u b 11 1, hpId := u b 12 2, hpMask := u b 14 2 }
  let nom := r.nbrp * (1 + r.ntseg1 + r.ntseg2)
  let dat := r.dbrp * (1 + r.dtseg1 + r.dtseg2)
  guardSome (rng 0 3 r.bus && flagsOk 1 (u b 1 1) && rng 1 32 r.nbrp && rng 1 128 r.nsjw && rng 2 256 r.ntseg1 && rng 1 128 r.ntseg2
    && rng 1 32 r.dbrp && rng 1 32 r.dtseg1 && rng 1 16 r.dtseg2 && rng 1 16 r.dsjw && rng 0 127 r.tdco && rng 0 0x7FF r.hpId
    && rng 0 0x7FF r.hpMask && u b 16 4 == 0 && decide (80 ≤ nom) && decide (10 ≤ dat) && decide (dat ≤ nom)
    && (!r.tdcEn || decide (r.dbrp ≤ 2))) r

/-- Table 5.4 with R14 and R141. -/
def parseVpPort (v : Variant) (b : List Byte) : Option VpPort :=
  let p := u b 2 1
  let r : VpPort :=
    { port := u b 0 1, mcs := u b 1 1 == 1, din := bitOf 0 p, iso2 := bitOf 1 p, iso20 := bitOf 2 p, bpt := bitOf 3 p, pnc := bitOf 4 p
      vsrcMod := bitOf 0 (u b 3 1), iRated := u b 4 2, vRated := u b 6 2, pRated := u b 8 2, iDis := u b 10 2, imdSi := u b 12 1
      chkCu := u b 13 1, tPull := u b 14 1, holdDuty := u b 15 1, tFb := u b 16 1, iOpen := u b 17 1, tSc := u b 18 1, tImd := u b 19 1
      pxLo := u b 20 2, pxHi := u b 22 2, tStop := u b 24 1, tPc := u b 25 1, tLink := u b 26 1, tAuth := u b 27 1 }
  let shape := rng 0 11 r.port && rng 0 1 (u b 1 1) && flagsOk 5 p && (!r.bpt || r.iso20) && (!r.pnc || r.iso20) && flagsOk 1 (u b 3 1)
    && u b 28 4 == 0 && (r.vsrcMod || v.sleeve)
  let ratings := rng 10 30000 r.iRated && rng 50 1250 r.vRated && rng 1 37500 r.pRated && rng 0 r.iRated r.iDis
    && (r.mcs || (decide (r.iRated ≤ 5000) && decide (r.vRated ≤ 1000)))
    && !(r.mcs && (r.din || r.iso2)) && (r.iDis == 0 || r.bpt)
  let times := rng 2 50 r.tPull && rng 20 100 r.holdDuty && rng 10 200 r.tFb && rng 1 50 r.iOpen && rng 2 100 r.tSc && rng 5 100 r.tImd
    && rng 0 5000 r.pxLo && rng (r.pxLo + 100) 5000 r.pxHi && rng 10 100 r.tStop && rng 10 100 r.tPc && rng 5 60 r.tLink && rng 10 255 r.tAuth
  guardSome (shape && ratings && times && rng 0 15 r.imdSi && (r.chkCu == 0xFF || decide (r.chkCu < v.cuffs))) r

/-- Table 6.3. -/
def parseTwCable (b : List Byte) : Option TwCable :=
  let r : TwCable :=
    { port := u b 0 1, pinEn := bitOf 0 (u b 1 1), res20 := u b 2 2, alpha := u b 4 2, c1 := u b 6 2, c2 := u b 8 2, c3 := u b 10 2
      g12 := u b 12 2, g23n := u b 14 2, qn := u b 16 2, cw := u b 18 2, exp := u b 20 1, xh := u b 21 1, tHsLim := u b 22 2
      tPinLim := u b 24 2, fastBand := u b 26 1, failCap := u b 27 1, kFlow := u b 28 2, dtSub := u b 30 1 }
  guardSome (rng 0 11 r.port && flagsOk 1 (u b 1 1) && rng 1 65535 r.res20 && rng 0 10000 r.alpha && rng 1 65535 r.c1 && rng 1 65535 r.c2
    && rng 1 65535 r.c3 && rng 1 65535 r.g12 && rng 1 65535 r.g23n && rng 1 10000 r.qn && rng 1000 5000 r.cw && rng 0 100 r.exp
    && rng 0 100 r.xh && rng 300 2000 r.tHsLim && rng 300 2000 r.tPinLim && rng 10 200 r.fastBand && rng 0 100 r.failCap
    && rng 1 10000 r.kFlow && rng 0 200 r.dtSub && u b 31 1 == 0) r

/-- The process values a loop may name (Table 6.4): per-port sources 1–6, intake, buffer, Bramble, host. -/
def pvKnown (s : Nat) : Bool := rng 1 6 s || s == 0x10 || s == 0x11 || s == 0x30 || s == 0x3F

/-- Sources, sinks and COOL_PORT lie in range and are present (R187); sinks that are another record are judged with R414. -/
def loopEndsOk (v : Variant) (r : CpcLoop) : Bool :=
  pvKnown r.pvSrc && (!(rng 1 6 r.pvSrc) || decide (r.pvIdx < v.ports)) && (r.pvSrc != 0x30 || (v.bramble && decide (r.pvIdx ≤ 63)))
    && (rng 0 3 r.outSnk || r.outSnk == 0x10 || r.outSnk == 0x11) && (r.outSnk != 1 || decide (r.outIdx < v.cuffs))
    && (r.outSnk != 2 || decide (r.outIdx ≤ 63)) && (r.outSnk != 3 || (v.bramble && decide (r.outIdx ≤ 63)))
    && (r.coolPort == 0xFF || decide (r.coolPort < v.ports))

/-- Loops 62 and 63 (R181), and no other loop at their sources and sinks. -/
def loopReservedOk (r : CpcLoop) : Bool :=
  if r.loop = 63 then r.pvSrc == 0x10 && r.outSnk == 0x10 && !r.test && fZero r.outSafe
  else if r.loop = 62 then r.pvSrc == 0x11 && r.outSnk == 0x11 && !r.test && fZero r.outSafe
  else r.pvSrc != 0x10 && r.pvSrc != 0x11 && r.outSnk != 0x10 && r.outSnk != 0x11

/-- Float fields of a loop record (R187). -/
def loopFloatsOk (r : CpcLoop) : Bool :=
  [r.sp, r.kp, r.ki, r.kd, r.tf, r.outMin, r.outMax, r.outSafe, r.fastMin].all fFinite
    && decide (0 ≤ fVal r.tf) && decide (fVal r.outMin < fVal r.outMax)
    && decide (fVal r.outMin ≤ fVal r.outSafe) && decide (fVal r.outSafe ≤ fVal r.outMax)
    && decide (fVal r.outMin ≤ fVal r.fastMin) && decide (fVal r.fastMin ≤ fVal r.outMax)

/-- Table 6.4 with R181 and R187. -/
def parseCpcLoop (v : Variant) (b : List Byte) : Option CpcLoop :=
  let f := u b 2 1
  let r : CpcLoop :=
    { loop := u b 0 1, mode0 := u b 1 1, reverse := bitOf 0 f, test := bitOf 1 f, safeHold := bitOf 2 f, coolPort := u b 3 1, period := u b 4 2
      pvSrc := u b 6 1, pvIdx := u b 7 1, outSnk := u b 8 1, outIdx := u b 9 1, spSrc := u b 10 1, sp := u b 12 4, kp := u b 16 4
      ki := u b 20 4, kd := u b 24 4, tf := u b 28 4, outMin := u b 32 4, outMax := u b 36 4, outSafe := u b 40 4, fastMin := u b 44 4 }
  guardSome (rng 0 63 r.loop && rng 0 2 r.mode0 && flagsOk 3 f && rng 1 10000 r.period && rng 0 2 r.spSrc && u b 11 1 == 0
    && loopEndsOk v r && loopReservedOk r && loopFloatsOk r && ((r.pvSrc != 0x30 && r.outSnk != 3) || decide (1000 ≤ r.period))) r

/-- Table 7.5. -/
def parseGtrGlobal (v : Variant) (b : List Byte) : Option GtrGlobal :=
  let f := u b 0 1
  let r : GtrGlobal :=
    { degEn := bitOf 0 f, startResume := bitOf 1 f, degCap := u b 1 1, degTime := u b 2 2, cufOff := u b 4 2, tClrMin := u b 6 2
      fcTestMax := u b 8 1, offp := u b 9 1 }
  guardSome (flagsOk 2 f && rng 0 100 r.degCap && rng 1 1440 r.degTime && maskOk v.cuffs r.cufOff && rng 10 600 r.tClrMin
    && rng 1 168 r.fcTestMax && rng 30 50 r.offp && u b 10 2 == 0) r

/-- The code of RESP (Table 7.6). -/
def respOf : Nat → SafResp
  | 1 => .hard | 2 => .soft | 3 => .port | _ => .monitor

/-- Table 7.6 with R214. -/
def parseGtrInput (v : Variant) (b : List Byte) : Option GtrInput :=
  let r : GtrInput :=
    { si := u b 0 1, anti := u b 1 1 == 1, resp := respOf (u b 2 1), test := bitOf 0 (u b 3 1), tDisc := u b 4 1, tDeb := u b 5 1, ports := u b 6 2 }
  guardSome (rng 0 15 r.si && rng 0 1 (u b 1 1) && rng 0 3 (u b 2 1) && flagsOk 1 (u b 3 1) && !(r.test && r.anti) && rng 1 200 r.tDisc
    && rng 1 100 r.tDeb && maskOk v.ports r.ports) r

/-- Table 7.7 with R214. -/
def parseGtrCmp (v : Variant) (b : List Byte) : Option GtrCmp :=
  let f := u b 1 1
  let r : GtrCmp := { fc := u b 0 1, below := bitOf 0 f, selfTest := bitOf 1 f, thr := u b 2 2, filt := u b 4 1, port := u b 5 1 }
  guardSome (rng 0 23 r.fc && flagsOk 2 f && rng 0 1023 r.thr && rng 0 5 r.filt
    && (decide (r.port < v.ports) || (r.port == 0xFF && !r.selfTest)) && u b 6 2 == 0) r

/-- Table 7.8 with R214. -/
def parseGtrOutput (v : Variant) (b : List Byte) : Option GtrOutput :=
  let r : GtrOutput := { so := u b 0 1, mode := u b 1 1, arg := u b 2 1, pulse := bitOf 0 (u b 3 1) }
  guardSome (rng 0 7 r.so && rng 1 3 r.mode && (if r.mode = 2 then decide (r.arg < v.ports) else r.arg == 0) && flagsOk 1 (u b 3 1)
    && (r.pulse || r.mode == 3)) r

/-- Table 10.10 with R308. -/
def parseSeamPair (devId : Nat) (b : List Byte) : Option SeamPair :=
  let r : SeamPair := { peerId := u b 0 16, swapEn := bitOf 0 (u b 16 1), swapH := u b 18 2 }
  guardSome (flagsOk 1 (u b 16 1) && (if r.swapEn then rng 24 2160 r.swapH else r.swapH == 0) && u b 17 1 == 0 && u b 20 4 == 0
    && r.peerId != devId) r

/-- Table 11.8 with R325. -/
def parseLacGlobal (b : List Byte) : Option LacGlobal :=
  let f := u b 2 1
  let r : LacGlobal :=
    { sweepP := u b 0 2, balEn := bitOf 0 f, balGate := bitOf 1 f, settle := u b 3 1, gateEvery := u b 4 1, owSettle := u b 5 1, owPeriod := u b 6 2
      owThr := u b 8 2, balOn := u b 10 2, balOff := u b 12 2, balFloor := u b 14 2, devD := u b 16 2, pairTol := u b 18 2 }
  guardSome (rng 60 1000 r.sweepP && flagsOk 2 f && rng 1 20 r.settle && rng 2 20 r.gateEvery && rng 1 10 r.owSettle && rng 1 1440 r.owPeriod
    && rng 50 2000 r.owThr && rng 5 200 r.balOn && rng 1 (r.balOn - 1) r.balOff && rng 0 4500 r.balFloor && rng 20 1000 r.devD
    && rng 5 500 r.pairTol && (r.balGate || decide (r.gateEvery * r.sweepP ≤ 1000))) r

/-- Table 11.9. -/
def parseLacChain (b : List Byte) : Option LacChain :=
  let r : LacChain :=
    { chain := u b 0 1, nodes := u b 1 1, cellOv := u b 2 2, cellUv := u b 4 2, tOt := leAtI b 6 2, tUt := leAtI b 8 2 }
  guardSome (rng 0 3 r.chain && rng 1 32 r.nodes && rng 1500 5000 r.cellOv && rng 500 (r.cellOv - 100) r.cellUv
    && decide (0 ≤ r.tOt) && decide (r.tOt ≤ 1000) && decide (-400 ≤ r.tUt) && decide (r.tUt ≤ r.tOt - 10) && u b 10 2 == 0) r

/-- Table 12.8. -/
def parseBrmGlobal (b : List Byte) : Option BrmGlobal :=
  let f := u b 0 1
  let r : BrmGlobal :=
    { estopLoss := bitOf 0 f, fbEn := bitOf 1 f, mainsF := u b 1 1, bcnP := u b 2 1, lostN := u b 3 1, txLevel := u b 4 1, blankThr := u b 5 1
      tmMargin := u b 6 1, keySlot := u b 7 1 }
  guardSome (flagsOk 2 f && (r.mainsF == 50 || r.mainsF == 60) && rng 5 60 r.bcnP && rng 2 10 r.lostN && rng 0 15 r.txLevel
    && rng 4 15 r.blankThr && rng 0 9 r.tmMargin && rng 0 63 r.keySlot && u b 8 4 == 0) r

/-- Table 12.9. -/
def parseBrmBind (b : List Byte) : Option BrmBind :=
  let r : BrmBind :=
    { bind := u b 0 1, cmd := u b 1 1 == 1, addr := u b 2 6, chan := u b 8 1, maxAge := u b 10 2, cmdTmo := u b 12 2 }
  guardSome (rng 0 63 r.bind && rng 0 1 (u b 1 1) && rng 0 15 r.chan
    && (if r.cmd then r.maxAge == 0 && rng 10 6000 r.cmdTmo else rng 10 600 r.maxAge && r.cmdTmo == 0)
    && u b 9 1 == 0 && u b 14 2 == 0) r

/-- Table 12.10. -/
def parseBrmPartner (b : List Byte) : Option BrmPartner :=
  let wild := u b 0 6 == 0xFFFFFFFFFFFF
  let r : BrmPartner := { addr := if wild then none else some (u b 0 6), kind := u b 6 1, count := u b 7 1 }
  guardSome (rng 0 3 r.kind && (if wild then rng 1 64 r.count else r.count == 1)) r

/-- Table 13.6. -/
def parseCufGlobal (b : List Byte) : Option (Vector Nat 4) :=
  let r : Vector Nat 4 := #v[u b 0 2, u b 2 2, u b 4 2, u b 6 2]
  guardSome (r.toList.all (rng 100 20000)) r

/-- Table 13.7 with R386. -/
def parseCufChan (b : List Byte) : Option CufChan :=
  let r : CufChan :=
    { ch := u b 0 1, owner := u b 1 1, pwm := u b 2 1 == 1, pg := u b 3 1, ilimC := u b 4 1, tOc := u b 5 1, shedRank := u b 6 1
      retain := bitOf 0 (u b 7 1), retryN := u b 8 1, retryT := u b 9 1, phase := u b 10 1, startDuty := u b 12 2 }
  guardSome (rng 0 15 r.ch && rng 0 2 r.owner && rng 0 1 (u b 2 1) && rng 0 3 r.pg && rng 5 40 r.ilimC && rng 1 10 r.tOc && rng 0 15 r.shedRank
    && flagsOk 1 (u b 7 1) && rng 0 3 r.retryN && rng 1 100 r.retryT && rng 0 1000 r.startDuty && u b 11 1 == 0 && u b 14 2 == 0
    && (r.owner != 1 || r.pwm) && (r.owner != 2 || !r.pwm)) r

/-- Table 13.8 with R386. -/
def parseHemCfg (b : List Byte) : Option HemCfg :=
  let r : HemCfg :=
    { phases := u b 0 1, minPh := u b 1 1, fSw := u b 2 2
      vout := #v[u b 4 2, u b 6 2, u b 8 2, u b 10 2, u b 12 2, u b 14 2, u b 16 2, u b 18 2]
      ssRate := u b 20 1, nHic := u b 21 1, tHic := u b 22 2, ilimPk := u b 24 2, iPh := u b 26 2, slope := u b 28 2, shedPct := u b 30 1
      addPct := u b 31 1, tShed := u b 32 1, dvFast := u b 33 1, rSh := u b 34 2, kp := u b 36 4, ki := u b 40 4, vfbDiv := u b 44 2
      vinMin := u b 46 2, vinMax := u b 48 2, droop := u b 50 2 }
  let fitted := (bitsOf 4 r.phases).length
  let top := r.vout.toList.foldl max 0
  guardSome (flagsOk 4 r.phases && bitOf 0 r.phases && rng 1 fitted r.minPh && rng 100 500 r.fSw
    && r.vout.toList.all (fun x => x == 0 || rng 1200 3000 x) && top != 0 && decide (r.iPh * top ≤ 3000000)
    && rng 1 100 r.ssRate && rng 1 15 r.nHic && rng 50 1000 r.tHic && rng 10 3000 r.ilimPk && rng 10 2000 r.iPh && rng 1 10000 r.slope
    && rng 30 90 r.shedPct && rng (r.shedPct + 5) 100 r.addPct && rng 1 255 r.tShed && rng 10 200 r.dvFast && rng 50 10000 r.rSh
    && fFinite r.kp && decide (0 ≤ fVal r.kp) && fFinite r.ki && decide (0 ≤ fVal r.ki) && rng 1000 100000 r.vfbDiv
    && rng 50 10000 r.vinMin && rng (r.vinMin + 10) 10000 r.vinMax && rng 0 2000 r.droop) r

/-- R404. -/
def parseClkBind (b : List Byte) : Option ClkBind :=
  let r : ClkBind := { service := u b 0 1, slot := u b 1 1 }
  guardSome (rng 0 2 r.service && rng 16 63 r.slot && u b 2 2 == 0) r

/-- Table 18.1. -/
def parseHstNet (b : List Byte) : Option HstNet :=
  let f := u b 1 1
  let r : HstNet :=
    { port := u b 0 1, dhcp := bitOf 0 f, slaac := bitOf 1 f, esing := bitOf 2 f, pfxLen := u b 2 1, ipv4 := u b 4 4, gw := u b 8 4
      dns := u b 12 4, tcp := u b 16 2 }
  guardSome (rng 0 1 r.port && flagsOk 3 f && (if r.dhcp then r.pfxLen == 0 && r.ipv4 == 0 else rng 8 30 r.pfxLen) && u b 3 1 == 0
    && rng 1024 65535 r.tcp && u b 18 6 == 0) r

/-- Table 18.2. -/
def parseHstUser (b : List Byte) : Option HstUser :=
  let r : HstUser := { hash := u b 0 32, role := u b 32 1 }
  guardSome (rng 0 2 r.role && u b 33 3 == 0) r

/-- A zero-padded text field: nothing but zeros after the first zero. -/
def zeroPadded (bs : List Byte) : Bool := (bs.dropWhile (fun x => x != 0)).all (fun x => x == 0)

/-- Table 18.6 with R514. -/
def parseHstOcpp (b : List Byte) : Option HstOcpp :=
  let url := b.take 128
  let idt := (b.drop 128).take 48
  let r : HstOcpp :=
    { url := url.takeWhile (fun x => x != 0), ident := idt.takeWhile (fun x => x != 0), secProf := u b 176 1
      offlineUnknown := bitOf 0 (u b 177 1), meterInt := u b 178 2, tReconn := u b 180 2 }
  guardSome (url.take 6 == ascii "wss://" && zeroPadded url && zeroPadded idt && rng 2 3 r.secProf && flagsOk 1 (u b 177 1)
    && rng 10 3600 r.meterInt && rng 10 600 r.tReconn && leNat (b.drop 182) == 0) r

/-- A record's payload under the rules of its own chapter (R413 step 5); none: refused. -/
def parseRec (f : Fuses) (ty : Nat) (b : List Byte) : Option ImgRec :=
  let v := f.variant
  match ty with
  | 0x300 => (parseCnpGlobal b).map .cnpGlobal
  | 0x310 => (parseCnpPort b).map .cnpPort
  | 0x320 => (parseCnpModule v b).map .cnpModule
  | 0x330 => (parseCnpGroup b).map .cnpGroup
  | 0x340 => (parseIntake v b).map .cnpIntake
  | 0x350 => (parseBuffer b).map .cnpBuffer
  | 0x400 => (parseMbBus b).map .mbBus
  | 0x500 => (parseVpPort v b).map .vpPort
  | 0x600 => (parseTwCable b).map .twCable
  | 0x610 => (parseCpcLoop v b).map .cpcLoop
  | 0x700 => (parseGtrGlobal v b).map .gtrGlobal
  | 0x710 => (parseGtrInput v b).map .gtrInput
  | 0x720 => (parseGtrCmp v b).map .gtrCmp
  | 0x730 => (parseGtrOutput v b).map .gtrOutput
  | 0x800 => (parseSeamPair f.devId b).map .seamPair
  | 0x900 => (parseLacGlobal b).map .lacGlobal
  | 0x910 => (parseLacChain b).map .lacChain
  | 0xA00 => (parseBrmGlobal b).map .brmGlobal
  | 0xA10 => (parseBrmBind b).map .brmBind
  | 0xA20 => (parseBrmPartner b).map .brmPartner
  | 0xB00 => (parseCufGlobal b).map .cufGlobal
  | 0xB10 => (parseCufChan b).map .cufChan
  | 0xC00 => (parseHemCfg b).map .hemCfg
  | 0xD00 => (parseClkBind b).map .clkBind
  | 0xE00 => (parseHstNet b).map .hstNet
  | 0xE10 => (parseHstUser b).map .hstUser
  | 0xE20 => (parseHstOcpp b).map .hstOcpp
  | _ => none

/-- Two records may not stand in one image (R414, first and second points). The `CnpModule` case is one module. -/
def recClash (a b : ImgRec) : Bool :=
  match a, b with
  | .cnpGlobal _, .cnpGlobal _ => true
  | .cnpPort x, .cnpPort y => x.port == y.port
  | .cnpModule x, .cnpModule y => x.pm == y.pm
  | .cnpGroup x, .cnpGroup y => x.group == y.group
  | .cnpIntake _, .cnpIntake _ => true
  | .cnpBuffer _, .cnpBuffer _ => true
  | .mbBus x, .mbBus y => x.bus == y.bus
  | .vpPort x, .vpPort y => x.port == y.port || (x.chkCu == y.chkCu && x.chkCu != 0xFF)
  | .twCable x, .twCable y => x.port == y.port
  | .cpcLoop x, .cpcLoop y => x.loop == y.loop || (x.outSnk == 1 && y.outSnk == 1 && x.outIdx == y.outIdx)
  | .cpcLoop x, .vpPort y => x.outSnk == 1 && x.outIdx == y.chkCu
  | .vpPort x, .cpcLoop y => y.outSnk == 1 && y.outIdx == x.chkCu
  | .gtrGlobal _, .gtrGlobal _ => true
  | .gtrInput x, .gtrInput y => x.si == y.si
  | .gtrCmp x, .gtrCmp y => x.fc == y.fc
  | .gtrOutput x, .gtrOutput y => x.so == y.so
  | .seamPair _, .seamPair _ => true
  | .lacGlobal _, .lacGlobal _ => true
  | .lacChain x, .lacChain y => x.chain == y.chain
  | .brmGlobal _, .brmGlobal _ => true
  | .brmBind x, .brmBind y => x.bind == y.bind
  | .brmPartner x, .brmPartner y => x.addr == y.addr && (x.addr.isSome || x.kind == y.kind)
  | .cufGlobal _, .cufGlobal _ => true
  | .cufChan x, .cufChan y => x.ch == y.ch
  | .cufChan x, .vpPort y => x.ch == y.chkCu && x.owner != 2
  | .vpPort x, .cufChan y => y.ch == x.chkCu && y.owner != 2
  | .hemCfg _, .hemCfg _ => true
  | .clkBind x, .clkBind y => x.service == y.service
  | .hstNet x, .hstNet y => x.port == y.port
  | .hstOcpp _, .hstOcpp _ => true
  | _, _ => false

/-- Add a record to a configuration. -/
def Cfg.add (c : Cfg) : ImgRec → Cfg
  | .cnpGlobal r => { c with cnpGlobal := some r }
  | .cnpPort r => { c with cnpPort := c.cnpPort ++ [r] }
  | .cnpModule r => { c with cnpModule := c.cnpModule ++ [r] }
  | .cnpGroup r => { c with cnpGroup := c.cnpGroup ++ [r] }
  | .cnpIntake r => { c with cnpIntake := some r }
  | .cnpBuffer r => { c with cnpBuffer := some r }
  | .mbBus r => { c with mbBus := c.mbBus ++ [r] }
  | .vpPort r => { c with vpPort := c.vpPort ++ [r] }
  | .twCable r => { c with twCable := c.twCable ++ [r] }
  | .cpcLoop r => { c with cpcLoop := c.cpcLoop ++ [r] }
  | .gtrGlobal r => { c with gtrGlobal := some r }
  | .gtrInput r => { c with gtrInput := c.gtrInput ++ [r] }
  | .gtrCmp r => { c with gtrCmp := c.gtrCmp ++ [r] }
  | .gtrOutput r => { c with gtrOutput := c.gtrOutput ++ [r] }
  | .seamPair r => { c with seamPair := some r }
  | .lacGlobal r => { c with lacGlobal := some r }
  | .lacChain r => { c with lacChain := c.lacChain ++ [r] }
  | .brmGlobal r => { c with brmGlobal := some r }
  | .brmBind r => { c with brmBind := c.brmBind ++ [r] }
  | .brmPartner r => { c with brmPartner := c.brmPartner ++ [r] }
  | .cufGlobal r => { c with cufGlobal := some r }
  | .cufChan r => { c with cufChan := c.cufChan ++ [r] }
  | .hemCfg r => { c with hemCfg := some r }
  | .clkBind r => { c with clkBind := c.clkBind ++ [r] }
  | .hstNet r => { c with hstNet := c.hstNet ++ [r] }
  | .hstUser r => { c with hstUser := c.hstUser ++ [r] }
  | .hstOcpp r => { c with hstOcpp := some r }

/-- The configuration that a list of records makes. -/
def Cfg.ofRecs (rs : List (Nat × ImgRec)) : Cfg := rs.foldl (fun c r => c.add r.2) {}

/-- Sum of the loops' sample rates, in samples per second (R174). -/
def loopRate (ls : List CpcLoop) : Rat := sumQ (ls.map (fun l => (10000 : Rat) / (l.period : Rat)))

/-- Count limits with the new record (R13, R360, R174, R478). -/
def countsOk (c : Cfg) : Bool :=
  decide ((c.cnpModule.filter (·.buf)).length ≤ 32) && decide (c.brmPartner.length ≤ 64)
    && decide (loopRate c.cpcLoop ≤ 160000) && decide (c.hstUser.length ≤ 32)

/-- The parent of a loop (R177). -/
def loopParents (ls : List CpcLoop) (n : Nat) : List CpcLoop := ls.filter (fun l => l.outSnk == 2 && l.outIdx == n)

/-- Depth of the chain above a loop, cut at 4 (R177); a cycle reaches 4. -/
def loopDepth (ls : List CpcLoop) : Nat → Nat → Nat
  | 0, _ => 0
  | k + 1, n => match loopParents ls n with
    | [] => 1
    | p :: _ => 1 + loopDepth ls k p.loop

/-- Cascades (R177): each child exists, has one parent and a sample rate not below it; at most three deep and no cycle. -/
def cascadeOk (ls : List CpcLoop) (l : CpcLoop) : Bool :=
  decide ((loopParents ls l.loop).length ≤ 1) && decide (loopDepth ls 4 l.loop ≤ 3)
    && (l.outSnk != 2 || ls.any (fun ch => ch.loop == l.outIdx && decide (ch.period ≤ l.period)))

/-- What a record names must be among the records `c` (R416 for the first-leaf block, R414 for the whole image). The
check-path channel of a port may have no record at all (R386). -/
def refsOk (c : Cfg) : ImgRec → Bool
  | .cnpModule r =>
    let has (g : Nat) : Bool := g == 0xFF || c.cnpGroup.any (fun x => x.group == g)
    has r.groupA && has r.groupB
  | .vpPort r => c.gtrInput.any (fun x => x.si == r.imdSi)
  | .twCable r => c.vpPort.any (fun x => x.port == r.port)
  | .cpcLoop r => ((r.pvSrc != 5 && r.pvSrc != 6) || c.twCable.any (fun x => x.port == r.pvIdx)) && (r.outSnk != 2 || c.cpcLoop.any (fun x => x.loop == r.outIdx))
      && (r.outSnk != 3 || c.brmBind.any (fun x => x.bind == r.outIdx && x.cmd))
      && (r.pvSrc != 0x30 || c.brmBind.any (fun x => x.bind == r.pvIdx && !x.cmd))
  | .brmBind r => c.brmPartner.any (fun x => x.addr == some r.addr)
  | _ => true

/-- Conditions on presence and absence over the whole image (R74, R94, R360, R386). -/
def wholeOk (v : Variant) (c : Cfg) : ImgRec → Bool
  | .cnpModule r => !r.buf || c.cnpBuffer.isSome
  | .cnpBuffer r => r.vbModules || v.chains != 0
  | .brmBind _ => c.brmGlobal.isSome
  | .cpcLoop r => cascadeOk c.cpcLoop r
  | .cufChan r =>
    if r.owner = 1 then c.cpcLoop.any (fun x => x.outSnk == 1 && x.outIdx == r.ch)
    else if r.owner = 2 then c.vpPort.any (fun x => x.chkCu == r.ch)
    else true
  | _ => true

/-- The type may stand in the first-leaf block only (Table 15.5). -/
def firstLeafOnly : ImgRec → Bool
  | .gtrGlobal _ | .gtrInput _ | .gtrCmp _ | .gtrOutput _ | .seamPair _ | .hemCfg _ | .cnpIntake _ | .vpPort _ => true
  | _ => false

end Sys2Proof.Machine
end

