-- ==== Sys2Proof/Machine/ImageCore.lean ====
section
/-! DEFINITION. The image flash, the judging of an image, the loader's states and the image operations
(spec/15_image_and_start.md R406–R428). -/

namespace Sys2Proof.Machine

/-- What a byte of an erased flash reads as. -/
def erasedByte : Byte := 0xFF

/-- One byte of a store. -/
def Store.get (m : Store) (a : Nat) : Byte :=
  match m.find? (fun c => c.1 == a) with
  | some c => c.2
  | none => erasedByte

/-- Write one byte, keeping the canonical form: rising addresses, no cell with the erased value. -/
def Store.set (m : Store) (a : Nat) (b : Byte) : Store :=
  let m := m.filter (fun c => c.1 ≠ a)
  if b = erasedByte then m else insertBy (·.1) (a, b) m

/-- The canonical form of a store. -/
def Store.wf : Store → Bool
  | [] => true
  | [c] => decide (c.2 ≠ erasedByte)
  | c :: d :: m => decide (c.2 ≠ erasedByte) && decide (c.1 < d.1) && Store.wf (d :: m)

/-- `n` bytes from an address. -/
def Store.read (m : Store) (a n : Nat) : List Byte := (List.range n).map (fun k => Store.get m (a + k))

/-- Write bytes from an address. -/
def Store.write (m : Store) (a : Nat) : List Byte → Store
  | [] => m
  | b :: bs => Store.write (Store.set m a b) (a + 1) bs

/-- The size of a slot (R406). -/
def slotSize : Nat := 16777216

/-- A page of a slot. -/
def pageSize : Nat := 4096

/-- A refusal: reason of Table 15.7, part, slot offset of the failing record or field. -/
structure ImgBad where
  reason : Nat
  part   : Nat
  off    : Nat
  deriving DecidableEq, Repr

/-- What judging records gives: the records with their offsets, and those skipped as absent and unknown. -/
structure RecsOk where
  recs    : List (Nat × ImgRec) := []
  absent  : Nat := 0
  unknown : Nat := 0
  deriving DecidableEq, Repr

/-- The fields of a header (Table 15.3). -/
structure ImgHeader where
  imgLen  : Nat
  flbLen  : Nat
  recLen  : Nat
  serial  : Nat
  authPk  : List Byte
  deriving DecidableEq, Repr

/-- The image authority anchor in force (Table 14.5). -/
def anchorOf (f : Fuses) (c : Cloak) : Nat :=
  match c.anchor with
  | none => f.anchor
  | some t => (t.take anchorBytes (fun _ => 0)).getD Config.anchorLost

/-- Header checks, reasons 1 to 5 (R411, R419, Table 15.7). `h` is the header's 128 bytes. -/
def judgeHeader (f : Fuses) (anchor : Nat) (h : List Byte) : Except ImgBad ImgHeader :=
  let flb := u h 12 4
  let rec_ := u h 16 4
  let img := u h 8 4
  let pk := (h.drop 56).take 60
  let bad (r o : Nat) : Except ImgBad ImgHeader := .error ⟨r, 0, o⟩
  if h.take 4 ≠ ascii "OTVR" then bad 1 0
  else if u h 4 2 ≠ 1 then bad 1 4
  else if u h 124 4 ≠ crc32c (h.take 124) then bad 2 124
  else if u h 6 2 ≠ 128 then bad 2 6
  else if !(rng 128 8192 flb && flb % 4 == 0) then bad 2 12
  else if !(decide (rec_ ≤ 16771160) && rec_ % 4 == 0) then bad 2 16
  else if img ≠ flb + 2964 + rec_ + 2964 ∨ slotSize < img then bad 2 8
  else if u h 24 4 % 2 ≠ 0 ∨ u h 24 4 / 32 ≠ 0 then bad 2 24
  else if u h 31 1 ≠ 0 then bad 2 28
  else if u h 116 8 ≠ 0 then bad 2 116
  else if !bitOf f.variant.code (u h 24 4) then bad 3 24
  else if f.fw % 2 ^ 24 < u h 28 4 then bad 4 28
  else if Config.sha256 pk ≠ anchor then bad 5 56
  else .ok { imgLen := img, flbLen := flb, recLen := rec_, serial := u h 20 4, authPk := pk }

/-- Judge one record (R413). DESIGN CHOICE (log 129): the CUF_CHAN of a channel that a first-leaf CHK_CU names may stand in the rest. Here
`bs` are the bytes of the part from the record on, `prev` the records read before, `rest` says that the part is the rest. Answers the length taken with padding, and the record; none: skipped, true if for an absent unit. -/
def judgeRec (f : Fuses) (rest : Bool) (prev : List (Nat × ImgRec)) (bs : List Byte) : Except Nat (Nat × Option ImgRec × Bool) :=
  let ty := u bs 0 2
  let len := u bs 2 2
  let t := ty % 2 ^ 15
  let total := (8 + len + 3) / 4 * 4
  let pay := (bs.drop 8).take len
  if bs.length < 8 ∨ bs.length < total then .error 8
  else if leNat ((bs.drop (8 + len)).take (total - 8 - len)) ≠ 0 then .error 8
  else if u bs 4 4 ≠ crc32c (bs.take 4 ++ pay) then .error 7
  else
    let absent := recAbsent f.variant t pay
    if (recLen t).isNone || absent then
      if bitOf 15 ty then .ok (total, none, absent) else .error 10
    else if recLen t ≠ some len then .error 8
    else match parseRec f t pay with
      | none => .error 9
      | some r =>
        if prev.any (fun p => recClash p.2 r) || !countsOk (Cfg.ofRecs (prev ++ [(0, r)])) then .error 9
        else if rest && firstLeafOnly r then .error 11
        else .ok (total, some r, false)

/-- Judge the records of a part in the order in which they stand (R412, R413). `o` is the slot offset of `bs`. -/
def judgeRecs (f : Fuses) (rest : Bool) : Nat → Nat → List Byte → List (Nat × ImgRec) → RecsOk → Except ImgBad RecsOk
  | 0, _, _, _, acc => .ok acc
  | k + 1, o, bs, prev, acc =>
    if bs.isEmpty then .ok acc
    else match judgeRec f rest prev bs with
      | .error r => .error ⟨r, if rest then 1 else 0, o⟩
      | .ok (n, some r, _) => judgeRecs f rest k (o + n) (bs.drop n) (prev ++ [(o, r)]) { acc with recs := acc.recs ++ [(o, r)] }
      | .ok (n, none, ab) =>
        judgeRecs f rest k (o + n) (bs.drop n) prev
          (if ab then { acc with absent := acc.absent + 1 } else { acc with unknown := acc.unknown + 1 })

/-- The first record of a list that fails a test. -/
def firstBad (test : ImgRec → Bool) (rs : List (Nat × ImgRec)) : Option Nat := (rs.find? (fun r => !test r.2)).map (·.1)

/-- What the first-leaf block gives when it passes. -/
structure LeafOk where
  hdr : ImgHeader
  got : RecsOk
  deriving DecidableEq, Repr

/-- The header and the first-leaf block (R419). `rd o n` reads the slot. -/
def judgeLeaf (f : Fuses) (anchor : Nat) (rd : Nat → Nat → List Byte) : Except ImgBad LeafOk :=
  match judgeHeader f anchor (rd 0 128) with
  | .error e => .error e
  | .ok h =>
    match judgeRecs f false 8192 128 (rd 128 (h.flbLen - 128)) [] {} with
    | .error e => .error e
    | .ok g =>
      if !Config.hssVerify h.authPk (rd 0 h.flbLen) (rd h.flbLen 2964) then .error ⟨6, 0, h.flbLen⟩
      else
        let c := Cfg.ofRecs g.recs
        if c.cnpIntake.isNone then .error ⟨11, 0, 0⟩
        else match firstBad (refsOk c) g.recs with
          | some o => .error ⟨11, 0, o⟩
          | none => .ok { hdr := h, got := g }

/-- The rest (R419): its records, the image signature, the conditions over the whole image (R414). -/
def judgeRest (f : Fuses) (rd : Nat → Nat → List Byte) (l : LeafOk) : Except ImgBad RecsOk :=
  let h := l.hdr
  let o := h.flbLen + 2964
  match judgeRecs f true h.recLen o (rd o h.recLen) l.got.recs {} with
  | .error e => .error e
  | .ok g =>
    if !Config.hssVerify h.authPk (rd 0 (h.imgLen - 2964)) (rd (h.imgLen - 2964) 2964) then .error ⟨12, 1, h.imgLen - 2964⟩
    else
      let all := l.got.recs ++ g.recs
      let c := Cfg.ofRecs all
      match firstBad (fun r => refsOk c r && wholeOk f.variant c r) all with
      | some x => .error ⟨9, 1, x⟩
      | none => .ok g

/-- Reading a slot of the flash, with a staged page 0 in its place where `staged` says so (R427 CHECK). -/
def Loader.rd (l : Loader) (slot : Fin 2) (staged : Bool) (o n : Nat) : List Byte :=
  let m := l.flash[slot]
  match l.mram.staged with
  | some (sl, pg) =>
    if staged && sl == slot then (List.range n).map (fun k => if o + k < pageSize then pg.getD (o + k) erasedByte else Store.get m (o + k))
    else Store.read m o n
  | none => Store.read m o n

/-- The leaf of the slot being read. -/
def Loader.leafOf (f : Fuses) (anchor : Nat) (l : Loader) (slot : Fin 2) (staged : Bool) : Except ImgBad LeafOk :=
  judgeLeaf f anchor (l.rd slot staged)

/-- Leaf and rest together. -/
def Loader.wholeOf (f : Fuses) (anchor : Nat) (l : Loader) (slot : Fin 2) (staged : Bool) : Except ImgBad (LeafOk × RecsOk) :=
  match l.leafOf f anchor slot staged with
  | .error e => .error e
  | .ok a => match judgeRest f (l.rd slot staged) a with
    | .error e => .error e
    | .ok g => .ok (a, g)

/-- Nominal ratios of the strap codes (Table 15.1): resistor in Ω, none for open. -/
def strapOhms : List (Option Nat) :=
  [none, some 0, some 3160, some 9530, some 16200, some 23700, some 32400, some 42200, some 53600, some 66500, some 82500, some 102000,
   some 127000, some 158000, some 205000, some 287000]

/-- The nominal ratio R / (R + 100 kΩ) of a code (R408). -/
def strapRatio : Option Nat → Rat
  | none => 1
  | some r => (r : Rat) / ((r : Rat) + 100000)

/-- The code whose nominal ratio lies within ±0.012 of the ratio read (R408). -/
def strapDecode (q : Rat) : Option Nat :=
  (List.range 16).find? (fun c => decide (absQ (strapRatio (strapOhms.getD c none) - q) ≤ 12 / 1000))

/-- The strap is latched (R408): code 0 with STRAP_INV where no band fits. True: the strap-invalid event is raised. -/
def strapLatch (q : Rat) (l : Loader) : Loader × Bool :=
  if l.st = .start ∧ l.strapOk = false then
    match strapDecode q with
    | some c => ({ l with strapOk := true, strap := c, strapInv := false }, false)
    | none => ({ l with strapOk := true, strap := 0, strapInv := true }, true)
  else (l, false)

/-- The other slot. -/
def otherSlot (s : Fin 2) : Fin 2 := if s = 0 then 1 else 0

/-- The first slot of R418: the boot-select word, else the strap's preference. -/
def Loader.first (l : Loader) : Fin 2 := l.mram.sel.getD (if bitOf 1 l.strap then 1 else 0)

/-- How the flash is read (R407): by the width of the strap (Table 15.1, bit 2) where its SFDP table is valid. -/
def flashRead (sfdp octal : Bool) : FlashRead := if !sfdp then .single else if octal then .octal else .quad

/-- The boot-select word and the BAD marks are read (R418): a copy that fails is restored from the other; where both fail, the word is invalid
and no slot BAD. -/
def Loader.bootRead (l : Loader) : Loader :=
  let m : ImgMram := { l.mram with copyOk := Vector.replicate 2 true }
  { l with mram := if l.mram.copyOk.toList.any id then m else { m with sel := none, bad := Vector.replicate 2 false } }

/-- A copy of the boot-select word and the BAD marks no longer passes its check. -/
def Loader.spoilBoot (second : Bool) (l : Loader) : Loader :=
  { l with mram := { l.mram with copyOk := updN l.mram.copyOk second.toNat (fun _ => false) } }

/-- LOADER_START (R417, R418). True: the image-refused event is raised. -/
def loaderStart (rootEnded sfdp : Bool) (l : Loader) : Loader × Bool :=
  if l.st ≠ .start ∨ l.strapOk = false ∨ rootEnded = false then (l, false)
  else
    let l := l.bootRead
    let a := l.first
    let b := otherSlot a
    let l : Loader := { l with sfdp := sfdp, read := flashRead sfdp (bitOf 2 l.strap) }
    if l.mram.bad[a] = false then ({ l with st := .flb, slot := a, tried := [a] }, false)
    else if l.mram.bad[b] = false then ({ l with st := .flb, slot := b, tried := [b], fallback := true }, false)
    else ({ l with st := .wait, errReason := 14, errPart := 0, errSlot := a.val, errWord := 0 }, true)

/-- A refusal is recorded (R417). -/
def Loader.refuse (l : Loader) (e : ImgBad) : Loader :=
  { l with errReason := e.reason, errPart := e.part, errSlot := l.slot.val, errWord := e.off / 4 }

/-- The refusal of the first-leaf block of the slot being read; none: it passes. A flash that does not answer gives reason 13. -/
def Loader.leafBad (f : Fuses) (anchor : Nat) (answers : Bool) (l : Loader) : Option ImgBad :=
  if answers then (match l.leafOf f anchor l.slot false with
    | .error e => some e
    | .ok _ => none)
  else some ⟨13, 0, 0⟩

/-- FIRST_LEAF_REFUSED (R417): the other slot, or WAIT. True: the image-refused event is raised. -/
def leafRefused (f : Fuses) (anchor : Nat) (answers : Bool) (l : Loader) : Loader × Bool :=
  if l.st ≠ .flb then (l, false)
  else match l.leafBad f anchor answers with
    | none => (l, false)
    | some e =>
      let b := otherSlot l.slot
      let r := l.refuse e
      if l.tried.contains b || l.mram.bad[b] then ({ r with st := .wait }, true)
      else ({ r with slot := b, tried := l.tried ++ [b], fallback := true }, false)

/-- FIRST_LEAF_APPLY (R417, R421): the loader's part; none: not due. -/
def leafApply (f : Fuses) (anchor : Nat) (l : Loader) : Option Loader :=
  if l.st ≠ .flb then none
  else match l.leafOf f anchor l.slot false with
    | .error _ => none
    | .ok a =>
      some { l with
        st := .rest
        leaf := a.got.recs
        shadow := l.rd l.slot false 0 a.hdr.flbLen
        skipAbsent := sat 16 a.got.absent
        skipUnknown := sat 16 a.got.unknown }

/-- REST_APPLY (R417, R422): the loader's part and the records of the rest; none: not due. -/
def restApply (f : Fuses) (anchor : Nat) (l : Loader) : Option (Loader × List (Nat × ImgRec)) :=
  if l.st ≠ .rest then none
  else match l.wholeOf f anchor l.slot false with
    | .error _ => none
    | .ok (a, g) =>
      some ({ l with
        st := .run
        serial := a.hdr.serial
        digest := Config.sha256 (l.rd l.slot false 0 a.hdr.imgLen)
        skipAbsent := sat 16 (l.skipAbsent + g.absent)
        skipUnknown := sat 16 (l.skipUnknown + g.unknown) }, g.recs)

/-- The refusal of the rest; none: it passes. -/
def Loader.restBad (f : Fuses) (anchor : Nat) (answers : Bool) (l : Loader) : Option ImgBad :=
  if answers then (match l.wholeOf f anchor l.slot false with
    | .error e => some { e with part := 1 }
    | .ok _ => none)
  else some ⟨13, 1, 0⟩

/-- REFUSED from REST or RUN (R417, R465): the reason, the BAD mark. -/
def Loader.toRefused (l : Loader) (e : ImgBad) : Loader :=
  let r := l.refuse e
  { r with st := .refused, mram := { l.mram with bad := l.mram.bad.set l.slot true } }

/-- REST_REFUSED (R417): the loader's part; none: not due. -/
def restRefused (f : Fuses) (anchor : Nat) (answers : Bool) (l : Loader) : Option Loader :=
  if l.st ≠ .rest then none
  else (l.restBad f anchor answers).map l.toRefused

/-- The slot whose image is applied is in use in FLB, REST and RUN (R426). -/
def Loader.inUse (l : Loader) (s : Fin 2) : Bool := (l.st == .flb || l.st == .rest || l.st == .run) && l.slot == s

/-- No operation may be written now (R427). -/
def Loader.opBlocked (l : Loader) : Bool := l.st == .start || l.st == .flb || l.st == .rest || l.op.isSome

/-- An operation is running, with its end. -/
def Loader.busy (l : Loader) (o : ImgOp) (e : OpEnd) : Loader := { l with op := some (o, e), opState := 1 }

/-- OP 1 ERASE (Table 15.9). -/
def imgErase (s : Fin 2) (l : Loader) : Status × Loader :=
  if l.opBlocked || l.inUse s then (.notInState, l)
  else
    let m := l.mram
    (.ok, { l.busy .erase {} with
      flash := l.flash.set s []
      mram := { m with
        bad := m.bad.set s false
        checked := m.checked.set s false
        sel := if m.sel = some s then none else m.sel
        staged := match m.staged with
          | some (x, p) => if x = s then none else some (x, p)
          | none => none } })

/-- The 4 KiB of SYS_IMG_WIN. -/
def Loader.winPage (l : Loader) : List Byte := winBytes 0 1024 l.win

/-- A page of a slot is erased. -/
def pageErased (m : Store) (page : Nat) : Bool := m.all (fun c => decide (c.1 < page * pageSize) || decide ((page + 1) * pageSize ≤ c.1))

/-- OP 2 PROG (Table 15.9): `verify` is what the flash's verification gives, `free` the bytes left by a page that fails
it. A page that is not erased, or fails verification, ends with FAILED and RESULT 13. -/
def imgProg (s : Fin 2) (verify : Bool) (free : List Byte) (l : Loader) : Status × Loader :=
  if l.opBlocked || l.inUse s then (.notInState, l)
  else
    let m : ImgMram := { l.mram with checked := l.mram.checked.set s false }
    if l.page = 0 then (.ok, { l.busy .prog {} with mram := { m with staged := some (s, l.winPage) } })
    else if pageErased l.flash[s] l.page then
      (.ok, { l.busy .prog (if verify then {} else { failed := true, result := some 13 }) with
        mram := m
        flash := l.flash.set s (Store.write l.flash[s] (l.page * pageSize) (if verify then l.winPage else free)) })
    else (.ok, { l.busy .prog { failed := true, result := some 13 } with mram := m })

/-- OP 3 CHECK (Table 15.9): the slot is judged, with a staged page 0, and nothing is applied. -/
def checkReason (f : Fuses) (anchor : Nat) (answers : Bool) (s : Fin 2) (l : Loader) : Nat :=
  if answers then (match l.wholeOf f anchor s true with
    | .error e => e.reason
    | .ok _ => 0)
  else 13

/-- OP 3 CHECK: acceptance and marks. -/
def imgCheck (f : Fuses) (anchor : Nat) (answers : Bool) (s : Fin 2) (l : Loader) : Status × Loader :=
  if l.opBlocked then (.notInState, l)
  else
    let r := checkReason f anchor answers s l
    if r = 0 then
      (.ok, { l.busy .check { result := some 0 } with
        mram := { l.mram with bad := l.mram.bad.set s false, checked := l.mram.checked.set s true } })
    else (.ok, l.busy .check { failed := true, result := some r })

/-- OP 4 SELECT (Table 15.9): a staged page 0 of the slot is written first; if its page is not erased or fails
verification the operation ends with FAILED and the boot-select word stays. -/
def imgSelect (s : Fin 2) (verify : Bool) (free : List Byte) (l : Loader) : Status × Loader :=
  let name (l' : Loader) : Loader := { l' with mram := { l'.mram with sel := some s } }
  if l.opBlocked || !l.mram.checked[s] then (.notInState, l)
  else match l.mram.staged with
    | none => (.ok, name (l.busy .select {}))
    | some (x, p) =>
      if x ≠ s then (.ok, name (l.busy .select {}))
      else if !pageErased l.flash[s] 0 then (.ok, l.busy .select { failed := true })
      else
        let b := l.busy .select { failed := !verify }
        let w : Loader := { b with flash := l.flash.set s (Store.write l.flash[s] 0 (if verify then p else free)) }
        if verify then (.ok, name { w with mram := { w.mram with staged := none } }) else (.ok, w)

/-- IMAGE_OP_DONE (R427): done or failed, and RESULT where the operation gives one. -/
def imgOpDone (l : Loader) : Loader :=
  match l.op with
  | none => l
  | some (_, e) => { l with op := none, opState := if e.failed then 3 else 2, result := e.result.getD l.result }

/-- Power-on and system reset (Table 15.13, R417): START; the MRAM, the flash and the shadow stay. -/
def Loader.sysReset (l : Loader) : Loader := { mram := l.mram, flash := l.flash, shadow := l.shadow }

end Sys2Proof.Machine
end

