-- ==== Sys2Proof/Machine/LacingCore.lean ====
section
/-! DEFINITION. Lacing (spec/11_lacing_stack_chain.md R310–R331): frames, chain states, sweep, limits, balancing and the
open-wire test. -/

namespace Sys2Proof.Machine

/-- What a chain puts on its line, with the instant in µs, or raises; `beyond` is a refused node that has no place in the partner
table (spec/18_host_and_discovery.md R487). -/
inductive LacOut where
  | frame (c at_ : Nat) (bytes : List Byte)
  | wake (c : Nat)
  | ev (e : Ev)
  | beyond
  deriving DecidableEq, Repr

/-- One chain at work: its number, records, the instant, and its outputs. -/
structure LX where
  c : LacCh
  n : Nat
  g : LacGlobal
  r : LacChain
  now : Nat
  swid : Nat
  out : List LacOut := []
  deriving DecidableEq, Repr

/-- Change the chain. -/
def LX.mod (x : LX) (f : LacCh → LacCh) : LX := { x with c := f x.c }
/-- Put out. -/
def LX.put (x : LX) (o : LacOut) : LX := { x with out := x.out ++ [o] }
/-- Put the same thing out `n` times. -/
def LX.puts (n : Nat) (o : LacOut) (x : LX) : LX := { x with out := x.out ++ List.replicate n o }
/-- Change node `h`. -/
def LX.node (x : LX) (h : Nat) (f : LacNode → LacNode) : LX := x.mod (fun c => { c with node := updN c.node h f })
/-- Node `h`. -/
def LX.nd (x : LX) (h : Nat) : LacNode := atD x.c.node h {}

/-- A command frame (Table 11.1). -/
def lacFrame (cmd target reg len : Nat) (data : List Byte) (cseq : Nat) : List Byte :=
  let b := leBytes 1 cmd ++ leBytes 1 target ++ leBytes 1 0 ++ leBytes 1 reg ++ leBytes 1 len ++ (data ++ List.replicate 4 0).take 4 ++ leBytes 1 cseq
  b ++ leBytes 2 (crc16 b)

/-- A change of chain state (R315). -/
def LX.to (st : LacSt) (x : LX) : LX := if x.c.st = st then x else (x.mod (fun c => { c with st := st })).put (.ev .lacingChain)

/-- The wake pattern is sent and the chain enters WAKE (Table 11.6). -/
def lacWake (x : LX) : LX :=
  ((x.mod (fun c => { c with
    wakeAt := x.now, cmd := none, todo := [], busy := [], owt := none, idents := [], enumDone := false })).put (.wake x.n)).to .wake

/-- SLEEP is sent and the chain is OFF; the nodes balance no longer (Table 11.2). -/
def lacSleep (x : LX) : LX :=
  ((x.put (.frame x.n x.now (lacFrame 0x30 0xFF 0 0 [] x.c.cseq))).mod (fun c => { c with
    cseq := (c.cseq + 1) % 256, cmd := none, todo := [], busy := [],
    owt := none, complete := false, node := c.node.map (fun nd => { nd with maskW := 0 }) })).to .off

/-- Command code, register, length and data of a step (Table 11.2). -/
def LacOp.form (g : LacGlobal) : LacOp → Nat × Nat × Nat × Nat × List Byte
  | .ident h => (0x01, h, 0x40, 8, [])
  | .read h => (0x01, h, 0x00, 48, [])
  | .mask h v => (0x02, h, 0x50, 2, leBytes 2 v)
  | .owt h => (0x20, h, 0, 1, leBytes 1 g.owSettle)
  | .owRead h => (0x01, h, 0x60, 32, [])

/-- Length of the response's data (Table 11.2). -/
def LacOp.rlen : LacOp → Nat
  | .ident _ => 8 | .read _ => 48 | .mask _ _ => 0 | .owt _ => 0 | .owRead _ => 32

/-- The instant at which a command can go out: in RUN once the conversion has ended (R320, R321). -/
def LX.sendAt (x : LX) : Nat := if x.c.st = .run then max x.now (x.c.convAt + 1580 + x.g.settle * 100) else x.now

/-- Send the command of a step. -/
def lacSend (op : LacOp) (retried : Bool) (x : LX) : LX :=
  let (cmd, t, reg, len, data) := op.form x.g
  (x.put (.frame x.n x.sendAt (lacFrame cmd t reg len data x.c.cseq))).mod (fun c =>
    { c with cseq := (c.cseq + 1) % 256, cmd := some { op := op, cseq := c.cseq, retried := retried, sentAt := x.sendAt } })

/-! ## Readings (R323, R327, R330) -/

/-- The value a cell takes for the limit checks, in 100 µV, and whether it is older than 1 s (R323). -/
def cellLimit (now : Nat) (k : LacCell) : Nat × Bool :=
  if k.open_ then (k.v, false) else
  match k.clean with
  | some (v, t) => if now ≤ t + 1000000 then (v, false) else (k.v, true)
  | none => (k.v, true)

/-- The median of a list of readings (R327); of an even number, the mean of the middle two. -/
def median (xs : List Nat) : Rat :=
  let s := sortBy id xs
  let n := s.length
  if n % 2 = 1 then (s.getD (n / 2) 0 : Rat) else ((s.getD (n / 2 - 1) 0 : Rat) + s.getD (n / 2) 0) / 2

/-- The open-wire check of one node (R327): suspect wires and DEV cells. -/
def nodeCheck (g : LacGlobal) (nd : LacNode) : LacNode :=
  let cells := nd.cell.toList
  let ok := cells.filter (fun k => !k.balx && !k.open_)
  if ok.length < 8 then nd else
  let m := median (ok.map (·.v))
  let v (k : Nat) : Rat := (atD nd.cell k {}).v
  let free (k : Nat) : Bool := !(atD nd.cell k {}).balx && !(atD nd.cell k {}).open_
  let dev (k : Nat) : Bool := decide ((g.devD : Rat) * 10 < absQ (v k - m))
  let tol : Rat := g.pairTol * 10
  let inner (j : Nat) : Bool := free (j - 1) && free j && dev (j - 1) && dev j && decide ((v (j - 1) - m) * (v j - m) < 0)
    && decide (absQ (v (j - 1) + v j - 2 * m) ≤ tol)
  let gapStk := decide (tol < absQ (sumQ ((List.range 16).map v) - nd.stk * 100))
  let sus := maskOf 17 (fun j => if j = 0 then dev 0 && gapStk else if j = 16 then dev 15 && gapStk else inner j)
  { nd with suspect := sus,
            cell := mapIdx nd.cell (fun k c =>
              let d := dev k && !bitOf k sus && !bitOf (k + 1) sus
              { c with dev := d, real := c.real && d }) }

/-- Cells of confirmed open wires report half the pair sum, or STK less the others (R330). -/
def openReport (nd : LacNode) : LacNode :=
  let raw (k : Nat) : Nat := (atD nd.cell k {}).raw
  let total := sumN ((List.range 16).map raw)
  let val (k : Nat) : Nat :=
    if k = 0 ∧ bitOf 0 nd.openW then (nd.stk * 100 - (total - raw 0)) / 10 * 10
    else if k = 15 ∧ bitOf 16 nd.openW then (nd.stk * 100 - (total - raw 15)) / 10 * 10
    else if k ≠ 0 ∧ bitOf k nd.openW then (raw (k - 1) + raw k) / 2 / 10 * 10
    else if bitOf (k + 1) nd.openW ∧ k ≠ 15 then (raw k + raw (k + 1)) / 2 / 10 * 10
    else raw k
  let isOpen (k : Nat) : Bool := bitOf k nd.openW || bitOf (k + 1) nd.openW
  { nd with cell := mapIdx nd.cell (fun k c => { c with v := val k, open_ := isOpen k }) }

/-- A valid result block (Table 11.3) is taken into a node; the first one after its admission shows the mask that it has kept (R319). -/
def takeResult (g : LacGlobal) (gate : Bool) (now : Nat) (d : List Byte) (stat : Nat) (nd : LacNode) : LacNode :=
  let mask := leAt d 38 2
  let balx (k : Nat) : Bool := !gate && !g.balGate && (bitOf k mask || (k ≠ 0 && bitOf (k - 1) mask) || (k ≠ 15 && bitOf (k + 1) mask))
  let fl := leAt d 37 1
  { nd with cell := mapIdx nd.cell (fun k c =>
              let v := leAt d (2 * k) 2
              { c with v := v, raw := v, balx := balx k, clean := if balx k then c.clean else some (v, now) }),
            t0 := leAtI d 32 2, t1 := leAtI d 34 2, stk := leAt d 40 2, mask := mask, got := true, miss := 0,
            maskW := if nd.known then nd.maskW else mask, known := true,
            uv := bitOf 3 stat, ref := bitOf 1 fl || bitOf 4 stat, balHot := bitOf 2 fl || bitOf 5 stat }

/-! ## Evaluation after the reads (steps 3 to 5 of R321) -/

/-- The nodes admitted. -/
def LX.nodes (x : LX) : List Nat := List.range x.c.found

/-- Lowest, highest and hottest of a chain after a complete sweep. -/
def lacExtremes (x : LX) : LX :=
  let cells : List (Nat × Nat × Nat) := x.nodes.flatMap (fun h => (List.range 16).map (fun k => ((cellLimit x.now (atD (x.nd h).cell k {})).1, h, k)))
  let lo := cells.foldl (fun (b : Option (Nat × Nat × Nat)) e => match b with | none => some e | some m => if e.1 < m.1 then some e else b) none
  let hi := cells.foldl (fun (b : Option (Nat × Nat × Nat)) e => match b with | none => some e | some m => if m.1 < e.1 then some e else b) none
  let ts : List (Int × Nat × Nat) := x.nodes.flatMap (fun h => [((x.nd h).t0, h, 0), ((x.nd h).t1, h, 1)])
  let th := ts.foldl (fun (b : Option (Int × Nat × Nat)) e => match b with | none => some e | some m => if m.1 < e.1 then some e else b) none
  x.mod (fun c => { c with vmin := lo.getD c.vmin, vmax := hi.getD c.vmax, tmax := th.getD c.tmax })

/-- The limit checks of a complete sweep (R323): each cell or temperature that crosses a limit raises its event. -/
def lacLimits (x : LX) : LX :=
  let cell (k : LacCell) : Bool := let v := (cellLimit x.now k).1; decide (x.r.cellOv * 10 < v) || decide (v < x.r.cellUv * 10)
  let temp (t : Int) : Bool := decide (x.r.tOt < t) || decide (t < x.r.tUt)
  let temps (nd : LacNode) : Nat := putB 0 (temp nd.t0) + putB 1 (temp nd.t1)
  let old := x.nodes.any (fun h => (x.nd h).cell.toList.any (fun k => (cellLimit x.now k).2))
  let new := sumN (x.nodes.map (fun h =>
    ((x.nd h).cell.toList.filter (fun k => cell k && !k.beyond)).length
      + ((List.range 2).filter (fun i => bitOf i (temps (x.nd h)) && !bitOf i (x.nd h).beyondT)).length))
  let x := x.nodes.foldl (fun x h => x.node h (fun nd =>
    { nd with beyondT := temps nd, cell := nd.cell.map (fun k => { k with beyond := cell k }) })) x
  let any := x.nodes.any (fun h => (x.nd h).beyondT != 0 || (x.nd h).cell.toList.any (·.beyond))
  x.mod (fun c => { c with limit := any || old }) |>.puts new (.ev .cellLimit)

/-- Eligibility for balancing after a complete sweep (R324). -/
def lacEligible (x : LX) : LX :=
  let vm := x.c.vmin.1
  x.nodes.foldl (fun x h => x.node h (fun nd =>
    let hot := decide (max nd.t0 nd.t1 < x.r.tOt)
    { nd with cell := mapIdx nd.cell (fun k c =>
      let v := (cellLimit x.now c).1
      let wires := bitOf k nd.openW || bitOf (k + 1) nd.openW
      let base := x.g.balEn && decide (x.g.balFloor * 10 ≤ v) && !wires && hot
      { c with elig := base && (decide (vm + x.g.balOn * 10 < v) || (c.elig && decide (vm + x.g.balOff * 10 < v))) }) })) x

/-- The mask of a node for the next sweep (R324, R327). -/
def lacMask (x : LX) (h : Nat) : Nat :=
  let nd := x.nd h
  if nd.suspect ≠ 0 then 0 else maskOf 16 (fun k => (atD nd.cell k {}).elig && k % 2 == (x.swid + 1) % 2)

/-- The node tested longest ago, of several the lowest hop (R329). -/
def LX.longestAgo (x : LX) (hs : List Nat) : Option Nat :=
  let key (h : Nat) : Nat := match (x.nd h).testedAt with
    | none => 0
    | some t => t + 1
  hs.foldl (fun (b : Option Nat) h => match b with
    | none => some h
    | some m => if key h < key m then some h else b) none

/-- The node whose open-wire test comes next (R328, R329): a suspect one, one that the host asks for, then one that is due. -/
def owtChoice (x : LX) : Option Nat :=
  let ready := x.nodes.filter (fun h => (x.nd h).maskW = 0)
  let due := ready.filter (fun h => match (x.nd h).testedAt with
    | none => true
    | some t => decide (t + x.g.owPeriod * 60000000 ≤ x.now))
  (x.longestAgo (ready.filter (fun h => (x.nd h).suspect ≠ 0))).orElse (fun _ =>
    (x.c.req.filter (fun h => ready.contains h)).orElse (fun _ => x.longestAgo due))

/-- A step that takes `us` can finish 2 ms before the next CONVERT (R321). -/
def LX.fits (us : Nat) (x : LX) : Bool := decide (x.now + us + 2000 ≤ x.c.convAt + x.g.sweepP * 1000)

/-- The longest time that a command takes with its response and the idle line (R321, R328): a test ends with its block's response. -/
def LacOp.time (g : LacGlobal) : LacOp → Nat
  | .ident h => 185 + 20 * h
  | .read h => 385 + 20 * h
  | .mask h _ => 145 + 20 * h
  | .owt h => 60 + g.owSettle * 2000 + 2600 + 60 + 40 + 20 * h + 195
  | .owRead h => 305 + 20 * h

/-- Step 3 of R321: the sweep is evaluated. -/
def lacEvaluate (x : LX) : LX :=
  let x := x.nodes.foldl (fun x h => if (x.nd h).got then x else x.node h (fun nd => { nd with miss := nd.miss + 1 })) x
  let full := x.nodes.all (fun h => (x.nd h).got) && decide (x.c.found = x.r.nodes)
  let sum := sumN (x.nodes.flatMap (fun h => (x.nd h).cell.toList.map (·.raw)))
  let x := x.mod (fun c => { c with evald := true, complete := full })
  if !full then x else
  let x := x.mod (fun c => { c with swid := x.swid, sum := sum / 10, doneAt := some x.now })
  let devOld := x.nodes.map (fun h => maskOf 16 (fun k => (atD (x.nd h).cell k {}).dev))
  let x := lacLimits (lacExtremes x)
  let x := x.nodes.foldl (fun x h => x.node h (nodeCheck x.g)) x
  let newDev := sumN (x.nodes.map (fun h =>
    ((List.range 16).filter (fun k => (atD (x.nd h).cell k {}).dev && !bitOf k (devOld.getD h 0))).length))
  lacEligible (x.puts newDev (.ev .cellDeviation))

/-- The mask writes of step 4 (R321, R324): the nodes whose mask is to change, as it was written last or as the block shows it. -/
def LX.maskOps (x : LX) : List LacOp :=
  if x.c.complete then (x.nodes.filter (fun h => lacMask x h ≠ (x.nd h).maskW || lacMask x h ≠ (x.nd h).mask)).map (fun h => LacOp.mask h (lacMask x h))
  else []

/-- The test of step 5: at most one in a sweep period (R329). -/
def LX.testOps (x : LX) : List LacOp := if x.c.owtDone || x.c.owt.isSome then [] else ((owtChoice x).map LacOp.owt).toList

/-- A step begins: first the commands that a node has answered with BUSY (R314), then its own. A step that cannot finish 2 ms before
the next CONVERT is not started (R321). -/
def lacBegin (n : Nat) (ops : List LacOp) (x : LX) : LX :=
  let all := x.c.busy ++ ops
  x.mod (fun c => { c with step := n, busy := [], todo := if x.fits (sumN (all.map (LacOp.time x.g))) then all else [] })

/-- The next command of a chain, step by step in the order of R321: the reads, what was BUSY among them and the evaluation, the masks, a
test. -/
def lacNext : Nat → LX → LX
  | 0, x => x
  | n + 1, x =>
    if x.c.cmd.isSome ∨ (x.c.st ≠ .run ∧ x.c.st ≠ .enum) then x else
    match x.c.todo with
    | op :: rest =>
      lacSend op false (x.mod (fun c => { c with todo := rest, owtDone := c.owtDone || (match op with | .owt _ => true | _ => false) }))
    | [] =>
      if x.c.st ≠ .run then x
      else match x.c.step with
        | 2 => lacNext n (lacBegin 3 [] x)
        | 3 =>
          let x := if x.c.evald then x else lacEvaluate x
          lacNext n (lacBegin 4 x.maskOps x)
        | 4 => lacNext n (lacBegin 5 x.testOps x)
        | 5 => lacNext n (lacBegin 6 [] x)
        | _ => x

/-- The command in flight has failed for good (R314). -/
def lacFailed (op : LacOp) (x : LX) : LX :=
  match op with
  | .ident _ => x.mod (fun c => { c with enumDone := true })
  | .owRead _ => x.mod (fun c => { c with owt := none })
  | .read _ | .mask _ _ | .owt _ => x

/-- A node answers BUSY (R314): the command is repeated at the next step; after the last step of the period it is given up. -/
def lacBusy (op : LacOp) (x : LX) : LX :=
  if x.c.st = .run ∧ 6 ≤ x.c.step then lacNext 6 (lacFailed op x) else lacNext 6 (x.mod (fun c => { c with busy := c.busy ++ [op] }))

/-- Repeat the command once, or give it up (R314). -/
def lacRepeat (x : LX) : LX :=
  match x.c.cmd with
  | none => x
  | some k =>
    let x := x.mod (fun c => { c with cmd := none })
    if k.retried then lacNext 6 (lacFailed k.op x) else lacSend k.op true x

/-- A node's open-wire block is judged (R328, R330): without an open wire each DEV cell is confirmed. -/
def owJudge (h : Nat) (d : List Byte) (x : LX) : LX :=
  let dl (k : Nat) : Int := leAtI d (2 * k) 2
  let thr : Int := x.g.owThr
  let open_ (j : Nat) : Bool :=
    if j = 0 then decide (dl 0 < -thr) else if j = 16 then decide (thr < dl 15) else decide (thr < dl (j - 1)) && decide (dl j < -thr)
  let nd := x.nd h
  let any := (List.range 17).any open_
  let new := (List.range 17).filter (fun j => open_ j && !bitOf j nd.openW)
  let x := x.node h (fun nd =>
    let clean := mapIdx nd.clean (fun _ n => if any then 0 else n + 1)
    let keep := maskOf 17 (fun j => open_ j || (bitOf j nd.openW && decide (atD clean j 0 < 2)))
    openReport { nd with openW := keep, clean := clean, cell := nd.cell.map (fun k => { k with real := k.real || (!any && k.dev) }), testedAt := some x.now, late := false })
  let x := x.mod (fun c => { c with
    owt := none, tests := satInc 8 c.tests,
    owWire := ((List.range 17).filter open_).getLast?.getD c.owWire, owNode := if any then h else c.owNode,
    owLate := (List.range c.found).any (fun h => (atD c.node h {}).late) })
  x.puts new.length (.ev .openWire)

/-- A response is judged (Table 11.5). A test that a node answers with BUSY has not run: R329 lets a chain run one in a sweep period, so the
next period's step 5 repeats it (DEDUCED). -/
def lacResponse (bs : List Byte) (x : LX) : LX :=
  match x.c.cmd with
  | none => x
  | some k =>
    let n := bs.length
    let want := k.op.rlen
    let (cmd, target, _, _, _) := k.op.form x.g
    let len := leAt bs 3 1
    if n < 2 ∨ crc16 (bs.take (n - 2)) ≠ leAt bs (n - 2) 2 then lacRepeat (x.mod (fun c => { c with eCrc := satInc 8 c.eCrc }))
    else if n < 7 ∨ 48 < len ∨ len ≠ want ∨ n ≠ 7 + len then lacRepeat (x.mod (fun c => { c with eBad := satInc 8 c.eBad }))
    else if leAt bs 0 1 ≠ cmd + 0x80 ∨ leAt bs 1 1 ≠ target ∨ leAt bs 2 1 ≠ k.cseq then
      lacRepeat (x.mod (fun c => { c with eBad := satInc 8 c.eBad }))
    else
      let d := (bs.drop 4).take len
      let stat := leAt bs (4 + len) 1
      let done (x : LX) : LX := x.mod (fun c => { c with cmd := none })
      match k.op with
      | .read h =>
        if leAt d 36 1 ≠ x.swid then lacNext 6 (done (x.mod (fun c => { c with eStale := satInc 8 c.eStale })))
        else if bitOf 2 stat then lacBusy k.op (done x)
        else lacNext 6 (done (x.node h (fun nd => openReport (takeResult x.g x.c.gate x.now d stat nd))))
      | .ident h =>
        if bitOf 2 stat then lacBusy k.op (done x) else
        let x := (done x).mod (fun c => { c with idents := c.idents ++ [leNat (d.take 6)] })
        if bitOf 0 (leAt d 7 1) ∨ h = 31 then x.mod (fun c => { c with enumDone := true, more := !bitOf 0 (leAt d 7 1) })
        else lacSend (.ident (h + 1)) false x
      | .mask h v =>
        if bitOf 2 stat then lacBusy k.op (done x)
        else lacNext 6 (done (x.node h (fun nd => { nd with maskW := v })))
      | .owt h =>
        if bitOf 2 stat then lacNext 6 (done x)
        else (done x).mod (fun c => { c with owt := some (h, k.sentAt, false), req := if c.req = some h then none else c.req })
      | .owRead h =>
        if bitOf 2 stat then lacBusy k.op (done x)
        else lacNext 6 (owJudge h d (done x))

/-- No response has begun in time (R314): 40 µs + 20 µs × h after the 60 µs command. -/
def lacTimeout (x : LX) : LX :=
  match x.c.cmd with
  | none => x
  | some k =>
    let (_, h, _, _, _) := k.op.form x.g
    if k.sentAt + 100 + 20 * h ≤ x.now then lacRepeat (x.mod (fun c => { c with eTmo := satInc 8 c.eTmo })) else x

/-- 10 ms after the wake pattern enumeration begins (Table 11.6). -/
def lacWakeDone (x : LX) : LX :=
  if x.c.st = .wake ∧ x.c.wakeAt + 10000 ≤ x.now then
    lacSend (.ident 0) false ((x.mod (fun c => { c with idents := [], enumDone := false, more := false, cmd := none, todo := [], busy := [] })).to .enum)
  else x

/-- Enumeration ends (R316, Table 11.6). A node beyond NODES or beyond node 31 is refused (spec/01_site_and_partners.md R19). -/
def lacEnum (x : LX) : LX :=
  if x.c.st ≠ .enum ∨ !x.c.enumDone then x else
  match x.c.idents with
  | [] =>
    let n := x.c.attempts + 1
    let x := x.mod (fun c => { c with attempts := n })
    if 3 ≤ n then (x.mod (fun c => { c with attempts := 0, faultAt := x.now, found := 0 })).to .fault else lacWake x
  | ids =>
    let found := min ids.length x.r.nodes
    let new := ((List.range found).filter (fun h =>
      decide (x.c.found ≤ h) || (x.nd h).lost || (x.nd h).serial != ids.getD h 0)).length
    let x := x.mod (fun c => { c with
      found := found, partial_ := decide (found < x.r.nodes), attempts := 0, admitAt := x.now, evald := true,
      owtDone := true, complete := false,
      node := mapIdx c.node (fun h nd => 
        if h < found then { nd with serial := ids.getD h 0, lost := false, miss := 0, got := false, known := false, refused := false }
        else { lost := nd.lost, serial := ids.getD h 0, refused := decide (h < ids.length) }) })
    (((x.puts (ids.length - found) (.ev .partnerRefused)).puts (if x.c.more then 1 else 0) .beyond).puts new (.ev .partnerAdmitted)).to .run

/-- 10 s after a chain entered FAULT (Table 11.6). -/
def lacRetry (x : LX) : LX := if x.c.st = .fault ∧ x.c.faultAt + 10000000 ≤ x.now then lacWake x else x

/-- A node's results are missing in 3 consecutive sweeps (Table 11.6): it is LOST, with every other node of the chain of which that holds. -/
def lacLost (h : Nat) (x : LX) : LX :=
  if x.c.st = .run ∧ h < x.c.found ∧ 3 ≤ (x.nd h).miss then
    lacWake (x.nodes.foldl (fun x k => if 3 ≤ (x.nd k).miss then x.node k (fun nd => { nd with lost := true, miss := 0 }) else x) x)
  else x

/-- A sweep period begins for a chain (R320, R321): CONVERT, and the reads once the conversion has ended. A sweep that is not evaluated
yet is evaluated first. In ENUM an identity that was BUSY is read again (R314). `x.swid` is the new sweep. -/
def lacSweep (x : LX) : LX :=
  if x.c.st = .enum ∧ x.c.cmd.isNone then lacNext 1 (x.mod (fun c => { c with todo := c.busy, busy := [] })) else
  if x.c.st ≠ .run then x else
  let x := if x.c.evald then x else { lacEvaluate { x with swid := (x.swid + 255) % 256 } with swid := x.swid }
  let gate := x.g.balGate || decide (x.swid % x.g.gateEvery = 0)
  let data := leBytes 1 x.swid ++ leBytes 1 x.g.settle ++ leBytes 1 (if gate then 1 else 0)
  let x := (x.put (.frame x.n x.now (lacFrame 0x10 0xFF 0 3 data x.c.cseq))).mod (fun c =>
    { c with cseq := (c.cseq + 1) % 256, cmd := none, gate := gate, convAt := x.now, evald := false, owtDone := false, busy := [],
             node := mapIdx c.node (fun _ nd => { nd with got := false }) })
  lacNext 6 (lacBegin 2 (x.nodes.map LacOp.read) x)

/-- OW_SETTLE × 2 + 2.6 ms after OWT the block is read (R328), and its response taken. -/
def owtRead (resp : Option (List Byte)) (x : LX) : LX :=
  match x.c.owt with
  | none => x
  | some (h, t, again) =>
    if x.c.cmd.isSome ∨ x.now < t + x.g.owSettle * 2000 + 2600 then x else
    let x := lacSend (.owRead h) again x
    match resp with
    | some bs => lacResponse bs x
    | none => x

/-- A node has gone untested for twice OW_PERIOD (R329). -/
def owLate (h : Nat) (x : LX) : LX :=
  if x.c.st = .run ∧ h < x.c.found ∧ !(x.nd h).late
      ∧ ((x.nd h).testedAt.getD x.c.admitAt) + x.g.owPeriod * 120000000 ≤ x.now then
    ((x.node h (fun nd => { nd with late := true })).mod (fun c => { c with owLate := true })).put (.ev .openWireTestLate)
  else x

/-- A test of the chain is running (R329): its command awaits a response, or its block is still to be read. -/
def LX.testing (x : LX) : Bool :=
  x.c.owt.isSome || (match x.c.cmd with
    | some k => (match k.op with
      | .owt _ => true
      | _ => false)
    | none => false)

/-- A host request for a test (R329); false: NOT_IN_STATE. -/
def owtRequest (h : Nat) (x : LX) : LX × Bool :=
  if x.c.st ≠ .run ∨ x.c.found ≤ h ∨ (x.nd h).maskW ≠ 0 ∨ x.c.req.isSome ∨ x.testing ∨ x.nodes.any (fun k => (x.nd k).suspect ≠ 0) then
    (x, false)
  else (x.mod (fun c => { c with req := some h }), true)

end Sys2Proof.Machine
end

