-- ==== Sys2Proof/Machine/State.lean ====
section
/-! DEFINITION. The state of the device: every unit's registers, queues and pins, and the queue of commands that wait. Also
what the device sends to the outside, the faults and refusals of a step, and the state at reset. -/

namespace Sys2Proof.Machine

/-- What the device sends or shows to the outside world. -/
inductive Out where
  /-- A frame that a module-bus controller puts on its bus. -/
  | can (b : Nat) (id : Nat) (data : List Byte)
  /-- An answer to a vehicle, and a connection that the port closes. -/
  | v2g (p : Nat) (a : V2gAns)
  | v2gClose (p : Nat)
  /-- An answer to SECC discovery (R138, R143): over the 10BASE-T1S link or the modem, with the TCP server port. -/
  | sdp (p : Nat) (phy : Bool) (tcp : Nat)
  /-- A frame of the Sleeve's forward link, and a command frame of the main die to the Sleeve: code, counter, arguments. -/
  | slvFrame (bs : List Byte)
  /-- The link key that the Sleeve sends to a head at its pairing (R232). -/
  | headKey (p key : Nat)
  | slvCommand (frame : List Byte)
  /-- A Seam frame on a lane. -/
  | seam (lane : Nat) (f : SeamFrame)
  /-- The pair binding's part of this unit (R392): certificate, ephemeral public key, signature of the identity key. -/
  | pairBind (cert : IdCert) (epk sig : List Byte)
  | lac (o : LacOut)
  | brm (o : BrmOut)
  /-- How a host access or command ends: status and words. -/
  | done (st : Status) (ws : List Nat)
  /-- How an SPI transaction ends (R474): status, words and CRC-16. -/
  | spi (st : Status) (ws : List Nat) (crc : Nat)
  /-- An Esing response of connection `k`: type, status, words. -/
  | esing (k : Nat) (st : Status) (tag : Nat) (ws : List Nat)
  | esLog (k : Nat) (st : Status) (tag : Nat) (es : List LogE)
  /-- An Esing EVENT message, and a connection closed by the device. -/
  | esEvent (k : Nat) (ev : Nat) (entry : LogE)
  | esClose (k : Nat)
  /-- A TransactionEvent; the other messages of the OCPP client by name; an Authorize request, with the contract
  certificate of Plug and Charge (R140). -/
  | ocpp (m : OcppWire)
  | ocppCall (what : String) (arg : Nat)
  | authorize (p : Nat) (pnc : Bool) (token : Nat) (cert : List Byte)
  deriving DecidableEq, Repr

/-- The state of the device. -/
structure State where
  /-- Time in µs on the model's own clock, never reset; by it every duration is measured. -/
  mono : Nat := 0
  /-- The device timebase in µs (spec/16_reset_clocks_domains.md R445). -/
  tb : Nat := 0
  /-- The model's counter of free values. -/
  fresh : Nat := 0
  /-- The commands that wait, first in, first out. -/
  pending : List Instr := []
  fuses : Fuses := {}
  cfg : Cfg := {}
  rst : Rst := {}
  gld : Glade := {}
  thk : Thicket := {}
  site : SiteRegs := {}
  cnp : Canopy := {}
  mb : BusUnit := {}
  ports : Vector Port 12 := Vector.replicate 12 {}
  /-- The transports of the ports' V2G connections (spec/10_seam_pair.md R289). -/
  v2g : Vector V2gLink 12 := Vector.replicate 12 {}
  twins : Vector Twin 12 := Vector.replicate 12 {}
  cpc : Coppice := {}
  gtr : Gaiter := {}
  slv : Sleeve := {}
  slvLink : SlvLink := {}
  slvCtr : SlvCtr := {}
  seam : Seam := {}
  lac : Lacing := {}
  brm : Bramble := {}
  cuf : Cuff := {}
  hem : Hem := {}
  clk : Cloak := {}
  img : Loader := {}
  hst : Hst := {}
  /-- The session counter in MRAM: the next value and the top of the reservation (R155). -/
  sessNext : Nat := 1
  sessTop : Nat := 1
  /-- _HI words captured by a read of their _LO register: device address and word (R255, R472). -/
  hiCap : List (Nat × Nat) := []
  /-- What has been sent to the outside, oldest first. -/
  out : List Out := []
  deriving DecidableEq, Repr

/-- Why a step stops. No rule of the spec stops the machine at a command, so no constructor stands here: a command always
has a next state. -/
inductive Fault where
  deriving DecidableEq, Repr

/-- Why a command is refused by the model. -/
inductive Refusal where
  /-- Raised by an arm of `exec` whose command has no meaning yet; safe. No arm raises it. -/
  | notModelled (mnemonic : String)
  deriving DecidableEq, Repr

/-- The machine right after reset: the power-on reset has begun and its release sequence has not run
(spec/16_reset_clocks_domains.md R430, R437); every register at its reset value. The Sleeve holds the copy of the lane key
that it received at manufacture (spec/14_cloak_keys.md Table 14.2, slot 3). -/
def State.reset : State :=
  { slv := { lane := #v[{ key := some (sleeveLaneKey 0 Config.rootSecret) }, {}] } }

end Sys2Proof.Machine
end

