-- ==== Sys2Proof/Machine/Ops.lean ====
section
/-! DEFINITION. The operations that the commands share: time and free values, events and status codes
(spec/17_thicket_and_events.md), what runs in reset and in standby (spec/16_reset_clocks_domains.md R432, R433, R449), and one
operation per unit that runs a function of the unit and hands its effects to the other units. -/

namespace Sys2Proof.Machine

/-! ### Time, free values, output -/

/-- GLD_SEC now (spec/16_reset_clocks_domains.md Table 16.9). -/
def State.sec (s : State) : Nat := s.gld.sec s.mono

/-- `d` µs have passed since `t0`. -/
def State.passed (t0 d : Nat) (s : State) : Bool := decide (t0 + d ≤ s.mono)

/-- A free value, and the state that has used it. -/
def State.free (s : State) : Nat × State := (Config.freeValue s.fresh, { s with fresh := s.fresh + 1 })

/-- Something is sent to the outside. -/
def State.emit (o : Out) (s : State) : State := { s with out := s.out ++ [o] }

/-- Several things are sent. -/
def State.emits (os : List Out) (s : State) : State := { s with out := s.out ++ os }

/-- Do `f` where the condition holds; else nothing changes. -/
def State.onlyIf (b : Bool) (f : State → State) (s : State) : State := if b then f s else s

/-! ### What runs -/

/-- The main die is out of power-on and system reset (spec/16_reset_clocks_domains.md R431). -/
def State.up (s : State) : Bool :=
  match s.rst.hold with
  | none => true
  | some h => h.level == 2

/-- The unit is the standby of a pair (spec/10_seam_pair.md Table 10.1). -/
def State.standby (s : State) : Bool := s.seam.role == .standby

/-- The cores run their functions: no reset, no pending system reset of R433, not OFF in standby (R432, R433, R449). A unit
that has chosen standby keeps its cores until its rest is applied or refused (spec/15_image_and_start.md R425). -/
def State.cores (s : State) : Bool :=
  s.rst.hold.isNone && !s.rst.coresOut && !(s.standby && s.img.st != .flb && s.img.st != .rest)

/-- The units that are OFF in standby but need no core (R449): Coppice, Lacing, Bramble. -/
def State.side (s : State) : Bool := s.up && !s.standby

/-- The unit has given up control and only awaits the handover (spec/10_seam_pair.md R296). -/
def State.releasedRole (s : State) : Bool := s.seam.role == .released

/-- Canopy of this unit runs its ticks: its cores run, and it neither has released control nor waits for a role. -/
def State.canopyOn (s : State) : Bool :=
  s.cores && s.cnp.started && (s.seam.role == .single || s.seam.role == .active || s.seam.role == .taking)

/-- Canopy answers an ANNOUNCE only in REDUCED or RUN (spec/04_module_bus.md R124). -/
def State.answersAnnounce (s : State) : Bool := s.canopyOn && (s.cnp.mode == .reduced || s.cnp.mode == .run)

/-- Port `p` is present (spec/00_scope.md R4). -/
def State.hasPort (p : Nat) (s : State) : Bool := decide (p < s.fuses.variant.ports)

/-- The Sleeve is present. -/
def State.hasSleeve (s : State) : Bool := s.fuses.variant.sleeve

/-! ### Events and status (R467 to R471) -/

/-- A connection is told of an event with its log entry (spec/18_host_and_discovery.md R480). -/
def esNotify (e : Nat) (entry : LogE) (k : Nat) (a : State) : State :=
  match atD a.hst.conn k none with
  | none => a
  | some c =>
    if !bitOf e c.mask then a
    else if 64 ≤ c.unsent then { a with hst := { a.hst with evDrop := satInc 8 a.hst.evDrop } }
    else { a with
      hst := { a.hst with conn := updN a.hst.conn k (fun _ => some { c with unsent := c.unsent + 1 }) }
      out := a.out ++ [.esEvent k e entry] }

/-- An event source is raised, with the index that its rule names (R470, R480). In reset nothing is raised. -/
def State.raiseAt (e : Ev) (idx : Nat) (s : State) : State :=
  if !s.up then s
  else
    let a := { s with thk := s.thk.raise e idx s.tb s.sec }
    let entry := s.thk.entry e idx s.tb s.sec
    esNotify e.num entry 1 (esNotify e.num entry 0 a)

/-- An event source is raised. -/
def State.raise (e : Ev) (s : State) : State := s.raiseAt e 0

/-- Event sources are raised, in order. -/
def State.raises (es : List Ev) (s : State) : State := es.foldl (fun a e => a.raise e) s

/-- What the end of a register access or command leaves in THK_ (R467, R469): NOT_IN_STATE is counted and raised; any status
other than OK is the last one. Every access has held a tag. -/
def State.judged (st : Status) (addr : Nat) (s : State) : State :=
  let s := { s with thk := (s.thk.pulseTag).endWith st.code addr }
  if st = .notInState then ({ s with thk := { s.thk.countNis (some addr) with own := none } }).raiseAt (s.thk.own.getD .notInState) addr else s

/-- A host command at a register address ends with a status. -/
def State.finish (addr : Nat) (r : Status × State) : State := (r.2.judged r.1 addr).emit (.done r.1 [])

/-- A command without a register address is in the wrong state: counted; `e` is raised where its chapter names an event of
its own (R467). -/
def State.wrongState (e : Option Ev) (s : State) : State :=
  ({ s with thk := s.thk.countNis none }).raise (e.getD .notInState)

/-- Event sources are raised with their indices, in order. -/
def State.raisesAt (es : List (Ev × Nat)) (s : State) : State := es.foldl (fun a e => a.raiseAt e.1 e.2) s

/-! ### Records -/

/-- The record of port `p`. -/
def State.vp (p : Nat) (s : State) : VpPort := (s.cfg.vpPort.find? (fun r => r.port == p)).getD { port := p }

/-- The Canopy record of port `p`. -/
def State.cnpPortRec (p : Nat) (s : State) : Option CnpPort := s.cfg.cnpPort.find? (fun r => r.port == p)

/-- The rating of port `p` in 0.1 A. -/
def State.rating (p : Nat) (s : State) : Nat := (s.vp p).iRated

/-! ### Gaiter -/

/-- Gaiter with its records and the instant. -/
def State.gctx (s : State) : GCtx where
  g := s.gtr
  glob := s.cfg.gtrGlobal.getD {}
  ins := s.cfg.gtrInput
  cmps := s.cfg.gtrCmp
  outs := s.cfg.gtrOutput
  iOpen := (List.range 12).map (fun p => (s.vp p).iOpen * 10)
  temps := s.rst.temp
  tb := s.tb
  now := s.mono
  eff := []

/-- The device is in Clearing, or its trip latch is set (spec/02_canopy_allocation.md R60). -/
def State.clearing (s : State) : Bool := s.gtr.st == .clearing || s.gtr.latch.isSome

/-! ### Ports -/

/-- The contactor gate of the Sleeve for port `p` is closed (spec/05_vehicle_ports.md R133): none on a variant without a
Sleeve; a spare Sleeve follows the mirror (spec/09_billing_and_tamper.md R281). -/
def State.sleeveGate (p : Nat) (s : State) : Bool :=
  !s.hasSleeve || (if (s.slv.legal.map (·.role)) = some 1 then !bitOf 0 (mirGet (0x30C + 0x10 * p) s.slvLink.bil) else s.slv.gateClosed p)

/-- The pins of a port (R127 to R129, R132, R133): pilot waveform, link units, and the drive that reaches the coils: the stack's command
through Gaiter's gate and the Sleeve's. -/
structure PortPins where
  wave : Waveform
  link : LinkUnits
  coil : Drive
  deriving DecidableEq, Repr

/-- What port `p` shows on its pins; the kind of an unconfigured port is that of an empty record. -/
def State.portPins (p : Fin 12) (s : State) : PortPins where
  wave := s.ports[p].wave
  link := (s.vp p).link
  coil := if s.gtr.gates[p].en && s.sleeveGate p then s.ports[p].drive else .off

/-- A service that uses TLS has a key: the slot bound to it, with the TLS usage (spec/14_cloak_keys.md R391, R403). -/
def State.serviceKey (n : Nat) (s : State) : Bool :=
  match s.cfg.clkBind.find? (fun r => r.service == n) with
  | some r => (s.clk.usable r.slot [.p256, .p384] 3).isSome
  | none => false

/-- What port `p` reads of other units. -/
def State.penv (p : Fin 12) (s : State) : PEnv where
  now := s.mono
  cfg := s.vp p
  gate := s.gtr.gates[p].en
  sgate := s.sleeveGate p
  imdOk := (atD s.gtr.ins (s.vp p).imdSi {}).closed && !(atD s.gtr.ins (s.vp p).imdSi {}).fault
  clearing := s.clearing
  ocpp := s.cfg.hstOcpp.isSome
  whole := s.img.st == .run
  held := s.hst.ocpp.held[p]
  checkCap := ((s.cnpPortRec p).map (fun r => (r.checkCap : Rat) / 10)).getD 5
  rand := Config.freeValue s.fresh
  rngOk := !s.clk.rngFail
  tlsKey := s.serviceKey 0
  nextSess := s.sessNext
  alloc := s.cnp.ports[p].iPrev
  adv := s.cnp.ports[p].toldAdv
  advDis := s.cnp.ports[p].toldDis
  lim := s.cnp.ports[p].toldLim

/-- A message as it goes out, with the public keys of this Sleeve's records (spec/18_host_and_discovery.md R483). -/
def State.ocppOut (m : OcppMsg) (s : State) : Out := .ocpp (m.wire (Config.recordPublic s.slv.serial) (Config.recordEcPublic s.slv.serial))

/-- The OCPP client sends a TransactionEvent (spec/18_host_and_discovery.md R484, R485): at once on an established link,
else it is queued. -/
def State.ocppSend (kind : OcppKind) (p tx : Nat) (rc oc : Option (List Byte)) (s : State) : State :=
  let (m, o) := newMsg kind p tx s.seam.gen rc oc s.hst.ocpp
  if o.st = 3 then { s with hst := { s.hst with ocpp := o }, out := s.out ++ [s.ocppOut m] }
  else { s with hst := { s.hst with ocpp := { o with queue := enqueue m o.queue } } }

/-- The newest transaction of a port, with its port, where its session has ended (spec/18_host_and_discovery.md R483). -/
def Ocpp.ended (p : Fin 12) (o : Ocpp) : List (Fin 12 × OcppTx) :=
  match o.tx[p] with
  | some t => if t.endAt.isSome then [(p, t)] else []
  | none => []

/-- The client's transaction of port `p` begins with its authorisation, or ends with its session
(spec/01_site_and_partners.md Table 1.5, spec/18_host_and_discovery.md R483). -/
def State.ocppFollow (p : Fin 12) (before : Port) (s : State) : State :=
  if s.cfg.hstOcpp.isNone then s
  else
    let q := s.ports[p]
    if q.auth = .given ∧ before.auth ≠ .given then
      let s := { s with hst := { s.hst with ocpp := { s.hst.ocpp with
        tx := upd s.hst.ocpp.tx p (fun _ => some { num := q.sess, startAt := s.slv.utcS, meterAt := s.mono })
        old := s.hst.ocpp.old ++ s.hst.ocpp.ended p
        limit := upd s.hst.ocpp.limit p (fun _ => none) } } }
      s.ocppSend .started p q.sess none none
    else
      match s.hst.ocpp.tx[p] with
      | none => s
      | some t =>
        if t.endAt.isNone ∧ !q.st.inSession then
          { s with hst := { s.hst with ocpp := { s.hst.ocpp with
              tx := upd s.hst.ocpp.tx p (fun _ => some { t with endAt := some s.mono }) } } }
        else s

/-- A service has found no suitable slot: its request completes with NOT_IN_STATE and raises the key-missing event (spec/14_cloak_keys.md
R391, spec/17_thicket_and_events.md R467). -/
def State.keyMissed (s : State) : State := ({ s with clk := (keyMissing s.clk).c }).wrongState (some .keyMissing)

/-- The main die sends a command frame to the Sleeve (spec/08_sleeve_metrology.md R246, R247): the counter is reserved ahead in
blocks of 256; without the lane's key no frame can be sent (spec/14_cloak_keys.md R389). -/
def State.slvSend (code : Nat) (args : List Byte) (s : State) : State :=
  if !s.hasSleeve then s
  else match s.clk.usable 3 [.hmac] 1 with
    | none => s.keyMissed
    | some k =>
      let n := s.slvCtr.next
      { s with slvCtr := { next := n + 1, top := if s.slvCtr.top ≤ n then n + 256 else s.slvCtr.top },
               out := s.out ++ [.slvCommand (cmdFrame k.key code n args)] }

/-- A channel's record is applied (spec/13_cuff_and_hem.md R371); in STANDBY Cuff commands every channel off (R373). -/
def State.cufApply (r : CufChan) (s : State) : State :=
  let c := cuffApply r s.cuf
  { s with cuf := if s.standby then cuffAllOff c else c }

/-- The check-path channel of a port follows its port (spec/05_vehicle_ports.md R136). -/
def State.checkPath (p : Fin 12) (before : Bool) (s : State) : State :=
  let on := s.ports[p].chkOn
  if on = before ∨ (s.vp p).chkCu = 0xFF then s else { s with cuf := cuffDuty 2 (s.vp p).chkCu (if on then 1000 else 0) s.cuf }

/-- A value of the session counter is used (R155): reserved ahead in MRAM in blocks of 16. -/
def State.useSess (s : State) : State :=
  { s with sessNext := (s.sessNext + 1) % 2 ^ 32, sessTop := if s.sessTop = s.sessNext then (s.sessNext + 16) % 2 ^ 32 else s.sessTop,
           fresh := s.fresh + 1, clk := { s.clk with requests := s.clk.requests + 1 } }

/-- Change the transport of port `p`'s connection. -/
def State.linkOf2g (p : Fin 12) (f : V2gLink → V2gLink) (s : State) : State := { s with v2g := upd s.v2g p f }

/-- What a message does to the transport that carries it (spec/10_seam_pair.md R289): a new connection begins its counts and, over TLS
1.3, has its secrets. -/
def State.hear2g (p : Fin 12) (s : State) (m : PortMsg) : State :=
  match m with
  | .connOpen isn tls =>
    if s.ports[p].conn.isSome then s
    else
      let key (d : Nat) : Nat := if tls.isSome then Config.trafficSecret (Config.freeValue s.fresh) d else 0
      { s.linkOf2g p (fun _ => { seqIn := (isn + 1) % 2 ^ 32, seqOut := (Config.tcpFirst (Config.freeValue s.fresh) + 1) % 2 ^ 32,
                                 tls := tls.isSome, keyIn := key 0, keyOut := key 1 }) with fresh := s.fresh + 1 }
  | .connClosed => s.linkOf2g p (fun _ => {})
  | m => match m.head with
    | some h => s.linkOf2g p (V2gLink.heard h.len)
    | none => s

/-- Without a connection there is no transport. -/
def State.tidy2g (p : Fin 12) (s : State) : State := if s.ports[p].conn.isNone then s.linkOf2g p (fun _ => {}) else s

/-- One effect of a port; `token` is the identifier of an authorisation request. -/
def State.portEff (p : Fin 12) (token : Nat) (s : State) : PEff → State
  | .ev e => s.raiseAt e p
  | .answer a => (s.linkOf2g p (fun l => l.sent (Config.answerLen a.sid l.seqOut s.mono))).emit (.v2g p a)
  | .close => (s.linkOf2g p (fun _ => {})).emit (.v2gClose p)
  | .keyMiss => s.keyMissed
  | .rngMiss => s.wrongState none
  | .askAuth pnc cert => s.emit (.authorize p pnc token cert)
  | .useHeld => { s with hst := { s.hst with ocpp := { s.hst.ocpp with held := upd s.hst.ocpp.held p (fun _ => false) } } }
  | .sleeveStart =>
    let s : State := { s with slvLink := { s.slvLink with starts := ((s.slvCtr.next, s.ports[p].sess) :: s.slvLink.starts).take 64 } }
    s.slvSend 0x30 (leBytes 1 p ++ leBytes 3 0 ++ leBytes 4 s.ports[p].sess ++ leBytes 4 0)
  | .sleeveStop => s.slvSend 0x31 (leBytes 1 p ++ leBytes 1 s.ports[p].endR.code ++ leBytes 2 0 ++ leBytes 4 s.ports[p].sess)
  | .newSess => s.useSess

/-- Run a function of port `p` and hand its effects on. -/
def State.portRun (p : Fin 12) (token : Nat) (f : PCtx → PCtx) (s : State) : State :=
  let before := s.ports[p]
  let c := f { p := before, e := s.penv p, eff := [] }
  let s := { s with ports := upd s.ports p (fun _ => c.p) }
  let s := c.eff.foldl (fun a x => a.portEff p token x) s
  (s.checkPath p before.chkOn).ocppFollow p before

/-- The client answers an authorisation request offline (spec/18_host_and_discovery.md R484, Table 18.6): the local list, the
cache, and unknown tokens with OFFLINE_UNKNOWN. -/
def State.offlineOk (token : Nat) (s : State) : Bool :=
  s.hst.ocpp.localList.contains token || s.hst.ocpp.cache.contains token || ((s.cfg.hstOcpp.map (·.offlineUnknown)).getD false)

/-- The client has no link, so that it authorises offline (R484). -/
def State.ocppOffline (s : State) : Bool := s.cfg.hstOcpp.isSome && s.hst.ocpp.st != 3

/-- Run a function of port `p`; an authorisation that it asks for is refused while the queue of the lost link is full, and
answered at once while there is no link (R484). -/
def State.portDo (p : Fin 12) (token : Nat) (f : PCtx → PCtx) (s : State) : State :=
  let asked (a : Port) : Bool := decide (a.auth = .asked)
  let s' := s.portRun p token f
  if asked s'.ports[p] && !asked s.ports[p] && s'.ocppOffline then
    s'.portRun p token (authAnswer (!s'.hst.ocpp.queueFull && s'.offlineOk token))
  else s'

/-- The port is present, its record is applied and its hardware runs. -/
def State.portUp (p : Fin 12) (s : State) : Bool := s.hasPort p && s.up && s.ports[p].run

/-- The port's protocol stack runs: it needs the application cores (R432). A unit that has released control leaves its contactors and
gates as they are (spec/10_seam_pair.md R296). -/
def State.stackUp (p : Fin 12) (s : State) : Bool := s.portUp p && s.cores && s.seam.role != .released

/-- The temperature and flow inputs of a present port are measured, whatever records it has (spec/06_cooling_and_loops.md R159, R161). -/
def State.inputsUp (p : Fin 12) (s : State) : Bool := s.hasPort p && s.up && s.cores

/-! ### Gaiter's effects -/

/-- The session of a port ends abruptly by a PORT response (spec/07_gaiter_safety.md R196). -/
def State.endPort (p : Fin 12) (si : Nat) (s : State) : State :=
  if s.ports[p].st.inSession then s.portDo p 0 (portResponse (si == (s.vp p).imdSi)) else s

/-- One effect of Gaiter. -/
def State.gtrEff (s : State) : GEff → State
  | .ev e => s.raiseAt e s.gtr.cause.idx
  | .endPort p si => if h : p < 12 then s.endPort ⟨p, h⟩ si else s

/-- A running injection aborts where the device enters Clearing (spec/06_cooling_and_loops.md R184). -/
def State.clearingAbort (before : Bool) (s : State) : State :=
  if s.clearing && !before then
    let r := injStop 4 s.cpc
    if r.2 then ({ s with cpc := r.1 }).raise .injectionEnded else s
  else s

/-- Run a function of Gaiter and hand its effects on. -/
def State.gtrDo (f : GCtx → GCtx) (s : State) : State :=
  let c := f s.gctx
  (c.eff.foldl State.gtrEff { s with gtr := c.g }).clearingAbort s.clearing

/-- A soft request with its cause kind and index (R203, R204). -/
def State.softRequest (kind idx : Nat) (s : State) : State :=
  s.gtrDo (fun c => softReq 100000 (c.causeAt kind idx) c)

/-! ### Sleeve -/

/-- Run a function of the Sleeve; its events reach the main die. -/
def State.slvDo (f : SX → SX) (s : State) : State :=
  let x := f { s := s.slv }
  ({ s with slv := x.s }).raises x.evs

/-- Run a function of the Sleeve that raises nothing. -/
def State.slvMod (f : Sleeve → Sleeve) (s : State) : State := { s with slv := f s.slv }

/-- The Sleeve is present, has power and works. -/
def State.slvOn (s : State) : Bool := s.hasSleeve && s.slv.powered

/-! ### Lacing, Bramble, Hem, Cloak -/

/-- One output of a Lacing chain. -/
def State.lacEff (s : State) : LacOut → State
  | .ev e => s.raise e
  | .beyond => ({ s with hst := { s.hst with ptRefused := satInc 16 s.hst.ptRefused } }).raise .partnerRefused
  | o => s.emit (.lac o)

/-- Run a function of Lacing chain `c`; without a record the chain stays OFF (spec/11_lacing_stack_chain.md R315). -/
def State.lacDo (c : Fin 4) (f : LX → LX) (s : State) : State :=
  match s.cfg.lacChain.find? (fun r => r.chain == c.val) with
  | none => s
  | some r =>
    let x := f { c := s.lac.ch[c], n := c, g := s.cfg.lacGlobal.getD {}, r := r, now := s.mono, swid := s.lac.swid }
    x.out.foldl State.lacEff { s with lac := { s.lac with ch := upd s.lac.ch c (fun _ => x.c) } }

/-- Lacing runs: not in standby (R449), and not after RELEASE has been sent (spec/11_lacing_stack_chain.md R319). -/
def State.lacRuns (s : State) : Bool := s.side && !s.releasedRole

/-- Chain `c` is present and Lacing runs. -/
def State.lacOn (c : Fin 4) (s : State) : Bool := decide (c.val < s.fuses.variant.chains) && s.lacRuns

/-- The key of Bramble's key slot (spec/12_bramble_site_link.md R346). -/
def State.siteKey (s : State) : Option Nat :=
  (s.clk.usable ((s.cfg.brmGlobal.getD {}).keySlot) [.hmac] 1).map (·.key)

/-- Bramble with its records and the instant. -/
def State.bctx (s : State) : BX where
  b := s.brm
  now := s.mono
  g := s.cfg.brmGlobal.getD {}
  parts := s.cfg.brmPartner
  binds := s.cfg.brmBind
  epoch := s.mb.epoch
  own := s.fuses.brmId
  key := s.siteKey
  free := Config.freeValue s.fresh
  fresh := s.fresh + 1

/-- One output of Bramble. -/
def State.brmEff (s : State) : BrmOut → State
  | .ev .partnerRefused => ({ s with hst := { s.hst with ptRefused := satInc 16 s.hst.ptRefused } }).raise .partnerRefused
  | .ev .keyMissing => s.keyMissed
  | .ev e => s.raise e
  | .soft => s.softRequest 7 0
  | o => s.emit (.brm o)

/-- Run a function of Bramble and hand its outputs on. -/
def State.brmDo (f : BX → BX) (s : State) : State :=
  let x := f s.bctx
  x.out.foldl State.brmEff { s with brm := x.b, fresh := s.fresh + 1 + x.draws }

/-- Bramble is present and runs. -/
def State.brmOn (s : State) : Bool := s.fuses.variant.bramble && s.side && s.brm.run

/-- What Hem reads of other units for its fault records (spec/13_cuff_and_hem.md Table 13.5). -/
def State.hemEnv (s : State) : HemEnv where
  now := s.mono
  ts := s.tb % 2 ^ 32
  boot := s.gld.resets[0] % 2 ^ 16
  temp := s.rst.tMax / 10

/-- Run a function of Hem and raise its events. -/
def State.hemDo (f : HX → HX) (s : State) : State :=
  let x := f { h := s.hem, e := s.hemEnv }
  ({ s with hem := x.h }).raises x.evs

/-- Run a function of Cloak and raise its events. -/
def State.clkDo (f : Cloak → CkX) (s : State) : State :=
  let x := f s.clk
  let a := ({ s with clk := x.c }).raises x.evs
  if x.miss.isSome then a.wrongState x.miss else a

/-- Run a function of the thermal twin of port `p`. -/
def State.twinMod (p : Fin 12) (f : Twin → Twin) (s : State) : State := { s with twins := upd s.twins p f }

/-! ### Resets (spec/16_reset_clocks_domains.md R431, R433, Table 16.2) -/

/-- Hem after a power-on or system reset (spec/13_cuff_and_hem.md R376, R387): its records stay in MRAM. -/
def Hem.sysReset (h : Hem) : Hem := { ring := h.ring }

/-- Seam after a system reset: the generation and the takeover registers stay (spec/10_seam_pair.md Table 10.12), and the mirrored journal
in MRAM (R290). -/
def Seam.sysReset (m : Seam) : Seam :=
  { gen := m.gen, ring := m.ring, mir := m.mir, mirTwins := m.mirTwins, takes := m.takes, reason := m.reason, dur := m.dur, takeTs := m.takeTs, other := m.other, lowAt := m.lowAt, lastTake := m.lastTake }

/-- The parts of the main die that a power-on and a system reset both reset (Table 16.2). MRAM, the Sleeve, the Cuff retained
domain and Glade keep their state. -/
def State.mainReset (power : Bool) (s : State) : State :=
  { s with
    tb := 0
    cfg := {}
    thk := s.thk.sysReset power
    site := {}
    cnp := {}
    mb := { epoch := s.mb.epoch }
    ports := Vector.replicate 12 {}
    v2g := Vector.replicate 12 {}
    twins := Vector.replicate 12 {}
    cpc := {}
    gtr := {}
    slvLink := { slv := [], bil := [] }
    slvCtr := { s.slvCtr with next := s.slvCtr.top }
    seam := s.seam.sysReset
    lac := {}
    brm := {}
    hem := s.hem.sysReset
    clk := s.clk.sysReset
    img := s.img.sysReset
    hst := s.hst.sysReset
    sessNext := s.sessTop
    hiCap := [] }

/-- Of sources of one level that fire together the lowest code counts (R435). DESIGN CHOICE (log 119): together is within one
microsecond of the model's clock. -/
def State.meets (level src : Nat) (s : State) : Nat :=
  match s.rst.hold with
  | some h => if h.level = level ∧ h.at_ = s.mono then min src h.src else src
  | none => src

/-- A system reset from source `src` begins (R431). -/
def State.sysResetNow (h : Hold) (s : State) : State := { s.mainReset false with rst := s.rst.sysReset { h with src := s.meets h.level h.src, at_ := s.mono } }

/-- A power-on reset from source `src` begins (R431): the takeover registers of Seam are restored too. -/
def State.powerResetNow (src : Nat) (s : State) : State :=
  let h : Hold := { level := 0, src := s.meets 0 src, at_ := s.mono }
  let s := s.mainReset true
  { s with rst := Rst.powerReset h, gld := s.gld.count src,
           seam := { s.seam with takes := 0, reason := 0, dur := 0, takeTs := 0 } }

/-- An identifier of an ANNOUNCE (spec/04_module_bus.md Table 4.3). -/
def isAnnounce (id : Nat) : Bool := decide (0x740 ≤ id) && decide (id ≤ 0x77F)

/-- The ANNOUNCE frames that wait are discarded (spec/04_module_bus.md R124). -/
def MBus.dropAnnounces (m : MBus) : MBus := { m with rxq := m.rxq.filter (fun x => !isAnnounce x.id) }

/-- A core reset begins (R431, R433): the cores stop, no waiting ANNOUNCE will be answered (spec/04_module_bus.md R124), the command lane's
counter resumes from the top of its reservation (spec/08_sleeve_metrology.md R247), and nothing else changes; one that arrives during a release sequence is counted and discarded (R435). -/
def State.coreHold (src : Nat) (s : State) : State :=
  let s := { s with gld := s.gld.count src }
  if s.rst.hold.isSome then s
  else { s with
    slvCtr := { s.slvCtr with next := s.slvCtr.top }
    rst := { s.rst with hold := some { level := 2, src := src, at_ := s.mono } }
    mb := { s.mb with bus := s.mb.bus.map MBus.dropAnnounces } }

/-- Sources 4, 7 and 8 (R433): a core reset at once and a pending system reset; a second firing keeps the bound and the
source of the first. `cause`: the release cause of spec/10_seam_pair.md Table 10.6 that this is, 0 for none. -/
def State.pendReset (src cause : Nat) (s : State) : State :=
  if !s.up then { s with gld := s.gld.count src }
  else
    let s := s.coreHold src
    let p := s.rst.pend.getD { src := src, at_ := s.mono }
    { s with rst := { s.rst with coresOut := true, pend := some { p with causes := p.causes ||| 2 ^ cause } } }

/-- The response of an Esing request, where the connection still stands. -/
def State.esAnswer (k : Nat) (st : Status) (tag : Nat) (ws : List Nat) (s : State) : State :=
  if (atD s.hst.conn k none).isSome then s.emit (.esing k st tag ws) else s

/-- How an SPI transaction ends (spec/18_host_and_discovery.md R474): the CRC-16 goes over its bytes in both directions. DEDUCED (log
121): header, data words of a write, status, data words of a read. -/
def spiEnd (sent : List Byte) (st : Status) (ws : List Nat) : Out :=
  .spi st ws (crc16 (sent ++ leBytes 1 st.code ++ (ws.map (leBytes 4)).flatten))

/-- A relayed access has ended: the host that asked is answered (spec/10_seam_pair.md R306) with the words read, or the number of words
written. -/
def State.relayDone (r : RelayPend) (st : Status) (done : Nat) (s : State) : State :=
  let s : State := { s with seam := { s.seam with relay := none } }
  if r.chan = 0 then s.emit (spiEnd r.sent st (if r.write then [] else r.got))
  else s.esAnswer (r.chan - 1) st r.esTag (if r.write then [done] else r.got)

/-- The access under way ends with NOT_IN_STATE (spec/10_seam_pair.md R306). -/
def State.relayEnd (s : State) : State :=
  match s.seam.relay with
  | none => s
  | some r => s.relayDone r .notInState r.got.length

end Sys2Proof.Machine
end

