-- ==== Sys2Proof/Machine/Operands.lean ====
section
/-! DEFINITION. The operand forms of a register access: the page groups of the device address map
(spec/00_scope.md R513, Table 0.4), places in a table of registers, and the two halves of a 64-bit register
(spec/08_sleeve_metrology.md R255, spec/17_thicket_and_events.md R472). -/

namespace Sys2Proof.Machine

/-- The page groups of Table 0.4. -/
inductive Page where
  | sys | rst | gld | thk | gtr | seam | hem | cnp | cuf | brm | slv | bil
  | mb (m : Nat)
  | vp (n : Nat)
  | clk | lac | hst | cpc
  deriving DecidableEq, Repr

/-- The page group of a device address, and the offset in it (R513). -/
def pageOf (a : Nat) : Option (Page × Nat) :=
  if a < 0x2000 then some (.sys, a)
  else if a < 0x3000 then some (.rst, a - 0x2000)
  else if a < 0x4000 then some (.gld, a - 0x3000)
  else if a < 0x5000 then some (.thk, a - 0x4000)
  else if a < 0x6000 then some (.gtr, a - 0x5000)
  else if a < 0x7000 then some (.seam, a - 0x6000)
  else if a < 0x8000 then some (.hem, a - 0x7000)
  else if a < 0x9000 then some (.cnp, a - 0x8000)
  else if a < 0xA000 then some (.cuf, a - 0x9000)
  else if a < 0xB000 then some (.brm, a - 0xA000)
  else if a < 0xC000 then some (.slv, a - 0xB000)
  else if a < 0xD000 then some (.bil, a - 0xC000)
  else if a < 0x11000 then some (.mb ((a - 0xD000) / 0x1000), a % 0x1000)
  else if a < 0x1D000 then some (.vp ((a - 0x11000) / 0x1000), a % 0x1000)
  else if a < 0x20000 then none
  else if a < 0x24000 then some (.clk, a - 0x20000)
  else if a < 0x28000 then some (.lac, a - 0x24000)
  else if a < 0x2C000 then some (.hst, a - 0x28000)
  else if a < 0x40000 then none
  else if a < 0x60000 then some (.cpc, a - 0x40000)
  else none

/-- The base address of a page group (Table 0.4). -/
def Page.base : Page → Nat
  | .sys => 0 | .rst => 0x2000 | .gld => 0x3000 | .thk => 0x4000 | .gtr => 0x5000 | .seam => 0x6000 | .hem => 0x7000
  | .cnp => 0x8000 | .cuf => 0x9000 | .brm => 0xA000 | .slv => 0xB000 | .bil => 0xC000
  | .mb m => 0xD000 + 0x1000 * m
  | .vp n => 0x11000 + 0x1000 * n
  | .clk => 0x20000 | .lac => 0x24000 | .hst => 0x28000 | .cpc => 0x40000

/-- The unit or instance of a page group is present (spec/00_scope.md R4 to R6, Table 0.2). -/
def Page.present (v : Variant) : Page → Bool
  | .seam => v.seam
  | .brm => v.bramble
  | .slv => v.sleeve
  | .bil => v.sleeve
  | .lac => decide (0 < v.chains)
  | .mb m => decide (m < v.buses)
  | .vp n => decide (n < v.ports)
  | _ => true

/-- The place of an offset in a table of `n` entries of `stride` bytes from `base`: entry and offset in it. -/
def slotOf (o base stride n : Nat) : Option (Nat × Nat) :=
  if base ≤ o ∧ o < base + stride * n then some ((o - base) / stride, (o - base) % stride) else none

/-- A register reads as `w` and nothing changes. -/
def rd (w : Nat) (s : State) : Option (Nat × State) := some (w, s)

/-- One half of a 64-bit register whose _LO half stands at device address `a`: a read of _LO captures the other half, and the
next read of _HI gives it (R472). -/
def rd64 (a : Nat) (hi : Bool) (v : Nat) (s : State) : Option (Nat × State) :=
  let kept := s.hiCap.filter (fun e => e.1 ≠ a + 4)
  if hi then
    match s.hiCap.find? (fun e => e.1 == a + 4) with
    | some e => some (e.2, { s with hiCap := kept })
    | none => some (v / 2 ^ 32 % 2 ^ 32, s)
  else some (v % 2 ^ 32, { s with hiCap := (a + 4, v / 2 ^ 32 % 2 ^ 32) :: kept })

/-- A write to a register that its page does not name as writable: an RO register takes it and keeps its value (R469); where
no register stands, there is none. -/
def roWrite (r : Option (Nat × State)) (s : State) : Option (Status × State) :=
  if r.isSome then some (.ok, s) else none

end Sys2Proof.Machine
end

