-- ==== Sys2Proof/Machine/SiteOps.lean ====
section
/-! DEFINITION. What Canopy reads of the site at a snapshot (spec/02_canopy_allocation.md R27), the intake measurement
(spec/03_canopy_limits_and_faults.md R66, R68), and the frames that the real-time core puts on the module buses
(spec/04_module_bus.md). -/

namespace Sys2Proof.Machine

/-- The rating of port `p` in A. -/
def State.ratingA (p : Nat) (s : State) : Rat := (s.rating p : Rat) / 10

/-- The thermal cap of port `p` in A: the rating without a TW_CABLE record (spec/06_cooling_and_loops.md R161). -/
def State.tcapA (p : Nat) (s : State) : Rat :=
  if s.cfg.twCable.any (fun r => r.port == p) then ((atD s.twins p {}).cTh : Rat) / 10 else s.ratingA p

/-- What the snapshot latches of port `p` (R27, Table 2.5; the degraded-mode cap by spec/07_gaiter_safety.md R209, the profile
by spec/18_host_and_discovery.md R482; no demand in CHECK and PRECHARGE while the measurement is invalid,
spec/08_sleeve_metrology.md R228). -/
def State.portIn (p : Fin 12) (s : State) : PortIn where
  cfg := s.cnpPortRec p
  phase := if s.ports[p].phaseOff then .off else s.ports[p].st.phase
  bpt := s.ports[p].bpt
  dem :=
    if !(s.vp p).vsrcMod && s.slvLink.port[p].invalid && (s.ports[p].st == .check || s.ports[p].st == .precharge) then 0
    else demand { p := s.ports[p], e := s.penv p, eff := [] }
  v := (s.ports[p].measV : Rat) / 10
  rating := s.ratingA p
  vehMax := some ((s.ports[p].evI : Rat) / 10)
  disMax := some (min ((s.ports[p].evDis : Rat) / 10) (((s.vp p).iDis : Rat) / 10))
  tcap := some (s.tcapA p)
  profile := if s.cfg.hstOcpp.isSome then some ((s.hst.ocpp.limit[p]).getD (s.ratingA p)) else none
  degCap := if s.gtr.st = .degraded then some (s.ratingA p * ((s.cfg.gtrGlobal.getD {}).degCap : Rat) / 100) else some (s.ratingA p)

/-- The bus of module `n` and its address there (spec/01_site_and_partners.md R18). -/
def State.linkOf (n : Nat) (s : State) : PmLink := atD (atD s.mb.bus (n / 64) {}).link (n % 64) {}

/-- What the snapshot latches of module `n` (R27). -/
def State.modIn (n : Nat) (s : State) : ModIn where
  cfg := s.cfg.cnpModule.find? (fun r => r.pm == n)
  admitted := (s.linkOf n).admitted
  arrive := (s.linkOf n).fresh
  lost := (s.linkOf n).lost || (s.linkOf n).gone
  status := (s.linkOf n).last

/-- The output of loop `n`, 0 without a loop. -/
def State.loopOut (n : Nat) (s : State) : Rat :=
  match (s.cpc.loop n).recd with
  | some _ => fVal (s.cpc.loop n).out
  | none => 0

/-- The import cap in force in kW (R64). -/
def State.gcap (s : State) : Rat :=
  let c := min (((s.cfg.cnpIntake.getD {}).gCapCfg : Rat) / 10) ((s.cnp.gcapHost : Rat) / 10)
  match s.hst.ocpp.station with
  | some x => min c x
  | none => c

/-- The admitted strings that have completed a sweep: mean string voltage over their latest sweeps in V, none without one (R70). -/
def State.vbLac (s : State) : Option Rat :=
  let cs := s.lac.ch.toList.filter (fun c => c.st == .run && c.doneAt.isSome)
  if cs.isEmpty then none else some (sumQ (cs.map (fun c => (c.sum : Rat) / 1000)) / (cs.length : Rat))

/-- An admitted string has completed a sweep within 1 s (R70). -/
def State.vbFresh (s : State) : Bool :=
  s.lac.ch.toList.any (fun c => c.st == .run && (match c.doneAt with
    | some t => decide (s.mono ≤ t + 1000000)
    | none => false))

/-- Highest and lowest cell in 100 µV over the chains that have completed a sweep (R72). -/
def State.lacCells (s : State) : Option (Nat × Nat) :=
  let cs := s.lac.ch.toList.filter (fun c => c.doneAt.isSome)
  if cs.isEmpty then none
  else some ((cs.map (fun c => c.vmax.1)).foldl max 0, (cs.map (fun c => c.vmin.1)).foldl min (2 ^ 16))

/-- The snapshot of a tick (R27). -/
def State.cnpIn (s : State) : CnpIn where
  now := s.mono
  ports := (List.finRange 12).map (fun p => s.portIn p)
  mods := (List.range 256).map (fun n => s.modIn n)
  clearing := s.clearing
  soft := s.gtr.st == .soft || s.cnp.rampDown
  glob := s.cfg.cnpGlobal.getD {}
  intake := s.cfg.cnpIntake.getD {}
  buffer := s.cfg.cnpBuffer
  groups := s.cfg.cnpGroup
  gcap := s.gcap
  nCfg := s.cfg.cnpPort.length
  vbLac := s.vbLac
  vbFresh := s.vbFresh
  cells := s.lacCells
  tau := s.loopOut 63
  tauB := s.loopOut 62

/-- The present ports, in rising number (R30). -/
def State.presentPorts (s : State) : List Nat := List.range s.fuses.variant.ports

/-- A new intake measurement of `w` kW (R66, R68): U takes a larger sample at once and else decays towards it; after a stale
interval it takes the sample. -/
def State.measure (w : Rat) (s : State) : State :=
  let i := s.cnpIn
  let c := s.cnp
  let smp := w - i.pModel c
  let d : Rat := ((s.mono - c.measAt : Nat) : Rat) / ((i.intake.tauRel * 100000 : Nat) : Rat)
  let v := if c.measStale ∨ c.u < smp then smp else smp + (c.u - smp) * decay d
  { s with cnp := { c with
      u := max 0 v, lx := max 0 v + (i.intake.gMargin : Rat) + c.tau, measAt := s.mono, measStale := false, pMeas := w,
      pMeasLog := (c.pMeasLog ++ [(s.mono, w)]).filter (fun e => s.mono ≤ e.1 + 1000000) } }

/-- The image has buffer-role modules (R74). -/
def State.hasBuffer (s : State) : Bool := s.cfg.cnpModule.any (·.buf)

end Sys2Proof.Machine
end

