-- ==== Sys2Proof/Machine/BusOps.lean ====
section
/-! DEFINITION. The module-bus controllers and the frames of the device (spec/04_module_bus.md R96–R126): bus load, one-shot
results, group, HOLD, port limit and ADMIT frames, receipt and enumeration. A frame command stands at its start of frame. -/

namespace Sys2Proof.Machine

/-- Change bus `b`. -/
def State.busMod (b : Fin 4) (f : MBus → MBus) (s : State) : State := { s with mb := { s.mb with bus := upd s.mb.bus b f } }

/-- Controller `b` is present, configured and not in bus-off. -/
def State.busOn (b : Fin 4) (s : State) : Bool :=
  decide (b.val < s.fuses.variant.buses) && s.up && ((s.mb.bus[b]).fcs == .active || (s.mb.bus[b]).fcs == .passive)

/-- The record of bus `b`, with the defaults of Table 4.2 where the image has none. -/
def State.busRec (b : Nat) (s : State) : MbBusRec := (s.cfg.mbBus.find? (fun r => r.bus == b)).getD { bus := b }

/-- NOW of MBn_LOAD: bus time of the last 100 ms, which has 8,000,000 cycles of the CAN clock, in 0.1 %. -/
def MBus.load (now : Nat) (m : MBus) : Nat :=
  sat 10 (((m.loadLog.filter (fun e => decide (now < e.1 + 100000))).map (·.2)).foldl (· + ·) 0 / 8000)

/-- A frame occupies the bus for some cycles of the CAN clock; what is older than 100 ms leaves the window of MBn_LOAD. -/
def MBus.busy (now cycles : Nat) (m : MBus) : MBus :=
  let m := { m with loadLog := (now, cycles) :: m.loadLog.filter (fun e => decide (now < e.1 + 100000)) }
  { m with loadPeak := max m.loadPeak (m.load now) }

/-- The DLC code of a payload length that the profile uses (ISO 11898-1). -/
def dlcOf (n : Nat) : Nat :=
  if n ≤ 8 then n else if n ≤ 12 then 9 else if n ≤ 16 then 10 else if n ≤ 20 then 11 else if n ≤ 24 then 12
  else if n ≤ 32 then 13 else if n ≤ 48 then 14 else 15

/-- The bits of a number, most significant first. -/
def bitsMsb (w n : Nat) : List Bool := (List.range w).map (fun i => bitOf (w - 1 - i) n)

/-- The number of stuff bits after the bits of a list, each with the last bit sent and its run so far: one after five equal bits, and
that one begins a new run. -/
def stuffBits : Bool → Nat → List Bool → Nat
  | _, _, [] => 0
  | last, run, x :: xs =>
    let r := if x = last then run + 1 else 1
    if r = 5 then 1 + stuffBits (!x) 1 xs else stuffBits x r xs

/-- Bits of a frame at the nominal rate and at the data rate (ISO 11898-1): a base-format FD frame with bit-rate switching. SOF to BRS
and CRC delimiter to the interframe space are nominal; ESI to the CRC, with its stuff count and fixed stuff bits, are fast. -/
def frameBits (esi : Bool) (id : Nat) (data : List Byte) : Nat × Nat :=
  let head := [false] ++ bitsMsb 11 id ++ [false, false, true, false, true]
  let body := [esi] ++ bitsMsb 4 (dlcOf data.length) ++ data.flatMap (fun x => bitsMsb 8 x.toNat)
  let slow := stuffBits true 0 head
  let crc := if data.length ≤ 16 then 4 + 17 + 6 else 4 + 21 + 7
  (head.length + slow + 13, body.length + (stuffBits true 0 (head ++ body) - slow) + crc)

/-- Bus time of a frame of the device in cycles of the CAN clock, at the bit timing of its record (R98, Table 4.2). -/
def frameTime (r : MbBusRec) (esi : Bool) (id : Nat) (data : List Byte) : Nat :=
  let n := frameBits esi id data
  n.1 * (r.nbrp * (1 + r.ntseg1 + r.ntseg2)) + n.2 * (r.dbrp * (1 + r.dtseg1 + r.dtseg2))

/-- A frame is sent without error; ESI shows an error-passive controller. -/
def State.canSend (b : Fin 4) (id : Nat) (data : List Byte) (s : State) : State :=
  (s.busMod b (MBus.busy s.mono (frameTime (s.busRec b) ((s.mb.bus[b]).fcs == .passive) id data))).emit (.can b id data)

/-! ### Frames of the device -/

/-- A payload with its CHECK at offset `o` (R110): the CRC-32C over the payload with the four bytes zero. -/
def checkedAt (o : Nat) (bs : List Byte) : List Byte := bs.take o ++ leBytes 4 (crc32c bs) ++ bs.drop (o + 4)

/-- The control block of a group frame, CHECK still zero (Table 4.5). -/
def controlBlock (epoch seq b j : Nat) : List Byte :=
  leBytes 2 epoch ++ leBytes 2 seq ++ [1, BitVec.ofNat 8 (j + 4 * b)] ++ leBytes 10 0

/-- Entry `e` without its control byte (Table 4.4): setpoint in 0.5 A, selection, ADM. -/
def groupEntry (x : Option GrpEntry) : List Byte :=
  match x with
  | some g => if g.adm then leBytes 2 (enc 16 (g.sp / 5)) ++ [BitVec.ofNat 8 (g.sel % 16 + 16)] else [0, 0, 0x0F]
  | none => [0, 0, 0x0F]

/-- The 64 bytes of a group frame for four-byte entries `es` and control bytes `cs`. -/
def groupWeave : List (List Byte) → List Byte → List Byte
  | e :: es, c :: cs => e ++ [c] ++ groupWeave es cs
  | _, _ => []

/-- The control block of a received group frame. -/
def controlOf (bs : List Byte) : List Byte := (List.range 16).map (fun e => bs.getD (4 * e + 3) 0)

/-- CHECK of a group frame (R110): the CRC-32C over its 64 bytes with C[8] to C[11] zero. -/
def groupCheck (bs : List Byte) : Nat :=
  crc32c ((List.range 64).map (fun n => if n % 4 = 3 ∧ 8 ≤ n / 4 ∧ n / 4 < 12 then 0 else bs.getD n 0))

/-- The group frame of group `j` on bus `b` (R109 to R111, R113). -/
def groupFrame (epoch seq b j : Nat) (es : List GrpEntry) : List Byte :=
  let ent (e : Nat) : List Byte := groupEntry (es.find? (fun g => g.pm == 64 * b + 16 * j + e))
  let cb := controlBlock epoch seq b j
  let raw := groupWeave ((List.range 16).map ent) cb
  groupWeave ((List.range 16).map ent) (checkedAt 8 cb |>.take 8 |> (· ++ leBytes 4 (groupCheck raw) ++ leBytes 4 0))

/-- A HOLD frame (Table 4.6). -/
def holdFrame (epoch seq b n : Nat) : List Byte :=
  checkedAt 8 (leBytes 2 epoch ++ leBytes 2 seq ++ [2, BitVec.ofNat 8 (4 * b)] ++ leBytes 2 n ++ leBytes 8 0)

/-- VLIM of the ports (R119): 0 without a session, else the smaller of rating and the vehicle's maximum voltage, in 0.1 V. No rule
says what a port in session sends before the vehicle has given its maximum voltage: DESIGN CHOICE, 0, at which a module keeps its
output at 0 A. -/
def State.vlims (s : State) : List Nat :=
  (List.finRange 12).map (fun p => if (s.ports[p]).st.inSession then min ((s.vp p).vRated * 10) (s.ports[p]).evV else 0)

/-- The port limit frame (Table 4.7). -/
def limitFrame (epoch seq b : Nat) (vs : List Nat) : List Byte :=
  checkedAt 32 (leBytes 2 epoch ++ leBytes 2 seq ++ [3, BitVec.ofNat 8 (4 * b)] ++ leBytes 2 0
    ++ (vs.map (leBytes 2)).flatten ++ leBytes 16 0)

/-! ### Transmission (R97, R102 to R106) -/

/-- The transmit buffers that hold a frame, lowest identifier first: 0 to 3 group frames, 4 HOLD, 5 port limit, 6 management. -/
def MBus.ready (m : MBus) : List Nat :=
  (List.range 4).filter (fun j => (atD m.txGrp j none).isSome)
    ++ (if m.txHold.isEmpty then [] else [4]) ++ (if m.txLimit.isSome then [5] else []) ++ (if m.txMgmt.isEmpty then [] else [6])

/-- The controller offers the ready frame with the lowest identifier first (R102); a frame that is offered stays so until it ends. -/
def MBus.offer (m : MBus) : MBus :=
  { m with offered := if m.offered.any (fun k => m.ready.contains k) then m.offered else m.ready.head? }

/-- An attempt for the frame of a buffer may have ended: it is the one offered, or the one with the lowest identifier. -/
def MBus.mayEnd (slot : Nat) (m : MBus) : Bool :=
  m.ready.contains slot && (m.offered == some slot || m.ready.head? == some slot)

/-- A frame has been put into a buffer or taken out of one: an attempt that has ended is offered no longer. -/
def State.offers (b : Fin 4) (s : State) : State := s.busMod b MBus.offer

/-- A controller enters bus-off. -/
def MBus.enterOff (m : MBus) : MBus := { m with fcs := .busOff, tec := 255, boff := satInc 16 m.boff }

/-- Fault confinement (R97, ISO 11898-1) after the error counters have moved to `t` and `r`. -/
def MBus.confine (t r : Nat) (m : MBus) : MBus :=
  let m := { m with tec := min t 255, recv := r }
  if m.fcs = .off ∨ m.fcs = .busOff then m
  else if 255 < t then m.enterOff
  else { m with fcs := if 128 ≤ t ∨ 128 ≤ r then .passive else .active }

/-- The error counters of controller `b` move; an entry to bus-off raises its event (R106). -/
def State.confine (b : Fin 4) (t r : Nat) (s : State) : State :=
  let s' := s.busMod b (MBus.confine t r)
  if (s'.mb.bus[b]).fcs == .busOff && (s.mb.bus[b]).fcs != .busOff then s'.raiseAt .busOff b else s'

/-- TEC after the end of an attempt (R97, ISO 11898-1): 1 less for a frame sent, 8 more for an error, 8 more still for a dominant bit
after the error flag. A missing acknowledgement leaves the counter of an error-passive controller, and an arbitration stuff error
leaves any. -/
def tecNext (passive : Bool) (r : TxResult) (w : TxFlaw) (t : Nat) : Nat :=
  match r, w with
  | .ok, _ => t - 1
  | .error, .noAck => if passive then t else t + 8
  | .error, .arbStuff => t
  | .error, .dominant => t + 16
  | .error, .other => t + 8
  | _, _ => t

/-- The transmit error counter follows the end of an attempt (R97). -/
def State.countTx (b : Fin 4) (r : TxResult) (w : TxFlaw) (s : State) : State :=
  let m := s.mb.bus[b]
  s.confine b (tecNext (m.fcs == .passive) r w m.tec) m.recv

/-- A controller only monitors its bus (Table 4.1, spec/15_image_and_start.md R409): it sends nothing, and its error counters stand.
DESIGN CHOICE (log entry 89): in diagnostic boot, whether it does is free. -/
def State.listens (b : Fin 4) (s : State) : Bool := bitOf 3 s.img.strap && Config.diagListen b.val s.mono

/-- REC after a frame (R97, ISO 11898-1): 1 more for an error, 8 more still for a dominant bit after the error flag, 1 less for a good
frame; from above 127, a good frame leaves a value between 119 and 127 that the standard leaves open. -/
def recNext (flaw : RxFlaw) (r : Nat) : Nat :=
  match flaw with
  | .error => min 255 (r + 1)
  | .dominant => min 255 (r + 9)
  | .none => if 127 < r then 119 + Config.recAfter r % 9 else r - 1

/-- A group frame of bus `b` that ended OK gives each of its modules the setpoint and the selection last sent; another result takes the
module's setpoint back to that (R105). -/
def State.groupEnded (b : Fin 4) (j : Nat) (ok : Bool) (data : List Byte) (s : State) : State :=
  let one (c : Canopy) (e : Nat) : Canopy :=
    let pm := 64 * b.val + 16 * j + e
    let sp : Int := dec 16 (leAt data (4 * e) 2) * 5
    let sel := leAt data (4 * e + 2) 1 % 16
    { c with mods := updN c.mods pm (fun m => if ok then { m with okSp := sp, okSel := sel } else { m with sp := m.okSp }) }
  { s with cnp := (List.range 16).foldl one s.cnp }

/-- A one-shot frame of group `j` ends with a result (R103). Setpoints follow only where this unit's Canopy sent it. No rule gives
MBn_GRPj_TS of a frame that never started (WITHDRAWN, or ERROR in bus-off): DESIGN CHOICE, the instant at which it ended. -/
def State.groupResult (b : Fin 4) (j : Nat) (r : TxResult) (f : TxFrame) (s : State) : State :=
  let s := s.busMod b (fun m => { m with
    txGrp := updN m.txGrp j (fun _ => none)
    grpTx := updN m.grpTx j (fun _ => { result := r, seq := f.seq, ts := s.tb % 2 ^ 32 })
    arb := if r = .arbLost then satInc 16 m.arb else m.arb
    err := if r = .error ∨ r = .withdrawn then satInc 16 m.err else m.err })
  let s := if s.standby then s else s.groupEnded b j (r == .ok) f.data
  if r = .ok then s.canSend b f.id f.data else s.raiseAt .oneShotFail b

/-- A HOLD frame ends with a result (R103). No rule says which MBn_GRPj_TX entry takes it: DESIGN CHOICE, that of group 0, whose bits a
HOLD frame carries beside its bus (Table 4.6). -/
def State.holdResult (b : Fin 4) (r : TxResult) (s : State) : State :=
  match (s.mb.bus[b]).txHold with
  | [] => s
  | f :: rest =>
    let s := s.busMod b (fun m => { m with
      txHold := rest
      grpTx := updN m.grpTx 0 (fun _ => { result := r, seq := f.seq, ts := s.tb % 2 ^ 32 })
      arb := if r = .arbLost then satInc 16 m.arb else m.arb
      err := if r = .error ∨ r = .withdrawn then satInc 16 m.err else m.err })
    if r = .ok then s.canSend b f.id f.data else s.raiseAt .oneShotFail b

/-- The result of a group frame that waits (R103); without a waiting frame nothing changes. -/
def State.oneShotGroup (b : Fin 4) (j : Nat) (r : TxResult) (w : TxFlaw) (s : State) : State :=
  match atD (s.mb.bus[b]).txGrp j none with
  | none => s
  | some f => (s.groupResult b j r f).countTx b r w

/-- The result of a HOLD frame that waits. -/
def State.oneShotHold (b : Fin 4) (r : TxResult) (w : TxFlaw) (s : State) : State :=
  if (s.mb.bus[b]).txHold.isEmpty then s else (s.holdResult b r).countTx b r w

/-- An attempt for a frame with automatic retransmission ends (R103): sent, it leaves its buffer; else it stays there. -/
def State.retryResult (b : Fin 4) (slot : Nat) (r : TxResult) (w : TxFlaw) (s : State) : State :=
  let m := s.mb.bus[b]
  match if slot = 5 then m.txLimit else m.txMgmt.head? with
  | none => s
  | some f =>
    let s := if r = .ok then
        (s.busMod b (fun m => if slot = 5 then { m with txLimit := none } else { m with txMgmt := m.txMgmt.tail })).canSend b f.id f.data
      else s
    s.countTx b r w

/-- A waiting group frame is withdrawn (R104). -/
def State.withdrawGroup (b : Fin 4) (j : Nat) (s : State) : State :=
  match atD (s.mb.bus[b]).txGrp j none with
  | none => s
  | some f => (s.groupResult b j .withdrawn f).offers b

/-- A group frame is queued for its one attempt; in bus-off it ends with ERROR (R106). -/
def State.queueGroup (b : Fin 4) (j : Nat) (data : List Byte) (seq : Nat) (s : State) : State :=
  let f : TxFrame := { id := 0x010 + j, data := data, seq := seq }
  let s := s.withdrawGroup b j
  if (s.mb.bus[b]).fcs = .busOff then s.groupResult b j .error f
  else (s.busMod b (fun m => { m with txGrp := updN m.txGrp j (fun _ => some f) })).offers b

/-- A HOLD frame is queued; in bus-off it ends with ERROR. R102 names no buffer for HOLD frames: DESIGN CHOICE (log entry 122), they wait
beside the six buffers, oldest first. -/
def State.queueHold (b : Fin 4) (data : List Byte) (seq : Nat) (s : State) : State :=
  let s := s.busMod b (fun m => { m with txHold := m.txHold ++ [{ id := 0x01C, data := data, seq := seq }] })
  if (s.mb.bus[b]).fcs = .busOff then s.holdResult b .error else s.offers b

/-- The port limit frame enters buffer 4 in place of an older one; in bus-off it ends with ERROR, which no register counts (R106). -/
def State.queueLimit (b : Fin 4) (data : List Byte) (seq : Nat) (s : State) : State :=
  if (s.mb.bus[b]).fcs = .busOff then s
  else (s.busMod b (fun m => { m with txLimit := some { id := 0x020, data := data, seq := seq } })).offers b

/-- A management frame enters buffer 5; in bus-off it ends with ERROR, which no register counts (R106). No rule says what becomes of one
that finds the buffer taken: DESIGN CHOICE (log entry 122), it waits behind the first. -/
def State.queueMgmt (b : Fin 4) (data : List Byte) (s : State) : State :=
  if (s.mb.bus[b]).fcs = .busOff then s
  else (s.busMod b (fun m => { m with txMgmt := m.txMgmt ++ [{ id := 0x600, data := data }] })).offers b

/-- Every group, HOLD and port limit frame that waits is withdrawn (spec/10_seam_pair.md R296). -/
def State.withdrawAll (s : State) : State :=
  let one (s : State) (b : Fin 4) : State :=
    let s := (List.range 4).foldl (fun s j => s.withdrawGroup b j) s
    (((s.mb.bus[b]).txHold.foldl (fun s _ => s.holdResult b .withdrawn) s).busMod b (fun m => { m with txLimit := none })).offers b
  (List.finRange 4).foldl one s

/-- Controllers that are present and configured, bus-off included. -/
def State.busSet (s : State) : List (Fin 4) :=
  (List.finRange 4).filter (fun b => decide (b.val < s.fuses.variant.buses) && (s.mb.bus[b]).fcs != .off)

/-- The groups of bus `b` that hold a module admitted in a result (R55). -/
def groupsOf (b : Nat) (es : List GrpEntry) : List Nat :=
  (List.range 4).filter (fun j => es.any (fun e => e.pm / 64 == b && e.pm % 64 / 16 == j && e.adm))

/-- SEQ of the present tick (R113): 0 in the first tick of the epoch, one more each tick. -/
def State.seqNow (s : State) : Nat := (s.cnp.ticks - 1) % 65536

/-- Every group frame that waits on a bus is withdrawn (R104). -/
def State.withdrawWaiting (s : State) : State :=
  s.busSet.foldl (fun s b => (List.range 4).foldl (fun s j => s.withdrawGroup b j) s) s

/-- The group frames of a result are queued on every bus with the SEQ of the tick (R28, R113). -/
def State.sendGroups (es : List GrpEntry) (s : State) : State :=
  let seq := s.seqNow
  let s := { s with mb := { s.mb with seq := seq } }
  s.busSet.foldl (fun s b => (groupsOf b.val es).foldl (fun s j => s.queueGroup b j (groupFrame s.mb.epoch seq b.val j es) seq) s) s

/-- The next epoch (R112): by one, never 0. -/
def nextEpoch (e : Nat) : Nat := if e = 0xFFFF then 1 else e + 1

/-! ### Receipt -/

/-- The length that Table 4.3 gives an identifier of the profile. -/
def profileLen (id : Nat) : Option Nat :=
  if 0x010 ≤ id ∧ id ≤ 0x013 then some 64
  else if id = 0x01C then some 16
  else if id = 0x020 then some 48
  else if 0x100 ≤ id ∧ id ≤ 0x13F then some 16
  else if id = 0x600 then some 16
  else if 0x740 ≤ id ∧ id ≤ 0x77F then some 32
  else none

/-- A frame agrees with its identifier (R108, R110): length, KIND, bus and group, the address of an ANNOUNCE, and CHECK. -/
def profileOk (b id : Nat) (bs : List Byte) : Bool :=
  let flat (kind o : Nat) : Bool :=
    bs.getD 4 0 == BitVec.ofNat 8 kind && bs.getD 5 0 == BitVec.ofNat 8 (4 * b)
      && leAt bs o 4 == crc32c (bs.take o ++ leBytes 4 0 ++ bs.drop (o + 4))
  match profileLen id with
  | none => true
  | some n =>
    if bs.length ≠ n then false
    else if id ≤ 0x013 then
      let c := controlOf bs
      c.getD 4 0 == 1 && c.getD 5 0 == BitVec.ofNat 8 (id - 0x010 + 4 * b) && leAt c 8 4 == groupCheck bs
    else if id = 0x01C then flat 2 8
    else if id = 0x020 then flat 3 32
    else if 0x740 ≤ id then bs.getD 0 0 == BitVec.ofNat 8 (id - 0x740)
    else true

/-- The acceptance filters that the firmware sets from the identifiers of Table 4.3 (R100): identifier and mask. -/
def profileFilters : List (Nat × Nat) :=
  [(0x010, 0x7FC), (0x01C, 0x7FF), (0x020, 0x7FF), (0x100, 0x7C0), (0x600, 0x7FF), (0x740, 0x7C0)]

/-- A controller's filter elements after its configuration (R100). -/
def MBus.setFilters (m : MBus) : MBus := { m with filters := mapIdx m.filters (fun i _ => profileFilters[i]?) }

/-- An identifier matches one of the filter elements. -/
def MBus.accepts (id : Nat) (m : MBus) : Bool :=
  m.filters.toList.any (fun e => e.any (fun x => id &&& x.2 == x.1 &&& x.2))

/-- An identifier of a status frame (Table 4.3). -/
def isStatus (id : Nat) : Bool := decide (0x100 ≤ id) && decide (id ≤ 0x13F)

/-- A frame enters the high-priority buffer (R101). -/
def State.highPriority (b : Fin 4) (x : RxFrame) (s : State) : State :=
  (s.busMod b (fun m => { m with
    hpBuf := some x, hpId := x.id, hpTs := x.ts, hpNew := true, hpOvr := m.hpOvr || m.hpNew })).raiseAt .priorityFrame b

/-- A frame without error that is no protocol exception is filtered and judged (R100, R101, R108); the last part is a frame that entered
the high-priority buffer. An ANNOUNCE that Canopy does not answer is discarded (R124). -/
def State.canAccept (b : Fin 4) (f : CanFrame) (s : State) : State × Option RxFrame :=
  let x : RxFrame := { id := f.id, data := f.data, ts := s.tb % 2 ^ 32, at_ := s.mono }
  let r := s.busRec b
  if f.ext ∨ f.rtr then (s, none)
  else
    let hp := f.id &&& r.hpMask == r.hpId &&& r.hpMask
    if !hp && !(s.mb.bus[b]).accepts f.id then (s, none)
    else if !profileOk b f.id f.data then (s.busMod b (fun m => { m with badLen := satInc 8 m.badLen }), none)
    else if hp then (s.highPriority b x, some x)
    else if isAnnounce f.id && !s.answersAnnounce then (s, none)
    else if 64 ≤ (s.mb.bus[b]).rxq.length then (s.busMod b (fun m => { m with ovf := satInc 8 m.ovf }), none)
    else (s.busMod b (fun m => { m with rxq := m.rxq ++ [x] }), none)

/-- A controller has heard a frame (Table 4.1, R97, R99). A protocol exception is counted and the frame is not received; the bus
integration that it starts ends with the 11 recessive bits at the end of that frame, before the next one. -/
def State.canReceive (b : Fin 4) (f : CanFrame) (s : State) : State × Option RxFrame :=
  if !s.busOn b then (s, none)
  else
    let s := s.busMod b (MBus.busy s.mono (80 * f.busTime))
    if f.resRecessive then (s.busMod b (fun m => { m with pexc := satInc 8 m.pexc }), none)
    else
      let s := if s.listens b then s else s.confine b (s.mb.bus[b]).tec (recNext f.flaw (s.mb.bus[b]).recv)
      if f.flaw = .none then s.canAccept b f else (s, none)

/-- Take the oldest frame of the receive queue that fits a test; frames that nothing reads (neither status nor ANNOUNCE) leave the
queue with it. -/
def State.takeRx (b : Fin 4) (ok : Nat → Bool) (s : State) : Option (RxFrame × State) :=
  let q := (s.mb.bus[b]).rxq.filter (fun x => isStatus x.id || isAnnounce x.id)
  match q.find? (fun x => ok x.id) with
  | none => none
  | some x => some (x, s.busMod b (fun m => { m with rxq := q.erase x }))

/-! ### Status frames and enumeration -/

/-- The fields of a status frame (Table 4.8). -/
def statusOf (x : RxFrame) : ModStatus where
  iRep := leAtI x.data 0 2
  vOut := leAt x.data 2 2
  iAvail := leAt x.data 4 2
  sel := leAt x.data 6 1 % 16
  closed := bitOf 4 (leAt x.data 6 1)
  fault := bitOf 0 (leAt x.data 7 1)
  outOff := bitOf 1 (leAt x.data 7 1)
  inhibit := bitOf 2 (leAt x.data 7 1)
  wd := bitOf 3 (leAt x.data 7 1)
  hold := bitOf 4 (leAt x.data 7 1)
  selRej := bitOf 5 (leAt x.data 7 1)
  depart := bitOf 6 (leAt x.data 7 1)
  epoch := leAt x.data 8 2
  seq := leAt x.data 10 2
  temp := leAtI x.data 12 1
  fcode := leAt x.data 13 1
  scnt := leAt x.data 14 1
  at_ := x.at_

/-- Change the link of address `a` on bus `b`. -/
def State.linkMod (b : Fin 4) (a : Nat) (f : PmLink → PmLink) (s : State) : State :=
  s.busMod b (fun m => { m with link := updN m.link a f })

/-- A module is declared lost (R22, R122). -/
def State.loseModule (b : Fin 4) (a : Nat) (s : State) : State :=
  s.linkMod b a (fun l => { l with lost := true, admitted := false, fresh := false, gone := l.gone || l.admitted })

/-- The reported current follows the setpoint (spec/03_canopy_limits_and_faults.md R82): within max(2.0 A, 2 % of I_RATED). -/
def follows (iRated : Nat) (sp rep : Int) : Bool :=
  let d : Int := rep - sp
  decide ((d.natAbs : Rat) ≤ max 20 ((iRated : Rat) / 50))

/-- One status frame enters the follow-error counts of a module (R82); the flag says that a limit is imposed. -/
def CnpModSt.follow (now iRated : Nat) (rep : Int) (m : CnpModSt) : CnpModSt × Bool :=
  if follows iRated m.sp rep then
    ({ m with followBad := 0, followOk := m.followOk + 1, limit := if 5 ≤ m.followOk + 1 then none else m.limit }, false)
  else if m.followBad + 1 < 5 then ({ m with followBad := m.followBad + 1, followOk := 0 }, false)
  else ({ m with
    followBad := 0, followOk := 0, limit := some (rep.natAbs : Int), limitTimes := lastMinute now m.limitTimes ++ [now] }, true)

/-- Fault-free status counts from its first frame (R84). -/
def CnpModSt.health (now : Nat) (ok : Bool) (m : CnpModSt) : CnpModSt :=
  { m with okSince := if ok then some (m.okSince.getD now) else none }

/-- Canopy reads a status frame of module `pm` (R82, R84). -/
def State.readStatus (pm : Nat) (t : ModStatus) (s : State) : State :=
  let r := (s.cfg.cnpModule.find? (fun r => r.pm == pm)).getD {}
  let m := (atD s.cnp.mods pm {}).health s.mono (!(t.fault || t.inhibit))
  if m.st = .blocked then { s with cnp := { s.cnp with mods := updN s.cnp.mods pm (fun _ => m) } }
  else
    let x := m.follow s.mono r.iRated t.iRep
    let c : Canopy := { s.cnp with mods := updN s.cnp.mods pm (fun _ => x.1) }
    if x.2 then ({ s with cnp := c.loss pm 3 }).raiseAt .moduleRefused pm else { s with cnp := c }

/-- Missed frames between two counter values (R121). -/
def scntGap (last now : Nat) : Nat := (now + 256 - last - 1) % 256

/-- A status frame is judged (R121, R122). -/
def State.takeStatus (b : Fin 4) (x : RxFrame) (s : State) : State :=
  let a := x.id - 0x100
  let l := atD (s.mb.bus[b]).link a {}
  let t := statusOf x
  if !l.admitted then s.busMod b (fun m => { m with unadm := satInc 8 m.unadm })
  else if (l.last.map (·.scnt)) = some t.scnt then s
  else
    let g := match l.last with
      | some o => scntGap o.scnt t.scnt
      | none => 0
    let s := s.linkMod b a (fun l => { l with scnt := t.scnt, gaps := sat 8 (l.gaps + g), last := some t })
    let s := s.readStatus (64 * b.val + a) t
    if t.depart then s.loseModule b a else s

/-- The refusal of an ANNOUNCE (R124): RESULT of Table 4.10, 0 where the module is admitted. `full` says that the counts of R19 are
reached. -/
def announceResult (r : Option CnpModule) (l : PmLink) (now serial : Nat) (bs : List Byte) (full : Bool) : Nat :=
  if leAt bs 1 1 ≠ 1 then 1
  else match r with
    | none => 2
    | some r =>
      let dispute : Bool := (l.admitted && l.serial != serial) ||
        (!l.admitted && (match l.announced with
          | some (n, t) => n != serial && decide (now ≤ t + 1000000)
          | none => false))
      if r.serialBind ∧ r.serial ≠ serial then 3
      else if dispute then 4
      else if leAt bs 12 2 < r.iRated ∨ leAt bs 14 2 < r.pRated ∨ r.vMin < leAt bs 16 2 ∨ leAt bs 18 2 < r.vMax
        ∨ leAt bs 20 2 < r.ramp ∨ (r.bidir ∧ !bitOf 0 (leAt bs 22 1)) ∨ (r.buf ∧ !bitOf 1 (leAt bs 22 1)) then 5
      else if full && !l.admitted then 6
      else 0

/-- The ADMIT reply (Table 4.10). -/
def admitReply (a result serial : Nat) : List Byte := leBytes 1 a ++ leBytes 1 result ++ leBytes 2 0 ++ leBytes 8 serial ++ leBytes 4 0

/-- A module is admitted (R21, R124): a new arrival at the next tick. -/
def State.admitModule (b : Fin 4) (a serial : Nat) (s : State) : State :=
  s.linkMod b a (fun l => { l with
    admitted := true, lost := false, refuse := 0, serial := serial, fresh := !l.admitted || l.fresh, announced := none,
    last := if l.admitted then l.last else none })

end Sys2Proof.Machine
end

