-- ==== Sys2Proof/Machine/ThermalCore.lean ====
section
/-! DEFINITION. Cable sensors and the thermal twin of one port (spec/06_cooling_and_loops.md R159–R171). -/

namespace Sys2Proof.Machine

/-! ### Inputs (R159, R160) -/

/-- One PT1000 measurement: the resistance in Ω and the temperature in 0.1 °C that it stands for (R159). Three consecutive measurements
outside the range fault the input, three consecutive ones inside make it valid again. -/
def tempMeasure (ohm : Nat) (t : Int) (x : TempIn) : TempIn :=
  let out : Bool := ohm < 800 || 1900 < ohm
  let run := if out = x.fault then 0 else x.run + 1
  let flip : Bool := decide (3 ≤ run)
  let x := { x with fault := if flip then out else x.fault, run := if flip then 0 else run }
  if out || x.fault then x else { x with t := satI 16 t, seen := true }

/-- The input has been read valid and is not faulted. -/
def TempIn.valid (x : TempIn) : Bool := x.seen && !x.fault
/-- The reading in °C. -/
def TempIn.deg (x : TempIn) : Rat := (x.t : Rat) / 10

/-- The highest valid reading among TA, TB and TC (R162). -/
def maxReading (w : Twin) : Option Rat :=
  ([w.ta, w.tb, w.tc].filter TempIn.valid).foldl (fun m x => match m with
    | none => some x.deg
    | some y => some (max y x.deg)) none

/-- The twin starts (R162): every node takes the highest valid reading, where there is one. -/
def twinBegin (w : Twin) : Twin :=
  match maxReading w with
  | some t => { w with nodes := ⟨t, t, t⟩, seeded := true, seedAt := none }
  | none => w

/-- A reading may seed the nodes and start the model (R162): at the first instant at which TA or TB is read valid, the nodes take the
highest of the three inputs read then. -/
def twinStart (now : Nat) (w : Twin) : Twin :=
  if w.ta.valid || w.tb.valid then
    let w := if !w.seeded || w.seedAt = some now then { twinBegin w with seedAt := some now } else w
    { w with started := true }
  else w

/-- The twin starts anew in fast mode (R172, spec/17_thicket_and_events.md Table 17.3 row 6). -/
def twinAgain (w : Twin) : Twin :=
  twinBegin { w with nodes := {}, seeded := false, seedAt := none, started := false, capSet := false, cTh := 0,
                        fast := true, quietSince := none, raiseSince := none, lastRaise := none }

/-- Faults of the inputs that the twin uses: TA, TB, FL, and TC with PIN_EN (R164, R168). -/
def usedFault (k : TwCable) (w : Twin) : Bool := w.ta.fault || w.tb.fault || w.flFault || (k.pinEn && w.tc.fault)

/-- Edge rate over the last 10 ms, in edges (R160): 22 edges are 2,200 Hz, 20 edges 2,000 Hz. -/
def edgesIn (now : Nat) (es : List Nat) : List Nat := es.filter (fun t => decide (now < t + 10000))

/-- A rising edge of FL (R160). The flag says that FL has become faulted. -/
def flowEdge (port now : Nat) (k : Option TwCable) (w : Twin) : Twin × Bool :=
  let es := edgesIn now w.edges ++ [now]
  let q : Rat := match w.lastEdge with
    | none => w.q
    | some t =>
      match k with
      | some k => if now = t then w.q else 60 * 1000000 / ((k.kFlow : Rat) * ((now - t : Nat) : Rat))
      | none => (Config.flowNoRecord port (now - t) : Rat) / 100
  let high := 22 < es.length
  let w' := { w with
    lastEdge := some now, edges := es, q := q, flFault := w.flFault || high,
    flHighAt := if 20 ≤ es.length then now else w.flHighAt }
  (w', high && !w.flFault)

/-- No edge for 2 s: Q = 0 (R160). -/
def flowTimeout (now : Nat) (w : Twin) : Twin :=
  match w.lastEdge with
  | some t => if t + 2000000 ≤ now then { w with q := 0 } else w
  | none => { w with q := 0 }

/-- The rate has stayed below 2,000 Hz for 1 s (R160). -/
def flowClear (now : Nat) (w : Twin) : Twin :=
  if w.flFault ∧ w.flHighAt + 1000000 ≤ now then { w with flFault := false } else w

/-! ### The model (R161) -/

/-- Add a multiple of a slope. -/
def Nodes.add (n d : Nodes) (h : Rat) : Nodes := ⟨n.t1 + h * d.t1, n.t2 + h * d.t2, n.t3 + h * d.t3⟩

/-- (Q / QN)^EXP (R161). -/
def flowPower (x : Rat) (e : Nat) : Rat :=
  if x = 0 then 0 else if e = 0 then 1 else if e = 100 then x else powQ x e

/-- The slopes of R161 at the nodes `n`, for the mean square current `i2` in A², the flow `q` in L/min and T_loc. -/
def slope (k : TwCable) (i2 q tloc : Rat) (n : Nodes) : Nodes :=
  let g12 : Rat := (k.g12 : Rat) / 10
  let g23 : Rat := if q = 0 then 0 else ((k.g23n : Rat) / 10) * flowPower (q / ((k.qn : Rat) / 100)) k.exp
  let g3 : Rat := (k.cw : Rat) * q / 60
  let p := i2 * ((k.res20 : Rat) / 1000000) * (1 + ((k.alpha : Rat) / 1000000) * (n.t1 - 20))
  ⟨(p - g12 * (n.t1 - n.t2)) / (k.c1 : Rat),
   (g12 * (n.t1 - n.t2) - g23 * (n.t2 - n.t3)) / (k.c2 : Rat),
   (g23 * (n.t2 - n.t3) - g3 * (n.t3 - tloc)) / (k.c3 : Rat)⟩

/-- The point at which an internal step takes the slopes of R161: no rule names the integration method, so it is free between the
present nodes and those that the present slopes lead to. -/
def slopePoint (h : Rat) (n d : Nodes) : Nodes :=
  let x := Config.twinPoint (n.t1, n.t2, n.t3)
  let m := n.add d h
  let at_ (a b v : Rat) : Rat := clampQ (min a b) (max a b) v
  ⟨at_ n.t1 m.t1 x.1, at_ n.t2 m.t2 x.2.1, at_ n.t3 m.t3 x.2.2⟩

/-- One internal step of `h` seconds (R161). -/
def twinStep (k : TwCable) (i2 q tloc h : Rat) (n : Nodes) : Nodes :=
  n.add (slope k i2 q tloc (slopePoint h n (slope k i2 q tloc n))) h

/-- `m` internal steps of 10 ms. -/
def twinSteps (k : TwCable) (i2 q tloc : Rat) : Nat → Nodes → Nodes
  | 0, n => n
  | m + 1, n => twinSteps k i2 q tloc m (twinStep k i2 q tloc (1 / 100) n)

/-- An interval of `ms` milliseconds: whole steps of 10 ms and one shorter step for what is left. -/
def twinRun (k : TwCable) (i2 q tloc : Rat) (ms : Nat) (n : Nodes) : Nodes :=
  let n := twinSteps k i2 q tloc (ms / 10) n
  if ms % 10 = 0 then n else twinStep k i2 q tloc (((ms % 10 : Nat) : Rat) / 1000) n

/-! ### Prediction (R163) -/

/-- The predicted T1 at the 100 ms steps to come, `m` of them. -/
def predict (k : TwCable) (i2 q tloc : Rat) : Nat → Nodes → List Rat
  | 0, _ => []
  | m + 1, n => let n := twinSteps k i2 q tloc 10 n; n.t1 :: predict k i2 q tloc m n

/-- The prediction of R163 for a held current in A. -/
def horizon (k : TwCable) (i q tloc : Rat) (n : Nodes) : List Rat := predict k (i * i) q tloc 300 n

/-- The current keeps the predicted hot spot at or below its limit (R163). -/
def currentOk (k : TwCable) (q tloc : Rat) (n : Nodes) (i : Rat) : Bool :=
  (horizon k i q tloc n).all (fun t => decide (t ≤ (k.tHsLim : Rat) / 10))

/-- The largest number of half amperes, from `m` down, that meets the condition; 0 if none does (R163). -/
def allowFrom (k : TwCable) (q tloc : Rat) (n : Nodes) : Nat → Nat
  | 0 => 0
  | m + 1 => if currentOk k q tloc n (((m + 1 : Nat) : Rat) / 2) then m + 1 else allowFrom k q tloc n m

/-- I_allow in 0.1 A for a rating in 0.1 A (R163). -/
def iAllowOf (k : TwCable) (rating : Nat) (q tloc : Rat) (n : Nodes) : Nat := allowFrom k q tloc n (rating / 5) * 5

/-- PEAK of R163 in °C, for the allocation in 0.1 A: the highest of the predicted steps. -/
def peakOf (k : TwCable) (alloc : Nat) (q tloc : Rat) (n : Nodes) : Rat :=
  match horizon k ((alloc : Rat) / 10) q tloc n with
  | [] => n.t1
  | t :: ts => ts.foldl max t

/-! ### The cap (R165 to R170); currents in 0.1 A -/

/-- The step of the grid: 2 % of the rating, rounded down to 0.1 A. -/
def gridStep (rating : Nat) : Nat := rating * 2 / 100
/-- The largest grid value at or below `x`. -/
def gridDown (rating x : Nat) : Nat := if gridStep rating = 0 then 0 else min x rating / gridStep rating * gridStep rating
/-- The smallest grid value at or above `x`; where none is within the rating, the largest grid value. -/
def gridUp (rating x : Nat) : Nat :=
  let s := gridStep rating
  if s = 0 then 0 else min ((x + s - 1) / s * s) (gridDown rating rating)
/-- The next grid value below `x`. -/
def gridBelow (rating x : Nat) : Nat := if x = 0 then 0 else gridDown rating (x - 1)
/-- The next grid value above `x`, at most the largest. -/
def gridAbove (rating x : Nat) : Nat := min (gridDown rating x + gridStep rating) (gridDown rating rating)

/-- T_loc of R161 and R170. -/
def tLocOf (k : TwCable) (w : Twin) : Rat :=
  let d : Rat := (k.dtSub : Rat) / 10
  if w.ta.valid && w.tb.valid then w.ta.deg + ((k.xh : Rat) / 100) * (w.tb.deg - w.ta.deg)
  else if w.ta.valid then w.ta.deg + d
  else if w.tb.valid then w.tb.deg + d
  else w.tLoc + d

/-- Q of the model: 0 while FL is faulted (R170). -/
def qOfModel (w : Twin) : Rat := if w.flFault then 0 else w.q

/-- The fast-mode conditions of R164. -/
def fastCond (k : TwCable) (now : Nat) (w : Twin) : Bool :=
  decide ((k.tHsLim : Rat) / 10 - (k.fastBand : Rat) / 10 ≤ w.peak)
    || (k.pinEn && w.tc.valid && decide ((k.tPinLim : Rat) / 10 - (k.fastBand : Rat) / 10 ≤ w.tc.deg))
    || usedFault k w
    || (match w.lastStep with | some t => decide ((now : Int) < t + 30000000) | none => false)

/-- Follow the fast mode: enter it at once, and keep the instant from which nothing asks for it (R164). -/
def fastStep (k : TwCable) (now : Nat) (w : Twin) : Twin :=
  if fastCond k now w then { w with fast := true, quietSince := none }
  else { w with quietSince := some (w.quietSince.getD now) }

/-- 10 s without any fast-mode condition (R164). -/
def fastExit (k : TwCable) (now : Nat) (w : Twin) : Twin :=
  match w.quietSince with
  | some t => if w.fast ∧ !(fastCond k now w) ∧ t + 10000000 ≤ now then { w with fast := false } else w
  | none => w

/-- The pin throttle of R167 is in force. -/
def pinHot (k : TwCable) (w : Twin) : Bool := k.pinEn && w.tc.valid && decide ((k.tPinLim : Rat) / 10 ≤ w.tc.deg)

/-- R170: the cap under a sensor fault. -/
def capFault (k : TwCable) (rating : Nat) (w : Twin) : Twin :=
  if w.ta.fault || w.tb.fault || (k.pinEn && w.tc.fault) then
    { w with cTh := min w.cTh (gridDown rating (rating * k.failCap / 100)) }
  else w

/-- R167: the immediate cut; the flag says that it lowered the cap. -/
def capCut (k : TwCable) (rating : Nat) (w : Twin) : Twin × Bool :=
  let hot := decide ((k.tHsLim : Rat) / 10 ≤ w.nodes.t1)
  let pin0 := k.pinEn && w.tc.valid && decide ((k.tPinLim : Rat) / 10 + 5 ≤ w.tc.deg)
  let c := if hot then min w.cTh (gridDown rating w.iAllow) else w.cTh
  let c := if pin0 then 0 else c
  if c < w.cTh then ({ w with cTh := c, cut := true }, true) else (w, false)

/-- R165: free lowering. -/
def capFree (rating alloc : Nat) (w : Twin) : Twin :=
  if w.iAllow < w.cTh then { w with cTh := min w.cTh (max (gridDown rating w.iAllow) (gridUp rating alloc)) } else w

/-- R166 and the pin throttle of R167: one step every 5 s; the flag says that a step was taken. -/
def capThrottle (k : TwCable) (rating now : Nat) (w : Twin) : Twin × Bool :=
  let due : Bool := match w.lastStep with | some t => decide (t + 5000000 ≤ (now : Int)) | none => true
  if (decide (w.iAllow < w.cTh) || pinHot k w) && due && decide (0 < w.cTh) then
    ({ w with cTh := gridBelow rating w.cTh, lastStep := some now, steps := satInc 16 w.steps }, true)
  else (w, false)

/-- The raise conditions of R168. -/
def raiseCond (k : TwCable) (rating : Nat) (w : Twin) : Bool :=
  decide (w.cTh + 2 * gridStep rating ≤ w.iAllow)
    && (!k.pinEn || (w.tc.valid && decide (w.tc.deg < (k.tPinLim : Rat) / 10 - 2)))
    && !(usedFault k w)

/-- R168: after 30 s one step, then one every 5 s; a rule that lowered the cap restarts the count (R169). -/
def capRaise (k : TwCable) (rating now : Nat) (lowered : Bool) (w : Twin) : Twin :=
  if lowered || !(raiseCond k rating w) then { w with raiseSince := none, lastRaise := none }
  else
    let t0 := w.raiseSince.getD now
    let due : Bool := decide (t0 + 30000000 ≤ now) &&
      (match w.lastRaise with | some t => decide (t + 5000000 ≤ now) | none => true)
    if due then { w with raiseSince := some t0, cTh := gridAbove rating w.cTh, lastRaise := some now }
    else { w with raiseSince := some t0 }

/-- The journal is to carry this evaluation (R172): every slow one, and one a second in fast mode. -/
def jStep (now : Nat) (w : Twin) : Twin :=
  let due : Bool := !w.fast || (match w.jAt with | some t => decide (t + 1000000 ≤ now) | none => true)
  if due then { w with jDue := true, jAt := some now } else w

/-- What the journal carries of a twin (R172). -/
def Twin.toJ (now : Nat) (w : Twin) : TwinJ :=
  { nodes := w.nodes, cTh := w.cTh, fast := w.fast, stepAgo := w.lastStep.map (fun t => ((now : Int) - t).toNat) }

/-- A twin goes on from a journal entry received at `t` (R172), else it starts under R162 in fast mode. The model runs on from the first
valid reading of TA or TB. A last throttle step before this unit's own clock began stays at its own instant. -/
def twinRestore (now : Nat) (e : Option (TwinJ × Nat)) (w : Twin) : Twin :=
  match e with
  | some (j, t) =>
    if now ≤ t + 10000000 then
      { w with nodes := j.nodes, cTh := j.cTh, fast := j.fast, lastStep := j.stepAgo.map (fun d => (t : Int) - d), seeded := true, seedAt := none,
               started := false, capSet := true, quietSince := none, raiseSince := none, lastRaise := none }
    else twinAgain w
  | none => twinAgain w

/-- The cap of one evaluation once it has been set (R165 to R170), with the events thermal-cut and thermal-throttle. -/
def capEval (k : TwCable) (rating alloc now : Nat) (w : Twin) : Twin × List Ev :=
  let c0 := w.cTh
  let w := capFault k rating w
  let (w, cut) := capCut k rating w
  let w := capFree rating alloc w
  let (w, thr) := capThrottle k rating now w
  (capRaise k rating now (decide (w.cTh < c0)) w, (if cut then [Ev.thermalCut] else []) ++ (if thr then [Ev.thermalThrottle] else []))

/-- The model of one evaluation (R161, R163): the nodes advance over the interval, then the prediction is made. -/
def modelEval (k : TwCable) (rating alloc : Nat) (i2 : Rat) (ms : Nat) (w : Twin) : Twin :=
  let tl := tLocOf k w
  let q := qOfModel w
  let w := { w with nodes := twinRun k i2 q tl ms w.nodes, tLoc := if w.ta.valid || w.tb.valid then tl else w.tLoc }
  { w with iAllow := iAllowOf k rating q tl w.nodes, peak := peakOf k alloc q tl w.nodes, pin := pinHot k w }

/-- One evaluation (R161 to R170): rating and allocation in 0.1 A. A cap restored by a takeover takes the sensor faults of R170 before the
model runs on. The last part says that the twin entered fast mode. -/
def twinEval (k : TwCable) (rating alloc now : Nat) (w : Twin) : Twin × List Ev × Bool :=
  let was := w.fast
  let w := { twinStart now w with seedAt := none }
  let i2 := if w.nTicks = 0 then 0 else w.sumI2 / (w.nTicks : Rat)
  let ms := 2 * w.nTicks
  let w := { w with sumI2 := 0, nTicks := 0 }
  let (w, es) :=
    if !w.started then
      (if w.capSet then { capFault k rating w with raiseSince := none, lastRaise := none } else { w with cTh := 0 }, [])
    else
      let w := modelEval k rating alloc i2 ms w
      if !w.capSet then ({ w with cTh := gridDown rating w.iAllow, capSet := true, raiseSince := none, lastRaise := none }, [])
      else capEval k rating alloc now w
  let w := jStep now (fastStep k now w)
  (w, es, w.fast && !was)

end Sys2Proof.Machine
end

