-- ==== Sys2Proof/Machine/ApplyOps.lean ====
section
/-! DEFINITION. What each unit does when its records are applied (spec/15_image_and_start.md R421, R422), and the start of Canopy
(spec/02_canopy_allocation.md R26, spec/04_module_bus.md R112). -/

namespace Sys2Proof.Machine

/-- The base of the epoch at a start (spec/10_seam_pair.md R298): a unit of a pair takes the newer of its own and the one last mirrored. -/
def State.epochBase (s : State) : Nat :=
  match s.seam.pair, s.seam.mir.epoch with
  | some _, some e => if newer e s.mb.epoch then e else s.mb.epoch
  | _, _ => s.mb.epoch

/-- Canopy starts (R112, R421): the epoch rises in MRAM, no intake measurement and no state of charge yet
(spec/03_canopy_limits_and_faults.md R68, R71). The sessions of Bramble under the former epoch end, and the admission number begins again
(spec/12_bramble_site_link.md R348). -/
def State.canopyStart (s : State) : State :=
  if s.cnp.started || !(s.seam.role == .single || s.seam.role == .active) then s
  else { s with
    cnp := { s.cnp with started := true, measAt := s.mono, socAt := s.mono }
    brm := { s.brm with admNo := 0, nbr := Vector.replicate 65 {}, joins := [], fbOnly := [] }
    mb := { s.mb with epoch := nextEpoch s.epochBase, shown := nextEpoch s.epochBase } }

/-- The controllers of the present buses are configured with their filters (spec/04_module_bus.md R98, R100, R124). -/
def State.busStart (s : State) : State :=
  (List.finRange 4).foldl (fun s b =>
    if b.val < s.fuses.variant.buses then s.busMod b (fun m => if m.fcs = .off then { m.setFilters with fcs := .active } else m) else s) s

/-- A Lacing chain whose RUN bit is set begins its wake when its record is applied (spec/11_lacing_stack_chain.md R315). -/
def State.lacStart (n : Nat) (s : State) : State :=
  if h : n < 4 then (if s.side && bitOf n s.lac.run then s.lacDo ⟨n, h⟩ lacWake else s) else s

/-- The client starts where its record is applied (spec/18_host_and_discovery.md R481). -/
def State.ocppStart (s : State) : State :=
  if s.hst.ocpp.st = 0 then { s with hst := { s.hst with ocpp := { s.hst.ocpp with st := 1, delay := 1 } } } else s

/-- The check-path channel of a port that has no record of its own (spec/13_cuff_and_hem.md R386). -/
def State.checkPathStart (r : VpPort) (s : State) : State :=
  if r.chkCu < 16 ∧ !s.cfg.cufChan.any (fun k => k.ch == r.chkCu) then s.cufApply (cuffPortDefault r.chkCu) else s

/-- A port runs from the application of its record (R421): in IDLE, or in DISABLED where ENABLE has been written 0
(spec/05_vehicle_ports.md Table 5.10). -/
def State.portStart (n : Nat) (s : State) : State :=
  if h : n < 12 then { s with ports := upd s.ports ⟨n, h⟩ (fun q => { q with run := true, st := if q.enable then q.st else .disabled }) } else s

/-- A present port that no first-leaf record names is in DISABLED (spec/05_vehicle_ports.md R141). -/
def State.portsRest (s : State) : State :=
  { s with ports := Vector.ofFn (fun n : Fin 12 => if s.ports[n].run || !s.hasPort n then s.ports[n] else { s.ports[n] with st := .disabled }) }

/-- The address of a port with a record: the static one, or the one that the network gives (spec/18_host_and_discovery.md R476). -/
def State.netStart (r : HstNet) (s : State) : State :=
  let (v, s) := if r.dhcp then s.free else (r.ipv4, s)
  { s with hst := { s.hst with ip := updN s.hst.ip r.port (fun _ => v % 2 ^ 32) } }

/-- A pair begins its role choice (spec/10_seam_pair.md R283, R421). -/
def State.seamStart (r : SeamPair) (s : State) : State :=
  { s with seam := { s.seam with pair := some r, role := .start, startAt := s.mono, swapAt := s.mono } }

/-- What one record starts in its unit. -/
def State.applyRec (s : State) : ImgRec → State
  | .vpPort r => (s.portStart r.port).checkPathStart r
  | .twCable r => { s with twins := updN s.twins r.port twinBegin }
  | .cpcLoop r => { s with cpc := { s.cpc with loops := updN s.cpc.loops r.loop (fun _ => loopStart r) } }
  | .seamPair r => s.seamStart r
  | .lacChain r => s.lacStart r.chain
  | .brmGlobal _ => { s with brm := { s.brm with run := s.side } }
  | .cufGlobal r => { s with cuf := { s.cuf with freq := r } }
  | .cufChan r => s.cufApply r
  | .hemCfg r => s.hemDo (hemApply r)
  | .hstNet r => s.netStart r
  | .hstOcpp _ => s.ocppStart
  | .cnpGlobal _ | .cnpPort _ | .cnpModule _ | .cnpGroup _ | .cnpIntake _ | .cnpBuffer _ | .mbBus _
  | .gtrGlobal _ | .gtrInput _ | .gtrCmp _ | .gtrOutput _ | .lacGlobal _ | .brmBind _ | .brmPartner _ | .clkBind _
  | .hstUser _ => s

/-- Records apply at one instant: the configuration first, then what they start. -/
def State.applyRecs (rs : List (Nat × ImgRec)) (s : State) : State :=
  let s := { s with cfg := rs.foldl (fun c r => c.add r.2) s.cfg }
  rs.foldl (fun (s : State) r => s.applyRec r.2) s

/-- The first-leaf records apply (R421): Gaiter takes its inputs, the buses are configured, Canopy starts in REDUCED; a unit
of a pair starts Canopy when it becomes active (spec/10_seam_pair.md Table 10.1). -/
def State.applyLeaf (rs : List (Nat × ImgRec)) (s : State) : State :=
  let s := (s.applyRecs rs).portsRest
  let s := (s.gtrDo applyInputs).busStart
  s.canopyStart

/-- A channel has a record or is named by a port (spec/13_cuff_and_hem.md R371). -/
def State.cufNamed (n : Nat) (s : State) : Bool := s.cfg.cufChan.any (fun r => r.ch == n) || s.cfg.vpPort.any (fun r => r.chkCu == n)

/-- Once the whole image is accepted, a channel without a record that no port names is turned off (R371). -/
def State.cufUnnamedOff (s : State) : State :=
  (List.range 16).foldl (fun (s : State) n => if s.cufNamed n then s else { s with cuf := cuffDrop n s.cuf }) s

/-- Without CUF_GLOBAL in the image every generator runs at 1,000 Hz (R386). -/
def State.cufFreq (s : State) : State :=
  if s.cfg.cufGlobal.isSome then s else { s with cuf := { s.cuf with freq := Vector.replicate 4 1000 } }

/-- The records of the rest apply (R422); RUN begins at the next tick (spec/03_canopy_limits_and_faults.md R89). -/
def State.applyRest (rs : List (Nat × ImgRec)) (s : State) : State :=
  let s := (s.applyRecs rs).cufUnnamedOff.cufFreq
  { s with cnp := { s.cnp with restIn := true } }

/-- The channels of a new active take the state that their records and their owners give them (spec/13_cuff_and_hem.md R373). -/
def State.cufTake (s : State) : State :=
  let c := s.cfg.cufChan.foldl (fun c r => cuffApply r c) s.cuf
  { s with cuf := s.cfg.vpPort.foldl (fun c r => if (atD s.ports r.port {}).chkOn && r.chkCu != 0xFF then cuffDuty 2 r.chkCu 1000 c else c) c }

/-- The units that are off in standby start with the records in force when the unit takes over
(spec/16_reset_clocks_domains.md R449, spec/10_seam_pair.md Table 10.7). -/
def State.sideStart (s : State) : State :=
  let s : State := { s with cpc := { s.cpc with loops := s.cfg.cpcLoop.foldl (fun v (r : CpcLoop) => updN v r.loop (fun _ => loopStart r)) s.cpc.loops } }
  let s := s.cfg.lacChain.foldl (fun (s : State) (r : LacChain) => s.lacStart r.chain) s
  State.cufTake { s with brm := { s.brm with run := s.cfg.brmGlobal.isSome } }

end Sys2Proof.Machine
end

