-- ==== Sys2Proof/Machine/SeamOps.lean ====
section
/-! DEFINITION. Seam, the pair link (spec/10_seam_pair.md R282–R307): frames and their judging, the journal, fitness, roles,
release, takeover and the echo engine. -/

namespace Sys2Proof.Machine

/-- Change Seam. -/
def State.seamMod (f : Seam → Seam) (s : State) : State := { s with seam := f s.seam }

/-- The generation key (R286): HKDF of the pair key in slot 2 with "SEAM-GEN" and the 4-byte GEN. The slot must be bound to the record's
PEER_ID (spec/14_cloak_keys.md R392); a generation keeps its key until GEN changes (R397). -/
def State.seamKey (gen : Nat) (s : State) : Option Nat :=
  if s.clk.noKeys then none
  else if gen = s.seam.gen ∧ s.seam.genKey.isSome then s.seam.genKey
  else if s.clk.bound.isNone ∨ s.clk.bound ≠ s.seam.pair.map (·.peerId) then none
  else (s.clk.usable 2 [.hmac] 1).map (fun k => Config.hkdfExpand k.key (ascii "SEAM-GEN" ++ leBytes 4 gen))

/-- Lanes that are up. -/
def Seam.upLanes (m : Seam) : List Nat := (List.range 2).filter (fun k => (atD m.lane k {}).up)

/-- A new GEN starts LSEQ again at 0 in both directions (R288); entries kept under the former GEN can no longer be asked for. -/
def Seam.setGen (g : Nat) (m : Seam) : Seam :=
  { m with gen := g, genKey := none, txSeq := 0, rxSeq := none, asked := false, jSent := none, jAck := none, unacked := [], kept := [], held := none }

/-! ### Sending (R285, R286) -/

/-- The nonce of a frame (R286): GEN, LSEQ, DIR and three zero bytes. -/
def SeamFrame.nonce (f : SeamFrame) : List Byte := leBytes 4 f.gen ++ leBytes 4 f.lseq ++ leBytes 1 (f.flags % 2) ++ leBytes 3 0

/-- Bytes 0 to 11 of a frame (Table 10.2). -/
def SeamFrame.header (f : SeamFrame) : List Byte :=
  leBytes 1 f.typ ++ leBytes 1 f.flags ++ leBytes 2 f.len ++ leBytes 4 f.gen ++ leBytes 4 f.lseq

/-- The part of an entry's bytes that a frame carries behind its segment header (R289). -/
def entryPart (pay bytes : List Byte) : List Byte := if pay.length < 4 then bytes else (bytes.drop (1020 * leAt pay 0 2)).take 1020

/-- The payload in clear: the bytes of a type of Table 10.3, and of an entry or image those of its segment. -/
def SeamFrame.plain (f : SeamFrame) : List Byte :=
  match f.entry with
  | none => f.pay
  | some e => f.pay ++ entryPart f.pay (journalBytes e)

/-- The tag of a frame under its generation key (R286), over bytes 0 to 11 and the payload. -/
def seamTag (key : Nat) (f : SeamFrame) : Nat := Config.gcmTag key f.nonce f.header f.plain

/-- The payload of a frame as it travels (R286). -/
def seamCipher (key : Nat) (f : SeamFrame) : List Byte := (List.range f.len).map (fun i => f.plain.getD i 0 ^^^ Config.gcmStream key f.nonce i)

/-- CHECK of a frame (Table 10.2): CRC-32C of the header, the encrypted payload and the tag. -/
def seamCheck (f : SeamFrame) : Nat := crc32c (f.header ++ f.cipher ++ leBytes 16 f.tag)

/-- A frame with its payload encrypted, its tag and its CHECK. -/
def seamSeal (key : Nat) (f : SeamFrame) : SeamFrame :=
  let f : SeamFrame := { f with cipher := seamCipher key f }
  let f : SeamFrame := { f with tag := seamTag key f }
  { f with check := seamCheck f }

/-- The frame that the unit sends next, with DIR, GEN and LSEQ filled in, sealed. -/
def Seam.frame (key : Nat) (m : Seam) (f : SeamFrame) : SeamFrame :=
  seamSeal key { f with flags := if m.role = SeamRole.standby then 1 else 0, gen := m.gen, lseq := m.txSeq }

/-- The frames still to go out on a lane, in ns. -/
def SeamLane.queue (now : Nat) (l : SeamLane) : Nat := l.freeAt - now * 1000

/-- The lanes on which a frame goes (R285): every lane that is up, or the one with the shorter queue, SL0 where they are equal. -/
def Seam.lanesFor (both : Bool) (now : Nat) (m : Seam) : List Nat :=
  match m.upLanes with
  | [a, b] => if both then [a, b] else if (atD m.lane b {}).queue now < (atD m.lane a {}).queue now then [b] else [a]
  | l => l

/-- A frame of `n` bytes is placed on a lane (R285): 250 Mbit/s in 8b/10b, so 40 ns a byte. -/
def SeamLane.place (now n : Nat) (l : SeamLane) : SeamLane := { l with freeAt := max l.freeAt (now * 1000) + 40 * n }

/-- A frame is sent; without a lane up it is lost, and without the pair key none can be: a missing key (spec/14_cloak_keys.md R391). -/
def State.seamPut (both : Bool) (f : SeamFrame) (s : State) : State :=
  let s := if 0xFFFFFFF0 < s.seam.txSeq then s.seamMod (fun m => m.setGen (m.gen + 1)) else s
  match s.seamKey s.seam.gen with
  | none => if s.seam.upLanes.isEmpty then s else s.keyMissed
  | some k =>
    let f := s.seam.frame k f
    let ls := s.seam.lanesFor both s.mono
    (s.seamMod (fun m => { m with
      txSeq := m.txSeq + 1
      lane := ls.foldl (fun v l => updN v l (SeamLane.place s.mono (32 + f.len))) m.lane })).emits (ls.map (fun l => .seam l f))

/-- A frame of a type with its payload. -/
def State.seamSend (typ : Nat) (pay : List Byte) (s : State) : State := s.seamPut false { typ := typ, len := pay.length, pay := pay }

/-! ### Fitness (R291, Table 10.5) -/

/-- The image digest without the SEAM_PAIR record (Table 10.5, bit 2); 0 before the whole image is applied
(spec/15_image_and_start.md R425). -/
def State.pairDigest (s : State) : Nat :=
  if s.img.digest = 0 then 0
  else
    let bs := s.img.rd s.img.slot false 0 (leAt (s.img.rd s.img.slot false 0 128) 8 4)
    match s.img.leaf.find? (fun r => match r.2 with
        | .seamPair _ => true
        | _ => false) with
    | some (o, _) => Config.sha256 (bs.take o ++ bs.drop (o + 32))
    | none => Config.sha256 bs

/-- Echo failures of the last second on a bus (R293). -/
def Seam.echoFails (now b : Nat) (m : Seam) : Nat := ((atD m.echoBad b []).filter (fun t => decide (now < t + 1000000))).length

/-- The conditions of Table 10.5 as bits. -/
def State.seamCond (s : State) : Nat :=
  let m := s.seam
  let heard (n : Nat) : Bool := match m.lastStatusAt with
    | some t => decide (s.mono ≤ t + n)
    | none => false
  let peer (f : SeamStatus → Bool) : Bool := (m.peer.map f).getD false
  putB 0 (!m.upLanes.isEmpty && heard 30000) + putB 1 (m.synced && !m.resync && decide (m.unacked.length ≤ 8))
    + putB 2 (peer (fun x => x.digest != 0 && x.digest == s.pairDigest)) + putB 3 (peer (fun x => x.fw == s.fuses.fw))
    + putB 4 (peer (fun x => !x.unfit)) + putB 5 (s.busSet.all (fun b => decide (m.echoFails s.mono b ≤ 2)))

/-- The peer is judged again (R291): the active's result; a change to not fit raises the peer-unfit event. -/
def State.judgeFit (s : State) : State :=
  let c := s.seamCond
  let fit := s.seam.role == .active && decide (c = 63)
  let s' := s.seamMod (fun m => { m with cond := c, fit := fit })
  if s.seam.fit && !fit then s'.raise .peerUnfit else s'

/-! ### The journal (R289, R290) -/

/-- Canopy's part of an entry (spec/03_canopy_limits_and_faults.md R91). -/
def State.jEntry (s : State) : JEntry where
  tick := s.cnp.tick
  mode := s.cnp.mode
  mods := (List.range 256).map (fun n =>
    let m := atD s.cnp.mods n {}
    (m.sp, m.sel, m.st, if (s.linkOf n).admitted then some (s.linkOf n).serial else none))
  ports := s.cnp.ports.toList.map (fun q => (q.phase, q.dem, q.iPrev, q.capNr, q.adv))
  u := s.cnp.u
  tau := s.cnp.tau
  tauB := s.cnp.tauB
  soc := s.cnp.soc

/-- Every item of R289 as it stands. -/
def State.jItems (s : State) : JExtra where
  twins := s.cfg.twCable.map (fun r => (r.port, (atD s.twins r.port {}).toJ s.mono))
  ports := (List.range 12).map (fun p => (p, atD s.ports p {}))
  links := (List.range 12).map (fun p => (p, atD s.v2g p {}))
  ocpp := some s.hst.ocpp
  sessTop := some s.sessTop
  epoch := some s.mb.epoch
  gaiter := some (s.gtr.st, degLeft s.gctx)

/-- The items that differ from those sent before; a twin is sent when its own rule says so (spec/06_cooling_and_loops.md R172). -/
def JExtra.changed (old new : JExtra) : JExtra where
  twins := new.twins
  ports := new.ports.filter (fun x => !old.ports.contains x)
  links := new.links.filter (fun x => !old.links.contains x)
  ocpp := if old.ocpp = new.ocpp then none else new.ocpp
  sessTop := if old.sessTop = new.sessTop then none else new.sessTop
  epoch := if old.epoch = new.epoch then none else new.epoch
  gaiter := if old.gaiter = new.gaiter then none else new.gaiter

/-- Put numbered items in the place of older ones. -/
def mergeItems {α : Type} (old new : List (Nat × α)) : List (Nat × α) :=
  sortBy (·.1) (new ++ old.filter (fun x => !new.any (fun y => y.1 == x.1)))

/-- What a standby holds after an entry. -/
def JExtra.merge (old new : JExtra) : JExtra where
  twins := mergeItems old.twins new.twins
  ports := mergeItems old.ports new.ports
  links := mergeItems old.links new.links
  ocpp := new.ocpp.or old.ocpp
  sessTop := new.sessTop.or old.sessTop
  epoch := new.epoch.or old.epoch
  gaiter := new.gaiter.or old.gaiter

/-- The twins of an entry, stamped at its receipt (spec/06_cooling_and_loops.md R172). -/
def Seam.holdTwins (now : Nat) (x : JExtra) (m : Seam) : Seam :=
  { m with mirTwins := mergeItems m.mirTwins (x.twins.map (fun q => (q.1, q.2, now))) }

/-- A frame with the length of its payload. -/
def SeamFrame.sized (f : SeamFrame) : SeamFrame := { f with len := f.plain.length }

/-- The frames of an entry or image (R289, R304). -/
def segments (typ : Nat) (e : JFull) : List SeamFrame :=
  let len := (journalBytes e).length
  let n := (len + 1019) / 1020
  let one (pay : List Byte) : SeamFrame := SeamFrame.sized { typ := typ, pay := pay, entry := some e }
  if len ≤ 1024 then [one []] else (List.range n).map (fun i => one (leBytes 2 i ++ leBytes 2 n))

/-- Entries can be sent: the pair key is there and a lane is up. -/
def State.seamReady (s : State) : Bool := (s.seamKey s.seam.gen).isSome && !s.seam.upLanes.isEmpty

/-- An entry is sent: the active keeps it with the LSEQ of its last frame (R290). -/
def State.sendEntry (e : JFull) (s : State) : State :=
  if !s.seamReady then s
  else
    let s := (segments 1 e).foldl (fun (s : State) f => s.seamPut false f) s
    let q := s.seam.txSeq - 1
    s.seamMod (fun m => { m with jSent := some q, unacked := m.unacked ++ [q], kept := ((q, e) :: m.kept).take 64 })

/-- The items of an entry one by one. -/
def JExtra.parts (x : JExtra) : List JExtra :=
  x.twins.map (fun t => { twins := [t] }) ++ x.ports.map (fun p => { ports := [p] }) ++ x.links.map (fun l => { links := [l] })
    ++ x.ocpp.toList.map (fun o => { ocpp := some o }) ++ x.sessTop.toList.map (fun n => { sessTop := some n })
    ++ x.epoch.toList.map (fun e => { epoch := some e }) ++ x.gaiter.toList.map (fun g => { gaiter := some g })

/-- An entry takes one slot of 2 KiB (R290). -/
def inSlot (e : JFull) : Bool := decide ((journalBytes e).length ≤ 2048)

/-- The items that go into the next entry (R290): all, where they fit one slot or none of the last 31 entries took more, so that at most 16
of any 500 do; else those that fit one after another, and the others wait, at most 64 ms. DESIGN CHOICE (log 125): this rhythm. -/
def Seam.pick (c : JEntry) (x : JExtra) (m : Seam) : JExtra :=
  if inSlot { c := c, x := x } || decide (31 ≤ m.small) then x
  else x.parts.foldl (fun got i => if inSlot { c := c, x := got.merge i } then got.merge i else got) {}

/-- The active journals a tick (R289, R290). -/
def State.journalTick (s : State) : State :=
  if s.seam.role ≠ .active ∨ !s.seamReady then s
  else
    let x := s.jItems
    let due := { x with twins := x.twins.filter (fun t => (atD s.twins t.1 {}).jDue) }
    let e : JFull := { c := s.jEntry, x := s.seam.pick s.jEntry (s.seam.sentX.changed due) }
    let t := s.sendEntry e
    ({ t with twins := mapIdx t.twins (fun k (w : Twin) => if e.x.twins.any (fun q => q.1 == k) then { w with jDue := false } else w) }).seamMod
      (fun m => { m with sentX := m.sentX.merge e.x, small := if inSlot e then min 31 (m.small + 1) else 0 })

/-- A full resync (R304): the state image goes out in SNAPSHOT frames; an access being relayed ends (R306). -/
def State.fullResync (s : State) : State :=
  let x := s.jItems
  let s := (segments 7 { c := s.jEntry, x := x }).foldl (fun (s : State) f => s.seamPut false f) s
  (s.seamMod (fun m => { m with resync := true, synced := false, resyncAt := none, sentX := x })).judgeFit

/-- A resync request (R290): the missing entries go out again if they are still held, else the whole image. -/
def State.resyncRequest (last : Nat) (s : State) : State :=
  let miss := s.seam.kept.filter (fun e => decide (last < e.1))
  if last ≠ 0xFFFFFFFF ∧ s.seam.kept.any (fun e => decide (e.1 ≤ last)) then
    let s := s.seamMod (fun m => { m with
      resyncAt := none, kept := m.kept.filter (fun e => decide (e.1 ≤ last)), unacked := m.unacked.filter (fun q => decide (q ≤ last)) })
    miss.reverse.foldl (fun (s : State) e => s.sendEntry e.2) s
  else s.fullResync

/-! ### Receiving (R287) -/

/-- How a receiver judges a frame (Table 10.4). -/
inductive SeamVerdict where
  | crc | form | late | auth | role | ok
  deriving DecidableEq, Repr

/-- The payload length that Table 10.3 gives a type; none where it varies. -/
def seamLen (typ : Nat) : Option Nat :=
  if typ = 2 ∨ typ = 5 ∨ typ = 6 then some 4 else if typ = 3 then some 48 else if typ = 4 then some 12 else none

/-- The length disagrees with the bytes received or with the type. -/
def seamLenBad (f : SeamFrame) : Bool :=
  decide (1024 < f.len) || f.len != f.cipher.length || f.len != f.plain.length
    || (match seamLen f.typ with
      | some n => f.len != n
      | none => false)

/-- DIR is right for the receiver's role: the active hears the standby, a standby and a releasing unit hear the active. -/
def seamDirOk (r : SeamRole) (flags : Nat) : Bool :=
  match r with
  | .active => flags == 1
  | .standby | .released => flags == 0
  | _ => flags ≤ 1

/-- The types that a role may receive (Table 10.3). -/
def seamAllowed (r : SeamRole) (typ : Nat) : Bool :=
  match r with
  | .standby => typ == 1 || typ == 3 || typ == 4 || typ == 7 || typ == 8
  | .active => typ == 2 || typ == 3 || typ == 6 || typ == 9
  | .released => typ == 3 || typ == 5
  | .start | .taking => typ == 3
  | .single => false

/-- Table 10.4. -/
def State.seamJudge (f : SeamFrame) (s : State) : SeamVerdict :=
  let m := s.seam
  if f.check ≠ seamCheck f then .crc
  else if seamLenBad f then .form
  else if f.typ < 1 ∨ 9 < f.typ ∨ 1 < f.flags ∨ !seamDirOk m.role f.flags then .form
  else if f.gen < m.gen ∨ (f.gen = m.gen ∧ (match m.rxSeq with
      | some q => decide (f.lseq ≤ q)
      | none => false) = true) then .late
  else match s.seamKey f.gen with
    | none => .auth
    | some k => if f.tag ≠ seamTag k f ∨ f.cipher ≠ seamCipher k f then .auth else if seamAllowed m.role f.typ then .ok else .role

/-- A tag failure (Table 10.4): the third within 1 s takes both lanes down. -/
def State.seamAuthFail (s : State) : State :=
  let ts := (s.mono :: s.seam.authTimes).filter (fun t => decide (s.mono < t + 1000000))
  let s := s.seamMod (fun m => { m with auth := satInc 8 m.auth, authTimes := ts })
  if 3 ≤ ts.length then
    (s.seamMod (fun m => { m with authTimes := [], lane := m.lane.map (fun _ => { up := false, downAt := some s.mono }) })).judgeFit
  else s

/-- A frame is accepted: GEN and LSEQ follow, the peer is present (R285). -/
def State.seamAccept (f : SeamFrame) (s : State) : State :=
  let s := if s.seam.gen < f.gen then s.seamMod (fun m => { m.setGen f.gen with resync := m.resync && m.role != .standby }) else s
  s.seamMod (fun m => { m with rxSeq := some f.lseq, lastAt := s.mono, peerLost := false })

/-- A frame arrives under the command of type `typ`: it is judged, and `act` is done where it is accepted. A frame of another
known type is not this command's. -/
def State.onSeam (typ : Nat) (f : SeamFrame) (act : State → State) (s : State) : State :=
  if !s.up || s.seam.pair.isNone || s.seam.upLanes.isEmpty || (decide (1 ≤ f.typ) && decide (f.typ ≤ 9) && f.typ != typ) then s
  else match s.seamJudge f with
    | .crc => s.seamMod (fun m => { m with crcErr := satInc 8 m.crcErr })
    | .form => s.seamMod (fun m => { m with badLen := satInc 8 m.badLen })
    | .late => s.seamMod (fun m => { m with late := satInc 8 m.late })
    | .auth => s.seamAuthFail
    | .role => s.wrongState (some .seamProtocol)
    | .ok => act s

/-- The standby has missed a frame: the LSEQ does not follow the last one accepted (R290), or is not the first of a GEN in which the standby
has not asked for a resync. -/
def Seam.gap (f : SeamFrame) (m : Seam) : Bool :=
  if m.gen < f.gen then f.lseq != 0
  else match m.rxSeq with
    | some q => f.lseq != q + 1
    | none => f.lseq != 0 && !m.asked

/-- The standby asks for what it has missed since its last held entry (R290, R304). -/
def State.askResync (s : State) : State :=
  if s.seamReady then (s.seamSend 6 (leBytes 4 (s.seam.held.getD 0xFFFFFFFF))).seamMod (fun m => { m with asked := true }) else s

/-- Accept a frame; a standby that finds a gap asks for the missing entries. The flag says that there was none. -/
def State.seamTake (f : SeamFrame) (s : State) : State × Bool :=
  let bad := s.standby && s.seam.gap f
  let s := s.seamAccept f
  if bad then (s.askResync, false) else (s, true)

/-- One more segment of an entry or image: the assembly, and whether it is complete. -/
def segTake (f : SeamFrame) (a : Option (Nat × List Nat)) : Option (Nat × List Nat) × Bool :=
  let (i, n) := if f.pay.length < 4 then (0, 1) else (leAt f.pay 0 2, leAt f.pay 2 2)
  let held := match a with
    | some (k, l) => if k = n then addSet i l else [i]
    | none => [i]
  if n ≤ held.length then (none, true) else (some (n, held), false)

/-- The newest entries of a ring that fit into 4,096 slots of which `n` are taken. -/
def ringFit : Nat → List JHeld → List JHeld
  | _, [] => []
  | n, x :: l => if n + x.slots ≤ 4096 then x :: ringFit (n + x.slots) l else []

/-- A complete entry is written to the ring in two copies, each with its CRC-32C (R290): 4,096 slots of 2 KiB, of which it takes as many as it
needs, at most 8; the oldest entries make room. -/
def Seam.store (lseq now : Nat) (e : JFull) (m : Seam) : Seam :=
  let n := max 1 (min 8 (((journalBytes e).length + 2047) / 2048))
  let h : JHeld := { lseq := lseq, e := e, at_ := now, slot := m.slot, slots := n, crc := Vector.replicate 2 (crc32c (journalBytes e)) }
  { m with ring := h :: ringFit n m.ring, slot := (m.slot + n) % 4096, held := some lseq }

/-- The last entry of which a copy passes its CRC-32C (R297). -/
def Seam.lastGood (m : Seam) : Option JHeld := m.ring.find? (fun h => h.crc.toList.contains (crc32c (journalBytes h.e)))

/-- A complete entry is written and acknowledged (R290). -/
def State.storeEntry (lseq : Nat) (e : JFull) (s : State) : State :=
  (s.seamMod (fun m => Seam.holdTwins s.mono e.x { m.store lseq s.mono e with mir := m.mir.merge e.x })).seamSend 2 (leBytes 4 lseq)

/-! ### Roles (R282, R283) -/

/-- The unit becomes standby (Table 10.1): cores and Canopy off, resync requested. Chains that have left OFF return to it
(spec/11_lacing_stack_chain.md R315). -/
def State.becomeStandby (s : State) : State :=
  let s := (s.lac.ch.toList.filter (fun c => c.st != .off)).foldl (fun (s : State) _ => s.raise .lacingChain) s
  let s := (s.gtrDo handoverDone).seamMod (fun m => { m with role := .standby, drive := false, seenLow := m.other, resync := true })
  let s := { s with cnp := {}, cpc := {}, lac := { run := s.lac.run }, brm := {}, cuf := cuffAllOff s.cuf }
  (s.seamMod (fun m => { m with held := none, asked := false })).askResync

/-- The unit becomes active: it drives OWN_N and Canopy starts. -/
def State.becomeActive (s : State) : State :=
  (s.seamMod (fun m => { m with role := .active, drive := true, synced := false })).canopyStart

/-- This unit prefers the active role by its strap (R283). -/
def State.prefersActive (s : State) : Bool := !bitOf 0 s.img.strap

/-- This unit wins the role choice against a peer with the given preference (R283). -/
def State.wins (peerActive : Bool) (s : State) : Bool :=
  if s.prefersActive = peerActive then decide (s.fuses.devId < ((s.seam.pair.map (·.peerId)).getD 0)) else s.prefersActive

/-- The role choice of a unit in START that has heard the peer's STATUS (R283). -/
def State.chooseRole (peerActive : Bool) (s : State) : State :=
  if s.seam.role ≠ .start then s
  else if s.seam.other || !s.wins peerActive then s.becomeStandby else s.becomeActive

/-- The role choice of a unit in START that has seen no lane train (R283): 2 s, or 7 s where its strap prefers standby. Without a pair key
the pair does not form (spec/14_cloak_keys.md R392): the unit runs single then too. -/
def State.chooseAlone (s : State) : State :=
  if s.seam.role ≠ .start ∨ (!s.seam.upLanes.isEmpty ∧ (s.seamKey s.seam.gen).isSome) ∨ !State.passed s.seam.startAt (if s.prefersActive then 2000000 else 7000000) s then s
  else if s.seam.other then s.becomeStandby else s.becomeActive

/-- The 48 bytes of a STATUS payload (Table 10.3): role, fitness bits, image digest, firmware version, Gaiter state. DESIGN CHOICE (log
126): four bytes each but the digest; the strap's preference, which R283 exchanges, and GTR_STAT.UNFIT stand in bit 8 of the role and of the
Gaiter state. -/
def SeamStatus.bytes (x : SeamStatus) : List Byte :=
  leBytes 4 (x.role + 256 * x.prefActive.toNat) ++ leBytes 4 x.fit ++ beBytes 32 x.digest ++ leBytes 4 x.fw
    ++ leBytes 4 (x.gaiter + 256 * x.unfit.toNat)

/-- What a STATUS frame says. -/
def SeamFrame.status (f : SeamFrame) : SeamStatus where
  role := leAt f.pay 0 1
  prefActive := bitOf 8 (leAt f.pay 0 4)
  fit := leAt f.pay 4 4
  digest := leNat ((f.pay.drop 8).take 32).reverse
  fw := leAt f.pay 40 4
  gaiter := leAt f.pay 44 1
  unfit := bitOf 8 (leAt f.pay 44 4)

/-- The STATUS frame of this unit (Table 10.3). -/
def State.statusFrame (s : State) : SeamFrame where
  typ := 3
  len := 48
  pay := SeamStatus.bytes {
    role := s.seam.role.code, fit := s.seamCond, digest := s.pairDigest, fw := s.fuses.fw, unfit := s.gtr.unfit,
    gaiter := s.gtr.st.code, prefActive := s.prefersActive }

/-! ### Giving up control (R295, R296) -/

/-- The active releases with a reason (R296); an access being relayed ends (R306). Heartbeat loss sends no frame and lets OWN_N go at once (Table 10.6). In a swap the heartbeat
ends with the tick (spec/20_known_limitations.md R507). -/
def State.release (reason : Nat) (s : State) : State :=
  let s := if reason = 7 then s.seamMod (fun m => { m with drive := false })
    else (s.seamPut true { typ := 4, len := 12, pay := leBytes 1 reason ++ leBytes 3 0 ++ leBytes 4 s.cnp.tick ++ leBytes 4 (s.seam.jSent.getD 0xFFFFFFFF) }).seamMod
      (fun m => { m with relAt := some s.mono })
  ((s.seamMod (fun m => { m with role := .released, fit := false, swapped := decide (reason = 8) })).withdrawAll).relayEnd

/-- A release cause of Table 10.6 holds, as far as this unit's state shows it; JOURNAL and MRAM are found by the command. -/
def State.releaseCause (reason : Nat) (s : State) : Bool :=
  match reason with
  | 1 | 2 | 5 => s.rst.pend.any (fun p => bitOf reason p.causes)
  | 3 | 4 => true
  | 6 => s.rst.band == 4
  | 7 => s.gtr.hbWait
  | _ => false

/-- The conditions of a swap (R305). -/
def State.swapOk (s : State) : Bool :=
  s.seam.role == .active && s.seam.fit && s.gtr.st == .run &&
    (match s.seam.lastTake with
    | some t => State.passed t 60000000 s
    | none => true)

/-- SEAM_CTRL.SWAP (R305). -/
def State.swapWrite (s : State) : Status × State :=
  if s.swapOk then (.ok, (s.release 8).seamMod (fun m => { m with swapAt := s.mono })) else (.notInState, s)

/-! ### Takeover (R297 to R301) -/

/-- Canopy as a new active starts it (spec/03_canopy_limits_and_faults.md R92): HOLD, with the last complete entry. -/
def Canopy.resume (e : Option JHeld) (now : Nat) : Canopy :=
  let c : Canopy := { started := true, mode := .hold, restIn := true, measAt := now, socAt := now }
  match e with
  | none => c
  | some j =>
    { c with
      tick := j.e.c.tick
      restore := some (j.e.c, j.at_)
      mods := mapIdx c.mods (fun n (m : CnpModSt) =>
        match j.e.c.mods[n]? with
        | some (sp, sel, st, a) => { m with sp := sp, okSp := sp, sel := sel, okSel := sel, st := st, admitted := a.isSome }
        | none => m)
      ports := mapIdx c.ports (fun p (q : CnpPortSt) =>
        match j.e.c.ports[p]? with
        | some (ph, d, i, cap, adv) =>
          { q with phase := ph, dem := d, iPrev := i, alloc := i, capNr := cap, adv := adv, toldAdv := adv, heldDem := some d }
        | none => q)
      u := j.e.c.u, tau := j.e.c.tau, tauB := j.e.c.tauB, soc := j.e.c.soc }

/-- The modules that the entry holds as admitted stay so; for Canopy they are no new arrivals. -/
def State.restoreLinks (e : Option JHeld) (s : State) : State :=
  match e with
  | none => s
  | some j =>
    (List.finRange 4).foldl (fun (s : State) b => s.busMod b (fun m => { m with
      link := mapIdx m.link (fun a (l : PmLink) =>
        match j.e.c.mods[64 * b.val + a]? with
        | some (_, _, _, some n) => { l with admitted := true, serial := n, lost := false, fresh := false, gone := false }
        | _ => l) })) s

/-- The items mirrored from the old active come into force: ports with the transport of their connections, twins, client, session counter, epoch (R298 to R301). -/
def State.restoreItems (s : State) : State :=
  let x := s.seam.mir
  let e := match x.epoch with
    | some e => e
    | none => s.mb.epoch
  let s := { s with
    ports := x.ports.foldl (fun v q => updN v q.1 (fun own => { q.2 with run := own.run })) s.ports
    v2g := x.links.foldl (fun v q => updN v q.1 (fun _ => q.2)) s.v2g
    twins := s.cfg.twCable.foldl (fun v r => updN v r.port (twinRestore s.mono (s.seam.mirTwins.find? (fun q => q.1 == r.port) |>.map (·.2)))) s.twins
    sessNext := x.sessTop.getD s.sessTop
    sessTop := x.sessTop.getD s.sessTop
    mb := { s.mb with epoch := nextEpoch e, shown := nextEpoch e } }
  match x.ocpp with
  | some o => { s with hst := { s.hst with ocpp := { o with st := if s.cfg.hstOcpp.isSome then 1 else 0, delay := 1 } } }
  | none => s

/-- Gaiter takes the journaled site state (R301), and the ports request their gates (R299). -/
def State.restoreGaiter (s : State) : State :=
  let (st, left) := s.seam.mir.gaiter.getD (.hold, 0)
  let s := s.gtrDo (gaiterTakeover st left)
  (List.finRange 12).foldl (fun (s : State) p => if (s.ports[p]).gateReq then s.gtrDo (gateRequest p) else s) s

/-- A trim loop of Canopy goes on from the output that the journal gave (R92): in AUTO its integrator is preset to it. -/
def loopFrom (q : Rat) (l : Loop) : Loop :=
  if l.recd.isSome then { l with out := fOf q, man := if l.st = .manual then fOf q else l.man } else l

/-- Loops 63 and 62 restart with τ and τ_b of the entry (R92): the loops run on from there, and not from OUT_SAFE. -/
def State.restoreTrims (s : State) : State :=
  { s with cpc := (s.cpc.setLoop 63 (loopFrom s.cnp.tau)).setLoop 62 (loopFrom s.cnp.tauB) }

/-- The standby starts a takeover at t0 (R297). What Table 10.7 places between t0 and the first tick is done at once. -/
def State.takeover (reason : Nat) (s : State) : State :=
  let s := s.raise .takeoverStarted
  let e := s.seam.lastGood
  let s := s.seamMod (fun m => { m with
    role := .taking, drive := true, seenLow := false, resync := false, fit := false, t0 := s.mono, takeTs := s.tb % 2 ^ 32,
    reason := reason % 16, holdN := Vector.replicate 4 0
    echo := m.echo.map (fun v => v.map (fun x => { x with wait := none })) })
  -- the echoes in the transmit buffers go out no more (R294)
  let s := (List.finRange 4).foldl (fun (s : State) b => (List.range 4).foldl (fun s j => s.withdrawGroup b j) s) s
  let s := s.restoreItems.restoreLinks e
  let s := s.seamMod (fun m => { m with handed := s.ports.map (fun q => !q.kCmd) })
  let s := { s with cnp := Canopy.resume e s.mono }
  (s.restoreGaiter).sideStart.restoreTrims

/-- Once its own drivers conduct and feedback agrees a port counts as handed over (R299). -/
def State.handPort (p : Fin 12) (s : State) : State :=
  if (s.portPins p).coil != .off && s.ports[p].k0 && s.ports[p].k1 then s.seamMod (fun m => { m with handed := upd m.handed p (fun _ => true) })
  else s

/-- Every port with closed contactors is handed over; one that has opened them needs no handover. -/
def State.portsHanded (s : State) : Bool := (List.finRange 12).all (fun p => s.seam.handed[p] || !s.ports[p].kCmd)

/-- The takeover is complete (Table 10.7, last row): HANDOVER under the former GEN, then a new one. -/
def State.takeoverDone (s : State) : State :=
  let s := s.seamSend 5 (leBytes 2 s.mb.epoch ++ leBytes 2 0)
  let s := s.raise .takeoverDone
  s.seamMod (fun m => { m.setGen (m.gen + 1) with
    role := .active, takes := satInc 8 m.takes, dur := sat 16 ((s.mono - m.t0) / 10), lastTake := some s.mono, swapAt := s.mono,
    synced := false, resync := false })

/-- The released unit has handed over (R282, R296, R299): Gaiter goes on in the standby role and the pilot drive stops; a
system reset follows. -/
def State.handedOver (s : State) : State :=
  let s := s.gtrDo handoverDone
  { s with
    ports := s.ports.map (fun q => { q with duty := 0 })
    rst := { s.rst with pend := some (s.rst.pend.getD { src := 5, at_ := s.mono }) } }

/-! ### Echo (R292 to R294) -/

/-- Change the echo state of a group on a bus. -/
def State.echoMod (b : Fin 4) (g : Nat) (f : EchoSt → EchoSt) (s : State) : State :=
  s.seamMod (fun m => { m with echo := upd m.echo b (fun v => updN v g f) })

/-- The echo state of a group on a bus. -/
def State.echoOf (b : Fin 4) (g : Nat) (s : State) : EchoSt := atD s.seam.echo[b] g {}

/-- The module rule of spec/04_module_bus.md R114. -/
def moduleAccepts (last : Option (Nat × Nat)) (e q : Nat) : Bool :=
  match last with
  | none => true
  | some (e0, q0) => if e = e0 then newer q q0 else newer e e0

/-- An echo failure is counted (R293). -/
def State.echoFail (b : Fin 4) (missing : Bool) (s : State) : State :=
  (s.seamMod (fun m => { m with
    mismatch := if missing then m.mismatch else satInc 16 m.mismatch
    missing := if missing then satInc 16 m.missing else m.missing
    echoBad := upd m.echoBad b (fun l => (s.mono :: l).filter (fun t => decide (s.mono < t + 1000000))) })).judgeFit

/-- A group frame of another transmitter has entered the high-priority buffer: the standby's engine queues its echo (R292),
the active compares it with its original (R293). -/
def State.echoHeard (b : Fin 4) (x : RxFrame) (s : State) : State :=
  if x.id < 0x010 ∨ 0x013 < x.id then s
  else
    let g := x.id - 0x010
    let c := controlOf x.data
    let e := leAt c 0 2
    let q := leAt c 2 2
    if s.standby && !s.gtr.unfit then
      if moduleAccepts (s.echoOf b g).last e q then
        (s.withdrawGroup b g).echoMod b g (fun k => { k with last := some (e, q), wait := some (x.data, x.at_ + 300) })
      else s
    else if s.seam.role = .active then
      match (s.echoOf b g).expect with
      | some (d, t) =>
        if t + 1000 < x.at_ then s
        else
          let s := s.echoMod b g (fun k => { k with expect := none })
          if d = x.data then s else s.echoFail b false
      | none => s
    else s

/-- The pairs that the groups of a bus were last heard with, each once (R294). -/
def State.heardPairs (b : Fin 4) (s : State) : List (Nat × Nat) :=
  ((s.seam.echo[b]).toList.filterMap (·.last)).foldl (fun l x => addSet x l) []

/-- The HOLD frames of one release instant on a bus (R294); HOLD_N counts every HOLD frame sent
(spec/04_module_bus.md Table 4.6). -/
def State.sendHolds (b : Fin 4) (s : State) : State :=
  (s.heardPairs b).foldl (fun (s : State) x =>
    let s := s.seamMod (fun m => { m with holdN := upd m.holdN b (fun n => n + 1) })
    s.queueHold b (holdFrame x.1 x.2 b s.seam.holdN[b]) x.2) s

/-! ### The relay (R306) -/

/-- A relayed access cannot be taken now. -/
def State.relayBlocked (s : State) : Bool :=
  s.seam.role != .active || s.seam.peerLost || s.seam.resync

/-- The next RELAY frame of the access under way: at most 252 words (R306). -/
def State.relayFrame (r : RelayPend) (s : State) : State :=
  let n := min 252 r.left
  let s := s.seamSend 8 (leBytes 4 r.tag ++ leBytes 1 (if r.write then 2 else 1) ++ leBytes 3 0 ++ leBytes 4 r.addr ++ leBytes 4 n
    ++ ((r.words.take n).map (leBytes 4)).flatten)
  s.seamMod (fun m => { m with relay := some { r with at_ := s.mono } })

/-- A host access to the peer begins: NOT_IN_STATE, BUSY while another is under way, else a frame goes out. -/
def State.relayStart (write : Bool) (addr count : Nat) (ws : List Nat) (chan esTag : Nat) (sent : List Byte) (s : State) : Status × State :=
  if s.relayBlocked then (.notInState, s)
  else if s.seam.relay.isSome then (.busy, s)
  else
    let s := s.seamMod (fun m => { m with relayTag := (m.relayTag + 1) % 2 ^ 32 })
    (.ok, s.relayFrame {
      tag := s.seam.relayTag, write := write, addr := addr, left := count, words := ws, got := [], at_ := s.mono, chan := chan, esTag := esTag,
      sent := sent })

end Sys2Proof.Machine
end

