-- ==== Sys2Proof/Machine/RegGuard.lean ====
section
/-! DEFINITION. The registers of the page groups GTR_, SEAM_ and HEM_ (spec/07_gaiter_safety.md Tables 7.9 and 7.10,
spec/10_seam_pair.md Tables 10.11 and 10.12, spec/13_cuff_and_hem.md Table 13.10). -/

namespace Sys2Proof.Machine

/-! ### GTR_ -/

/-- GTR_STAT (Table 7.10). -/
def State.gtrStat (s : State) : Nat :=
  put 0 3 s.gtr.st.code + putB 3 s.gtr.trip + putB 4 (resumable s.gctx) + putB 5 s.gtr.unfit + putB 6 s.gtr.standby

/-- Read of the GTR_ page group. -/
def gtrRead (o : Nat) (s : State) : Option (Nat × State) :=
  let g := s.gtr
  match o with
  | 0x000 => rd 0 s
  | 0x004 => rd s.gtrStat s
  | 0x008 => rd (put 0 4 g.cause.kind + put 8 5 g.cause.idx) s
  | 0x00C => rd (g.cause.ts % 2 ^ 32) s
  | 0x010 => rd (maskOf 16 (fun n => (atD g.ins n {}).closed) + put 16 16 (maskOf 16 (fun n => (atD g.ins n {}).fault))) s
  | 0x014 => rd (maskOf 16 (fun n => (atD g.ins n {}).a) + put 16 16 (maskOf 16 (fun n => (atD g.ins n {}).b))) s
  | 0x018 => rd (maskOf 24 (fun n => (atD g.fc n {}).active)) s
  | 0x01C => some (maskOf 24 (fun n => (atD g.fc n {}).cross),
      { s with gtr := { g with fc := g.fc.map (fun x => { x with cross := false }) } })
  | 0x020 => rd (maskOf 8 (fun n => (atD g.so n {}).level (s.cfg.gtrGlobal.getD {}).offp s.mono) + put 8 8 (maskOf 8 (fun n => (atD g.so n {}).fail))
      + put 16 8 (maskOf 8 (fun n => (atD g.so n {}).host))) s
  | 0x024 => rd (maskOf 12 (fun n => (atD g.gates n {}).en) + put 12 12 (maskOf 12 (fun n => (atD g.gates n {}).req))) s
  | 0x028 => rd (put 0 14 g.diag) s
  | 0x02C => rd (put 0 17 (degLeft s.gctx / 1000000)) s
  | 0x030 => some (put 0 16 g.trips + put 16 16 g.softs, { s with gtr := { g with trips := 0, softs := 0 } })
  | _ => none

/-- A write of GTR_CTRL (R203, R205): a refused part refuses the whole write. -/
def gtrCtrlWrite (w : Nat) (s : State) : Status × State :=
  let resume := bitOf 0 w
  let soft := bitOf 1 w
  if (resume && !(resumeWrite s.gctx).2) || (soft && !(softWrite s.gctx).2) then (.notInState, s)
  else
    let s := if resume then s.gtrDo (fun c => (resumeWrite c).1) else s
    (.ok, if soft then s.gtrDo (fun c => (softWrite c).1) else s)

/-- Write of the GTR_ page group. -/
def gtrWrite (o w : Nat) (s : State) : Option (Status × State) :=
  match o with
  | 0x000 => some (gtrCtrlWrite w s)
  | 0x020 => some (.ok, { s with gtr := { s.gtr with so := Vector.ofFn (fun n => { s.gtr.so[n] with host := bitOf (16 + n.val) w }) } })
  | _ => roWrite (gtrRead o s) s

/-! ### SEAM_ -/

/-- SEAM_STAT (Table 10.12): OWN_N is high where no unit drives it; without a pair record it reads 0. -/
def Seam.statWord (m : Seam) : Nat :=
  put 0 3 m.role.code + putB 3 (m.pair.isSome && !m.drive && !m.other) + putB 4 m.lane[0].up + putB 5 m.lane[1].up
    + putB 6 m.fit + putB 7 m.resync

/-- Read of the SEAM_ page group. -/
def seamRead (o : Nat) (s : State) : Option (Nat × State) :=
  let m := s.seam
  match o with
  | 0x000 => rd 0 s
  | 0x004 => rd m.statWord s
  | 0x008 => rd (put 0 6 m.cond) s
  | 0x00C => rd (m.gen % 2 ^ 32) s
  | 0x010 => rd (m.unacked.length % 2 ^ 32) s
  | 0x014 => some (put 0 8 m.crcErr + put 8 8 m.badLen + put 16 8 m.late + put 24 8 m.auth,
      { s with seam := { m with crcErr := 0, badLen := 0, late := 0, auth := 0 } })
  | 0x018 => some (put 0 16 m.mismatch + put 16 16 m.missing, { s with seam := { m with mismatch := 0, missing := 0 } })
  | 0x01C => rd (put 0 8 m.takes + put 8 4 m.reason + put 16 16 m.dur) s
  | 0x020 => rd (m.takeTs % 2 ^ 32) s
  | _ => none

/-- Write of the SEAM_ page group. -/
def seamWrite (o w : Nat) (s : State) : Option (Status × State) :=
  match o with
  | 0x000 => some (if bitOf 0 w then s.swapWrite else (.ok, s))
  | _ => roWrite (seamRead o s) s

/-! ### HEM_ -/

/-- HEM_STAT (Table 13.10). -/
def Hem.statWord (h : Hem) : Nat :=
  put 0 3 h.st.code + put 3 4 h.active + put 7 4 h.phFlt + put 11 3 h.vsel + putB 14 h.vselBad + putB 15 h.blkAt.isSome + put 16 4 h.hic

/-- Read of the HEM_ page group. -/
def hemRead (o : Nat) (s : State) : Option (Nat × State) :=
  let h := s.hem
  match o with
  | 0x000 => rd 0 s
  | 0x004 => rd h.statWord s
  | 0x008 => rd (put 0 16 h.vout + put 16 16 (floorNat h.vref)) s
  | 0x00C => rd (put 0 16 h.vin) s
  | 0x020 => some (put 0 8 h.hiccups + put 8 8 h.sheds + put 16 8 h.aborts + put 24 8 h.faults,
      { s with hem := { h with hiccups := 0, sheds := 0, aborts := 0, faults := 0 } })
  | 0x024 => rd (put 0 3 h.fsel) s
  | _ =>
    if 0x010 ≤ o ∧ o < 0x020 then rd (putI 0 16 (atD h.iph ((o - 0x010) / 4) 0)) s
    else if 0x040 ≤ o ∧ o < 0x060 then rd (hemFrec h ((o - 0x040) / 4)) s
    else none

/-- A write of 1 to HEM_CTRL.CLR (Table 13.3). -/
def hemClrWrite (w : Nat) (s : State) : Status × State :=
  if !bitOf 0 w then (.ok, s)
  else if (hemClr { h := s.hem, e := s.hemEnv }).2 then (.ok, s.hemDo (fun x => (hemClr x).1))
  else (.notInState, s)

/-- Write of the HEM_ page group. -/
def hemWrite (o w : Nat) (s : State) : Option (Status × State) :=
  match o with
  | 0x000 => some (hemClrWrite w s)
  | 0x024 => some (.ok, { s with hem := { s.hem with fsel := w % 8 } })
  | _ => roWrite (hemRead o s) s

end Sys2Proof.Machine
end

