-- ==== Sys2Proof/Machine/RegHost.lean ====
section
/-! DEFINITION. The registers of the page groups BRM_, LAC_, CLK_ and HST_ and the mirrors SLV_ and BIL_
(spec/12_bramble_site_link.md Table 12.11, spec/11_lacing_stack_chain.md Table 11.10, spec/14_cloak_keys.md Table 14.8,
spec/18_host_and_discovery.md Table 18.10, spec/08_sleeve_metrology.md Tables 8.10 and 8.11,
spec/09_billing_and_tamper.md Tables 9.7 and 9.8). -/

namespace Sys2Proof.Machine

/-! ### BRM_ -/

/-- The number of admitted partners; one that cannot be reached stays admitted (spec/12_bramble_site_link.md R348). -/
def Bramble.admits (b : Bramble) : Nat := (b.nbr.toList.filter (fun n => n.st == .admitted || n.st == .unreachable)).length

/-- A register of neighbour `n` at its offset in the 16 bytes (Table 12.11). -/
def brmNbrWord (n r : Nat) (s : State) : Nat :=
  let b := atD s.brm.nbr n {}
  match r with
  | 0x0 => b.addr % 2 ^ 32
  | 0x4 => put 0 16 (b.addr / 2 ^ 32) + put 16 2 b.kind + put 18 2 b.st.code + put 20 2 b.phase
  | 0x8 => put 0 7 (match b.map with | some m => toneBits m.1 | none => 0) + putB 7 b.pend + put 8 16 (sat 16 (linkCost s.bctx n))
      + put 24 8 (sat 8 b.errs)
  | _ => put 0 16 b.rcost + put 16 8 b.parent + put 24 8 (if b.st = .empty then 0xFE else n + 1)

/-- A register of a binding (Table 12.11). -/
def brmBindWord (k r : Nat) (s : State) : Nat :=
  let b := atD s.brm.bind k {}
  if r = 0 then b.val % 2 ^ 32
  else put 0 16 (match b.at_ with | some t => sat 16 ((s.mono - t) / 100000) | none => 0xFFFF) + putB 16 (bindBad k s.bctx)

/-- Read of the BRM_ page group; RC fields are cleared. -/
def brmRead (o : Nat) (s : State) : Option (Nat × State) :=
  let b := s.brm
  match slotOf o 0x100 0x10 64, slotOf o 0x800 8 64 with
  | some (n, r), _ => rd (brmNbrWord n r s) s
  | none, some (k, r) => rd (brmBindWord k r s) s
  | none, none =>
    match o with
    | 0x000 => rd (put 0 6 b.nbrSel) s
    | 0x004 => rd (putB 0 b.run + putB 1 b.zc.lock + put 2 7 b.admits + put 9 7 b.fbOnly.length + put 16 16 b.admNo) s
    | 0x008 => rd (s.fuses.brmId % 2 ^ 32) s
    | 0x00C => rd (put 0 16 (s.fuses.brmId / 2 ^ 32)) s
    | 0x010 => some (put 0 8 b.eCrc + put 8 8 b.eBad + put 16 8 b.eLate + put 24 8 b.eAuth,
        { s with brm := { b with eCrc := 0, eBad := 0, eLate := 0, eAuth := 0 } })
    | 0x014 => some (put 0 8 b.eTm + put 8 8 b.eDrop + put 16 8 b.eNoise, { s with brm := { b with eTm := 0, eDrop := 0, eNoise := 0 } })
    | 0x018 => some (put 0 8 b.fbRx + put 8 8 b.fbBad, { s with brm := { b with fbRx := 0, fbBad := 0 } })
    | _ => none

/-- A write of BRM_CTRL (R342, R361): a refresh that the host asks for; one that is pending goes on. -/
def brmCtrlWrite (w : Nat) (s : State) : Status × State :=
  let n := field 0 6 w
  let b := atD s.brm.nbr n {}
  let t : State := { s with brm := { s.brm with nbrSel := n } }
  if !bitOf 6 w then (.ok, t)
  else if !(s.brmOn && b.st == .admitted) then (.notInState, s)
  else (.ok, if b.pend then t else t.brmDo (refreshStart n))

/-- Write of the BRM_ page group. -/
def brmWrite (o w : Nat) (s : State) : Option (Status × State) :=
  match o with
  | 0x000 => some (brmCtrlWrite w s)
  | _ => roWrite (brmRead o s) s

/-! ### LAC_ -/

/-- A cell as LACc_CELL shows it (Table 11.10). -/
def LacCell.half (k : LacCell) : Nat := put 0 13 (k.v / 10) + putB 13 k.balx + putB 14 k.open_ + putB 15 k.dev

/-- The number of ones in a mask of `n` bits. -/
def ones (n m : Nat) : Nat := (bitsOf n m).length

/-- The nodes of a chain that are admitted. -/
def LacCh.live (c : LacCh) : List LacNode := (List.range c.found).map (fun h => atD c.node h {})

/-- LACc_STAT (Table 11.10). -/
def LacCh.stat (c : LacCh) : Nat :=
  put 0 3 c.st.code + put 3 6 c.found + putB 9 c.complete + putB 10 c.partial_
    + putB 11 (c.live.any (fun n => n.openW != 0)) + putB 12 (c.live.any (fun n => n.cell.toList.any (·.dev)))
    + putB 13 c.limit + putB 14 c.owLate + put 15 8 c.swid

/-- LACc_OW (Table 11.10). -/
def LacCh.owWord (c : LacCh) : Nat :=
  put 0 5 c.owWire + put 5 5 c.owNode + put 16 8 (sat 8 (sumN (c.live.map (fun n => ones 17 n.openW)))) + put 24 8 c.tests

/-- A register of chain `n` at its offset in the chain's 64 bytes (Table 11.10); RC fields are cleared. -/
def lacChainRead (n r : Nat) (s : State) : Option (Nat × State) :=
  let c := atD s.lac.ch n {}
  let put_ (f : LacCh → LacCh) : State := { s with lac := { s.lac with ch := updN s.lac.ch n f } }
  match r with
  | 0x00 => rd c.stat s
  | 0x04 => rd (c.sum % 2 ^ 32) s
  | 0x08 => rd (put 0 16 (c.vmin.1 / 10) + put 16 5 c.vmin.2.1 + put 21 4 c.vmin.2.2) s
  | 0x0C => rd (put 0 16 (c.vmax.1 / 10) + put 16 5 c.vmax.2.1 + put 21 4 c.vmax.2.2) s
  | 0x10 => rd (putI 0 16 c.tmax.1 + put 16 5 c.tmax.2.1 + put 21 1 c.tmax.2.2) s
  | 0x14 => some (put 0 8 c.eCrc + put 8 8 c.eTmo + put 16 8 c.eBad + put 24 8 c.eStale,
      put_ (fun c => { c with eCrc := 0, eTmo := 0, eBad := 0, eStale := 0 }))
  | 0x18 => some (c.owWord, put_ (fun c => { c with tests := 0 }))
  | 0x1C => rd (put 0 10 (sumN (c.live.map (fun n => ones 16 n.maskW)))) s
  | _ => none

/-- A node's registers (Table 11.10). -/
def lacNodeWord (n h r : Nat) (s : State) : Nat :=
  let d := atD (atD s.lac.ch n {}).node h {}
  if r = 0 then putI 0 16 d.t0 + putI 16 16 d.t1
  else put 0 16 d.mask + putB 16 d.lost + putB 17 d.uv + putB 18 d.ref + putB 19 d.balHot + putB 20 (d.suspect != 0)

/-- The chain that a LAC_ offset belongs to, for the offsets of one chain (spec/00_scope.md R5, R6). -/
def lacChainOf (o : Nat) : Option Nat :=
  match slotOf o 0x100 0x40 4, slotOf o 0x1000 0x400 4, slotOf o 0x2000 0x100 4 with
  | some (c, _), _, _ => some c
  | none, some (c, _), _ => some c
  | none, none, some (c, _) => some c
  | none, none, none => none

/-- Read of the registers of a present chain. -/
def lacPartRead (o : Nat) (s : State) : Option (Nat × State) :=
  match slotOf o 0x100 0x40 4, slotOf o 0x1000 0x400 4, slotOf o 0x2000 0x100 4 with
  | some (c, r), _, _ => lacChainRead c r s
  | none, some (c, r), _ =>
    let d := atD (atD s.lac.ch c {}).node (r / 32) {}
    let i := r % 32 / 4
    rd ((atD d.cell (2 * i) {}).half + put 16 16 (atD d.cell (2 * i + 1) {}).half) s
  | none, none, some (c, r) => rd (lacNodeWord c (r / 8) (r % 8) s) s
  | none, none, none => none

/-- Read of the LAC_ page group. -/
def lacRead (o : Nat) (s : State) : Option (Nat × State) :=
  match lacChainOf o with
  | some c => if s.fuses.variant.chains ≤ c then rd 0 s else lacPartRead o s
  | none =>
    match o with
    | 0x000 => rd (put 0 4 s.lac.run) s
    | 0x004 => rd 0 s
    | 0x008 => rd (s.lac.sweep % 2 ^ 32) s
    | _ => none

/-- A write of LAC_CTRL (Table 11.6, R332): RUN written 1 starts a chain that is OFF, RUN written 0 stops one that runs; a change
of the RUN bit of a chain without a record refuses the write. -/
def lacCtrlWrite (w : Nat) (s : State) : Status × State :=
  let t : State := { s with lac := { s.lac with run := field 0 4 w } }
  let known (c : Nat) : Bool := s.cfg.lacChain.any (fun r => r.chain == c)
  if (List.range 4).any (fun c => (bitOf c w != bitOf c s.lac.run) && !known c) then (.notInState, s)
  else (.ok, (List.finRange 4).foldl (fun (s : State) (c : Fin 4) =>
    if !s.lacOn c then s
    else if bitOf c w && s.lac.ch[c].st == .off then s.lacDo c lacWake
    else if !bitOf c w && s.lac.ch[c].st == .run then s.lacDo c lacSleep
    else s) t)

/-- Chain `c` as its functions see it; none without a record. -/
def State.lacCtx (c : Fin 4) (s : State) : Option LX :=
  (s.cfg.lacChain.find? (fun r => r.chain == c.val)).map (fun r =>
    { c := s.lac.ch[c], n := c, g := s.cfg.lacGlobal.getD {}, r := r, now := s.mono, swid := s.lac.swid })

/-- A write of LAC_OWT (R329); one that names an absent chain ends as a write to an absent unit (spec/00_scope.md R6). -/
def lacOwtWrite (w : Nat) (s : State) : Status × State :=
  if !bitOf 7 w then (.ok, s)
  else if s.fuses.variant.chains ≤ field 0 2 w then (.notPresent, s)
  else
    let c : Fin 4 := Fin.ofNat 4 (field 0 2 w)
    let ok := match s.lacCtx c with
      | some x => (owtRequest (field 2 5 w) x).2
      | none => false
    if s.lacOn c && ok then (.ok, s.lacDo c (fun x => (owtRequest (field 2 5 w) x).1)) else (.notInState, s)

/-- Write of the LAC_ page group. -/
def lacWrite (o w : Nat) (s : State) : Option (Status × State) :=
  match o with
  | 0x000 => some (lacCtrlWrite w s)
  | 0x004 => some (lacOwtWrite w s)
  | _ =>
    match lacChainOf o with
    | some c => if s.fuses.variant.chains ≤ c then some (.notPresent, s) else roWrite (lacRead o s) s
    | none => roWrite (lacRead o s) s

/-! ### CLK_ -/

/-- CLK_STAT (Table 14.8). -/
def Cloak.statWord (c : Cloak) : Nat :=
  putB 0 c.ready + putB 1 c.rootFail + putB 2 c.margin + putB 3 c.rngFail + putB 4 c.low + put 5 3 c.attempts

/-- CLK_SLOTn (Table 14.8). -/
def KeySlot.word (k : KeySlot) : Nat := put 0 3 k.typ.code + put 3 2 k.origin + put 5 5 k.usage + put 16 16 k.version

/-- Read of the CLK_ page group; RC fields are cleared. -/
def clkRead (o : Nat) (s : State) : Option (Nat × State) :=
  let c := s.clk
  match o with
  | 0x000 => rd c.statWord s
  | 0x040 => rd64 0x20040 false c.kuCtr s
  | 0x044 => rd64 0x20040 true c.kuCtr s
  | 0x048 => rd 0 s
  | 0x04C => rd (put 0 4 c.result + putB 4 c.job.isSome) s
  | 0x050 => rd (put 0 21 c.remain) s
  | 0x054 => rd (put 0 6 c.attSlot + putB 7 c.attDone) s
  | 0x058 => some (put 0 16 c.kuRefused + put 16 16 c.keyMiss, { s with clk := { c with kuRefused := 0, keyMiss := 0 } })
  | _ =>
    if 0x010 ≤ o ∧ o < 0x020 then rd (leAt (leBytes 16 s.fuses.devId) (o - 0x010) 4) s
    else if 0x020 ≤ o ∧ o < 0x040 then rd (leAt (leBytes 32 s.fuses.idHash) (o - 0x020) 4) s
    else if 0x100 ≤ o ∧ o < 0x200 then rd (c.slot ((o - 0x100) / 4)).word s
    else if 0x1000 ≤ o ∧ o < 0x1C84 then rd 0 s
    else if 0x2000 ≤ o ∧ o < 0x2C40 then rd (mirGet (o - 0x2000) c.att) s
    else if 0x3000 ≤ o ∧ o < 0x4000 then rd (leNat ((List.range 4).map (fun i => Config.certByte c.cert.devId c.cert.idPk c.cert.ktPk c.cert.sig (o - 0x3000 + i)))) s
    else none

/-- Cloak's engines beside AES-256-GCM run: not in standby, except while a relayed access is in progress and for 1 s after it (R392). -/
def State.engines (s : State) : Bool := !s.standby || s.seam.relayWin.isSome

/-- A write of CLK_KU_CTRL (R395). DEDUCED (log 118): with the engines off nothing is judged and the write completes with
NOT_IN_STATE. -/
def kuCtrlWrite (w : Nat) (s : State) : Status × State :=
  if !bitOf 0 w then (.ok, s)
  else if !s.engines then (.notInState, s)
  else
    let r := kuGo s.clk
    (r.1, { s with clk := r.2 })

/-- A write of CLK_ATT_CTRL (R401); GO needs Cloak's engines (R392). -/
def attCtrlWrite (slot : Nat) (go : Bool) (s : State) : Status × State :=
  if go && !s.engines then (.notInState, s)
  else
    let r := attWrite slot go s.clk
    let a : State := { s with clk := r.2.c }.raises r.2.evs
    (r.1, if go && s.clk.attJob.isNone && s.clk.noAttest slot then { a with thk := { a.thk with own := some .keyMissing } } else a)

/-- Write of the CLK_ page group. -/
def clkWrite (o w : Nat) (s : State) : Option (Status × State) :=
  match o with
  | 0x048 => some (kuCtrlWrite w s)
  | 0x054 => some (attCtrlWrite (field 0 6 w) (bitOf 6 w) s)
  | _ =>
    if 0x1000 ≤ o ∧ o < 0x1C84 then some (.ok, { s with clk := { s.clk with ku := mirPut (o - 0x1000) (w % 2 ^ 32) s.clk.ku } })
    else if 0x2028 ≤ o ∧ o < 0x2048 then
      some (.ok, { s with clk := { s.clk with att := mirPut (o - 0x2000) (w % 2 ^ 32) s.clk.att } })
    else roWrite (clkRead o s) s

/-! ### HST_ -/

/-- A port runs on the fallback settings: it has no HST_NET record (spec/18_host_and_discovery.md R476). -/
def State.netFallback (s : State) : Bool := !(s.cfg.hstNet.any (fun r => r.port == 0) && s.cfg.hstNet.any (fun r => r.port == 1))

/-- HST_STAT (Table 18.10); a standby holds its PHYs in reset (spec/18_host_and_discovery.md R475). -/
def State.hstStat (s : State) : Nat :=
  let x := if s.seam.role == .single || s.seam.role == .active then s.hst.phy else 0
  let speed (k : Nat) : Nat := x / 4 / 3 ^ k % 3
  put 0 2 x + put 2 2 (speed 0) + put 4 2 (speed 1) + putB 6 s.netFallback
    + put 7 2 ((s.hst.conn.toList.filter Option.isSome).length) + put 9 3 s.hst.ocpp.st

/-- Read of the HST_ page group; RC fields are cleared. HST_OCPP_Q reads its reset value until the client starts: the queue itself is in
MRAM (spec/18_host_and_discovery.md R484), and a client that does not run has none. -/
def hstRead (o : Nat) (s : State) : Option (Nat × State) :=
  let h := s.hst
  match o with
  | 0x000 => some (s.hstStat, { s.free.2 with hst := { h with phy := s.free.1 } })
  | 0x004 => rd (s.fuses.macs[0] % 2 ^ 32) s
  | 0x008 => rd (put 0 16 (s.fuses.macs[0] / 2 ^ 32)) s
  | 0x00C => rd (s.fuses.macs[1] % 2 ^ 32) s
  | 0x010 => rd (put 0 16 (s.fuses.macs[1] / 2 ^ 32)) s
  | 0x014 => rd (h.ip[0] % 2 ^ 32) s
  | 0x018 => rd (h.ip[1] % 2 ^ 32) s
  | 0x020 => rd (put 0 13 (if h.ocpp.st = 0 then 0 else h.ocpp.queue.length)) s
  | 0x024 => some (put 0 8 h.denied + put 8 8 h.tlsFail + put 16 8 h.spiCrc + put 24 8 h.evDrop,
      { s with hst := { h with denied := 0, tlsFail := 0, spiCrc := 0, evDrop := 0 } })
  | 0x028 => rd 0 s
  | 0x02C => rd (s.thk.logSeq % 2 ^ 32) s
  | 0x030 => rd (h.ptSeq % 2 ^ 32) s
  | 0x034 => some (put 0 16 h.ptRefused, { s with hst := { h with ptRefused := 0 } })
  | _ => if 0x1000 ≤ o ∧ o < 0x3000 then rd (ptWord h (o - 0x1000)) s else none

/-- Write of the HST_ page group. -/
def hstWrite (o w : Nat) (s : State) : Option (Status × State) :=
  match o with
  | 0x028 => some (.ok, if bitOf 0 w then { s with hst := { s.hst with spiCrc := satInc 8 s.hst.spiCrc } } else s)
  | _ => roWrite (hstRead o s) s

/-! ### SLV_ and BIL_ -/

/-- A register of the SLV_ mirror stands at this offset (Tables 8.10 and 8.11). -/
def slvMapped (o : Nat) : Bool :=
  decide (o ≤ 0x03C) || (decide (0x100 ≤ o) && decide (o < 0x280)) || (decide (0x300 ≤ o) && decide (o < 0x3C0))
    || (decide (0x400 ≤ o) && decide (o < 0x444)) || (decide (0x500 ≤ o) && decide (o < 0x580)) || o == 0x600
    || (decide (0x610 ≤ o) && decide (o < 0x710))

/-- A register of the BIL_ mirror stands at this offset (Tables 9.7 and 9.8). -/
def bilMapped (o : Nat) : Bool :=
  decide (o ≤ 0x028) || (decide (0x100 ≤ o) && decide (o < 0x180)) || (decide (0x200 ≤ o) && decide (o < 0x240))
    || (decide (0x300 ≤ o) && decide (o < 0x3C0))

/-- The _LO halves of the SLV_ mirror's 64-bit registers (Tables 8.10 and 8.11). -/
def slvLo (o : Nat) : Bool :=
  o == 0x010 || (decide (0x100 ≤ o) && decide (o < 0x280) && (o % 0x20 == 0x10 || o % 0x20 == 0x18))
    || (decide (0x300 ≤ o) && decide (o < 0x3C0) && (o % 0x10 == 0 || o % 0x10 == 8)) || (decide (0x500 ≤ o) && decide (o < 0x580) && o % 8 == 0)

/-- The _LO halves of the BIL_ mirror's 64-bit registers (Tables 9.7 and 9.8). -/
def bilLo (o : Nat) : Bool := decide (0x100 ≤ o) && decide (o < 0x180) && (o % 0x10 == 0 || o % 0x10 == 8)

/-- A word of a mirror, with the rule for the halves of a 64-bit register (R255). -/
def mirRead (base o : Nat) (lo : Nat → Bool) (m : List (Nat × Nat)) (s : State) : Option (Nat × State) :=
  if lo o then rd64 (base + o) false (mirGet o m + 2 ^ 32 * mirGet (o + 4) m) s
  else if 4 ≤ o ∧ lo (o - 4) then rd64 (base + o - 4) true (2 ^ 32 * mirGet o m) s
  else rd (mirGet o m) s

/-- The port whose registers stand at an offset of the SLV_ mirror, and of the BIL_ mirror. -/
def slvPortOf (o : Nat) : Option Nat := ((slotOf o 0x100 0x20 12).or (slotOf o 0x300 0x10 12)).map (·.1)
/-- The port whose registers stand at an offset of the BIL_ mirror. -/
def bilPortOf (o : Nat) : Option Nat := (slotOf o 0x300 0x10 12).map (·.1)

/-- The registers of a port that the variant does not have (spec/00_scope.md R5, R6). -/
def State.noPort (p : Option Nat) (s : State) : Bool := p.any (fun n => !s.hasPort n)

/-- Read of the SLV_ page group; SLV_LINK is the main die's own (Table 8.11). -/
def slvRead (o : Nat) (s : State) : Option (Nat × State) :=
  if o = 0x01C then
    some (put 0 16 s.slvLink.crcErr + put 16 16 s.slvLink.gaps, { s with slvLink := { s.slvLink with crcErr := 0, gaps := 0 } })
  else if s.noPort (slvPortOf o) then rd 0 s
  else if slvMapped o then mirRead 0xB000 o slvLo s.slvLink.slv s
  else none

/-- Read of the BIL_ page group. -/
def bilRead (o : Nat) (s : State) : Option (Nat × State) :=
  if s.noPort (bilPortOf o) then rd 0 s
  else if bilMapped o then mirRead 0xC000 o bilLo s.slvLink.bil s
  else none

/-- Write of the SLV_ page group: its registers are read only. -/
def slvWrite (o : Nat) (s : State) : Option (Status × State) :=
  if s.noPort (slvPortOf o) then some (.notPresent, s) else roWrite (slvRead o s) s

/-- Write of the BIL_ page group: its registers are read only. -/
def bilWrite (o : Nat) (s : State) : Option (Status × State) :=
  if s.noPort (bilPortOf o) then some (.notPresent, s) else roWrite (bilRead o s) s

end Sys2Proof.Machine
end

