-- ==== Sys2Proof/Machine/RegLinks.lean ====
section
/-! DEFINITION. The registers of the page groups MBn_, VPn_ and CPC_ (spec/04_module_bus.md Tables 4.13 and 4.14,
spec/05_vehicle_ports.md Tables 5.9 and 5.10, spec/06_cooling_and_loops.md Tables 6.5 to 6.7). -/

namespace Sys2Proof.Machine

/-! ### MBn_ -/

/-- MBn_PMa_LINK (Table 4.14). -/
def PmLink.word (l : PmLink) : Nat := put 0 8 l.scnt + put 8 8 l.gaps + putB 16 l.admitted + put 17 3 l.refuse + putB 20 l.lost

/-- Read of a page group MBn_; RC fields are cleared. -/
def mbRead (n o : Nat) (s : State) : Option (Nat × State) :=
  let m := atD s.mb.bus n {}
  let put_ (f : MBus → MBus) : State := { s with mb := { s.mb with bus := updN s.mb.bus n f } }
  match o with
  | 0x000 => rd (put 0 8 (sat 8 m.tec) + put 8 8 m.recv + put 16 2 m.fcs.code) s
  | 0x004 => some (put 0 16 m.boff, put_ (fun m => { m with boff := 0 }))
  | 0x008 => some (put 0 16 m.arb + put 16 16 m.err, put_ (fun m => { m with arb := 0, err := 0 }))
  | 0x00C => some (put 0 8 m.ovf + put 8 8 m.badLen + put 16 8 m.unadm + put 24 8 m.pexc,
      put_ (fun m => { m with ovf := 0, badLen := 0, unadm := 0, pexc := 0 }))
  | 0x010 => some (put 0 10 (m.load s.mono) + put 16 10 m.loadPeak, put_ (fun m => { m with loadPeak := 0 }))
  | 0x014 => rd (put 0 16 s.mb.shown + put 16 16 s.mb.seq) s
  | 0x018 => rd (put 0 11 m.hpId + putB 11 m.hpNew + putB 12 m.hpOvr) s
  | 0x01C => rd (m.hpTs % 2 ^ 32) s
  | _ =>
    match slotOf o 0x040 8 4, slotOf o 0x100 4 64 with
    | some (j, r), _ =>
      let g := atD m.grpTx j {}
      rd (if r = 0 then put 0 2 g.result.code + put 16 16 g.seq else g.ts % 2 ^ 32) s
    | none, some (a, _) =>
      some ((atD m.link a {}).word, put_ (fun m => { m with link := updN m.link a (fun l => { l with gaps := 0 }) }))
    | none, none => none

/-- Write of a page group MBn_. -/
def mbWrite (n o w : Nat) (s : State) : Option (Status × State) :=
  match o with
  | 0x018 => some (.ok, { s with mb := { s.mb with bus := updN s.mb.bus n (fun m =>
      { m with hpNew := m.hpNew && !bitOf 11 w, hpOvr := m.hpOvr && !bitOf 12 w }) } })
  | _ => roWrite (mbRead n o s) s

/-! ### VPn_ -/

/-- VPn_STAT (Table 5.10). -/
def State.vpStat (n : Fin 12) (s : State) : Nat :=
  let p := s.ports[n]
  put 0 4 p.st.code + put 4 3 (if p.phaseOff then Phase.off else p.st.phase).code
    + put 7 3 (if p.st.measured then (p.cls.map PilotClass.code).getD 6 else 7) + put 10 2 ((p.proto.map Proto.code).getD 0)
    + putB 12 p.bpt + putB 13 ((p.conn.map (·.tls)).getD false) + putB 14 p.k0 + putB 15 p.k1 + putB 16 p.kCmd + putB 17 s.gtr.gates[n].en
    + putB 18 (s.sleeveGate n) + putB 19 p.chkOn + putB 20 p.prox

/-- A temperature in °C as a register shows it, in 0.1 °C. -/
def tenthsOf (t : Rat) : Int := (t * 10).floor

/-- The registers of Table 6.5. -/
def vpThermal (n : Fin 12) (o : Nat) (s : State) : Option (Nat × State) :=
  let w := s.twins[n]
  match o with
  | 0x040 => rd (putI 0 16 w.ta.t + putI 16 16 w.tb.t) s
  | 0x044 => rd (putI 0 16 w.tc.t + put 16 16 (floorNat (w.q * 100))) s
  | 0x048 => rd (putI 0 16 (tenthsOf w.nodes.t1) + putI 16 16 (tenthsOf w.peak)) s
  | 0x04C => rd (put 0 16 w.cTh + put 16 16 w.iAllow) s
  | 0x050 => some (putB 0 w.fast + putB 1 w.pin + putB 2 w.ta.fault + putB 3 w.tb.fault + putB 4 w.tc.fault + putB 5 w.flFault
      + putB 6 w.cut + put 16 16 w.steps, s.twinMod n (fun w => { w with cut := false, steps := 0 }))
  | _ => none

/-- Read of a page group VPn_; RC fields are cleared. -/
def vpRead (n : Fin 12) (o : Nat) (s : State) : Option (Nat × State) :=
  let p := s.ports[n]
  let put_ (f : Port → Port) : State := { s with ports := upd s.ports n f }
  match o with
  | 0x000 => rd (putB 0 p.enable) s
  | 0x004 => rd (s.vpStat n) s
  | 0x008 => rd (putI 0 10 p.hi + putI 10 10 p.lo + put 20 10 p.duty) s
  | 0x00C => rd (put 0 16 p.measV + putI 16 16 p.measI) s
  | 0x010 => rd (put 0 16 p.evI + put 16 16 p.evV) s
  | 0x014 => rd (put 0 16 p.tgtV + putI 16 16 p.tgtI) s
  | 0x018 => rd (p.sess % 2 ^ 32) s
  | 0x01C => rd (p.sid % 2 ^ 32) s
  | 0x020 => rd (p.sid / 2 ^ 32 % 2 ^ 32) s
  | 0x024 => rd (put 0 5 p.endR.code) s
  | 0x028 => some (put 0 8 p.cntShort + put 8 8 p.cntInsul + put 16 8 p.cntWeld + put 24 8 p.cntDrop,
      put_ (fun p => { p with cntShort := 0, cntInsul := 0, cntWeld := 0, cntDrop := 0 }))
  | 0x02C => some (put 0 16 p.rej, put_ (fun p => { p with rej := 0 }))
  | 0x030 => rd (putI 0 16 p.bptTgt + putB 16 p.bptValid) s
  | _ => vpThermal n o s

/-- The port as its functions see it now. -/
def State.pctx (n : Fin 12) (s : State) : PCtx := { p := s.ports[n], e := s.penv n, eff := [] }

/-- A write of ENABLE (Table 5.6). -/
def vpEnable (n : Fin 12) (b : Bool) (s : State) : Status × State := (.ok, s.portDo n 0 (enableWrite b))

/-- A write of 1 to STOP (Table 5.10). -/
def vpStop (n : Fin 12) (s : State) : Status × State :=
  if (portStopWrite (s.pctx n)).2 then (.ok, s.portDo n 0 (fun c => (portStopWrite c).1)) else (.notInState, s)

/-- A write of 1 to CLR_LOCK (Table 5.10). -/
def vpClrLock (n : Fin 12) (s : State) : Status × State :=
  if (clrLockWrite (s.pctx n)).2 then (.ok, s.portDo n 0 (fun c => (clrLockWrite c).1)) else (.notInState, s)

/-- A write of VPn_CTRL (Table 5.10): with STOP or CLR_LOCK, ENABLE stays; the states that allow the two exclude each other. -/
def vpCtrlWrite (n : Fin 12) (w : Nat) (s : State) : Status × State :=
  if bitOf 1 w && bitOf 2 w then (.notInState, s)
  else if bitOf 1 w then vpStop n s
  else if bitOf 2 w then vpClrLock n s
  else vpEnable n (bitOf 0 w) s

/-- A write of VPn_BPT_TGT (R157). -/
def vpBptWrite (n : Fin 12) (w : Nat) (s : State) : Status × State :=
  let f (c : PCtx) : PCtx × Bool := bptTgtWrite (dec 16 w) (bitOf 16 w) c
  if (f (s.pctx n)).2 then (.ok, s.portDo n 0 (fun c => (f c).1)) else (.notInState, s)

/-- Write of a page group VPn_. -/
def vpWrite (n : Fin 12) (o w : Nat) (s : State) : Option (Status × State) :=
  match o with
  | 0x000 => some (vpCtrlWrite n w s)
  | 0x030 => some (vpBptWrite n w s)
  | _ => roWrite (vpRead n o s) s

/-! ### CPC_ -/

/-- A register of a loop at its offset (Table 6.7). -/
def Loop.word (r : Nat) (l : Loop) : Option Nat :=
  match r with
  | 0x00 => some (put 0 2 l.mode + put 2 3 l.st.code + putB 5 l.sat + putB 6 l.sinkf + putB 7 l.held)
  | 0x04 => some l.sp
  | 0x08 => some l.pvf
  | 0x0C => some l.out
  | 0x10 => some l.man
  | 0x14 => some l.kp
  | 0x18 => some l.ki
  | 0x1C => some l.kd
  | 0x20 => some l.tf
  | 0x24 => some l.outMin
  | 0x28 => some l.outMax
  | 0x2C => some l.pvh
  | 0x30 => some l.int
  | 0x34 => some (put 0 16 l.faults + put 16 16 l.sinks)
  | _ => none

/-- Read of a loop's register; CNT is cleared. A loop without a record reads as zero (R189). -/
def cpcLoopRead (n r : Nat) (s : State) : Option (Nat × State) :=
  let l := s.cpc.loop n
  match l.word r with
  | none => none
  | some w =>
    if l.recd.isNone then rd 0 s
    else if r = 0x34 then some (w, { s with cpc := s.cpc.setLoop n (fun l => { l with faults := 0, sinks := 0 }) })
    else rd w s

/-- Read of the CPC_ page group. -/
def cpcRead (o : Nat) (s : State) : Option (Nat × State) :=
  let c := s.cpc
  match slotOf o 0x1000 0x40 64, slotOf o 0x2000 4 16384 with
  | some (n, r), _ => cpcLoopRead n r s
  | none, some (i, _) => rd (c.cap.getD i 0) s
  | none, none =>
    match o with
    | 0x000 => rd (put 0 18 (floorNat (loopRate s.cfg.cpcLoop))) s
    | 0x010 => rd (put 0 6 c.injLoop + putB 6 c.injPoint + put 7 2 c.injForm + put 9 2 c.injOrder + put 16 8 c.injHold) s
    | 0x014 => rd c.injAmp s
    | 0x018 => rd c.injF0 s
    | 0x01C => rd c.injF1 s
    | 0x020 => rd (put 0 24 c.injLen) s
    | 0x024 => rd (put 0 4 c.capChan + put 4 8 c.capDecim) s
    | 0x028 => rd (put 0 16 c.cap.length + put 16 2 c.capState + put 18 3 c.capAbort) s
    | _ => none

/-- The twin of the cooling port of loop `n` is in fast mode (R183, R184). -/
def State.loopFast (n : Nat) (s : State) : Bool :=
  match (s.cpc.loop n).recd with
  | some r => (atD s.twins r.coolPort {}).fast
  | none => false

/-- Coppice changes, and the injection-ended event where an injection has ended. -/
def State.cpcPut (r : Coppice × Bool) (s : State) : State :=
  let t : State := { s with cpc := r.1 }
  if r.2 then t.raise .injectionEnded else t

/-- The injection runs on a loop whose COOL_PORT is `p` (R184). -/
def State.injCools (p : Nat) (s : State) : Bool :=
  match s.cpc.inj with
  | some j => (s.cpc.loop j.loop).recd.any (fun r => r.coolPort == p)
  | none => false

/-- The twin of a port changes; an injection aborts where it enters fast mode (R184, reason 5). -/
def State.twinPut (p : Fin 12) (w : Twin) (s : State) : State :=
  let was := (s.twins[p]).fast
  let s := s.twinMod p (fun _ => w)
  if w.fast && !was && s.injCools p then s.cpcPut (injStop 5 s.cpc) else s

/-- A write of CPC_INJ_CTRL (Table 6.6): the fields, then START or STOP; a refused START refuses the whole write. -/
def injCtrlWrite (w : Nat) (s : State) : Status × State :=
  let c : Coppice := { s.cpc with
    injLoop := field 0 6 w, injPoint := bitOf 6 w, injForm := field 7 2 w, injOrder := field 9 2 w, injHold := field 16 8 w }
  if bitOf 11 w then
    let r := injStart s.clearing (s.loopFast c.injLoop) c
    if r.2 = .ok then (.ok, { s with cpc := r.1 }) else (r.2, s)
  else if bitOf 12 w then (.ok, s.cpcPut (injStop 1 c))
  else (.ok, { s with cpc := c })

/-- A write of CPC_Ln_MODE (Table 6.2). -/
def cpcModeWrite (n w : Nat) (s : State) : Status × State :=
  if (s.cpc.loop n).recd.isNone then (.ok, s)
  else if w % 4 = 3 then (.badValue, s)
  else (.ok, s.cpcPut (loopMode n (w % 4) s.cpc))

/-- A write of a register that R178 names. -/
def cpcCoeffWrite (n : Nat) (k : LoopCoeff) (w : Nat) (s : State) : Status × State :=
  let r := loopCoeff n k (w % 2 ^ 32) s.cpc
  (r.2, { s with cpc := r.1 })

/-- A write of CPC_Ln_MAN. -/
def cpcManWrite (n w : Nat) (s : State) : Status × State :=
  let r := loopMan n (w % 2 ^ 32) s.cpc
  (r.2, { s with cpc := r.1 })

/-- A write of CPC_Ln_PVH. -/
def cpcPvhWrite (n w : Nat) (s : State) : Status × State :=
  let r := loopPvh n (w % 2 ^ 32) s.cpc
  (r.2, { s with cpc := r.1 })

/-- Write of a loop's register. -/
def cpcLoopWrite (n r w : Nat) (s : State) : Option (Status × State) :=
  match r with
  | 0x00 => some (cpcModeWrite n w s)
  | 0x04 => some (cpcCoeffWrite n .sp w s)
  | 0x10 => some (cpcManWrite n w s)
  | 0x14 => some (cpcCoeffWrite n .kp w s)
  | 0x18 => some (cpcCoeffWrite n .ki w s)
  | 0x1C => some (cpcCoeffWrite n .kd w s)
  | 0x20 => some (cpcCoeffWrite n .tf w s)
  | 0x24 => some (cpcCoeffWrite n .outMin w s)
  | 0x28 => some (cpcCoeffWrite n .outMax w s)
  | 0x2C => some (cpcPvhWrite n w s)
  | _ => roWrite (cpcLoopRead n r s) s

/-- A float of the injection: not finite is BAD_VALUE (R189). -/
def injFloat (w : Nat) (c : Coppice) (s : State) : Option (Status × State) :=
  some (if fFinite (w % 2 ^ 32) then (.ok, { s with cpc := c }) else (.badValue, s))

/-- Write of the CPC_ page group. -/
def cpcWrite (o w : Nat) (s : State) : Option (Status × State) :=
  match slotOf o 0x1000 0x40 64 with
  | some (n, r) => cpcLoopWrite n r w s
  | none =>
    match o with
    | 0x010 => some (injCtrlWrite w s)
    | 0x014 => injFloat w { s.cpc with injAmp := w % 2 ^ 32 } s
    | 0x018 => injFloat w { s.cpc with injF0 := w % 2 ^ 32 } s
    | 0x01C => injFloat w { s.cpc with injF1 := w % 2 ^ 32 } s
    | 0x020 => some (.ok, { s with cpc := { s.cpc with injLen := field 0 24 w } })
    | 0x024 => some (.ok, { s with cpc := { s.cpc with capChan := field 0 4 w, capDecim := field 4 8 w } })
    | _ => roWrite (cpcRead o s) s

end Sys2Proof.Machine
end

