-- ==== Sys2Proof/Machine/RegPower.lean ====
section
/-! DEFINITION. The registers of the page groups CNP_ and CUF_ (spec/02_canopy_allocation.md Tables 2.12 to 2.22,
spec/03_canopy_limits_and_faults.md Tables 3.5 and 3.6, spec/13_cuff_and_hem.md Table 13.9). -/

namespace Sys2Proof.Machine

/-! ### CNP_ -/

/-- CNP_LOSS (Table 3.6). -/
def Canopy.lossWord (c : Canopy) : Nat := put 0 8 c.lossPm + put 8 4 c.lossPort + put 12 2 c.lossKind + put 16 16 c.lossCount

/-- CNP_BUF_STAT (Table 3.6). -/
def Canopy.bufStat (c : Canopy) : Nat :=
  put 0 14 c.soc + put 14 14 (floorNat (c.vB * 10)) + putB 28 c.socStale + putB 29 c.vbInvalid + putB 30 c.chgBlk + putB 31 c.disBlk

/-- A register of CNP_PORTn (Tables 2.19 to 2.21): offset in its 16 bytes. -/
def CnpPortSt.word (o : Nat) (p : CnpPortSt) : Nat :=
  match o with
  | 0x0 => putI 0 16 p.dem + put 16 3 p.phase.code + putB 19 p.bpt + put 20 3 p.prio
  | 0x4 => putI 0 16 p.cap + put 16 8 p.src
  | 0x8 => putI 0 16 p.alloc + put 16 9 p.nmod + putB 25 p.short + putB 26 p.shed
  | _ => put 0 16 p.hcap

/-- CNP_PORTn_ADV (Table 3.6). -/
def CnpPortSt.advWord (p : CnpPortSt) : Nat := putI 0 16 p.adv + putB 16 p.lim + putB 17 p.site + putI 18 12 p.advDis

/-- CNP_PMn (Table 2.22). -/
def CnpModSt.word (m : CnpModSt) : Nat :=
  putI 0 16 m.sp + put 16 4 m.sel + put 20 3 m.st.code + putB 23 m.admitted + put 24 4 m.selFail

/-- The registers of Canopy at a fixed offset. No rule rounds the values that Canopy computes to the units of CNP_GCAP_EFF, CNP_LX and
CNP_BUF_STAT.VB (spec/03_canopy_limits_and_faults.md R95): DESIGN CHOICE, down. -/
def cnpReadFixed (o : Nat) (s : State) : Option (Nat × State) :=
  let c := s.cnp
  match o with
  | 0x000 => rd (putB 0 c.freeze) s
  | 0x004 => rd (put 0 3 c.mode.code + put 4 2 c.result.code + putB 6 c.frozen) s
  | 0x008 => rd (c.tick % 2 ^ 32) s
  | 0x00C => rd (put 0 10 c.timeLast + put 16 10 c.timeMax) s
  | 0x010 => some (put 0 16 c.cntBudget + put 16 16 c.cntInfeas, { s with cnp := { c with cntBudget := 0, cntInfeas := 0 } })
  | 0x014 => rd (enc 32 c.importW) s
  | 0x018 => rd (enc 32 c.dispatch) s
  | 0x020 => rd c.gcapHost s
  | 0x024 => rd (c.gcapEff % 2 ^ 32) s
  | 0x028 => rd (floorNat (c.lx * 10) % 2 ^ 32) s
  | 0x02C => rd (enc 32 c.pmeasHost) s
  | 0x030 => rd (put 0 14 c.bufSocW) s
  | 0x034 => rd (enc 32 c.bufRef) s
  | 0x038 => rd c.bufStat s
  | 0x03C => rd (put 0 12 c.shedPorts + putB 12 c.shedBuf + putB 13 c.overrun + putB 14 c.cert) s
  | 0x040 => some (c.lossWord, { s with cnp := { c with lossPm := 0, lossPort := 0xF, lossKind := 0, lossCount := 0 } })
  | _ => none

/-- Read of the CNP_ page group. -/
def cnpRead (o : Nat) (s : State) : Option (Nat × State) :=
  let c := s.cnp
  match slotOf o 0x100 0x10 12 with
  | some (n, r) => rd (if s.hasPort n then (atD c.ports n {}).word r else 0) s
  | none =>
    match slotOf o 0x200 4 12 with
    | some (n, _) => rd (if s.hasPort n then (atD c.ports n {}).advWord else 0) s
    | none =>
      match slotOf o 0x400 4 256 with
      | some (n, _) => rd (if n / 64 < s.fuses.variant.buses then (atD c.mods n {}).word else 0) s
      | none =>
        match slotOf o 0x800 4 64 with
        | some (j, _) => rd (putI 0 16 (atD c.grps j {}).sum + putB 16 (atD c.grps j {}).active) s
        | none => cnpReadFixed o s

/-- A write of CNP_CTRL (Table 2.13): FREEZE changes only after a diagnostic boot. -/
def cnpCtrlWrite (w : Nat) (s : State) : Status × State :=
  if bitOf 0 w != s.cnp.freeze && !bitOf 3 s.img.strap then (.notInState, s)
  else (.ok, { s with cnp := { s.cnp with freeze := bitOf 0 w, timeMax := if bitOf 8 w then 0 else s.cnp.timeMax } })

/-- A write of CNP_PMEAS_HOST (R68, R69): with SRC = 1 a new intake measurement. -/
def pmeasWrite (w : Nat) (s : State) : Status × State :=
  if !(s.cfg.cnpIntake.getD {}).srcHost then (.notInState, s)
  else (.ok, { s with cnp := { s.cnp with pmeasHost := dec 32 w } }.measure ((dec 32 w : Rat) / 10))

/-- A write of CNP_BUF_SOC (R71, R74): values above 10,000 are taken as 10,000. -/
def bufSocWrite (w : Nat) (s : State) : Status × State :=
  if !s.hasBuffer then (.notInState, s)
  else
    let v := min 10000 (w % 2 ^ 14)
    (.ok, { s with cnp := { s.cnp with bufSocW := v, soc := v, socAt := s.mono, socStale := false } })

/-- A write of CNP_BUF_REF (R73, R74). -/
def bufRefWrite (w : Nat) (s : State) : Status × State :=
  if !s.hasBuffer then (.notInState, s) else (.ok, { s with cnp := { s.cnp with bufRef := dec 32 w } })

/-- Write of the CNP_ page group. -/
def cnpWrite (o w : Nat) (s : State) : Option (Status × State) :=
  match o with
  | 0x000 => some (cnpCtrlWrite w s)
  | 0x020 => some (.ok, { s with cnp := { s.cnp with gcapHost := w % 2 ^ 32 } })
  | 0x02C => some (pmeasWrite w s)
  | 0x030 => some (bufSocWrite w s)
  | 0x034 => some (bufRefWrite w s)
  | _ =>
    match slotOf o 0x100 0x10 12, slotOf o 0x200 4 12 with
    | some (n, r), _ =>
      if !s.hasPort n then some (.notPresent, s)
      else if r = 0xC then
        some (.ok, { s with cnp := { s.cnp with ports := updN s.cnp.ports n (fun p => { p with hcap := w % 2 ^ 16 }) } })
      else some (.ok, s)
    | none, some (n, _) => some (if s.hasPort n then .ok else .notPresent, s)
    | none, none =>
      if (slotOf o 0x400 4 256).any (fun e => decide (s.fuses.variant.buses ≤ e.1 / 64)) then some (.notPresent, s)
      else roWrite (cnpRead o s) s

/-! ### CUF_ -/

/-- A register of channel `n` at its offset in the channel's 16 bytes (Table 13.9); RC fields are cleared. -/
def cufChRead (n r : Nat) (s : State) : Nat × State :=
  let k := s.cuf.get n
  let put_ (f : CufCh → CufCh) : State := { s with cuf := { s.cuf with ch := updN s.cuf.ch n f } }
  match r with
  | 0x0 => (putB 0 k.on + put 1 10 k.duty + put 11 8 k.phase, s)
  | 0x4 => (put 0 3 (cufState s.cuf k) + put 3 3 k.shown.code + putB 6 k.open_ + put 16 16 k.i, s)
  | 0x8 => (put 0 11 (sat 11 (cufSum s.mono k)) + put 11 11 (sat 11 k.last) + put 24 8 k.events,
      put_ (fun c => { c with events := 0 }))
  | _ => (put 0 8 k.faults + put 8 8 k.locks + put 16 8 k.retries,
      put_ (fun c => { c with faults := 0, locks := 0, retries := 0 }))

/-- Read of the CUF_ page group. -/
def cufRead (o : Nat) (s : State) : Option (Nat × State) :=
  let all (f : CufCh → Bool) : Nat := maskOf 16 (fun n => f (s.cuf.get n))
  match slotOf o 0x100 0x10 16 with
  | some (n, r) => if n < s.fuses.variant.cuffs then some (cufChRead n r s) else rd 0 s
  | none =>
    match o with
    | 0x000 => rd (all (cufOn s.cuf) + put 16 16 (all (·.force))) s
    | 0x004 => rd (all (·.fault) + put 16 16 (all (·.lock))) s
    | 0x008 => rd 0 s
    | 0x00C => some (put 0 16 s.cuf.total + putB 16 s.cuf.tshed, { s with cuf := { s.cuf with tshed := false } })
    | _ => none

/-- A write of CUF_CLR (R367, R368): all the bits or none. -/
def cufClrWrite (w : Nat) (s : State) : Status × State :=
  match cuffClr s.mono (w % 2 ^ 16) s.cuf with
  | none => (.notInState, s)
  | some c => (.ok, { s with cuf := c })

/-- A write of CUF_CHn_CTRL (R363, R368, R369). DESIGN CHOICE (log 116): in STANDBY, where Cuff commands every channel off (R373), the
write completes with NOT_IN_STATE. -/
def cufChWrite (n w : Nat) (s : State) : Status × State :=
  if s.fuses.variant.cuffs ≤ n then (.notPresent, s)
  else if s.standby && decide (field 1 10 w ≤ 1000) then (.notInState, s)
  else
    let r := cuffWrite n w s.cuf
    (r.1, { s with cuf := r.2 })

/-- Write of the CUF_ page group. -/
def cufWrite (o w : Nat) (s : State) : Option (Status × State) :=
  match slotOf o 0x100 0x10 16 with
  | some (n, r) =>
    if s.fuses.variant.cuffs ≤ n then some (.notPresent, s)
    else if r = 0 then some (cufChWrite n w s)
    else some (.ok, s)
  | none => if o = 0x008 then some (cufClrWrite w s) else roWrite (cufRead o s) s

end Sys2Proof.Machine
end

