-- ==== Sys2Proof/Machine/RegSite.lean ====
section
/-! DEFINITION. The registers of the page groups SYS_, RST_, GLD_ and THK_ (spec/00_scope.md Table 0.1,
spec/01_site_and_partners.md Tables 1.3 and 1.4, spec/15_image_and_start.md Tables 15.12 and 15.13,
spec/16_reset_clocks_domains.md Tables 16.8 and 16.9, spec/17_thicket_and_events.md Table 17.7). -/

namespace Sys2Proof.Machine

/-! ### SYS_ -/

/-- SYS_SITE0 (Table 1.3). -/
def SiteRegs.word0 (r : SiteRegs) : Nat := put 0 9 r.pmAdmit + put 16 8 r.lacNodes + put 24 6 r.bufPm

/-- SYS_SITE1 (Table 1.4). -/
def SiteRegs.word1 (r : SiteRegs) : Nat :=
  put 0 12 r.vehMask + put 12 7 r.brmPartners + putB 19 r.peer + putB 20 r.intakeSrc

/-- SYS_IMG_STAT (Table 15.13). -/
def Loader.statWord (l : Loader) : Nat :=
  put 0 3 l.st.code + put 3 1 l.slot.val + putB 4 l.fallback + putB 5 (bitOf 2 l.strap) + putB 6 l.sfdp + putB 7 (bitOf 3 l.strap)
    + putB 8 (bitOf 0 l.strap) + putB 9 l.strapInv + put 10 4 l.strap + putB 14 l.mram.bad[0] + putB 15 l.mram.bad[1]

/-- SYS_IMG_PROG (Table 15.13). -/
def Loader.progWord (l : Loader) : Nat :=
  put 0 2 l.opState + putB 2 l.mram.checked[0] + putB 3 l.mram.checked[1] + putB 4 l.mram.sel.isSome
    + put 5 1 ((l.mram.sel.map (·.val)).getD 0) + putB 6 l.mram.staged.isSome
    + put 7 1 ((l.mram.staged.map (fun x => x.1.val)).getD 0) + put 8 8 l.result

/-- Read of the SYS_ page group. -/
def sysRead (o : Nat) (s : State) : Option (Nat × State) :=
  match o with
  | 0x008 => rd s.fuses.variant.caps s
  | 0x020 => rd s.site.word0 s
  | 0x024 => rd s.site.word1 s
  | 0x040 => rd s.img.statWord s
  | 0x044 => rd (put 0 8 s.img.errReason + put 8 1 s.img.errPart + put 9 1 s.img.errSlot + put 10 22 s.img.errWord) s
  | 0x048 => rd (put 0 16 (sat 16 s.img.skipAbsent) + put 16 16 (sat 16 s.img.skipUnknown)) s
  | 0x04C => rd (s.img.serial % 2 ^ 32) s
  | 0x070 => rd 0 s
  | 0x074 => rd (put 12 12 s.img.page) s
  | 0x078 => rd s.img.progWord s
  | _ =>
    if 0x050 ≤ o ∧ o < 0x070 then rd (leAt (beBytes 32 s.img.digest) (o - 0x050) 4) s
    else if 0x1000 ≤ o ∧ o < 0x2000 then rd (mirGet (o - 0x1000) s.img.win) s
    else none

/-- A host write of SYS_IMG_CTRL (R427). What the flash answers to a verification is free. -/
def imgCtrlWrite (w : Nat) (s : State) : Status × State :=
  let slot : Fin 2 := if bitOf 3 w then 1 else 0
  let x := s.free.1
  let verify := x % 2 == 0
  let bytes := leBytes 4096 (x / 2)
  let back (r : Status × Loader) : Status × State := (r.1, { s.free.2 with img := r.2 })
  match w % 8 with
  | 1 => back (imgErase slot s.img)
  | 2 => back (imgProg slot verify bytes s.img)
  | 3 => back (imgCheck s.fuses (anchorOf s.fuses s.clk) verify slot s.img)
  | 4 => back (imgSelect slot verify bytes s.img)
  | _ => (.badValue, s)

/-- Write of the SYS_ page group. -/
def sysWrite (o w : Nat) (s : State) : Option (Status × State) :=
  match o with
  | 0x070 => some (imgCtrlWrite w s)
  | 0x074 => some (.ok, { s with img := { s.img with page := field 12 12 w } })
  | _ =>
    if 0x1000 ≤ o ∧ o < 0x2000 then
      some (.ok, { s with img := { s.img with win := mirPut (o - 0x1000) (w % 2 ^ 32) s.img.win } })
    else roWrite (sysRead o s) s

/-! ### RST_ -/

/-- RST_CLKON (Table 16.8): the domains of Table 16.5 that run at their source. -/
def State.clkOn (s : State) : Nat :=
  let l := s.rst.lock
  maskOf 12 (fun i => match i + 1 with
    | 1 => true
    | 2 => l[0]
    | 3 => l[1]
    | 4 => l[1]
    | 5 => true
    | 6 => s.hasSleeve && s.slv.powered
    | 9 => l[1]
    | _ => l[2])

/-- Read of the RST_ page group. -/
def rstRead (o : Nat) (s : State) : Option (Nat × State) :=
  let r := s.rst
  let cnt (k : Nat) : Nat := put 0 16 (atD s.gld.resets (2 * k) 0) + put 16 16 (atD s.gld.resets (2 * k + 1) 0)
  match o with
  | 0x000 => rd (put 0 4 r.src + put 4 2 r.level + putB 6 r.defer + put 8 8 r.seen) s
  | 0x004 => rd 0 s
  | 0x008 => rd (putB 0 r.pend.isSome + put 1 4 ((r.pend.map (·.src)).getD 0)) s
  | 0x010 => rd (cnt 0) s
  | 0x014 => rd (cnt 1) s
  | 0x018 => rd (cnt 2) s
  | 0x01C => rd (cnt 3) s
  | 0x020 => rd (putB 0 r.refOk + putB 1 r.lock[0] + putB 2 r.lock[1] + putB 3 r.lock[2] + put 4 4 r.fail) s
  | 0x024 => rd s.clkOn s
  | 0x028 => rd (s.tb % 2 ^ 32) s
  | 0x040 => rd (put 0 3 r.band + putB 3 r.noSens + put 4 6 r.valid + putI 16 16 r.tMax) s
  | _ => if 0x030 ≤ o ∧ o < 0x040 then
      let k := (o - 0x030) / 4
      rd (putI 0 16 (atD r.temp (2 * k) 0) + putI 16 16 (atD r.temp (2 * k + 1) 0)) s
    else none

/-- Gaiter is in HOLD or CLEARING. -/
def State.gaiterSafe (s : State) : Bool := s.gtr.st == .hold || s.gtr.st == .clearing

/-- A system reset by software (R434): at once in HOLD or CLEARING, and in a standby (spec/10_seam_pair.md R306); else a soft
request and the deferred reset of R433. -/
def sysResetRequest (s : State) : Status × State :=
  if s.rst.pend.isSome then (.notInState, s)
  else
    let t : State := { s with gld := s.gld.count 5 }
    if t.gaiterSafe || t.standby then (.ok, t.sysResetNow { level := 1, src := 5 })
    else (.ok, { t.softRequest 6 0 with rst := { t.rst with pend := some { src := 5, at_ := t.mono } } })

/-- A core reset by software (R434): in diagnostic boot with Gaiter in HOLD or CLEARING. -/
def coreResetRequest (s : State) : Status × State :=
  if bitOf 3 s.img.strap && s.gaiterSafe then (.ok, s.coreHold 5) else (.notInState, s)

/-- A write of RST_CTRL (R434). -/
def rstCtrlWrite (w : Nat) (s : State) : Status × State :=
  if field 16 16 w ≠ 0xA5C3 then (.badValue, s)
  else if bitOf 0 w then sysResetRequest s
  else if bitOf 1 w then coreResetRequest s
  else (.ok, s)

/-- Write of the RST_ page group. -/
def rstWrite (o w : Nat) (s : State) : Option (Status × State) :=
  match o with
  | 0x000 => some (.ok, { s with rst := { s.rst with seen := w1c s.rst.seen (field 8 8 w) } })
  | 0x004 => some (rstCtrlWrite w s)
  | 0x020 => some (.ok, { s with rst := { s.rst with fail := w1c s.rst.fail (field 4 4 w) } })
  | _ => roWrite (rstRead o s) s

/-! ### GLD_ -/

/-- Read of the GLD_ page group. -/
def gldRead (o : Nat) (s : State) : Option (Nat × State) :=
  let g := s.gld
  match o with
  | 0x000 => rd 0 s
  | 0x004 => rd (putB 0 g.rc32 + put 1 2 g.wake + putB 3 g.level[0] + putB 4 g.level[1] + putB 5 g.pwren) s
  | 0x008 => rd (s.sec % 2 ^ 32) s
  | 0x00C => rd g.alarm s
  | 0x010 => rd (putB 0 g.wakePin + putB 1 g.wakeAlarm + putB 2 g.wakeTamp) s
  | 0x014 => rd (put 0 2 g.latch + put 8 8 g.cnt[0] + put 16 8 g.cnt[1]) s
  | 0x018 => rd (g.ts % 2 ^ 32) s
  | _ => none

/-- GLD_CTRL.SLEEP may be accepted (R450). -/
def State.sleepOk (s : State) : Bool :=
  s.seam.role == .single && s.gaiterSafe
    && s.ports.toList.all (fun p => p.st == .idle || p.st == .ended || p.st == .fault || p.st == .locked || p.st == .disabled)

/-- A write of GLD_CTRL (R450, R436): a refused part refuses the whole write. -/
def gldCtrlWrite (w : Nat) (s : State) : Status × State :=
  if bitOf 0 w && !s.sleepOk then (.notInState, s)
  else
    let g := if bitOf 1 w then s.gld.clearCounts else s.gld
    (.ok, { s with gld := { g with sleepAt := if bitOf 0 w then some s.mono else g.sleepAt } })

/-- Write of the GLD_ page group. -/
def gldWrite (o w : Nat) (s : State) : Option (Status × State) :=
  let g := s.gld
  let put_ (g' : Glade) : Option (Status × State) := some (.ok, { s with gld := g' })
  match o with
  | 0x000 => some (gldCtrlWrite w s)
  | 0x00C => put_ { g with alarm := w % 2 ^ 32 }
  | 0x010 => put_ { g with wakePin := bitOf 0 w, wakeAlarm := bitOf 1 w, wakeTamp := bitOf 2 w }
  | 0x014 => put_ { g with latch := w1c g.latch (w % 4) }
  | _ => roWrite (gldRead o s) s

/-! ### THK_ -/

/-- Read of the THK_ page group; RC fields are cleared. -/
def thkRead (o : Nat) (s : State) : Option (Nat × State) :=
  let t := s.thk
  let rc (w : Nat) (t' : Thicket) : Option (Nat × State) := some (w, { s with thk := t' })
  match o with
  | 0x000 => rc (put 0 8 t.trans.length + put 8 8 t.peak) { t with peak := 0 }
  | 0x004 => rc (put 0 8 t.eSram + put 8 8 t.eQueue + put 16 8 t.eCrc + put 24 8 t.eLost)
      { t with eSram := 0, eQueue := 0, eCrc := 0, eLost := 0 }
  | 0x008 => rc (put 0 8 t.sRt + put 8 8 t.sSys + put 16 8 t.sBulk + put 24 8 t.sTmo)
      { t with sRt := 0, sSys := 0, sBulk := 0, sTmo := 0 }
  | 0x00C => rc (t.coal % 2 ^ 32) { t with coal := 0 }
  | 0x010 => rd (put 0 4 t.derr) s
  | 0x014 => rc (put 0 16 t.nis) { t with nis := 0 }
  | 0x018 => rd (t.nisAddr % 2 ^ 32) s
  | 0x01C => rd (put 0 4 t.last) s
  | 0x020 => rd (t.lastAddr % 2 ^ 32) s
  | 0x028 => rd64 0x4028 false t.ev s
  | 0x02C => rd64 0x4028 true t.ev s
  | 0x030 => rd64 0x4030 false t.even s
  | 0x034 => rd64 0x4030 true t.even s
  | 0x038 => rd 0 s
  | 0x03C => rd (put 0 6 t.evLast) s
  | 0x040 => rd (t.evLastTs % 2 ^ 32) s
  | _ => if 0x080 ≤ o ∧ o < 0x0C0 then
      let k := o - 0x080
      let c (j : Nat) : Nat := atD t.cnt (k + j) 0
      rc (put 0 8 (c 0) + put 8 8 (c 1) + put 16 8 (c 2) + put 24 8 (c 3))
        { t with cnt := (List.range 4).foldl (fun v j => updN v (k + j) (fun _ => 0)) t.cnt }
    else none

/-- Write of the THK_ page group. -/
def thkWrite (o w : Nat) (s : State) : Option (Status × State) :=
  let t := s.thk
  let put_ (t' : Thicket) : Option (Status × State) := some (.ok, { s with thk := t' })
  match o with
  | 0x028 => put_ { t with ev := w1c t.ev (w % 2 ^ 32) }
  | 0x02C => put_ { t with ev := w1c t.ev (w % 2 ^ 32 * 2 ^ 32) }
  | 0x030 => put_ { t with even := t.even / 2 ^ 32 * 2 ^ 32 + w % 2 ^ 32 }
  | 0x034 => put_ { t with even := w % 2 ^ 32 * 2 ^ 32 + t.even % 2 ^ 32 }
  | 0x038 => some (.ok, if bitOf 0 w then s.raise .software else s)
  | _ => roWrite (thkRead o s) s

end Sys2Proof.Machine
end

