-- ==== Sys2Proof/Machine/RegAccess.lean ====
section
/-! DEFINITION. Register access over the whole device address map (spec/00_scope.md R5, R6, R513,
spec/17_thicket_and_events.md R461, R464, R468, R469), and who serves it (spec/16_reset_clocks_domains.md R433,
spec/18_host_and_discovery.md R475). -/

namespace Sys2Proof.Machine

/-- Read a register of a present page group; none: no register stands there. -/
def pageRead (g : Page) (o : Nat) (s : State) : Option (Nat × State) :=
  match g with
  | .sys => sysRead o s
  | .rst => rstRead o s
  | .gld => gldRead o s
  | .thk => thkRead o s
  | .gtr => gtrRead o s
  | .seam => seamRead o s
  | .hem => hemRead o s
  | .cnp => cnpRead o s
  | .cuf => cufRead o s
  | .brm => brmRead o s
  | .slv => slvRead o s
  | .bil => bilRead o s
  | .mb n => mbRead n o s
  | .vp n => if h : n < 12 then vpRead ⟨n, h⟩ o s else none
  | .clk => clkRead o s
  | .lac => lacRead o s
  | .hst => hstRead o s
  | .cpc => cpcRead o s

/-- Write a register of a present page group; none: no register stands there. -/
def pageWrite (g : Page) (o w : Nat) (s : State) : Option (Status × State) :=
  match g with
  | .sys => sysWrite o w s
  | .rst => rstWrite o w s
  | .gld => gldWrite o w s
  | .thk => thkWrite o w s
  | .gtr => gtrWrite o w s
  | .seam => seamWrite o w s
  | .hem => hemWrite o w s
  | .cnp => cnpWrite o w s
  | .cuf => cufWrite o w s
  | .brm => brmWrite o w s
  | .slv => slvWrite o s
  | .bil => bilWrite o s
  | .mb n => mbWrite n o w s
  | .vp n => if h : n < 12 then vpWrite ⟨n, h⟩ o w s else none
  | .clk => clkWrite o w s
  | .lac => lacWrite o w s
  | .hst => hstWrite o w s
  | .cpc => cpcWrite o w s

/-- Read the register at a device address. R5 gives the registers of an absent unit a value and no status, and Table 17.5 names R5
under NOT_PRESENT: DESIGN CHOICE, such a read ends with OK. -/
def State.readAt (a : Nat) (s : State) : Status × Nat × State :=
  match (if a % 4 = 0 then pageOf a else none) with
  | none => (.unmapped, 0, s)
  | some (g, o) =>
    if !g.present s.fuses.variant then (.ok, 0, s)
    else match pageRead g o s with
      | none => (.unmapped, 0, s)
      | some r =>
        if s.thk.bad.contains (a, r.1) then (.dataError, 0, { s with thk := s.thk.detect .sram 0xF false }.raise .dataError)
        else (.ok, r.1, r.2)

/-- A command on the register at an address has ended; one that stored a value repairs a stored value that failed its parity
check (R464). -/
def stored (a : Nat) (r : Status × State) : Status × State :=
  if r.1 = .ok then (r.1, { r.2 with thk := { r.2.thk with bad := r.2.thk.bad.filter (fun e => e.1 ≠ a) } }) else r

/-- Write the register at a device address. -/
def State.writeAt (a w : Nat) (s : State) : Status × State :=
  match (if a % 4 = 0 then pageOf a else none) with
  | none => (.unmapped, s)
  | some (g, o) =>
    if !g.present s.fuses.variant then (.notPresent, s)
    else match pageWrite g o w s with
      | none => (.unmapped, s)
      | some r => stored a r

/-- The unit at an address is absent (R6). -/
def absentAt (a : Nat) (v : Variant) : Bool :=
  match pageOf a with
  | none => false
  | some (g, _) => !g.present v

/-- The host interfaces of this unit answer (R475): a unit that runs single, or the active of a pair. -/
def State.servesHost (s : State) : Bool := s.seam.role == .single || s.seam.role == .active

/-- The code that serves an address runs (R433): with a system reset pending only that of the RST_, GLD_ and THK_ page groups. An
access that reaches a core in a core reset waits for it (spec/17_thicket_and_events.md R458), and the model carries it out at
once. -/
def State.codeRuns (a : Nat) (s : State) : Bool := !s.rst.coresOut || (decide (0x2000 ≤ a) && decide (a < 0x5000))

/-- No completion arrives (R461). -/
def State.noAnswer (s : State) : Status × State := (.busy, { s with thk := { s.thk with sTmo := satInc 8 s.thk.sTmo } })

/-- A host access is answered: an SPI transaction, whose bytes so far are `spi`, with its CRC. -/
def State.reply (spi : Option (List Byte)) (st : Status) (ws : List Nat) (s : State) : State :=
  s.emit (match spi with
    | none => .done st ws
    | some sent => spiEnd sent st ws)

/-- A host access that no code serves waits with its tag for a completion (R459, R461); without a free tag it ends with BUSY. `ws`
are the words that the same access has read before, `pad` those that are missing, `spi` the bytes of an SPI transaction. -/
def State.waits (a : Nat) (ws : List Nat) (pad : Nat) (spi : Option (List Byte)) (s : State) : State :=
  match s.thk.takeTag .bulk a s.mono ws pad spi with
  | some t => { s with thk := t }
  | none => (s.noAnswer.2.judged .busy a).reply spi .busy (ws ++ List.replicate pad 0)

/-- A host command `f` on the register at an address `a`, as the host interfaces serve it. -/
def State.hostCommand (a : Nat) (f : State → Status × State) (s : State) : State :=
  if !s.up then s
  else if !s.servesHost then s.emit (.done .busy [])
  else if !s.codeRuns a then s.waits a [] 0 none
  else if absentAt a s.fuses.variant then State.finish a (.notPresent, s)
  else State.finish a (stored a (f s))

/-- A swap is asked of a unit that is neither active nor standby (spec/10_seam_pair.md R302, R305). -/
def State.swapAway (a w : Nat) (s : State) : Bool := a == 0x6000 && bitOf 0 w && !s.servesHost && !s.standby

/-- A host write of a word to the register at an address. -/
def State.hostWrite (a w : Nat) (s : State) : State :=
  if s.up && s.swapAway a w then State.finish a (.notInState, s) else s.hostCommand a (fun s => s.writeAt a w)

/-- Read one word for a host, where the code of the register runs. -/
def State.readServed (a : Nat) (s : State) : Status × Nat × State :=
  if s.codeRuns a then s.readAt a else (s.noAnswer.1, 0, s.noAnswer.2)

/-- Write one word for a host, where the code of the register runs. -/
def State.writeServed (a w : Nat) (s : State) : Status × State :=
  if s.codeRuns a then s.writeAt a w else s.noAnswer

/-- Read `n` words in rising order, up to the first whose status is not OK: status and words done (R479). -/
def State.readRun : Nat → Nat → State → Status × List Nat × State
  | 0, _, s => (.ok, [], s)
  | n + 1, a, s =>
    let r := s.readServed a
    let s := r.2.2.judged r.1 a
    if r.1 = .ok then
      let t := State.readRun n (a + 4) s
      (t.1, r.2.1 :: t.2.1, t.2.2)
    else (r.1, [], s)

/-- Write words in rising order, up to the first whose status is not OK: status and number of words done (R479). A write that
resets the unit ends the access. -/
def State.writeRun : Nat → List Nat → State → Status × Nat × State
  | _, [], s => (.ok, 0, s)
  | a, w :: ws, s =>
    let r := s.writeServed a w
    let s := r.2.judged r.1 a
    if r.1 = .ok then
      if s.up then
        let t := State.writeRun (a + 4) ws s
        (t.1, t.2.1 + 1, t.2.2)
      else (.ok, 1, s)
    else (r.1, 0, s)

end Sys2Proof.Machine
end

