-- ==== Sys2Proof/Machine/TickOps.lean ====
section
/-! DEFINITION. What happens at the start of a Canopy tick: the port snapshots (spec/05_vehicle_ports.md R137,
spec/08_sleeve_metrology.md R228), the sums of the twins (spec/06_cooling_and_loops.md R161), the site registers
(spec/01_site_and_partners.md R21, R25) and the partner table (spec/18_host_and_discovery.md R486, R487); and the release of the
tick's group frames (spec/02_canopy_allocation.md R28, R57). -/

namespace Sys2Proof.Machine

/-! ### Port snapshots -/

/-- The last status frames of the modules that Canopy has selected to port `p` (R137, VSRC = 1). -/
def State.portModules (p : Nat) (s : State) : List ModStatus :=
  (List.range 256).filterMap (fun n =>
    if (atD s.cnp.mods n {}).sel = p ∧ (s.linkOf n).admitted then (s.linkOf n).last else none)

/-- V_bus in 0.1 V: the mean V_OUT of the port's modules; 0 without one. -/
def State.busV (p : Nat) (s : State) : Nat :=
  let ms := s.portModules p
  if ms.isEmpty then 0 else (roundHalfAway ((sumN (ms.map (·.vOut)) : Rat) / (ms.length : Rat))).toNat

/-- The sum of I_REP of the port's modules in 0.1 A. -/
def State.busI (p : Nat) (s : State) : Int := sumI ((s.portModules p).map (·.iRep))

/-- V_p and I_p of a snapshot in 0.1 V and 0.1 A (R137, R228): the mean of the Sleeve samples of the tick; from the modules where
the record says so, and while the Sleeve's measurement is invalid with the contactors closed; else what was latched last. -/
def State.portVI (p : Fin 12) (s : State) : Nat × Int :=
  let q := s.slvLink.port[p]
  let st := (s.ports[p]).st
  if (s.vp p).vsrcMod ∨ (q.invalid ∧ (st = .energy ∨ st = .stopping ∨ st = .opening)) then (s.busV p, s.busI p)
  else if q.n = 0 then ((s.ports[p]).measV, (s.ports[p]).measI)
  else ((roundHalfAway ((q.sumV : Rat) / (q.n : Rat) / 100)).toNat, roundHalfAway ((q.sumI : Rat) / (q.n : Rat) / 100))

/-- The Sleeve samples of a port have been used. -/
def SlvPort.used (q : SlvPort) : SlvPort := { q with sumV := 0, sumI := 0, n := 0 }

/-- One Canopy tick enters the sums of a twin (R161). -/
def Twin.count (i : Int) (w : Twin) : Twin :=
  { w with sumI2 := w.sumI2 + ((i : Rat) / 10) * ((i : Rat) / 10), nTicks := w.nTicks + 1 }

/-- The snapshot of one port. -/
def State.snapOne (s : State) (p : Fin 12) : State :=
  if !s.portUp p then s
  else
    let x := s.portVI p
    let s := s.portDo p 0 (snapPort x.1 x.2 (s.busV p))
    { s with
      slvLink := { s.slvLink with port := upd s.slvLink.port p SlvPort.used }
      twins := if s.cfg.twCable.any (fun r => r.port == p.val) then upd s.twins p (Twin.count (s.ports[p]).measI) else s.twins }

/-- The snapshots of all ports. -/
def State.snapPorts (s : State) : State := (List.finRange 12).foldl State.snapOne s

/-! ### The site model (R21, R25) -/

/-- A vehicle is present at the port (Table 18.7): from its arrival to the return to IDLE. -/
def Port.vehicle (q : Port) : Bool := q.run && q.st != .idle && q.st != .disabled

/-- SYS_SITE0 and SYS_SITE1 as a tick sets them. -/
def State.siteNow (s : State) : SiteRegs where
  pmAdmit := ((List.range 256).filter (fun n => (s.linkOf n).admitted)).length
  lacNodes := sumN (s.lac.ch.toList.map (fun c => (c.live.filter (fun n => !n.lost)).length))
  bufPm := ((List.range 256).filter (fun n => (s.linkOf n).admitted && s.cfg.cnpModule.any (fun r => r.pm == n && r.buf))).length
  vehMask := maskOf 12 (fun p => (atD s.ports p {}).vehicle)
  brmPartners := s.brm.admits
  peer := s.seam.pair.isSome && !s.seam.peerLost
  intakeSrc := (s.cfg.cnpIntake.getD {}).srcHost

/-- An empty entry of the partner table. -/
def ptEmpty : PtEntry := {}

/-- The entries of the partner table as the site stands now (Tables 18.8 and 18.9). -/
def State.partners (s : State) : List (Nat × PtEntry) :=
  (List.range 256).map (fun n =>
    let l := s.linkOf n
    (n, if l.admitted then { cls := 1, st := 1, idx := n, id := l.serial }
        else if l.lost then { cls := 1, st := 2, idx := n, id := l.serial }
        else if l.refuse ≠ 0 then { cls := 1, st := 3, idx := n, id := (l.announced.map (·.1)).getD l.serial }
        else ptEmpty))
  ++ (List.range 12).map (fun n =>
    let q := atD s.ports n {}
    (256 + n, if q.vehicle then { cls := 2, st := 1, idx := n, id := q.evcc } else ptEmpty))
  ++ (List.range 12).map (fun n =>
    match (atD s.slv.head n {}).pair with
    | some k => (268 + n, if s.hasSleeve && s.hasPort n then { cls := 3, st := 1, idx := n, id := k.serial } else ptEmpty)
    | none => (268 + n, ptEmpty))
  ++ ((List.range 4).flatMap (fun c => (List.range 32).map (fun h =>
    let k := atD s.lac.ch c {}
    let n := atD k.node h {}
    (280 + 32 * c + h, if h < k.found then { cls := 4, st := if n.lost then 2 else 1, idx := 32 * c + h, id := n.serial }
      else if n.refused then { cls := 4, st := 3, idx := 32 * c + h, id := n.serial }
      else match s.hst.pt.find? (fun e => e.1 == 280 + 32 * c + h) with
        | some e => { e.2 with st := 2 }
        | none => ptEmpty))))
  ++ (List.range 64).map (fun n =>
    let k := atD s.brm.nbr n {}
    (408 + n, match k.st with
      | .empty => ptEmpty
      | .lost => { cls := 5, st := 2, idx := n + 1, id := k.addr }
      | .admitted | .unreachable => { cls := 5, st := 1, idx := n + 1, id := k.addr }))
  ++ [(472, match s.seam.pair with
      | none => ptEmpty
      | some r => if s.seam.peerLost then (match s.hst.pt.find? (fun e => e.1 == 472) with
          | some e => { e.2 with st := 2 }
          | none => ptEmpty) else { cls := 6, st := 1, id := r.peerId % 2 ^ 64 }),
    (473, if s.cfg.hstOcpp.isSome then { cls := 7, st := if s.hst.ocpp.st = 4 then 2 else 1 } else ptEmpty)]

/-- A place of the table holds an admitted partner. -/
def Hst.admitted (n : Nat) (h : Hst) : Bool := h.pt.any (fun e => e.1 == n && e.2.st == 1)

/-- The site model changes of a tick: the table follows, and each admission of a class that no other rule announces raises the
partner-admitted event (R486): vehicles, heads, peer and back office. -/
def State.siteTick (s : State) : State :=
  let old := s.hst
  let es := s.partners
  let sec := s.sec
  let s : State := { s with site := s.siteNow, hst := es.foldl (fun h e => ptSet e.1 e.2 sec h) s.hst }
  (es.filter (fun e => e.2.st == 1 && (decide (256 ≤ e.1) && decide (e.1 < 280) || decide (472 ≤ e.1)) && !old.admitted e.1)).foldl
    (fun (s : State) e => s.raiseAt .partnerAdmitted e.1) s

/-! ### The tick -/

/-- The modules' arrivals have entered the model (R21). -/
def State.arrived (s : State) : State :=
  { s with mb := { s.mb with bus := s.mb.bus.map (fun m => { m with link := m.link.map (fun l => { l with fresh := false, gone := false }) }) } }

/-- The status frames that began before the snapshot are used in it (spec/04_module_bus.md R121): those that still wait are read
first, oldest first on each bus. -/
def State.readWaiting (s : State) : State :=
  (List.finRange 4).foldl (fun (s : State) b =>
    let (old, rest) := (s.mb.bus[b]).rxq.partition (fun x => isStatus x.id && decide (x.at_ < s.mono))
    old.foldl (fun (s : State) x => s.takeStatus b x) (s.busMod b (fun m => { m with rxq := rest }))) s

/-- A Canopy tick up to the start of its solve (R26, R27), and the journal entry (R91). -/
def State.tick (s : State) : State :=
  let s := s.readWaiting.snapPorts.siteTick
  let r := tickCore s.cnpIn s.presentPorts s.cnp
  let s : State := (({ s with cnp := r.1 }).raisesAt r.2).arrived
  s.journalTick

/-- The group frames of a tick are released (R28): its result, or that of the tick before, counted under BUDGET (R57). Frames that
still wait are withdrawn first (spec/04_module_bus.md R104), so that the setpoints shown are those of the new frames. Where no result
is ready and none has been sent before, no frame goes out and the tick is not counted (DESIGN CHOICE: R57 gives the result of tick
k − 1 only). -/
def State.releaseFrames (s : State) : State :=
  let r := releaseResult s.cnp
  let s : State := if r.2 && r.1.isSome then ({ s with cnp := { s.cnp with cntBudget := satInc 16 s.cnp.cntBudget, work := none } }).raise .canopyBudget else s
  match r.1 with
  | none => s
  | some t =>
    let s := s.withdrawWaiting
    ({ s with cnp := markSent t s.cnp }).sendGroups t.entries

end Sys2Proof.Machine
end

