-- ==== Sys2Proof/Machine/BrambleCmds.lean ====
section
/-! DEFINITION. The commands of Bramble, the site link (spec/12_bramble_site_link.md). -/

namespace Sys2Proof.Machine

/-- A function of Bramble is done where Bramble runs. -/
def State.onBramble (f : BX → BX) (s : State) : State := s.onlyIf s.brmOn (State.brmDo f)

/-- What a partner does with a frame that is for it: a partner keeps its own state, whatever the controller does. -/
def State.onPartner (f : BX → BX) (s : State) : State := s.onlyIf s.fuses.variant.bramble (State.brmDo f)

/-- FCH_RECEIVE (R337, R339–R341, R343, R345). -/
def execFchReceive (fch : List Byte) (nbr : Option (Fin 64)) (energy : Nat) (pay : List Byte) (xs : List Int) (s : State) :
    Host.Outcome State Fault Refusal :=
  .next (s.onBramble (fchReceive fch (nbr.map (·.val)) energy pay xs))

/-- BEACON (R349, R352, R354). -/
def execBeacon (bs : List Byte) (s : State) : Host.Outcome State Fault Refusal := .next (s.onBramble (brmBeacon bs))

/-- JOIN (R348, R349). -/
def execJoin (bs : List Byte) (s : State) : Host.Outcome State Fault Refusal := .next (s.onBramble (brmJoin bs))

/-- JOIN_ACK (R348), at the partner. -/
def execJoinAck (bs : List Byte) (s : State) : Host.Outcome State Fault Refusal := .next (s.onPartner (brmJoinAck bs))

/-- TMREQ (R341). -/
def execTmreq (bs : List Byte) (snr : List Int) (s : State) : Host.Outcome State Fault Refusal := .next (s.onBramble (brmTmreq bs snr))

/-- TMR (R341, R342). -/
def execTmr (bs : List Byte) (s : State) : Host.Outcome State Fault Refusal := .next (s.onBramble (brmTmr bs))

/-- SET (R348, R359), at the partner. -/
def execSet (bs : List Byte) (s : State) : Host.Outcome State Fault Refusal := .next (s.onPartner (brmSet bs))

/-- VALUES (R359). -/
def execValues (bs : List Byte) (s : State) : Host.Outcome State Fault Refusal := .next (s.onBramble (brmValues bs))

/-- ESTOP (R358). -/
def execEstop (bs : List Byte) (s : State) : Host.Outcome State Fault Refusal := .next (s.onBramble (brmEstop bs))

/-- LEAVE (R350). -/
def execLeave (bs : List Byte) (s : State) : Host.Outcome State Fault Refusal := .next (s.onBramble (brmLeave bs))

/-- BRAMBLE_ACK (R344). -/
def execBrambleAck (n : Fin 65) (ref : Nat) (s : State) : Host.Outcome State Fault Refusal := .next (s.onBramble (brmAck n ref))

/-- BRAMBLE_NACK (R344, R345). -/
def execBrambleNack (n : Fin 65) (ref : Nat) (s : State) : Host.Outcome State Fault Refusal := .next (s.onBramble (brmNack n ref))

/-- ACK_TIMEOUT (R343, R344). -/
def execAckTimeout (n : Fin 65) (s : State) : Host.Outcome State Fault Refusal := .next (s.onBramble (brmAckTimeout n))

/-- ZERO_CROSSING (R338). -/
def execZeroCrossing (s : State) : Host.Outcome State Fault Refusal := .next (s.onBramble zeroCrossing)

/-- TONE_MAP_REFRESH (R342): where a refresh is due. -/
def execToneMapRefresh (n : Fin 64) (s : State) : Host.Outcome State Fault Refusal :=
  .next (s.onlyIf (refreshDue n s.bctx) (State.onBramble (refreshStart n)))

/-- TMR_TIMEOUT (R342). -/
def execTmrTimeout (n : Fin 64) (s : State) : Host.Outcome State Fault Refusal := .next (s.onBramble (tmrTimeout n))

/-- TONE_MAP_REFRESH_WRITE (R361): a host write of 1 to BRM_CTRL.REFRESH, the neighbour as selected. -/
def execToneMapRefreshWrite (s : State) : Host.Outcome State Fault Refusal :=
  .next (s.hostWrite 0xA000 (put 0 6 s.brm.nbrSel + putB 6 true))

/-- BEACON_SEND (R349). -/
def execBeaconSend (s : State) : Host.Outcome State Fault Refusal := .next (s.onBramble beaconSend)

/-- BRAMBLE_PARTNER_LOST (R350). -/
def execBramblePartnerLost (n : Fin 64) (s : State) : Host.Outcome State Fault Refusal := .next (s.onBramble (brmLostTimeout n))

/-- PULSE_BEACON (R356, R357): the bits in the windows of the three phases. -/
def execPulseBeacon (a b c : Nat) (s : State) : Host.Outcome State Fault Refusal := .next (s.onBramble (pulseBeacon [a, b, c]))

/-- FALLBACK_ESTOP (R356, R358): the bits in the windows of the three phases. -/
def execFallbackEstop (a b c : Nat) (s : State) : Host.Outcome State Fault Refusal := .next (s.onBramble (fallbackEstop [a, b, c]))

/-- CTRL_BEACON_SEND (R357). -/
def execCtrlBeaconSend (s : State) : Host.Outcome State Fault Refusal := .next (s.onBramble ctrlBeacon)

/-- BINDING_STALE (R359). -/
def execBindingStale (k : Fin 64) (s : State) : Host.Outcome State Fault Refusal := .next (s.onBramble (bindStale k))

end Sys2Proof.Machine
end

