-- ==== Sys2Proof/Machine/Bus.lean ====
section
/-! DEFINITION. The commands of the module buses (spec/04_module_bus.md). -/

namespace Sys2Proof.Machine

/-- A frame is received; one that enters the high-priority buffer reaches the pair link (R100, R101, spec/10_seam_pair.md R292,
R293). -/
def State.frameIn (b : Fin 4) (f : CanFrame) (s : State) : State :=
  match s.canReceive b f with
  | (s, none) => s
  | (s, some x) => s.echoHeard b x

/-- CAN_FRAME_RECEIVE (R97, R99–R101, R108). -/
def execCanFrameReceive (b : Fin 4) (f : CanFrame) (s : State) : Host.Outcome State Fault Refusal := .next (s.frameIn b f)

/-- The active of a pair awaits the echo of a group frame that ended OK (spec/10_seam_pair.md R293). -/
def State.expectEcho (b : Fin 4) (j : Nat) (data : List Byte) (s : State) : State :=
  s.onlyIf (s.seam.role == .active) (State.echoMod b j (fun k => { k with expect := some (data, s.mono) }))

/-- An attempt ends (R102, R103): slots 0 to 3 are the group frames, slot 4 the HOLD frame, 5 the port limit frame, 6 a management
frame. -/
def State.attemptEnd (b : Fin 4) (slot : Nat) (r : TxResult) (w : TxFlaw) (s : State) : State :=
  if 5 ≤ slot then s.retryResult b slot r w
  else if slot = 4 then s.oneShotHold b r w
  else match atD (s.mb.bus[b]).txGrp slot none with
    | none => s
    | some f =>
      let s := s.oneShotGroup b slot r w
      if r = .ok then s.expectEcho b slot f.data else s

/-- The frame of a buffer has had an attempt, and the controller offers the next one. -/
def State.oneShot (b : Fin 4) (slot : Nat) (r : TxResult) (w : TxFlaw) (s : State) : State :=
  ((s.attemptEnd b slot r w).busMod b (fun m => { m with offered := none })).offers b

/-- ONE_SHOT_RESULT (R97, R102, R103, R105): an attempt for the frame that the controller offers has ended; of an ERROR, `w` says which.
A controller that only monitors makes no attempt. -/
def execOneShotResult (b : Fin 4) (slot : Fin 7) (r : TxResult) (w : TxFlaw) (s : State) : Host.Outcome State Fault Refusal :=
  .next (s.onlyIf (s.busOn b && !s.listens b && (s.mb.bus[b]).mayEnd slot) (State.oneShot b slot r w))

/-- BUS_OFF (R106). -/
def execBusOff (b : Fin 4) (s : State) : Host.Outcome State Fault Refusal :=
  .next (s.onlyIf (s.busOn b) (fun s => (s.busMod b MBus.enterOff).raiseAt .busOff b))

/-- A controller leaves bus-off. -/
def MBus.leaveOff (m : MBus) : MBus := { m with fcs := .active, tec := 0, recv := 0 }

/-- BUS_OFF_RECOVERY (R106). -/
def execBusOffRecovery (b : Fin 4) (s : State) : Host.Outcome State Fault Refusal :=
  .next (s.onlyIf (s.up && (s.mb.bus[b]).fcs == .busOff) (fun s => (s.busMod b MBus.leaveOff).raiseAt .busRecovered b))

/-- The port limit frame is due (R119): 10 ms after the last, or after a change. -/
def State.limitDue (b : Fin 4) (s : State) : Bool :=
  let m := s.mb.bus[b]
  s.canopyOn && s.busOn b && (m.limitVals != s.vlims ||
    (match m.limitAt with
    | some t => State.passed t 10000 s
    | none => true))

/-- The port limit frame is built with the SEQ of the present tick and enters its buffer. -/
def State.sendLimits (b : Fin 4) (s : State) : State :=
  let vs := s.vlims
  (s.busMod b (fun m => { m with limitVals := vs, limitAt := some s.mono })).queueLimit b (limitFrame s.mb.epoch s.seqNow b vs) s.seqNow

/-- PORT_LIMIT_FRAME_SEND (R119). -/
def execPortLimitFrameSend (b : Fin 4) (s : State) : Host.Outcome State Fault Refusal :=
  .next (s.onlyIf (s.limitDue b) (State.sendLimits b))

/-! ### Status frames -/

/-- STATUS_FRAME (R120–R122): the oldest status frame of the receive queue. -/
def execStatusFrame (b : Fin 4) (s : State) : Host.Outcome State Fault Refusal :=
  .next (if !s.cores then s
    else match s.takeRx b isStatus with
      | none => s
      | some (x, s) => s.takeStatus b x)

/-- The last valid status frame of an admitted module is more than 35 ms old (R122). -/
def State.statusLate (pm : Nat) (s : State) : Bool :=
  let l := s.linkOf pm
  s.cores && l.admitted &&
    (match l.last with
    | some t => decide (t.at_ + 35000 < s.mono)
    | none => false)

/-- MODULE_LOST_TIMEOUT (R122). -/
def execModuleLostTimeout (pm : Fin 256) (s : State) : Host.Outcome State Fault Refusal :=
  .next (s.onlyIf (s.statusLate pm) (State.loseModule (Fin.ofNat 4 (pm.val / 64)) (pm.val % 64)))

/-! ### Enumeration -/

/-- The counts of R19 are reached (spec/01_site_and_partners.md Table 1.2, R13): 64 modules on the bus, 256 in all, 32 with the buffer
role. -/
def State.modulesFull (b : Nat) (buf : Bool) (s : State) : Bool :=
  let adm := (List.range 256).filter (fun n => (s.linkOf n).admitted)
  decide (256 ≤ adm.length) || decide (64 ≤ (adm.filter (fun n => n / 64 == b)).length)
    || (buf && decide (32 ≤ (adm.filter (fun n => s.cfg.cnpModule.any (fun r => r.pm == n && r.buf))).length))

/-- An ANNOUNCE is judged and answered (R124). -/
def State.takeAnnounce (b : Fin 4) (x : RxFrame) (s : State) : State :=
  let a := x.id - 0x740
  let pm := 64 * b.val + a
  let l := atD (s.mb.bus[b]).link a {}
  let r := s.cfg.cnpModule.find? (fun r => r.pm == pm)
  let serial := leAt x.data 4 8
  if s.cnp.mode = .reduced ∧ r.isNone then s
  else
    let res := announceResult r l s.mono serial x.data (s.modulesFull b (r.any (·.buf)))
    let s := s.queueMgmt b (admitReply a res serial)
    if res = 0 then
      let s := s.admitModule b a serial
      if l.admitted then s else s.raiseAt .partnerAdmitted pm
    else
      (s.linkMod b a (fun l => { l with refuse := res, announced := if l.admitted then l.announced else some (serial, s.mono) })).raiseAt
        .partnerRefused pm

/-- ANNOUNCE (R123, R124): the oldest ANNOUNCE of the receive queue. -/
def execAnnounce (b : Fin 4) (s : State) : Host.Outcome State Fault Refusal :=
  .next (match s.takeRx b isAnnounce with
    | none => s
    | some (x, s) => if s.answersAnnounce then s.takeAnnounce b x else s)

end Sys2Proof.Machine
end

