-- ==== Sys2Proof/Machine/Canopy.lean ====
section
/-! DEFINITION. The commands of Canopy (spec/02_canopy_allocation.md, spec/03_canopy_limits_and_faults.md), and the host write of a
register that has no command of its own (spec/17_thicket_and_events.md R469). -/

namespace Sys2Proof.Machine

/-- REGISTER_WRITE (spec/17_thicket_and_events.md R469). -/
def execRegisterWrite (addr : Nat) (w : Word) (s : State) : Host.Outcome State Fault Refusal := .next (s.hostWrite addr w.toNat)

/-- CANOPY_TICK (R26, R27, R58). -/
def execCanopyTick (s : State) : Host.Outcome State Fault Refusal := .next (s.onlyIf s.canopyOn State.tick)

/-- The solver stops: its result, and the events of a tick that it ends as infeasible (R78). -/
def State.solved (us : Nat) (e : SolveEnd) (s : State) : State :=
  let r := solveEnd us e s.cnp
  ({ s with cnp := r.1 }).raisesAt r.2

/-- SOLVE_COMPLETE (R50, R53, R54). -/
def execSolveComplete (us : Nat) (e : SolveEnd) (s : State) : Host.Outcome State Fault Refusal :=
  .next (s.onlyIf s.canopyOn (State.solved us e))

/-- The solver reaches its limit (R52): the tick is counted and the canopy-budget event raised. -/
def State.solveBudget (x : SolvePoint) (s : State) : State :=
  let r := budgetEnd s.mono x s.cnp
  ({ s with cnp := r.1 }).raisesAt r.2

/-- SOLVE_BUDGET_EXPIRED (R52). -/
def execSolveBudgetExpired (x : SolvePoint) (s : State) : Host.Outcome State Fault Refusal :=
  .next (s.onlyIf s.canopyOn (State.solveBudget x))

/-- GROUP_FRAME_RELEASE (R28, R57, spec/04_module_bus.md R104, R109–R113). A unit that takes over releases its first frames by
TAKEOVER_FIRST_TICK. -/
def execGroupFrameRelease (s : State) : Host.Outcome State Fault Refusal :=
  .next (s.onlyIf (s.canopyOn && s.seam.role != .taking && decide (0 < s.cnp.ticks)) State.releaseFrames)

/-- The module has not confirmed its selection within T_SEL (R43). -/
def State.selectionLate (pm : Nat) (s : State) : Bool :=
  let m := atD s.cnp.mods pm {}
  s.canopyOn && m.st == .engaging && State.passed m.engagedAt ((s.cfg.cnpGlobal.getD {}).tSel * 1000) s

/-- A module that has not confirmed is FREE again (Table 2.6). -/
def CnpModSt.unselect (m : CnpModSt) : CnpModSt := { m with st := .free, sel := 0xF, selFail := satInc 4 m.selFail }

/-- SELECTION_TIMEOUT (R43). -/
def execSelectionTimeout (pm : Fin 256) (s : State) : Host.Outcome State Fault Refusal :=
  .next (s.onlyIf (s.selectionLate pm) (fun s =>
    ({ s with cnp := { s.cnp with mods := upd s.cnp.mods pm CnpModSt.unselect } }).raiseAt .selectionTimeout pm))

/-- The condition of R47 has held for T_REL and lets a module of the port go. Whether N_MIN counts ENGAGING modules too is open (Table 2.9):
DESIGN CHOICE, it does. -/
def State.releaseDue (p : Fin 12) (s : State) : Bool :=
  let i := s.cnpIn
  let q := s.cnp.ports[p]
  s.canopyOn && decide (50 * i.glob.tRel ≤ q.relTicks)
    && (modsOn i s.cnp p (fun t => t = .releasing)).all (fun n => !(s.cnp.mod n).byRule)
    && (q.phase != .energy || decide (((s.cnpPortRec p).getD {}).nMin < countOf i s.cnp p))

/-- A module chosen for release by R47. -/
def CnpModSt.letGo (m : CnpModSt) : CnpModSt := { m with st := .releasing, byRule := true }

/-- One engaged module of the port becomes RELEASING and the count starts again (R47). -/
def State.releaseOne (p : Fin 12) (s : State) : State :=
  match releaseChoice s.cnpIn s.cnp p (fun _ => true) with
  | none => s
  | some n => { s with cnp := { s.cnp with
      mods := updN s.cnp.mods n CnpModSt.letGo
      ports := upd s.cnp.ports p (fun q => { q with relTicks := 0 }) } }

/-- RELEASE_HOLD_EXPIRY (R47). -/
def execReleaseHoldExpiry (p : Fin 12) (s : State) : Host.Outcome State Fault Refusal :=
  .next (s.onlyIf (s.releaseDue p) (State.releaseOne p))

/-- A BLOCKED module that was not declared lost has reported 10 s of fault-free status and no hold runs (R84). -/
def CnpModSt.blockOver (now : Nat) (m : CnpModSt) : Bool :=
  m.st == .blocked && !m.lost && decide (m.holdUntil ≤ now) &&
    (match m.okSince with
    | some t => decide (t + 10000000 ≤ now)
    | none => false)

/-- A BLOCKED module becomes FREE. -/
def CnpModSt.unblock (m : CnpModSt) : CnpModSt := { m with st := .free, holdUntil := 0, okSince := none }

/-- BLOCK_RELEASE (R84). -/
def execBlockRelease (pm : Fin 256) (s : State) : Host.Outcome State Fault Refusal :=
  .next (s.onlyIf (s.canopyOn && (s.cnp.mods[pm]).blockOver s.mono) (fun s =>
    { s with cnp := { s.cnp with mods := upd s.cnp.mods pm CnpModSt.unblock } }))

/-- The ceiling reference of a port is no longer in force (R83). -/
def CnpPortSt.dropCeil (q : CnpPortSt) : CnpPortSt := { q with ceilRef := none, ceilTicks := 0 }

/-- CEILING_REF_EXPIRY (R83). -/
def execCeilingRefExpiry (p : Fin 12) (s : State) : Host.Outcome State Fault Refusal :=
  .next (s.onlyIf (s.canopyOn && (s.cnp.ports[p]).ceilRef.isSome && decide (250 ≤ (s.cnp.ports[p]).ceilTicks)) (fun s =>
    { s with cnp := { s.cnp with ports := upd s.cnp.ports p CnpPortSt.dropCeil } }))

/-- FREEZE_WRITE (R63): CNP_CTRL.FREEZE. -/
def execFreezeWrite (on : Bool) (s : State) : Host.Outcome State Fault Refusal := .next (s.hostWrite 0x8000 (putB 0 on))

/-- CLR_MAX (R63): CNP_CTRL.CLR_MAX, FREEZE written as it stands. -/
def execClrMax (s : State) : Host.Outcome State Fault Refusal := .next (s.hostWrite 0x8000 (putB 0 s.cnp.freeze + putB 8 true))

/-- INTAKE_MEASUREMENT (R66): P_meas in W. -/
def execIntakeMeasurement (watts : Int) (s : State) : Host.Outcome State Fault Refusal :=
  .next (s.onlyIf (s.canopyOn && !(s.cfg.cnpIntake.getD {}).srcHost) (State.measure ((watts : Rat) / 1000)))

/-- No valid intake measurement for MEAS_TMO (R68). -/
def State.intakeLate (s : State) : Bool :=
  s.canopyOn && !s.cnp.measStale && State.passed s.cnp.measAt ((s.cfg.cnpIntake.getD {}).measTmo * 1000) s

/-- The intake is stale (R68): L_x is L_STALE; τ stays. -/
def State.intakeLost (s : State) : State :=
  ({ s with cnp := { s.cnp with measStale := true, lx := ((s.cfg.cnpIntake.getD {}).lStale : Rat) / 10 } }).raise .intakeStale

/-- INTAKE_STALE (R68). -/
def execIntakeStale (s : State) : Host.Outcome State Fault Refusal := .next (s.onlyIf s.intakeLate State.intakeLost)

/-- PMEAS_HOST_WRITE (R69). -/
def execPmeasHostWrite (w : Word) (s : State) : Host.Outcome State Fault Refusal := .next (s.hostWrite 0x802C w.toNat)

/-- BUF_SOC_WRITE (R71). -/
def execBufSocWrite (w : Word) (s : State) : Host.Outcome State Fault Refusal := .next (s.hostWrite 0x8030 w.toNat)

/-- BUF_REF_WRITE (R73). -/
def execBufRefWrite (w : Word) (s : State) : Host.Outcome State Fault Refusal := .next (s.hostWrite 0x8034 w.toNat)

/-- No write of the state of charge for SOC_TMO, counted from Canopy's start or takeover before the first (R71). -/
def State.socLate (s : State) : Bool :=
  s.canopyOn && s.hasBuffer && !s.cnp.socStale && State.passed s.cnp.socAt ((s.cfg.cnpBuffer.getD {}).socTmo * 100000) s

/-- BUFFER_STALE (R71). -/
def execBufferStale (s : State) : Host.Outcome State Fault Refusal :=
  .next (s.onlyIf s.socLate (fun s => ({ s with cnp := { s.cnp with socStale := true } }).raise .bufferStale))

end Sys2Proof.Machine
end

