-- ==== Sys2Proof/Machine/CloakCmds.lean ====
section
/-! DEFINITION. The commands of Cloak, the key store (spec/14_cloak_keys.md). -/

namespace Sys2Proof.Machine

/-- A function of Cloak is done while the main die is out of power-on and system reset. -/
def State.onCloak (f : Cloak → CkX) (s : State) : State := s.onlyIf s.up (State.clkDo f)

/-- A function of Cloak that raises nothing. -/
def quiet (f : Cloak → Cloak) (c : Cloak) : CkX := { c := f c }

/-- KEY_UPDATE_GO (R395): a host write of 1 to CLK_KU_CTRL.GO. -/
def execKeyUpdateGo (s : State) : Host.Outcome State Fault Refusal := .next (s.hostWrite 0x20048 1)

/-- The message in judgement is judged; a free value stands for what the random source draws. -/
def State.keyJudged (s : State) : State :=
  s.free.2.onCloak (kuJudged s.fuses s.fuses.kaHash s.free.1)

/-- KEY_UPDATE_JUDGED (R394 to R397). -/
def execKeyUpdateJudged (s : State) : Host.Outcome State Fault Refusal := .next s.keyJudged

/-- The pair key is bound to the record's PEER_ID; a free value is the unit's own ephemeral private value. The unit sends its
certificate and its ephemeral public key, signed with the leaf taken; a generation under way keeps its key (R397). -/
def State.bindPair (cert : IdCert) (epk sig : List Byte) (s : State) : State :=
  match s.seam.pair with
  | none => s
  | some r =>
    let own := drawKey 4 s.free.1
    let a := s.free.2.onCloak (pairBind s.fuses r.peerId own cert epk sig)
    let a := if a.clk.bound = s.clk.bound then a else { a with seam := { a.seam with genKey := s.seamKey s.seam.gen } }
    if a.clk.leaf = s.clk.leaf then a
    else
      let pub := Config.ecPublic 4 own
      a.emit (.pairBind s.clk.cert pub (leBytes 2964 (Config.hssSign (s.clk.slot 0).key s.clk.leaf pub)))

/-- PAIR_BINDING (R392, R400): the peer's certificate, its ephemeral public key and that key's signature. -/
def execPairBinding (cert : IdCert) (epk sig : List Byte) (s : State) : Host.Outcome State Fault Refusal :=
  .next (s.bindPair cert epk sig)

/-- ATTESTATION_GO (R400, R401): a host write of CLK_ATT_CTRL with SLOT and GO. -/
def execAttestationGo (slot : Fin 64) (s : State) : Host.Outcome State Fault Refusal :=
  .next (s.hostWrite 0x20054 (put 0 6 slot.val + putB 6 true))

/-- ATTESTATION_DONE (R401, Table 14.7). -/
def execAttestationDone (s : State) : Host.Outcome State Fault Refusal := .next (s.onCloak (quiet (attDone s.fuses)))

/-- RNG_HEALTH_FAIL (R402). -/
def execRngHealthFail (s : State) : Host.Outcome State Fault Refusal := .next (s.onCloak (quiet rngHealthFail))

/-- RNG_RECOVER (R402): more healthy samples in succession. -/
def execRngRecover (n : Nat) (s : State) : Host.Outcome State Fault Refusal := .next (s.onCloak (quiet (rngRecover n)))

/-- DRBG_RESEED (R402). -/
def execDrbgReseed (s : State) : Host.Outcome State Fault Refusal := .next (s.onCloak (quiet (drbgReseed s.mono)))

end Sys2Proof.Machine
end

