-- ==== Sys2Proof/Machine/Cooling.lean ====
section
/-! DEFINITION. The commands of the thermal twin and of Coppice (spec/06_cooling_and_loops.md). -/

namespace Sys2Proof.Machine

/-! ### The twin -/

/-- The cable record of port `p`. -/
def State.cable (p : Nat) (s : State) : Option TwCable := s.cfg.twCable.find? (fun r => r.port == p)

/-- Input `k` of a twin: TA, TB, TC. -/
def Twin.input (k : Nat) (w : Twin) : TempIn := if k = 0 then w.ta else if k = 1 then w.tb else w.tc

/-- Change input `k`. -/
def Twin.setInput (k : Nat) (x : TempIn) (w : Twin) : Twin :=
  if k = 0 then { w with ta := x } else if k = 1 then { w with tb := x } else { w with tc := x }

/-- What follows at once from the inputs: the start of the model and fast mode (R162, R164); a port without a record has no
twin (R161). -/
def Twin.follow (r : Option TwCable) (now : Nat) (w : Twin) : Twin :=
  match r with
  | some k => fastStep k now (twinStart now w)
  | none => w

/-- A temperature input has been measured (R159): a fault of an input that the twin uses raises the cable-sensor-fault event. -/
def State.measureTemp (p : Fin 12) (k : Nat) (ohm : Nat) (t : Int) (s : State) : State :=
  let w := s.twins[p]
  let x := tempMeasure ohm t (w.input k)
  let r := s.cable p
  let used : Bool := match r with
    | some c => decide (k ≠ 2) || c.pinEn
    | none => false
  let a := s.twinPut p ((w.setInput k x).follow r s.mono)
  if used && x.fault && !(w.input k).fault then a.raiseAt .cableSensorFault p else a

/-- TEMP_MEASUREMENT (R159, R162, R164). -/
def execTempMeasurement (p : Fin 12) (k : Fin 3) (ohm : Nat) (t : Int) (s : State) : Host.Outcome State Fault Refusal :=
  .next (s.onlyIf (s.inputsUp p) (State.measureTemp p k ohm t))

/-- An edge of the flow meter (R160). -/
def State.flowPulse (p : Fin 12) (s : State) : State :=
  let r := s.cable p
  let x := flowEdge p s.mono r (s.twins[p])
  let a := s.twinPut p (x.1.follow r s.mono)
  if x.2 && r.isSome then a.raiseAt .cableSensorFault p else a

/-- FLOW_PULSE_EDGE (R160). -/
def execFlowPulseEdge (p : Fin 12) (s : State) : Host.Outcome State Fault Refusal := .next (s.onlyIf (s.inputsUp p) (State.flowPulse p))

/-- FLOW_TIMEOUT (R160). -/
def execFlowTimeout (p : Fin 12) (s : State) : Host.Outcome State Fault Refusal :=
  .next (s.onlyIf (s.inputsUp p) (State.twinMod p (flowTimeout s.mono)))

/-- FLOW_FAULT_CLEAR (R160). -/
def execFlowFaultClear (p : Fin 12) (s : State) : Host.Outcome State Fault Refusal :=
  .next (s.onlyIf (s.inputsUp p) (State.twinMod p (flowClear s.mono)))

/-- An evaluation of the twin (R161–R170); the allocation is the port's present one. -/
def State.evalTwin (p : Fin 12) (s : State) : State :=
  match s.cable p with
  | none => s
  | some k =>
    let r := twinEval k (s.rating p) (s.cnp.ports[p]).alloc.natAbs s.mono (s.twins[p])
    r.2.1.foldl (fun (a : State) e => a.raiseAt e p) (s.twinPut p r.1)

/-- THERMAL_EVALUATION (R161–R170). -/
def execThermalEvaluation (p : Fin 12) (s : State) : Host.Outcome State Fault Refusal :=
  .next (s.onlyIf (s.stackUp p) (State.evalTwin p))

/-- The twin returns to slow mode (R164). -/
def State.quietTwin (p : Fin 12) (s : State) : State :=
  match s.cable p with
  | none => s
  | some k => s.twinMod p (fastExit k s.mono)

/-- FAST_MODE_EXIT (R164). -/
def execFastModeExit (p : Fin 12) (s : State) : Host.Outcome State Fault Refusal := .next (s.onlyIf (s.stackUp p) (State.quietTwin p))

/-! ### Loops -/

/-- P_meas averaged over 1 s in kW (spec/03_canopy_limits_and_faults.md R67). -/
def State.meanImport (s : State) : Rat :=
  let xs := (s.cnp.pMeasLog.filter (fun e => decide (s.mono ≤ e.1 + 1000000))).map (·.2)
  if xs.isEmpty then s.cnp.pMeas else sumQ xs / (xs.length : Rat)

/-- The process value of a loop (Table 6.4), none where it is invalid (R179). -/
def State.loopPv (n : Nat) (r : CpcLoop) (s : State) : Option Nat :=
  let w := atD s.twins r.pvIdx {}
  match r.pvSrc with
  | 0x01 => if w.ta.fault then none else some (fOf w.ta.deg)
  | 0x02 => if w.tb.fault then none else some (fOf w.tb.deg)
  | 0x03 => if w.tc.fault then none else some (fOf w.tc.deg)
  | 0x04 => if w.flFault then none else some (fOf w.q)
  | 0x05 => some (fOf w.nodes.t1)
  | 0x06 => some (fOf ((((s.cable r.pvIdx).getD {}).tHsLim : Rat) / 10 - w.peak))
  | 0x10 => if s.cnp.measStale then none else some (fOf s.meanImport)
  | 0x11 => if s.cnp.socStale then none else some (fOf (s.cnp.soc : Rat))
  | 0x30 => if bindBad r.pvIdx s.bctx then none else some (atD s.brm.bind r.pvIdx {}).val
  | _ => some (s.cpc.loop n).pvh

/-- The sink of a loop is faulted (R180): a Cuff channel forced or locked off or in FAULT (spec/13_cuff_and_hem.md R374), a Bramble
partner lost. -/
def State.sinkBad (r : CpcLoop) (s : State) : Bool :=
  match r.outSnk with
  | 0x01 => (s.cuf.get r.outIdx).force || (s.cuf.get r.outIdx).lock || (s.cuf.get r.outIdx).fault
  | 0x03 => bindBad r.outIdx s.bctx
  | _ => false

/-- The setpoint of the two trim loops (spec/03_canopy_limits_and_faults.md R67, R73). -/
def State.trimSp (n : Nat) (s : State) : Option Nat :=
  if n = 63 then some (fOf (s.gcap - (((s.cfg.cnpIntake.getD {}).gMargin : Nat) : Rat)))
  else if n = 62 then some (fOf (((s.cfg.cnpBuffer.getD {}).socTgt : Nat) : Rat))
  else none

/-- What a sample of loop `n` reads of other units. -/
def State.loopEnv (n : Nat) (r : CpcLoop) (s : State) : LoopEnv where
  pv := s.loopPv n r
  sinkBad := s.sinkBad r
  fast := s.loopFast n
  sp := s.trimSp n
  now := s.mono

/-- A duty in % as the Cuff's 0.1 % steps. -/
def dutyOf (out : Nat) : Nat := min 1000 (roundHalfAway (fVal out * 10)).toNat

/-- The output of a loop is applied to its sink (R174, Table 6.4); a setpoint and the trims are read from the loop. -/
def State.applyOut (n : Nat) (r : CpcLoop) (s : State) : State :=
  let out := (s.cpc.loop n).out
  match r.outSnk with
  | 0x01 => { s with cuf := cuffDuty 1 r.outIdx (dutyOf out) s.cuf }
  | 0x03 => s.onlyIf s.brmOn (State.brmDo (bindCommand r.outIdx out))
  | _ => s

/-- One sample of a loop at this instant (R174–R185): a loop samples at an instant once. -/
def State.sampleOne (n : Nat) (s : State) : State :=
  match (s.cpc.loop n).recd with
  | none => s
  | some r =>
    if (s.cpc.loop n).lastAt = some s.mono then s
    else
      let x := loopSample n (s.loopEnv n r) (s.cpc.setLoop n (fun l => { l with lastAt := some s.mono }))
      let a : State := { s with cpc := x.1 }
      (x.2.foldl (fun (a : State) e => a.raiseAt e n) a).applyOut n r

/-- The instant is a sample instant of the loop (R174): a whole multiple of its period on the timebase. -/
def State.loopDue (n : Nat) (s : State) : Bool := (s.cpc.loop n).recd.any (fun r => s.tb % (r.period * 100) == 0)

/-- The parent of a loop samples first where the instant is its own too (R174). -/
def State.sampleParent (n : Nat) (s : State) : State :=
  match s.cpc.parent n with
  | some p => s.onlyIf (s.loopDue p) (State.sampleOne p)
  | none => s

/-- A sample of a loop, its parents before it (R174): a chain is at most three loops deep (R177). Loops outside one chain read nothing of
each other, so that their order is that of the commands, which come in ascending number. -/
def State.sampleLoop (n : Nat) (s : State) : State :=
  let s := match s.cpc.parent n with
    | some p => s.onlyIf (s.loopDue p) (State.sampleParent p)
    | none => s
  (s.sampleParent n).sampleOne n

/-- LOOP_SAMPLE (R174–R185). -/
def execLoopSample (n : Fin 64) (s : State) : Host.Outcome State Fault Refusal := .next (s.onlyIf s.side (State.sampleLoop n))

/-- LOOP_FAULT_RECOVERY (R176). -/
def execLoopFaultRecovery (n : Fin 64) (s : State) : Host.Outcome State Fault Refusal :=
  .next (s.onlyIf s.side (fun s => s.cpcPut (loopRecover n s.mono s.cpc)))

/-- The device address of a register of loop `n`. -/
def loopAddr (n o : Nat) : Nat := 0x41000 + 0x40 * n + o

/-- LOOP_MODE_WRITE (R176). -/
def execLoopModeWrite (n : Fin 64) (w : Word) (s : State) : Host.Outcome State Fault Refusal := .next (s.hostWrite (loopAddr n 0) w.toNat)

/-- The offset of a register that R178 names (Table 6.7). -/
def LoopCoeff.offset : LoopCoeff → Nat
  | .sp => 0x04 | .kp => 0x14 | .ki => 0x18 | .kd => 0x1C | .tf => 0x20 | .outMin => 0x24 | .outMax => 0x28

/-- LOOP_COEFF_WRITE (R178, R189). -/
def execLoopCoeffWrite (n : Fin 64) (k : LoopCoeff) (w : Word) (s : State) : Host.Outcome State Fault Refusal :=
  .next (s.hostWrite (loopAddr n k.offset) w.toNat)

/-- LOOP_MAN_WRITE (R189). -/
def execLoopManWrite (n : Fin 64) (w : Word) (s : State) : Host.Outcome State Fault Refusal := .next (s.hostWrite (loopAddr n 0x10) w.toNat)

/-- LOOP_PVH_WRITE (R187, R189). -/
def execLoopPvhWrite (n : Fin 64) (w : Word) (s : State) : Host.Outcome State Fault Refusal := .next (s.hostWrite (loopAddr n 0x2C) w.toNat)

/-- The fields of CPC_INJ_CTRL as they stand (Table 6.6). -/
def Coppice.injFields (c : Coppice) : Nat :=
  put 0 6 c.injLoop + putB 6 c.injPoint + put 7 2 c.injForm + put 9 2 c.injOrder + put 16 8 c.injHold

/-- INJECTION_START (R183): CPC_INJ_CTRL.START. -/
def execInjectionStart (s : State) : Host.Outcome State Fault Refusal := .next (s.hostWrite 0x40010 (s.cpc.injFields + putB 11 true))

/-- INJECTION_STOP (R184): CPC_INJ_CTRL.STOP. -/
def execInjectionStop (s : State) : Host.Outcome State Fault Refusal := .next (s.hostWrite 0x40010 (s.cpc.injFields + putB 12 true))

/-- INJECTION_END (R184). -/
def execInjectionEnd (s : State) : Host.Outcome State Fault Refusal := .next (s.onlyIf s.side (fun s => s.cpcPut (injEnd s.cpc)))

end Sys2Proof.Machine
end

