-- ==== Sys2Proof/Machine/GaiterCmds.lean ====
section
/-! DEFINITION. The commands of Gaiter (spec/07_gaiter_safety.md). Gaiter runs in every role while the main die is out of
power-on and system reset, a core reset included. -/

namespace Sys2Proof.Machine

/-- A function of Gaiter is done where Gaiter runs. -/
def State.onGaiter (f : GCtx → GCtx) (s : State) : State := s.onlyIf s.up (State.gtrDo f)

/-- GAITER_CYCLE (R191, R192, R199, R203, R204, R206, R208). -/
def execGaiterCycle (o : GaiterObs) (s : State) : Host.Outcome State Fault Refusal := .next (s.onGaiter (gaiterCycle o))

/-- CLOCK_CHECK_WINDOW (R192, Table 7.1 rows 3 and 4): deviations in 0.1 %. -/
def execClockCheckWindow (dRef dGl : Int) (s : State) : Host.Outcome State Fault Refusal := .next (s.onGaiter (clockWindow dRef dGl))

/-- SAFETY_CONTACT_CHANGE (R193, R196, R199). -/
def execSafetyContactChange (si : Fin 16) (isB level : Bool) (s : State) : Host.Outcome State Fault Refusal :=
  .next (s.onGaiter (contactChange si isB level))

/-- INPUT_DEBOUNCE_DONE (R193). -/
def execInputDebounceDone (si : Fin 16) (s : State) : Host.Outcome State Fault Refusal := .next (s.onGaiter (debounceDone si))

/-- INPUT_DISCREPANCY (R194). -/
def execInputDiscrepancy (si : Fin 16) (s : State) : Host.Outcome State Fault Refusal := .next (s.onGaiter (discrepancy si))

/-- TEST_PULSE_START (R195). -/
def execTestPulseStart (srcB : Bool) (s : State) : Host.Outcome State Fault Refusal := .next (s.onGaiter (pulseStart srcB))

/-- TEST_PULSE_SAMPLE (R195). -/
def execTestPulseSample (srcB : Bool) (closed : Nat) (s : State) : Host.Outcome State Fault Refusal :=
  .next (s.onGaiter (pulseSample srcB closed))

/-- TEST_MASK_END (R195). -/
def execTestMaskEnd (srcB : Bool) (s : State) : Host.Outcome State Fault Refusal := .next (s.onGaiter (maskEnd srcB))

/-- COMPARATOR_CROSSING (R197, R199). -/
def execComparatorCrossing (fc : Fin 24) (s : State) : Host.Outcome State Fault Refusal := .next (s.onGaiter (crossing fc))

/-- COMPARATOR_RETURN (R197). -/
def execComparatorReturn (fc : Fin 24) (s : State) : Host.Outcome State Fault Refusal := .next (s.onGaiter (cmpReturn fc))

/-- The port of a comparator lets its self-test run (R198): IDLE, ENDED or DISABLED, both contactors agreeing open. -/
def State.testQuiet (fc : Nat) (s : State) : Bool :=
  match s.cfg.gtrCmp.find? (fun r => r.fc == fc) with
  | none => false
  | some r =>
    let q := atD s.ports r.port {}
    (q.st == .idle || q.st == .ended || q.st == .disabled) && !q.kCmd && !q.k0 && !q.k1

/-- COMPARATOR_SELF_TEST (R198). -/
def execComparatorSelfTest (fc : Fin 24) (ok : Bool) (s : State) : Host.Outcome State Fault Refusal :=
  .next (s.onGaiter (selfTest fc (s.testQuiet fc) ok))

/-- FC_TEST_LATE (R198). -/
def execFcTestLate (fc : Fin 24) (s : State) : Host.Outcome State Fault Refusal := .next (s.onGaiter (testLate fc))

/-- PORT_RESPONSE_TIMEOUT (R196). -/
def execPortResponseTimeout (p : Fin 12) (s : State) : Host.Outcome State Fault Refusal := .next (s.onGaiter (portTimeout p))

/-- SOFT_RAMP_LIMIT (R203). -/
def execSoftRampLimit (s : State) : Host.Outcome State Fault Refusal := .next (s.onGaiter rampLimit)

/-- RESUME (R205): GTR_CTRL.RESUME. -/
def execResume (s : State) : Host.Outcome State Fault Refusal := .next (s.hostWrite 0x5000 1)

/-- SOFT_WRITE (R203): GTR_CTRL.SOFT. -/
def execSoftWrite (s : State) : Host.Outcome State Fault Refusal := .next (s.hostWrite 0x5000 2)

/-- GATE_REQUEST (R206): the port's stack requests its gate. -/
def execGateRequest (p : Fin 12) (s : State) : Host.Outcome State Fault Refusal :=
  .next (s.onlyIf (s.ports[p]).gateReq (State.onGaiter (gateRequest p)))

/-- GATE_WITHDRAW (R206): the port's stack no longer requests its gate. -/
def execGateWithdraw (p : Fin 12) (s : State) : Host.Outcome State Fault Refusal :=
  .next (s.onlyIf (!(s.ports[p]).gateReq) (State.onGaiter (gateWithdraw p)))

/-- SAFE_OUTPUT_OFF_PULSE (R207). -/
def execSafeOutputOffPulse (so : Fin 8) (fell : Bool) (s : State) : Host.Outcome State Fault Refusal := .next (s.onGaiter (offPulse so fell))

/-- SAFE_OUTPUT_READBACK (R207). -/
def execSafeOutputReadback (so : Fin 8) (high : Bool) (s : State) : Host.Outcome State Fault Refusal :=
  .next (s.onGaiter (outReadback so high))

/-- DEGRADED_TIMER_EXPIRY (R209). -/
def execDegradedTimerExpiry (s : State) : Host.Outcome State Fault Refusal := .next (s.onGaiter degExpiry)

/-- The port currents that a heartbeat carries (R203, R210), in 0.1 A. -/
def State.portCurrents (s : State) : Vector Int 12 := s.ports.map (·.measI)

/-- The real-time core writes heartbeats: it runs and has not stopped them (spec/15_image_and_start.md R424); after the RELEASE of a swap
the one of that tick is the last (spec/20_known_limitations.md R507). -/
def State.beats (s : State) : Bool := s.cores && !s.img.hbStopped && !(s.seam.swapped && s.seam.beatTick == some s.cnp.ticks)

/-- A heartbeat is written in the present tick. -/
def State.beat (s : State) : State := (s.gtrDo (heartbeat s.portCurrents)).seamMod (fun m => { m with beatTick := some s.cnp.ticks })

/-- HEARTBEAT (R210). -/
def execHeartbeat (s : State) : Host.Outcome State Fault Refusal := .next (s.onlyIf s.beats State.beat)

/-- The heartbeat is lost (R211): with a fit peer OWN_N is released and Gaiter awaits the handover (spec/10_seam_pair.md R284,
Table 10.6). A unit that has released control awaits it too (spec/10_seam_pair.md R296, spec/20_known_limitations.md R507). -/
def State.hbLost (s : State) : State :=
  let t := s.gtrDo (hbLoss (s.seam.fit || s.seam.role == .released))
  if t.gtr.hbWait && !s.gtr.hbWait && t.seam.role == .active then t.release 7 else t

/-- HEARTBEAT_LOST (R211). -/
def execHeartbeatLost (s : State) : Host.Outcome State Fault Refusal := .next (s.onlyIf s.up State.hbLost)

/-- HANDOVER_TIMEOUT (R211). -/
def execHandoverTimeout (s : State) : Host.Outcome State Fault Refusal := .next (s.onGaiter handoverTimeout)

/-- GAITER_LEAVE_HOLD (R201). -/
def execGaiterLeaveHold (s : State) : Host.Outcome State Fault Refusal := .next (s.onGaiter leaveHold)

end Sys2Proof.Machine
end

