-- ==== Sys2Proof/Machine/EsingOps.lean ====
section
/-! DEFINITION. The Esing server and the host's side of the relay (spec/18_host_and_discovery.md R477 to R480, spec/10_seam_pair.md
R306). -/

namespace Sys2Proof.Machine

/-- The Esing server runs: it needs the application cores, and the unit serves hosts (R475, spec/16_reset_clocks_domains.md R433). -/
def State.esingOn (s : State) : Bool := s.cores && s.servesHost

/-- Change connection `k`. -/
def State.connMod (k : Nat) (f : Option EsConn → Option EsConn) (s : State) : State :=
  { s with hst := { s.hst with conn := updN s.hst.conn k f } }

/-- FLAGS of a READ or WRITE: only PEER may be set (R479). -/
def esFlagsOk (m : EsHead) : Bool := m.flags == 0 || m.flags == 1

/-- PEER is set. -/
def toPeer (m : EsHead) : Bool := m.flags == 1

/-- A request that its length or flags refuse (R466, R468, R479); `ok` says that the length agrees with the type. -/
def esRefuse (m : EsHead) (ok flags : Bool) : Option Status :=
  if 4096 < m.len ∨ ok = false then some .badLength else if flags then none else some .badValue

/-- A request to the peer. -/
def State.esPeer (k : Nat) (write : Bool) (addr count : Nat) (ws : List Nat) (tag : Nat) (s : State) : State :=
  let r := s.relayStart write addr count ws (k + 1) tag []
  if r.1 = .ok then r.2 else (r.2.judged r.1 addr).esAnswer k r.1 tag (if write then [0] else [])

/-- A READ of this unit. -/
def State.esRead (k : Nat) (addr count tag : Nat) (s : State) : State :=
  let r := State.readRun count addr s
  r.2.2.esAnswer k r.1 tag r.2.1

/-- A DENIED access is counted (R478). -/
def State.denied (addr : Nat) (s : State) : State :=
  let t := s.judged .denied addr
  { t with hst := { t.hst with denied := satInc 8 t.hst.denied } }

/-- Leading words that a role may write. -/
def allowedWords (role a n : Nat) : Nat := ((List.range n).takeWhile (fun k => mayWrite role (a + 4 * k))).length

/-- A WRITE of this unit, word by word, up to the first whose status is not OK. DESIGN CHOICE (log 66): the rights are judged first, so that a
write beyond them to an absent unit ends with DENIED. -/
def State.esWrite (k role addr : Nat) (ws : List Nat) (tag : Nat) (s : State) : State :=
  let m := allowedWords role addr ws.length
  let r := State.writeRun addr (ws.take m) s
  if r.1 = .ok ∧ m < ws.length ∧ r.2.2.up then (r.2.2.denied (addr + 4 * m)).esAnswer k .denied tag [r.2.1]
  else r.2.2.esAnswer k r.1 tag [r.2.1]

/-- A WRITE to the peer: the rights are judged here, over every register addressed (spec/10_seam_pair.md R306). -/
def State.esPeerWrite (k role addr : Nat) (ws : List Nat) (tag : Nat) (s : State) : State :=
  if allowedWords role addr ws.length < ws.length then (s.denied addr).esAnswer k .denied tag [0]
  else s.esPeer k true addr ws.length ws tag

/-- Entries of the log from a sequence number on; one that is overwritten starts at the oldest (R480). -/
def Thicket.logFrom (first count : Nat) (t : Thicket) : List LogE := (t.log.filter (fun e => decide (first ≤ e.seq))).take count

/-- The event mask of a connection. -/
def EsConn.subscribe (mask : Nat) (c : EsConn) : EsConn := { c with mask := mask % 2 ^ 64 }

/-- A request to this connection is being relayed to the peer. -/
def State.relaying (k : Nat) (s : State) : Bool := s.seam.relay.any (fun r => r.chan == k + 1)

/-- A READ, for a client of any role. An absent unit is found first (spec/17_thicket_and_events.md R468). -/
def State.esDoRead (k : Nat) (m : EsHead) (addr count : Nat) (s : State) : State :=
  if !toPeer m && absentAt addr s.fuses.variant then (s.judged .notPresent addr).esAnswer k .notPresent m.tag []
  else match esRefuse m (m.len == 8 && decide (1 ≤ count) && decide (count ≤ 1023)) (esFlagsOk m) with
  | some st => (s.judged st addr).esAnswer k st m.tag []
  | none => if toPeer m then s.esPeer k false addr count [] m.tag else s.esRead k addr count m.tag

/-- A WRITE of a client with role `role`. An absent unit is found before the length and the flags (spec/17_thicket_and_events.md R468). -/
def State.esDoWrite (k role : Nat) (m : EsHead) (addr count : Nat) (ws : List Nat) (s : State) : State :=
  if !toPeer m && absentAt addr s.fuses.variant && mayWrite role addr then (s.judged .notPresent addr).esAnswer k .notPresent m.tag [0]
  else match esRefuse m (m.len == 8 + 4 * count && decide (1 ≤ count) && decide (count ≤ 1022) && ws.length == count) (esFlagsOk m) with
  | some st => (s.judged st addr).esAnswer k st m.tag [0]
  | none => if toPeer m then s.esPeerWrite k role addr ws m.tag else s.esWrite k role addr ws m.tag

/-- A LOG. -/
def State.esDoLog (k : Nat) (m : EsHead) (first count : Nat) (s : State) : State :=
  match esRefuse m (m.len == 8 && decide (1 ≤ count) && decide (count ≤ 127)) (m.flags == 0) with
  | some st => s.emit (.esLog k st m.tag [])
  | none => s.emit (.esLog k .ok m.tag (s.thk.logFrom first count))

/-- A SUB. -/
def State.esDoSub (k : Nat) (m : EsHead) (mask : Nat) (s : State) : State :=
  match esRefuse m (m.len == 8) (m.flags == 0) with
  | some st => s.esAnswer k st m.tag []
  | none => (s.connMod k (Option.map (EsConn.subscribe mask))).esAnswer k .ok m.tag []

/-- A request is carried out. -/
def State.esDo (k role : Nat) (q : EsReq) (s : State) : State :=
  match q with
  | .read m addr count => s.esDoRead k m addr count
  | .write m addr count ws => s.esDoWrite k role m addr count ws
  | .log m first count => s.esDoLog k m first count
  | .sub m mask => s.esDoSub k m mask

/-- A request that waits behind the one being relayed (R479). -/
def EsConn.queued (q : EsReq) (c : EsConn) : EsConn := { c with waiting := c.waiting ++ [q] }

/-- Traffic on a connection. -/
def EsConn.heard (now : Nat) (c : EsConn) : EsConn := { c with lastAt := now }

/-- A request arrives on connection `k` (R479): requests complete in order of arrival, so that one waits while an earlier one is being
relayed. -/
def State.onEsing (k : Nat) (q : EsReq) (s : State) : State :=
  match atD s.hst.conn k none with
  | none => s
  | some c =>
    if !s.esingOn then s
    else
      let s := s.connMod k (Option.map (EsConn.heard s.mono))
      if s.relaying k then s.connMod k (Option.map (EsConn.queued q)) else s.esDo k c.role q

/-- The requests that waited are carried out in order, up to one that is relayed itself: those after it wait on. -/
def State.esDrain (k role : Nat) : List EsReq → State → State
  | [], s => s
  | q :: qs, s =>
    if s.relaying k then s.connMod k (Option.map (fun c => { c with waiting := q :: qs })) else State.esDrain k role qs (s.esDo k role q)

/-- The connection of an Esing request whose relay has ended goes on with the requests that waited. -/
def State.esResume (k : Nat) (s : State) : State :=
  match atD s.hst.conn k none with
  | none => s
  | some c => State.esDrain k c.role c.waiting (s.connMod k (Option.map (fun c => { c with waiting := [] })))

/-- The answer of a relayed access to the host that asked (spec/10_seam_pair.md R306); its connection goes on. -/
def State.relayAnswer (r : RelayPend) (st : Status) (done : Nat) (s : State) : State :=
  let s := s.relayDone r st done
  if r.chan = 0 then s else s.esResume (r.chan - 1)

/-- The access under way, if any, ends with NOT_IN_STATE (spec/10_seam_pair.md R306). -/
def State.relayBreak (s : State) : State :=
  match s.seam.relay with
  | none => s
  | some r => s.relayAnswer r .notInState r.got.length

end Sys2Proof.Machine
end

