-- ==== Sys2Proof/Machine/HostCmds.lean ====
section
/-! DEFINITION. The commands of the host interfaces: SPI target, Esing server, OCPP client (spec/18_host_and_discovery.md,
spec/10_seam_pair.md R306). -/

namespace Sys2Proof.Machine

/-! ### SPI target (R474, R475) -/

/-- Leading words of an access whose code runs (spec/16_reset_clocks_domains.md R433). -/
def State.servedWords (a n : Nat) (s : State) : Nat :=
  ((List.range n).takeWhile (fun k => s.codeRuns (a + 4 * k))).length

/-- A word count of the SPI target (R474). -/
def spiCountOk (n : Nat) : Bool := decide (1 ≤ n) && decide (n ≤ 64)

/-- The header of an SPI transaction (R474): command byte, address, word count. -/
def spiHead (cmd addr count : Nat) : List Byte := leBytes 1 cmd ++ leBytes 4 addr ++ leBytes 2 count

/-- A transaction whose bytes so far are `sent` is judged before its words: a standby answers BUSY (R475); a unit in power-on or system
reset does not answer. `away`: a swap or an access to the peer, which ends with NOT_IN_STATE in START, TAKING and RELEASED
(spec/10_seam_pair.md R302, R305, R306). -/
def State.onSpi (sent : List Byte) (a : Nat) (bad absent away : Bool) (f : State → State) (s : State) : State :=
  let st : Status := if absent then .notPresent else .badLength
  if !s.up then s
  else if !s.servesHost && (s.standby || !away) then s.emit (spiEnd sent .busy [])
  else if bad then (s.judged st a).emit (spiEnd sent st [])
  else if !s.servesHost then (s.judged .notInState a).emit (spiEnd sent .notInState [])
  else f s

/-- Read `n` words; the words after the one that ended the transaction read as zeros. -/
def State.spiReadWords (sent : List Byte) (a n : Nat) (s : State) : State :=
  let m := s.servedWords a n
  let r := State.readRun m a s
  if r.1 = .ok ∧ m < n then r.2.2.waits (a + 4 * m) r.2.1 (n - m) (some sent)
  else r.2.2.emit (spiEnd sent r.1 (r.2.1 ++ List.replicate (n - r.2.1.length) 0))

/-- SPI_READ (R474): command 0x0B. -/
def execSpiRead (addr count : Nat) (s : State) : Host.Outcome State Fault Refusal :=
  let sent := spiHead 0x0B addr count
  .next (s.onSpi sent addr (!spiCountOk count) (absentAt addr s.fuses.variant) false (State.spiReadWords sent addr count))

/-- Write words, up to the first whose status is not OK. -/
def State.spiWriteWords (sent : List Byte) (a : Nat) (ws : List Nat) (s : State) : State :=
  let m := s.servedWords a ws.length
  let r := State.writeRun a (ws.take m) s
  if r.1 = .ok ∧ m < ws.length ∧ r.2.2.up then r.2.2.waits (a + 4 * m) [] 0 (some sent) else r.2.2.emit (spiEnd sent r.1 [])

/-- The bytes that a host sends in a write: the header, then the data words. -/
def spiSent (cmd addr count : Nat) (ws : List Word) : List Byte :=
  spiHead cmd addr count ++ (ws.map (fun w => leBytes 4 w.toNat)).flatten

/-- SPI_WRITE (R474): command 0x02. -/
def execSpiWrite (addr count : Nat) (ws : List Word) (s : State) : Host.Outcome State Fault Refusal :=
  let sent := spiSent 0x02 addr count ws
  .next (s.onSpi sent addr (!spiCountOk count || ws.length != count) (absentAt addr s.fuses.variant) (s.swapAway addr (ws.headD 0).toNat)
    (State.spiWriteWords sent addr (ws.map (·.toNat))))

/-- An SPI access to the peer goes out in a RELAY frame, or ends at once with the status of the relay (spec/10_seam_pair.md R306). -/
def State.spiPeer (sent : List Byte) (write : Bool) (addr count : Nat) (ws : List Nat) (s : State) : State :=
  if !s.cores then s.waits addr [] 0 (some sent)
  else
    let r := s.relayStart write addr count ws 0 0 sent
    if r.1 = .ok then r.2 else (r.2.judged r.1 addr).emit (spiEnd sent r.1 [])

/-- SPI_PEER_READ (spec/10_seam_pair.md R306): command 0x4B. -/
def execSpiPeerRead (addr count : Nat) (s : State) : Host.Outcome State Fault Refusal :=
  let sent := spiHead 0x4B addr count
  .next (s.onSpi sent addr (!spiCountOk count) false true (State.spiPeer sent false addr count []))

/-- SPI_PEER_WRITE (spec/10_seam_pair.md R306): command 0x42. -/
def execSpiPeerWrite (addr count : Nat) (ws : List Word) (s : State) : Host.Outcome State Fault Refusal :=
  let sent := spiSent 0x42 addr count ws
  .next (s.onSpi sent addr (!spiCountOk count || ws.length != count) false true
    (State.spiPeer sent true addr count (ws.map (·.toNat))))

/-- SPI_CRC_REPORT (R488): a host write of 1 to HST_SPIERR.CRC. -/
def execSpiCrcReport (s : State) : Host.Outcome State Fault Refusal := .next (s.hostWrite 0x28028 1)

/-! ### Esing server (R477 to R480) -/

/-- A network port serves Esing: its record says so, or it runs on the fallback settings (R476). -/
def State.esingPort (eth : Nat) (s : State) : Bool :=
  match s.cfg.hstNet.find? (fun r => r.port == eth) with
  | some r => r.esing
  | none => true

/-- The server has a key to authenticate itself with (R477): the slot bound to service 2, with the TLS usage; else slot 1. -/
def State.esingKey (s : State) : Bool :=
  match s.cfg.clkBind.find? (fun r => r.service == 2) with
  | some r => (s.clk.usable r.slot [.p256, .p384] 3).isSome
  | none => !s.clk.noKeys && (s.clk.slot 1).typ != .empty

/-- The legal time while the Sleeve's clock is valid. -/
def State.legalTime (s : State) : Option Nat := if s.slvOn && s.slv.clkV then some s.slv.utcS else none

/-- A handshake fails. -/
def State.tlsFails (s : State) : State := { s with hst := { s.hst with tlsFail := satInc 8 s.hst.tlsFail } }

/-- The first place free for a connection; at most two are served. -/
def Hst.freePlace (h : Hst) : Option Nat := (List.range 2).find? (fun k => (atD h.conn k none).isNone)

/-- A connection is set up: the third is refused, then the server's key, the client's TLS offer and its certificate are judged. -/
def State.esingAccept (cert : EsCert) (s : State) : State :=
  match s.hst.freePlace with
  | none => s
  | some k =>
    if !s.esingKey then s.keyMissed.tlsFails
    else if !cert.hello.ok then s.tlsFails
    else match clientRole s.cfg.hstUser s.legalTime cert with
      | none => s.tlsFails
      | some role => s.connMod k (fun _ => some { role := role, lastAt := s.mono })

/-- ESING_CONNECT (R477, R478). -/
def execEsingConnect (eth : Fin 2) (cert : EsCert) (s : State) : Host.Outcome State Fault Refusal :=
  .next (s.onlyIf (s.esingOn && s.esingPort eth) (State.esingAccept cert))

/-- Connection `k` has been without traffic for 300 s. -/
def State.esingStale (k : Nat) (s : State) : Bool :=
  match atD s.hst.conn k none with
  | some c => State.passed c.lastAt 300000000 s
  | none => false

/-- ESING_IDLE_CLOSE (R477). -/
def execEsingIdleClose (k : Fin 2) (s : State) : Host.Outcome State Fault Refusal :=
  .next (s.onlyIf (s.esingStale k) (fun s => (s.connMod k (fun _ => none)).emit (.esClose k)))

/-- READ (R479). -/
def execRead (k : Fin 2) (m : EsHead) (addr count : Nat) (s : State) : Host.Outcome State Fault Refusal :=
  .next (s.onEsing k (.read m addr count))

/-- WRITE (R478, R479). -/
def execWrite (k : Fin 2) (m : EsHead) (addr count : Nat) (ws : List Word) (s : State) : Host.Outcome State Fault Refusal :=
  .next (s.onEsing k (.write m addr count (ws.map (·.toNat))))

/-- LOG (R480). -/
def execLog (k : Fin 2) (m : EsHead) (first count : Nat) (s : State) : Host.Outcome State Fault Refusal :=
  .next (s.onEsing k (.log m first count))

/-- SUB (R480). -/
def execSub (k : Fin 2) (m : EsHead) (mask : Nat) (s : State) : Host.Outcome State Fault Refusal := .next (s.onEsing k (.sub m mask))

/-! ### OCPP client (R481 to R485) -/

/-- Change the client. -/
def State.ocppMod (f : Ocpp → Ocpp) (s : State) : State := { s with hst := { s.hst with ocpp := f s.hst.ocpp } }

/-- The client runs: with its record, on the active or a single unit, while the application cores run. -/
def State.clientOn (s : State) : Bool := s.cores && s.servesHost && s.cfg.hstOcpp.isSome

/-- The link to the back office is established. -/
def State.online (s : State) : Bool := s.clientOn && s.hst.ocpp.st == 3

/-- U of R482 in V. -/
def State.uPhase (s : State) : Rat :=
  if s.hasSleeve then (s.slv.lp.uN : Rat) / 10 else ((s.cfg.cnpIntake.getD {}).uNom : Rat)

/-- The second of legal time for which the schedules are evaluated: the Sleeve's clock while it is valid, else the client's own, `t`. -/
def State.scheduleTime (t : Nat) (s : State) : Nat := s.legalTime.getD t

/-- The composite schedules are evaluated for a second of legal time, with V_p of the latest snapshot. -/
def State.schedule (t : Nat) (s : State) : State :=
  s.ocppMod (evaluate (s.scheduleTime t) s.uPhase (s.cnp.ports.toList.map (·.snapV)))

/-- SCHEDULE_EVALUATION (R482). `t` is the client's time in s, used while the Sleeve's clock is not valid or there is no Sleeve. -/
def execScheduleEvaluation (t : Nat) (s : State) : Host.Outcome State Fault Refusal := .next (s.onlyIf s.clientOn (State.schedule t))

/-- U_n and U_NOM are both missing (R482). -/
def State.noPhaseVoltage (s : State) : Bool := !s.hasSleeve && (s.cfg.cnpIntake.getD {}).uNom == 0

/-- A charging profile is received. -/
def State.takeProfile (prof : Profile) (t : Nat) (s : State) : State :=
  if profileRejected s.noPhaseVoltage s.hst.ocpp prof then s.emit (.ocppCall "Rejected" prof.id)
  else ((s.ocppMod (storeProfile prof)).schedule t).emit (.ocppCall "Accepted" prof.id)

/-- SET_CHARGING_PROFILE (R482). -/
def execSetChargingProfile (prof : Profile) (t : Nat) (s : State) : Host.Outcome State Fault Refusal :=
  .next (s.onlyIf s.online (State.takeProfile prof t))

/-- The client holds an authorisation for the port's next request (spec/05_vehicle_ports.md R140). -/
def Ocpp.hold (p : Fin 12) (o : Ocpp) : Ocpp := { o with held := upd o.held p (fun _ => true) }

/-- REQUEST_START_TRANSACTION (spec/05_vehicle_ports.md R140). -/
def execRequestStartTransaction (p : Fin 12) (s : State) : Host.Outcome State Fault Refusal :=
  .next (s.onlyIf (s.online && s.hasPort p) (fun s => (s.ocppMod (Ocpp.hold p)).emit (.ocppCall "Accepted" p)))

/-- The port of an open transaction, by the session number of its transactionId. -/
def State.txPort (n : Nat) (s : State) : Option (Fin 12) :=
  (List.finRange 12).find? (fun p => (s.hst.ocpp.tx[p]).any (fun t => t.num == n && t.endAt.isNone))

/-- A stop request of the back office acts as VPn_CTRL.STOP (spec/05_vehicle_ports.md Table 5.6). -/
def State.txStop (n : Nat) (s : State) : State :=
  match s.txPort n with
  | none => s.emit (.ocppCall "Rejected" n)
  | some p =>
    let r := vpStop p s
    r.2.emit (.ocppCall (if r.1 = .ok then "Accepted" else "Rejected") n)

/-- REQUEST_STOP_TRANSACTION (spec/05_vehicle_ports.md R143, R483). -/
def execRequestStopTransaction (tx : Nat) (s : State) : Host.Outcome State Fault Refusal :=
  .next (s.onlyIf s.online (State.txStop tx))

/-- CHANGE_AVAILABILITY (R481). -/
def execChangeAvailability (p : Fin 12) (on : Bool) (s : State) : Host.Outcome State Fault Refusal :=
  .next (s.onlyIf (s.online && s.hasPort p) (fun s => ((vpEnable p on s).2).emit (.ocppCall "Accepted" p)))

/-- A Reset of the back office acts as RST_CTRL.SYS; it is answered before it takes effect. -/
def State.backOfficeReset (s : State) : State :=
  let r := sysResetRequest s
  if r.1 = .ok then (sysResetRequest (s.emit (.ocppCall "Accepted" 0))).2 else s.emit (.ocppCall "Rejected" 0)

/-- OCPP_RESET (R481, spec/16_reset_clocks_domains.md R434). -/
def execOcppReset (s : State) : Host.Outcome State Fault Refusal := .next (s.onlyIf s.online State.backOfficeReset)

/-- The functional blocks of Table 18.5 that are not supported. -/
def ocppUnsupported : List String := ["H", "I", "L", "N", "O", "P"]

/-- OCPP_UNSUPPORTED_CALL (R481): a request of a functional block. -/
def execOcppUnsupportedCall (block : String) (s : State) : Host.Outcome State Fault Refusal :=
  .next (s.onlyIf (s.online && ocppUnsupported.contains block) (State.emit (.ocppCall "NotImplemented" 0)))

/-- An accepted token enters the authorisation cache of 1,024 entries (Table 18.5). -/
def Ocpp.cacheToken (ok : Bool) (token : Nat) (o : Ocpp) : Ocpp :=
  if ok then { o with cache := (token :: o.cache.filter (· ≠ token)).take 1024 } else { o with cache := o.cache.filter (· ≠ token) }

/-- AUTHORIZE_RESPONSE (spec/05_vehicle_ports.md R140). -/
def execAuthorizeResponse (p : Fin 12) (ok : Bool) (token : Nat) (s : State) : Host.Outcome State Fault Refusal :=
  .next (s.onlyIf (s.online && s.portUp p) (fun s => (s.ocppMod (Ocpp.cacheToken ok token)).portDo p token (authAnswer ok)))

/-- METER_INT in s (Table 18.6). -/
def State.meterInt (s : State) : Nat := (s.cfg.hstOcpp.map (·.meterInt)).getD 60

/-- The meter values of an open transaction are sent, every METER_INT. -/
def State.meterValues (p : Fin 12) (s : State) : State :=
  match s.hst.ocpp.tx[p] with
  | some t =>
    if t.endAt.isNone ∧ State.passed t.meterAt (s.meterInt * 1000000) s then
      (s.ocppMod (fun o => { o with tx := upd o.tx p (fun _ => some { t with meterAt := s.mono }) })).ocppSend .meter p t.num none none
    else s
  | none => s

/-- METER_VALUES_SEND (R483). -/
def execMeterValuesSend (p : Fin 12) (s : State) : Host.Outcome State Fault Refusal := .next (s.onlyIf s.clientOn (State.meterValues p))

/-- The first complete copy of a session's record, and its Open Charge Metering Format string (R483,
spec/09_billing_and_tamper.md Table 9.5: SESSION at offset 4). -/
def SlvLink.recordOf (n : Nat) (l : SlvLink) : Option (Nat × List Byte) :=
  (l.done.find? (fun d => !d.2.1 && leAt d.2.2 4 4 == n)).map (fun d => (d.1, d.2.2))

/-- The Open Charge Metering Format string with a record's number. -/
def SlvLink.ocmfOf (seq : Nat) (l : SlvLink) : Option (List Byte) := (l.done.find? (fun d => d.2.1 && d.1 == seq)).map (·.2.2)

/-- No record will be formed for a session (R483). -/
def State.noRecord (n : Nat) (s : State) : Bool := !s.hasSleeve || s.slvLink.noRec.contains n

/-- The transaction with session number `n` of a port is over for the client. -/
def State.txClose (p : Fin 12) (n : Nat) (s : State) : State :=
  s.ocppMod (fun o => { o with
    tx := upd o.tx p (fun t => t.filter (·.num != n))
    old := o.old.filter (fun t => t.1 != p || t.2.num != n) })

/-- A transaction whose session has ended is ended with its record once that is held, without one where none will be formed; a
record that comes after Ended goes out in a TransactionEvent Updated. -/
def State.endTx (p : Fin 12) (t : OcppTx) (s : State) : State :=
  match s.slvLink.recordOf t.num with
  | some r => (s.ocppSend (if t.late then .late else .ended) p t.num (some r.2) (s.slvLink.ocmfOf r.1)).txClose p t.num
  | none => if s.noRecord t.num && !t.late then (s.ocppSend .ended p t.num none none).txClose p t.num else s

/-- The transactions of a port whose sessions have ended, the oldest first. -/
def State.endedTxs (p : Fin 12) (s : State) : List OcppTx :=
  ((s.hst.ocpp.old ++ s.hst.ocpp.ended p).filter (·.1 == p)).map (·.2)

/-- TRANSACTION_ENDED (R483): each transaction of the port whose session has ended. -/
def execTransactionEnded (p : Fin 12) (s : State) : Host.Outcome State Fault Refusal :=
  .next (s.onlyIf s.clientOn (fun s => (s.endedTxs p).foldl (fun s t => s.endTx p t) s))

/-- No record 90 s after the session's end: Ended goes out without it. -/
def State.recordLate (p : Fin 12) (t : OcppTx) (s : State) : State :=
  if !t.late && State.passed (t.endAt.getD s.mono) 90000000 s then
    (s.ocppSend .ended p t.num none none).ocppMod (fun o => { o with
      tx := upd o.tx p (fun u => u.map (fun u => if u.num = t.num then { u with late := true } else u))
      old := o.old.map (fun u => if u.1 = p ∧ u.2.num = t.num then (p, { u.2 with late := true }) else u) })
  else s

/-- RECORD_WAIT_TIMEOUT (R483): each transaction of the port whose session has ended. -/
def execRecordWaitTimeout (p : Fin 12) (s : State) : Host.Outcome State Fault Refusal :=
  .next (s.onlyIf s.clientOn (fun s => (s.endedTxs p).foldl (fun s t => s.recordLate p t) s))

/-- The WebSocket closes, or a CALL draws no answer within 30 s: an established link is lost. -/
def State.linkLost (s : State) : State :=
  if s.hst.ocpp.st = 3 then (s.ocppMod (fun o => { o with st := 4, delay := 1, lostAt := s.mono })).raise .backOfficeLink
  else if s.hst.ocpp.st = 2 then s.ocppMod (fun o => { o with st := 4, lostAt := s.mono })
  else s

/-- OCPP_LINK_LOST (R484). -/
def execOcppLinkLost (s : State) : Host.Outcome State Fault Refusal := .next (s.onlyIf s.clientOn State.linkLost)

/-- T_RECONN in s (Table 18.6). -/
def State.tReconn (s : State) : Nat := (s.cfg.hstOcpp.map (·.tReconn)).getD 120

/-- A connection attempt is due: the first one, or after the delay. -/
def State.reconnectDue (s : State) : Bool :=
  s.hst.ocpp.st == 1 || (s.hst.ocpp.st == 4 && State.passed s.hst.ocpp.lostAt (s.hst.ocpp.delay * 1000000) s)

/-- The client connects again; the delay doubles up to T_RECONN. Without a key in the slot of service 1, or with
a server whose choice `h` the device does not support, the handshake fails (spec/14_cloak_keys.md R391, R403). -/
def State.reconnect (h : TlsHello) (s : State) : State :=
  let d (o : Ocpp) : Nat := if o.st = 4 then min (2 * o.delay) s.tReconn else o.delay
  let fail (s : State) : State := s.tlsFails.ocppMod (fun o => { o with st := 4, delay := d o, lostAt := s.mono })
  if !s.serviceKey 1 then fail s.keyMissed
  else if h.ok then s.ocppMod (fun o => { o with st := 2, delay := d o })
  else fail s

/-- OCPP_RECONNECT (R484). -/
def execOcppReconnect (h : TlsHello) (s : State) : Host.Outcome State Fault Refusal :=
  .next (s.onlyIf (s.clientOn && s.reconnectDue) (State.reconnect h))

/-- BootNotification is accepted: the link is established, and the queue goes out in its order (R484, R485). -/
def State.bootDone (s : State) : State :=
  let q := s.hst.ocpp.queue
  ((s.ocppMod (fun o => { o with st := 3, delay := 1, queue := [] })).raise .backOfficeLink).emits (q.map s.ocppOut)

/-- BOOT_ACCEPTED (R484). -/
def execBootAccepted (s : State) : Host.Outcome State Fault Refusal :=
  .next (s.onlyIf (s.clientOn && s.hst.ocpp.st == 2) State.bootDone)

end Sys2Proof.Machine
end

