-- ==== Sys2Proof/Machine/ImageCmds.lean ====
section
/-! DEFINITION. The commands of the image loader: strap, first-leaf block, rest, and the operations on the image flash
(spec/15_image_and_start.md). -/

namespace Sys2Proof.Machine

/-- The loader's part of the state changes. -/
def State.imgPut (l : Loader) (s : State) : State := { s with img := l }

/-- The loader's part changes, and an event is raised where the flag says so. -/
def State.imgRaise (e : Ev) (r : Loader × Bool) (s : State) : State := if r.2 then (s.imgPut r.1).raise e else s.imgPut r.1

/-- The image authority anchor in force. -/
def State.imgAnchor (s : State) : Nat := anchorOf s.fuses s.clk

/-! ### Start -/

/-- STRAP_LATCH (R408): the ratio that the converter reads. -/
def execStrapLatch (ratio : Rat) (s : State) : Host.Outcome State Fault Refusal :=
  .next (s.onlyIf s.up (State.imgRaise .strapInvalid (strapLatch ratio s.img)))

/-- Regeneration of the root secret has ended, whether READY or FAULT. -/
def State.rootEnded (s : State) : Bool := s.clk.ready || s.clk.rootFail

/-- LOADER_START (R417, R418): the flash has valid SFDP data or not. -/
def execLoaderStart (sfdp : Bool) (s : State) : Host.Outcome State Fault Refusal :=
  .next (s.onlyIf s.up (State.imgRaise .imageRefused (loaderStart s.rootEnded sfdp s.img)))

/-- A unit that starts while the other one drives OWN_N becomes standby (spec/10_seam_pair.md Table 10.1). -/
def State.startChoice (s : State) : State := if s.seam.role == .start && s.seam.other then s.becomeStandby else s

/-- The first-leaf block applies where it passes. -/
def State.leafIntoForce (s : State) : State :=
  match leafApply s.fuses s.imgAnchor s.img with
  | none => s
  | some l => ((s.imgPut l).applyLeaf l.leaf).startChoice

/-- FIRST_LEAF_APPLY (R417, R419, R421). -/
def execFirstLeafApply (s : State) : Host.Outcome State Fault Refusal := .next (s.onlyIf s.up State.leafIntoForce)

/-- FIRST_LEAF_REFUSED (R417, R419): the flash answers or not. -/
def execFirstLeafRefused (answers : Bool) (s : State) : Host.Outcome State Fault Refusal :=
  .next (s.onlyIf s.up (State.imgRaise .imageRefused (leafRefused s.fuses s.imgAnchor answers s.img)))

/-- The rest applies where it passes. -/
def State.restIntoForce (s : State) : State :=
  match restApply s.fuses s.imgAnchor s.img with
  | none => s
  | some (l, rs) => (s.imgPut l).applyRest rs

/-- REST_APPLY (R417, R422). -/
def execRestApply (s : State) : Host.Outcome State Fault Refusal := .next (s.onlyIf s.up State.restIntoForce)

/-- The loader enters REFUSED (R417, R424): the image-refused event, Canopy's ramp-down (spec/03_canopy_limits_and_faults.md R90)
and a soft request of kind 8. -/
def State.imgRefusedNow (l : Loader) (s : State) : State :=
  let t := (s.imgPut l).raise .imageRefused
  State.softRequest 8 0 { t with cnp := { t.cnp with rampDown := true } }

/-- The rest is refused. -/
def State.restFails (answers : Bool) (s : State) : State :=
  match restRefused s.fuses s.imgAnchor answers s.img with
  | none => s
  | some l => s.imgRefusedNow l

/-- REST_REFUSED (R417, R419, R424): the flash answers or not. -/
def execRestRefused (answers : Bool) (s : State) : Host.Outcome State Fault Refusal :=
  .next (s.onlyIf s.up (State.restFails answers))

/-- 200 ms have passed since Gaiter entered CLEARING, with the loader in REFUSED (R424). -/
def State.heartbeatEnds (s : State) : Bool :=
  s.up && s.img.st == .refused && s.gtr.st == .clearing && State.passed s.gtr.clrAt 200000 s

/-- HEARTBEAT_STOP (R424). -/
def execHeartbeatStop (s : State) : Host.Outcome State Fault Refusal :=
  .next (s.onlyIf s.heartbeatEnds (fun s => s.imgPut { s.img with hbStopped := true }))

/-! ### Operations (R427, Table 15.9) -/

/-- A host write of SYS_IMG_CTRL starts an operation. -/
def State.imgOp (f : State → Status × Loader) (s : State) : State :=
  s.hostCommand 0x70 (fun s => ((f s).1, s.imgPut (f s).2))

/-- A host write of SYS_IMG_CTRL starts an operation that may leave free bytes in the flash. -/
def State.imgOpFree (f : List Byte → State → Status × Loader) (s : State) : State :=
  s.hostCommand 0x70 (fun s =>
    let r := f (leBytes 4096 s.free.1) s
    (r.1, s.free.2.imgPut r.2))

/-- IMAGE_ERASE (R427). -/
def execImageErase (slot : Fin 2) (s : State) : Host.Outcome State Fault Refusal := .next (s.imgOp (fun s => imgErase slot s.img))

/-- IMAGE_PROG (R427, R428): the page passes its verification or not. -/
def execImageProg (slot : Fin 2) (verify : Bool) (s : State) : Host.Outcome State Fault Refusal :=
  .next (s.imgOpFree (fun bs s => imgProg slot verify bs s.img))

/-- IMAGE_CHECK (R419, R427): the flash answers or not. -/
def execImageCheck (slot : Fin 2) (answers : Bool) (s : State) : Host.Outcome State Fault Refusal :=
  .next (s.imgOp (fun s => imgCheck s.fuses s.imgAnchor answers slot s.img))

/-- IMAGE_SELECT (R427, R428): page 0 passes its verification or not. -/
def execImageSelect (slot : Fin 2) (verify : Bool) (s : State) : Host.Outcome State Fault Refusal :=
  .next (s.imgOpFree (fun bs s => imgSelect slot verify bs s.img))

/-- IMAGE_OP_DONE (R427). -/
def execImageOpDone (s : State) : Host.Outcome State Fault Refusal :=
  .next (s.onlyIf s.up (fun s => s.imgPut (imgOpDone s.img)))

end Sys2Proof.Machine
end

