-- ==== Sys2Proof/Machine/LacingCmds.lean ====
section
/-! DEFINITION. The commands of Lacing, the stack chain master (spec/11_lacing_stack_chain.md). -/

namespace Sys2Proof.Machine

/-- A function of a Lacing chain is done where the chain is present and Lacing runs. -/
def State.onLacing (c : Fin 4) (f : LX → LX) (s : State) : State := s.onlyIf (s.lacOn c) (State.lacDo c f)

/-- LACING_RUN_WRITE (R315, Table 11.6): a host write of LAC_CTRL. -/
def execLacingRunWrite (w : Word) (s : State) : Host.Outcome State Fault Refusal := .next (s.hostWrite 0x24000 w.toNat)

/-- WAKE_DONE (R315, Table 11.6). -/
def execWakeDone (c : Fin 4) (s : State) : Host.Outcome State Fault Refusal := .next (s.onLacing c lacWakeDone)

/-- ENUMERATION (R316). -/
def execEnumeration (c : Fin 4) (s : State) : Host.Outcome State Fault Refusal := .next (s.onLacing c lacEnum)

/-- LACING_FAULT_RETRY (R315, Table 11.6). -/
def execLacingFaultRetry (c : Fin 4) (s : State) : Host.Outcome State Fault Refusal := .next (s.onLacing c lacRetry)

/-- Chains in RUN. -/
def State.lacRunning (s : State) : List (Fin 4) := (List.finRange 4).filter (fun c => s.lacOn c && s.lac.ch[c].st == .run)

/-- The next sweep: SWID and LAC_SWEEP advance (R321, Table 11.10). -/
def Lacing.nextSweep (l : Lacing) : Lacing := { l with swid := (l.swid + 1) % 256, sweep := (l.sweep + 1) % 2 ^ 32 }

/-- A sweep period (R320, R321): CONVERT on every running chain; without one no sweep is sent. -/
def State.sweepPeriod (s : State) : State :=
  ((List.finRange 4).filter (fun c => s.lacOn c)).foldl (fun (s : State) c => s.lacDo c lacSweep)
    (if s.lacRunning.isEmpty then s else { s with lac := s.lac.nextSweep })

/-- SWEEP_PERIOD (R320, R321). -/
def execSweepPeriod (s : State) : Host.Outcome State Fault Refusal := .next s.sweepPeriod

/-- LACING_RESPONSE (R314, Table 11.5). -/
def execLacingResponse (c : Fin 4) (bs : List Byte) (s : State) : Host.Outcome State Fault Refusal :=
  .next (s.onLacing c (lacResponse bs))

/-- LACING_RESPONSE_TIMEOUT (R314). -/
def execLacingResponseTimeout (c : Fin 4) (s : State) : Host.Outcome State Fault Refusal := .next (s.onLacing c lacTimeout)

/-- LACING_NODE_LOST (R315, Table 11.6). -/
def execLacingNodeLost (c : Fin 4) (h : Fin 32) (s : State) : Host.Outcome State Fault Refusal := .next (s.onLacing c (lacLost h))

/-- OWT_READ (R328). -/
def execOwtRead (c : Fin 4) (resp : Option (List Byte)) (s : State) : Host.Outcome State Fault Refusal :=
  .next (s.onLacing c (owtRead resp))

/-- OWT_REQUEST (R329): a host write of LAC_OWT. -/
def execOwtRequest (w : Word) (s : State) : Host.Outcome State Fault Refusal := .next (s.hostWrite 0x24004 w.toNat)

/-- OW_TEST_LATE (R329). -/
def execOwTestLate (c : Fin 4) (h : Fin 32) (s : State) : Host.Outcome State Fault Refusal := .next (s.onLacing c (owLate h))

end Sys2Proof.Machine
end

