-- ==== Sys2Proof/Machine/Ports.lean ====
section
/-! DEFINITION. The commands of the vehicle ports and of their charging sessions (spec/05_vehicle_ports.md). -/

namespace Sys2Proof.Machine

/-- A function of port `p` is done where the port's stack runs (spec/16_reset_clocks_domains.md R432). -/
def State.onPort (p : Fin 12) (f : PCtx → PCtx) (s : State) : State := s.onlyIf (s.stackUp p) (State.portDo p 0 f)

/-- The message carries or ends a demand (R145, R146, R149). -/
def PortMsg.demands : PortMsg → Bool
  | .cableCheck _ _ _ | .preCharge _ _ _ | .powerDelivery _ _ | .chargeLoop _ _ | .sessionStop _ => true
  | _ => false

/-- A demand that the port's stack has delivered since a takeover replaces the journaled one
(spec/03_canopy_limits_and_faults.md R92): the request has been accepted now. -/
def State.freshDemand (p : Fin 12) (s : State) : State :=
  if (s.ports[p]).seqAt = s.mono then
    { s with cnp := { s.cnp with ports := upd s.cnp.ports p (fun q => { q with heldDem := none }) } }
  else s

/-- A message of the vehicle reaches port `p`; `token` identifies the vehicle to the OCPP client. -/
def State.portMsg (p : Fin 12) (token : Nat) (m : PortMsg) (s : State) : State :=
  s.onlyIf (s.stackUp p) (fun s =>
    let t := ((s.hear2g p m).portDo p token (doMsg m)).tidy2g p
    if m.demands then t.freshDemand p else t)

/-- PILOT_STATE_ACCEPT (R130). -/
def execPilotStateAccept (p : Fin 12) (x y z : PilotPeriod) (s : State) : Host.Outcome State Fault Refusal :=
  .next (s.onPort p (pilotPeriods x y z))

/-- PROXIMITY_CHANGE (R131). -/
def execProximityChange (p : Fin 12) (mv : Nat) (s : State) : Host.Outcome State Fault Refusal := .next (s.onPort p (proxChange mv))

/-- A trigger of a step is a message that carries a demand. -/
def PortTrig.demands : PortTrig → Bool
  | .msg m => m.demands
  | _ => false

/-- The 1 ms step of a port; a new active finds out whether it has taken over the contactors (spec/10_seam_pair.md R299). -/
def State.stepPort (p : Fin 12) (ts : List PortTrig) (s : State) : State :=
  let heard (s : State) : PortTrig → State
    | .msg m => s.hear2g p m
    | _ => s
  let t := (((ts.foldl heard s).portDo p 0 (portStep ts)).tidy2g p).handPort p
  if ts.any PortTrig.demands then t.freshDemand p else t

/-- PORT_STEP (R144). -/
def execPortStep (p : Fin 12) (ts : List PortTrig) (s : State) : Host.Outcome State Fault Refusal :=
  .next (s.onlyIf (s.stackUp p) (State.stepPort p ts))

/-- CONTACTOR_PULL_IN_EXPIRY (R132). -/
def execContactorPullInExpiry (p : Fin 12) (s : State) : Host.Outcome State Fault Refusal := .next (s.onPort p pullInDone)

/-- CONTACTOR_DISAGREE (R135, R153, R154). -/
def execContactorDisagree (p : Fin 12) (f0 f1 : Bool) (s : State) : Host.Outcome State Fault Refusal :=
  .next (s.onPort p (disagree f0 f1))

/-- CONTACTORS_AGREE_CLOSED (R143, spec/10_seam_pair.md R299). -/
def execContactorsAgreeClosed (p : Fin 12) (s : State) : Host.Outcome State Fault Refusal :=
  .next (s.onlyIf (s.ports[p]).kCmd (fun s => (s.onPort p agreeClosed).handPort p))

/-- CONTACTORS_AGREE_OPEN (R143). -/
def execContactorsAgreeOpen (p : Fin 12) (s : State) : Host.Outcome State Fault Refusal :=
  .next (s.onlyIf (!(s.ports[p]).kCmd) (State.onPort p agreeOpen))

/-- ABRUPT_END_OPEN (R143). -/
def execAbruptEndOpen (p : Fin 12) (s : State) : Host.Outcome State Fault Refusal := .next (s.onPort p abruptOpen)

/-- FAILED_ANSWER_CLOSE (R143). -/
def execFailedAnswerClose (p : Fin 12) (s : State) : Host.Outcome State Fault Refusal := .next (s.onPort p failClose)

/-- The answer to SECC discovery (Table 5.6): given where the link is up, over the link that the port kind selects (R128), with a TCP
server port from 49,152 to 65,535 (R138). -/
def State.sdp (p : Fin 12) (s : State) : State :=
  if (s.ports[p]).st = .link then
    let (v, t) := (s.portMsg p 0 .sdp).free
    t.emit (.sdp p (s.portPins p).link.phy (49152 + v % 16384))
  else s

/-- SDP_REQUEST (R143). -/
def execSdpRequest (p : Fin 12) (s : State) : Host.Outcome State Fault Refusal := .next (s.onlyIf (s.stackUp p) (State.sdp p))

/-- T_LINK_EXPIRY (R143). -/
def execTLinkExpiry (p : Fin 12) (s : State) : Host.Outcome State Fault Refusal := .next (s.onPort p linkTimeout)

/-- T_AUTH_EXPIRY (R140). -/
def execTAuthExpiry (p : Fin 12) (s : State) : Host.Outcome State Fault Refusal := .next (s.onPort p authTimeout)

/-- SEQUENCE_TIMER_EXPIRY (R143). -/
def execSequenceTimerExpiry (p : Fin 12) (s : State) : Host.Outcome State Fault Refusal := .next (s.onPort p seqTimeout)

/-- CHECK_TIMEOUT (R143). -/
def execCheckTimeout (p : Fin 12) (s : State) : Host.Outcome State Fault Refusal := .next (s.onPort p checkTimeout)

/-- CABLE_CHECK_PASS (R145). -/
def execCableCheckPass (p : Fin 12) (s : State) : Host.Outcome State Fault Refusal := .next (s.onPort p checkPass)

/-- T_PC_EXPIRY (R143). -/
def execTPcExpiry (p : Fin 12) (s : State) : Host.Outcome State Fault Refusal := .next (s.onPort p pcTimeout)

/-- POWER_DELIVERY_CONDITION_TIMEOUT (R148). -/
def execPowerDeliveryConditionTimeout (p : Fin 12) (s : State) : Host.Outcome State Fault Refusal := .next (s.onPort p deliverTimeout)

/-- SHORT_DECLARED (R147). -/
def execShortDeclared (p : Fin 12) (s : State) : Host.Outcome State Fault Refusal := .next (s.onPort p shortDeclare)

/-- SHORT_CHECK_PATH_OFF (R147). -/
def execShortCheckPathOff (p : Fin 12) (s : State) : Host.Outcome State Fault Refusal := .next (s.onPort p shortPathOff)

/-- STOP_RAMP_COMPLETE (R143). -/
def execStopRampComplete (p : Fin 12) (s : State) : Host.Outcome State Fault Refusal := .next (s.onPort p stopRamp)

/-- FAULT_MIN_TIME_EXPIRY (R143). -/
def execFaultMinTimeExpiry (p : Fin 12) (s : State) : Host.Outcome State Fault Refusal := .next (s.onPort p faultMin)

/-- V2G_CONNECTION_OPEN (R156). -/
def execV2gConnectionOpen (p : Fin 12) (isn : Nat) (tls : Option TlsHello) (s : State) : Host.Outcome State Fault Refusal :=
  .next (s.portMsg p 0 (.connOpen isn tls))

/-- V2G_CONNECTION_CLOSED (R156). -/
def execV2gConnectionClosed (p : Fin 12) (s : State) : Host.Outcome State Fault Refusal := .next (s.portMsg p 0 .connClosed)

/-- TLS_HANDSHAKE_FAIL (R139). -/
def execTlsHandshakeFail (p : Fin 12) (s : State) : Host.Outcome State Fault Refusal := .next (s.portMsg p 0 .tlsFail)

/-- SUPPORTED_APP_PROTOCOL_REQ (R139). -/
def execSupportedAppProtocolReq (p : Fin 12) (h : V2gHead) (offers : List Proto) (s : State) : Host.Outcome State Fault Refusal :=
  .next (s.portMsg p 0 (.appProtocol h offers))

/-- SESSION_SETUP_REQ (R155). -/
def execSessionSetupReq (p : Fin 12) (h : V2gHead) (s : State) : Host.Outcome State Fault Refusal := .next (s.portMsg p 0 (.sessionSetup h))

/-- SERVICE_DISCOVERY_REQ (R149). -/
def execServiceDiscoveryReq (p : Fin 12) (h : V2gHead) (s : State) : Host.Outcome State Fault Refusal :=
  .next (s.portMsg p 0 (.serviceDiscovery h))

/-- SERVICE_SELECTION_REQ (R149). -/
def execServiceSelectionReq (p : Fin 12) (h : V2gHead) (bpt : Bool) (s : State) : Host.Outcome State Fault Refusal :=
  .next (s.portMsg p 0 (.serviceSelection h bpt))

/-- AUTHORIZATION_REQ (R140). -/
def execAuthorizationReq (p : Fin 12) (h : V2gHead) (pnc : Bool) (token : Nat) (cert : List Byte) (s : State) :
    Host.Outcome State Fault Refusal := .next (s.portMsg p token (.authorization h pnc cert))

/-- CABLE_CHECK_REQ (R134, R145). -/
def execCableCheckReq (p : Fin 12) (h : V2gHead) (vmax imax : Nat) (s : State) : Host.Outcome State Fault Refusal :=
  .next (s.portMsg p 0 (.cableCheck h vmax imax))

/-- PRE_CHARGE_REQ (R146). -/
def execPreChargeReq (p : Fin 12) (h : V2gHead) (tgtV : Nat) (tgtI : Int) (s : State) : Host.Outcome State Fault Refusal :=
  .next (s.portMsg p 0 (.preCharge h tgtV tgtI))

/-- POWER_DELIVERY_REQ (R148, R150). -/
def execPowerDeliveryReq (p : Fin 12) (h : V2gHead) (start : Bool) (s : State) : Host.Outcome State Fault Refusal :=
  .next (s.portMsg p 0 (.powerDelivery h start))

/-- CHARGE_LOOP_REQ (R149, R150). -/
def execChargeLoopReq (p : Fin 12) (h : V2gHead) (r : LoopReq) (s : State) : Host.Outcome State Fault Refusal :=
  .next (s.portMsg p 0 (.chargeLoop h r))

/-- SESSION_STOP_REQ (R143, R150). -/
def execSessionStopReq (p : Fin 12) (h : V2gHead) (s : State) : Host.Outcome State Fault Refusal := .next (s.portMsg p 0 (.sessionStop h))

/-- CERTIFICATE_INSTALLATION_REQ (R151). -/
def execCertificateInstallationReq (p : Fin 12) (h : V2gHead) (s : State) : Host.Outcome State Fault Refusal :=
  .next (s.portMsg p 0 (.certificateInstallation h))

/-- CREDIT_NOTICE (R133). -/
def execCreditNotice (p : Fin 12) (s : State) : Host.Outcome State Fault Refusal := .next (s.onPort p creditNotice)

/-- The device address of VPn_CTRL. -/
def vpCtrlAddr (p : Nat) : Nat := 0x11000 + 0x1000 * p

/-- PORT_ENABLE_WRITE (R157). -/
def execPortEnableWrite (p : Fin 12) (on : Bool) (s : State) : Host.Outcome State Fault Refusal :=
  .next (s.hostWrite (vpCtrlAddr p) (putB 0 on))

/-- PORT_STOP (R157): VPn_CTRL.STOP. -/
def execPortStop (p : Fin 12) (s : State) : Host.Outcome State Fault Refusal := .next (s.hostWrite (vpCtrlAddr p) 2)

/-- CLR_LOCK (R153): VPn_CTRL.CLR_LOCK. -/
def execClrLock (p : Fin 12) (s : State) : Host.Outcome State Fault Refusal := .next (s.hostWrite (vpCtrlAddr p) 4)

/-- BPT_TGT_WRITE (R157). -/
def execBptTgtWrite (p : Fin 12) (w : Word) (s : State) : Host.Outcome State Fault Refusal :=
  .next (s.hostWrite (vpCtrlAddr p + 0x30) w.toNat)

end Sys2Proof.Machine
end

