-- ==== Sys2Proof/Machine/PowerCmds.lean ====
section
/-! DEFINITION. The commands of Cuff, the load-switch array, and of Hem, the auxiliary converter (spec/13_cuff_and_hem.md). Cuff's
protection runs in the retained domain, whatever the main die does (R370). -/

namespace Sys2Proof.Machine

/-! ### Cuff -/

/-- A function of Cuff is done. -/
def State.cufMod (f : Cuff → Cuff) (s : State) : State := { s with cuf := f s.cuf }

/-- PLL_C runs (spec/16_reset_clocks_domains.md Table 16.2): a system reset keeps it unless a clock has failed. -/
def State.pllCRuns (s : State) : Bool := atD s.rst.lock 2 false || s.rst.hold.any (fun h => h.level == 1 && h.src != 7)

/-- The generators' rate in thousandths: without the 100 MHz power-control clock, which PLL_C gives (spec/16_reset_clocks_domains.md
Table 16.5), they run on the retained domain's RC timebase within 10 % (R370). -/
def State.pgRate (s : State) : Nat := if s.pllCRuns then 1000 else 900 + Config.rcRate s.mono % 201

/-- CUFF_PROTECTION_CHECK (R365, R369, R374): what the step measures of each channel. -/
def execCuffProtectionCheck (ms : List CufMeas) (s : State) : Host.Outcome State Fault Refusal :=
  .next (s.cufMod (cuffCheck s.pgRate s.mono ms))

/-- TOTAL_CURRENT_SHED (R366). -/
def execTotalCurrentShed (s : State) : Host.Outcome State Fault Refusal := .next (s.cufMod (cuffTotal s.mono))

/-- CUFF_RETRY (R367). -/
def execCuffRetry (n : Fin 16) (s : State) : Host.Outcome State Fault Refusal := .next (s.cufMod (cuffRetry s.mono n))

/-- A clamp event ends; a channel that becomes LOCKED raises its event. -/
def State.clampEnd (n e : Nat) (s : State) : State :=
  let r := cuffClamp s.mono n e s.cuf
  let a : State := { s with cuf := r.1 }
  if r.2 then a.raiseAt .clampLock n else a

/-- CLAMP_EVENT_END (R368): the samples of the event. -/
def execClampEventEnd (n : Fin 16) (xs : List ClampSample) (s : State) : Host.Outcome State Fault Refusal :=
  .next (s.clampEnd n (clampEnergy xs))

/-- CUF_CLR (R367, R368): a host write. -/
def execCufClr (w : Word) (s : State) : Host.Outcome State Fault Refusal := .next (s.hostWrite 0x9008 w.toNat)

/-- CUF_CHANNEL_WRITE (R363, R368, R369): a host write of CUF_CHn_CTRL. -/
def execCufChannelWrite (n : Fin 16) (w : Word) (s : State) : Host.Outcome State Fault Refusal :=
  .next (s.hostWrite (0x9100 + 0x10 * n.val) w.toNat)

/-- The first-leaf block is applied, so Gaiter judges the force latches; until then they stay as they were (R372). -/
def State.leafIn (s : State) : Bool := s.up && (s.img.st == .rest || s.img.st == .run || s.img.st == .refused)

/-- A port names the channel as its check path and is not in CHECK or PRECHARGE (spec/05_vehicle_ports.md R136). -/
def State.checkPathIdle (n : Nat) (s : State) : Bool :=
  s.cfg.vpPort.any (fun r => r.chkCu == n && !((atD s.ports r.port {}).st == .check || (atD s.ports r.port {}).st == .precharge))

/-- Gaiter forces the channel off: by the CUF_OFF mask in HOLD and CLEARING (spec/07_gaiter_safety.md R202), or as a check path. -/
def State.forced (n : Nat) (s : State) : Bool := (s.gaiterSafe && bitOf n (s.cfg.gtrGlobal.getD {}).cufOff) || s.checkPathIdle n

/-- Set or clear the force latch of a channel; its commanded state stays, and a lift counts as a new switch-on (R372). -/
def cuffForce (n : Nat) (on : Bool) (c : Cuff) : Cuff := c.set n (fun k => { (if k.force && !on then k.anew else k) with force := on })

/-- CUFF_FORCE (R372): Gaiter's latch follows its conditions. -/
def execCuffForce (n : Fin 16) (on : Bool) (s : State) : Host.Outcome State Fault Refusal :=
  .next (s.onlyIf (s.leafIn && s.forced n == on) (State.cufMod (cuffForce n on)))

/-- Without VLS the drivers of a port drop at once; those of a running stack end their sessions (spec/10_seam_pair.md R299). -/
def State.driversDrop (p : Fin 12) (s : State) : State :=
  if s.stackUp p then s.portDo p 0 driversLost else { s with ports := upd s.ports p (fun q => { q with drive := .off }) }

/-- VLS_LOSS (R370, spec/10_seam_pair.md R299). -/
def execVlsLoss (s : State) : Host.Outcome State Fault Refusal :=
  .next ((List.finRange 12).foldl (fun (s : State) p => s.driversDrop p) (s.cufMod cuffClear))

/-- The unit's own OWN_N driver is released and the line has been held low for 200 ms (R373). -/
def State.ownLost (s : State) : Bool := !s.seam.drive && s.seam.other && State.passed s.seam.lowAt 200000 s

/-- CUFF_STANDBY_OFF (R373). -/
def execCuffStandbyOff (s : State) : Host.Outcome State Fault Refusal := .next (s.onlyIf s.ownLost (State.cufMod cuffAllOff))

/-! ### Hem -/

/-- A function of Hem is done while the main die is out of power-on and system reset. -/
def State.onHem (f : HX → HX) (s : State) : State := s.onlyIf s.up (State.hemDo f)

/-- VSEL_CHANGE (R379). -/
def execVselChange (code : Fin 8) (s : State) : Host.Outcome State Fault Refusal := .next (s.onHem (vselChange code))

/-- SOFT_START_COMPLETE (R380). -/
def execSoftStartComplete (s : State) : Host.Outcome State Fault Refusal := .next (s.onHem softStartDone)

/-- HEM_SHORT (R381). -/
def execHemShort (s : State) : Host.Outcome State Fault Refusal := .next (s.onHem hemShort)

/-- HICCUP_EXPIRY (R381, Table 13.3). -/
def execHiccupExpiry (s : State) : Host.Outcome State Fault Refusal := .next (s.onHem hiccupExpiry)

/-- HIC_CLEAR (R381). -/
def execHicClear (s : State) : Host.Outcome State Fault Refusal := .next (s.onHem hicClear)

/-- HEM_UNDERVOLTAGE (R382, Table 13.3). -/
def execHemUndervoltage (s : State) : Host.Outcome State Fault Refusal := .next (s.onHem hemUv)

/-- HEM_OVERVOLTAGE (R382, Table 13.3). -/
def execHemOvervoltage (s : State) : Host.Outcome State Fault Refusal := .next (s.onHem hemOv)

/-- HEM_VIN_OUT (R382, Table 13.3). -/
def execHemVinOut (s : State) : Host.Outcome State Fault Refusal := .next (s.onHem hemVinOut)

/-- HEM_VIN_OK (R382, Table 13.3). -/
def execHemVinOk (s : State) : Host.Outcome State Fault Refusal := .next (s.onHem hemVinOk)

/-- PHASE_OVERCURRENT (R382). -/
def execPhaseOvercurrent (p : Fin 4) (s : State) : Host.Outcome State Fault Refusal := .next (s.onHem (phaseOc p))

/-- HEM_CLR (R382, Table 13.3): a host write of 1 to HEM_CTRL.CLR. -/
def execHemClr (s : State) : Host.Outcome State Fault Refusal := .next (s.hostWrite 0x7000 1)

/-- PHASE_SHED (R383). -/
def execPhaseShed (s : State) : Host.Outcome State Fault Refusal := .next (s.onHem phaseShed)

/-- PHASE_ADD (R383). -/
def execPhaseAdd (s : State) : Host.Outcome State Fault Refusal := .next (s.onHem phaseAdd)

/-- FAST_CONDITION (R384). -/
def execFastCondition (s : State) : Host.Outcome State Fault Refusal := .next (s.onHem hemFast)

/-- SHED_BLOCK_EXPIRY (R384). -/
def execShedBlockExpiry (s : State) : Host.Outcome State Fault Refusal := .next (s.onHem shedBlockEnd)

/-- HEM_LOOP_UPDATE (R377, R379, R383). -/
def execHemLoopUpdate (m : HemMeas) (s : State) : Host.Outcome State Fault Refusal := .next (s.onHem (hemLoop m))

end Sys2Proof.Machine
end

