-- ==== Sys2Proof/Machine/ResetCmds.lean ====
section
/-! DEFINITION. The commands of reset, clocks, Glade and the temperature bands (spec/16_reset_clocks_domains.md). -/

namespace Sys2Proof.Machine

/-! ### Sources at level power-on (R430, R431) -/

/-- GLD_PWREN goes low 10 ms after SLEEP was accepted (R450). -/
def State.sleepDue (s : State) : Bool :=
  s.gld.pwren && (match s.gld.sleepAt with
    | some t => State.passed t 10000 s
    | none => false)

/-- Glade puts the main die to sleep. -/
def Glade.toSleep (g : Glade) : Glade := { g with pwren := false, sleepAt := none }

/-- VSYS (0) or VDDIO0 (1) is low, or GLD_PWREN goes low (2). -/
def State.powerLow (k : Nat) (s : State) : State :=
  if k ≠ 2 then s.powerResetNow 1
  else if s.sleepDue then State.powerResetNow 1 { s with gld := s.gld.toSleep }
  else s

/-- POWER_ON_RESET (R430, R431, R450). -/
def execPowerOnReset (k : Fin 3) (s : State) : Host.Outcome State Fault Refusal := .next (s.powerLow k)

/-- BROWN_OUT (R430, R431). -/
def execBrownOut (s : State) : Host.Outcome State Fault Refusal := .next (s.powerResetNow 2)

/-! ### Sources at level system -/

/-- A source of a system reset fires: counted; a power-on reset in progress stays one, and its release begins anew (R435, R436). -/
def State.systemSource (src : Nat) (s : State) : State :=
  let t : State := { s with gld := s.gld.count src }
  match s.rst.hold with
  | some h => if h.level = 0 then { t with rst := { t.rst with hold := some { h with at_ := s.mono } } } else t.sysResetNow { level := 1, src := src }
  | none => t.sysResetNow { level := 1, src := src }

/-- RST_N has been low for `ns`: below 200 ns ignored, from 1 µs on a reset, between them a free choice. -/
def State.pinLow (ns : Nat) (s : State) : State :=
  if ns < 200 then s
  else if 1000 ≤ ns then s.systemSource 3
  else if s.free.1 % 2 = 0 then s.free.2 else s.free.2.systemSource 3

/-- PIN_RESET (R430). -/
def execPinReset (ns : Nat) (s : State) : Host.Outcome State Fault Refusal := .next (s.pinLow ns)

/-- RESET_SYS_WRITE (R434): a host write of RST_CTRL. -/
def execResetSysWrite (w : Word) (s : State) : Host.Outcome State Fault Refusal := .next (s.hostWrite 0x2004 w.toNat)

/-- RESET_CORE_WRITE (R434): a host write of RST_CTRL. -/
def execResetCoreWrite (w : Word) (s : State) : Host.Outcome State Fault Refusal := .next (s.hostWrite 0x2004 w.toNat)

/-- DEBUG_RESET_REQUEST (R430): accepted only in diagnostic boot. -/
def execDebugResetRequest (sys : Bool) (s : State) : Host.Outcome State Fault Refusal :=
  .next (s.onlyIf (s.up && bitOf 3 s.img.strap) (fun s => if sys then s.systemSource 6 else s.coreHold 6))

/-! ### Sources of a deferred reset (R433) -/

/-- WATCHDOG_EXPIRY (R430, R433): the watchdog of the real-time core, or those of two application cores within 1 s. -/
def execWatchdogExpiry (app : Bool) (s : State) : Host.Outcome State Fault Refusal := .next (s.pendReset 4 (if app then 2 else 1))

/-- Another application core restarted within the last second. -/
def State.secondCore (core : Nat) (s : State) : Bool :=
  match s.rst.appAt with
  | some (c, t) => c != core && decide (s.mono ≤ t + 1000000)
  | none => false

/-- One application core's watchdog expires: that core restarts alone, counted under source 4; a second core within 1 s makes it
the watchdog source. -/
def State.appRestart (core : Nat) (s : State) : State :=
  if s.secondCore core then s.pendReset 4 2
  else { s with gld := s.gld.count 4, rst := { s.rst with appAt := some (core, s.mono) } }

/-- APP_CORE_RESTART (R430). -/
def execAppCoreRestart (core : Nat) (s : State) : Host.Outcome State Fault Refusal := .next (s.onlyIf s.up (State.appRestart core))

/-- Clocks that fail: only the reference's bit where the reference has failed (R443); its loss takes the PLLs' locks with it. -/
def Rst.clocksFail (m : Nat) (r : Rst) : Rst :=
  if bitOf 0 m then { r with fail := r.fail ||| 1, refOk := false, lock := Vector.replicate 3 false }
  else { r with fail := r.fail ||| m, lock := mapIdx r.lock (fun k l => l && !bitOf (k + 1) m) }

/-- The clock monitor fires source 7; outside a running main die it is only counted (R437). Every clock but PLL_A, which serves the
application cores alone, is the fabric's, the real-time core's or the CAN controllers' (spec/10_seam_pair.md Table 10.6). -/
def State.clockFails (m : Nat) (s : State) : State :=
  if m = 0 then s
  else
    let s := if s.up then { s with rst := s.rst.clocksFail m } else s
    s.pendReset 7 (if m = 2 then 0 else 5)

/-- CLOCK_FAILURE (R437, R443): bit 0 the reference, bits 1 to 3 PLL_A to PLL_C. -/
def execClockFailure (mask : Fin 16) (s : State) : Host.Outcome State Fault Refusal := .next (s.clockFails mask)

/-- LOCK_UP (R430, R433). -/
def execLockUp (s : State) : Host.Outcome State Fault Refusal := .next (s.pendReset 8 1)

/-- Gaiter is in the standby role with its gates disabled. -/
def State.gatesParted (s : State) : Bool := s.gtr.standby && s.gtr.gates.toList.all (fun g => !g.en)

/-- The pending system reset is due (R433): Gaiter is in HOLD or CLEARING, or has handed over, or 700 ms have passed. -/
def State.pendDue (p : PendReset) (s : State) : Bool := s.gaiterSafe || s.gatesParted || State.passed p.at_ 700000 s

/-- The pending system reset follows where it is due. -/
def State.deferred (s : State) : State :=
  match s.rst.pend with
  | none => s
  | some p => if s.pendDue p then s.sysResetNow { level := 1, src := p.src, defer := s.rst.coresOut } else s

/-- DEFERRED_SYSTEM_RESET (R433). -/
def execDeferredSystemReset (s : State) : Host.Outcome State Fault Refusal := .next (s.onlyIf s.up State.deferred)

/-! ### Release (R437, R438) -/

/-- An IPv4 link-local address of RFC 3927, in network byte order, from a free value. -/
def linkLocal (x : Nat) : Nat := 169 + 254 * 2 ^ 8 + (1 + x % 254) * 2 ^ 16 + (x / 254 % 256) * 2 ^ 24

/-- Both network ports take their fallback settings (spec/18_host_and_discovery.md R476). -/
def State.fallbackNet (s : State) : State :=
  let a := s.free
  let b := a.2.free
  { b.2 with hst := { b.2.hst with ip := #v[linkLocal a.1, linkLocal b.1] } }

/-- An enclosure-tamper event that waited for the start is raised (R452). -/
def State.tamperLate (s : State) : State :=
  (List.range s.gld.pendTamp).foldl (fun (s : State) _ => s.raise .enclosureTamper) { s with gld := { s.gld with pendTamp := 0 } }

/-- The system release of a power-on or system reset: Cloak regenerates the root secret, the device-restarted event. -/
def State.releaseMain (h : Hold) (tries : List RootTry) (s : State) : State :=
  let a : State := { s with rst := s.rst.released h, tb := 30 }
  ((a.clkDo (rootRegenerate s.fuses.devId tries)).fallbackNet.raise .deviceRestarted).tamperLate

/-- The cores are released from a core reset (R438). -/
def State.releaseCores (h : Hold) (s : State) : State := { s with rst := { s.rst.cause h with hold := none } }

/-- The time that a reset and its release sequence take at least, in µs: step 12 stands 30.72 µs after step 0; a power-on reset is
released 1 ms after its conditions hold; a core reset takes 2 × 64 cycles of the reference (R430, R437, R438). -/
def Hold.least (h : Hold) : Nat :=
  match h.level with
  | 0 => 1030
  | 1 => 30
  | _ => 5

/-- The release sequence of the reset in progress; it needs its time, the reference and, after a power-on reset, GLD_PWREN and the fuse
map (R441). Firmware that does not verify is not started (spec/14_cloak_keys.md R398; log 118). The command stands for the instant of step 12; that supplies, RST_N and PLLs allow it is what the command says. -/
def State.releaseNow (tries : List RootTry) (s : State) : State :=
  match s.rst.hold with
  | none => s
  | some h =>
    if s.mono < h.at_ + h.least then s
    else if h.level = 2 then (if s.rst.refOk then s.releaseCores h else s)
    else if (h.level = 0 ∧ !(s.gld.pwren && s.fuses.mapOk)) ∨ s.fuses.fwOk = false then s
    else s.releaseMain h tries

/-- RELEASE_SEQUENCE (R388 to R390, R435 to R438): what the attempts at the root secret give. -/
def execReleaseSequence (tries : List RootTry) (s : State) : Host.Outcome State Fault Refusal := .next (s.releaseNow tries)

/-! ### PLLs (R443) -/

/-- PLL `k` has lost every request: PLL_A in cold standby outside a relay window. -/
def State.pllIdle (k : Nat) (s : State) : Bool := s.up && k == 0 && s.standby && !s.cores && s.seam.relayWin.isNone

/-- Set the lock of PLL `k`. -/
def State.pllSet (k : Nat) (on : Bool) (s : State) : State := { s with rst := { s.rst with lock := updN s.rst.lock k (fun _ => on) } }

/-- PLL_STOP (R443). -/
def execPllStop (k : Fin 3) (s : State) : Host.Outcome State Fault Refusal := .next (s.onlyIf (s.pllIdle k) (State.pllSet k false))

/-- PLL_REQUEST (R443): the PLL has relocked. -/
def execPllRequest (k : Fin 3) (s : State) : Host.Outcome State Fault Refusal :=
  .next (s.onlyIf (s.up && s.rst.refOk) (State.pllSet k true))

/-! ### Glade (R436, R444, R450 to R452) -/

/-- Change Glade. -/
def State.gldMod (f : Glade → Glade) (s : State) : State := { s with gld := f s.gld }

/-- GLADE_XTAL_LOSS (R444). -/
def execGladeXtalLoss (s : State) : Host.Outcome State Fault Refusal := .next (s.gldMod (fun g => { g with rc32 := true }))

/-- GLADE_XTAL_RETURN (R444). -/
def execGladeXtalReturn (s : State) : Host.Outcome State Fault Refusal := .next (s.gldMod (fun g => { g with rc32 := false }))

/-- GLADE_SLEEP (R450): a host write of 1 to GLD_CTRL.SLEEP. -/
def execGladeSleep (s : State) : Host.Outcome State Fault Refusal := .next (s.hostWrite 0x3000 1)

/-- Glade wakes the main die. -/
def Glade.wakeBy (src : Nat) (g : Glade) : Glade := { g with pwren := true, wake := src }

/-- GLADE_WAKE (R451): source 1 WAKE_N, 2 alarm, 3 tamper. -/
def execGladeWake (src : Nat) (s : State) : Host.Outcome State Fault Refusal :=
  .next (s.onlyIf (!s.gld.pwren && wakeOk s.mono src s.gld) (State.gldMod (Glade.wakeBy src)))

/-- GLD_CLR_CNT (R436): a host write of 1 to GLD_CTRL.CLR_CNT. -/
def execGldClrCnt (s : State) : Host.Outcome State Fault Refusal := .next (s.hostWrite 0x3000 2)

/-- Openings are reported now, or at the next start where the main die is off (R452). -/
def State.tamperReport (m : Nat) (s : State) : State :=
  if s.up then (bitsOf 2 m).foldl (fun (s : State) n => s.raiseAt .enclosureTamper n) s
  else s.gldMod (fun g => { g with pendTamp := g.pendTamp + (bitsOf 2 m).length })

/-- The pads are sampled. -/
def State.tamperStep (o0 o1 : Bool) (s : State) : State :=
  let r := tamperSample s.mono o0 o1 s.gld
  State.tamperReport r.2 { s with gld := r.1 }

/-- ENCLOSURE_TAMPER_SAMPLE (R452): true where the pad reads open. -/
def execEnclosureTamperSample (o0 o1 : Bool) (s : State) : Host.Outcome State Fault Refusal := .next (s.tamperStep o0 o1)

/-- VGLADE_POWER_ON (R436): Glade starts with its counters at 0. -/
def execVgladePowerOn (s : State) : Host.Outcome State Fault Refusal :=
  .next { s with gld := { startAt := s.mono, resets := Vector.replicate 8 0 } }

/-! ### Temperature (R453 to R455) -/

/-- Entry to SHUTDOWN (R454): an active with a fit peer releases control; any other unit makes a soft request of kind 6. -/
def State.shutdownEntry (s : State) : State :=
  if s.seam.role == .active && s.seam.fit then s.release 6
  else if s.cores then s.gtrDo (fun c => (softWrite c).1) else s

/-- The sensors are read. -/
def State.temperature (ts : Vector Int 8) (s : State) : State :=
  let r := tempRead s.mono ts s.rst
  let a : State := { s with rst := r.r }
  let a := if r.event then a.raise .dieTemperature else a
  if r.shut then a.shutdownEntry else a

/-- TEMPERATURE_READ (R453 to R455): readings in 0.1 °C, sensors 6 and 7 Gaiter's. -/
def execTemperatureRead (ts : Vector Int 8) (s : State) : Host.Outcome State Fault Refusal :=
  .next (s.onlyIf s.up (State.temperature ts))

end Sys2Proof.Machine
end

