-- ==== Sys2Proof/Machine/SeamCmds.lean ====
section
/-! DEFINITION. The commands of Seam, the pair link (spec/10_seam_pair.md). -/

namespace Sys2Proof.Machine

/-- The unit belongs to a pair and its Seam runs. -/
def State.paired (s : State) : Bool := s.up && s.seam.pair.isSome

/-! ### Lanes and peer (R283, R285, R287) -/

/-- ROLE_CHOICE_TIMEOUT (R283). -/
def execRoleChoiceTimeout (s : State) : Host.Outcome State Fault Refusal := .next (s.onlyIf s.paired State.chooseAlone)

/-- A lane is down. -/
def SeamLane.drop (l : SeamLane) : SeamLane := { l with up := false }

/-- LANE_DOWN (R285). -/
def execLaneDown (k : Fin 2) (s : State) : Host.Outcome State Fault Refusal :=
  .next (s.onlyIf s.paired (fun s => (s.seamMod (fun m => { m with lane := upd m.lane k SeamLane.drop })).judgeFit))

/-- A lane that tag failures took down 100 ms ago trains again (R287). -/
def SeamLane.retrain (now : Nat) (l : SeamLane) : SeamLane :=
  match l.downAt with
  | some t => if t + 100000 ≤ now then { up := true } else l
  | none => l

/-- LANE_RETRAIN (R287). -/
def execLaneRetrain (s : State) : Host.Outcome State Fault Refusal :=
  .next (s.onlyIf s.paired (fun s => (s.seamMod (fun m => { m with lane := m.lane.map (SeamLane.retrain s.mono) })).judgeFit))

/-- A lane has trained; one that is held down after tag failures stays down (R287). -/
def SeamLane.train (l : SeamLane) : SeamLane := if l.downAt.isSome then l else { up := true }

/-- A standby that could not ask for its resync before asks for it now (R304). -/
def State.laneUp (k : Fin 2) (s : State) : State :=
  let a := (s.seamMod (fun m => { m with lane := upd m.lane k SeamLane.train })).judgeFit
  if a.standby && a.seam.resync && !a.seam.asked then a.askResync else a

/-- SEAM_LANE_TRAINED (R283, R304): the lanes do not train in Cloak's FAULT (spec/14_cloak_keys.md Table 14.1). -/
def execSeamLaneTrained (k : Fin 2) (s : State) : Host.Outcome State Fault Refusal :=
  .next (s.onlyIf (s.paired && !s.clk.noKeys) (State.laneUp k))

/-- No valid frame has arrived for 30 ms (R285). -/
def State.peerLate (s : State) : Bool := s.paired && !s.seam.peerLost && State.passed s.seam.lastAt 30000 s

/-- The peer is lost (R285); an access being relayed ends (R306). -/
def State.losePeer (s : State) : State :=
  (((s.seamMod (fun m => { m with peerLost := true })).raise .peerLost).judgeFit).relayBreak

/-- PEER_LOST (R285). -/
def execPeerLost (s : State) : Host.Outcome State Fault Refusal := .next (s.onlyIf s.peerLate State.losePeer)

/-- STATUS_SEND (R286, R291). -/
def execStatusSend (s : State) : Host.Outcome State Fault Refusal :=
  .next (s.onlyIf s.paired (fun s => s.judgeFit.seamPut false s.judgeFit.statusFrame))

/-! ### Received frames (R287) -/

/-- A JOURNAL frame is accepted (R290): a complete entry is stored and acknowledged; after a gap the missing entries are asked
for. -/
def State.journalIn (f : SeamFrame) (s : State) : State :=
  let r := s.seamTake f
  match r.2, f.entry with
  | true, some e =>
    let x := segTake f r.1.seam.asm
    let a := r.1.seamMod (fun m => { m with asm := x.1 })
    if x.2 then a.storeEntry f.lseq e else a
  | _, _ => r.1

/-- JOURNAL (R287, R289, R290). -/
def execJournal (f : SeamFrame) (s : State) : Host.Outcome State Fault Refusal := .next (s.onSeam 1 f (State.journalIn f))

/-- An ACK is accepted (R291, R304). -/
def State.ackIn (f : SeamFrame) (s : State) : State :=
  let q := leAt f.pay 0 4
  ((s.seamAccept f).seamMod (fun m => { m with
    jAck := some q, unacked := m.unacked.filter (fun n => decide (q < n)),
    resyncAt := if m.resync then some (m.resyncAt.getD s.mono) else m.resyncAt })).judgeFit

/-- ACK (R287, R291). -/
def execAck (f : SeamFrame) (s : State) : Host.Outcome State Fault Refusal := .next (s.onSeam 2 f (State.ackIn f))

/-- A STATUS is accepted (R283, R291). -/
def State.statusIn (f : SeamFrame) (s : State) : State :=
  let x := f.status
  ((((s.seamTake f).1).seamMod (fun m => { m with peer := some x, lastStatusAt := some s.mono })).chooseRole x.prefActive).judgeFit

/-- STATUS (R283, R287, R291). -/
def execStatus (f : SeamFrame) (s : State) : Host.Outcome State Fault Refusal := .next (s.onSeam 3 f (State.statusIn f))

/-- A RELEASE is accepted (R297); a standby that is not fit never takes over (R212). -/
def State.releaseIn (f : SeamFrame) (s : State) : State :=
  let a := (s.seamTake f).1
  if a.gtr.unfit then a else a.takeover (leAt f.pay 0 1)

/-- RELEASE (R287, R297). -/
def execRelease (f : SeamFrame) (s : State) : Host.Outcome State Fault Refusal := .next (s.onSeam 4 f (State.releaseIn f))

/-- HANDOVER (R282, R287, R296). -/
def execHandover (f : SeamFrame) (s : State) : Host.Outcome State Fault Refusal :=
  .next (s.onSeam 5 f (fun s => (s.seamAccept f).handedOver))

/-- A RESYNC_REQ is accepted; an access being relayed ends as a resync starts (R306). -/
def State.resyncIn (f : SeamFrame) (s : State) : State :=
  let a := (s.seamAccept f).resyncRequest (leAt f.pay 0 4)
  if a.seam.resync then a.relayBreak else a

/-- RESYNC_REQ (R287, R290, R304). -/
def execResyncReq (f : SeamFrame) (s : State) : Host.Outcome State Fault Refusal :=
  .next (s.onSeam 6 f (State.resyncIn f))

/-- A complete image replaces what the standby holds (R304). -/
def Seam.takeImage (lseq now : Nat) (e : JFull) (m : Seam) : Seam :=
  Seam.holdTwins now e.x { m.store lseq now e with mir := e.x, asm := none }

/-- A SNAPSHOT segment is accepted (R304). -/
def State.snapshotIn (f : SeamFrame) (s : State) : State :=
  let r := s.seamTake f
  match r.2, f.entry with
  | true, some e =>
    let x := segTake f r.1.seam.snapAsm
    let a := r.1.seamMod (fun m => { m with snapAsm := x.1 })
    if x.2 then a.seamMod (Seam.takeImage f.lseq s.mono e) else a
  | _, _ => r.1

/-- SNAPSHOT_FRAME (R287, R304). -/
def execSnapshotFrame (f : SeamFrame) (s : State) : Host.Outcome State Fault Refusal := .next (s.onSeam 7 f (State.snapshotIn f))

/-! ### The relay (R306) -/

/-- The words of a relayed write, in rising order, up to the first whose status is not OK: status and words done. An absent unit is found
first (spec/17_thicket_and_events.md R468). DESIGN CHOICE (log 15): a register outside the list of R306 ends with NOT_IN_STATE before it is
looked up, so also an address that no register has. -/
def State.relayWrites : Nat → List Nat → State → Status × Nat × State
  | _, [], s => (.ok, 0, s)
  | a, w :: ws, s =>
    let r : Status × State := if relayWritable a w || absentAt a s.fuses.variant then s.writeServed a w else (.notInState, s)
    let s := r.2.judged r.1 a
    if r.1 = .ok then
      if s.up then
        let t := State.relayWrites (a + 4) ws s
        (t.1, t.2.1 + 1, t.2.2)
      else (.ok, 1, s)
    else (r.1, 0, s)

/-- The words of a byte list, four bytes each. -/
def wordsFrom (bs : List Byte) (n : Nat) : List Nat := (List.range n).map (fun k => leAt bs (4 * k) 4)

/-- The header of a RELAY frame is one that Table 10.3 allows. -/
def relayOk (f : SeamFrame) : Bool :=
  let n := leAt f.pay 12 4
  decide (1 ≤ n) && decide (n ≤ 252)
    && ((leAt f.pay 4 1 == 1 && f.pay.length == 16) || (leAt f.pay 4 1 == 2 && f.pay.length == 16 + 4 * n))

/-- The standby answers a relayed access with status, words done and the words read. -/
def State.relayReply (tag : Nat) (st : Status) (done : Nat) (ws : List Nat) (s : State) : State :=
  if s.up then
    (s.seamSend 9 (leBytes 4 tag ++ leBytes 4 st.code ++ leBytes 4 done ++ leBytes 4 0 ++ (ws.map (leBytes 4)).flatten)).seamMod
      (fun m => { m with relayWin := some (s.mono + 1000000) })
  else s

/-- A RELAY frame is accepted: the standby serves it, with its service window open (R306, spec/14_cloak_keys.md R392). -/
def State.relayIn (f : SeamFrame) (s : State) : State :=
  let s := ((s.seamTake f).1).seamMod (fun m => { m with relayWin := some (s.mono + 1000000) })
  let tag := leAt f.pay 0 4
  let a := leAt f.pay 8 4
  let n := leAt f.pay 12 4
  if !relayOk f then s.relayReply tag .badLength 0 []
  else if leAt f.pay 4 1 = 1 then
    let r := State.readRun n a s
    r.2.2.relayReply tag r.1 r.2.1.length r.2.1
  else
    let r := State.relayWrites a (wordsFrom (f.pay.drop 16) n) s
    r.2.2.relayReply tag r.1 r.2.1 []

/-- RELAY (R287, R306). -/
def execRelay (f : SeamFrame) (s : State) : Host.Outcome State Fault Refusal := .next (s.onSeam 8 f (State.relayIn f))

/-- What the active keeps of an answer: the words read, or one entry for each word written. -/
def RelayPend.advance (done : Nat) (ws : List Nat) (r : RelayPend) : RelayPend :=
  { r with
    addr := r.addr + 4 * done, left := r.left - done, words := r.words.drop done
    got := r.got ++ (if r.write then List.replicate done 0 else ws.take done) }

/-- The answer to the access under way: the next frame goes out, or the host is answered. -/
def State.relayNext (st : Status) (r : RelayPend) (s : State) : State :=
  if st = .ok ∧ 0 < r.left then s.relayFrame r else s.relayAnswer r st r.got.length

/-- A status code as a RELAY_RSP carries it (Table 17.5). -/
def statusOfCode (n : Nat) : Status :=
  match n with
  | 0 => .ok | 1 => .notPresent | 2 => .notInState | 3 => .badValue | 4 => .badLength | 5 => .unmapped | 6 => .dataError
  | 8 => .denied | _ => .busy

/-- A RELAY_RSP is accepted. -/
def State.relayRspIn (f : SeamFrame) (s : State) : State :=
  let s := s.seamAccept f
  match s.seam.relay with
  | none => s
  | some r =>
    if leAt f.pay 0 4 ≠ r.tag then s
    else
      let done := leAt f.pay 8 4
      s.relayNext (statusOfCode (leAt f.pay 4 4)) (r.advance done (wordsFrom (f.pay.drop 16) done))

/-- RELAY_RSP (R287, R306). -/
def execRelayRsp (f : SeamFrame) (s : State) : Host.Outcome State Fault Refusal := .next (s.onSeam 9 f (State.relayRspIn f))

/-- The standby has not answered for 100 ms (R306). -/
def State.relayLate (s : State) : State :=
  match s.seam.relay with
  | none => s
  | some r => if State.passed r.at_ 100000 s then s.relayAnswer r .busy r.got.length else s

/-- RELAY_TIMEOUT (R306). -/
def execRelayTimeout (s : State) : Host.Outcome State Fault Refusal := .next (s.onlyIf s.paired State.relayLate)

/-- 1 s has passed since the last relayed access. -/
def State.windowOver (s : State) : Bool :=
  s.paired && (match s.seam.relayWin with
    | some t => decide (t ≤ s.mono)
    | none => false)

/-- RELAY_WINDOW_END (R306). -/
def execRelayWindowEnd (s : State) : Host.Outcome State Fault Refusal :=
  .next (s.onlyIf s.windowOver (State.seamMod (fun m => { m with relayWin := none })))

/-! ### Roles (R282–R284, R295–R298, R305) -/

/-- OWN_N has been high for 10 µs: a standby that has seen it low takes over; a unit that drives it low does not see this. -/
def State.ownHigh (s : State) : State :=
  if s.seam.drive then s
  else
    let a := s.seamMod (fun m => { m with other := false })
    if a.standby && a.seam.seenLow && !a.gtr.unfit then a.takeover a.seam.reason else a

/-- OWN_N_HIGH (R282, R297). -/
def execOwnNHigh (s : State) : Host.Outcome State Fault Refusal := .next (s.onlyIf s.paired State.ownHigh)

/-- OWN_N has been low for 10 µs, driven by the other unit. -/
def State.ownLow (s : State) : State :=
  if s.seam.drive then s
  else
    let a := s.seamMod (fun m => { m with other := true, lowAt := if m.other then m.lowAt else s.mono })
    match a.seam.role with
    | .standby => a.seamMod (fun m => { m with seenLow := true })
    | .start => a.becomeStandby
    | .released => a.handedOver
    | _ => a

/-- OWN_N_LOW (R282, R296). -/
def execOwnNLow (s : State) : Host.Outcome State Fault Refusal := .next (s.onlyIf s.paired State.ownLow)

/-- The active releases control where it finds a cause and its peer is fit (R295). -/
def State.causeHolds (reason : Nat) (s : State) : Bool :=
  s.paired && s.seam.role == .active && s.seam.fit && s.releaseCause reason

/-- RELEASE_CAUSE (R295, R296). -/
def execReleaseCause (reason : Nat) (s : State) : Host.Outcome State Fault Refusal :=
  .next (s.onlyIf (s.causeHolds reason) (State.release reason))

/-- 100 µs have passed since RELEASE was sent (R296). -/
def State.ownDue (s : State) : Bool :=
  s.paired && (match s.seam.relAt with
    | some t => State.passed t 100 s
    | none => false)

/-- OWN_N_RELEASE (R296). -/
def execOwnNRelease (s : State) : Host.Outcome State Fault Refusal :=
  .next (s.onlyIf s.ownDue (State.seamMod (fun m => { m with drive := false, relAt := none })))

/-- The first tick of the new active (R297): the tick, unless it has begun, and the release of its frames; then the takeover is
complete. A result that is still being solved is awaited, and so is the handover of the ports (R299). -/
def State.firstTick (s : State) : State :=
  let a := if s.cnp.ticks = 0 then s.tick else s
  if a.cnp.ready.isSome && a.portsHanded then a.releaseFrames.takeoverDone else a

/-- TAKEOVER_FIRST_TICK (R288, R297, R298). -/
def execTakeoverFirstTick (s : State) : Host.Outcome State Fault Refusal :=
  .next (s.onlyIf (s.canopyOn && s.seam.role == .taking) State.firstTick)

/-- SWAP (R305): SEAM_CTRL.SWAP. -/
def execSwap (s : State) : Host.Outcome State Fault Refusal := .next (s.hostWrite 0x6000 1)

/-- The scheduled swap interval has expired and a swap is accepted (R305). -/
def State.swapDue (s : State) : Bool :=
  s.paired && (match s.seam.pair with
    | some r => r.swapEn && State.passed s.seam.swapAt (r.swapH * 3600000000) s
    | none => false) && s.swapOk

/-- SCHEDULED_SWAP (R305). -/
def execScheduledSwap (s : State) : Host.Outcome State Fault Refusal := .next (s.onlyIf s.swapDue (fun s => s.swapWrite.2))

/-! ### Echo (R292–R294) -/

/-- The echo of a group frame becomes eligible (R292). -/
def State.echoDue (b : Fin 4) (g : Nat) (s : State) : State :=
  match (s.echoOf b g).wait with
  | none => s
  | some (d, t) =>
    if t ≤ s.mono then (s.echoMod b g (fun k => { k with wait := none })).queueGroup b g d (leAt (controlOf d) 2 2) else s

/-- ECHO_ELIGIBLE (R292). -/
def execEchoEligible (b g : Fin 4) (s : State) : Host.Outcome State Fault Refusal :=
  .next (s.onlyIf (s.paired && s.standby && !s.gtr.unfit) (State.echoDue b g))

/-- No echo has come within 1,000 µs (R293). -/
def State.echoLate (b : Fin 4) (g : Nat) (s : State) : State :=
  match (s.echoOf b g).expect with
  | none => s
  | some (_, t) => if State.passed t 1000 s then (s.echoMod b g (fun k => { k with expect := none })).echoFail b true else s

/-- ECHO_CHECK_TIMEOUT (R293). -/
def execEchoCheckTimeout (b g : Fin 4) (s : State) : Host.Outcome State Fault Refusal :=
  .next (s.onlyIf (s.paired && s.seam.role == .active) (State.echoLate b g))

/-- HOLD_FRAME_SEND (R294). -/
def execHoldFrameSend (s : State) : Host.Outcome State Fault Refusal :=
  .next (s.onlyIf (s.paired && s.seam.role == .taking) (fun s => s.busSet.foldl (fun (s : State) b => s.sendHolds b) s))

/-- The standby has acknowledged entries for 1 s without a gap (R304). -/
def State.resyncDue (s : State) : Bool :=
  s.paired && s.seam.role == .active && s.seam.resync && (match s.seam.resyncAt with
    | some t => State.passed t 1000000 s
    | none => false)

/-- Resync is complete: a new GEN (R288, R304). -/
def Seam.resynced (m : Seam) : Seam := { m.setGen (m.gen + 1) with synced := true, resync := false, resyncAt := none }

/-- RESYNC_COMPLETE (R288, R304). -/
def execResyncComplete (s : State) : Host.Outcome State Fault Refusal :=
  .next (s.onlyIf s.resyncDue (fun s => (s.seamMod Seam.resynced).judgeFit))

end Sys2Proof.Machine
end

