-- ==== Sys2Proof/Machine/SleeveCmds.lean ====
section
/-! DEFINITION. The commands of the Sleeve, of its link and of the billing (spec/08_sleeve_metrology.md,
spec/09_billing_and_tamper.md). The Sleeve has its own supply and is not reset with the main die. -/

namespace Sys2Proof.Machine

/-! ### The main die's side of the link -/

/-- The main die of a device with a Sleeve takes frames of the forward link. -/
def State.linkUp (s : State) : Bool := s.up && s.hasSleeve

/-- A sample frame is received (R228–R230); a new intake measurement reaches Canopy (R229). -/
def State.sampleIn (k : Fin 2) (bs : List Byte) (s : State) : State :=
  let r := linkSample k bs s.mono s.slvLink
  let a : State := { s with slvLink := r.2 }
  match r.1.pmeas with
  | some w => if a.canopyOn && !(a.cfg.cnpIntake.getD {}).srcHost then a.measure ((w : Rat) / 1000) else a
  | none => a

/-- SAMPLE_FRAME_RECEIVE (R228–R230). -/
def execSampleFrameReceive (k : Fin 2) (bs : List Byte) (s : State) : Host.Outcome State Fault Refusal :=
  .next (s.onlyIf s.linkUp (State.sampleIn k bs))

/-- 10 ms have passed without a valid sample of the port (R228). -/
def State.sampleLate (p : Fin 12) (s : State) : Bool :=
  s.linkUp && (match (s.slvLink.port[p]).lastOk with
    | some t => State.passed t 10000 s
    | none => true)

/-- PORT_MEASUREMENT_INVALID (R228). -/
def execPortMeasurementInvalid (p : Fin 12) (s : State) : Host.Outcome State Fault Refusal :=
  .next (s.onlyIf (s.sampleLate p) (fun s =>
    { s with slvLink := { s.slvLink with port := upd s.slvLink.port p (fun q => { q with invalid := true }) } }))

/-- A record frame is received (R228, R272): the first complete copy of a record raises the record-ready event. -/
def State.recordIn (bs : List Byte) (s : State) : State :=
  let r := linkRecord bs s.slvLink
  let a : State := { s with slvLink := r.1 }
  if r.2 then a.raise .recordReady else a

/-- RECORD_FRAME_RECEIVE (R255, R272). -/
def execRecordFrameReceive (bs : List Byte) (s : State) : Host.Outcome State Fault Refusal := .next (s.onlyIf s.linkUp (State.recordIn bs))

/-! ### The Sleeve -/

/-- A function of the Sleeve is done where the Sleeve has power. -/
def State.onSleeve (f : SX → SX) (s : State) : State := s.onlyIf s.slvOn (State.slvDo f)

/-- The same for a function that raises nothing. -/
def State.onSlv (f : Sleeve → Sleeve) (s : State) : State := s.onlyIf s.slvOn (State.slvMod f)

/-- The Sleeve sends its frames (R227); the entries of samples that are not valid hold free values. -/
def State.sendSample (s : State) : State :=
  let r := sampleSend (fun i => Config.freeValue (s.fresh + i)) s.slv
  { s with slv := r.2, fresh := s.fresh + 24, out := s.out ++ r.1.map Out.slvFrame }

/-- SLEEVE_SAMPLE_SEND (R227). -/
def execSleeveSampleSend (s : State) : Host.Outcome State Fault Refusal := .next (s.onlyIf s.slvOn State.sendSample)

/-- HEAD_SAMPLE_FRAME (R231, R233–R236). -/
def execHeadSampleFrame (p : Fin 12) (bs : List Byte) (s : State) : Host.Outcome State Fault Refusal :=
  .next (s.onlyIf (s.hasPort p) (State.onSleeve (headSample p bs)))

/-- HEAD_AUTH_FRAME (R231–R234, R239, R275). -/
def execHeadAuthFrame (p : Fin 12) (bs : List Byte) (s : State) : Host.Outcome State Fault Refusal :=
  .next (s.onlyIf (s.hasPort p) (State.onSleeve (headAuth p bs)))

/-- HEAD_ERROR_TIMEOUT (R234). -/
def execHeadErrorTimeout (p : Fin 12) (s : State) : Host.Outcome State Fault Refusal :=
  .next (s.onlyIf (s.hasPort p) (State.onSleeve (headTimeout p)))

/-- A head is paired: the Sleeve generates a 256-bit link key, whose value nothing states, and sends it to the head (R232). -/
def State.pairHead (p : Nat) (d : HeadData) (s : State) : State :=
  let r := s.free
  let key := r.1 % 2 ^ 256
  (r.2.slvDo (headPair p d key)).emit (.headKey p key)

/-- HEAD_PAIRING (R232). -/
def execHeadPairing (p : Fin 12) (d : HeadData) (s : State) : Host.Outcome State Fault Refusal :=
  .next (s.onlyIf (s.hasPort p && s.slvOn && s.slv.st == .service) (State.pairHead p d))

/-- SLEEVE_COMMIT (R224). -/
def execSleeveCommit (s : State) : Host.Outcome State Fault Refusal := .next (s.onSlv slvCommit)

/-- SLEEVE_POWER_FAIL (R224, R264). -/
def execSleevePowerFail (complete vbks : Bool) (s : State) : Host.Outcome State Fault Refusal := .next (s.onSleeve (slvPowerFail complete vbks))

/-- VSLV powers on; the duration of an interruption that no clock measured is a free value (R225, R245). -/
def State.powerSleeve (elapsed refresh : Nat) (vbks : Bool) (s : State) : State :=
  let r := s.free
  r.2.slvDo (slvPowerOn elapsed refresh r.1 vbks)

/-- SLEEVE_POWER_ON (R222, R224, R225, R245, R252, R265). -/
def execSleevePowerOn (elapsed refresh : Nat) (vbks : Bool) (s : State) : Host.Outcome State Fault Refusal :=
  .next (s.onlyIf (s.hasSleeve && !s.slv.powered) (State.powerSleeve elapsed refresh vbks))

/-- SLEEVE_WATCHDOG (R221, R253). -/
def execSleeveWatchdog (s : State) : Host.Outcome State Fault Refusal := .next (s.onSleeve slvWatchdog)

/-- SLEEVE_SAMPLE_END (R225, R239, R264). -/
def execSleeveSampleEnd (s : State) : Host.Outcome State Fault Refusal := .next (s.onSleeve sampleEnd)

/-- LINE_CYCLE_END (R240–R242, R261, R278): the samples since the last row of the intake. -/
def execLineCycleEnd (xs : List AcCodes) (s : State) : Host.Outcome State Fault Refusal := .next (s.onSlv (lineCycle xs))

/-- INTAKE_LATCH (R243). -/
def execIntakeLatch (s : State) : Host.Outcome State Fault Refusal := .next (s.onSlv intakeLatch)

/-- FREERUN_ENTER (R241). -/
def execFreerunEnter (s : State) : Host.Outcome State Fault Refusal := .next (s.onSlv freerunEnter)

/-- HALF_CYCLE_REFRESH (R240, R241, R244, R245): the samples since the last row of the intake. -/
def execHalfCycleRefresh (xs : List AcCodes) (s : State) : Host.Outcome State Fault Refusal := .next (s.onSleeve (halfCycle xs))

/-- KEEPALIVE (R246–R248, R251). -/
def execKeepalive (f : CmdFrame) (s : State) : Host.Outcome State Fault Refusal := .next (s.onSlv (slvCommand 0x01 f))

/-- SET_TIME (R248, R266–R269). -/
def execSetTime (f : CmdFrame) (s : State) : Host.Outcome State Fault Refusal := .next (s.onSlv (slvCommand 0x10 f))

/-- TARIFF_SEG (R248, R258, R259). -/
def execTariffSeg (f : CmdFrame) (s : State) : Host.Outcome State Fault Refusal := .next (s.onSlv (slvCommand 0x20 f))

/-- SESSION_START (R248, R249, R274, R277). -/
def execSessionStart (f : CmdFrame) (s : State) : Host.Outcome State Fault Refusal := .next (s.onSlv (slvCommand 0x30 f))

/-- SESSION_STOP (R248, R249, R270, R277). -/
def execSessionStop (f : CmdFrame) (s : State) : Host.Outcome State Fault Refusal := .next (s.onSlv (slvCommand 0x31 f))

/-- UNKNOWN_COMMAND (R250): a code outside Table 8.7. -/
def execUnknownCommand (code : Nat) (f : CmdFrame) (s : State) : Host.Outcome State Fault Refusal :=
  .next (s.onlyIf (cmdLen code).isNone (State.onSlv (slvCommand code f)))

/-- LINK_LOSS_CLOSE (R251, R270). -/
def execLinkLossClose (s : State) : Host.Outcome State Fault Refusal := .next (s.onSlv linkLoss)

/-- METROLOGY_SELF_TEST (R252): deviations in ppm. -/
def execMetrologySelfTest (refPpm xtalPpm : Int) (copyA copyB : Bool) (s : State) : Host.Outcome State Fault Refusal :=
  .next (s.onSleeve (slvSelfTest refPpm xtalPpm copyA copyB))

/-- SERVICE_SESSION_OPEN (R252). -/
def execServiceSessionOpen (auth : Bool) (s : State) : Host.Outcome State Fault Refusal := .next (s.onSleeve (svcOpen auth))

/-- SERVICE_SESSION_CLOSE (R247, R252, R266, R280). -/
def execServiceSessionClose (work : SvcWork) (s : State) : Host.Outcome State Fault Refusal := .next (s.onSleeve (svcClose work))

/-- FIRMWARE_LOAD (R222). -/
def execFirmwareLoad (version : Nat) (img sig : List Byte) (s : State) : Host.Outcome State Fault Refusal :=
  .next (s.onSlv (fwLoad version img sig))

/-- LEGAL_PARAM_LOAD (R254). -/
def execLegalParamLoad (l : LegalParams) (sig : List Byte) (s : State) : Host.Outcome State Fault Refusal :=
  .next (s.onSleeve (legalLoad l sig))

/-- RECORD_RESEND (R272). -/
def execRecordResend (seq : Nat) (s : State) : Host.Outcome State Fault Refusal := .next (s.onSlv (recResend seq))

/-- CREDIT_GATE_OPEN (R275). -/
def execCreditGateOpen (p : Fin 12) (s : State) : Host.Outcome State Fault Refusal :=
  .next (s.onlyIf (s.hasPort p) (State.onSlv (creditGate p)))

/-- GATE_FEEDBACK_CHECK (R276). -/
def execGateFeedbackCheck (p : Fin 12) (fb : Bool) (s : State) : Host.Outcome State Fault Refusal :=
  .next (s.onlyIf (s.hasPort p) (State.onSleeve (gateFeedback p fb)))

/-- TAMPER_CONDITION_BEGIN (R278–R280). -/
def execTamperConditionBegin (k : Fin 5) (s : State) : Host.Outcome State Fault Refusal := .next (s.onlyIf s.hasSleeve (State.slvDo (tampBegin k)))

/-- TAMPER_CONDITION_END (R278–R280). -/
def execTamperConditionEnd (k : Fin 5) (s : State) : Host.Outcome State Fault Refusal := .next (s.onlyIf s.hasSleeve (State.slvMod (tampEnd k)))

/-- COVER_SWITCH_SAMPLE (R279): the switches are sampled from VBKS too. -/
def execCoverSwitchSample (meter term : Bool) (s : State) : Host.Outcome State Fault Refusal :=
  .next (s.onlyIf s.hasSleeve (State.slvMod (coverSample meter term)))

/-- VBKS_LOSS (R225). -/
def execVbksLoss (s : State) : Host.Outcome State Fault Refusal :=
  .next (s.onlyIf (s.hasSleeve && !s.slv.powered) (State.slvMod slvVbksLoss))

end Sys2Proof.Machine
end

