-- ==== Sys2Proof/Machine/ThicketCmds.lean ====
section
/-! DEFINITION. The commands of Thicket: credits, tags, stalls, detected errors, the software event
(spec/17_thicket_and_events.md). -/

namespace Sys2Proof.Machine

/-- Change Thicket. -/
def State.thkMod (f : Thicket → Thicket) (s : State) : State := { s with thk := f s.thk }

/-- CREDIT_RETURN (R458). -/
def execCreditReturn (q : Nat) (s : State) : Host.Outcome State Fault Refusal := .next (s.onlyIf s.up (State.thkMod (Thicket.credit q)))

/-- A transaction that has waited 10 ms completes with BUSY, and its host is answered (R461). -/
def State.tagTimeout (tag : Nat) (s : State) : State :=
  match s.thk.overdue tag s.mono with
  | none => s
  | some x => (s.thkMod (Thicket.timeout x)).reply x.spi .busy (x.words ++ List.replicate x.pad 0)

/-- TRANSACTION_TIMEOUT (R461). -/
def execTransactionTimeout (tag : Fin 128) (s : State) : Host.Outcome State Fault Refusal :=
  .next (s.onlyIf s.up (State.tagTimeout tag))

/-- A producer of class `c` has waited for queue `q` past its limit; one event for an episode. -/
def State.stall (c : TrafficClass) (q : Nat) (s : State) : State :=
  let r := s.thk.stalledAt c q
  let a : State := { s with thk := r.1 }
  if r.2 then a.raiseAt .fabricStall q else a

/-- FABRIC_STALL (R462). -/
def execFabricStall (c : TrafficClass) (q : Nat) (s : State) : Host.Outcome State Fault Refusal :=
  .next (s.onlyIf s.up (State.stall c q))

/-! ### Detected errors (R463 to R465) -/

/-- A detection is counted and raised. -/
def State.detect (g : ErrGuard) (row : Nat) (lost : Bool) (s : State) : State := (s.thkMod (Thicket.detect g row lost)).raise .dataError

/-- The record at a slot offset stands in the first-leaf block. -/
def State.inLeaf (off : Nat) (s : State) : Bool := s.img.leaf.any (fun r => r.1 == off)

/-- How many readings of a record may fail before it is given up (R426, R465): two of the shadow, and for the first-leaf block one
of the applied slot. -/
def State.rereads (off : Nat) (s : State) : Nat := if s.inLeaf off then 3 else 2

/-- A configuration item is read again (R426, R465): one that fails every reading leads from RUN to REFUSED with reason 7. -/
def State.reread (off fails : Nat) (s : State) : State :=
  if s.img.st = .run ∧ s.rereads off ≤ fails then
    s.imgRefusedNow (s.img.toRefused ⟨7, if s.inLeaf off then 0 else 1, off⟩)
  else s

/-- The tick's result is abandoned (row 1): the release sends the result before it (R57). -/
def Canopy.abandon (c : Canopy) : Canopy := { c with work := none, ready := none }

/-- A standby drops an entry of which neither copy passes (row 3). -/
def State.dropEntry (both : Bool) (s : State) : State :=
  if both then { s with seam := { s.seam with ring := s.seam.ring.tail } } else s

/-- A loop is preset at its next sample (row 5). -/
def State.loopAgain (n : Nat) (s : State) : State :=
  { s with cpc := { s.cpc with loops := updN s.cpc.loops n (fun l => { l with preset := true }) } }

/-- The stored value of a register fails its parity check from now on (R464). -/
def State.spoil (a : Nat) (s : State) : State :=
  let r := s.readAt a
  if r.1 = .ok then { s with thk := { s.thk with bad := (a, r.2.1) :: s.thk.bad } } else s

/-- What a consumer does with a bad item, row by row of Table 17.3. -/
def State.dataError (e : DataErr) (s : State) : State :=
  match e with
  | .canopy => let a := s.detect .sram 1 false
               { a with cnp := a.cnp.abandon }
  | .config off fails => ((List.range fails).foldl (fun (s : State) _ => s.detect .crc 2 false) (s.detect .sram 2 false)).reread off fails
  | .journal both => State.dropEntry both ((if both then s.detect .crc 3 false else s).detect .crc 3 false)
  | .mram r => let a := s.detect .crc 4 false
               match r with
               | some x => { a with clk := a.clk.spoil x.2 x.1
                                    img := if x.1 = .boot then a.img.spoilBoot x.2 else a.img }
               | none => a
  | .loop n => (s.detect .sram 5 false).loopAgain n
  | .twin p => let a := s.detect .sram 6 false
               a.twinPut p (twinAgain (a.twins[p]))
  | .frame crc => s.detect (if crc then .crc else .queue) 7 false
  | .access a => State.finish a (.dataError, s.detect .queue 8 false)
  | .lost g => s.detect g 0xF true
  | .register a => s.spoil a

/-- DATA_ERROR_DETECTED (R463 to R465). -/
def execDataErrorDetected (e : DataErr) (s : State) : Host.Outcome State Fault Refusal := .next (s.onlyIf s.up (State.dataError e))

/-- SOFTWARE_EVENT (R470): a host write of 1 to THK_EVCTRL.SET. -/
def execSoftwareEvent (s : State) : Host.Outcome State Fault Refusal := .next (s.hostWrite 0x4038 1)

end Sys2Proof.Machine
end

