-- ==== Sys2Proof/Machine/Dispatch.lean ====
section
/-! DEFINITION. The dispatch of a command to its meaning: one arm per constructor of Instr. -/

namespace Sys2Proof.Machine

def exec (i : Instr) (s : State) : Host.Outcome State Fault Refusal :=
  match i with
  | .registerWrite addr w => Sys2Proof.Machine.execRegisterWrite addr w s
  | .canopyTick => Sys2Proof.Machine.execCanopyTick s
  | .solveComplete us e => Sys2Proof.Machine.execSolveComplete us e s
  | .solveBudgetExpired x => Sys2Proof.Machine.execSolveBudgetExpired x s
  | .groupFrameRelease => Sys2Proof.Machine.execGroupFrameRelease s
  | .selectionTimeout pm => Sys2Proof.Machine.execSelectionTimeout pm s
  | .releaseHoldExpiry p => Sys2Proof.Machine.execReleaseHoldExpiry p s
  | .blockRelease pm => Sys2Proof.Machine.execBlockRelease pm s
  | .ceilingRefExpiry p => Sys2Proof.Machine.execCeilingRefExpiry p s
  | .freezeWrite on => Sys2Proof.Machine.execFreezeWrite on s
  | .clrMax => Sys2Proof.Machine.execClrMax s
  | .intakeMeasurement watts => Sys2Proof.Machine.execIntakeMeasurement watts s
  | .intakeStale => Sys2Proof.Machine.execIntakeStale s
  | .pmeasHostWrite w => Sys2Proof.Machine.execPmeasHostWrite w s
  | .bufSocWrite w => Sys2Proof.Machine.execBufSocWrite w s
  | .bufRefWrite w => Sys2Proof.Machine.execBufRefWrite w s
  | .bufferStale => Sys2Proof.Machine.execBufferStale s
  | .canFrameReceive b f => Sys2Proof.Machine.execCanFrameReceive b f s
  | .oneShotResult b slot r w => Sys2Proof.Machine.execOneShotResult b slot r w s
  | .busOff b => Sys2Proof.Machine.execBusOff b s
  | .busOffRecovery b => Sys2Proof.Machine.execBusOffRecovery b s
  | .portLimitFrameSend b => Sys2Proof.Machine.execPortLimitFrameSend b s
  | .statusFrame b => Sys2Proof.Machine.execStatusFrame b s
  | .moduleLostTimeout pm => Sys2Proof.Machine.execModuleLostTimeout pm s
  | .announce b => Sys2Proof.Machine.execAnnounce b s
  | .pilotStateAccept p x y z => Sys2Proof.Machine.execPilotStateAccept p x y z s
  | .proximityChange p mv => Sys2Proof.Machine.execProximityChange p mv s
  | .portStep p ts => Sys2Proof.Machine.execPortStep p ts s
  | .contactorPullInExpiry p => Sys2Proof.Machine.execContactorPullInExpiry p s
  | .contactorDisagree p f0 f1 => Sys2Proof.Machine.execContactorDisagree p f0 f1 s
  | .contactorsAgreeClosed p => Sys2Proof.Machine.execContactorsAgreeClosed p s
  | .contactorsAgreeOpen p => Sys2Proof.Machine.execContactorsAgreeOpen p s
  | .abruptEndOpen p => Sys2Proof.Machine.execAbruptEndOpen p s
  | .failedAnswerClose p => Sys2Proof.Machine.execFailedAnswerClose p s
  | .sdpRequest p => Sys2Proof.Machine.execSdpRequest p s
  | .tLinkExpiry p => Sys2Proof.Machine.execTLinkExpiry p s
  | .tAuthExpiry p => Sys2Proof.Machine.execTAuthExpiry p s
  | .sequenceTimerExpiry p => Sys2Proof.Machine.execSequenceTimerExpiry p s
  | .checkTimeout p => Sys2Proof.Machine.execCheckTimeout p s
  | .cableCheckPass p => Sys2Proof.Machine.execCableCheckPass p s
  | .tPcExpiry p => Sys2Proof.Machine.execTPcExpiry p s
  | .powerDeliveryConditionTimeout p => Sys2Proof.Machine.execPowerDeliveryConditionTimeout p s
  | .shortDeclared p => Sys2Proof.Machine.execShortDeclared p s
  | .shortCheckPathOff p => Sys2Proof.Machine.execShortCheckPathOff p s
  | .stopRampComplete p => Sys2Proof.Machine.execStopRampComplete p s
  | .faultMinTimeExpiry p => Sys2Proof.Machine.execFaultMinTimeExpiry p s
  | .v2gConnectionOpen p isn tls => Sys2Proof.Machine.execV2gConnectionOpen p isn tls s
  | .v2gConnectionClosed p => Sys2Proof.Machine.execV2gConnectionClosed p s
  | .tlsHandshakeFail p => Sys2Proof.Machine.execTlsHandshakeFail p s
  | .supportedAppProtocolReq p h offers => Sys2Proof.Machine.execSupportedAppProtocolReq p h offers s
  | .sessionSetupReq p h => Sys2Proof.Machine.execSessionSetupReq p h s
  | .serviceDiscoveryReq p h => Sys2Proof.Machine.execServiceDiscoveryReq p h s
  | .serviceSelectionReq p h bpt => Sys2Proof.Machine.execServiceSelectionReq p h bpt s
  | .authorizationReq p h pnc token cert => Sys2Proof.Machine.execAuthorizationReq p h pnc token cert s
  | .cableCheckReq p h vmax imax => Sys2Proof.Machine.execCableCheckReq p h vmax imax s
  | .preChargeReq p h tgtV tgtI => Sys2Proof.Machine.execPreChargeReq p h tgtV tgtI s
  | .powerDeliveryReq p h start => Sys2Proof.Machine.execPowerDeliveryReq p h start s
  | .chargeLoopReq p h r => Sys2Proof.Machine.execChargeLoopReq p h r s
  | .sessionStopReq p h => Sys2Proof.Machine.execSessionStopReq p h s
  | .certificateInstallationReq p h => Sys2Proof.Machine.execCertificateInstallationReq p h s
  | .creditNotice p => Sys2Proof.Machine.execCreditNotice p s
  | .portEnableWrite p on => Sys2Proof.Machine.execPortEnableWrite p on s
  | .portStop p => Sys2Proof.Machine.execPortStop p s
  | .clrLock p => Sys2Proof.Machine.execClrLock p s
  | .bptTgtWrite p w => Sys2Proof.Machine.execBptTgtWrite p w s
  | .tempMeasurement p k ohm t => Sys2Proof.Machine.execTempMeasurement p k ohm t s
  | .flowPulseEdge p => Sys2Proof.Machine.execFlowPulseEdge p s
  | .flowTimeout p => Sys2Proof.Machine.execFlowTimeout p s
  | .flowFaultClear p => Sys2Proof.Machine.execFlowFaultClear p s
  | .thermalEvaluation p => Sys2Proof.Machine.execThermalEvaluation p s
  | .fastModeExit p => Sys2Proof.Machine.execFastModeExit p s
  | .loopSample n => Sys2Proof.Machine.execLoopSample n s
  | .loopFaultRecovery n => Sys2Proof.Machine.execLoopFaultRecovery n s
  | .loopModeWrite n w => Sys2Proof.Machine.execLoopModeWrite n w s
  | .loopCoeffWrite n k w => Sys2Proof.Machine.execLoopCoeffWrite n k w s
  | .loopManWrite n w => Sys2Proof.Machine.execLoopManWrite n w s
  | .loopPvhWrite n w => Sys2Proof.Machine.execLoopPvhWrite n w s
  | .injectionStart => Sys2Proof.Machine.execInjectionStart s
  | .injectionStop => Sys2Proof.Machine.execInjectionStop s
  | .injectionEnd => Sys2Proof.Machine.execInjectionEnd s
  | .gaiterCycle o => Sys2Proof.Machine.execGaiterCycle o s
  | .clockCheckWindow dRef dGl => Sys2Proof.Machine.execClockCheckWindow dRef dGl s
  | .safetyContactChange si isB level => Sys2Proof.Machine.execSafetyContactChange si isB level s
  | .inputDebounceDone si => Sys2Proof.Machine.execInputDebounceDone si s
  | .inputDiscrepancy si => Sys2Proof.Machine.execInputDiscrepancy si s
  | .testPulseStart srcB => Sys2Proof.Machine.execTestPulseStart srcB s
  | .testPulseSample srcB closed => Sys2Proof.Machine.execTestPulseSample srcB closed s
  | .testMaskEnd srcB => Sys2Proof.Machine.execTestMaskEnd srcB s
  | .comparatorCrossing fc => Sys2Proof.Machine.execComparatorCrossing fc s
  | .comparatorReturn fc => Sys2Proof.Machine.execComparatorReturn fc s
  | .comparatorSelfTest fc ok => Sys2Proof.Machine.execComparatorSelfTest fc ok s
  | .fcTestLate fc => Sys2Proof.Machine.execFcTestLate fc s
  | .portResponseTimeout p => Sys2Proof.Machine.execPortResponseTimeout p s
  | .softRampLimit => Sys2Proof.Machine.execSoftRampLimit s
  | .resume => Sys2Proof.Machine.execResume s
  | .softWrite => Sys2Proof.Machine.execSoftWrite s
  | .gateRequest p => Sys2Proof.Machine.execGateRequest p s
  | .gateWithdraw p => Sys2Proof.Machine.execGateWithdraw p s
  | .safeOutputOffPulse so fell => Sys2Proof.Machine.execSafeOutputOffPulse so fell s
  | .safeOutputReadback so high => Sys2Proof.Machine.execSafeOutputReadback so high s
  | .degradedTimerExpiry => Sys2Proof.Machine.execDegradedTimerExpiry s
  | .heartbeat => Sys2Proof.Machine.execHeartbeat s
  | .heartbeatLost => Sys2Proof.Machine.execHeartbeatLost s
  | .handoverTimeout => Sys2Proof.Machine.execHandoverTimeout s
  | .gaiterLeaveHold => Sys2Proof.Machine.execGaiterLeaveHold s
  | .sampleFrameReceive k bs => Sys2Proof.Machine.execSampleFrameReceive k bs s
  | .portMeasurementInvalid p => Sys2Proof.Machine.execPortMeasurementInvalid p s
  | .recordFrameReceive bs => Sys2Proof.Machine.execRecordFrameReceive bs s
  | .sleeveSampleSend => Sys2Proof.Machine.execSleeveSampleSend s
  | .headSampleFrame p bs => Sys2Proof.Machine.execHeadSampleFrame p bs s
  | .headAuthFrame p bs => Sys2Proof.Machine.execHeadAuthFrame p bs s
  | .headErrorTimeout p => Sys2Proof.Machine.execHeadErrorTimeout p s
  | .headPairing p d => Sys2Proof.Machine.execHeadPairing p d s
  | .sleeveCommit => Sys2Proof.Machine.execSleeveCommit s
  | .sleevePowerFail complete vbks => Sys2Proof.Machine.execSleevePowerFail complete vbks s
  | .sleevePowerOn elapsed refresh vbks => Sys2Proof.Machine.execSleevePowerOn elapsed refresh vbks s
  | .sleeveWatchdog => Sys2Proof.Machine.execSleeveWatchdog s
  | .sleeveSampleEnd => Sys2Proof.Machine.execSleeveSampleEnd s
  | .lineCycleEnd xs => Sys2Proof.Machine.execLineCycleEnd xs s
  | .intakeLatch => Sys2Proof.Machine.execIntakeLatch s
  | .freerunEnter => Sys2Proof.Machine.execFreerunEnter s
  | .halfCycleRefresh xs => Sys2Proof.Machine.execHalfCycleRefresh xs s
  | .keepalive f => Sys2Proof.Machine.execKeepalive f s
  | .setTime f => Sys2Proof.Machine.execSetTime f s
  | .tariffSeg f => Sys2Proof.Machine.execTariffSeg f s
  | .sessionStart f => Sys2Proof.Machine.execSessionStart f s
  | .sessionStop f => Sys2Proof.Machine.execSessionStop f s
  | .unknownCommand code f => Sys2Proof.Machine.execUnknownCommand code f s
  | .linkLossClose => Sys2Proof.Machine.execLinkLossClose s
  | .metrologySelfTest refPpm xtalPpm copyA copyB => Sys2Proof.Machine.execMetrologySelfTest refPpm xtalPpm copyA copyB s
  | .serviceSessionOpen auth => Sys2Proof.Machine.execServiceSessionOpen auth s
  | .serviceSessionClose work => Sys2Proof.Machine.execServiceSessionClose work s
  | .firmwareLoad version img sig => Sys2Proof.Machine.execFirmwareLoad version img sig s
  | .legalParamLoad l sig => Sys2Proof.Machine.execLegalParamLoad l sig s
  | .recordResend seq => Sys2Proof.Machine.execRecordResend seq s
  | .creditGateOpen p => Sys2Proof.Machine.execCreditGateOpen p s
  | .gateFeedbackCheck p fb => Sys2Proof.Machine.execGateFeedbackCheck p fb s
  | .tamperConditionBegin k => Sys2Proof.Machine.execTamperConditionBegin k s
  | .tamperConditionEnd k => Sys2Proof.Machine.execTamperConditionEnd k s
  | .coverSwitchSample meter term => Sys2Proof.Machine.execCoverSwitchSample meter term s
  | .roleChoiceTimeout => Sys2Proof.Machine.execRoleChoiceTimeout s
  | .laneDown k => Sys2Proof.Machine.execLaneDown k s
  | .laneRetrain => Sys2Proof.Machine.execLaneRetrain s
  | .peerLost => Sys2Proof.Machine.execPeerLost s
  | .statusSend => Sys2Proof.Machine.execStatusSend s
  | .journal f => Sys2Proof.Machine.execJournal f s
  | .ack f => Sys2Proof.Machine.execAck f s
  | .status f => Sys2Proof.Machine.execStatus f s
  | .release f => Sys2Proof.Machine.execRelease f s
  | .handover f => Sys2Proof.Machine.execHandover f s
  | .resyncReq f => Sys2Proof.Machine.execResyncReq f s
  | .snapshotFrame f => Sys2Proof.Machine.execSnapshotFrame f s
  | .relay f => Sys2Proof.Machine.execRelay f s
  | .relayRsp f => Sys2Proof.Machine.execRelayRsp f s
  | .relayTimeout => Sys2Proof.Machine.execRelayTimeout s
  | .relayWindowEnd => Sys2Proof.Machine.execRelayWindowEnd s
  | .ownNHigh => Sys2Proof.Machine.execOwnNHigh s
  | .ownNLow => Sys2Proof.Machine.execOwnNLow s
  | .releaseCause reason => Sys2Proof.Machine.execReleaseCause reason s
  | .ownNRelease => Sys2Proof.Machine.execOwnNRelease s
  | .takeoverFirstTick => Sys2Proof.Machine.execTakeoverFirstTick s
  | .echoEligible b g => Sys2Proof.Machine.execEchoEligible b g s
  | .echoCheckTimeout b g => Sys2Proof.Machine.execEchoCheckTimeout b g s
  | .holdFrameSend => Sys2Proof.Machine.execHoldFrameSend s
  | .resyncComplete => Sys2Proof.Machine.execResyncComplete s
  | .swap => Sys2Proof.Machine.execSwap s
  | .scheduledSwap => Sys2Proof.Machine.execScheduledSwap s
  | .lacingRunWrite w => Sys2Proof.Machine.execLacingRunWrite w s
  | .wakeDone c => Sys2Proof.Machine.execWakeDone c s
  | .enumeration c => Sys2Proof.Machine.execEnumeration c s
  | .lacingFaultRetry c => Sys2Proof.Machine.execLacingFaultRetry c s
  | .sweepPeriod => Sys2Proof.Machine.execSweepPeriod s
  | .lacingResponse c bs => Sys2Proof.Machine.execLacingResponse c bs s
  | .lacingResponseTimeout c => Sys2Proof.Machine.execLacingResponseTimeout c s
  | .lacingNodeLost c h => Sys2Proof.Machine.execLacingNodeLost c h s
  | .owtRead c resp => Sys2Proof.Machine.execOwtRead c resp s
  | .owtRequest w => Sys2Proof.Machine.execOwtRequest w s
  | .owTestLate c h => Sys2Proof.Machine.execOwTestLate c h s
  | .fchReceive fch nbr energy pay xs => Sys2Proof.Machine.execFchReceive fch nbr energy pay xs s
  | .beacon bs => Sys2Proof.Machine.execBeacon bs s
  | .join bs => Sys2Proof.Machine.execJoin bs s
  | .joinAck bs => Sys2Proof.Machine.execJoinAck bs s
  | .tmreq bs snr => Sys2Proof.Machine.execTmreq bs snr s
  | .tmr bs => Sys2Proof.Machine.execTmr bs s
  | .set bs => Sys2Proof.Machine.execSet bs s
  | .values bs => Sys2Proof.Machine.execValues bs s
  | .estop bs => Sys2Proof.Machine.execEstop bs s
  | .leave bs => Sys2Proof.Machine.execLeave bs s
  | .brambleAck n ref => Sys2Proof.Machine.execBrambleAck n ref s
  | .brambleNack n ref => Sys2Proof.Machine.execBrambleNack n ref s
  | .ackTimeout n => Sys2Proof.Machine.execAckTimeout n s
  | .zeroCrossing => Sys2Proof.Machine.execZeroCrossing s
  | .toneMapRefresh n => Sys2Proof.Machine.execToneMapRefresh n s
  | .tmrTimeout n => Sys2Proof.Machine.execTmrTimeout n s
  | .toneMapRefreshWrite => Sys2Proof.Machine.execToneMapRefreshWrite s
  | .beaconSend => Sys2Proof.Machine.execBeaconSend s
  | .bramblePartnerLost n => Sys2Proof.Machine.execBramblePartnerLost n s
  | .pulseBeacon a b c => Sys2Proof.Machine.execPulseBeacon a b c s
  | .fallbackEstop a b c => Sys2Proof.Machine.execFallbackEstop a b c s
  | .ctrlBeaconSend => Sys2Proof.Machine.execCtrlBeaconSend s
  | .bindingStale k => Sys2Proof.Machine.execBindingStale k s
  | .cuffProtectionCheck ms => Sys2Proof.Machine.execCuffProtectionCheck ms s
  | .totalCurrentShed => Sys2Proof.Machine.execTotalCurrentShed s
  | .cuffRetry n => Sys2Proof.Machine.execCuffRetry n s
  | .clampEventEnd n xs => Sys2Proof.Machine.execClampEventEnd n xs s
  | .cufClr w => Sys2Proof.Machine.execCufClr w s
  | .cufChannelWrite n w => Sys2Proof.Machine.execCufChannelWrite n w s
  | .cuffForce n on => Sys2Proof.Machine.execCuffForce n on s
  | .vlsLoss => Sys2Proof.Machine.execVlsLoss s
  | .cuffStandbyOff => Sys2Proof.Machine.execCuffStandbyOff s
  | .vselChange code => Sys2Proof.Machine.execVselChange code s
  | .softStartComplete => Sys2Proof.Machine.execSoftStartComplete s
  | .hemShort => Sys2Proof.Machine.execHemShort s
  | .hiccupExpiry => Sys2Proof.Machine.execHiccupExpiry s
  | .hicClear => Sys2Proof.Machine.execHicClear s
  | .hemUndervoltage => Sys2Proof.Machine.execHemUndervoltage s
  | .hemOvervoltage => Sys2Proof.Machine.execHemOvervoltage s
  | .hemVinOut => Sys2Proof.Machine.execHemVinOut s
  | .hemVinOk => Sys2Proof.Machine.execHemVinOk s
  | .phaseOvercurrent p => Sys2Proof.Machine.execPhaseOvercurrent p s
  | .hemClr => Sys2Proof.Machine.execHemClr s
  | .phaseShed => Sys2Proof.Machine.execPhaseShed s
  | .phaseAdd => Sys2Proof.Machine.execPhaseAdd s
  | .fastCondition => Sys2Proof.Machine.execFastCondition s
  | .shedBlockExpiry => Sys2Proof.Machine.execShedBlockExpiry s
  | .hemLoopUpdate m => Sys2Proof.Machine.execHemLoopUpdate m s
  | .keyUpdateGo => Sys2Proof.Machine.execKeyUpdateGo s
  | .keyUpdateJudged => Sys2Proof.Machine.execKeyUpdateJudged s
  | .pairBinding cert epk sig => Sys2Proof.Machine.execPairBinding cert epk sig s
  | .attestationGo slot => Sys2Proof.Machine.execAttestationGo slot s
  | .attestationDone => Sys2Proof.Machine.execAttestationDone s
  | .rngHealthFail => Sys2Proof.Machine.execRngHealthFail s
  | .rngRecover n => Sys2Proof.Machine.execRngRecover n s
  | .drbgReseed => Sys2Proof.Machine.execDrbgReseed s
  | .strapLatch ratio => Sys2Proof.Machine.execStrapLatch ratio s
  | .loaderStart sfdp => Sys2Proof.Machine.execLoaderStart sfdp s
  | .firstLeafApply => Sys2Proof.Machine.execFirstLeafApply s
  | .firstLeafRefused answers => Sys2Proof.Machine.execFirstLeafRefused answers s
  | .restApply => Sys2Proof.Machine.execRestApply s
  | .restRefused answers => Sys2Proof.Machine.execRestRefused answers s
  | .heartbeatStop => Sys2Proof.Machine.execHeartbeatStop s
  | .imageErase slot => Sys2Proof.Machine.execImageErase slot s
  | .imageProg slot verify => Sys2Proof.Machine.execImageProg slot verify s
  | .imageCheck slot answers => Sys2Proof.Machine.execImageCheck slot answers s
  | .imageSelect slot verify => Sys2Proof.Machine.execImageSelect slot verify s
  | .imageOpDone => Sys2Proof.Machine.execImageOpDone s
  | .powerOnReset k => Sys2Proof.Machine.execPowerOnReset k s
  | .brownOut => Sys2Proof.Machine.execBrownOut s
  | .pinReset ns => Sys2Proof.Machine.execPinReset ns s
  | .watchdogExpiry app => Sys2Proof.Machine.execWatchdogExpiry app s
  | .appCoreRestart core => Sys2Proof.Machine.execAppCoreRestart core s
  | .resetSysWrite w => Sys2Proof.Machine.execResetSysWrite w s
  | .resetCoreWrite w => Sys2Proof.Machine.execResetCoreWrite w s
  | .debugResetRequest sys => Sys2Proof.Machine.execDebugResetRequest sys s
  | .clockFailure mask => Sys2Proof.Machine.execClockFailure mask s
  | .lockUp => Sys2Proof.Machine.execLockUp s
  | .deferredSystemReset => Sys2Proof.Machine.execDeferredSystemReset s
  | .releaseSequence tries => Sys2Proof.Machine.execReleaseSequence tries s
  | .pllStop k => Sys2Proof.Machine.execPllStop k s
  | .pllRequest k => Sys2Proof.Machine.execPllRequest k s
  | .gladeXtalLoss => Sys2Proof.Machine.execGladeXtalLoss s
  | .gladeXtalReturn => Sys2Proof.Machine.execGladeXtalReturn s
  | .gladeSleep => Sys2Proof.Machine.execGladeSleep s
  | .gladeWake src => Sys2Proof.Machine.execGladeWake src s
  | .gldClrCnt => Sys2Proof.Machine.execGldClrCnt s
  | .enclosureTamperSample o0 o1 => Sys2Proof.Machine.execEnclosureTamperSample o0 o1 s
  | .temperatureRead ts => Sys2Proof.Machine.execTemperatureRead ts s
  | .creditReturn q => Sys2Proof.Machine.execCreditReturn q s
  | .transactionTimeout tag => Sys2Proof.Machine.execTransactionTimeout tag s
  | .fabricStall c q => Sys2Proof.Machine.execFabricStall c q s
  | .dataErrorDetected e => Sys2Proof.Machine.execDataErrorDetected e s
  | .softwareEvent => Sys2Proof.Machine.execSoftwareEvent s
  | .spiRead addr count => Sys2Proof.Machine.execSpiRead addr count s
  | .spiWrite addr count ws => Sys2Proof.Machine.execSpiWrite addr count ws s
  | .spiPeerRead addr count => Sys2Proof.Machine.execSpiPeerRead addr count s
  | .spiPeerWrite addr count ws => Sys2Proof.Machine.execSpiPeerWrite addr count ws s
  | .spiCrcReport => Sys2Proof.Machine.execSpiCrcReport s
  | .esingConnect eth cert => Sys2Proof.Machine.execEsingConnect eth cert s
  | .esingIdleClose k => Sys2Proof.Machine.execEsingIdleClose k s
  | .read k m addr count => Sys2Proof.Machine.execRead k m addr count s
  | .write k m addr count ws => Sys2Proof.Machine.execWrite k m addr count ws s
  | .log k m first count => Sys2Proof.Machine.execLog k m first count s
  | .sub k m mask => Sys2Proof.Machine.execSub k m mask s
  | .scheduleEvaluation t => Sys2Proof.Machine.execScheduleEvaluation t s
  | .setChargingProfile prof t => Sys2Proof.Machine.execSetChargingProfile prof t s
  | .requestStartTransaction p => Sys2Proof.Machine.execRequestStartTransaction p s
  | .requestStopTransaction tx => Sys2Proof.Machine.execRequestStopTransaction tx s
  | .changeAvailability p on => Sys2Proof.Machine.execChangeAvailability p on s
  | .ocppReset => Sys2Proof.Machine.execOcppReset s
  | .ocppUnsupportedCall block => Sys2Proof.Machine.execOcppUnsupportedCall block s
  | .authorizeResponse p ok token => Sys2Proof.Machine.execAuthorizeResponse p ok token s
  | .meterValuesSend p => Sys2Proof.Machine.execMeterValuesSend p s
  | .transactionEnded p => Sys2Proof.Machine.execTransactionEnded p s
  | .recordWaitTimeout p => Sys2Proof.Machine.execRecordWaitTimeout p s
  | .ocppLinkLost => Sys2Proof.Machine.execOcppLinkLost s
  | .ocppReconnect h => Sys2Proof.Machine.execOcppReconnect h s
  | .bootAccepted => Sys2Proof.Machine.execBootAccepted s
  | .seamLaneTrained k => Sys2Proof.Machine.execSeamLaneTrained k s
  | .vgladePowerOn => Sys2Proof.Machine.execVgladePowerOn s
  | .vbksLoss => Sys2Proof.Machine.execVbksLoss s

end Sys2Proof.Machine
end

