-- ==== Sys2Proof/Machine/Idle.lean ====
section
/-! DEFINITION. What passes with time alone: one microsecond of the model's clock. -/

namespace Sys2Proof.Machine

/-- The EVENT messages of a connection have been sent (spec/18_host_and_discovery.md R480: within 10 ms). -/
def sendEvents (c : Option EsConn) : Option EsConn := c.map (fun x => { x with unsent := 0 })

/-- One microsecond passes: the timebase advances while the reference runs (spec/16_reset_clocks_domains.md R445). -/
def State.idle (s : State) : State :=
  { s with
    mono := s.mono + 1
    tb := if s.rst.refOk then s.tb + 1 else s.tb
    hst := { s.hst with conn := s.hst.conn.map sendEvents } }

end Sys2Proof.Machine
end

