-- ==== Sys2Proof/Safety.lean ====
section
/-! DEFINITION. What a safe state is, and the words in which statements speak of what a command leaves alone. -/

namespace Sys2Proof.Machine

/-- The parts of the device: one per field of `State`. -/
inductive Part where
  | mono | tb | fresh | pending | fuses | cfg | rst | gld | thk | site | cnp | mb | ports | v2g | twins | cpc | gtr | slv | slvLink
  | slvCtr | seam | lac | brm | cuf | hem | clk | img | hst | sessNext | sessTop | hiCap | out
  deriving DecidableEq, Repr

/-- A part is the same in both states. -/
def Part.same (q : Part) (s t : State) : Prop :=
  match q with
  | .mono => t.mono = s.mono
  | .tb => t.tb = s.tb
  | .fresh => t.fresh = s.fresh
  | .pending => t.pending = s.pending
  | .fuses => t.fuses = s.fuses
  | .cfg => t.cfg = s.cfg
  | .rst => t.rst = s.rst
  | .gld => t.gld = s.gld
  | .thk => t.thk = s.thk
  | .site => t.site = s.site
  | .cnp => t.cnp = s.cnp
  | .mb => t.mb = s.mb
  | .ports => t.ports = s.ports
  | .v2g => t.v2g = s.v2g
  | .twins => t.twins = s.twins
  | .cpc => t.cpc = s.cpc
  | .gtr => t.gtr = s.gtr
  | .slv => t.slv = s.slv
  | .slvLink => t.slvLink = s.slvLink
  | .slvCtr => t.slvCtr = s.slvCtr
  | .seam => t.seam = s.seam
  | .lac => t.lac = s.lac
  | .brm => t.brm = s.brm
  | .cuf => t.cuf = s.cuf
  | .hem => t.hem = s.hem
  | .clk => t.clk = s.clk
  | .img => t.img = s.img
  | .hst => t.hst = s.hst
  | .sessNext => t.sessNext = s.sessNext
  | .sessTop => t.sessTop = s.sessTop
  | .hiCap => t.hiCap = s.hiCap
  | .out => t.out = s.out

/-- From `s` to `t` at most the listed parts have changed. -/
def Touches (ps : List Part) (s t : State) : Prop := ∀ q, q ∉ ps → q.same s t

/-- Both slots of the image flash are in canonical form: rising addresses, no erased byte listed. -/
def flashOk (l : Loader) : Prop := ∀ k : Fin 2, Store.wf l.flash[k] = true

/-- The device log holds at most 8,192 entries (spec/18_host_and_discovery.md Table 18.4). -/
def logOk (t : Thicket) : Prop := t.log.length ≤ 8192

/-- The entries in the journal ring of the standby take at most its 4,096 slots, each at least one (spec/10_seam_pair.md R290). -/
def ringOk (m : Seam) : Prop := (m.ring.map (·.slots)).sum ≤ 4096 ∧ ∀ x ∈ m.ring, 1 ≤ x.slots

/-- What every step keeps: the flash's canonical form, the size of the log and the slots of the journal ring. -/
structure State.Inv (s : State) : Prop where
  flash : flashOk s.img
  log : logOk s.thk
  ring : ringOk s.seam

/-- A message with head `h` finds port `p` with an open connection whose session it names, and no FAILED answer is awaited
(spec/05_vehicle_ports.md Table 5.8, R155, R156). -/
structure State.V2gReady (p : Fin 12) (h : V2gHead) (s : State) : Prop where
  stack : s.stackUp p = true
  noFail : s.ports[p].failPend = none
  form : h.formOk = true
  len : h.len ≤ 16376
  exi : h.exiOk = true
  conn : ∃ k, s.ports[p].conn = some k ∧ k.app = true ∧ k.sid = some h.sid

/-- A host access to a register at `a` is served at once: the unit is out of reset, its host interfaces answer, the code that
serves the address runs and its unit is present (spec/16_reset_clocks_domains.md R433, spec/18_host_and_discovery.md R475). -/
structure State.HostReady (a : Nat) (s : State) : Prop where
  up : s.up = true
  serves : s.servesHost = true
  code : s.codeRuns a = true
  present : absentAt a s.fuses.variant = false

/-- An event source is pending in THK_EV (spec/17_thicket_and_events.md R468, R470). -/
def State.told (e : Ev) (s : State) : Prop := bitOf e.num s.thk.ev = true

/-- From `s` to `t` the device has sent `o` to the outside. -/
def Sends (o : Out) (s t : State) : Prop := ∃ l, t.out = s.out ++ l ∧ o ∈ l

/-- The last thing that the device has sent is the end of a host access, with a status and words. -/
def State.answered (st : Status) (ws : List Nat) (s : State) : Prop := s.out.getLast? = some (.done st ws)

/-- The Sleeve works, outside BOOT and FATAL, and accepts a command frame of code `code`: authentic and newer than the last one of its
lane (spec/08_sleeve_metrology.md R246, R247, Table 8.8). -/
structure State.SlvTakes (code : Nat) (f : CmdFrame) (s : State) : Prop where
  on : s.slvOn = true
  boot : s.slv.st ≠ .boot
  fatal : s.slv.st ≠ .fatal
  tag : ∃ k, s.slv.lane[f.lane].key = some k ∧ f.tag = tag16 k (f.head code)
  newer : ∀ c, s.slv.lane[f.lane].ctr = some c → c < f.ctr

/-- The arguments of a frame, whose code has `n` bytes of them at most, are as long as it says (spec/08_sleeve_metrology.md R246, R250). -/
structure CmdFrame.LengthOk (n : Nat) (f : CmdFrame) : Prop where
  len : f.alen ≤ n
  pad : (f.args40.drop f.alen).any (· != 0) = false

/-- The Sleeve at the end of the sample in which it accepts a frame, when the frames accepted before it have been carried out
(spec/09_billing_and_tamper.md R264). -/
def State.slvAt (code : Nat) (f : CmdFrame) (s : State) : Sleeve :=
  (sampleEnd { s := { slvAccept code f s.slv with cmdq := s.slv.cmdq } }).s

/-- The record frame with which the Sleeve answers a command frame (spec/09_billing_and_tamper.md Table 9.6). -/
def replyFrame (f : CmdFrame) (r : CmdRes) : Nat × List Byte :=
  (2, leBytes 1 f.lane.val ++ leBytes 1 r.code ++ leBytes 2 0 ++ leBytes 4 f.ctr)

end Sys2Proof.Machine
end

