-- ==== Sys2Proof/Premises.lean ====
section
/-! DEFINITION. Premises that several statements share, and what a command may change: the parts of the device, and the one of several
like units. -/

namespace Sys2Proof.Machine

/-- The pair link accepts a frame of type `typ` (spec/10_seam_pair.md R287, Table 10.4): the unit belongs to a pair, a lane is up, and
check, form, direction, sequence, tag and role are right. The transmit sequence is not at its end (R288). -/
structure State.SeamTakes (typ : Nat) (f : SeamFrame) (s : State) : Prop where
  up : s.up = true
  pair : s.seam.pair.isSome = true
  lanes : s.seam.upLanes ≠ []
  typ_ : f.typ = typ
  ok : s.seamJudge f = .ok
  seq : s.seam.txSeq ≤ 0xFFFFFFF0

/-- The one of several like units that a command is for. -/
inductive Which where
  | port (p : Fin 12) | twin (p : Fin 12) | loop (n : Fin 64) | chain (c : Fin 4) | channel (n : Fin 16) | input (n : Fin 16)
  | head (p : Fin 12) | bus (b : Fin 4) | slot (k : Fin 2) | none
  deriving DecidableEq, Repr

/-- From `s` to `t` the other units of the kind have not changed. -/
def Which.othersStay (s t : State) : Which → Prop
  | .port p => ∀ q : Fin 12, q ≠ p → t.ports[q] = s.ports[q] ∧ t.v2g[q] = s.v2g[q] ∧ t.cnp.ports[q] = s.cnp.ports[q] ∧
      t.hst.ocpp.tx[q] = s.hst.ocpp.tx[q]
  | .twin p => ∀ q : Fin 12, q ≠ p → t.twins[q] = s.twins[q]
  | .loop n => ∀ k : Fin 64, k ≠ n → t.cpc.loops[k] = s.cpc.loops[k]
  | .chain c => t.lac.run = s.lac.run ∧ t.lac.swid = s.lac.swid ∧ t.lac.sweep = s.lac.sweep ∧
      ∀ d : Fin 4, d ≠ c → t.lac.ch[d] = s.lac.ch[d]
  | .channel n => t.cuf.freq = s.cuf.freq ∧ t.cuf.total = s.cuf.total ∧ t.cuf.tshed = s.cuf.tshed ∧
      ∀ k : Fin 16, k ≠ n → t.cuf.ch[k] = s.cuf.ch[k]
  | .input n => ∀ k : Fin 16, k ≠ n → t.gtr.ins[k] = s.gtr.ins[k]
  | .head p => ∀ q : Fin 12, q ≠ p → t.slv.head[q] = s.slv.head[q]
  | .bus b => ∀ d : Fin 4, d ≠ b → t.mb.bus[d] = s.mb.bus[d]
  | .slot k => ∀ j : Fin 2, j ≠ k → t.img.flash[j] = s.img.flash[j]
  | .none => True

end Sys2Proof.Machine

namespace Sys2Proof

open Sys2Proof.Machine

/-- The parts of the device that a command may change: those of its own unit, of the units that it acts on, and Thicket, the host
interfaces and the output wherever an event may be raised. The registers of every page group are within reach of REGISTER_WRITE and of
a host's SPI and Esing writes. -/
def Instr.parts : Instr → List Part
  | .registerWrite .. | .peerLost | .resyncReq .. | .relay .. | .relayRsp .. | .relayTimeout | .resetSysWrite ..
  | .resetCoreWrite .. | .spiWrite .. | .write .. | .ocppReset =>
    [.tb, .fresh, .cfg, .rst, .gld, .thk, .site, .cnp, .mb, .ports, .v2g, .twins, .cpc, .gtr, .slvLink, .slvCtr, .seam,
     .lac, .brm, .cuf, .hem, .clk, .img, .hst, .sessNext, .sessTop, .hiCap, .out]
  | .canopyTick | .takeoverFirstTick =>
    [.fresh, .thk, .site, .cnp, .mb, .ports, .v2g, .twins, .slvLink, .slvCtr, .seam, .cuf, .clk, .hst, .sessNext,
     .sessTop, .out]
  | .solveComplete .. | .solveBudgetExpired .. | .selectionTimeout .. | .freezeWrite .. | .clrMax | .intakeStale
  | .pmeasHostWrite .. | .bufSocWrite .. | .bufRefWrite .. | .bufferStale =>
    [.thk, .cnp, .hst, .out]
  | .groupFrameRelease | .statusFrame .. =>
    [.thk, .cnp, .mb, .hst, .out]
  | .releaseHoldExpiry .. | .blockRelease .. | .ceilingRefExpiry .. | .intakeMeasurement .. =>
    [.cnp]
  | .canFrameReceive .. | .oneShotResult .. | .echoEligible .. =>
    [.thk, .cnp, .mb, .seam, .hst, .out]
  | .busOff .. | .busOffRecovery .. | .announce .. =>
    [.thk, .mb, .hst, .out]
  | .portLimitFrameSend .. | .moduleLostTimeout .. =>
    [.mb]
  | .pilotStateAccept .. | .proximityChange .. | .contactorPullInExpiry .. | .contactorDisagree ..
  | .contactorsAgreeOpen .. | .abruptEndOpen .. | .failedAnswerClose .. | .tLinkExpiry .. | .tAuthExpiry ..
  | .sequenceTimerExpiry .. | .checkTimeout .. | .cableCheckPass .. | .tPcExpiry .. | .powerDeliveryConditionTimeout ..
  | .shortDeclared .. | .shortCheckPathOff .. | .stopRampComplete .. | .faultMinTimeExpiry .. | .creditNotice ..
  | .vlsLoss | .requestStopTransaction .. | .changeAvailability .. | .authorizeResponse .. =>
    [.fresh, .thk, .ports, .v2g, .slvLink, .slvCtr, .cuf, .clk, .hst, .sessNext, .sessTop, .out]
  | .portStep .. =>
    [.fresh, .thk, .cnp, .ports, .v2g, .slvLink, .slvCtr, .seam, .cuf, .clk, .hst, .sessNext, .sessTop, .out]
  | .contactorsAgreeClosed .. =>
    [.fresh, .thk, .ports, .v2g, .slvLink, .slvCtr, .seam, .cuf, .clk, .hst, .sessNext, .sessTop, .out]
  | .sdpRequest .. | .v2gConnectionOpen .. | .v2gConnectionClosed .. | .tlsHandshakeFail .. | .sessionSetupReq ..
  | .serviceDiscoveryReq .. | .serviceSelectionReq .. | .authorizationReq .. | .cableCheckReq .. | .preChargeReq ..
  | .powerDeliveryReq .. | .chargeLoopReq .. | .sessionStopReq .. | .certificateInstallationReq .. =>
    [.fresh, .thk, .cnp, .ports, .v2g, .slvLink, .slvCtr, .cuf, .clk, .hst, .sessNext, .sessTop, .out]
  | .supportedAppProtocolReq .. =>
    [.fresh, .thk, .cnp, .mb, .ports, .v2g, .slvLink, .slvCtr, .cuf, .clk, .hst, .sessNext, .sessTop, .out]
  | .portEnableWrite .. | .portStop .. | .clrLock .. | .bptTgtWrite .. =>
    [.fresh, .thk, .ports, .v2g, .twins, .slvLink, .slvCtr, .cuf, .clk, .hst, .sessNext, .sessTop, .out]
  | .tempMeasurement .. | .flowPulseEdge .. | .thermalEvaluation .. =>
    [.thk, .twins, .cpc, .hst, .out]
  | .flowTimeout .. | .flowFaultClear .. | .fastModeExit .. =>
    [.twins]
  | .loopSample .. | .fchReceive .. | .beacon .. | .join .. | .joinAck .. | .tmreq .. | .tmr .. | .set .. | .values ..
  | .estop .. | .leave .. | .brambleAck .. | .brambleNack .. | .ackTimeout .. | .zeroCrossing | .toneMapRefresh ..
  | .tmrTimeout .. | .toneMapRefreshWrite | .beaconSend | .bramblePartnerLost .. | .pulseBeacon .. | .fallbackEstop ..
  | .ctrlBeaconSend | .bindingStale .. =>
    [.fresh, .thk, .ports, .v2g, .cpc, .gtr, .slvLink, .slvCtr, .brm, .cuf, .clk, .hst, .sessNext, .sessTop, .out]
  | .loopFaultRecovery .. | .loopModeWrite .. | .loopCoeffWrite .. | .loopManWrite .. | .loopPvhWrite ..
  | .injectionStart | .injectionStop | .injectionEnd =>
    [.thk, .cpc, .hst, .out]
  | .gaiterCycle .. | .clockCheckWindow .. | .safetyContactChange .. | .inputDebounceDone .. | .inputDiscrepancy ..
  | .testPulseStart .. | .testPulseSample .. | .testMaskEnd .. | .comparatorCrossing .. | .comparatorReturn ..
  | .comparatorSelfTest .. | .fcTestLate .. | .portResponseTimeout .. | .softRampLimit | .resume | .softWrite
  | .gateRequest .. | .gateWithdraw .. | .safeOutputOffPulse .. | .safeOutputReadback .. | .degradedTimerExpiry
  | .handoverTimeout | .gaiterLeaveHold =>
    [.fresh, .thk, .ports, .v2g, .cpc, .gtr, .slvLink, .slvCtr, .cuf, .clk, .hst, .sessNext, .sessTop, .out]
  | .heartbeat =>
    [.fresh, .thk, .ports, .v2g, .cpc, .gtr, .slvLink, .slvCtr, .seam, .cuf, .clk, .hst, .sessNext, .sessTop, .out]
  | .heartbeatLost =>
    [.fresh, .thk, .cnp, .mb, .ports, .v2g, .cpc, .gtr, .slvLink, .slvCtr, .seam, .cuf, .clk, .hst, .sessNext, .sessTop,
     .out]
  | .sampleFrameReceive .. =>
    [.cnp, .slvLink]
  | .portMeasurementInvalid .. =>
    [.slvLink]
  | .recordFrameReceive .. =>
    [.thk, .slvLink, .hst, .out]
  | .sleeveSampleSend =>
    [.fresh, .slv, .out]
  | .headSampleFrame .. | .headAuthFrame .. | .headErrorTimeout .. | .sleevePowerFail .. | .sleeveWatchdog
  | .sleeveSampleEnd | .halfCycleRefresh .. | .metrologySelfTest .. | .serviceSessionOpen .. | .serviceSessionClose ..
  | .legalParamLoad .. | .gateFeedbackCheck .. | .tamperConditionBegin .. =>
    [.thk, .slv, .hst, .out]
  | .headPairing .. | .sleevePowerOn .. =>
    [.fresh, .thk, .slv, .hst, .out]
  | .sleeveCommit | .lineCycleEnd .. | .intakeLatch | .freerunEnter | .keepalive .. | .setTime .. | .tariffSeg ..
  | .sessionStart .. | .sessionStop .. | .unknownCommand .. | .linkLossClose | .firmwareLoad .. | .recordResend ..
  | .creditGateOpen .. | .tamperConditionEnd .. | .coverSwitchSample .. | .vbksLoss =>
    [.slv]
  | .roleChoiceTimeout | .status .. =>
    [.fresh, .thk, .cnp, .mb, .ports, .v2g, .cpc, .gtr, .slvLink, .slvCtr, .seam, .lac, .brm, .cuf, .clk, .hst, .sessNext,
     .sessTop, .out]
  | .laneDown .. | .laneRetrain | .ack .. | .echoCheckTimeout .. | .resyncComplete =>
    [.thk, .seam, .hst, .out]
  | .statusSend | .journal .. | .snapshotFrame .. | .spiPeerRead .. | .spiPeerWrite .. | .seamLaneTrained .. =>
    [.thk, .seam, .clk, .hst, .out]
  | .release .. | .ownNHigh =>
    [.fresh, .thk, .cnp, .mb, .ports, .v2g, .twins, .cpc, .gtr, .slvLink, .slvCtr, .seam, .lac, .brm, .cuf, .clk, .hst,
     .sessNext, .sessTop, .out]
  | .handover .. =>
    [.fresh, .rst, .thk, .ports, .v2g, .cpc, .gtr, .slvLink, .slvCtr, .seam, .cuf, .clk, .hst, .sessNext, .sessTop, .out]
  | .relayWindowEnd | .ownNRelease =>
    [.seam]
  | .ownNLow =>
    [.fresh, .rst, .thk, .cnp, .ports, .v2g, .cpc, .gtr, .slvLink, .slvCtr, .seam, .lac, .brm, .cuf, .clk, .hst,
     .sessNext, .sessTop, .out]
  | .releaseCause .. | .swap | .scheduledSwap =>
    [.thk, .cnp, .mb, .seam, .clk, .hst, .out]
  | .holdFrameSend =>
    [.thk, .mb, .seam, .hst, .out]
  | .lacingRunWrite .. | .wakeDone .. | .enumeration .. | .lacingFaultRetry .. | .sweepPeriod | .lacingResponse ..
  | .lacingResponseTimeout .. | .lacingNodeLost .. | .owtRead .. | .owtRequest .. | .owTestLate .. =>
    [.thk, .lac, .hst, .out]
  | .cuffProtectionCheck .. | .totalCurrentShed | .cuffRetry .. | .cuffForce .. | .cuffStandbyOff =>
    [.cuf]
  | .clampEventEnd .. | .cufClr .. | .cufChannelWrite .. =>
    [.thk, .cuf, .hst, .out]
  | .vselChange .. | .softStartComplete | .hemShort | .hiccupExpiry | .hicClear | .hemUndervoltage | .hemOvervoltage
  | .hemVinOut | .hemVinOk | .phaseOvercurrent .. | .hemClr | .phaseShed | .phaseAdd | .fastCondition | .shedBlockExpiry
  | .hemLoopUpdate .. =>
    [.thk, .hem, .hst, .out]
  | .keyUpdateGo | .attestationGo .. =>
    [.thk, .clk, .hst, .hiCap, .out]
  | .keyUpdateJudged =>
    [.fresh, .thk, .clk, .hst, .out]
  | .pairBinding .. =>
    [.fresh, .thk, .seam, .clk, .hst, .out]
  | .attestationDone | .rngHealthFail | .rngRecover .. | .drbgReseed | .esingConnect .. | .ocppReconnect .. =>
    [.thk, .clk, .hst, .out]
  | .strapLatch .. | .loaderStart .. | .firstLeafRefused .. | .imageErase .. | .imageCheck .. =>
    [.thk, .img, .hst, .out]
  | .firstLeafApply =>
    [.fresh, .cfg, .thk, .cnp, .mb, .ports, .v2g, .twins, .cpc, .gtr, .slvLink, .slvCtr, .seam, .lac, .brm, .cuf, .hem,
     .clk, .img, .hst, .sessNext, .sessTop, .out]
  | .restApply =>
    [.fresh, .cfg, .thk, .cnp, .ports, .twins, .cpc, .seam, .lac, .brm, .cuf, .hem, .img, .hst, .out]
  | .restRefused .. =>
    [.fresh, .thk, .cnp, .ports, .v2g, .cpc, .gtr, .slvLink, .slvCtr, .cuf, .clk, .img, .hst, .sessNext, .sessTop, .out]
  | .heartbeatStop | .imageOpDone =>
    [.img]
  | .imageProg .. | .imageSelect .. =>
    [.fresh, .thk, .img, .hst, .out]
  | .powerOnReset .. | .brownOut | .debugResetRequest .. =>
    [.tb, .cfg, .rst, .gld, .thk, .site, .cnp, .mb, .ports, .v2g, .twins, .cpc, .gtr, .slvLink, .slvCtr, .seam, .lac,
     .brm, .hem, .clk, .img, .hst, .sessNext, .hiCap]
  | .pinReset .. =>
    [.tb, .fresh, .cfg, .rst, .gld, .thk, .site, .cnp, .mb, .ports, .v2g, .twins, .cpc, .gtr, .slvLink, .slvCtr, .seam,
     .lac, .brm, .hem, .clk, .img, .hst, .sessNext, .hiCap]
  | .watchdogExpiry .. | .appCoreRestart .. | .clockFailure .. | .lockUp =>
    [.rst, .gld, .mb, .slvCtr]
  | .deferredSystemReset =>
    [.tb, .cfg, .rst, .thk, .site, .cnp, .mb, .ports, .v2g, .twins, .cpc, .gtr, .slvLink, .slvCtr, .seam, .lac, .brm,
     .hem, .clk, .img, .hst, .sessNext, .hiCap]
  | .releaseSequence .. =>
    [.tb, .fresh, .rst, .gld, .thk, .clk, .hst, .out]
  | .pllStop .. | .pllRequest .. =>
    [.rst]
  | .gladeXtalLoss | .gladeXtalReturn | .gladeWake .. | .vgladePowerOn =>
    [.gld]
  | .gladeSleep | .gldClrCnt | .enclosureTamperSample .. =>
    [.gld, .thk, .hst, .out]
  | .temperatureRead .. =>
    [.fresh, .rst, .thk, .cnp, .mb, .ports, .v2g, .cpc, .gtr, .slvLink, .slvCtr, .seam, .cuf, .clk, .hst, .sessNext,
     .sessTop, .out]
  | .creditReturn .. =>
    [.thk]
  | .transactionTimeout .. =>
    [.thk, .out]
  | .fabricStall .. | .ocppLinkLost | .bootAccepted =>
    [.thk, .hst, .out]
  | .dataErrorDetected .. =>
    [.fresh, .thk, .cnp, .mb, .ports, .v2g, .twins, .cpc, .gtr, .slvLink, .slvCtr, .seam, .lac, .brm, .cuf, .hem, .clk,
     .img, .hst, .sessNext, .sessTop, .hiCap, .out]
  | .softwareEvent =>
    [.thk, .hst, .hiCap, .out]
  | .spiRead .. | .read .. =>
    [.fresh, .thk, .cnp, .mb, .ports, .twins, .cpc, .gtr, .slvLink, .seam, .lac, .brm, .cuf, .hem, .clk, .hst, .hiCap, .out]
  | .spiCrcReport =>
    [.fresh, .thk, .hst, .out]
  | .esingIdleClose .. | .log .. | .sub .. | .setChargingProfile .. | .requestStartTransaction .. | .meterValuesSend ..
  | .transactionEnded .. | .recordWaitTimeout .. =>
    [.hst, .out]
  | .scheduleEvaluation .. =>
    [.hst]
  | .ocppUnsupportedCall .. =>
    [.out]

/-- The port, twin, loop, chain, channel, safety input, head, bus or image slot that a command is for; none where it is for no single
one of these. -/
def Instr.which : Instr → Which
  | .pilotStateAccept p .. | .proximityChange p .. | .portStep p .. | .contactorPullInExpiry p | .contactorDisagree p ..
  | .contactorsAgreeClosed p | .contactorsAgreeOpen p | .abruptEndOpen p | .failedAnswerClose p | .sdpRequest p | .tLinkExpiry p
  | .tAuthExpiry p | .sequenceTimerExpiry p | .checkTimeout p | .cableCheckPass p | .tPcExpiry p | .powerDeliveryConditionTimeout p
  | .shortDeclared p | .shortCheckPathOff p | .stopRampComplete p | .faultMinTimeExpiry p | .v2gConnectionOpen p ..
  | .v2gConnectionClosed p | .tlsHandshakeFail p | .supportedAppProtocolReq p .. | .sessionSetupReq p .. | .serviceDiscoveryReq p ..
  | .serviceSelectionReq p .. | .authorizationReq p .. | .cableCheckReq p .. | .preChargeReq p .. | .powerDeliveryReq p ..
  | .chargeLoopReq p .. | .sessionStopReq p .. | .certificateInstallationReq p .. | .creditNotice p | .portEnableWrite p ..
  | .portStop p | .clrLock p | .bptTgtWrite p .. | .changeAvailability p .. | .authorizeResponse p .. | .requestStartTransaction p
  | .meterValuesSend p | .transactionEnded p | .recordWaitTimeout p => .port p
  | .tempMeasurement p .. | .flowPulseEdge p | .flowTimeout p | .flowFaultClear p | .thermalEvaluation p | .fastModeExit p => .twin p
  | .loopCoeffWrite n .. | .loopManWrite n .. | .loopPvhWrite n .. => .loop n
  | .wakeDone c | .enumeration c | .lacingFaultRetry c | .lacingResponse c .. | .lacingResponseTimeout c | .lacingNodeLost c ..
  | .owtRead c .. | .owTestLate c .. => .chain c
  | .cuffRetry n | .clampEventEnd n .. | .cufChannelWrite n .. | .cuffForce n .. => .channel n
  | .safetyContactChange n .. | .inputDebounceDone n | .inputDiscrepancy n => .input n
  | .headSampleFrame p .. | .headAuthFrame p .. | .headErrorTimeout p | .headPairing p .. => .head p
  | .canFrameReceive b .. | .oneShotResult b .. | .busOff b | .busOffRecovery b | .portLimitFrameSend b | .statusFrame b
  | .announce b => .bus b
  | .imageErase k | .imageProg k .. | .imageSelect k .. => .slot k
  | _ => .none

end Sys2Proof
end

