-- ==== Sys2Proof/Certificates/Slice0/Obligations.lean ====
section
/-! DEFINITION. The statements for the provers. Each says what commands do from every state that meets its conditions: that they complete,
and the values they leave; the last of the list of its docstring names the rules of spec/ that it rests on. -/

open Sys2Proof Sys2Proof.Machine

/-- A step carries out the command at the front of the queue with the rest of the queue, and on an empty queue 1 µs passes: the model's
clock goes on, and the timebase while the reference runs (R445; that nothing waits means that 1 µs passes is the model's choice, log
entry 5). -/
def Obligations.QueueIsServed : Prop :=
  (∀ (c : Instr) (rest : List Instr) (s : State), step { s with pending := c :: rest } = exec c { s with pending := rest }) ∧
  (∀ s : State, s.pending = [] → ∃ t, step s = .next t ∧ t.mono = s.mono + 1 ∧ t.pending = [] ∧ t.rst = s.rst ∧ t.cfg = s.cfg ∧
    t.tb = (if s.rst.refOk then s.tb + 1 else s.tb)) ∧
  (∀ (c : Instr) (s t : State), exec c s = .next t → t.pending = s.pending ∧ t.mono = s.mono ∧ t.fuses = s.fuses)

/-- The device right after reset: held in the power-on reset, counted once, nothing configured, and the invariant holds. -/
def Obligations.ResetStateHolds : Prop :=
  State.reset.Inv ∧ State.reset.pending = [] ∧ State.reset.rst.hold = some { level := 0, src := 1 } ∧ State.reset.gld.resets[0] = 1 ∧
  State.reset.cfg = {} ∧ State.reset.cnp.started = false ∧ State.reset.img.st = .start ∧ State.reset.gtr.st = .hold ∧
  State.reset.gtr.trip = true ∧ (∀ p : Fin 12, State.reset.ports[p].st = .idle ∧ State.reset.gtr.gates[p].en = false) ∧
  (∀ n : Fin 16, cufOn State.reset.cuf State.reset.cuf.ch[n] = false) ∧ State.reset.hem.st = .off ∧ State.reset.out = []

/-- Every step keeps the invariant: the image flash in canonical form, the log of at most 8,192 entries, the journal ring of at most 4,096
slots; and what the device has sent stays sent. -/
def Obligations.EveryStepKeepsInv : Prop :=
  ∀ s t : State, s.Inv → step s = .next t → t.Inv ∧ ∃ l, t.out = s.out ++ l

/-- Every command completes, and changes at most the parts of the device that belong to it. -/
def Obligations.UnitsKeptApart : Prop :=
  ∀ (c : Instr) (s : State), ∃ t, exec c s = .next t ∧ Touches c.parts s t

/-- A command for one of several like units leaves the others of its kind as they are. -/
def Obligations.LikeUnitsKeptApart : Prop :=
  ∀ (c : Instr) (s t : State), exec c s = .next t → c.which.othersStay s t

/-- A stall is counted in its class and raised once per episode, and an episode ends when its producer sends (R462). -/
def Obligations.FabricStallsOncePerEpisode : Prop :=
  ∀ (s : State) (c : TrafficClass) (q : Nat), s.up = true →
    (q ∉ s.thk.stalled → ∃ t, exec (.fabricStall c q) s = .next t ∧ q ∈ t.thk.stalled ∧ t.told .fabricStall ∧
      t.thk.cnt[Ev.fabricStall.num]! = satInc 8 s.thk.cnt[Ev.fabricStall.num]! ∧
      t.thk.sRt = (if c = .rt then satInc 8 s.thk.sRt else s.thk.sRt) ∧ t.thk.sSys = (if c = .sys then satInc 8 s.thk.sSys else s.thk.sSys) ∧
      t.thk.sBulk = (if c = .bulk then satInc 8 s.thk.sBulk else s.thk.sBulk)) ∧
    (q ∈ s.thk.stalled → exec (.fabricStall c q) s = .next s) ∧
    (q ∈ s.thk.stalled → 0 < s.thk.inUse q → ∃ t, exec (.creditReturn q) s = .next t ∧ q ∉ t.thk.stalled)

/-- A mean of the channel currents over 100 ms above 24.0 A puts the channel of the highest rank that conducted in the step into FAULT,
repeated every 10 ms (R366, R374). Sums in 10 mA. -/
def Obligations.TotalCurrentSheds : Prop :=
  ∀ (s : State) (xs : List (Nat × Nat)), xs = s.cuf.hist.filter (fun e => s.mono < e.1 + 100000) →
    (sumN (xs.map (·.2)) ≤ 2400 * xs.length → exec .totalCurrentShed s = .next { s with cuf := { s.cuf with shedAt := none } }) ∧
    (∀ n : Fin 16, 2400 * xs.length < sumN (xs.map (·.2)) → (∀ t0, s.cuf.shedAt = some t0 → t0 + 10000 ≤ s.mono) →
      cufBefore s.cuf s.mono s.cuf.ch[n] = true →
      (∀ k : Fin 16, k ≠ n → cufBefore s.cuf s.mono s.cuf.ch[k] = true →
        ((s.cuf.ch[k].cfg.map (·.shedRank)).getD 0) < ((s.cuf.ch[n].cfg.map (·.shedRank)).getD 0) ∨
        (((s.cuf.ch[k].cfg.map (·.shedRank)).getD 0) = ((s.cuf.ch[n].cfg.map (·.shedRank)).getD 0) ∧ k < n)) →
      ∃ t, exec .totalCurrentShed s = .next t ∧ t.cuf.ch[n].fault = true ∧ t.cuf.ch[n].cause = .total ∧ t.cuf.tshed = true ∧
        t.cuf.shedAt = some s.mono ∧ cufOn t.cuf t.cuf.ch[n] = false ∧ ∀ k : Fin 16, k ≠ n → t.cuf.ch[k] = s.cuf.ch[k]) ∧
    (∀ t0, 2400 * xs.length < sumN (xs.map (·.2)) → s.cuf.shedAt = some t0 → s.mono < t0 + 10000 →
      exec .totalCurrentShed s = .next s)

/-- With SRC = 1 a write of CNP_PMEAS_HOST is a new intake measurement; with SRC = 0 it completes with NOT_IN_STATE and raises the event
(R69). -/
def Obligations.HostMeasuresIntake : Prop :=
  ∀ (s : State) (w : Word), s.HostReady 0x802C →
    ((s.cfg.cnpIntake.getD {}).srcHost = true → ∃ t, exec (.pmeasHostWrite w) s = .next t ∧ t.answered .ok [] ∧
      t.cnp.pmeasHost = dec 32 w.toNat ∧ t.cnp.pMeas = (dec 32 w.toNat : Rat) / 10 ∧ t.cnp.measAt = s.mono ∧ t.cnp.measStale = false ∧
      t.cnp = (State.measure ((dec 32 w.toNat : Rat) / 10) { s with cnp := { s.cnp with pmeasHost := dec 32 w.toNat } }).cnp) ∧
    ((s.cfg.cnpIntake.getD {}).srcHost = false → ∃ t, exec (.pmeasHostWrite w) s = .next t ∧ t.answered .notInState [] ∧ t.cnp = s.cnp ∧
      t.told .notInState ∧ t.thk.nisAddr = 0x802C)

/-- The epoch rises by one at every start of Canopy, after a reset, a role choice or a takeover, stepping from 0xFFFF to 1, and every reset
keeps it (R112); a unit of a pair starts from the newer of its own and the one last mirrored. -/
def Obligations.EpochRises : Prop :=
  ∀ s : State,
    (∀ a, s.up = true → s.img.st = .flb → s.img.leafOf s.fuses s.imgAnchor s.img.slot false = .ok a → s.seam.role = .single →
      (∀ x ∈ a.got.recs, ∀ r, x.2 ≠ .seamPair r) → s.cnp.started = false → ∃ t, exec .firstLeafApply s = .next t ∧ t.cnp.started = true ∧
        t.mb.epoch = (if s.epochBase = 0xFFFF then 1 else s.epochBase + 1)) ∧
    (s.paired = true → s.seam.role = .start → s.seam.upLanes = [] → s.seam.other = false → s.seam.startAt + 7000000 ≤ s.mono →
      s.cnp.started = false → ∃ t, exec .roleChoiceTimeout s = .next t ∧ t.cnp.started = true ∧
        t.mb.epoch = (if s.epochBase = 0xFFFF then 1 else s.epochBase + 1)) ∧
    (∀ f, s.SeamTakes 4 f → s.gtr.unfit = false → ∃ t, exec (.release f) s = .next t ∧ t.cnp.started = true ∧
      t.mb.epoch = (if s.seam.mir.epoch.getD s.mb.epoch = 0xFFFF then 1 else s.seam.mir.epoch.getD s.mb.epoch + 1)) ∧
    (∀ c ∈ [Instr.powerOnReset 0, .powerOnReset 1, .brownOut, .pinReset 1000], ∃ t, exec c s = .next t ∧ t.mb.epoch = s.mb.epoch)

/-- A root secret regenerated with more than 8 % of the bits corrected sets MARGIN and raises the Cloak-margin event (R390). -/
def Obligations.CloakMarginTold : Prop :=
  ∀ (s : State) (h : Hold) (bad rest : List RootTry) (r : RootTry), s.rst.hold = some h → h.level < 2 → h.at_ + h.least ≤ s.mono →
    s.gld.pwren = true → s.fuses.mapOk = true → bad.length < 4 →
    s.fuses.fwOk = true → (∀ x ∈ bad, s.clk.rootGood s.fuses.devId x = false) → s.clk.rootGood s.fuses.devId r = true →
    ∃ t, exec (.releaseSequence (bad ++ r :: rest)) s = .next t ∧ t.clk.ready = true ∧ t.clk.attempts = bad.length + 1 ∧
      t.clk.margin = decide (8 * 32768 < 100 * r.errors) ∧ (8 * 32768 < 100 * r.errors → t.told .cloakMargin)

/-- A DATA frame for the controller whose payload CRC fails is answered with NACK and NOISE where at least a quarter of the payload symbols
were erasures, and not otherwise (R345); a symbol is an erasure by R340. -/
def Obligations.NoisyFramesNacked : Prop :=
  ∀ (s : State) (nbr : Option (Fin 64)) (h pay : List Byte) (energy : Nat) (xs : List Int) (ft tm total erased : Nat), s.brmOn = true →
    h = leBytes 1 ft ++ leBytes 1 tm ++ leBytes 2 pay.length ++ [0xFF, 0, 0] → 28 ≤ pay.length → pay.length ≤ 252 →
    ((ft = 4 ∧ tm = 0 ∧ total = paySymbols pay.length 0 true) ∨ (ft = 0 ∧ tm < 16 ∧ ∃ n, nbr = some n ∧ s.brm.nbr[n].st ≠ .empty ∧
      ∃ m, s.brm.nbr[n].rx.find? (fun m => m.2 == tm) = some m ∧ 14 ≤ toneBits m.1 ∧ total = paySymbols pay.length (toneBits m.1) false)) →
    erased = ((List.range total).filter (symErased (s.cfg.brmGlobal.getD {}).blankThr xs)).length →
    leAt pay (pay.length - 4) 4 ≠ crc32c (pay.take (pay.length - 4)) →
    (leAt pay 5 1 = 0 → total ≤ 4 * erased → ∃ t, exec (.fchReceive (h ++ leBytes 1 (crc8 h)) nbr energy pay xs) s = .next t ∧
      t.out = s.out ++ [.brm (.frame { fch := fchBytes 2 false 0 0 (s.bctx.zcd (s.mono + 1152)) (leAt pay (pay.length - 4) 1 % 128 + 128), atten := (s.cfg.brmGlobal.getD {}).txLevel } (s.mono + 1152))]) ∧
    ((4 * erased < total ∨ leAt pay 5 1 ≠ 0) → ∃ t, exec (.fchReceive (h ++ leBytes 1 (crc8 h)) nbr energy pay xs) s = .next t ∧ t.out = s.out)

/-- Canopy's tick, its solve and the release of its frames (R26, R28, R50, R52, R60, R88, R89, R104, R113). -/
def Obligations.CanopyTicksAndSolves : Prop :=
  ∀ s : State, s.canopyOn = true →
    (∃ t, exec .canopyTick s = .next t ∧ t.cnp.tick = (s.cnp.tick + 1) % 2 ^ 32 ∧ t.cnp.ticks = s.cnp.ticks + 1 ∧
      (s.clearing = true → t.cnp.mode = .clearing ∧ t.cnp.work = none ∧
        ∃ r, t.cnp.ready = some r ∧ r.tick = t.cnp.tick ∧ (∀ e ∈ r.entries, e.sp = 0 ∧ e.sel = 0xF) ∧ ∀ a ∈ r.alloc, a.2 = 0) ∧
      (s.clearing = false → s.cnp.restore = none → t.cnp.mode = if s.cnp.restIn then .run else .reduced)) ∧
    (∀ w us x, s.cnp.work = some w → us ≤ 600 →
      (optimumOk w x = true → ∃ t, exec (.solveComplete us (.optimum x)) s = .next t ∧ t.cnp.work = none ∧ t.cnp.timeLast = us ∧
        t.cnp.timeMax = max s.cnp.timeMax us ∧ (∃ r, t.cnp.ready = some r ∧ r.tick = w.tick) ∧
        t.cnp.result = (if w.released then .infeasible else .optimal)) ∧
      (certificateOk w x = true → ∃ t, exec (.solveComplete us (.certificate x)) s = .next t ∧ t.cnp.work = none ∧
        t.cnp.result = .infeasible ∧ t.cnp.certCarry = true ∧ ∃ r, t.cnp.ready = some r ∧ r.tick = w.tick)) ∧
    (∀ w x, s.cnp.work = some w → s.cnp.workAt + 720 ≤ s.mono → ∃ t, exec (.solveBudgetExpired x) s = .next t ∧
      t.cnp.work = none ∧ t.cnp.timeLast = 600 ∧ t.cnp.cntBudget = satInc 16 s.cnp.cntBudget ∧ t.told .canopyBudget ∧
      ∃ r, t.cnp.ready = some r ∧ r.tick = w.tick) ∧
    (∀ r, s.cnp.ready = some r → s.seam.role ≠ .taking → 0 < s.cnp.ticks → ∃ t, exec .groupFrameRelease s = .next t ∧
      t.cnp.sent = some r ∧ t.cnp.ready = none ∧ t.cnp.cntBudget = s.cnp.cntBudget ∧ t.mb.seq = s.seqNow ∧
      ∀ b : Fin 4, b.val < s.fuses.variant.buses → s.mb.bus[b].fcs ≠ .off → s.mb.bus[b].fcs ≠ .busOff → ∀ j : Fin 4, j.val ∈ groupsOf b r.entries →
        t.mb.bus[b].txGrp[j] = some { id := 0x010 + j.val, data := groupFrame s.mb.epoch s.seqNow b j r.entries, seq := s.seqNow })

/-- The timers of Canopy's modules, ports, intake and buffer (R43, R47, R66, R68, R71, R83, R84). -/
def Obligations.CanopyTimersAct : Prop :=
  ∀ s : State, s.canopyOn = true →
    (∀ pm : Fin 256, s.cnp.mods[pm].st = .engaging → s.cnp.mods[pm].engagedAt + (s.cfg.cnpGlobal.getD {}).tSel * 1000 ≤ s.mono →
      ∃ t, exec (.selectionTimeout pm) s = .next t ∧ t.told .selectionTimeout ∧
        t.cnp.mods[pm] = { s.cnp.mods[pm] with st := .free, sel := 0xF, selFail := satInc 4 s.cnp.mods[pm].selFail }) ∧
    (∀ (p : Fin 12) (n : Nat), s.releaseDue p = true → releaseChoice s.cnpIn s.cnp p (fun _ => true) = some n →
      ∃ t, exec (.releaseHoldExpiry p) s = .next t ∧ t.cnp.ports[p] = { s.cnp.ports[p] with relTicks := 0 } ∧
        t.cnp.mod n = { s.cnp.mod n with st := .releasing, byRule := true } ∧ ∀ m, m ≠ n → t.cnp.mod m = s.cnp.mod m) ∧
    (∀ (pm : Fin 256) (t0 : Nat), s.cnp.mods[pm].st = .blocked → s.cnp.mods[pm].lost = false → s.cnp.mods[pm].holdUntil ≤ s.mono →
      s.cnp.mods[pm].okSince = some t0 → t0 + 10000000 ≤ s.mono → ∃ t, exec (.blockRelease pm) s = .next t ∧
        t.cnp.mods[pm] = { s.cnp.mods[pm] with st := .free, holdUntil := 0, okSince := none }) ∧
    (∀ (p : Fin 12) (i : Int), s.cnp.ports[p].ceilRef = some i → 250 ≤ s.cnp.ports[p].ceilTicks →
      ∃ t, exec (.ceilingRefExpiry p) s = .next t ∧ t.cnp.ports[p] = { s.cnp.ports[p] with ceilRef := none, ceilTicks := 0 }) ∧
    ((s.cfg.cnpIntake.getD {}).srcHost = false → ∀ w : Int, ∃ t, exec (.intakeMeasurement w) s = .next t ∧
      t.cnp.pMeas = (w : Rat) / 1000 ∧ t.cnp.measAt = s.mono ∧ t.cnp.measStale = false ∧
      t.cnp.lx = t.cnp.u + ((s.cfg.cnpIntake.getD {}).gMargin : Rat) + s.cnp.tau ∧
      ((s.cnp.measStale = true ∨ s.cnp.u < (w : Rat) / 1000 - s.cnpIn.pModel s.cnp) →
        t.cnp.u = max 0 ((w : Rat) / 1000 - s.cnpIn.pModel s.cnp))) ∧
    (s.cnp.measStale = false → s.cnp.measAt + (s.cfg.cnpIntake.getD {}).measTmo * 1000 ≤ s.mono →
      ∃ t, exec .intakeStale s = .next t ∧ t.told .intakeStale ∧ t.cnp.measStale = true ∧ t.cnp.tau = s.cnp.tau ∧
        t.cnp.lx = ((s.cfg.cnpIntake.getD {}).lStale : Rat) / 10) ∧
    (s.hasBuffer = true → s.cnp.socStale = false → s.cnp.socAt + (s.cfg.cnpBuffer.getD {}).socTmo * 100000 ≤ s.mono →
      ∃ t, exec .bufferStale s = .next t ∧ t.told .bufferStale ∧ t.cnp = { s.cnp with socStale := true })

/-- The host's writes of Canopy's registers (R63, R69, R71, R73, R74): FREEZE only after a diagnostic boot, a host measurement only with SRC
= 1, the buffer registers only with buffer-role modules; else NOT_IN_STATE and nothing of Canopy changes. -/
def Obligations.CanopyHostWrites : Prop :=
  ∀ s : State,
    (s.HostReady 0x8000 →
      (∀ on : Bool, (on = s.cnp.freeze ∨ bitOf 3 s.img.strap = true) → ∃ t, exec (.freezeWrite on) s = .next t ∧
        t.cnp = { s.cnp with freeze := on } ∧ t.answered .ok []) ∧
      (∀ on : Bool, on ≠ s.cnp.freeze → bitOf 3 s.img.strap = false → ∃ t, exec (.freezeWrite on) s = .next t ∧
        t.cnp = s.cnp ∧ t.answered .notInState []) ∧
      (∃ t, exec .clrMax s = .next t ∧ t.cnp = { s.cnp with timeMax := 0 } ∧ t.answered .ok [])) ∧
    (s.HostReady 0x802C → ∀ w : Word,
      ((s.cfg.cnpIntake.getD {}).srcHost = true → ∃ t, exec (.pmeasHostWrite w) s = .next t ∧ t.cnp.pmeasHost = dec 32 w.toNat ∧
        t.cnp.pMeas = (dec 32 w.toNat : Rat) / 10 ∧ t.cnp.measAt = s.mono ∧ t.cnp.measStale = false ∧ t.answered .ok []) ∧
      ((s.cfg.cnpIntake.getD {}).srcHost = false → ∃ t, exec (.pmeasHostWrite w) s = .next t ∧ t.cnp = s.cnp ∧ t.answered .notInState [])) ∧
    (s.HostReady 0x8030 → ∀ w : Word,
      (s.hasBuffer = true → ∃ t, exec (.bufSocWrite w) s = .next t ∧ t.answered .ok [] ∧
        t.cnp = { s.cnp with bufSocW := min 10000 (w.toNat % 2 ^ 14), soc := min 10000 (w.toNat % 2 ^ 14), socAt := s.mono, socStale := false }) ∧
      (s.hasBuffer = false → ∃ t, exec (.bufSocWrite w) s = .next t ∧ t.cnp = s.cnp ∧ t.answered .notInState [])) ∧
    (s.HostReady 0x8034 → ∀ w : Word,
      (s.hasBuffer = true → ∃ t, exec (.bufRefWrite w) s = .next t ∧ t.cnp = { s.cnp with bufRef := dec 32 w.toNat } ∧ t.answered .ok []) ∧
      (s.hasBuffer = false → ∃ t, exec (.bufRefWrite w) s = .next t ∧ t.cnp = s.cnp ∧ t.answered .notInState []))

/-- Receipt and transmission on a module bus: the high-priority buffer, the receive queue of 64 entries, frames that break the profile, one-
shot results, bus-off and the port limit frame (R99, R100, R101, R103, R105, R106, R108, R119). -/
def Obligations.BusMovesFrames : Prop :=
  (∀ (s : State) (b : Fin 4) (f : CanFrame), s.busOn b = true → f.resRecessive = false → f.flaw = .none → f.ext = false → f.rtr = false →
    ((f.id &&& (s.busRec b).hpMask) = ((s.busRec b).hpId &&& (s.busRec b).hpMask) → profileOk b f.id f.data = true →
      ∃ t, exec (.canFrameReceive b f) s = .next t ∧ t.told .priorityFrame ∧
        t.mb.bus[b].hpBuf = some { id := f.id, data := f.data, ts := s.tb % 2 ^ 32, at_ := s.mono } ∧ t.mb.bus[b].hpId = f.id ∧
        t.mb.bus[b].hpNew = true ∧ t.mb.bus[b].hpOvr = (s.mb.bus[b].hpOvr || s.mb.bus[b].hpNew) ∧
        t.mb.bus[b].rxq = s.mb.bus[b].rxq) ∧
    ((f.id &&& (s.busRec b).hpMask) ≠ ((s.busRec b).hpId &&& (s.busRec b).hpMask) → (s.mb.bus[b]).accepts f.id = true → (isAnnounce f.id = true → s.answersAnnounce = true) →
      (profileOk b f.id f.data = true → s.mb.bus[b].rxq.length < 64 → ∃ t, exec (.canFrameReceive b f) s = .next t ∧
        t.mb.bus[b].rxq = s.mb.bus[b].rxq ++ [{ id := f.id, data := f.data, ts := s.tb % 2 ^ 32, at_ := s.mono }]) ∧
      (profileOk b f.id f.data = true → 64 ≤ s.mb.bus[b].rxq.length → ∃ t, exec (.canFrameReceive b f) s = .next t ∧
        t.mb.bus[b].rxq = s.mb.bus[b].rxq ∧ t.mb.bus[b].ovf = satInc 8 s.mb.bus[b].ovf) ∧
      (profileOk b f.id f.data = false → ∃ t, exec (.canFrameReceive b f) s = .next t ∧
        t.mb.bus[b].rxq = s.mb.bus[b].rxq ∧ t.mb.bus[b].badLen = satInc 8 s.mb.bus[b].badLen))) ∧
  (∀ (s : State) (b : Fin 4),
    (s.busOn b = true → s.listens b = false → ∀ (j : Fin 4) (f : TxFrame) (w : TxFlaw), s.mb.bus[b].txGrp[j] = some f → s.mb.bus[b].mayEnd j = true →
      (∃ t, exec (.oneShotResult b (j.castLE (by decide)) .ok w) s = .next t ∧ t.mb.bus[b].txGrp[j] = none ∧
        t.mb.bus[b].grpTx[j] = { result := .ok, seq := f.seq, ts := s.tb % 2 ^ 32 } ∧ Sends (.can b f.id f.data) s t) ∧
      (s.standby = false → ∀ e : Fin 16, ∃ t, exec (.oneShotResult b (j.castLE (by decide)) .arbLost w) s = .next t ∧
        t.mb.bus[b].txGrp[j] = none ∧ t.mb.bus[b].arb = satInc 16 s.mb.bus[b].arb ∧ t.told .oneShotFail ∧
        (t.cnp.mod (64 * b.val + 16 * j.val + e.val)).sp = (s.cnp.mod (64 * b.val + 16 * j.val + e.val)).okSp)) ∧
    (s.busOn b = true → s.listens b = false → ∀ f rest w, s.mb.bus[b].txHold = f :: rest → s.mb.bus[b].mayEnd 4 = true → ∃ t, exec (.oneShotResult b 4 .ok w) s = .next t ∧
      t.mb.bus[b].txHold = rest ∧ Sends (.can b f.id f.data) s t) ∧
    (s.busOn b = true → s.listens b = false → ∀ f r w, s.mb.bus[b].txLimit = some f → s.mb.bus[b].mayEnd 5 = true → ∃ t, exec (.oneShotResult b 5 r w) s = .next t ∧
      t.mb.bus[b].txLimit = (if r = .ok then none else some f) ∧ (r = .ok → Sends (.can b f.id f.data) s t)) ∧
    (s.busOn b = true → s.listens b = false → ∀ f rest r w, s.mb.bus[b].txMgmt = f :: rest → s.mb.bus[b].mayEnd 6 = true → ∃ t, exec (.oneShotResult b 6 r w) s = .next t ∧
      t.mb.bus[b].txMgmt = (if r = .ok then rest else f :: rest) ∧ (r = .ok → Sends (.can b f.id f.data) s t)) ∧
    (s.busOn b = true → ∃ t, exec (.busOff b) s = .next t ∧ t.told .busOff ∧ t.mb.bus[b].fcs = .busOff ∧
      t.mb.bus[b].boff = satInc 16 s.mb.bus[b].boff) ∧
    (s.up = true → s.mb.bus[b].fcs = .busOff → ∃ t, exec (.busOffRecovery b) s = .next t ∧ t.told .busRecovered ∧
      t.mb.bus[b] = { s.mb.bus[b] with fcs := .active, tec := 0, recv := 0 }) ∧
    (s.canopyOn = true → s.busOn b = true →
      (s.mb.bus[b].limitVals ≠ s.vlims ∨ ∀ t0, s.mb.bus[b].limitAt = some t0 → t0 + 10000 ≤ s.mono) →
      ∃ t, exec (.portLimitFrameSend b) s = .next t ∧ t.mb.bus[b].limitVals = s.vlims ∧ t.mb.bus[b].limitAt = some s.mono ∧
        t.mb.bus[b].txLimit = some { id := 0x020, data := limitFrame s.mb.epoch s.seqNow b s.vlims, seq := s.seqNow }))

/-- Status frames, lost modules and ANNOUNCE (R21, R22, R120 to R124): the oldest frame of its kind leaves the receive queue and is judged;
the reply waits for its attempt. -/
def Obligations.BusJudgesModules : Prop :=
  ∀ (s : State) (b : Fin 4) (x : RxFrame) (q : List RxFrame), q = s.mb.bus[b].rxq.filter (fun y => isStatus y.id || isAnnounce y.id) →
    (s.cores = true → q.find? (fun y => isStatus y.id) = some x →
      let l := atD s.mb.bus[b].link (x.id - 0x100) {}
      (l.admitted = true → (l.last.map (·.scnt)) ≠ some (statusOf x).scnt → ∃ t, exec (.statusFrame b) s = .next t ∧
        t.mb.bus[b].rxq = q.erase x ∧ (atD t.mb.bus[b].link (x.id - 0x100) {}).last = some (statusOf x) ∧
        (atD t.mb.bus[b].link (x.id - 0x100) {}).lost = ((statusOf x).depart || l.lost) ∧
        (atD t.mb.bus[b].link (x.id - 0x100) {}).admitted = !(statusOf x).depart) ∧
      (l.admitted = false → ∃ t, exec (.statusFrame b) s = .next t ∧ t.mb.bus[b].rxq = q.erase x ∧
        t.mb.bus[b].unadm = satInc 8 s.mb.bus[b].unadm ∧ t.mb.bus[b].link = s.mb.bus[b].link)) ∧
    (∀ (a : Fin 64) (m : ModStatus), s.cores = true → s.mb.bus[b].link[a].admitted = true → s.mb.bus[b].link[a].last = some m →
      m.at_ + 35000 < s.mono → ∃ t, exec (.moduleLostTimeout (Fin.ofNat 256 (64 * b.val + a.val))) s = .next t ∧
        t.mb.bus[b].link[a] = { s.mb.bus[b].link[a] with lost := true, admitted := false, fresh := false, gone := true }) ∧
    (q.find? (fun y => isAnnounce y.id) = some x → s.answersAnnounce = true →
      let pm := 64 * b.val + (x.id - 0x740)
      let rec_ := s.cfg.cnpModule.find? (fun r => r.pm == pm)
      let l := atD s.mb.bus[b].link (x.id - 0x740) {}
      let res := announceResult rec_ l s.mono (leAt x.data 4 8) x.data (s.modulesFull b (rec_.any (·.buf)))
      (s.cnp.mode = .run ∨ rec_.isSome = true) → ∃ t, exec (.announce b) s = .next t ∧ t.mb.bus[b].rxq = q.erase x ∧
        (s.mb.bus[b].fcs ≠ .busOff → t.mb.bus[b].txMgmt =
          s.mb.bus[b].txMgmt ++ [{ id := 0x600, data := admitReply (x.id - 0x740) res (leAt x.data 4 8) }]) ∧
        (res = 0 → (atD t.mb.bus[b].link (x.id - 0x740) {}).admitted = true ∧
          (atD t.mb.bus[b].link (x.id - 0x740) {}).serial = leAt x.data 4 8 ∧ (l.admitted = false → t.told .partnerAdmitted)) ∧
        (res ≠ 0 → (atD t.mb.bus[b].link (x.id - 0x740) {}).refuse = res ∧
          (atD t.mb.bus[b].link (x.id - 0x740) {}).admitted = l.admitted ∧ t.told .partnerRefused))

/-- Pilot, proximity, contactors (R130, R131, R132, R135, R143, R153, R154): what each trigger does to its port where its condition holds. -/
def Obligations.PortTriggersAct : Prop :=
  ∀ (s : State) (p : Fin 12), s.stackUp p = true →
    (∀ x y z k, pilotClass s.ports[p].st.pwm x.hi x.lo = k → pilotClass s.ports[p].st.pwm y.hi y.lo = k →
      pilotClass s.ports[p].st.pwm z.hi z.lo = k → s.ports[p].cls ≠ some k →
      ((k = .b ∨ k = .c) → s.ports[p].st = .setup → ∃ t, exec (.pilotStateAccept p x y z) s = .next t ∧
        t.ports[p].cls = some k ∧ t.ports[p].st = .setup ∧ t.ports[p].hi = satI 10 z.hi ∧ t.ports[p].lo = satI 10 z.lo ∧
        t.ports[p].duty = min 1000 ((2 * (x.duty + y.duty + z.duty) + 3) / 6)) ∧
      (k ≠ .c → s.ports[p].st = .energy → s.ports[p].shortAt = none → ∃ t, exec (.pilotStateAccept p x y z) s = .next t ∧
        t.ports[p].st = .fault ∧ t.ports[p].endR = .pilot ∧ t.ports[p].faultAt = s.mono ∧ t.ports[p].gateReq = false)) ∧
    (∀ mv, (s.vp p).pxLo ≤ mv → mv ≤ (s.vp p).pxHi → s.ports[p].st = .setup →
      ∃ t, exec (.proximityChange p mv) s = .next t ∧ t.ports[p].prox = true ∧ t.ports[p].st = .setup) ∧
    (∀ mv, (s.vp p).pxHi < mv → s.ports[p].prox = true → s.ports[p].st = .energy → s.ports[p].shortAt = none →
      ∃ t, exec (.proximityChange p mv) s = .next t ∧ t.ports[p].prox = false ∧ t.ports[p].st = .fault ∧
        t.ports[p].endR = .proximity) ∧
    (s.ports[p].drive = .pull → s.ports[p].kCmdAt + (s.vp p).tPull * 10000 ≤ s.mono →
      ∃ t, exec (.contactorPullInExpiry p) s = .next t ∧ t.ports[p] = { s.ports[p] with drive := .hold }) ∧
    (∀ f0 f1, (f0 && f1) = false → s.ports[p].kCmd = true → s.ports[p].agreed = true → s.ports[p].st = .energy →
      s.ports[p].shortAt = none → 0 < (s.vp p).tFb →
      (s.ports[p].mis = .none → ∃ t, exec (.contactorDisagree p f0 f1) s = .next t ∧
        t.ports[p] = { s.ports[p] with k0 := f0, k1 := f1, mis := .since s.mono }) ∧
      (∀ t0, s.ports[p].mis = .since t0 → t0 + (s.vp p).tFb * 1000 ≤ s.mono →
        ∃ t, exec (.contactorDisagree p f0 f1) s = .next t ∧ t.ports[p].st = .fault ∧ t.ports[p].k0 = f0 ∧ t.ports[p].k1 = f1 ∧
          t.ports[p].endR = (if s.sleeveGate p then .dropped else .credit))) ∧
    (s.ports[p].kCmd = true → s.ports[p].st = .precharge → s.ports[p].pdMet = true → s.ports[p].shortAt = none →
      ∃ t, exec (.contactorsAgreeClosed p) s = .next t ∧ t.ports[p].st = .energy ∧ t.ports[p].k0 = true ∧ t.ports[p].k1 = true ∧
        t.ports[p].agreed = true ∧ t.ports[p].chkOn = false) ∧
    (s.ports[p].kCmd = false → s.ports[p].st = .opening →
      ∃ t, exec (.contactorsAgreeOpen p) s = .next t ∧ t.ports[p].st = .ended ∧ t.ports[p].k0 = false ∧ t.ports[p].k1 = false ∧
        t.ports[p].endR = s.ports[p].pendR) ∧
    (∀ t0, s.ports[p].abruptAt = some t0 → s.ports[p].kCmd = true →
      (s.ports[p].measI.natAbs < (s.vp p).iOpen * 10 ∨ t0 + 100000 ≤ s.mono) →
      ∃ t, exec (.abruptEndOpen p) s = .next t ∧ t.ports[p].kCmd = false ∧ t.ports[p].drive = .off ∧ t.ports[p].abruptAt = none) ∧
    (∀ d m, s.ports[p].failPend = some (d, m) → d ≤ s.mono →
      ∃ t, exec (.failedAnswerClose p) s = .next t ∧ t.ports[p].conn = none ∧ t.ports[p].failPend = none ∧
        Sends (.v2gClose p.val) s t)

/-- The timers and conditions of Table 5.6: the state that each leads to, and its end reason; after a declared short the check path goes off
and the port leaves its session with reason SHORT (R140, R143, R145 to R148). -/
def Obligations.PortTimersAct : Prop :=
  (∀ (s : State) (p : Fin 12), s.stackUp p = true → s.ports[p].shortAt = none →
    (s.ports[p].st = .link → s.ports[p].linkAt + (s.vp p).tLink * 1000000 ≤ s.mono →
      ∃ t, exec (.tLinkExpiry p) s = .next t ∧ t.ports[p].st = .fault ∧ t.ports[p].endR = .link) ∧
    (s.ports[p].st = .link → ∃ t, exec (.sdpRequest p) s = .next t ∧ t.ports[p].st = .setup ∧ t.ports[p].seqAt = s.mono ∧
      ∃ n, 49152 ≤ n ∧ n ≤ 65535 ∧ Sends (.sdp p.val (s.portPins p).link.phy n) s t) ∧
    (s.ports[p].st = .setup → (s.ports[p].auth = .asked ∨ s.ports[p].auth = .waiting) → s.ports[p].authAt + (s.vp p).tAuth * 1000000 ≤ s.mono →
      ∃ t, exec (.tAuthExpiry p) s = .next t ∧ t.ports[p].st = .ended ∧ t.ports[p].endR = .auth ∧ t.ports[p].auth = .none) ∧
    (∀ d, seqLimit s.ports[p].st = some d → s.ports[p].seqAt + d ≤ s.mono →
      ∃ t, exec (.sequenceTimerExpiry p) s = .next t ∧ t.ports[p].st = .fault ∧ t.ports[p].endR = .comm) ∧
    (s.ports[p].st = .check → s.ports[p].checkPassed = false → s.ports[p].checkAt + 20000000 ≤ s.mono →
      ∃ t, exec (.checkTimeout p) s = .next t ∧ t.ports[p].st = .fault ∧ t.ports[p].endR = .insulation ∧
        t.ports[p].cntInsul = satInc 8 s.ports[p].cntInsul) ∧
    (∀ t0, s.ports[p].checkOkSince = some t0 → t0 + (s.vp p).tImd * 100000 ≤ s.mono → s.ports[p].st = .check →
      s.ports[p].checkPassed = false → checkHolds (s.pctx p) = true →
      ∃ t, exec (.cableCheckPass p) s = .next t ∧ t.ports[p] = { s.ports[p] with checkPassed := true }) ∧
    (s.ports[p].st = .precharge → s.ports[p].pdAt = none → s.ports[p].pcAt + (s.vp p).tPc * 100000 ≤ s.mono →
      ∃ t, exec (.tPcExpiry p) s = .next t ∧ t.ports[p].st = .fault ∧ t.ports[p].endR = .precharge) ∧
    (∀ t0, s.ports[p].pdAt = some t0 → t0 + 1000000 ≤ s.mono → s.ports[p].st = .precharge → s.ports[p].pdMet = false →
      ∃ t, exec (.powerDeliveryConditionTimeout p) s = .next t ∧ t.ports[p].st = .fault ∧ t.ports[p].endR = .precharge) ∧
    (∀ t0, s.ports[p].shortSince = some t0 → t0 + (s.vp p).tSc * 10000 ≤ s.mono →
      (s.ports[p].st = .check ∨ s.ports[p].st = .precharge) → (s.vp p).chkCu ≠ 0xFF →
      ∃ t, exec (.shortDeclared p) s = .next t ∧ t.ports[p].phaseOff = true ∧ t.ports[p].shortAt = some s.mono ∧
        t.ports[p].cntShort = satInc 8 s.ports[p].cntShort ∧ t.ports[p].st = s.ports[p].st) ∧
    (s.ports[p].st = .stopping →
      (s.ports[p].measI.natAbs < (s.vp p).iOpen * 10 ∨ s.ports[p].stopAt + (s.vp p).tStop * 100000 ≤ s.mono) →
      ∃ t, exec (.stopRampComplete p) s = .next t ∧ t.ports[p].st = .opening ∧ t.ports[p].kCmd = false ∧
        t.ports[p].drive = .off) ∧
    (s.ports[p].st = .fault → s.ports[p].prox = false → s.ports[p].faultAt + 5000000 ≤ s.mono →
      ∃ t, exec (.faultMinTimeExpiry p) s = .next t ∧ t.ports[p] = { s.ports[p] with st := .idle, cls := none })) ∧
  (∀ (s : State) (p : Fin 12) (t0 : Nat), s.stackUp p = true → s.ports[p].shortAt = some t0 →
    (s.ports[p].measI.natAbs < 5 ∨ t0 + 20000 ≤ s.mono) →
    ∃ t, exec (.shortCheckPathOff p) s = .next t ∧ t.ports[p].chkOn = false ∧ t.ports[p].endR = .short ∧
      t.ports[p].st = (if 3 ≤ (lastTenMin s.mono s.ports[p].lockTimes).length + 1 then .locked else .fault))

/-- Connections and messages of the vehicle (R139, R140, R145, R146, R148 to R151, R155, R156): each is answered in the state that Table 5.8
allows it, and the port goes on as Table 5.6 says. -/
def Obligations.VehicleMessagesAct : Prop :=
  ∀ (s : State) (p : Fin 12), s.stackUp p = true →
    (s.ports[p].conn = none → s.ports[p].st = .setup →
      (∀ (isn : Nat) (tls : Option TlsHello), (∀ h, tls = some h → h.ok = true) → (tls = none ∨ s.serviceKey 0 = true) →
        ∃ t, exec (.v2gConnectionOpen p isn tls) s = .next t ∧ t.ports[p] = { s.ports[p] with conn := some { tls := tls.isSome } } ∧
          t.v2g[p].seqIn = (isn + 1) % 2 ^ 32 ∧ t.v2g[p].tls = tls.isSome ∧ t.v2g[p].recIn = 0 ∧ t.v2g[p].recOut = 0) ∧
      (∀ (isn : Nat) (h : TlsHello), (s.serviceKey 0 = false ∨ h.ok = false) → ∃ t, exec (.v2gConnectionOpen p isn (some h)) s = .next t ∧
        t.ports[p].conn = none ∧ t.ports[p].st = .ended ∧ t.ports[p].endR = .tls ∧ t.v2g[p] = {} ∧
        (s.serviceKey 0 = false → t.told .keyMissing))) ∧
    (∀ k, s.ports[p].conn = some k → s.ports[p].failPend = none →
      (s.ports[p].st = .energy → s.ports[p].shortAt = none →
        ∃ t, exec (.v2gConnectionClosed p) s = .next t ∧ t.ports[p].conn = none ∧ t.ports[p].st = .fault ∧
          t.ports[p].endR = .comm) ∧
      (s.ports[p].st = .setup →
        ∃ t, exec (.tlsHandshakeFail p) s = .next t ∧ t.ports[p].conn = none ∧ t.ports[p].st = .ended ∧ t.ports[p].endR = .tls) ∧
      (∀ (h : V2gHead) (offers : List Proto) (o : Proto), h.formOk = true → h.len ≤ 16376 → h.exiOk = true →
        (k.sid = none ∨ k.sid = some h.sid) → (k.app = true → k.sid ≠ none) → s.ports[p].st = .setup →
        offers.find? (s.pctx p).carries = some o →
        ∃ t, exec (.supportedAppProtocolReq p h offers) s = .next t ∧ t.ports[p].proto = some o ∧
          t.ports[p].seqAt = s.mono ∧ Sends (.v2g p.val { req := .appProtocol, code := .ok, proto := some o }) s t) ∧
      (∀ h : V2gHead, h.formOk = true → h.len ≤ 16376 → h.exiOk = true → k.app = true → s.ports[p].st = .setup →
        s.clk.rngFail = false →
        ∃ t, exec (.sessionSetupReq p h) s = .next t ∧ t.ports[p].sess = s.sessNext % 2 ^ 32 ∧
          t.sessNext = (s.sessNext + 1) % 2 ^ 32 ∧
          t.ports[p].sid = leNat (beBytes 4 (s.sessNext % 2 ^ 32)) + (Config.freeValue s.fresh % 2 ^ 32) * 2 ^ 32)) ∧
    (∀ h, s.V2gReady p h →
      (s.ports[p].st = .setup →
        (∃ t, exec (.serviceDiscoveryReq p h) s = .next t ∧ t.ports[p] = { s.ports[p] with seqAt := s.mono } ∧
          Sends (.v2g p.val {
            req := .serviceDiscovery, code := .ok, sid := s.ports[p].sid, proto := s.ports[p].proto,
            bpt := (s.vp p).bpt && decide (s.ports[p].proto = some .iso20) }) s t) ∧
        (∃ t, exec (.serviceSelectionReq p h false) s = .next t ∧ t.ports[p] = { s.ports[p] with seqAt := s.mono, bpt := false }) ∧
        (s.ports[p].auth = .given → ∀ pnc tok cert, ∃ t, exec (.authorizationReq p h pnc tok cert) s = .next t ∧
          t.ports[p] = { s.ports[p] with seqAt := s.mono } ∧
          Sends (.v2g p.val { req := .authorization, code := .finished, sid := s.ports[p].sid, proto := s.ports[p].proto, bpt := s.ports[p].bpt, v := s.ports[p].measV }) s t) ∧
        (s.ports[p].auth = .given → s.gtr.gates[p].en = true → ∀ v i, ∃ t, exec (.cableCheckReq p h v i) s = .next t ∧
          t.ports[p].st = .check ∧ t.ports[p].checkAt = s.mono ∧ t.ports[p].evV = sat 16 v ∧ t.ports[p].evI = sat 16 i ∧
          t.ports[p].reported = true) ∧
        ((s.vp p).pnc = true → s.ports[p].proto = some .iso20 → ∃ t, exec (.certificateInstallationReq p h) s = .next t ∧
          t.ports[p] = { s.ports[p] with seqAt := s.mono })) ∧
      (s.ports[p].st = .check → s.ports[p].checkPassed = true → ∀ v i, ∃ t, exec (.preChargeReq p h v i) s = .next t ∧
        t.ports[p].st = .precharge ∧ t.ports[p].tgtV = sat 16 v ∧ t.ports[p].tgtI = satI 16 i ∧ t.ports[p].pcAt = s.mono) ∧
      (s.ports[p].st = .energy →
        (∃ t, exec (.powerDeliveryReq p h false) s = .next t ∧ t.ports[p].st = .stopping ∧ t.ports[p].pendR = .vehicle ∧
          t.ports[p].tgtI = 0 ∧ t.ports[p].vehStop = true) ∧
        (∀ r, ∃ t, exec (.chargeLoopReq p h r) s = .next t ∧ t.ports[p].st = .energy ∧ t.ports[p].tgtI = satI 16 r.tgtI ∧
          t.ports[p].evI = sat 16 r.maxI ∧ t.ports[p].evP = r.maxP ∧ t.ports[p].evDis = r.disI ∧ t.ports[p].seqAt = s.mono ∧
          t.ports[p].looped = true ∧ t.ports[p].dynamic = (r.dynamic && decide (s.ports[p].proto = some .iso20))) ∧
        (∃ t, exec (.sessionStopReq p h) s = .next t ∧ t.ports[p].st = .stopping ∧ t.ports[p].pendR = .vehicle)))

/-- Credit, host writes and the 1 ms step of a port (R133, R144, R153, R157). -/
def Obligations.PortHostActs : Prop :=
  ∀ (s : State) (p : Fin 12),
    (s.stackUp p = true → s.ports[p].st = .energy →
      ∃ t, exec (.creditNotice p) s = .next t ∧ t.ports[p].st = .stopping ∧ t.ports[p].pendR = .credit ∧ t.ports[p].tgtI = 0) ∧
    (s.stackUp p = true → s.clearing = true → s.ports[p].st.inSession = true → 0 < (s.vp p).tFb →
      (s.ports[p].kCmd = false → s.ports[p].mis = .none) →
      ∃ t, exec (.portStep p []) s = .next t ∧ t.ports[p].st = .fault ∧ t.ports[p].endR = .clearing ∧ t.ports[p].kCmd = false) ∧
    (s.HostReady (vpCtrlAddr p) → s.portUp p = true →
      (s.ports[p].st = .idle → ∃ t, exec (.portEnableWrite p false) s = .next t ∧ t.ports[p].enable = false ∧
        t.ports[p].st = .disabled ∧ t.answered .ok []) ∧
      (s.ports[p].st = .energy → ∃ t, exec (.portStop p) s = .next t ∧ t.ports[p].st = .stopping ∧ t.ports[p].pendR = .host ∧
        t.ports[p].portStop = true ∧ t.answered .ok []) ∧
      (s.ports[p].st = .locked → s.ports[p].enable = true → s.ports[p].k0 = false → s.ports[p].k1 = false →
        ∃ t, exec (.clrLock p) s = .next t ∧ t.ports[p].st = .idle ∧ t.answered .ok []) ∧
      (∀ w : Word, s.ports[p].inBpt = true → ∃ t, exec (.bptTgtWrite p w) s = .next t ∧ t.ports[p].bptTgt = dec 16 w.toNat ∧
        t.ports[p].bptValid = bitOf 16 w.toNat ∧ t.answered .ok []))

/-- The cable sensors and the thermal twin of a port (R159 to R164, R170). -/
def Obligations.TwinActs : Prop :=
  ∀ (s : State) (p : Fin 12),
    (s.inputsUp p = true →
      (∀ (k : Fin 3) (ohm : Nat) (v : Int), 800 ≤ ohm → ohm ≤ 1900 → (s.twins[p].input k).fault = false →
        ∃ t, exec (.tempMeasurement p k ohm v) s = .next t ∧
          t.twins[p].input k = { s.twins[p].input k with t := satI 16 v, run := 0, seen := true }) ∧
      (∀ (k : Fin 2) (ohm : Nat) (v : Int) (c : TwCable), (ohm < 800 ∨ 1900 < ohm) → (s.twins[p].input k).fault = false →
        2 ≤ (s.twins[p].input k).run → s.cable p = some c → ∃ t, exec (.tempMeasurement p (k.castLE (by decide)) ohm v) s = .next t ∧
          (t.twins[p].input k).fault = true ∧ t.twins[p].fast = true ∧ t.told .cableSensorFault) ∧
      (∀ (t0 : Nat) (c : TwCable), s.twins[p].lastEdge = some t0 → t0 < s.mono → s.cable p = some c →
        ∃ t, exec (.flowPulseEdge p) s = .next t ∧ t.twins[p].lastEdge = some s.mono ∧
          t.twins[p].q = 60 * 1000000 / ((c.kFlow : Rat) * ((s.mono - t0 : Nat) : Rat)) ∧
          t.twins[p].flFault = (s.twins[p].flFault || decide (22 < (edgesIn s.mono s.twins[p].edges).length + 1))) ∧
      ((∀ t0, s.twins[p].lastEdge = some t0 → t0 + 2000000 ≤ s.mono) → ∃ t, exec (.flowTimeout p) s = .next t ∧
        t.twins[p] = { s.twins[p] with q := 0 }) ∧
      (s.twins[p].flFault = true → s.twins[p].flHighAt + 1000000 ≤ s.mono → ∃ t, exec (.flowFaultClear p) s = .next t ∧
        t.twins[p] = { s.twins[p] with flFault := false })) ∧
    (s.stackUp p = true → ∀ c : TwCable, s.cable p = some c →
      (s.twins[p].started = false → s.twins[p].ta.valid = false → s.twins[p].tb.valid = false →
        ∃ t, exec (.thermalEvaluation p) s = .next t ∧ t.twins[p].cTh = (
          if s.twins[p].capSet then
            (if s.twins[p].ta.fault || s.twins[p].tb.fault || (c.pinEn && s.twins[p].tc.fault)
              then min s.twins[p].cTh (gridDown (s.rating p) (s.rating p * c.failCap / 100)) else s.twins[p].cTh)
          else 0) ∧ t.twins[p].nTicks = 0) ∧
      (s.twins[p].started = true → s.twins[p].seeded = true → s.twins[p].seedAt ≠ some s.mono → ∃ t, exec (.thermalEvaluation p) s = .next t ∧
        t.twins[p].nodes = twinRun c (if s.twins[p].nTicks = 0 then 0 else s.twins[p].sumI2 / (s.twins[p].nTicks : Rat))
          (qOfModel s.twins[p]) (tLocOf c s.twins[p]) (2 * s.twins[p].nTicks) s.twins[p].nodes ∧
        t.twins[p].iAllow = iAllowOf c (s.rating p) (qOfModel s.twins[p]) (tLocOf c s.twins[p]) t.twins[p].nodes ∧
        t.twins[p].sumI2 = 0 ∧ t.twins[p].nTicks = 0 ∧
        (s.twins[p].capSet = false → t.twins[p].cTh = gridDown (s.rating p) t.twins[p].iAllow))) ∧
    (s.stackUp p = true → ∀ (c : TwCable) (t0 : Nat), s.cable p = some c → s.twins[p].quietSince = some t0 → t0 + 10000000 ≤ s.mono →
      s.twins[p].fast = true → fastCond c s.mono s.twins[p] = false → ∃ t, exec (.fastModeExit p) s = .next t ∧
        t.twins[p] = { s.twins[p] with fast := false })

/-- A sample of a loop and its way out of FAULT (R175, R176, R179). -/
def Obligations.LoopsSample : Prop :=
  ∀ (s : State) (n : Fin 64) (r : CpcLoop), s.side = true → s.cpc.loops[n].recd = some r → s.cpc.loops[n].lastAt ≠ some s.mono →
    s.cpc.parent n = none →
    (∀ pv, s.cpc.loops[n].st = .auto → s.cpc.loops[n].preset = false → s.cpc.inj = none → s.loopPv n r = some pv →
      s.sinkBad r = false → s.cpc.loops[n].sinkf = false → r.outSnk = 0 → n.val < 62 → ∃ t, exec (.loopSample n) s = .next t ∧
        let x := pidStep s.cpc.loops[n] r s.cpc.loops[n].sp (filtered s.cpc.loops[n] r pv) (loMin s.cpc.loops[n] r (s.loopFast n)) 0 false
        t.cpc.loops[n].int = x.1 ∧ t.cpc.loops[n].out = x.2.1 ∧ t.cpc.loops[n].held = x.2.2 ∧ t.cpc.loops[n].st = .auto ∧
        t.cpc.loops[n].pvf = filtered s.cpc.loops[n] r pv) ∧
    (s.cpc.loops[n].st = .manual → s.loopPv n r = none → r.safeHold = false → n.val < 62 → ∃ t, exec (.loopSample n) s = .next t ∧
      t.cpc.loops[n].st = .fault ∧ t.cpc.loops[n].out = r.outSafe ∧ t.told .loopFault ∧
      t.cpc.loops[n].faults = satInc 16 s.cpc.loops[n].faults) ∧
    (∀ t0, s.cpc.loops[n].st = .fault → s.cpc.loops[n].validSince = some t0 → t0 + 1000000 ≤ s.mono →
      (s.cpc.loops[n].mode = 0 → ∃ t, exec (.loopFaultRecovery n) s = .next t ∧
        t.cpc.loops[n] = { s.cpc.loops[n] with st := .off, out := r.outSafe }) ∧
      (s.cpc.loops[n].mode = 1 → ∃ t, exec (.loopFaultRecovery n) s = .next t ∧
        t.cpc.loops[n] = { s.cpc.loops[n] with st := .manual }) ∧
      (s.cpc.loops[n].mode = 2 → ∃ t, exec (.loopFaultRecovery n) s = .next t ∧
        t.cpc.loops[n] = { s.cpc.loops[n] with st := .auto, preset := true }))

/-- Host writes of a loop's registers, where a value that is not finite is refused with BAD_VALUE, and the injection, which starts where its
loop allows it and stops by the host or at its end (R176, R178, R183, R184, R189, Table 6.6). -/
def Obligations.LoopWritesAct : Prop :=
  (∀ (s : State) (n : Fin 64) (r : CpcLoop) (w : Word), s.HostReady 0x41000 → s.cpc.loops[n].recd = some r →
    (w.toNat % 4 = 1 → s.cpc.loops[n].st = .off → ∃ t, exec (.loopModeWrite n w) s = .next t ∧
      t.cpc.loops[n] = { s.cpc.loops[n] with mode := 1, st := .manual, man := r.outSafe } ∧ t.answered .ok []) ∧
    (w.toNat % 4 = 3 → ∃ t, exec (.loopModeWrite n w) s = .next t ∧ t.cpc = s.cpc ∧ t.answered .badValue []) ∧
    (fFinite w.toNat = true → ∃ t, exec (.loopCoeffWrite n .kp w) s = .next t ∧
      t.cpc.loops[n] = { s.cpc.loops[n] with kp := w.toNat } ∧ t.answered .ok []) ∧
    (fFinite w.toNat = true → flt w.toNat s.cpc.loops[n].outMax = true → ∃ t, exec (.loopCoeffWrite n .outMin w) s = .next t ∧
      t.cpc.loops[n] = { s.cpc.loops[n] with outMin := w.toNat } ∧ t.answered .ok []) ∧
    (∀ k, fFinite w.toNat = false → ∃ t, exec (.loopCoeffWrite n k w) s = .next t ∧ t.cpc = s.cpc ∧ t.answered .badValue []) ∧
    (fFinite w.toNat = true → s.cpc.loops[n].st = .manual → ∃ t, exec (.loopManWrite n w) s = .next t ∧
      t.cpc.loops[n] = { s.cpc.loops[n] with man := w.toNat } ∧ t.answered .ok []) ∧
    (fFinite w.toNat = true → s.cpc.loops[n].st ≠ .manual → ∃ t, exec (.loopManWrite n w) s = .next t ∧ t.cpc = s.cpc ∧
      t.answered .notInState []) ∧
    (fFinite w.toNat = true → ∃ t, exec (.loopPvhWrite n w) s = .next t ∧
      t.cpc.loops[n] = { s.cpc.loops[n] with pvh := w.toNat } ∧ t.answered .ok [])) ∧
  (∀ s : State,
    (∀ r, s.HostReady 0x40010 → injRangeOk s.cpc = true → s.cpc.injLoop < 64 → s.cpc.injOrder < 4 → s.cpc.injHold < 256 →
      s.cpc.inj = none → (s.cpc.loop s.cpc.injLoop).recd = some r → r.test = true →
      ((s.cpc.loop s.cpc.injLoop).st = .manual ∨ (s.cpc.loop s.cpc.injLoop).st = .auto) → s.clearing = false →
      s.loopFast s.cpc.injLoop = false → ∃ t j, exec .injectionStart s = .next t ∧ t.cpc.inj = some j ∧ j.loop = s.cpc.injLoop ∧
        j.len = s.cpc.injLen ∧ j.k = 0 ∧ j.lfsr = 2 ^ prbsOrder s.cpc.injOrder - 1 ∧ t.cpc.cap = [] ∧ t.cpc.capState = 1 ∧
        t.answered .ok []) ∧
    (∀ j, s.HostReady 0x40010 → s.cpc.inj = some j → ∃ t, exec .injectionStop s = .next t ∧ t.cpc.inj = none ∧ t.cpc.capState = 3 ∧
      t.cpc.capAbort = 1 ∧ t.told .injectionEnded ∧ t.answered .ok []) ∧
    (∀ j, s.side = true → s.cpc.inj = some j → j.len ≤ j.k → ∃ t, exec .injectionEnd s = .next t ∧ t.cpc.inj = none ∧
      t.cpc.capState = 2 ∧ t.cpc.capAbort = 0 ∧ t.told .injectionEnded))

/-- Gaiter's cycle and clock comparison (R191, R192, R199, R203, R204, R206, R209). -/
def Obligations.GaiterCycles : Prop :=
  ∀ s : State, s.up = true →
    (∀ k, s.gtr.latch = some k → s.gtr.standby = true → s.gtr.st = .run → s.gtr.pendSoft = [] → ∃ t, exec (.gaiterCycle {}) s = .next t ∧
      t.gtr.st = .run ∧ t.gtr.latch = none ∧ t.told .safetyTrip) ∧
    (∀ k, s.gtr.latch = some k → s.gtr.standby = false → s.gtr.st = .run → ∃ t, exec (.gaiterCycle {}) s = .next t ∧ t.gtr.st = .clearing ∧ t.gtr.latch = none ∧
      t.gtr.trip = true ∧ t.gtr.cause = k ∧ t.told .safetyTrip ∧ t.told .siteState ∧ ∀ p : Fin 12, t.gtr.gates[p].en = false) ∧
    (∀ k, s.gtr.latch = none → s.gtr.st = .run → s.gtr.pendSoft = [k] → (∀ m : Fin 24, s.gtr.fc[m].hidden = false) → ∃ t, exec (.gaiterCycle {}) s = .next t ∧
      (t.gtr.st = .soft ∨ t.gtr.st = .clearing) ∧ t.gtr.cause = k ∧ t.gtr.pendSoft = [] ∧ t.gtr.softs = satInc 16 s.gtr.softs) ∧
    (∀ p : Fin 12, s.gtr.latch = none → s.gtr.pendSoft = [] → s.gtr.gates[p].req = true → gateCond s.gctx p = true →
      s.gtr.gates[p].en = false → s.mono < s.gtr.tempNext → (∀ m : Fin 24, s.gtr.fc[m].hidden = false) →
      ∃ t, exec (.gaiterCycle {}) s = .next t ∧ t.gtr.gates[p].en = true) ∧
    (∀ dRef dGl : Int, 30 < dRef.natAbs → 50 < dGl.natAbs → s.gtr.standby = false → s.gtr.disarmed = false →
      ∃ t, exec (.clockCheckWindow dRef dGl) s = .next t ∧ bitOf 3 t.gtr.diag = true ∧ t.gtr.trip = true ∧ t.gtr.ess.isSome = true ∧
        ∀ p : Fin 12, t.gtr.gates[p].en = false) ∧
    (∀ dRef dGl : Int, 30 < dRef.natAbs → dGl.natAbs ≤ 50 → s.gtr.standby = false → s.gtr.st = .run →
      s.gtr.latch = none → s.gtr.pendSoft = [] → (s.cfg.gtrGlobal.getD {}).degEn = true → ∃ t, exec (.clockCheckWindow dRef dGl) s = .next t ∧ bitOf 4 t.gtr.diag = true ∧
        t.gtr.st = .degraded ∧ t.gtr.degEnd.isSome = true)

/-- Safety inputs and their test pulses (R193 to R196, R199). -/
def Obligations.SafetyInputsAct : Prop :=
  ∀ (s : State) (n : Fin 16) (r : GtrInput), s.up = true → s.gctx.inRec n = some r → s.gtr.applied = true →
    (r.resp = .hard → s.gtr.ins[n].wait = none → s.gtr.ins[n].a = true → s.gtr.disarmed = false → s.gtr.maskA = none →
      ∃ t, exec (.safetyContactChange n false false) s = .next t ∧ t.gtr.ins[n].a = false ∧ t.gtr.ins[n].closed = false ∧
        t.gtr.trip = true ∧ t.gtr.latch = some (s.gtr.latch.getD { kind := 1, idx := n, ts := s.tb % 2 ^ 32 }) ∧
        t.gtr.trips = satInc 16 s.gtr.trips ∧ ∀ p : Fin 12, t.gtr.gates[p].en = false) ∧
    (bothClosed r s.gtr.ins[n] = true → s.gtr.ins[n].closed = false → s.gtr.ins[n].fault = false →
      max (aSince r s.gtr.ins[n]) (bSince r s.gtr.ins[n]) + r.tDeb * 1000 ≤ s.mono → ∃ t, exec (.inputDebounceDone n) s = .next t ∧
        t.gtr.ins[n] = { s.gtr.ins[n] with closed := true }) ∧
    (∀ w, s.gtr.ins[n].wait = some w → s.gtr.ins[n].fault = false → w.at_ + r.tDisc * 10000 ≤ s.mono →
      ∃ t, exec (.inputDiscrepancy n) s = .next t ∧ t.gtr.ins[n].fault = true ∧ t.gtr.ins[n].closed = false ∧ t.told .inputDiscrepancy) ∧
    (s.gtr.maskB = none → ∃ t, exec (.testPulseStart false) s = .next t ∧ t.gtr = { s.gtr with maskA := some s.mono }) ∧
    (s.gtr.maskA = none → ∃ t, exec (.testPulseStart true) s = .next t ∧ t.gtr = { s.gtr with maskB := some s.mono }) ∧
    (∀ t0 m, s.gtr.maskA = some t0 → t0 + 180 ≤ s.mono → r.test = true → bitOf n m = true → s.gtr.ins[n].fault = false →
      ∃ t, exec (.testPulseSample false m) s = .next t ∧ t.gtr.ins[n].fault = true ∧ t.gtr.ins[n].closed = false) ∧
    (∀ t0, s.gtr.maskA = some t0 → t0 + 240 ≤ s.mono → ∃ t, exec (.testMaskEnd false) s = .next t ∧ t.gtr.maskA = none ∧
      t.gtr.ins[n].aMasked = false ∧ (r.test = true → s.gtr.ins[n].aMasked = true → s.gtr.ins[n].a = false → t.gtr.ins[n].closed = false))

/-- The fast comparators and their self-test (R197 to R199). -/
def Obligations.ComparatorsAct : Prop :=
  ∀ (s : State) (n : Fin 24) (r : GtrCmp), s.up = true → s.gctx.cmpRec n = some r →
    (s.gtr.fc[n].active = false → s.gtr.disarmed = false → (∀ t0, s.gtr.fc[n].lastTest = some t0 → t0 + 40 ≤ s.mono) → ∃ t, exec (.comparatorCrossing n) s = .next t ∧ t.gtr.fc[n].active = true ∧
      t.gtr.fc[n].cross = true ∧ t.gtr.trip = true ∧ t.gtr.latch = some (s.gtr.latch.getD { kind := 3, idx := n, ts := s.tb % 2 ^ 32 }) ∧
      ∀ p : Fin 12, t.gtr.gates[p].en = false) ∧
    (∃ t, exec (.comparatorReturn n) s = .next t ∧ t.gtr.fc[n] = { s.gtr.fc[n] with active := false, hidden := false } ∧ t.gtr.st = s.gtr.st ∧
      t.gtr.trip = s.gtr.trip) ∧
    (r.selfTest = true → s.testQuiet n = true → s.gtr.fc[n].active = false → (∀ t0, s.gtr.fc[n].lastTest = some t0 → t0 + 60000000 ≤ s.mono) →
      (∃ t, exec (.comparatorSelfTest n true) s = .next t ∧
        t.gtr.fc[n] = { s.gtr.fc[n] with lastTest := some s.mono, lastPass := s.mono } ∧ t.gtr.diag = s.gtr.diag) ∧
      (∃ t, exec (.comparatorSelfTest n false) s = .next t ∧ t.gtr.fc[n].lastTest = some s.mono ∧ bitOf 10 t.gtr.diag = true)) ∧
    (r.selfTest = true → s.gtr.applied = true → max s.gtr.fc[n].lastPass s.gtr.appliedAt + (s.cfg.gtrGlobal.getD {}).fcTestMax * 3600000000 ≤ s.mono →
      ∃ t, exec (.fcTestLate n) s = .next t ∧ bitOf 11 t.gtr.diag = true)

/-- Gates, safe outputs, and the ways between the site states (R196, R201 to R203, R205 to R207, R209 to R211). -/
def Obligations.GatesAndStatesAct : Prop :=
  ∀ s : State, s.up = true →
    (∀ (p : Fin 12) (t0 : Nat), s.gtr.gates[p].dropAt = some t0 → t0 + 100000 ≤ s.mono → ∃ t, exec (.portResponseTimeout p) s = .next t ∧
      t.gtr.gates[p] = { s.gtr.gates[p] with en := false, dropAt := none }) ∧
    (s.gtr.st = .soft → s.gtr.softAt + s.gtr.softLimit ≤ s.mono → ∃ t, exec .softRampLimit s = .next t ∧ t.gtr.st = .clearing ∧
      t.gtr.trip = true ∧ t.gtr.clrAt = s.mono ∧ ∀ p : Fin 12, t.gtr.gates[p].en = false) ∧
    (∀ p : Fin 12, s.ports[p].gateReq = true → gateCond s.gctx p = true → ∃ t, exec (.gateRequest p) s = .next t ∧
      t.gtr.gates[p].req = true ∧ t.gtr.gates[p].en = true) ∧
    (∀ p : Fin 12, s.ports[p].gateReq = false → ∃ t, exec (.gateWithdraw p) s = .next t ∧
      t.gtr.gates[p] = { s.gtr.gates[p] with req := false, en := false, dropAt := none }) ∧
    (∀ (n : Fin 8) (r : GtrOutput), s.gctx.outRec n = some r → r.pulse = true → s.gtr.so[n].on = true → s.gtr.so[n].pulseAt = none →
      (∃ t, exec (.safeOutputOffPulse n true) s = .next t ∧ t.gtr.so[n] = { s.gtr.so[n] with pulseAt := some s.mono }) ∧
      (∃ t, exec (.safeOutputOffPulse n false) s = .next t ∧ t.gtr.so[n].pulseAt = some s.mono ∧ bitOf 7 t.gtr.diag = true)) ∧
    (∀ (n : Fin 8) (t0 : Nat), s.gtr.so[n].on = true → s.gtr.so[n].pulseAt = some t0 → t0 + (s.cfg.gtrGlobal.getD {}).offp * 10 ≤ s.mono →
      (∃ t, exec (.safeOutputReadback n true) s = .next t ∧ t.gtr.so[n] = { s.gtr.so[n] with pulseAt := none }) ∧
      (∃ t, exec (.safeOutputReadback n false) s = .next t ∧ t.gtr.so[n].on = false ∧ t.gtr.so[n].fail = true ∧ bitOf 8 t.gtr.diag = true)) ∧
    (∀ t0, s.gtr.degEnd = some t0 → t0 ≤ s.mono → s.gtr.st = .degraded → s.gtr.latch = none → s.gtr.pendSoft = [] →
      ∃ t, exec .degradedTimerExpiry s = .next t ∧ t.gtr.st = .soft ∧ t.gtr.cause = { kind := 5, idx := 0, ts := s.tb % 2 ^ 32 } ∧
        t.gtr.softAt = s.mono) ∧
    (s.beats = true → ∃ t, exec .heartbeat s = .next t ∧
      t.gtr = { s.gtr with hbAt := some s.mono, hbI := s.portCurrents, hbLost := false } ∧ t.seam.beatTick = some s.cnp.ticks) ∧
    (∀ t0, s.gtr.hbAt = some t0 → s.gtr.hbLost = false → t0 + 10000 ≤ s.mono → s.gtr.st = .run → s.gtr.standby = false → s.gtr.latch = none → s.gtr.pendSoft = [] →
      (s.seam.fit = true → ∃ t, exec .heartbeatLost s = .next t ∧ t.gtr.hbWait = true ∧ t.gtr.st = .run ∧ t.gtr.hbLost = true) ∧
      (s.seam.fit = false → s.seam.role ≠ .released → s.gtr.hbWait = false → ∃ t, exec .heartbeatLost s = .next t ∧ t.gtr.st = .soft ∧
        t.gtr.cause = { kind := 9, idx := 13, ts := s.tb % 2 ^ 32 } ∧ t.gtr.softLimit = 120000)) ∧
    (∀ t0, s.gtr.hbWait = true → s.gtr.hbAt = some t0 → t0 + 650000 ≤ s.mono → s.gtr.st = .run → ∃ t, exec .handoverTimeout s = .next t ∧
      t.gtr.st = .clearing ∧ t.gtr.cause = { kind := 9, idx := 13, ts := s.tb % 2 ^ 32 } ∧ t.gtr.hbWait = false) ∧
    (s.gtr.st = .hold → s.gtr.applied = true → noDebounce s.gctx = true → s.gtr.standby = false →
      (holdCause s.gctx = none → (s.cfg.gtrGlobal.getD {}).startResume = false → ∃ t, exec .gaiterLeaveHold s = .next t ∧
        t.gtr.st = (if degLeft s.gctx = 0 then .run else .degraded) ∧ t.gtr.trip = false) ∧
      (∀ k, holdCause s.gctx = some k → ∃ t, exec .gaiterLeaveHold s = .next t ∧ t.gtr.st = .clearing ∧ t.gtr.cause = k ∧ t.gtr.trip = true)) ∧
    (s.HostReady 0x5000 →
      (resumable s.gctx = true → ∃ t, exec .resume s = .next t ∧ t.gtr.st = (if degLeft s.gctx = 0 then .run else .degraded) ∧
        t.gtr.trip = false ∧ t.answered .ok []) ∧
      (resumable s.gctx = false → ∃ t, exec .resume s = .next t ∧ t.gtr = s.gtr ∧ t.answered .notInState []) ∧
      (s.gtr.st = .run → s.gtr.latch = none → s.gtr.pendSoft = [] → ∃ t, exec .softWrite s = .next t ∧ t.gtr.st = .soft ∧ t.gtr.softs = satInc 16 s.gtr.softs ∧
        t.gtr.cause = { kind := 6, idx := 0, ts := s.tb % 2 ^ 32 } ∧ t.answered .ok []) ∧
      ((s.gtr.st = .soft ∨ s.gtr.st = .clearing) → ∃ t, exec .softWrite s = .next t ∧ t.gtr = s.gtr ∧ t.answered .notInState []))

/-- The main die's side of the Sleeve link (R228, R230, R255, R272). -/
def Obligations.SleeveLinkReceives : Prop :=
  ∀ s : State, s.linkUp = true →
    (∀ (k : Fin 2) (bs : List Byte), bs.length = 128 → leAt bs 0 1 = 0x51 → leAt bs 124 4 = crc32c (bs.take 124) →
      ((bs.drop 112).take 12).any (· != 0) = false → ∃ t, exec (.sampleFrameReceive k bs) s = .next t ∧
        t.slvLink.stream[k].fseq = some (leAt bs 1 1) ∧ t.slvLink.stream[k].record = bitOf 3 (leAt bs 107 1) ∧
        t.slvLink.gaps = sat 16 (s.slvLink.gaps + fseqGap s.slvLink.stream[k].fseq (leAt bs 1 1)) ∧
        (∀ p : Fin 12, bitOf 3 (leAt bs 107 1) = true → bitOf p (leAt bs 2 2) = true → t.slvLink.port[p] =
          { sumV := s.slvLink.port[p].sumV + leAtI bs (4 + 8 * p.val) 4, sumI := s.slvLink.port[p].sumI + leAtI bs (8 + 8 * p.val) 4,
            n := s.slvLink.port[p].n + 1, lastOk := some s.mono, invalid := false }) ∧
        (∀ p : Fin 12, bitOf p (leAt bs 2 2) = false → t.slvLink.port[p] = s.slvLink.port[p])) ∧
    (∀ (k : Fin 2) (bs : List Byte), leAt bs 124 4 ≠ crc32c (bs.take 124) → ∃ t, exec (.sampleFrameReceive k bs) s = .next t ∧
      t.slvLink = { s.slvLink with crcErr := satInc 16 s.slvLink.crcErr }) ∧
    (∀ p : Fin 12, (∀ t0, s.slvLink.port[p].lastOk = some t0 → t0 + 10000 ≤ s.mono) → ∃ t, exec (.portMeasurementInvalid p) s = .next t ∧
      t.slvLink.port[p] = { s.slvLink.port[p] with invalid := true }) ∧
    (∀ bs : List Byte, bs.length = 128 → leAt bs 0 1 = 0x52 → leAt bs 124 4 = crc32c (bs.take 124) → leAt bs 1 1 = 3 →
      leAt ((bs.drop 4).take 120) 4 2 = 0 → leAt ((bs.drop 4).take 120) 6 2 = 1 → leAt ((bs.drop 4).take 120) 9 3 = 0 →
      0 < leAt ((bs.drop 4).take 120) 8 1 → leAt ((bs.drop 4).take 120) 8 1 ≤ 108 →
      (((bs.drop 4).take 120).drop (12 + leAt ((bs.drop 4).take 120) 8 1)).all (· == 0) = true → s.slvLink.asm = [] →
      (∀ d ∈ s.slvLink.done, d.1 ≠ leAt ((bs.drop 4).take 120) 0 4) → ∃ t, exec (.recordFrameReceive bs) s = .next t ∧
        t.slvLink.done = s.slvLink.done ++ [(leAt ((bs.drop 4).take 120) 0 4, false, (((bs.drop 4).take 120).drop 12).take (leAt ((bs.drop 4).take 120) 8 1))] ∧
        t.told .recordReady)

/-- The heads and the forward link of the Sleeve (R227, R231 to R236). -/
def Obligations.SleeveHeadsMeasure : Prop :=
  ∀ s : State, s.slvOn = true →
    (∃ t, exec .sleeveSampleSend s = .next t ∧ t.slv.fseq = (s.slv.fseq + 1) % 256 ∧
      Sends (.slvFrame (sampleFrame (fun i => Config.freeValue (s.fresh + i)) s.slv)) s t) ∧
    (∀ (p : Fin 12) (q : Pairing), s.hasPort p = true → s.slv.paired p = some q →
      (∀ bs : List Byte, bs.length = 12 → leAt bs 0 1 = 0xA5 → leAt bs 10 2 = crc16 (bs.take 10) → s.slv.head[p].count ≤ leAt bs 1 1 →
        ∃ t, exec (.headSampleFrame p bs) s = .next t ∧ t.slv.head[p].count = leAt bs 1 1 + 1 ∧
          t.slv.head[p].bytes = bs.take 10 :: s.slv.head[p].bytes ∧
          t.slv.head[p].bad = (s.slv.head[p].bad || decide (leAt bs 1 1 ≠ s.slv.head[p].count)) ∧
          t.slv.head[p].pend = addSample q.iN (((atD s.slv.lp.heads p none).map (·.rLoss)).getD 0) (headV q (leAtI bs 2 3) (leAtI bs 9 1))
            (headI q (leAtI bs 5 3) (leAtI bs 9 1)) s.slv.head[p].pend) ∧
      (∀ bs : List Byte, bs.length = 24 → leAt bs 0 1 = 0x5B → s.slv.head[p].count = 256 → s.slv.head[p].bad = false →
        (∀ l, s.slv.head[p].lastBlock = some l → l < leAt bs 2 6) → s.slv.registers = true →
        bs.drop 8 = tag16 q.key (((bs.drop 2).take 6) ++ s.slv.head[p].bytes.reverse.flatten) →
        ∃ t, exec (.headAuthFrame p bs) s = .next t ∧ t.slv.head[p].lastBlock = some (leAt bs 2 6) ∧ t.slv.head[p].count = 0 ∧
          t.slv.head[p].mismatch = false ∧ t.slv.reg.port[p].imp = s.slv.reg.port[p].imp + s.slv.head[p].pend.imp ∧
          t.slv.reg.port[p].exp = s.slv.reg.port[p].exp + s.slv.head[p].pend.exp) ∧
      (∀ bs : List Byte, bs.length = 24 → leAt bs 0 1 = 0x5B → s.slv.head[p].bad = true → ∃ t, exec (.headAuthFrame p bs) s = .next t ∧
        t.slv.head[p].gaps = satInc 8 s.slv.head[p].gaps ∧ t.slv.head[p].count = 0 ∧ t.slv.reg.port[p] = s.slv.reg.port[p])) ∧
    (∀ p : Fin 12, s.hasPort p = true → s.slv.head[p].st = .ok → s.slv.head[p].lastVer + 250000 ≤ s.slv.mc →
      ∃ t, exec (.headErrorTimeout p) s = .next t ∧ t.slv.head[p].st = .error ∧ (s.up = true → t.told .headError)) ∧
    (∀ (p : Fin 12) (d : HeadData), s.hasPort p = true → s.slv.st = .service → atD s.slv.lp.heads p none = none →
      let key := Config.freeValue s.fresh % 2 ^ 256
      ∃ t, exec (.headPairing p d) s = .next t ∧ t.slv.head[p].st = .ok ∧ t.slv.head[p].lastBlock = none ∧
        t.slv.head[p].pair = some { serial := d.serial, iN := d.iN, vRated := d.vRated, cal := d.cal, key := key } ∧
        (∀ l, s.slv.legal.isSome = true → t.slv.legal = some l → l.heads[p] = some { serial := d.serial, iN := d.iN }) ∧
        Sends (.headKey p key) s t)

/-- The Sleeve's time and its intake measurement (R225, R241 to R244, R264). -/
def Obligations.SleeveIntakeMeasures : Prop :=
  ∀ s : State, s.slvOn = true →
    (∃ t, exec .sleeveSampleEnd s = .next t ∧ t.slv.mc = s.slv.mc + 250 ∧ t.slv.cmdq = [] ∧
      (s.slv.cmdq = [] → t.slv.utc = (if s.slv.clkV then s.slv.utc + 250 else s.slv.utc))) ∧
    (∀ (xs : List AcCodes) (a b : Rat), s.slv.registers = true →
      let u : Sleeve := { s.slv with inp := s.slv.inp.take xs }
      u.inp.start = some a → u.cycleEnd a = some b →
      let P : Fin 3 → Rat := fun k => spanMean a b (fun x => u.prim k.val x * u.prim (3 + k.val) x)
      let T : Rat := (b - a) / 8000
      ∃ t, exec (.lineCycleEnd xs) s = .next t ∧ t.slv.inp.valid = true ∧ t.slv.inp.start = some b ∧ t.slv.inp.cycSeq = (s.slv.inp.cycSeq + 1) % 2 ^ 16 ∧
        t.slv.inp.cycles = s.slv.inp.cycles + 1 ∧ t.slv.inp.pcyc = satI 32 (P 0 + P 1 + P 2).floor ∧
        atD t.slv.reg.er 12 0 = atD s.slv.reg.er 12 0 + max (P 0 + P 1 + P 2) 0 * T * 1000 ∧
        atD t.slv.reg.er 13 0 = atD s.slv.reg.er 13 0 + max (-(P 0 + P 1 + P 2)) 0 * T * 1000) ∧
    (s.slv.lp.nLatch ≤ s.slv.inp.cycles → ∃ t, exec .intakeLatch s = .next t ∧ t.slv.inp.cycles = 0 ∧
      t.slv.inp.lcnt = (s.slv.inp.lcnt + 1) % 2 ^ 24 ∧ t.slv.inp.latE = s.slv.reg.er.map wh ∧ t.slv.inp.latMc = s.slv.mcS ∧
      ∀ k : Fin 3, t.slv.inp.latP[k] = satI 32 (s.slv.inp.sumP[k] / (s.slv.inp.cycles : Rat)).floor) ∧
    (∀ t0, s.slv.inp.noRefAt = some t0 → t0 + 1500000 / s.slv.lp.fNom ≤ s.slv.mc → ∃ t, exec .freerunEnter s = .next t ∧
      t.slv = { s.slv with inp := { s.slv.inp with freerun := true, start := some (s.slv.inp.start.getD s.slv.inp.last) } }) ∧
    (∀ (xs : List AcCodes) (p b : Rat), s.slv.st = .run →
      let u : Sleeve := { s.slv with inp := s.slv.inp.take xs }
      let uh : Vector Nat 3 := Vector.ofFn (fun k => u.uHalf p b k.val)
      u.refreshAt (u.inp.refAt.getD 0) = some b → u.inp.refPrev = some p →
      (s.slv.inp.sag.on = false → uh.toList.any (· < s.slv.lp.sagThr) = true → ∃ t, exec (.halfCycleRefresh xs) s = .next t ∧
        t.slv.inp.sag.on = true ∧ t.slv.inp.refAt = some b ∧ t.slv.inp.sag.mc = s.slv.mc ∧ t.slv.inp.sag.ext = min uh[0] (min uh[1] uh[2])) ∧
      (s.slv.inp.sag.on = true → uh.toList.all (s.slv.lp.sagThr + s.slv.lp.hyst ≤ ·) = true → s.slv.reg.distNext < 16 →
        ∃ t, exec (.halfCycleRefresh xs) s = .next t ∧ t.slv.inp.sag.on = false ∧ t.slv.reg.cntSag = satInc 16 s.slv.reg.cntSag ∧
          (atD t.slv.reg.dist s.slv.reg.distNext {}).kind = 1 ∧
          (atD t.slv.reg.dist s.slv.reg.distNext {}).dur = (s.slv.mc - s.slv.inp.sag.mc) / 1000 % 2 ^ 32 ∧
          (s.up = true → t.told .supplyDisturbance)))

/-- Power, states, firmware and legal parameters of the Sleeve (R222, R224, R225, R252 to R254, R265). -/
def Obligations.SleeveStatesChange : Prop :=
  ∀ s : State, s.hasSleeve = true →
    (s.slv.powered = true →
      (∃ t, exec .sleeveCommit s = .next t ∧ t.slv.mram = { s.slv.reg with mc := s.slv.mc } ∧
        t.slv.mram2 = { s.slv.reg with mc := s.slv.mc } ∧ t.slv.commitAt = s.slv.mc) ∧
      (let u := (sampleEnd { s := s.slv }).s
       ∀ c v, ∃ t, exec (.sleevePowerFail c v) s = .next t ∧ t.slv.powered = false ∧ t.slv.stopped = true ∧ t.slv.writeOk = c ∧
        t.slv.mram = (if c then { u.reg with mc := s.slv.mc + 250 } else s.slv.mram) ∧ t.slv.vbks = v ∧
        t.slv.lostBoth = (s.slv.lostBoth || !v) ∧ t.slv.clkV = (u.clkV && v)) ∧
      (∀ l, s.slv.st ≠ .fatal → Config.hssVerify Config.metroPublic s.slv.fw.img s.slv.fw.sig = true → s.slv.legal = some l → ∃ t, exec .sleeveWatchdog s = .next t ∧
        t.slv.st = .run ∧ t.slv.powered = true ∧ (s.up = true → t.told .sleeveState)) ∧
      (∀ r x a b, s.slv.st = .run →
        (500 < r.natAbs → ∃ t, exec (.metrologySelfTest r x a b) s = .next t ∧ t.slv.st = .fatal ∧ (s.up = true → t.told .sleeveState)) ∧
        (r.natAbs ≤ 500 → 10000 < x.natAbs → ∃ t, exec (.metrologySelfTest r x a b) s = .next t ∧ t.slv.st = .fatal) ∧
        (r.natAbs ≤ 500 → x.natAbs ≤ 10000 → a = false → b = false → ∃ t, exec (.metrologySelfTest r x a b) s = .next t ∧ t.slv.st = .fatal) ∧
        (r.natAbs ≤ 500 → x.natAbs ≤ 10000 → a ≠ b → ∃ t, exec (.metrologySelfTest r x a b) s = .next t ∧
          t.slv = logAdd .repair { s.slv with
            mram := if a then s.slv.mram else s.slv.mram2, mram2 := if a then s.slv.mram else s.slv.mram2 })) ∧
      (s.slv.st = .run → ∃ t, exec (.serviceSessionOpen true) s = .next t ∧ t.slv.st = .service ∧ (s.up = true → t.told .sleeveState)) ∧
      (∀ l w, s.slv.st = .service → s.slv.legal = some l → ∃ t, exec (.serviceSessionClose w) s = .next t ∧ t.slv.st = .run ∧
        t.slv.tampElec = 0 ∧ t.slv.tampMech = 0 ∧ ∀ k : Fin 5, t.slv.tamp[k].latch = false) ∧
      (∀ v img sig, s.slv.st = .service ∨ (s.slv.st = .fatal ∧ s.slv.fwOk = false) → ∃ t, exec (.firmwareLoad v img sig) s = .next t ∧
        t.slv = { s.slv with fw := { version := v % 2 ^ 24, img := img, sig := sig } }) ∧
      (∀ l sig, s.slv.st = .service → l.ok = true → ∃ t, exec (.legalParamLoad l sig) s = .next t ∧
        t.slv.legal = (if Config.hssVerify Config.metroPublic (Config.legalLayout l.words) sig then some l else s.slv.legal))) ∧
    (s.slv.powered = false →
      (∀ e r v, ∃ t, exec (.sleevePowerOn e r v) s = .next t ∧ t.slv.powered = true ∧ t.slv.stopped = false ∧ t.slv.vbks = v ∧
        t.slv.fwVer = s.slv.fw.version ∧ t.slv.fwHash = beBytes 32 (Config.sha256 s.slv.fw.img) ∧
        t.slv.st = (if Config.hssVerify Config.metroPublic s.slv.fw.img s.slv.fw.sig = false then .fatal else if s.slv.legal = none then .unsealed else .run)) ∧
      (∃ t, exec .vbksLoss s = .next t ∧ t.slv = { s.slv with vbks := false, lostBoth := true, clkV := false }))

/-- The command frames of the Sleeve (R246 to R251, R258, R264, R266, R274, R277). One that is authentic and newer than the last one is
accepted, and what it asks is done at the end of its sample, after the frames accepted before it; the others are refused at once. -/
def Obligations.SleeveCommandsAct : Prop :=
  ∀ (s : State) (f : CmdFrame),
    (s.SlvTakes 0x01 f → f.LengthOk 0 → ∃ t, exec (.keepalive f) s = .next t ∧ t.slv.lane[f.lane].ctr = some f.ctr ∧
      t.slv.lane[f.lane].aliveAt = s.slv.mc ∧ t.slv.cmdq = s.slv.cmdq ++ [(0x01, f)] ∧ ∃ v, exec .sleeveSampleEnd t = .next v ∧
      v.slv.outq.getLast? = some (replyFrame f .ok)) ∧
    (let u := s.slvAt 0x10 f
     s.SlvTakes 0x10 f → f.LengthOk 12 → u.logFull = false → setTimeOk (leAt f.args40 0 8) (leAtI f.args40 8 2) u = true →
      ∃ t, exec (.setTime f) s = .next t ∧ t.slv.lane[f.lane].ctr = some f.ctr ∧ ∃ v, exec .sleeveSampleEnd t = .next v ∧
        v.slv.utc = leAt f.args40 0 8 * 1000000 ∧ v.slv.off = leAtI f.args40 8 2 ∧ v.slv.clkV = true ∧
        v.slv.outq.getLast? = some (replyFrame f .ok)) ∧
    (let u := s.slvAt 0x20 f
     s.SlvTakes 0x20 f → u.logFull = false → f.alen = 40 → leAt f.args40 0 1 = 0 → leAt f.args40 1 1 = 0 → leAt f.args40 2 1 = 103 →
      ∃ t, exec (.tariffSeg f) s = .next t ∧ t.slv.lane[f.lane].ctr = some f.ctr ∧ ∃ v, exec .sleeveSampleEnd t = .next v ∧
        v.slv.asm = some (1, (f.args40.drop 4).take 36) ∧ v.slv.outq.getLast? = some (replyFrame f .ok)) ∧
    (∀ p : Fin 12, leAt f.args40 0 1 = p.val →
      (let u := s.slvAt 0x30 f
       s.SlvTakes 0x30 f → f.LengthOk 12 → s.slv.registers = true → u.trusts p = true → u.sess[p] = none →
        ∃ t, exec (.sessionStart f) s = .next t ∧ t.slv.lane[f.lane].ctr = some f.ctr ∧ ∃ v x, exec .sleeveSampleEnd t = .next v ∧
          v.slv.sess[p] = some x ∧ x.num = leAt f.args40 4 4 ∧ x.prepaid = bitOf 0 (leAt f.args40 1 1) ∧ x.tStart = u.stampUtc ∧
          x.mcStart = u.mcS ∧ v.slv.gate[p].open_ = false ∧ v.slv.outq.getLast? = some (replyFrame f .ok)) ∧
      (let u := s.slvAt 0x31 f
       ∀ x, s.SlvTakes 0x31 f → f.LengthOk 8 → s.slv.registers = true → leAt f.args40 1 1 ≤ 17 → u.sess[p] = some x → x.num = leAt f.args40 4 4 →
        ∃ t, exec (.sessionStop f) s = .next t ∧ t.slv.lane[f.lane].ctr = some f.ctr ∧ ∃ v y, exec .sleeveSampleEnd t = .next v ∧
          v.slv.sess[p] = none ∧ v.slv.closing[p] = u.closing[p] ++ [y] ∧ y.num = x.num ∧ y.endR = leAt f.args40 1 1 ∧
          v.slv.lastClosed[p] = x.num :: u.lastClosed[p] ∧ v.slv.gate[p].open_ = false ∧
          v.slv.outq.getLast? = some (replyFrame f .ok))) ∧
    (∀ code, cmdLen code = none → s.SlvTakes code f → ∃ t, exec (.unknownCommand code f) s = .next t ∧
      t.slv.lane[f.lane].ctr = some f.ctr ∧ ∃ v, exec .sleeveSampleEnd t = .next v ∧
      v.slv.chOther = satInc 8 (s.slvAt code f).chOther ∧ v.slv.outq.getLast? = some (replyFrame f .unknown)) ∧
    (s.slvOn = true → s.slv.lane[f.lane].key = none → ∃ t, exec (.keepalive f) s = .next t ∧ t.slv.chAuth = satInc 8 s.slv.chAuth ∧
      t.slv.lane = s.slv.lane ∧ t.slv.outq.getLast? = some (replyFrame f .auth)) ∧
    (∀ k c, s.slvOn = true → s.slv.lane[f.lane].key = some k → f.tag = tag16 k (f.head 0x01) → s.slv.lane[f.lane].ctr = some c → f.ctr ≤ c →
      ∃ t, exec (.keepalive f) s = .next t ∧ t.slv.chReplay = satInc 8 s.slv.chReplay ∧ t.slv.lane = s.slv.lane ∧
        t.slv.outq.getLast? = some (replyFrame f .replay))

/-- Link loss, records, gates and tamper (R251, R270, R272, R275, R276, R278 to R280). -/
def Obligations.BillingAndTamperAct : Prop :=
  ∀ s : State,
    (∀ (p : Fin 12) (x : Sess), s.slvOn = true → (∀ k : Fin 2, s.slv.lane[k].aliveAt + 10000000 ≤ s.slv.mc) →
      s.slv.sess[p] = some x → ∃ t, exec .linkLossClose s = .next t ∧ t.slv.sess[p] = none ∧ t.slv.lastClosed[p] = x.num :: s.slv.lastClosed[p] ∧
        s.slv.recSeq < t.slv.recSeq ∧ (x.prepaid = true → t.slv.gate[p].open_ = true ∧ t.slv.gate[p].linkLoss = true)) ∧
    (∀ seq r, s.slvOn = true → s.slv.recs.find? (fun r => r.seq == seq) = some r → r.sent = 0 → r.formedAt + 1000000 ≤ s.slv.mc →
      ∃ t, exec (.recordResend seq) s = .next t ∧ t.slv.recs = s.slv.recs.map (fun q => if q.seq = seq then { q with sent := q.sent + 1 } else q) ∧
        (segFrames r.seq false (r.body ++ r.sig)) <+: (t.slv.outq.drop s.slv.outq.length)) ∧
    (∀ (p : Fin 12) (x : Sess), s.slvOn = true → s.hasPort p = true → s.slv.registers = true → s.slv.gate[p].notice = true →
      s.slv.gate[p].noticeAt + s.slv.lp.leadT * 1000000 ≤ s.slv.mc → s.slv.sess[p] = some x → x.prepaid = true → s.slv.gate[p].open_ = false →
      ∃ t, exec (.creditGateOpen p) s = .next t ∧ t.slv.gate[p].open_ = true ∧ t.slv.gate[p].openAt = s.slv.mc ∧
        t.slv.sess[p] = some { x with creditFl := true }) ∧
    (∀ (p : Fin 12) (fb : Bool), s.slvOn = true → s.hasPort p = true → s.slv.gate[p].open_ = true → s.slv.gate[p].judged = false →
      s.slv.gate[p].openAt + 200000 ≤ s.slv.mc → ∃ t, exec (.gateFeedbackCheck p fb) s = .next t ∧ t.slv.gate[p].fb = fb ∧
        t.slv.gate[p].judged = true ∧ t.slv.gate[p].fail = (s.slv.gate[p].fail || fb) ∧
        (fb = true → s.up = true → t.told .sleeveGateFail)) ∧
    (∀ (k : Fin 5) (a : Nat), s.hasSleeve = true → s.slv.tamp[k].heldAt = some a → s.slv.tamp[k].active = false →
      a + (if k.val = 0 ∨ k.val = 1 then 10000000 else if k.val = 2 then 5000000 else 50000) ≤ s.slv.mc → s.slv.powered = true → (k.val < 3 → s.slv.intakeOn = true) →
      ∃ t, exec (.tamperConditionBegin k) s = .next t ∧ t.slv.tamp[k].active = true ∧ t.slv.tamp[k].latch = true ∧
        t.slv.tampElec = (if k.val < 3 then satInc 8 s.slv.tampElec else s.slv.tampElec) ∧
        t.slv.tampMech = (if k.val < 3 then s.slv.tampMech else satInc 8 s.slv.tampMech) ∧ (s.up = true → t.told .meterTamper)) ∧
    (∀ (k : Fin 5) (a : Nat), s.hasSleeve = true → s.slv.tamp[k].goneAt = some a → s.slv.tamp[k].active = true →
      a + (if k.val < 3 then 10000000 else 50000) ≤ s.slv.mc → s.slv.powered = true → (k.val < 3 → s.slv.intakeOn = true) →
      ∃ t, exec (.tamperConditionEnd k) s = .next t ∧ t.slv.tamp[k] = { s.slv.tamp[k] with active := false }) ∧
    (s.hasSleeve = true → s.slv.powered = true → bitOf 0 s.slv.lp.tampM = true →
      (∃ t, exec (.coverSwitchSample true false) s = .next t ∧ t.slv.mc = s.slv.mc ∧
        t.slv.tamp[(3 : Fin 5)].heldAt = some (s.slv.tamp[(3 : Fin 5)].heldAt.getD s.slv.mc)) ∧
      (∃ t, exec (.coverSwitchSample false false) s = .next t ∧ t.slv.tamp[(3 : Fin 5)].heldAt = none)) ∧
    (s.hasSleeve = true → s.slv.powered = false → s.slv.vbks = true → ∀ m u, ∃ t, exec (.coverSwitchSample m u) s = .next t ∧
      t.slv.mc = s.slv.mc + 10000)

/-- Lanes, peer and role choice of a pair (R283, R285 to R288). -/
def Obligations.SeamLanesAct : Prop :=
  ∀ s : State, s.paired = true →
    (s.seam.role = .start → (s.seam.upLanes = [] ∨ s.seamKey s.seam.gen = none) → s.seam.startAt + (if s.prefersActive then 2000000 else 7000000) ≤ s.mono →
      (s.seam.other = false → ∃ t, exec .roleChoiceTimeout s = .next t ∧ t.seam.role = .active ∧ t.seam.drive = true) ∧
      (s.seam.other = true → ∃ t, exec .roleChoiceTimeout s = .next t ∧ t.seam.role = .standby ∧ t.seam.drive = false ∧
        t.gtr.standby = true)) ∧
    (∀ k : Fin 2, (∃ t, exec (.laneDown k) s = .next t ∧ t.seam.lane[k] = { s.seam.lane[k] with up := false } ∧
        ∀ j : Fin 2, j ≠ k → t.seam.lane[j] = s.seam.lane[j]) ∧
      (∀ t0, s.seam.lane[k].downAt = some t0 → t0 + 100000 ≤ s.mono → ∃ t, exec .laneRetrain s = .next t ∧
        t.seam.lane[k] = { up := true, downAt := none }) ∧
      (s.clk.noKeys = false → s.seam.lane[k].downAt = none → ∃ t, exec (.seamLaneTrained k) s = .next t ∧ t.seam.lane[k].up = true ∧
        t.seam.lane[k].downAt = none)) ∧
    (s.seam.peerLost = false → s.seam.lastAt + 30000 ≤ s.mono → (∀ r, s.seam.relay = some r → r.chan = 0) → ∃ t, exec .peerLost s = .next t ∧
      t.seam.peerLost = true ∧ t.seam.relay = none ∧ t.seam.synced = s.seam.synced ∧ t.site = s.site ∧ t.told .peerLost) ∧
    (∀ k, s.seamKey s.seam.gen = some k → s.seam.upLanes ≠ [] → s.seam.txSeq ≤ 0xFFFFFFF0 → ∃ t l f, exec .statusSend s = .next t ∧
      t.seam.txSeq = s.seam.txSeq + 1 ∧ Sends (.seam l f) s t ∧ l ∈ s.seam.upLanes ∧ f.typ = 3 ∧ f.gen = s.seam.gen ∧
      f.lseq = s.seam.txSeq ∧ f.cipher = seamCipher k f ∧ f.tag = seamTag k f ∧ f.check = seamCheck f)

/-- What an accepted frame of the pair link does, and that a refused one changes nothing but its counter (R283, R287, R290, R291, R296,
R297, R304, R306, Table 10.4). -/
def Obligations.SeamFramesAct : Prop :=
  (∀ (s : State) (f : SeamFrame),
    (s.SeamTakes 1 f → s.seam.role = .standby → s.seam.gap f = false → (segTake f s.seam.asm).2 = true → ∀ e, f.entry = some e →
      ∃ t l a, exec (.journal f) s = .next t ∧ t.seam.ring.head?.map (fun h => (h.lseq, h.e, h.at_)) = some (f.lseq, e, s.mono) ∧ t.seam.held = some f.lseq ∧
        t.seam.rxSeq = some f.lseq ∧ Sends (.seam l a) s t ∧ a.typ = 2 ∧ a.pay = leBytes 4 f.lseq) ∧
    (s.SeamTakes 2 f → f.gen = s.seam.gen → ∃ t, exec (.ack f) s = .next t ∧ t.seam.jAck = some (leAt f.pay 0 4) ∧
      t.seam.unacked = s.seam.unacked.filter (fun n => decide (leAt f.pay 0 4 < n)) ∧ t.seam.peerLost = false) ∧
    (let x := f.status
     s.SeamTakes 3 f →
      (s.seam.role ≠ .start → ∃ t, exec (.status f) s = .next t ∧ t.seam.peer = some x ∧ t.seam.lastStatusAt = some s.mono ∧
        t.seam.role = s.seam.role) ∧
      (s.seam.role = .start → s.seam.other = false → s.wins x.prefActive = true → ∃ t, exec (.status f) s = .next t ∧
        t.seam.peer = some x ∧ t.seam.role = .active ∧ t.seam.drive = true) ∧
      (s.seam.role = .start → (s.seam.other = true ∨ s.wins x.prefActive = false) → ∃ t, exec (.status f) s = .next t ∧
        t.seam.role = .standby ∧ t.seam.drive = false)) ∧
    (s.SeamTakes 4 f → s.gtr.unfit = false → ∃ t, exec (.release f) s = .next t ∧ t.seam.role = .taking ∧ t.seam.drive = true ∧
      t.seam.reason = leAt f.pay 0 1 % 16 ∧ t.seam.t0 = s.mono ∧ t.cnp.started = true ∧ t.cnp.mode = .hold ∧ t.told .takeoverStarted) ∧
    (s.SeamTakes 5 f → ∃ t, exec (.handover f) s = .next t ∧ t.gtr.standby = true ∧ t.rst.pend.isSome = true ∧
      ∀ p : Fin 12, t.ports[p].duty = 0 ∧ t.gtr.gates[p].en = false) ∧
    (s.SeamTakes 6 f → leAt f.pay 0 4 = 0xFFFFFFFF → (∀ r, s.seam.relay = some r → r.chan = 0) → ∃ t, exec (.resyncReq f) s = .next t ∧ t.seam.resync = true ∧ t.seam.synced = false ∧
      t.seam.resyncAt = none) ∧
    (s.SeamTakes 7 f → s.seam.role = .standby → s.seam.gap f = false → (segTake f s.seam.snapAsm).2 = true → ∀ e, f.entry = some e →
      ∃ t, exec (.snapshotFrame f) s = .next t ∧ t.seam.ring.head?.map (fun h => (h.lseq, h.e, h.at_)) = some (f.lseq, e, s.mono) ∧ t.seam.mir = e.x ∧ t.seam.held = some f.lseq) ∧
    (s.SeamTakes 8 f → relayOk f = true → leAt f.pay 4 1 = 1 → ∃ t, exec (.relay f) s = .next t ∧
      t.seam.relayWin = some (s.mono + 1000000)) ∧
    (∀ r, s.SeamTakes 9 f → s.seam.relay = some r → leAt f.pay 0 4 = r.tag → leAt f.pay 4 4 = 0 → leAt f.pay 8 4 = r.left → r.write = false →
      r.chan = 0 → ∃ t, exec (.relayRsp f) s = .next t ∧ t.seam.relay = none ∧
        Sends (spiEnd r.sent .ok (r.got ++ (wordsFrom (f.pay.drop 16) r.left).take r.left)) s t)) ∧
  (∀ (s : State) (f : SeamFrame), s.up = true → s.seam.pair.isSome = true → s.seam.upLanes ≠ [] →
    (s.seamJudge f = .crc → f.typ = 1 → exec (.journal f) s = .next { s with seam := { s.seam with crcErr := satInc 8 s.seam.crcErr } }) ∧
    (s.seamJudge f = .form → f.typ = 4 → exec (.release f) s = .next { s with seam := { s.seam with badLen := satInc 8 s.seam.badLen } }) ∧
    (s.seamJudge f = .late → f.typ = 3 → exec (.status f) s = .next { s with seam := { s.seam with late := satInc 8 s.seam.late } }) ∧
    (s.seamJudge f = .auth → f.typ = 2 → ∃ t, exec (.ack f) s = .next t ∧ t.seam.auth = satInc 8 s.seam.auth ∧
      (2 ≤ (s.seam.authTimes.filter (fun t => decide (s.mono < t + 1000000))).length → ∀ k : Fin 2, t.seam.lane[k].up = false)) ∧
    (s.seamJudge f = .role → f.typ = 5 → ∃ t, exec (.handover f) s = .next t ∧ t.seam = s.seam ∧ t.told .seamProtocol ∧
      t.thk.nis = satInc 16 s.thk.nis))

/-- The roles of a pair: giving up control, taking over, swapping (R282, R284, R295 to R298, R305). -/
def Obligations.SeamRolesAct : Prop :=
  ∀ s : State, s.paired = true →
    (s.seam.drive = false →
      (s.seam.role = .standby → s.seam.seenLow = true → s.gtr.unfit = false → ∃ t, exec .ownNHigh s = .next t ∧ t.seam.role = .taking ∧
        t.seam.drive = true ∧ t.told .takeoverStarted) ∧
      (s.seam.role ≠ .standby → exec .ownNHigh s = .next { s with seam := { s.seam with other := false } }) ∧
      (s.seam.role = .standby → ∃ t, exec .ownNLow s = .next t ∧ t.seam.other = true ∧ t.seam.seenLow = true ∧ t.seam.role = .standby) ∧
      (s.seam.role = .start → ∃ t, exec .ownNLow s = .next t ∧ t.seam.role = .standby) ∧
      (s.seam.role = .released → ∃ t, exec .ownNLow s = .next t ∧ t.seam.other = true ∧ t.gtr.standby = true ∧ t.rst.pend.isSome = true)) ∧
    (∀ r, s.seam.role = .active → s.seam.fit = true → s.releaseCause r = true →
      (r ≠ 7 → ∃ t, exec (.releaseCause r) s = .next t ∧ t.seam.role = .released ∧ t.seam.relAt = some s.mono ∧ t.seam.fit = false) ∧
      (r = 7 → ∃ t, exec (.releaseCause r) s = .next t ∧ t.seam.role = .released ∧ t.seam.drive = false ∧ t.seam.fit = false)) ∧
    (∀ t0, s.seam.relAt = some t0 → t0 + 100 ≤ s.mono →
      exec .ownNRelease s = .next { s with seam := { s.seam with drive := false, relAt := none } }) ∧
    (s.canopyOn = true → s.seam.role = .taking → 0 < s.cnp.ticks → s.cnp.ready.isSome = true → s.portsHanded = true → s.seam.txSeq ≤ 0xFFFFFFF0 →
      ∃ t, exec .takeoverFirstTick s = .next t ∧ t.seam.role = .active ∧ t.seam.takes = satInc 8 s.seam.takes ∧
        t.seam.gen = s.seam.gen + 1 ∧ t.seam.txSeq = 0 ∧ t.seam.lastTake = some s.mono ∧ t.told .takeoverDone ∧ t.cnp.ready = none) ∧
    (s.HostReady 0x6000 →
      (s.swapOk = true → ∃ t, exec .swap s = .next t ∧ t.seam.role = .released ∧ t.seam.swapAt = s.mono ∧ t.answered .ok []) ∧
      (s.swapOk = false → ∃ t, exec .swap s = .next t ∧ t.seam = s.seam ∧ t.answered .notInState [])) ∧
    (s.seam.role = .start ∨ s.seam.role = .taking ∨ s.seam.role = .released → ∃ t, exec .swap s = .next t ∧ t.seam = s.seam ∧
      t.answered .notInState []) ∧
    (∀ r, s.seam.pair = some r → r.swapEn = true → s.seam.swapAt + r.swapH * 3600000000 ≤ s.mono → s.swapOk = true →
      ∃ t, exec .scheduledSwap s = .next t ∧ t.seam.role = .released ∧ t.seam.swapAt = s.mono)

/-- Echo, HOLD frames, resync and the relay's times (R288, R292 to R294, R304, R306). -/
def Obligations.SeamEchoAndRelayAct : Prop :=
  ∀ s : State, s.paired = true →
    (∀ (b g : Fin 4) (d : List Byte) (t0 : Nat), s.seam.role = .standby → s.gtr.unfit = false → s.seam.echo[b][g].wait = some (d, t0) →
      t0 ≤ s.mono → s.mb.bus[b].fcs ≠ .busOff → ∃ t, exec (.echoEligible b g) s = .next t ∧ t.seam.echo[b][g].wait = none ∧
        t.mb.bus[b].txGrp[g] = some { id := 0x010 + g.val, data := d, seq := leAt (controlOf d) 2 2 }) ∧
    (∀ (b g : Fin 4) (d : List Byte) (t0 : Nat), s.seam.role = .active → s.seam.echo[b][g].expect = some (d, t0) → t0 + 1000 ≤ s.mono →
      ∃ t, exec (.echoCheckTimeout b g) s = .next t ∧ t.seam.echo[b][g].expect = none ∧ t.seam.missing = satInc 16 s.seam.missing) ∧
    (∀ b : Fin 4, s.seam.role = .taking → b.val < s.fuses.variant.buses → s.mb.bus[b].fcs ≠ .off → s.mb.bus[b].fcs ≠ .busOff →
      s.heardPairs b ≠ [] → ∃ t, exec .holdFrameSend s = .next t ∧ t.seam.holdN[b] = s.seam.holdN[b] + (s.heardPairs b).length ∧
        t.mb.bus[b].txHold = s.mb.bus[b].txHold ++ ((s.heardPairs b).zipIdx (s.seam.holdN[b] + 1)).map (fun x =>
          ({ id := 0x01C, data := holdFrame x.1.1 x.1.2 b x.2, seq := x.1.2 } : TxFrame))) ∧
    (∀ t0, s.seam.role = .active → s.seam.resync = true → s.seam.resyncAt = some t0 → t0 + 1000000 ≤ s.mono →
      ∃ t, exec .resyncComplete s = .next t ∧ t.seam.gen = s.seam.gen + 1 ∧ t.seam.synced = true ∧ t.seam.resync = false ∧
        t.seam.txSeq = 0 ∧ t.seam.rxSeq = none) ∧
    (∀ r, s.seam.relay = some r → r.at_ + 100000 ≤ s.mono → r.chan = 0 → r.write = false → ∃ t, exec .relayTimeout s = .next t ∧
      t.seam.relay = none ∧ Sends (spiEnd r.sent .busy r.got) s t) ∧
    (∀ t0, s.seam.relayWin = some t0 → t0 ≤ s.mono → exec .relayWindowEnd s = .next { s with seam := { s.seam with relayWin := none } })

/-- Chains start, enumerate, and run again after a fault (R315, R316, Table 11.6). -/
def Obligations.LacingChainsStart : Prop :=
  ∀ s : State,
    (s.HostReady 0x24000 → ∀ w : Word, (∀ c : Fin 4, bitOf c w.toNat ≠ bitOf c s.lac.run → ∃ r ∈ s.cfg.lacChain, r.chain = c.val) →
      ∃ t, exec (.lacingRunWrite w) s = .next t ∧ t.lac.run = w.toNat % 16 ∧ t.answered .ok [] ∧
        ∀ c : Fin 4, s.lacOn c = true → (∃ r ∈ s.cfg.lacChain, r.chain = c.val) →
          (bitOf c w.toNat = true → s.lac.ch[c].st = .off → t.lac.ch[c].st = .wake ∧ t.lac.ch[c].wakeAt = s.mono ∧
            Sends (.lac (.wake c)) s t) ∧
          (bitOf c w.toNat = false → s.lac.ch[c].st = .run → t.lac.ch[c].st = .off ∧ t.lac.ch[c].cmd = none) ∧
          (bitOf c w.toNat = true → s.lac.ch[c].st ≠ .off → t.lac.ch[c] = s.lac.ch[c])) ∧
    (s.HostReady 0x24000 → ∀ (w : Word) (c : Fin 4), bitOf c w.toNat ≠ bitOf c s.lac.run → (∀ r ∈ s.cfg.lacChain, r.chain ≠ c.val) →
      ∃ t, exec (.lacingRunWrite w) s = .next t ∧ t.lac = s.lac ∧ t.answered .notInState []) ∧
    (∀ (c : Fin 4) (r : LacChain), s.lacOn c = true → s.cfg.lacChain.find? (fun r => r.chain == c.val) = some r →
      (s.lac.ch[c].st = .wake → s.lac.ch[c].wakeAt + 10000 ≤ s.mono → ∃ t, exec (.wakeDone c) s = .next t ∧ t.lac.ch[c].st = .enum ∧
        t.lac.ch[c].cmd = some { op := .ident 0, cseq := s.lac.ch[c].cseq, sentAt := s.mono } ∧ t.told .lacingChain ∧
        Sends (.lac (.frame c s.mono (lacFrame 0x01 0 0x40 8 [] s.lac.ch[c].cseq))) s t) ∧
      (s.lac.ch[c].st = .enum → s.lac.ch[c].enumDone = true →
        (∀ i is, s.lac.ch[c].idents = i :: is → ∃ t, exec (.enumeration c) s = .next t ∧ t.lac.ch[c].st = .run ∧
          t.lac.ch[c].found = min (is.length + 1) r.nodes ∧ t.lac.ch[c].partial_ = decide (min (is.length + 1) r.nodes < r.nodes) ∧
          t.lac.ch[c].attempts = 0 ∧ t.told .lacingChain ∧
          ∀ h : Fin 32, h.val < min (is.length + 1) r.nodes → t.lac.ch[c].node[h].serial = (i :: is).getD h 0 ∧ t.lac.ch[c].node[h].lost = false) ∧
        (s.lac.ch[c].idents = [] → 2 ≤ s.lac.ch[c].attempts → ∃ t, exec (.enumeration c) s = .next t ∧ t.lac.ch[c].st = .fault ∧
          t.lac.ch[c].faultAt = s.mono ∧ t.lac.ch[c].found = 0 ∧ t.told .lacingChain) ∧
        (s.lac.ch[c].idents = [] → s.lac.ch[c].attempts < 2 → ∃ t, exec (.enumeration c) s = .next t ∧ t.lac.ch[c].st = .wake ∧
          t.lac.ch[c].attempts = s.lac.ch[c].attempts + 1 ∧ t.lac.ch[c].wakeAt = s.mono ∧ Sends (.lac (.wake c)) s t)) ∧
      (s.lac.ch[c].st = .fault → s.lac.ch[c].faultAt + 10000000 ≤ s.mono → ∃ t, exec (.lacingFaultRetry c) s = .next t ∧
        t.lac.ch[c].st = .wake ∧ t.lac.ch[c].wakeAt = s.mono ∧ Sends (.lac (.wake c)) s t))

/-- Sweeps, responses, repeats and lost nodes (R314, R315, R320, R321, Tables 11.3, 11.5, 11.6): SWEEP_PERIOD sends CONVERT and the reads of
a running chain, LACING_RESPONSE takes a response that is good or repeats its command, LACING_RESPONSE_TIMEOUT repeats it, and
LACING_NODE_LOST wakes the chain with the node LOST. -/
def Obligations.LacingSweeps : Prop :=
  (∀ (s : State) (c : Fin 4) (r : LacChain), s.lacOn c = true → s.cfg.lacChain.find? (fun r => r.chain == c.val) = some r →
    s.lac.ch[c].st = .run → s.lac.ch[c].evald = true →
    let g := s.cfg.lacGlobal.getD {}
    let conv := s.mono + 1580 + g.settle * 100
    ∃ t, exec .sweepPeriod s = .next t ∧ t.lac.swid = (s.lac.swid + 1) % 256 ∧ t.lac.sweep = (s.lac.sweep + 1) % 2 ^ 32 ∧
      Sends (.lac (.frame c s.mono (lacFrame 0x10 0xFF 0 3
        (leBytes 1 t.lac.swid ++ leBytes 1 g.settle ++ leBytes 1 (if t.lac.ch[c].gate then 1 else 0)) s.lac.ch[c].cseq))) s t ∧
      t.lac.ch[c].gate = (g.balGate || decide (t.lac.swid % g.gateEvery = 0)) ∧
      (0 < s.lac.ch[c].found →
        sumN (((List.range s.lac.ch[c].found).map LacOp.read).map (LacOp.time g)) + 2000 ≤ g.sweepP * 1000 →
        t.lac.ch[c].cmd = some { op := .read 0, cseq := (s.lac.ch[c].cseq + 1) % 256, sentAt := conv } ∧
        Sends (.lac (.frame c conv (lacFrame 0x01 0 0 48 [] ((s.lac.ch[c].cseq + 1) % 256)))) s t ∧
        t.lac.ch[c].todo = ((List.range s.lac.ch[c].found).map LacOp.read).tail)) ∧
  (∀ s : State, s.lacRunning = [] →
    ∃ t, exec .sweepPeriod s = .next t ∧ t.lac.swid = s.lac.swid ∧ t.lac.sweep = s.lac.sweep) ∧
  (∀ (s : State) (c : Fin 4) (r : LacChain), s.lacOn c = true → s.cfg.lacChain.find? (fun r => r.chain == c.val) = some r →
    s.lac.ch[c].st = .run →
    let g := s.cfg.lacGlobal.getD {}
    let out := max s.mono (s.lac.ch[c].convAt + 1580 + g.settle * 100)
    (∀ (k : LacCmd) (h : Fin 32) (op : LacOp) (rest : List LacOp) (bs : List Byte), s.lac.ch[c].cmd = some k → k.op = .read h.val →
      s.lac.ch[c].todo = op :: rest → bs.length = 55 → crc16 (bs.take 53) = leAt bs 53 2 → leAt bs 0 1 = 0x81 → leAt bs 1 1 = h.val →
      leAt bs 2 1 = k.cseq → leAt bs 3 1 = 48 → leAt ((bs.drop 4).take 48) 36 1 = s.lac.swid → bitOf 2 (leAt bs 52 1) = false →
      ∃ t, exec (.lacingResponse c bs) s = .next t ∧
        t.lac.ch[c].node[h] = openReport (takeResult g s.lac.ch[c].gate s.mono ((bs.drop 4).take 48) (leAt bs 52 1) s.lac.ch[c].node[h]) ∧
        t.lac.ch[c].cmd = some { op := op, cseq := s.lac.ch[c].cseq, sentAt := out } ∧ t.lac.ch[c].todo = rest ∧
        ∀ j : Fin 32, j ≠ h → t.lac.ch[c].node[j] = s.lac.ch[c].node[j]) ∧
    (∀ (k : LacCmd) (bs : List Byte), s.lac.ch[c].cmd = some k → k.retried = false →
      (bs.length < 2 ∨ crc16 (bs.take (bs.length - 2)) ≠ leAt bs (bs.length - 2) 2) → ∃ t, exec (.lacingResponse c bs) s = .next t ∧
        t.lac.ch[c] = { s.lac.ch[c] with eCrc := satInc 8 s.lac.ch[c].eCrc, cseq := (s.lac.ch[c].cseq + 1) % 256, cmd := some { op := k.op, cseq := s.lac.ch[c].cseq, retried := true, sentAt := out } }) ∧
    (∀ k : LacCmd, s.lac.ch[c].cmd = some k → k.retried = false → k.sentAt + 100 + 20 * (k.op.form g).2.1 ≤ s.mono →
      ∃ t, exec (.lacingResponseTimeout c) s = .next t ∧
        t.lac.ch[c] = { s.lac.ch[c] with eTmo := satInc 8 s.lac.ch[c].eTmo, cseq := (s.lac.ch[c].cseq + 1) % 256, cmd := some { op := k.op, cseq := s.lac.ch[c].cseq, retried := true, sentAt := out } }) ∧
    (∀ h : Fin 32, h.val < s.lac.ch[c].found → 3 ≤ s.lac.ch[c].node[h].miss → ∃ t, exec (.lacingNodeLost c h) s = .next t ∧
      t.lac.ch[c].st = .wake ∧ t.lac.ch[c].wakeAt = s.mono ∧ Sends (.lac (.wake c)) s t ∧ t.told .lacingChain ∧
      ∀ j : Fin 32, t.lac.ch[c].node[j].lost = (s.lac.ch[c].node[j].lost || (decide (j.val < s.lac.ch[c].found) && decide (3 ≤ s.lac.ch[c].node[j].miss)))))

/-- The open-wire test of a node (R328, R329). -/
def Obligations.LacingWireTests : Prop :=
  ∀ (s : State) (c : Fin 4) (r : LacChain), s.lacOn c = true → s.cfg.lacChain.find? (fun r => r.chain == c.val) = some r →
    s.lac.ch[c].st = .run →
    (∀ (w : Word) (h : Fin 32), s.HostReady 0x24004 → bitOf 7 w.toNat = true → field 0 2 w.toNat = c.val → field 2 5 w.toNat = h.val →
      (h.val < s.lac.ch[c].found → s.lac.ch[c].node[h].maskW = 0 → s.lac.ch[c].req = none → s.lac.ch[c].owt = none →
        (∀ k, s.lac.ch[c].cmd = some k → (k.op.form (s.cfg.lacGlobal.getD {})).1 ≠ 0x20) →
        (∀ j : Fin 32, j.val < s.lac.ch[c].found → s.lac.ch[c].node[j].suspect = 0) →
        ∃ t, exec (.owtRequest w) s = .next t ∧ t.lac.ch[c] = { s.lac.ch[c] with req := some h.val } ∧ t.answered .ok []) ∧
      ((s.lac.ch[c].found ≤ h.val ∨ s.lac.ch[c].node[h].maskW ≠ 0 ∨ s.lac.ch[c].req.isSome = true ∨ s.lac.ch[c].owt.isSome = true ∨
          ∃ k, s.lac.ch[c].cmd = some k ∧ (k.op.form (s.cfg.lacGlobal.getD {})).1 = 0x20) →
        ∃ t, exec (.owtRequest w) s = .next t ∧ t.lac = s.lac ∧ t.answered .notInState [])) ∧
    (∀ (h t0 : Nat) (again : Bool), s.lac.ch[c].owt = some (h, t0, again) → s.lac.ch[c].cmd = none →
      t0 + (s.cfg.lacGlobal.getD {}).owSettle * 2000 + 2600 ≤ s.mono →
      let out := max s.mono (s.lac.ch[c].convAt + 1580 + (s.cfg.lacGlobal.getD {}).settle * 100)
      (∃ t, exec (.owtRead c none) s = .next t ∧
        t.lac.ch[c].cmd = some { op := .owRead h, cseq := s.lac.ch[c].cseq, retried := again, sentAt := out } ∧
        Sends (.lac (.frame c out (lacFrame 0x01 h 0x60 32 [] s.lac.ch[c].cseq))) s t) ∧
      (∀ bs : List Byte, h < 32 → s.lac.ch[c].step = 5 → s.lac.ch[c].busy = [] → s.lac.ch[c].todo = [] →
        bs.length = 39 → crc16 (bs.take 37) = leAt bs 37 2 → leAt bs 0 1 = 0x81 → leAt bs 1 1 = h → leAt bs 2 1 = s.lac.ch[c].cseq →
        leAt bs 3 1 = 32 → bitOf 2 (leAt bs 36 1) = false → ∃ t, exec (.owtRead c (some bs)) s = .next t ∧ t.lac.ch[c].owt = none ∧
          t.lac.ch[c].cmd = none ∧ t.lac.ch[c].tests = satInc 8 s.lac.ch[c].tests ∧ (atD t.lac.ch[c].node h {}).testedAt = some s.mono ∧
          (atD t.lac.ch[c].node h {}).late = false)) ∧
    (∀ h : Fin 32, h.val < s.lac.ch[c].found → s.lac.ch[c].node[h].late = false →
      (s.lac.ch[c].node[h].testedAt.getD s.lac.ch[c].admitAt) + (s.cfg.lacGlobal.getD {}).owPeriod * 120000000 ≤ s.mono →
      ∃ t, exec (.owTestLate c h) s = .next t ∧ t.lac.ch[c].node[h].late = true ∧ t.lac.ch[c].owLate = true ∧ t.told .openWireTestLate)

/-- What an accepted frame of the site link does at the controller (R337, R341, R342, R345, R350, R352, R358, R359). -/
def Obligations.BrambleHears : Prop :=
  ∀ s : State, s.brmOn = true →
    ((∀ (n : Fin 65) (f : BrmTx), s.brm.nbr[n].cur = some f → f.sentAt + 16128 ≤ s.mono) → (∀ f, s.brm.bcast = some f → f.sentAt + 16128 ≤ s.mono) →
      (∀ (fch pay : List Byte) (energy : Nat) (xs : List Int), crc8 (fch.take 7) ≠ leAt fch 7 1 →
        ∃ t, exec (.fchReceive fch none energy pay xs) s = .next t ∧ t.brm = { s.brm with idleAt := s.mono + energy }) ∧
      (∀ (h pay : List Byte) (energy : Nat) (xs : List Int), h = [4, 0] ++ leBytes 2 pay.length ++ [0xFF, 0, 0] →
        28 ≤ pay.length → pay.length ≤ 252 →
        (leAt pay (pay.length - 4) 4 = crc32c (pay.take (pay.length - 4)) →
          ∃ t, exec (.fchReceive (h ++ leBytes 1 (crc8 h)) none energy pay xs) s = .next t ∧
            t.brm = { s.brm with idleAt := s.mono + energy + if bitOf 2 (leAt pay 1 1) then 17280 else 0 }) ∧
        (leAt pay (pay.length - 4) 4 ≠ crc32c (pay.take (pay.length - 4)) → leAt pay 5 1 = 0 →
          paySymbols pay.length 0 true ≤ 4 * ((List.range (paySymbols pay.length 0 true)).filter (symErased (s.cfg.brmGlobal.getD {}).blankThr xs)).length →
          ∃ t, exec (.fchReceive (h ++ leBytes 1 (crc8 h)) none energy pay xs) s = .next t ∧
            t.brm = { s.brm with idleAt := s.mono + energy + 17280, eCrc := satInc 8 s.brm.eCrc, eNoise := satInc 8 s.brm.eNoise } ∧
            Sends (.brm (.frame { fch := fchBytes 2 false 0 0 (s.bctx.zcd (s.mono + 1152)) (leAt pay (pay.length - 4) 1 % 128 + 128), atten := (s.cfg.brmGlobal.getD {}).txLevel } (s.mono + 1152))) s t))) ∧
    (∀ (fch : List Byte) (energy : Nat) (n : Fin 65) (f : BrmTx), s.brm.nbr[n].cur = some f → s.mono < f.sentAt + 16128 → 16128 ≤ s.mono →
      ∃ t g, exec (.fchReceive fch none energy [] []) s = .next t ∧ t.brm.nbr[n].cur = some g ∧ g.sent = f.sent ∧ g.tries = f.tries ∧ g.seq = f.seq ∧
        s.mono + energy + 1152 ≤ g.sentAt) ∧
    (∀ (h : List Byte) (n : Fin 64) (energy : Nat), h = [1, 0, 0, 0, 0xFF, 0, 0] → s.brm.nbr[n].st ≠ .empty →
      ∃ t, exec (.fchReceive (h ++ leBytes 1 (crc8 h)) (some n) energy [] []) s = .next t ∧ t.brm.nbr[n].heardAt = some s.mono ∧
        t.brm.nbr[n].linkAt = some s.mono ∧ t.brm.nbr[n].st = (if s.brm.nbr[n].st = .unreachable then .admitted else s.brm.nbr[n].st)) ∧
    (∀ (bs d : List Byte) (src a : Nat), (brmJudge bs s.bctx).2 = some { src := src, nbr := none, body := d } → brmStop none s.bctx = some a →
      leAt d 1 1 = 1 → s.gtr.st = .run → s.gtr.latch = none → s.gtr.pendSoft = [] → ∃ t, exec (.estop bs) s = .next t ∧ t.gtr.st = .soft ∧
        t.gtr.cause = { kind := 7, idx := 0, ts := s.tb % 2 ^ 32 } ∧ t.told .brambleEstop) ∧
    (∀ (bs d : List Byte) (src : Nat) (n : Fin 64), (brmJudge bs s.bctx).2 = some { src := src, nbr := some n.val, body := d } →
      (s.brm.nbr[n].st = .admitted ∨ s.brm.nbr[n].st = .unreachable) →
      (∃ t, exec (.beacon bs) s = .next t ∧ t.brm.nbr[n].heardAt = some s.mono ∧ t.brm.nbr[n].st = .admitted ∧
        t.brm.nbr[n].rcost = leAt d 9 2 ∧ t.brm.nbr[n].parent = leAt d 11 1 ∧
        t.brm.nbr[n].links = (List.range (leAt d 12 1)).map (fun j => (leAt d (13 + 3 * j) 1, leAt d (14 + 3 * j) 2))) ∧
      (∀ (r : BrmBind), r ∈ s.cfg.brmBind → r.bind < 64 → r.cmd = false → r.addr = s.brm.nbr[n].addr → r.chan = leAt d 2 1 →
        leAt d 0 1 = 1 → leAt d 3 1 = 0 → ∃ t, exec (.values bs) s = .next t ∧ t.brm.nbr[n].heardAt = some s.mono ∧
          atD t.brm.bind r.bind {} = { val := leAt d 4 4, at_ := some s.mono, stale := false }) ∧
      (leAt d 1 1 = 1 → brmStation s.brm.nbr[n].addr s.bctx = true → s.gtr.st = .run → s.gtr.latch = none → s.gtr.pendSoft = [] →
        ∃ t, exec (.estop bs) s = .next t ∧ t.gtr.st = .soft ∧ t.gtr.cause = { kind := 7, idx := 0, ts := s.tb % 2 ^ 32 } ∧
          t.told .brambleEstop ∧ t.brm.nbr[n].heardAt = some s.mono) ∧
      (∃ t, exec (.leave bs) s = .next t ∧ t.brm.nbr[n].st = .lost ∧ t.brm.nbr[n].queue = [] ∧ t.brm.nbr[n].cur = none ∧
        t.told .bramblePartnerLost) ∧
      (∀ (snr : List Int) (k : Nat), s.siteKey = some k → s.brm.nbr[n].cur = none → s.brm.nbr[n].queue = [] → s.brm.nbr[n].pend = false →
        ∃ t f m, exec (.tmreq bs snr) s = .next t ∧ m = (List.range 28).map (fun j => snrLoad (s.cfg.brmGlobal.getD {}).tmMargin (snr.getD j (-1000))) ∧
          t.brm.nbr[n].rx = ((m, match s.brm.nbr[n].rx with | (_, i) :: _ => (i + 1) % 16 | [] => 0) :: s.brm.nbr[n].rx).take 2 ∧
          t.brm.nbr[n].cur = some f ∧ f.ftype = 0x05 ∧ f.cls = .control ∧ f.tries = 1) ∧
      (∃ t, exec (.tmr bs) s = .next t ∧ t.brm.nbr[n].pend = false ∧ t.brm.nbr[n].tmrAt = s.mono ∧ t.brm.nbr[n].retryAt = none ∧
        t.brm.nbr[n].tx = some ((List.range 28).map (fun j => field (2 * j) 2 (leAt d 1 7)), leAt d 0 1 % 16)))

/-- Admission, and what a partner takes from the controller (R348, R349, R359). -/
def Obligations.BrambleAdmits : Prop :=
  ∀ (s : State) (bs : List Byte),
    (∀ (i : BrmIn) (k : Nat), s.brmOn = true → (brmJudge bs s.bctx).2 = some i → leAt bs 0 1 = 0x02 → s.siteKey = some k → leAt i.body 11 1 = 1 →
      (∀ n : Fin 64, brmAdmit (leAt i.body 0 6) (leAt i.body 6 1) s.bctx = 0 → s.brm.admNo < 0xFFFF → brmEntry (leAt i.body 0 6) s.bctx = some n.val →
        ∃ t f, exec (.join bs) s = .next t ∧ t.brm.nbr[n].cur = some f ∧ t.brm.admNo = s.brm.admNo + 1 ∧ t.brm.nbr[n].st = .admitted ∧
          t.brm.nbr[n].addr = leAt i.body 0 6 ∧ t.brm.nbr[n].kind = leAt i.body 6 1 ∧
          t.brm.nbr[n].sid = (s.mb.epoch % 65536) * 65536 + (s.brm.admNo + 1) ∧ t.brm.nbr[n].txSeq = 1 ∧
          t.brm.nbr[n].heardAt = some s.mono ∧ t.told .partnerAdmitted ∧ f.tries = 1 ∧ f.cls = .control ∧
          f.sent = brmPayload k 0x03 .control true [] 0 0xFD 0 0xFD t.brm.nbr[n].sid 0 (leBytes 6 (leAt i.body 0 6) ++
            leBytes 4 (leAt i.body 7 4) ++ leBytes 1 0 ++ leBytes 1 (n.val + 1) ++ leBytes 4 t.brm.nbr[n].sid) ∧
          Sends (.brm (.frame { fch := fchBytes 0 true 0 f.sent.length (s.bctx.zcd f.sentAt) 0, pay := f.sent, atten := (s.cfg.brmGlobal.getD {}).txLevel } f.sentAt)) s t) ∧
      (let r := s.brm.nbr[(64 : Fin 65)]
       brmAdmit (leAt i.body 0 6) (leAt i.body 6 1) s.bctx = 1 → r.cur = none → r.queue = [] → r.pend = false →
        ∃ t f, exec (.join bs) s = .next t ∧ t.brm.nbr[(64 : Fin 65)].cur = some f ∧ t.brm.admNo = s.brm.admNo ∧
          (∀ n : Fin 64, t.brm.nbr[n].sid = s.brm.nbr[n].sid ∧ t.brm.nbr[n].addr = s.brm.nbr[n].addr) ∧ f.tries = 1 ∧ f.cls = .control ∧
          f.sent = brmPayload k 0x03 .control true [] 0 0xFD 0 0xFD r.sid r.txSeq (leBytes 6 (leAt i.body 0 6) ++
            leBytes 4 (leAt i.body 7 4) ++ leBytes 1 1 ++ leBytes 1 0xFE ++ leBytes 4 0) ∧
          Sends (.brm (.frame { fch := fchBytes 0 true 0 f.sent.length (s.bctx.zcd f.sentAt) 0, pay := f.sent, atten := (s.cfg.brmGlobal.getD {}).txLevel } f.sentAt)) s t)) ∧
    (s.fuses.variant.bramble = true → bs.length = 44 → leAt bs 0 1 = 0x03 → ∃ t, exec (.joinAck bs) s = .next t ∧
      ∀ r ∈ s.brm.remote,
        (r.addr = leAt ((bs.drop 16).take 16) 0 6 → r.nonce = leAt ((bs.drop 16).take 16) 6 4 → leAt ((bs.drop 16).take 16) 10 1 = 0 →
          { r with short := leAt ((bs.drop 16).take 16) 11 1, sid := some (leAt ((bs.drop 16).take 16) 12 4), seq := none } ∈ t.brm.remote) ∧
        ((r.addr ≠ leAt ((bs.drop 16).take 16) 0 6 ∨ r.nonce ≠ leAt ((bs.drop 16).take 16) 6 4) → r ∈ t.brm.remote)) ∧
    (s.fuses.variant.bramble = true → bs.length = 36 → leAt bs 0 1 = 0x10 → ∃ t, exec (.set bs) s = .next t ∧
      ∀ r ∈ s.brm.remote,
        (r.short = leAt bs 3 1 → r.sid = some (leAt bs 8 4) → (∀ q, r.seq = some q → newer (leAt bs 12 2) q = true) →
          ∃ u ∈ t.brm.remote, u.addr = r.addr ∧ u.seq = some (leAt bs 12 2) ∧ (leAt bs 16 1, leAt bs 20 4, leAt bs 18 2, s.mono) ∈ u.chans) ∧
        (r.sid ≠ some (leAt bs 8 4) → r ∈ t.brm.remote))

/-- Attempts, refreshes of tone maps, beacons, and lost partners (R338, R342, R344, R345, R349, R350, R361). -/
def Obligations.BrambleSends : Prop :=
  ∀ s : State,
    (s.brmOn = true →
      (∀ (n : Fin 65) (f : BrmTx) (ref : Nat), s.brm.nbr[n].cur = some f → s.brm.nbr[n].queue = [] → f.route = [] →
        (crc32c (f.sent.take (f.sent.length - 4)) % 256 = ref → ∃ t, exec (.brambleAck n ref) s = .next t ∧
          t.brm.nbr[n] = { s.brm.nbr[n] with cur := none, errs := 0, heardAt := some s.mono, linkAt := some s.mono, st := if s.brm.nbr[n].st = .unreachable then .admitted else s.brm.nbr[n].st }) ∧
        (crc32c (f.sent.take (f.sent.length - 4)) % 128 = ref % 128 → bitOf 7 ref = true → f.cls = .telemetry → 2 ≤ f.tries →
          ∃ t, exec (.brambleNack n ref) s = .next t ∧ t.brm.nbr[n] = { s.brm.nbr[n] with cur := none, heardAt := some s.mono, linkAt := some s.mono, st := if s.brm.nbr[n].st = .unreachable then .admitted else s.brm.nbr[n].st } ∧
            t.brm.eNoise = satInc 8 s.brm.eNoise ∧ t.brm.eDrop = satInc 8 s.brm.eDrop) ∧
        (∀ k, s.siteKey = some k → crc32c (f.sent.take (f.sent.length - 4)) % 128 = ref % 128 → f.tries < maxTries f.cls → s.brm.nbr[n].pend = false →
          ∃ t g, exec (.brambleNack n ref) s = .next t ∧ t.brm.nbr[n].cur = some g ∧ g.tries = f.tries + 1 ∧ g.seq = f.seq ∧ g.body = f.body ∧
            ∃ j < (slotWindow f.cls).2, g.sentAt = max s.mono s.brm.idleAt + 1152 + 576 * ((slotWindow f.cls).1 + j)) ∧
        (f.sentAt + f.dur + 5760 ≤ s.mono → f.cls = .control → 5 ≤ f.tries → s.brm.nbr[n].st = .admitted →
          ∃ t, exec (.ackTimeout n) s = .next t ∧ t.brm.nbr[n].st = .unreachable ∧ t.brm.nbr[n].cur = none ∧
            t.brm.nbr[n].errs = satInc 8 s.brm.nbr[n].errs ∧ Sends (.brm (.lost s.brm.nbr[n].addr)) s t)) ∧
      (s.brm.zc.lock = false → ∀ t0, s.brm.zc.last = some t0 →
        500000 / (s.cfg.brmGlobal.getD {}).mainsF * 95 ≤ (s.mono - t0) * 100 → (s.mono - t0) * 100 ≤ 500000 / (s.cfg.brmGlobal.getD {}).mainsF * 105 →
        ∃ t, exec .zeroCrossing s = .next t ∧ t.brm.zc = { lock := true, last := some s.mono, half := s.mono - t0, ign := 0 }) ∧
      (s.brm.zc.lock = true → ∀ t0, s.brm.zc.last = some t0 →
        (t0 + s.brm.zc.half + 500 < s.mono → s.mono < t0 + s.brm.zc.half + s.brm.zc.half / 2 → s.brm.zc.ign < 9 →
          ∃ t, exec .zeroCrossing s = .next t ∧ t.brm.zc = { s.brm.zc with ign := s.brm.zc.ign + 1 }) ∧
        (500 < s.brm.zc.half / 2 → t0 + s.brm.zc.half ≤ s.mono + 500 → s.mono ≤ t0 + s.brm.zc.half + 500 →
          ∃ t, exec .zeroCrossing s = .next t ∧ t.brm.zc = { s.brm.zc with last := some s.mono, half := s.mono - t0, ign := 0 })) ∧
      (∀ (n : Fin 64) (k : Nat), s.siteKey = some k → s.brm.nbr[n].cur = none → s.brm.nbr[n].queue = [] → refreshDue n s.bctx = true →
        ∃ t f, exec (.toneMapRefresh n) s = .next t ∧ t.brm.nbr[n].cur = some f ∧ t.brm.nbr[n].pend = true ∧ t.brm.nbr[n].pendAt = s.mono ∧
          f.ftype = 0x04 ∧ f.tries = 1) ∧
      (∀ n : Fin 64, s.brm.nbr[n].pend = true → s.brm.nbr[n].pendAt + 400000 ≤ s.mono → ∃ t, exec (.tmrTimeout n) s = .next t ∧
        t.brm.nbr[n].pend = false ∧ t.brm.nbr[n].tx = none ∧ t.brm.nbr[n].retryAt = some (s.mono + 10000000)) ∧
      (∀ k, s.siteKey = some k → ∃ t f, exec .beaconSend s = .next t ∧ t.brm.bcast = some f ∧ t.brm.bcnSeq = (s.brm.bcnSeq + 1) % 65536 ∧
        f.sent = brmPayload k 0x01 .telemetry false [] 0 0xFF 0 0xFF 0 s.brm.bcnSeq f.body ∧
        Sends (.brm (.frame { fch := fchBytes 0 true 0 f.sent.length (s.bctx.zcd f.sentAt) 0, pay := f.sent, atten := (s.cfg.brmGlobal.getD {}).txLevel } f.sentAt)) s t ∧
        leAt f.body 0 6 = s.fuses.brmId % 2 ^ 48 ∧ leAt f.body 9 2 = 0 ∧ leAt f.body 11 1 = 0xFE ∧
        ∃ j < 32, f.sentAt = max s.mono s.brm.idleAt + 1152 + 576 * (10 + j)) ∧
      (∀ (n : Fin 64) (t0 : Nat), s.brm.nbr[n].heardAt = some t0 →
        t0 + (s.cfg.brmGlobal.getD {}).lostN * (s.cfg.brmGlobal.getD {}).bcnP * 1000000 ≤ s.mono →
        s.brm.nbr[n].st = .admitted → ∃ t, exec (.bramblePartnerLost n) s = .next t ∧ t.brm.nbr[n].st = .lost ∧ t.brm.nbr[n].queue = [] ∧
          t.told .bramblePartnerLost)) ∧
    (∀ n : Fin 64, s.HostReady 0xA000 → s.brm.nbrSel = n.val →
      (s.brmOn = true → s.brm.nbr[n].st = .admitted → s.brm.nbr[n].pend = false → ∃ t, exec .toneMapRefreshWrite s = .next t ∧
        t.brm.nbr[n].pend = true ∧ t.brm.nbr[n].pendAt = s.mono ∧ t.answered .ok []) ∧
      (s.brm.nbr[n].st ≠ .admitted → ∃ t, exec .toneMapRefreshWrite s = .next t ∧ t.brm = s.brm ∧ t.answered .notInState []))

/-- The fallback path and the age of bindings (R356 to R359). A frame stands in the bit windows of one of the three phases. -/
def Obligations.BrambleFallback : Prop :=
  ∀ s : State, s.brmOn = true →
    ((s.cfg.brmGlobal.getD {}).fbEn = true → s.brm.zc.lock = true →
      (∀ (v : Vector Nat 3) (ph : Fin 3), (∀ j : Fin 3, j ≠ ph → field 68 12 v[j] ≠ 0xE25) →
        (∀ addr kind, v[ph] = fbFrame 1 addr kind → addr < 2 ^ 48 → kind < 256 → brmAdmit addr kind s.bctx = 0 →
          ∃ t, exec (.pulseBeacon v[0] v[1] v[2]) s = .next t ∧ t.brm.fbRx = satInc 8 s.brm.fbRx ∧ t.brm.fbPhase = ph.val ∧
            Sends (.brm (.fb (fbFrame 4 addr 0) (s.cfg.brmGlobal.getD {}).txLevel)) s t ∧
            ((∀ n : Fin 65, s.brm.nbr[n].st = .admitted → s.brm.nbr[n].addr ≠ addr) → addr ∈ t.brm.fbOnly)) ∧
        (field 68 12 v[ph] = 0xE25 → field 0 8 v[ph] ≠ fbCrc (field 64 4 v[ph]) (field 16 48 v[ph]) (field 8 8 v[ph]) →
          ∃ t, exec (.pulseBeacon v[0] v[1] v[2]) s = .next t ∧ t.gtr = s.gtr ∧ t.brm = { s.brm with fbBad := satInc 8 s.brm.fbBad, fbPhase := ph.val }) ∧
        (∀ addr, v[ph] = fbFrame 2 addr 1 → addr < 2 ^ 48 → brmStation addr s.bctx = true → s.gtr.st = .run → s.gtr.latch = none →
          s.gtr.pendSoft = [] → ∃ t, exec (.fallbackEstop v[0] v[1] v[2]) s = .next t ∧ t.gtr.st = .soft ∧
            t.gtr.cause = { kind := 7, idx := 0, ts := s.tb % 2 ^ 32 } ∧ t.told .brambleEstop)) ∧
      (∃ t, exec .ctrlBeaconSend s = .next t ∧ Sends (.brm (.fb (fbFrame 3 s.fuses.brmId 0) (s.cfg.brmGlobal.getD {}).txLevel)) s t)) ∧
    (∀ (k : Fin 64) (r : BrmBind) (t0 : Nat), s.cfg.brmBind.find? (fun r => r.bind == k.val && !r.cmd) = some r → s.brm.bind[k].at_ = some t0 →
      t0 + r.maxAge * 100000 < s.mono → ∃ t, exec (.bindingStale k) s = .next t ∧ t.brm.bind[k] = { s.brm.bind[k] with stale := true })

/-- Cuff's protection of a channel (R365 to R368). -/
def Obligations.CuffProtects : Prop :=
  ∀ (s : State) (n : Fin 16),
    (∀ (ms : List CufMeas) (m : CufMeas), ms.getD n {} = m →
      let b := s.cuf.begins s.pgRate s.mono s.cuf.ch[n]
      let k := s.cuf.ch[n].begin b m
      (∃ t, exec (.cuffProtectionCheck ms) s = .next t ∧ t.cuf.posAt = s.mono ∧ (b = true → t.cuf.ch[n].wait = false ∧ t.cuf.ch[n].dutyNow = s.cuf.ch[n].duty) ∧
        ∀ g : Fin 4, t.cuf.pos[g] = (s.cuf.pos[g] + s.pgRate * (256 * (s.cuf.freq[g] * (s.mono - s.cuf.posAt)))) % 256000000000) ∧
      (cufOn s.cuf k = false → m.tj ≤ 150 → ∃ t, exec (.cuffProtectionCheck ms) s = .next t ∧ t.cuf.ch[n].fault = s.cuf.ch[n].fault ∧
        t.cuf.ch[n].i = k.compared m ∧ t.cuf.ch[n].tj = m.tj) ∧
      (∀ t0, cufOn s.cuf k = true → m.lim = true → s.cuf.ch[n].shortSince = some t0 → t0 + 50 ≤ s.mono →
        ∃ t, exec (.cuffProtectionCheck ms) s = .next t ∧ t.cuf.ch[n].fault = true ∧ t.cuf.ch[n].cause = .short ∧
          t.cuf.ch[n].faultAt = s.mono ∧ t.cuf.ch[n].faults = satInc 8 s.cuf.ch[n].faults ∧ cufOn t.cuf t.cuf.ch[n] = false) ∧
      (s.cuf.ch[n].fault = false → m.lim = false → 150 < m.tj → ∃ t, exec (.cuffProtectionCheck ms) s = .next t ∧
        t.cuf.ch[n].fault = true ∧ t.cuf.ch[n].cause = .thermal) ∧
      (∀ (r : CufChan) (t0 : Nat), cufOn s.cuf k = true → m.lim = false → m.tj ≤ 150 → s.cuf.ch[n].cfg = some r →
        r.ilimC * 10 < k.compared m → s.cuf.ch[n].ocSince = some t0 → t0 + r.tOc * 1000 ≤ s.mono →
        ∃ t, exec (.cuffProtectionCheck ms) s = .next t ∧ t.cuf.ch[n].fault = true ∧ t.cuf.ch[n].cause = .overcurrent)) ∧
    (∀ r, s.cuf.ch[n].cfg = some r → s.cuf.ch[n].fault = true → r.retryN ≠ 0 → s.cuf.ch[n].faultAt + r.retryT * 100000 ≤ s.mono →
      let due := s.cuf.ch[n].faultAt + r.retryT * 100000
      ((s.cuf.ch[n].retryLog.filter (fun t => decide (due < t + 60000000))).length < r.retryN → ∃ t, exec (.cuffRetry n) s = .next t ∧
        t.cuf.ch[n].fault = false ∧ t.cuf.ch[n].wait = true ∧ t.cuf.ch[n].cause = .none ∧ t.cuf.ch[n].retries = satInc 8 s.cuf.ch[n].retries) ∧
      (r.retryN ≤ (s.cuf.ch[n].retryLog.filter (fun t => decide (due < t + 60000000))).length → exec (.cuffRetry n) s = .next s)) ∧
    (∀ xs, 150 < clampEnergy xs → s.cuf.ch[n].lock = false → ∃ t, exec (.clampEventEnd n xs) s = .next t ∧ t.cuf.ch[n].lock = true ∧
      t.cuf.ch[n].clampOver = true ∧ t.cuf.ch[n].cause = s.cuf.ch[n].cause ∧
      t.cuf.ch[n].locks = satInc 8 s.cuf.ch[n].locks ∧ (s.up = true → t.told .clampLock) ∧ cufOn t.cuf t.cuf.ch[n] = false) ∧
    (∀ xs e, clampEnergy xs = e → e ≤ 150 → e + cufSum s.mono s.cuf.ch[n] < 1200 → ∃ t, exec (.clampEventEnd n xs) s = .next t ∧ t.cuf.ch[n].lock = s.cuf.ch[n].lock ∧
      cufSum s.mono t.cuf.ch[n] = e + cufSum s.mono s.cuf.ch[n] ∧ t.cuf.ch[n].events = satInc 8 s.cuf.ch[n].events)

/-- Commands to Cuff's channels and what turns them off (R363, R367 to R370, R372, R373). -/
def Obligations.CuffCommandsAct : Prop :=
  ∀ (s : State) (n : Fin 16) (w : Word),
    (s.HostReady 0x9008 →
      ((∀ k : Fin 16, bitOf k w.toNat = true → clrRefused s.mono s.cuf.ch[k] = false) → ∃ t, exec (.cufClr w) s = .next t ∧ t.answered .ok [] ∧
        (bitOf n w.toNat = true → (s.cuf.ch[n].fault || s.cuf.ch[n].lock) = true →
          t.cuf.ch[n] = { s.cuf.ch[n].anew with fault := false, lock := false, cause := .none, clampOver := false }) ∧
        (bitOf n w.toNat = false → t.cuf.ch[n] = s.cuf.ch[n])) ∧
      (bitOf n w.toNat = true → clrRefused s.mono s.cuf.ch[n] = true → ∃ t, exec (.cufClr w) s = .next t ∧ t.cuf = s.cuf ∧ t.answered .notInState [])) ∧
    (s.HostReady (0x9100 + 0x10 * n.val) → n.val < s.fuses.variant.cuffs →
      (∀ r, s.cuf.ch[n].cfg = some r → r.owner = 0 → s.cuf.ch[n].lock = false → field 1 10 w.toNat ≤ 1000 → ∃ t, exec (.cufChannelWrite n w) s = .next t ∧
        t.cuf.ch[n] = { s.cuf.ch[n].command (bitOf 0 w.toNat) (field 1 10 w.toNat) with phase := field 11 8 w.toNat } ∧ t.answered .ok []) ∧
      (1000 < field 1 10 w.toNat → ∃ t, exec (.cufChannelWrite n w) s = .next t ∧ t.cuf = s.cuf ∧ t.answered .badValue []) ∧
      (field 1 10 w.toNat ≤ 1000 → s.cuf.ch[n].lock = true → ∃ t, exec (.cufChannelWrite n w) s = .next t ∧ t.cuf = s.cuf ∧ t.answered .notInState [])) ∧
    (∀ on, s.leafIn = true → s.forced n = on → ∃ t, exec (.cuffForce n on) s = .next t ∧ 
        t.cuf.ch[n] = { (if s.cuf.ch[n].force && !on then s.cuf.ch[n].anew else s.cuf.ch[n]) with force := on } ∧
      (on = true → cufOn t.cuf t.cuf.ch[n] = false)) ∧
    (∃ t, exec .vlsLoss s = .next t ∧ t.cuf.ch[n] = { ({} : CufCh) with cfg := s.cuf.ch[n].cfg } ∧ t.cuf.total = 0 ∧ t.cuf.tshed = false ∧
      t.cuf.freq = Vector.replicate 4 1000) ∧
    (s.seam.drive = false → s.seam.other = true → s.seam.lowAt + 200000 ≤ s.mono →
      ∃ t, exec .cuffStandbyOff s = .next t ∧ t.cuf.ch[n] = s.cuf.ch[n].command false 0 ∧
        ((∀ g : Fin 4, 0 < s.cuf.freq[g]) → cufOn t.cuf t.cuf.ch[n] = false))

/-- Hem starts, regulates, and leaves its waits (R377, R379 to R382, Table 13.3). -/
def Obligations.HemStarts : Prop :=
  ∀ (s : State) (c : HemCfg), s.up = true → s.hem.cfg = some c →
    (∀ code : Fin 8,
      (c.vout[code] = 0 → ∃ t, exec (.vselChange code) s = .next t ∧ t.hem = { s.hem with vselBad := true } ∧ t.told .hemVsel) ∧
      (c.vout[code] ≠ 0 → s.hem.st ≠ .off → ∃ t, exec (.vselChange code) s = .next t ∧
        t.hem = { s.hem with vsel := code.val, target := c.vout[code], vselBad := false }) ∧
      (c.vout[code] ≠ 0 → s.hem.st = .off → c.vinMin ≤ s.hem.vin → s.hem.vin ≤ c.vinMax → ∃ t, exec (.vselChange code) s = .next t ∧
        t.hem.st = .softstart ∧ t.hem.vref = s.hem.vout ∧ t.hem.target = c.vout[code])) ∧
    (s.hem.st = .softstart → s.hem.vref = s.hem.target → 97 * s.hem.target ≤ 100 * s.hem.vout → 100 * s.hem.vout ≤ 103 * s.hem.target →
      ∃ t, exec .softStartComplete s = .next t ∧ t.hem.st = .run ∧ t.hem.runAt = s.mono) ∧
    (s.hem.st = .hiccup → s.hem.hicAt + c.tHic * 1000 ≤ s.mono → ∃ t, exec .hiccupExpiry s = .next t ∧ t.hem.st = .softstart ∧
      t.hem.vref = s.hem.vout ∧ t.hem.active = c.phases &&& (15 - s.hem.phFlt % 16)) ∧
    (s.hem.st = .run → s.hem.runAt + 1000000 ≤ s.mono → exec .hicClear s = .next { s with hem := { s.hem with hic := 0 } }) ∧
    (∀ t0, s.hem.st = .vinWait → s.hem.vinOk = some t0 → t0 + 10000 ≤ s.mono → ∃ t, exec .hemVinOk s = .next t ∧ t.hem.st = .softstart ∧
      t.hem.vref = s.hem.vout) ∧
    (∀ m : HemMeas, s.hem.st = .run → s.hem.vref = s.hem.target → ∃ t, exec (.hemLoopUpdate m) s = .next t ∧ t.hem.vref = s.hem.vref ∧
      t.hem.vout = sat 16 (hemVout c m).floor.toNat ∧ t.hem.vin = sat 16 m.vin ∧
      (∀ p : Fin 4, t.hem.iph[p] = roundHalfAway (hemMean c m.sense[p]) ∧ t.hem.pwm[p] =
        { start := 25 * p.val, len := if bitOf p s.hem.active then hemTurnOff c (s.hem.iC * (s.hem.share[p] : Rat) / 32) 0 m.sense[p] else 0 }) ∧
      (∀ e : Rat, e = t.hem.vref / 100 - (c.droop : Rat) / 1000 * (hemTot t.hem / 10) / (phCount c.phases * (c.iPh : Rat) / 10) - hemVout c m / 100 →
        t.hem.integ = clampQ 0 ((c.ilimPk : Rat) / 10) (s.hem.integ + fVal c.ki * e / (c.fSw * 1000)) ∧
        t.hem.iC = clampQ 0 ((c.ilimPk : Rat) / 10) (fVal c.kp * e + t.hem.integ))) ∧
    (s.HostReady 0x7000 →
      (s.hem.st = .latched → ∃ t, exec .hemClr s = .next t ∧ (t.hem.st = .off ∨ t.hem.st = .softstart) ∧ t.hem.hic = 0 ∧ t.hem.phFlt = 0 ∧
        t.answered .ok []) ∧
      (s.hem.st ≠ .latched → ∃ t, exec .hemClr s = .next t ∧ t.hem = s.hem ∧ t.answered .notInState []))

/-- Hem's protection and its phases (R381 to R385, Table 13.3). -/
def Obligations.HemProtects : Prop :=
  ∀ (s : State) (c : HemCfg), s.up = true → s.hem.cfg = some c →
    (∀ t0, s.hem.st = .softstart → s.hem.lowHalf = some t0 → t0 + 500 ≤ s.mono →
      (s.hem.hic + 1 < c.nHic → ∃ t, exec .hemShort s = .next t ∧ t.hem.st = .hiccup ∧ t.hem.hic = s.hem.hic + 1 ∧ t.hem.hicAt = s.mono ∧
        t.hem.active = 0 ∧ t.told .hemFault) ∧
      (c.nHic ≤ s.hem.hic + 1 → ∃ t, exec .hemShort s = .next t ∧ t.hem.st = .latched ∧ t.hem.active = 0 ∧
        t.hem.faults = satInc 8 s.hem.faults ∧ t.told .hemFault)) ∧
    (∀ t0, s.hem.st = .run → s.hem.low85 = some t0 → t0 + 1000 ≤ s.mono → ∃ t, exec .hemUndervoltage s = .next t ∧ t.hem.st = .hiccup ∧
      t.hem.hic = 1 ∧ t.hem.active = 0 ∧ t.told .hemFault) ∧
    (∀ t0, (s.hem.st = .run ∨ s.hem.st = .softstart) → s.hem.high115 = some t0 → t0 + 20 ≤ s.mono → ∃ t, exec .hemOvervoltage s = .next t ∧
      t.hem.st = .latched ∧ t.hem.active = 0 ∧ t.told .hemFault ∧ ∃ b, t.hem.ring = (b :: s.hem.ring).take 8 ∧ leAt b 0 1 = 3 ∧ b.length = 32) ∧
    ((s.hem.st = .run ∨ s.hem.st = .softstart ∨ s.hem.st = .hiccup) → (s.hem.vin < c.vinMin ∨ c.vinMax < s.hem.vin) →
      ∃ t, exec .hemVinOut s = .next t ∧ t.hem.st = .vinWait ∧ t.hem.active = 0 ∧ t.told .hemFault) ∧
    (∀ p : Fin 4, s.hem.st = .run → bitOf p s.hem.active = true → 256 ≤ s.hem.peaks[p] → ∃ t, exec (.phaseOvercurrent p) s = .next t ∧
      t.hem.phFlt = s.hem.phFlt ||| 2 ^ p.val ∧ t.told .hemFault ∧
      (c.phases &&& (15 - t.hem.phFlt % 16) = 0 → t.hem.st = .latched ∧ t.hem.active = 0) ∧
      (c.phases &&& (15 - t.hem.phFlt % 16) ≠ 0 → t.hem.st = .run ∧ t.hem.active = s.hem.active - 2 ^ p.val)) ∧
    (∀ (t0 p : Nat), s.hem.st = .run → s.hem.blkAt = none → s.hem.shedding = none → c.minPh < phCount s.hem.active → s.hem.shedOk = some t0 →
      t0 + c.tShed * 1000 ≤ s.mono → (bitsOf 4 s.hem.active).getLast? = some p →
      exec .phaseShed s = .next { s with hem := { s.hem with shedding := some p, shedOk := none } }) ∧
    (∀ p : Nat, s.hem.st = .run → 16 ≤ s.hem.addN → (bitsOf 4 (c.phases &&& (15 - s.hem.phFlt % 16) &&& (15 - s.hem.active % 16))).head? = some p →
      exec .phaseAdd s = .next { s with hem := { s.hem with
        active := s.hem.active + 2 ^ p, share := updN s.hem.share p (fun _ => 0), addN := 0 } }) ∧
    (s.hem.st = .run → (s.hem.vout : Rat) + c.dvFast < s.hem.vref → ∃ t, exec .fastCondition s = .next t ∧ t.hem.shedding = none ∧
      t.hem.active = c.phases &&& (15 - s.hem.phFlt % 16) ∧ t.hem.blkAt = some s.mono ∧ t.hem.share = Vector.replicate 4 32 ∧
      t.hem.aborts = (if s.hem.shedding.isSome then satInc 8 s.hem.aborts else s.hem.aborts)) ∧
    (∀ t0, s.hem.blkAt = some t0 → t0 + 1000000 ≤ s.mono → exec .shedBlockExpiry s = .next { s with hem := { s.hem with blkAt := none } })

/-- Key-update messages and the binding of a pair's key (R391, R392, R395 to R397, R400). -/
def Obligations.CloakTakesKeys : Prop :=
  ∀ s : State,
    (s.HostReady 0x20048 →
      (s.clk.job = none → s.clk.noKeys = false → ∃ t, exec .keyUpdateGo s = .next t ∧
        t.clk = { s.clk with job := some (winBytes 0 801 s.clk.ku) } ∧ t.answered .ok []) ∧
      ((s.clk.job.isSome = true ∨ s.clk.noKeys = true) → ∃ t, exec .keyUpdateGo s = .next t ∧ t.clk = s.clk ∧ t.answered .notInState [])) ∧
    (∀ (m : List Byte) (r key : Nat), s.up = true → s.clk.job = some m → kuJudge s.fuses s.fuses.kaHash s.clk m = (r, key) →
      (r ≠ 0 → ∃ t, exec .keyUpdateJudged s = .next t ∧
        t.clk = { s.clk with job := none, result := r, kuRefused := satInc 16 s.clk.kuRefused }) ∧
      (r = 0 → (kuParse m).op = 1 → ∃ t, exec .keyUpdateJudged s = .next t ∧ t.clk.result = 0 ∧ t.clk.job = none ∧
        t.clk.kuCtr = (kuParse m).counter ∧ t.told .keyUpdate ∧ (atD t.clk.slots (kuParse m).slot {}).origin = 3 ∧
        (atD t.clk.slots (kuParse m).slot {}).version = ((atD s.clk.slots (kuParse m).slot {}).version + 1) % 2 ^ 16 ∧
        (atD t.clk.slots (kuParse m).slot {}).key = key) ∧
      (r = 0 → (kuParse m).op = 2 → s.clk.rngFail = false → ∃ t, exec .keyUpdateJudged s = .next t ∧ t.clk.result = 0 ∧
        t.clk.kuCtr = (kuParse m).counter ∧ t.told .keyUpdate ∧ (atD t.clk.slots (kuParse m).slot {}).origin = 1 ∧
        (atD t.clk.slots (kuParse m).slot {}).key = drawKey (kuParse m).ktype (Config.freeValue s.fresh)) ∧
      (r = 0 → (kuParse m).op = 3 → ∃ t, exec .keyUpdateJudged s = .next t ∧ t.clk.result = 0 ∧ t.clk.kuCtr = (kuParse m).counter ∧
        t.told .keyUpdate ∧ (atD t.clk.slots (kuParse m).slot {}).typ = .empty) ∧
      (r = 0 → (kuParse m).op = 4 → ∃ t, exec .keyUpdateJudged s = .next t ∧ t.clk.anchor = some (Twice.of anchorBytes (leNat ((kuParse m).wkey.take 32))) ∧
        t.clk.slots = s.clk.slots ∧ t.told .keyUpdate)) ∧
    (∀ (r : SeamPair) (cert : IdCert) (epk sig : List Byte), s.up = true → s.seam.pair = some r → s.clk.bound ≠ some r.peerId →
      (s.clk.noKeys = true → ∃ t, exec (.pairBinding cert epk sig) s = .next t ∧
        t.clk = { s.clk with keyMiss := satInc 16 s.clk.keyMiss } ∧ t.told .keyMissing) ∧
      (s.clk.noKeys = false → (s.clk.rngFail = true ∨ 1048576 ≤ s.clk.leaf) → ∃ t, exec (.pairBinding cert epk sig) s = .next t ∧
        t.clk = s.clk ∧ t.told .notInState) ∧
      (s.clk.noKeys = false → s.clk.rngFail = false → s.clk.leaf < 1048576 → cert.ok = true → cert.devId = r.peerId → Config.hssVerify cert.idPk epk sig = true → ∃ t, exec (.pairBinding cert epk sig) s = .next t ∧
        t.clk.bound = some r.peerId ∧ t.clk.leaf = s.clk.leaf + 1 ∧ t.clk.slots[2].typ = .hmac ∧ t.clk.slots[2].origin = 2 ∧
        t.clk.slots[2].version = (s.clk.slots[2].version + 1) % 2 ^ 16 ∧
        t.clk.slots[2].key = pairKey (drawKey 4 (Config.freeValue s.fresh)) epk s.fuses.devId r.peerId) ∧
      (s.clk.noKeys = false → s.clk.rngFail = false → s.clk.leaf < 1048576 → (cert.ok = false ∨ cert.devId ≠ r.peerId ∨ Config.hssVerify cert.idPk epk sig = false) → ∃ t, exec (.pairBinding cert epk sig) s = .next t ∧ t.clk.bound = s.clk.bound ∧
        t.clk.slots = s.clk.slots ∧ t.clk.leaf = s.clk.leaf + 1))

/-- Attestation and the random source (R400 to R402, Table 14.7). -/
def Obligations.CloakAttests : Prop :=
  ∀ s : State,
    (∀ slot : Fin 64, s.HostReady 0x20054 →
      (s.clk.attJob = none → (s.clk.slot slot).typ ≠ .empty → (slot.val < 5 ∨ 15 < slot.val) → s.clk.noKeys = false → s.clk.leaf < 1048576 →
        ∃ t, exec (.attestationGo slot) s = .next t ∧ t.answered .ok [] ∧ t.clk.attSlot = slot.val ∧ t.clk.attDone = false ∧ t.clk.leaf = s.clk.leaf + 1 ∧
          t.clk.attJob = some { num := slot.val, slot := s.clk.slot slot, kuCtr := s.clk.kuCtr, leaf := s.clk.leaf, challenge := winBytes 40 8 s.clk.att }) ∧
      ((s.clk.attJob.isSome = true ∨ s.clk.noAttest slot = false ∧ 1048576 ≤ s.clk.leaf) →
        ∃ t, exec (.attestationGo slot) s = .next t ∧ t.clk = s.clk ∧ t.answered .notInState []) ∧
      (s.clk.attJob = none → ((s.clk.slot slot).typ = .empty ∨ (5 ≤ slot.val ∧ slot.val ≤ 15) ∨ s.clk.noKeys = true) →
        ∃ t, exec (.attestationGo slot) s = .next t ∧ t.clk = { s.clk with keyMiss := satInc 16 s.clk.keyMiss } ∧
          t.answered .notInState [] ∧ t.told .keyMissing)) ∧
    (s.up = true →
      (∀ j, s.clk.attJob = some j → ∃ t, exec .attestationDone s = .next t ∧ t.clk.attDone = true ∧ t.clk.attJob = none ∧
        t.clk.att = winPut 0 (attBody s.fuses.devId j ++
          leBytes 2964 (Config.hssSign (s.clk.slot 0).key j.leaf (attBody s.fuses.devId j))) s.clk.att) ∧
      (exec .rngHealthFail s = .next { s with clk := { s.clk with rngFail := true, healthy := 0 } }) ∧
      (∀ n, s.clk.rngFail = true → 1024 ≤ s.clk.healthy + n →
        exec (.rngRecover n) s = .next { s with clk := { s.clk with rngFail := false, healthy := 0 } }) ∧
      (∀ n, s.clk.rngFail = true → s.clk.healthy + n < 1024 →
        exec (.rngRecover n) s = .next { s with clk := { s.clk with healthy := s.clk.healthy + n } }) ∧
      (s.clk.rngFail = false → (s.clk.seededAt + 1000000 ≤ s.mono ∨ 65536 ≤ s.clk.requests) →
        exec .drbgReseed s = .next { s with clk := { s.clk with seededAt := s.mono, requests := 0 } }))

/-- The strap, the choice of a slot, the first-leaf block, and how the rest of the image applies or is refused (R408, R417 to R419, R421,
R422, R424). -/
def Obligations.LoaderStarts : Prop :=
  (∀ s : State, s.up = true →
    (s.img.st = .start → s.img.strapOk = false →
      (∀ (c : Fin 16) (q : Rat), strapRatio (strapOhms.getD c none) - 12 / 1000 ≤ q → q ≤ strapRatio (strapOhms.getD c none) + 12 / 1000 →
        exec (.strapLatch q) s = .next { s with img := { s.img with strapOk := true, strap := c.val, strapInv := false } }) ∧
      (∀ q : Rat, (∀ c : Fin 16, q < strapRatio (strapOhms.getD c none) - 12 / 1000 ∨ strapRatio (strapOhms.getD c none) + 12 / 1000 < q) →
        ∃ t, exec (.strapLatch q) s = .next t ∧ t.img = { s.img with strapOk := true, strap := 0, strapInv := true } ∧ t.told .strapInvalid)) ∧
    (∀ sfdp, s.img.st = .start → s.img.strapOk = true → s.rootEnded = true →
      (s.img.mram.copyOk[0] = false → s.img.mram.copyOk[1] = false → ∃ t, exec (.loaderStart sfdp) s = .next t ∧ t.img.st = .flb ∧
        t.img.slot = (if bitOf 1 s.img.strap then 1 else 0) ∧ t.img.mram.sel = none ∧ t.img.mram.bad = #v[false, false] ∧
        t.img.mram.copyOk = #v[true, true]) ∧
      (∀ l : Loader, (s.img.mram.copyOk[0] || s.img.mram.copyOk[1]) = true →
        l = { s.img with mram := { s.img.mram with copyOk := #v[true, true] }, sfdp := sfdp, read := flashRead sfdp (bitOf 2 s.img.strap) } →
        (s.img.mram.bad[s.img.first] = false → exec (.loaderStart sfdp) s =
          .next { s with img := { l with st := .flb, slot := s.img.first, tried := [s.img.first] } }) ∧
        (s.img.mram.bad[s.img.first] = true → s.img.mram.bad[otherSlot s.img.first] = false → exec (.loaderStart sfdp) s =
          .next { s with img := { l with st := .flb, slot := otherSlot s.img.first, tried := [otherSlot s.img.first], fallback := true } }) ∧
        (s.img.mram.bad[s.img.first] = true → s.img.mram.bad[otherSlot s.img.first] = true → ∃ t, exec (.loaderStart sfdp) s = .next t ∧
          t.img.st = .wait ∧ t.img.errReason = 14 ∧ t.told .imageRefused))) ∧
    (∀ a, s.img.st = .flb → s.img.leafOf s.fuses s.imgAnchor s.img.slot false = .ok a → ∃ t, exec .firstLeafApply s = .next t ∧
      t.img.st = .rest ∧ t.img.leaf = a.got.recs ∧ t.gtr.applied = true ∧ t.cfg = a.got.recs.foldl (fun c r => c.add r.2) s.cfg ∧
      (s.seam.role = .single → (∀ x ∈ a.got.recs, ∀ r, x.2 ≠ .seamPair r) → t.cnp.started = true)) ∧
    (∀ e, s.img.st = .flb → s.img.leafOf s.fuses s.imgAnchor s.img.slot false = .error e →
      ((otherSlot s.img.slot) ∉ s.img.tried → s.img.mram.bad[otherSlot s.img.slot] = false → ∃ t, exec (.firstLeafRefused true) s = .next t ∧
        t.img.st = .flb ∧ t.img.slot = otherSlot s.img.slot ∧ t.img.fallback = true ∧ t.img.errReason = e.reason) ∧
      ((otherSlot s.img.slot) ∈ s.img.tried → ∃ t, exec (.firstLeafRefused true) s = .next t ∧ t.img.st = .wait ∧ t.img.errReason = e.reason ∧
        t.told .imageRefused)) ∧
    (s.img.st = .flb → (otherSlot s.img.slot) ∈ s.img.tried → ∃ t, exec (.firstLeafRefused false) s = .next t ∧ t.img.st = .wait ∧
      t.img.errReason = 13)) ∧
  (∀ s : State, s.up = true →
    (∀ a g, s.img.st = .rest → s.img.wholeOf s.fuses s.imgAnchor s.img.slot false = .ok (a, g) → ∃ t, exec .restApply s = .next t ∧
      t.img.st = .run ∧ t.img.serial = a.hdr.serial ∧ t.img.digest = Config.sha256 (s.img.rd s.img.slot false 0 a.hdr.imgLen) ∧
      t.cnp.restIn = true ∧ t.cfg = g.recs.foldl (fun c r => c.add r.2) s.cfg) ∧
    (∀ e, s.img.st = .rest → s.img.wholeOf s.fuses s.imgAnchor s.img.slot false = .error e → ∃ t, exec (.restRefused true) s = .next t ∧
      t.img.st = .refused ∧ t.img.errReason = e.reason ∧ t.img.mram.bad[s.img.slot] = true ∧ t.cnp.rampDown = true ∧ t.told .imageRefused ∧
      (s.gtr.st = .run → s.gtr.latch = none → s.gtr.pendSoft = [] → t.gtr.st = .soft ∧ t.gtr.cause = { kind := 8, idx := 0, ts := s.tb % 2 ^ 32 })) ∧
    (s.img.st = .refused → s.gtr.st = .clearing → s.gtr.clrAt + 200000 ≤ s.mono →
      exec .heartbeatStop s = .next { s with img := { s.img with hbStopped := true } } ∧
      ∀ t, exec .heartbeatStop s = .next t → exec .heartbeat t = .next t))

/-- The image operations of a host (R427, R428, Table 15.9). -/
def Obligations.ImageOperationsAct : Prop :=
  ∀ (s : State) (k : Fin 2), s.HostReady 0x70 →
    (s.img.opBlocked = true → ∃ t, exec (.imageErase k) s = .next t ∧ t.img = s.img ∧ t.answered .notInState []) ∧
    (s.img.opBlocked = false → s.img.inUse k = true → ∃ t, exec (.imageErase k) s = .next t ∧ t.img = s.img ∧ t.answered .notInState []) ∧
    (s.img.opBlocked = false → s.img.inUse k = false → ∃ t, exec (.imageErase k) s = .next t ∧ t.answered .ok [] ∧ t.img.opState = 1 ∧
      (∀ a, Store.get t.img.flash[k] a = 0xFF) ∧ t.img.flash[otherSlot k] = s.img.flash[otherSlot k] ∧ t.img.mram.bad[k] = false ∧
      t.img.mram.checked[k] = false ∧ t.img.mram.sel ≠ some k) ∧
    (s.img.opBlocked = false → s.img.inUse k = false →
      (s.img.page = 0 → ∃ t, exec (.imageProg k true) s = .next t ∧ t.answered .ok [] ∧ t.img.mram.staged = some (k, s.img.winPage) ∧
        t.img.flash = s.img.flash ∧ t.img.mram.checked[k] = false) ∧
      (0 < s.img.page → (∀ j < 4096, Store.get s.img.flash[k] (s.img.page * 4096 + j) = 0xFF) → flashOk s.img →
        ∃ t, exec (.imageProg k true) s = .next t ∧ t.answered .ok [] ∧ Store.read t.img.flash[k] (s.img.page * 4096) 4096 = s.img.winPage ∧
          (∀ a, a < s.img.page * 4096 ∨ (s.img.page + 1) * 4096 ≤ a → Store.get t.img.flash[k] a = Store.get s.img.flash[k] a) ∧
          t.img.flash[otherSlot k] = s.img.flash[otherSlot k] ∧ t.img.mram.checked[k] = false) ∧
      (0 < s.img.page → (∃ j < 4096, Store.get s.img.flash[k] (s.img.page * 4096 + j) ≠ 0xFF) →
        ∃ t, exec (.imageProg k true) s = .next t ∧ t.img.flash = s.img.flash ∧ t.img.op = some (.prog, { failed := true, result := some 13 }))) ∧
    (s.img.opBlocked = false →
      (∀ x, s.img.wholeOf s.fuses s.imgAnchor k true = .ok x → ∃ t, exec (.imageCheck k true) s = .next t ∧ t.answered .ok [] ∧
        t.img.mram.checked[k] = true ∧ t.img.mram.bad[k] = false ∧ t.img.op = some (.check, { result := some 0 }) ∧ t.img.flash = s.img.flash) ∧
      (∀ e, s.img.wholeOf s.fuses s.imgAnchor k true = .error e → e.reason ≠ 0 → ∃ t, exec (.imageCheck k true) s = .next t ∧ t.answered .ok [] ∧
        t.img.op = some (.check, { failed := true, result := some e.reason }) ∧ t.img.mram = s.img.mram)) ∧
    (s.img.opBlocked = false →
      (s.img.mram.checked[k] = false → ∃ t, exec (.imageSelect k true) s = .next t ∧ t.img = s.img ∧ t.answered .notInState []) ∧
      (s.img.mram.checked[k] = true → s.img.mram.staged = none → ∃ t, exec (.imageSelect k true) s = .next t ∧ t.answered .ok [] ∧
        t.img.mram.sel = some k ∧ t.img.flash = s.img.flash) ∧
      (∀ pg, s.img.mram.checked[k] = true → s.img.mram.staged = some (k, pg) → pg.length = 4096 → flashOk s.img →
        (∀ j < 4096, Store.get s.img.flash[k] j = 0xFF) → ∃ t, exec (.imageSelect k true) s = .next t ∧ t.answered .ok [] ∧
          t.img.mram.sel = some k ∧ t.img.mram.staged = none ∧ Store.read t.img.flash[k] 0 4096 = pg)) ∧
    (∀ o e, s.img.op = some (o, e) → exec .imageOpDone s =
      .next { s with img := { s.img with op := none, opState := (if e.failed then 3 else 2), result := e.result.getD s.img.result } })

/-- Sources that reset the device at once (R430, R431, R434 to R436, R450, Table 16.2). -/
def Obligations.ResetsBegin : Prop :=
  ∀ s : State,
    (∀ k : Fin 3, k.val < 2 → ∃ t, exec (.powerOnReset k) s = .next t ∧ 
      t.rst = { hold := some { level := 0, src := s.meets 0 1, at_ := s.mono } } ∧
      t.gld = s.gld.count 1 ∧ t.cfg = {} ∧ t.cnp = {} ∧ t.img.st = .start ∧ (∀ p : Fin 12, t.ports[p] = {}) ∧
      t.img.flash = s.img.flash ∧ t.img.mram = s.img.mram ∧ t.cuf = s.cuf ∧ t.slv = s.slv ∧ t.thk.log = s.thk.log ∧ t.clk.slots = s.clk.slots) ∧
    (∀ t0, s.gld.pwren = true → s.gld.sleepAt = some t0 →
      (t0 + 10000 ≤ s.mono → ∃ t, exec (.powerOnReset 2) s = .next t ∧ t.gld.pwren = false ∧ 
        t.rst.hold = some { level := 0, src := s.meets 0 1, at_ := s.mono }) ∧
      (s.mono < t0 + 10000 → exec (.powerOnReset 2) s = .next s)) ∧
    (∃ t, exec .brownOut s = .next t ∧ t.rst = { hold := some { level := 0, src := s.meets 0 2, at_ := s.mono } } ∧ t.gld = s.gld.count 2 ∧ t.cfg = {}) ∧
    (∀ ns, ns < 200 → exec (.pinReset ns) s = .next s) ∧
    (∀ ns, 1000 ≤ ns → s.up = true → ∃ t, exec (.pinReset ns) s = .next t ∧ 
      t.rst.hold = some { level := 1, src := 3, at_ := s.mono } ∧ t.gld = s.gld.count 3 ∧
      t.rst.src = s.rst.src ∧ t.cfg = {} ∧ t.cuf = s.cuf ∧ t.img.flash = s.img.flash) ∧
    (∀ ns h, 1000 ≤ ns → s.rst.hold = some h → h.level = 0 → exec (.pinReset ns) s =
      .next { s with gld := s.gld.count 3, rst := { s.rst with hold := some { h with at_ := s.mono } } }) ∧
    (s.up = true → bitOf 3 s.img.strap = true → ∃ t, exec (.debugResetRequest true) s = .next t ∧ 
      t.rst.hold = some { level := 1, src := 6, at_ := s.mono }) ∧
    (s.rst.hold = none → bitOf 3 s.img.strap = true → exec (.debugResetRequest false) s =
      .next { s with
        gld := s.gld.count 6, rst := { s.rst with hold := some { level := 2, src := 6, at_ := s.mono } }
        slvCtr := { s.slvCtr with next := s.slvCtr.top }, mb := { s.mb with bus := s.mb.bus.map MBus.dropAnnounces } }) ∧
    (bitOf 3 s.img.strap = false → ∀ sys, exec (.debugResetRequest sys) s = .next s) ∧
    (∀ w : Word, s.HostReady 0x2004 →
      (field 16 16 w.toNat ≠ 0xA5C3 → ∀ c ∈ [Instr.resetSysWrite w, Instr.resetCoreWrite w], ∃ t, exec c s = .next t ∧ t.rst = s.rst ∧ t.gld = s.gld ∧
        t.answered .badValue []) ∧
      (field 16 16 w.toNat = 0xA5C3 → bitOf 0 w.toNat = true →
        (s.rst.pend.isSome = true → ∃ t, exec (.resetSysWrite w) s = .next t ∧ t.rst = s.rst ∧ t.answered .notInState []) ∧
        (s.rst.pend = none → s.gaiterSafe = true → ∃ t, exec (.resetSysWrite w) s = .next t ∧ t.rst.hold = some { level := 1, src := 5, at_ := s.mono } ∧
          t.gld = s.gld.count 5 ∧ t.answered .ok []) ∧
        (s.rst.pend = none → s.gtr.st = .run → s.gtr.latch = none → s.gtr.pendSoft = [] → ∃ t, exec (.resetSysWrite w) s = .next t ∧
          t.rst.pend = some { src := 5, at_ := s.mono } ∧ t.gtr.st = .soft ∧ t.gtr.cause = { kind := 6, idx := 0, ts := s.tb % 2 ^ 32 } ∧
          t.gld = s.gld.count 5 ∧ t.answered .ok [])) ∧
      (field 16 16 w.toNat = 0xA5C3 → bitOf 0 w.toNat = false → bitOf 1 w.toNat = true →
        (bitOf 3 s.img.strap = true → s.gaiterSafe = true → s.rst.hold = none → ∃ t, exec (.resetCoreWrite w) s = .next t ∧
          t.rst.hold = some { level := 2, src := 5, at_ := s.mono } ∧ t.gld = s.gld.count 5 ∧ t.answered .ok []) ∧
        ((bitOf 3 s.img.strap = false ∨ s.gaiterSafe = false) → ∃ t, exec (.resetCoreWrite w) s = .next t ∧ t.rst = s.rst ∧
          t.answered .notInState [])))

/-- Sources whose system reset is deferred and its end, and the release sequence (R388, R389, R430, R433, R437, R438, R443, Table 16.8). -/
def Obligations.ResetsWait : Prop :=
  (∀ s : State,
    (s.rst.hold = none → ∀ app p, p = s.rst.pend.getD { src := 4, at_ := s.mono } → exec (.watchdogExpiry app) s =
      .next { s with
        gld := s.gld.count 4
        rst := { s.rst with
          hold := some { level := 2, src := 4, at_ := s.mono }, coresOut := true
          pend := some { p with causes := p.causes ||| (if app then 4 else 2) } }
        slvCtr := { s.slvCtr with next := s.slvCtr.top }
        mb := { s.mb with bus := s.mb.bus.map MBus.dropAnnounces } }) ∧
    (∀ p, s.rst.hold = none → p = s.rst.pend.getD { src := 8, at_ := s.mono } → exec .lockUp s =
      .next { s with
        gld := s.gld.count 8
        rst := { s.rst with
          hold := some { level := 2, src := 8, at_ := s.mono }, coresOut := true
          pend := some { p with causes := p.causes ||| 2 } }
        slvCtr := { s.slvCtr with next := s.slvCtr.top }
        mb := { s.mb with bus := s.mb.bus.map MBus.dropAnnounces } }) ∧
    (∀ m : Fin 16, s.rst.hold = none → bitOf 0 m = true → ∃ t, exec (.clockFailure m) s = .next t ∧ t.rst.fail = s.rst.fail ||| 1 ∧ t.rst.refOk = false ∧
      (∀ k : Fin 3, t.rst.lock[k] = false) ∧ t.rst.hold = some { level := 2, src := 7, at_ := s.mono } ∧ t.rst.pend.isSome = true ∧ t.gld = s.gld.count 7) ∧
    (∀ (k : Fin 3) (m : Fin 16), s.rst.hold = none → m.val = 2 ^ (k.val + 1) → ∃ t, exec (.clockFailure m) s = .next t ∧ t.rst.fail = s.rst.fail ||| 2 ^ (k.val + 1) ∧
      t.rst.refOk = s.rst.refOk ∧ t.rst.lock[k] = false ∧ (∀ j : Fin 3, j ≠ k → t.rst.lock[j] = s.rst.lock[j])) ∧
    (∀ core, s.up = true → (∀ c t0, s.rst.appAt = some (c, t0) → c = core ∨ t0 + 1000000 < s.mono) → exec (.appCoreRestart core) s =
      .next { s with gld := s.gld.count 4, rst := { s.rst with appAt := some (core, s.mono) } }) ∧
    (∀ core c t0, s.rst.hold = none → s.rst.appAt = some (c, t0) → c ≠ core → s.mono ≤ t0 + 1000000 → ∃ t, exec (.appCoreRestart core) s = .next t ∧
      t.rst.hold = some { level := 2, src := 4, at_ := s.mono } ∧ t.rst.pend.isSome = true) ∧
    (∀ p, s.up = true → s.rst.pend = some p → (s.gaiterSafe = true ∨ p.at_ + 700000 ≤ s.mono) → ∃ t, exec .deferredSystemReset s = .next t ∧
      t.rst.hold = some { level := 1, src := p.src, defer := s.rst.coresOut, at_ := s.mono } ∧ t.rst.pend = none ∧ t.cfg = {} ∧ t.cuf = s.cuf) ∧
    (∀ p, s.up = true → s.rst.pend = some p → s.gaiterSafe = false → s.gtr.standby = false → s.mono < p.at_ + 700000 → exec .deferredSystemReset s = .next s)) ∧
  (∀ (s : State) (h : Hold) (tries : List RootTry), s.rst.hold = some h →
    (h.level < 2 → h.at_ + h.least ≤ s.mono → s.fuses.fwOk = true → (h.level = 0 → s.gld.pwren = true ∧ s.fuses.mapOk = true) → ∃ t, exec (.releaseSequence tries) s = .next t ∧ t.rst.hold = none ∧ t.rst.src = h.src ∧
      t.rst.level = h.level ∧ t.rst.defer = h.defer ∧ t.rst.seen = s.rst.seen ||| 2 ^ (h.src - 1) ∧ t.rst.refOk = true ∧
      (∀ k : Fin 3, t.rst.lock[k] = true) ∧ t.tb = 30 ∧ t.told .deviceRestarted ∧
      (∀ r x, tries = [r] → s.clk.helper.take Helper.bytes (fun _ => 0) = some x → r.errors * 100 ≤ 15 * 32768 →
        rootCheck (rootPrk s.fuses.devId (Config.helperSecret x.data)) = x.check → t.clk.ready = true ∧ t.clk.attempts = 1 ∧
        t.clk.prk = some (rootPrk s.fuses.devId (Config.helperSecret x.data)) ∧ t.clk.margin = decide (8 * 32768 < 100 * r.errors)) ∧
      (tries = [] → t.clk.ready = false ∧ t.clk.rootFail = true ∧ t.clk.attempts = 4 ∧ t.told .cloakFault)) ∧
    (h.level = 2 → h.at_ + h.least ≤ s.mono → s.rst.refOk = true → exec (.releaseSequence tries) s =
      .next { s with rst := { s.rst with hold := none, src := h.src, level := 2, defer := h.defer, seen := s.rst.seen ||| 2 ^ (h.src - 1) } }) ∧
    (h.level < 2 → (h.level = 0 ∧ (s.gld.pwren = false ∨ s.fuses.mapOk = false) ∨ s.fuses.fwOk = false) → exec (.releaseSequence tries) s = .next s) ∧
    (s.mono < h.at_ + h.least → exec (.releaseSequence tries) s = .next s))

/-- PLLs, Glade, and the temperature bands (R436, R443, R444, R450 to R455). -/
def Obligations.GladeActs : Prop :=
  ∀ s : State,
    (s.up = true → s.standby = true → s.cores = false → s.seam.relayWin = none → ∃ t, exec (.pllStop 0) s = .next t ∧ t.rst.lock[0] = false ∧
      t.rst.lock[1] = s.rst.lock[1] ∧ t.rst.lock[2] = s.rst.lock[2]) ∧
    (∀ k : Fin 3, s.up = true → s.rst.refOk = true → ∃ t, exec (.pllRequest k) s = .next t ∧ t.rst.lock[k] = true) ∧
    (exec .gladeXtalLoss s = .next { s with gld := { s.gld with rc32 := true } }) ∧
    (exec .gladeXtalReturn s = .next { s with gld := { s.gld with rc32 := false } }) ∧
    (s.HostReady 0x3000 →
      (s.sleepOk = true → ∃ t, exec .gladeSleep s = .next t ∧ t.gld = { s.gld with sleepAt := some s.mono } ∧ t.answered .ok []) ∧
      (s.sleepOk = false → ∃ t, exec .gladeSleep s = .next t ∧ t.gld = s.gld ∧ t.answered .notInState []) ∧
      (∃ t, exec .gldClrCnt s = .next t ∧ t.gld = { s.gld with resets := Vector.replicate 8 0 } ∧ t.answered .ok [])) ∧
    (s.gld.pwren = false →
      (s.gld.wakePin = true → exec (.gladeWake 1) s = .next { s with gld := { s.gld with pwren := true, wake := 1 } }) ∧
      (s.gld.wakePin = false → exec (.gladeWake 1) s = .next s) ∧
      (s.gld.wakeAlarm = true → s.gld.alarm ≠ 0 → s.gld.sec s.mono = s.gld.alarm →
        exec (.gladeWake 2) s = .next { s with gld := { s.gld with pwren := true, wake := 2 } })) ∧
    (∀ n : Fin 2, s.gld.run[n] = 1 → s.up = true → ∃ t, exec (.enclosureTamperSample (n == 0) (n == 1)) s = .next t ∧
      bitOf n t.gld.latch = true ∧ t.gld.cnt[n] = satInc 8 s.gld.cnt[n] ∧ t.gld.ts = s.gld.sec s.mono ∧ t.told .enclosureTamper) ∧
    (exec .vgladePowerOn s = .next { s with gld := { startAt := s.mono, resets := Vector.replicate 8 0 } }) ∧
    (∀ (x : Int) (ts : Vector Int 8), s.up = true → -550 ≤ x → x ≤ 1750 → ts = Vector.replicate 8 x →
      ∃ t, exec (.temperatureRead ts) s = .next t ∧ t.rst.temp = ts ∧ t.rst.tMax = x ∧ t.rst.valid = 0x3F ∧ t.rst.noSens = false ∧
        (∀ t0, 1250 ≤ x → s.rst.hotAt = some t0 → t0 + 10000 ≤ s.mono → t.rst.band = 4 ∧ (s.rst.band ≠ 4 → t.told .dieTemperature)) ∧
        (1100 ≤ x → x < 1250 → s.rst.band < 3 ∨ (s.rst.band = 4 ∧ x ≤ 1200) → t.rst.band = 3 ∧ t.told .dieTemperature) ∧
        (850 ≤ x → x < 1100 → s.rst.band ≤ 2 → t.rst.band = 2) ∧ (-200 ≤ x → x < 800 → s.rst.band ≤ 1 → t.rst.band = 1))

/-- Credits, tags, stalls, detected errors and the software event (R458, R461 to R465, R470). -/
def Obligations.ThicketActs : Prop :=
  ∀ s : State,
    (∀ q, s.up = true → 0 < s.thk.inUse q →
      (q ∉ s.thk.stalled → ∃ t, exec (.creditReturn q) s = .next t ∧ t.thk.inUse q + 1 = s.thk.inUse q) ∧
      (q ∈ s.thk.stalled → ∃ t, exec (.creditReturn q) s = .next t ∧ t.thk.inUse q = s.thk.inUse q ∧ t.thk.stalled = delSet q s.thk.stalled)) ∧
    (∀ (k : Fin 128) (x : Trans), s.up = true → s.thk.overdue k s.mono = some x → ∃ t, exec (.transactionTimeout k) s = .next t ∧
      t.thk = { s.thk with trans := s.thk.trans.filter (fun y => y.tag != x.tag), sTmo := satInc 8 s.thk.sTmo, last := 7, lastAddr := x.addr } ∧
      t.out = s.out ++ [match x.spi with
        | none => .done .busy (x.words ++ List.replicate x.pad 0)
        | some sent => spiEnd sent .busy (x.words ++ List.replicate x.pad 0)]) ∧
    (∀ q, s.up = true →
      (q ∈ s.thk.stalled → ∀ c, exec (.fabricStall c q) s = .next s) ∧
      (q ∉ s.thk.stalled → ∃ t, exec (.fabricStall .rt q) s = .next t ∧ t.thk.sRt = satInc 8 s.thk.sRt ∧ q ∈ t.thk.stalled ∧ t.told .fabricStall) ∧
      (q ∉ s.thk.stalled → ∃ t, exec (.fabricStall .bulk q) s = .next t ∧ t.thk.sBulk = satInc 8 s.thk.sBulk ∧ t.thk.sRt = s.thk.sRt ∧
        t.told .fabricStall)) ∧
    (s.up = true →
      (∃ t, exec (.dataErrorDetected .canopy) s = .next t ∧ t.thk.derr = 1 ∧ t.thk.eSram = satInc 8 s.thk.eSram ∧ t.cnp.ready = none ∧
        t.told .dataError) ∧
      (∀ off fails, s.img.st = .run → (∀ x ∈ s.img.leaf, x.1 ≠ off) →
        (fails < 2 → ∃ t, exec (.dataErrorDetected (.config off fails)) s = .next t ∧ t.img = s.img ∧ t.thk.derr = 2 ∧ t.told .dataError) ∧
        (2 ≤ fails → ∃ t, exec (.dataErrorDetected (.config off fails)) s = .next t ∧ t.img.st = .refused ∧ t.img.errReason = 7 ∧
          t.cnp.rampDown = true ∧ t.told .imageRefused)) ∧
      (∀ p : Fin 12, ∃ t, exec (.dataErrorDetected (.twin p)) s = .next t ∧ t.thk.derr = 6 ∧ t.twins[p].fast = true ∧ t.twins[p].capSet = false ∧ t.twins[p].cTh = 0) ∧
      (∃ t, exec (.dataErrorDetected (.frame true)) s = .next t ∧ t.thk.derr = 7 ∧ t.thk.eCrc = satInc 8 s.thk.eCrc ∧ t.told .dataError) ∧
      (∀ a, ∃ t, exec (.dataErrorDetected (.access a)) s = .next t ∧ t.answered .dataError [] ∧ t.thk.last = 6 ∧ t.thk.lastAddr = a)) ∧
    (s.HostReady 0x4038 → ∃ t, exec .softwareEvent s = .next t ∧ t.told .software ∧ t.answered .ok [])

/-- Register accesses of a host over SPI, and a write of any register (R306, R468, R469, R474, R475, R488). -/
def Obligations.HostAccessesRegisters : Prop :=
  ∀ s : State,
    (∀ w : Word, s.HostReady 0x8020 → ∃ t, exec (.registerWrite 0x8020 w) s = .next t ∧ t.cnp = { s.cnp with gcapHost := w.toNat } ∧ t.answered .ok []) ∧
    (∀ (a : Nat) (w : Word), s.HostReady a → a % 4 ≠ 0 → ∃ t, exec (.registerWrite a w) s = .next t ∧ t.answered .unmapped [] ∧
      Touches [.thk, .out] s t ∧ t.thk.last = 5 ∧ t.thk.lastAddr = a) ∧
    (∀ (a : Nat) (w : Word), s.up = true → s.servesHost = true → s.codeRuns a = true → absentAt a s.fuses.variant = true →
      ∃ t, exec (.registerWrite a w) s = .next t ∧ t.answered .notPresent [] ∧ Touches [.thk, .out] s t) ∧
    (∀ (a w : Nat) (u : State), s.HostReady a → s.readAt a = (.ok, w, u) → ∃ t, exec (.spiRead a 1) s = .next t ∧
      t.out.getLast? = some (spiEnd (spiHead 0x0B a 1) .ok [w])) ∧
    (s.HostReady 0x2028 → (∀ v, (0x2028, v) ∉ s.thk.bad) → ∃ t, exec (.spiRead 0x2028 1) s = .next t ∧
      t.out.getLast? = some (spiEnd (spiHead 0x0B 0x2028 1) .ok [s.tb % 2 ^ 32])) ∧
    (∀ w : Word, s.HostReady 0x8020 → ∃ t, exec (.spiWrite 0x8020 1 [w]) s = .next t ∧ t.cnp = { s.cnp with gcapHost := w.toNat } ∧
      t.out.getLast? = some (spiEnd (spiSent 0x02 0x8020 1 [w]) .ok [])) ∧
    (s.up = true → s.servesHost = true → ∀ (a n : Nat) (ws : List Word), n = 0 ∨ 64 < n →
      (∃ t, exec (.spiRead a n) s = .next t ∧ t.out = s.out ++ [spiEnd (spiHead 0x0B a n) .badLength []] ∧ Touches [.thk, .out] s t) ∧
      (∃ t, exec (.spiPeerRead a n) s = .next t ∧ t.out = s.out ++ [spiEnd (spiHead 0x4B a n) .badLength []] ∧ t.seam = s.seam) ∧
      (absentAt a s.fuses.variant = false → ∃ t, exec (.spiWrite a n ws) s = .next t ∧
        t.out = s.out ++ [spiEnd (spiSent 0x02 a n ws) .badLength []] ∧ Touches [.thk, .out] s t)) ∧
    (s.up = true → s.servesHost = false → ∀ (a n : Nat) (ws : List Word) (w : Word),
      (exec (.spiRead a n) s = .next { s with out := s.out ++ [spiEnd (spiHead 0x0B a n) .busy []] }) ∧
      (s.standby = true ∨ a ≠ 0x6000 ∨ bitOf 0 (ws.headD 0).toNat = false →
        exec (.spiWrite a n ws) s = .next { s with out := s.out ++ [spiEnd (spiSent 0x02 a n ws) .busy []] }) ∧
      (s.standby = true ∨ a ≠ 0x6000 ∨ bitOf 0 w.toNat = false →
        exec (.registerWrite a w) s = .next { s with out := s.out ++ [.done .busy []] }) ∧
      (s.standby = true → (exec (.spiPeerRead a n) s = .next { s with out := s.out ++ [spiEnd (spiHead 0x4B a n) .busy []] }) ∧
        (exec (.spiPeerWrite a n ws) s = .next { s with out := s.out ++ [spiEnd (spiSent 0x42 a n ws) .busy []] })) ∧
      (s.standby = false → 1 ≤ n → n ≤ 64 →
        (∃ t, exec (.spiPeerRead a n) s = .next t ∧ t.out.getLast? = some (spiEnd (spiHead 0x4B a n) .notInState []) ∧ t.seam = s.seam ∧
          t.told .notInState) ∧
        (ws.length = n → ∃ t, exec (.spiPeerWrite a n ws) s = .next t ∧
          t.out.getLast? = some (spiEnd (spiSent 0x42 a n ws) .notInState []) ∧ t.seam = s.seam))) ∧
    (s.cores = true → s.seam.role = .active →
      (∀ (a n : Nat) (ws : List Word), 1 ≤ n → n ≤ 64 → ws.length = n → s.seam.peerLost = false → s.seam.resync = false → s.seam.relay = none →
        (∃ t r, exec (.spiPeerRead a n) s = .next t ∧ t.seam.relay = some r ∧ r.addr = a ∧ r.left = n ∧ r.write = false ∧ r.chan = 0 ∧ r.at_ = s.mono ∧
          r.sent = spiHead 0x4B a n) ∧
        (∃ t r, exec (.spiPeerWrite a n ws) s = .next t ∧ t.seam.relay = some r ∧ r.addr = a ∧ r.left = n ∧ r.write = true ∧
          r.words = ws.map (·.toNat) ∧ r.chan = 0 ∧ r.sent = spiSent 0x42 a n ws)) ∧
      (s.seam.peerLost = true → ∃ t, exec (.spiPeerRead 0x40 1) s = .next t ∧
        t.out.getLast? = some (spiEnd (spiHead 0x4B 0x40 1) .notInState []) ∧ t.seam = s.seam) ∧
      (s.seam.peerLost = false → s.seam.resync = false → s.seam.relay.isSome = true → ∃ t, exec (.spiPeerRead 0x40 1) s = .next t ∧
        t.out.getLast? = some (spiEnd (spiHead 0x4B 0x40 1) .busy []) ∧ t.seam = s.seam)) ∧
    (s.HostReady 0x28028 → ∃ t, exec .spiCrcReport s = .next t ∧ t.hst = { s.hst with spiCrc := satInc 8 s.hst.spiCrc } ∧ t.answered .ok [])

/-- The Esing server: connections, READ, WRITE, LOG and SUB (R477 to R480). -/
def Obligations.EsingServes : Prop :=
  ∀ s : State, s.cores = true → s.servesHost = true →
    (∀ (eth : Fin 2) (cert : EsCert), s.esingPort eth = true →
      (∀ role, s.hst.conn[0] = none → s.esingKey = true → clientRole s.cfg.hstUser s.legalTime cert = some role →
        ∃ t, exec (.esingConnect eth cert) s = .next t ∧ t.hst.conn[0] = some { role := role, lastAt := s.mono } ∧ t.hst.conn[1] = s.hst.conn[1]) ∧
      (s.hst.conn[0] = none → s.esingKey = true → clientRole s.cfg.hstUser s.legalTime cert = none →
        exec (.esingConnect eth cert) s = .next { s with hst := { s.hst with tlsFail := satInc 8 s.hst.tlsFail } }) ∧
      (s.hst.conn[0].isSome = true → s.hst.conn[1].isSome = true → exec (.esingConnect eth cert) s = .next s)) ∧
    (∀ (k : Fin 2) (c : EsConn), s.hst.conn[k] = some c →
      (c.lastAt + 300000000 ≤ s.mono → ∃ t, exec (.esingIdleClose k) s = .next t ∧ t.hst.conn[k] = none ∧ Sends (.esClose k) s t) ∧
      (s.mono < c.lastAt + 300000000 → exec (.esingIdleClose k) s = .next s) ∧
      (∀ (m : EsHead) (a n : Nat), s.relaying k = true → ∃ t, exec (.read k m a n) s = .next t ∧ t.out = s.out ∧
        t.hst.conn[k] = some { c with lastAt := s.mono, waiting := c.waiting ++ [.read m a n] }) ∧
      (∀ (m : EsHead) (a w : Nat) (u : State), s.relaying k = false → m.flags = 0 → m.len = 8 → s.codeRuns a = true →
        State.readAt a { s with hst := { s.hst with conn := updN s.hst.conn k (Option.map (EsConn.heard s.mono)) } } = (.ok, w, u) →
        u.hst.conn[k].isSome = true → ∃ t, exec (.read k m a 1) s = .next t ∧ Sends (.esing k .ok m.tag [w]) s t) ∧
      (∀ (m : EsHead) (a n : Nat), s.relaying k = false → 4096 < m.len ∨ m.len ≠ 8 ∨ n = 0 ∨ 1023 < n → ∃ t, exec (.read k m a n) s = .next t ∧
        Sends (.esing k .badLength m.tag []) s t ∧ Touches [.thk, .hst, .out] s t) ∧
      (∀ (m : EsHead) (w : Word), s.relaying k = false → m.flags = 0 → m.len = 12 → 1 ≤ c.role → c.role ≤ 2 → absentAt 0x8020 s.fuses.variant = false →
        ∃ t, exec (.write k m 0x8020 1 [w]) s = .next t ∧ t.cnp = { s.cnp with gcapHost := w.toNat } ∧ Sends (.esing k .ok m.tag [1]) s t) ∧
      (∀ (m : EsHead) (w : Word), s.relaying k = false → m.flags = 0 → m.len = 12 → c.role = 0 → ∃ t, exec (.write k m 0x8020 1 [w]) s = .next t ∧ t.cnp = s.cnp ∧
        t.hst.denied = satInc 8 s.hst.denied ∧ Sends (.esing k .denied m.tag [0]) s t) ∧
      (∀ (m : EsHead) (first n : Nat), s.relaying k = false → m.flags = 0 → m.len = 8 → 1 ≤ n → n ≤ 127 → ∃ t, exec (.log k m first n) s = .next t ∧
        Sends (.esLog k .ok m.tag ((s.thk.log.filter (fun e => decide (first ≤ e.seq))).take n)) s t ∧ t.thk = s.thk) ∧
      (∀ (m : EsHead) (mask : Nat), s.relaying k = false → m.flags = 0 → m.len = 8 → mask < 2 ^ 64 → ∃ t, exec (.sub k m mask) s = .next t ∧
        t.hst.conn[k] = some { c with mask := mask, lastAt := s.mono } ∧ Sends (.esing k .ok m.tag []) s t))

/-- Charging profiles and the back office's requests (R140, R143, R481, R482). -/
def Obligations.OcppRequestsAct : Prop :=
  ∀ s : State,
    (∀ now, s.clientOn = true → ∃ t, exec (.scheduleEvaluation now) s = .next t ∧ 
      t.hst.ocpp.station = stationLimit s.hst.ocpp (s.scheduleTime now) s.uPhase ∧
      ∀ p : Fin 12, t.hst.ocpp.limit[p] = portLimitA s.hst.ocpp p (s.scheduleTime now) s.cnp.ports[p].snapV) ∧
    (s.online = true →
      (∀ (f : Profile) (now : Nat), profileRejected s.noPhaseVoltage s.hst.ocpp f = true → exec (.setChargingProfile f now) s =
        .next { s with out := s.out ++ [.ocppCall "Rejected" f.id] }) ∧
      (∀ (f : Profile) (now : Nat), profileRejected s.noPhaseVoltage s.hst.ocpp f = false → ∃ t, exec (.setChargingProfile f now) s = .next t ∧
        f ∈ t.hst.ocpp.profiles ∧ (∀ g ∈ t.hst.ocpp.profiles, g.id = f.id → g = f) ∧ 
        t.hst.ocpp.station = stationLimit t.hst.ocpp (s.scheduleTime now) s.uPhase ∧
        Sends (.ocppCall "Accepted" f.id) s t) ∧
      (∀ p : Fin 12, s.hasPort p = true →
        (∃ t, exec (.requestStartTransaction p) s = .next t ∧ t.hst.ocpp.held[p] = true ∧ (∀ q : Fin 12, q ≠ p → t.hst.ocpp.held[q] = s.hst.ocpp.held[q]) ∧
          Sends (.ocppCall "Accepted" p) s t) ∧
        (s.ports[p].run = true → s.ports[p].st = .idle → ∃ t, exec (.changeAvailability p false) s = .next t ∧ t.ports[p].enable = false ∧ t.ports[p].st = .disabled ∧
          Sends (.ocppCall "Accepted" p) s t)) ∧
      (∀ n, s.txPort n = none → exec (.requestStopTransaction n) s = .next { s with out := s.out ++ [.ocppCall "Rejected" n] }) ∧
      (∀ n p, s.txPort n = some p → s.ports[p].st = .energy → ∃ t, exec (.requestStopTransaction n) s = .next t ∧ t.ports[p].st = .stopping ∧
        Sends (.ocppCall "Accepted" n) s t) ∧
      (s.rst.pend = none → s.gaiterSafe = true → ∃ t, exec .ocppReset s = .next t ∧ t.rst.hold = some { level := 1, src := 5, at_ := s.mono } ∧
        t.out = s.out ++ [.ocppCall "Accepted" 0]) ∧
      (s.rst.pend.isSome = true → exec .ocppReset s = .next { s with out := s.out ++ [.ocppCall "Rejected" 0] }) ∧
      (∀ b ∈ ["H", "I", "L", "N", "O", "P"], exec (.ocppUnsupportedCall b) s = .next { s with out := s.out ++ [.ocppCall "NotImplemented" 0] }) ∧
      (∀ (p : Fin 12) (token : Nat), s.portUp p = true → s.ports[p].st = .setup → s.ports[p].auth = .asked →
        (∃ t, exec (.authorizeResponse p true token) s = .next t ∧ t.ports[p].auth = .given ∧ token ∈ t.hst.ocpp.cache) ∧
        (∃ t, exec (.authorizeResponse p false token) s = .next t ∧ t.ports[p].st = .ended ∧ token ∉ t.hst.ocpp.cache)))

/-- Transactions and the link to the back office (R483 to R485). -/
def Obligations.OcppTransactionsAct : Prop :=
  ∀ s : State, s.clientOn = true →
    (∀ (p : Fin 12) (x : OcppTx), s.hst.ocpp.tx[p] = some x →
      (s.mono < x.meterAt + s.meterInt * 1000000 → exec (.meterValuesSend p) s = .next s) ∧
      (x.endAt = none → x.meterAt + s.meterInt * 1000000 ≤ s.mono → s.hst.ocpp.st = 3 → ∃ t, exec (.meterValuesSend p) s = .next t ∧
        Sends (s.ocppOut { kind := .meter, port := p, tx := x.num, gen := s.seam.gen, ctr := s.hst.ocpp.ctr }) s t ∧
        t.hst.ocpp.tx[p] = some { x with meterAt := s.mono } ∧ t.hst.ocpp.ctr = (s.hst.ocpp.ctr + 1) % 2 ^ 32) ∧
      (x.endAt = none → x.meterAt + s.meterInt * 1000000 ≤ s.mono → s.hst.ocpp.st = 4 → s.hst.ocpp.queue.length < 4096 → ∃ t, exec (.meterValuesSend p) s = .next t ∧ t.out = s.out ∧
        t.hst.ocpp.queue = s.hst.ocpp.queue ++ [{ kind := .meter, port := p, tx := x.num, gen := s.seam.gen, ctr := s.hst.ocpp.ctr }])) ∧
    (∀ (p : Fin 12) (x : OcppTx), s.endedTxs p = [x] → s.hst.ocpp.st = 3 →
      (∀ r, s.slvLink.recordOf x.num = some r → ∃ t, exec (.transactionEnded p) s = .next t ∧ t.endedTxs p = [] ∧
        Sends (s.ocppOut { kind := if x.late then .late else .ended, port := p, tx := x.num, gen := s.seam.gen, ctr := s.hst.ocpp.ctr, record := some r.2, ocmf := s.slvLink.ocmfOf r.1 }) s t) ∧
      (s.slvLink.recordOf x.num = none → x.late = false → s.noRecord x.num = true → ∃ t, exec (.transactionEnded p) s = .next t ∧ t.endedTxs p = [] ∧
        Sends (s.ocppOut { kind := .ended, port := p, tx := x.num, gen := s.seam.gen, ctr := s.hst.ocpp.ctr }) s t) ∧
      (∀ t0, x.endAt = some t0 → x.late = false → t0 + 90000000 ≤ s.mono → ∃ t, exec (.recordWaitTimeout p) s = .next t ∧
        t.endedTxs p = [{ x with late := true }] ∧
        Sends (s.ocppOut { kind := .ended, port := p, tx := x.num, gen := s.seam.gen, ctr := s.hst.ocpp.ctr }) s t)) ∧
    (s.hst.ocpp.st = 3 → ∃ t, exec .ocppLinkLost s = .next t ∧ t.hst.ocpp.st = 4 ∧ t.hst.ocpp.delay = 1 ∧ t.hst.ocpp.lostAt = s.mono ∧
      t.hst.ocpp.queue = s.hst.ocpp.queue ∧ t.told .backOfficeLink) ∧
    (s.hst.ocpp.st = 4 → s.hst.ocpp.lostAt + s.hst.ocpp.delay * 1000000 ≤ s.mono → ∀ h : TlsHello, ∃ t, exec (.ocppReconnect h) s = .next t ∧
      t.hst.ocpp.delay = min (2 * s.hst.ocpp.delay) s.tReconn ∧ (s.serviceKey 1 = true → h.ok = true → t.hst.ocpp.st = 2) ∧
      (s.serviceKey 1 = true → h.ok = false → t.hst.ocpp.st = 4 ∧ t.hst.ocpp.lostAt = s.mono ∧ t.hst.tlsFail = satInc 8 s.hst.tlsFail) ∧
      (s.serviceKey 1 = false → t.hst.ocpp.st = 4 ∧ t.hst.ocpp.lostAt = s.mono ∧ t.hst.tlsFail = satInc 8 s.hst.tlsFail ∧ t.told .keyMissing)) ∧
    (s.hst.ocpp.st = 4 → s.mono < s.hst.ocpp.lostAt + s.hst.ocpp.delay * 1000000 → ∀ h, exec (.ocppReconnect h) s = .next s) ∧
    (s.hst.ocpp.st = 2 → ∃ t, exec .bootAccepted s = .next t ∧ t.hst.ocpp.st = 3 ∧ t.hst.ocpp.queue = [] ∧ t.told .backOfficeLink ∧
      ∃ l, t.out = l ++ s.hst.ocpp.queue.map (fun m => s.ocppOut m))
end

