-- ==== Sys2Proof/Laws/Bytes.lean ====
section
/-! SUPPORT. The laws of little-endian byte strings: what a written number reads as, and reads beside an appended part. -/

namespace Sys2Proof.Machine

@[simp] theorem leBytes_length (k n : Nat) : (leBytes k n).length = k := by
  induction k generalizing n with
  | zero => rfl
  | succ k ih => simp [leBytes, ih]

theorem leNat_leBytes (k n : Nat) : leNat (leBytes k n) = n % 256 ^ k := by
  induction k generalizing n with
  | zero => simp [leBytes, leNat, Nat.mod_one]
  | succ k ih =>
    have h : 256 ^ (k + 1) = 256 * 256 ^ k := Nat.pow_succ'
    rw [leBytes, leNat, ih, BitVec.toNat_ofNat, h, Nat.mod_mul]

theorem leAt_append_left {a : List Byte} (b : List Byte) {o k : Nat} (h : o + k ≤ a.length) : leAt (a ++ b) o k = leAt a o k := by
  rw [leAt, leAt, List.drop_append_of_le_length (by omega), List.take_append_of_le_length (by simp; omega)]

theorem leAt_append_right {a : List Byte} (b : List Byte) {o : Nat} (k : Nat) (h : a.length ≤ o) :
    leAt (a ++ b) o k = leAt b (o - a.length) k := by
  rw [leAt, leAt, List.drop_append, List.drop_eq_nil_of_le h, List.nil_append]

/-- A number written at the end of a byte string reads as itself. -/
theorem leAt_append_leBytes (a : List Byte) {o k : Nat} (n : Nat) (h : a.length = o) : leAt (a ++ leBytes k n) o k = n % 256 ^ k := by
  subst h
  rw [leAt, List.drop_left, List.take_of_length_le (by simp), leNat_leBytes]

/-- The reversal of `w` bits has `w` bits. -/
theorem reflect_lt (w n : Nat) : reflect w n < 2 ^ w := by
  have h (m : Nat) (hm : m ≤ w) :
      (List.range m).foldl (fun r i => if bitOf i n then r + 2 ^ (w - 1 - i) else r) 0 + 2 ^ (w - m) ≤ 2 ^ w := by
    induction m with
    | zero => simp
    | succ m ih =>
      have e : 2 ^ (w - m) = 2 ^ (w - 1 - m) + 2 ^ (w - 1 - m) := by
        rw [← Nat.two_mul, ← Nat.pow_succ', show (w - 1 - m).succ = w - m by omega]
      have z := Nat.two_pow_pos (w - 1 - m)
      have q := ih (by omega)
      rw [List.range_succ, List.foldl_append]
      simp only [List.foldl_cons, List.foldl_nil, show w - (m + 1) = w - 1 - m by omega]
      split <;> omega
  have q := h w (Nat.le_refl w)
  rw [Nat.sub_self, Nat.pow_zero] at q
  exact q

/-- A CRC-32C has 32 bits. -/
theorem crc32c_lt (bs : List Byte) : crc32c bs < 2 ^ 32 :=
  Nat.xor_lt_two_pow (reflect_lt 32 _) (by decide)

end Sys2Proof.Machine
end

