-- ==== Sys2Proof/Laws/Frame.lean ====
section
/-! SUPPORT. The relation that every operation keeps between the state before and after it: only the listed parts change, and
a safe state stays safe. -/

namespace Sys2Proof.Machine

/-- At most the listed parts change, each clause of the invariant survives, and nothing that has been sent is taken back. -/
structure Moves (ps : List Part) (s t : State) : Prop where
  frame : Touches ps s t
  flash : flashOk s.img → flashOk t.img
  log : logOk s.thk → logOk t.thk
  ring : ringOk s.seam → ringOk t.seam
  sent : s.out <+: t.out

theorem Moves.refl (ps : List Part) (s : State) : Moves ps s s :=
  ⟨fun q _ => by cases q <;> rfl, id, id, id, List.prefix_rfl⟩

theorem Part.same_trans {q : Part} {s t u : State} (h : q.same s t) (k : q.same t u) : q.same s u := by
  cases q <;> exact Eq.trans k h

theorem Touches.trans {ps : List Part} {s t u : State} (h : Touches ps s t) (k : Touches ps t u) : Touches ps s u :=
  fun q hq => Part.same_trans (h q hq) (k q hq)

theorem Touches.weaken {ps qs : List Part} {s t : State} (h : Touches qs s t) (hs : qs ⊆ ps) : Touches ps s t :=
  fun q hq => h q (fun hm => hq (hs hm))

theorem Moves.weaken {ps qs : List Part} {s t : State} (h : Moves qs s t) (hs : qs ⊆ ps) : Moves ps s t :=
  ⟨h.frame.weaken hs, h.flash, h.log, h.ring, h.sent⟩

theorem Moves.trans {ps : List Part} {s t u : State} (h : Moves ps s t) (k : Moves ps t u) : Moves ps s u :=
  ⟨h.frame.trans k.frame, k.flash ∘ h.flash, k.log ∘ h.log, k.ring ∘ h.ring, h.sent.trans k.sent⟩

/-- One more operation after `t`, within a wider list of parts. -/
theorem Moves.to {ps qs : List Part} {s t u : State} (k : Moves qs t u) (hs : qs ⊆ ps) (h : Moves ps s t) : Moves ps s u :=
  h.trans (k.weaken hs)

/-- One more update of fields after `t`. -/
theorem Moves.at {ps : List Part} {s t : State} {tb' : Nat} {fresh' : Nat} {pending' : List Instr} {fuses' : Fuses} {cfg' : Cfg} {rst' : Rst} {gld' : Glade} {thk' : Thicket} {site' : SiteRegs} {cnp' : Canopy} {mb' : BusUnit} {ports' : Vector Port 12} {v2g' : Vector V2gLink 12} {twins' : Vector Twin 12} {cpc' : Coppice} {gtr' : Gaiter} {slv' : Sleeve} {slvLink' : SlvLink} {slvCtr' : SlvCtr} {seam' : Seam} {lac' : Lacing} {brm' : Bramble} {cuf' : Cuff} {hem' : Hem} {clk' : Cloak} {img' : Loader} {hst' : Hst} {sessNext' : Nat} {sessTop' : Nat} {hiCap' : List (Nat × Nat)} {out' : List Out}
    (h : Moves ps s t) (k : Touches ps t ⟨t.mono, tb', fresh', pending', fuses', cfg', rst', gld', thk', site', cnp', mb', ports', v2g', twins', cpc', gtr', slv', slvLink', slvCtr', seam', lac', brm', cuf', hem', clk', img', hst', sessNext', sessTop', hiCap', out'⟩)
    (hf : flashOk t.img → flashOk img') (hl : logOk t.thk → logOk thk') (hr : ringOk t.seam → ringOk seam')
    (ho : t.out <+: out') :
    Moves ps s ⟨t.mono, tb', fresh', pending', fuses', cfg', rst', gld', thk', site', cnp', mb', ports', v2g', twins', cpc', gtr', slv', slvLink', slvCtr', seam', lac', brm', cuf', hem', clk', img', hst', sessNext', sessTop', hiCap', out'⟩ :=
  h.trans ⟨k, hf, hl, hr, ho⟩

theorem Moves.foldl {α : Type} {ps : List Part} {f : State → α → State} (hf : ∀ t x, Moves ps t (f t x)) (l : List α) (s t : State)
    (h : Moves ps s t) : Moves ps s (l.foldl f t) := by
  induction l generalizing t with
  | nil => exact h
  | cons x xs ih => exact ih _ (h.trans (hf t x))

/-- A conditional operation moves what its body moves. -/
theorem Moves.onlyIf {ps : List Part} {f : State → State} (b : Bool) (t : State) (hf : b = true → Moves ps t (f t)) :
    Moves ps t (t.onlyIf b f) := by
  cases b
  · exact .refl _ _
  · exact hf rfl

/-! ### What the functions of the units leave of the log, the flash and the ring -/

@[simp] theorem logOk_raise (t : Thicket) (e : Ev) (i b c : Nat) : logOk (t.raise e i b c) ↔ True := by
  simp [logOk, Thicket.raise]; omega

@[simp] theorem logOk_endWith (t : Thicket) (c a : Nat) : logOk (t.endWith c a) ↔ logOk t := by
  unfold Thicket.endWith; split <;> rfl

@[simp] theorem logOk_pulseTag (t : Thicket) : logOk t.pulseTag ↔ logOk t := Iff.rfl

@[simp] theorem logOk_countNis (t : Thicket) (a : Option Nat) : logOk (t.countNis a) ↔ logOk t := Iff.rfl

@[simp] theorem logOk_sysReset (t : Thicket) (p : Bool) : logOk (t.sysReset p) ↔ logOk t := Iff.rfl

@[simp] theorem logOk_detect (t : Thicket) (g : ErrGuard) (r : Nat) (l : Bool) : logOk (t.detect g r l) ↔ logOk t := by
  cases g <;> rfl

@[simp] theorem logOk_credit (t : Thicket) (q : Nat) : logOk (t.credit q) ↔ logOk t := by
  unfold Thicket.credit; split
  · rfl
  · split <;> rfl

@[simp] theorem logOk_timeout (t : Thicket) (x : Trans) : logOk (t.timeout x) ↔ logOk t := Iff.rfl

@[simp] theorem logOk_stalledAt (t : Thicket) (c : TrafficClass) (q : Nat) : logOk (t.stalledAt c q).1 ↔ logOk t := by
  unfold Thicket.stalledAt; split
  · rfl
  · cases c <;> rfl

theorem logOk_takeTag {t u : Thicket} {c : TrafficClass} {a n p : Nat} {ws : List Nat} {x : Option (List Byte)}
    (h : t.takeTag c a n ws p x = some u) :
    logOk u ↔ logOk t := by
  unfold Thicket.takeTag at h; split at h
  · cases h
  · cases h; rfl

@[simp] theorem flashOk_sysReset (l : Loader) : flashOk l.sysReset ↔ flashOk l := Iff.rfl

theorem ringOk_sysReset {m : Seam} (h : ringOk m) : ringOk m.sysReset := h

/-- The invariant survives an operation that moves. -/
theorem Moves.inv {ps : List Part} {s t : State} (h : Moves ps s t) (i : s.Inv) : t.Inv :=
  ⟨h.flash i.flash, h.log i.log, h.ring i.ring⟩

end Sys2Proof.Machine
end

