-- ==== Sys2Proof/Laws/Flash.lean ====
section
/-! SUPPORT. The image flash: a read after a write, and every operation of the loader keeps the canonical form. -/

namespace Sys2Proof.Machine

/-- The canonical form says: no erased byte is listed, and the addresses rise. -/
theorem Store.wf_iff (m : Store) :
    Store.wf m = true ↔ (∀ c ∈ m, c.2 ≠ erasedByte) ∧ m.Pairwise (fun c d => c.1 < d.1) := by
  induction m with
  | nil => simp [Store.wf]
  | cons c m ih =>
    cases m with
    | nil => simp [Store.wf]
    | cons d m =>
      rw [Store.wf]
      simp only [Bool.and_eq_true, decide_eq_true_eq, ih]
      constructor
      · rintro ⟨⟨hc, hcd⟩, hm, hp⟩
        refine ⟨List.forall_mem_cons.2 ⟨hc, hm⟩, List.pairwise_cons.2 ⟨?_, hp⟩⟩
        intro e he
        rcases List.mem_cons.1 he with rfl | he
        · exact hcd
        · exact Nat.lt_trans hcd ((List.pairwise_cons.1 hp).1 e he)
      · rintro ⟨hm, hp⟩
        have h := List.forall_mem_cons.1 hm
        have k := List.pairwise_cons.1 hp
        exact ⟨⟨h.1, k.1 d (by simp)⟩, h.2, k.2⟩

theorem mem_insertBy {α : Type} (key : α → Nat) (x y : α) (l : List α) : y ∈ insertBy key x l ↔ y = x ∨ y ∈ l := by
  induction l with
  | nil => simp [insertBy]
  | cons z zs ih =>
    simp only [insertBy]
    split
    · simp
    · simp only [List.mem_cons, ih]; tauto

theorem insertBy_pairwise {α : Type} (key : α → Nat) (x : α) (l : List α) (hl : l.Pairwise (fun c d => key c < key d))
    (hx : ∀ c ∈ l, key c ≠ key x) : (insertBy key x l).Pairwise (fun c d => key c < key d) := by
  induction l with
  | nil => simp [insertBy]
  | cons z zs ih =>
    have h := List.pairwise_cons.1 hl
    simp only [insertBy]
    split
    · rename_i hlt
      refine List.pairwise_cons.2 ⟨fun c hc => ?_, hl⟩
      rcases List.mem_cons.1 hc with rfl | hc
      · exact hlt
      · exact Nat.lt_trans hlt (h.1 c hc)
    · rename_i hge
      refine List.pairwise_cons.2 ⟨fun c hc => ?_, ih h.2 (fun c hc => hx c (by simp [hc]))⟩
      rcases (mem_insertBy key x c zs).1 hc with rfl | hc
      · have := hx z (by simp); omega
      · exact h.1 c hc

/-- A write of one byte keeps the canonical form. -/
theorem Store.set_wf (m : Store) (a : Nat) (b : Byte) (h : Store.wf m = true) : Store.wf (Store.set m a b) = true := by
  rw [Store.wf_iff] at h ⊢
  have hf : (∀ c ∈ m.filter (fun c => c.1 ≠ a), c.2 ≠ erasedByte) ∧
      (m.filter (fun c => c.1 ≠ a)).Pairwise (fun c d => c.1 < d.1) :=
    ⟨fun c hc => h.1 c (List.mem_of_mem_filter hc), h.2.filter _⟩
  unfold Store.set
  dsimp only
  split
  · exact hf
  · rename_i hb
    refine ⟨fun c hc => ?_, insertBy_pairwise _ _ _ hf.2 (fun c hc => ?_)⟩
    · rcases (mem_insertBy _ _ _ _).1 hc with rfl | hc
      · exact hb
      · exact hf.1 c hc
    · have := List.of_mem_filter hc
      simpa using this

/-- A write of bytes keeps the canonical form. -/
theorem Store.write_wf (bs : List Byte) (m : Store) (a : Nat) (h : Store.wf m = true) : Store.wf (Store.write m a bs) = true := by
  induction bs generalizing m a with
  | nil => exact h
  | cons b bs ih => exact ih _ _ (Store.set_wf m a b h)

theorem find_insertBy {α : Type} (key : α → Nat) (x : α) (l : List α) (k : Nat) (hx : ∀ c ∈ l, key c ≠ key x) :
    (insertBy key x l).find? (fun c => key c == k) = if key x = k then some x else l.find? (fun c => key c == k) := by
  induction l with
  | nil => by_cases h : key x = k <;> simp [insertBy, h]
  | cons z zs ih =>
    have hz := hx z (by simp)
    simp only [insertBy]
    split
    · by_cases h : key x = k <;> simp [List.find?_cons, h]
    · rw [List.find?_cons, ih (fun c hc => hx c (by simp [hc])), List.find?_cons]
      by_cases h : key x = k
      · have : (key z == k) = false := by simp; omega
        simp [h, this]
      · simp [h]

/-- What a byte reads as after a write of one byte: the byte written at its address, and the same as before elsewhere. -/
theorem Store.get_set (m : Store) (a : Nat) (b : Byte) (k : Nat) :
    Store.get (Store.set m a b) k = if k = a then b else Store.get m k := by
  have hf : (m.filter (fun c => c.1 ≠ a)).find? (fun c => c.1 == k) = if k = a then none else m.find? (fun c => c.1 == k) := by
    rw [List.find?_filter]
    split
    · rename_i h
      rw [List.find?_eq_none]
      intro x _
      simp [h]
    · rename_i h
      congr 1
      funext c
      by_cases hc : c.1 = k
      · simp [hc, h]
      · simp [hc]
  unfold Store.set Store.get
  dsimp only
  by_cases hb : b = erasedByte
  · rw [if_pos hb, hf]
    by_cases h : k = a
    · simp [h, hb]
    · simp [h]
  · rw [if_neg hb, find_insertBy (·.1) (a, b) _ k (fun c hc => by simpa using List.of_mem_filter hc), hf]
    by_cases h : k = a
    · subst h; simp
    · simp [h, Ne.symm h]

/-- What a byte reads as after a write of bytes. -/
theorem Store.get_write (bs : List Byte) (m : Store) (a k : Nat) :
    Store.get (Store.write m a bs) k = if h : a ≤ k ∧ k - a < bs.length then bs[k - a]'h.2 else Store.get m k := by
  induction bs generalizing m a with
  | nil => simp [Store.write]
  | cons b bs ih =>
    rw [Store.write, ih, Store.get_set]
    by_cases h0 : k = a
    · subst h0
      have h1 : ¬ (k + 1 ≤ k ∧ k - (k + 1) < bs.length) := by omega
      simp
    · by_cases h1 : a + 1 ≤ k ∧ k - (a + 1) < bs.length
      · have h2 : a ≤ k ∧ k - a < (b :: bs).length := by simp; omega
        have e : k - a = (k - (a + 1)) + 1 := by omega
        simp only [h1, h2, and_self, dite_true]
        simp [e]
      · have h2 : ¬ (a ≤ k ∧ k - a < (b :: bs).length) := by simp; omega
        simp only [h1, h2, dite_false, h0, if_false]

theorem vec_get_set (v : Vector Store 2) (i j : Fin 2) (x : Store) : (v.set i x)[j] = if j = i then x else v[j] := by
  simp only [Fin.getElem_fin, Vector.getElem_set]
  by_cases h : i = j
  · simp [h]
  · have h2 : (i : Nat) ≠ j := fun e => h (Fin.ext e)
    simp [h2, Ne.symm h]

/-- One slot gets a canonical store. -/
theorem flashOk_set {l u : Loader} {i : Fin 2} {x : Store} (hu : u.flash = l.flash.set i x) (hx : Store.wf x = true)
    (h : flashOk l) : flashOk u := by
  intro j
  rw [hu, vec_get_set]
  split
  · exact hx
  · exact h j

theorem flashOk_imgErase (k : Fin 2) (l : Loader) (h : flashOk l) : flashOk (imgErase k l).2 := by
  unfold imgErase
  split
  · exact h
  · exact flashOk_set (i := k) (x := []) rfl rfl h

theorem flashOk_imgProg (k : Fin 2) (v : Bool) (bs : List Byte) (l : Loader) (h : flashOk l) : flashOk (imgProg k v bs l).2 := by
  unfold imgProg
  dsimp only
  split
  · exact h
  · split
    · exact h
    · split
      · exact flashOk_set (i := k) rfl (Store.write_wf _ _ _ (h k)) h
      · exact h

theorem flashOk_imgCheck (f : Fuses) (a : Nat) (v : Bool) (k : Fin 2) (l : Loader) (h : flashOk l) :
    flashOk (imgCheck f a v k l).2 := by
  unfold imgCheck
  dsimp only
  split
  · exact h
  · split <;> exact h

theorem flashOk_imgSelect (k : Fin 2) (v : Bool) (bs : List Byte) (l : Loader) (h : flashOk l) : flashOk (imgSelect k v bs l).2 := by
  unfold imgSelect
  dsimp only
  split
  · exact h
  · split
    · exact h
    · split
      · exact h
      · split
        · exact h
        · split <;> exact flashOk_set (i := k) rfl (Store.write_wf _ _ _ (h k)) h

theorem flashOk_leafApply {f : Fuses} {a : Nat} {l u : Loader} (h : leafApply f a l = some u) : flashOk l → flashOk u := by
  unfold leafApply at h
  split at h
  · cases h
  · split at h
    · cases h
    · obtain rfl := Option.some.inj h; exact fun i => i

theorem flashOk_restApply {f : Fuses} {a : Nat} {l u : Loader} {rs : List (Nat × ImgRec)} (h : restApply f a l = some (u, rs)) :
    flashOk l → flashOk u := by
  unfold restApply at h
  split at h
  · cases h
  · split at h
    · cases h
    · simp only [Option.some.injEq, Prod.mk.injEq] at h
      obtain ⟨rfl, -⟩ := h; exact fun i => i

theorem refuse_flash (l : Loader) (e : ImgBad) : (l.refuse e).flash = l.flash := rfl

theorem flashOk_toRefused (l : Loader) (e : ImgBad) : flashOk l → flashOk (l.toRefused e) := fun i => i

theorem flashOk_restRefused {f : Fuses} {a : Nat} {b : Bool} {l u : Loader} (h : restRefused f a b l = some u) :
    flashOk l → flashOk u := by
  unfold restRefused at h
  split at h
  · cases h
  · obtain ⟨e, -, rfl⟩ := Option.map_eq_some_iff.1 h; exact flashOk_toRefused l e

theorem flashOk_leafRefused (f : Fuses) (a : Nat) (b : Bool) (l : Loader) : flashOk l → flashOk (leafRefused f a b l).1 := by
  intro h
  unfold leafRefused
  split
  · exact h
  · split
    · exact h
    · dsimp only; split <;> exact h

theorem flashOk_strapLatch (q : Rat) (l : Loader) : flashOk l → flashOk (strapLatch q l).1 := by
  intro h
  unfold strapLatch
  split
  · split <;> exact h
  · exact h

theorem flashOk_loaderStart (a b : Bool) (l : Loader) : flashOk l → flashOk (loaderStart a b l).1 := by
  intro h
  unfold loaderStart
  split
  · exact h
  · dsimp only
    split
    · exact h
    · split <;> exact h

theorem flashOk_imgOpDone (l : Loader) : flashOk l → flashOk (imgOpDone l) := by
  intro h
  unfold imgOpDone
  split <;> exact h

@[simp] theorem flashOk_spoilBoot (l : Loader) (b : Bool) : flashOk (l.spoilBoot b) ↔ flashOk l := Iff.rfl

end Sys2Proof.Machine
end

