-- ==== Sys2Proof/Laws/MovesOps.lean ====
section
/-! SUPPORT. What each operation of Machine/Ops.lean can change: at most the listed parts, and a safe state stays safe. -/

namespace Sys2Proof.Machine

theorem State.free_moves (s : State) : Moves [.fresh] s s.free.2 :=
  Moves.at (.refl _ _) (fun q hq => by cases q <;> first | exact absurd (by decide) hq | simp only [Part.same, State.free]) id id id List.prefix_rfl

theorem State.emit_moves (o : Out) (s : State) :
    Moves [.out] s (State.emit o s) := by
  unfold State.emit
  iterate 14 all_goals try first
    | with_reducible exact Moves.refl _ _
    | dsimp only
    | assumption
    | with_reducible refine Moves.foldl (fun _ _ => ?_) _ _ _ ?_
    | split
    | refine Moves.at ?_ (fun q hq => by cases q <;> first | exact absurd (by decide) hq | simp only [Part.same]) (by first | (simp only [flashOk, imp_self]; done) | (simp; done)) (by first | (simp only [logOk, imp_self]; done) | (simp; done)) (by first | (simp only [ringOk, imp_self]; done) | (simp; done)) (by first | exact List.prefix_rfl | exact List.prefix_append _ _ | exact (List.prefix_append _ _).trans (List.prefix_append _ _))

theorem State.emits_moves (os : List Out) (s : State) :
    Moves [.out] s (State.emits os s) := by
  unfold State.emits
  iterate 14 all_goals try first
    | with_reducible exact Moves.refl _ _
    | dsimp only
    | assumption
    | with_reducible refine Moves.foldl (fun _ _ => ?_) _ _ _ ?_
    | split
    | refine Moves.at ?_ (fun q hq => by cases q <;> first | exact absurd (by decide) hq | simp only [Part.same]) (by first | (simp only [flashOk, imp_self]; done) | (simp; done)) (by first | (simp only [logOk, imp_self]; done) | (simp; done)) (by first | (simp only [ringOk, imp_self]; done) | (simp; done)) (by first | exact List.prefix_rfl | exact List.prefix_append _ _ | exact (List.prefix_append _ _).trans (List.prefix_append _ _))


theorem esNotify_moves (e : Nat) (entry : LogE) (k : Nat) (a : State) :
    Moves [.hst, .out] a (esNotify e entry k a) := by
  unfold esNotify
  iterate 14 all_goals try first
    | with_reducible exact Moves.refl _ _
    | dsimp only
    | assumption
    | with_reducible refine Moves.foldl (fun _ _ => ?_) _ _ _ ?_
    | split
    | refine Moves.at ?_ (fun q hq => by cases q <;> first | exact absurd (by decide) hq | simp only [Part.same]) (by first | (simp only [flashOk, imp_self]; done) | (simp; done)) (by first | (simp only [logOk, imp_self]; done) | (simp; done)) (by first | (simp only [ringOk, imp_self]; done) | (simp; done)) (by first | exact List.prefix_rfl | exact List.prefix_append _ _ | exact (List.prefix_append _ _).trans (List.prefix_append _ _))

theorem State.raiseAt_moves (e : Ev) (idx : Nat) (s : State) :
    Moves [.thk, .hst, .out] s (State.raiseAt e idx s) := by
  unfold State.raiseAt
  iterate 14 all_goals try first
    | with_reducible exact Moves.refl _ _
    | dsimp only
    | assumption
    | with_reducible refine (esNotify_moves ..).to (by decide) ?_
    | with_reducible refine Moves.foldl (fun _ _ => ?_) _ _ _ ?_
    | split
    | refine Moves.at ?_ (fun q hq => by cases q <;> first | exact absurd (by decide) hq | simp only [Part.same]) (by first | (simp only [flashOk, imp_self]; done) | (simp; done)) (by first | (simp only [logOk, imp_self]; done) | (simp; done)) (by first | (simp only [ringOk, imp_self]; done) | (simp; done)) (by first | exact List.prefix_rfl | exact List.prefix_append _ _ | exact (List.prefix_append _ _).trans (List.prefix_append _ _))

theorem State.raise_moves (e : Ev) (s : State) :
    Moves [.thk, .hst, .out] s (State.raise e s) := by
  unfold State.raise
  iterate 14 all_goals try first
    | with_reducible exact Moves.refl _ _
    | dsimp only
    | assumption
    | with_reducible refine (State.raiseAt_moves ..).to (by decide) ?_
    | with_reducible refine Moves.foldl (fun _ _ => ?_) _ _ _ ?_
    | split
    | refine Moves.at ?_ (fun q hq => by cases q <;> first | exact absurd (by decide) hq | simp only [Part.same]) (by first | (simp only [flashOk, imp_self]; done) | (simp; done)) (by first | (simp only [logOk, imp_self]; done) | (simp; done)) (by first | (simp only [ringOk, imp_self]; done) | (simp; done)) (by first | exact List.prefix_rfl | exact List.prefix_append _ _ | exact (List.prefix_append _ _).trans (List.prefix_append _ _))

theorem State.raises_moves (es : List Ev) (s : State) :
    Moves [.thk, .hst, .out] s (State.raises es s) := by
  unfold State.raises
  iterate 14 all_goals try first
    | with_reducible exact Moves.refl _ _
    | dsimp only
    | assumption
    | with_reducible refine (State.raise_moves ..).to (by decide) ?_
    | with_reducible refine Moves.foldl (fun _ _ => ?_) _ _ _ ?_
    | split
    | refine Moves.at ?_ (fun q hq => by cases q <;> first | exact absurd (by decide) hq | simp only [Part.same]) (by first | (simp only [flashOk, imp_self]; done) | (simp; done)) (by first | (simp only [logOk, imp_self]; done) | (simp; done)) (by first | (simp only [ringOk, imp_self]; done) | (simp; done)) (by first | exact List.prefix_rfl | exact List.prefix_append _ _ | exact (List.prefix_append _ _).trans (List.prefix_append _ _))

theorem State.judged_moves (st : Status) (addr : Nat) (s : State) :
    Moves [.thk, .hst, .out] s (State.judged st addr s) := by
  have k (u : Thicket) (h : logOk s.thk → logOk u) : Moves [.thk, .hst, .out] s { s with thk := u } :=
    Moves.at (.refl _ _) (fun q hq => by cases q <;> first | exact absurd (by decide) hq | simp only [Part.same]) id h id List.prefix_rfl
  unfold State.judged
  dsimp only
  split
  · exact (State.raiseAt_moves ..).to (by decide) (k _ (fun h => by unfold Thicket.endWith; split <;> exact h))
  · exact k _ (by simp)

theorem State.finish_moves (addr : Nat) (r : Status × State) : Moves [.thk, .hst, .out] r.2 (State.finish addr r) :=
  (State.emit_moves ..).to (by decide) ((State.judged_moves ..).weaken (by decide))

theorem State.wrongState_moves (e : Option Ev) (s : State) :
    Moves [.thk, .hst, .out] s (State.wrongState e s) := by
  unfold State.wrongState
  iterate 14 all_goals try first
    | with_reducible exact Moves.refl _ _
    | dsimp only
    | assumption
    | with_reducible refine (State.raise_moves ..).to (by decide) ?_
    | with_reducible refine Moves.foldl (fun _ _ => ?_) _ _ _ ?_
    | split
    | refine Moves.at ?_ (fun q hq => by cases q <;> first | exact absurd (by decide) hq | simp only [Part.same]) (by first | (simp only [flashOk, imp_self]; done) | (simp; done)) (by first | (simp only [logOk, imp_self]; done) | (simp; done)) (by first | (simp only [ringOk, imp_self]; done) | (simp; done)) (by first | exact List.prefix_rfl | exact List.prefix_append _ _ | exact (List.prefix_append _ _).trans (List.prefix_append _ _))

theorem State.raisesAt_moves (es : List (Ev × Nat)) (s : State) :
    Moves [.thk, .hst, .out] s (State.raisesAt es s) := by
  unfold State.raisesAt
  iterate 14 all_goals try first
    | with_reducible exact Moves.refl _ _
    | dsimp only
    | assumption
    | with_reducible refine (State.raiseAt_moves ..).to (by decide) ?_
    | with_reducible refine Moves.foldl (fun _ _ => ?_) _ _ _ ?_
    | split
    | refine Moves.at ?_ (fun q hq => by cases q <;> first | exact absurd (by decide) hq | simp only [Part.same]) (by first | (simp only [flashOk, imp_self]; done) | (simp; done)) (by first | (simp only [logOk, imp_self]; done) | (simp; done)) (by first | (simp only [ringOk, imp_self]; done) | (simp; done)) (by first | exact List.prefix_rfl | exact List.prefix_append _ _ | exact (List.prefix_append _ _).trans (List.prefix_append _ _))

theorem State.ocppSend_moves (kind : OcppKind) (p : Nat) (tx : Nat) (rc : Option (List Byte)) (oc : Option (List Byte)) (s : State) :
    Moves [.hst, .out] s (State.ocppSend kind p tx rc oc s) := by
  unfold State.ocppSend
  iterate 14 all_goals try first
    | with_reducible exact Moves.refl _ _
    | dsimp only
    | assumption
    | with_reducible refine Moves.foldl (fun _ _ => ?_) _ _ _ ?_
    | split
    | refine Moves.at ?_ (fun q hq => by cases q <;> first | exact absurd (by decide) hq | simp only [Part.same]) (by first | (simp only [flashOk, imp_self]; done) | (simp; done)) (by first | (simp only [logOk, imp_self]; done) | (simp; done)) (by first | (simp only [ringOk, imp_self]; done) | (simp; done)) (by first | exact List.prefix_rfl | exact List.prefix_append _ _ | exact (List.prefix_append _ _).trans (List.prefix_append _ _))

theorem State.ocppFollow_moves (p : Fin 12) (before : Port) (s : State) :
    Moves [.hst, .out] s (State.ocppFollow p before s) := by
  unfold State.ocppFollow
  iterate 14 all_goals try first
    | with_reducible exact Moves.refl _ _
    | dsimp only
    | assumption
    | with_reducible refine (State.ocppSend_moves ..).to (by decide) ?_
    | with_reducible refine Moves.foldl (fun _ _ => ?_) _ _ _ ?_
    | split
    | refine Moves.at ?_ (fun q hq => by cases q <;> first | exact absurd (by decide) hq | simp only [Part.same]) (by first | (simp only [flashOk, imp_self]; done) | (simp; done)) (by first | (simp only [logOk, imp_self]; done) | (simp; done)) (by first | (simp only [ringOk, imp_self]; done) | (simp; done)) (by first | exact List.prefix_rfl | exact List.prefix_append _ _ | exact (List.prefix_append _ _).trans (List.prefix_append _ _))

theorem State.keyMissed_moves (s : State) :
    Moves [.thk, .clk, .hst, .out] s (State.keyMissed s) := by
  unfold State.keyMissed
  iterate 14 all_goals try first
    | with_reducible exact Moves.refl _ _
    | dsimp only
    | assumption
    | with_reducible refine (State.wrongState_moves ..).to (by decide) ?_
    | with_reducible refine Moves.foldl (fun _ _ => ?_) _ _ _ ?_
    | split
    | refine Moves.at ?_ (fun q hq => by cases q <;> first | exact absurd (by decide) hq | simp only [Part.same]) (by first | (simp only [flashOk, imp_self]; done) | (simp; done)) (by first | (simp only [logOk, imp_self]; done) | (simp; done)) (by first | (simp only [ringOk, imp_self]; done) | (simp; done)) (by first | exact List.prefix_rfl | exact List.prefix_append _ _ | exact (List.prefix_append _ _).trans (List.prefix_append _ _))

theorem State.slvSend_moves (code : Nat) (args : List Byte) (s : State) :
    Moves [.thk, .slvCtr, .clk, .hst, .out] s (State.slvSend code args s) := by
  unfold State.slvSend
  iterate 14 all_goals try first
    | with_reducible exact Moves.refl _ _
    | dsimp only
    | assumption
    | with_reducible refine (State.keyMissed_moves ..).to (by decide) ?_
    | with_reducible refine Moves.foldl (fun _ _ => ?_) _ _ _ ?_
    | split
    | refine Moves.at ?_ (fun q hq => by cases q <;> first | exact absurd (by decide) hq | simp only [Part.same]) (by first | (simp only [flashOk, imp_self]; done) | (simp; done)) (by first | (simp only [logOk, imp_self]; done) | (simp; done)) (by first | (simp only [ringOk, imp_self]; done) | (simp; done)) (by first | exact List.prefix_rfl | exact List.prefix_append _ _ | exact (List.prefix_append _ _).trans (List.prefix_append _ _))

theorem State.cufApply_moves (r : CufChan) (s : State) :
    Moves [.cuf] s (State.cufApply r s) := by
  unfold State.cufApply
  iterate 14 all_goals try first
    | with_reducible exact Moves.refl _ _
    | dsimp only
    | assumption
    | with_reducible refine Moves.foldl (fun _ _ => ?_) _ _ _ ?_
    | split
    | refine Moves.at ?_ (fun q hq => by cases q <;> first | exact absurd (by decide) hq | simp only [Part.same]) (by first | (simp only [flashOk, imp_self]; done) | (simp; done)) (by first | (simp only [logOk, imp_self]; done) | (simp; done)) (by first | (simp only [ringOk, imp_self]; done) | (simp; done)) (by first | exact List.prefix_rfl | exact List.prefix_append _ _ | exact (List.prefix_append _ _).trans (List.prefix_append _ _))

theorem State.checkPath_moves (p : Fin 12) (before : Bool) (s : State) :
    Moves [.cuf] s (State.checkPath p before s) := by
  unfold State.checkPath
  iterate 14 all_goals try first
    | with_reducible exact Moves.refl _ _
    | dsimp only
    | assumption
    | with_reducible refine Moves.foldl (fun _ _ => ?_) _ _ _ ?_
    | split
    | refine Moves.at ?_ (fun q hq => by cases q <;> first | exact absurd (by decide) hq | simp only [Part.same]) (by first | (simp only [flashOk, imp_self]; done) | (simp; done)) (by first | (simp only [logOk, imp_self]; done) | (simp; done)) (by first | (simp only [ringOk, imp_self]; done) | (simp; done)) (by first | exact List.prefix_rfl | exact List.prefix_append _ _ | exact (List.prefix_append _ _).trans (List.prefix_append _ _))

theorem State.useSess_moves (s : State) :
    Moves [.fresh, .clk, .sessNext, .sessTop] s (State.useSess s) := by
  unfold State.useSess
  iterate 14 all_goals try first
    | with_reducible exact Moves.refl _ _
    | dsimp only
    | assumption
    | with_reducible refine Moves.foldl (fun _ _ => ?_) _ _ _ ?_
    | split
    | refine Moves.at ?_ (fun q hq => by cases q <;> first | exact absurd (by decide) hq | simp only [Part.same]) (by first | (simp only [flashOk, imp_self]; done) | (simp; done)) (by first | (simp only [logOk, imp_self]; done) | (simp; done)) (by first | (simp only [ringOk, imp_self]; done) | (simp; done)) (by first | exact List.prefix_rfl | exact List.prefix_append _ _ | exact (List.prefix_append _ _).trans (List.prefix_append _ _))

theorem State.linkOf2g_moves (p : Fin 12) (f : V2gLink → V2gLink) (s : State) :
    Moves [.v2g] s (State.linkOf2g p f s) := by
  unfold State.linkOf2g
  iterate 14 all_goals try first
    | with_reducible exact Moves.refl _ _
    | dsimp only
    | assumption
    | with_reducible refine Moves.foldl (fun _ _ => ?_) _ _ _ ?_
    | split
    | refine Moves.at ?_ (fun q hq => by cases q <;> first | exact absurd (by decide) hq | simp only [Part.same]) (by first | (simp only [flashOk, imp_self]; done) | (simp; done)) (by first | (simp only [logOk, imp_self]; done) | (simp; done)) (by first | (simp only [ringOk, imp_self]; done) | (simp; done)) (by first | exact List.prefix_rfl | exact List.prefix_append _ _ | exact (List.prefix_append _ _).trans (List.prefix_append _ _))

theorem State.hear2g_moves (p : Fin 12) (s : State) (m : PortMsg) :
    Moves [.fresh, .v2g] s (State.hear2g p s m) := by
  unfold State.hear2g
  iterate 14 all_goals try first
    | with_reducible exact Moves.refl _ _
    | dsimp only
    | assumption
    | with_reducible refine (State.linkOf2g_moves ..).to (by decide) ?_
    | with_reducible refine Moves.foldl (fun _ _ => ?_) _ _ _ ?_
    | split
    | refine Moves.at ?_ (fun q hq => by cases q <;> first | exact absurd (by decide) hq | simp only [Part.same]) (by first | (simp only [flashOk, imp_self]; done) | (simp; done)) (by first | (simp only [logOk, imp_self]; done) | (simp; done)) (by first | (simp only [ringOk, imp_self]; done) | (simp; done)) (by first | exact List.prefix_rfl | exact List.prefix_append _ _ | exact (List.prefix_append _ _).trans (List.prefix_append _ _))

theorem State.tidy2g_moves (p : Fin 12) (s : State) :
    Moves [.v2g] s (State.tidy2g p s) := by
  unfold State.tidy2g
  iterate 14 all_goals try first
    | with_reducible exact Moves.refl _ _
    | dsimp only
    | assumption
    | with_reducible refine (State.linkOf2g_moves ..).to (by decide) ?_
    | with_reducible refine Moves.foldl (fun _ _ => ?_) _ _ _ ?_
    | split
    | refine Moves.at ?_ (fun q hq => by cases q <;> first | exact absurd (by decide) hq | simp only [Part.same]) (by first | (simp only [flashOk, imp_self]; done) | (simp; done)) (by first | (simp only [logOk, imp_self]; done) | (simp; done)) (by first | (simp only [ringOk, imp_self]; done) | (simp; done)) (by first | exact List.prefix_rfl | exact List.prefix_append _ _ | exact (List.prefix_append _ _).trans (List.prefix_append _ _))

theorem State.portEff_moves (p : Fin 12) (token : Nat) (s : State) (x0 : PEff) :
    Moves [.fresh, .thk, .v2g, .slvLink, .slvCtr, .clk, .hst, .sessNext, .sessTop, .out] s (State.portEff p token s x0) := by
  cases x0 <;> simp only [State.portEff]
  iterate 14 all_goals try first
    | with_reducible exact Moves.refl _ _
    | dsimp only
    | assumption
    | with_reducible refine (State.raiseAt_moves ..).to (by decide) ?_
    | with_reducible refine (State.linkOf2g_moves ..).to (by decide) ?_
    | with_reducible refine (State.emit_moves ..).to (by decide) ?_
    | with_reducible refine (State.keyMissed_moves ..).to (by decide) ?_
    | with_reducible refine (State.wrongState_moves ..).to (by decide) ?_
    | with_reducible refine (State.slvSend_moves ..).to (by decide) ?_
    | with_reducible refine (State.useSess_moves ..).to (by decide) ?_
    | with_reducible refine Moves.foldl (fun _ _ => ?_) _ _ _ ?_
    | split
    | refine Moves.at ?_ (fun q hq => by cases q <;> first | exact absurd (by decide) hq | simp only [Part.same]) (by first | (simp only [flashOk, imp_self]; done) | (simp; done)) (by first | (simp only [logOk, imp_self]; done) | (simp; done)) (by first | (simp only [ringOk, imp_self]; done) | (simp; done)) (by first | exact List.prefix_rfl | exact List.prefix_append _ _ | exact (List.prefix_append _ _).trans (List.prefix_append _ _))

theorem State.portRun_moves (p : Fin 12) (token : Nat) (f : PCtx → PCtx) (s : State) :
    Moves [.fresh, .thk, .ports, .v2g, .slvLink, .slvCtr, .cuf, .clk, .hst, .sessNext, .sessTop, .out] s (State.portRun p token f s) := by
  unfold State.portRun
  iterate 14 all_goals try first
    | with_reducible exact Moves.refl _ _
    | dsimp only
    | assumption
    | with_reducible refine (State.portEff_moves ..).to (by decide) ?_
    | with_reducible refine (State.checkPath_moves ..).to (by decide) ?_
    | with_reducible refine (State.ocppFollow_moves ..).to (by decide) ?_
    | with_reducible refine Moves.foldl (fun _ _ => ?_) _ _ _ ?_
    | split
    | refine Moves.at ?_ (fun q hq => by cases q <;> first | exact absurd (by decide) hq | simp only [Part.same]) (by first | (simp only [flashOk, imp_self]; done) | (simp; done)) (by first | (simp only [logOk, imp_self]; done) | (simp; done)) (by first | (simp only [ringOk, imp_self]; done) | (simp; done)) (by first | exact List.prefix_rfl | exact List.prefix_append _ _ | exact (List.prefix_append _ _).trans (List.prefix_append _ _))

theorem State.portDo_moves (p : Fin 12) (token : Nat) (f : PCtx → PCtx) (s : State) :
    Moves [.fresh, .thk, .ports, .v2g, .slvLink, .slvCtr, .cuf, .clk, .hst, .sessNext, .sessTop, .out] s (State.portDo p token f s) := by
  unfold State.portDo
  iterate 14 all_goals try first
    | with_reducible exact Moves.refl _ _
    | dsimp only
    | assumption
    | with_reducible refine (State.portRun_moves ..).to (by decide) ?_
    | with_reducible refine Moves.foldl (fun _ _ => ?_) _ _ _ ?_
    | split
    | refine Moves.at ?_ (fun q hq => by cases q <;> first | exact absurd (by decide) hq | simp only [Part.same]) (by first | (simp only [flashOk, imp_self]; done) | (simp; done)) (by first | (simp only [logOk, imp_self]; done) | (simp; done)) (by first | (simp only [ringOk, imp_self]; done) | (simp; done)) (by first | exact List.prefix_rfl | exact List.prefix_append _ _ | exact (List.prefix_append _ _).trans (List.prefix_append _ _))

theorem State.endPort_moves (p : Fin 12) (si : Nat) (s : State) :
    Moves [.fresh, .thk, .ports, .v2g, .slvLink, .slvCtr, .cuf, .clk, .hst, .sessNext, .sessTop, .out] s (State.endPort p si s) := by
  unfold State.endPort
  iterate 14 all_goals try first
    | with_reducible exact Moves.refl _ _
    | dsimp only
    | assumption
    | with_reducible refine (State.portDo_moves ..).to (by decide) ?_
    | with_reducible refine Moves.foldl (fun _ _ => ?_) _ _ _ ?_
    | split
    | refine Moves.at ?_ (fun q hq => by cases q <;> first | exact absurd (by decide) hq | simp only [Part.same]) (by first | (simp only [flashOk, imp_self]; done) | (simp; done)) (by first | (simp only [logOk, imp_self]; done) | (simp; done)) (by first | (simp only [ringOk, imp_self]; done) | (simp; done)) (by first | exact List.prefix_rfl | exact List.prefix_append _ _ | exact (List.prefix_append _ _).trans (List.prefix_append _ _))

theorem State.gtrEff_moves (s : State) (x0 : GEff) :
    Moves [.fresh, .thk, .ports, .v2g, .slvLink, .slvCtr, .cuf, .clk, .hst, .sessNext, .sessTop, .out] s (State.gtrEff s x0) := by
  cases x0 <;> simp only [State.gtrEff]
  iterate 14 all_goals try first
    | with_reducible exact Moves.refl _ _
    | dsimp only
    | assumption
    | with_reducible refine (State.raiseAt_moves ..).to (by decide) ?_
    | with_reducible refine (State.endPort_moves ..).to (by decide) ?_
    | with_reducible refine Moves.foldl (fun _ _ => ?_) _ _ _ ?_
    | split
    | refine Moves.at ?_ (fun q hq => by cases q <;> first | exact absurd (by decide) hq | simp only [Part.same]) (by first | (simp only [flashOk, imp_self]; done) | (simp; done)) (by first | (simp only [logOk, imp_self]; done) | (simp; done)) (by first | (simp only [ringOk, imp_self]; done) | (simp; done)) (by first | exact List.prefix_rfl | exact List.prefix_append _ _ | exact (List.prefix_append _ _).trans (List.prefix_append _ _))

theorem State.clearingAbort_moves (before : Bool) (s : State) :
    Moves [.thk, .cpc, .hst, .out] s (State.clearingAbort before s) := by
  unfold State.clearingAbort
  iterate 14 all_goals try first
    | with_reducible exact Moves.refl _ _
    | dsimp only
    | assumption
    | with_reducible refine (State.raise_moves ..).to (by decide) ?_
    | with_reducible refine Moves.foldl (fun _ _ => ?_) _ _ _ ?_
    | split
    | refine Moves.at ?_ (fun q hq => by cases q <;> first | exact absurd (by decide) hq | simp only [Part.same]) (by first | (simp only [flashOk, imp_self]; done) | (simp; done)) (by first | (simp only [logOk, imp_self]; done) | (simp; done)) (by first | (simp only [ringOk, imp_self]; done) | (simp; done)) (by first | exact List.prefix_rfl | exact List.prefix_append _ _ | exact (List.prefix_append _ _).trans (List.prefix_append _ _))

theorem State.gtrDo_moves (f : GCtx → GCtx) (s : State) :
    Moves [.fresh, .thk, .ports, .v2g, .cpc, .gtr, .slvLink, .slvCtr, .cuf, .clk, .hst, .sessNext, .sessTop, .out] s (State.gtrDo f s) := by
  unfold State.gtrDo
  iterate 14 all_goals try first
    | with_reducible exact Moves.refl _ _
    | dsimp only
    | assumption
    | with_reducible refine (State.gtrEff_moves ..).to (by decide) ?_
    | with_reducible refine (State.clearingAbort_moves ..).to (by decide) ?_
    | with_reducible refine Moves.foldl (fun _ _ => ?_) _ _ _ ?_
    | split
    | refine Moves.at ?_ (fun q hq => by cases q <;> first | exact absurd (by decide) hq | simp only [Part.same]) (by first | (simp only [flashOk, imp_self]; done) | (simp; done)) (by first | (simp only [logOk, imp_self]; done) | (simp; done)) (by first | (simp only [ringOk, imp_self]; done) | (simp; done)) (by first | exact List.prefix_rfl | exact List.prefix_append _ _ | exact (List.prefix_append _ _).trans (List.prefix_append _ _))

theorem State.softRequest_moves (kind : Nat) (idx : Nat) (s : State) :
    Moves [.fresh, .thk, .ports, .v2g, .cpc, .gtr, .slvLink, .slvCtr, .cuf, .clk, .hst, .sessNext, .sessTop, .out] s (State.softRequest kind idx s) := by
  unfold State.softRequest
  iterate 14 all_goals try first
    | with_reducible exact Moves.refl _ _
    | dsimp only
    | assumption
    | with_reducible refine (State.gtrDo_moves ..).to (by decide) ?_
    | with_reducible refine Moves.foldl (fun _ _ => ?_) _ _ _ ?_
    | split
    | refine Moves.at ?_ (fun q hq => by cases q <;> first | exact absurd (by decide) hq | simp only [Part.same]) (by first | (simp only [flashOk, imp_self]; done) | (simp; done)) (by first | (simp only [logOk, imp_self]; done) | (simp; done)) (by first | (simp only [ringOk, imp_self]; done) | (simp; done)) (by first | exact List.prefix_rfl | exact List.prefix_append _ _ | exact (List.prefix_append _ _).trans (List.prefix_append _ _))

theorem State.slvDo_moves (f : SX → SX) (s : State) :
    Moves [.thk, .slv, .hst, .out] s (State.slvDo f s) := by
  unfold State.slvDo
  iterate 14 all_goals try first
    | with_reducible exact Moves.refl _ _
    | dsimp only
    | assumption
    | with_reducible refine (State.raises_moves ..).to (by decide) ?_
    | with_reducible refine Moves.foldl (fun _ _ => ?_) _ _ _ ?_
    | split
    | refine Moves.at ?_ (fun q hq => by cases q <;> first | exact absurd (by decide) hq | simp only [Part.same]) (by first | (simp only [flashOk, imp_self]; done) | (simp; done)) (by first | (simp only [logOk, imp_self]; done) | (simp; done)) (by first | (simp only [ringOk, imp_self]; done) | (simp; done)) (by first | exact List.prefix_rfl | exact List.prefix_append _ _ | exact (List.prefix_append _ _).trans (List.prefix_append _ _))

theorem State.slvMod_moves (f : Sleeve → Sleeve) (s : State) :
    Moves [.slv] s (State.slvMod f s) := by
  unfold State.slvMod
  iterate 14 all_goals try first
    | with_reducible exact Moves.refl _ _
    | dsimp only
    | assumption
    | with_reducible refine Moves.foldl (fun _ _ => ?_) _ _ _ ?_
    | split
    | refine Moves.at ?_ (fun q hq => by cases q <;> first | exact absurd (by decide) hq | simp only [Part.same]) (by first | (simp only [flashOk, imp_self]; done) | (simp; done)) (by first | (simp only [logOk, imp_self]; done) | (simp; done)) (by first | (simp only [ringOk, imp_self]; done) | (simp; done)) (by first | exact List.prefix_rfl | exact List.prefix_append _ _ | exact (List.prefix_append _ _).trans (List.prefix_append _ _))

theorem State.lacEff_moves (s : State) (x0 : LacOut) :
    Moves [.thk, .hst, .out] s (State.lacEff s x0) := by
  cases x0 <;> simp only [State.lacEff]
  iterate 14 all_goals try first
    | with_reducible exact Moves.refl _ _
    | dsimp only
    | assumption
    | with_reducible refine (State.raise_moves ..).to (by decide) ?_
    | with_reducible refine (State.emit_moves ..).to (by decide) ?_
    | with_reducible refine Moves.foldl (fun _ _ => ?_) _ _ _ ?_
    | split
    | refine Moves.at ?_ (fun q hq => by cases q <;> first | exact absurd (by decide) hq | simp only [Part.same]) (by first | (simp only [flashOk, imp_self]; done) | (simp; done)) (by first | (simp only [logOk, imp_self]; done) | (simp; done)) (by first | (simp only [ringOk, imp_self]; done) | (simp; done)) (by first | exact List.prefix_rfl | exact List.prefix_append _ _ | exact (List.prefix_append _ _).trans (List.prefix_append _ _))

theorem State.lacDo_moves (c : Fin 4) (f : LX → LX) (s : State) :
    Moves [.thk, .lac, .hst, .out] s (State.lacDo c f s) := by
  unfold State.lacDo
  iterate 14 all_goals try first
    | with_reducible exact Moves.refl _ _
    | dsimp only
    | assumption
    | with_reducible refine (State.lacEff_moves ..).to (by decide) ?_
    | with_reducible refine Moves.foldl (fun _ _ => ?_) _ _ _ ?_
    | split
    | refine Moves.at ?_ (fun q hq => by cases q <;> first | exact absurd (by decide) hq | simp only [Part.same]) (by first | (simp only [flashOk, imp_self]; done) | (simp; done)) (by first | (simp only [logOk, imp_self]; done) | (simp; done)) (by first | (simp only [ringOk, imp_self]; done) | (simp; done)) (by first | exact List.prefix_rfl | exact List.prefix_append _ _ | exact (List.prefix_append _ _).trans (List.prefix_append _ _))

theorem State.brmEff_moves (s : State) (x0 : BrmOut) :
    Moves [.fresh, .thk, .ports, .v2g, .cpc, .gtr, .slvLink, .slvCtr, .cuf, .clk, .hst, .sessNext, .sessTop, .out] s (State.brmEff s x0) := by
  cases x0 <;> simp only [State.brmEff]
  iterate 14 all_goals try first
    | with_reducible exact Moves.refl _ _
    | dsimp only
    | assumption
    | with_reducible refine (State.raise_moves ..).to (by decide) ?_
    | with_reducible refine (State.keyMissed_moves ..).to (by decide) ?_
    | with_reducible refine (State.softRequest_moves ..).to (by decide) ?_
    | with_reducible refine (State.emit_moves ..).to (by decide) ?_
    | with_reducible refine Moves.foldl (fun _ _ => ?_) _ _ _ ?_
    | split
    | refine Moves.at ?_ (fun q hq => by cases q <;> first | exact absurd (by decide) hq | simp only [Part.same]) (by first | (simp only [flashOk, imp_self]; done) | (simp; done)) (by first | (simp only [logOk, imp_self]; done) | (simp; done)) (by first | (simp only [ringOk, imp_self]; done) | (simp; done)) (by first | exact List.prefix_rfl | exact List.prefix_append _ _ | exact (List.prefix_append _ _).trans (List.prefix_append _ _))

theorem State.brmDo_moves (f : BX → BX) (s : State) :
    Moves [.fresh, .thk, .ports, .v2g, .cpc, .gtr, .slvLink, .slvCtr, .brm, .cuf, .clk, .hst, .sessNext, .sessTop, .out] s (State.brmDo f s) := by
  unfold State.brmDo
  iterate 14 all_goals try first
    | with_reducible exact Moves.refl _ _
    | dsimp only
    | assumption
    | with_reducible refine (State.brmEff_moves ..).to (by decide) ?_
    | with_reducible refine Moves.foldl (fun _ _ => ?_) _ _ _ ?_
    | split
    | refine Moves.at ?_ (fun q hq => by cases q <;> first | exact absurd (by decide) hq | simp only [Part.same]) (by first | (simp only [flashOk, imp_self]; done) | (simp; done)) (by first | (simp only [logOk, imp_self]; done) | (simp; done)) (by first | (simp only [ringOk, imp_self]; done) | (simp; done)) (by first | exact List.prefix_rfl | exact List.prefix_append _ _ | exact (List.prefix_append _ _).trans (List.prefix_append _ _))

theorem State.hemDo_moves (f : HX → HX) (s : State) :
    Moves [.thk, .hem, .hst, .out] s (State.hemDo f s) := by
  unfold State.hemDo
  iterate 14 all_goals try first
    | with_reducible exact Moves.refl _ _
    | dsimp only
    | assumption
    | with_reducible refine (State.raises_moves ..).to (by decide) ?_
    | with_reducible refine Moves.foldl (fun _ _ => ?_) _ _ _ ?_
    | split
    | refine Moves.at ?_ (fun q hq => by cases q <;> first | exact absurd (by decide) hq | simp only [Part.same]) (by first | (simp only [flashOk, imp_self]; done) | (simp; done)) (by first | (simp only [logOk, imp_self]; done) | (simp; done)) (by first | (simp only [ringOk, imp_self]; done) | (simp; done)) (by first | exact List.prefix_rfl | exact List.prefix_append _ _ | exact (List.prefix_append _ _).trans (List.prefix_append _ _))

theorem State.clkDo_moves (f : Cloak → CkX) (s : State) :
    Moves [.thk, .clk, .hst, .out] s (State.clkDo f s) := by
  unfold State.clkDo
  iterate 14 all_goals try first
    | with_reducible exact Moves.refl _ _
    | dsimp only
    | assumption
    | with_reducible refine (State.raises_moves ..).to (by decide) ?_
    | with_reducible refine (State.wrongState_moves ..).to (by decide) ?_
    | with_reducible refine Moves.foldl (fun _ _ => ?_) _ _ _ ?_
    | split
    | refine Moves.at ?_ (fun q hq => by cases q <;> first | exact absurd (by decide) hq | simp only [Part.same]) (by first | (simp only [flashOk, imp_self]; done) | (simp; done)) (by first | (simp only [logOk, imp_self]; done) | (simp; done)) (by first | (simp only [ringOk, imp_self]; done) | (simp; done)) (by first | exact List.prefix_rfl | exact List.prefix_append _ _ | exact (List.prefix_append _ _).trans (List.prefix_append _ _))

theorem State.twinMod_moves (p : Fin 12) (f : Twin → Twin) (s : State) :
    Moves [.twins] s (State.twinMod p f s) := by
  unfold State.twinMod
  iterate 14 all_goals try first
    | with_reducible exact Moves.refl _ _
    | dsimp only
    | assumption
    | with_reducible refine Moves.foldl (fun _ _ => ?_) _ _ _ ?_
    | split
    | refine Moves.at ?_ (fun q hq => by cases q <;> first | exact absurd (by decide) hq | simp only [Part.same]) (by first | (simp only [flashOk, imp_self]; done) | (simp; done)) (by first | (simp only [logOk, imp_self]; done) | (simp; done)) (by first | (simp only [ringOk, imp_self]; done) | (simp; done)) (by first | exact List.prefix_rfl | exact List.prefix_append _ _ | exact (List.prefix_append _ _).trans (List.prefix_append _ _))

theorem State.mainReset_moves (power : Bool) (s : State) :
    Moves [.tb, .cfg, .thk, .site, .cnp, .mb, .ports, .v2g, .twins, .cpc, .gtr, .slvLink, .slvCtr, .seam, .lac, .brm, .hem, .clk,
      .img, .hst, .sessNext, .hiCap] s (s.mainReset power) :=
  Moves.at (.refl _ _) (fun q hq => by cases q <;> first | exact absurd (by decide) hq | simp only [Part.same]) id id ringOk_sysReset List.prefix_rfl

theorem State.sysResetNow_moves (h : Hold) (s : State) :
    Moves [.tb, .cfg, .rst, .thk, .site, .cnp, .mb, .ports, .v2g, .twins, .cpc, .gtr, .slvLink, .slvCtr, .seam, .lac, .brm, .hem, .clk, .img, .hst, .sessNext, .hiCap] s (State.sysResetNow h s) := by
  unfold State.sysResetNow
  iterate 14 all_goals try first
    | with_reducible exact Moves.refl _ _
    | dsimp only
    | assumption
    | with_reducible refine (State.mainReset_moves ..).to (by decide) ?_
    | with_reducible refine Moves.foldl (fun _ _ => ?_) _ _ _ ?_
    | split
    | refine Moves.at ?_ (fun q hq => by cases q <;> first | exact absurd (by decide) hq | simp only [Part.same]) (by first | (simp only [flashOk, imp_self]; done) | (simp; done)) (by first | (simp only [logOk, imp_self]; done) | (simp; done)) (by first | (simp only [ringOk, imp_self]; done) | (simp; done)) (by first | exact List.prefix_rfl | exact List.prefix_append _ _ | exact (List.prefix_append _ _).trans (List.prefix_append _ _))

theorem State.powerResetNow_moves (src : Nat) (s : State) :
    Moves [.tb, .cfg, .rst, .gld, .thk, .site, .cnp, .mb, .ports, .v2g, .twins, .cpc, .gtr, .slvLink, .slvCtr, .seam, .lac, .brm, .hem, .clk, .img, .hst, .sessNext, .hiCap] s (State.powerResetNow src s) := by
  unfold State.powerResetNow
  iterate 14 all_goals try first
    | with_reducible exact Moves.refl _ _
    | dsimp only
    | assumption
    | with_reducible refine (State.mainReset_moves ..).to (by decide) ?_
    | with_reducible refine Moves.foldl (fun _ _ => ?_) _ _ _ ?_
    | split
    | refine Moves.at ?_ (fun q hq => by cases q <;> first | exact absurd (by decide) hq | simp only [Part.same]) (by first | (simp only [flashOk, imp_self]; done) | (simp; done)) (by first | (simp only [logOk, imp_self]; done) | (simp; done)) (by first | (simp only [ringOk, imp_self]; done) | (simp; done)) (by first | exact List.prefix_rfl | exact List.prefix_append _ _ | exact (List.prefix_append _ _).trans (List.prefix_append _ _))

theorem State.coreHold_moves (src : Nat) (s : State) :
    Moves [.rst, .gld, .mb, .slvCtr] s (State.coreHold src s) := by
  unfold State.coreHold
  iterate 14 all_goals try first
    | with_reducible exact Moves.refl _ _
    | dsimp only
    | assumption
    | with_reducible refine Moves.foldl (fun _ _ => ?_) _ _ _ ?_
    | split
    | refine Moves.at ?_ (fun q hq => by cases q <;> first | exact absurd (by decide) hq | simp only [Part.same]) (by first | (simp only [flashOk, imp_self]; done) | (simp; done)) (by first | (simp only [logOk, imp_self]; done) | (simp; done)) (by first | (simp only [ringOk, imp_self]; done) | (simp; done)) (by first | exact List.prefix_rfl | exact List.prefix_append _ _ | exact (List.prefix_append _ _).trans (List.prefix_append _ _))

theorem State.pendReset_moves (src : Nat) (cause : Nat) (s : State) :
    Moves [.rst, .gld, .mb, .slvCtr] s (State.pendReset src cause s) := by
  unfold State.pendReset
  iterate 14 all_goals try first
    | with_reducible exact Moves.refl _ _
    | dsimp only
    | assumption
    | with_reducible refine (State.coreHold_moves ..).to (by decide) ?_
    | with_reducible refine Moves.foldl (fun _ _ => ?_) _ _ _ ?_
    | split
    | refine Moves.at ?_ (fun q hq => by cases q <;> first | exact absurd (by decide) hq | simp only [Part.same]) (by first | (simp only [flashOk, imp_self]; done) | (simp; done)) (by first | (simp only [logOk, imp_self]; done) | (simp; done)) (by first | (simp only [ringOk, imp_self]; done) | (simp; done)) (by first | exact List.prefix_rfl | exact List.prefix_append _ _ | exact (List.prefix_append _ _).trans (List.prefix_append _ _))

theorem State.esAnswer_moves (k : Nat) (st : Status) (tag : Nat) (ws : List Nat) (s : State) :
    Moves [.out] s (State.esAnswer k st tag ws s) := by
  unfold State.esAnswer
  iterate 14 all_goals try first
    | with_reducible exact Moves.refl _ _
    | dsimp only
    | assumption
    | with_reducible refine (State.emit_moves ..).to (by decide) ?_
    | with_reducible refine Moves.foldl (fun _ _ => ?_) _ _ _ ?_
    | split
    | refine Moves.at ?_ (fun q hq => by cases q <;> first | exact absurd (by decide) hq | simp only [Part.same]) (by first | (simp only [flashOk, imp_self]; done) | (simp; done)) (by first | (simp only [logOk, imp_self]; done) | (simp; done)) (by first | (simp only [ringOk, imp_self]; done) | (simp; done)) (by first | exact List.prefix_rfl | exact List.prefix_append _ _ | exact (List.prefix_append _ _).trans (List.prefix_append _ _))

theorem State.relayDone_moves (r : RelayPend) (st : Status) (done : Nat) (s : State) :
    Moves [.seam, .out] s (State.relayDone r st done s) := by
  unfold State.relayDone
  iterate 14 all_goals try first
    | with_reducible exact Moves.refl _ _
    | dsimp only
    | assumption
    | with_reducible refine (State.emit_moves ..).to (by decide) ?_
    | with_reducible refine (State.esAnswer_moves ..).to (by decide) ?_
    | with_reducible refine Moves.foldl (fun _ _ => ?_) _ _ _ ?_
    | split
    | refine Moves.at ?_ (fun q hq => by cases q <;> first | exact absurd (by decide) hq | simp only [Part.same]) (by first | (simp only [flashOk, imp_self]; done) | (simp; done)) (by first | (simp only [logOk, imp_self]; done) | (simp; done)) (by first | (simp only [ringOk, imp_self]; done) | (simp; done)) (by first | exact List.prefix_rfl | exact List.prefix_append _ _ | exact (List.prefix_append _ _).trans (List.prefix_append _ _))

theorem State.relayEnd_moves (s : State) :
    Moves [.seam, .out] s (State.relayEnd s) := by
  unfold State.relayEnd
  iterate 14 all_goals try first
    | with_reducible exact Moves.refl _ _
    | dsimp only
    | assumption
    | with_reducible refine (State.relayDone_moves ..).to (by decide) ?_
    | with_reducible refine Moves.foldl (fun _ _ => ?_) _ _ _ ?_
    | split
    | refine Moves.at ?_ (fun q hq => by cases q <;> first | exact absurd (by decide) hq | simp only [Part.same]) (by first | (simp only [flashOk, imp_self]; done) | (simp; done)) (by first | (simp only [logOk, imp_self]; done) | (simp; done)) (by first | (simp only [ringOk, imp_self]; done) | (simp; done)) (by first | exact List.prefix_rfl | exact List.prefix_append _ _ | exact (List.prefix_append _ _).trans (List.prefix_append _ _))

end Sys2Proof.Machine
end

