-- ==== Sys2Proof/Laws/MovesOperands.lean ====
section
/-! SUPPORT. What each operation of Machine/Operands.lean can change: at most the listed parts, and a safe state stays safe. -/

namespace Sys2Proof.Machine

theorem rd_inj {w : Nat} {s : State} {r} (h : rd w s = some r) : (w, s) = r := Option.some.inj h

theorem rd64_moves (a : Nat) (hi : Bool) (v : Nat) (s : State) {y} (h : rd64 a hi v s = some y) :
    Moves [.hiCap] s y.2 := by
  unfold rd64 at h
  iterate 12 all_goals try first
    | (with_reducible obtain rfl := Option.some.inj h)
    | (with_reducible obtain rfl := rd_inj h)
    | (with_reducible exact absurd h.symm (Option.some_ne_none _))
    | dsimp only at h
    | split at h
  iterate 14 all_goals try first
    | with_reducible exact Moves.refl _ _
    | dsimp only
    | assumption
    | with_reducible refine Moves.foldl (fun _ _ => ?_) _ _ _ ?_
    | split
    | refine Moves.at ?_ (fun q hq => by cases q <;> first | exact absurd (by decide) hq | simp only [Part.same]) (by first | (simp only [flashOk, imp_self]; done) | (simp; done)) (by first | (simp only [logOk, imp_self]; done) | (simp; done)) (by first | (simp only [ringOk, imp_self]; done) | (simp; done)) (by first | exact List.prefix_rfl | exact List.prefix_append _ _ | exact (List.prefix_append _ _).trans (List.prefix_append _ _))

theorem roWrite_moves (q : Option (Nat × State)) (s : State) {r} (h : roWrite q s = some r) : Moves [] s r.2 := by
  unfold roWrite at h
  split at h
  · cases h; exact .refl _ _
  · cases h

end Sys2Proof.Machine
end

