-- ==== Sys2Proof/Laws/MovesSiteOps.lean ====
section
/-! SUPPORT. What each operation of Machine/SiteOps.lean can change: at most the listed parts, and a safe state stays safe. -/

namespace Sys2Proof.Machine

theorem State.measure_moves (w : Rat) (s : State) :
    Moves [.cnp] s (State.measure w s) := by
  unfold State.measure
  iterate 14 all_goals try first
    | with_reducible exact Moves.refl _ _
    | dsimp only
    | assumption
    | with_reducible refine Moves.foldl (fun _ _ => ?_) _ _ _ ?_
    | split
    | refine Moves.at ?_ (fun q hq => by cases q <;> first | exact absurd (by decide) hq | simp only [Part.same]) (by first | (simp only [flashOk, imp_self]; done) | (simp; done)) (by first | (simp only [logOk, imp_self]; done) | (simp; done)) (by first | (simp only [ringOk, imp_self]; done) | (simp; done)) (by first | exact List.prefix_rfl | exact List.prefix_append _ _ | exact (List.prefix_append _ _).trans (List.prefix_append _ _))

end Sys2Proof.Machine
end

