-- ==== Sys2Proof/Laws/MovesBusOps.lean ====
section
/-! SUPPORT. What each operation of Machine/BusOps.lean can change: at most the listed parts, and a safe state stays safe. -/

namespace Sys2Proof.Machine

theorem State.busMod_moves (b : Fin 4) (f : MBus → MBus) (s : State) :
    Moves [.mb] s (State.busMod b f s) := by
  unfold State.busMod
  iterate 14 all_goals try first
    | with_reducible exact Moves.refl _ _
    | dsimp only
    | assumption
    | with_reducible refine Moves.foldl (fun _ _ => ?_) _ _ _ ?_
    | split
    | refine Moves.at ?_ (fun q hq => by cases q <;> first | exact absurd (by decide) hq | simp only [Part.same]) (by first | (simp only [flashOk, imp_self]; done) | (simp; done)) (by first | (simp only [logOk, imp_self]; done) | (simp; done)) (by first | (simp only [ringOk, imp_self]; done) | (simp; done)) (by first | exact List.prefix_rfl | exact List.prefix_append _ _ | exact (List.prefix_append _ _).trans (List.prefix_append _ _))

theorem State.canSend_moves (b : Fin 4) (id : Nat) (data : List Byte) (s : State) :
    Moves [.mb, .out] s (State.canSend b id data s) := by
  unfold State.canSend
  iterate 14 all_goals try first
    | with_reducible exact Moves.refl _ _
    | dsimp only
    | assumption
    | with_reducible refine (State.busMod_moves ..).to (by decide) ?_
    | with_reducible refine (State.emit_moves ..).to (by decide) ?_
    | with_reducible refine Moves.foldl (fun _ _ => ?_) _ _ _ ?_
    | split
    | refine Moves.at ?_ (fun q hq => by cases q <;> first | exact absurd (by decide) hq | simp only [Part.same]) (by first | (simp only [flashOk, imp_self]; done) | (simp; done)) (by first | (simp only [logOk, imp_self]; done) | (simp; done)) (by first | (simp only [ringOk, imp_self]; done) | (simp; done)) (by first | exact List.prefix_rfl | exact List.prefix_append _ _ | exact (List.prefix_append _ _).trans (List.prefix_append _ _))

theorem State.offers_moves (b : Fin 4) (s : State) :
    Moves [.mb] s (State.offers b s) := by
  unfold State.offers
  iterate 14 all_goals try first
    | with_reducible exact Moves.refl _ _
    | dsimp only
    | assumption
    | with_reducible refine (State.busMod_moves ..).to (by decide) ?_
    | with_reducible refine Moves.foldl (fun _ _ => ?_) _ _ _ ?_
    | split
    | refine Moves.at ?_ (fun q hq => by cases q <;> first | exact absurd (by decide) hq | simp only [Part.same]) (by first | (simp only [flashOk, imp_self]; done) | (simp; done)) (by first | (simp only [logOk, imp_self]; done) | (simp; done)) (by first | (simp only [ringOk, imp_self]; done) | (simp; done)) (by first | exact List.prefix_rfl | exact List.prefix_append _ _ | exact (List.prefix_append _ _).trans (List.prefix_append _ _))

theorem State.confine_moves (b : Fin 4) (t : Nat) (r : Nat) (s : State) :
    Moves [.thk, .mb, .hst, .out] s (State.confine b t r s) := by
  unfold State.confine
  iterate 14 all_goals try first
    | with_reducible exact Moves.refl _ _
    | dsimp only
    | assumption
    | with_reducible refine (State.busMod_moves ..).to (by decide) ?_
    | with_reducible refine (State.raiseAt_moves ..).to (by decide) ?_
    | with_reducible refine Moves.foldl (fun _ _ => ?_) _ _ _ ?_
    | split
    | refine Moves.at ?_ (fun q hq => by cases q <;> first | exact absurd (by decide) hq | simp only [Part.same]) (by first | (simp only [flashOk, imp_self]; done) | (simp; done)) (by first | (simp only [logOk, imp_self]; done) | (simp; done)) (by first | (simp only [ringOk, imp_self]; done) | (simp; done)) (by first | exact List.prefix_rfl | exact List.prefix_append _ _ | exact (List.prefix_append _ _).trans (List.prefix_append _ _))

theorem State.countTx_moves (b : Fin 4) (r : TxResult) (w : TxFlaw) (s : State) :
    Moves [.thk, .mb, .hst, .out] s (State.countTx b r w s) := by
  unfold State.countTx
  iterate 14 all_goals try first
    | with_reducible exact Moves.refl _ _
    | dsimp only
    | assumption
    | with_reducible refine (State.confine_moves ..).to (by decide) ?_
    | with_reducible refine Moves.foldl (fun _ _ => ?_) _ _ _ ?_
    | split
    | refine Moves.at ?_ (fun q hq => by cases q <;> first | exact absurd (by decide) hq | simp only [Part.same]) (by first | (simp only [flashOk, imp_self]; done) | (simp; done)) (by first | (simp only [logOk, imp_self]; done) | (simp; done)) (by first | (simp only [ringOk, imp_self]; done) | (simp; done)) (by first | exact List.prefix_rfl | exact List.prefix_append _ _ | exact (List.prefix_append _ _).trans (List.prefix_append _ _))

theorem State.groupEnded_moves (b : Fin 4) (j : Nat) (ok : Bool) (data : List Byte) (s : State) :
    Moves [.cnp] s (State.groupEnded b j ok data s) := by
  unfold State.groupEnded
  iterate 14 all_goals try first
    | with_reducible exact Moves.refl _ _
    | dsimp only
    | assumption
    | with_reducible refine Moves.foldl (fun _ _ => ?_) _ _ _ ?_
    | split
    | refine Moves.at ?_ (fun q hq => by cases q <;> first | exact absurd (by decide) hq | simp only [Part.same]) (by first | (simp only [flashOk, imp_self]; done) | (simp; done)) (by first | (simp only [logOk, imp_self]; done) | (simp; done)) (by first | (simp only [ringOk, imp_self]; done) | (simp; done)) (by first | exact List.prefix_rfl | exact List.prefix_append _ _ | exact (List.prefix_append _ _).trans (List.prefix_append _ _))

theorem State.groupResult_moves (b : Fin 4) (j : Nat) (r : TxResult) (f : TxFrame) (s : State) :
    Moves [.thk, .cnp, .mb, .hst, .out] s (State.groupResult b j r f s) := by
  unfold State.groupResult
  iterate 14 all_goals try first
    | with_reducible exact Moves.refl _ _
    | dsimp only
    | assumption
    | with_reducible refine (State.busMod_moves ..).to (by decide) ?_
    | with_reducible refine (State.groupEnded_moves ..).to (by decide) ?_
    | with_reducible refine (State.canSend_moves ..).to (by decide) ?_
    | with_reducible refine (State.raiseAt_moves ..).to (by decide) ?_
    | with_reducible refine Moves.foldl (fun _ _ => ?_) _ _ _ ?_
    | split
    | refine Moves.at ?_ (fun q hq => by cases q <;> first | exact absurd (by decide) hq | simp only [Part.same]) (by first | (simp only [flashOk, imp_self]; done) | (simp; done)) (by first | (simp only [logOk, imp_self]; done) | (simp; done)) (by first | (simp only [ringOk, imp_self]; done) | (simp; done)) (by first | exact List.prefix_rfl | exact List.prefix_append _ _ | exact (List.prefix_append _ _).trans (List.prefix_append _ _))

theorem State.holdResult_moves (b : Fin 4) (r : TxResult) (s : State) :
    Moves [.thk, .mb, .hst, .out] s (State.holdResult b r s) := by
  unfold State.holdResult
  iterate 14 all_goals try first
    | with_reducible exact Moves.refl _ _
    | dsimp only
    | assumption
    | with_reducible refine (State.busMod_moves ..).to (by decide) ?_
    | with_reducible refine (State.canSend_moves ..).to (by decide) ?_
    | with_reducible refine (State.raiseAt_moves ..).to (by decide) ?_
    | with_reducible refine Moves.foldl (fun _ _ => ?_) _ _ _ ?_
    | split
    | refine Moves.at ?_ (fun q hq => by cases q <;> first | exact absurd (by decide) hq | simp only [Part.same]) (by first | (simp only [flashOk, imp_self]; done) | (simp; done)) (by first | (simp only [logOk, imp_self]; done) | (simp; done)) (by first | (simp only [ringOk, imp_self]; done) | (simp; done)) (by first | exact List.prefix_rfl | exact List.prefix_append _ _ | exact (List.prefix_append _ _).trans (List.prefix_append _ _))

theorem State.oneShotGroup_moves (b : Fin 4) (j : Nat) (r : TxResult) (w : TxFlaw) (s : State) :
    Moves [.thk, .cnp, .mb, .hst, .out] s (State.oneShotGroup b j r w s) := by
  unfold State.oneShotGroup
  iterate 14 all_goals try first
    | with_reducible exact Moves.refl _ _
    | dsimp only
    | assumption
    | with_reducible refine (State.groupResult_moves ..).to (by decide) ?_
    | with_reducible refine (State.countTx_moves ..).to (by decide) ?_
    | with_reducible refine Moves.foldl (fun _ _ => ?_) _ _ _ ?_
    | split
    | refine Moves.at ?_ (fun q hq => by cases q <;> first | exact absurd (by decide) hq | simp only [Part.same]) (by first | (simp only [flashOk, imp_self]; done) | (simp; done)) (by first | (simp only [logOk, imp_self]; done) | (simp; done)) (by first | (simp only [ringOk, imp_self]; done) | (simp; done)) (by first | exact List.prefix_rfl | exact List.prefix_append _ _ | exact (List.prefix_append _ _).trans (List.prefix_append _ _))

theorem State.oneShotHold_moves (b : Fin 4) (r : TxResult) (w : TxFlaw) (s : State) :
    Moves [.thk, .mb, .hst, .out] s (State.oneShotHold b r w s) := by
  unfold State.oneShotHold
  iterate 14 all_goals try first
    | with_reducible exact Moves.refl _ _
    | dsimp only
    | assumption
    | with_reducible refine (State.holdResult_moves ..).to (by decide) ?_
    | with_reducible refine (State.countTx_moves ..).to (by decide) ?_
    | with_reducible refine Moves.foldl (fun _ _ => ?_) _ _ _ ?_
    | split
    | refine Moves.at ?_ (fun q hq => by cases q <;> first | exact absurd (by decide) hq | simp only [Part.same]) (by first | (simp only [flashOk, imp_self]; done) | (simp; done)) (by first | (simp only [logOk, imp_self]; done) | (simp; done)) (by first | (simp only [ringOk, imp_self]; done) | (simp; done)) (by first | exact List.prefix_rfl | exact List.prefix_append _ _ | exact (List.prefix_append _ _).trans (List.prefix_append _ _))

theorem State.retryResult_moves (b : Fin 4) (slot : Nat) (r : TxResult) (w : TxFlaw) (s : State) :
    Moves [.thk, .mb, .hst, .out] s (State.retryResult b slot r w s) := by
  unfold State.retryResult
  iterate 14 all_goals try first
    | with_reducible exact Moves.refl _ _
    | dsimp only
    | assumption
    | with_reducible refine (State.busMod_moves ..).to (by decide) ?_
    | with_reducible refine (State.canSend_moves ..).to (by decide) ?_
    | with_reducible refine (State.countTx_moves ..).to (by decide) ?_
    | with_reducible refine Moves.foldl (fun _ _ => ?_) _ _ _ ?_
    | split
    | refine Moves.at ?_ (fun q hq => by cases q <;> first | exact absurd (by decide) hq | simp only [Part.same]) (by first | (simp only [flashOk, imp_self]; done) | (simp; done)) (by first | (simp only [logOk, imp_self]; done) | (simp; done)) (by first | (simp only [ringOk, imp_self]; done) | (simp; done)) (by first | exact List.prefix_rfl | exact List.prefix_append _ _ | exact (List.prefix_append _ _).trans (List.prefix_append _ _))

theorem State.withdrawGroup_moves (b : Fin 4) (j : Nat) (s : State) :
    Moves [.thk, .cnp, .mb, .hst, .out] s (State.withdrawGroup b j s) := by
  unfold State.withdrawGroup
  iterate 14 all_goals try first
    | with_reducible exact Moves.refl _ _
    | dsimp only
    | assumption
    | with_reducible refine (State.groupResult_moves ..).to (by decide) ?_
    | with_reducible refine (State.offers_moves ..).to (by decide) ?_
    | with_reducible refine Moves.foldl (fun _ _ => ?_) _ _ _ ?_
    | split
    | refine Moves.at ?_ (fun q hq => by cases q <;> first | exact absurd (by decide) hq | simp only [Part.same]) (by first | (simp only [flashOk, imp_self]; done) | (simp; done)) (by first | (simp only [logOk, imp_self]; done) | (simp; done)) (by first | (simp only [ringOk, imp_self]; done) | (simp; done)) (by first | exact List.prefix_rfl | exact List.prefix_append _ _ | exact (List.prefix_append _ _).trans (List.prefix_append _ _))

theorem State.queueGroup_moves (b : Fin 4) (j : Nat) (data : List Byte) (seq : Nat) (s : State) :
    Moves [.thk, .cnp, .mb, .hst, .out] s (State.queueGroup b j data seq s) := by
  unfold State.queueGroup
  iterate 14 all_goals try first
    | with_reducible exact Moves.refl _ _
    | dsimp only
    | assumption
    | with_reducible refine (State.withdrawGroup_moves ..).to (by decide) ?_
    | with_reducible refine (State.groupResult_moves ..).to (by decide) ?_
    | with_reducible refine (State.busMod_moves ..).to (by decide) ?_
    | with_reducible refine (State.offers_moves ..).to (by decide) ?_
    | with_reducible refine Moves.foldl (fun _ _ => ?_) _ _ _ ?_
    | split
    | refine Moves.at ?_ (fun q hq => by cases q <;> first | exact absurd (by decide) hq | simp only [Part.same]) (by first | (simp only [flashOk, imp_self]; done) | (simp; done)) (by first | (simp only [logOk, imp_self]; done) | (simp; done)) (by first | (simp only [ringOk, imp_self]; done) | (simp; done)) (by first | exact List.prefix_rfl | exact List.prefix_append _ _ | exact (List.prefix_append _ _).trans (List.prefix_append _ _))

theorem State.queueHold_moves (b : Fin 4) (data : List Byte) (seq : Nat) (s : State) :
    Moves [.thk, .mb, .hst, .out] s (State.queueHold b data seq s) := by
  unfold State.queueHold
  iterate 14 all_goals try first
    | with_reducible exact Moves.refl _ _
    | dsimp only
    | assumption
    | with_reducible refine (State.busMod_moves ..).to (by decide) ?_
    | with_reducible refine (State.holdResult_moves ..).to (by decide) ?_
    | with_reducible refine (State.offers_moves ..).to (by decide) ?_
    | with_reducible refine Moves.foldl (fun _ _ => ?_) _ _ _ ?_
    | split
    | refine Moves.at ?_ (fun q hq => by cases q <;> first | exact absurd (by decide) hq | simp only [Part.same]) (by first | (simp only [flashOk, imp_self]; done) | (simp; done)) (by first | (simp only [logOk, imp_self]; done) | (simp; done)) (by first | (simp only [ringOk, imp_self]; done) | (simp; done)) (by first | exact List.prefix_rfl | exact List.prefix_append _ _ | exact (List.prefix_append _ _).trans (List.prefix_append _ _))

theorem State.queueLimit_moves (b : Fin 4) (data : List Byte) (seq : Nat) (s : State) :
    Moves [.mb] s (State.queueLimit b data seq s) := by
  unfold State.queueLimit
  iterate 14 all_goals try first
    | with_reducible exact Moves.refl _ _
    | dsimp only
    | assumption
    | with_reducible refine (State.busMod_moves ..).to (by decide) ?_
    | with_reducible refine (State.offers_moves ..).to (by decide) ?_
    | with_reducible refine Moves.foldl (fun _ _ => ?_) _ _ _ ?_
    | split
    | refine Moves.at ?_ (fun q hq => by cases q <;> first | exact absurd (by decide) hq | simp only [Part.same]) (by first | (simp only [flashOk, imp_self]; done) | (simp; done)) (by first | (simp only [logOk, imp_self]; done) | (simp; done)) (by first | (simp only [ringOk, imp_self]; done) | (simp; done)) (by first | exact List.prefix_rfl | exact List.prefix_append _ _ | exact (List.prefix_append _ _).trans (List.prefix_append _ _))

theorem State.queueMgmt_moves (b : Fin 4) (data : List Byte) (s : State) :
    Moves [.mb] s (State.queueMgmt b data s) := by
  unfold State.queueMgmt
  iterate 14 all_goals try first
    | with_reducible exact Moves.refl _ _
    | dsimp only
    | assumption
    | with_reducible refine (State.busMod_moves ..).to (by decide) ?_
    | with_reducible refine (State.offers_moves ..).to (by decide) ?_
    | with_reducible refine Moves.foldl (fun _ _ => ?_) _ _ _ ?_
    | split
    | refine Moves.at ?_ (fun q hq => by cases q <;> first | exact absurd (by decide) hq | simp only [Part.same]) (by first | (simp only [flashOk, imp_self]; done) | (simp; done)) (by first | (simp only [logOk, imp_self]; done) | (simp; done)) (by first | (simp only [ringOk, imp_self]; done) | (simp; done)) (by first | exact List.prefix_rfl | exact List.prefix_append _ _ | exact (List.prefix_append _ _).trans (List.prefix_append _ _))

theorem State.withdrawAll_moves (s : State) :
    Moves [.thk, .cnp, .mb, .hst, .out] s (State.withdrawAll s) := by
  unfold State.withdrawAll
  iterate 14 all_goals try first
    | with_reducible exact Moves.refl _ _
    | dsimp only
    | assumption
    | with_reducible refine (State.withdrawGroup_moves ..).to (by decide) ?_
    | with_reducible refine (State.holdResult_moves ..).to (by decide) ?_
    | with_reducible refine (State.busMod_moves ..).to (by decide) ?_
    | with_reducible refine (State.offers_moves ..).to (by decide) ?_
    | with_reducible refine Moves.foldl (fun _ _ => ?_) _ _ _ ?_
    | split
    | refine Moves.at ?_ (fun q hq => by cases q <;> first | exact absurd (by decide) hq | simp only [Part.same]) (by first | (simp only [flashOk, imp_self]; done) | (simp; done)) (by first | (simp only [logOk, imp_self]; done) | (simp; done)) (by first | (simp only [ringOk, imp_self]; done) | (simp; done)) (by first | exact List.prefix_rfl | exact List.prefix_append _ _ | exact (List.prefix_append _ _).trans (List.prefix_append _ _))

theorem State.withdrawWaiting_moves (s : State) :
    Moves [.thk, .cnp, .mb, .hst, .out] s (State.withdrawWaiting s) := by
  unfold State.withdrawWaiting
  iterate 14 all_goals try first
    | with_reducible exact Moves.refl _ _
    | dsimp only
    | assumption
    | with_reducible refine (State.withdrawGroup_moves ..).to (by decide) ?_
    | with_reducible refine Moves.foldl (fun _ _ => ?_) _ _ _ ?_
    | split
    | refine Moves.at ?_ (fun q hq => by cases q <;> first | exact absurd (by decide) hq | simp only [Part.same]) (by first | (simp only [flashOk, imp_self]; done) | (simp; done)) (by first | (simp only [logOk, imp_self]; done) | (simp; done)) (by first | (simp only [ringOk, imp_self]; done) | (simp; done)) (by first | exact List.prefix_rfl | exact List.prefix_append _ _ | exact (List.prefix_append _ _).trans (List.prefix_append _ _))

theorem State.sendGroups_moves (es : List GrpEntry) (s : State) :
    Moves [.thk, .cnp, .mb, .hst, .out] s (State.sendGroups es s) := by
  unfold State.sendGroups
  iterate 14 all_goals try first
    | with_reducible exact Moves.refl _ _
    | dsimp only
    | assumption
    | with_reducible refine (State.queueGroup_moves ..).to (by decide) ?_
    | with_reducible refine Moves.foldl (fun _ _ => ?_) _ _ _ ?_
    | split
    | refine Moves.at ?_ (fun q hq => by cases q <;> first | exact absurd (by decide) hq | simp only [Part.same]) (by first | (simp only [flashOk, imp_self]; done) | (simp; done)) (by first | (simp only [logOk, imp_self]; done) | (simp; done)) (by first | (simp only [ringOk, imp_self]; done) | (simp; done)) (by first | exact List.prefix_rfl | exact List.prefix_append _ _ | exact (List.prefix_append _ _).trans (List.prefix_append _ _))

theorem State.highPriority_moves (b : Fin 4) (x : RxFrame) (s : State) :
    Moves [.thk, .mb, .hst, .out] s (State.highPriority b x s) := by
  unfold State.highPriority
  iterate 14 all_goals try first
    | with_reducible exact Moves.refl _ _
    | dsimp only
    | assumption
    | with_reducible refine (State.busMod_moves ..).to (by decide) ?_
    | with_reducible refine (State.raiseAt_moves ..).to (by decide) ?_
    | with_reducible refine Moves.foldl (fun _ _ => ?_) _ _ _ ?_
    | split
    | refine Moves.at ?_ (fun q hq => by cases q <;> first | exact absurd (by decide) hq | simp only [Part.same]) (by first | (simp only [flashOk, imp_self]; done) | (simp; done)) (by first | (simp only [logOk, imp_self]; done) | (simp; done)) (by first | (simp only [ringOk, imp_self]; done) | (simp; done)) (by first | exact List.prefix_rfl | exact List.prefix_append _ _ | exact (List.prefix_append _ _).trans (List.prefix_append _ _))

theorem State.takeRx_pair {b : Fin 4} {ok : Nat → Bool} {s t : State} {x : RxFrame} (h : State.takeRx b ok s = some (x, t)) :
    Moves [.mb] s t := by
  unfold State.takeRx at h
  dsimp only at h
  split at h
  · cases h
  · simp only [Option.some.injEq, Prod.mk.injEq] at h
    obtain ⟨-, rfl⟩ := h
    exact State.busMod_moves ..

theorem State.linkMod_moves (b : Fin 4) (a : Nat) (f : PmLink → PmLink) (s : State) :
    Moves [.mb] s (State.linkMod b a f s) := by
  unfold State.linkMod
  iterate 14 all_goals try first
    | with_reducible exact Moves.refl _ _
    | dsimp only
    | assumption
    | with_reducible refine (State.busMod_moves ..).to (by decide) ?_
    | with_reducible refine Moves.foldl (fun _ _ => ?_) _ _ _ ?_
    | split
    | refine Moves.at ?_ (fun q hq => by cases q <;> first | exact absurd (by decide) hq | simp only [Part.same]) (by first | (simp only [flashOk, imp_self]; done) | (simp; done)) (by first | (simp only [logOk, imp_self]; done) | (simp; done)) (by first | (simp only [ringOk, imp_self]; done) | (simp; done)) (by first | exact List.prefix_rfl | exact List.prefix_append _ _ | exact (List.prefix_append _ _).trans (List.prefix_append _ _))

theorem State.loseModule_moves (b : Fin 4) (a : Nat) (s : State) :
    Moves [.mb] s (State.loseModule b a s) := by
  unfold State.loseModule
  iterate 14 all_goals try first
    | with_reducible exact Moves.refl _ _
    | dsimp only
    | assumption
    | with_reducible refine (State.linkMod_moves ..).to (by decide) ?_
    | with_reducible refine Moves.foldl (fun _ _ => ?_) _ _ _ ?_
    | split
    | refine Moves.at ?_ (fun q hq => by cases q <;> first | exact absurd (by decide) hq | simp only [Part.same]) (by first | (simp only [flashOk, imp_self]; done) | (simp; done)) (by first | (simp only [logOk, imp_self]; done) | (simp; done)) (by first | (simp only [ringOk, imp_self]; done) | (simp; done)) (by first | exact List.prefix_rfl | exact List.prefix_append _ _ | exact (List.prefix_append _ _).trans (List.prefix_append _ _))

theorem State.readStatus_moves (pm : Nat) (t : ModStatus) (s : State) :
    Moves [.thk, .cnp, .hst, .out] s (State.readStatus pm t s) := by
  unfold State.readStatus
  iterate 14 all_goals try first
    | with_reducible exact Moves.refl _ _
    | dsimp only
    | assumption
    | with_reducible refine (State.raiseAt_moves ..).to (by decide) ?_
    | with_reducible refine Moves.foldl (fun _ _ => ?_) _ _ _ ?_
    | split
    | refine Moves.at ?_ (fun q hq => by cases q <;> first | exact absurd (by decide) hq | simp only [Part.same]) (by first | (simp only [flashOk, imp_self]; done) | (simp; done)) (by first | (simp only [logOk, imp_self]; done) | (simp; done)) (by first | (simp only [ringOk, imp_self]; done) | (simp; done)) (by first | exact List.prefix_rfl | exact List.prefix_append _ _ | exact (List.prefix_append _ _).trans (List.prefix_append _ _))

theorem State.takeStatus_moves (b : Fin 4) (x : RxFrame) (s : State) :
    Moves [.thk, .cnp, .mb, .hst, .out] s (State.takeStatus b x s) := by
  unfold State.takeStatus
  iterate 14 all_goals try first
    | with_reducible exact Moves.refl _ _
    | dsimp only
    | assumption
    | with_reducible refine (State.busMod_moves ..).to (by decide) ?_
    | with_reducible refine (State.linkMod_moves ..).to (by decide) ?_
    | with_reducible refine (State.readStatus_moves ..).to (by decide) ?_
    | with_reducible refine (State.loseModule_moves ..).to (by decide) ?_
    | with_reducible refine Moves.foldl (fun _ _ => ?_) _ _ _ ?_
    | split
    | refine Moves.at ?_ (fun q hq => by cases q <;> first | exact absurd (by decide) hq | simp only [Part.same]) (by first | (simp only [flashOk, imp_self]; done) | (simp; done)) (by first | (simp only [logOk, imp_self]; done) | (simp; done)) (by first | (simp only [ringOk, imp_self]; done) | (simp; done)) (by first | exact List.prefix_rfl | exact List.prefix_append _ _ | exact (List.prefix_append _ _).trans (List.prefix_append _ _))

theorem State.admitModule_moves (b : Fin 4) (a : Nat) (serial : Nat) (s : State) :
    Moves [.mb] s (State.admitModule b a serial s) := by
  unfold State.admitModule
  iterate 14 all_goals try first
    | with_reducible exact Moves.refl _ _
    | dsimp only
    | assumption
    | with_reducible refine (State.linkMod_moves ..).to (by decide) ?_
    | with_reducible refine Moves.foldl (fun _ _ => ?_) _ _ _ ?_
    | split
    | refine Moves.at ?_ (fun q hq => by cases q <;> first | exact absurd (by decide) hq | simp only [Part.same]) (by first | (simp only [flashOk, imp_self]; done) | (simp; done)) (by first | (simp only [logOk, imp_self]; done) | (simp; done)) (by first | (simp only [ringOk, imp_self]; done) | (simp; done)) (by first | exact List.prefix_rfl | exact List.prefix_append _ _ | exact (List.prefix_append _ _).trans (List.prefix_append _ _))

end Sys2Proof.Machine
end

