-- ==== Sys2Proof/Laws/MovesApplyOps.lean ====
section
/-! SUPPORT. What each operation of Machine/ApplyOps.lean can change: at most the listed parts, and a safe state stays safe. -/

namespace Sys2Proof.Machine

theorem State.canopyStart_moves (s : State) :
    Moves [.cnp, .mb, .brm] s (State.canopyStart s) := by
  unfold State.canopyStart
  iterate 14 all_goals try first
    | with_reducible exact Moves.refl _ _
    | dsimp only
    | assumption
    | with_reducible refine Moves.foldl (fun _ _ => ?_) _ _ _ ?_
    | split
    | refine Moves.at ?_ (fun q hq => by cases q <;> first | exact absurd (by decide) hq | simp only [Part.same]) (by first | (simp only [flashOk, imp_self]; done) | (simp; done)) (by first | (simp only [logOk, imp_self]; done) | (simp; done)) (by first | (simp only [ringOk, imp_self]; done) | (simp; done)) (by first | exact List.prefix_rfl | exact List.prefix_append _ _ | exact (List.prefix_append _ _).trans (List.prefix_append _ _))

theorem State.busStart_moves (s : State) :
    Moves [.mb] s (State.busStart s) := by
  unfold State.busStart
  iterate 14 all_goals try first
    | with_reducible exact Moves.refl _ _
    | dsimp only
    | assumption
    | with_reducible refine (State.busMod_moves ..).to (by decide) ?_
    | with_reducible refine Moves.foldl (fun _ _ => ?_) _ _ _ ?_
    | split
    | refine Moves.at ?_ (fun q hq => by cases q <;> first | exact absurd (by decide) hq | simp only [Part.same]) (by first | (simp only [flashOk, imp_self]; done) | (simp; done)) (by first | (simp only [logOk, imp_self]; done) | (simp; done)) (by first | (simp only [ringOk, imp_self]; done) | (simp; done)) (by first | exact List.prefix_rfl | exact List.prefix_append _ _ | exact (List.prefix_append _ _).trans (List.prefix_append _ _))

theorem State.lacStart_moves (n : Nat) (s : State) :
    Moves [.thk, .lac, .hst, .out] s (State.lacStart n s) := by
  unfold State.lacStart
  iterate 14 all_goals try first
    | with_reducible exact Moves.refl _ _
    | dsimp only
    | assumption
    | with_reducible refine (State.lacDo_moves ..).to (by decide) ?_
    | with_reducible refine Moves.foldl (fun _ _ => ?_) _ _ _ ?_
    | split
    | refine Moves.at ?_ (fun q hq => by cases q <;> first | exact absurd (by decide) hq | simp only [Part.same]) (by first | (simp only [flashOk, imp_self]; done) | (simp; done)) (by first | (simp only [logOk, imp_self]; done) | (simp; done)) (by first | (simp only [ringOk, imp_self]; done) | (simp; done)) (by first | exact List.prefix_rfl | exact List.prefix_append _ _ | exact (List.prefix_append _ _).trans (List.prefix_append _ _))

theorem State.ocppStart_moves (s : State) :
    Moves [.hst] s (State.ocppStart s) := by
  unfold State.ocppStart
  iterate 14 all_goals try first
    | with_reducible exact Moves.refl _ _
    | dsimp only
    | assumption
    | with_reducible refine Moves.foldl (fun _ _ => ?_) _ _ _ ?_
    | split
    | refine Moves.at ?_ (fun q hq => by cases q <;> first | exact absurd (by decide) hq | simp only [Part.same]) (by first | (simp only [flashOk, imp_self]; done) | (simp; done)) (by first | (simp only [logOk, imp_self]; done) | (simp; done)) (by first | (simp only [ringOk, imp_self]; done) | (simp; done)) (by first | exact List.prefix_rfl | exact List.prefix_append _ _ | exact (List.prefix_append _ _).trans (List.prefix_append _ _))

theorem State.checkPathStart_moves (r : VpPort) (s : State) :
    Moves [.cuf] s (State.checkPathStart r s) := by
  unfold State.checkPathStart
  iterate 14 all_goals try first
    | with_reducible exact Moves.refl _ _
    | dsimp only
    | assumption
    | with_reducible refine (State.cufApply_moves ..).to (by decide) ?_
    | with_reducible refine Moves.foldl (fun _ _ => ?_) _ _ _ ?_
    | split
    | refine Moves.at ?_ (fun q hq => by cases q <;> first | exact absurd (by decide) hq | simp only [Part.same]) (by first | (simp only [flashOk, imp_self]; done) | (simp; done)) (by first | (simp only [logOk, imp_self]; done) | (simp; done)) (by first | (simp only [ringOk, imp_self]; done) | (simp; done)) (by first | exact List.prefix_rfl | exact List.prefix_append _ _ | exact (List.prefix_append _ _).trans (List.prefix_append _ _))

theorem State.portStart_moves (n : Nat) (s : State) :
    Moves [.ports] s (State.portStart n s) := by
  unfold State.portStart
  iterate 14 all_goals try first
    | with_reducible exact Moves.refl _ _
    | dsimp only
    | assumption
    | with_reducible refine Moves.foldl (fun _ _ => ?_) _ _ _ ?_
    | split
    | refine Moves.at ?_ (fun q hq => by cases q <;> first | exact absurd (by decide) hq | simp only [Part.same]) (by first | (simp only [flashOk, imp_self]; done) | (simp; done)) (by first | (simp only [logOk, imp_self]; done) | (simp; done)) (by first | (simp only [ringOk, imp_self]; done) | (simp; done)) (by first | exact List.prefix_rfl | exact List.prefix_append _ _ | exact (List.prefix_append _ _).trans (List.prefix_append _ _))

theorem State.portsRest_moves (s : State) :
    Moves [.ports] s (State.portsRest s) := by
  unfold State.portsRest
  iterate 14 all_goals try first
    | with_reducible exact Moves.refl _ _
    | dsimp only
    | assumption
    | with_reducible refine Moves.foldl (fun _ _ => ?_) _ _ _ ?_
    | split
    | refine Moves.at ?_ (fun q hq => by cases q <;> first | exact absurd (by decide) hq | simp only [Part.same]) (by first | (simp only [flashOk, imp_self]; done) | (simp; done)) (by first | (simp only [logOk, imp_self]; done) | (simp; done)) (by first | (simp only [ringOk, imp_self]; done) | (simp; done)) (by first | exact List.prefix_rfl | exact List.prefix_append _ _ | exact (List.prefix_append _ _).trans (List.prefix_append _ _))

theorem State.netStart_moves (r : HstNet) (s : State) :
    Moves [.fresh, .hst] s (State.netStart r s) := by
  unfold State.netStart
  iterate 14 all_goals try first
    | with_reducible exact Moves.refl _ _
    | dsimp only
    | assumption
    | with_reducible refine (State.free_moves ..).to (by decide) ?_
    | with_reducible refine Moves.foldl (fun _ _ => ?_) _ _ _ ?_
    | split
    | refine Moves.at ?_ (fun q hq => by cases q <;> first | exact absurd (by decide) hq | simp only [Part.same]) (by first | (simp only [flashOk, imp_self]; done) | (simp; done)) (by first | (simp only [logOk, imp_self]; done) | (simp; done)) (by first | (simp only [ringOk, imp_self]; done) | (simp; done)) (by first | exact List.prefix_rfl | exact List.prefix_append _ _ | exact (List.prefix_append _ _).trans (List.prefix_append _ _))

theorem State.seamStart_moves (r : SeamPair) (s : State) :
    Moves [.seam] s (State.seamStart r s) := by
  unfold State.seamStart
  iterate 14 all_goals try first
    | with_reducible exact Moves.refl _ _
    | dsimp only
    | assumption
    | with_reducible refine Moves.foldl (fun _ _ => ?_) _ _ _ ?_
    | split
    | refine Moves.at ?_ (fun q hq => by cases q <;> first | exact absurd (by decide) hq | simp only [Part.same]) (by first | (simp only [flashOk, imp_self]; done) | (simp; done)) (by first | (simp only [logOk, imp_self]; done) | (simp; done)) (by first | (simp only [ringOk, imp_self]; done) | (simp; done)) (by first | exact List.prefix_rfl | exact List.prefix_append _ _ | exact (List.prefix_append _ _).trans (List.prefix_append _ _))

theorem State.applyRec_moves (s : State) (x0 : ImgRec) :
    Moves [.fresh, .thk, .ports, .twins, .cpc, .seam, .lac, .brm, .cuf, .hem, .hst, .out] s (State.applyRec s x0) := by
  cases x0 <;> simp only [State.applyRec]
  iterate 14 all_goals try first
    | with_reducible exact Moves.refl _ _
    | dsimp only
    | assumption
    | with_reducible refine (State.portStart_moves ..).to (by decide) ?_
    | with_reducible refine (State.checkPathStart_moves ..).to (by decide) ?_
    | with_reducible refine (State.seamStart_moves ..).to (by decide) ?_
    | with_reducible refine (State.lacStart_moves ..).to (by decide) ?_
    | with_reducible refine (State.cufApply_moves ..).to (by decide) ?_
    | with_reducible refine (State.hemDo_moves ..).to (by decide) ?_
    | with_reducible refine (State.netStart_moves ..).to (by decide) ?_
    | with_reducible refine (State.ocppStart_moves ..).to (by decide) ?_
    | with_reducible refine Moves.foldl (fun _ _ => ?_) _ _ _ ?_
    | split
    | refine Moves.at ?_ (fun q hq => by cases q <;> first | exact absurd (by decide) hq | simp only [Part.same]) (by first | (simp only [flashOk, imp_self]; done) | (simp; done)) (by first | (simp only [logOk, imp_self]; done) | (simp; done)) (by first | (simp only [ringOk, imp_self]; done) | (simp; done)) (by first | exact List.prefix_rfl | exact List.prefix_append _ _ | exact (List.prefix_append _ _).trans (List.prefix_append _ _))

theorem State.applyRecs_moves (rs : List (Nat × ImgRec)) (s : State) :
    Moves [.fresh, .cfg, .thk, .ports, .twins, .cpc, .seam, .lac, .brm, .cuf, .hem, .hst, .out] s (State.applyRecs rs s) := by
  unfold State.applyRecs
  iterate 14 all_goals try first
    | with_reducible exact Moves.refl _ _
    | dsimp only
    | assumption
    | with_reducible refine (State.applyRec_moves ..).to (by decide) ?_
    | with_reducible refine Moves.foldl (fun _ _ => ?_) _ _ _ ?_
    | split
    | refine Moves.at ?_ (fun q hq => by cases q <;> first | exact absurd (by decide) hq | simp only [Part.same]) (by first | (simp only [flashOk, imp_self]; done) | (simp; done)) (by first | (simp only [logOk, imp_self]; done) | (simp; done)) (by first | (simp only [ringOk, imp_self]; done) | (simp; done)) (by first | exact List.prefix_rfl | exact List.prefix_append _ _ | exact (List.prefix_append _ _).trans (List.prefix_append _ _))

theorem State.applyLeaf_moves (rs : List (Nat × ImgRec)) (s : State) :
    Moves [.fresh, .cfg, .thk, .cnp, .mb, .ports, .v2g, .twins, .cpc, .gtr, .slvLink, .slvCtr, .seam, .lac, .brm, .cuf, .hem, .clk, .hst, .sessNext, .sessTop, .out] s (State.applyLeaf rs s) := by
  unfold State.applyLeaf
  iterate 14 all_goals try first
    | with_reducible exact Moves.refl _ _
    | dsimp only
    | assumption
    | with_reducible refine (State.applyRecs_moves ..).to (by decide) ?_
    | with_reducible refine (State.portsRest_moves ..).to (by decide) ?_
    | with_reducible refine (State.gtrDo_moves ..).to (by decide) ?_
    | with_reducible refine (State.busStart_moves ..).to (by decide) ?_
    | with_reducible refine (State.canopyStart_moves ..).to (by decide) ?_
    | with_reducible refine Moves.foldl (fun _ _ => ?_) _ _ _ ?_
    | split
    | refine Moves.at ?_ (fun q hq => by cases q <;> first | exact absurd (by decide) hq | simp only [Part.same]) (by first | (simp only [flashOk, imp_self]; done) | (simp; done)) (by first | (simp only [logOk, imp_self]; done) | (simp; done)) (by first | (simp only [ringOk, imp_self]; done) | (simp; done)) (by first | exact List.prefix_rfl | exact List.prefix_append _ _ | exact (List.prefix_append _ _).trans (List.prefix_append _ _))

theorem State.cufUnnamedOff_moves (s : State) :
    Moves [.cuf] s (State.cufUnnamedOff s) := by
  unfold State.cufUnnamedOff
  iterate 14 all_goals try first
    | with_reducible exact Moves.refl _ _
    | dsimp only
    | assumption
    | with_reducible refine Moves.foldl (fun _ _ => ?_) _ _ _ ?_
    | split
    | refine Moves.at ?_ (fun q hq => by cases q <;> first | exact absurd (by decide) hq | simp only [Part.same]) (by first | (simp only [flashOk, imp_self]; done) | (simp; done)) (by first | (simp only [logOk, imp_self]; done) | (simp; done)) (by first | (simp only [ringOk, imp_self]; done) | (simp; done)) (by first | exact List.prefix_rfl | exact List.prefix_append _ _ | exact (List.prefix_append _ _).trans (List.prefix_append _ _))

theorem State.cufFreq_moves (s : State) :
    Moves [.cuf] s (State.cufFreq s) := by
  unfold State.cufFreq
  iterate 14 all_goals try first
    | with_reducible exact Moves.refl _ _
    | dsimp only
    | assumption
    | with_reducible refine Moves.foldl (fun _ _ => ?_) _ _ _ ?_
    | split
    | refine Moves.at ?_ (fun q hq => by cases q <;> first | exact absurd (by decide) hq | simp only [Part.same]) (by first | (simp only [flashOk, imp_self]; done) | (simp; done)) (by first | (simp only [logOk, imp_self]; done) | (simp; done)) (by first | (simp only [ringOk, imp_self]; done) | (simp; done)) (by first | exact List.prefix_rfl | exact List.prefix_append _ _ | exact (List.prefix_append _ _).trans (List.prefix_append _ _))

theorem State.applyRest_moves (rs : List (Nat × ImgRec)) (s : State) :
    Moves [.fresh, .cfg, .thk, .cnp, .ports, .twins, .cpc, .seam, .lac, .brm, .cuf, .hem, .hst, .out] s (State.applyRest rs s) :=
  Moves.at (t := (s.applyRecs rs).cufUnnamedOff.cufFreq)
    ((State.cufFreq_moves _).to (by decide) ((State.cufUnnamedOff_moves _).to (by decide) ((State.applyRecs_moves ..).weaken (by decide))))
    (fun q hq => by cases q <;> first | exact absurd (by decide) hq | simp only [Part.same]) (fun h => h) (fun h => h) (fun h => h) List.prefix_rfl

theorem State.cufTake_moves (s : State) :
    Moves [.cuf] s (State.cufTake s) := by
  unfold State.cufTake
  iterate 14 all_goals try first
    | with_reducible exact Moves.refl _ _
    | dsimp only
    | assumption
    | with_reducible refine Moves.foldl (fun _ _ => ?_) _ _ _ ?_
    | split
    | refine Moves.at ?_ (fun q hq => by cases q <;> first | exact absurd (by decide) hq | simp only [Part.same]) (by first | (simp only [flashOk, imp_self]; done) | (simp; done)) (by first | (simp only [logOk, imp_self]; done) | (simp; done)) (by first | (simp only [ringOk, imp_self]; done) | (simp; done)) (by first | exact List.prefix_rfl | exact List.prefix_append _ _ | exact (List.prefix_append _ _).trans (List.prefix_append _ _))

theorem State.sideStart_moves (s : State) :
    Moves [.thk, .cpc, .lac, .brm, .cuf, .hst, .out] s (State.sideStart s) := by
  unfold State.sideStart
  iterate 14 all_goals try first
    | with_reducible exact Moves.refl _ _
    | dsimp only
    | assumption
    | with_reducible refine (State.lacStart_moves ..).to (by decide) ?_
    | with_reducible refine (State.cufTake_moves ..).to (by decide) ?_
    | with_reducible refine Moves.foldl (fun _ _ => ?_) _ _ _ ?_
    | split
    | refine Moves.at ?_ (fun q hq => by cases q <;> first | exact absurd (by decide) hq | simp only [Part.same]) (by first | (simp only [flashOk, imp_self]; done) | (simp; done)) (by first | (simp only [logOk, imp_self]; done) | (simp; done)) (by first | (simp only [ringOk, imp_self]; done) | (simp; done)) (by first | exact List.prefix_rfl | exact List.prefix_append _ _ | exact (List.prefix_append _ _).trans (List.prefix_append _ _))

end Sys2Proof.Machine
end

