-- ==== Sys2Proof/Laws/MovesSeamOps.lean ====
section
/-! SUPPORT. What each operation of Machine/SeamOps.lean can change: at most the listed parts, and a safe state stays safe. -/

namespace Sys2Proof.Machine

theorem State.seamMod_moves (f : Seam → Seam) (s : State) (hf : ringOk s.seam → ringOk (f s.seam)) :
    Moves [.seam] s (State.seamMod f s) :=
  Moves.at (.refl _ _) (fun q hq => by cases q <;> first | exact absurd (by decide) hq | simp only [Part.same]) id id hf List.prefix_rfl

theorem State.seamPut_moves (both : Bool) (f : SeamFrame) (s : State) :
    Moves [.thk, .seam, .clk, .hst, .out] s (State.seamPut both f s) := by
  unfold State.seamPut
  iterate 14 all_goals try first
    | with_reducible exact Moves.refl _ _
    | dsimp only
    | assumption
    | with_reducible refine (State.seamMod_moves _ _ ?_).to (by decide) ?_
    | (simp only [ringOk, Seam.setGen, imp_self]; done)
    | exact fun h : ringOk _ => h
    | with_reducible refine (State.keyMissed_moves ..).to (by decide) ?_
    | with_reducible refine (State.emits_moves ..).to (by decide) ?_
    | with_reducible refine Moves.foldl (fun _ _ => ?_) _ _ _ ?_
    | split
    | refine Moves.at ?_ (fun q hq => by cases q <;> first | exact absurd (by decide) hq | simp only [Part.same]) (by first | (simp only [flashOk, imp_self]; done) | (simp; done)) (by first | (simp only [logOk, imp_self]; done) | (simp; done)) (by first | (simp only [ringOk, imp_self]; done) | (simp; done)) (by first | exact List.prefix_rfl | exact List.prefix_append _ _ | exact (List.prefix_append _ _).trans (List.prefix_append _ _))

theorem State.seamSend_moves (typ : Nat) (pay : List Byte) (s : State) :
    Moves [.thk, .seam, .clk, .hst, .out] s (State.seamSend typ pay s) := by
  unfold State.seamSend
  iterate 14 all_goals try first
    | with_reducible exact Moves.refl _ _
    | dsimp only
    | assumption
    | with_reducible refine (State.seamPut_moves ..).to (by decide) ?_
    | with_reducible refine Moves.foldl (fun _ _ => ?_) _ _ _ ?_
    | split
    | refine Moves.at ?_ (fun q hq => by cases q <;> first | exact absurd (by decide) hq | simp only [Part.same]) (by first | (simp only [flashOk, imp_self]; done) | (simp; done)) (by first | (simp only [logOk, imp_self]; done) | (simp; done)) (by first | (simp only [ringOk, imp_self]; done) | (simp; done)) (by first | exact List.prefix_rfl | exact List.prefix_append _ _ | exact (List.prefix_append _ _).trans (List.prefix_append _ _))

theorem State.judgeFit_moves (s : State) :
    Moves [.thk, .seam, .hst, .out] s (State.judgeFit s) := by
  unfold State.judgeFit
  iterate 14 all_goals try first
    | with_reducible exact Moves.refl _ _
    | dsimp only
    | assumption
    | with_reducible refine (State.seamMod_moves _ _ ?_).to (by decide) ?_
    | (simp only [ringOk, Seam.setGen, imp_self]; done)
    | exact fun h : ringOk _ => h
    | with_reducible refine (State.raise_moves ..).to (by decide) ?_
    | with_reducible refine Moves.foldl (fun _ _ => ?_) _ _ _ ?_
    | split
    | refine Moves.at ?_ (fun q hq => by cases q <;> first | exact absurd (by decide) hq | simp only [Part.same]) (by first | (simp only [flashOk, imp_self]; done) | (simp; done)) (by first | (simp only [logOk, imp_self]; done) | (simp; done)) (by first | (simp only [ringOk, imp_self]; done) | (simp; done)) (by first | exact List.prefix_rfl | exact List.prefix_append _ _ | exact (List.prefix_append _ _).trans (List.prefix_append _ _))

theorem State.sendEntry_moves (e : JFull) (s : State) :
    Moves [.thk, .seam, .clk, .hst, .out] s (State.sendEntry e s) := by
  unfold State.sendEntry
  iterate 14 all_goals try first
    | with_reducible exact Moves.refl _ _
    | dsimp only
    | assumption
    | with_reducible refine (State.seamPut_moves ..).to (by decide) ?_
    | with_reducible refine (State.seamMod_moves _ _ ?_).to (by decide) ?_
    | (simp only [ringOk, Seam.setGen, imp_self]; done)
    | exact fun h : ringOk _ => h
    | with_reducible refine Moves.foldl (fun _ _ => ?_) _ _ _ ?_
    | split
    | refine Moves.at ?_ (fun q hq => by cases q <;> first | exact absurd (by decide) hq | simp only [Part.same]) (by first | (simp only [flashOk, imp_self]; done) | (simp; done)) (by first | (simp only [logOk, imp_self]; done) | (simp; done)) (by first | (simp only [ringOk, imp_self]; done) | (simp; done)) (by first | exact List.prefix_rfl | exact List.prefix_append _ _ | exact (List.prefix_append _ _).trans (List.prefix_append _ _))

theorem State.journalTick_moves (s : State) :
    Moves [.thk, .twins, .seam, .clk, .hst, .out] s (State.journalTick s) := by
  unfold State.journalTick
  iterate 14 all_goals try first
    | with_reducible exact Moves.refl _ _
    | dsimp only
    | assumption
    | with_reducible refine (State.sendEntry_moves ..).to (by decide) ?_
    | with_reducible refine (State.seamMod_moves _ _ ?_).to (by decide) ?_
    | (simp only [ringOk, Seam.setGen, imp_self]; done)
    | exact fun h : ringOk _ => h
    | with_reducible refine Moves.foldl (fun _ _ => ?_) _ _ _ ?_
    | split
    | refine Moves.at ?_ (fun q hq => by cases q <;> first | exact absurd (by decide) hq | simp only [Part.same]) (by first | (simp only [flashOk, imp_self]; done) | (simp; done)) (by first | (simp only [logOk, imp_self]; done) | (simp; done)) (by first | (simp only [ringOk, imp_self]; done) | (simp; done)) (by first | exact List.prefix_rfl | exact List.prefix_append _ _ | exact (List.prefix_append _ _).trans (List.prefix_append _ _))

theorem State.fullResync_moves (s : State) :
    Moves [.thk, .seam, .clk, .hst, .out] s (State.fullResync s) := by
  unfold State.fullResync
  iterate 14 all_goals try first
    | with_reducible exact Moves.refl _ _
    | dsimp only
    | assumption
    | with_reducible refine (State.seamPut_moves ..).to (by decide) ?_
    | with_reducible refine (State.seamMod_moves _ _ ?_).to (by decide) ?_
    | (simp only [ringOk, Seam.setGen, imp_self]; done)
    | exact fun h : ringOk _ => h
    | with_reducible refine (State.judgeFit_moves ..).to (by decide) ?_
    | with_reducible refine Moves.foldl (fun _ _ => ?_) _ _ _ ?_
    | split
    | refine Moves.at ?_ (fun q hq => by cases q <;> first | exact absurd (by decide) hq | simp only [Part.same]) (by first | (simp only [flashOk, imp_self]; done) | (simp; done)) (by first | (simp only [logOk, imp_self]; done) | (simp; done)) (by first | (simp only [ringOk, imp_self]; done) | (simp; done)) (by first | exact List.prefix_rfl | exact List.prefix_append _ _ | exact (List.prefix_append _ _).trans (List.prefix_append _ _))

theorem State.resyncRequest_moves (last : Nat) (s : State) :
    Moves [.thk, .seam, .clk, .hst, .out] s (State.resyncRequest last s) := by
  unfold State.resyncRequest
  iterate 14 all_goals try first
    | with_reducible exact Moves.refl _ _
    | dsimp only
    | assumption
    | with_reducible refine (State.seamMod_moves _ _ ?_).to (by decide) ?_
    | (simp only [ringOk, Seam.setGen, imp_self]; done)
    | exact fun h : ringOk _ => h
    | with_reducible refine (State.sendEntry_moves ..).to (by decide) ?_
    | with_reducible refine (State.fullResync_moves ..).to (by decide) ?_
    | with_reducible refine Moves.foldl (fun _ _ => ?_) _ _ _ ?_
    | split
    | refine Moves.at ?_ (fun q hq => by cases q <;> first | exact absurd (by decide) hq | simp only [Part.same]) (by first | (simp only [flashOk, imp_self]; done) | (simp; done)) (by first | (simp only [logOk, imp_self]; done) | (simp; done)) (by first | (simp only [ringOk, imp_self]; done) | (simp; done)) (by first | exact List.prefix_rfl | exact List.prefix_append _ _ | exact (List.prefix_append _ _).trans (List.prefix_append _ _))

theorem State.seamAuthFail_moves (s : State) :
    Moves [.thk, .seam, .hst, .out] s (State.seamAuthFail s) := by
  unfold State.seamAuthFail
  iterate 14 all_goals try first
    | with_reducible exact Moves.refl _ _
    | dsimp only
    | assumption
    | with_reducible refine (State.seamMod_moves _ _ ?_).to (by decide) ?_
    | (simp only [ringOk, Seam.setGen, imp_self]; done)
    | exact fun h : ringOk _ => h
    | with_reducible refine (State.judgeFit_moves ..).to (by decide) ?_
    | with_reducible refine Moves.foldl (fun _ _ => ?_) _ _ _ ?_
    | split
    | refine Moves.at ?_ (fun q hq => by cases q <;> first | exact absurd (by decide) hq | simp only [Part.same]) (by first | (simp only [flashOk, imp_self]; done) | (simp; done)) (by first | (simp only [logOk, imp_self]; done) | (simp; done)) (by first | (simp only [ringOk, imp_self]; done) | (simp; done)) (by first | exact List.prefix_rfl | exact List.prefix_append _ _ | exact (List.prefix_append _ _).trans (List.prefix_append _ _))

theorem State.seamAccept_moves (f : SeamFrame) (s : State) :
    Moves [.seam] s (State.seamAccept f s) := by
  unfold State.seamAccept
  iterate 14 all_goals try first
    | with_reducible exact Moves.refl _ _
    | dsimp only
    | assumption
    | with_reducible refine (State.seamMod_moves _ _ ?_).to (by decide) ?_
    | (simp only [ringOk, Seam.setGen, imp_self]; done)
    | exact fun h : ringOk _ => h
    | with_reducible refine Moves.foldl (fun _ _ => ?_) _ _ _ ?_
    | split
    | refine Moves.at ?_ (fun q hq => by cases q <;> first | exact absurd (by decide) hq | simp only [Part.same]) (by first | (simp only [flashOk, imp_self]; done) | (simp; done)) (by first | (simp only [logOk, imp_self]; done) | (simp; done)) (by first | (simp only [ringOk, imp_self]; done) | (simp; done)) (by first | exact List.prefix_rfl | exact List.prefix_append _ _ | exact (List.prefix_append _ _).trans (List.prefix_append _ _))

theorem State.onSeam_moves {ps : List Part} (hs : [.thk, .seam, .hst, .out] ⊆ ps) (typ : Nat) (f : SeamFrame) (act : State → State)
    (s : State) (ha : ∀ t, Moves ps t (act t)) : Moves ps s (State.onSeam typ f act s) := by
  unfold State.onSeam
  split
  · exact .refl _ _
  · split
    · exact (State.seamMod_moves _ _ (by simp only [ringOk, imp_self])).weaken (fun _ h => hs (by simp at h; simp [h]))
    · exact (State.seamMod_moves _ _ (by simp only [ringOk, imp_self])).weaken (fun _ h => hs (by simp at h; simp [h]))
    · exact (State.seamMod_moves _ _ (by simp only [ringOk, imp_self])).weaken (fun _ h => hs (by simp at h; simp [h]))
    · exact (State.seamAuthFail_moves _).weaken (fun _ h => hs (by simp at h; simp [h]))
    · exact (State.wrongState_moves _ _).weaken (fun _ h => hs (by simp at h; simp; tauto))
    · exact ha s

theorem State.askResync_moves (s : State) :
    Moves [.thk, .seam, .clk, .hst, .out] s (State.askResync s) := by
  unfold State.askResync
  iterate 14 all_goals try first
    | with_reducible exact Moves.refl _ _
    | dsimp only
    | assumption
    | with_reducible refine (State.seamSend_moves ..).to (by decide) ?_
    | with_reducible refine (State.seamMod_moves _ _ ?_).to (by decide) ?_
    | (simp only [ringOk, Seam.setGen, imp_self]; done)
    | exact fun h : ringOk _ => h
    | with_reducible refine Moves.foldl (fun _ _ => ?_) _ _ _ ?_
    | split
    | refine Moves.at ?_ (fun q hq => by cases q <;> first | exact absurd (by decide) hq | simp only [Part.same]) (by first | (simp only [flashOk, imp_self]; done) | (simp; done)) (by first | (simp only [logOk, imp_self]; done) | (simp; done)) (by first | (simp only [ringOk, imp_self]; done) | (simp; done)) (by first | exact List.prefix_rfl | exact List.prefix_append _ _ | exact (List.prefix_append _ _).trans (List.prefix_append _ _))

theorem State.seamTake_moves (f : SeamFrame) (s : State) :
    Moves [.thk, .seam, .clk, .hst, .out] s (State.seamTake f s).1 := by
  unfold State.seamTake
  iterate 14 all_goals try first
    | with_reducible exact Moves.refl _ _
    | dsimp only
    | assumption
    | with_reducible refine (State.seamAccept_moves ..).to (by decide) ?_
    | with_reducible refine (State.askResync_moves ..).to (by decide) ?_
    | with_reducible refine Moves.foldl (fun _ _ => ?_) _ _ _ ?_
    | split
    | refine Moves.at ?_ (fun q hq => by cases q <;> first | exact absurd (by decide) hq | simp only [Part.same]) (by first | (simp only [flashOk, imp_self]; done) | (simp; done)) (by first | (simp only [logOk, imp_self]; done) | (simp; done)) (by first | (simp only [ringOk, imp_self]; done) | (simp; done)) (by first | exact List.prefix_rfl | exact List.prefix_append _ _ | exact (List.prefix_append _ _).trans (List.prefix_append _ _))

/-- What fits beside `n` slots leaves the ring within its 4,096 slots. -/
theorem ringFit_ok (l : List JHeld) (n : Nat) (hn : n ≤ 4096) (hl : ∀ x ∈ l, 1 ≤ x.slots) :
    n + ((ringFit n l).map (·.slots)).sum ≤ 4096 ∧ ∀ x ∈ ringFit n l, 1 ≤ x.slots := by
  induction l generalizing n with
  | nil => simpa [ringFit] using hn
  | cons x l ih =>
    unfold ringFit
    split
    · rename_i h
      have k := ih (n + x.slots) h (fun y hy => hl y (List.mem_cons_of_mem _ hy))
      refine ⟨by simp only [List.map_cons, List.sum_cons]; omega, fun y hy => ?_⟩
      rcases List.mem_cons.1 hy with rfl | hy
      · exact hl _ (List.mem_cons_self ..)
      · exact k.2 y hy
    · simpa using hn

theorem ringOk_store {m : Seam} (lseq now : Nat) (e : JFull) (h : ringOk m) : ringOk (m.store lseq now e) := by
  have k := ringFit_ok m.ring (max 1 (min 8 (((journalBytes e).length + 2047) / 2048))) (by omega) h.2
  refine ⟨by simpa [Seam.store] using k.1, fun x hx => ?_⟩
  rcases List.mem_cons.1 hx with rfl | hx
  · exact Nat.le_max_left ..
  · exact k.2 x hx

theorem State.storeEntry_moves (lseq : Nat) (e : JFull) (s : State) : Moves [.thk, .seam, .clk, .hst, .out] s (State.storeEntry lseq e s) := by
  unfold State.storeEntry
  refine (State.seamSend_moves ..).to (by decide) ?_
  refine Moves.weaken (State.seamMod_moves _ _ ?_) (by decide)
  exact fun h => ringOk_store _ _ _ h

theorem State.becomeStandby_moves (s : State) :
    Moves [.fresh, .thk, .cnp, .ports, .v2g, .cpc, .gtr, .slvLink, .slvCtr, .seam, .lac, .brm, .cuf, .clk, .hst, .sessNext, .sessTop, .out] s (State.becomeStandby s) := by
  unfold State.becomeStandby
  iterate 14 all_goals try first
    | with_reducible exact Moves.refl _ _
    | dsimp only
    | assumption
    | with_reducible refine (State.raise_moves ..).to (by decide) ?_
    | with_reducible refine (State.gtrDo_moves ..).to (by decide) ?_
    | with_reducible refine (State.seamMod_moves _ _ ?_).to (by decide) ?_
    | (simp only [ringOk, Seam.setGen, imp_self]; done)
    | exact fun h : ringOk _ => h
    | with_reducible refine (State.askResync_moves ..).to (by decide) ?_
    | with_reducible refine Moves.foldl (fun _ _ => ?_) _ _ _ ?_
    | split
    | refine Moves.at ?_ (fun q hq => by cases q <;> first | exact absurd (by decide) hq | simp only [Part.same]) (by first | (simp only [flashOk, imp_self]; done) | (simp; done)) (by first | (simp only [logOk, imp_self]; done) | (simp; done)) (by first | (simp only [ringOk, imp_self]; done) | (simp; done)) (by first | exact List.prefix_rfl | exact List.prefix_append _ _ | exact (List.prefix_append _ _).trans (List.prefix_append _ _))

theorem State.becomeActive_moves (s : State) :
    Moves [.cnp, .mb, .seam, .brm] s (State.becomeActive s) := by
  unfold State.becomeActive
  iterate 14 all_goals try first
    | with_reducible exact Moves.refl _ _
    | dsimp only
    | assumption
    | with_reducible refine (State.seamMod_moves _ _ ?_).to (by decide) ?_
    | (simp only [ringOk, Seam.setGen, imp_self]; done)
    | exact fun h : ringOk _ => h
    | with_reducible refine (State.canopyStart_moves ..).to (by decide) ?_
    | with_reducible refine Moves.foldl (fun _ _ => ?_) _ _ _ ?_
    | split
    | refine Moves.at ?_ (fun q hq => by cases q <;> first | exact absurd (by decide) hq | simp only [Part.same]) (by first | (simp only [flashOk, imp_self]; done) | (simp; done)) (by first | (simp only [logOk, imp_self]; done) | (simp; done)) (by first | (simp only [ringOk, imp_self]; done) | (simp; done)) (by first | exact List.prefix_rfl | exact List.prefix_append _ _ | exact (List.prefix_append _ _).trans (List.prefix_append _ _))

theorem State.chooseRole_moves (peerActive : Bool) (s : State) :
    Moves [.fresh, .thk, .cnp, .mb, .ports, .v2g, .cpc, .gtr, .slvLink, .slvCtr, .seam, .lac, .brm, .cuf, .clk, .hst, .sessNext, .sessTop, .out] s (State.chooseRole peerActive s) := by
  unfold State.chooseRole
  iterate 14 all_goals try first
    | with_reducible exact Moves.refl _ _
    | dsimp only
    | assumption
    | with_reducible refine (State.becomeStandby_moves ..).to (by decide) ?_
    | with_reducible refine (State.becomeActive_moves ..).to (by decide) ?_
    | with_reducible refine Moves.foldl (fun _ _ => ?_) _ _ _ ?_
    | split
    | refine Moves.at ?_ (fun q hq => by cases q <;> first | exact absurd (by decide) hq | simp only [Part.same]) (by first | (simp only [flashOk, imp_self]; done) | (simp; done)) (by first | (simp only [logOk, imp_self]; done) | (simp; done)) (by first | (simp only [ringOk, imp_self]; done) | (simp; done)) (by first | exact List.prefix_rfl | exact List.prefix_append _ _ | exact (List.prefix_append _ _).trans (List.prefix_append _ _))

theorem State.chooseAlone_moves (s : State) :
    Moves [.fresh, .thk, .cnp, .mb, .ports, .v2g, .cpc, .gtr, .slvLink, .slvCtr, .seam, .lac, .brm, .cuf, .clk, .hst, .sessNext, .sessTop, .out] s (State.chooseAlone s) := by
  unfold State.chooseAlone
  iterate 14 all_goals try first
    | with_reducible exact Moves.refl _ _
    | dsimp only
    | assumption
    | with_reducible refine (State.becomeStandby_moves ..).to (by decide) ?_
    | with_reducible refine (State.becomeActive_moves ..).to (by decide) ?_
    | with_reducible refine Moves.foldl (fun _ _ => ?_) _ _ _ ?_
    | split
    | refine Moves.at ?_ (fun q hq => by cases q <;> first | exact absurd (by decide) hq | simp only [Part.same]) (by first | (simp only [flashOk, imp_self]; done) | (simp; done)) (by first | (simp only [logOk, imp_self]; done) | (simp; done)) (by first | (simp only [ringOk, imp_self]; done) | (simp; done)) (by first | exact List.prefix_rfl | exact List.prefix_append _ _ | exact (List.prefix_append _ _).trans (List.prefix_append _ _))

theorem State.release_moves (reason : Nat) (s : State) :
    Moves [.thk, .cnp, .mb, .seam, .clk, .hst, .out] s (State.release reason s) := by
  unfold State.release
  iterate 14 all_goals try first
    | with_reducible exact Moves.refl _ _
    | dsimp only
    | assumption
    | with_reducible refine (State.seamMod_moves _ _ ?_).to (by decide) ?_
    | (simp only [ringOk, Seam.setGen, imp_self]; done)
    | exact fun h : ringOk _ => h
    | with_reducible refine (State.seamPut_moves ..).to (by decide) ?_
    | with_reducible refine (State.withdrawAll_moves ..).to (by decide) ?_
    | with_reducible refine (State.relayEnd_moves ..).to (by decide) ?_
    | with_reducible refine Moves.foldl (fun _ _ => ?_) _ _ _ ?_
    | split
    | refine Moves.at ?_ (fun q hq => by cases q <;> first | exact absurd (by decide) hq | simp only [Part.same]) (by first | (simp only [flashOk, imp_self]; done) | (simp; done)) (by first | (simp only [logOk, imp_self]; done) | (simp; done)) (by first | (simp only [ringOk, imp_self]; done) | (simp; done)) (by first | exact List.prefix_rfl | exact List.prefix_append _ _ | exact (List.prefix_append _ _).trans (List.prefix_append _ _))

theorem State.swapWrite_moves (s : State) :
    Moves [.thk, .cnp, .mb, .seam, .clk, .hst, .out] s (State.swapWrite s).2 := by
  unfold State.swapWrite
  iterate 14 all_goals try first
    | with_reducible exact Moves.refl _ _
    | dsimp only
    | assumption
    | with_reducible refine (State.release_moves ..).to (by decide) ?_
    | with_reducible refine (State.seamMod_moves _ _ ?_).to (by decide) ?_
    | (simp only [ringOk, Seam.setGen, imp_self]; done)
    | exact fun h : ringOk _ => h
    | with_reducible refine Moves.foldl (fun _ _ => ?_) _ _ _ ?_
    | split
    | refine Moves.at ?_ (fun q hq => by cases q <;> first | exact absurd (by decide) hq | simp only [Part.same]) (by first | (simp only [flashOk, imp_self]; done) | (simp; done)) (by first | (simp only [logOk, imp_self]; done) | (simp; done)) (by first | (simp only [ringOk, imp_self]; done) | (simp; done)) (by first | exact List.prefix_rfl | exact List.prefix_append _ _ | exact (List.prefix_append _ _).trans (List.prefix_append _ _))

theorem State.restoreLinks_moves (e : Option JHeld) (s : State) :
    Moves [.mb] s (State.restoreLinks e s) := by
  unfold State.restoreLinks
  iterate 14 all_goals try first
    | with_reducible exact Moves.refl _ _
    | dsimp only
    | assumption
    | with_reducible refine (State.busMod_moves ..).to (by decide) ?_
    | with_reducible refine Moves.foldl (fun _ _ => ?_) _ _ _ ?_
    | split
    | refine Moves.at ?_ (fun q hq => by cases q <;> first | exact absurd (by decide) hq | simp only [Part.same]) (by first | (simp only [flashOk, imp_self]; done) | (simp; done)) (by first | (simp only [logOk, imp_self]; done) | (simp; done)) (by first | (simp only [ringOk, imp_self]; done) | (simp; done)) (by first | exact List.prefix_rfl | exact List.prefix_append _ _ | exact (List.prefix_append _ _).trans (List.prefix_append _ _))

theorem State.restoreItems_moves (s : State) :
    Moves [.mb, .ports, .v2g, .twins, .hst, .sessNext, .sessTop] s (State.restoreItems s) := by
  unfold State.restoreItems
  iterate 14 all_goals try first
    | with_reducible exact Moves.refl _ _
    | dsimp only
    | assumption
    | with_reducible refine Moves.foldl (fun _ _ => ?_) _ _ _ ?_
    | split
    | refine Moves.at ?_ (fun q hq => by cases q <;> first | exact absurd (by decide) hq | simp only [Part.same]) (by first | (simp only [flashOk, imp_self]; done) | (simp; done)) (by first | (simp only [logOk, imp_self]; done) | (simp; done)) (by first | (simp only [ringOk, imp_self]; done) | (simp; done)) (by first | exact List.prefix_rfl | exact List.prefix_append _ _ | exact (List.prefix_append _ _).trans (List.prefix_append _ _))

theorem State.restoreGaiter_moves (s : State) :
    Moves [.fresh, .thk, .ports, .v2g, .cpc, .gtr, .slvLink, .slvCtr, .cuf, .clk, .hst, .sessNext, .sessTop, .out] s (State.restoreGaiter s) := by
  unfold State.restoreGaiter
  iterate 14 all_goals try first
    | with_reducible exact Moves.refl _ _
    | dsimp only
    | assumption
    | with_reducible refine (State.gtrDo_moves ..).to (by decide) ?_
    | with_reducible refine Moves.foldl (fun _ _ => ?_) _ _ _ ?_
    | split
    | refine Moves.at ?_ (fun q hq => by cases q <;> first | exact absurd (by decide) hq | simp only [Part.same]) (by first | (simp only [flashOk, imp_self]; done) | (simp; done)) (by first | (simp only [logOk, imp_self]; done) | (simp; done)) (by first | (simp only [ringOk, imp_self]; done) | (simp; done)) (by first | exact List.prefix_rfl | exact List.prefix_append _ _ | exact (List.prefix_append _ _).trans (List.prefix_append _ _))

theorem State.restoreTrims_moves (s : State) :
    Moves [.cpc] s (State.restoreTrims s) := by
  unfold State.restoreTrims
  iterate 14 all_goals try first
    | with_reducible exact Moves.refl _ _
    | dsimp only
    | assumption
    | with_reducible refine Moves.foldl (fun _ _ => ?_) _ _ _ ?_
    | split
    | refine Moves.at ?_ (fun q hq => by cases q <;> first | exact absurd (by decide) hq | simp only [Part.same]) (by first | (simp only [flashOk, imp_self]; done) | (simp; done)) (by first | (simp only [logOk, imp_self]; done) | (simp; done)) (by first | (simp only [ringOk, imp_self]; done) | (simp; done)) (by first | exact List.prefix_rfl | exact List.prefix_append _ _ | exact (List.prefix_append _ _).trans (List.prefix_append _ _))

theorem State.takeover_moves (reason : Nat) (s : State) :
    Moves [.fresh, .thk, .cnp, .mb, .ports, .v2g, .twins, .cpc, .gtr, .slvLink, .slvCtr, .seam, .lac, .brm, .cuf, .clk, .hst, .sessNext, .sessTop, .out] s (State.takeover reason s) := by
  unfold State.takeover
  iterate 14 all_goals try first
    | with_reducible exact Moves.refl _ _
    | dsimp only
    | assumption
    | with_reducible refine (State.raise_moves ..).to (by decide) ?_
    | with_reducible refine (State.seamMod_moves _ _ ?_).to (by decide) ?_
    | (simp only [ringOk, Seam.setGen, imp_self]; done)
    | exact fun h : ringOk _ => h
    | with_reducible refine (State.withdrawGroup_moves ..).to (by decide) ?_
    | with_reducible refine (State.restoreItems_moves ..).to (by decide) ?_
    | with_reducible refine (State.restoreLinks_moves ..).to (by decide) ?_
    | with_reducible refine (State.restoreGaiter_moves ..).to (by decide) ?_
    | with_reducible refine (State.sideStart_moves ..).to (by decide) ?_
    | with_reducible refine (State.restoreTrims_moves ..).to (by decide) ?_
    | with_reducible refine Moves.foldl (fun _ _ => ?_) _ _ _ ?_
    | split
    | refine Moves.at ?_ (fun q hq => by cases q <;> first | exact absurd (by decide) hq | simp only [Part.same]) (by first | (simp only [flashOk, imp_self]; done) | (simp; done)) (by first | (simp only [logOk, imp_self]; done) | (simp; done)) (by first | (simp only [ringOk, imp_self]; done) | (simp; done)) (by first | exact List.prefix_rfl | exact List.prefix_append _ _ | exact (List.prefix_append _ _).trans (List.prefix_append _ _))

theorem State.handPort_moves (p : Fin 12) (s : State) :
    Moves [.seam] s (State.handPort p s) := by
  unfold State.handPort
  iterate 14 all_goals try first
    | with_reducible exact Moves.refl _ _
    | dsimp only
    | assumption
    | with_reducible refine (State.seamMod_moves _ _ ?_).to (by decide) ?_
    | (simp only [ringOk, Seam.setGen, imp_self]; done)
    | exact fun h : ringOk _ => h
    | with_reducible refine Moves.foldl (fun _ _ => ?_) _ _ _ ?_
    | split
    | refine Moves.at ?_ (fun q hq => by cases q <;> first | exact absurd (by decide) hq | simp only [Part.same]) (by first | (simp only [flashOk, imp_self]; done) | (simp; done)) (by first | (simp only [logOk, imp_self]; done) | (simp; done)) (by first | (simp only [ringOk, imp_self]; done) | (simp; done)) (by first | exact List.prefix_rfl | exact List.prefix_append _ _ | exact (List.prefix_append _ _).trans (List.prefix_append _ _))

theorem State.takeoverDone_moves (s : State) :
    Moves [.thk, .seam, .clk, .hst, .out] s (State.takeoverDone s) := by
  unfold State.takeoverDone
  iterate 14 all_goals try first
    | with_reducible exact Moves.refl _ _
    | dsimp only
    | assumption
    | with_reducible refine (State.seamSend_moves ..).to (by decide) ?_
    | with_reducible refine (State.raise_moves ..).to (by decide) ?_
    | with_reducible refine (State.seamMod_moves _ _ ?_).to (by decide) ?_
    | (simp only [ringOk, Seam.setGen, imp_self]; done)
    | exact fun h : ringOk _ => h
    | with_reducible refine Moves.foldl (fun _ _ => ?_) _ _ _ ?_
    | split
    | refine Moves.at ?_ (fun q hq => by cases q <;> first | exact absurd (by decide) hq | simp only [Part.same]) (by first | (simp only [flashOk, imp_self]; done) | (simp; done)) (by first | (simp only [logOk, imp_self]; done) | (simp; done)) (by first | (simp only [ringOk, imp_self]; done) | (simp; done)) (by first | exact List.prefix_rfl | exact List.prefix_append _ _ | exact (List.prefix_append _ _).trans (List.prefix_append _ _))

theorem State.handedOver_moves (s : State) :
    Moves [.fresh, .rst, .thk, .ports, .v2g, .cpc, .gtr, .slvLink, .slvCtr, .cuf, .clk, .hst, .sessNext, .sessTop, .out] s (State.handedOver s) := by
  unfold State.handedOver
  iterate 14 all_goals try first
    | with_reducible exact Moves.refl _ _
    | dsimp only
    | assumption
    | with_reducible refine (State.gtrDo_moves ..).to (by decide) ?_
    | with_reducible refine Moves.foldl (fun _ _ => ?_) _ _ _ ?_
    | split
    | refine Moves.at ?_ (fun q hq => by cases q <;> first | exact absurd (by decide) hq | simp only [Part.same]) (by first | (simp only [flashOk, imp_self]; done) | (simp; done)) (by first | (simp only [logOk, imp_self]; done) | (simp; done)) (by first | (simp only [ringOk, imp_self]; done) | (simp; done)) (by first | exact List.prefix_rfl | exact List.prefix_append _ _ | exact (List.prefix_append _ _).trans (List.prefix_append _ _))

theorem State.echoMod_moves (b : Fin 4) (g : Nat) (f : EchoSt → EchoSt) (s : State) :
    Moves [.seam] s (State.echoMod b g f s) := by
  unfold State.echoMod
  iterate 14 all_goals try first
    | with_reducible exact Moves.refl _ _
    | dsimp only
    | assumption
    | with_reducible refine (State.seamMod_moves _ _ ?_).to (by decide) ?_
    | (simp only [ringOk, Seam.setGen, imp_self]; done)
    | exact fun h : ringOk _ => h
    | with_reducible refine Moves.foldl (fun _ _ => ?_) _ _ _ ?_
    | split
    | refine Moves.at ?_ (fun q hq => by cases q <;> first | exact absurd (by decide) hq | simp only [Part.same]) (by first | (simp only [flashOk, imp_self]; done) | (simp; done)) (by first | (simp only [logOk, imp_self]; done) | (simp; done)) (by first | (simp only [ringOk, imp_self]; done) | (simp; done)) (by first | exact List.prefix_rfl | exact List.prefix_append _ _ | exact (List.prefix_append _ _).trans (List.prefix_append _ _))

theorem State.echoFail_moves (b : Fin 4) (missing : Bool) (s : State) :
    Moves [.thk, .seam, .hst, .out] s (State.echoFail b missing s) := by
  unfold State.echoFail
  iterate 14 all_goals try first
    | with_reducible exact Moves.refl _ _
    | dsimp only
    | assumption
    | with_reducible refine (State.seamMod_moves _ _ ?_).to (by decide) ?_
    | (simp only [ringOk, Seam.setGen, imp_self]; done)
    | exact fun h : ringOk _ => h
    | with_reducible refine (State.judgeFit_moves ..).to (by decide) ?_
    | with_reducible refine Moves.foldl (fun _ _ => ?_) _ _ _ ?_
    | split
    | refine Moves.at ?_ (fun q hq => by cases q <;> first | exact absurd (by decide) hq | simp only [Part.same]) (by first | (simp only [flashOk, imp_self]; done) | (simp; done)) (by first | (simp only [logOk, imp_self]; done) | (simp; done)) (by first | (simp only [ringOk, imp_self]; done) | (simp; done)) (by first | exact List.prefix_rfl | exact List.prefix_append _ _ | exact (List.prefix_append _ _).trans (List.prefix_append _ _))

theorem State.echoHeard_moves (b : Fin 4) (x : RxFrame) (s : State) :
    Moves [.thk, .cnp, .mb, .seam, .hst, .out] s (State.echoHeard b x s) := by
  unfold State.echoHeard
  iterate 14 all_goals try first
    | with_reducible exact Moves.refl _ _
    | dsimp only
    | assumption
    | with_reducible refine (State.withdrawGroup_moves ..).to (by decide) ?_
    | with_reducible refine (State.echoMod_moves ..).to (by decide) ?_
    | with_reducible refine (State.echoFail_moves ..).to (by decide) ?_
    | with_reducible refine Moves.foldl (fun _ _ => ?_) _ _ _ ?_
    | split
    | refine Moves.at ?_ (fun q hq => by cases q <;> first | exact absurd (by decide) hq | simp only [Part.same]) (by first | (simp only [flashOk, imp_self]; done) | (simp; done)) (by first | (simp only [logOk, imp_self]; done) | (simp; done)) (by first | (simp only [ringOk, imp_self]; done) | (simp; done)) (by first | exact List.prefix_rfl | exact List.prefix_append _ _ | exact (List.prefix_append _ _).trans (List.prefix_append _ _))

theorem State.sendHolds_moves (b : Fin 4) (s : State) :
    Moves [.thk, .mb, .seam, .hst, .out] s (State.sendHolds b s) := by
  unfold State.sendHolds
  iterate 14 all_goals try first
    | with_reducible exact Moves.refl _ _
    | dsimp only
    | assumption
    | with_reducible refine (State.seamMod_moves _ _ ?_).to (by decide) ?_
    | (simp only [ringOk, Seam.setGen, imp_self]; done)
    | exact fun h : ringOk _ => h
    | with_reducible refine (State.queueHold_moves ..).to (by decide) ?_
    | with_reducible refine Moves.foldl (fun _ _ => ?_) _ _ _ ?_
    | split
    | refine Moves.at ?_ (fun q hq => by cases q <;> first | exact absurd (by decide) hq | simp only [Part.same]) (by first | (simp only [flashOk, imp_self]; done) | (simp; done)) (by first | (simp only [logOk, imp_self]; done) | (simp; done)) (by first | (simp only [ringOk, imp_self]; done) | (simp; done)) (by first | exact List.prefix_rfl | exact List.prefix_append _ _ | exact (List.prefix_append _ _).trans (List.prefix_append _ _))

theorem State.relayFrame_moves (r : RelayPend) (s : State) :
    Moves [.thk, .seam, .clk, .hst, .out] s (State.relayFrame r s) := by
  unfold State.relayFrame
  iterate 14 all_goals try first
    | with_reducible exact Moves.refl _ _
    | dsimp only
    | assumption
    | with_reducible refine (State.seamSend_moves ..).to (by decide) ?_
    | with_reducible refine (State.seamMod_moves _ _ ?_).to (by decide) ?_
    | (simp only [ringOk, Seam.setGen, imp_self]; done)
    | exact fun h : ringOk _ => h
    | with_reducible refine Moves.foldl (fun _ _ => ?_) _ _ _ ?_
    | split
    | refine Moves.at ?_ (fun q hq => by cases q <;> first | exact absurd (by decide) hq | simp only [Part.same]) (by first | (simp only [flashOk, imp_self]; done) | (simp; done)) (by first | (simp only [logOk, imp_self]; done) | (simp; done)) (by first | (simp only [ringOk, imp_self]; done) | (simp; done)) (by first | exact List.prefix_rfl | exact List.prefix_append _ _ | exact (List.prefix_append _ _).trans (List.prefix_append _ _))

theorem State.relayStart_moves (write : Bool) (addr : Nat) (count : Nat) (ws : List Nat) (chan : Nat) (esTag : Nat) (sent : List Byte) (s : State) :
    Moves [.thk, .seam, .clk, .hst, .out] s (State.relayStart write addr count ws chan esTag sent s).2 := by
  unfold State.relayStart
  iterate 14 all_goals try first
    | with_reducible exact Moves.refl _ _
    | dsimp only
    | assumption
    | with_reducible refine (State.seamMod_moves _ _ ?_).to (by decide) ?_
    | (simp only [ringOk, Seam.setGen, imp_self]; done)
    | exact fun h : ringOk _ => h
    | with_reducible refine (State.relayFrame_moves ..).to (by decide) ?_
    | with_reducible refine Moves.foldl (fun _ _ => ?_) _ _ _ ?_
    | split
    | refine Moves.at ?_ (fun q hq => by cases q <;> first | exact absurd (by decide) hq | simp only [Part.same]) (by first | (simp only [flashOk, imp_self]; done) | (simp; done)) (by first | (simp only [logOk, imp_self]; done) | (simp; done)) (by first | (simp only [ringOk, imp_self]; done) | (simp; done)) (by first | exact List.prefix_rfl | exact List.prefix_append _ _ | exact (List.prefix_append _ _).trans (List.prefix_append _ _))

end Sys2Proof.Machine
end

