-- ==== Sys2Proof/Laws/MovesRegGuard.lean ====
section
/-! SUPPORT. What each operation of Machine/RegGuard.lean can change: at most the listed parts, and a safe state stays safe. -/

namespace Sys2Proof.Machine

theorem gtrRead_moves (o : Nat) (s : State) {y} (h : gtrRead o s = some y) :
    Moves [.gtr] s y.2 := by
  unfold gtrRead at h
  iterate 12 all_goals try first
    | (with_reducible obtain rfl := Option.some.inj h)
    | (with_reducible obtain rfl := rd_inj h)
    | (with_reducible exact absurd h.symm (Option.some_ne_none _))
    | dsimp only at h
    | split at h
  iterate 14 all_goals try first
    | with_reducible exact Moves.refl _ _
    | dsimp only
    | assumption
    | exact (rd_moves (h := ‹_›) ..).weaken (by decide)
    | with_reducible refine Moves.foldl (fun _ _ => ?_) _ _ _ ?_
    | split
    | refine Moves.at ?_ (fun q hq => by cases q <;> first | exact absurd (by decide) hq | simp only [Part.same]) (by first | (simp only [flashOk, imp_self]; done) | (simp; done)) (by first | (simp only [logOk, imp_self]; done) | (simp; done)) (by first | (simp only [ringOk, imp_self]; done) | (simp; done)) (by first | exact List.prefix_rfl | exact List.prefix_append _ _ | exact (List.prefix_append _ _).trans (List.prefix_append _ _))

theorem gtrCtrlWrite_moves (w : Nat) (s : State) :
    Moves [.fresh, .thk, .ports, .v2g, .cpc, .gtr, .slvLink, .slvCtr, .cuf, .clk, .hst, .sessNext, .sessTop, .out] s (gtrCtrlWrite w s).2 := by
  unfold gtrCtrlWrite
  iterate 14 all_goals try first
    | with_reducible exact Moves.refl _ _
    | dsimp only
    | assumption
    | with_reducible refine (State.gtrDo_moves ..).to (by decide) ?_
    | with_reducible refine Moves.foldl (fun _ _ => ?_) _ _ _ ?_
    | split
    | refine Moves.at ?_ (fun q hq => by cases q <;> first | exact absurd (by decide) hq | simp only [Part.same]) (by first | (simp only [flashOk, imp_self]; done) | (simp; done)) (by first | (simp only [logOk, imp_self]; done) | (simp; done)) (by first | (simp only [ringOk, imp_self]; done) | (simp; done)) (by first | exact List.prefix_rfl | exact List.prefix_append _ _ | exact (List.prefix_append _ _).trans (List.prefix_append _ _))

theorem gtrWrite_moves (o : Nat) (w : Nat) (s : State) {y} (h : gtrWrite o w s = some y) :
    Moves [.fresh, .thk, .ports, .v2g, .cpc, .gtr, .slvLink, .slvCtr, .cuf, .clk, .hst, .sessNext, .sessTop, .out] s y.2 := by
  unfold gtrWrite at h
  iterate 12 all_goals try first
    | (with_reducible obtain rfl := Option.some.inj h)
    | (with_reducible obtain rfl := rd_inj h)
    | (with_reducible exact absurd h.symm (Option.some_ne_none _))
    | with_reducible exact (roWrite_moves (h := h) ..).weaken (by decide)
    | with_reducible exact (gtrRead_moves (h := h) ..).weaken (by decide)
    | dsimp only at h
    | split at h
  iterate 14 all_goals try first
    | with_reducible exact Moves.refl _ _
    | dsimp only
    | assumption
    | with_reducible refine (gtrCtrlWrite_moves ..).to (by decide) ?_
    | exact (roWrite_moves (h := ‹_›) ..).weaken (by decide)
    | exact (gtrRead_moves (h := ‹_›) ..).weaken (by decide)
    | with_reducible refine Moves.foldl (fun _ _ => ?_) _ _ _ ?_
    | split
    | refine Moves.at ?_ (fun q hq => by cases q <;> first | exact absurd (by decide) hq | simp only [Part.same]) (by first | (simp only [flashOk, imp_self]; done) | (simp; done)) (by first | (simp only [logOk, imp_self]; done) | (simp; done)) (by first | (simp only [ringOk, imp_self]; done) | (simp; done)) (by first | exact List.prefix_rfl | exact List.prefix_append _ _ | exact (List.prefix_append _ _).trans (List.prefix_append _ _))

theorem seamRead_moves (o : Nat) (s : State) {y} (h : seamRead o s = some y) :
    Moves [.seam] s y.2 := by
  unfold seamRead at h
  iterate 12 all_goals try first
    | (with_reducible obtain rfl := Option.some.inj h)
    | (with_reducible obtain rfl := rd_inj h)
    | (with_reducible exact absurd h.symm (Option.some_ne_none _))
    | dsimp only at h
    | split at h
  iterate 14 all_goals try first
    | with_reducible exact Moves.refl _ _
    | dsimp only
    | assumption
    | exact (rd_moves (h := ‹_›) ..).weaken (by decide)
    | with_reducible refine Moves.foldl (fun _ _ => ?_) _ _ _ ?_
    | split
    | refine Moves.at ?_ (fun q hq => by cases q <;> first | exact absurd (by decide) hq | simp only [Part.same]) (by first | (simp only [flashOk, imp_self]; done) | (simp; done)) (by first | (simp only [logOk, imp_self]; done) | (simp; done)) (by first | (simp only [ringOk, imp_self]; done) | (simp; done)) (by first | exact List.prefix_rfl | exact List.prefix_append _ _ | exact (List.prefix_append _ _).trans (List.prefix_append _ _))

theorem seamWrite_moves (o : Nat) (w : Nat) (s : State) {y} (h : seamWrite o w s = some y) :
    Moves [.thk, .cnp, .mb, .seam, .clk, .hst, .out] s y.2 := by
  unfold seamWrite at h
  iterate 12 all_goals try first
    | (with_reducible obtain rfl := Option.some.inj h)
    | (with_reducible obtain rfl := rd_inj h)
    | (with_reducible exact absurd h.symm (Option.some_ne_none _))
    | with_reducible exact (roWrite_moves (h := h) ..).weaken (by decide)
    | with_reducible exact (seamRead_moves (h := h) ..).weaken (by decide)
    | dsimp only at h
    | split at h
  iterate 14 all_goals try first
    | with_reducible exact Moves.refl _ _
    | dsimp only
    | assumption
    | with_reducible refine (State.swapWrite_moves ..).to (by decide) ?_
    | exact (roWrite_moves (h := ‹_›) ..).weaken (by decide)
    | exact (seamRead_moves (h := ‹_›) ..).weaken (by decide)
    | with_reducible refine Moves.foldl (fun _ _ => ?_) _ _ _ ?_
    | split
    | refine Moves.at ?_ (fun q hq => by cases q <;> first | exact absurd (by decide) hq | simp only [Part.same]) (by first | (simp only [flashOk, imp_self]; done) | (simp; done)) (by first | (simp only [logOk, imp_self]; done) | (simp; done)) (by first | (simp only [ringOk, imp_self]; done) | (simp; done)) (by first | exact List.prefix_rfl | exact List.prefix_append _ _ | exact (List.prefix_append _ _).trans (List.prefix_append _ _))

theorem hemRead_moves (o : Nat) (s : State) {y} (h : hemRead o s = some y) :
    Moves [.hem] s y.2 := by
  unfold hemRead at h
  iterate 12 all_goals try first
    | (with_reducible obtain rfl := Option.some.inj h)
    | (with_reducible obtain rfl := rd_inj h)
    | (with_reducible exact absurd h.symm (Option.some_ne_none _))
    | dsimp only at h
    | split at h
  iterate 14 all_goals try first
    | with_reducible exact Moves.refl _ _
    | dsimp only
    | assumption
    | exact (rd_moves (h := ‹_›) ..).weaken (by decide)
    | with_reducible refine Moves.foldl (fun _ _ => ?_) _ _ _ ?_
    | split
    | refine Moves.at ?_ (fun q hq => by cases q <;> first | exact absurd (by decide) hq | simp only [Part.same]) (by first | (simp only [flashOk, imp_self]; done) | (simp; done)) (by first | (simp only [logOk, imp_self]; done) | (simp; done)) (by first | (simp only [ringOk, imp_self]; done) | (simp; done)) (by first | exact List.prefix_rfl | exact List.prefix_append _ _ | exact (List.prefix_append _ _).trans (List.prefix_append _ _))

theorem hemClrWrite_moves (w : Nat) (s : State) :
    Moves [.thk, .hem, .hst, .out] s (hemClrWrite w s).2 := by
  unfold hemClrWrite
  iterate 14 all_goals try first
    | with_reducible exact Moves.refl _ _
    | dsimp only
    | assumption
    | with_reducible refine (State.hemDo_moves ..).to (by decide) ?_
    | with_reducible refine Moves.foldl (fun _ _ => ?_) _ _ _ ?_
    | split
    | refine Moves.at ?_ (fun q hq => by cases q <;> first | exact absurd (by decide) hq | simp only [Part.same]) (by first | (simp only [flashOk, imp_self]; done) | (simp; done)) (by first | (simp only [logOk, imp_self]; done) | (simp; done)) (by first | (simp only [ringOk, imp_self]; done) | (simp; done)) (by first | exact List.prefix_rfl | exact List.prefix_append _ _ | exact (List.prefix_append _ _).trans (List.prefix_append _ _))

theorem hemWrite_moves (o : Nat) (w : Nat) (s : State) {y} (h : hemWrite o w s = some y) :
    Moves [.thk, .hem, .hst, .out] s y.2 := by
  unfold hemWrite at h
  iterate 12 all_goals try first
    | (with_reducible obtain rfl := Option.some.inj h)
    | (with_reducible obtain rfl := rd_inj h)
    | (with_reducible exact absurd h.symm (Option.some_ne_none _))
    | with_reducible exact (roWrite_moves (h := h) ..).weaken (by decide)
    | with_reducible exact (hemRead_moves (h := h) ..).weaken (by decide)
    | dsimp only at h
    | split at h
  iterate 14 all_goals try first
    | with_reducible exact Moves.refl _ _
    | dsimp only
    | assumption
    | with_reducible refine (hemClrWrite_moves ..).to (by decide) ?_
    | exact (roWrite_moves (h := ‹_›) ..).weaken (by decide)
    | exact (hemRead_moves (h := ‹_›) ..).weaken (by decide)
    | with_reducible refine Moves.foldl (fun _ _ => ?_) _ _ _ ?_
    | split
    | refine Moves.at ?_ (fun q hq => by cases q <;> first | exact absurd (by decide) hq | simp only [Part.same]) (by first | (simp only [flashOk, imp_self]; done) | (simp; done)) (by first | (simp only [logOk, imp_self]; done) | (simp; done)) (by first | (simp only [ringOk, imp_self]; done) | (simp; done)) (by first | exact List.prefix_rfl | exact List.prefix_append _ _ | exact (List.prefix_append _ _).trans (List.prefix_append _ _))

end Sys2Proof.Machine
end

