-- ==== Sys2Proof/Laws/MovesRegHost.lean ====
section
/-! SUPPORT. What each operation of Machine/RegHost.lean can change: at most the listed parts, and a safe state stays safe. -/

namespace Sys2Proof.Machine

theorem brmRead_moves (o : Nat) (s : State) {y} (h : brmRead o s = some y) :
    Moves [.brm] s y.2 := by
  unfold brmRead at h
  iterate 12 all_goals try first
    | (with_reducible obtain rfl := Option.some.inj h)
    | (with_reducible obtain rfl := rd_inj h)
    | (with_reducible exact absurd h.symm (Option.some_ne_none _))
    | dsimp only at h
    | split at h
  iterate 14 all_goals try first
    | with_reducible exact Moves.refl _ _
    | dsimp only
    | assumption
    | exact (rd_moves (h := ‹_›) ..).weaken (by decide)
    | with_reducible refine Moves.foldl (fun _ _ => ?_) _ _ _ ?_
    | split
    | refine Moves.at ?_ (fun q hq => by cases q <;> first | exact absurd (by decide) hq | simp only [Part.same]) (by first | (simp only [flashOk, imp_self]; done) | (simp; done)) (by first | (simp only [logOk, imp_self]; done) | (simp; done)) (by first | (simp only [ringOk, imp_self]; done) | (simp; done)) (by first | exact List.prefix_rfl | exact List.prefix_append _ _ | exact (List.prefix_append _ _).trans (List.prefix_append _ _))

theorem brmCtrlWrite_moves (w : Nat) (s : State) :
    Moves [.fresh, .thk, .ports, .v2g, .cpc, .gtr, .slvLink, .slvCtr, .brm, .cuf, .clk, .hst, .sessNext, .sessTop, .out] s (brmCtrlWrite w s).2 := by
  unfold brmCtrlWrite
  iterate 14 all_goals try first
    | with_reducible exact Moves.refl _ _
    | dsimp only
    | assumption
    | with_reducible refine (State.brmDo_moves ..).to (by decide) ?_
    | with_reducible refine Moves.foldl (fun _ _ => ?_) _ _ _ ?_
    | split
    | refine Moves.at ?_ (fun q hq => by cases q <;> first | exact absurd (by decide) hq | simp only [Part.same]) (by first | (simp only [flashOk, imp_self]; done) | (simp; done)) (by first | (simp only [logOk, imp_self]; done) | (simp; done)) (by first | (simp only [ringOk, imp_self]; done) | (simp; done)) (by first | exact List.prefix_rfl | exact List.prefix_append _ _ | exact (List.prefix_append _ _).trans (List.prefix_append _ _))

theorem brmWrite_moves (o : Nat) (w : Nat) (s : State) {y} (h : brmWrite o w s = some y) :
    Moves [.fresh, .thk, .ports, .v2g, .cpc, .gtr, .slvLink, .slvCtr, .brm, .cuf, .clk, .hst, .sessNext, .sessTop, .out] s y.2 := by
  unfold brmWrite at h
  iterate 12 all_goals try first
    | (with_reducible obtain rfl := Option.some.inj h)
    | (with_reducible obtain rfl := rd_inj h)
    | (with_reducible exact absurd h.symm (Option.some_ne_none _))
    | with_reducible exact (roWrite_moves (h := h) ..).weaken (by decide)
    | with_reducible exact (brmRead_moves (h := h) ..).weaken (by decide)
    | dsimp only at h
    | split at h
  iterate 14 all_goals try first
    | with_reducible exact Moves.refl _ _
    | dsimp only
    | assumption
    | with_reducible refine (brmCtrlWrite_moves ..).to (by decide) ?_
    | exact (roWrite_moves (h := ‹_›) ..).weaken (by decide)
    | exact (brmRead_moves (h := ‹_›) ..).weaken (by decide)
    | with_reducible refine Moves.foldl (fun _ _ => ?_) _ _ _ ?_
    | split
    | refine Moves.at ?_ (fun q hq => by cases q <;> first | exact absurd (by decide) hq | simp only [Part.same]) (by first | (simp only [flashOk, imp_self]; done) | (simp; done)) (by first | (simp only [logOk, imp_self]; done) | (simp; done)) (by first | (simp only [ringOk, imp_self]; done) | (simp; done)) (by first | exact List.prefix_rfl | exact List.prefix_append _ _ | exact (List.prefix_append _ _).trans (List.prefix_append _ _))

theorem lacChainRead_moves (n : Nat) (r : Nat) (s : State) {y} (h : lacChainRead n r s = some y) :
    Moves [.lac] s y.2 := by
  unfold lacChainRead at h
  iterate 12 all_goals try first
    | (with_reducible obtain rfl := Option.some.inj h)
    | (with_reducible obtain rfl := rd_inj h)
    | (with_reducible exact absurd h.symm (Option.some_ne_none _))
    | dsimp only at h
    | split at h
  iterate 14 all_goals try first
    | with_reducible exact Moves.refl _ _
    | dsimp only
    | assumption
    | exact (rd_moves (h := ‹_›) ..).weaken (by decide)
    | with_reducible refine Moves.foldl (fun _ _ => ?_) _ _ _ ?_
    | split
    | refine Moves.at ?_ (fun q hq => by cases q <;> first | exact absurd (by decide) hq | simp only [Part.same]) (by first | (simp only [flashOk, imp_self]; done) | (simp; done)) (by first | (simp only [logOk, imp_self]; done) | (simp; done)) (by first | (simp only [ringOk, imp_self]; done) | (simp; done)) (by first | exact List.prefix_rfl | exact List.prefix_append _ _ | exact (List.prefix_append _ _).trans (List.prefix_append _ _))

theorem lacPartRead_moves (o : Nat) (s : State) {y} (h : lacPartRead o s = some y) :
    Moves [.lac] s y.2 := by
  unfold lacPartRead at h
  iterate 12 all_goals try first
    | (with_reducible obtain rfl := Option.some.inj h)
    | (with_reducible obtain rfl := rd_inj h)
    | (with_reducible exact absurd h.symm (Option.some_ne_none _))
    | with_reducible exact (lacChainRead_moves (h := h) ..).weaken (by decide)
    | dsimp only at h
    | split at h
  iterate 14 all_goals try first
    | with_reducible exact Moves.refl _ _
    | dsimp only
    | assumption
    | exact (lacChainRead_moves (h := ‹_›) ..).weaken (by decide)
    | exact (rd_moves (h := ‹_›) ..).weaken (by decide)
    | with_reducible refine Moves.foldl (fun _ _ => ?_) _ _ _ ?_
    | split
    | refine Moves.at ?_ (fun q hq => by cases q <;> first | exact absurd (by decide) hq | simp only [Part.same]) (by first | (simp only [flashOk, imp_self]; done) | (simp; done)) (by first | (simp only [logOk, imp_self]; done) | (simp; done)) (by first | (simp only [ringOk, imp_self]; done) | (simp; done)) (by first | exact List.prefix_rfl | exact List.prefix_append _ _ | exact (List.prefix_append _ _).trans (List.prefix_append _ _))

theorem lacRead_moves (o : Nat) (s : State) {y} (h : lacRead o s = some y) :
    Moves [.lac] s y.2 := by
  unfold lacRead at h
  iterate 12 all_goals try first
    | (with_reducible obtain rfl := Option.some.inj h)
    | (with_reducible obtain rfl := rd_inj h)
    | (with_reducible exact absurd h.symm (Option.some_ne_none _))
    | with_reducible exact (lacPartRead_moves (h := h) ..).weaken (by decide)
    | dsimp only at h
    | split at h
  iterate 14 all_goals try first
    | with_reducible exact Moves.refl _ _
    | dsimp only
    | assumption
    | exact (rd_moves (h := ‹_›) ..).weaken (by decide)
    | exact (lacPartRead_moves (h := ‹_›) ..).weaken (by decide)
    | with_reducible refine Moves.foldl (fun _ _ => ?_) _ _ _ ?_
    | split
    | refine Moves.at ?_ (fun q hq => by cases q <;> first | exact absurd (by decide) hq | simp only [Part.same]) (by first | (simp only [flashOk, imp_self]; done) | (simp; done)) (by first | (simp only [logOk, imp_self]; done) | (simp; done)) (by first | (simp only [ringOk, imp_self]; done) | (simp; done)) (by first | exact List.prefix_rfl | exact List.prefix_append _ _ | exact (List.prefix_append _ _).trans (List.prefix_append _ _))

theorem lacCtrlWrite_moves (w : Nat) (s : State) :
    Moves [.thk, .lac, .hst, .out] s (lacCtrlWrite w s).2 := by
  unfold lacCtrlWrite
  iterate 14 all_goals try first
    | with_reducible exact Moves.refl _ _
    | dsimp only
    | assumption
    | with_reducible refine (State.lacDo_moves ..).to (by decide) ?_
    | with_reducible refine Moves.foldl (fun _ _ => ?_) _ _ _ ?_
    | split
    | refine Moves.at ?_ (fun q hq => by cases q <;> first | exact absurd (by decide) hq | simp only [Part.same]) (by first | (simp only [flashOk, imp_self]; done) | (simp; done)) (by first | (simp only [logOk, imp_self]; done) | (simp; done)) (by first | (simp only [ringOk, imp_self]; done) | (simp; done)) (by first | exact List.prefix_rfl | exact List.prefix_append _ _ | exact (List.prefix_append _ _).trans (List.prefix_append _ _))

theorem lacOwtWrite_moves (w : Nat) (s : State) :
    Moves [.thk, .lac, .hst, .out] s (lacOwtWrite w s).2 := by
  unfold lacOwtWrite
  iterate 14 all_goals try first
    | with_reducible exact Moves.refl _ _
    | dsimp only
    | assumption
    | with_reducible refine (State.lacDo_moves ..).to (by decide) ?_
    | with_reducible refine Moves.foldl (fun _ _ => ?_) _ _ _ ?_
    | split
    | refine Moves.at ?_ (fun q hq => by cases q <;> first | exact absurd (by decide) hq | simp only [Part.same]) (by first | (simp only [flashOk, imp_self]; done) | (simp; done)) (by first | (simp only [logOk, imp_self]; done) | (simp; done)) (by first | (simp only [ringOk, imp_self]; done) | (simp; done)) (by first | exact List.prefix_rfl | exact List.prefix_append _ _ | exact (List.prefix_append _ _).trans (List.prefix_append _ _))

theorem lacWrite_moves (o : Nat) (w : Nat) (s : State) {y} (h : lacWrite o w s = some y) :
    Moves [.thk, .lac, .hst, .out] s y.2 := by
  unfold lacWrite at h
  iterate 12 all_goals try first
    | (with_reducible obtain rfl := Option.some.inj h)
    | (with_reducible obtain rfl := rd_inj h)
    | (with_reducible exact absurd h.symm (Option.some_ne_none _))
    | with_reducible exact (roWrite_moves (h := h) ..).weaken (by decide)
    | with_reducible exact (lacRead_moves (h := h) ..).weaken (by decide)
    | dsimp only at h
    | split at h
  iterate 14 all_goals try first
    | with_reducible exact Moves.refl _ _
    | dsimp only
    | assumption
    | with_reducible refine (lacCtrlWrite_moves ..).to (by decide) ?_
    | with_reducible refine (lacOwtWrite_moves ..).to (by decide) ?_
    | exact (roWrite_moves (h := ‹_›) ..).weaken (by decide)
    | exact (lacRead_moves (h := ‹_›) ..).weaken (by decide)
    | with_reducible refine Moves.foldl (fun _ _ => ?_) _ _ _ ?_
    | split
    | refine Moves.at ?_ (fun q hq => by cases q <;> first | exact absurd (by decide) hq | simp only [Part.same]) (by first | (simp only [flashOk, imp_self]; done) | (simp; done)) (by first | (simp only [logOk, imp_self]; done) | (simp; done)) (by first | (simp only [ringOk, imp_self]; done) | (simp; done)) (by first | exact List.prefix_rfl | exact List.prefix_append _ _ | exact (List.prefix_append _ _).trans (List.prefix_append _ _))

theorem clkRead_moves (o : Nat) (s : State) {y} (h : clkRead o s = some y) :
    Moves [.clk, .hiCap] s y.2 := by
  unfold clkRead at h
  iterate 12 all_goals try first
    | (with_reducible obtain rfl := Option.some.inj h)
    | (with_reducible obtain rfl := rd_inj h)
    | (with_reducible exact absurd h.symm (Option.some_ne_none _))
    | with_reducible exact (rd64_moves (h := h) ..).weaken (by decide)
    | dsimp only at h
    | split at h
  iterate 14 all_goals try first
    | with_reducible exact Moves.refl _ _
    | dsimp only
    | assumption
    | exact (rd_moves (h := ‹_›) ..).weaken (by decide)
    | exact (rd64_moves (h := ‹_›) ..).weaken (by decide)
    | with_reducible refine Moves.foldl (fun _ _ => ?_) _ _ _ ?_
    | split
    | refine Moves.at ?_ (fun q hq => by cases q <;> first | exact absurd (by decide) hq | simp only [Part.same]) (by first | (simp only [flashOk, imp_self]; done) | (simp; done)) (by first | (simp only [logOk, imp_self]; done) | (simp; done)) (by first | (simp only [ringOk, imp_self]; done) | (simp; done)) (by first | exact List.prefix_rfl | exact List.prefix_append _ _ | exact (List.prefix_append _ _).trans (List.prefix_append _ _))

theorem kuCtrlWrite_moves (w : Nat) (s : State) :
    Moves [.clk] s (kuCtrlWrite w s).2 := by
  unfold kuCtrlWrite
  iterate 14 all_goals try first
    | with_reducible exact Moves.refl _ _
    | dsimp only
    | assumption
    | with_reducible refine Moves.foldl (fun _ _ => ?_) _ _ _ ?_
    | split
    | refine Moves.at ?_ (fun q hq => by cases q <;> first | exact absurd (by decide) hq | simp only [Part.same]) (by first | (simp only [flashOk, imp_self]; done) | (simp; done)) (by first | (simp only [logOk, imp_self]; done) | (simp; done)) (by first | (simp only [ringOk, imp_self]; done) | (simp; done)) (by first | exact List.prefix_rfl | exact List.prefix_append _ _ | exact (List.prefix_append _ _).trans (List.prefix_append _ _))

theorem attCtrlWrite_moves (slot : Nat) (go : Bool) (s : State) :
    Moves [.thk, .clk, .hst, .out] s (attCtrlWrite slot go s).2 := by
  unfold attCtrlWrite
  iterate 14 all_goals try first
    | with_reducible exact Moves.refl _ _
    | dsimp only
    | assumption
    | with_reducible refine (State.raises_moves ..).to (by decide) ?_
    | with_reducible refine Moves.foldl (fun _ _ => ?_) _ _ _ ?_
    | split
    | refine Moves.at ?_ (fun q hq => by cases q <;> first | exact absurd (by decide) hq | simp only [Part.same]) (by first | (simp only [flashOk, imp_self]; done) | (simp; done)) (by first | (simp only [logOk, imp_self]; done) | (simp; done)) (by first | (simp only [ringOk, imp_self]; done) | (simp; done)) (by first | exact List.prefix_rfl | exact List.prefix_append _ _ | exact (List.prefix_append _ _).trans (List.prefix_append _ _))

theorem clkWrite_moves (o : Nat) (w : Nat) (s : State) {y} (h : clkWrite o w s = some y) :
    Moves [.thk, .clk, .hst, .hiCap, .out] s y.2 := by
  unfold clkWrite at h
  iterate 12 all_goals try first
    | (with_reducible obtain rfl := Option.some.inj h)
    | (with_reducible obtain rfl := rd_inj h)
    | (with_reducible exact absurd h.symm (Option.some_ne_none _))
    | with_reducible exact (roWrite_moves (h := h) ..).weaken (by decide)
    | with_reducible exact (clkRead_moves (h := h) ..).weaken (by decide)
    | dsimp only at h
    | split at h
  iterate 14 all_goals try first
    | with_reducible exact Moves.refl _ _
    | dsimp only
    | assumption
    | with_reducible refine (kuCtrlWrite_moves ..).to (by decide) ?_
    | with_reducible refine (attCtrlWrite_moves ..).to (by decide) ?_
    | exact (roWrite_moves (h := ‹_›) ..).weaken (by decide)
    | exact (clkRead_moves (h := ‹_›) ..).weaken (by decide)
    | with_reducible refine Moves.foldl (fun _ _ => ?_) _ _ _ ?_
    | split
    | refine Moves.at ?_ (fun q hq => by cases q <;> first | exact absurd (by decide) hq | simp only [Part.same]) (by first | (simp only [flashOk, imp_self]; done) | (simp; done)) (by first | (simp only [logOk, imp_self]; done) | (simp; done)) (by first | (simp only [ringOk, imp_self]; done) | (simp; done)) (by first | exact List.prefix_rfl | exact List.prefix_append _ _ | exact (List.prefix_append _ _).trans (List.prefix_append _ _))

theorem hstRead_moves (o : Nat) (s : State) {y} (h : hstRead o s = some y) :
    Moves [.fresh, .hst] s y.2 := by
  unfold hstRead at h
  iterate 12 all_goals try first
    | (with_reducible obtain rfl := Option.some.inj h)
    | (with_reducible obtain rfl := rd_inj h)
    | (with_reducible exact absurd h.symm (Option.some_ne_none _))
    | dsimp only at h
    | split at h
  iterate 14 all_goals try first
    | with_reducible exact Moves.refl _ _
    | dsimp only
    | assumption
    | with_reducible refine (State.free_moves ..).to (by decide) ?_
    | exact (rd_moves (h := ‹_›) ..).weaken (by decide)
    | with_reducible refine Moves.foldl (fun _ _ => ?_) _ _ _ ?_
    | split
    | refine Moves.at ?_ (fun q hq => by cases q <;> first | exact absurd (by decide) hq | simp only [Part.same]) (by first | (simp only [flashOk, imp_self]; done) | (simp; done)) (by first | (simp only [logOk, imp_self]; done) | (simp; done)) (by first | (simp only [ringOk, imp_self]; done) | (simp; done)) (by first | exact List.prefix_rfl | exact List.prefix_append _ _ | exact (List.prefix_append _ _).trans (List.prefix_append _ _))

theorem hstWrite_moves (o : Nat) (w : Nat) (s : State) {y} (h : hstWrite o w s = some y) :
    Moves [.fresh, .hst] s y.2 := by
  unfold hstWrite at h
  iterate 12 all_goals try first
    | (with_reducible obtain rfl := Option.some.inj h)
    | (with_reducible obtain rfl := rd_inj h)
    | (with_reducible exact absurd h.symm (Option.some_ne_none _))
    | with_reducible exact (roWrite_moves (h := h) ..).weaken (by decide)
    | with_reducible exact (hstRead_moves (h := h) ..).weaken (by decide)
    | dsimp only at h
    | split at h
  iterate 14 all_goals try first
    | with_reducible exact Moves.refl _ _
    | dsimp only
    | assumption
    | exact (roWrite_moves (h := ‹_›) ..).weaken (by decide)
    | exact (hstRead_moves (h := ‹_›) ..).weaken (by decide)
    | with_reducible refine Moves.foldl (fun _ _ => ?_) _ _ _ ?_
    | split
    | refine Moves.at ?_ (fun q hq => by cases q <;> first | exact absurd (by decide) hq | simp only [Part.same]) (by first | (simp only [flashOk, imp_self]; done) | (simp; done)) (by first | (simp only [logOk, imp_self]; done) | (simp; done)) (by first | (simp only [ringOk, imp_self]; done) | (simp; done)) (by first | exact List.prefix_rfl | exact List.prefix_append _ _ | exact (List.prefix_append _ _).trans (List.prefix_append _ _))

theorem mirRead_moves (base : Nat) (o : Nat) (lo : Nat → Bool) (m : List (Nat × Nat)) (s : State) {y} (h : mirRead base o lo m s = some y) :
    Moves [.hiCap] s y.2 := by
  unfold mirRead at h
  iterate 12 all_goals try first
    | (with_reducible obtain rfl := Option.some.inj h)
    | (with_reducible obtain rfl := rd_inj h)
    | (with_reducible exact absurd h.symm (Option.some_ne_none _))
    | with_reducible exact (rd64_moves (h := h) ..).weaken (by decide)
    | dsimp only at h
    | split at h
  iterate 14 all_goals try first
    | with_reducible exact Moves.refl _ _
    | dsimp only
    | assumption
    | exact (rd64_moves (h := ‹_›) ..).weaken (by decide)
    | exact (rd_moves (h := ‹_›) ..).weaken (by decide)
    | with_reducible refine Moves.foldl (fun _ _ => ?_) _ _ _ ?_
    | split
    | refine Moves.at ?_ (fun q hq => by cases q <;> first | exact absurd (by decide) hq | simp only [Part.same]) (by first | (simp only [flashOk, imp_self]; done) | (simp; done)) (by first | (simp only [logOk, imp_self]; done) | (simp; done)) (by first | (simp only [ringOk, imp_self]; done) | (simp; done)) (by first | exact List.prefix_rfl | exact List.prefix_append _ _ | exact (List.prefix_append _ _).trans (List.prefix_append _ _))

theorem slvRead_moves (o : Nat) (s : State) {y} (h : slvRead o s = some y) :
    Moves [.slvLink, .hiCap] s y.2 := by
  unfold slvRead at h
  iterate 12 all_goals try first
    | (with_reducible obtain rfl := Option.some.inj h)
    | (with_reducible obtain rfl := rd_inj h)
    | (with_reducible exact absurd h.symm (Option.some_ne_none _))
    | with_reducible exact (mirRead_moves (h := h) ..).weaken (by decide)
    | dsimp only at h
    | split at h
  iterate 14 all_goals try first
    | with_reducible exact Moves.refl _ _
    | dsimp only
    | assumption
    | exact (rd_moves (h := ‹_›) ..).weaken (by decide)
    | exact (mirRead_moves (h := ‹_›) ..).weaken (by decide)
    | with_reducible refine Moves.foldl (fun _ _ => ?_) _ _ _ ?_
    | split
    | refine Moves.at ?_ (fun q hq => by cases q <;> first | exact absurd (by decide) hq | simp only [Part.same]) (by first | (simp only [flashOk, imp_self]; done) | (simp; done)) (by first | (simp only [logOk, imp_self]; done) | (simp; done)) (by first | (simp only [ringOk, imp_self]; done) | (simp; done)) (by first | exact List.prefix_rfl | exact List.prefix_append _ _ | exact (List.prefix_append _ _).trans (List.prefix_append _ _))

theorem bilRead_moves (o : Nat) (s : State) {y} (h : bilRead o s = some y) :
    Moves [.hiCap] s y.2 := by
  unfold bilRead at h
  iterate 12 all_goals try first
    | (with_reducible obtain rfl := Option.some.inj h)
    | (with_reducible obtain rfl := rd_inj h)
    | (with_reducible exact absurd h.symm (Option.some_ne_none _))
    | with_reducible exact (mirRead_moves (h := h) ..).weaken (by decide)
    | dsimp only at h
    | split at h
  iterate 14 all_goals try first
    | with_reducible exact Moves.refl _ _
    | dsimp only
    | assumption
    | exact (rd_moves (h := ‹_›) ..).weaken (by decide)
    | exact (mirRead_moves (h := ‹_›) ..).weaken (by decide)
    | with_reducible refine Moves.foldl (fun _ _ => ?_) _ _ _ ?_
    | split
    | refine Moves.at ?_ (fun q hq => by cases q <;> first | exact absurd (by decide) hq | simp only [Part.same]) (by first | (simp only [flashOk, imp_self]; done) | (simp; done)) (by first | (simp only [logOk, imp_self]; done) | (simp; done)) (by first | (simp only [ringOk, imp_self]; done) | (simp; done)) (by first | exact List.prefix_rfl | exact List.prefix_append _ _ | exact (List.prefix_append _ _).trans (List.prefix_append _ _))

theorem slvWrite_moves (o : Nat) (s : State) {y} (h : slvWrite o s = some y) :
    Moves [.slvLink, .hiCap] s y.2 := by
  unfold slvWrite at h
  iterate 12 all_goals try first
    | (with_reducible obtain rfl := Option.some.inj h)
    | (with_reducible obtain rfl := rd_inj h)
    | (with_reducible exact absurd h.symm (Option.some_ne_none _))
    | with_reducible exact (roWrite_moves (h := h) ..).weaken (by decide)
    | with_reducible exact (slvRead_moves (h := h) ..).weaken (by decide)
    | dsimp only at h
    | split at h
  iterate 14 all_goals try first
    | with_reducible exact Moves.refl _ _
    | dsimp only
    | assumption
    | exact (roWrite_moves (h := ‹_›) ..).weaken (by decide)
    | exact (slvRead_moves (h := ‹_›) ..).weaken (by decide)
    | with_reducible refine Moves.foldl (fun _ _ => ?_) _ _ _ ?_
    | split
    | refine Moves.at ?_ (fun q hq => by cases q <;> first | exact absurd (by decide) hq | simp only [Part.same]) (by first | (simp only [flashOk, imp_self]; done) | (simp; done)) (by first | (simp only [logOk, imp_self]; done) | (simp; done)) (by first | (simp only [ringOk, imp_self]; done) | (simp; done)) (by first | exact List.prefix_rfl | exact List.prefix_append _ _ | exact (List.prefix_append _ _).trans (List.prefix_append _ _))

theorem bilWrite_moves (o : Nat) (s : State) {y} (h : bilWrite o s = some y) :
    Moves [.hiCap] s y.2 := by
  unfold bilWrite at h
  iterate 12 all_goals try first
    | (with_reducible obtain rfl := Option.some.inj h)
    | (with_reducible obtain rfl := rd_inj h)
    | (with_reducible exact absurd h.symm (Option.some_ne_none _))
    | with_reducible exact (roWrite_moves (h := h) ..).weaken (by decide)
    | with_reducible exact (bilRead_moves (h := h) ..).weaken (by decide)
    | dsimp only at h
    | split at h
  iterate 14 all_goals try first
    | with_reducible exact Moves.refl _ _
    | dsimp only
    | assumption
    | exact (roWrite_moves (h := ‹_›) ..).weaken (by decide)
    | exact (bilRead_moves (h := ‹_›) ..).weaken (by decide)
    | with_reducible refine Moves.foldl (fun _ _ => ?_) _ _ _ ?_
    | split
    | refine Moves.at ?_ (fun q hq => by cases q <;> first | exact absurd (by decide) hq | simp only [Part.same]) (by first | (simp only [flashOk, imp_self]; done) | (simp; done)) (by first | (simp only [logOk, imp_self]; done) | (simp; done)) (by first | (simp only [ringOk, imp_self]; done) | (simp; done)) (by first | exact List.prefix_rfl | exact List.prefix_append _ _ | exact (List.prefix_append _ _).trans (List.prefix_append _ _))

end Sys2Proof.Machine
end

