-- ==== Sys2Proof/Laws/MovesRegLinks.lean ====
section
/-! SUPPORT. What each operation of Machine/RegLinks.lean can change: at most the listed parts, and a safe state stays safe. -/

namespace Sys2Proof.Machine

theorem mbRead_moves (n : Nat) (o : Nat) (s : State) {y} (h : mbRead n o s = some y) :
    Moves [.mb] s y.2 := by
  unfold mbRead at h
  iterate 12 all_goals try first
    | (with_reducible obtain rfl := Option.some.inj h)
    | (with_reducible obtain rfl := rd_inj h)
    | (with_reducible exact absurd h.symm (Option.some_ne_none _))
    | dsimp only at h
    | split at h
  iterate 14 all_goals try first
    | with_reducible exact Moves.refl _ _
    | dsimp only
    | assumption
    | exact (rd_moves (h := ‹_›) ..).weaken (by decide)
    | with_reducible refine Moves.foldl (fun _ _ => ?_) _ _ _ ?_
    | split
    | refine Moves.at ?_ (fun q hq => by cases q <;> first | exact absurd (by decide) hq | simp only [Part.same]) (by first | (simp only [flashOk, imp_self]; done) | (simp; done)) (by first | (simp only [logOk, imp_self]; done) | (simp; done)) (by first | (simp only [ringOk, imp_self]; done) | (simp; done)) (by first | exact List.prefix_rfl | exact List.prefix_append _ _ | exact (List.prefix_append _ _).trans (List.prefix_append _ _))

theorem mbWrite_moves (n : Nat) (o : Nat) (w : Nat) (s : State) {y} (h : mbWrite n o w s = some y) :
    Moves [.mb] s y.2 := by
  unfold mbWrite at h
  iterate 12 all_goals try first
    | (with_reducible obtain rfl := Option.some.inj h)
    | (with_reducible obtain rfl := rd_inj h)
    | (with_reducible exact absurd h.symm (Option.some_ne_none _))
    | with_reducible exact (roWrite_moves (h := h) ..).weaken (by decide)
    | with_reducible exact (mbRead_moves (h := h) ..).weaken (by decide)
    | dsimp only at h
    | split at h
  iterate 14 all_goals try first
    | with_reducible exact Moves.refl _ _
    | dsimp only
    | assumption
    | exact (roWrite_moves (h := ‹_›) ..).weaken (by decide)
    | exact (mbRead_moves (h := ‹_›) ..).weaken (by decide)
    | with_reducible refine Moves.foldl (fun _ _ => ?_) _ _ _ ?_
    | split
    | refine Moves.at ?_ (fun q hq => by cases q <;> first | exact absurd (by decide) hq | simp only [Part.same]) (by first | (simp only [flashOk, imp_self]; done) | (simp; done)) (by first | (simp only [logOk, imp_self]; done) | (simp; done)) (by first | (simp only [ringOk, imp_self]; done) | (simp; done)) (by first | exact List.prefix_rfl | exact List.prefix_append _ _ | exact (List.prefix_append _ _).trans (List.prefix_append _ _))

theorem vpThermal_moves (n : Fin 12) (o : Nat) (s : State) {y} (h : vpThermal n o s = some y) :
    Moves [.twins] s y.2 := by
  unfold vpThermal at h
  iterate 12 all_goals try first
    | (with_reducible obtain rfl := Option.some.inj h)
    | (with_reducible obtain rfl := rd_inj h)
    | (with_reducible exact absurd h.symm (Option.some_ne_none _))
    | dsimp only at h
    | split at h
  iterate 14 all_goals try first
    | with_reducible exact Moves.refl _ _
    | dsimp only
    | assumption
    | exact (rd_moves (h := ‹_›) ..).weaken (by decide)
    | with_reducible refine (State.twinMod_moves ..).to (by decide) ?_
    | with_reducible refine Moves.foldl (fun _ _ => ?_) _ _ _ ?_
    | split
    | refine Moves.at ?_ (fun q hq => by cases q <;> first | exact absurd (by decide) hq | simp only [Part.same]) (by first | (simp only [flashOk, imp_self]; done) | (simp; done)) (by first | (simp only [logOk, imp_self]; done) | (simp; done)) (by first | (simp only [ringOk, imp_self]; done) | (simp; done)) (by first | exact List.prefix_rfl | exact List.prefix_append _ _ | exact (List.prefix_append _ _).trans (List.prefix_append _ _))

theorem vpRead_moves (n : Fin 12) (o : Nat) (s : State) {y} (h : vpRead n o s = some y) :
    Moves [.ports, .twins] s y.2 := by
  unfold vpRead at h
  iterate 12 all_goals try first
    | (with_reducible obtain rfl := Option.some.inj h)
    | (with_reducible obtain rfl := rd_inj h)
    | (with_reducible exact absurd h.symm (Option.some_ne_none _))
    | with_reducible exact (vpThermal_moves (h := h) ..).weaken (by decide)
    | dsimp only at h
    | split at h
  iterate 14 all_goals try first
    | with_reducible exact Moves.refl _ _
    | dsimp only
    | assumption
    | exact (rd_moves (h := ‹_›) ..).weaken (by decide)
    | exact (vpThermal_moves (h := ‹_›) ..).weaken (by decide)
    | with_reducible refine Moves.foldl (fun _ _ => ?_) _ _ _ ?_
    | split
    | refine Moves.at ?_ (fun q hq => by cases q <;> first | exact absurd (by decide) hq | simp only [Part.same]) (by first | (simp only [flashOk, imp_self]; done) | (simp; done)) (by first | (simp only [logOk, imp_self]; done) | (simp; done)) (by first | (simp only [ringOk, imp_self]; done) | (simp; done)) (by first | exact List.prefix_rfl | exact List.prefix_append _ _ | exact (List.prefix_append _ _).trans (List.prefix_append _ _))

theorem vpEnable_moves (n : Fin 12) (b : Bool) (s : State) :
    Moves [.fresh, .thk, .ports, .v2g, .slvLink, .slvCtr, .cuf, .clk, .hst, .sessNext, .sessTop, .out] s (vpEnable n b s).2 := by
  unfold vpEnable
  iterate 14 all_goals try first
    | with_reducible exact Moves.refl _ _
    | dsimp only
    | assumption
    | with_reducible refine (State.portDo_moves ..).to (by decide) ?_
    | with_reducible refine Moves.foldl (fun _ _ => ?_) _ _ _ ?_
    | split
    | refine Moves.at ?_ (fun q hq => by cases q <;> first | exact absurd (by decide) hq | simp only [Part.same]) (by first | (simp only [flashOk, imp_self]; done) | (simp; done)) (by first | (simp only [logOk, imp_self]; done) | (simp; done)) (by first | (simp only [ringOk, imp_self]; done) | (simp; done)) (by first | exact List.prefix_rfl | exact List.prefix_append _ _ | exact (List.prefix_append _ _).trans (List.prefix_append _ _))

theorem vpStop_moves (n : Fin 12) (s : State) :
    Moves [.fresh, .thk, .ports, .v2g, .slvLink, .slvCtr, .cuf, .clk, .hst, .sessNext, .sessTop, .out] s (vpStop n s).2 := by
  unfold vpStop
  iterate 14 all_goals try first
    | with_reducible exact Moves.refl _ _
    | dsimp only
    | assumption
    | with_reducible refine (State.portDo_moves ..).to (by decide) ?_
    | with_reducible refine Moves.foldl (fun _ _ => ?_) _ _ _ ?_
    | split
    | refine Moves.at ?_ (fun q hq => by cases q <;> first | exact absurd (by decide) hq | simp only [Part.same]) (by first | (simp only [flashOk, imp_self]; done) | (simp; done)) (by first | (simp only [logOk, imp_self]; done) | (simp; done)) (by first | (simp only [ringOk, imp_self]; done) | (simp; done)) (by first | exact List.prefix_rfl | exact List.prefix_append _ _ | exact (List.prefix_append _ _).trans (List.prefix_append _ _))

theorem vpClrLock_moves (n : Fin 12) (s : State) :
    Moves [.fresh, .thk, .ports, .v2g, .slvLink, .slvCtr, .cuf, .clk, .hst, .sessNext, .sessTop, .out] s (vpClrLock n s).2 := by
  unfold vpClrLock
  iterate 14 all_goals try first
    | with_reducible exact Moves.refl _ _
    | dsimp only
    | assumption
    | with_reducible refine (State.portDo_moves ..).to (by decide) ?_
    | with_reducible refine Moves.foldl (fun _ _ => ?_) _ _ _ ?_
    | split
    | refine Moves.at ?_ (fun q hq => by cases q <;> first | exact absurd (by decide) hq | simp only [Part.same]) (by first | (simp only [flashOk, imp_self]; done) | (simp; done)) (by first | (simp only [logOk, imp_self]; done) | (simp; done)) (by first | (simp only [ringOk, imp_self]; done) | (simp; done)) (by first | exact List.prefix_rfl | exact List.prefix_append _ _ | exact (List.prefix_append _ _).trans (List.prefix_append _ _))

theorem vpCtrlWrite_moves (n : Fin 12) (w : Nat) (s : State) :
    Moves [.fresh, .thk, .ports, .v2g, .slvLink, .slvCtr, .cuf, .clk, .hst, .sessNext, .sessTop, .out] s (vpCtrlWrite n w s).2 := by
  unfold vpCtrlWrite
  iterate 14 all_goals try first
    | with_reducible exact Moves.refl _ _
    | dsimp only
    | assumption
    | with_reducible refine (vpStop_moves ..).to (by decide) ?_
    | with_reducible refine (vpClrLock_moves ..).to (by decide) ?_
    | with_reducible refine (vpEnable_moves ..).to (by decide) ?_
    | with_reducible refine Moves.foldl (fun _ _ => ?_) _ _ _ ?_
    | split
    | refine Moves.at ?_ (fun q hq => by cases q <;> first | exact absurd (by decide) hq | simp only [Part.same]) (by first | (simp only [flashOk, imp_self]; done) | (simp; done)) (by first | (simp only [logOk, imp_self]; done) | (simp; done)) (by first | (simp only [ringOk, imp_self]; done) | (simp; done)) (by first | exact List.prefix_rfl | exact List.prefix_append _ _ | exact (List.prefix_append _ _).trans (List.prefix_append _ _))

theorem vpBptWrite_moves (n : Fin 12) (w : Nat) (s : State) :
    Moves [.fresh, .thk, .ports, .v2g, .slvLink, .slvCtr, .cuf, .clk, .hst, .sessNext, .sessTop, .out] s (vpBptWrite n w s).2 := by
  unfold vpBptWrite
  iterate 14 all_goals try first
    | with_reducible exact Moves.refl _ _
    | dsimp only
    | assumption
    | with_reducible refine (State.portDo_moves ..).to (by decide) ?_
    | with_reducible refine Moves.foldl (fun _ _ => ?_) _ _ _ ?_
    | split
    | refine Moves.at ?_ (fun q hq => by cases q <;> first | exact absurd (by decide) hq | simp only [Part.same]) (by first | (simp only [flashOk, imp_self]; done) | (simp; done)) (by first | (simp only [logOk, imp_self]; done) | (simp; done)) (by first | (simp only [ringOk, imp_self]; done) | (simp; done)) (by first | exact List.prefix_rfl | exact List.prefix_append _ _ | exact (List.prefix_append _ _).trans (List.prefix_append _ _))

theorem vpWrite_moves (n : Fin 12) (o : Nat) (w : Nat) (s : State) {y} (h : vpWrite n o w s = some y) :
    Moves [.fresh, .thk, .ports, .v2g, .twins, .slvLink, .slvCtr, .cuf, .clk, .hst, .sessNext, .sessTop, .out] s y.2 := by
  unfold vpWrite at h
  iterate 12 all_goals try first
    | (with_reducible obtain rfl := Option.some.inj h)
    | (with_reducible obtain rfl := rd_inj h)
    | (with_reducible exact absurd h.symm (Option.some_ne_none _))
    | with_reducible exact (roWrite_moves (h := h) ..).weaken (by decide)
    | with_reducible exact (vpRead_moves (h := h) ..).weaken (by decide)
    | dsimp only at h
    | split at h
  iterate 14 all_goals try first
    | with_reducible exact Moves.refl _ _
    | dsimp only
    | assumption
    | with_reducible refine (vpCtrlWrite_moves ..).to (by decide) ?_
    | with_reducible refine (vpBptWrite_moves ..).to (by decide) ?_
    | exact (roWrite_moves (h := ‹_›) ..).weaken (by decide)
    | exact (vpRead_moves (h := ‹_›) ..).weaken (by decide)
    | with_reducible refine Moves.foldl (fun _ _ => ?_) _ _ _ ?_
    | split
    | refine Moves.at ?_ (fun q hq => by cases q <;> first | exact absurd (by decide) hq | simp only [Part.same]) (by first | (simp only [flashOk, imp_self]; done) | (simp; done)) (by first | (simp only [logOk, imp_self]; done) | (simp; done)) (by first | (simp only [ringOk, imp_self]; done) | (simp; done)) (by first | exact List.prefix_rfl | exact List.prefix_append _ _ | exact (List.prefix_append _ _).trans (List.prefix_append _ _))

theorem cpcLoopRead_moves (n : Nat) (r : Nat) (s : State) {y} (h : cpcLoopRead n r s = some y) :
    Moves [.cpc] s y.2 := by
  unfold cpcLoopRead at h
  iterate 12 all_goals try first
    | (with_reducible obtain rfl := Option.some.inj h)
    | (with_reducible obtain rfl := rd_inj h)
    | (with_reducible exact absurd h.symm (Option.some_ne_none _))
    | dsimp only at h
    | split at h
  iterate 14 all_goals try first
    | with_reducible exact Moves.refl _ _
    | dsimp only
    | assumption
    | exact (rd_moves (h := ‹_›) ..).weaken (by decide)
    | with_reducible refine Moves.foldl (fun _ _ => ?_) _ _ _ ?_
    | split
    | refine Moves.at ?_ (fun q hq => by cases q <;> first | exact absurd (by decide) hq | simp only [Part.same]) (by first | (simp only [flashOk, imp_self]; done) | (simp; done)) (by first | (simp only [logOk, imp_self]; done) | (simp; done)) (by first | (simp only [ringOk, imp_self]; done) | (simp; done)) (by first | exact List.prefix_rfl | exact List.prefix_append _ _ | exact (List.prefix_append _ _).trans (List.prefix_append _ _))

theorem cpcRead_moves (o : Nat) (s : State) {y} (h : cpcRead o s = some y) :
    Moves [.cpc] s y.2 := by
  unfold cpcRead at h
  iterate 12 all_goals try first
    | (with_reducible obtain rfl := Option.some.inj h)
    | (with_reducible obtain rfl := rd_inj h)
    | (with_reducible exact absurd h.symm (Option.some_ne_none _))
    | with_reducible exact (cpcLoopRead_moves (h := h) ..).weaken (by decide)
    | dsimp only at h
    | split at h
  iterate 14 all_goals try first
    | with_reducible exact Moves.refl _ _
    | dsimp only
    | assumption
    | exact (cpcLoopRead_moves (h := ‹_›) ..).weaken (by decide)
    | exact (rd_moves (h := ‹_›) ..).weaken (by decide)
    | with_reducible refine Moves.foldl (fun _ _ => ?_) _ _ _ ?_
    | split
    | refine Moves.at ?_ (fun q hq => by cases q <;> first | exact absurd (by decide) hq | simp only [Part.same]) (by first | (simp only [flashOk, imp_self]; done) | (simp; done)) (by first | (simp only [logOk, imp_self]; done) | (simp; done)) (by first | (simp only [ringOk, imp_self]; done) | (simp; done)) (by first | exact List.prefix_rfl | exact List.prefix_append _ _ | exact (List.prefix_append _ _).trans (List.prefix_append _ _))

theorem State.cpcPut_moves (r : Coppice × Bool) (s : State) :
    Moves [.thk, .cpc, .hst, .out] s (State.cpcPut r s) := by
  unfold State.cpcPut
  iterate 14 all_goals try first
    | with_reducible exact Moves.refl _ _
    | dsimp only
    | assumption
    | with_reducible refine (State.raise_moves ..).to (by decide) ?_
    | with_reducible refine Moves.foldl (fun _ _ => ?_) _ _ _ ?_
    | split
    | refine Moves.at ?_ (fun q hq => by cases q <;> first | exact absurd (by decide) hq | simp only [Part.same]) (by first | (simp only [flashOk, imp_self]; done) | (simp; done)) (by first | (simp only [logOk, imp_self]; done) | (simp; done)) (by first | (simp only [ringOk, imp_self]; done) | (simp; done)) (by first | exact List.prefix_rfl | exact List.prefix_append _ _ | exact (List.prefix_append _ _).trans (List.prefix_append _ _))

theorem State.twinPut_moves (p : Fin 12) (w : Twin) (s : State) :
    Moves [.thk, .twins, .cpc, .hst, .out] s (State.twinPut p w s) := by
  unfold State.twinPut
  iterate 14 all_goals try first
    | with_reducible exact Moves.refl _ _
    | dsimp only
    | assumption
    | with_reducible refine (State.twinMod_moves ..).to (by decide) ?_
    | with_reducible refine (State.cpcPut_moves ..).to (by decide) ?_
    | with_reducible refine Moves.foldl (fun _ _ => ?_) _ _ _ ?_
    | split
    | refine Moves.at ?_ (fun q hq => by cases q <;> first | exact absurd (by decide) hq | simp only [Part.same]) (by first | (simp only [flashOk, imp_self]; done) | (simp; done)) (by first | (simp only [logOk, imp_self]; done) | (simp; done)) (by first | (simp only [ringOk, imp_self]; done) | (simp; done)) (by first | exact List.prefix_rfl | exact List.prefix_append _ _ | exact (List.prefix_append _ _).trans (List.prefix_append _ _))

theorem injCtrlWrite_moves (w : Nat) (s : State) :
    Moves [.thk, .cpc, .hst, .out] s (injCtrlWrite w s).2 := by
  unfold injCtrlWrite
  iterate 14 all_goals try first
    | with_reducible exact Moves.refl _ _
    | dsimp only
    | assumption
    | with_reducible refine (State.cpcPut_moves ..).to (by decide) ?_
    | with_reducible refine Moves.foldl (fun _ _ => ?_) _ _ _ ?_
    | split
    | refine Moves.at ?_ (fun q hq => by cases q <;> first | exact absurd (by decide) hq | simp only [Part.same]) (by first | (simp only [flashOk, imp_self]; done) | (simp; done)) (by first | (simp only [logOk, imp_self]; done) | (simp; done)) (by first | (simp only [ringOk, imp_self]; done) | (simp; done)) (by first | exact List.prefix_rfl | exact List.prefix_append _ _ | exact (List.prefix_append _ _).trans (List.prefix_append _ _))

theorem cpcModeWrite_moves (n : Nat) (w : Nat) (s : State) :
    Moves [.thk, .cpc, .hst, .out] s (cpcModeWrite n w s).2 := by
  unfold cpcModeWrite
  iterate 14 all_goals try first
    | with_reducible exact Moves.refl _ _
    | dsimp only
    | assumption
    | with_reducible refine (State.cpcPut_moves ..).to (by decide) ?_
    | with_reducible refine Moves.foldl (fun _ _ => ?_) _ _ _ ?_
    | split
    | refine Moves.at ?_ (fun q hq => by cases q <;> first | exact absurd (by decide) hq | simp only [Part.same]) (by first | (simp only [flashOk, imp_self]; done) | (simp; done)) (by first | (simp only [logOk, imp_self]; done) | (simp; done)) (by first | (simp only [ringOk, imp_self]; done) | (simp; done)) (by first | exact List.prefix_rfl | exact List.prefix_append _ _ | exact (List.prefix_append _ _).trans (List.prefix_append _ _))

theorem cpcCoeffWrite_moves (n : Nat) (k : LoopCoeff) (w : Nat) (s : State) :
    Moves [.cpc] s (cpcCoeffWrite n k w s).2 := by
  unfold cpcCoeffWrite
  iterate 14 all_goals try first
    | with_reducible exact Moves.refl _ _
    | dsimp only
    | assumption
    | with_reducible refine Moves.foldl (fun _ _ => ?_) _ _ _ ?_
    | split
    | refine Moves.at ?_ (fun q hq => by cases q <;> first | exact absurd (by decide) hq | simp only [Part.same]) (by first | (simp only [flashOk, imp_self]; done) | (simp; done)) (by first | (simp only [logOk, imp_self]; done) | (simp; done)) (by first | (simp only [ringOk, imp_self]; done) | (simp; done)) (by first | exact List.prefix_rfl | exact List.prefix_append _ _ | exact (List.prefix_append _ _).trans (List.prefix_append _ _))

theorem cpcManWrite_moves (n : Nat) (w : Nat) (s : State) :
    Moves [.cpc] s (cpcManWrite n w s).2 := by
  unfold cpcManWrite
  iterate 14 all_goals try first
    | with_reducible exact Moves.refl _ _
    | dsimp only
    | assumption
    | with_reducible refine Moves.foldl (fun _ _ => ?_) _ _ _ ?_
    | split
    | refine Moves.at ?_ (fun q hq => by cases q <;> first | exact absurd (by decide) hq | simp only [Part.same]) (by first | (simp only [flashOk, imp_self]; done) | (simp; done)) (by first | (simp only [logOk, imp_self]; done) | (simp; done)) (by first | (simp only [ringOk, imp_self]; done) | (simp; done)) (by first | exact List.prefix_rfl | exact List.prefix_append _ _ | exact (List.prefix_append _ _).trans (List.prefix_append _ _))

theorem cpcPvhWrite_moves (n : Nat) (w : Nat) (s : State) :
    Moves [.cpc] s (cpcPvhWrite n w s).2 := by
  unfold cpcPvhWrite
  iterate 14 all_goals try first
    | with_reducible exact Moves.refl _ _
    | dsimp only
    | assumption
    | with_reducible refine Moves.foldl (fun _ _ => ?_) _ _ _ ?_
    | split
    | refine Moves.at ?_ (fun q hq => by cases q <;> first | exact absurd (by decide) hq | simp only [Part.same]) (by first | (simp only [flashOk, imp_self]; done) | (simp; done)) (by first | (simp only [logOk, imp_self]; done) | (simp; done)) (by first | (simp only [ringOk, imp_self]; done) | (simp; done)) (by first | exact List.prefix_rfl | exact List.prefix_append _ _ | exact (List.prefix_append _ _).trans (List.prefix_append _ _))

theorem cpcLoopWrite_moves (n : Nat) (r : Nat) (w : Nat) (s : State) {y} (h : cpcLoopWrite n r w s = some y) :
    Moves [.thk, .cpc, .hst, .out] s y.2 := by
  unfold cpcLoopWrite at h
  iterate 12 all_goals try first
    | (with_reducible obtain rfl := Option.some.inj h)
    | (with_reducible obtain rfl := rd_inj h)
    | (with_reducible exact absurd h.symm (Option.some_ne_none _))
    | with_reducible exact (roWrite_moves (h := h) ..).weaken (by decide)
    | with_reducible exact (cpcLoopRead_moves (h := h) ..).weaken (by decide)
    | dsimp only at h
    | split at h
  iterate 14 all_goals try first
    | with_reducible exact Moves.refl _ _
    | dsimp only
    | assumption
    | with_reducible refine (cpcModeWrite_moves ..).to (by decide) ?_
    | with_reducible refine (cpcCoeffWrite_moves ..).to (by decide) ?_
    | with_reducible refine (cpcManWrite_moves ..).to (by decide) ?_
    | with_reducible refine (cpcPvhWrite_moves ..).to (by decide) ?_
    | exact (roWrite_moves (h := ‹_›) ..).weaken (by decide)
    | exact (cpcLoopRead_moves (h := ‹_›) ..).weaken (by decide)
    | with_reducible refine Moves.foldl (fun _ _ => ?_) _ _ _ ?_
    | split
    | refine Moves.at ?_ (fun q hq => by cases q <;> first | exact absurd (by decide) hq | simp only [Part.same]) (by first | (simp only [flashOk, imp_self]; done) | (simp; done)) (by first | (simp only [logOk, imp_self]; done) | (simp; done)) (by first | (simp only [ringOk, imp_self]; done) | (simp; done)) (by first | exact List.prefix_rfl | exact List.prefix_append _ _ | exact (List.prefix_append _ _).trans (List.prefix_append _ _))

theorem injFloat_moves (w : Nat) (c : Coppice) (s : State) {y} (h : injFloat w c s = some y) :
    Moves [.cpc] s y.2 := by
  unfold injFloat at h
  iterate 12 all_goals try first
    | (with_reducible obtain rfl := Option.some.inj h)
    | (with_reducible obtain rfl := rd_inj h)
    | (with_reducible exact absurd h.symm (Option.some_ne_none _))
    | dsimp only at h
    | split at h
  iterate 14 all_goals try first
    | with_reducible exact Moves.refl _ _
    | dsimp only
    | assumption
    | with_reducible refine Moves.foldl (fun _ _ => ?_) _ _ _ ?_
    | split
    | refine Moves.at ?_ (fun q hq => by cases q <;> first | exact absurd (by decide) hq | simp only [Part.same]) (by first | (simp only [flashOk, imp_self]; done) | (simp; done)) (by first | (simp only [logOk, imp_self]; done) | (simp; done)) (by first | (simp only [ringOk, imp_self]; done) | (simp; done)) (by first | exact List.prefix_rfl | exact List.prefix_append _ _ | exact (List.prefix_append _ _).trans (List.prefix_append _ _))

theorem cpcWrite_moves (o : Nat) (w : Nat) (s : State) {y} (h : cpcWrite o w s = some y) :
    Moves [.thk, .cpc, .hst, .out] s y.2 := by
  unfold cpcWrite at h
  iterate 12 all_goals try first
    | (with_reducible obtain rfl := Option.some.inj h)
    | (with_reducible obtain rfl := rd_inj h)
    | (with_reducible exact absurd h.symm (Option.some_ne_none _))
    | with_reducible exact (cpcLoopWrite_moves (h := h) ..).weaken (by decide)
    | with_reducible exact (injFloat_moves (h := h) ..).weaken (by decide)
    | with_reducible exact (roWrite_moves (h := h) ..).weaken (by decide)
    | with_reducible exact (cpcRead_moves (h := h) ..).weaken (by decide)
    | dsimp only at h
    | split at h
  iterate 14 all_goals try first
    | with_reducible exact Moves.refl _ _
    | dsimp only
    | assumption
    | exact (cpcLoopWrite_moves (h := ‹_›) ..).weaken (by decide)
    | with_reducible refine (injCtrlWrite_moves ..).to (by decide) ?_
    | exact (injFloat_moves (h := ‹_›) ..).weaken (by decide)
    | exact (roWrite_moves (h := ‹_›) ..).weaken (by decide)
    | exact (cpcRead_moves (h := ‹_›) ..).weaken (by decide)
    | with_reducible refine Moves.foldl (fun _ _ => ?_) _ _ _ ?_
    | split
    | refine Moves.at ?_ (fun q hq => by cases q <;> first | exact absurd (by decide) hq | simp only [Part.same]) (by first | (simp only [flashOk, imp_self]; done) | (simp; done)) (by first | (simp only [logOk, imp_self]; done) | (simp; done)) (by first | (simp only [ringOk, imp_self]; done) | (simp; done)) (by first | exact List.prefix_rfl | exact List.prefix_append _ _ | exact (List.prefix_append _ _).trans (List.prefix_append _ _))

end Sys2Proof.Machine
end

