-- ==== Sys2Proof/Laws/MovesRegPower.lean ====
section
/-! SUPPORT. What each operation of Machine/RegPower.lean can change: at most the listed parts, and a safe state stays safe. -/

namespace Sys2Proof.Machine

theorem cnpReadFixed_moves (o : Nat) (s : State) {y} (h : cnpReadFixed o s = some y) :
    Moves [.cnp] s y.2 := by
  unfold cnpReadFixed at h
  iterate 12 all_goals try first
    | (with_reducible obtain rfl := Option.some.inj h)
    | (with_reducible obtain rfl := rd_inj h)
    | (with_reducible exact absurd h.symm (Option.some_ne_none _))
    | dsimp only at h
    | split at h
  iterate 14 all_goals try first
    | with_reducible exact Moves.refl _ _
    | dsimp only
    | assumption
    | exact (rd_moves (h := ‹_›) ..).weaken (by decide)
    | with_reducible refine Moves.foldl (fun _ _ => ?_) _ _ _ ?_
    | split
    | refine Moves.at ?_ (fun q hq => by cases q <;> first | exact absurd (by decide) hq | simp only [Part.same]) (by first | (simp only [flashOk, imp_self]; done) | (simp; done)) (by first | (simp only [logOk, imp_self]; done) | (simp; done)) (by first | (simp only [ringOk, imp_self]; done) | (simp; done)) (by first | exact List.prefix_rfl | exact List.prefix_append _ _ | exact (List.prefix_append _ _).trans (List.prefix_append _ _))

theorem cnpRead_moves (o : Nat) (s : State) {y} (h : cnpRead o s = some y) :
    Moves [.cnp] s y.2 := by
  unfold cnpRead at h
  iterate 12 all_goals try first
    | (with_reducible obtain rfl := Option.some.inj h)
    | (with_reducible obtain rfl := rd_inj h)
    | (with_reducible exact absurd h.symm (Option.some_ne_none _))
    | with_reducible exact (cnpReadFixed_moves (h := h) ..).weaken (by decide)
    | dsimp only at h
    | split at h
  iterate 14 all_goals try first
    | with_reducible exact Moves.refl _ _
    | dsimp only
    | assumption
    | exact (rd_moves (h := ‹_›) ..).weaken (by decide)
    | exact (cnpReadFixed_moves (h := ‹_›) ..).weaken (by decide)
    | with_reducible refine Moves.foldl (fun _ _ => ?_) _ _ _ ?_
    | split
    | refine Moves.at ?_ (fun q hq => by cases q <;> first | exact absurd (by decide) hq | simp only [Part.same]) (by first | (simp only [flashOk, imp_self]; done) | (simp; done)) (by first | (simp only [logOk, imp_self]; done) | (simp; done)) (by first | (simp only [ringOk, imp_self]; done) | (simp; done)) (by first | exact List.prefix_rfl | exact List.prefix_append _ _ | exact (List.prefix_append _ _).trans (List.prefix_append _ _))

theorem cnpCtrlWrite_moves (w : Nat) (s : State) :
    Moves [.cnp] s (cnpCtrlWrite w s).2 := by
  unfold cnpCtrlWrite
  iterate 14 all_goals try first
    | with_reducible exact Moves.refl _ _
    | dsimp only
    | assumption
    | with_reducible refine Moves.foldl (fun _ _ => ?_) _ _ _ ?_
    | split
    | refine Moves.at ?_ (fun q hq => by cases q <;> first | exact absurd (by decide) hq | simp only [Part.same]) (by first | (simp only [flashOk, imp_self]; done) | (simp; done)) (by first | (simp only [logOk, imp_self]; done) | (simp; done)) (by first | (simp only [ringOk, imp_self]; done) | (simp; done)) (by first | exact List.prefix_rfl | exact List.prefix_append _ _ | exact (List.prefix_append _ _).trans (List.prefix_append _ _))

theorem pmeasWrite_moves (w : Nat) (s : State) :
    Moves [.cnp] s (pmeasWrite w s).2 := by
  unfold pmeasWrite
  iterate 14 all_goals try first
    | with_reducible exact Moves.refl _ _
    | dsimp only
    | assumption
    | with_reducible refine (State.measure_moves ..).to (by decide) ?_
    | with_reducible refine Moves.foldl (fun _ _ => ?_) _ _ _ ?_
    | split
    | refine Moves.at ?_ (fun q hq => by cases q <;> first | exact absurd (by decide) hq | simp only [Part.same]) (by first | (simp only [flashOk, imp_self]; done) | (simp; done)) (by first | (simp only [logOk, imp_self]; done) | (simp; done)) (by first | (simp only [ringOk, imp_self]; done) | (simp; done)) (by first | exact List.prefix_rfl | exact List.prefix_append _ _ | exact (List.prefix_append _ _).trans (List.prefix_append _ _))

theorem bufSocWrite_moves (w : Nat) (s : State) :
    Moves [.cnp] s (bufSocWrite w s).2 := by
  unfold bufSocWrite
  iterate 14 all_goals try first
    | with_reducible exact Moves.refl _ _
    | dsimp only
    | assumption
    | with_reducible refine Moves.foldl (fun _ _ => ?_) _ _ _ ?_
    | split
    | refine Moves.at ?_ (fun q hq => by cases q <;> first | exact absurd (by decide) hq | simp only [Part.same]) (by first | (simp only [flashOk, imp_self]; done) | (simp; done)) (by first | (simp only [logOk, imp_self]; done) | (simp; done)) (by first | (simp only [ringOk, imp_self]; done) | (simp; done)) (by first | exact List.prefix_rfl | exact List.prefix_append _ _ | exact (List.prefix_append _ _).trans (List.prefix_append _ _))

theorem bufRefWrite_moves (w : Nat) (s : State) :
    Moves [.cnp] s (bufRefWrite w s).2 := by
  unfold bufRefWrite
  iterate 14 all_goals try first
    | with_reducible exact Moves.refl _ _
    | dsimp only
    | assumption
    | with_reducible refine Moves.foldl (fun _ _ => ?_) _ _ _ ?_
    | split
    | refine Moves.at ?_ (fun q hq => by cases q <;> first | exact absurd (by decide) hq | simp only [Part.same]) (by first | (simp only [flashOk, imp_self]; done) | (simp; done)) (by first | (simp only [logOk, imp_self]; done) | (simp; done)) (by first | (simp only [ringOk, imp_self]; done) | (simp; done)) (by first | exact List.prefix_rfl | exact List.prefix_append _ _ | exact (List.prefix_append _ _).trans (List.prefix_append _ _))

theorem cnpWrite_moves (o : Nat) (w : Nat) (s : State) {y} (h : cnpWrite o w s = some y) :
    Moves [.cnp] s y.2 := by
  unfold cnpWrite at h
  iterate 12 all_goals try first
    | (with_reducible obtain rfl := Option.some.inj h)
    | (with_reducible obtain rfl := rd_inj h)
    | (with_reducible exact absurd h.symm (Option.some_ne_none _))
    | with_reducible exact (roWrite_moves (h := h) ..).weaken (by decide)
    | with_reducible exact (cnpRead_moves (h := h) ..).weaken (by decide)
    | dsimp only at h
    | split at h
  iterate 14 all_goals try first
    | with_reducible exact Moves.refl _ _
    | dsimp only
    | assumption
    | with_reducible refine (cnpCtrlWrite_moves ..).to (by decide) ?_
    | with_reducible refine (pmeasWrite_moves ..).to (by decide) ?_
    | with_reducible refine (bufSocWrite_moves ..).to (by decide) ?_
    | with_reducible refine (bufRefWrite_moves ..).to (by decide) ?_
    | exact (roWrite_moves (h := ‹_›) ..).weaken (by decide)
    | exact (cnpRead_moves (h := ‹_›) ..).weaken (by decide)
    | with_reducible refine Moves.foldl (fun _ _ => ?_) _ _ _ ?_
    | split
    | refine Moves.at ?_ (fun q hq => by cases q <;> first | exact absurd (by decide) hq | simp only [Part.same]) (by first | (simp only [flashOk, imp_self]; done) | (simp; done)) (by first | (simp only [logOk, imp_self]; done) | (simp; done)) (by first | (simp only [ringOk, imp_self]; done) | (simp; done)) (by first | exact List.prefix_rfl | exact List.prefix_append _ _ | exact (List.prefix_append _ _).trans (List.prefix_append _ _))

theorem cufChRead_moves (n : Nat) (r : Nat) (s : State) :
    Moves [.cuf] s (cufChRead n r s).2 := by
  unfold cufChRead
  iterate 14 all_goals try first
    | with_reducible exact Moves.refl _ _
    | dsimp only
    | assumption
    | with_reducible refine Moves.foldl (fun _ _ => ?_) _ _ _ ?_
    | split
    | refine Moves.at ?_ (fun q hq => by cases q <;> first | exact absurd (by decide) hq | simp only [Part.same]) (by first | (simp only [flashOk, imp_self]; done) | (simp; done)) (by first | (simp only [logOk, imp_self]; done) | (simp; done)) (by first | (simp only [ringOk, imp_self]; done) | (simp; done)) (by first | exact List.prefix_rfl | exact List.prefix_append _ _ | exact (List.prefix_append _ _).trans (List.prefix_append _ _))

theorem cufRead_moves (o : Nat) (s : State) {y} (h : cufRead o s = some y) :
    Moves [.cuf] s y.2 := by
  unfold cufRead at h
  iterate 12 all_goals try first
    | (with_reducible obtain rfl := Option.some.inj h)
    | (with_reducible obtain rfl := rd_inj h)
    | (with_reducible exact absurd h.symm (Option.some_ne_none _))
    | dsimp only at h
    | split at h
  iterate 14 all_goals try first
    | with_reducible exact Moves.refl _ _
    | dsimp only
    | assumption
    | with_reducible refine (cufChRead_moves ..).to (by decide) ?_
    | exact (rd_moves (h := ‹_›) ..).weaken (by decide)
    | with_reducible refine Moves.foldl (fun _ _ => ?_) _ _ _ ?_
    | split
    | refine Moves.at ?_ (fun q hq => by cases q <;> first | exact absurd (by decide) hq | simp only [Part.same]) (by first | (simp only [flashOk, imp_self]; done) | (simp; done)) (by first | (simp only [logOk, imp_self]; done) | (simp; done)) (by first | (simp only [ringOk, imp_self]; done) | (simp; done)) (by first | exact List.prefix_rfl | exact List.prefix_append _ _ | exact (List.prefix_append _ _).trans (List.prefix_append _ _))

theorem cufClrWrite_moves (w : Nat) (s : State) :
    Moves [.cuf] s (cufClrWrite w s).2 := by
  unfold cufClrWrite
  iterate 14 all_goals try first
    | with_reducible exact Moves.refl _ _
    | dsimp only
    | assumption
    | with_reducible refine Moves.foldl (fun _ _ => ?_) _ _ _ ?_
    | split
    | refine Moves.at ?_ (fun q hq => by cases q <;> first | exact absurd (by decide) hq | simp only [Part.same]) (by first | (simp only [flashOk, imp_self]; done) | (simp; done)) (by first | (simp only [logOk, imp_self]; done) | (simp; done)) (by first | (simp only [ringOk, imp_self]; done) | (simp; done)) (by first | exact List.prefix_rfl | exact List.prefix_append _ _ | exact (List.prefix_append _ _).trans (List.prefix_append _ _))

theorem cufChWrite_moves (n : Nat) (w : Nat) (s : State) :
    Moves [.cuf] s (cufChWrite n w s).2 := by
  unfold cufChWrite
  iterate 14 all_goals try first
    | with_reducible exact Moves.refl _ _
    | dsimp only
    | assumption
    | with_reducible refine Moves.foldl (fun _ _ => ?_) _ _ _ ?_
    | split
    | refine Moves.at ?_ (fun q hq => by cases q <;> first | exact absurd (by decide) hq | simp only [Part.same]) (by first | (simp only [flashOk, imp_self]; done) | (simp; done)) (by first | (simp only [logOk, imp_self]; done) | (simp; done)) (by first | (simp only [ringOk, imp_self]; done) | (simp; done)) (by first | exact List.prefix_rfl | exact List.prefix_append _ _ | exact (List.prefix_append _ _).trans (List.prefix_append _ _))

theorem cufWrite_moves (o : Nat) (w : Nat) (s : State) {y} (h : cufWrite o w s = some y) :
    Moves [.cuf] s y.2 := by
  unfold cufWrite at h
  iterate 12 all_goals try first
    | (with_reducible obtain rfl := Option.some.inj h)
    | (with_reducible obtain rfl := rd_inj h)
    | (with_reducible exact absurd h.symm (Option.some_ne_none _))
    | with_reducible exact (roWrite_moves (h := h) ..).weaken (by decide)
    | with_reducible exact (cufRead_moves (h := h) ..).weaken (by decide)
    | dsimp only at h
    | split at h
  iterate 14 all_goals try first
    | with_reducible exact Moves.refl _ _
    | dsimp only
    | assumption
    | with_reducible refine (cufChWrite_moves ..).to (by decide) ?_
    | with_reducible refine (cufClrWrite_moves ..).to (by decide) ?_
    | exact (roWrite_moves (h := ‹_›) ..).weaken (by decide)
    | exact (cufRead_moves (h := ‹_›) ..).weaken (by decide)
    | with_reducible refine Moves.foldl (fun _ _ => ?_) _ _ _ ?_
    | split
    | refine Moves.at ?_ (fun q hq => by cases q <;> first | exact absurd (by decide) hq | simp only [Part.same]) (by first | (simp only [flashOk, imp_self]; done) | (simp; done)) (by first | (simp only [logOk, imp_self]; done) | (simp; done)) (by first | (simp only [ringOk, imp_self]; done) | (simp; done)) (by first | exact List.prefix_rfl | exact List.prefix_append _ _ | exact (List.prefix_append _ _).trans (List.prefix_append _ _))

end Sys2Proof.Machine
end

