-- ==== Sys2Proof/Laws/MovesRegSite.lean ====
section
/-! SUPPORT. What each operation of Machine/RegSite.lean can change: at most the listed parts, and a safe state stays safe. -/

namespace Sys2Proof.Machine

theorem sysRead_moves (o : Nat) (s : State) {y} (h : sysRead o s = some y) :
    Moves [] s y.2 := by
  unfold sysRead at h
  iterate 12 all_goals try first
    | (with_reducible obtain rfl := Option.some.inj h)
    | (with_reducible obtain rfl := rd_inj h)
    | (with_reducible exact absurd h.symm (Option.some_ne_none _))
    | dsimp only at h
    | split at h
  iterate 14 all_goals try first
    | with_reducible exact Moves.refl _ _
    | dsimp only
    | assumption
    | exact (rd_moves (h := ‹_›) ..).weaken (by decide)
    | with_reducible refine Moves.foldl (fun _ _ => ?_) _ _ _ ?_
    | split
    | refine Moves.at ?_ (fun q hq => by cases q <;> first | exact absurd (by decide) hq | simp only [Part.same]) (by first | (simp only [flashOk, imp_self]; done) | (simp; done)) (by first | (simp only [logOk, imp_self]; done) | (simp; done)) (by first | (simp only [ringOk, imp_self]; done) | (simp; done)) (by first | exact List.prefix_rfl | exact List.prefix_append _ _ | exact (List.prefix_append _ _).trans (List.prefix_append _ _))

theorem imgCtrlWrite_moves (w : Nat) (s : State) : Moves [.fresh, .img] s (imgCtrlWrite w s).2 := by
  have k (r : Status × Loader) (h : flashOk s.img → flashOk r.2) : Moves [.fresh, .img] s { s.free.2 with img := r.2 } :=
    Moves.at ((State.free_moves s).weaken (by decide))
      (fun q hq => by cases q <;> first | exact absurd (by decide) hq | simp only [Part.same]) h (fun i => i) (fun i => i) List.prefix_rfl
  unfold imgCtrlWrite
  dsimp only
  split
  · exact k _ (flashOk_imgErase _ _)
  · exact k _ (flashOk_imgProg _ _ _ _)
  · exact k _ (flashOk_imgCheck _ _ _ _ _)
  · exact k _ (flashOk_imgSelect _ _ _ _)
  · exact .refl _ _

theorem sysWrite_moves (o : Nat) (w : Nat) (s : State) {y} (h : sysWrite o w s = some y) :
    Moves [.fresh, .img] s y.2 := by
  unfold sysWrite at h
  iterate 12 all_goals try first
    | (with_reducible obtain rfl := Option.some.inj h)
    | (with_reducible obtain rfl := rd_inj h)
    | (with_reducible exact absurd h.symm (Option.some_ne_none _))
    | with_reducible exact (roWrite_moves (h := h) ..).weaken (by decide)
    | with_reducible exact (sysRead_moves (h := h) ..).weaken (by decide)
    | dsimp only at h
    | split at h
  iterate 14 all_goals try first
    | with_reducible exact Moves.refl _ _
    | dsimp only
    | assumption
    | with_reducible refine (imgCtrlWrite_moves ..).to (by decide) ?_
    | exact (roWrite_moves (h := ‹_›) ..).weaken (by decide)
    | exact (sysRead_moves (h := ‹_›) ..).weaken (by decide)
    | with_reducible refine Moves.foldl (fun _ _ => ?_) _ _ _ ?_
    | split
    | refine Moves.at ?_ (fun q hq => by cases q <;> first | exact absurd (by decide) hq | simp only [Part.same]) (by first | (simp only [flashOk, imp_self]; done) | (simp; done)) (by first | (simp only [logOk, imp_self]; done) | (simp; done)) (by first | (simp only [ringOk, imp_self]; done) | (simp; done)) (by first | exact List.prefix_rfl | exact List.prefix_append _ _ | exact (List.prefix_append _ _).trans (List.prefix_append _ _))

theorem rstRead_moves (o : Nat) (s : State) {y} (h : rstRead o s = some y) :
    Moves [] s y.2 := by
  unfold rstRead at h
  iterate 12 all_goals try first
    | (with_reducible obtain rfl := Option.some.inj h)
    | (with_reducible obtain rfl := rd_inj h)
    | (with_reducible exact absurd h.symm (Option.some_ne_none _))
    | dsimp only at h
    | split at h
  iterate 14 all_goals try first
    | with_reducible exact Moves.refl _ _
    | dsimp only
    | assumption
    | exact (rd_moves (h := ‹_›) ..).weaken (by decide)
    | with_reducible refine Moves.foldl (fun _ _ => ?_) _ _ _ ?_
    | split
    | refine Moves.at ?_ (fun q hq => by cases q <;> first | exact absurd (by decide) hq | simp only [Part.same]) (by first | (simp only [flashOk, imp_self]; done) | (simp; done)) (by first | (simp only [logOk, imp_self]; done) | (simp; done)) (by first | (simp only [ringOk, imp_self]; done) | (simp; done)) (by first | exact List.prefix_rfl | exact List.prefix_append _ _ | exact (List.prefix_append _ _).trans (List.prefix_append _ _))

theorem sysResetRequest_moves (s : State) :
    Moves [.tb, .fresh, .cfg, .rst, .gld, .thk, .site, .cnp, .mb, .ports, .v2g, .twins, .cpc, .gtr, .slvLink, .slvCtr, .seam, .lac, .brm, .cuf, .hem, .clk, .img, .hst, .sessNext, .sessTop, .hiCap, .out] s (sysResetRequest s).2 := by
  unfold sysResetRequest
  iterate 14 all_goals try first
    | with_reducible exact Moves.refl _ _
    | dsimp only
    | assumption
    | with_reducible refine (State.sysResetNow_moves ..).to (by decide) ?_
    | with_reducible refine (State.softRequest_moves ..).to (by decide) ?_
    | with_reducible refine Moves.foldl (fun _ _ => ?_) _ _ _ ?_
    | split
    | refine Moves.at ?_ (fun q hq => by cases q <;> first | exact absurd (by decide) hq | simp only [Part.same]) (by first | (simp only [flashOk, imp_self]; done) | (simp; done)) (by first | (simp only [logOk, imp_self]; done) | (simp; done)) (by first | (simp only [ringOk, imp_self]; done) | (simp; done)) (by first | exact List.prefix_rfl | exact List.prefix_append _ _ | exact (List.prefix_append _ _).trans (List.prefix_append _ _))

theorem coreResetRequest_moves (s : State) :
    Moves [.rst, .gld, .mb, .slvCtr] s (coreResetRequest s).2 := by
  unfold coreResetRequest
  iterate 14 all_goals try first
    | with_reducible exact Moves.refl _ _
    | dsimp only
    | assumption
    | with_reducible refine (State.coreHold_moves ..).to (by decide) ?_
    | with_reducible refine Moves.foldl (fun _ _ => ?_) _ _ _ ?_
    | split
    | refine Moves.at ?_ (fun q hq => by cases q <;> first | exact absurd (by decide) hq | simp only [Part.same]) (by first | (simp only [flashOk, imp_self]; done) | (simp; done)) (by first | (simp only [logOk, imp_self]; done) | (simp; done)) (by first | (simp only [ringOk, imp_self]; done) | (simp; done)) (by first | exact List.prefix_rfl | exact List.prefix_append _ _ | exact (List.prefix_append _ _).trans (List.prefix_append _ _))

theorem rstCtrlWrite_moves (w : Nat) (s : State) :
    Moves [.tb, .fresh, .cfg, .rst, .gld, .thk, .site, .cnp, .mb, .ports, .v2g, .twins, .cpc, .gtr, .slvLink, .slvCtr, .seam, .lac, .brm, .cuf, .hem, .clk, .img, .hst, .sessNext, .sessTop, .hiCap, .out] s (rstCtrlWrite w s).2 := by
  unfold rstCtrlWrite
  iterate 14 all_goals try first
    | with_reducible exact Moves.refl _ _
    | dsimp only
    | assumption
    | with_reducible refine (sysResetRequest_moves ..).to (by decide) ?_
    | with_reducible refine (coreResetRequest_moves ..).to (by decide) ?_
    | with_reducible refine Moves.foldl (fun _ _ => ?_) _ _ _ ?_
    | split
    | refine Moves.at ?_ (fun q hq => by cases q <;> first | exact absurd (by decide) hq | simp only [Part.same]) (by first | (simp only [flashOk, imp_self]; done) | (simp; done)) (by first | (simp only [logOk, imp_self]; done) | (simp; done)) (by first | (simp only [ringOk, imp_self]; done) | (simp; done)) (by first | exact List.prefix_rfl | exact List.prefix_append _ _ | exact (List.prefix_append _ _).trans (List.prefix_append _ _))

theorem rstWrite_moves (o : Nat) (w : Nat) (s : State) {y} (h : rstWrite o w s = some y) :
    Moves [.tb, .fresh, .cfg, .rst, .gld, .thk, .site, .cnp, .mb, .ports, .v2g, .twins, .cpc, .gtr, .slvLink, .slvCtr, .seam, .lac, .brm, .cuf, .hem, .clk, .img, .hst, .sessNext, .sessTop, .hiCap, .out] s y.2 := by
  unfold rstWrite at h
  iterate 12 all_goals try first
    | (with_reducible obtain rfl := Option.some.inj h)
    | (with_reducible obtain rfl := rd_inj h)
    | (with_reducible exact absurd h.symm (Option.some_ne_none _))
    | with_reducible exact (roWrite_moves (h := h) ..).weaken (by decide)
    | with_reducible exact (rstRead_moves (h := h) ..).weaken (by decide)
    | dsimp only at h
    | split at h
  iterate 14 all_goals try first
    | with_reducible exact Moves.refl _ _
    | dsimp only
    | assumption
    | with_reducible refine (rstCtrlWrite_moves ..).to (by decide) ?_
    | exact (roWrite_moves (h := ‹_›) ..).weaken (by decide)
    | exact (rstRead_moves (h := ‹_›) ..).weaken (by decide)
    | with_reducible refine Moves.foldl (fun _ _ => ?_) _ _ _ ?_
    | split
    | refine Moves.at ?_ (fun q hq => by cases q <;> first | exact absurd (by decide) hq | simp only [Part.same]) (by first | (simp only [flashOk, imp_self]; done) | (simp; done)) (by first | (simp only [logOk, imp_self]; done) | (simp; done)) (by first | (simp only [ringOk, imp_self]; done) | (simp; done)) (by first | exact List.prefix_rfl | exact List.prefix_append _ _ | exact (List.prefix_append _ _).trans (List.prefix_append _ _))

theorem gldRead_moves (o : Nat) (s : State) {y} (h : gldRead o s = some y) :
    Moves [] s y.2 := by
  unfold gldRead at h
  iterate 12 all_goals try first
    | (with_reducible obtain rfl := Option.some.inj h)
    | (with_reducible obtain rfl := rd_inj h)
    | (with_reducible exact absurd h.symm (Option.some_ne_none _))
    | dsimp only at h
    | split at h
  iterate 14 all_goals try first
    | with_reducible exact Moves.refl _ _
    | dsimp only
    | assumption
    | exact (rd_moves (h := ‹_›) ..).weaken (by decide)
    | with_reducible refine Moves.foldl (fun _ _ => ?_) _ _ _ ?_
    | split
    | refine Moves.at ?_ (fun q hq => by cases q <;> first | exact absurd (by decide) hq | simp only [Part.same]) (by first | (simp only [flashOk, imp_self]; done) | (simp; done)) (by first | (simp only [logOk, imp_self]; done) | (simp; done)) (by first | (simp only [ringOk, imp_self]; done) | (simp; done)) (by first | exact List.prefix_rfl | exact List.prefix_append _ _ | exact (List.prefix_append _ _).trans (List.prefix_append _ _))

theorem gldCtrlWrite_moves (w : Nat) (s : State) :
    Moves [.gld] s (gldCtrlWrite w s).2 := by
  unfold gldCtrlWrite
  iterate 14 all_goals try first
    | with_reducible exact Moves.refl _ _
    | dsimp only
    | assumption
    | with_reducible refine Moves.foldl (fun _ _ => ?_) _ _ _ ?_
    | split
    | refine Moves.at ?_ (fun q hq => by cases q <;> first | exact absurd (by decide) hq | simp only [Part.same]) (by first | (simp only [flashOk, imp_self]; done) | (simp; done)) (by first | (simp only [logOk, imp_self]; done) | (simp; done)) (by first | (simp only [ringOk, imp_self]; done) | (simp; done)) (by first | exact List.prefix_rfl | exact List.prefix_append _ _ | exact (List.prefix_append _ _).trans (List.prefix_append _ _))

theorem gldWrite_moves (o : Nat) (w : Nat) (s : State) {y} (h : gldWrite o w s = some y) :
    Moves [.gld] s y.2 := by
  unfold gldWrite at h
  iterate 12 all_goals try first
    | (with_reducible obtain rfl := Option.some.inj h)
    | (with_reducible obtain rfl := rd_inj h)
    | (with_reducible exact absurd h.symm (Option.some_ne_none _))
    | with_reducible exact (roWrite_moves (h := h) ..).weaken (by decide)
    | with_reducible exact (gldRead_moves (h := h) ..).weaken (by decide)
    | dsimp only at h
    | split at h
  iterate 14 all_goals try first
    | with_reducible exact Moves.refl _ _
    | dsimp only
    | assumption
    | with_reducible refine (gldCtrlWrite_moves ..).to (by decide) ?_
    | exact (roWrite_moves (h := ‹_›) ..).weaken (by decide)
    | exact (gldRead_moves (h := ‹_›) ..).weaken (by decide)
    | with_reducible refine Moves.foldl (fun _ _ => ?_) _ _ _ ?_
    | split
    | refine Moves.at ?_ (fun q hq => by cases q <;> first | exact absurd (by decide) hq | simp only [Part.same]) (by first | (simp only [flashOk, imp_self]; done) | (simp; done)) (by first | (simp only [logOk, imp_self]; done) | (simp; done)) (by first | (simp only [ringOk, imp_self]; done) | (simp; done)) (by first | exact List.prefix_rfl | exact List.prefix_append _ _ | exact (List.prefix_append _ _).trans (List.prefix_append _ _))

theorem thkRead_moves (o : Nat) (s : State) {y} (h : thkRead o s = some y) :
    Moves [.thk, .hiCap] s y.2 := by
  unfold thkRead at h
  iterate 12 all_goals try first
    | (with_reducible obtain rfl := Option.some.inj h)
    | (with_reducible obtain rfl := rd_inj h)
    | (with_reducible exact absurd h.symm (Option.some_ne_none _))
    | with_reducible exact (rd64_moves (h := h) ..).weaken (by decide)
    | dsimp only at h
    | split at h
  iterate 14 all_goals try first
    | with_reducible exact Moves.refl _ _
    | dsimp only
    | assumption
    | exact (rd_moves (h := ‹_›) ..).weaken (by decide)
    | exact (rd64_moves (h := ‹_›) ..).weaken (by decide)
    | with_reducible refine Moves.foldl (fun _ _ => ?_) _ _ _ ?_
    | split
    | refine Moves.at ?_ (fun q hq => by cases q <;> first | exact absurd (by decide) hq | simp only [Part.same]) (by first | (simp only [flashOk, imp_self]; done) | (simp; done)) (by first | (simp only [logOk, imp_self]; done) | (simp; done)) (by first | (simp only [ringOk, imp_self]; done) | (simp; done)) (by first | exact List.prefix_rfl | exact List.prefix_append _ _ | exact (List.prefix_append _ _).trans (List.prefix_append _ _))

theorem thkWrite_moves (o : Nat) (w : Nat) (s : State) {y} (h : thkWrite o w s = some y) :
    Moves [.thk, .hst, .hiCap, .out] s y.2 := by
  unfold thkWrite at h
  iterate 12 all_goals try first
    | (with_reducible obtain rfl := Option.some.inj h)
    | (with_reducible obtain rfl := rd_inj h)
    | (with_reducible exact absurd h.symm (Option.some_ne_none _))
    | with_reducible exact (roWrite_moves (h := h) ..).weaken (by decide)
    | with_reducible exact (thkRead_moves (h := h) ..).weaken (by decide)
    | dsimp only at h
    | split at h
  iterate 14 all_goals try first
    | with_reducible exact Moves.refl _ _
    | dsimp only
    | assumption
    | with_reducible refine (State.raise_moves ..).to (by decide) ?_
    | exact (roWrite_moves (h := ‹_›) ..).weaken (by decide)
    | exact (thkRead_moves (h := ‹_›) ..).weaken (by decide)
    | with_reducible refine Moves.foldl (fun _ _ => ?_) _ _ _ ?_
    | split
    | refine Moves.at ?_ (fun q hq => by cases q <;> first | exact absurd (by decide) hq | simp only [Part.same]) (by first | (simp only [flashOk, imp_self]; done) | (simp; done)) (by first | (simp only [logOk, imp_self]; done) | (simp; done)) (by first | (simp only [ringOk, imp_self]; done) | (simp; done)) (by first | exact List.prefix_rfl | exact List.prefix_append _ _ | exact (List.prefix_append _ _).trans (List.prefix_append _ _))

end Sys2Proof.Machine
end

