-- ==== Sys2Proof/Laws/MovesRegAccess.lean ====
section
/-! SUPPORT. What each operation of Machine/RegAccess.lean can change: at most the listed parts, and a safe state stays safe. -/

namespace Sys2Proof.Machine

theorem pageRead_moves (g : Page) (o : Nat) (s : State) {y} (h : pageRead g o s = some y) :
    Moves [.fresh, .thk, .cnp, .mb, .ports, .twins, .cpc, .gtr, .slvLink, .seam, .lac, .brm, .cuf, .hem, .clk, .hst, .hiCap] s y.2 := by
  unfold pageRead at h
  iterate 12 all_goals try first
    | (with_reducible obtain rfl := Option.some.inj h)
    | (with_reducible obtain rfl := rd_inj h)
    | (with_reducible exact absurd h.symm (Option.some_ne_none _))
    | with_reducible exact (sysRead_moves (h := h) ..).weaken (by decide)
    | with_reducible exact (rstRead_moves (h := h) ..).weaken (by decide)
    | with_reducible exact (gldRead_moves (h := h) ..).weaken (by decide)
    | with_reducible exact (thkRead_moves (h := h) ..).weaken (by decide)
    | with_reducible exact (gtrRead_moves (h := h) ..).weaken (by decide)
    | with_reducible exact (seamRead_moves (h := h) ..).weaken (by decide)
    | with_reducible exact (hemRead_moves (h := h) ..).weaken (by decide)
    | with_reducible exact (cnpRead_moves (h := h) ..).weaken (by decide)
    | with_reducible exact (cufRead_moves (h := h) ..).weaken (by decide)
    | with_reducible exact (brmRead_moves (h := h) ..).weaken (by decide)
    | with_reducible exact (slvRead_moves (h := h) ..).weaken (by decide)
    | with_reducible exact (bilRead_moves (h := h) ..).weaken (by decide)
    | with_reducible exact (mbRead_moves (h := h) ..).weaken (by decide)
    | with_reducible exact (vpRead_moves (h := h) ..).weaken (by decide)
    | with_reducible exact (clkRead_moves (h := h) ..).weaken (by decide)
    | with_reducible exact (lacRead_moves (h := h) ..).weaken (by decide)
    | with_reducible exact (hstRead_moves (h := h) ..).weaken (by decide)
    | with_reducible exact (cpcRead_moves (h := h) ..).weaken (by decide)
    | dsimp only at h
    | split at h
  iterate 14 all_goals try first
    | with_reducible exact Moves.refl _ _
    | dsimp only
    | assumption
    | exact (sysRead_moves (h := ‹_›) ..).weaken (by decide)
    | exact (rstRead_moves (h := ‹_›) ..).weaken (by decide)
    | exact (gldRead_moves (h := ‹_›) ..).weaken (by decide)
    | exact (thkRead_moves (h := ‹_›) ..).weaken (by decide)
    | exact (gtrRead_moves (h := ‹_›) ..).weaken (by decide)
    | exact (seamRead_moves (h := ‹_›) ..).weaken (by decide)
    | exact (hemRead_moves (h := ‹_›) ..).weaken (by decide)
    | exact (cnpRead_moves (h := ‹_›) ..).weaken (by decide)
    | exact (cufRead_moves (h := ‹_›) ..).weaken (by decide)
    | exact (brmRead_moves (h := ‹_›) ..).weaken (by decide)
    | exact (slvRead_moves (h := ‹_›) ..).weaken (by decide)
    | exact (bilRead_moves (h := ‹_›) ..).weaken (by decide)
    | exact (mbRead_moves (h := ‹_›) ..).weaken (by decide)
    | exact (vpRead_moves (h := ‹_›) ..).weaken (by decide)
    | exact (clkRead_moves (h := ‹_›) ..).weaken (by decide)
    | exact (lacRead_moves (h := ‹_›) ..).weaken (by decide)
    | exact (hstRead_moves (h := ‹_›) ..).weaken (by decide)
    | exact (cpcRead_moves (h := ‹_›) ..).weaken (by decide)
    | with_reducible refine Moves.foldl (fun _ _ => ?_) _ _ _ ?_
    | split
    | refine Moves.at ?_ (fun q hq => by cases q <;> first | exact absurd (by decide) hq | simp only [Part.same]) (by first | (simp only [flashOk, imp_self]; done) | (simp; done)) (by first | (simp only [logOk, imp_self]; done) | (simp; done)) (by first | (simp only [ringOk, imp_self]; done) | (simp; done)) (by first | exact List.prefix_rfl | exact List.prefix_append _ _ | exact (List.prefix_append _ _).trans (List.prefix_append _ _))

theorem pageWrite_moves (g : Page) (o : Nat) (w : Nat) (s : State) {y} (h : pageWrite g o w s = some y) :
    Moves [.tb, .fresh, .cfg, .rst, .gld, .thk, .site, .cnp, .mb, .ports, .v2g, .twins, .cpc, .gtr, .slvLink, .slvCtr, .seam, .lac, .brm, .cuf, .hem, .clk, .img, .hst, .sessNext, .sessTop, .hiCap, .out] s y.2 := by
  unfold pageWrite at h
  iterate 12 all_goals try first
    | (with_reducible obtain rfl := Option.some.inj h)
    | (with_reducible obtain rfl := rd_inj h)
    | (with_reducible exact absurd h.symm (Option.some_ne_none _))
    | with_reducible exact (sysWrite_moves (h := h) ..).weaken (by decide)
    | with_reducible exact (rstWrite_moves (h := h) ..).weaken (by decide)
    | with_reducible exact (gldWrite_moves (h := h) ..).weaken (by decide)
    | with_reducible exact (thkWrite_moves (h := h) ..).weaken (by decide)
    | with_reducible exact (gtrWrite_moves (h := h) ..).weaken (by decide)
    | with_reducible exact (seamWrite_moves (h := h) ..).weaken (by decide)
    | with_reducible exact (hemWrite_moves (h := h) ..).weaken (by decide)
    | with_reducible exact (cnpWrite_moves (h := h) ..).weaken (by decide)
    | with_reducible exact (cufWrite_moves (h := h) ..).weaken (by decide)
    | with_reducible exact (brmWrite_moves (h := h) ..).weaken (by decide)
    | with_reducible exact (slvWrite_moves (h := h) ..).weaken (by decide)
    | with_reducible exact (bilWrite_moves (h := h) ..).weaken (by decide)
    | with_reducible exact (mbWrite_moves (h := h) ..).weaken (by decide)
    | with_reducible exact (vpWrite_moves (h := h) ..).weaken (by decide)
    | with_reducible exact (clkWrite_moves (h := h) ..).weaken (by decide)
    | with_reducible exact (lacWrite_moves (h := h) ..).weaken (by decide)
    | with_reducible exact (hstWrite_moves (h := h) ..).weaken (by decide)
    | with_reducible exact (cpcWrite_moves (h := h) ..).weaken (by decide)
    | dsimp only at h
    | split at h
  iterate 14 all_goals try first
    | with_reducible exact Moves.refl _ _
    | dsimp only
    | assumption
    | exact (sysWrite_moves (h := ‹_›) ..).weaken (by decide)
    | exact (rstWrite_moves (h := ‹_›) ..).weaken (by decide)
    | exact (gldWrite_moves (h := ‹_›) ..).weaken (by decide)
    | exact (thkWrite_moves (h := ‹_›) ..).weaken (by decide)
    | exact (gtrWrite_moves (h := ‹_›) ..).weaken (by decide)
    | exact (seamWrite_moves (h := ‹_›) ..).weaken (by decide)
    | exact (hemWrite_moves (h := ‹_›) ..).weaken (by decide)
    | exact (cnpWrite_moves (h := ‹_›) ..).weaken (by decide)
    | exact (cufWrite_moves (h := ‹_›) ..).weaken (by decide)
    | exact (brmWrite_moves (h := ‹_›) ..).weaken (by decide)
    | exact (slvWrite_moves (h := ‹_›) ..).weaken (by decide)
    | exact (bilWrite_moves (h := ‹_›) ..).weaken (by decide)
    | exact (mbWrite_moves (h := ‹_›) ..).weaken (by decide)
    | exact (vpWrite_moves (h := ‹_›) ..).weaken (by decide)
    | exact (clkWrite_moves (h := ‹_›) ..).weaken (by decide)
    | exact (lacWrite_moves (h := ‹_›) ..).weaken (by decide)
    | exact (hstWrite_moves (h := ‹_›) ..).weaken (by decide)
    | exact (cpcWrite_moves (h := ‹_›) ..).weaken (by decide)
    | with_reducible refine Moves.foldl (fun _ _ => ?_) _ _ _ ?_
    | split
    | refine Moves.at ?_ (fun q hq => by cases q <;> first | exact absurd (by decide) hq | simp only [Part.same]) (by first | (simp only [flashOk, imp_self]; done) | (simp; done)) (by first | (simp only [logOk, imp_self]; done) | (simp; done)) (by first | (simp only [ringOk, imp_self]; done) | (simp; done)) (by first | exact List.prefix_rfl | exact List.prefix_append _ _ | exact (List.prefix_append _ _).trans (List.prefix_append _ _))

theorem State.readAt_moves (a : Nat) (s : State) :
    Moves [.fresh, .thk, .cnp, .mb, .ports, .twins, .cpc, .gtr, .slvLink, .seam, .lac, .brm, .cuf, .hem, .clk, .hst, .hiCap, .out] s (State.readAt a s).2.2 := by
  unfold State.readAt
  iterate 14 all_goals try first
    | with_reducible exact Moves.refl _ _
    | dsimp only
    | assumption
    | exact (pageRead_moves (h := ‹_›) ..).weaken (by decide)
    | with_reducible refine (State.raise_moves ..).to (by decide) ?_
    | with_reducible refine Moves.foldl (fun _ _ => ?_) _ _ _ ?_
    | split
    | refine Moves.at ?_ (fun q hq => by cases q <;> first | exact absurd (by decide) hq | simp only [Part.same]) (by first | (simp only [flashOk, imp_self]; done) | (simp; done)) (by first | (simp only [logOk, imp_self]; done) | (simp; done)) (by first | (simp only [ringOk, imp_self]; done) | (simp; done)) (by first | exact List.prefix_rfl | exact List.prefix_append _ _ | exact (List.prefix_append _ _).trans (List.prefix_append _ _))

theorem stored_moves {ps : List Part} (hs : .thk ∈ ps) (a : Nat) (r : Status × State) {s : State} (h : Moves ps s r.2) :
    Moves ps s (stored a r).2 := by
  unfold stored
  split
  · exact Moves.at h (fun q hq => by cases q <;> first | exact absurd hs hq | simp only [Part.same])
      (by simp only [flashOk, imp_self]) (by simp only [logOk, imp_self]) (by simp only [ringOk, imp_self]) List.prefix_rfl
  · exact h

theorem State.writeAt_moves (a : Nat) (w : Nat) (s : State) :
    Moves [.tb, .fresh, .cfg, .rst, .gld, .thk, .site, .cnp, .mb, .ports, .v2g, .twins, .cpc, .gtr, .slvLink, .slvCtr, .seam, .lac, .brm, .cuf, .hem, .clk, .img, .hst, .sessNext, .sessTop, .hiCap, .out] s (State.writeAt a w s).2 := by
  unfold State.writeAt
  iterate 14 all_goals try first
    | with_reducible exact Moves.refl _ _
    | dsimp only
    | assumption
    | exact (pageWrite_moves (h := ‹_›) ..).weaken (by decide)
    | with_reducible refine stored_moves (by decide) _ _ ?_
    | with_reducible refine Moves.foldl (fun _ _ => ?_) _ _ _ ?_
    | split
    | refine Moves.at ?_ (fun q hq => by cases q <;> first | exact absurd (by decide) hq | simp only [Part.same]) (by first | (simp only [flashOk, imp_self]; done) | (simp; done)) (by first | (simp only [logOk, imp_self]; done) | (simp; done)) (by first | (simp only [ringOk, imp_self]; done) | (simp; done)) (by first | exact List.prefix_rfl | exact List.prefix_append _ _ | exact (List.prefix_append _ _).trans (List.prefix_append _ _))

theorem State.noAnswer_moves (s : State) :
    Moves [.thk] s (State.noAnswer s).2 := by
  unfold State.noAnswer
  iterate 14 all_goals try first
    | with_reducible exact Moves.refl _ _
    | dsimp only
    | assumption
    | with_reducible refine Moves.foldl (fun _ _ => ?_) _ _ _ ?_
    | split
    | refine Moves.at ?_ (fun q hq => by cases q <;> first | exact absurd (by decide) hq | simp only [Part.same]) (by first | (simp only [flashOk, imp_self]; done) | (simp; done)) (by first | (simp only [logOk, imp_self]; done) | (simp; done)) (by first | (simp only [ringOk, imp_self]; done) | (simp; done)) (by first | exact List.prefix_rfl | exact List.prefix_append _ _ | exact (List.prefix_append _ _).trans (List.prefix_append _ _))

theorem State.reply_moves (spi : Option (List Byte)) (st : Status) (ws : List Nat) (s : State) :
    Moves [.out] s (State.reply spi st ws s) := by
  unfold State.reply
  iterate 14 all_goals try first
    | with_reducible exact Moves.refl _ _
    | dsimp only
    | assumption
    | with_reducible refine (State.emit_moves ..).to (by decide) ?_
    | with_reducible refine Moves.foldl (fun _ _ => ?_) _ _ _ ?_
    | split
    | refine Moves.at ?_ (fun q hq => by cases q <;> first | exact absurd (by decide) hq | simp only [Part.same]) (by first | (simp only [flashOk, imp_self]; done) | (simp; done)) (by first | (simp only [logOk, imp_self]; done) | (simp; done)) (by first | (simp only [ringOk, imp_self]; done) | (simp; done)) (by first | exact List.prefix_rfl | exact List.prefix_append _ _ | exact (List.prefix_append _ _).trans (List.prefix_append _ _))

theorem State.waits_moves (a : Nat) (ws : List Nat) (pad : Nat) (spi : Option (List Byte)) (s : State) :
    Moves [.thk, .hst, .out] s (State.waits a ws pad spi s) := by
  unfold State.waits
  split
  · rename_i t h
    exact Moves.at (.refl _ _) (fun q hq => by cases q <;> first | exact absurd (by decide) hq | simp only [Part.same])
      (fun i => i) (logOk_takeTag h).2 (fun i => i) List.prefix_rfl
  · exact (State.reply_moves ..).to (by decide) ((State.judged_moves ..).to (by decide) ((State.noAnswer_moves s).weaken (by decide)))

theorem State.hostCommand_moves {ps : List Part} (hs : [.thk, .hst, .out] ⊆ ps) (a : Nat) (f : State → Status × State) (s : State)
    (hf : Moves ps s (f s).2) : Moves ps s (State.hostCommand a f s) := by
  unfold State.hostCommand
  split
  · exact .refl _ _
  · split
    · exact (State.emit_moves ..).weaken (fun _ h => hs (by simp at h; simp [h]))
    · split
      · exact (State.waits_moves ..).weaken hs
      · split
        · exact (State.finish_moves a (.notPresent, s)).weaken hs
        · exact (State.finish_moves ..).to hs (stored_moves (hs (by decide)) _ _ hf)

theorem State.hostWrite_moves (a : Nat) (w : Nat) (s : State) :
    Moves [.tb, .fresh, .cfg, .rst, .gld, .thk, .site, .cnp, .mb, .ports, .v2g, .twins, .cpc, .gtr, .slvLink, .slvCtr, .seam, .lac, .brm, .cuf, .hem, .clk, .img, .hst, .sessNext, .sessTop, .hiCap, .out] s (State.hostWrite a w s) := by
  unfold State.hostWrite
  iterate 14 all_goals try first
    | with_reducible exact Moves.refl _ _
    | dsimp only
    | assumption
    | with_reducible refine (State.finish_moves ..).to (by decide) ?_
    | with_reducible refine State.hostCommand_moves (by decide) _ _ _ ?_
    | with_reducible refine (State.writeAt_moves ..).to (by decide) ?_
    | with_reducible refine Moves.foldl (fun _ _ => ?_) _ _ _ ?_
    | split
    | refine Moves.at ?_ (fun q hq => by cases q <;> first | exact absurd (by decide) hq | simp only [Part.same]) (by first | (simp only [flashOk, imp_self]; done) | (simp; done)) (by first | (simp only [logOk, imp_self]; done) | (simp; done)) (by first | (simp only [ringOk, imp_self]; done) | (simp; done)) (by first | exact List.prefix_rfl | exact List.prefix_append _ _ | exact (List.prefix_append _ _).trans (List.prefix_append _ _))

theorem State.readServed_moves (a : Nat) (s : State) :
    Moves [.fresh, .thk, .cnp, .mb, .ports, .twins, .cpc, .gtr, .slvLink, .seam, .lac, .brm, .cuf, .hem, .clk, .hst, .hiCap, .out] s (State.readServed a s).2.2 := by
  unfold State.readServed
  iterate 14 all_goals try first
    | with_reducible exact Moves.refl _ _
    | dsimp only
    | assumption
    | with_reducible refine (State.readAt_moves ..).to (by decide) ?_
    | with_reducible refine (State.noAnswer_moves ..).to (by decide) ?_
    | with_reducible refine Moves.foldl (fun _ _ => ?_) _ _ _ ?_
    | split
    | refine Moves.at ?_ (fun q hq => by cases q <;> first | exact absurd (by decide) hq | simp only [Part.same]) (by first | (simp only [flashOk, imp_self]; done) | (simp; done)) (by first | (simp only [logOk, imp_self]; done) | (simp; done)) (by first | (simp only [ringOk, imp_self]; done) | (simp; done)) (by first | exact List.prefix_rfl | exact List.prefix_append _ _ | exact (List.prefix_append _ _).trans (List.prefix_append _ _))

theorem State.writeServed_moves (a : Nat) (w : Nat) (s : State) :
    Moves [.tb, .fresh, .cfg, .rst, .gld, .thk, .site, .cnp, .mb, .ports, .v2g, .twins, .cpc, .gtr, .slvLink, .slvCtr, .seam, .lac, .brm, .cuf, .hem, .clk, .img, .hst, .sessNext, .sessTop, .hiCap, .out] s (State.writeServed a w s).2 := by
  unfold State.writeServed
  iterate 14 all_goals try first
    | with_reducible exact Moves.refl _ _
    | dsimp only
    | assumption
    | with_reducible refine (State.writeAt_moves ..).to (by decide) ?_
    | with_reducible refine (State.noAnswer_moves ..).to (by decide) ?_
    | with_reducible refine Moves.foldl (fun _ _ => ?_) _ _ _ ?_
    | split
    | refine Moves.at ?_ (fun q hq => by cases q <;> first | exact absurd (by decide) hq | simp only [Part.same]) (by first | (simp only [flashOk, imp_self]; done) | (simp; done)) (by first | (simp only [logOk, imp_self]; done) | (simp; done)) (by first | (simp only [ringOk, imp_self]; done) | (simp; done)) (by first | exact List.prefix_rfl | exact List.prefix_append _ _ | exact (List.prefix_append _ _).trans (List.prefix_append _ _))

theorem State.readRun_moves (n a : Nat) (s : State) :
    Moves [.fresh, .thk, .cnp, .mb, .ports, .twins, .cpc, .gtr, .slvLink, .seam, .lac, .brm, .cuf, .hem, .clk, .hst, .hiCap, .out]
      s (State.readRun n a s).2.2 := by
  induction n generalizing a s with
  | zero => exact .refl _ _
  | succ n ih =>
    have h1 := ((State.judged_moves (s.readServed a).1 a (s.readServed a).2.2).to (by decide)
      ((State.readServed_moves a s).weaken (by decide)) : Moves [.fresh, .thk, .cnp, .mb, .ports, .twins, .cpc, .gtr, .slvLink, .seam, .lac, .brm, .cuf, .hem, .clk, .hst, .hiCap, .out] s _)
    unfold State.readRun
    dsimp only
    split
    · exact h1.trans (ih _ _)
    · exact h1

theorem State.writeRun_moves (ws : List Nat) (a : Nat) (s : State) :
    Moves [.tb, .fresh, .cfg, .rst, .gld, .thk, .site, .cnp, .mb, .ports, .v2g, .twins, .cpc, .gtr, .slvLink, .slvCtr, .seam, .lac, .brm, .cuf, .hem, .clk, .img, .hst, .sessNext, .sessTop, .hiCap, .out]
      s (State.writeRun a ws s).2.2 := by
  induction ws generalizing a s with
  | nil => exact .refl _ _
  | cons w ws ih =>
    have h1 := ((State.judged_moves (s.writeServed a w).1 a (s.writeServed a w).2).to (by decide)
      ((State.writeServed_moves a w s).weaken (by decide)) : Moves [.tb, .fresh, .cfg, .rst, .gld, .thk, .site, .cnp, .mb, .ports, .v2g, .twins, .cpc, .gtr, .slvLink, .slvCtr, .seam, .lac, .brm, .cuf, .hem, .clk, .img, .hst, .sessNext, .sessTop, .hiCap, .out] s _)
    unfold State.writeRun
    dsimp only
    split
    · split
      · exact h1.trans (ih _ _)
      · exact h1
    · exact h1

end Sys2Proof.Machine
end

