-- ==== Sys2Proof/Laws/State.lean ====
section
/-! SUPPORT. One lemma per field and update: what the shared operations leave of each field of the state. -/

namespace Sys2Proof.Machine

/-! ### State.emit -/

@[simp] theorem State.emit_mono (o : Out) (s : State) : (s.emit o).mono = s.mono := rfl
@[simp] theorem State.emit_tb (o : Out) (s : State) : (s.emit o).tb = s.tb := rfl
@[simp] theorem State.emit_fresh (o : Out) (s : State) : (s.emit o).fresh = s.fresh := rfl
@[simp] theorem State.emit_pending (o : Out) (s : State) : (s.emit o).pending = s.pending := rfl
@[simp] theorem State.emit_fuses (o : Out) (s : State) : (s.emit o).fuses = s.fuses := rfl
@[simp] theorem State.emit_cfg (o : Out) (s : State) : (s.emit o).cfg = s.cfg := rfl
@[simp] theorem State.emit_rst (o : Out) (s : State) : (s.emit o).rst = s.rst := rfl
@[simp] theorem State.emit_gld (o : Out) (s : State) : (s.emit o).gld = s.gld := rfl
@[simp] theorem State.emit_thk (o : Out) (s : State) : (s.emit o).thk = s.thk := rfl
@[simp] theorem State.emit_site (o : Out) (s : State) : (s.emit o).site = s.site := rfl
@[simp] theorem State.emit_cnp (o : Out) (s : State) : (s.emit o).cnp = s.cnp := rfl
@[simp] theorem State.emit_mb (o : Out) (s : State) : (s.emit o).mb = s.mb := rfl
@[simp] theorem State.emit_ports (o : Out) (s : State) : (s.emit o).ports = s.ports := rfl
@[simp] theorem State.emit_v2g (o : Out) (s : State) : (s.emit o).v2g = s.v2g := rfl
@[simp] theorem State.emit_twins (o : Out) (s : State) : (s.emit o).twins = s.twins := rfl
@[simp] theorem State.emit_cpc (o : Out) (s : State) : (s.emit o).cpc = s.cpc := rfl
@[simp] theorem State.emit_gtr (o : Out) (s : State) : (s.emit o).gtr = s.gtr := rfl
@[simp] theorem State.emit_slv (o : Out) (s : State) : (s.emit o).slv = s.slv := rfl
@[simp] theorem State.emit_slvLink (o : Out) (s : State) : (s.emit o).slvLink = s.slvLink := rfl
@[simp] theorem State.emit_slvCtr (o : Out) (s : State) : (s.emit o).slvCtr = s.slvCtr := rfl
@[simp] theorem State.emit_seam (o : Out) (s : State) : (s.emit o).seam = s.seam := rfl
@[simp] theorem State.emit_lac (o : Out) (s : State) : (s.emit o).lac = s.lac := rfl
@[simp] theorem State.emit_brm (o : Out) (s : State) : (s.emit o).brm = s.brm := rfl
@[simp] theorem State.emit_cuf (o : Out) (s : State) : (s.emit o).cuf = s.cuf := rfl
@[simp] theorem State.emit_hem (o : Out) (s : State) : (s.emit o).hem = s.hem := rfl
@[simp] theorem State.emit_clk (o : Out) (s : State) : (s.emit o).clk = s.clk := rfl
@[simp] theorem State.emit_img (o : Out) (s : State) : (s.emit o).img = s.img := rfl
@[simp] theorem State.emit_hst (o : Out) (s : State) : (s.emit o).hst = s.hst := rfl
@[simp] theorem State.emit_sessNext (o : Out) (s : State) : (s.emit o).sessNext = s.sessNext := rfl
@[simp] theorem State.emit_sessTop (o : Out) (s : State) : (s.emit o).sessTop = s.sessTop := rfl
@[simp] theorem State.emit_hiCap (o : Out) (s : State) : (s.emit o).hiCap = s.hiCap := rfl

/-! ### State.emits -/

@[simp] theorem State.emits_mono (os : List Out) (s : State) : (s.emits os).mono = s.mono := rfl
@[simp] theorem State.emits_tb (os : List Out) (s : State) : (s.emits os).tb = s.tb := rfl
@[simp] theorem State.emits_fresh (os : List Out) (s : State) : (s.emits os).fresh = s.fresh := rfl
@[simp] theorem State.emits_pending (os : List Out) (s : State) : (s.emits os).pending = s.pending := rfl
@[simp] theorem State.emits_fuses (os : List Out) (s : State) : (s.emits os).fuses = s.fuses := rfl
@[simp] theorem State.emits_cfg (os : List Out) (s : State) : (s.emits os).cfg = s.cfg := rfl
@[simp] theorem State.emits_rst (os : List Out) (s : State) : (s.emits os).rst = s.rst := rfl
@[simp] theorem State.emits_gld (os : List Out) (s : State) : (s.emits os).gld = s.gld := rfl
@[simp] theorem State.emits_thk (os : List Out) (s : State) : (s.emits os).thk = s.thk := rfl
@[simp] theorem State.emits_site (os : List Out) (s : State) : (s.emits os).site = s.site := rfl
@[simp] theorem State.emits_cnp (os : List Out) (s : State) : (s.emits os).cnp = s.cnp := rfl
@[simp] theorem State.emits_mb (os : List Out) (s : State) : (s.emits os).mb = s.mb := rfl
@[simp] theorem State.emits_ports (os : List Out) (s : State) : (s.emits os).ports = s.ports := rfl
@[simp] theorem State.emits_v2g (os : List Out) (s : State) : (s.emits os).v2g = s.v2g := rfl
@[simp] theorem State.emits_twins (os : List Out) (s : State) : (s.emits os).twins = s.twins := rfl
@[simp] theorem State.emits_cpc (os : List Out) (s : State) : (s.emits os).cpc = s.cpc := rfl
@[simp] theorem State.emits_gtr (os : List Out) (s : State) : (s.emits os).gtr = s.gtr := rfl
@[simp] theorem State.emits_slv (os : List Out) (s : State) : (s.emits os).slv = s.slv := rfl
@[simp] theorem State.emits_slvLink (os : List Out) (s : State) : (s.emits os).slvLink = s.slvLink := rfl
@[simp] theorem State.emits_slvCtr (os : List Out) (s : State) : (s.emits os).slvCtr = s.slvCtr := rfl
@[simp] theorem State.emits_seam (os : List Out) (s : State) : (s.emits os).seam = s.seam := rfl
@[simp] theorem State.emits_lac (os : List Out) (s : State) : (s.emits os).lac = s.lac := rfl
@[simp] theorem State.emits_brm (os : List Out) (s : State) : (s.emits os).brm = s.brm := rfl
@[simp] theorem State.emits_cuf (os : List Out) (s : State) : (s.emits os).cuf = s.cuf := rfl
@[simp] theorem State.emits_hem (os : List Out) (s : State) : (s.emits os).hem = s.hem := rfl
@[simp] theorem State.emits_clk (os : List Out) (s : State) : (s.emits os).clk = s.clk := rfl
@[simp] theorem State.emits_img (os : List Out) (s : State) : (s.emits os).img = s.img := rfl
@[simp] theorem State.emits_hst (os : List Out) (s : State) : (s.emits os).hst = s.hst := rfl
@[simp] theorem State.emits_sessNext (os : List Out) (s : State) : (s.emits os).sessNext = s.sessNext := rfl
@[simp] theorem State.emits_sessTop (os : List Out) (s : State) : (s.emits os).sessTop = s.sessTop := rfl
@[simp] theorem State.emits_hiCap (os : List Out) (s : State) : (s.emits os).hiCap = s.hiCap := rfl

/-! ### State.slvMod -/

@[simp] theorem State.slvMod_mono (f : Sleeve → Sleeve) (s : State) : (s.slvMod f).mono = s.mono := rfl
@[simp] theorem State.slvMod_tb (f : Sleeve → Sleeve) (s : State) : (s.slvMod f).tb = s.tb := rfl
@[simp] theorem State.slvMod_fresh (f : Sleeve → Sleeve) (s : State) : (s.slvMod f).fresh = s.fresh := rfl
@[simp] theorem State.slvMod_pending (f : Sleeve → Sleeve) (s : State) : (s.slvMod f).pending = s.pending := rfl
@[simp] theorem State.slvMod_fuses (f : Sleeve → Sleeve) (s : State) : (s.slvMod f).fuses = s.fuses := rfl
@[simp] theorem State.slvMod_cfg (f : Sleeve → Sleeve) (s : State) : (s.slvMod f).cfg = s.cfg := rfl
@[simp] theorem State.slvMod_rst (f : Sleeve → Sleeve) (s : State) : (s.slvMod f).rst = s.rst := rfl
@[simp] theorem State.slvMod_gld (f : Sleeve → Sleeve) (s : State) : (s.slvMod f).gld = s.gld := rfl
@[simp] theorem State.slvMod_thk (f : Sleeve → Sleeve) (s : State) : (s.slvMod f).thk = s.thk := rfl
@[simp] theorem State.slvMod_site (f : Sleeve → Sleeve) (s : State) : (s.slvMod f).site = s.site := rfl
@[simp] theorem State.slvMod_cnp (f : Sleeve → Sleeve) (s : State) : (s.slvMod f).cnp = s.cnp := rfl
@[simp] theorem State.slvMod_mb (f : Sleeve → Sleeve) (s : State) : (s.slvMod f).mb = s.mb := rfl
@[simp] theorem State.slvMod_ports (f : Sleeve → Sleeve) (s : State) : (s.slvMod f).ports = s.ports := rfl
@[simp] theorem State.slvMod_v2g (f : Sleeve → Sleeve) (s : State) : (s.slvMod f).v2g = s.v2g := rfl
@[simp] theorem State.slvMod_twins (f : Sleeve → Sleeve) (s : State) : (s.slvMod f).twins = s.twins := rfl
@[simp] theorem State.slvMod_cpc (f : Sleeve → Sleeve) (s : State) : (s.slvMod f).cpc = s.cpc := rfl
@[simp] theorem State.slvMod_gtr (f : Sleeve → Sleeve) (s : State) : (s.slvMod f).gtr = s.gtr := rfl
@[simp] theorem State.slvMod_slvLink (f : Sleeve → Sleeve) (s : State) : (s.slvMod f).slvLink = s.slvLink := rfl
@[simp] theorem State.slvMod_slvCtr (f : Sleeve → Sleeve) (s : State) : (s.slvMod f).slvCtr = s.slvCtr := rfl
@[simp] theorem State.slvMod_seam (f : Sleeve → Sleeve) (s : State) : (s.slvMod f).seam = s.seam := rfl
@[simp] theorem State.slvMod_lac (f : Sleeve → Sleeve) (s : State) : (s.slvMod f).lac = s.lac := rfl
@[simp] theorem State.slvMod_brm (f : Sleeve → Sleeve) (s : State) : (s.slvMod f).brm = s.brm := rfl
@[simp] theorem State.slvMod_cuf (f : Sleeve → Sleeve) (s : State) : (s.slvMod f).cuf = s.cuf := rfl
@[simp] theorem State.slvMod_hem (f : Sleeve → Sleeve) (s : State) : (s.slvMod f).hem = s.hem := rfl
@[simp] theorem State.slvMod_clk (f : Sleeve → Sleeve) (s : State) : (s.slvMod f).clk = s.clk := rfl
@[simp] theorem State.slvMod_img (f : Sleeve → Sleeve) (s : State) : (s.slvMod f).img = s.img := rfl
@[simp] theorem State.slvMod_hst (f : Sleeve → Sleeve) (s : State) : (s.slvMod f).hst = s.hst := rfl
@[simp] theorem State.slvMod_sessNext (f : Sleeve → Sleeve) (s : State) : (s.slvMod f).sessNext = s.sessNext := rfl
@[simp] theorem State.slvMod_sessTop (f : Sleeve → Sleeve) (s : State) : (s.slvMod f).sessTop = s.sessTop := rfl
@[simp] theorem State.slvMod_hiCap (f : Sleeve → Sleeve) (s : State) : (s.slvMod f).hiCap = s.hiCap := rfl
@[simp] theorem State.slvMod_out (f : Sleeve → Sleeve) (s : State) : (s.slvMod f).out = s.out := rfl

/-! ### State.twinMod -/

@[simp] theorem State.twinMod_mono (p : Fin 12) (f : Twin → Twin) (s : State) : (s.twinMod p f).mono = s.mono := rfl
@[simp] theorem State.twinMod_tb (p : Fin 12) (f : Twin → Twin) (s : State) : (s.twinMod p f).tb = s.tb := rfl
@[simp] theorem State.twinMod_fresh (p : Fin 12) (f : Twin → Twin) (s : State) : (s.twinMod p f).fresh = s.fresh := rfl
@[simp] theorem State.twinMod_pending (p : Fin 12) (f : Twin → Twin) (s : State) : (s.twinMod p f).pending = s.pending := rfl
@[simp] theorem State.twinMod_fuses (p : Fin 12) (f : Twin → Twin) (s : State) : (s.twinMod p f).fuses = s.fuses := rfl
@[simp] theorem State.twinMod_cfg (p : Fin 12) (f : Twin → Twin) (s : State) : (s.twinMod p f).cfg = s.cfg := rfl
@[simp] theorem State.twinMod_rst (p : Fin 12) (f : Twin → Twin) (s : State) : (s.twinMod p f).rst = s.rst := rfl
@[simp] theorem State.twinMod_gld (p : Fin 12) (f : Twin → Twin) (s : State) : (s.twinMod p f).gld = s.gld := rfl
@[simp] theorem State.twinMod_thk (p : Fin 12) (f : Twin → Twin) (s : State) : (s.twinMod p f).thk = s.thk := rfl
@[simp] theorem State.twinMod_site (p : Fin 12) (f : Twin → Twin) (s : State) : (s.twinMod p f).site = s.site := rfl
@[simp] theorem State.twinMod_cnp (p : Fin 12) (f : Twin → Twin) (s : State) : (s.twinMod p f).cnp = s.cnp := rfl
@[simp] theorem State.twinMod_mb (p : Fin 12) (f : Twin → Twin) (s : State) : (s.twinMod p f).mb = s.mb := rfl
@[simp] theorem State.twinMod_ports (p : Fin 12) (f : Twin → Twin) (s : State) : (s.twinMod p f).ports = s.ports := rfl
@[simp] theorem State.twinMod_v2g (p : Fin 12) (f : Twin → Twin) (s : State) : (s.twinMod p f).v2g = s.v2g := rfl
@[simp] theorem State.twinMod_cpc (p : Fin 12) (f : Twin → Twin) (s : State) : (s.twinMod p f).cpc = s.cpc := rfl
@[simp] theorem State.twinMod_gtr (p : Fin 12) (f : Twin → Twin) (s : State) : (s.twinMod p f).gtr = s.gtr := rfl
@[simp] theorem State.twinMod_slv (p : Fin 12) (f : Twin → Twin) (s : State) : (s.twinMod p f).slv = s.slv := rfl
@[simp] theorem State.twinMod_slvLink (p : Fin 12) (f : Twin → Twin) (s : State) : (s.twinMod p f).slvLink = s.slvLink := rfl
@[simp] theorem State.twinMod_slvCtr (p : Fin 12) (f : Twin → Twin) (s : State) : (s.twinMod p f).slvCtr = s.slvCtr := rfl
@[simp] theorem State.twinMod_seam (p : Fin 12) (f : Twin → Twin) (s : State) : (s.twinMod p f).seam = s.seam := rfl
@[simp] theorem State.twinMod_lac (p : Fin 12) (f : Twin → Twin) (s : State) : (s.twinMod p f).lac = s.lac := rfl
@[simp] theorem State.twinMod_brm (p : Fin 12) (f : Twin → Twin) (s : State) : (s.twinMod p f).brm = s.brm := rfl
@[simp] theorem State.twinMod_cuf (p : Fin 12) (f : Twin → Twin) (s : State) : (s.twinMod p f).cuf = s.cuf := rfl
@[simp] theorem State.twinMod_hem (p : Fin 12) (f : Twin → Twin) (s : State) : (s.twinMod p f).hem = s.hem := rfl
@[simp] theorem State.twinMod_clk (p : Fin 12) (f : Twin → Twin) (s : State) : (s.twinMod p f).clk = s.clk := rfl
@[simp] theorem State.twinMod_img (p : Fin 12) (f : Twin → Twin) (s : State) : (s.twinMod p f).img = s.img := rfl
@[simp] theorem State.twinMod_hst (p : Fin 12) (f : Twin → Twin) (s : State) : (s.twinMod p f).hst = s.hst := rfl
@[simp] theorem State.twinMod_sessNext (p : Fin 12) (f : Twin → Twin) (s : State) : (s.twinMod p f).sessNext = s.sessNext := rfl
@[simp] theorem State.twinMod_sessTop (p : Fin 12) (f : Twin → Twin) (s : State) : (s.twinMod p f).sessTop = s.sessTop := rfl
@[simp] theorem State.twinMod_hiCap (p : Fin 12) (f : Twin → Twin) (s : State) : (s.twinMod p f).hiCap = s.hiCap := rfl
@[simp] theorem State.twinMod_out (p : Fin 12) (f : Twin → Twin) (s : State) : (s.twinMod p f).out = s.out := rfl

@[simp] theorem State.emit_out (o : Out) (s : State) : (s.emit o).out = s.out ++ [o] := rfl
@[simp] theorem State.emits_out (os : List Out) (s : State) : (s.emits os).out = s.out ++ os := rfl
@[simp] theorem State.slvMod_slv (f : Sleeve → Sleeve) (s : State) : (s.slvMod f).slv = f s.slv := rfl
@[simp] theorem State.twinMod_twins (p : Fin 12) (f : Twin → Twin) (s : State) : (s.twinMod p f).twins = upd s.twins p f := rfl
@[simp] theorem State.free_1 (s : State) : s.free.1 = Config.freeValue s.fresh := rfl
@[simp] theorem State.free_2_mono (s : State) : s.free.2.mono = s.mono := rfl
@[simp] theorem State.free_2_tb (s : State) : s.free.2.tb = s.tb := rfl
@[simp] theorem State.free_2_pending (s : State) : s.free.2.pending = s.pending := rfl
@[simp] theorem State.free_2_fuses (s : State) : s.free.2.fuses = s.fuses := rfl
@[simp] theorem State.free_2_cfg (s : State) : s.free.2.cfg = s.cfg := rfl
@[simp] theorem State.free_2_rst (s : State) : s.free.2.rst = s.rst := rfl
@[simp] theorem State.free_2_gld (s : State) : s.free.2.gld = s.gld := rfl
@[simp] theorem State.free_2_thk (s : State) : s.free.2.thk = s.thk := rfl
@[simp] theorem State.free_2_site (s : State) : s.free.2.site = s.site := rfl
@[simp] theorem State.free_2_cnp (s : State) : s.free.2.cnp = s.cnp := rfl
@[simp] theorem State.free_2_mb (s : State) : s.free.2.mb = s.mb := rfl
@[simp] theorem State.free_2_ports (s : State) : s.free.2.ports = s.ports := rfl
@[simp] theorem State.free_2_v2g (s : State) : s.free.2.v2g = s.v2g := rfl
@[simp] theorem State.free_2_twins (s : State) : s.free.2.twins = s.twins := rfl
@[simp] theorem State.free_2_cpc (s : State) : s.free.2.cpc = s.cpc := rfl
@[simp] theorem State.free_2_gtr (s : State) : s.free.2.gtr = s.gtr := rfl
@[simp] theorem State.free_2_slv (s : State) : s.free.2.slv = s.slv := rfl
@[simp] theorem State.free_2_slvLink (s : State) : s.free.2.slvLink = s.slvLink := rfl
@[simp] theorem State.free_2_slvCtr (s : State) : s.free.2.slvCtr = s.slvCtr := rfl
@[simp] theorem State.free_2_seam (s : State) : s.free.2.seam = s.seam := rfl
@[simp] theorem State.free_2_lac (s : State) : s.free.2.lac = s.lac := rfl
@[simp] theorem State.free_2_brm (s : State) : s.free.2.brm = s.brm := rfl
@[simp] theorem State.free_2_cuf (s : State) : s.free.2.cuf = s.cuf := rfl
@[simp] theorem State.free_2_hem (s : State) : s.free.2.hem = s.hem := rfl
@[simp] theorem State.free_2_clk (s : State) : s.free.2.clk = s.clk := rfl
@[simp] theorem State.free_2_img (s : State) : s.free.2.img = s.img := rfl
@[simp] theorem State.free_2_hst (s : State) : s.free.2.hst = s.hst := rfl
@[simp] theorem State.free_2_sessNext (s : State) : s.free.2.sessNext = s.sessNext := rfl
@[simp] theorem State.free_2_sessTop (s : State) : s.free.2.sessTop = s.sessTop := rfl
@[simp] theorem State.free_2_hiCap (s : State) : s.free.2.hiCap = s.hiCap := rfl
@[simp] theorem State.free_2_out (s : State) : s.free.2.out = s.out := rfl
@[simp] theorem State.free_2_fresh (s : State) : s.free.2.fresh = s.fresh + 1 := rfl
@[simp] theorem State.onlyIf_true (f : State → State) (s : State) : s.onlyIf true f = f s := rfl
@[simp] theorem State.onlyIf_false (f : State → State) (s : State) : s.onlyIf false f = s := rfl

/-! ### State.raiseAt -/

@[simp] theorem State.raiseAt_mono (e : Ev) (i : Nat) (s : State) : (s.raiseAt e i).mono = s.mono :=
  (State.raiseAt_moves e i s).frame .mono (by decide)
@[simp] theorem State.raiseAt_tb (e : Ev) (i : Nat) (s : State) : (s.raiseAt e i).tb = s.tb :=
  (State.raiseAt_moves e i s).frame .tb (by decide)
@[simp] theorem State.raiseAt_fresh (e : Ev) (i : Nat) (s : State) : (s.raiseAt e i).fresh = s.fresh :=
  (State.raiseAt_moves e i s).frame .fresh (by decide)
@[simp] theorem State.raiseAt_pending (e : Ev) (i : Nat) (s : State) : (s.raiseAt e i).pending = s.pending :=
  (State.raiseAt_moves e i s).frame .pending (by decide)
@[simp] theorem State.raiseAt_fuses (e : Ev) (i : Nat) (s : State) : (s.raiseAt e i).fuses = s.fuses :=
  (State.raiseAt_moves e i s).frame .fuses (by decide)
@[simp] theorem State.raiseAt_cfg (e : Ev) (i : Nat) (s : State) : (s.raiseAt e i).cfg = s.cfg :=
  (State.raiseAt_moves e i s).frame .cfg (by decide)
@[simp] theorem State.raiseAt_rst (e : Ev) (i : Nat) (s : State) : (s.raiseAt e i).rst = s.rst :=
  (State.raiseAt_moves e i s).frame .rst (by decide)
@[simp] theorem State.raiseAt_gld (e : Ev) (i : Nat) (s : State) : (s.raiseAt e i).gld = s.gld :=
  (State.raiseAt_moves e i s).frame .gld (by decide)
@[simp] theorem State.raiseAt_site (e : Ev) (i : Nat) (s : State) : (s.raiseAt e i).site = s.site :=
  (State.raiseAt_moves e i s).frame .site (by decide)
@[simp] theorem State.raiseAt_cnp (e : Ev) (i : Nat) (s : State) : (s.raiseAt e i).cnp = s.cnp :=
  (State.raiseAt_moves e i s).frame .cnp (by decide)
@[simp] theorem State.raiseAt_mb (e : Ev) (i : Nat) (s : State) : (s.raiseAt e i).mb = s.mb :=
  (State.raiseAt_moves e i s).frame .mb (by decide)
@[simp] theorem State.raiseAt_ports (e : Ev) (i : Nat) (s : State) : (s.raiseAt e i).ports = s.ports :=
  (State.raiseAt_moves e i s).frame .ports (by decide)
@[simp] theorem State.raiseAt_v2g (e : Ev) (i : Nat) (s : State) : (s.raiseAt e i).v2g = s.v2g :=
  (State.raiseAt_moves e i s).frame .v2g (by decide)
@[simp] theorem State.raiseAt_twins (e : Ev) (i : Nat) (s : State) : (s.raiseAt e i).twins = s.twins :=
  (State.raiseAt_moves e i s).frame .twins (by decide)
@[simp] theorem State.raiseAt_cpc (e : Ev) (i : Nat) (s : State) : (s.raiseAt e i).cpc = s.cpc :=
  (State.raiseAt_moves e i s).frame .cpc (by decide)
@[simp] theorem State.raiseAt_gtr (e : Ev) (i : Nat) (s : State) : (s.raiseAt e i).gtr = s.gtr :=
  (State.raiseAt_moves e i s).frame .gtr (by decide)
@[simp] theorem State.raiseAt_slv (e : Ev) (i : Nat) (s : State) : (s.raiseAt e i).slv = s.slv :=
  (State.raiseAt_moves e i s).frame .slv (by decide)
@[simp] theorem State.raiseAt_slvLink (e : Ev) (i : Nat) (s : State) : (s.raiseAt e i).slvLink = s.slvLink :=
  (State.raiseAt_moves e i s).frame .slvLink (by decide)
@[simp] theorem State.raiseAt_slvCtr (e : Ev) (i : Nat) (s : State) : (s.raiseAt e i).slvCtr = s.slvCtr :=
  (State.raiseAt_moves e i s).frame .slvCtr (by decide)
@[simp] theorem State.raiseAt_seam (e : Ev) (i : Nat) (s : State) : (s.raiseAt e i).seam = s.seam :=
  (State.raiseAt_moves e i s).frame .seam (by decide)
@[simp] theorem State.raiseAt_lac (e : Ev) (i : Nat) (s : State) : (s.raiseAt e i).lac = s.lac :=
  (State.raiseAt_moves e i s).frame .lac (by decide)
@[simp] theorem State.raiseAt_brm (e : Ev) (i : Nat) (s : State) : (s.raiseAt e i).brm = s.brm :=
  (State.raiseAt_moves e i s).frame .brm (by decide)
@[simp] theorem State.raiseAt_cuf (e : Ev) (i : Nat) (s : State) : (s.raiseAt e i).cuf = s.cuf :=
  (State.raiseAt_moves e i s).frame .cuf (by decide)
@[simp] theorem State.raiseAt_hem (e : Ev) (i : Nat) (s : State) : (s.raiseAt e i).hem = s.hem :=
  (State.raiseAt_moves e i s).frame .hem (by decide)
@[simp] theorem State.raiseAt_clk (e : Ev) (i : Nat) (s : State) : (s.raiseAt e i).clk = s.clk :=
  (State.raiseAt_moves e i s).frame .clk (by decide)
@[simp] theorem State.raiseAt_img (e : Ev) (i : Nat) (s : State) : (s.raiseAt e i).img = s.img :=
  (State.raiseAt_moves e i s).frame .img (by decide)
@[simp] theorem State.raiseAt_sessNext (e : Ev) (i : Nat) (s : State) : (s.raiseAt e i).sessNext = s.sessNext :=
  (State.raiseAt_moves e i s).frame .sessNext (by decide)
@[simp] theorem State.raiseAt_sessTop (e : Ev) (i : Nat) (s : State) : (s.raiseAt e i).sessTop = s.sessTop :=
  (State.raiseAt_moves e i s).frame .sessTop (by decide)
@[simp] theorem State.raiseAt_hiCap (e : Ev) (i : Nat) (s : State) : (s.raiseAt e i).hiCap = s.hiCap :=
  (State.raiseAt_moves e i s).frame .hiCap (by decide)

/-! ### State.raise -/

@[simp] theorem State.raise_mono (e : Ev) (s : State) : (s.raise e).mono = s.mono :=
  (State.raise_moves e s).frame .mono (by decide)
@[simp] theorem State.raise_tb (e : Ev) (s : State) : (s.raise e).tb = s.tb :=
  (State.raise_moves e s).frame .tb (by decide)
@[simp] theorem State.raise_fresh (e : Ev) (s : State) : (s.raise e).fresh = s.fresh :=
  (State.raise_moves e s).frame .fresh (by decide)
@[simp] theorem State.raise_pending (e : Ev) (s : State) : (s.raise e).pending = s.pending :=
  (State.raise_moves e s).frame .pending (by decide)
@[simp] theorem State.raise_fuses (e : Ev) (s : State) : (s.raise e).fuses = s.fuses :=
  (State.raise_moves e s).frame .fuses (by decide)
@[simp] theorem State.raise_cfg (e : Ev) (s : State) : (s.raise e).cfg = s.cfg :=
  (State.raise_moves e s).frame .cfg (by decide)
@[simp] theorem State.raise_rst (e : Ev) (s : State) : (s.raise e).rst = s.rst :=
  (State.raise_moves e s).frame .rst (by decide)
@[simp] theorem State.raise_gld (e : Ev) (s : State) : (s.raise e).gld = s.gld :=
  (State.raise_moves e s).frame .gld (by decide)
@[simp] theorem State.raise_site (e : Ev) (s : State) : (s.raise e).site = s.site :=
  (State.raise_moves e s).frame .site (by decide)
@[simp] theorem State.raise_cnp (e : Ev) (s : State) : (s.raise e).cnp = s.cnp :=
  (State.raise_moves e s).frame .cnp (by decide)
@[simp] theorem State.raise_mb (e : Ev) (s : State) : (s.raise e).mb = s.mb :=
  (State.raise_moves e s).frame .mb (by decide)
@[simp] theorem State.raise_ports (e : Ev) (s : State) : (s.raise e).ports = s.ports :=
  (State.raise_moves e s).frame .ports (by decide)
@[simp] theorem State.raise_v2g (e : Ev) (s : State) : (s.raise e).v2g = s.v2g :=
  (State.raise_moves e s).frame .v2g (by decide)
@[simp] theorem State.raise_twins (e : Ev) (s : State) : (s.raise e).twins = s.twins :=
  (State.raise_moves e s).frame .twins (by decide)
@[simp] theorem State.raise_cpc (e : Ev) (s : State) : (s.raise e).cpc = s.cpc :=
  (State.raise_moves e s).frame .cpc (by decide)
@[simp] theorem State.raise_gtr (e : Ev) (s : State) : (s.raise e).gtr = s.gtr :=
  (State.raise_moves e s).frame .gtr (by decide)
@[simp] theorem State.raise_slv (e : Ev) (s : State) : (s.raise e).slv = s.slv :=
  (State.raise_moves e s).frame .slv (by decide)
@[simp] theorem State.raise_slvLink (e : Ev) (s : State) : (s.raise e).slvLink = s.slvLink :=
  (State.raise_moves e s).frame .slvLink (by decide)
@[simp] theorem State.raise_slvCtr (e : Ev) (s : State) : (s.raise e).slvCtr = s.slvCtr :=
  (State.raise_moves e s).frame .slvCtr (by decide)
@[simp] theorem State.raise_seam (e : Ev) (s : State) : (s.raise e).seam = s.seam :=
  (State.raise_moves e s).frame .seam (by decide)
@[simp] theorem State.raise_lac (e : Ev) (s : State) : (s.raise e).lac = s.lac :=
  (State.raise_moves e s).frame .lac (by decide)
@[simp] theorem State.raise_brm (e : Ev) (s : State) : (s.raise e).brm = s.brm :=
  (State.raise_moves e s).frame .brm (by decide)
@[simp] theorem State.raise_cuf (e : Ev) (s : State) : (s.raise e).cuf = s.cuf :=
  (State.raise_moves e s).frame .cuf (by decide)
@[simp] theorem State.raise_hem (e : Ev) (s : State) : (s.raise e).hem = s.hem :=
  (State.raise_moves e s).frame .hem (by decide)
@[simp] theorem State.raise_clk (e : Ev) (s : State) : (s.raise e).clk = s.clk :=
  (State.raise_moves e s).frame .clk (by decide)
@[simp] theorem State.raise_img (e : Ev) (s : State) : (s.raise e).img = s.img :=
  (State.raise_moves e s).frame .img (by decide)
@[simp] theorem State.raise_sessNext (e : Ev) (s : State) : (s.raise e).sessNext = s.sessNext :=
  (State.raise_moves e s).frame .sessNext (by decide)
@[simp] theorem State.raise_sessTop (e : Ev) (s : State) : (s.raise e).sessTop = s.sessTop :=
  (State.raise_moves e s).frame .sessTop (by decide)
@[simp] theorem State.raise_hiCap (e : Ev) (s : State) : (s.raise e).hiCap = s.hiCap :=
  (State.raise_moves e s).frame .hiCap (by decide)

/-! ### State.raises -/

@[simp] theorem State.raises_mono (es : List Ev) (s : State) : (s.raises es).mono = s.mono :=
  (State.raises_moves es s).frame .mono (by decide)
@[simp] theorem State.raises_tb (es : List Ev) (s : State) : (s.raises es).tb = s.tb :=
  (State.raises_moves es s).frame .tb (by decide)
@[simp] theorem State.raises_fresh (es : List Ev) (s : State) : (s.raises es).fresh = s.fresh :=
  (State.raises_moves es s).frame .fresh (by decide)
@[simp] theorem State.raises_pending (es : List Ev) (s : State) : (s.raises es).pending = s.pending :=
  (State.raises_moves es s).frame .pending (by decide)
@[simp] theorem State.raises_fuses (es : List Ev) (s : State) : (s.raises es).fuses = s.fuses :=
  (State.raises_moves es s).frame .fuses (by decide)
@[simp] theorem State.raises_cfg (es : List Ev) (s : State) : (s.raises es).cfg = s.cfg :=
  (State.raises_moves es s).frame .cfg (by decide)
@[simp] theorem State.raises_rst (es : List Ev) (s : State) : (s.raises es).rst = s.rst :=
  (State.raises_moves es s).frame .rst (by decide)
@[simp] theorem State.raises_gld (es : List Ev) (s : State) : (s.raises es).gld = s.gld :=
  (State.raises_moves es s).frame .gld (by decide)
@[simp] theorem State.raises_site (es : List Ev) (s : State) : (s.raises es).site = s.site :=
  (State.raises_moves es s).frame .site (by decide)
@[simp] theorem State.raises_cnp (es : List Ev) (s : State) : (s.raises es).cnp = s.cnp :=
  (State.raises_moves es s).frame .cnp (by decide)
@[simp] theorem State.raises_mb (es : List Ev) (s : State) : (s.raises es).mb = s.mb :=
  (State.raises_moves es s).frame .mb (by decide)
@[simp] theorem State.raises_ports (es : List Ev) (s : State) : (s.raises es).ports = s.ports :=
  (State.raises_moves es s).frame .ports (by decide)
@[simp] theorem State.raises_v2g (es : List Ev) (s : State) : (s.raises es).v2g = s.v2g :=
  (State.raises_moves es s).frame .v2g (by decide)
@[simp] theorem State.raises_twins (es : List Ev) (s : State) : (s.raises es).twins = s.twins :=
  (State.raises_moves es s).frame .twins (by decide)
@[simp] theorem State.raises_cpc (es : List Ev) (s : State) : (s.raises es).cpc = s.cpc :=
  (State.raises_moves es s).frame .cpc (by decide)
@[simp] theorem State.raises_gtr (es : List Ev) (s : State) : (s.raises es).gtr = s.gtr :=
  (State.raises_moves es s).frame .gtr (by decide)
@[simp] theorem State.raises_slv (es : List Ev) (s : State) : (s.raises es).slv = s.slv :=
  (State.raises_moves es s).frame .slv (by decide)
@[simp] theorem State.raises_slvLink (es : List Ev) (s : State) : (s.raises es).slvLink = s.slvLink :=
  (State.raises_moves es s).frame .slvLink (by decide)
@[simp] theorem State.raises_slvCtr (es : List Ev) (s : State) : (s.raises es).slvCtr = s.slvCtr :=
  (State.raises_moves es s).frame .slvCtr (by decide)
@[simp] theorem State.raises_seam (es : List Ev) (s : State) : (s.raises es).seam = s.seam :=
  (State.raises_moves es s).frame .seam (by decide)
@[simp] theorem State.raises_lac (es : List Ev) (s : State) : (s.raises es).lac = s.lac :=
  (State.raises_moves es s).frame .lac (by decide)
@[simp] theorem State.raises_brm (es : List Ev) (s : State) : (s.raises es).brm = s.brm :=
  (State.raises_moves es s).frame .brm (by decide)
@[simp] theorem State.raises_cuf (es : List Ev) (s : State) : (s.raises es).cuf = s.cuf :=
  (State.raises_moves es s).frame .cuf (by decide)
@[simp] theorem State.raises_hem (es : List Ev) (s : State) : (s.raises es).hem = s.hem :=
  (State.raises_moves es s).frame .hem (by decide)
@[simp] theorem State.raises_clk (es : List Ev) (s : State) : (s.raises es).clk = s.clk :=
  (State.raises_moves es s).frame .clk (by decide)
@[simp] theorem State.raises_img (es : List Ev) (s : State) : (s.raises es).img = s.img :=
  (State.raises_moves es s).frame .img (by decide)
@[simp] theorem State.raises_sessNext (es : List Ev) (s : State) : (s.raises es).sessNext = s.sessNext :=
  (State.raises_moves es s).frame .sessNext (by decide)
@[simp] theorem State.raises_sessTop (es : List Ev) (s : State) : (s.raises es).sessTop = s.sessTop :=
  (State.raises_moves es s).frame .sessTop (by decide)
@[simp] theorem State.raises_hiCap (es : List Ev) (s : State) : (s.raises es).hiCap = s.hiCap :=
  (State.raises_moves es s).frame .hiCap (by decide)

/-! ### State.judged -/

@[simp] theorem State.judged_mono (st : Status) (a : Nat) (s : State) : (s.judged st a).mono = s.mono :=
  (State.judged_moves st a s).frame .mono (by decide)
@[simp] theorem State.judged_tb (st : Status) (a : Nat) (s : State) : (s.judged st a).tb = s.tb :=
  (State.judged_moves st a s).frame .tb (by decide)
@[simp] theorem State.judged_fresh (st : Status) (a : Nat) (s : State) : (s.judged st a).fresh = s.fresh :=
  (State.judged_moves st a s).frame .fresh (by decide)
@[simp] theorem State.judged_pending (st : Status) (a : Nat) (s : State) : (s.judged st a).pending = s.pending :=
  (State.judged_moves st a s).frame .pending (by decide)
@[simp] theorem State.judged_fuses (st : Status) (a : Nat) (s : State) : (s.judged st a).fuses = s.fuses :=
  (State.judged_moves st a s).frame .fuses (by decide)
@[simp] theorem State.judged_cfg (st : Status) (a : Nat) (s : State) : (s.judged st a).cfg = s.cfg :=
  (State.judged_moves st a s).frame .cfg (by decide)
@[simp] theorem State.judged_rst (st : Status) (a : Nat) (s : State) : (s.judged st a).rst = s.rst :=
  (State.judged_moves st a s).frame .rst (by decide)
@[simp] theorem State.judged_gld (st : Status) (a : Nat) (s : State) : (s.judged st a).gld = s.gld :=
  (State.judged_moves st a s).frame .gld (by decide)
@[simp] theorem State.judged_site (st : Status) (a : Nat) (s : State) : (s.judged st a).site = s.site :=
  (State.judged_moves st a s).frame .site (by decide)
@[simp] theorem State.judged_cnp (st : Status) (a : Nat) (s : State) : (s.judged st a).cnp = s.cnp :=
  (State.judged_moves st a s).frame .cnp (by decide)
@[simp] theorem State.judged_mb (st : Status) (a : Nat) (s : State) : (s.judged st a).mb = s.mb :=
  (State.judged_moves st a s).frame .mb (by decide)
@[simp] theorem State.judged_ports (st : Status) (a : Nat) (s : State) : (s.judged st a).ports = s.ports :=
  (State.judged_moves st a s).frame .ports (by decide)
@[simp] theorem State.judged_v2g (st : Status) (a : Nat) (s : State) : (s.judged st a).v2g = s.v2g :=
  (State.judged_moves st a s).frame .v2g (by decide)
@[simp] theorem State.judged_twins (st : Status) (a : Nat) (s : State) : (s.judged st a).twins = s.twins :=
  (State.judged_moves st a s).frame .twins (by decide)
@[simp] theorem State.judged_cpc (st : Status) (a : Nat) (s : State) : (s.judged st a).cpc = s.cpc :=
  (State.judged_moves st a s).frame .cpc (by decide)
@[simp] theorem State.judged_gtr (st : Status) (a : Nat) (s : State) : (s.judged st a).gtr = s.gtr :=
  (State.judged_moves st a s).frame .gtr (by decide)
@[simp] theorem State.judged_slv (st : Status) (a : Nat) (s : State) : (s.judged st a).slv = s.slv :=
  (State.judged_moves st a s).frame .slv (by decide)
@[simp] theorem State.judged_slvLink (st : Status) (a : Nat) (s : State) : (s.judged st a).slvLink = s.slvLink :=
  (State.judged_moves st a s).frame .slvLink (by decide)
@[simp] theorem State.judged_slvCtr (st : Status) (a : Nat) (s : State) : (s.judged st a).slvCtr = s.slvCtr :=
  (State.judged_moves st a s).frame .slvCtr (by decide)
@[simp] theorem State.judged_seam (st : Status) (a : Nat) (s : State) : (s.judged st a).seam = s.seam :=
  (State.judged_moves st a s).frame .seam (by decide)
@[simp] theorem State.judged_lac (st : Status) (a : Nat) (s : State) : (s.judged st a).lac = s.lac :=
  (State.judged_moves st a s).frame .lac (by decide)
@[simp] theorem State.judged_brm (st : Status) (a : Nat) (s : State) : (s.judged st a).brm = s.brm :=
  (State.judged_moves st a s).frame .brm (by decide)
@[simp] theorem State.judged_cuf (st : Status) (a : Nat) (s : State) : (s.judged st a).cuf = s.cuf :=
  (State.judged_moves st a s).frame .cuf (by decide)
@[simp] theorem State.judged_hem (st : Status) (a : Nat) (s : State) : (s.judged st a).hem = s.hem :=
  (State.judged_moves st a s).frame .hem (by decide)
@[simp] theorem State.judged_clk (st : Status) (a : Nat) (s : State) : (s.judged st a).clk = s.clk :=
  (State.judged_moves st a s).frame .clk (by decide)
@[simp] theorem State.judged_img (st : Status) (a : Nat) (s : State) : (s.judged st a).img = s.img :=
  (State.judged_moves st a s).frame .img (by decide)
@[simp] theorem State.judged_sessNext (st : Status) (a : Nat) (s : State) : (s.judged st a).sessNext = s.sessNext :=
  (State.judged_moves st a s).frame .sessNext (by decide)
@[simp] theorem State.judged_sessTop (st : Status) (a : Nat) (s : State) : (s.judged st a).sessTop = s.sessTop :=
  (State.judged_moves st a s).frame .sessTop (by decide)
@[simp] theorem State.judged_hiCap (st : Status) (a : Nat) (s : State) : (s.judged st a).hiCap = s.hiCap :=
  (State.judged_moves st a s).frame .hiCap (by decide)

end Sys2Proof.Machine
end

