-- ==== Sys2Proof/Laws/Host.lean ====
section
/-! SUPPORT. Events as statements name them, and a host access that is served at once. -/

namespace Sys2Proof.Machine

theorem bitOf_or_pow (n v : Nat) : bitOf n (v ||| 2 ^ n) = true := by
  have h : (v ||| 2 ^ n).testBit n = true := by
    rw [Nat.testBit_or, Nat.testBit_two_pow_self, Bool.or_true]
  rw [Nat.testBit_eq_decide_div_mod_eq] at h
  simpa [bitOf, Nat.shiftRight_eq_div_pow] using h

theorem esNotify_thk (e : Nat) (d : LogE) (k : Nat) (s : State) : (esNotify e d k s).thk = s.thk := by
  unfold esNotify
  repeat' split
  all_goals rfl

theorem State.raiseAt_thk (e : Ev) (i : Nat) (s : State) (h : s.up = true) :
    (s.raiseAt e i).thk = s.thk.raise e i s.tb s.sec := by
  unfold State.raiseAt
  simp [h, esNotify_thk]

/-- What is raised outside a reset is pending. -/
theorem State.raiseAt_told (e : Ev) (i : Nat) (s : State) (h : s.up = true) : (s.raiseAt e i).told e := by
  unfold State.told
  rw [State.raiseAt_thk e i s h]
  exact bitOf_or_pow _ _

theorem State.raise_told (e : Ev) (s : State) (h : s.up = true) : (s.raise e).told e := State.raiseAt_told e 0 s h

/-- The unit is out of reset where its cores run. -/
theorem State.up_of_cores {s : State} (h : s.cores = true) : s.up = true := by
  unfold State.cores at h
  unfold State.up
  cases hh : s.rst.hold with
  | none => rfl
  | some x => rw [hh] at h; simp at h

theorem State.up_of_canopyOn {s : State} (h : s.canopyOn = true) : s.up = true := by
  unfold State.canopyOn at h
  simp only [Bool.and_eq_true] at h
  exact State.up_of_cores h.1.1

/-- A host command that ends with OK, served at once: what it leaves besides THK_ and the answer. -/
theorem State.hostCommand_ok (a : Nat) (f : State → Status × State) (s t : State) (h : s.HostReady a) (hf : f s = (.ok, t)) :
    ∃ k, s.hostCommand a f = { t with thk := k, out := t.out ++ [.done .ok []] } := by
  unfold State.hostCommand
  simp only [h.up, h.serves, h.code, h.present, hf, Bool.not_true, Bool.false_eq_true, if_false]
  exact ⟨_, rfl⟩

/-- A host write that ends with OK. -/
theorem State.hostWrite_ok (a w : Nat) (g : Page) (o : Nat) (s t : State) (h : s.HostReady a) (ha : a % 4 = 0)
    (hp : pageOf a = some (g, o)) (hw : pageWrite g o w s = some (.ok, t)) :
    ∃ k, s.hostWrite a w = { t with thk := k, out := t.out ++ [.done .ok []] } := by
  have hg : g.present s.fuses.variant = true := by
    have := h.present
    unfold absentAt at this
    rw [hp] at this
    simpa using this
  have e : s.writeAt a w = stored a (.ok, t) := by
    unfold State.writeAt
    simp only [ha, if_true, hp, hg, Bool.not_true, Bool.false_eq_true, if_false, hw]
  have q : s.swapAway a w = false := by simp [State.swapAway, h.serves]
  obtain ⟨k, hk⟩ := State.hostCommand_ok a (fun s => s.writeAt a w) s _ h e
  refine ⟨k, ?_⟩
  unfold State.hostWrite
  rw [q, Bool.and_false, if_neg Bool.false_ne_true]
  exact hk

/-- A host write that ends with another status ends so, and nothing has happened. -/
theorem State.hostCommand_refused (a : Nat) (f : State → Status × State) (s : State) (st : Status) (h : s.HostReady a)
    (hs : st ≠ .ok) (hf : f s = (st, s)) : (s.hostCommand a f) = (s.judged st a).emit (.done st []) := by
  unfold State.hostCommand
  simp only [h.up, h.serves, h.code, h.present, hf, Bool.not_true, Bool.false_eq_true, if_false, stored, hs]
  rfl

end Sys2Proof.Machine
end

