-- ==== Sys2Proof/Laws/MovesBrambleCmds.lean ====
section
/-! SUPPORT. What each operation of Machine/BrambleCmds.lean can change: at most the listed parts, and a safe state stays safe. -/

namespace Sys2Proof.Machine

theorem State.onBramble_moves (f : BX → BX) (s : State) :
    Moves [.fresh, .thk, .ports, .v2g, .cpc, .gtr, .slvLink, .slvCtr, .brm, .cuf, .clk, .hst, .sessNext, .sessTop, .out] s (State.onBramble f s) := by
  unfold State.onBramble
  iterate 14 all_goals try first
    | with_reducible exact Moves.refl _ _
    | dsimp only
    | assumption
    | with_reducible refine Moves.onlyIf _ _ (fun _ => ?_)
    | with_reducible refine (State.brmDo_moves ..).to (by decide) ?_
    | with_reducible refine Moves.foldl (fun _ _ => ?_) _ _ _ ?_
    | split
    | refine Moves.at ?_ (fun q hq => by cases q <;> first | exact absurd (by decide) hq | simp only [Part.same]) (by first | (simp only [flashOk, imp_self]; done) | (simp; done)) (by first | (simp only [logOk, imp_self]; done) | (simp; done)) (by first | (simp only [ringOk, imp_self]; done) | (simp; done)) (by first | exact List.prefix_rfl | exact List.prefix_append _ _ | exact (List.prefix_append _ _).trans (List.prefix_append _ _))

theorem State.onPartner_moves (f : BX → BX) (s : State) :
    Moves [.fresh, .thk, .ports, .v2g, .cpc, .gtr, .slvLink, .slvCtr, .brm, .cuf, .clk, .hst, .sessNext, .sessTop, .out] s (State.onPartner f s) := by
  unfold State.onPartner
  iterate 14 all_goals try first
    | with_reducible exact Moves.refl _ _
    | dsimp only
    | assumption
    | with_reducible refine Moves.onlyIf _ _ (fun _ => ?_)
    | with_reducible refine (State.brmDo_moves ..).to (by decide) ?_
    | with_reducible refine Moves.foldl (fun _ _ => ?_) _ _ _ ?_
    | split
    | refine Moves.at ?_ (fun q hq => by cases q <;> first | exact absurd (by decide) hq | simp only [Part.same]) (by first | (simp only [flashOk, imp_self]; done) | (simp; done)) (by first | (simp only [logOk, imp_self]; done) | (simp; done)) (by first | (simp only [ringOk, imp_self]; done) | (simp; done)) (by first | exact List.prefix_rfl | exact List.prefix_append _ _ | exact (List.prefix_append _ _).trans (List.prefix_append _ _))

end Sys2Proof.Machine
end

