-- ==== Sys2Proof/Laws/MovesBus.lean ====
section
/-! SUPPORT. What each operation of Machine/Bus.lean can change: at most the listed parts, and a safe state stays safe. -/

namespace Sys2Proof.Machine

theorem State.canAccept_moves (b : Fin 4) (f : CanFrame) (s : State) : Moves [.thk, .mb, .hst, .out] s (s.canAccept b f).1 := by
  unfold State.canAccept
  iterate 14 all_goals try first
    | with_reducible exact Moves.refl _ _
    | dsimp only
    | with_reducible refine (State.busMod_moves ..).to (by decide) ?_
    | with_reducible refine (State.highPriority_moves ..).to (by decide) ?_
    | split

theorem State.canReceive_moves (b : Fin 4) (f : CanFrame) (s : State) : Moves [.thk, .mb, .hst, .out] s (s.canReceive b f).1 := by
  unfold State.canReceive
  iterate 14 all_goals try first
    | with_reducible exact Moves.refl _ _
    | dsimp only
    | with_reducible refine (State.busMod_moves ..).to (by decide) ?_
    | with_reducible refine (State.canAccept_moves ..).to (by decide) ?_
    | with_reducible refine (State.confine_moves ..).to (by decide) ?_
    | split

theorem State.frameIn_moves (b : Fin 4) (f : CanFrame) (s : State) :
    Moves [.thk, .cnp, .mb, .seam, .hst, .out] s (State.frameIn b f s) := by
  unfold State.frameIn
  have h := (State.canReceive_moves b f s).weaken (by decide : _ ⊆ [.thk, .cnp, .mb, .seam, .hst, .out])
  split
  · rename_i e; rw [e] at h; exact h
  · rename_i e; rw [e] at h; exact (State.echoHeard_moves ..).to (by decide) h

theorem State.expectEcho_moves (b : Fin 4) (j : Nat) (data : List Byte) (s : State) :
    Moves [.seam] s (State.expectEcho b j data s) := by
  unfold State.expectEcho
  iterate 14 all_goals try first
    | with_reducible exact Moves.refl _ _
    | dsimp only
    | assumption
    | with_reducible refine Moves.onlyIf _ _ (fun _ => ?_)
    | with_reducible refine (State.echoMod_moves ..).to (by decide) ?_
    | with_reducible refine Moves.foldl (fun _ _ => ?_) _ _ _ ?_
    | split
    | refine Moves.at ?_ (fun q hq => by cases q <;> first | exact absurd (by decide) hq | simp only [Part.same]) (by first | (simp only [flashOk, imp_self]; done) | (simp; done)) (by first | (simp only [logOk, imp_self]; done) | (simp; done)) (by first | (simp only [ringOk, imp_self]; done) | (simp; done)) (by first | exact List.prefix_rfl | exact List.prefix_append _ _ | exact (List.prefix_append _ _).trans (List.prefix_append _ _))

theorem State.attemptEnd_moves (b : Fin 4) (slot : Nat) (r : TxResult) (w : TxFlaw) (s : State) :
    Moves [.thk, .cnp, .mb, .seam, .hst, .out] s (State.attemptEnd b slot r w s) := by
  unfold State.attemptEnd
  iterate 14 all_goals try first
    | with_reducible exact Moves.refl _ _
    | dsimp only
    | assumption
    | with_reducible refine (State.retryResult_moves ..).to (by decide) ?_
    | with_reducible refine (State.oneShotHold_moves ..).to (by decide) ?_
    | with_reducible refine (State.oneShotGroup_moves ..).to (by decide) ?_
    | with_reducible refine (State.expectEcho_moves ..).to (by decide) ?_
    | with_reducible refine Moves.foldl (fun _ _ => ?_) _ _ _ ?_
    | split
    | refine Moves.at ?_ (fun q hq => by cases q <;> first | exact absurd (by decide) hq | simp only [Part.same]) (by first | (simp only [flashOk, imp_self]; done) | (simp; done)) (by first | (simp only [logOk, imp_self]; done) | (simp; done)) (by first | (simp only [ringOk, imp_self]; done) | (simp; done)) (by first | exact List.prefix_rfl | exact List.prefix_append _ _ | exact (List.prefix_append _ _).trans (List.prefix_append _ _))

theorem State.oneShot_moves (b : Fin 4) (slot : Nat) (r : TxResult) (w : TxFlaw) (s : State) :
    Moves [.thk, .cnp, .mb, .seam, .hst, .out] s (State.oneShot b slot r w s) := by
  unfold State.oneShot
  iterate 14 all_goals try first
    | with_reducible exact Moves.refl _ _
    | dsimp only
    | assumption
    | with_reducible refine (State.attemptEnd_moves ..).to (by decide) ?_
    | with_reducible refine (State.busMod_moves ..).to (by decide) ?_
    | with_reducible refine (State.offers_moves ..).to (by decide) ?_
    | with_reducible refine Moves.foldl (fun _ _ => ?_) _ _ _ ?_
    | split
    | refine Moves.at ?_ (fun q hq => by cases q <;> first | exact absurd (by decide) hq | simp only [Part.same]) (by first | (simp only [flashOk, imp_self]; done) | (simp; done)) (by first | (simp only [logOk, imp_self]; done) | (simp; done)) (by first | (simp only [ringOk, imp_self]; done) | (simp; done)) (by first | exact List.prefix_rfl | exact List.prefix_append _ _ | exact (List.prefix_append _ _).trans (List.prefix_append _ _))

theorem State.sendLimits_moves (b : Fin 4) (s : State) :
    Moves [.mb] s (State.sendLimits b s) := by
  unfold State.sendLimits
  iterate 14 all_goals try first
    | with_reducible exact Moves.refl _ _
    | dsimp only
    | assumption
    | with_reducible refine (State.busMod_moves ..).to (by decide) ?_
    | with_reducible refine (State.queueLimit_moves ..).to (by decide) ?_
    | with_reducible refine Moves.foldl (fun _ _ => ?_) _ _ _ ?_
    | split
    | refine Moves.at ?_ (fun q hq => by cases q <;> first | exact absurd (by decide) hq | simp only [Part.same]) (by first | (simp only [flashOk, imp_self]; done) | (simp; done)) (by first | (simp only [logOk, imp_self]; done) | (simp; done)) (by first | (simp only [ringOk, imp_self]; done) | (simp; done)) (by first | exact List.prefix_rfl | exact List.prefix_append _ _ | exact (List.prefix_append _ _).trans (List.prefix_append _ _))

theorem State.takeAnnounce_moves (b : Fin 4) (x : RxFrame) (s : State) :
    Moves [.thk, .mb, .hst, .out] s (State.takeAnnounce b x s) := by
  unfold State.takeAnnounce
  iterate 14 all_goals try first
    | with_reducible exact Moves.refl _ _
    | dsimp only
    | assumption
    | with_reducible refine (State.queueMgmt_moves ..).to (by decide) ?_
    | with_reducible refine (State.admitModule_moves ..).to (by decide) ?_
    | with_reducible refine (State.raiseAt_moves ..).to (by decide) ?_
    | with_reducible refine (State.linkMod_moves ..).to (by decide) ?_
    | with_reducible refine Moves.foldl (fun _ _ => ?_) _ _ _ ?_
    | split
    | refine Moves.at ?_ (fun q hq => by cases q <;> first | exact absurd (by decide) hq | simp only [Part.same]) (by first | (simp only [flashOk, imp_self]; done) | (simp; done)) (by first | (simp only [logOk, imp_self]; done) | (simp; done)) (by first | (simp only [ringOk, imp_self]; done) | (simp; done)) (by first | exact List.prefix_rfl | exact List.prefix_append _ _ | exact (List.prefix_append _ _).trans (List.prefix_append _ _))

end Sys2Proof.Machine
end

