-- ==== Sys2Proof/Laws/MovesEsingOps.lean ====
section
/-! SUPPORT. What each operation of Machine/EsingOps.lean can change: at most the listed parts, and a safe state stays safe. -/

namespace Sys2Proof.Machine

theorem State.connMod_moves (k : Nat) (f : Option EsConn → Option EsConn) (s : State) :
    Moves [.hst] s (State.connMod k f s) := by
  unfold State.connMod
  iterate 14 all_goals try first
    | with_reducible exact Moves.refl _ _
    | dsimp only
    | assumption
    | with_reducible refine Moves.foldl (fun _ _ => ?_) _ _ _ ?_
    | split
    | refine Moves.at ?_ (fun q hq => by cases q <;> first | exact absurd (by decide) hq | simp only [Part.same]) (by first | (simp only [flashOk, imp_self]; done) | (simp; done)) (by first | (simp only [logOk, imp_self]; done) | (simp; done)) (by first | (simp only [ringOk, imp_self]; done) | (simp; done)) (by first | exact List.prefix_rfl | exact List.prefix_append _ _ | exact (List.prefix_append _ _).trans (List.prefix_append _ _))

theorem State.esPeer_moves (k : Nat) (write : Bool) (addr : Nat) (count : Nat) (ws : List Nat) (tag : Nat) (s : State) :
    Moves [.thk, .seam, .clk, .hst, .out] s (State.esPeer k write addr count ws tag s) := by
  unfold State.esPeer
  iterate 14 all_goals try first
    | with_reducible exact Moves.refl _ _
    | dsimp only
    | assumption
    | with_reducible refine (State.relayStart_moves ..).to (by decide) ?_
    | with_reducible refine (State.judged_moves ..).to (by decide) ?_
    | with_reducible refine (State.esAnswer_moves ..).to (by decide) ?_
    | with_reducible refine Moves.foldl (fun _ _ => ?_) _ _ _ ?_
    | split
    | refine Moves.at ?_ (fun q hq => by cases q <;> first | exact absurd (by decide) hq | simp only [Part.same]) (by first | (simp only [flashOk, imp_self]; done) | (simp; done)) (by first | (simp only [logOk, imp_self]; done) | (simp; done)) (by first | (simp only [ringOk, imp_self]; done) | (simp; done)) (by first | exact List.prefix_rfl | exact List.prefix_append _ _ | exact (List.prefix_append _ _).trans (List.prefix_append _ _))

theorem State.esRead_moves (k : Nat) (addr : Nat) (count : Nat) (tag : Nat) (s : State) :
    Moves [.fresh, .thk, .cnp, .mb, .ports, .twins, .cpc, .gtr, .slvLink, .seam, .lac, .brm, .cuf, .hem, .clk, .hst, .hiCap, .out] s (State.esRead k addr count tag s) := by
  unfold State.esRead
  iterate 14 all_goals try first
    | with_reducible exact Moves.refl _ _
    | dsimp only
    | assumption
    | with_reducible refine (State.readRun_moves ..).to (by decide) ?_
    | with_reducible refine (State.esAnswer_moves ..).to (by decide) ?_
    | with_reducible refine Moves.foldl (fun _ _ => ?_) _ _ _ ?_
    | split
    | refine Moves.at ?_ (fun q hq => by cases q <;> first | exact absurd (by decide) hq | simp only [Part.same]) (by first | (simp only [flashOk, imp_self]; done) | (simp; done)) (by first | (simp only [logOk, imp_self]; done) | (simp; done)) (by first | (simp only [ringOk, imp_self]; done) | (simp; done)) (by first | exact List.prefix_rfl | exact List.prefix_append _ _ | exact (List.prefix_append _ _).trans (List.prefix_append _ _))

theorem State.denied_moves (addr : Nat) (s : State) :
    Moves [.thk, .hst, .out] s (State.denied addr s) := by
  unfold State.denied
  iterate 14 all_goals try first
    | with_reducible exact Moves.refl _ _
    | dsimp only
    | assumption
    | with_reducible refine (State.judged_moves ..).to (by decide) ?_
    | with_reducible refine Moves.foldl (fun _ _ => ?_) _ _ _ ?_
    | split
    | refine Moves.at ?_ (fun q hq => by cases q <;> first | exact absurd (by decide) hq | simp only [Part.same]) (by first | (simp only [flashOk, imp_self]; done) | (simp; done)) (by first | (simp only [logOk, imp_self]; done) | (simp; done)) (by first | (simp only [ringOk, imp_self]; done) | (simp; done)) (by first | exact List.prefix_rfl | exact List.prefix_append _ _ | exact (List.prefix_append _ _).trans (List.prefix_append _ _))

theorem State.esWrite_moves (k : Nat) (role : Nat) (addr : Nat) (ws : List Nat) (tag : Nat) (s : State) :
    Moves [.tb, .fresh, .cfg, .rst, .gld, .thk, .site, .cnp, .mb, .ports, .v2g, .twins, .cpc, .gtr, .slvLink, .slvCtr, .seam, .lac, .brm, .cuf, .hem, .clk, .img, .hst, .sessNext, .sessTop, .hiCap, .out] s (State.esWrite k role addr ws tag s) := by
  unfold State.esWrite
  iterate 14 all_goals try first
    | with_reducible exact Moves.refl _ _
    | dsimp only
    | assumption
    | with_reducible refine (State.writeRun_moves ..).to (by decide) ?_
    | with_reducible refine (State.denied_moves ..).to (by decide) ?_
    | with_reducible refine (State.esAnswer_moves ..).to (by decide) ?_
    | with_reducible refine Moves.foldl (fun _ _ => ?_) _ _ _ ?_
    | split
    | refine Moves.at ?_ (fun q hq => by cases q <;> first | exact absurd (by decide) hq | simp only [Part.same]) (by first | (simp only [flashOk, imp_self]; done) | (simp; done)) (by first | (simp only [logOk, imp_self]; done) | (simp; done)) (by first | (simp only [ringOk, imp_self]; done) | (simp; done)) (by first | exact List.prefix_rfl | exact List.prefix_append _ _ | exact (List.prefix_append _ _).trans (List.prefix_append _ _))

theorem State.esPeerWrite_moves (k : Nat) (role : Nat) (addr : Nat) (ws : List Nat) (tag : Nat) (s : State) :
    Moves [.thk, .seam, .clk, .hst, .out] s (State.esPeerWrite k role addr ws tag s) := by
  unfold State.esPeerWrite
  iterate 14 all_goals try first
    | with_reducible exact Moves.refl _ _
    | dsimp only
    | assumption
    | with_reducible refine (State.denied_moves ..).to (by decide) ?_
    | with_reducible refine (State.esAnswer_moves ..).to (by decide) ?_
    | with_reducible refine (State.esPeer_moves ..).to (by decide) ?_
    | with_reducible refine Moves.foldl (fun _ _ => ?_) _ _ _ ?_
    | split
    | refine Moves.at ?_ (fun q hq => by cases q <;> first | exact absurd (by decide) hq | simp only [Part.same]) (by first | (simp only [flashOk, imp_self]; done) | (simp; done)) (by first | (simp only [logOk, imp_self]; done) | (simp; done)) (by first | (simp only [ringOk, imp_self]; done) | (simp; done)) (by first | exact List.prefix_rfl | exact List.prefix_append _ _ | exact (List.prefix_append _ _).trans (List.prefix_append _ _))

theorem State.esDoRead_moves (k : Nat) (m : EsHead) (addr : Nat) (count : Nat) (s : State) :
    Moves [.fresh, .thk, .cnp, .mb, .ports, .twins, .cpc, .gtr, .slvLink, .seam, .lac, .brm, .cuf, .hem, .clk, .hst, .hiCap, .out] s (State.esDoRead k m addr count s) := by
  unfold State.esDoRead
  iterate 14 all_goals try first
    | with_reducible exact Moves.refl _ _
    | dsimp only
    | assumption
    | with_reducible refine (State.judged_moves ..).to (by decide) ?_
    | with_reducible refine (State.esAnswer_moves ..).to (by decide) ?_
    | with_reducible refine (State.esPeer_moves ..).to (by decide) ?_
    | with_reducible refine (State.esRead_moves ..).to (by decide) ?_
    | with_reducible refine Moves.foldl (fun _ _ => ?_) _ _ _ ?_
    | split
    | refine Moves.at ?_ (fun q hq => by cases q <;> first | exact absurd (by decide) hq | simp only [Part.same]) (by first | (simp only [flashOk, imp_self]; done) | (simp; done)) (by first | (simp only [logOk, imp_self]; done) | (simp; done)) (by first | (simp only [ringOk, imp_self]; done) | (simp; done)) (by first | exact List.prefix_rfl | exact List.prefix_append _ _ | exact (List.prefix_append _ _).trans (List.prefix_append _ _))

theorem State.esDoWrite_moves (k : Nat) (role : Nat) (m : EsHead) (addr : Nat) (count : Nat) (ws : List Nat) (s : State) :
    Moves [.tb, .fresh, .cfg, .rst, .gld, .thk, .site, .cnp, .mb, .ports, .v2g, .twins, .cpc, .gtr, .slvLink, .slvCtr, .seam, .lac, .brm, .cuf, .hem, .clk, .img, .hst, .sessNext, .sessTop, .hiCap, .out] s (State.esDoWrite k role m addr count ws s) := by
  unfold State.esDoWrite
  iterate 14 all_goals try first
    | with_reducible exact Moves.refl _ _
    | dsimp only
    | assumption
    | with_reducible refine (State.judged_moves ..).to (by decide) ?_
    | with_reducible refine (State.esAnswer_moves ..).to (by decide) ?_
    | with_reducible refine (State.esPeerWrite_moves ..).to (by decide) ?_
    | with_reducible refine (State.esWrite_moves ..).to (by decide) ?_
    | with_reducible refine Moves.foldl (fun _ _ => ?_) _ _ _ ?_
    | split
    | refine Moves.at ?_ (fun q hq => by cases q <;> first | exact absurd (by decide) hq | simp only [Part.same]) (by first | (simp only [flashOk, imp_self]; done) | (simp; done)) (by first | (simp only [logOk, imp_self]; done) | (simp; done)) (by first | (simp only [ringOk, imp_self]; done) | (simp; done)) (by first | exact List.prefix_rfl | exact List.prefix_append _ _ | exact (List.prefix_append _ _).trans (List.prefix_append _ _))

theorem State.esDoLog_moves (k : Nat) (m : EsHead) (first : Nat) (count : Nat) (s : State) :
    Moves [.out] s (State.esDoLog k m first count s) := by
  unfold State.esDoLog
  iterate 14 all_goals try first
    | with_reducible exact Moves.refl _ _
    | dsimp only
    | assumption
    | with_reducible refine (State.emit_moves ..).to (by decide) ?_
    | with_reducible refine Moves.foldl (fun _ _ => ?_) _ _ _ ?_
    | split
    | refine Moves.at ?_ (fun q hq => by cases q <;> first | exact absurd (by decide) hq | simp only [Part.same]) (by first | (simp only [flashOk, imp_self]; done) | (simp; done)) (by first | (simp only [logOk, imp_self]; done) | (simp; done)) (by first | (simp only [ringOk, imp_self]; done) | (simp; done)) (by first | exact List.prefix_rfl | exact List.prefix_append _ _ | exact (List.prefix_append _ _).trans (List.prefix_append _ _))

theorem State.esDoSub_moves (k : Nat) (m : EsHead) (mask : Nat) (s : State) :
    Moves [.hst, .out] s (State.esDoSub k m mask s) := by
  unfold State.esDoSub
  iterate 14 all_goals try first
    | with_reducible exact Moves.refl _ _
    | dsimp only
    | assumption
    | with_reducible refine (State.esAnswer_moves ..).to (by decide) ?_
    | with_reducible refine (State.connMod_moves ..).to (by decide) ?_
    | with_reducible refine Moves.foldl (fun _ _ => ?_) _ _ _ ?_
    | split
    | refine Moves.at ?_ (fun q hq => by cases q <;> first | exact absurd (by decide) hq | simp only [Part.same]) (by first | (simp only [flashOk, imp_self]; done) | (simp; done)) (by first | (simp only [logOk, imp_self]; done) | (simp; done)) (by first | (simp only [ringOk, imp_self]; done) | (simp; done)) (by first | exact List.prefix_rfl | exact List.prefix_append _ _ | exact (List.prefix_append _ _).trans (List.prefix_append _ _))

theorem State.esDo_moves (k : Nat) (role : Nat) (q : EsReq) (s : State) :
    Moves [.tb, .fresh, .cfg, .rst, .gld, .thk, .site, .cnp, .mb, .ports, .v2g, .twins, .cpc, .gtr, .slvLink, .slvCtr, .seam, .lac, .brm, .cuf, .hem, .clk, .img, .hst, .sessNext, .sessTop, .hiCap, .out] s (State.esDo k role q s) := by
  unfold State.esDo
  iterate 14 all_goals try first
    | with_reducible exact Moves.refl _ _
    | dsimp only
    | assumption
    | with_reducible refine (State.esDoRead_moves ..).to (by decide) ?_
    | with_reducible refine (State.esDoWrite_moves ..).to (by decide) ?_
    | with_reducible refine (State.esDoLog_moves ..).to (by decide) ?_
    | with_reducible refine (State.esDoSub_moves ..).to (by decide) ?_
    | with_reducible refine Moves.foldl (fun _ _ => ?_) _ _ _ ?_
    | split
    | refine Moves.at ?_ (fun q hq => by cases q <;> first | exact absurd (by decide) hq | simp only [Part.same]) (by first | (simp only [flashOk, imp_self]; done) | (simp; done)) (by first | (simp only [logOk, imp_self]; done) | (simp; done)) (by first | (simp only [ringOk, imp_self]; done) | (simp; done)) (by first | exact List.prefix_rfl | exact List.prefix_append _ _ | exact (List.prefix_append _ _).trans (List.prefix_append _ _))

theorem State.onEsing_moves {ps : List Part} (hs : .hst ∈ ps) (k : Nat) (q : EsReq) (s : State)
    (hq : ∀ r t, Moves ps t (State.esDo k r q t)) : Moves ps s (State.onEsing k q s) := by
  have h (f : Option EsConn → Option EsConn) (t : State) : Moves ps t (t.connMod k f) :=
    (State.connMod_moves ..).weaken (fun _ h => by simp at h; simp [h, hs])
  unfold State.onEsing
  dsimp only
  split
  · exact .refl _ _
  · split
    · exact .refl _ _
    · split
      · exact (h _ _).trans (h _ _)
      · exact (h _ _).trans (hq _ _)

theorem State.esDrain_moves (k role : Nat) (qs : List EsReq) (s : State) :
    Moves [.tb, .fresh, .cfg, .rst, .gld, .thk, .site, .cnp, .mb, .ports, .v2g, .twins, .cpc, .gtr, .slvLink, .slvCtr, .seam, .lac, .brm, .cuf, .hem, .clk, .img, .hst, .sessNext, .sessTop, .hiCap, .out] s (State.esDrain k role qs s) := by
  induction qs generalizing s with
  | nil => exact .refl _ _
  | cons q qs ih =>
    unfold State.esDrain
    split
    · exact (State.connMod_moves ..).weaken (by decide)
    · exact (ih _).to (fun _ h => h) ((State.esDo_moves ..).weaken (by decide))

theorem State.esResume_moves (k : Nat) (s : State) :
    Moves [.tb, .fresh, .cfg, .rst, .gld, .thk, .site, .cnp, .mb, .ports, .v2g, .twins, .cpc, .gtr, .slvLink, .slvCtr, .seam, .lac, .brm, .cuf, .hem, .clk, .img, .hst, .sessNext, .sessTop, .hiCap, .out] s (State.esResume k s) := by
  unfold State.esResume
  iterate 14 all_goals try first
    | with_reducible exact Moves.refl _ _
    | dsimp only
    | assumption
    | with_reducible refine (State.esDrain_moves ..).to (by decide) ?_
    | with_reducible refine (State.connMod_moves ..).to (by decide) ?_
    | with_reducible refine Moves.foldl (fun _ _ => ?_) _ _ _ ?_
    | split
    | refine Moves.at ?_ (fun q hq => by cases q <;> first | exact absurd (by decide) hq | simp only [Part.same]) (by first | (simp only [flashOk, imp_self]; done) | (simp; done)) (by first | (simp only [logOk, imp_self]; done) | (simp; done)) (by first | (simp only [ringOk, imp_self]; done) | (simp; done)) (by first | exact List.prefix_rfl | exact List.prefix_append _ _ | exact (List.prefix_append _ _).trans (List.prefix_append _ _))

theorem State.relayAnswer_moves (r : RelayPend) (st : Status) (done : Nat) (s : State) :
    Moves [.tb, .fresh, .cfg, .rst, .gld, .thk, .site, .cnp, .mb, .ports, .v2g, .twins, .cpc, .gtr, .slvLink, .slvCtr, .seam, .lac, .brm, .cuf, .hem, .clk, .img, .hst, .sessNext, .sessTop, .hiCap, .out] s (State.relayAnswer r st done s) := by
  unfold State.relayAnswer
  iterate 14 all_goals try first
    | with_reducible exact Moves.refl _ _
    | dsimp only
    | assumption
    | with_reducible refine (State.relayDone_moves ..).to (by decide) ?_
    | with_reducible refine (State.esResume_moves ..).to (by decide) ?_
    | with_reducible refine Moves.foldl (fun _ _ => ?_) _ _ _ ?_
    | split
    | refine Moves.at ?_ (fun q hq => by cases q <;> first | exact absurd (by decide) hq | simp only [Part.same]) (by first | (simp only [flashOk, imp_self]; done) | (simp; done)) (by first | (simp only [logOk, imp_self]; done) | (simp; done)) (by first | (simp only [ringOk, imp_self]; done) | (simp; done)) (by first | exact List.prefix_rfl | exact List.prefix_append _ _ | exact (List.prefix_append _ _).trans (List.prefix_append _ _))

theorem State.relayBreak_moves (s : State) :
    Moves [.tb, .fresh, .cfg, .rst, .gld, .thk, .site, .cnp, .mb, .ports, .v2g, .twins, .cpc, .gtr, .slvLink, .slvCtr, .seam, .lac, .brm, .cuf, .hem, .clk, .img, .hst, .sessNext, .sessTop, .hiCap, .out] s (State.relayBreak s) := by
  unfold State.relayBreak
  iterate 14 all_goals try first
    | with_reducible exact Moves.refl _ _
    | dsimp only
    | assumption
    | with_reducible refine (State.relayAnswer_moves ..).to (by decide) ?_
    | with_reducible refine Moves.foldl (fun _ _ => ?_) _ _ _ ?_
    | split
    | refine Moves.at ?_ (fun q hq => by cases q <;> first | exact absurd (by decide) hq | simp only [Part.same]) (by first | (simp only [flashOk, imp_self]; done) | (simp; done)) (by first | (simp only [logOk, imp_self]; done) | (simp; done)) (by first | (simp only [ringOk, imp_self]; done) | (simp; done)) (by first | exact List.prefix_rfl | exact List.prefix_append _ _ | exact (List.prefix_append _ _).trans (List.prefix_append _ _))

end Sys2Proof.Machine
end

