-- ==== Sys2Proof/Laws/MovesGaiterCmds.lean ====
section
/-! SUPPORT. What each operation of Machine/GaiterCmds.lean can change: at most the listed parts, and a safe state stays safe. -/

namespace Sys2Proof.Machine

theorem State.onGaiter_moves (f : GCtx → GCtx) (s : State) :
    Moves [.fresh, .thk, .ports, .v2g, .cpc, .gtr, .slvLink, .slvCtr, .cuf, .clk, .hst, .sessNext, .sessTop, .out] s (State.onGaiter f s) := by
  unfold State.onGaiter
  iterate 14 all_goals try first
    | with_reducible exact Moves.refl _ _
    | dsimp only
    | assumption
    | with_reducible refine Moves.onlyIf _ _ (fun _ => ?_)
    | with_reducible refine (State.gtrDo_moves ..).to (by decide) ?_
    | with_reducible refine Moves.foldl (fun _ _ => ?_) _ _ _ ?_
    | split
    | refine Moves.at ?_ (fun q hq => by cases q <;> first | exact absurd (by decide) hq | simp only [Part.same]) (by first | (simp only [flashOk, imp_self]; done) | (simp; done)) (by first | (simp only [logOk, imp_self]; done) | (simp; done)) (by first | (simp only [ringOk, imp_self]; done) | (simp; done)) (by first | exact List.prefix_rfl | exact List.prefix_append _ _ | exact (List.prefix_append _ _).trans (List.prefix_append _ _))

theorem State.beat_moves (s : State) :
    Moves [.fresh, .thk, .ports, .v2g, .cpc, .gtr, .slvLink, .slvCtr, .seam, .cuf, .clk, .hst, .sessNext, .sessTop, .out] s (State.beat s) := by
  unfold State.beat
  iterate 14 all_goals try first
    | with_reducible exact Moves.refl _ _
    | dsimp only
    | assumption
    | with_reducible refine (State.gtrDo_moves ..).to (by decide) ?_
    | with_reducible refine (State.seamMod_moves _ _ ?_).to (by decide) ?_
    | (simp only [ringOk, Seam.setGen, imp_self]; done)
    | exact fun h : ringOk _ => h
    | with_reducible refine Moves.foldl (fun _ _ => ?_) _ _ _ ?_
    | split
    | refine Moves.at ?_ (fun q hq => by cases q <;> first | exact absurd (by decide) hq | simp only [Part.same]) (by first | (simp only [flashOk, imp_self]; done) | (simp; done)) (by first | (simp only [logOk, imp_self]; done) | (simp; done)) (by first | (simp only [ringOk, imp_self]; done) | (simp; done)) (by first | exact List.prefix_rfl | exact List.prefix_append _ _ | exact (List.prefix_append _ _).trans (List.prefix_append _ _))

theorem State.hbLost_moves (s : State) :
    Moves [.fresh, .thk, .cnp, .mb, .ports, .v2g, .cpc, .gtr, .slvLink, .slvCtr, .seam, .cuf, .clk, .hst, .sessNext, .sessTop, .out] s (State.hbLost s) := by
  unfold State.hbLost
  iterate 14 all_goals try first
    | with_reducible exact Moves.refl _ _
    | dsimp only
    | assumption
    | with_reducible refine (State.gtrDo_moves ..).to (by decide) ?_
    | with_reducible refine (State.release_moves ..).to (by decide) ?_
    | with_reducible refine Moves.foldl (fun _ _ => ?_) _ _ _ ?_
    | split
    | refine Moves.at ?_ (fun q hq => by cases q <;> first | exact absurd (by decide) hq | simp only [Part.same]) (by first | (simp only [flashOk, imp_self]; done) | (simp; done)) (by first | (simp only [logOk, imp_self]; done) | (simp; done)) (by first | (simp only [ringOk, imp_self]; done) | (simp; done)) (by first | exact List.prefix_rfl | exact List.prefix_append _ _ | exact (List.prefix_append _ _).trans (List.prefix_append _ _))

end Sys2Proof.Machine
end

