-- ==== Sys2Proof/Laws/MovesImageCmds.lean ====
section
/-! SUPPORT. What each operation of Machine/ImageCmds.lean can change: at most the listed parts, and a safe state stays safe. -/

namespace Sys2Proof.Machine

theorem State.imgPut_moves (l : Loader) (s : State) (h : flashOk s.img → flashOk l) : Moves [.img] s (State.imgPut l s) :=
  Moves.at (.refl _ _) (fun q hq => by cases q <;> first | exact absurd (by decide) hq | simp only [Part.same]) h (fun i => i) (fun i => i) List.prefix_rfl

theorem State.imgRaise_moves (e : Ev) (r : Loader × Bool) (s : State) (h : flashOk s.img → flashOk r.1) :
    Moves [.thk, .img, .hst, .out] s (State.imgRaise e r s) := by
  unfold State.imgRaise
  split
  · exact (State.raise_moves ..).to (by decide) ((State.imgPut_moves _ _ h).weaken (by decide))
  · exact (State.imgPut_moves _ _ h).weaken (by decide)

theorem State.startChoice_moves (s : State) :
    Moves [.fresh, .thk, .cnp, .ports, .v2g, .cpc, .gtr, .slvLink, .slvCtr, .seam, .lac, .brm, .cuf, .clk, .hst, .sessNext, .sessTop, .out] s (State.startChoice s) := by
  unfold State.startChoice
  iterate 14 all_goals try first
    | with_reducible exact Moves.refl _ _
    | dsimp only
    | assumption
    | with_reducible refine (State.becomeStandby_moves ..).to (by decide) ?_
    | with_reducible refine Moves.foldl (fun _ _ => ?_) _ _ _ ?_
    | split
    | refine Moves.at ?_ (fun q hq => by cases q <;> first | exact absurd (by decide) hq | simp only [Part.same]) (by first | (simp only [flashOk, imp_self]; done) | (simp; done)) (by first | (simp only [logOk, imp_self]; done) | (simp; done)) (by first | (simp only [ringOk, imp_self]; done) | (simp; done)) (by first | exact List.prefix_rfl | exact List.prefix_append _ _ | exact (List.prefix_append _ _).trans (List.prefix_append _ _))

theorem State.leafIntoForce_moves (s : State) :
    Moves [.fresh, .cfg, .thk, .cnp, .mb, .ports, .v2g, .twins, .cpc, .gtr, .slvLink, .slvCtr, .seam, .lac, .brm, .cuf, .hem, .clk, .img, .hst, .sessNext, .sessTop, .out] s (State.leafIntoForce s) := by
  unfold State.leafIntoForce
  split
  · exact .refl _ _
  · rename_i l h
    exact (State.startChoice_moves ..).to (by decide) ((State.applyLeaf_moves ..).to (by decide)
      ((State.imgPut_moves _ _ (flashOk_leafApply h)).weaken (by decide)))

theorem State.restIntoForce_moves (s : State) :
    Moves [.fresh, .cfg, .thk, .cnp, .ports, .twins, .cpc, .seam, .lac, .brm, .cuf, .hem, .img, .hst, .out] s (State.restIntoForce s) := by
  unfold State.restIntoForce
  split
  · exact .refl _ _
  · rename_i l rs h
    exact (State.applyRest_moves ..).to (by decide) ((State.imgPut_moves _ _ (flashOk_restApply h)).weaken (by decide))

theorem State.imgRefusedNow_moves (l : Loader) (s : State) (h : flashOk s.img → flashOk l) :
    Moves [.fresh, .thk, .cnp, .ports, .v2g, .cpc, .gtr, .slvLink, .slvCtr, .cuf, .clk, .img, .hst, .sessNext, .sessTop, .out] s (State.imgRefusedNow l s) := by
  unfold State.imgRefusedNow
  refine (State.softRequest_moves ..).to (by decide) (Moves.at (t := (s.imgPut l).raise .imageRefused) ?_
    (fun q hq => by cases q <;> first | exact absurd (by decide) hq | simp only [Part.same]) (fun i => i) (fun i => i) (fun i => i) List.prefix_rfl)
  exact (State.raise_moves ..).to (by decide) ((State.imgPut_moves _ _ h).weaken (by decide))

theorem State.restFails_moves (a : Bool) (s : State) :
    Moves [.fresh, .thk, .cnp, .ports, .v2g, .cpc, .gtr, .slvLink, .slvCtr, .cuf, .clk, .img, .hst, .sessNext, .sessTop, .out] s (State.restFails a s) := by
  unfold State.restFails
  split
  · exact .refl _ _
  · rename_i l h
    exact (State.imgRefusedNow_moves _ _ (flashOk_restRefused h)).weaken (by decide)

theorem State.imgOp_moves (f : State → Status × Loader) (s : State) (h : flashOk s.img → flashOk (f s).2) :
    Moves [.thk, .img, .hst, .out] s (State.imgOp f s) :=
  State.hostCommand_moves (by decide) _ _ _ ((State.imgPut_moves _ _ h).weaken (by decide))

theorem State.imgOpFree_moves (f : List Byte → State → Status × Loader) (s : State)
    (h : ∀ bs, flashOk s.img → flashOk (f bs s).2) : Moves [.fresh, .thk, .img, .hst, .out] s (State.imgOpFree f s) :=
  State.hostCommand_moves (by decide) _ _ _
    ((State.imgPut_moves _ _ (by exact h _)).to (by decide) ((State.free_moves s).weaken (by decide)))

end Sys2Proof.Machine
end

