-- ==== Sys2Proof/Laws/MovesSeamCmds.lean ====
section
/-! SUPPORT. What each operation of Machine/SeamCmds.lean can change: at most the listed parts, and a safe state stays safe. -/

namespace Sys2Proof.Machine

theorem State.laneUp_moves (k : Fin 2) (s : State) :
    Moves [.thk, .seam, .clk, .hst, .out] s (State.laneUp k s) := by
  unfold State.laneUp
  iterate 14 all_goals try first
    | with_reducible exact Moves.refl _ _
    | dsimp only
    | assumption
    | with_reducible refine (State.seamMod_moves _ _ ?_).to (by decide) ?_
    | (simp only [ringOk, Seam.setGen, imp_self]; done)
    | exact fun h : ringOk _ => h
    | with_reducible refine (State.judgeFit_moves ..).to (by decide) ?_
    | with_reducible refine (State.askResync_moves ..).to (by decide) ?_
    | with_reducible refine Moves.foldl (fun _ _ => ?_) _ _ _ ?_
    | split
    | refine Moves.at ?_ (fun q hq => by cases q <;> first | exact absurd (by decide) hq | simp only [Part.same]) (by first | (simp only [flashOk, imp_self]; done) | (simp; done)) (by first | (simp only [logOk, imp_self]; done) | (simp; done)) (by first | (simp only [ringOk, imp_self]; done) | (simp; done)) (by first | exact List.prefix_rfl | exact List.prefix_append _ _ | exact (List.prefix_append _ _).trans (List.prefix_append _ _))

theorem State.losePeer_moves (s : State) :
    Moves [.tb, .fresh, .cfg, .rst, .gld, .thk, .site, .cnp, .mb, .ports, .v2g, .twins, .cpc, .gtr, .slvLink, .slvCtr, .seam, .lac, .brm, .cuf, .hem, .clk, .img, .hst, .sessNext, .sessTop, .hiCap, .out] s (State.losePeer s) := by
  unfold State.losePeer
  iterate 14 all_goals try first
    | with_reducible exact Moves.refl _ _
    | dsimp only
    | assumption
    | with_reducible refine (State.seamMod_moves _ _ ?_).to (by decide) ?_
    | (simp only [ringOk, Seam.setGen, imp_self]; done)
    | exact fun h : ringOk _ => h
    | with_reducible refine (State.raise_moves ..).to (by decide) ?_
    | with_reducible refine (State.judgeFit_moves ..).to (by decide) ?_
    | with_reducible refine (State.relayBreak_moves ..).to (by decide) ?_
    | with_reducible refine Moves.foldl (fun _ _ => ?_) _ _ _ ?_
    | split
    | refine Moves.at ?_ (fun q hq => by cases q <;> first | exact absurd (by decide) hq | simp only [Part.same]) (by first | (simp only [flashOk, imp_self]; done) | (simp; done)) (by first | (simp only [logOk, imp_self]; done) | (simp; done)) (by first | (simp only [ringOk, imp_self]; done) | (simp; done)) (by first | exact List.prefix_rfl | exact List.prefix_append _ _ | exact (List.prefix_append _ _).trans (List.prefix_append _ _))

theorem State.journalIn_moves (f : SeamFrame) (s : State) :
    Moves [.thk, .seam, .clk, .hst, .out] s (State.journalIn f s) := by
  unfold State.journalIn
  iterate 14 all_goals try first
    | with_reducible exact Moves.refl _ _
    | dsimp only
    | assumption
    | with_reducible refine (State.seamTake_moves ..).to (by decide) ?_
    | with_reducible refine (State.seamMod_moves _ _ ?_).to (by decide) ?_
    | (simp only [ringOk, Seam.setGen, imp_self]; done)
    | exact fun h : ringOk _ => h
    | with_reducible refine (State.storeEntry_moves ..).to (by decide) ?_
    | with_reducible refine Moves.foldl (fun _ _ => ?_) _ _ _ ?_
    | split
    | refine Moves.at ?_ (fun q hq => by cases q <;> first | exact absurd (by decide) hq | simp only [Part.same]) (by first | (simp only [flashOk, imp_self]; done) | (simp; done)) (by first | (simp only [logOk, imp_self]; done) | (simp; done)) (by first | (simp only [ringOk, imp_self]; done) | (simp; done)) (by first | exact List.prefix_rfl | exact List.prefix_append _ _ | exact (List.prefix_append _ _).trans (List.prefix_append _ _))

theorem State.ackIn_moves (f : SeamFrame) (s : State) :
    Moves [.thk, .seam, .hst, .out] s (State.ackIn f s) := by
  unfold State.ackIn
  iterate 14 all_goals try first
    | with_reducible exact Moves.refl _ _
    | dsimp only
    | assumption
    | with_reducible refine (State.seamAccept_moves ..).to (by decide) ?_
    | with_reducible refine (State.seamMod_moves _ _ ?_).to (by decide) ?_
    | (simp only [ringOk, Seam.setGen, imp_self]; done)
    | exact fun h : ringOk _ => h
    | with_reducible refine (State.judgeFit_moves ..).to (by decide) ?_
    | with_reducible refine Moves.foldl (fun _ _ => ?_) _ _ _ ?_
    | split
    | refine Moves.at ?_ (fun q hq => by cases q <;> first | exact absurd (by decide) hq | simp only [Part.same]) (by first | (simp only [flashOk, imp_self]; done) | (simp; done)) (by first | (simp only [logOk, imp_self]; done) | (simp; done)) (by first | (simp only [ringOk, imp_self]; done) | (simp; done)) (by first | exact List.prefix_rfl | exact List.prefix_append _ _ | exact (List.prefix_append _ _).trans (List.prefix_append _ _))

theorem State.statusIn_moves (f : SeamFrame) (s : State) :
    Moves [.fresh, .thk, .cnp, .mb, .ports, .v2g, .cpc, .gtr, .slvLink, .slvCtr, .seam, .lac, .brm, .cuf, .clk, .hst, .sessNext, .sessTop, .out] s (State.statusIn f s) := by
  unfold State.statusIn
  iterate 14 all_goals try first
    | with_reducible exact Moves.refl _ _
    | dsimp only
    | assumption
    | with_reducible refine (State.seamTake_moves ..).to (by decide) ?_
    | with_reducible refine (State.seamMod_moves _ _ ?_).to (by decide) ?_
    | (simp only [ringOk, Seam.setGen, imp_self]; done)
    | exact fun h : ringOk _ => h
    | with_reducible refine (State.chooseRole_moves ..).to (by decide) ?_
    | with_reducible refine (State.judgeFit_moves ..).to (by decide) ?_
    | with_reducible refine Moves.foldl (fun _ _ => ?_) _ _ _ ?_
    | split
    | refine Moves.at ?_ (fun q hq => by cases q <;> first | exact absurd (by decide) hq | simp only [Part.same]) (by first | (simp only [flashOk, imp_self]; done) | (simp; done)) (by first | (simp only [logOk, imp_self]; done) | (simp; done)) (by first | (simp only [ringOk, imp_self]; done) | (simp; done)) (by first | exact List.prefix_rfl | exact List.prefix_append _ _ | exact (List.prefix_append _ _).trans (List.prefix_append _ _))

theorem State.releaseIn_moves (f : SeamFrame) (s : State) :
    Moves [.fresh, .thk, .cnp, .mb, .ports, .v2g, .twins, .cpc, .gtr, .slvLink, .slvCtr, .seam, .lac, .brm, .cuf, .clk, .hst, .sessNext, .sessTop, .out] s (State.releaseIn f s) := by
  unfold State.releaseIn
  iterate 14 all_goals try first
    | with_reducible exact Moves.refl _ _
    | dsimp only
    | assumption
    | with_reducible refine (State.seamTake_moves ..).to (by decide) ?_
    | with_reducible refine (State.takeover_moves ..).to (by decide) ?_
    | with_reducible refine Moves.foldl (fun _ _ => ?_) _ _ _ ?_
    | split
    | refine Moves.at ?_ (fun q hq => by cases q <;> first | exact absurd (by decide) hq | simp only [Part.same]) (by first | (simp only [flashOk, imp_self]; done) | (simp; done)) (by first | (simp only [logOk, imp_self]; done) | (simp; done)) (by first | (simp only [ringOk, imp_self]; done) | (simp; done)) (by first | exact List.prefix_rfl | exact List.prefix_append _ _ | exact (List.prefix_append _ _).trans (List.prefix_append _ _))

theorem State.resyncIn_moves (f : SeamFrame) (s : State) :
    Moves [.tb, .fresh, .cfg, .rst, .gld, .thk, .site, .cnp, .mb, .ports, .v2g, .twins, .cpc, .gtr, .slvLink, .slvCtr, .seam, .lac, .brm, .cuf, .hem, .clk, .img, .hst, .sessNext, .sessTop, .hiCap, .out] s (State.resyncIn f s) := by
  unfold State.resyncIn
  iterate 14 all_goals try first
    | with_reducible exact Moves.refl _ _
    | dsimp only
    | assumption
    | with_reducible refine (State.seamAccept_moves ..).to (by decide) ?_
    | with_reducible refine (State.resyncRequest_moves ..).to (by decide) ?_
    | with_reducible refine (State.relayBreak_moves ..).to (by decide) ?_
    | with_reducible refine Moves.foldl (fun _ _ => ?_) _ _ _ ?_
    | split
    | refine Moves.at ?_ (fun q hq => by cases q <;> first | exact absurd (by decide) hq | simp only [Part.same]) (by first | (simp only [flashOk, imp_self]; done) | (simp; done)) (by first | (simp only [logOk, imp_self]; done) | (simp; done)) (by first | (simp only [ringOk, imp_self]; done) | (simp; done)) (by first | exact List.prefix_rfl | exact List.prefix_append _ _ | exact (List.prefix_append _ _).trans (List.prefix_append _ _))

theorem ringOk_takeImage {m : Seam} (lseq now : Nat) (e : JFull) (h : ringOk m) : ringOk (m.takeImage lseq now e) := by
  have k := ringOk_store lseq now e h
  unfold ringOk Seam.takeImage Seam.holdTwins
  exact k

theorem State.snapshotIn_moves (f : SeamFrame) (s : State) :
    Moves [.thk, .seam, .clk, .hst, .out] s (State.snapshotIn f s) := by
  have h := (State.seamTake_moves f s).weaken (by decide : _ ⊆ [.thk, .seam, .clk, .hst, .out])
  have k (x : Option (Nat × List Nat)) := (State.seamMod_moves (fun m => { m with snapAsm := x }) (s.seamTake f).1
    (by simp only [ringOk, imp_self])).to (by decide) h
  unfold State.snapshotIn
  dsimp only
  split
  · split
    · refine (State.seamMod_moves _ _ ?_).to (by decide) (k _)
      exact fun h => ringOk_takeImage _ _ _ h
    · exact k _
  · exact h

theorem State.relayWrites_moves (ws : List Nat) (a : Nat) (s : State) :
    Moves [.tb, .fresh, .cfg, .rst, .gld, .thk, .site, .cnp, .mb, .ports, .v2g, .twins, .cpc, .gtr, .slvLink, .slvCtr, .seam, .lac, .brm, .cuf, .hem, .clk, .img, .hst, .sessNext, .sessTop, .hiCap, .out]
      s (State.relayWrites a ws s).2.2 := by
  induction ws generalizing a s with
  | nil => exact .refl _ _
  | cons w ws ih =>
    unfold State.relayWrites
    iterate 10 all_goals try first
      | with_reducible exact Moves.refl _ _
      | with_reducible refine (ih _ _).to (fun _ h => h) ?_
      | with_reducible refine (State.judged_moves ..).to (by decide) ?_
      | with_reducible refine (State.writeServed_moves ..).to (by decide) ?_
      | dsimp only
      | split

theorem State.relayReply_moves (tag : Nat) (st : Status) (done : Nat) (ws : List Nat) (s : State) :
    Moves [.thk, .seam, .clk, .hst, .out] s (State.relayReply tag st done ws s) := by
  unfold State.relayReply
  iterate 14 all_goals try first
    | with_reducible exact Moves.refl _ _
    | dsimp only
    | assumption
    | with_reducible refine (State.seamSend_moves ..).to (by decide) ?_
    | with_reducible refine (State.seamMod_moves _ _ ?_).to (by decide) ?_
    | (simp only [ringOk, Seam.setGen, imp_self]; done)
    | exact fun h : ringOk _ => h
    | with_reducible refine Moves.foldl (fun _ _ => ?_) _ _ _ ?_
    | split
    | refine Moves.at ?_ (fun q hq => by cases q <;> first | exact absurd (by decide) hq | simp only [Part.same]) (by first | (simp only [flashOk, imp_self]; done) | (simp; done)) (by first | (simp only [logOk, imp_self]; done) | (simp; done)) (by first | (simp only [ringOk, imp_self]; done) | (simp; done)) (by first | exact List.prefix_rfl | exact List.prefix_append _ _ | exact (List.prefix_append _ _).trans (List.prefix_append _ _))

theorem State.relayIn_moves (f : SeamFrame) (s : State) :
    Moves [.tb, .fresh, .cfg, .rst, .gld, .thk, .site, .cnp, .mb, .ports, .v2g, .twins, .cpc, .gtr, .slvLink, .slvCtr, .seam, .lac, .brm, .cuf, .hem, .clk, .img, .hst, .sessNext, .sessTop, .hiCap, .out] s (State.relayIn f s) := by
  unfold State.relayIn
  iterate 14 all_goals try first
    | with_reducible exact Moves.refl _ _
    | dsimp only
    | assumption
    | with_reducible refine (State.seamTake_moves ..).to (by decide) ?_
    | with_reducible refine (State.seamMod_moves _ _ ?_).to (by decide) ?_
    | (simp only [ringOk, Seam.setGen, imp_self]; done)
    | exact fun h : ringOk _ => h
    | with_reducible refine (State.relayReply_moves ..).to (by decide) ?_
    | with_reducible refine (State.readRun_moves ..).to (by decide) ?_
    | with_reducible refine (State.relayWrites_moves ..).to (by decide) ?_
    | with_reducible refine Moves.foldl (fun _ _ => ?_) _ _ _ ?_
    | split
    | refine Moves.at ?_ (fun q hq => by cases q <;> first | exact absurd (by decide) hq | simp only [Part.same]) (by first | (simp only [flashOk, imp_self]; done) | (simp; done)) (by first | (simp only [logOk, imp_self]; done) | (simp; done)) (by first | (simp only [ringOk, imp_self]; done) | (simp; done)) (by first | exact List.prefix_rfl | exact List.prefix_append _ _ | exact (List.prefix_append _ _).trans (List.prefix_append _ _))

theorem State.relayNext_moves (st : Status) (r : RelayPend) (s : State) :
    Moves [.tb, .fresh, .cfg, .rst, .gld, .thk, .site, .cnp, .mb, .ports, .v2g, .twins, .cpc, .gtr, .slvLink, .slvCtr, .seam, .lac, .brm, .cuf, .hem, .clk, .img, .hst, .sessNext, .sessTop, .hiCap, .out] s (State.relayNext st r s) := by
  unfold State.relayNext
  iterate 14 all_goals try first
    | with_reducible exact Moves.refl _ _
    | dsimp only
    | assumption
    | with_reducible refine (State.relayFrame_moves ..).to (by decide) ?_
    | with_reducible refine (State.relayAnswer_moves ..).to (by decide) ?_
    | with_reducible refine Moves.foldl (fun _ _ => ?_) _ _ _ ?_
    | split
    | refine Moves.at ?_ (fun q hq => by cases q <;> first | exact absurd (by decide) hq | simp only [Part.same]) (by first | (simp only [flashOk, imp_self]; done) | (simp; done)) (by first | (simp only [logOk, imp_self]; done) | (simp; done)) (by first | (simp only [ringOk, imp_self]; done) | (simp; done)) (by first | exact List.prefix_rfl | exact List.prefix_append _ _ | exact (List.prefix_append _ _).trans (List.prefix_append _ _))

theorem State.relayRspIn_moves (f : SeamFrame) (s : State) :
    Moves [.tb, .fresh, .cfg, .rst, .gld, .thk, .site, .cnp, .mb, .ports, .v2g, .twins, .cpc, .gtr, .slvLink, .slvCtr, .seam, .lac, .brm, .cuf, .hem, .clk, .img, .hst, .sessNext, .sessTop, .hiCap, .out] s (State.relayRspIn f s) := by
  unfold State.relayRspIn
  iterate 14 all_goals try first
    | with_reducible exact Moves.refl _ _
    | dsimp only
    | assumption
    | with_reducible refine (State.seamAccept_moves ..).to (by decide) ?_
    | with_reducible refine (State.relayNext_moves ..).to (by decide) ?_
    | with_reducible refine Moves.foldl (fun _ _ => ?_) _ _ _ ?_
    | split
    | refine Moves.at ?_ (fun q hq => by cases q <;> first | exact absurd (by decide) hq | simp only [Part.same]) (by first | (simp only [flashOk, imp_self]; done) | (simp; done)) (by first | (simp only [logOk, imp_self]; done) | (simp; done)) (by first | (simp only [ringOk, imp_self]; done) | (simp; done)) (by first | exact List.prefix_rfl | exact List.prefix_append _ _ | exact (List.prefix_append _ _).trans (List.prefix_append _ _))

theorem State.relayLate_moves (s : State) :
    Moves [.tb, .fresh, .cfg, .rst, .gld, .thk, .site, .cnp, .mb, .ports, .v2g, .twins, .cpc, .gtr, .slvLink, .slvCtr, .seam, .lac, .brm, .cuf, .hem, .clk, .img, .hst, .sessNext, .sessTop, .hiCap, .out] s (State.relayLate s) := by
  unfold State.relayLate
  iterate 14 all_goals try first
    | with_reducible exact Moves.refl _ _
    | dsimp only
    | assumption
    | with_reducible refine (State.relayAnswer_moves ..).to (by decide) ?_
    | with_reducible refine Moves.foldl (fun _ _ => ?_) _ _ _ ?_
    | split
    | refine Moves.at ?_ (fun q hq => by cases q <;> first | exact absurd (by decide) hq | simp only [Part.same]) (by first | (simp only [flashOk, imp_self]; done) | (simp; done)) (by first | (simp only [logOk, imp_self]; done) | (simp; done)) (by first | (simp only [ringOk, imp_self]; done) | (simp; done)) (by first | exact List.prefix_rfl | exact List.prefix_append _ _ | exact (List.prefix_append _ _).trans (List.prefix_append _ _))

theorem State.ownHigh_moves (s : State) :
    Moves [.fresh, .thk, .cnp, .mb, .ports, .v2g, .twins, .cpc, .gtr, .slvLink, .slvCtr, .seam, .lac, .brm, .cuf, .clk, .hst, .sessNext, .sessTop, .out] s (State.ownHigh s) := by
  unfold State.ownHigh
  iterate 14 all_goals try first
    | with_reducible exact Moves.refl _ _
    | dsimp only
    | assumption
    | with_reducible refine (State.seamMod_moves _ _ ?_).to (by decide) ?_
    | (simp only [ringOk, Seam.setGen, imp_self]; done)
    | exact fun h : ringOk _ => h
    | with_reducible refine (State.takeover_moves ..).to (by decide) ?_
    | with_reducible refine Moves.foldl (fun _ _ => ?_) _ _ _ ?_
    | split
    | refine Moves.at ?_ (fun q hq => by cases q <;> first | exact absurd (by decide) hq | simp only [Part.same]) (by first | (simp only [flashOk, imp_self]; done) | (simp; done)) (by first | (simp only [logOk, imp_self]; done) | (simp; done)) (by first | (simp only [ringOk, imp_self]; done) | (simp; done)) (by first | exact List.prefix_rfl | exact List.prefix_append _ _ | exact (List.prefix_append _ _).trans (List.prefix_append _ _))

theorem State.ownLow_moves (s : State) :
    Moves [.fresh, .rst, .thk, .cnp, .ports, .v2g, .cpc, .gtr, .slvLink, .slvCtr, .seam, .lac, .brm, .cuf, .clk, .hst, .sessNext, .sessTop, .out] s (State.ownLow s) := by
  unfold State.ownLow
  iterate 14 all_goals try first
    | with_reducible exact Moves.refl _ _
    | dsimp only
    | assumption
    | with_reducible refine (State.seamMod_moves _ _ ?_).to (by decide) ?_
    | (simp only [ringOk, Seam.setGen, imp_self]; done)
    | exact fun h : ringOk _ => h
    | with_reducible refine (State.becomeStandby_moves ..).to (by decide) ?_
    | with_reducible refine (State.handedOver_moves ..).to (by decide) ?_
    | with_reducible refine Moves.foldl (fun _ _ => ?_) _ _ _ ?_
    | split
    | refine Moves.at ?_ (fun q hq => by cases q <;> first | exact absurd (by decide) hq | simp only [Part.same]) (by first | (simp only [flashOk, imp_self]; done) | (simp; done)) (by first | (simp only [logOk, imp_self]; done) | (simp; done)) (by first | (simp only [ringOk, imp_self]; done) | (simp; done)) (by first | exact List.prefix_rfl | exact List.prefix_append _ _ | exact (List.prefix_append _ _).trans (List.prefix_append _ _))

theorem State.firstTick_moves (s : State) :
    Moves [.fresh, .thk, .site, .cnp, .mb, .ports, .v2g, .twins, .slvLink, .slvCtr, .seam, .cuf, .clk, .hst, .sessNext, .sessTop, .out] s (State.firstTick s) := by
  unfold State.firstTick
  iterate 14 all_goals try first
    | with_reducible exact Moves.refl _ _
    | dsimp only
    | assumption
    | with_reducible refine (State.tick_moves ..).to (by decide) ?_
    | with_reducible refine (State.releaseFrames_moves ..).to (by decide) ?_
    | with_reducible refine (State.takeoverDone_moves ..).to (by decide) ?_
    | with_reducible refine Moves.foldl (fun _ _ => ?_) _ _ _ ?_
    | split
    | refine Moves.at ?_ (fun q hq => by cases q <;> first | exact absurd (by decide) hq | simp only [Part.same]) (by first | (simp only [flashOk, imp_self]; done) | (simp; done)) (by first | (simp only [logOk, imp_self]; done) | (simp; done)) (by first | (simp only [ringOk, imp_self]; done) | (simp; done)) (by first | exact List.prefix_rfl | exact List.prefix_append _ _ | exact (List.prefix_append _ _).trans (List.prefix_append _ _))

theorem State.echoDue_moves (b : Fin 4) (g : Nat) (s : State) :
    Moves [.thk, .cnp, .mb, .seam, .hst, .out] s (State.echoDue b g s) := by
  unfold State.echoDue
  iterate 14 all_goals try first
    | with_reducible exact Moves.refl _ _
    | dsimp only
    | assumption
    | with_reducible refine (State.echoMod_moves ..).to (by decide) ?_
    | with_reducible refine (State.queueGroup_moves ..).to (by decide) ?_
    | with_reducible refine Moves.foldl (fun _ _ => ?_) _ _ _ ?_
    | split
    | refine Moves.at ?_ (fun q hq => by cases q <;> first | exact absurd (by decide) hq | simp only [Part.same]) (by first | (simp only [flashOk, imp_self]; done) | (simp; done)) (by first | (simp only [logOk, imp_self]; done) | (simp; done)) (by first | (simp only [ringOk, imp_self]; done) | (simp; done)) (by first | exact List.prefix_rfl | exact List.prefix_append _ _ | exact (List.prefix_append _ _).trans (List.prefix_append _ _))

theorem State.echoLate_moves (b : Fin 4) (g : Nat) (s : State) :
    Moves [.thk, .seam, .hst, .out] s (State.echoLate b g s) := by
  unfold State.echoLate
  iterate 14 all_goals try first
    | with_reducible exact Moves.refl _ _
    | dsimp only
    | assumption
    | with_reducible refine (State.echoMod_moves ..).to (by decide) ?_
    | with_reducible refine (State.echoFail_moves ..).to (by decide) ?_
    | with_reducible refine Moves.foldl (fun _ _ => ?_) _ _ _ ?_
    | split
    | refine Moves.at ?_ (fun q hq => by cases q <;> first | exact absurd (by decide) hq | simp only [Part.same]) (by first | (simp only [flashOk, imp_self]; done) | (simp; done)) (by first | (simp only [logOk, imp_self]; done) | (simp; done)) (by first | (simp only [ringOk, imp_self]; done) | (simp; done)) (by first | exact List.prefix_rfl | exact List.prefix_append _ _ | exact (List.prefix_append _ _).trans (List.prefix_append _ _))

end Sys2Proof.Machine
end

