-- ==== Sys2Proof/Laws/MovesThicketCmds.lean ====
section
/-! SUPPORT. What each operation of Machine/ThicketCmds.lean can change: at most the listed parts, and a safe state stays safe. -/

namespace Sys2Proof.Machine

theorem State.thkMod_moves (f : Thicket → Thicket) (s : State) (h : logOk s.thk → logOk (f s.thk)) : Moves [.thk] s (State.thkMod f s) :=
  Moves.at (.refl _ _) (fun q hq => by cases q <;> first | exact absurd (by decide) hq | simp only [Part.same]) (fun i => i) h (fun i => i) List.prefix_rfl

theorem State.tagTimeout_moves (tag : Nat) (s : State) :
    Moves [.thk, .out] s (State.tagTimeout tag s) := by
  unfold State.tagTimeout
  iterate 14 all_goals try first
    | with_reducible exact Moves.refl _ _
    | dsimp only
    | assumption
    | with_reducible refine (State.thkMod_moves _ _ ?_).to (by decide) ?_
    | (simp; done)
    | with_reducible refine (State.reply_moves ..).to (by decide) ?_
    | with_reducible refine Moves.foldl (fun _ _ => ?_) _ _ _ ?_
    | split
    | refine Moves.at ?_ (fun q hq => by cases q <;> first | exact absurd (by decide) hq | simp only [Part.same]) (by first | (simp only [flashOk, imp_self]; done) | (simp; done)) (by first | (simp only [logOk, imp_self]; done) | (simp; done)) (by first | (simp only [ringOk, imp_self]; done) | (simp; done)) (by first | exact List.prefix_rfl | exact List.prefix_append _ _ | exact (List.prefix_append _ _).trans (List.prefix_append _ _))

theorem State.stall_moves (c : TrafficClass) (q : Nat) (s : State) :
    Moves [.thk, .hst, .out] s (State.stall c q s) := by
  unfold State.stall
  iterate 14 all_goals try first
    | with_reducible exact Moves.refl _ _
    | dsimp only
    | assumption
    | with_reducible refine (State.raiseAt_moves ..).to (by decide) ?_
    | with_reducible refine Moves.foldl (fun _ _ => ?_) _ _ _ ?_
    | split
    | refine Moves.at ?_ (fun q hq => by cases q <;> first | exact absurd (by decide) hq | simp only [Part.same]) (by first | (simp only [flashOk, imp_self]; done) | (simp; done)) (by first | (simp only [logOk, imp_self]; done) | (simp; done)) (by first | (simp only [ringOk, imp_self]; done) | (simp; done)) (by first | exact List.prefix_rfl | exact List.prefix_append _ _ | exact (List.prefix_append _ _).trans (List.prefix_append _ _))

theorem State.detect_moves (g : ErrGuard) (row : Nat) (lost : Bool) (s : State) :
    Moves [.thk, .hst, .out] s (State.detect g row lost s) := by
  unfold State.detect
  iterate 14 all_goals try first
    | with_reducible exact Moves.refl _ _
    | dsimp only
    | assumption
    | with_reducible refine (State.thkMod_moves _ _ ?_).to (by decide) ?_
    | (simp; done)
    | with_reducible refine (State.raise_moves ..).to (by decide) ?_
    | with_reducible refine Moves.foldl (fun _ _ => ?_) _ _ _ ?_
    | split
    | refine Moves.at ?_ (fun q hq => by cases q <;> first | exact absurd (by decide) hq | simp only [Part.same]) (by first | (simp only [flashOk, imp_self]; done) | (simp; done)) (by first | (simp only [logOk, imp_self]; done) | (simp; done)) (by first | (simp only [ringOk, imp_self]; done) | (simp; done)) (by first | exact List.prefix_rfl | exact List.prefix_append _ _ | exact (List.prefix_append _ _).trans (List.prefix_append _ _))

theorem State.reread_moves (off fails : Nat) (s : State) :
    Moves [.fresh, .thk, .cnp, .ports, .v2g, .cpc, .gtr, .slvLink, .slvCtr, .cuf, .clk, .img, .hst, .sessNext, .sessTop, .out] s (State.reread off fails s) := by
  unfold State.reread
  split
  · exact (State.imgRefusedNow_moves _ _ (flashOk_toRefused _ _)).weaken (by decide)
  · exact .refl _ _

theorem ringOk_tail {m : Seam} (h : ringOk m) : ringOk { m with ring := m.ring.tail } := by
  unfold ringOk at *
  cases hr : m.ring with
  | nil => simp
  | cons x l =>
    rw [hr] at h
    refine ⟨by have := h.1; simp only [List.map_cons, List.sum_cons] at this; simp only [List.tail_cons]; omega, fun y hy => ?_⟩
    exact h.2 y (List.mem_cons_of_mem _ hy)

theorem State.dropEntry_moves (both : Bool) (s : State) : Moves [.seam] s (State.dropEntry both s) := by
  unfold State.dropEntry
  split
  · exact Moves.at (.refl _ _) (fun q hq => by cases q <;> first | exact absurd (by decide) hq | simp only [Part.same]) (fun i => i)
      (fun i => i) (fun h => ringOk_tail h) List.prefix_rfl
  · exact .refl _ _

theorem State.loopAgain_moves (n : Nat) (s : State) :
    Moves [.cpc] s (State.loopAgain n s) := by
  unfold State.loopAgain
  iterate 14 all_goals try first
    | with_reducible exact Moves.refl _ _
    | dsimp only
    | assumption
    | with_reducible refine Moves.foldl (fun _ _ => ?_) _ _ _ ?_
    | split
    | refine Moves.at ?_ (fun q hq => by cases q <;> first | exact absurd (by decide) hq | simp only [Part.same]) (by first | (simp only [flashOk, imp_self]; done) | (simp; done)) (by first | (simp only [logOk, imp_self]; done) | (simp; done)) (by first | (simp only [ringOk, imp_self]; done) | (simp; done)) (by first | exact List.prefix_rfl | exact List.prefix_append _ _ | exact (List.prefix_append _ _).trans (List.prefix_append _ _))

theorem State.spoil_moves (a : Nat) (s : State) :
    Moves [.fresh, .thk, .cnp, .mb, .ports, .twins, .cpc, .gtr, .slvLink, .seam, .lac, .brm, .cuf, .hem, .clk, .hst, .hiCap, .out] s (State.spoil a s) := by
  unfold State.spoil
  iterate 14 all_goals try first
    | with_reducible exact Moves.refl _ _
    | dsimp only
    | assumption
    | with_reducible refine (State.readAt_moves ..).to (by decide) ?_
    | with_reducible refine Moves.foldl (fun _ _ => ?_) _ _ _ ?_
    | split
    | refine Moves.at ?_ (fun q hq => by cases q <;> first | exact absurd (by decide) hq | simp only [Part.same]) (by first | (simp only [flashOk, imp_self]; done) | (simp; done)) (by first | (simp only [logOk, imp_self]; done) | (simp; done)) (by first | (simp only [ringOk, imp_self]; done) | (simp; done)) (by first | exact List.prefix_rfl | exact List.prefix_append _ _ | exact (List.prefix_append _ _).trans (List.prefix_append _ _))

theorem State.dataError_moves (e : DataErr) (s : State) :
    Moves [.fresh, .thk, .cnp, .mb, .ports, .v2g, .twins, .cpc, .gtr, .slvLink, .slvCtr, .seam, .lac, .brm, .cuf, .hem, .clk, .img, .hst, .sessNext, .sessTop, .hiCap, .out] s (State.dataError e s) := by
  unfold State.dataError
  iterate 14 all_goals try first
    | with_reducible exact Moves.refl _ _
    | dsimp only
    | assumption
    | with_reducible refine (State.detect_moves ..).to (by decide) ?_
    | with_reducible refine (State.reread_moves ..).to (by decide) ?_
    | with_reducible refine (State.dropEntry_moves ..).to (by decide) ?_
    | with_reducible refine (State.loopAgain_moves ..).to (by decide) ?_
    | with_reducible refine (State.twinPut_moves ..).to (by decide) ?_
    | with_reducible refine (State.finish_moves ..).to (by decide) ?_
    | with_reducible refine (State.spoil_moves ..).to (by decide) ?_
    | with_reducible refine Moves.foldl (fun _ _ => ?_) _ _ _ ?_
    | split
    | refine Moves.at ?_ (fun q hq => by cases q <;> first | exact absurd (by decide) hq | simp only [Part.same]) (by first | (simp only [flashOk, imp_self]; done) | (simp; done)) (by first | (simp only [logOk, imp_self]; done) | (simp; done)) (by first | (simp only [ringOk, imp_self]; done) | (simp; done)) (by first | exact List.prefix_rfl | exact List.prefix_append _ _ | exact (List.prefix_append _ _).trans (List.prefix_append _ _))

end Sys2Proof.Machine
end

