-- ==== Sys2Proof/Laws/Units.lean ====
section
/-! SUPPORT. What running a function of a unit leaves in that unit: exactly what the function gives. The effects that are handed on
to other units come back to it nowhere. -/

namespace Sys2Proof.Machine

/-! ### Places of a vector -/

@[simp] theorem upd_same {α : Type} {n : Nat} (v : Vector α n) (i : Fin n) (f : α → α) : (upd v i f)[i] = f v[i] := by
  simp [upd]

theorem upd_other {α : Type} {n : Nat} (v : Vector α n) (i j : Fin n) (f : α → α) (h : j ≠ i) : (upd v i f)[j] = v[j] := by
  have h2 : (i : Nat) ≠ j := fun e => h (Fin.ext e.symm)
  simp [upd, h2]

/-! ### Equalities from frames -/

theorem Touches.get {ps : List Part} {s t : State} (h : Touches ps s t) (q : Part) (hq : q ∉ ps) : q.same s t := h q hq

/-! ### Ports -/

theorem State.portRun_ports (p : Fin 12) (token : Nat) (f : PCtx → PCtx) (s : State) :
    (s.portRun p token f).ports = upd s.ports p (fun _ => (f (s.pctx p)).p) := by
  unfold State.portRun
  dsimp only
  have h1 := (State.ocppFollow_moves p s.ports[p] (State.checkPath p s.ports[p].chkOn
    ((f (s.pctx p)).eff.foldl (fun a x => a.portEff p token x) { s with ports := upd s.ports p fun _ => (f (s.pctx p)).p }))).frame
  have h2 := (State.checkPath_moves p s.ports[p].chkOn
    ((f (s.pctx p)).eff.foldl (fun a x => a.portEff p token x) { s with ports := upd s.ports p fun _ => (f (s.pctx p)).p })).frame
  have h3 := (Moves.foldl (fun t x => State.portEff_moves p token t x) (f (s.pctx p)).eff _ _
    (.refl _ { s with ports := upd s.ports p fun _ => (f (s.pctx p)).p })).frame
  exact ((h1.get .ports (by decide)).trans (h2.get .ports (by decide))).trans (h3.get .ports (by decide))

/-- A function of a port that asks for no authorisation leaves in the port what it gives. -/
theorem State.portDo_ports (p : Fin 12) (token : Nat) (f : PCtx → PCtx) (s : State)
    (h : (f (s.pctx p)).p.auth = .asked → s.ports[p].auth = .asked) :
    (s.portDo p token f).ports = upd s.ports p (fun _ => (f (s.pctx p)).p) := by
  have hp : (s.portRun p token f).ports[p] = (f (s.pctx p)).p := by rw [State.portRun_ports]; exact upd_same _ _ _
  unfold State.portDo
  dsimp only
  rw [hp]
  by_cases k : (f (s.pctx p)).p.auth = .asked
  · have hk : s.ports[p].auth = .asked := h k
    simp only [k, hk, decide_true, Bool.not_true, Bool.and_false, Bool.false_and, Bool.false_eq_true, if_false, State.portRun_ports]
  · simp only [k, decide_false, Bool.false_and, Bool.false_eq_true, if_false, State.portRun_ports]

/-- The other ports keep their state. -/
theorem State.portDo_other (p r : Fin 12) (hr : r ≠ p) (token : Nat) (f : PCtx → PCtx) (s : State) :
    (s.portDo p token f).ports[r] = s.ports[r] := by
  have h1 (g : PCtx → PCtx) (t : State) : (t.portRun p token g).ports[r] = t.ports[r] := by
    rw [State.portRun_ports]; exact upd_other _ _ _ _ hr
  unfold State.portDo
  dsimp only
  split <;> simp only [h1]

/-- What one element of a list sends is sent by the whole fold. -/
theorem sent_foldl {α : Type} {ps : List Part} {f : State → α → State} (hf : ∀ t x, Moves ps t (f t x)) (o : Out) (x : α)
    (hx : ∀ t, o ∈ (f t x).out) (l : List α) (hl : x ∈ l) (s : State) : o ∈ (l.foldl f s).out := by
  induction l generalizing s with
  | nil => cases hl
  | cons y ys ih =>
    rcases List.mem_cons.1 hl with rfl | h
    · exact (Moves.foldl hf ys _ _ (.refl _ _)).sent.subset (hx s)
    · exact ih h _

/-- What an effect of a port's function sends is sent. -/
theorem State.portDo_sent (p : Fin 12) (token : Nat) (f : PCtx → PCtx) (s : State) (x : PEff) (hx : x ∈ (f (s.pctx p)).eff) (o : Out)
    (ho : ∀ t : State, o ∈ (t.portEff p token x).out) : o ∈ (s.portDo p token f).out := by
  have h1 : o ∈ (s.portRun p token f).out := by
    unfold State.portRun
    exact ((State.checkPath_moves ..).sent.trans (State.ocppFollow_moves ..).sent).subset
      (sent_foldl (fun t x => State.portEff_moves p token t x) o x ho _ hx _)
  unfold State.portDo
  dsimp only
  split
  · exact (State.portRun_moves ..).sent.subset h1
  · exact h1

theorem State.portDo_answers (p : Fin 12) (token : Nat) (f : PCtx → PCtx) (s : State) (a : V2gAns)
    (hx : .answer a ∈ (f (s.pctx p)).eff) : .v2g p a ∈ (s.portDo p token f).out :=
  State.portDo_sent p token f s _ hx _ (fun t => by simp [State.portEff, State.emit])

theorem State.portDo_closes (p : Fin 12) (token : Nat) (f : PCtx → PCtx) (s : State)
    (hx : .close ∈ (f (s.pctx p)).eff) : .v2gClose p ∈ (s.portDo p token f).out :=
  State.portDo_sent p token f s _ hx _ (fun t => by simp [State.portEff, State.emit])

/-! ### Gaiter, Sleeve, Lacing, Bramble, Hem, Cloak -/

theorem State.gtrDo_gtr (f : GCtx → GCtx) (s : State) : (s.gtrDo f).gtr = (f s.gctx).g := by
  unfold State.gtrDo
  dsimp only
  have h1 := (State.clearingAbort_moves s.clearing ((f s.gctx).eff.foldl State.gtrEff { s with gtr := (f s.gctx).g })).frame
  have h2 := (Moves.foldl (fun t x => State.gtrEff_moves t x) (f s.gctx).eff _ _ (.refl _ { s with gtr := (f s.gctx).g })).frame
  exact (h1.get .gtr (by decide)).trans (h2.get .gtr (by decide))

theorem State.slvDo_slv (f : SX → SX) (s : State) : (s.slvDo f).slv = (f { s := s.slv }).s := by
  unfold State.slvDo
  exact (State.raises_moves (f { s := s.slv }).evs { s with slv := (f { s := s.slv }).s }).frame.get .slv (by decide)

theorem State.hemDo_hem (f : HX → HX) (s : State) : (s.hemDo f).hem = (f { h := s.hem, e := s.hemEnv }).h := by
  unfold State.hemDo
  exact (State.raises_moves (f { h := s.hem, e := s.hemEnv }).evs { s with hem := (f { h := s.hem, e := s.hemEnv }).h }).frame.get .hem
    (by decide)

theorem State.clkDo_clk (f : Cloak → CkX) (s : State) : (s.clkDo f).clk = (f s.clk).c := by
  have h := (State.raises_moves (f s.clk).evs { s with clk := (f s.clk).c }).frame.get .clk (by decide)
  unfold State.clkDo
  dsimp only
  split
  · exact ((State.wrongState_moves ..).frame.get .clk (by decide)).trans h
  · exact h

theorem State.brmDo_brm (f : BX → BX) (s : State) : (s.brmDo f).brm = (f s.bctx).b := by
  unfold State.brmDo
  exact (Moves.foldl (fun t x => State.brmEff_moves t x) (f s.bctx).out _ _
    (.refl _ { s with brm := (f s.bctx).b, fresh := s.fresh + 1 + (f s.bctx).draws })).frame.get .brm (by decide)

/-- What a function of Lacing chain `c` with record `r` starts from. -/
def State.lacAt (c : Fin 4) (r : LacChain) (s : State) : LX :=
  { c := s.lac.ch[c], n := c, g := s.cfg.lacGlobal.getD {}, r := r, now := s.mono, swid := s.lac.swid }

theorem State.lacDo_lac (c : Fin 4) (f : LX → LX) (s : State) (r : LacChain) (h : s.cfg.lacChain.find? (fun r => r.chain == c.val) = some r) :
    (s.lacDo c f).lac = { s.lac with ch := upd s.lac.ch c (fun _ => (f (s.lacAt c r)).c) } := by
  unfold State.lacDo
  rw [h]
  exact (Moves.foldl (fun t x => State.lacEff_moves t x) (f (s.lacAt c r)).out _ _
    (.refl _ { s with lac := { s.lac with ch := upd s.lac.ch c (fun _ => (f (s.lacAt c r)).c) } })).frame.get .lac (by decide)

end Sys2Proof.Machine
end

