-- ==== Sys2Proof/Laws/Port.lean ====
section
/-! SUPPORT. What the functions of a vehicle port leave in the port, as one equation each. -/

namespace Sys2Proof.Machine

@[simp] theorem PCtx.mod_p (c : PCtx) (f : Port → Port) : (c.mod f).p = f c.p := rfl
@[simp] theorem PCtx.mod_e (c : PCtx) (f : Port → Port) : (c.mod f).e = c.e := rfl
@[simp] theorem PCtx.mod_eff (c : PCtx) (f : Port → Port) : (c.mod f).eff = c.eff := rfl
@[simp] theorem PCtx.add_p (c : PCtx) (x : PEff) : (c.add x).p = c.p := rfl
@[simp] theorem PCtx.add_e (c : PCtx) (x : PEff) : (c.add x).e = c.e := rfl
@[simp] theorem PCtx.add_eff (c : PCtx) (x : PEff) : (c.add x).eff = c.eff ++ [x] := rfl

@[simp] theorem State.pctx_p (p : Fin 12) (s : State) : (s.pctx p).p = s.ports[p] := rfl
@[simp] theorem State.pctx_now (p : Fin 12) (s : State) : (s.pctx p).e.now = s.mono := rfl
@[simp] theorem State.pctx_cfg (p : Fin 12) (s : State) : (s.pctx p).e.cfg = s.vp p := rfl
@[simp] theorem State.pctx_clearing (p : Fin 12) (s : State) : (s.pctx p).e.clearing = s.clearing := rfl
@[simp] theorem State.pctx_sgate (p : Fin 12) (s : State) : (s.pctx p).e.sgate = s.sleeveGate p := rfl
@[simp] theorem State.pctx_gate (p : Fin 12) (s : State) : (s.pctx p).e.gate = s.gtr.gates[p].en := rfl

theorem leaveSession_p (r : EndReason) (c : PCtx) : (leaveSession r c).p = { c.p with
    reported := false, endR := r, pendR := .none, conn := if c.p.failPend.isSome then c.p.conn else none, gateReq := false, chkOn := false,
    phaseOff := false, bptValid := false, auth := .none, pdAt := none, pdMet := false, checkPassed := false, checkOkSince := none,
    shortSince := none, shortAt := none, portStop := false, vehStop := false, bpt := false, tgtI := 0,
    dynamic := false, looped := false, evP := 0, evDis := 0 } := by
  unfold leaveSession reportStop
  by_cases h : c.p.reported = true
  · rw [if_pos h]; dsimp only; split <;> rfl
  · rw [if_neg h]
    rw [Bool.not_eq_true] at h
    dsimp only
    split
    · rw [← h]; rfl
    · rw [← h]; rfl

theorem leaveSession_e (r : EndReason) (c : PCtx) : (leaveSession r c).e = c.e := by
  unfold leaveSession reportStop
  by_cases h : c.p.reported = true
  · rw [if_pos h]; dsimp only; split <;> rfl
  · rw [if_neg h]; dsimp only; split <;> rfl

theorem cmdOpen_p (c : PCtx) : (cmdOpen c).p =
    if c.p.kCmd then Port.newCmd c.e.now { c.p with kCmd := false, kCmdAt := c.e.now, drive := .off, agreed := false }
    else { c.p with drive := .off } := by
  unfold cmdOpen
  split <;> rfl

/-- The end reasons that count towards the lock (Table 5.6). -/
def EndReason.locks (r : EndReason) : Bool := r = .short || r = .contactor

theorem enterFault_p (r : EndReason) (c : PCtx) (hr : r.locks = false) : (enterFault r c).p = { (leaveSession r c).p with
    st := .fault, faultAt := c.e.now, cls := none } := by
  have h1 : r ≠ .short := by rintro rfl; cases hr
  have h2 : r ≠ .contactor := by rintro rfl; cases hr
  simp [enterFault, leaveSession_p, leaveSession_e, h1, h2]

theorem enterEnded_p (r : EndReason) (c : PCtx) : (enterEnded r c).p = { (leaveSession r c).p with st := .ended } := rfl

theorem countEnd_simple (r : EndReason) (p : Port) : (countEnd r p) = { p with
    cntShort := if r = .short then satInc 8 p.cntShort else p.cntShort
    cntInsul := if r = .insulation then satInc 8 p.cntInsul else p.cntInsul
    cntDrop := if r = .contactor ∨ r = .dropped then satInc 8 p.cntDrop else p.cntDrop
    cntWeld := if r = .weld then satInc 8 p.cntWeld else p.cntWeld } := by
  cases r <;> rfl

theorem enterFault_e (r : EndReason) (c : PCtx) : (enterFault r c).e = c.e := by
  unfold enterFault
  simp [leaveSession_e]

/-- An abrupt end, for a reason that does not count towards the lock and without a declared short. -/
theorem abruptEnd_p (r : EndReason) (c : PCtx) (hr : r.locks = false) (hs : c.p.shortAt = none) : (abruptEnd r c).p =
    { (leaveSession r (c.mod (countEnd r))).p with
      st := .fault, faultAt := c.e.now, cls := none, abruptAt := if c.p.kCmd then some c.e.now else c.p.abruptAt } := by
  have h1 : r ≠ .short := by rintro rfl; cases hr
  have hk : (countEnd r c.p).abruptAt = c.p.abruptAt := by rw [countEnd_simple]
  unfold abruptEnd
  simp only [hs, Option.isSome_none, Bool.false_eq_true, if_false, h1]
  split
  · simp [enterFault_p _ _ hr, leaveSession_p, enterFault_e]
  · simp [enterFault_p _ _ hr, leaveSession_p, hk]

theorem abruptEnd_e (r : EndReason) (c : PCtx) : (abruptEnd r c).e = c.e := by
  unfold abruptEnd enterFault
  dsimp only
  split <;> simp [leaveSession_e]

theorem failNext_p (m : Bool) (c : PCtx) : (failNext m c).p =
    if c.p.conn.isNone then c.p
    else if c.p.pdAt.isSome && !c.p.pdMet then { c.p with pdAt := none, conn := none }
    else { c.p with failPend := some (c.e.now + 2000000, m) } := by
  unfold failNext
  dsimp only
  split <;> [rfl; split <;> rfl]

theorem failNext_e (m : Bool) (c : PCtx) : (failNext m c).e = c.e := by
  unfold failNext
  dsimp only
  split <;> [rfl; split <;> rfl]

/-- A message that Table 5.8 accepts is carried out with the sequence timer restarted. -/
theorem judge_accepts {req : V2gReq} {h : V2gHead} {f : PCtx → PCtx} {c : PCtx} {k : Conn} (hc : c.p.conn = some k)
    (hf : c.p.failPend = none) (h1 : h.formOk = true) (h2 : h.len ≤ 16376) (h3 : h.exiOk = true)
    (ha : k.app = true ∨ req = .appProtocol) (hs : k.app = true → k.sid.isSome = true ∨ req = .sessionSetup)
    (hi : k.sid = none ∨ k.sid = some h.sid ∨ req = .sessionSetup) (hp : allowed c.e.cfg req c.p = true) :
    judge req h f c = f (c.mod (fun p => { p with seqAt := c.e.now })) := by
  unfold judge
  simp only [hc, hf]
  have e2 : (!k.app && req != .appProtocol) = false := by rcases ha with h | h <;> simp [h]
  have e3 : (k.app && k.sid.isNone && req != .sessionSetup) = false := by
    by_cases hk : k.app = true
    · rcases hs hk with h | h
      · simp [hk]; intro h'; rw [h'] at h; cases h
      · simp [h]
    · simp [hk]
  have e4 : (k.sid.isSome && req != .sessionSetup && k.sid != some h.sid) = false := by
    rcases hi with h | h | h <;> simp [h]
  simp [e2, e3, e4, hp, h1, h2, h3]

end Sys2Proof.Machine
end

