-- ==== Sys2Proof/Machine/Pads.lean ====
section
/-! DEFINITION. The pads of the device: their codes in reset, and what they show (spec/16_reset_clocks_domains.md R440, R441,
spec/19_pins_electrical_package.md R492–R498). The electrical ratings of that chapter bind the parts around the device. -/

namespace Sys2Proof.Machine

/-- Pads of Tables 19.2 and 19.3, by their row; a row of several pads of one port, bus, chain or channel has its number. -/
inductive Pad where
  | cp (p : Fin 12) | pp (p : Fin 12) | plc (p : Fin 12) | t1s (p : Fin 12) | k0 (p : Fin 12) | k1 (p : Fin 12) | feedback (p : Fin 12)
  | sg (p : Fin 12) | temps (p : Fin 12) | cmp (n : Fin 24) | si (k : Fin 16) | gtpA | gtpB | so (n : Fin 8) | trip (m : Fin 4)
  | mbTx (m : Fin 4) | mbRx (m : Fin 4) | lanes | own | lc (m : Fin 4) | brmTx | brmRx | brmZc | cu (n : Fin 16)
  | hemPwm (m : Fin 4) | hemSense | hemVolts | vsel | slvPeer | eth (e : Fin 2) | mdio (e : Fin 2) | phyRst | hstIn | hstMiso
  | imgBus | imgCs | imgReset | rstN | strap | event | glade | refXtal | dbgTck | dbgTms | dbgTdi | dbgTdo | dbgTrst
  | slvGate (p : Fin 12) | slvOther
  deriving DecidableEq, Repr

/-- Codes of Table 16.4. -/
inductive PadCode where
  | z | inp | pu | pd | l | h | own
  deriving DecidableEq, Repr

/-- The reset code of a pad and the step of Table 16.3 from which its unit may configure it; none: never held by the main die's reset
(Table 19.2, Table 19.3). -/
def Pad.held : Pad → PadCode × Option Nat
  | .cp _ | .plc _ => (.z, some 7)
  | .pp _ => (.inp, some 7)
  | .t1s _ => (.z, some 8)
  | .k0 _ | .k1 _ | .hemPwm _ => (.l, some 6)
  | .feedback _ | .hemSense | .hemVolts | .vsel => (.inp, some 6)
  | .sg _ => (.pd, some 6)
  | .temps _ => (.z, some 6)
  | .cmp _ | .si _ => (.inp, some 2)
  | .gtpA | .gtpB | .cu _ | .glade | .refXtal | .slvGate _ | .slvOther => (.own, none)
  | .so _ | .trip _ => (.l, some 2)
  | .mbTx _ => (.pu, some 5)
  | .mbRx _ => (.inp, some 5)
  | .lanes | .own => (.z, some 11)
  | .lc _ => (.z, some 9)
  | .brmTx => (.z, some 10)
  | .brmRx | .brmZc => (.inp, some 10)
  | .slvPeer | .eth _ | .hstMiso => (.z, some 8)
  | .mdio _ | .hstIn => (.inp, some 8)
  | .phyRst => (.l, some 8)
  | .imgBus => (.pd, some 12)
  | .imgCs => (.pu, some 12)
  | .imgReset => (.l, some 12)
  | .rstN => (.inp, none)
  | .strap => (.z, some 0)
  | .event => (.pu, some 0)
  | .dbgTck | .dbgTrst => (.pd, some 13)
  | .dbgTms | .dbgTdi => (.pu, some 13)
  | .dbgTdo => (.z, some 13)

/-- What a pad shows: the state of its code, or, once its unit has it, low, high or released, or a signal of its unit that the model
sends as frames and words. -/
inductive PadLevel where
  | held (c : PadCode)
  | low
  | high
  | released
  | signal
  deriving DecidableEq, Repr

/-- The pilot generators drive CP (spec/10_seam_pair.md R299): those of a standby run with their outputs at high impedance, and a releasing
unit drives until it has handed over. -/
def State.drivesCp (s : State) : Bool :=
  match s.seam.role with
  | .single | .active | .taking => true
  | .released => !s.gtr.standby
  | .start | .standby => false

/-- The unit of a pad has configured it: out of reset, and with the record applied that binds the pad (R441). -/
def State.padLive (d : Pad) (s : State) : Bool :=
  s.up && (match d with
    | .cp p => s.ports[p].run && s.drivesCp
    | .plc p => s.ports[p].run && (s.vp p).link.modem && !s.standby
    | .t1s p => s.ports[p].run && (s.vp p).link.phyPads && !s.standby
    | .k0 p | .k1 p | .temps p | .feedback p | .pp p | .sg p => s.ports[p].run
    | .cmp n => s.cfg.gtrCmp.any (fun r => r.fc == n.val)
    | .si n => s.cfg.gtrInput.any (fun r => r.si == n.val)
    | .so n => s.cfg.gtrOutput.any (fun r => r.so == n.val)
    | .mbTx m | .mbRx m => s.mb.bus[m].fcs != .off
    | .lanes | .own => s.seam.pair.isSome
    | .lc m => s.cfg.lacChain.any (fun r => r.chain == m.val) && s.lacRuns
    | .brmTx | .brmRx | .brmZc => s.cfg.brmGlobal.isSome && s.brmOn
    | .hemPwm _ | .hemSense | .hemVolts | .vsel => s.hem.cfg.isSome
    | _ => true)

/-- Gaiter drives a test-pulse source low for 200 µs from the start of its pulse (spec/07_gaiter_safety.md R195). -/
def State.pulseLow (mask : Option Nat) (s : State) : Bool := mask.any (fun t => decide (s.mono < t + 200))

/-- What a pad shows that its unit has configured; both contactor drivers of a port follow its drive (spec/05_vehicle_ports.md R132), low
for not conducting, a signal for the hold PWM. -/
def State.padDriven (d : Pad) (s : State) : PadLevel :=
  match d with
  | .k0 p | .k1 p => match (s.portPins p).coil with
    | .off => .low
    | .pull => .high
    | .hold => .signal
  | .trip _ => if s.gtr.trip then .low else .released
  | .so n => if (atD s.gtr.so n {}).level (s.cfg.gtrGlobal.getD {}).offp s.mono then .high else .low
  | .own => if s.seam.drive then .low else .released
  | .event => if s.thk.eventN then .low else .released
  | .cu n => if !cufOn s.cuf s.cuf.ch[n] then .low else if cufCmd s.cuf s.cuf.ch[n] = 2 then .signal else .high
  | .gtpA => if s.pulseLow s.gtr.maskA then .low else .high
  | .gtpB => if s.pulseLow s.gtr.maskB then .low else .high
  | .slvGate p => if s.slv.gateClosed p then .high else .low
  | .phyRst => if s.servesHost then .high else .low
  | .hemPwm m => if bitOf m s.hem.active then .signal else .low
  | _ => .signal

/-- A pad (R440, R441): in reset the state of its code; a pad set by its own domain is never held; where the fuse map's CRC fails every
pad but the TRIP pads takes Z. DESIGN CHOICE (log 120): the model does not know whether VSYS is absent altogether in a power-on reset,
and shows the codes. -/
def State.pad (d : Pad) (s : State) : PadLevel :=
  if d.held.1 = .own then s.padDriven d
  else if !s.fuses.mapOk then .held (match d with | .trip _ => .l | _ => .z)
  else if s.padLive d then s.padDriven d
  else .held d.held.1

end Sys2Proof.Machine
end

