-- ==== Sys2Proof/Tests/Helpers.lean ====
section
/-! SUPPORT. Small states from which the tests start. -/

namespace Sys2Proof.Tests

set_option Elab.async false

open Sys2Proof Sys2Proof.Machine

/-- A closed check of a hypothesis about the content of an option. -/
theorem ofAll {α : Type} {o : Option α} {P : α → Prop} [DecidablePred P] (h : o.all (fun x => decide (P x)) = true) :
    ∀ x, o = some x → P x := by
  intro x e
  subst e
  simpa using h

/-- Out of every reset, at an instant late enough for every interval to have passed. -/
def wUp : State := { mono := 1000000000000, tb := 1000000, rst := { hold := none, refOk := true } }

/-- Every port holds `q`, and port 0 has a record. -/
def wPort (q : Port) : State :=
  { wUp with ports := Vector.replicate 12 { q with run := true }, cfg := { vpPort := [{ port := 0, iRated := 2000, vRated := 1000 }] } }

/-- A standby of a pair with both lanes up and a pair key. -/
def wStandby : State :=
  { wUp with seam := { pair := some { peerId := 5 }, role := .standby, lane := Vector.replicate 2 { up := true }, gen := 1 }, clk := { ready := true, bound := some 5, slots := (Vector.replicate 64 {}).set 2 { typ := .hmac, usage := 2, key := 77 } } }

/-- A frame sealed under the pair key of `s`. -/
def wTagged (s : State) (f : SeamFrame) : SeamFrame :=
  seamSeal ((s.seamKey f.gen).getD 0) f

/-- A frame with its check, of as many bytes as its length says. -/
def wChecked (f : SeamFrame) : SeamFrame :=
  let g : SeamFrame := { f with cipher := List.replicate f.len 0 }
  { g with check := seamCheck g }

/-- A frame of a length that its type has not. -/
theorem wChecked_form {f : SeamFrame} {s : State} (h : seamLenBad (wChecked f) = true) : s.seamJudge (wChecked f) = .form :=
  (if_neg (fun n => n rfl)).trans (if_pos h)

/-- A well-formed frame, as far as its generation. -/
def wWell (f : SeamFrame) (s : State) : Prop :=
  ¬seamLenBad (wChecked f) = true ∧ ¬(f.typ < 1 ∨ 9 < f.typ ∨ 1 < f.flags ∨ (!seamDirOk s.seam.role f.flags) = true)

theorem wChecked_late {f : SeamFrame} {s : State} (h : wWell f s) (g : f.gen < s.seam.gen) : s.seamJudge (wChecked f) = .late :=
  (if_neg (fun n => n rfl)).trans ((if_neg h.1).trans ((if_neg h.2).trans (if_pos (Or.inl g))))

theorem wChecked_auth {f : SeamFrame} {s : State} (h : wWell f s) (g : ¬f.gen < s.seam.gen) (q : s.seam.rxSeq = none)
    (k : s.seamKey f.gen = none) : s.seamJudge (wChecked f) = .auth := by
  have l : ¬(f.gen < s.seam.gen ∨ (f.gen = s.seam.gen ∧ (match s.seam.rxSeq with
      | some q => decide (f.lseq ≤ q)
      | none => false) = true)) := by
    rw [q]; simp [g]
  refine (if_neg (fun n => n rfl)).trans ((if_neg h.1).trans ((if_neg h.2).trans ((if_neg l).trans ?_)))
  show (match s.seamKey f.gen with
    | none => SeamVerdict.auth
    | some k => _) = _
  rw [k]

/-- A frame that is right but for its tag and its check, whatever its type. -/
def seamForm (f : SeamFrame) (s : State) : Bool :=
  !seamLenBad { f with cipher := List.replicate f.len 0 } && !decide (f.typ < 1 ∨ 9 < f.typ ∨ 1 < f.flags ∨ !seamDirOk s.seam.role f.flags) &&
  !decide (f.gen < s.seam.gen ∨ (f.gen = s.seam.gen ∧ (match s.seam.rxSeq with | some q => decide (f.lseq ≤ q) | none => false) = true)) &&
  (s.seamKey f.gen).isSome

theorem wTagged_judge {s : State} {f : SeamFrame} (h : seamForm f s = true) :
    s.seamJudge (wTagged s f) = if seamAllowed s.seam.role f.typ then .ok else .role := by
  simp only [seamForm, Bool.and_eq_true, Bool.not_eq_true', decide_eq_false_iff_not] at h
  obtain ⟨⟨⟨h7, h8⟩, h9⟩, h10⟩ := h
  obtain ⟨k, hk⟩ := Option.isSome_iff_exists.mp h10
  have h6 : ¬((wTagged s f).check ≠ seamCheck (wTagged s f)) := fun n => n rfl
  have e : wTagged s f = seamSeal k f := by unfold wTagged; rw [hk]; rfl
  have l : (seamCipher k f).length = f.len := by simp [seamCipher]
  have h7' : ¬(seamLenBad (wTagged s f) = true) := by
    rw [Bool.not_eq_true, e, ← h7]
    show (_ || f.len != (seamCipher k f).length || _ || _) = (_ || f.len != (List.replicate f.len (0 : Byte)).length || _ || _)
    rw [l, List.length_replicate]
    rfl
  have h8' : ¬(f.typ < 1 ∨ 9 < f.typ ∨ 1 < f.flags ∨ (!seamDirOk s.seam.role f.flags) = true) := by simpa using h8
  have t' : ¬((wTagged s f).tag ≠ seamTag k (wTagged s f) ∨ (wTagged s f).cipher ≠ seamCipher k (wTagged s f)) := by
    rw [e]
    rintro (n | n)
    · exact n rfl
    · exact n rfl
  refine (if_neg h6).trans ((if_neg h7').trans ((if_neg h8').trans ((if_neg h9).trans ?_)))
  show (match s.seamKey f.gen with
    | none => SeamVerdict.auth
    | some k => if (wTagged s f).tag ≠ seamTag k (wTagged s f) ∨ (wTagged s f).cipher ≠ seamCipher k (wTagged s f) then .auth
      else if seamAllowed s.seam.role f.typ then .ok else .role) = _
  simp only [hk, if_neg t']

/-- What `State.SeamTakes` asks, but for the tag. -/
def seamChecks (typ : Nat) (f : SeamFrame) (s : State) : Bool :=
  s.up && s.seam.pair.isSome && s.seam.upLanes != [] && f.typ == typ && decide (s.seam.txSeq ≤ 0xFFFFFFF0) && seamForm f s &&
  seamAllowed s.seam.role f.typ

theorem wTagged_takes {s : State} {f : SeamFrame} (typ : Nat) (h : seamChecks typ f s = true) : s.SeamTakes typ (wTagged s f) := by
  simp only [seamChecks, Bool.and_eq_true, bne_iff_ne, ne_eq, beq_iff_eq, decide_eq_true_eq] at h
  obtain ⟨⟨⟨⟨⟨⟨h1, h2⟩, h3⟩, h4⟩, h5⟩, h6⟩, h7⟩ := h
  exact ⟨h1, h2, h3, h4, by rw [wTagged_judge h6, if_pos h7], h5⟩

/-- A receiver's samples that double from one to the next. -/
def wLoud (n : Nat) : List Int := (List.range n).map (fun i => (2 : Int) ^ i)

theorem sumN_add (xs : List Nat) (y : Nat) : xs.foldl (· + ·) y = y + xs.foldl (· + ·) 0 := by
  induction xs generalizing y with
  | nil => rfl
  | cons a l ih => simp only [List.foldl_cons]; rw [ih, ih (0 + a)]; omega

theorem squares_append (xs ys : List Int) : squares (xs ++ ys) = squares xs + squares ys := by
  simp [squares, sumN, List.foldl_append, sumN_add (List.map _ ys) (List.foldl _ _ _)]

theorem squares_wLoud (n : Nat) : squares (wLoud n) < 4 ^ n := by
  induction n with
  | zero => decide
  | succ n ih =>
    have h : wLoud (n + 1) = wLoud n ++ [2 ^ n] := by simp [wLoud, List.range_succ]
    have e : squares [(2 : Int) ^ n] = 4 ^ n := by
      simp only [squares, List.map, sumN, List.foldl, Int.natAbs_pow]
      rw [← pow_mul, mul_comm, pow_mul]; norm_num
    rw [h, squares_append, e, pow_succ]; omega

theorem wLoud_blanked {n i : Nat} (g : 1024 ≤ i) (h : i < n) : blanked 6 (wLoud n) i = true := by
  have a : (wLoud n).take i = wLoud i := by
    simp [wLoud, ← List.map_take, List.take_range, Nat.min_eq_left h.le]
  have l : squares (((wLoud n).drop (i - 1024)).take 1024) ≤ squares (wLoud i) := by
    rw [← a, show i = (i - 1024) + 1024 by omega, List.take_add, squares_append, Nat.add_sub_cancel]
    omega
  have e : ((wLoud n).getD i 0).natAbs ^ 2 = 4 ^ i := by
    simp only [wLoud, List.getD_eq_getElem?_getD, List.getElem?_map, List.getElem?_range h, Option.map_some, Option.getD_some, Int.natAbs_pow]
    rw [← pow_mul, mul_comm, pow_mul]; norm_num
  have b := squares_wLoud i
  simp only [blanked, decide_eq_true_eq, e]
  omega

theorem wLoud_erased {n k : Nat} (h : 1168 + 144 * k ≤ n) : symErased 6 (wLoud n) k = true := by
  have e : (List.range 128).filter (fun j => blanked 6 (wLoud n) (1024 + 144 * k + 16 + j)) = List.range 128 :=
    List.filter_eq_self.mpr (fun j q => wLoud_blanked (by omega) (by have := List.mem_range.mp q; omega))
  simp only [symErased, e, List.length_range]
  decide

theorem wLoud_all (n : Nat) : ((List.range n).filter (symErased 6 (wLoud (1168 + 144 * n)))).length = n := by
  rw [List.filter_eq_self.mpr (fun k q => wLoud_erased (by have := List.mem_range.mp q; omega)), List.length_range]

/-- Every symbol of such a stream is erased. -/
theorem wLoud_count {n thr : Nat} (ht : thr = 6) : n = ((List.range n).filter (symErased thr (wLoud (1168 + 144 * n)))).length := by
  rw [ht, wLoud_all]

theorem wLoud_noise {n m thr : Nat} (hn : m = n) (ht : thr = 6) :
    m ≤ 4 * ((List.range m).filter (symErased thr (wLoud (1168 + 144 * n)))).length := by
  rw [hn, ← wLoud_count ht]
  omega

/-- The firmware that a device is made with verifies. -/
theorem fwOk_made : ({} : Fuses).fwOk = true := by simp [Fuses.fwOk, Config.hssVerify, Config.sigVerify, Config.hssOne]

/-- The active of a pair with both lanes up, its peer as fit, and a pair key. -/
def wActive : State :=
  { wStandby with seam := { wStandby.seam with role := .active, fit := true, drive := true, peerLost := false }, gtr := { st := .run }, cnp := { started := true, mode := .run } }

end Sys2Proof.Tests
end

