-- ==== Sys2Proof/Tests/ImageMade.lean ====
section
/-! SUPPORT. An image that the loader accepts: a header, a CNP_INTAKE record in its first-leaf block, a BRM_GLOBAL record in its
rest, and two signatures that verify. -/

namespace Sys2Proof.Tests

set_option Elab.async false

open Sys2Proof Sys2Proof.Machine

/-- A store that holds bytes from address 0. -/
def wStore (bs : List Byte) : Store := (bs.mapIdx (fun i b => ((i, b) : Host.Cell))).filter (fun c => c.2 ≠ erasedByte)

theorem wStore_get (bs : List Byte) (a : Nat) : Store.get (wStore bs) a = bs.getD a erasedByte := by
  have h : ∀ (bs : List Byte) (k : Nat),
      Store.get ((bs.mapIdx (fun i b => ((i + k, b) : Host.Cell))).filter (fun c => c.2 ≠ erasedByte)) (a + k) = bs.getD a erasedByte := by
    induction a with
    | zero =>
      intro bs k
      cases bs with
      | nil => rfl
      | cons b bs =>
        rw [List.mapIdx_cons]
        by_cases e : b = erasedByte
        · subst e
          simp only [List.filter_cons, ne_eq, not_true_eq_false, decide_false, Bool.false_eq_true, if_false, List.getD_cons_zero]
          rw [Store.get]
          have n : List.find? (fun c : Host.Cell => c.1 == 0 + k)
              (List.filter (fun c => decide ¬c.2 = erasedByte) (bs.mapIdx (fun i b => ((i + 1 + k, b) : Host.Cell)))) = none := by
            rw [List.find?_eq_none]
            intro c hc
            obtain ⟨i, hi, e⟩ := List.mem_mapIdx.mp (List.mem_of_mem_filter hc)
            subst e
            simp
          rw [n]
        · simp [e, Store.get]
    | succ a ih =>
      intro bs k
      cases bs with
      | nil => rfl
      | cons b bs =>
        have q := ih bs (k + 1)
        simp only [show ∀ i, i + (k + 1) = i + 1 + k by omega] at q
        rw [List.getD_cons_succ, ← q, List.mapIdx_cons]
        by_cases e : b = erasedByte
        · simp [e]
        · simp only [List.filter_cons, ne_eq, e, not_false_eq_true, decide_true, if_true, Store.get]
          rw [List.find?_cons_of_neg (by simp)]
  have q := h bs 0
  simpa [wStore] using q

theorem wStore_read {bs : List Byte} {o n : Nat} (h : o + n ≤ bs.length) : Store.read (wStore bs) o n = (bs.drop o).take n := by
  apply List.ext_getElem
  · simp [Store.read]; omega
  · intro i h1 h2
    simp only [Store.read, List.length_map, List.length_range] at h1
    simp [Store.read, wStore_get, List.getElem_take, List.getElem_drop, List.getD_eq_getElem?_getD, List.getElem?_eq_getElem (show o + i < bs.length by omega)]

/-- A record: type, length, CRC, payload. -/
def wRecord (ty : Nat) (pay : List Byte) : List Byte :=
  let h := leBytes 2 ty ++ leBytes 2 pay.length
  h ++ leBytes 4 (crc32c (h ++ pay)) ++ pay

/-- The public key of the image authority, and the fuses that hold its hash. -/
def wAuth : List Byte := List.replicate 60 1
def wFuses : Fuses := { anchor := Config.sha256 wAuth }

/-- The header but for its CRC. -/
def wHead : List Byte :=
  ascii "OTVR" ++ leBytes 2 1 ++ leBytes 2 128 ++ leBytes 4 6108 ++ leBytes 4 160 ++ leBytes 4 20 ++ leBytes 4 7 ++ leBytes 4 30 ++
    leBytes 4 0 ++ List.replicate 24 0 ++ wAuth ++ List.replicate 8 0

/-- Header and first-leaf block. -/
def wPartA : List Byte :=
  wHead ++ leBytes 4 (crc32c wHead) ++
    wRecord 0x340 (leBytes 4 2000 ++ leBytes 4 0 ++ leBytes 2 200 ++ leBytes 2 50 ++ leBytes 4 0 ++ leBytes 2 1000 ++ [1, 0] ++ leBytes 2 500 ++ leBytes 2 0)

/-- The rest. -/
def wPartB : List Byte := wRecord 0xA00 [2, 50, 10, 3, 0, 6, 3, 0, 0, 0, 0, 0]

def wSig (bs : List Byte) : List Byte := (List.range 2964).map (Config.sigOne 0 wAuth bs)
def wAll : List Byte := wPartA ++ wSig wPartA ++ wPartB
def wImage : List Byte := wAll ++ wSig wAll

theorem wSig_length (bs : List Byte) : (wSig bs).length = 2964 := by simp [wSig]
theorem wPartA_length : wPartA.length = 160 := by decide +kernel
theorem wPartB_length : wPartB.length = 20 := by decide +kernel
theorem wAll_length : wAll.length = 3144 := by simp [wAll, wPartA_length, wPartB_length, wSig_length]
theorem wImage_length : wImage.length = 6108 := by simp [wImage, wAll_length, wSig_length]

theorem hssVerify_wSig (bs : List Byte) : Config.hssVerify wAuth bs (wSig bs) = true := by simp [Config.hssVerify, Config.sigVerify, wSig]

/-- Reading a part of the image. -/
theorem wImage_read {a b c : List Byte} (o n : Nat) (h : wImage = a ++ (b ++ c)) (ha : a.length = o) (hb : b.length = n) :
    Store.read (wStore wImage) o n = b := by
  have l : wImage.length = o + n + c.length := by rw [h]; simp [ha, hb]; omega
  rw [wStore_read (by omega), h, List.drop_left' ha, List.take_left' hb]

theorem wImage_header : Store.read (wStore wImage) 0 128 = wPartA.take 128 := by
  refine wImage_read (a := []) (c := wPartA.drop 128 ++ (wSig wPartA ++ wPartB ++ wSig wAll)) 0 128 ?_ rfl (by decide +kernel)
  rw [List.nil_append, ← List.append_assoc, List.take_append_drop, wImage, wAll]
  simp only [List.append_assoc]

theorem wImage_leaf : Store.read (wStore wImage) 128 32 = wPartA.drop 128 := by
  refine wImage_read (a := wPartA.take 128) (c := wSig wPartA ++ wPartB ++ wSig wAll) 128 32 ?_ (by decide +kernel) (by decide +kernel)
  rw [← List.append_assoc (wPartA.take 128), List.take_append_drop, wImage, wAll]
  simp only [List.append_assoc]

theorem wImage_partA : Store.read (wStore wImage) 0 160 = wPartA := by
  refine wImage_read (a := []) (c := wSig wPartA ++ wPartB ++ wSig wAll) 0 160 ?_ rfl wPartA_length
  rw [List.nil_append, wImage, wAll]
  simp only [List.append_assoc]

theorem wImage_sigA : Store.read (wStore wImage) 160 2964 = wSig wPartA := by
  refine wImage_read (a := wPartA) (c := wPartB ++ wSig wAll) 160 2964 ?_ wPartA_length (wSig_length _)
  rw [wImage, wAll]
  simp only [List.append_assoc]

theorem wImage_partB : Store.read (wStore wImage) 3124 20 = wPartB := by
  refine wImage_read (a := wPartA ++ wSig wPartA) (c := wSig wAll) 3124 20 ?_ (by simp [wPartA_length, wSig_length]) wPartB_length
  rw [wImage, wAll]
  simp only [List.append_assoc]

theorem wImage_all : Store.read (wStore wImage) 0 3144 = wAll :=
  wImage_read (a := []) (c := wSig wAll) 0 3144 rfl rfl wAll_length

theorem wImage_sig : Store.read (wStore wImage) 3144 2964 = wSig wAll :=
  wImage_read (a := wAll) (c := []) 3144 2964 (by simp [wImage]) wAll_length (wSig_length _)

def wHeader : ImgHeader := { imgLen := 6108, flbLen := 160, recLen := 20, serial := 7, authPk := wAuth }

/-- What a header must say, but for its key. -/
def wHeaderChecks (f : Fuses) (h : List Byte) : Bool :=
  !decide (h.take 4 ≠ ascii "OTVR") && !decide (u h 4 2 ≠ 1) && !decide (u h 6 2 ≠ 128) &&
    (rng 128 8192 (u h 12 4) && u h 12 4 % 4 == 0) && (decide (u h 16 4 ≤ 16771160) && u h 16 4 % 4 == 0) &&
    !decide (u h 8 4 ≠ u h 12 4 + 2964 + u h 16 4 + 2964 ∨ slotSize < u h 8 4) && !decide (u h 24 4 % 2 ≠ 0 ∨ u h 24 4 / 32 ≠ 0) &&
    !decide (u h 31 1 ≠ 0) && !decide (u h 116 8 ≠ 0) && bitOf f.variant.code (u h 24 4) && !decide (f.fw % 2 ^ 24 < u h 28 4)

theorem judgeHeader_of {f : Fuses} {h : List Byte} (c : wHeaderChecks f h = true) (c3 : ¬ u h 124 4 ≠ crc32c (h.take 124)) :
    judgeHeader f (Config.sha256 ((h.drop 56).take 60)) h = .ok ⟨u h 8 4, u h 12 4, u h 16 4, u h 20 4, (h.drop 56).take 60⟩ := by
  simp only [wHeaderChecks, Bool.and_eq_true, Bool.not_eq_true', decide_eq_false_iff_not] at c
  obtain ⟨⟨⟨⟨⟨⟨⟨⟨⟨⟨c1, c2⟩, c4⟩, c5⟩, c6⟩, c7⟩, c8⟩, c9⟩, c10⟩, c11⟩, c12⟩ := c
  rw [judgeHeader, if_neg c1, if_neg c2, if_neg c3, if_neg c4, if_neg (by simp [c5.1]; simpa using c5.2), if_neg (by simpa using c6),
    if_neg c7, if_neg c8, if_neg c9, if_neg c10, if_neg (by simp [c11]), if_neg c12, if_neg (not_not.mpr rfl)]

theorem wHeader_ok : judgeHeader wFuses (Config.sha256 wAuth) (wPartA.take 128) = .ok wHeader := by
  have p : ((wPartA.take 128).drop 56).take 60 = wAuth := by decide +kernel
  have e : wHeader = ⟨u (wPartA.take 128) 8 4, u (wPartA.take 128) 12 4, u (wPartA.take 128) 16 4, u (wPartA.take 128) 20 4,
      ((wPartA.take 128).drop 56).take 60⟩ := by decide +kernel
  have l : wHead.length = 124 := by decide +kernel
  have k : wPartA.take 128 = wHead ++ leBytes 4 (crc32c wHead) := by rw [wPartA, List.take_left' (by simp [l])]
  have c : ¬ u (wPartA.take 128) 124 4 ≠ crc32c ((wPartA.take 128).take 124) := by
    rw [k, List.take_left' l, u, leAt_append_leBytes _ _ l, show (256 : Nat) ^ 4 = 2 ^ 32 by norm_num, Nat.mod_eq_of_lt (crc32c_lt _)]
    exact not_not.mpr rfl
  have q := judgeHeader_of (f := wFuses) (h := wPartA.take 128) (by decide +kernel) c
  rw [← e, p] at q
  exact q

/-- What judging a list of records gives, where it gives something. -/
theorem recs_ok {e : Except ImgBad RecsOk} {r : RecsOk} (h : (match e with | .ok g => decide (g = r) | .error _ => false) = true) : e = .ok r := by
  cases e with
  | error b => cases h
  | ok g => simpa using h

def wIntakeRec : CnpIntake := { gCapCfg := 2000, srcHost := true }
def wLeafRecs : RecsOk := { recs := [(128, .cnpIntake wIntakeRec)] }
def wRestRecs : RecsOk := { recs := [(3124, .brmGlobal {})] }
def wLeaf : LeafOk := { hdr := wHeader, got := wLeafRecs }

theorem wLeafRecs_ok : judgeRecs wFuses false 8192 128 (wPartA.drop 128) [] {} = .ok wLeafRecs := recs_ok (by decide +kernel)

theorem wRestRecs_ok : judgeRecs wFuses true 20 3124 wPartB wLeafRecs.recs {} = .ok wRestRecs := recs_ok (by decide +kernel)

theorem judgeLeaf_of {f : Fuses} {anchor : Nat} {rd : Nat → Nat → List Byte} {h : ImgHeader} {g : RecsOk}
    (h1 : judgeHeader f anchor (rd 0 128) = .ok h) (h2 : judgeRecs f false 8192 128 (rd 128 (h.flbLen - 128)) [] {} = .ok g)
    (h3 : Config.hssVerify h.authPk (rd 0 h.flbLen) (rd h.flbLen 2964) = true) (h4 : (Cfg.ofRecs g.recs).cnpIntake.isNone = false)
    (h5 : firstBad (refsOk (Cfg.ofRecs g.recs)) g.recs = none) : judgeLeaf f anchor rd = .ok { hdr := h, got := g } := by
  simp [judgeLeaf, h1, h2, h3, h4, h5]

theorem judgeRest_of {f : Fuses} {rd : Nat → Nat → List Byte} {l : LeafOk} {g : RecsOk}
    (h1 : judgeRecs f true l.hdr.recLen (l.hdr.flbLen + 2964) (rd (l.hdr.flbLen + 2964) l.hdr.recLen) l.got.recs {} = .ok g)
    (h2 : Config.hssVerify l.hdr.authPk (rd 0 (l.hdr.imgLen - 2964)) (rd (l.hdr.imgLen - 2964) 2964) = true)
    (h3 : firstBad (fun r => refsOk (Cfg.ofRecs (l.got.recs ++ g.recs)) r && wholeOk f.variant (Cfg.ofRecs (l.got.recs ++ g.recs)) r)
      (l.got.recs ++ g.recs) = none) : judgeRest f rd l = .ok g := by
  simp [judgeRest, h1, h2, h3]

theorem wLeaf_ok : judgeLeaf wFuses (Config.sha256 wAuth) (Store.read (wStore wImage)) = .ok wLeaf := by
  refine judgeLeaf_of (h := wHeader) (g := wLeafRecs) ?_ ?_ ?_ (by decide +kernel) (by decide +kernel)
  · rw [wImage_header, wHeader_ok]
  · rw [show wHeader.flbLen - 128 = 32 from rfl, wImage_leaf, wLeafRecs_ok]
  · rw [show wHeader.flbLen = 160 from rfl, show wHeader.authPk = wAuth from rfl, wImage_partA, wImage_sigA, hssVerify_wSig]

theorem wRest_ok : judgeRest wFuses (Store.read (wStore wImage)) wLeaf = .ok wRestRecs := by
  refine judgeRest_of ?_ ?_ (by decide +kernel)
  · rw [show wLeaf.hdr.flbLen + 2964 = 3124 from rfl, show wLeaf.hdr.recLen = 20 from rfl, wImage_partB,
      show wLeaf.got.recs = wLeafRecs.recs from rfl, wRestRecs_ok]
  · rw [show wLeaf.hdr.imgLen - 2964 = 3144 from rfl, show wLeaf.hdr.authPk = wAuth from rfl, wImage_all, wImage_sig, hssVerify_wSig]

/-- A unit with a store in slot 0. -/
def wImgOf (m : Store) (st : LoadSt) : State :=
  { wUp with fuses := wFuses, img := { st := st, strapOk := true, tried := [0], flash := (Vector.replicate 2 []).set 0 m } }

theorem wImgOf_leaf (m : Store) (st : LoadSt) : (wImgOf m st).img.leafOf (wImgOf m st).fuses (wImgOf m st).imgAnchor (wImgOf m st).img.slot false =
    judgeLeaf wFuses (Config.sha256 wAuth) (Store.read m) := rfl

theorem wImgOf_whole (m : Store) (st : LoadSt) (staged : Bool) :
    (wImgOf m st).img.wholeOf (wImgOf m st).fuses (wImgOf m st).imgAnchor (wImgOf m st).img.slot staged =
      (match judgeLeaf wFuses (Config.sha256 wAuth) (Store.read m) with
      | .error e => .error e
      | .ok a => match judgeRest wFuses (Store.read m) a with
        | .error e => .error e
        | .ok g => .ok (a, g)) := rfl

theorem wImgOf_all {m : Store} {a : LeafOk} {g : RecsOk} (st : LoadSt) (staged : Bool)
    (h1 : judgeLeaf wFuses (Config.sha256 wAuth) (Store.read m) = .ok a) (h2 : judgeRest wFuses (Store.read m) a = .ok g) :
    (wImgOf m st).img.wholeOf (wImgOf m st).fuses (wImgOf m st).imgAnchor (wImgOf m st).img.slot staged = .ok (a, g) := by
  rw [wImgOf_whole, h1]
  simp only [h2]

/-- A unit with the image in slot 0. -/
def wImg (st : LoadSt) : State := wImgOf (wStore wImage) st

theorem wImg_leaf (st : LoadSt) : (wImg st).img.leafOf (wImg st).fuses (wImg st).imgAnchor (wImg st).img.slot false = .ok wLeaf := by
  rw [wImg, wImgOf_leaf, wLeaf_ok]

theorem wImg_whole (st : LoadSt) (staged : Bool) :
    (wImg st).img.wholeOf (wImg st).fuses (wImg st).imgAnchor (wImg st).img.slot staged = .ok (wLeaf, wRestRecs) :=
  wImgOf_all st staged wLeaf_ok wRest_ok

end Sys2Proof.Tests
end

