-- ==== Sys2Proof/WellFormed.lean ====
section
/-! DEFINITION. Which commands are well formed: the operands lie within the fields, frames and ranges that the spec gives what the
command carries. A meaning answers on every operand, well formed or not. -/

namespace Sys2Proof

open Machine

/-- A classic or FD frame with a standard or extended identifier (spec/04_module_bus.md Table 4.1). -/
def Machine.CanFrame.wf (f : CanFrame) : Bool :=
  decide (f.id < if f.ext then 2 ^ 29 else 2 ^ 11) && decide (f.data.length ≤ if f.fd then 64 else 8)

/-- A command frame of 64 bytes: LEN, CTR, ARGS, TAG (spec/08_sleeve_metrology.md Table 8.6). -/
def Machine.CmdFrame.wf (f : CmdFrame) : Bool :=
  decide (f.alen < 2 ^ 16) && decide (f.ctr < 2 ^ 32) && decide (f.args.length ≤ 40) && f.tag.length == 16

/-- The header fields of a Seam frame (spec/10_seam_pair.md Table 10.2). -/
def Machine.SeamFrame.wf (f : SeamFrame) : Bool :=
  decide (f.flags < 256) && decide (f.len < 2 ^ 16) && decide (f.gen < 2 ^ 32) && decide (f.lseq < 2 ^ 32)

/-- The header of an Esing message (spec/18_host_and_discovery.md R479). -/
def Machine.EsHead.wf (m : EsHead) : Bool := decide (m.flags < 256) && decide (m.len < 2 ^ 16) && decide (m.tag < 2 ^ 32)

/-- A configuration item has three readings (spec/17_thicket_and_events.md Table 17.3). -/
def DataErr.wf : DataErr → Bool
  | .config _ fails => decide (1 ≤ fails) && decide (fails ≤ 3)
  | .access addr | .register addr => decide (addr < 2 ^ 32)
  | .canopy | .journal _ | .mram _ | .loop _ | .twin _ | .frame _ | .lost _ => true

/-- The operands of a command lie within what the spec lets it carry. -/
def Instr.wf : Instr → Bool
  | .canopyTick | .solveBudgetExpired _ | .groupFrameRelease | .selectionTimeout _ | .releaseHoldExpiry _ | .blockRelease _
  | .ceilingRefExpiry _ | .freezeWrite _ | .clrMax | .intakeMeasurement _ | .intakeStale | .pmeasHostWrite _ | .bufSocWrite _
  | .bufRefWrite _ | .bufferStale | .oneShotResult _ _ _ _ | .busOff _ | .busOffRecovery _ | .portLimitFrameSend _ | .statusFrame _
  | .moduleLostTimeout _ | .announce _ | .pilotStateAccept _ _ _ _ | .proximityChange _ _ | .portStep _ _
  | .contactorPullInExpiry _ | .contactorDisagree _ _ _ | .contactorsAgreeClosed _ | .contactorsAgreeOpen _ | .abruptEndOpen _
  | .failedAnswerClose _ | .sdpRequest _ | .tLinkExpiry _ | .tAuthExpiry _ | .sequenceTimerExpiry _ | .checkTimeout _
  | .cableCheckPass _ | .tPcExpiry _ | .powerDeliveryConditionTimeout _ | .shortDeclared _ | .shortCheckPathOff _
  | .stopRampComplete _ | .faultMinTimeExpiry _ | .v2gConnectionOpen _ _ _ | .v2gConnectionClosed _ | .tlsHandshakeFail _
  | .supportedAppProtocolReq _ _ _ | .sessionSetupReq _ _ | .serviceDiscoveryReq _ _ | .serviceSelectionReq _ _ _
  | .authorizationReq _ _ _ _ _ | .cableCheckReq _ _ _ _ | .preChargeReq _ _ _ _ | .powerDeliveryReq _ _ _ | .chargeLoopReq _ _ _
  | .sessionStopReq _ _ | .certificateInstallationReq _ _ | .creditNotice _ | .portEnableWrite _ _ | .portStop _ | .clrLock _
  | .bptTgtWrite _ _ | .tempMeasurement _ _ _ _ | .flowPulseEdge _ | .flowTimeout _ | .flowFaultClear _ | .thermalEvaluation _
  | .fastModeExit _ | .loopSample _ | .loopFaultRecovery _ | .loopModeWrite _ _ | .loopCoeffWrite _ _ _ | .loopManWrite _ _
  | .loopPvhWrite _ _ | .injectionStart | .injectionStop | .injectionEnd | .gaiterCycle _ | .clockCheckWindow _ _
  | .safetyContactChange _ _ _ | .inputDebounceDone _ | .inputDiscrepancy _ | .testPulseStart _ | .testMaskEnd _
  | .comparatorCrossing _ | .comparatorReturn _ | .comparatorSelfTest _ _ | .fcTestLate _ | .portResponseTimeout _
  | .softRampLimit | .resume | .softWrite | .gateRequest _ | .gateWithdraw _ | .safeOutputOffPulse _ _ | .safeOutputReadback _ _
  | .degradedTimerExpiry | .heartbeat | .heartbeatLost | .handoverTimeout | .gaiterLeaveHold | .sampleFrameReceive _ _
  | .portMeasurementInvalid _ | .recordFrameReceive _ | .sleeveSampleSend | .headSampleFrame _ _ | .headAuthFrame _ _
  | .headErrorTimeout _ | .headPairing _ _ | .sleeveCommit | .sleevePowerFail _ _ | .sleevePowerOn _ _ _ | .sleeveWatchdog
  | .sleeveSampleEnd | .intakeLatch | .freerunEnter | .linkLossClose | .metrologySelfTest _ _ _ _
  | .serviceSessionOpen _ | .serviceSessionClose _ | .firmwareLoad _ _ _ | .legalParamLoad _ _ | .recordResend _
  | .creditGateOpen _ | .gateFeedbackCheck _ _ | .tamperConditionBegin _ | .tamperConditionEnd _ | .coverSwitchSample _ _
  | .roleChoiceTimeout | .laneDown _ | .laneRetrain | .peerLost | .statusSend | .relayTimeout | .relayWindowEnd | .ownNHigh
  | .ownNLow | .ownNRelease | .takeoverFirstTick | .echoEligible _ _ | .echoCheckTimeout _ _ | .holdFrameSend | .resyncComplete
  | .swap | .scheduledSwap | .lacingRunWrite _ | .wakeDone _ | .enumeration _ | .lacingFaultRetry _ | .sweepPeriod
  | .lacingResponse _ _ | .lacingResponseTimeout _ | .lacingNodeLost _ _ | .owtRead _ _ | .owtRequest _ | .owTestLate _ _
  | .ackTimeout _ | .zeroCrossing | .toneMapRefresh _ | .tmrTimeout _ | .toneMapRefreshWrite | .beaconSend
  | .bramblePartnerLost _ | .ctrlBeaconSend | .bindingStale _ | .totalCurrentShed | .cuffRetry _ | .clampEventEnd _ _
  | .cufClr _ | .cufChannelWrite _ _ | .cuffForce _ _ | .vlsLoss | .cuffStandbyOff | .vselChange _ | .softStartComplete
  | .hemShort | .hiccupExpiry | .hicClear | .hemUndervoltage | .hemOvervoltage | .hemVinOut | .hemVinOk | .phaseOvercurrent _
  | .hemClr | .phaseShed | .phaseAdd | .fastCondition | .shedBlockExpiry | .keyUpdateGo | .keyUpdateJudged | .pairBinding _ _ _
  | .attestationGo _ | .attestationDone | .rngHealthFail | .rngRecover _ | .drbgReseed | .loaderStart _ | .firstLeafApply
  | .firstLeafRefused _ | .restApply | .restRefused _ | .heartbeatStop | .imageErase _ | .imageProg _ _ | .imageCheck _ _
  | .imageSelect _ _ | .imageOpDone | .powerOnReset _ | .brownOut | .pinReset _ | .watchdogExpiry _ | .appCoreRestart _
  | .resetSysWrite _ | .resetCoreWrite _ | .debugResetRequest _ | .clockFailure _ | .lockUp | .deferredSystemReset
  | .releaseSequence _ | .pllStop _ | .pllRequest _ | .gladeXtalLoss | .gladeXtalReturn | .gladeSleep | .gldClrCnt
  | .enclosureTamperSample _ _ | .temperatureRead _ | .creditReturn _ | .transactionTimeout _ | .fabricStall _ _ | .softwareEvent
  | .spiCrcReport | .esingConnect _ _ | .esingIdleClose _ | .scheduleEvaluation _ | .requestStartTransaction _
  | .changeAvailability _ _ | .ocppReset | .ocppUnsupportedCall _ | .authorizeResponse _ _ _ | .meterValuesSend _
  | .transactionEnded _ | .recordWaitTimeout _ | .ocppLinkLost | .ocppReconnect _ | .bootAccepted | .seamLaneTrained _
  | .vgladePowerOn | .vbksLoss => true
  | .registerWrite addr _ => decide (addr < 2 ^ 32)
  | .solveComplete us _ => decide (us ≤ 600)
  | .canFrameReceive _ f => f.wf
  | .testPulseSample _ closed => decide (closed < 2 ^ 16)
  | .lineCycleEnd xs | .halfCycleRefresh xs => xs.all AcCodes.ok
  | .keepalive f => f.wf
  | .setTime f => f.wf
  | .tariffSeg f => f.wf
  | .sessionStart f => f.wf
  | .sessionStop f => f.wf
  | .unknownCommand code f => decide (code < 256) && (cmdLen code).isNone && f.wf
  | .releaseCause reason => decide (1 ≤ reason) && decide (reason ≤ 8)
  | .fchReceive fch _ _ _ _ => fch.length == 8
  | .tmreq bs snr => decide (leAt bs 0 1 = 0x04) && snr.length == 28
  | .pulseBeacon a b c => decide (a < 2 ^ 80) && decide (b < 2 ^ 80) && decide (c < 2 ^ 80)
  | .fallbackEstop a b c => decide (a < 2 ^ 80) && decide (b < 2 ^ 80) && decide (c < 2 ^ 80)
  | .brambleAck _ ref => decide (ref < 256)
  | .brambleNack _ ref => decide (ref < 256)
  | .cuffProtectionCheck ms => ms.length == 16
  | .hemLoopUpdate m => decide (m.vfb < 2 ^ 21) && decide (m.vin < 2 ^ 16) && m.sense.toList.all (fun xs => decide (xs.length ≤ 100))
  | .strapLatch q => decide (0 ≤ q) && decide (q ≤ 1)
  | .gladeWake src => decide (1 ≤ src) && decide (src ≤ 3)
  | .dataErrorDetected e => e.wf
  | .spiRead a n => decide (a < 2 ^ 32) && decide (n < 2 ^ 16)
  | .spiPeerRead a n => decide (a < 2 ^ 32) && decide (n < 2 ^ 16)
  | .spiWrite a n _ => decide (a < 2 ^ 32) && decide (n < 2 ^ 16)
  | .spiPeerWrite a n _ => decide (a < 2 ^ 32) && decide (n < 2 ^ 16)
  | .read _ m a n => m.wf && decide (a < 2 ^ 32) && decide (n < 2 ^ 32)
  | .write _ m a n _ => m.wf && decide (a < 2 ^ 32) && decide (n < 2 ^ 32)
  | .log _ m a n => m.wf && decide (a < 2 ^ 32) && decide (n < 2 ^ 32)
  | .sub _ m mask => m.wf && decide (mask < 2 ^ 64)
  | .setChargingProfile pr _ => decide (pr.evse ≤ 12)
  | .requestStopTransaction tx => decide (tx < 2 ^ 32)
  | .beacon bs => decide (leAt bs 0 1 = 0x01)
  | .join bs => decide (leAt bs 0 1 = 0x02)
  | .joinAck bs => decide (leAt bs 0 1 = 0x03)
  | .tmr bs => decide (leAt bs 0 1 = 0x05)
  | .set bs => decide (leAt bs 0 1 = 0x10)
  | .values bs => decide (leAt bs 0 1 = 0x11)
  | .estop bs => decide (leAt bs 0 1 = 0x12)
  | .leave bs => decide (leAt bs 0 1 = 0x13)
  | .journal f => decide (f.typ = 1) && f.wf
  | .ack f => decide (f.typ = 2) && f.wf
  | .status f => decide (f.typ = 3) && f.wf
  | .release f => decide (f.typ = 4) && f.wf
  | .handover f => decide (f.typ = 5) && f.wf
  | .resyncReq f => decide (f.typ = 6) && f.wf
  | .snapshotFrame f => decide (f.typ = 7) && f.wf
  | .relay f => decide (f.typ = 8) && f.wf
  | .relayRsp f => decide (f.typ = 9) && f.wf

end Sys2Proof
end

