-- ==== Sys2Proof/Tests/Slice0.lean ====
section
/-! SUPPORT. The well-formedness checks refuse an ill-formed operand each, and small checks against tables and worked examples of
the manual, named at each. -/

namespace Sys2Proof.Tests

set_option Elab.async false

open Sys2Proof Sys2Proof.Machine

/-! ## An ill-formed command for each check -/

/-- A command frame with one byte of tag too many. -/
def wBadCmd : CmdFrame := { lane := 0, alen := 0, ctr := 1, args := [], tag := List.replicate 17 0 }

theorem test_wf_addresses : (Instr.registerWrite (2 ^ 32) 0).wf = false ∧ (Instr.spiRead (2 ^ 32) 1).wf = false ∧
    (Instr.spiWrite 0 (2 ^ 16) []).wf = false ∧ (Instr.spiPeerRead (2 ^ 32) 1).wf = false ∧ (Instr.spiPeerWrite 0 (2 ^ 16) []).wf = false := by decide

theorem test_wf_messages : (Instr.read 0 { flags := 256 } 0 1).wf = false ∧ (Instr.write 0 { tag := 2 ^ 32 } 0 1 [0]).wf = false ∧
    (Instr.log 0 {} (2 ^ 32) 1).wf = false ∧ (Instr.sub 0 {} (2 ^ 64)).wf = false := by decide

theorem test_wf_frames : (Instr.canFrameReceive 0 { id := 2 ^ 11 }).wf = false ∧ (Instr.canFrameReceive 0 { id := 1, fd := false, data := List.replicate 9 0 }).wf = false ∧
    (Instr.journal { typ := 2 }).wf = false ∧ (Instr.ack { typ := 2, len := 2 ^ 16 }).wf = false ∧ (Instr.status { typ := 1 }).wf = false ∧
    (Instr.release { typ := 5 }).wf = false ∧ (Instr.handover { typ := 4 }).wf = false ∧ (Instr.resyncReq { typ := 7 }).wf = false ∧
    (Instr.snapshotFrame { typ := 6 }).wf = false ∧ (Instr.relay { typ := 9 }).wf = false ∧ (Instr.relayRsp { typ := 8 }).wf = false := by decide

theorem test_wf_sleeve : (Instr.keepalive wBadCmd).wf = false ∧ (Instr.setTime wBadCmd).wf = false ∧ (Instr.tariffSeg wBadCmd).wf = false ∧
    (Instr.sessionStart wBadCmd).wf = false ∧ (Instr.sessionStop wBadCmd).wf = false ∧ (Instr.unknownCommand 1 { wBadCmd with tag := List.replicate 16 0 }).wf = false ∧
    (Instr.lineCycleEnd [{ n := 2 ^ 23 }]).wf = false := by decide +kernel

theorem test_wf_bramble : (Instr.fchReceive [] none 0 [] []).wf = false ∧ (Instr.beacon [2]).wf = false ∧ (Instr.join [1]).wf = false ∧
    (Instr.joinAck [2]).wf = false ∧ (Instr.tmreq [4] []).wf = false ∧ (Instr.tmr [4]).wf = false ∧ (Instr.set [0x11]).wf = false ∧
    (Instr.values [0x10]).wf = false ∧ (Instr.estop [0x13]).wf = false ∧ (Instr.leave [0x12]).wf = false ∧ (Instr.brambleAck 0 256).wf = false ∧
    (Instr.brambleNack 0 256).wf = false ∧ (Instr.pulseBeacon 0 (2 ^ 80) 0).wf = false ∧ (Instr.fallbackEstop 0 0 (2 ^ 80)).wf = false := by decide

theorem test_wf_power : (Instr.cuffProtectionCheck []).wf = false ∧
    (Instr.hemLoopUpdate { vfb := 2 ^ 32, vin := 2 ^ 16, sense := Vector.replicate 4 [] }).wf = false ∧ (Instr.gladeWake 4).wf = false ∧
    (Instr.testPulseSample true (2 ^ 16)).wf = false ∧ (Instr.releaseCause 9).wf = false := by decide

theorem test_wf_rest : (Instr.solveComplete 601 (.optimum {})).wf = false ∧ (Instr.dataErrorDetected (.config 128 4)).wf = false ∧
    (Instr.dataErrorDetected (.access (2 ^ 32))).wf = false ∧ (Instr.setChargingProfile { evse := 13 } 0).wf = false ∧
    (Instr.requestStopTransaction (2 ^ 32)).wf = false := by decide

theorem test_wf_strap : (Instr.strapLatch 2).wf = false ∧ (Instr.strapLatch (-1)).wf = false := by decide +kernel

/-- And well-formed ones pass. -/
theorem test_wf_good : (Instr.registerWrite 8 0).wf = true ∧ (Instr.canFrameReceive 0 { id := 5 }).wf = true ∧ (Instr.spiRead 8 1).wf = true ∧
    (Instr.gladeWake 1).wf = true ∧ (Instr.estop [0x12]).wf = true ∧ Instr.canopyTick.wf = true := by decide

/-! ## Tables and worked examples of the manual -/

/-- Check values of spec/00_scope.md Table 0.3. -/
theorem test_crc_check_values : crc8 (ascii "123456789") = 0xF4 ∧ crc16 (ascii "123456789") = 0x29B1 ∧ crc32c (ascii "123456789") = 0xE3069283 := by
  decide +kernel

/-- SYS_CAPS of spec/00_scope.md Table 0.2. -/
theorem test_sys_caps : Variant.caps .mx = 0x0110447C ∧ Variant.caps .m = 0x0210445C ∧ Variant.caps .s = 0x03102268 ∧ Variant.caps .l = 0x04080114 := by
  decide

/-- SYS_CAPS stands at 0x008 (spec/00_scope.md R1); 0x009 is no register (R513). -/
theorem test_read_caps : (wUp.readAt 8).2.1 = 0x0110447C ∧ (wUp.readAt 8).1 = .ok ∧ (wUp.readAt 9).1 = .unmapped := by decide +kernel

def wPortIn (rating : Rat) : PortIn :=
  { cfg := some {}, phase := .energy, bpt := false, dem := 0, v := 900, rating := rating, vehMax := none, disMax := none, tcap := none, profile := none, degCap := none }

/-- The Skerrow example of spec/03_canopy_limits_and_faults.md R88: G_CAP_CFG 24 MW, L_STALE 3,000.0 kW, 12 ports. -/
theorem test_reduced_cap :
    let i : CnpIn := { now := 0, ports := List.replicate 12 (wPortIn 3000), mods := [], clearing := false, soft := false, glob := {}, intake := { gCapCfg := 240000, lStale := 30000 }, buffer := none, groups := [], gcap := 0, vbLac := none, cells := none, tau := 0, tauB := 0, nCfg := 12, vbFresh := false }
    sRed i = 1750 ∧ reducedCap i (wPortIn 3000) = 750 ∧ reducedCap i (wPortIn 500) = 125 := by decide +kernel

/-- hi_p of 1,988.95 A is rounded down to 1,988.5 A (the example at spec/18_host_and_discovery.md R482). -/
theorem test_hi_rounds_down : floorHalf (1988 + 95 / 100) = 1988 + 1 / 2 := by decide +kernel

/-- The SET frame of the example at spec/12_bramble_site_link.md Table 12.3: 11 payload symbols with B = 56, 84 in robust mode. -/
theorem test_frame_symbols : brmDur 36 56 false = 16128 + 576 * 11 ∧ brmDur 36 1 true = 16128 + 576 * 84 := by decide

/-- Event k of 96 mJ ends at 0.5 × (k − 1) s (spec/13_cuff_and_hem.md Table 13.2). -/
def wClamps (n : Nat) : CufCh := { cfg := some {}, on := true, clamps := (List.range n).reverse.map (fun k => (500000 * k, 96)) }

/-- The window sums of spec/13_cuff_and_hem.md Table 13.2. -/
theorem test_clamp_window : cufSum 5500000 (wClamps 12) = 1152 ∧ cufSum 6000000 (wClamps 13) = 1248 ∧ cufSum 10001000 (wClamps 13) = 1152 ∧
    cufSum 12000000 (wClamps 13) = 864 ∧ cufSum 13001000 (wClamps 13) = 576 := by decide

/-- Event 13 locks CU4 (spec/13_cuff_and_hem.md Table 13.2). -/
theorem test_clamp_locks :
    ((cuffClamp 6000000 4 96 { ch := (Vector.replicate 16 ({} : CufCh)).set 4 (wClamps 12) }).1.get 4).lock = true ∧
    ((cuffClamp 5500000 4 96 { ch := (Vector.replicate 16 ({} : CufCh)).set 4 (wClamps 11) }).1.get 4).lock = false := by decide

/-- 107.8 °C lies in WARM, 110.8 °C in HOT (the example of spec/19_pins_electrical_package.md, Table 16.6). -/
theorem test_bands : bandNext false 0 1078 = 2 ∧ bandNext false 2 1108 = 3 := by decide

/-- The front command of the queue is run with the rest of the queue. -/
theorem test_step_takes_front : step { wUp with pending := [.gldClrCnt, .clrMax] } = exec .gldClrCnt { wUp with pending := [.clrMax] } := rfl

/-- On an empty queue a microsecond passes. -/
theorem test_step_idles : (match step wUp with | .next t => t.mono | _ => 0) = wUp.mono + 1 := by decide +kernel

/-- No row gives bits, so no word spells a command. -/
theorem test_no_words : decodeTableWord 32 0 = none ∧ wUp.withFetchWord 32 0 = wUp := ⟨rfl, rfl⟩

end Sys2Proof.Tests
end

