-- ==== Sys2Proof/Tests/WitnessBramble.lean ====
section
/-! SUPPORT. For each statement about the Bramble site link, states and operands that meet its hypotheses. -/

namespace Sys2Proof.Tests.WitnessBramble

set_option Elab.async false

open Sys2Proof Sys2Proof.Machine

/-- A controller whose site key stands in slot 0. -/
def wBrmKey : State :=
  { wUp with clk := { ready := true, slots := (Vector.replicate 64 {}).set 0 { typ := .hmac, usage := 2, key := 7 } }, cfg := { brmGlobal := some {} }, brm := { run := true } }

/-- Neighbour 4 is `n`. -/
def wNbr (n : BrmNbr) : State := { wBrmKey with brm := { run := true, nbrSel := 4, nbr := (Vector.replicate 65 {}).set 4 n, zc := { lock := true, last := some 999999990000 } } }

/-- An admitted emergency-stop station. -/
def wNear : BrmNbr := { addr := 0xABC, kind := 2, st := .admitted, sid := 9, heardAt := some 0 }

/-- The bytes before the MIC: type, source, session and body. -/
def wBrmHead (ft src sid : Nat) (body : List Byte) : List Byte :=
  leBytes 1 ft ++ leBytes 1 0 ++ leBytes 1 src ++ leBytes 1 0 ++ leBytes 1 src ++ leBytes 1 0 ++ leBytes 1 0 ++ leBytes 1 0xFE ++
    leBytes 4 sid ++ leBytes 2 1 ++ leBytes 2 body.length ++ body

/-- The payload that the key `k` makes of them. -/
def wSigned (k : Nat) (hd : List Byte) : List Byte := hd ++ brmMic k hd ++ leBytes 4 (crc32c (hd ++ brmMic k hd))

/-- What a payload says that is judged on its numbers alone: lengths, type, reserved bytes and addresses. -/
def wBrmForm (hd : List Byte) : Bool :=
  decide (leAt hd 14 2 + 16 = hd.length) && decide (leAt hd 14 2 ≤ 224) && brmLenOk (leAt hd 0 1) (leAt hd 14 2) ((hd.drop 16).take (leAt hd 14 2)) &&
    !decide (!brmKnown (leAt hd 0 1) ∨ !brmReserved (leAt hd 0 1) ((hd.drop 16).take (leAt hd 14 2)) ∨ 16 ≤ leAt hd 1 1 ∨ leAt hd 1 1 % 4 = 3 ∨
      ((hd.drop 2).take (if bitOf 3 (leAt hd 1 1) then 6 else 4)).any (fun a => !brmAddrOk a.toNat))

/-- What the controller takes of a payload whose MIC is right. -/
def wTaken (hd : List Byte) (x : BX) : Option BrmIn :=
  let ft := leAt hd 0 1
  let body := (hd.drop 16).take (leAt hd 14 2)
  let rx := leAt hd 5 1
  if rx ≠ 0 ∧ rx ≠ 0xFF then none
  else
    let src := leAt hd 2 1
    let n := if 1 ≤ src ∧ src ≤ 0x40 then some (nbrOf src) else none
    let seq := leAt hd 12 2
    let got : BrmIn := { src := src, nbr := n, body := body }
    let current := match n with | some k => (x.nb k).st != .empty && (x.nb k).sid == leAt hd 8 4 | none => false
    let bySeq (last : Option Nat) : Option BrmIn :=
      if last = some seq then none else if last.any (fun q => !newer seq q) then none else some got
    if ft = 0x02 then bySeq ((x.b.joins.find? (fun j => j.1 == leAt body 0 6)).map (·.2))
    else if ft ≠ 0x01 ∧ !current then (if ft = 0x12 ∧ (brmStop n x).isSome then some got else none)
    else match n with
      | none => some got
      | some k => bySeq (x.nb k).rxSeq

theorem brmMic_length (k : Nat) (bs : List Byte) : (brmMic k bs).length = 8 := by
  simp [brmMic, beBytes]

theorem wSigned_judge {x : BX} {k : Nat} {hd : List Byte} (hk : x.key = some k) (hc : wBrmForm hd = true) :
    (brmJudge (wSigned k hd) x).2 = wTaken hd x := by
  simp only [wBrmForm, Bool.and_eq_true, decide_eq_true_eq] at hc
  obtain ⟨⟨⟨h1, h2⟩, h3⟩, h4⟩ := hc
  have h4 := decide_eq_false_iff_not.mp ((Bool.not_eq_true' _).mp h4)
  have m := brmMic_length k hd
  have l : (wSigned k hd).length = hd.length + 12 := by simp [wSigned, m]
  have e (o c : Nat) (q : o + c ≤ 16) : leAt (wSigned k hd) o c = leAt hd o c := by
    rw [wSigned, List.append_assoc]; exact leAt_append_left _ (by omega)
  have p : (wSigned k hd).take (hd.length + 12 - 4) = hd ++ brmMic k hd := by
    rw [wSigned]; exact List.take_left' (by simp [m])
  have c : leAt (wSigned k hd) (hd.length + 12 - 4) 4 = crc32c (hd ++ brmMic k hd) := by
    rw [wSigned, leAt_append_leBytes _ _ (by simp [m]), show (256 : Nat) ^ 4 = 2 ^ 32 by norm_num, Nat.mod_eq_of_lt (crc32c_lt _)]
  have b : ((wSigned k hd).drop 16).take (leAt hd 14 2) = (hd.drop 16).take (leAt hd 14 2) := by
    rw [wSigned, List.append_assoc, List.drop_append_of_le_length (by omega), List.take_append_of_le_length (by simp; omega)]
  have a (n : Nat) (q : n ≤ 14) : ((wSigned k hd).drop 2).take n = (hd.drop 2).take n := by
    rw [wSigned, List.append_assoc, List.drop_append_of_le_length (by omega), List.take_append_of_le_length (by simp; omega)]
  have a : ((wSigned k hd).drop 2).take (if bitOf 3 (leAt hd 1 1) then 6 else 4) = (hd.drop 2).take (if bitOf 3 (leAt hd 1 1) then 6 else 4) :=
    a _ (by split <;> omega)
  have t : (wSigned k hd).take (16 + leAt hd 14 2) = hd := by
    rw [wSigned, List.append_assoc]; exact List.take_left' (by omega)
  have u : ((wSigned k hd).drop (16 + leAt hd 14 2)).take 8 = brmMic k hd := by
    rw [wSigned, List.append_assoc, List.drop_left' (by omega), List.take_left' m]
  have o : ¬(hd.length + 12 < 28 ∨ crc32c (hd ++ brmMic k hd) ≠ crc32c (hd ++ brmMic k hd)) := by omega
  have o' : ¬(252 < hd.length + 12 ∨ leAt hd 14 2 ≠ hd.length + 12 - 28 ∨
      (!brmLenOk (leAt hd 0 1) (leAt hd 14 2) ((hd.drop 16).take (leAt hd 14 2))) = true) := by
    rw [h3]; simp; omega
  have g : ¬((match x.key with
      | some k' => decide (((wSigned k hd).drop (16 + leAt hd 14 2)).take 8 ≠ brmMic k' ((wSigned k hd).take (16 + leAt hd 14 2)))
      | none => true) = true) := by simp [hk, u, t]
  simp only [brmJudge, l, c, p, e _ _ (show 14 + 2 ≤ 16 by omega), e _ _ (show 0 + 1 ≤ 16 by omega), e _ _ (show 1 + 1 ≤ 16 by omega),
    e _ _ (show 5 + 1 ≤ 16 by omega), e _ _ (show 2 + 1 ≤ 16 by omega), e _ _ (show 8 + 4 ≤ 16 by omega), e _ _ (show 12 + 2 ≤ 16 by omega), b, a]
  rw [if_neg o, if_neg o', if_neg h4]
  refine (congrArg Prod.snd (if_neg g)).trans ?_
  simp only [wTaken, apply_ite Prod.snd]
  generalize (if 1 ≤ leAt hd 2 1 ∧ leAt hd 2 1 ≤ 0x40 then some (nbrOf (leAt hd 2 1)) else none) = n
  cases n <;> simp only [apply_ite Prod.snd]

def wBeacon : List Byte := wBrmHead 0x01 5 9 (List.replicate 12 0 ++ [0])
def wValues : List Byte := wBrmHead 0x11 5 9 [1, 0, 3, 0, 1, 2, 3, 4]
def wEstop : List Byte := wBrmHead 0x12 5 9 [0, 1, 0, 0]
def wEstopAway : List Byte := wBrmHead 0x12 0xFD 9 [0, 1, 0, 0]
def wTmreq : List Byte := wBrmHead 0x04 5 9 []
def wJoin : List Byte := wBrmHead 0x02 0xFD 0 [0xBC, 0x0A, 0, 0, 0, 0, 2, 1, 2, 3, 4, 1]
def wSet : List Byte := wBrmHead 0x10 0 9 [1, 0, 5, 0, 1, 2, 3, 4] ++ List.replicate 12 0
def wJoinAck : List Byte := wBrmHead 0x03 0 9 [0xBC, 0x0A, 0, 0, 0, 0, 1, 2, 3, 4, 0, 5, 9, 0, 0, 0] ++ List.replicate 12 0

/-- The image names the station. -/
def wSite (s : State) : State := { s with cfg := { s.cfg with brmPartner := [{ addr := some 0xABC, kind := 2 }] } }

def wBindRec : BrmBind := { bind := 6, addr := 0xABC, chan := 3 }
def wBound : State := { wNbr wNear with cfg := { brmGlobal := some {}, brmBind := [wBindRec] } }
def wPress : State := { wNbr wNear with gtr := { st := .run } }
def wPressKey : State := { wBrmKey with gtr := { st := .run } }

/-- A telemetry frame in flight. -/
def wTx : BrmTx := { ftype := 0x10, cls := .telemetry, body := [], seq := 0, tries := 1, sent := List.replicate 30 0, sentAt := 0, dur := 100 }
def wFlight (f : BrmTx) : State := wNbr { wNear with cur := some f }
def wRef : Nat := crc32c (List.replicate 26 0) % 128
/-- A header whose CRC is right. -/
def wHead (plen : Nat) : List Byte := [4, 0] ++ leBytes 2 plen ++ [0xFF, 0, 0]
def wGood : List Byte := List.replicate 28 0 ++ leBytes 4 (crc32c (List.replicate 28 0))
def wNoLock : State := { wBrmKey with brm := { run := true, zc := { last := some 999999990000 } } }
def wCrossing : State := { wBrmKey with brm := { run := true, zc := { lock := true, last := some 999999990300 } } }
def wLate : State := { wBrmKey with brm := { run := true, zc := { lock := true, last := some 999999986000 } } }
def wFb : State := wSite (wNbr wNear)

theorem witness_BrambleHears :
    (∃ s : State, s.brmOn = true ∧ (∀ (n : Fin 65) (f : BrmTx), s.brm.nbr[n].cur = some f → f.sentAt + 16128 ≤ s.mono) ∧ (∀ f, s.brm.bcast = some f → f.sentAt + 16128 ≤ s.mono) ∧ ∃ fch : List Byte, crc8 (fch.take 7) ≠ leAt fch 7 1) ∧
    (∃ s : State, s.brmOn = true ∧ (∀ (n : Fin 65) (f : BrmTx), s.brm.nbr[n].cur = some f → f.sentAt + 16128 ≤ s.mono) ∧ (∀ f, s.brm.bcast = some f → f.sentAt + 16128 ≤ s.mono) ∧ ∃ h : List Byte, ∃ pay : List Byte, h = [4, 0] ++ leBytes 2 pay.length ++ [0xFF, 0, 0] ∧ 28 ≤ pay.length ∧ pay.length ≤ 252 ∧ leAt pay (pay.length - 4) 4 = crc32c (pay.take (pay.length - 4))) ∧
    (∃ s : State, s.brmOn = true ∧ (∀ (n : Fin 65) (f : BrmTx), s.brm.nbr[n].cur = some f → f.sentAt + 16128 ≤ s.mono) ∧ (∀ f, s.brm.bcast = some f → f.sentAt + 16128 ≤ s.mono) ∧ ∃ h : List Byte, ∃ pay : List Byte, ∃ xs : List Int, h = [4, 0] ++ leBytes 2 pay.length ++ [0xFF, 0, 0] ∧ 28 ≤ pay.length ∧ pay.length ≤ 252 ∧ leAt pay (pay.length - 4) 4 ≠ crc32c (pay.take (pay.length - 4)) ∧ leAt pay 5 1 = 0 ∧ paySymbols pay.length 0 true ≤ 4 * ((List.range (paySymbols pay.length 0 true)).filter (symErased (s.cfg.brmGlobal.getD {}).blankThr xs)).length) ∧
    (∃ s : State, s.brmOn = true ∧ ∃ n : Fin 65, ∃ f : BrmTx, s.brm.nbr[n].cur = some f ∧ s.mono < f.sentAt + 16128 ∧ 16128 ≤ s.mono) ∧
    (∃ s : State, s.brmOn = true ∧ ∃ h : List Byte, ∃ n : Fin 64, h = [1, 0, 0, 0, 0xFF, 0, 0] ∧ s.brm.nbr[n].st ≠ .empty) ∧
    (∃ s : State, s.brmOn = true ∧ ∃ bs : List Byte, ∃ d : List Byte, ∃ src : Nat, ∃ a : Nat, (brmJudge bs s.bctx).2 = some { src := src, nbr := none, body := d } ∧ brmStop none s.bctx = some a ∧ leAt d 1 1 = 1 ∧ s.gtr.st = .run ∧ s.gtr.latch = none ∧ s.gtr.pendSoft = []) ∧
    (∃ s : State, s.brmOn = true ∧ ∃ bs : List Byte, ∃ d : List Byte, ∃ src : Nat, ∃ n : Fin 64, (brmJudge bs s.bctx).2 = some { src := src, nbr := some n.val, body := d } ∧ (s.brm.nbr[n].st = .admitted ∨ s.brm.nbr[n].st = .unreachable)) ∧
    (∃ s : State, s.brmOn = true ∧ ∃ bs : List Byte, ∃ d : List Byte, ∃ src : Nat, ∃ n : Fin 64, (brmJudge bs s.bctx).2 = some { src := src, nbr := some n.val, body := d } ∧ (s.brm.nbr[n].st = .admitted ∨ s.brm.nbr[n].st = .unreachable) ∧ ∃ r : BrmBind, r ∈ s.cfg.brmBind ∧ r.bind < 64 ∧ r.cmd = false ∧ r.addr = s.brm.nbr[n].addr ∧ r.chan = leAt d 2 1 ∧ leAt d 0 1 = 1 ∧ leAt d 3 1 = 0) ∧
    (∃ s : State, s.brmOn = true ∧ ∃ bs : List Byte, ∃ d : List Byte, ∃ src : Nat, ∃ n : Fin 64, (brmJudge bs s.bctx).2 = some { src := src, nbr := some n.val, body := d } ∧ (s.brm.nbr[n].st = .admitted ∨ s.brm.nbr[n].st = .unreachable) ∧ leAt d 1 1 = 1 ∧ brmStation s.brm.nbr[n].addr s.bctx = true ∧ s.gtr.st = .run ∧ s.gtr.latch = none ∧ s.gtr.pendSoft = []) ∧
    (∃ s : State, s.brmOn = true ∧ ∃ bs : List Byte, ∃ d : List Byte, ∃ src : Nat, ∃ n : Fin 64, (brmJudge bs s.bctx).2 = some { src := src, nbr := some n.val, body := d } ∧ (s.brm.nbr[n].st = .admitted ∨ s.brm.nbr[n].st = .unreachable) ∧ ∃ k : Nat, s.siteKey = some k ∧ s.brm.nbr[n].cur = none ∧ s.brm.nbr[n].queue = [] ∧ s.brm.nbr[n].pend = false) :=
  ⟨⟨wBrmKey, by decide, by decide, ofAll (by decide), (List.replicate 8 1), by decide +kernel⟩,
   ⟨wBrmKey, by decide, by decide, ofAll (by decide), (wHead wGood.length), wGood, by rfl, by decide +kernel⟩,
   ⟨wBrmKey, by decide, by decide, ofAll (by decide), (wHead 28), (List.replicate 28 0), (wLoud (1168 + 144 * 66)), by rfl, by decide, by decide, by decide +kernel, by decide +kernel, wLoud_noise (by decide) (by decide)⟩,
   ⟨(wFlight { wTx with sentAt := 1000000000000 }), by decide, 4, ({ wTx with sentAt := 1000000000000 }), rfl, by decide⟩,
   ⟨(wNbr wNear), by decide, ([1, 0, 0, 0, 0xFF, 0, 0]), 4, by decide⟩,
   ⟨(wSite wPressKey), by decide, (wSigned 7 wEstopAway), ((wEstopAway.drop 16).take 4), 0xFD, 0xABC, (wSigned_judge (k := 7) (by decide +kernel) (by decide +kernel)).trans (by decide +kernel), by decide +kernel⟩,
   ⟨(wNbr wNear), by decide, (wSigned 7 wBeacon), ((wBeacon.drop 16).take (leAt wBeacon 14 2)), 5, 4, (wSigned_judge (k := 7) (by decide +kernel) (by decide +kernel)).trans (by decide +kernel), by decide⟩,
   ⟨wBound, by decide, (wSigned 7 wValues), ((wValues.drop 16).take (leAt wValues 14 2)), 5, 4, (wSigned_judge (k := 7) (by decide +kernel) (by decide +kernel)).trans (by decide +kernel), by decide, wBindRec, by decide +kernel⟩,
   ⟨wPress, by decide, (wSigned 7 wEstop), ((wEstop.drop 16).take (leAt wEstop 14 2)), 5, 4, (wSigned_judge (k := 7) (by decide +kernel) (by decide +kernel)).trans (by decide +kernel), by decide +kernel⟩,
   ⟨(wNbr wNear), by decide, (wSigned 7 wTmreq), ((wTmreq.drop 16).take (leAt wTmreq 14 2)), 5, 4, (wSigned_judge (k := 7) (by decide +kernel) (by decide +kernel)).trans (by decide +kernel), by decide, 7, rfl, by decide⟩⟩

theorem witness_BrambleAdmits :
    (∃ s : State, ∃ bs : List Byte, ∃ i : BrmIn, ∃ k : Nat, s.brmOn = true ∧ (brmJudge bs s.bctx).2 = some i ∧ leAt bs 0 1 = 0x02 ∧ s.siteKey = some k ∧ leAt i.body 11 1 = 1 ∧ ∃ n : Fin 64, brmAdmit (leAt i.body 0 6) (leAt i.body 6 1) s.bctx = 0 ∧ s.brm.admNo < 0xFFFF ∧ brmEntry (leAt i.body 0 6) s.bctx = some n.val) ∧
    (∃ s : State, ∃ bs : List Byte, ∃ i : BrmIn, ∃ k : Nat, s.brmOn = true ∧ (brmJudge bs s.bctx).2 = some i ∧ leAt bs 0 1 = 0x02 ∧ s.siteKey = some k ∧ leAt i.body 11 1 = 1 ∧ let r := s.brm.nbr[(64 : Fin 65)]
  brmAdmit (leAt i.body 0 6) (leAt i.body 6 1) s.bctx = 1 ∧ r.cur = none ∧ r.queue = [] ∧ r.pend = false) ∧
    (∃ s : State, ∃ bs : List Byte, s.fuses.variant.bramble = true ∧ bs.length = 44 ∧ leAt bs 0 1 = 0x03) ∧
    (∃ s : State, ∃ bs : List Byte, s.fuses.variant.bramble = true ∧ bs.length = 36 ∧ leAt bs 0 1 = 0x10) :=
  ⟨⟨(wSite wBrmKey), (wSigned 7 wJoin), ({ src := 0xFD, nbr := none, body := (wJoin.drop 16).take 12 }), 7, by decide, (wSigned_judge (k := 7) (by decide +kernel) (by decide +kernel)).trans (by decide +kernel), (by rw [wSigned, List.append_assoc, leAt_append_left _ (by decide +kernel)]; decide +kernel), rfl, by decide +kernel, 0, by decide +kernel⟩,
   ⟨wBrmKey, (wSigned 7 wJoin), ({ src := 0xFD, nbr := none, body := (wJoin.drop 16).take 12 }), 7, by decide, (wSigned_judge (k := 7) (by decide +kernel) (by decide +kernel)).trans (by decide +kernel), (by rw [wSigned, List.append_assoc, leAt_append_left _ (by decide +kernel)]; decide +kernel), rfl, by decide +kernel⟩,
   ⟨wUp, wJoinAck, by decide⟩,
   ⟨wUp, wSet, by decide⟩⟩

theorem witness_BrambleSends :
    (∃ s : State, s.brmOn = true ∧ ∃ n : Fin 65, ∃ f : BrmTx, ∃ ref : Nat, s.brm.nbr[n].cur = some f ∧ s.brm.nbr[n].queue = [] ∧ f.route = [] ∧ crc32c (f.sent.take (f.sent.length - 4)) % 256 = ref) ∧
    (∃ s : State, s.brmOn = true ∧ ∃ n : Fin 65, ∃ f : BrmTx, ∃ ref : Nat, s.brm.nbr[n].cur = some f ∧ s.brm.nbr[n].queue = [] ∧ f.route = [] ∧ crc32c (f.sent.take (f.sent.length - 4)) % 128 = ref % 128 ∧ bitOf 7 ref = true ∧ f.cls = .telemetry ∧ 2 ≤ f.tries) ∧
    (∃ s : State, s.brmOn = true ∧ ∃ n : Fin 65, ∃ f : BrmTx, ∃ ref : Nat, s.brm.nbr[n].cur = some f ∧ s.brm.nbr[n].queue = [] ∧ f.route = [] ∧ ∃ k : Nat, s.siteKey = some k ∧ crc32c (f.sent.take (f.sent.length - 4)) % 128 = ref % 128 ∧ f.tries < maxTries f.cls ∧ s.brm.nbr[n].pend = false) ∧
    (∃ s : State, s.brmOn = true ∧ ∃ n : Fin 65, ∃ f : BrmTx, s.brm.nbr[n].cur = some f ∧ s.brm.nbr[n].queue = [] ∧ f.route = [] ∧ f.sentAt + f.dur + 5760 ≤ s.mono ∧ f.cls = .control ∧ 5 ≤ f.tries ∧ s.brm.nbr[n].st = .admitted) ∧
    (∃ s : State, s.brmOn = true ∧ s.brm.zc.lock = false ∧ ∃ t0 : Nat, s.brm.zc.last = some t0 ∧ 500000 / (s.cfg.brmGlobal.getD {}).mainsF * 95 ≤ (s.mono - t0) * 100 ∧ (s.mono - t0) * 100 ≤ 500000 / (s.cfg.brmGlobal.getD {}).mainsF * 105) ∧
    (∃ s : State, s.brmOn = true ∧ s.brm.zc.lock = true ∧ ∃ t0 : Nat, s.brm.zc.last = some t0 ∧ t0 + s.brm.zc.half + 500 < s.mono ∧ s.mono < t0 + s.brm.zc.half + s.brm.zc.half / 2 ∧ s.brm.zc.ign < 9) ∧
    (∃ s : State, s.brmOn = true ∧ s.brm.zc.lock = true ∧ ∃ t0 : Nat, s.brm.zc.last = some t0 ∧ 500 < s.brm.zc.half / 2 ∧ t0 + s.brm.zc.half ≤ s.mono + 500 ∧ s.mono ≤ t0 + s.brm.zc.half + 500) ∧
    (∃ s : State, s.brmOn = true ∧ ∃ n : Fin 64, ∃ k : Nat, s.siteKey = some k ∧ s.brm.nbr[n].cur = none ∧ s.brm.nbr[n].queue = [] ∧ refreshDue n s.bctx = true) ∧
    (∃ s : State, s.brmOn = true ∧ ∃ n : Fin 64, s.brm.nbr[n].pend = true ∧ s.brm.nbr[n].pendAt + 400000 ≤ s.mono) ∧
    (∃ s : State, s.brmOn = true ∧ ∃ k : Nat, s.siteKey = some k) ∧
    (∃ s : State, s.brmOn = true ∧ ∃ n : Fin 64, ∃ t0 : Nat, s.brm.nbr[n].heardAt = some t0 ∧ t0 + (s.cfg.brmGlobal.getD {}).lostN * (s.cfg.brmGlobal.getD {}).bcnP * 1000000 ≤ s.mono ∧ s.brm.nbr[n].st = .admitted) ∧
    (∃ s : State, ∃ n : Fin 64, s.HostReady 0xA000 ∧ s.brm.nbrSel = n.val ∧ s.brmOn = true ∧ s.brm.nbr[n].st = .admitted ∧ s.brm.nbr[n].pend = false) ∧
    (∃ s : State, ∃ n : Fin 64, s.HostReady 0xA000 ∧ s.brm.nbrSel = n.val ∧ s.brm.nbr[n].st ≠ .admitted) :=
  ⟨⟨(wFlight wTx), by decide, 4, wTx, (crc32c (List.replicate 26 0) % 256), rfl, by decide +kernel⟩,
   ⟨(wFlight { wTx with tries := 2 }), by decide, 4, ({ wTx with tries := 2 }), (wRef + 128), rfl, by decide +kernel⟩,
   ⟨(wFlight wTx), by decide, 4, wTx, wRef, rfl, by decide, by decide, 7, rfl, by decide +kernel⟩,
   ⟨(wFlight { wTx with cls := .control, tries := 5 }), by decide, 4, ({ wTx with cls := .control, tries := 5 }), rfl, by decide⟩,
   ⟨wNoLock, by decide, by decide, 999999990000, rfl, by decide⟩,
   ⟨wLate, by decide, by decide, 999999986000, rfl, by decide⟩,
   ⟨wCrossing, by decide, by decide, 999999990300, rfl, by decide⟩,
   ⟨(wNbr { wNear with errs := 3 }), by decide, 4, 7, rfl, by decide⟩,
   ⟨(wNbr { wNear with pend := true, pendAt := 0 }), by decide, 4, by decide⟩,
   ⟨wBrmKey, by decide, 7, rfl⟩,
   ⟨(wNbr wNear), by decide, 4, 0, rfl, by decide⟩,
   ⟨(wNbr wNear), 4, ⟨by decide, by decide, by decide, by decide⟩, by decide⟩,
   ⟨(wNbr {}), 4, ⟨by decide, by decide, by decide, by decide⟩, by decide⟩⟩

theorem witness_BrambleFallback :
    (∃ s : State, s.brmOn = true ∧ (s.cfg.brmGlobal.getD {}).fbEn = true ∧ s.brm.zc.lock = true ∧ ∃ v : Vector Nat 3, ∃ ph : Fin 3, (∀ j : Fin 3, j ≠ ph → field 68 12 v[j] ≠ 0xE25) ∧ ∃ addr : Nat, ∃ kind : Nat, v[ph] = fbFrame 1 addr kind ∧ addr < 2 ^ 48 ∧ kind < 256 ∧ brmAdmit addr kind s.bctx = 0) ∧
    (∃ s : State, s.brmOn = true ∧ (s.cfg.brmGlobal.getD {}).fbEn = true ∧ s.brm.zc.lock = true ∧ ∃ v : Vector Nat 3, ∃ ph : Fin 3, (∀ j : Fin 3, j ≠ ph → field 68 12 v[j] ≠ 0xE25) ∧ field 68 12 v[ph] = 0xE25 ∧ field 0 8 v[ph] ≠ fbCrc (field 64 4 v[ph]) (field 16 48 v[ph]) (field 8 8 v[ph])) ∧
    (∃ s : State, s.brmOn = true ∧ (s.cfg.brmGlobal.getD {}).fbEn = true ∧ s.brm.zc.lock = true ∧ ∃ v : Vector Nat 3, ∃ ph : Fin 3, (∀ j : Fin 3, j ≠ ph → field 68 12 v[j] ≠ 0xE25) ∧ ∃ addr : Nat, v[ph] = fbFrame 2 addr 1 ∧ addr < 2 ^ 48 ∧ brmStation addr s.bctx = true ∧ s.gtr.st = .run ∧ s.gtr.latch = none ∧ s.gtr.pendSoft = []) ∧
    (∃ s : State, s.brmOn = true ∧ (s.cfg.brmGlobal.getD {}).fbEn = true ∧ s.brm.zc.lock = true) ∧
    (∃ s : State, s.brmOn = true ∧ ∃ k : Fin 64, ∃ r : BrmBind, ∃ t0 : Nat, s.cfg.brmBind.find? (fun r => r.bind == k.val && !r.cmd) = some r ∧ s.brm.bind[k].at_ = some t0 ∧ t0 + r.maxAge * 100000 < s.mono) :=
  ⟨⟨wFb, by decide, by decide, by decide, (#v[0, fbFrame 1 0xABC 2, 7]), 1, by decide +kernel, 0xABC, 2, by decide +kernel⟩,
   ⟨wFb, by decide, by decide, by decide, (#v[0xE25 * 2 ^ 68 + 1, 0, 0]), 0, by decide +kernel⟩,
   ⟨({ wFb with gtr := { st := .run } }), by decide, by decide, by decide, (#v[0, 5, fbFrame 2 0xABC 1]), 2, by decide +kernel, 0xABC, by decide +kernel⟩,
   ⟨wFb, by decide⟩,
   ⟨({ wBound with brm := { wBound.brm with bind := Vector.replicate 64 { at_ := some 0 } } }), by decide, 6, wBindRec, 0, rfl, rfl, by decide⟩⟩

end Sys2Proof.Tests.WitnessBramble
end

