-- ==== Sys2Proof/Tests/WitnessBus.lean ====
section
/-! SUPPORT. For each statement about the module buses, states and operands that meet its hypotheses. -/

namespace Sys2Proof.Tests.WitnessBus

set_option Elab.async false

open Sys2Proof Sys2Proof.Machine

/-- Bus 0 is on and holds `m`. -/
def wBus (m : MBus) : State := { wUp with mb := { epoch := 7, seq := 3, bus := (Vector.replicate 4 {}).set 0 { m with fcs := .active }.setFilters } }

/-- A status frame of module 5 with status counter 1. -/
def wStatusFrame : RxFrame := { id := 0x105, data := List.replicate 15 0 ++ [1] }

/-- An ANNOUNCE of module 5 with serial number 9. -/
def wAnnounceFrame : RxFrame := { id := 0x745, data := [5, 1, 0, 0, 9] ++ List.replicate 27 0 }

/-- Canopy runs, and bus 0 holds `m`. -/
def wCnpBus (m : MBus) : State := { wBus m with cnp := { started := true, mode := .run }, cfg := { cnpModule := [{ pm := 5, iRated := 0, pRated := 0, vMin := 1, vMax := 0, ramp := 0 }] } }

def wGroupTx : TxFrame := { id := 0x011, data := [1, 2], seq := 4 }

theorem witness_BusMovesFrames :
    (∃ s : State, ∃ b : Fin 4, ∃ f : CanFrame, s.busOn b = true ∧ f.resRecessive = false ∧ f.flaw = .none ∧ f.ext = false ∧ f.rtr = false ∧ (f.id &&& (s.busRec b).hpMask) = ((s.busRec b).hpId &&& (s.busRec b).hpMask) ∧ profileOk b f.id f.data = true) ∧
    (∃ s : State, ∃ b : Fin 4, ∃ f : CanFrame, s.busOn b = true ∧ f.resRecessive = false ∧ f.flaw = .none ∧ f.ext = false ∧ f.rtr = false ∧ (f.id &&& (s.busRec b).hpMask) ≠ ((s.busRec b).hpId &&& (s.busRec b).hpMask) ∧ (s.mb.bus[b]).accepts f.id = true ∧ (isAnnounce f.id = true → s.answersAnnounce = true) ∧ profileOk b f.id f.data = true ∧ s.mb.bus[b].rxq.length < 64) ∧
    (∃ s : State, ∃ b : Fin 4, ∃ f : CanFrame, s.busOn b = true ∧ f.resRecessive = false ∧ f.flaw = .none ∧ f.ext = false ∧ f.rtr = false ∧ (f.id &&& (s.busRec b).hpMask) ≠ ((s.busRec b).hpId &&& (s.busRec b).hpMask) ∧ (s.mb.bus[b]).accepts f.id = true ∧ (isAnnounce f.id = true → s.answersAnnounce = true) ∧ profileOk b f.id f.data = true ∧ 64 ≤ s.mb.bus[b].rxq.length) ∧
    (∃ s : State, ∃ b : Fin 4, ∃ f : CanFrame, s.busOn b = true ∧ f.resRecessive = false ∧ f.flaw = .none ∧ f.ext = false ∧ f.rtr = false ∧ (f.id &&& (s.busRec b).hpMask) ≠ ((s.busRec b).hpId &&& (s.busRec b).hpMask) ∧ (s.mb.bus[b]).accepts f.id = true ∧ (isAnnounce f.id = true → s.answersAnnounce = true) ∧ profileOk b f.id f.data = false) ∧
    (∃ s : State, ∃ b : Fin 4, s.busOn b = true ∧ s.listens b = false ∧ ∃ j : Fin 4, ∃ f : TxFrame, s.mb.bus[b].txGrp[j] = some f ∧ s.mb.bus[b].mayEnd j = true) ∧
    (∃ s : State, ∃ b : Fin 4, s.busOn b = true ∧ s.listens b = false ∧ ∃ j : Fin 4, ∃ f : TxFrame, s.mb.bus[b].txGrp[j] = some f ∧ s.mb.bus[b].mayEnd j = true ∧ s.standby = false) ∧
    (∃ s : State, ∃ b : Fin 4, s.busOn b = true ∧ s.listens b = false ∧ ∃ f : TxFrame, ∃ rest : List TxFrame, s.mb.bus[b].txHold = f :: rest ∧ s.mb.bus[b].mayEnd 4 = true) ∧
    (∃ s : State, ∃ b : Fin 4, s.busOn b = true ∧ s.listens b = false ∧ ∃ f : TxFrame, s.mb.bus[b].txLimit = some f ∧ s.mb.bus[b].mayEnd 5 = true) ∧
    (∃ s : State, ∃ b : Fin 4, s.busOn b = true ∧ s.listens b = false ∧ ∃ f : TxFrame, ∃ rest : List TxFrame, s.mb.bus[b].txMgmt = f :: rest ∧ s.mb.bus[b].mayEnd 6 = true) ∧
    (∃ s : State, ∃ b : Fin 4, s.busOn b = true) ∧
    (∃ s : State, ∃ b : Fin 4, s.up = true ∧ s.mb.bus[b].fcs = .busOff) ∧
    (∃ s : State, ∃ b : Fin 4, s.canopyOn = true ∧ s.busOn b = true ∧ (s.mb.bus[b].limitVals ≠ s.vlims ∨ ∀ t0, s.mb.bus[b].limitAt = some t0 → t0 + 10000 ≤ s.mono)) :=
  ⟨⟨(wBus {}), 0, ({ id := 0x018, data := [1] }), by decide⟩,
   ⟨(wBus {}), 0, ({ id := 0x105, data := List.replicate 16 0 }), by decide⟩,
   ⟨(wBus { rxq := List.replicate 64 {} }), 0, ({ id := 0x105, data := List.replicate 16 0 }), by decide⟩,
   ⟨(wBus {}), 0, ({ id := 0x13F, data := [] }), by decide⟩,
   ⟨(wBus { txGrp := (Vector.replicate 4 none).set 1 (some wGroupTx) }), 0, by decide, by decide, 1, wGroupTx, rfl, by decide⟩,
   ⟨(wBus { txGrp := (Vector.replicate 4 none).set 1 (some wGroupTx) }), 0, by decide, by decide, 1, wGroupTx, rfl, by decide⟩,
   ⟨(wBus { txHold := [wGroupTx] }), 0, by decide, by decide, wGroupTx, ([]), by decide⟩,
   ⟨(wBus { txLimit := some wGroupTx }), 0, by decide, by decide, wGroupTx, rfl, by decide⟩,
   ⟨(wBus { txMgmt := [wGroupTx] }), 0, by decide, by decide, wGroupTx, ([]), by decide⟩,
   ⟨(wBus {}), 0, by decide⟩,
   ⟨({ wUp with mb := { bus := Vector.replicate 4 { fcs := .busOff } } }), 3, by decide⟩,
   ⟨(wCnpBus {}), 0, by decide⟩⟩

theorem witness_BusJudgesModules :
    (∃ s : State, ∃ b : Fin 4, ∃ x : RxFrame, ∃ q : List RxFrame, q = s.mb.bus[b].rxq.filter (fun y => isStatus y.id || isAnnounce y.id) ∧ s.cores = true ∧ q.find? (fun y => isStatus y.id) = some x ∧ let l := atD s.mb.bus[b].link (x.id - 0x100) {}
  l.admitted = true ∧ (l.last.map (·.scnt)) ≠ some (statusOf x).scnt) ∧
    (∃ s : State, ∃ b : Fin 4, ∃ x : RxFrame, ∃ q : List RxFrame, q = s.mb.bus[b].rxq.filter (fun y => isStatus y.id || isAnnounce y.id) ∧ s.cores = true ∧ q.find? (fun y => isStatus y.id) = some x ∧ let l := atD s.mb.bus[b].link (x.id - 0x100) {}
  l.admitted = false) ∧
    (∃ s : State, ∃ b : Fin 4, ∃ q : List RxFrame, q = s.mb.bus[b].rxq.filter (fun y => isStatus y.id || isAnnounce y.id) ∧ ∃ a : Fin 64, ∃ m : ModStatus, s.cores = true ∧ s.mb.bus[b].link[a].admitted = true ∧ s.mb.bus[b].link[a].last = some m ∧ m.at_ + 35000 < s.mono) ∧
    (∃ s : State, ∃ b : Fin 4, ∃ x : RxFrame, ∃ q : List RxFrame, q = s.mb.bus[b].rxq.filter (fun y => isStatus y.id || isAnnounce y.id) ∧ q.find? (fun y => isAnnounce y.id) = some x ∧ s.answersAnnounce = true ∧ let pm := 64 * b.val + (x.id - 0x740)
  let rec_ := s.cfg.cnpModule.find? (fun r => r.pm == pm)
  let l := atD s.mb.bus[b].link (x.id - 0x740) {}
  let res := announceResult rec_ l s.mono (leAt x.data 4 8) x.data (s.modulesFull b (rec_.any (·.buf)))
  (s.cnp.mode = .run ∨ rec_.isSome = true)) :=
  ⟨⟨(wBus { rxq := [wStatusFrame], link := (Vector.replicate 64 {}).set 5 { admitted := true } }), 0, wStatusFrame, ([wStatusFrame]), by decide, by decide, rfl, by decide⟩,
   ⟨(wBus { rxq := [wStatusFrame] }), 0, wStatusFrame, ([wStatusFrame]), by decide, by decide, rfl, by decide⟩,
   ⟨(wBus { link := (Vector.replicate 64 {}).set 5 { admitted := true, last := some {} } }), 0, ([]), by decide, 5, ({}), by decide, by decide, rfl, by decide⟩,
   ⟨(wCnpBus { rxq := [wAnnounceFrame] }), 0, wAnnounceFrame, ([wAnnounceFrame]), by decide, rfl, by decide⟩⟩

end Sys2Proof.Tests.WitnessBus
end

