-- ==== Sys2Proof/Tests/WitnessCanopy.lean ====
section
/-! SUPPORT. For each statement about Canopy, states and operands that meet its hypotheses. -/

namespace Sys2Proof.Tests.WitnessCanopy

set_option Elab.async false

open Sys2Proof Sys2Proof.Machine

/-- Canopy runs. -/
def wCnp : State := { wUp with cnp := { started := true, mode := .run, ticks := 5, restIn := true }, gtr := { st := .run, trip := false } }

/-- A solve without modules and ports: the import follows the load. -/
def wWork (lx : Rat) : TickWork :=
  { tick := 5, mods := [], ports := [], groups := [], vB := 0, dLo := 0, dHi := 0, dRef := 0, lx := lx, gLo := 0, gHi := some 10, gCap := 10, wE := 1, wB := 1, tol := 1 / 2, bufReleased := false, overrun := false, released := false }

def wSolve (lx : Rat) : State := { wCnp with cnp := { wCnp.cnp with work := some (wWork lx), workAt := 1000 } }

/-- A result is ready for bus 0, where module 3 is admitted. -/
def wReady : State :=
  { wCnp with cnp := { wCnp.cnp with ready := some { tick := 5, entries := [{ pm := 3, sp := 100, sel := 0, adm := true }], alloc := [(0, 100)], told := [] } }, cfg := { cnpModule := [{ pm := 3 }] }, mb := { epoch := 7, bus := (Vector.replicate 4 {}).set 0 { fcs := .active, link := (Vector.replicate 64 {}).set 3 { admitted := true } } } }

def wMod (m : CnpModSt) : State := { wCnp with cnp := { wCnp.cnp with mods := (Vector.replicate 256 {}).set 3 m } }

/-- Port 0 has held more modules than it needs for long enough. -/
def wRelease : State :=
  { wCnp with cnp := { wCnp.cnp with mods := (Vector.replicate 256 {}).set 3 { st := .engaged, sel := 0, admitted := true }, ports := (Vector.replicate 12 {}).set 0 { relTicks := 2500 } }, cfg := { cnpModule := [{ pm := 3, mask := 0xFFF }], cnpPort := [{ port := 0 }], vpPort := [{ port := 0 }] } }

def wCeil : State := { wCnp with cnp := { wCnp.cnp with ports := (Vector.replicate 12 {}).set 0 { ceilRef := some 5, ceilTicks := 250 } } }

/-- A site with a buffer. -/
def wBuf : State := { wCnp with cfg := { cnpModule := [{ pm := 3, buf := true }] } }

def wHost : State := { wCnp with cfg := { cnpIntake := some { srcHost := true } } }

/-- The strap chose a diagnostic boot. -/
def wDiag : State := { wCnp with img := { strap := 8 } }

theorem witness_CanopyTicksAndSolves :
    (∃ s : State, s.canopyOn = true) ∧
    (∃ s : State, s.canopyOn = true ∧ ∃ w, ∃ us, ∃ x, s.cnp.work = some w ∧ us ≤ 600 ∧ optimumOk w x = true) ∧
    (∃ s : State, s.canopyOn = true ∧ ∃ w, ∃ us, ∃ x, s.cnp.work = some w ∧ us ≤ 600 ∧ certificateOk w x = true) ∧
    (∃ s : State, s.canopyOn = true ∧ ∃ w, s.cnp.work = some w ∧ s.cnp.workAt + 720 ≤ s.mono) ∧
    (∃ s : State, s.canopyOn = true ∧ ∃ r, s.cnp.ready = some r ∧ s.seam.role ≠ .taking ∧ 0 < s.cnp.ticks) :=
  ⟨⟨wCnp, by decide⟩,
   ⟨(wSolve 2), by decide, (wWork 2), 600, ({ g := 2 }), rfl, by decide +kernel⟩,
   ⟨(wSolve 20), by decide, (wWork 20), 1, ({ boxG := 1, balG := -1 }), rfl, by decide +kernel⟩,
   ⟨(wSolve 2), by decide, (wWork 2), rfl, by decide⟩,
   ⟨wReady, by decide, ({ tick := 5, entries := [{ pm := 3, sp := 100, sel := 0, adm := true }], alloc := [(0, 100)], told := [] }), rfl, by decide⟩⟩

theorem witness_CanopyTimersAct :
    (∃ s : State, s.canopyOn = true ∧ ∃ pm : Fin 256, s.cnp.mods[pm].st = .engaging ∧ s.cnp.mods[pm].engagedAt + (s.cfg.cnpGlobal.getD {}).tSel * 1000 ≤ s.mono) ∧
    (∃ s : State, s.canopyOn = true ∧ ∃ p : Fin 12, ∃ n : Nat, s.releaseDue p = true ∧ releaseChoice s.cnpIn s.cnp p (fun _ => true) = some n) ∧
    (∃ s : State, s.canopyOn = true ∧ ∃ pm : Fin 256, ∃ t0 : Nat, s.cnp.mods[pm].st = .blocked ∧ s.cnp.mods[pm].lost = false ∧ s.cnp.mods[pm].holdUntil ≤ s.mono ∧ s.cnp.mods[pm].okSince = some t0 ∧ t0 + 10000000 ≤ s.mono) ∧
    (∃ s : State, s.canopyOn = true ∧ ∃ p : Fin 12, ∃ i : Int, s.cnp.ports[p].ceilRef = some i ∧ 250 ≤ s.cnp.ports[p].ceilTicks) ∧
    (∃ s : State, s.canopyOn = true ∧ (s.cfg.cnpIntake.getD {}).srcHost = false) ∧
    (∃ s : State, s.canopyOn = true ∧ s.cnp.measStale = false ∧ s.cnp.measAt + (s.cfg.cnpIntake.getD {}).measTmo * 1000 ≤ s.mono) ∧
    (∃ s : State, s.canopyOn = true ∧ s.hasBuffer = true ∧ s.cnp.socStale = false ∧ s.cnp.socAt + (s.cfg.cnpBuffer.getD {}).socTmo * 100000 ≤ s.mono) :=
  ⟨⟨(wMod { st := .engaging }), by decide, 3, by decide +kernel⟩,
   ⟨wRelease, by decide, 0, 3, by decide +kernel⟩,
   ⟨(wMod { st := .blocked, okSince := some 0 }), by decide, 3, 0, by decide +kernel⟩,
   ⟨wCeil, by decide, 0, 5, rfl, by decide⟩,
   ⟨wCnp, by decide⟩,
   ⟨wCnp, by decide⟩,
   ⟨wBuf, by decide⟩⟩

theorem witness_CanopyHostWrites :
    (∃ s : State, s.HostReady 0x8000 ∧ ∃ on : Bool, (on = s.cnp.freeze ∨ bitOf 3 s.img.strap = true)) ∧
    (∃ s : State, s.HostReady 0x8000 ∧ ∃ on : Bool, on ≠ s.cnp.freeze ∧ bitOf 3 s.img.strap = false) ∧
    (∃ s : State, s.HostReady 0x8000) ∧
    (∃ s : State, s.HostReady 0x802C ∧ (s.cfg.cnpIntake.getD {}).srcHost = true) ∧
    (∃ s : State, s.HostReady 0x802C ∧ (s.cfg.cnpIntake.getD {}).srcHost = false) ∧
    (∃ s : State, s.HostReady 0x8030 ∧ s.hasBuffer = true) ∧
    (∃ s : State, s.HostReady 0x8030 ∧ s.hasBuffer = false) ∧
    (∃ s : State, s.HostReady 0x8034 ∧ s.hasBuffer = true) ∧
    (∃ s : State, s.HostReady 0x8034 ∧ s.hasBuffer = false) :=
  ⟨⟨wDiag, ⟨by decide, by decide, by decide, by decide⟩, true, by decide⟩,
   ⟨wCnp, ⟨by decide, by decide, by decide, by decide⟩, true, by decide⟩,
   ⟨wCnp, ⟨by decide, by decide, by decide, by decide⟩⟩,
   ⟨wHost, ⟨by decide, by decide, by decide, by decide⟩, by decide⟩,
   ⟨wCnp, ⟨by decide, by decide, by decide, by decide⟩, by decide⟩,
   ⟨wBuf, ⟨by decide, by decide, by decide, by decide⟩, by decide⟩,
   ⟨wCnp, ⟨by decide, by decide, by decide, by decide⟩, by decide⟩,
   ⟨wBuf, ⟨by decide, by decide, by decide, by decide⟩, by decide⟩,
   ⟨wCnp, ⟨by decide, by decide, by decide, by decide⟩, by decide⟩⟩

end Sys2Proof.Tests.WitnessCanopy
end

