-- ==== Sys2Proof/Tests/WitnessCloak.lean ====
section
/-! SUPPORT. For each statement about the Cloak, states and operands that meet its hypotheses. -/

namespace Sys2Proof.Tests.WitnessCloak

set_option Elab.async false

open Sys2Proof Sys2Proof.Machine

/-- The root secret is held: slots 0 and 16 hold keys. -/
def wCloak : Cloak :=
  { ready := true, slots := ((Vector.replicate 64 {}).set 0 { typ := .hss, usage := 1, key := 3 }).set 16 { typ := .hmac, usage := 2, key := 4 } }

/-- A unit that knows itself by the identity hash 0. -/
def wFuses : Fuses := { wUp.fuses with idHash := 0 }

def wClk (c : Cloak) : State := { wUp with clk := c, fuses := wFuses }

/-- The 240 bytes of a message before its signature: operation, slot, key type, usage, length, wrapped key with its tag and padding. -/
def wKuBody (op slot ktype usage klen : Nat) (tail : List Byte) : List Byte :=
  leBytes 2 1 ++ leBytes 1 op ++ leBytes 1 slot ++ leBytes 16 0 ++ leBytes 32 0 ++ leBytes 8 1 ++ leBytes 1 ktype ++ leBytes 1 usage ++
    leBytes 2 klen ++ List.replicate 157 0 ++ tail

/-- A message with a signature that verifies. -/
def wKuSigned (body : List Byte) : List Byte := body ++ (List.range 2964).map (Config.sigOne 2 (leBytes 32 0) body)

theorem wKuSigned_parse {body : List Byte} (h : body.length = 240) :
    kuParse (wKuSigned body) = { kuParse body with sig := (List.range 2964).map (Config.sigOne 2 (leBytes 32 0) body) } := by
  have t1 : body.take 240 = body := List.take_of_length_le (by omega)
  have t2 : (wKuSigned body).take 240 = body := by rw [wKuSigned, List.take_append_of_le_length (by omega), t1]
  have t3 : ((wKuSigned body).drop 240).take 2964 = (List.range 2964).map (Config.sigOne 2 (leBytes 32 0) body) := by
    rw [wKuSigned, List.drop_append, List.drop_eq_nil_of_le (by omega), List.nil_append, h, Nat.sub_self, List.drop_zero,
      List.take_of_length_le (by simp)]
  have t4 : ((wKuSigned body).drop 173).take 48 = (body.drop 173).take 48 := by
    rw [wKuSigned, List.drop_append_of_le_length (by omega), List.take_append_of_le_length (by simp; omega)]
  have e (o k : Nat) (q : o + k ≤ 240) : leAt (wKuSigned body) o k = leAt body o k := leAt_append_left _ (by omega)
  simp only [kuParse, t1, t2, t3, t4, e _ _ (show 0 + 2 ≤ 240 by omega), e _ _ (show 2 + 1 ≤ 240 by omega), e _ _ (show 3 + 1 ≤ 240 by omega),
    e _ _ (show 4 + 16 ≤ 240 by omega), e _ _ (show 20 + 32 ≤ 240 by omega), e _ _ (show 52 + 8 ≤ 240 by omega),
    e _ _ (show 60 + 1 ≤ 240 by omega), e _ _ (show 61 + 1 ≤ 240 by omega), e _ _ (show 62 + 2 ≤ 240 by omega),
    e _ _ (show 237 + 3 ≤ 240 by omega)]

/-- Unwrapping reads the first 221 bytes of a message. -/
theorem kuTag_take (c : Cloak) (m : List Byte) : kuTag c (m.take 221) = kuTag c m := by
  simp [kuTag, kuWrapKey, kuNonce, kuWrapped, leAt, List.drop_take, List.take_take]

/-- The checks of a message but for its signature and its wrapped key. -/
def wKuChecks (c : Cloak) (k : KuMsg) : Bool :=
  !decide (k.klen ≠ kuLen k.op k.ktype ∨ leNat (k.wkey.drop k.klen) ≠ 0 ∨ k.tail ≠ 0) && kuFormatOk k &&
    !decide (k.devId ≠ 0 ∨ k.idHash ≠ 0) && !decide (k.counter ≤ c.kuCtr) && kuSlotOk k && kuUsageOk k

theorem kuJudge_ok {c : Cloak} {f : Fuses} {m : List Byte} {k : KuMsg} (hf : f.devId = 0 ∧ f.idHash = 0) (hk : kuParse m = k)
    (hs : Config.sigVerify 2 2964 (leBytes 32 0) k.body k.sig = true) (hc : wKuChecks c k = true)
    (ho : k.op = 1 → kuTag c m % 2 ^ 128 = leAt m 221 16 ∧ k.ktype = 1) :
    kuJudge f 0 c m = (0, if k.op = 1 then kuValue c m else 0) := by
  subst hk
  simp only [wKuChecks, Bool.and_eq_true, Bool.not_eq_true', decide_eq_false_iff_not] at hc
  obtain ⟨⟨⟨⟨⟨h1, h2⟩, h3⟩, h4⟩, h5⟩, h6⟩ := hc
  simp only [kuJudge, hf, hs, h2, h5, h6, if_neg h1, if_neg h3, if_neg h4, Bool.not_true, Bool.false_eq_true, if_false]
  by_cases o : (kuParse m).op = 1
  · simp [o, (ho o).2, keyInGroup]
    simpa using (ho o).1
  · simp [o]

theorem wKuSigned_ok {body : List Byte} (h : body.length = 240) :
    Config.sigVerify 2 2964 (leBytes 32 0) (kuParse (wKuSigned body)).body (kuParse (wKuSigned body)).sig = true := by
  have b : (kuParse body).body = body := List.take_of_length_le (by omega)
  rw [wKuSigned_parse h]
  simp [b, Config.sigVerify]

theorem wKuChecks_signed {c : Cloak} {body : List Byte} (h : body.length = 240) (hc : wKuChecks c (kuParse body) = true) :
    wKuChecks c (kuParse (wKuSigned body)) = true := by
  rw [wKuSigned_parse h]
  simpa only [wKuChecks, kuFormatOk, kuSlotOk, kuUsageOk] using hc

theorem wKuSigned_judge {c : Cloak} {f : Fuses} {body : List Byte} (hf : f.devId = 0 ∧ f.idHash = 0) (h : body.length = 240)
    (hc : wKuChecks c (kuParse body) = true) (ho : (kuParse body).op ≠ 1) : kuJudge f 0 c (wKuSigned body) = (0, 0) := by
  have o : (kuParse (wKuSigned body)).op ≠ 1 := by rw [wKuSigned_parse h]; exact ho
  rw [kuJudge_ok hf rfl (wKuSigned_ok h) (wKuChecks_signed h hc) (fun q => absurd q o), if_neg o]

/-- The message that imports an HMAC key into slot 16: its tag is the one that slot 1's key gives the 221 bytes before it. -/
def wImportHead : List Byte := (wKuBody 1 16 1 2 32 []).take 221
def wImport : List Byte := wImportHead ++ leBytes 16 (kuTag wCloak wImportHead) ++ [0, 0, 0]

/-- The message that generates an HMAC key in slot 16. -/
def wGenerate : List Byte := wKuBody 2 16 1 2 0 (List.replicate 19 0)

/-- The message that deletes slot 16, and the one that replaces the anchor. -/
def wDelete : List Byte := wKuBody 3 16 0 0 0 (List.replicate 19 0)
def wAnchor : List Byte := wKuBody 4 0 0 0 32 (List.replicate 19 0)

theorem wImportHead_length : wImportHead.length = 221 := by decide +kernel

theorem wImport_length : wImport.length = 240 := by simp [wImport, wImportHead_length]

/-- What the message says beside its tag. -/
theorem wImport_parse : kuParse wImport = { kuParse (wImportHead ++ List.replicate 19 0) with body := wImport } := by
  have e (o k : Nat) (q : o + k ≤ 221) : leAt wImport o k = leAt (wImportHead ++ List.replicate 19 0) o k := by
    rw [leAt_append_left _ (by rw [wImportHead_length]; exact q), wImport, List.append_assoc,
      leAt_append_left _ (by rw [wImportHead_length]; exact q)]
  have t1 : wImport.take 240 = wImport := List.take_of_length_le (by rw [wImport_length])
  have t2 : leAt wImport 237 3 = leAt (wImportHead ++ List.replicate 19 0) 237 3 := by
    rw [wImport, leAt_append_right _ _ (by simp [wImportHead_length])]
    simp only [List.length_append, wImportHead_length, leBytes_length]
    decide +kernel
  have t3 : (wImport.drop 173).take 48 = ((wImportHead ++ List.replicate 19 0).drop 173).take 48 := by
    rw [wImport, List.append_assoc, List.drop_append_of_le_length (by rw [wImportHead_length]; omega),
      List.drop_append_of_le_length (by rw [wImportHead_length]; omega),
      List.take_append_of_le_length (by simp [wImportHead_length]), List.take_append_of_le_length (by simp [wImportHead_length])]
  have t4 : (wImport.drop 240).take 2964 = ((wImportHead ++ List.replicate 19 0).drop 240).take 2964 := by
    rw [List.drop_eq_nil_of_le (by rw [wImport_length]), List.drop_eq_nil_of_le (by simp [wImportHead_length])]
  simp only [kuParse, t1, t2, t3, t4, e _ _ (show 0 + 2 ≤ 221 by omega), e _ _ (show 2 + 1 ≤ 221 by omega), e _ _ (show 3 + 1 ≤ 221 by omega),
    e _ _ (show 4 + 16 ≤ 221 by omega), e _ _ (show 20 + 32 ≤ 221 by omega), e _ _ (show 52 + 8 ≤ 221 by omega),
    e _ _ (show 60 + 1 ≤ 221 by omega), e _ _ (show 61 + 1 ≤ 221 by omega), e _ _ (show 62 + 2 ≤ 221 by omega)]

theorem wImport_op : (kuParse (wKuSigned wImport)).op = 1 := by
  rw [wKuSigned_parse wImport_length, wImport_parse]
  decide +kernel

theorem wImport_checks : wKuChecks wCloak (kuParse wImport) = true := by
  rw [wImport_parse]
  decide +kernel

theorem wImport_judge : kuJudge wFuses 0 wCloak (wKuSigned wImport) = (0, kuValue wCloak (wKuSigned wImport)) := by
  have t : (wKuSigned wImport).take 221 = wImportHead := by
    rw [wKuSigned, wImport, List.append_assoc, List.append_assoc, List.take_append_of_le_length (by rw [wImportHead_length]),
      List.take_of_length_le (by rw [wImportHead_length])]
  have g : leAt (wKuSigned wImport) 221 16 = kuTag wCloak wImportHead % 2 ^ 128 := by
    rw [wKuSigned, leAt_append_left _ (by rw [wImport_length]; omega), wImport, leAt_append_left _ (by simp [wImportHead_length]),
      leAt_append_leBytes _ _ wImportHead_length, show (256 : Nat) ^ 16 = 2 ^ 128 by norm_num]
  have k2 : (kuParse (wKuSigned wImport)).ktype = 1 := by rw [wKuSigned_parse wImport_length, wImport_parse]; decide +kernel
  rw [kuJudge_ok ⟨rfl, rfl⟩ rfl (wKuSigned_ok wImport_length) (wKuChecks_signed wImport_length wImport_checks)
    (fun _ => ⟨by rw [g, ← t, kuTag_take], k2⟩), if_pos wImport_op]

def wPair : State := { wStandby with clk := wCloak, fuses := wFuses }

theorem witness_CloakTakesKeys :
    (∃ s : State, s.HostReady 0x20048 ∧ s.clk.job = none ∧ s.clk.noKeys = false) ∧
    (∃ s : State, s.HostReady 0x20048 ∧ (s.clk.job.isSome = true ∨ s.clk.noKeys = true)) ∧
    (∃ s : State, ∃ m : List Byte, ∃ r : Nat, ∃ key : Nat, s.up = true ∧ s.clk.job = some m ∧ kuJudge s.fuses s.fuses.kaHash s.clk m = (r, key) ∧ r ≠ 0) ∧
    (∃ s : State, ∃ m : List Byte, ∃ r : Nat, ∃ key : Nat, s.up = true ∧ s.clk.job = some m ∧ kuJudge s.fuses s.fuses.kaHash s.clk m = (r, key) ∧ r = 0 ∧ (kuParse m).op = 1) ∧
    (∃ s : State, ∃ m : List Byte, ∃ r : Nat, ∃ key : Nat, s.up = true ∧ s.clk.job = some m ∧ kuJudge s.fuses s.fuses.kaHash s.clk m = (r, key) ∧ r = 0 ∧ (kuParse m).op = 2 ∧ s.clk.rngFail = false) ∧
    (∃ s : State, ∃ m : List Byte, ∃ r : Nat, ∃ key : Nat, s.up = true ∧ s.clk.job = some m ∧ kuJudge s.fuses s.fuses.kaHash s.clk m = (r, key) ∧ r = 0 ∧ (kuParse m).op = 3) ∧
    (∃ s : State, ∃ m : List Byte, ∃ r : Nat, ∃ key : Nat, s.up = true ∧ s.clk.job = some m ∧ kuJudge s.fuses s.fuses.kaHash s.clk m = (r, key) ∧ r = 0 ∧ (kuParse m).op = 4) ∧
    (∃ s : State, ∃ r : SeamPair, s.up = true ∧ s.seam.pair = some r ∧ s.clk.bound ≠ some r.peerId ∧ s.clk.noKeys = true) ∧
    (∃ s : State, ∃ r : SeamPair, s.up = true ∧ s.seam.pair = some r ∧ s.clk.bound ≠ some r.peerId ∧ s.clk.noKeys = false ∧ (s.clk.rngFail = true ∨ 1048576 ≤ s.clk.leaf)) ∧
    (∃ s : State, ∃ r : SeamPair, ∃ cert : IdCert, ∃ epk : List Byte, ∃ sig : List Byte, s.up = true ∧ s.seam.pair = some r ∧ s.clk.bound ≠ some r.peerId ∧ s.clk.noKeys = false ∧ s.clk.rngFail = false ∧ s.clk.leaf < 1048576 ∧ cert.ok = true ∧ cert.devId = r.peerId ∧ Config.hssVerify cert.idPk epk sig = true) ∧
    (∃ s : State, ∃ r : SeamPair, ∃ cert : IdCert, ∃ epk : List Byte, ∃ sig : List Byte, s.up = true ∧ s.seam.pair = some r ∧ s.clk.bound ≠ some r.peerId ∧ s.clk.noKeys = false ∧ s.clk.rngFail = false ∧ s.clk.leaf < 1048576 ∧ (cert.ok = false ∨ cert.devId ≠ r.peerId ∨ Config.hssVerify cert.idPk epk sig = false)) :=
  ⟨⟨(wClk wCloak), ⟨by decide, by decide, by decide, by decide⟩, by decide⟩,
   ⟨(wClk {}), ⟨by decide, by decide, by decide, by decide⟩, by decide⟩,
   ⟨(wClk { wCloak with job := some ([]) }), ([]), 2, 0, by decide, rfl, by decide⟩,
   ⟨(wClk { wCloak with job := some (wKuSigned wImport) }), (wKuSigned wImport), 0, (kuValue wCloak (wKuSigned wImport)), by decide, rfl, wImport_judge, by decide, wImport_op⟩,
   ⟨(wClk { wCloak with job := some (wKuSigned wGenerate) }), (wKuSigned wGenerate), 0, 0, by decide, rfl, wKuSigned_judge ⟨rfl, rfl⟩ (by decide +kernel) (by decide +kernel) (by decide +kernel), by decide, (congrArg KuMsg.op (wKuSigned_parse (by decide +kernel))).trans (by decide +kernel), by decide⟩,
   ⟨(wClk { wCloak with job := some (wKuSigned wDelete) }), (wKuSigned wDelete), 0, 0, by decide, rfl, wKuSigned_judge ⟨rfl, rfl⟩ (by decide +kernel) (by decide +kernel) (by decide +kernel), by decide, (congrArg KuMsg.op (wKuSigned_parse (by decide +kernel))).trans (by decide +kernel)⟩,
   ⟨(wClk { wCloak with job := some (wKuSigned wAnchor) }), (wKuSigned wAnchor), 0, 0, by decide, rfl, wKuSigned_judge ⟨rfl, rfl⟩ (by decide +kernel) (by decide +kernel) (by decide +kernel), by decide, (congrArg KuMsg.op (wKuSigned_parse (by decide +kernel))).trans (by decide +kernel)⟩,
   ⟨({ wStandby with clk := {} }), ({ peerId := 5 }), by decide, rfl, by decide⟩,
   ⟨({ wPair with clk := { wCloak with leaf := 1048576 } }), ({ peerId := 5 }), by decide, rfl, by decide⟩,
   ⟨wPair, ({ peerId := 5 }), ({ devId := 5 }), ([]), ((List.range 2964).map (Config.sigOne 0 [] [])), by decide, rfl, by decide, by decide, by decide, by decide, by simp [IdCert.ok, Config.sigVerify], by decide, by simp [Config.hssVerify, Config.sigVerify]⟩,
   ⟨wPair, ({ peerId := 5 }), ({}), ([]), ([]), by decide, rfl, by decide⟩⟩

theorem witness_CloakAttests :
    (∃ s : State, ∃ slot : Fin 64, s.HostReady 0x20054 ∧ s.clk.attJob = none ∧ (s.clk.slot slot).typ ≠ .empty ∧ (slot.val < 5 ∨ 15 < slot.val) ∧ s.clk.noKeys = false ∧ s.clk.leaf < 1048576) ∧
    (∃ s : State, ∃ slot : Fin 64, s.HostReady 0x20054 ∧ (s.clk.attJob.isSome = true ∨ s.clk.noAttest slot = false ∧ 1048576 ≤ s.clk.leaf)) ∧
    (∃ s : State, ∃ slot : Fin 64, s.HostReady 0x20054 ∧ s.clk.attJob = none ∧ ((s.clk.slot slot).typ = .empty ∨ (5 ≤ slot.val ∧ slot.val ≤ 15) ∨ s.clk.noKeys = true)) ∧
    (∃ s : State, s.up = true ∧ ∃ j : AttJob, s.clk.attJob = some j) ∧
    (∃ s : State, s.up = true) ∧
    (∃ s : State, s.up = true ∧ ∃ n : Nat, s.clk.rngFail = true ∧ 1024 ≤ s.clk.healthy + n) ∧
    (∃ s : State, s.up = true ∧ ∃ n : Nat, s.clk.rngFail = true ∧ s.clk.healthy + n < 1024) ∧
    (∃ s : State, s.up = true ∧ s.clk.rngFail = false ∧ (s.clk.seededAt + 1000000 ≤ s.mono ∨ 65536 ≤ s.clk.requests)) :=
  ⟨⟨(wClk wCloak), 16, ⟨by decide, by decide, by decide, by decide⟩, by decide⟩,
   ⟨(wClk { wCloak with leaf := 1048576 }), 16, ⟨by decide, by decide, by decide, by decide⟩, by decide⟩,
   ⟨(wClk wCloak), 5, ⟨by decide, by decide, by decide, by decide⟩, by decide⟩,
   ⟨(wClk { wCloak with attJob := some { num := 1, slot := {}, kuCtr := 6, leaf := 2, challenge := [] } }), by decide, ({ num := 1, slot := {}, kuCtr := 6, leaf := 2, challenge := [] }), rfl⟩,
   ⟨(wClk wCloak), by decide⟩,
   ⟨(wClk { wCloak with rngFail := true }), by decide, 1024, by decide⟩,
   ⟨(wClk { wCloak with rngFail := true }), by decide, 1023, by decide⟩,
   ⟨(wClk wCloak), by decide⟩⟩

end Sys2Proof.Tests.WitnessCloak
end

