-- ==== Sys2Proof/Tests/WitnessCooling.lean ====
section
/-! SUPPORT. For each statement about cable cooling and loops, states and operands that meet its hypotheses. -/

namespace Sys2Proof.Tests.WitnessCooling

set_option Elab.async false

open Sys2Proof Sys2Proof.Machine

def wCable : TwCable := { port := 0, kFlow := 100, fastBand := 10, tHsLim := 900, tPinLim := 900 }

/-- Port 0 with a cable record and the twin `w`. -/
def wTwin (w : Twin) : State :=
  { wPort {} with cfg := { vpPort := [{ port := 0, iRated := 2000, vRated := 1000 }], twCable := [wCable] }, twins := (Vector.replicate 12 {}).set 0 w }

/-- A loop that follows a value which the host writes. -/
def wLoopRec : CpcLoop := { pvSrc := 0x3F, outMax := 0x42C80000, test := true }

/-- Loop 3 holds `l`. -/
def wLoop (l : Loop) : State := { wUp with cpc := { loops := (Vector.replicate 64 {}).set 3 l }, gtr := { st := .run } }

/-- A loop whose sensor fails. -/
def wBadRec : CpcLoop := { pvSrc := 0x01, outSafe := 0x3F800000 }

def wBadLoop (l : Loop) : State := { wLoop l with twins := Vector.replicate 12 { ta := { fault := true } } }

/-- An injection into loop 3 is set up. -/
def wInj : State :=
  { wUp with cpc := { loops := (Vector.replicate 64 {}).set 3 { recd := some wLoopRec, st := .auto }, injLoop := 3, injLen := 10 }, gtr := { st := .run } }

def wInjOn (k : Nat) : State := { wInj with cpc := { wInj.cpc with inj := some { loop := 3, len := 10, k := k } } }

theorem witness_TwinActs :
    (∃ s : State, ∃ p : Fin 12, s.inputsUp p = true ∧ ∃ k : Fin 3, ∃ ohm : Nat, 800 ≤ ohm ∧ ohm ≤ 1900 ∧ (s.twins[p].input k).fault = false) ∧
    (∃ s : State, ∃ p : Fin 12, s.inputsUp p = true ∧ ∃ k : Fin 2, ∃ ohm : Nat, ∃ c : TwCable, (ohm < 800 ∨ 1900 < ohm) ∧ (s.twins[p].input k).fault = false ∧ 2 ≤ (s.twins[p].input k).run ∧ s.cable p = some c) ∧
    (∃ s : State, ∃ p : Fin 12, s.inputsUp p = true ∧ ∃ t0 : Nat, ∃ c : TwCable, s.twins[p].lastEdge = some t0 ∧ t0 < s.mono ∧ s.cable p = some c) ∧
    (∃ s : State, ∃ p : Fin 12, s.inputsUp p = true ∧ (∀ t0, s.twins[p].lastEdge = some t0 → t0 + 2000000 ≤ s.mono)) ∧
    (∃ s : State, ∃ p : Fin 12, s.inputsUp p = true ∧ s.twins[p].flFault = true ∧ s.twins[p].flHighAt + 1000000 ≤ s.mono) ∧
    (∃ s : State, ∃ p : Fin 12, s.stackUp p = true ∧ ∃ c : TwCable, s.cable p = some c ∧ s.twins[p].started = false ∧ s.twins[p].ta.valid = false ∧ s.twins[p].tb.valid = false) ∧
    (∃ s : State, ∃ p : Fin 12, s.stackUp p = true ∧ ∃ c : TwCable, s.cable p = some c ∧ s.twins[p].started = true ∧ s.twins[p].seeded = true ∧ s.twins[p].seedAt ≠ some s.mono) ∧
    (∃ s : State, ∃ p : Fin 12, s.stackUp p = true ∧ ∃ c : TwCable, ∃ t0 : Nat, s.cable p = some c ∧ s.twins[p].quietSince = some t0 ∧ t0 + 10000000 ≤ s.mono ∧ s.twins[p].fast = true ∧ fastCond c s.mono s.twins[p] = false) :=
  ⟨⟨(wTwin {}), 0, by decide, 0, 800, by decide⟩,
   ⟨(wTwin { ta := { run := 2 } }), 0, by decide, 0, 1901, wCable, by decide, by decide, by decide, rfl⟩,
   ⟨(wTwin { lastEdge := some 5 }), 0, by decide, 5, wCable, rfl, by decide, rfl⟩,
   ⟨(wTwin {}), 0, by decide, ofAll (by decide)⟩,
   ⟨(wTwin { flFault := true }), 0, by decide⟩,
   ⟨(wTwin {}), 0, by decide, wCable, rfl, by decide⟩,
   ⟨(wTwin { started := true, seeded := true, nTicks := 125 }), 0, by decide, wCable, rfl, by decide⟩,
   ⟨(wTwin { quietSince := some 0, fast := true, seeded := true, started := true, peak := 0, ta := { t := 250, seen := true }, tb := { t := 250, seen := true } }), 0, by decide, wCable, 0, rfl, rfl, by decide +kernel⟩⟩

theorem witness_LoopsSample :
    (∃ s : State, ∃ n : Fin 64, ∃ r : CpcLoop, s.side = true ∧ s.cpc.loops[n].recd = some r ∧ s.cpc.loops[n].lastAt ≠ some s.mono ∧ s.cpc.parent n = none ∧ ∃ pv : Nat, s.cpc.loops[n].st = .auto ∧ s.cpc.loops[n].preset = false ∧ s.cpc.inj = none ∧ s.loopPv n r = some pv ∧ s.sinkBad r = false ∧ s.cpc.loops[n].sinkf = false ∧ r.outSnk = 0 ∧ n.val < 62) ∧
    (∃ s : State, ∃ n : Fin 64, ∃ r : CpcLoop, s.side = true ∧ s.cpc.loops[n].recd = some r ∧ s.cpc.loops[n].lastAt ≠ some s.mono ∧ s.cpc.parent n = none ∧ s.cpc.loops[n].st = .manual ∧ s.loopPv n r = none ∧ r.safeHold = false ∧ n.val < 62) ∧
    (∃ s : State, ∃ n : Fin 64, ∃ r : CpcLoop, s.side = true ∧ s.cpc.loops[n].recd = some r ∧ s.cpc.loops[n].lastAt ≠ some s.mono ∧ s.cpc.parent n = none ∧ ∃ t0, s.cpc.loops[n].st = .fault ∧ s.cpc.loops[n].validSince = some t0 ∧ t0 + 1000000 ≤ s.mono ∧ s.cpc.loops[n].mode = 0) ∧
    (∃ s : State, ∃ n : Fin 64, ∃ r : CpcLoop, s.side = true ∧ s.cpc.loops[n].recd = some r ∧ s.cpc.loops[n].lastAt ≠ some s.mono ∧ s.cpc.parent n = none ∧ ∃ t0, s.cpc.loops[n].st = .fault ∧ s.cpc.loops[n].validSince = some t0 ∧ t0 + 1000000 ≤ s.mono ∧ s.cpc.loops[n].mode = 1) ∧
    (∃ s : State, ∃ n : Fin 64, ∃ r : CpcLoop, s.side = true ∧ s.cpc.loops[n].recd = some r ∧ s.cpc.loops[n].lastAt ≠ some s.mono ∧ s.cpc.parent n = none ∧ ∃ t0, s.cpc.loops[n].st = .fault ∧ s.cpc.loops[n].validSince = some t0 ∧ t0 + 1000000 ≤ s.mono ∧ s.cpc.loops[n].mode = 2) :=
  ⟨⟨(wLoop { recd := some wLoopRec, st := .auto }), 3, wLoopRec, by decide, rfl, by decide, by decide, 0, by decide, by decide, by decide, rfl, by decide⟩,
   ⟨(wBadLoop { recd := some wBadRec, st := .manual }), 3, wBadRec, by decide, rfl, by decide⟩,
   ⟨(wBadLoop { recd := some wBadRec, st := .fault, validSince := some 0 }), 3, wBadRec, by decide, rfl, by decide, by decide, 0, by decide, rfl, by decide⟩,
   ⟨(wBadLoop { recd := some wBadRec, st := .fault, mode := 1, validSince := some 0 }), 3, wBadRec, by decide, rfl, by decide, by decide, 0, by decide, rfl, by decide⟩,
   ⟨(wBadLoop { recd := some wBadRec, st := .fault, mode := 2, validSince := some 0 }), 3, wBadRec, by decide, rfl, by decide, by decide, 0, by decide, rfl, by decide⟩⟩

theorem witness_LoopWritesAct :
    (∃ s : State, ∃ n : Fin 64, ∃ r : CpcLoop, ∃ w : Word, s.HostReady 0x41000 ∧ s.cpc.loops[n].recd = some r ∧ w.toNat % 4 = 1 ∧ s.cpc.loops[n].st = .off) ∧
    (∃ s : State, ∃ n : Fin 64, ∃ r : CpcLoop, ∃ w : Word, s.HostReady 0x41000 ∧ s.cpc.loops[n].recd = some r ∧ w.toNat % 4 = 3) ∧
    (∃ s : State, ∃ n : Fin 64, ∃ r : CpcLoop, ∃ w : Word, s.HostReady 0x41000 ∧ s.cpc.loops[n].recd = some r ∧ fFinite w.toNat = true) ∧
    (∃ s : State, ∃ n : Fin 64, ∃ r : CpcLoop, ∃ w : Word, s.HostReady 0x41000 ∧ s.cpc.loops[n].recd = some r ∧ fFinite w.toNat = true ∧ flt w.toNat s.cpc.loops[n].outMax = true) ∧
    (∃ s : State, ∃ n : Fin 64, ∃ r : CpcLoop, ∃ w : Word, s.HostReady 0x41000 ∧ s.cpc.loops[n].recd = some r ∧ fFinite w.toNat = false) ∧
    (∃ s : State, ∃ n : Fin 64, ∃ r : CpcLoop, ∃ w : Word, s.HostReady 0x41000 ∧ s.cpc.loops[n].recd = some r ∧ fFinite w.toNat = true ∧ s.cpc.loops[n].st = .manual) ∧
    (∃ s : State, ∃ n : Fin 64, ∃ r : CpcLoop, ∃ w : Word, s.HostReady 0x41000 ∧ s.cpc.loops[n].recd = some r ∧ fFinite w.toNat = true ∧ s.cpc.loops[n].st ≠ .manual) ∧
    (∃ s : State, ∃ r : CpcLoop, s.HostReady 0x40010 ∧ injRangeOk s.cpc = true ∧ s.cpc.injLoop < 64 ∧ s.cpc.injOrder < 4 ∧ s.cpc.injHold < 256 ∧ s.cpc.inj = none ∧ (s.cpc.loop s.cpc.injLoop).recd = some r ∧ r.test = true ∧ ((s.cpc.loop s.cpc.injLoop).st = .manual ∨ (s.cpc.loop s.cpc.injLoop).st = .auto) ∧ s.clearing = false ∧ s.loopFast s.cpc.injLoop = false) ∧
    (∃ s : State, ∃ j : Inj, s.HostReady 0x40010 ∧ s.cpc.inj = some j) ∧
    (∃ s : State, ∃ j : Inj, s.side = true ∧ s.cpc.inj = some j ∧ j.len ≤ j.k) :=
  ⟨⟨(wLoop { recd := some wLoopRec }), 3, wLoopRec, 5, ⟨by decide, by decide, by decide, by decide⟩, rfl, by decide⟩,
   ⟨(wLoop { recd := some wLoopRec }), 3, wLoopRec, 7, ⟨by decide, by decide, by decide, by decide⟩, rfl, by decide⟩,
   ⟨(wLoop { recd := some wLoopRec }), 3, wLoopRec, 0x3F800000, ⟨by decide, by decide, by decide, by decide⟩, rfl, by decide⟩,
   ⟨(wLoop { recd := some wLoopRec, outMax := 0x42C80000 }), 3, wLoopRec, 0x3F800000, ⟨by decide, by decide, by decide, by decide⟩, rfl, by decide +kernel⟩,
   ⟨(wLoop { recd := some wLoopRec }), 3, wLoopRec, 0x7F800000, ⟨by decide, by decide, by decide, by decide⟩, rfl, by decide⟩,
   ⟨(wLoop { recd := some wLoopRec, st := .manual }), 3, wLoopRec, 0x3F800000, ⟨by decide, by decide, by decide, by decide⟩, rfl, by decide⟩,
   ⟨(wLoop { recd := some wLoopRec, st := .auto }), 3, wLoopRec, 0x3F800000, ⟨by decide, by decide, by decide, by decide⟩, rfl, by decide⟩,
   ⟨wInj, wLoopRec, ⟨by decide, by decide, by decide, by decide⟩, by decide, by decide, by decide, by decide, by decide, rfl, by decide⟩,
   ⟨(wInjOn 3), ({ loop := 3, len := 10, k := 3 }), ⟨by decide, by decide, by decide, by decide⟩, rfl⟩,
   ⟨(wInjOn 10), ({ loop := 3, len := 10, k := 10 }), by decide, rfl, by decide⟩⟩

end Sys2Proof.Tests.WitnessCooling
end

