-- ==== Sys2Proof/Tests/WitnessGaiter.lean ====
section
/-! SUPPORT. For each statement about Gaiter, states and operands that meet its hypotheses. -/

namespace Sys2Proof.Tests.WitnessGaiter

set_option Elab.async false

open Sys2Proof Sys2Proof.Machine

/-- Gaiter is `g`, with records for input 0, comparator 0 and output 0. -/
def wGtr (g : Gaiter) : State :=
  { wUp with gtr := { g with applied := true }, cfg := { gtrInput := [wIn], gtrCmp := [wCmp], gtrOutput := [wOut], gtrGlobal := some { degEn := true } } }
where
  wIn : GtrInput := { si := 0, resp := .hard, test := true }
  wCmp : GtrCmp := { fc := 0, selfTest := true, port := 0 }
  wOut : GtrOutput := { so := 0, pulse := true }

/-- Input 0 is `x`. -/
def wInput (x : SafIn) : State := wGtr { st := .run, ins := (Vector.replicate 16 {}).set 0 x }

/-- A site in RUN with its input closed and its gate requested. -/
def wGate : State := wGtr { st := .run, trip := false, ins := Vector.replicate 16 { a := true, b := true, closed := true }, gates := Vector.replicate 12 { req := true }, tempNext := 9999999999999 }

/-- A site in RUN with the heartbeat of the cores lost. -/
def wBeat (fit wait : Bool) : State := { wGtr { st := .run, trip := false, hbAt := some 0, hbWait := wait } with seam := { fit := fit } }

def wHold (closed : Bool) : State := wGtr { st := .hold, hbAt := some 999999999999, ins := Vector.replicate 16 { a := closed, b := closed, closed := closed } }

/-- A site in CLEARING that may be resumed. -/
def wClear : State := wGtr { st := .clearing, ins := Vector.replicate 16 { a := true, b := true, closed := true }, hbAt := some 999999999999, fc := Vector.replicate 24 {} }

theorem witness_GaiterCycles :
    (∃ s : State, s.up = true ∧ ∃ k : Cause, s.gtr.latch = some k ∧ s.gtr.standby = true ∧ s.gtr.st = .run ∧ s.gtr.pendSoft = []) ∧
    (∃ s : State, s.up = true ∧ ∃ k : Cause, s.gtr.latch = some k ∧ s.gtr.standby = false ∧ s.gtr.st = .run) ∧
    (∃ s : State, s.up = true ∧ ∃ k : Cause, s.gtr.latch = none ∧ s.gtr.st = .run ∧ s.gtr.pendSoft = [k] ∧ (∀ m : Fin 24, s.gtr.fc[m].hidden = false)) ∧
    (∃ s : State, s.up = true ∧ ∃ p : Fin 12, s.gtr.latch = none ∧ s.gtr.pendSoft = [] ∧ s.gtr.gates[p].req = true ∧ gateCond s.gctx p = true ∧ s.gtr.gates[p].en = false ∧ s.mono < s.gtr.tempNext ∧ (∀ m : Fin 24, s.gtr.fc[m].hidden = false)) ∧
    (∃ s : State, s.up = true ∧ ∃ dRef : Int, ∃ dGl : Int, 30 < dRef.natAbs ∧ 50 < dGl.natAbs ∧ s.gtr.standby = false ∧ s.gtr.disarmed = false) ∧
    (∃ s : State, s.up = true ∧ ∃ dRef : Int, ∃ dGl : Int, 30 < dRef.natAbs ∧ dGl.natAbs ≤ 50 ∧ s.gtr.standby = false ∧ s.gtr.st = .run ∧ s.gtr.latch = none ∧ s.gtr.pendSoft = [] ∧ (s.cfg.gtrGlobal.getD {}).degEn = true) :=
  ⟨⟨(wGtr { st := .run, standby := true, latch := some { kind := 3 } }), by decide, ({ kind := 3 }), rfl, by decide⟩,
   ⟨(wGtr { st := .run, latch := some { kind := 3 } }), by decide, ({ kind := 3 }), rfl, by decide⟩,
   ⟨(wGtr { st := .run, pendSoft := [{ kind := 2 }] }), by decide, ({ kind := 2 }), by decide⟩,
   ⟨wGate, by decide, 11, by decide⟩,
   ⟨(wGtr { st := .run }), by decide, 31, (-51), by decide⟩,
   ⟨(wGtr { st := .run }), by decide, (-31), 50, by decide⟩⟩

theorem witness_SafetyInputsAct :
    (∃ s : State, ∃ n : Fin 16, ∃ r : GtrInput, s.up = true ∧ s.gctx.inRec n = some r ∧ s.gtr.applied = true ∧ r.resp = .hard ∧ s.gtr.ins[n].wait = none ∧ s.gtr.ins[n].a = true ∧ s.gtr.disarmed = false ∧ s.gtr.maskA = none) ∧
    (∃ s : State, ∃ n : Fin 16, ∃ r : GtrInput, s.up = true ∧ s.gctx.inRec n = some r ∧ s.gtr.applied = true ∧ bothClosed r s.gtr.ins[n] = true ∧ s.gtr.ins[n].closed = false ∧ s.gtr.ins[n].fault = false ∧ max (aSince r s.gtr.ins[n]) (bSince r s.gtr.ins[n]) + r.tDeb * 1000 ≤ s.mono) ∧
    (∃ s : State, ∃ n : Fin 16, ∃ r : GtrInput, s.up = true ∧ s.gctx.inRec n = some r ∧ s.gtr.applied = true ∧ ∃ w : DiscWait, s.gtr.ins[n].wait = some w ∧ s.gtr.ins[n].fault = false ∧ w.at_ + r.tDisc * 10000 ≤ s.mono) ∧
    (∃ s : State, ∃ n : Fin 16, ∃ r : GtrInput, s.up = true ∧ s.gctx.inRec n = some r ∧ s.gtr.applied = true ∧ s.gtr.maskB = none) ∧
    (∃ s : State, ∃ n : Fin 16, ∃ r : GtrInput, s.up = true ∧ s.gctx.inRec n = some r ∧ s.gtr.applied = true ∧ s.gtr.maskA = none) ∧
    (∃ s : State, ∃ n : Fin 16, ∃ r : GtrInput, s.up = true ∧ s.gctx.inRec n = some r ∧ s.gtr.applied = true ∧ ∃ t0, ∃ m, s.gtr.maskA = some t0 ∧ t0 + 180 ≤ s.mono ∧ r.test = true ∧ bitOf n m = true ∧ s.gtr.ins[n].fault = false) ∧
    (∃ s : State, ∃ n : Fin 16, ∃ r : GtrInput, s.up = true ∧ s.gctx.inRec n = some r ∧ s.gtr.applied = true ∧ ∃ t0, s.gtr.maskA = some t0 ∧ t0 + 240 ≤ s.mono) :=
  ⟨⟨(wInput { a := true, b := true, closed := true }), 0, wGtr.wIn, by decide, rfl, by decide⟩,
   ⟨(wInput { a := true, b := true }), 0, wGtr.wIn, by decide, rfl, by decide⟩,
   ⟨(wInput { a := true, wait := some { isB := true, open_ := false, at_ := 0 } }), 0, wGtr.wIn, by decide, rfl, by decide, ({ isB := true, open_ := false, at_ := 0 }), rfl, by decide⟩,
   ⟨(wInput {}), 0, wGtr.wIn, by decide, rfl, by decide⟩,
   ⟨(wInput {}), 0, wGtr.wIn, by decide, rfl, by decide⟩,
   ⟨(wGtr { maskA := some 0 }), 0, wGtr.wIn, by decide, rfl, by decide, 0, 1, rfl, by decide⟩,
   ⟨(wGtr { maskA := some 0 }), 0, wGtr.wIn, by decide, rfl, by decide, 0, rfl, by decide⟩⟩

theorem witness_ComparatorsAct :
    (∃ s : State, ∃ n : Fin 24, ∃ r : GtrCmp, s.up = true ∧ s.gctx.cmpRec n = some r ∧ s.gtr.fc[n].active = false ∧ s.gtr.disarmed = false ∧ (∀ t0, s.gtr.fc[n].lastTest = some t0 → t0 + 40 ≤ s.mono)) ∧
    (∃ s : State, ∃ n : Fin 24, ∃ r : GtrCmp, s.up = true ∧ s.gctx.cmpRec n = some r) ∧
    (∃ s : State, ∃ n : Fin 24, ∃ r : GtrCmp, s.up = true ∧ s.gctx.cmpRec n = some r ∧ r.selfTest = true ∧ s.testQuiet n = true ∧ s.gtr.fc[n].active = false ∧ (∀ t0, s.gtr.fc[n].lastTest = some t0 → t0 + 60000000 ≤ s.mono)) ∧
    (∃ s : State, ∃ n : Fin 24, ∃ r : GtrCmp, s.up = true ∧ s.gctx.cmpRec n = some r ∧ r.selfTest = true ∧ s.gtr.applied = true ∧ max s.gtr.fc[n].lastPass s.gtr.appliedAt + (s.cfg.gtrGlobal.getD {}).fcTestMax * 3600000000 ≤ s.mono) :=
  ⟨⟨(wGtr { st := .run }), 0, wGtr.wCmp, by decide, rfl, by decide, by decide, ofAll (by decide)⟩,
   ⟨(wGtr { st := .run }), 0, wGtr.wCmp, by decide, rfl⟩,
   ⟨(wGtr { st := .run }), 0, wGtr.wCmp, by decide, rfl, by decide, by decide, by decide, ofAll (by decide)⟩,
   ⟨(wGtr { st := .run }), 0, wGtr.wCmp, by decide, rfl, by decide⟩⟩

theorem witness_GatesAndStatesAct :
    (∃ s : State, s.up = true ∧ ∃ p : Fin 12, ∃ t0 : Nat, s.gtr.gates[p].dropAt = some t0 ∧ t0 + 100000 ≤ s.mono) ∧
    (∃ s : State, s.up = true ∧ s.gtr.st = .soft ∧ s.gtr.softAt + s.gtr.softLimit ≤ s.mono) ∧
    (∃ s : State, s.up = true ∧ ∃ p : Fin 12, s.ports[p].gateReq = true ∧ gateCond s.gctx p = true) ∧
    (∃ s : State, s.up = true ∧ ∃ p : Fin 12, s.ports[p].gateReq = false) ∧
    (∃ s : State, s.up = true ∧ ∃ n : Fin 8, ∃ r : GtrOutput, s.gctx.outRec n = some r ∧ r.pulse = true ∧ s.gtr.so[n].on = true ∧ s.gtr.so[n].pulseAt = none) ∧
    (∃ s : State, s.up = true ∧ ∃ n : Fin 8, ∃ t0 : Nat, s.gtr.so[n].on = true ∧ s.gtr.so[n].pulseAt = some t0 ∧ t0 + (s.cfg.gtrGlobal.getD {}).offp * 10 ≤ s.mono) ∧
    (∃ s : State, s.up = true ∧ ∃ t0, s.gtr.degEnd = some t0 ∧ t0 ≤ s.mono ∧ s.gtr.st = .degraded ∧ s.gtr.latch = none ∧ s.gtr.pendSoft = []) ∧
    (∃ s : State, s.up = true ∧ s.beats = true) ∧
    (∃ s : State, s.up = true ∧ ∃ t0, s.gtr.hbAt = some t0 ∧ s.gtr.hbLost = false ∧ t0 + 10000 ≤ s.mono ∧ s.gtr.st = .run ∧ s.gtr.standby = false ∧ s.gtr.latch = none ∧ s.gtr.pendSoft = [] ∧ s.seam.fit = true) ∧
    (∃ s : State, s.up = true ∧ ∃ t0, s.gtr.hbAt = some t0 ∧ s.gtr.hbLost = false ∧ t0 + 10000 ≤ s.mono ∧ s.gtr.st = .run ∧ s.gtr.standby = false ∧ s.gtr.latch = none ∧ s.gtr.pendSoft = [] ∧ s.seam.fit = false ∧ s.seam.role ≠ .released ∧ s.gtr.hbWait = false) ∧
    (∃ s : State, s.up = true ∧ ∃ t0, s.gtr.hbWait = true ∧ s.gtr.hbAt = some t0 ∧ t0 + 650000 ≤ s.mono ∧ s.gtr.st = .run) ∧
    (∃ s : State, s.up = true ∧ s.gtr.st = .hold ∧ s.gtr.applied = true ∧ noDebounce s.gctx = true ∧ s.gtr.standby = false ∧ holdCause s.gctx = none ∧ (s.cfg.gtrGlobal.getD {}).startResume = false) ∧
    (∃ s : State, s.up = true ∧ s.gtr.st = .hold ∧ s.gtr.applied = true ∧ noDebounce s.gctx = true ∧ s.gtr.standby = false ∧ ∃ k : Cause, holdCause s.gctx = some k) ∧
    (∃ s : State, s.up = true ∧ s.HostReady 0x5000 ∧ resumable s.gctx = true) ∧
    (∃ s : State, s.up = true ∧ s.HostReady 0x5000 ∧ resumable s.gctx = false) ∧
    (∃ s : State, s.up = true ∧ s.HostReady 0x5000 ∧ s.gtr.st = .run ∧ s.gtr.latch = none ∧ s.gtr.pendSoft = []) ∧
    (∃ s : State, s.up = true ∧ s.HostReady 0x5000 ∧ (s.gtr.st = .soft ∨ s.gtr.st = .clearing)) :=
  ⟨⟨(wGtr { gates := Vector.replicate 12 { en := true, dropAt := some 0 } }), by decide, 0, 0, rfl, by decide⟩,
   ⟨(wGtr { st := .soft }), by decide⟩,
   ⟨({ wGate with ports := Vector.replicate 12 { gateReq := true } }), by decide, 11, by decide⟩,
   ⟨wGate, by decide, 0, by decide⟩,
   ⟨(wGtr { so := Vector.replicate 8 { on := true } }), by decide, 0, wGtr.wOut, rfl, by decide⟩,
   ⟨(wGtr { so := Vector.replicate 8 { on := true, pulseAt := some 0 } }), by decide, 0, 0, by decide, rfl, by decide⟩,
   ⟨(wGtr { st := .degraded, degEnd := some 0 }), by decide, 0, rfl, by decide⟩,
   ⟨wUp, by decide⟩,
   ⟨(wBeat true false), by decide, 0, rfl, by decide⟩,
   ⟨(wBeat false false), by decide, 0, rfl, by decide +kernel⟩,
   ⟨(wBeat true true), by decide, 0, by decide, rfl, by decide⟩,
   ⟨(wHold true), by decide⟩,
   ⟨(wHold false), by decide, by decide, by decide, by decide, by decide, ({ kind := 1, idx := 0, ts := 1000000 }), rfl⟩,
   ⟨wClear, by decide, ⟨by decide, by decide, by decide, by decide⟩, by decide⟩,
   ⟨(wHold true), by decide, ⟨by decide, by decide, by decide, by decide⟩, by decide⟩,
   ⟨(wGtr { st := .run }), by decide, ⟨by decide, by decide, by decide, by decide⟩, by decide⟩,
   ⟨(wGtr { st := .soft }), by decide, ⟨by decide, by decide, by decide, by decide⟩, by decide⟩⟩

end Sys2Proof.Tests.WitnessGaiter
end

