-- ==== Sys2Proof/Tests/WitnessHost.lean ====
section
/-! SUPPORT. For each statement about Thicket and the hosts, states and operands that meet its hypotheses. -/

namespace Sys2Proof.Tests.WitnessHost

set_option Elab.async false

open Sys2Proof Sys2Proof.Machine

/-- Thicket is `k`. -/
def wThk (k : Thicket) : State := { wUp with thk := k }

def wTrans : Trans := { tag := 5, cls := .bulk, addr := 0x40, at_ := 0 }

/-- A running image. -/
def wImaged : State := { wUp with img := { st := .run } }

/-- Both Esing connections are `c`. -/
def wEs (c : EsConn) : State := { wUp with hst := { conn := Vector.replicate 2 (some c) } }

/-- One user of role 1, the holder of the empty key, and the identity key of the device. -/
def wUsers : State :=
  { wUp with cfg := { hstUser := [{ hash := Config.sha256 [], role := 1 }] }, clk := { ready := true, slots := (Vector.replicate 64 {}).set 1 { typ := .p256, usage := 3, key := 7 } } }

/-- The state in which a request of connection `k` is served. -/
def wHeard (s : State) (k : Fin 2) : State := { s with hst := { s.hst with conn := updN s.hst.conn k (Option.map (EsConn.heard s.mono)) } }

theorem witness_ThicketActs :
    (∃ s : State, ∃ q : Nat, s.up = true ∧ 0 < s.thk.inUse q ∧ q ∉ s.thk.stalled) ∧
    (∃ s : State, ∃ q : Nat, s.up = true ∧ 0 < s.thk.inUse q ∧ q ∈ s.thk.stalled) ∧
    (∃ s : State, ∃ k : Fin 128, ∃ x : Trans, s.up = true ∧ s.thk.overdue k s.mono = some x) ∧
    (∃ s : State, ∃ q : Nat, s.up = true ∧ q ∈ s.thk.stalled) ∧
    (∃ s : State, ∃ q : Nat, s.up = true ∧ q ∉ s.thk.stalled) ∧
    (∃ s : State, s.up = true) ∧
    (∃ s : State, s.up = true ∧ ∃ off : Nat, ∃ fails : Nat, s.img.st = .run ∧ (∀ x ∈ s.img.leaf, x.1 ≠ off) ∧ fails < 2) ∧
    (∃ s : State, s.up = true ∧ ∃ off : Nat, ∃ fails : Nat, s.img.st = .run ∧ (∀ x ∈ s.img.leaf, x.1 ≠ off) ∧ 2 ≤ fails) ∧
    (∃ s : State, s.up = true) ∧
    (∃ s : State, s.up = true) ∧
    (∃ s : State, s.HostReady 0x4038) :=
  ⟨⟨(wThk { used := [(3, 2)] }), 3, by decide⟩,
   ⟨(wThk { used := [(3, 2)], stalled := [3] }), 3, by decide⟩,
   ⟨(wThk { trans := [wTrans] }), 5, wTrans, by decide, rfl⟩,
   ⟨(wThk { stalled := [3] }), 3, by decide⟩,
   ⟨wUp, 3, by decide⟩,
   ⟨wImaged, by decide⟩,
   ⟨wImaged, by decide, 4, 1, by decide⟩,
   ⟨wImaged, by decide, 4, 2, by decide⟩,
   ⟨wUp, by decide⟩,
   ⟨wUp, by decide⟩,
   ⟨wUp, ⟨by decide, by decide, by decide, by decide⟩⟩⟩

theorem witness_HostAccessesRegisters :
    (∃ s : State, s.HostReady 0x8020) ∧
    (∃ s : State, ∃ a : Nat, s.HostReady a ∧ a % 4 ≠ 0) ∧
    (∃ s : State, ∃ a : Nat, s.up = true ∧ s.servesHost = true ∧ s.codeRuns a = true ∧ absentAt a s.fuses.variant = true) ∧
    (∃ s : State, ∃ a : Nat, ∃ w : Nat, ∃ u : State, s.HostReady a ∧ s.readAt a = (.ok, w, u)) ∧
    (∃ s : State, s.HostReady 0x2028 ∧ (∀ v, (0x2028, v) ∉ s.thk.bad)) ∧
    (∃ s : State, s.up = true ∧ s.servesHost = true ∧ ∃ n : Nat, (n = 0 ∨ 64 < n)) ∧
    (∃ s : State, s.up = true ∧ s.servesHost = true ∧ ∃ a : Nat, ∃ n : Nat, (n = 0 ∨ 64 < n) ∧ absentAt a s.fuses.variant = false) ∧
    (∃ s : State, s.up = true ∧ s.servesHost = false) ∧
    (∃ s : State, s.up = true ∧ s.servesHost = false ∧ ∃ a : Nat, ∃ ws : List Word, (s.standby = true ∨ a ≠ 0x6000 ∨ bitOf 0 (ws.headD 0).toNat = false)) ∧
    (∃ s : State, s.up = true ∧ s.servesHost = false ∧ ∃ a : Nat, ∃ w : Word, (s.standby = true ∨ a ≠ 0x6000 ∨ bitOf 0 w.toNat = false)) ∧
    (∃ s : State, s.up = true ∧ s.servesHost = false ∧ s.standby = true) ∧
    (∃ s : State, s.up = true ∧ s.servesHost = false ∧ ∃ n : Nat, s.standby = false ∧ 1 ≤ n ∧ n ≤ 64) ∧
    (∃ s : State, s.up = true ∧ s.servesHost = false ∧ ∃ n : Nat, ∃ ws : List Word, s.standby = false ∧ 1 ≤ n ∧ n ≤ 64 ∧ ws.length = n) ∧
    (∃ s : State, s.cores = true ∧ s.seam.role = .active ∧ ∃ n : Nat, ∃ ws : List Word, 1 ≤ n ∧ n ≤ 64 ∧ ws.length = n ∧ s.seam.peerLost = false ∧ s.seam.resync = false ∧ s.seam.relay = none) ∧
    (∃ s : State, s.cores = true ∧ s.seam.role = .active ∧ s.seam.peerLost = true) ∧
    (∃ s : State, s.cores = true ∧ s.seam.role = .active ∧ s.seam.peerLost = false ∧ s.seam.resync = false ∧ s.seam.relay.isSome = true) ∧
    (∃ s : State, s.HostReady 0x28028) :=
  ⟨⟨wUp, ⟨by decide, by decide, by decide, by decide⟩⟩,
   ⟨wUp, 0x8021, ⟨by decide, by decide, by decide, by decide⟩, by decide⟩,
   ⟨({ wUp with fuses := { variant := .l } }), 0x15000, by decide⟩,
   ⟨wUp, 0x2028, ((State.readAt 0x2028 wUp).2.1), ((State.readAt 0x2028 wUp).2.2), ⟨by decide, by decide, by decide, by decide⟩, rfl⟩,
   ⟨wUp, ⟨by decide, by decide, by decide, by decide⟩, (by intro v h; cases h)⟩,
   ⟨wUp, by decide, by decide, 65, by decide⟩,
   ⟨wUp, by decide, by decide, 0x8020, 0, by decide⟩,
   ⟨wStandby, by decide⟩,
   ⟨wStandby, by decide, by decide, 0, ([]), by decide⟩,
   ⟨wStandby, by decide, by decide, 0, 0, by decide⟩,
   ⟨wStandby, by decide⟩,
   ⟨({ wUp with seam := { role := .start } }), by decide, by decide, 64, by decide⟩,
   ⟨({ wUp with seam := { role := .start } }), by decide, by decide, 1, ([7]), by decide⟩,
   ⟨({ wActive with img := { st := .run } }), by decide, by decide, 2, ([1, 2]), by decide⟩,
   ⟨({ wActive with seam := { wActive.seam with peerLost := true } }), by decide⟩,
   ⟨({ wActive with seam := { wActive.seam with relay := some { tag := 1, write := false, addr := 0x40, left := 1, words := [], got := [], at_ := 5, chan := 0 } } }), by decide⟩,
   ⟨wUp, ⟨by decide, by decide, by decide, by decide⟩⟩⟩

theorem witness_EsingServes :
    (∃ s : State, s.cores = true ∧ s.servesHost = true ∧ ∃ eth : Fin 2, ∃ cert : EsCert, s.esingPort eth = true ∧ ∃ role : Nat, s.hst.conn[0] = none ∧ s.esingKey = true ∧ clientRole s.cfg.hstUser s.legalTime cert = some role) ∧
    (∃ s : State, s.cores = true ∧ s.servesHost = true ∧ ∃ eth : Fin 2, ∃ cert : EsCert, s.esingPort eth = true ∧ s.hst.conn[0] = none ∧ s.esingKey = true ∧ clientRole s.cfg.hstUser s.legalTime cert = none) ∧
    (∃ s : State, s.cores = true ∧ s.servesHost = true ∧ ∃ eth : Fin 2, s.esingPort eth = true ∧ s.hst.conn[0].isSome = true ∧ s.hst.conn[1].isSome = true) ∧
    (∃ s : State, s.cores = true ∧ s.servesHost = true ∧ ∃ k : Fin 2, ∃ c : EsConn, s.hst.conn[k] = some c ∧ c.lastAt + 300000000 ≤ s.mono) ∧
    (∃ s : State, s.cores = true ∧ s.servesHost = true ∧ ∃ k : Fin 2, ∃ c : EsConn, s.hst.conn[k] = some c ∧ s.mono < c.lastAt + 300000000) ∧
    (∃ s : State, s.cores = true ∧ s.servesHost = true ∧ ∃ k : Fin 2, ∃ c : EsConn, s.hst.conn[k] = some c ∧ s.relaying k = true) ∧
    (∃ s : State, s.cores = true ∧ s.servesHost = true ∧ ∃ k : Fin 2, ∃ c : EsConn, s.hst.conn[k] = some c ∧ ∃ m : EsHead, ∃ a : Nat, ∃ w : Nat, ∃ u : State, s.relaying k = false ∧ m.flags = 0 ∧ m.len = 8 ∧ s.codeRuns a = true ∧ State.readAt a { s with hst := { s.hst with conn := updN s.hst.conn k (Option.map (EsConn.heard s.mono)) } } = (.ok, w, u) ∧ u.hst.conn[k].isSome = true) ∧
    (∃ s : State, s.cores = true ∧ s.servesHost = true ∧ ∃ k : Fin 2, ∃ c : EsConn, s.hst.conn[k] = some c ∧ ∃ m : EsHead, ∃ n : Nat, s.relaying k = false ∧ (4096 < m.len ∨ m.len ≠ 8 ∨ n = 0 ∨ 1023 < n)) ∧
    (∃ s : State, s.cores = true ∧ s.servesHost = true ∧ ∃ k : Fin 2, ∃ c : EsConn, s.hst.conn[k] = some c ∧ ∃ m : EsHead, s.relaying k = false ∧ m.flags = 0 ∧ m.len = 12 ∧ 1 ≤ c.role ∧ c.role ≤ 2 ∧ absentAt 0x8020 s.fuses.variant = false) ∧
    (∃ s : State, s.cores = true ∧ s.servesHost = true ∧ ∃ k : Fin 2, ∃ c : EsConn, s.hst.conn[k] = some c ∧ ∃ m : EsHead, s.relaying k = false ∧ m.flags = 0 ∧ m.len = 12 ∧ c.role = 0) ∧
    (∃ s : State, s.cores = true ∧ s.servesHost = true ∧ ∃ k : Fin 2, ∃ c : EsConn, s.hst.conn[k] = some c ∧ ∃ m : EsHead, ∃ n : Nat, s.relaying k = false ∧ m.flags = 0 ∧ m.len = 8 ∧ 1 ≤ n ∧ n ≤ 127) ∧
    (∃ s : State, s.cores = true ∧ s.servesHost = true ∧ ∃ k : Fin 2, ∃ c : EsConn, s.hst.conn[k] = some c ∧ ∃ m : EsHead, ∃ mask : Nat, s.relaying k = false ∧ m.flags = 0 ∧ m.len = 8 ∧ mask < 2 ^ 64) :=
  ⟨⟨wUsers, by decide, by decide, 0, ({}), by decide, 1, by decide, by decide, (by simp [clientRole, wUsers])⟩,
   ⟨({ wUsers with cfg := {} }), by decide, by decide, 0, ({ profileOk := false }), by decide⟩,
   ⟨(wEs { role := 1, lastAt := 999999999999 }), by decide, by decide, 1, by decide⟩,
   ⟨(wEs { role := 0, lastAt := 5 }), by decide, by decide, 1, ({ role := 0, lastAt := 5 }), rfl, by decide⟩,
   ⟨(wEs { role := 1, lastAt := 999999999999 }), by decide, by decide, 1, ({ role := 1, lastAt := 999999999999 }), rfl, by decide⟩,
   ⟨({ wEs { role := 1, lastAt := 999999999999 } with seam := { relay := some { tag := 1, write := false, addr := 0x40, left := 1, words := [], got := [], at_ := 5, chan := 2 } } }), by decide, by decide, 1, ({ role := 1, lastAt := 999999999999 }), rfl, by decide⟩,
   ⟨(wEs { role := 1, lastAt := 999999999999 }), by decide, by decide, 1, ({ role := 1, lastAt := 999999999999 }), rfl, ({ len := 8, tag := 3 }), 0x2028, ((State.readAt 0x2028 (wHeard (wEs { role := 1, lastAt := 999999999999 }) 1)).2.1), ((State.readAt 0x2028 (wHeard (wEs { role := 1, lastAt := 999999999999 }) 1)).2.2), by decide, by decide, by decide, by decide, rfl, by decide⟩,
   ⟨(wEs { role := 1, lastAt := 999999999999 }), by decide, by decide, 1, ({ role := 1, lastAt := 999999999999 }), rfl, ({ len := 8, tag := 3 }), 1024, by decide⟩,
   ⟨(wEs { role := 1, lastAt := 999999999999 }), by decide, by decide, 1, ({ role := 1, lastAt := 999999999999 }), rfl, ({ len := 12, tag := 3 }), by decide⟩,
   ⟨(wEs { role := 0, lastAt := 5 }), by decide, by decide, 1, ({ role := 0, lastAt := 5 }), rfl, ({ len := 12, tag := 3 }), by decide⟩,
   ⟨(wEs { role := 1, lastAt := 999999999999 }), by decide, by decide, 1, ({ role := 1, lastAt := 999999999999 }), rfl, ({ len := 8, tag := 3 }), 127, by decide⟩,
   ⟨(wEs { role := 1, lastAt := 999999999999 }), by decide, by decide, 1, ({ role := 1, lastAt := 999999999999 }), rfl, ({ len := 8, tag := 3 }), 5, by decide⟩⟩

end Sys2Proof.Tests.WitnessHost
end

