-- ==== Sys2Proof/Tests/WitnessImage.lean ====
section
/-! SUPPORT. For each statement about the loader and the image operations, states and operands that meet its hypotheses. -/

namespace Sys2Proof.Tests.WitnessImage

set_option Elab.async false

open Sys2Proof Sys2Proof.Machine

/-- The loader is `l`. -/
def wLoad (l : Loader) : State := { wUp with img := l }

/-- The loader before its start, the strap latched and slot marks `b`. -/
def wLoadStart (b : Vector Bool 2) : State :=
  { wLoad { strapOk := true, mram := { bad := b } } with clk := { ready := true } }

/-- The loader that has read its marks and the flash's SFDP table. -/
def wRead (b : Vector Bool 2) : Loader := { strapOk := true, mram := { bad := b }, sfdp := true, read := .quad }

/-- A running loader. -/
def wLoaded (m : ImgMram) : Loader := { st := .run, slot := 1, mram := m }

def wPage : List Byte := List.replicate 4096 0x55

theorem wPage_length : wPage.length = 4096 := List.length_replicate

theorem witness_LoaderStarts :
    (∃ s : State, s.up = true ∧ s.img.st = .start ∧ s.img.strapOk = false ∧ ∃ c : Fin 16, ∃ q : Rat, strapRatio (strapOhms.getD c none) - 12 / 1000 ≤ q ∧ q ≤ strapRatio (strapOhms.getD c none) + 12 / 1000) ∧
    (∃ s : State, s.up = true ∧ s.img.st = .start ∧ s.img.strapOk = false ∧ ∃ q : Rat, (∀ c : Fin 16, q < strapRatio (strapOhms.getD c none) - 12 / 1000 ∨ strapRatio (strapOhms.getD c none) + 12 / 1000 < q)) ∧
    (∃ s : State, s.up = true ∧ s.img.st = .start ∧ s.img.strapOk = true ∧ s.rootEnded = true ∧ s.img.mram.copyOk[0] = false ∧ s.img.mram.copyOk[1] = false) ∧
    (∃ s : State, s.up = true ∧ ∃ sfdp : Bool, s.img.st = .start ∧ s.img.strapOk = true ∧ s.rootEnded = true ∧ ∃ l : Loader, (s.img.mram.copyOk[0] || s.img.mram.copyOk[1]) = true ∧ l = { s.img with mram := { s.img.mram with copyOk := #v[true, true] }, sfdp := sfdp, read := flashRead sfdp (bitOf 2 s.img.strap) } ∧ s.img.mram.bad[s.img.first] = false) ∧
    (∃ s : State, s.up = true ∧ ∃ sfdp : Bool, s.img.st = .start ∧ s.img.strapOk = true ∧ s.rootEnded = true ∧ ∃ l : Loader, (s.img.mram.copyOk[0] || s.img.mram.copyOk[1]) = true ∧ l = { s.img with mram := { s.img.mram with copyOk := #v[true, true] }, sfdp := sfdp, read := flashRead sfdp (bitOf 2 s.img.strap) } ∧ s.img.mram.bad[s.img.first] = true ∧ s.img.mram.bad[otherSlot s.img.first] = false) ∧
    (∃ s : State, s.up = true ∧ ∃ sfdp : Bool, s.img.st = .start ∧ s.img.strapOk = true ∧ s.rootEnded = true ∧ ∃ l : Loader, (s.img.mram.copyOk[0] || s.img.mram.copyOk[1]) = true ∧ l = { s.img with mram := { s.img.mram with copyOk := #v[true, true] }, sfdp := sfdp, read := flashRead sfdp (bitOf 2 s.img.strap) } ∧ s.img.mram.bad[s.img.first] = true ∧ s.img.mram.bad[otherSlot s.img.first] = true) ∧
    (∃ s : State, s.up = true ∧ ∃ a : LeafOk, s.img.st = .flb ∧ s.img.leafOf s.fuses s.imgAnchor s.img.slot false = .ok a) ∧
    (∃ s : State, s.up = true ∧ ∃ e : ImgBad, s.img.st = .flb ∧ s.img.leafOf s.fuses s.imgAnchor s.img.slot false = .error e ∧ (otherSlot s.img.slot) ∉ s.img.tried ∧ s.img.mram.bad[otherSlot s.img.slot] = false) ∧
    (∃ s : State, s.up = true ∧ ∃ e : ImgBad, s.img.st = .flb ∧ s.img.leafOf s.fuses s.imgAnchor s.img.slot false = .error e ∧ (otherSlot s.img.slot) ∈ s.img.tried) ∧
    (∃ s : State, s.up = true ∧ s.img.st = .flb ∧ (otherSlot s.img.slot) ∈ s.img.tried) ∧
    (∃ s : State, s.up = true ∧ ∃ a : LeafOk, ∃ g : RecsOk, s.img.st = .rest ∧ s.img.wholeOf s.fuses s.imgAnchor s.img.slot false = .ok (a, g)) ∧
    (∃ s : State, s.up = true ∧ ∃ e : ImgBad, s.img.st = .rest ∧ s.img.wholeOf s.fuses s.imgAnchor s.img.slot false = .error e) ∧
    (∃ s : State, s.up = true ∧ s.img.st = .refused ∧ s.gtr.st = .clearing ∧ s.gtr.clrAt + 200000 ≤ s.mono) :=
  ⟨⟨(wLoad {}), by decide, by decide, by decide, 2, (3060 / 103060), by decide +kernel⟩,
   ⟨(wLoad {}), by decide, by decide, by decide, (7 / 10), by decide +kernel⟩,
   ⟨({ wLoad { strapOk := true, strap := 2, mram := { bad := #v[true, true], sel := some 0, copyOk := #v[false, false] } } with clk := { ready := true } }), by decide⟩,
   ⟨(wLoadStart #v[false, false]), by decide, true, by decide, by decide, by decide, (wRead #v[false, false]), by decide⟩,
   ⟨(wLoadStart #v[true, false]), by decide, true, by decide, by decide, by decide, (wRead #v[true, false]), by decide⟩,
   ⟨(wLoadStart #v[true, true]), by decide, true, by decide, by decide, by decide, (wRead #v[true, true]), by decide⟩,
   ⟨(wImg .flb), by decide, wLeaf, by decide, wImg_leaf .flb⟩,
   ⟨(wLoad { st := .flb, tried := [0] }), by decide, ({ reason := 1, part := 0, off := 0 }), by decide, rfl, by decide⟩,
   ⟨(wLoad { st := .flb, tried := [0, 1] }), by decide, ({ reason := 1, part := 0, off := 0 }), by decide, rfl, by decide⟩,
   ⟨(wLoad { st := .flb, tried := [0, 1] }), by decide⟩,
   ⟨(wImg .rest), by decide, wLeaf, wRestRecs, by decide, wImg_whole .rest false⟩,
   ⟨(wLoad { st := .rest }), by decide, ({ reason := 1, part := 0, off := 0 }), by decide, rfl⟩,
   ⟨({ wLoad { st := .refused } with gtr := { st := .clearing, clrAt := 0 } }), by decide⟩⟩

theorem witness_EpochRises_firstLeaf :
    ∃ (s : State) (a : LeafOk), s.up = true ∧ s.img.st = .flb ∧ s.img.leafOf s.fuses s.imgAnchor s.img.slot false = .ok a ∧
      s.seam.role = .single ∧ (∀ x ∈ a.got.recs, ∀ r, x.2 ≠ .seamPair r) ∧ s.cnp.started = false :=
  ⟨wImg .flb, wLeaf, by decide, by decide, wImg_leaf .flb, by decide, by
    intro x h r
    rw [show wLeaf.got.recs = [(128, .cnpIntake wIntakeRec)] from rfl, List.mem_singleton] at h
    subst h
    exact ImgRec.noConfusion, by decide⟩


theorem witness_ImageOperationsAct :
    (∃ s : State, s.HostReady 0x70 ∧ s.img.opBlocked = true) ∧
    (∃ s : State, ∃ k : Fin 2, s.HostReady 0x70 ∧ s.img.opBlocked = false ∧ s.img.inUse k = true) ∧
    (∃ s : State, ∃ k : Fin 2, s.HostReady 0x70 ∧ s.img.opBlocked = false ∧ s.img.inUse k = false) ∧
    (∃ s : State, ∃ k : Fin 2, s.HostReady 0x70 ∧ s.img.opBlocked = false ∧ s.img.inUse k = false ∧ s.img.page = 0) ∧
    (∃ s : State, ∃ k : Fin 2, s.HostReady 0x70 ∧ s.img.opBlocked = false ∧ s.img.inUse k = false ∧ 0 < s.img.page ∧ (∀ j < 4096, Store.get s.img.flash[k] (s.img.page * 4096 + j) = 0xFF) ∧ flashOk s.img) ∧
    (∃ s : State, ∃ k : Fin 2, s.HostReady 0x70 ∧ s.img.opBlocked = false ∧ s.img.inUse k = false ∧ 0 < s.img.page ∧ (∃ j < 4096, Store.get s.img.flash[k] (s.img.page * 4096 + j) ≠ 0xFF)) ∧
    (∃ s : State, ∃ k : Fin 2, s.HostReady 0x70 ∧ s.img.opBlocked = false ∧ ∃ x : LeafOk × RecsOk, s.img.wholeOf s.fuses s.imgAnchor k true = .ok x) ∧
    (∃ s : State, ∃ k : Fin 2, s.HostReady 0x70 ∧ s.img.opBlocked = false ∧ ∃ e : ImgBad, s.img.wholeOf s.fuses s.imgAnchor k true = .error e ∧ e.reason ≠ 0) ∧
    (∃ s : State, ∃ k : Fin 2, s.HostReady 0x70 ∧ s.img.opBlocked = false ∧ s.img.mram.checked[k] = false) ∧
    (∃ s : State, ∃ k : Fin 2, s.HostReady 0x70 ∧ s.img.opBlocked = false ∧ s.img.mram.checked[k] = true ∧ s.img.mram.staged = none) ∧
    (∃ s : State, ∃ k : Fin 2, s.HostReady 0x70 ∧ s.img.opBlocked = false ∧ ∃ pg : List Byte, s.img.mram.checked[k] = true ∧ s.img.mram.staged = some (k, pg) ∧ pg.length = 4096 ∧ flashOk s.img ∧ (∀ j < 4096, Store.get s.img.flash[k] j = 0xFF)) ∧
    (∃ s : State, s.HostReady 0x70 ∧ ∃ o : ImgOp, ∃ e : OpEnd, s.img.op = some (o, e)) :=
  ⟨⟨(wLoad { st := .flb }), ⟨by decide, by decide, by decide, by decide⟩, by decide⟩,
   ⟨(wLoad (wLoaded {})), 1, ⟨by decide, by decide, by decide, by decide⟩, by decide⟩,
   ⟨(wLoad (wLoaded {})), 0, ⟨by decide, by decide, by decide, by decide⟩, by decide⟩,
   ⟨(wLoad (wLoaded {})), 0, ⟨by decide, by decide, by decide, by decide⟩, by decide⟩,
   ⟨(wLoad { wLoaded {} with page := 1 }), 0, ⟨by decide, by decide, by decide, by decide⟩, by decide, by decide, by decide, (by intro j _; rfl), (by unfold flashOk; decide)⟩,
   ⟨(wLoad { wLoaded {} with page := 1, flash := Vector.replicate 2 [(5000, 1)] }), 0, ⟨by decide, by decide, by decide, by decide⟩, by decide, by decide, by decide, ⟨904, by decide, by decide⟩⟩,
   ⟨(wImg .run), 0, ⟨by decide, by decide, by decide, by decide⟩, by decide, ((wLeaf, wRestRecs)), wImg_whole .run true⟩,
   ⟨(wLoad (wLoaded {})), 0, ⟨by decide, by decide, by decide, by decide⟩, by decide, ({ reason := 1, part := 0, off := 0 }), rfl, by decide⟩,
   ⟨(wLoad (wLoaded {})), 0, ⟨by decide, by decide, by decide, by decide⟩, by decide⟩,
   ⟨(wLoad (wLoaded { checked := #v[true, false] })), 0, ⟨by decide, by decide, by decide, by decide⟩, by decide⟩,
   ⟨(wLoad (wLoaded { checked := #v[true, false], staged := some (0, wPage) })), 0, ⟨by decide, by decide, by decide, by decide⟩, by decide, wPage, by decide, rfl, wPage_length, (by unfold flashOk; decide), (by intro j _; rfl)⟩,
   ⟨(wLoad { wLoaded {} with op := some (.check, {}) }), ⟨by decide, by decide, by decide, by decide⟩, .check, ({}), rfl⟩⟩

end Sys2Proof.Tests.WitnessImage
end

