-- ==== Sys2Proof/Tests/WitnessLacing.lean ====
section
/-! SUPPORT. For each statement about the Lacing chains, states and operands that meet its hypotheses. -/

namespace Sys2Proof.Tests.WitnessLacing

set_option Elab.async false

open Sys2Proof Sys2Proof.Machine

/-- Every chain holds `c` and has a record of four nodes. -/
def wLac (c : LacCh) : State :=
  { wUp with cfg := { lacChain := (List.range 4).map (fun k => { chain := k, nodes := 4 }), lacGlobal := some {} }, lac := { swid := 9, ch := Vector.replicate 4 c } }

/-- A running chain with three nodes found. -/
def wRun : LacCh := { st := .run, found := 3 }

def wRead : LacCmd := { op := .read 1, cseq := 7, sentAt := 0 }

/-- A response: data, flags and CRC. -/
def wResp (node cseq len : Nat) (d : List Byte) : List Byte :=
  let b := [0x81, BitVec.ofNat 8 node, BitVec.ofNat 8 cseq, BitVec.ofNat 8 len] ++ d ++ [0]
  b ++ leBytes 2 (crc16 b)

/-- 48 bytes of results of the sweep in progress. -/
def wBlock : List Byte := List.replicate 36 1 ++ [9] ++ List.replicate 11 0

theorem witness_LacingChainsStart :
    (∃ s : State, s.HostReady 0x24000 ∧ ∃ w : Word, (∀ c : Fin 4, bitOf c w.toNat ≠ bitOf c s.lac.run → ∃ r ∈ s.cfg.lacChain, r.chain = c.val)) ∧
    (∃ s : State, s.HostReady 0x24000 ∧ ∃ w : Word, ∃ c : Fin 4, bitOf c w.toNat ≠ bitOf c s.lac.run ∧ (∀ r ∈ s.cfg.lacChain, r.chain ≠ c.val)) ∧
    (∃ s : State, ∃ c : Fin 4, ∃ r : LacChain, s.lacOn c = true ∧ s.cfg.lacChain.find? (fun r => r.chain == c.val) = some r ∧ s.lac.ch[c].st = .wake ∧ s.lac.ch[c].wakeAt + 10000 ≤ s.mono) ∧
    (∃ s : State, ∃ c : Fin 4, ∃ r : LacChain, s.lacOn c = true ∧ s.cfg.lacChain.find? (fun r => r.chain == c.val) = some r ∧ s.lac.ch[c].st = .enum ∧ s.lac.ch[c].enumDone = true ∧ ∃ i : Nat, ∃ is : List Nat, s.lac.ch[c].idents = i :: is) ∧
    (∃ s : State, ∃ c : Fin 4, ∃ r : LacChain, s.lacOn c = true ∧ s.cfg.lacChain.find? (fun r => r.chain == c.val) = some r ∧ s.lac.ch[c].st = .enum ∧ s.lac.ch[c].enumDone = true ∧ s.lac.ch[c].idents = [] ∧ 2 ≤ s.lac.ch[c].attempts) ∧
    (∃ s : State, ∃ c : Fin 4, ∃ r : LacChain, s.lacOn c = true ∧ s.cfg.lacChain.find? (fun r => r.chain == c.val) = some r ∧ s.lac.ch[c].st = .enum ∧ s.lac.ch[c].enumDone = true ∧ s.lac.ch[c].idents = [] ∧ s.lac.ch[c].attempts < 2) ∧
    (∃ s : State, ∃ c : Fin 4, ∃ r : LacChain, s.lacOn c = true ∧ s.cfg.lacChain.find? (fun r => r.chain == c.val) = some r ∧ s.lac.ch[c].st = .fault ∧ s.lac.ch[c].faultAt + 10000000 ≤ s.mono) :=
  ⟨⟨(wLac {}), ⟨by decide, by decide, by decide, by decide⟩, 5, by decide⟩,
   ⟨({ wLac {} with cfg := {} }), ⟨by decide, by decide, by decide, by decide⟩, 0, 1, by decide⟩,
   ⟨(wLac { st := .wake, wakeAt := 0 }), 1, ({ chain := 1, nodes := 4 }), by decide, rfl, by decide⟩,
   ⟨(wLac { st := .enum, enumDone := true, idents := [11, 12], attempts := 1 }), 1, ({ chain := 1, nodes := 4 }), by decide, rfl, by decide, by decide, 11, ([12]), by decide⟩,
   ⟨(wLac { st := .enum, enumDone := true, attempts := 2 }), 1, ({ chain := 1, nodes := 4 }), by decide, rfl, by decide⟩,
   ⟨(wLac { st := .enum, enumDone := true, attempts := 1 }), 1, ({ chain := 1, nodes := 4 }), by decide, rfl, by decide⟩,
   ⟨(wLac { st := .fault, faultAt := 0 }), 1, ({ chain := 1, nodes := 4 }), by decide, rfl, by decide⟩⟩

theorem witness_LacingSweeps :
    (∃ s : State, ∃ c : Fin 4, ∃ r : LacChain, s.lacOn c = true ∧ s.cfg.lacChain.find? (fun r => r.chain == c.val) = some r ∧ s.lac.ch[c].st = .run ∧ s.lac.ch[c].evald = true) ∧
    (∃ s : State, s.lacRunning = []) ∧
    (∃ s : State, ∃ c : Fin 4, ∃ r : LacChain, s.lacOn c = true ∧ s.cfg.lacChain.find? (fun r => r.chain == c.val) = some r ∧ s.lac.ch[c].st = .run ∧ let g := s.cfg.lacGlobal.getD {}
  let out := max s.mono (s.lac.ch[c].convAt + 1580 + g.settle * 100)
  ∃ k : LacCmd, ∃ h : Fin 32, ∃ op : LacOp, ∃ rest : List LacOp, ∃ bs : List Byte, s.lac.ch[c].cmd = some k ∧ k.op = .read h.val ∧ s.lac.ch[c].todo = op :: rest ∧ bs.length = 55 ∧ crc16 (bs.take 53) = leAt bs 53 2 ∧ leAt bs 0 1 = 0x81 ∧ leAt bs 1 1 = h.val ∧ leAt bs 2 1 = k.cseq ∧ leAt bs 3 1 = 48 ∧ leAt ((bs.drop 4).take 48) 36 1 = s.lac.swid ∧ bitOf 2 (leAt bs 52 1) = false) ∧
    (∃ s : State, ∃ c : Fin 4, ∃ r : LacChain, s.lacOn c = true ∧ s.cfg.lacChain.find? (fun r => r.chain == c.val) = some r ∧ s.lac.ch[c].st = .run ∧ let g := s.cfg.lacGlobal.getD {}
  let out := max s.mono (s.lac.ch[c].convAt + 1580 + g.settle * 100)
  ∃ k : LacCmd, ∃ bs : List Byte, s.lac.ch[c].cmd = some k ∧ k.retried = false ∧ (bs.length < 2 ∨ crc16 (bs.take (bs.length - 2)) ≠ leAt bs (bs.length - 2) 2)) ∧
    (∃ s : State, ∃ c : Fin 4, ∃ r : LacChain, s.lacOn c = true ∧ s.cfg.lacChain.find? (fun r => r.chain == c.val) = some r ∧ s.lac.ch[c].st = .run ∧ let g := s.cfg.lacGlobal.getD {}
  let out := max s.mono (s.lac.ch[c].convAt + 1580 + g.settle * 100)
  ∃ k : LacCmd, s.lac.ch[c].cmd = some k ∧ k.retried = false ∧ k.sentAt + 100 + 20 * (k.op.form g).2.1 ≤ s.mono) ∧
    (∃ s : State, ∃ c : Fin 4, ∃ r : LacChain, s.lacOn c = true ∧ s.cfg.lacChain.find? (fun r => r.chain == c.val) = some r ∧ s.lac.ch[c].st = .run ∧ let g := s.cfg.lacGlobal.getD {}
  let out := max s.mono (s.lac.ch[c].convAt + 1580 + g.settle * 100)
  ∃ h : Fin 32, h.val < s.lac.ch[c].found ∧ 3 ≤ s.lac.ch[c].node[h].miss) :=
  ⟨⟨(wLac wRun), 1, ({ chain := 1, nodes := 4 }), by decide, rfl, by decide⟩,
   ⟨(wLac {}), by decide⟩,
   ⟨(wLac { wRun with cmd := some wRead, todo := [.read 2] }), 1, ({ chain := 1, nodes := 4 }), by decide, rfl, by decide, wRead, 1, (.read 2), ([]), (wResp 1 7 48 wBlock), rfl, by decide +kernel⟩,
   ⟨(wLac { wRun with cmd := some wRead }), 1, ({ chain := 1, nodes := 4 }), by decide, rfl, by decide, wRead, (List.replicate 9 1), rfl, by decide +kernel⟩,
   ⟨(wLac { wRun with cmd := some wRead }), 1, ({ chain := 1, nodes := 4 }), by decide, rfl, by decide, wRead, rfl, by decide⟩,
   ⟨(wLac { wRun with node := (Vector.replicate 32 {}).set 1 { miss := 3 } }), 1, ({ chain := 1, nodes := 4 }), by decide, rfl, by decide, 1, by decide⟩⟩

theorem witness_LacingWireTests :
    (∃ s : State, ∃ c : Fin 4, ∃ r : LacChain, s.lacOn c = true ∧ s.cfg.lacChain.find? (fun r => r.chain == c.val) = some r ∧ s.lac.ch[c].st = .run ∧ ∃ w : Word, ∃ h : Fin 32, s.HostReady 0x24004 ∧ bitOf 7 w.toNat = true ∧ field 0 2 w.toNat = c.val ∧ field 2 5 w.toNat = h.val ∧ h.val < s.lac.ch[c].found ∧ s.lac.ch[c].node[h].maskW = 0 ∧ s.lac.ch[c].req = none ∧ s.lac.ch[c].owt = none ∧ (∀ k, s.lac.ch[c].cmd = some k → (k.op.form (s.cfg.lacGlobal.getD {})).1 ≠ 0x20) ∧ (∀ j : Fin 32, j.val < s.lac.ch[c].found → s.lac.ch[c].node[j].suspect = 0)) ∧
    (∃ s : State, ∃ c : Fin 4, ∃ r : LacChain, s.lacOn c = true ∧ s.cfg.lacChain.find? (fun r => r.chain == c.val) = some r ∧ s.lac.ch[c].st = .run ∧ ∃ w : Word, ∃ h : Fin 32, s.HostReady 0x24004 ∧ bitOf 7 w.toNat = true ∧ field 0 2 w.toNat = c.val ∧ field 2 5 w.toNat = h.val ∧ (s.lac.ch[c].found ≤ h.val ∨ s.lac.ch[c].node[h].maskW ≠ 0 ∨ s.lac.ch[c].req.isSome = true ∨ s.lac.ch[c].owt.isSome = true ∨ ∃ k, s.lac.ch[c].cmd = some k ∧ (k.op.form (s.cfg.lacGlobal.getD {})).1 = 0x20)) ∧
    (∃ s : State, ∃ c : Fin 4, ∃ r : LacChain, s.lacOn c = true ∧ s.cfg.lacChain.find? (fun r => r.chain == c.val) = some r ∧ s.lac.ch[c].st = .run ∧ ∃ h : Nat, ∃ t0 : Nat, ∃ again : Bool, s.lac.ch[c].owt = some (h, t0, again) ∧ s.lac.ch[c].cmd = none ∧ t0 + (s.cfg.lacGlobal.getD {}).owSettle * 2000 + 2600 ≤ s.mono) ∧
    (∃ s : State, ∃ c : Fin 4, ∃ r : LacChain, s.lacOn c = true ∧ s.cfg.lacChain.find? (fun r => r.chain == c.val) = some r ∧ s.lac.ch[c].st = .run ∧ ∃ h : Nat, ∃ t0 : Nat, ∃ again : Bool, s.lac.ch[c].owt = some (h, t0, again) ∧ s.lac.ch[c].cmd = none ∧ t0 + (s.cfg.lacGlobal.getD {}).owSettle * 2000 + 2600 ≤ s.mono ∧ let out := max s.mono (s.lac.ch[c].convAt + 1580 + (s.cfg.lacGlobal.getD {}).settle * 100)
  ∃ bs : List Byte, h < 32 ∧ s.lac.ch[c].step = 5 ∧ s.lac.ch[c].busy = [] ∧ s.lac.ch[c].todo = [] ∧ bs.length = 39 ∧ crc16 (bs.take 37) = leAt bs 37 2 ∧ leAt bs 0 1 = 0x81 ∧ leAt bs 1 1 = h ∧ leAt bs 2 1 = s.lac.ch[c].cseq ∧ leAt bs 3 1 = 32 ∧ bitOf 2 (leAt bs 36 1) = false) ∧
    (∃ s : State, ∃ c : Fin 4, ∃ r : LacChain, s.lacOn c = true ∧ s.cfg.lacChain.find? (fun r => r.chain == c.val) = some r ∧ s.lac.ch[c].st = .run ∧ ∃ h : Fin 32, h.val < s.lac.ch[c].found ∧ s.lac.ch[c].node[h].late = false ∧ (s.lac.ch[c].node[h].testedAt.getD s.lac.ch[c].admitAt) + (s.cfg.lacGlobal.getD {}).owPeriod * 120000000 ≤ s.mono) :=
  ⟨⟨(wLac wRun), 1, ({ chain := 1, nodes := 4 }), by decide, rfl, by decide, 0x89, 2, ⟨by decide, by decide, by decide, by decide⟩, by decide, by decide, by decide, by decide, by decide, by decide, by decide, ofAll (by decide), by decide⟩,
   ⟨(wLac wRun), 1, ({ chain := 1, nodes := 4 }), by decide, rfl, by decide, 0x8D, 3, ⟨by decide, by decide, by decide, by decide⟩, by decide⟩,
   ⟨(wLac { wRun with owt := some (2, 0, false) }), 1, ({ chain := 1, nodes := 4 }), by decide, rfl, by decide, 2, 0, false, rfl, by decide⟩,
   ⟨(wLac { wRun with owt := some (2, 0, false), step := 5, cseq := 5 }), 1, ({ chain := 1, nodes := 4 }), by decide, rfl, by decide, 2, 0, false, rfl, by decide, by decide, (wResp 2 5 32 (List.replicate 32 1)), by decide +kernel⟩,
   ⟨(wLac wRun), 1, ({ chain := 1, nodes := 4 }), by decide, rfl, by decide, 2, by decide⟩⟩

end Sys2Proof.Tests.WitnessLacing
end

