-- ==== Sys2Proof/Tests/WitnessOcpp.lean ====
section
/-! SUPPORT. For each statement about the OCPP client, states and operands that meet its hypotheses. -/

namespace Sys2Proof.Tests.WitnessOcpp

set_option Elab.async false

open Sys2Proof Sys2Proof.Machine

/-- The client is in state `n`, port 0 in state `q`. -/
def wOcpp (n : Nat) (q : PortState) : State :=
  { wPort { st := q } with cfg := { (wPort {}).cfg with hstOcpp := some {}, cnpIntake := some {} }, img := { st := .run }, hst := { ocpp := { st := n } } }

def wTx : OcppTx := { num := 9 }

/-- A client in state `n` with the transaction `x` on port 0. -/
def wTxn (n : Nat) (x : OcppTx) : State :=
  { wOcpp n .energy with hst := { ocpp := { st := n, ctr := 4, tx := (Vector.replicate 12 none).set 0 (some x) } } }

/-- The record of session 9 has arrived. -/
def wRecorded (s : State) : State :=
  { s with slvLink := { done := [(2, false, [1, 1, 0, 0, 9, 0, 0, 0])] } }

/-- An earlier transaction of port 0 waits for a record that will not be formed. -/
def wOld : State :=
  { wTxn 3 { wTx with num := 10 } with slvLink := { noRec := [9] }, hst := { (wTxn 3 { wTx with num := 10 }).hst with ocpp := { (wTxn 3 { wTx with num := 10 }).hst.ocpp with old := [(0, { wTx with endAt := some 5 })] } } }

def wProf : Profile := { id := 3, periods := [(0, 11000)] }

theorem witness_OcppRequestsAct :
    (∃ s : State, s.clientOn = true) ∧
    (∃ s : State, s.online = true ∧ ∃ f : Profile, profileRejected s.noPhaseVoltage s.hst.ocpp f = true) ∧
    (∃ s : State, s.online = true ∧ ∃ f : Profile, profileRejected s.noPhaseVoltage s.hst.ocpp f = false) ∧
    (∃ s : State, s.online = true ∧ ∃ p : Fin 12, s.hasPort p = true) ∧
    (∃ s : State, s.online = true ∧ ∃ p : Fin 12, s.hasPort p = true ∧ s.ports[p].run = true ∧ s.ports[p].st = .idle) ∧
    (∃ s : State, s.online = true ∧ ∃ n : Nat, s.txPort n = none) ∧
    (∃ s : State, s.online = true ∧ ∃ n : Nat, ∃ p : Fin 12, s.txPort n = some p ∧ s.ports[p].st = .energy) ∧
    (∃ s : State, s.online = true ∧ s.rst.pend = none ∧ s.gaiterSafe = true) ∧
    (∃ s : State, s.online = true ∧ s.rst.pend.isSome = true) ∧
    (∃ s : State, s.online = true ∧ ∃ b : String, b ∈ ["H", "I", "L", "N", "O", "P"]) ∧
    (∃ s : State, s.online = true ∧ ∃ p : Fin 12, s.portUp p = true ∧ s.ports[p].st = .setup ∧ s.ports[p].auth = .asked) :=
  ⟨⟨(wOcpp 3 .energy), by decide⟩,
   ⟨(wOcpp 3 .energy), by decide, ({ wProf with purpose := .tx }), by decide⟩,
   ⟨(wOcpp 3 .energy), by decide, wProf, by decide⟩,
   ⟨(wOcpp 3 .idle), by decide, 1, by decide⟩,
   ⟨(wOcpp 3 .idle), by decide, 1, by decide⟩,
   ⟨(wOcpp 3 .idle), by decide, 9, by decide⟩,
   ⟨(wTxn 3 wTx), by decide, 9, 0, rfl, by decide⟩,
   ⟨({ wOcpp 3 .idle with gtr := { st := .hold } }), by decide⟩,
   ⟨({ wOcpp 3 .idle with rst := { wUp.rst with pend := some { src := 4, at_ := 5 } } }), by decide⟩,
   ⟨(wOcpp 3 .idle), by decide, ("O"), by decide⟩,
   ⟨({ wOcpp 3 .setup with ports := Vector.replicate 12 { st := .setup, auth := .asked, run := true } }), by decide, 0, by decide⟩⟩

theorem witness_OcppTransactionsAct :
    (∃ s : State, s.clientOn = true ∧ ∃ p : Fin 12, ∃ x : OcppTx, s.hst.ocpp.tx[p] = some x ∧ s.mono < x.meterAt + s.meterInt * 1000000) ∧
    (∃ s : State, s.clientOn = true ∧ ∃ p : Fin 12, ∃ x : OcppTx, s.hst.ocpp.tx[p] = some x ∧ x.endAt = none ∧ x.meterAt + s.meterInt * 1000000 ≤ s.mono ∧ s.hst.ocpp.st = 3) ∧
    (∃ s : State, s.clientOn = true ∧ ∃ p : Fin 12, ∃ x : OcppTx, s.hst.ocpp.tx[p] = some x ∧ x.endAt = none ∧ x.meterAt + s.meterInt * 1000000 ≤ s.mono ∧ s.hst.ocpp.st = 4 ∧ s.hst.ocpp.queue.length < 4096) ∧
    (∃ s : State, s.clientOn = true ∧ ∃ p : Fin 12, ∃ x : OcppTx, s.endedTxs p = [x] ∧ s.hst.ocpp.st = 3 ∧ ∃ r : Nat × List Byte, s.slvLink.recordOf x.num = some r) ∧
    (∃ s : State, s.clientOn = true ∧ ∃ p : Fin 12, ∃ x : OcppTx, s.endedTxs p = [x] ∧ s.hst.ocpp.st = 3 ∧ s.slvLink.recordOf x.num = none ∧ x.late = false ∧ s.noRecord x.num = true) ∧
    (∃ s : State, s.clientOn = true ∧ ∃ p : Fin 12, ∃ x : OcppTx, s.endedTxs p = [x] ∧ s.hst.ocpp.st = 3 ∧ ∃ t0 : Nat, x.endAt = some t0 ∧ x.late = false ∧ t0 + 90000000 ≤ s.mono) ∧
    (∃ s : State, s.clientOn = true ∧ s.hst.ocpp.st = 3) ∧
    (∃ s : State, s.clientOn = true ∧ s.hst.ocpp.st = 4 ∧ s.hst.ocpp.lostAt + s.hst.ocpp.delay * 1000000 ≤ s.mono) ∧
    (∃ s : State, s.clientOn = true ∧ s.hst.ocpp.st = 4 ∧ s.mono < s.hst.ocpp.lostAt + s.hst.ocpp.delay * 1000000) ∧
    (∃ s : State, s.clientOn = true ∧ s.hst.ocpp.st = 2) :=
  ⟨⟨(wTxn 3 { wTx with meterAt := 1000000000000 }), by decide, 0, ({ wTx with meterAt := 1000000000000 }), rfl, by decide⟩,
   ⟨(wTxn 3 wTx), by decide, 0, wTx, rfl, by decide⟩,
   ⟨(wTxn 4 wTx), by decide, 0, wTx, rfl, by decide⟩,
   ⟨(wRecorded (wTxn 3 { wTx with endAt := some 5 })), by decide, 0, ({ wTx with endAt := some 5 }), by decide, by decide, ((2, [1, 1, 0, 0, 9, 0, 0, 0])), rfl⟩,
   ⟨wOld, by decide, 0, ({ wTx with endAt := some 5 }), by decide⟩,
   ⟨(wTxn 3 { wTx with endAt := some 5 }), by decide, 0, ({ wTx with endAt := some 5 }), by decide, by decide, 5, rfl, by decide⟩,
   ⟨(wOcpp 3 .idle), by decide⟩,
   ⟨(wOcpp 4 .idle), by decide⟩,
   ⟨({ wOcpp 4 .idle with hst := { ocpp := { st := 4, lostAt := 1000000000000 } } }), by decide⟩,
   ⟨(wOcpp 2 .idle), by decide⟩⟩

end Sys2Proof.Tests.WitnessOcpp
end

