-- ==== Sys2Proof/Tests/WitnessPorts.lean ====
section
/-! SUPPORT. For each statement about the vehicle ports, states and operands that meet its hypotheses. -/

namespace Sys2Proof.Tests.WitnessPorts

set_option Elab.async false

open Sys2Proof Sys2Proof.Machine

def wCables : VpPort := { port := 0, iso2 := true, iso20 := true, iRated := 2000, vRated := 1000, chkCu := 3 }

/-- Port 0 with its record. -/
def wVp (q : Port) : State := { wPort q with cfg := { vpPort := [wCables] } }

/-- Port 0 with an open connection whose session is 7. -/
def wConn (q : Port) : State := wVp { q with conn := some { app := true, sid := some 7 } }

def wHead : V2gHead := { sid := 7 }

def wB : PilotPeriod := { hi := 90, lo := -120, duty := 50 }

theorem witness_PortTriggersAct :
    (∃ s : State, ∃ p : Fin 12, s.stackUp p = true ∧ ∃ x : PilotPeriod, ∃ y : PilotPeriod, ∃ z : PilotPeriod, ∃ k : PilotClass, pilotClass s.ports[p].st.pwm x.hi x.lo = k ∧ pilotClass s.ports[p].st.pwm y.hi y.lo = k ∧ pilotClass s.ports[p].st.pwm z.hi z.lo = k ∧ s.ports[p].cls ≠ some k ∧ (k = .b ∨ k = .c) ∧ s.ports[p].st = .setup) ∧
    (∃ s : State, ∃ p : Fin 12, s.stackUp p = true ∧ ∃ x : PilotPeriod, ∃ y : PilotPeriod, ∃ z : PilotPeriod, ∃ k : PilotClass, pilotClass s.ports[p].st.pwm x.hi x.lo = k ∧ pilotClass s.ports[p].st.pwm y.hi y.lo = k ∧ pilotClass s.ports[p].st.pwm z.hi z.lo = k ∧ s.ports[p].cls ≠ some k ∧ k ≠ .c ∧ s.ports[p].st = .energy ∧ s.ports[p].shortAt = none) ∧
    (∃ s : State, ∃ p : Fin 12, s.stackUp p = true ∧ ∃ mv, (s.vp p).pxLo ≤ mv ∧ mv ≤ (s.vp p).pxHi ∧ s.ports[p].st = .setup) ∧
    (∃ s : State, ∃ p : Fin 12, s.stackUp p = true ∧ ∃ mv, (s.vp p).pxHi < mv ∧ s.ports[p].prox = true ∧ s.ports[p].st = .energy ∧ s.ports[p].shortAt = none) ∧
    (∃ s : State, ∃ p : Fin 12, s.stackUp p = true ∧ s.ports[p].drive = .pull ∧ s.ports[p].kCmdAt + (s.vp p).tPull * 10000 ≤ s.mono) ∧
    (∃ s : State, ∃ p : Fin 12, s.stackUp p = true ∧ ∃ f0, ∃ f1, (f0 && f1) = false ∧ s.ports[p].kCmd = true ∧ s.ports[p].agreed = true ∧ s.ports[p].st = .energy ∧ s.ports[p].shortAt = none ∧ 0 < (s.vp p).tFb ∧ s.ports[p].mis = .none) ∧
    (∃ s : State, ∃ p : Fin 12, s.stackUp p = true ∧ ∃ f0, ∃ f1, (f0 && f1) = false ∧ s.ports[p].kCmd = true ∧ s.ports[p].agreed = true ∧ s.ports[p].st = .energy ∧ s.ports[p].shortAt = none ∧ 0 < (s.vp p).tFb ∧ ∃ t0, s.ports[p].mis = .since t0 ∧ t0 + (s.vp p).tFb * 1000 ≤ s.mono) ∧
    (∃ s : State, ∃ p : Fin 12, s.stackUp p = true ∧ s.ports[p].kCmd = true ∧ s.ports[p].st = .precharge ∧ s.ports[p].pdMet = true ∧ s.ports[p].shortAt = none) ∧
    (∃ s : State, ∃ p : Fin 12, s.stackUp p = true ∧ s.ports[p].kCmd = false ∧ s.ports[p].st = .opening) ∧
    (∃ s : State, ∃ p : Fin 12, s.stackUp p = true ∧ ∃ t0, s.ports[p].abruptAt = some t0 ∧ s.ports[p].kCmd = true ∧ (s.ports[p].measI.natAbs < (s.vp p).iOpen * 10 ∨ t0 + 100000 ≤ s.mono)) ∧
    (∃ s : State, ∃ p : Fin 12, s.stackUp p = true ∧ ∃ d, ∃ m, s.ports[p].failPend = some (d, m) ∧ d ≤ s.mono) :=
  ⟨⟨(wVp { st := .setup }), 0, by decide, wB, wB, wB, .b, by decide⟩,
   ⟨(wVp { st := .energy, kCmd := true, agreed := true, prox := true, cls := some .c }), 0, by decide, wB, wB, wB, .b, by decide⟩,
   ⟨(wVp { st := .setup }), 0, by decide, 0, by decide⟩,
   ⟨(wVp { st := .energy, kCmd := true, agreed := true, prox := true, cls := some .c }), 0, by decide, 101, by decide⟩,
   ⟨(wVp { drive := .pull }), 0, by decide⟩,
   ⟨(wVp { st := .energy, kCmd := true, agreed := true, prox := true, cls := some .c }), 0, by decide, true, false, by decide⟩,
   ⟨(wVp { st := .energy, kCmd := true, agreed := true, prox := true, cls := some .c, mis := .since 0 }), 0, by decide, true, false, by decide, by decide, by decide, by decide, by decide, by decide, 0, by decide⟩,
   ⟨(wVp { st := .precharge, kCmd := true, pdMet := true }), 0, by decide⟩,
   ⟨(wVp { st := .opening, kCmd := false, endR := .host }), 0, by decide⟩,
   ⟨(wVp { st := .fault, kCmd := true, abruptAt := some 5 }), 0, by decide, 5, rfl, by decide⟩,
   ⟨(wVp { st := .ended, failPend := some (4, true), conn := some {} }), 0, by decide, 4, true, rfl, by decide⟩⟩

theorem witness_PortTimersAct :
    (∃ s : State, ∃ p : Fin 12, s.stackUp p = true ∧ s.ports[p].shortAt = none ∧ s.ports[p].st = .link ∧ s.ports[p].linkAt + (s.vp p).tLink * 1000000 ≤ s.mono) ∧
    (∃ s : State, ∃ p : Fin 12, s.stackUp p = true ∧ s.ports[p].shortAt = none ∧ s.ports[p].st = .link) ∧
    (∃ s : State, ∃ p : Fin 12, s.stackUp p = true ∧ s.ports[p].shortAt = none ∧ s.ports[p].st = .setup ∧ (s.ports[p].auth = .asked ∨ s.ports[p].auth = .waiting) ∧ s.ports[p].authAt + (s.vp p).tAuth * 1000000 ≤ s.mono) ∧
    (∃ s : State, ∃ p : Fin 12, s.stackUp p = true ∧ s.ports[p].shortAt = none ∧ ∃ d, seqLimit s.ports[p].st = some d ∧ s.ports[p].seqAt + d ≤ s.mono) ∧
    (∃ s : State, ∃ p : Fin 12, s.stackUp p = true ∧ s.ports[p].shortAt = none ∧ s.ports[p].st = .check ∧ s.ports[p].checkPassed = false ∧ s.ports[p].checkAt + 20000000 ≤ s.mono) ∧
    (∃ s : State, ∃ p : Fin 12, s.stackUp p = true ∧ s.ports[p].shortAt = none ∧ ∃ t0, s.ports[p].checkOkSince = some t0 ∧ t0 + (s.vp p).tImd * 100000 ≤ s.mono ∧ s.ports[p].st = .check ∧ s.ports[p].checkPassed = false ∧ checkHolds (s.pctx p) = true) ∧
    (∃ s : State, ∃ p : Fin 12, s.stackUp p = true ∧ s.ports[p].shortAt = none ∧ s.ports[p].st = .precharge ∧ s.ports[p].pdAt = none ∧ s.ports[p].pcAt + (s.vp p).tPc * 100000 ≤ s.mono) ∧
    (∃ s : State, ∃ p : Fin 12, s.stackUp p = true ∧ s.ports[p].shortAt = none ∧ ∃ t0, s.ports[p].pdAt = some t0 ∧ t0 + 1000000 ≤ s.mono ∧ s.ports[p].st = .precharge ∧ s.ports[p].pdMet = false) ∧
    (∃ s : State, ∃ p : Fin 12, s.stackUp p = true ∧ s.ports[p].shortAt = none ∧ ∃ t0, s.ports[p].shortSince = some t0 ∧ t0 + (s.vp p).tSc * 10000 ≤ s.mono ∧ (s.ports[p].st = .check ∨ s.ports[p].st = .precharge) ∧ (s.vp p).chkCu ≠ 0xFF) ∧
    (∃ s : State, ∃ p : Fin 12, s.stackUp p = true ∧ s.ports[p].shortAt = none ∧ s.ports[p].st = .stopping ∧ (s.ports[p].measI.natAbs < (s.vp p).iOpen * 10 ∨ s.ports[p].stopAt + (s.vp p).tStop * 100000 ≤ s.mono)) ∧
    (∃ s : State, ∃ p : Fin 12, s.stackUp p = true ∧ s.ports[p].shortAt = none ∧ s.ports[p].st = .fault ∧ s.ports[p].prox = false ∧ s.ports[p].faultAt + 5000000 ≤ s.mono) ∧
    (∃ s : State, ∃ p : Fin 12, ∃ t0 : Nat, s.stackUp p = true ∧ s.ports[p].shortAt = some t0 ∧ (s.ports[p].measI.natAbs < 5 ∨ t0 + 20000 ≤ s.mono)) :=
  ⟨⟨(wVp { st := .link }), 0, by decide⟩,
   ⟨(wVp { st := .link }), 0, by decide⟩,
   ⟨(wVp { st := .setup, auth := .asked }), 0, by decide⟩,
   ⟨(wVp { st := .setup }), 0, by decide, by decide, 60000000, rfl, by decide⟩,
   ⟨(wVp { st := .check }), 0, by decide⟩,
   ⟨({ wVp { st := .check, checkOkSince := some 0, measV := 6000 } with gtr := { ins := (Vector.replicate 16 {}).set 0 { closed := true } } }), 0, by decide, by decide, 0, rfl, by decide +kernel⟩,
   ⟨(wVp { st := .precharge }), 0, by decide⟩,
   ⟨(wVp { st := .precharge, pdAt := some 0 }), 0, by decide, by decide, 0, rfl, by decide⟩,
   ⟨(wVp { st := .check, shortSince := some 0 }), 0, by decide, by decide, 0, rfl, by decide⟩,
   ⟨(wVp { st := .stopping }), 0, by decide⟩,
   ⟨(wVp { st := .fault }), 0, by decide⟩,
   ⟨(wVp { st := .check, shortAt := some 0 }), 0, 0, by decide, rfl, by decide⟩⟩

theorem witness_VehicleMessagesAct :
    (∃ s : State, ∃ p : Fin 12, s.stackUp p = true ∧ s.ports[p].conn = none ∧ s.ports[p].st = .setup ∧ ∃ tls : Option TlsHello, (∀ h, tls = some h → h.ok = true) ∧ (tls = none ∨ s.serviceKey 0 = true)) ∧
    (∃ s : State, ∃ p : Fin 12, s.stackUp p = true ∧ s.ports[p].conn = none ∧ s.ports[p].st = .setup ∧ ∃ h : TlsHello, (s.serviceKey 0 = false ∨ h.ok = false)) ∧
    (∃ s : State, ∃ p : Fin 12, s.stackUp p = true ∧ ∃ k : Conn, s.ports[p].conn = some k ∧ s.ports[p].failPend = none ∧ s.ports[p].st = .energy ∧ s.ports[p].shortAt = none) ∧
    (∃ s : State, ∃ p : Fin 12, s.stackUp p = true ∧ ∃ k : Conn, s.ports[p].conn = some k ∧ s.ports[p].failPend = none ∧ s.ports[p].st = .setup) ∧
    (∃ s : State, ∃ p : Fin 12, s.stackUp p = true ∧ ∃ k : Conn, s.ports[p].conn = some k ∧ s.ports[p].failPend = none ∧ ∃ h : V2gHead, ∃ offers : List Proto, ∃ o : Proto, h.formOk = true ∧ h.len ≤ 16376 ∧ h.exiOk = true ∧ (k.sid = none ∨ k.sid = some h.sid) ∧ (k.app = true → k.sid ≠ none) ∧ s.ports[p].st = .setup ∧ offers.find? (s.pctx p).carries = some o) ∧
    (∃ s : State, ∃ p : Fin 12, s.stackUp p = true ∧ ∃ k : Conn, s.ports[p].conn = some k ∧ s.ports[p].failPend = none ∧ ∃ h : V2gHead, h.formOk = true ∧ h.len ≤ 16376 ∧ h.exiOk = true ∧ k.app = true ∧ s.ports[p].st = .setup ∧ s.clk.rngFail = false) ∧
    (∃ s : State, ∃ p : Fin 12, s.stackUp p = true ∧ ∃ h, s.V2gReady p h ∧ s.ports[p].st = .setup) ∧
    (∃ s : State, ∃ p : Fin 12, s.stackUp p = true ∧ ∃ h, s.V2gReady p h ∧ s.ports[p].st = .setup ∧ s.ports[p].auth = .given) ∧
    (∃ s : State, ∃ p : Fin 12, s.stackUp p = true ∧ ∃ h, s.V2gReady p h ∧ s.ports[p].st = .setup ∧ s.ports[p].auth = .given ∧ s.gtr.gates[p].en = true) ∧
    (∃ s : State, ∃ p : Fin 12, s.stackUp p = true ∧ ∃ h, s.V2gReady p h ∧ s.ports[p].st = .setup ∧ (s.vp p).pnc = true ∧ s.ports[p].proto = some .iso20) ∧
    (∃ s : State, ∃ p : Fin 12, s.stackUp p = true ∧ ∃ h, s.V2gReady p h ∧ s.ports[p].st = .check ∧ s.ports[p].checkPassed = true) ∧
    (∃ s : State, ∃ p : Fin 12, s.stackUp p = true ∧ ∃ h, s.V2gReady p h ∧ s.ports[p].st = .energy) ∧
    (∃ s : State, ∃ p : Fin 12, s.stackUp p = true ∧ ∃ h, s.V2gReady p h ∧ s.ports[p].st = .energy) :=
  ⟨⟨(wVp { st := .setup }), 0, by decide, by decide, by decide, none, ofAll (by decide), by decide⟩,
   ⟨(wVp { st := .setup }), 0, by decide, by decide, by decide, ({}), by decide⟩,
   ⟨(wConn { st := .energy }), 0, by decide, ({ app := true, sid := some 7 }), rfl, by decide⟩,
   ⟨(wConn { st := .setup }), 0, by decide, ({ app := true, sid := some 7 }), rfl, by decide⟩,
   ⟨(wVp { st := .setup, conn := some { tls := true } }), 0, by decide, ({ tls := true }), rfl, by decide, wHead, ([.din, .iso20, .iso2]), .iso20, by decide, by decide, by decide, by decide, by decide, by decide, rfl⟩,
   ⟨(wConn { st := .setup }), 0, by decide, ({ app := true, sid := some 7 }), rfl, by decide, wHead, by decide⟩,
   ⟨(wConn { st := .setup }), 0, by decide, wHead, ⟨by decide, by decide, by decide, by decide, by decide, _, rfl, by decide, by decide⟩, by decide⟩,
   ⟨(wConn { st := .setup, auth := .given }), 0, by decide, wHead, ⟨by decide, by decide, by decide, by decide, by decide, _, rfl, by decide, by decide⟩, by decide⟩,
   ⟨({ wConn { st := .setup, auth := .given } with gtr := { gates := Vector.replicate 12 { en := true } } }), 0, by decide, wHead, ⟨by decide, by decide, by decide, by decide, by decide, _, rfl, by decide, by decide⟩, by decide⟩,
   ⟨({ wConn { st := .setup, proto := some .iso20 } with cfg := { vpPort := [{ wCables with pnc := true }] } }), 0, by decide, wHead, ⟨by decide, by decide, by decide, by decide, by decide, _, rfl, by decide, by decide⟩, by decide, by decide, rfl⟩,
   ⟨(wConn { st := .check, checkPassed := true }), 0, by decide, wHead, ⟨by decide, by decide, by decide, by decide, by decide, _, rfl, by decide, by decide⟩, by decide⟩,
   ⟨(wConn { st := .energy }), 0, by decide, wHead, ⟨by decide, by decide, by decide, by decide, by decide, _, rfl, by decide, by decide⟩, by decide⟩,
   ⟨(wConn { st := .energy }), 0, by decide, wHead, ⟨by decide, by decide, by decide, by decide, by decide, _, rfl, by decide, by decide⟩, by decide⟩⟩

theorem witness_PortHostActs :
    (∃ s : State, ∃ p : Fin 12, s.stackUp p = true ∧ s.ports[p].st = .energy) ∧
    (∃ s : State, ∃ p : Fin 12, s.stackUp p = true ∧ s.clearing = true ∧ s.ports[p].st.inSession = true ∧ 0 < (s.vp p).tFb ∧ (s.ports[p].kCmd = false → s.ports[p].mis = .none)) ∧
    (∃ s : State, ∃ p : Fin 12, s.HostReady (vpCtrlAddr p) ∧ s.portUp p = true ∧ s.ports[p].st = .idle) ∧
    (∃ s : State, ∃ p : Fin 12, s.HostReady (vpCtrlAddr p) ∧ s.portUp p = true ∧ s.ports[p].st = .energy) ∧
    (∃ s : State, ∃ p : Fin 12, s.HostReady (vpCtrlAddr p) ∧ s.portUp p = true ∧ s.ports[p].st = .locked ∧ s.ports[p].enable = true ∧ s.ports[p].k0 = false ∧ s.ports[p].k1 = false) ∧
    (∃ s : State, ∃ p : Fin 12, s.HostReady (vpCtrlAddr p) ∧ s.portUp p = true ∧ s.ports[p].inBpt = true) :=
  ⟨⟨(wVp { st := .energy }), 0, by decide⟩,
   ⟨({ wVp { st := .energy } with gtr := { st := .clearing } }), 0, by decide⟩,
   ⟨(wVp {}), 11, ⟨by decide, by decide, by decide, by decide⟩, by decide⟩,
   ⟨(wVp { st := .energy }), 0, ⟨by decide, by decide, by decide, by decide⟩, by decide⟩,
   ⟨(wVp { st := .locked }), 0, ⟨by decide, by decide, by decide, by decide⟩, by decide⟩,
   ⟨(wVp { st := .energy, bpt := true }), 0, ⟨by decide, by decide, by decide, by decide⟩, by decide⟩⟩

end Sys2Proof.Tests.WitnessPorts
end

