-- ==== Sys2Proof/Tests/WitnessPower.lean ====
section
/-! SUPPORT. For each statement about the Cuff array and the Hem converter, states and operands that meet its hypotheses. -/

namespace Sys2Proof.Tests.WitnessPower

set_option Elab.async false

open Sys2Proof Sys2Proof.Machine

/-- Every Cuff channel holds `c`. -/
def wCuf (c : CufCh) : State :=
  { wUp with rst := { wUp.rst with lock := Vector.replicate 3 true }, cuf := { ch := Vector.replicate 16 c } }

/-- A channel in use, without fault. -/
def wOn : CufCh := { cfg := some { retryN := 3 }, on := true, duty := 1000 }

def wBroken : CufCh := { wOn with fault := true, cause := .overcurrent, faultAt := 0 }

/-- A clamp event of `e` mJ in one sample. -/
def wClamp (e : Nat) : ClampSample := { mv := 1000000, ma := 1000, us := e }

/-- Hem with a record of two phases and two voltages. -/
def wHemRec : HemCfg :=
  { phases := 3, vout := (Vector.replicate 8 1200).set 0 0, vinMin := 50, vinMax := 60 }

def wMeas (v i : Nat) : HemMeas := { vfb := v, vin := i, sense := Vector.replicate 4 [100, 200] }

def wHem (h : Hem) : State := { wUp with hem := { h with cfg := some wHemRec } }

def wHemRun : Hem := { st := .run, vout := 1200, vref := 1200, target := 1200, vin := 55, active := 3 }

/-- Hem in state `st`. -/
def wHemSt (st : HemSt) : State := wHem { wHemRun with st := st }

theorem witness_CuffProtects :
    (∃ n : Fin 16, ∃ ms : List CufMeas, ∃ m : CufMeas, ms.getD n {} = m) ∧
    (∃ s : State, ∃ n : Fin 16, ∃ ms : List CufMeas, ∃ m : CufMeas, ms.getD n {} = m ∧ let b := s.cuf.begins s.pgRate s.mono s.cuf.ch[n]
  let k := s.cuf.ch[n].begin b m
  cufOn s.cuf k = false ∧ m.tj ≤ 150) ∧
    (∃ s : State, ∃ n : Fin 16, ∃ ms : List CufMeas, ∃ m : CufMeas, ms.getD n {} = m ∧ let b := s.cuf.begins s.pgRate s.mono s.cuf.ch[n]
  let k := s.cuf.ch[n].begin b m
  ∃ t0 : Nat, cufOn s.cuf k = true ∧ m.lim = true ∧ s.cuf.ch[n].shortSince = some t0 ∧ t0 + 50 ≤ s.mono) ∧
    (∃ s : State, ∃ n : Fin 16, ∃ ms : List CufMeas, ∃ m : CufMeas, ms.getD n {} = m ∧ let b := s.cuf.begins s.pgRate s.mono s.cuf.ch[n]
  let k := s.cuf.ch[n].begin b m
  s.cuf.ch[n].fault = false ∧ m.lim = false ∧ 150 < m.tj) ∧
    (∃ s : State, ∃ n : Fin 16, ∃ ms : List CufMeas, ∃ m : CufMeas, ms.getD n {} = m ∧ let b := s.cuf.begins s.pgRate s.mono s.cuf.ch[n]
  let k := s.cuf.ch[n].begin b m
  ∃ r : CufChan, ∃ t0 : Nat, cufOn s.cuf k = true ∧ m.lim = false ∧ m.tj ≤ 150 ∧ s.cuf.ch[n].cfg = some r ∧ r.ilimC * 10 < k.compared m ∧ s.cuf.ch[n].ocSince = some t0 ∧ t0 + r.tOc * 1000 ≤ s.mono) ∧
    (∃ s : State, ∃ n : Fin 16, ∃ r : CufChan, s.cuf.ch[n].cfg = some r ∧ s.cuf.ch[n].fault = true ∧ r.retryN ≠ 0 ∧ s.cuf.ch[n].faultAt + r.retryT * 100000 ≤ s.mono ∧ let due := s.cuf.ch[n].faultAt + r.retryT * 100000
  (s.cuf.ch[n].retryLog.filter (fun t => decide (due < t + 60000000))).length < r.retryN) ∧
    (∃ s : State, ∃ n : Fin 16, ∃ r : CufChan, s.cuf.ch[n].cfg = some r ∧ s.cuf.ch[n].fault = true ∧ r.retryN ≠ 0 ∧ s.cuf.ch[n].faultAt + r.retryT * 100000 ≤ s.mono ∧ let due := s.cuf.ch[n].faultAt + r.retryT * 100000
  r.retryN ≤ (s.cuf.ch[n].retryLog.filter (fun t => decide (due < t + 60000000))).length) ∧
    (∃ s : State, ∃ n : Fin 16, ∃ xs : List ClampSample, 150 < clampEnergy xs ∧ s.cuf.ch[n].lock = false) ∧
    (∃ s : State, ∃ n : Fin 16, ∃ xs : List ClampSample, ∃ e : Nat, clampEnergy xs = e ∧ e ≤ 150 ∧ e + cufSum s.mono s.cuf.ch[n] < 1200) :=
  ⟨⟨1, (List.replicate 16 { i := 5 }), ({ i := 5 }), by decide⟩,
   ⟨(wCuf {}), 1, (List.replicate 16 {}), ({}), by decide +kernel⟩,
   ⟨(wCuf { wOn with shortSince := some 0 }), 1, (List.replicate 16 { lim := true }), ({ lim := true }), by decide, 0, by decide +kernel, by decide, rfl, by decide⟩,
   ⟨(wCuf wOn), 1, (List.replicate 16 { tj := 151 }), ({ tj := 151 }), by decide⟩,
   ⟨(wCuf { wOn with ocSince := some 0 }), 1, (List.replicate 16 { i := 401 }), ({ i := 401 }), by decide, ({ retryN := 3 }), 0, by decide +kernel, by decide, by decide, rfl, by decide +kernel, rfl, by decide⟩,
   ⟨(wCuf wBroken), 1, ({ retryN := 3 }), rfl, by decide⟩,
   ⟨(wCuf { wBroken with retryLog := [1, 2, 3] }), 1, ({ retryN := 3 }), rfl, by decide⟩,
   ⟨(wCuf wOn), 1, ([wClamp 151]), by decide⟩,
   ⟨(wCuf wOn), 1, ([wClamp 150]), 150, by decide +kernel⟩⟩

theorem witness_CuffCommandsAct :
    (∃ s : State, ∃ w : Word, s.HostReady 0x9008 ∧ (∀ k : Fin 16, bitOf k w.toNat = true → clrRefused s.mono s.cuf.ch[k] = false)) ∧
    (∃ s : State, ∃ n : Fin 16, ∃ w : Word, s.HostReady 0x9008 ∧ bitOf n w.toNat = true ∧ clrRefused s.mono s.cuf.ch[n] = true) ∧
    (∃ s : State, ∃ n : Fin 16, ∃ w : Word, s.HostReady (0x9100 + 0x10 * n.val) ∧ n.val < s.fuses.variant.cuffs ∧ ∃ r : CufChan, s.cuf.ch[n].cfg = some r ∧ r.owner = 0 ∧ s.cuf.ch[n].lock = false ∧ field 1 10 w.toNat ≤ 1000) ∧
    (∃ s : State, ∃ n : Fin 16, ∃ w : Word, s.HostReady (0x9100 + 0x10 * n.val) ∧ n.val < s.fuses.variant.cuffs ∧ 1000 < field 1 10 w.toNat) ∧
    (∃ s : State, ∃ n : Fin 16, ∃ w : Word, s.HostReady (0x9100 + 0x10 * n.val) ∧ n.val < s.fuses.variant.cuffs ∧ field 1 10 w.toNat ≤ 1000 ∧ s.cuf.ch[n].lock = true) ∧
    (∃ s : State, ∃ n : Fin 16, ∃ on : Bool, s.leafIn = true ∧ s.forced n = on) ∧
    (∃ s : State, s.seam.drive = false ∧ s.seam.other = true ∧ s.seam.lowAt + 200000 ≤ s.mono) :=
  ⟨⟨(wCuf wBroken), 2, ⟨by decide, by decide, by decide, by decide⟩, by decide⟩,
   ⟨(wCuf { wOn with lock := true, clamps := [(999999999999, 700)] }), 1, 2, ⟨by decide, by decide, by decide, by decide⟩, by decide⟩,
   ⟨(wCuf wOn), 1, 2001, ⟨by decide, by decide, by decide, by decide⟩, by decide, ({ retryN := 3 }), rfl, by decide⟩,
   ⟨(wCuf wOn), 1, 0xFFFFFFFF, ⟨by decide, by decide, by decide, by decide⟩, by decide⟩,
   ⟨(wCuf { wOn with lock := true }), 1, 1, ⟨by decide, by decide, by decide, by decide⟩, by decide⟩,
   ⟨({ wCuf wOn with img := { st := .run } }), 1, false, by decide⟩,
   ⟨({ wCuf wOn with seam := { pair := some {}, role := .standby, other := true } }), by decide⟩⟩

theorem witness_HemStarts :
    (∃ s : State, ∃ c : HemCfg, s.up = true ∧ s.hem.cfg = some c ∧ ∃ code : Fin 8, c.vout[code] = 0) ∧
    (∃ s : State, ∃ c : HemCfg, s.up = true ∧ s.hem.cfg = some c ∧ ∃ code : Fin 8, c.vout[code] ≠ 0 ∧ s.hem.st ≠ .off) ∧
    (∃ s : State, ∃ c : HemCfg, s.up = true ∧ s.hem.cfg = some c ∧ ∃ code : Fin 8, c.vout[code] ≠ 0 ∧ s.hem.st = .off ∧ c.vinMin ≤ s.hem.vin ∧ s.hem.vin ≤ c.vinMax) ∧
    (∃ s : State, ∃ c : HemCfg, s.up = true ∧ s.hem.cfg = some c ∧ s.hem.st = .softstart ∧ s.hem.vref = s.hem.target ∧ 97 * s.hem.target ≤ 100 * s.hem.vout ∧ 100 * s.hem.vout ≤ 103 * s.hem.target) ∧
    (∃ s : State, ∃ c : HemCfg, s.up = true ∧ s.hem.cfg = some c ∧ s.hem.st = .hiccup ∧ s.hem.hicAt + c.tHic * 1000 ≤ s.mono) ∧
    (∃ s : State, ∃ c : HemCfg, s.up = true ∧ s.hem.cfg = some c ∧ s.hem.st = .run ∧ s.hem.runAt + 1000000 ≤ s.mono) ∧
    (∃ s : State, ∃ c : HemCfg, s.up = true ∧ s.hem.cfg = some c ∧ ∃ t0 : Nat, s.hem.st = .vinWait ∧ s.hem.vinOk = some t0 ∧ t0 + 10000 ≤ s.mono) ∧
    (∃ s : State, ∃ c : HemCfg, s.up = true ∧ s.hem.cfg = some c ∧ s.hem.st = .run ∧ s.hem.vref = s.hem.target) ∧
    (∃ s : State, ∃ c : HemCfg, s.up = true ∧ s.hem.cfg = some c ∧ s.HostReady 0x7000 ∧ s.hem.st = .latched) ∧
    (∃ s : State, ∃ c : HemCfg, s.up = true ∧ s.hem.cfg = some c ∧ s.HostReady 0x7000 ∧ s.hem.st ≠ .latched) :=
  ⟨⟨(wHemSt .run), wHemRec, by decide, rfl, 0, by decide⟩,
   ⟨(wHemSt .run), wHemRec, by decide, rfl, 1, by decide⟩,
   ⟨(wHemSt .off), wHemRec, by decide, rfl, 1, by decide⟩,
   ⟨(wHemSt .softstart), wHemRec, by decide, rfl, by decide +kernel⟩,
   ⟨(wHemSt .hiccup), wHemRec, by decide, rfl, by decide⟩,
   ⟨(wHemSt .run), wHemRec, by decide, rfl, by decide⟩,
   ⟨(wHem { wHemRun with st := .vinWait, vinOk := some 0 }), wHemRec, by decide, rfl, 0, by decide, rfl, by decide⟩,
   ⟨(wHemSt .run), wHemRec, by decide, rfl, by decide +kernel⟩,
   ⟨(wHemSt .latched), wHemRec, by decide, rfl, ⟨by decide, by decide, by decide, by decide⟩, by decide⟩,
   ⟨(wHemSt .run), wHemRec, by decide, rfl, ⟨by decide, by decide, by decide, by decide⟩, by decide⟩⟩

theorem witness_HemProtects :
    (∃ s : State, ∃ c : HemCfg, s.up = true ∧ s.hem.cfg = some c ∧ ∃ t0 : Nat, s.hem.st = .softstart ∧ s.hem.lowHalf = some t0 ∧ t0 + 500 ≤ s.mono ∧ s.hem.hic + 1 < c.nHic) ∧
    (∃ s : State, ∃ c : HemCfg, s.up = true ∧ s.hem.cfg = some c ∧ ∃ t0 : Nat, s.hem.st = .softstart ∧ s.hem.lowHalf = some t0 ∧ t0 + 500 ≤ s.mono ∧ c.nHic ≤ s.hem.hic + 1) ∧
    (∃ s : State, ∃ c : HemCfg, s.up = true ∧ s.hem.cfg = some c ∧ ∃ t0 : Nat, s.hem.st = .run ∧ s.hem.low85 = some t0 ∧ t0 + 1000 ≤ s.mono) ∧
    (∃ s : State, ∃ c : HemCfg, s.up = true ∧ s.hem.cfg = some c ∧ ∃ t0 : Nat, (s.hem.st = .run ∨ s.hem.st = .softstart) ∧ s.hem.high115 = some t0 ∧ t0 + 20 ≤ s.mono) ∧
    (∃ s : State, ∃ c : HemCfg, s.up = true ∧ s.hem.cfg = some c ∧ (s.hem.st = .run ∨ s.hem.st = .softstart ∨ s.hem.st = .hiccup) ∧ (s.hem.vin < c.vinMin ∨ c.vinMax < s.hem.vin)) ∧
    (∃ s : State, ∃ c : HemCfg, s.up = true ∧ s.hem.cfg = some c ∧ ∃ p : Fin 4, s.hem.st = .run ∧ bitOf p s.hem.active = true ∧ 256 ≤ s.hem.peaks[p]) ∧
    (∃ s : State, ∃ c : HemCfg, s.up = true ∧ s.hem.cfg = some c ∧ ∃ t0 : Nat, ∃ p : Nat, s.hem.st = .run ∧ s.hem.blkAt = none ∧ s.hem.shedding = none ∧ c.minPh < phCount s.hem.active ∧ s.hem.shedOk = some t0 ∧ t0 + c.tShed * 1000 ≤ s.mono ∧ (bitsOf 4 s.hem.active).getLast? = some p) ∧
    (∃ s : State, ∃ c : HemCfg, s.up = true ∧ s.hem.cfg = some c ∧ ∃ p : Nat, s.hem.st = .run ∧ 16 ≤ s.hem.addN ∧ (bitsOf 4 (c.phases &&& (15 - s.hem.phFlt % 16) &&& (15 - s.hem.active % 16))).head? = some p) ∧
    (∃ s : State, ∃ c : HemCfg, s.up = true ∧ s.hem.cfg = some c ∧ s.hem.st = .run ∧ (s.hem.vout : Rat) + c.dvFast < s.hem.vref) ∧
    (∃ s : State, ∃ c : HemCfg, s.up = true ∧ s.hem.cfg = some c ∧ ∃ t0 : Nat, s.hem.blkAt = some t0 ∧ t0 + 1000000 ≤ s.mono) :=
  ⟨⟨(wHem { wHemRun with st := .softstart, lowHalf := some 0 }), wHemRec, by decide, rfl, 0, by decide, rfl, by decide⟩,
   ⟨(wHem { wHemRun with st := .softstart, lowHalf := some 0, hic := 4 }), wHemRec, by decide, rfl, 0, by decide, rfl, by decide⟩,
   ⟨(wHem { wHemRun with low85 := some 0 }), wHemRec, by decide, rfl, 0, by decide, rfl, by decide⟩,
   ⟨(wHem { wHemRun with high115 := some 0 }), wHemRec, by decide, rfl, 0, by decide, rfl, by decide⟩,
   ⟨(wHem { wHemRun with vin := 61 }), wHemRec, by decide, rfl, by decide⟩,
   ⟨(wHem { wHemRun with peaks := Vector.replicate 4 256 }), wHemRec, by decide, rfl, 1, by decide⟩,
   ⟨(wHem { wHemRun with shedOk := some 0 }), wHemRec, by decide, rfl, 0, 1, by decide, by decide, by decide, by decide, rfl, by decide, rfl⟩,
   ⟨(wHem { wHemRun with active := 1, addN := 16 }), wHemRec, by decide, rfl, 1, by decide, by decide, rfl⟩,
   ⟨(wHem { wHemRun with vout := 1100 }), wHemRec, by decide, rfl, by decide +kernel⟩,
   ⟨(wHem { wHemRun with blkAt := some 0 }), wHemRec, by decide, rfl, 0, rfl, by decide⟩⟩

end Sys2Proof.Tests.WitnessPower
end

