-- ==== Sys2Proof/Tests/WitnessReset.lean ====
section
/-! SUPPORT. For each statement about resets, clocks and Glade, states and operands that meet its hypotheses. -/

namespace Sys2Proof.Tests.WitnessReset

set_option Elab.async false

open Sys2Proof Sys2Proof.Machine

/-- The reset controller is `r`, with the debug strap on. -/
def wRst (r : Rst) : State := { wUp with rst := r, img := { strap := 8 } }

/-- Out of reset with both clocks running. -/
def wFree : Rst := { hold := none, refOk := true, lock := Vector.replicate 3 true }

/-- Glade is `g`, out of reset. -/
def wGld (g : Glade) : State := { wRst wFree with gld := g }

/-- Gaiter in RUN. -/
def wRunning : State := { wRst wFree with gtr := { st := .run, applied := true } }

theorem witness_ResetsBegin :
    (∃ k : Fin 3, k.val < 2) ∧
    (∃ s : State, ∃ t0 : Nat, s.gld.pwren = true ∧ s.gld.sleepAt = some t0 ∧ t0 + 10000 ≤ s.mono) ∧
    (∃ s : State, ∃ t0 : Nat, s.gld.pwren = true ∧ s.gld.sleepAt = some t0 ∧ s.mono < t0 + 10000) ∧
    (∃ ns : Nat, ns < 200) ∧
    (∃ s : State, ∃ ns : Nat, 1000 ≤ ns ∧ s.up = true) ∧
    (∃ s : State, ∃ ns : Nat, ∃ h : Hold, 1000 ≤ ns ∧ s.rst.hold = some h ∧ h.level = 0) ∧
    (∃ s : State, s.up = true ∧ bitOf 3 s.img.strap = true) ∧
    (∃ s : State, s.rst.hold = none ∧ bitOf 3 s.img.strap = true) ∧
    (∃ s : State, bitOf 3 s.img.strap = false) ∧
    (∃ s : State, ∃ w : Word, s.HostReady 0x2004 ∧ field 16 16 w.toNat ≠ 0xA5C3 ∧ ∃ c : Instr, c ∈ [Instr.resetSysWrite w, Instr.resetCoreWrite w]) ∧
    (∃ s : State, ∃ w : Word, s.HostReady 0x2004 ∧ field 16 16 w.toNat = 0xA5C3 ∧ bitOf 0 w.toNat = true ∧ s.rst.pend.isSome = true) ∧
    (∃ s : State, ∃ w : Word, s.HostReady 0x2004 ∧ field 16 16 w.toNat = 0xA5C3 ∧ bitOf 0 w.toNat = true ∧ s.rst.pend = none ∧ s.gaiterSafe = true) ∧
    (∃ s : State, ∃ w : Word, s.HostReady 0x2004 ∧ field 16 16 w.toNat = 0xA5C3 ∧ bitOf 0 w.toNat = true ∧ s.rst.pend = none ∧ s.gtr.st = .run ∧ s.gtr.latch = none ∧ s.gtr.pendSoft = []) ∧
    (∃ s : State, ∃ w : Word, s.HostReady 0x2004 ∧ field 16 16 w.toNat = 0xA5C3 ∧ bitOf 0 w.toNat = false ∧ bitOf 1 w.toNat = true ∧ bitOf 3 s.img.strap = true ∧ s.gaiterSafe = true ∧ s.rst.hold = none) ∧
    (∃ s : State, ∃ w : Word, s.HostReady 0x2004 ∧ field 16 16 w.toNat = 0xA5C3 ∧ bitOf 0 w.toNat = false ∧ bitOf 1 w.toNat = true ∧ (bitOf 3 s.img.strap = false ∨ s.gaiterSafe = false)) :=
  ⟨⟨1, by decide⟩,
   ⟨(wGld { sleepAt := some 5 }), 5, by decide, rfl, by decide⟩,
   ⟨(wGld { sleepAt := some 999999999999 }), 999999999999, by decide, rfl, by decide⟩,
   ⟨199, by decide⟩,
   ⟨(wRst wFree), 1000, by decide⟩,
   ⟨(wRst {}), 1000, ({}), by decide, rfl, by decide⟩,
   ⟨(wRst wFree), by decide⟩,
   ⟨(wRst wFree), by decide⟩,
   ⟨wUp, by decide⟩,
   ⟨(wRst wFree), 0xA5C20001, ⟨by decide, by decide, by decide, by decide⟩, by decide, (Instr.resetSysWrite 0xA5C20001), by decide⟩,
   ⟨(wRst { wFree with pend := some { src := 4, at_ := 5 } }), 0xA5C30001, ⟨by decide, by decide, by decide, by decide⟩, by decide⟩,
   ⟨({ wRst wFree with gtr := { st := .hold } }), 0xA5C30001, ⟨by decide, by decide, by decide, by decide⟩, by decide⟩,
   ⟨wRunning, 0xA5C30001, ⟨by decide, by decide, by decide, by decide⟩, by decide⟩,
   ⟨({ wRst wFree with gtr := { st := .clearing } }), 0xA5C30002, ⟨by decide, by decide, by decide, by decide⟩, by decide⟩,
   ⟨wRunning, 0xA5C30002, ⟨by decide, by decide, by decide, by decide⟩, by decide⟩⟩

theorem witness_ResetsWait :
    (∃ s : State, s.rst.hold = none ∧ ∃ p : PendReset, p = s.rst.pend.getD { src := 4, at_ := s.mono }) ∧
    (∃ s : State, ∃ p : PendReset, s.rst.hold = none ∧ p = s.rst.pend.getD { src := 8, at_ := s.mono }) ∧
    (∃ s : State, ∃ m : Fin 16, s.rst.hold = none ∧ bitOf 0 m = true) ∧
    (∃ s : State, ∃ k : Fin 3, ∃ m : Fin 16, s.rst.hold = none ∧ m.val = 2 ^ (k.val + 1)) ∧
    (∃ s : State, ∃ core : Nat, s.up = true ∧ (∀ c t0, s.rst.appAt = some (c, t0) → c = core ∨ t0 + 1000000 < s.mono)) ∧
    (∃ s : State, ∃ core : Nat, ∃ c : Nat, ∃ t0 : Nat, s.rst.hold = none ∧ s.rst.appAt = some (c, t0) ∧ c ≠ core ∧ s.mono ≤ t0 + 1000000) ∧
    (∃ s : State, ∃ p : PendReset, s.up = true ∧ s.rst.pend = some p ∧ (s.gaiterSafe = true ∨ p.at_ + 700000 ≤ s.mono)) ∧
    (∃ s : State, ∃ p : PendReset, s.up = true ∧ s.rst.pend = some p ∧ s.gaiterSafe = false ∧ s.gtr.standby = false ∧ s.mono < p.at_ + 700000) ∧
    (∃ s : State, ∃ h : Hold, s.rst.hold = some h ∧ h.level < 2 ∧ h.at_ + h.least ≤ s.mono ∧ s.fuses.fwOk = true ∧ (h.level = 0 → s.gld.pwren = true ∧ s.fuses.mapOk = true)) ∧
    (∃ s : State, ∃ h : Hold, s.rst.hold = some h ∧ h.level = 2 ∧ h.at_ + h.least ≤ s.mono ∧ s.rst.refOk = true) ∧
    (∃ s : State, ∃ h : Hold, s.rst.hold = some h ∧ h.level < 2 ∧ (h.level = 0 ∧ (s.gld.pwren = false ∨ s.fuses.mapOk = false) ∨ s.fuses.fwOk = false)) ∧
    (∃ s : State, ∃ h : Hold, s.rst.hold = some h ∧ s.mono < h.at_ + h.least) :=
  ⟨⟨(wRst wFree), by decide, ({ src := 4, at_ := wUp.mono }), by decide⟩,
   ⟨(wRst wFree), ({ src := 8, at_ := wUp.mono }), by decide⟩,
   ⟨(wRst wFree), 1, by decide⟩,
   ⟨(wRst wFree), 2, 8, by decide⟩,
   ⟨(wRst { wFree with appAt := some (1, 5) }), 2, by decide, (by rintro _ _ ⟨⟩; decide)⟩,
   ⟨(wRst { wFree with appAt := some (1, 999999000000) }), 2, 1, 999999000000, by decide, rfl, by decide⟩,
   ⟨(wRst { wFree with pend := some { src := 4, at_ := 5 } }), ({ src := 4, at_ := 5 }), by decide, rfl, by decide⟩,
   ⟨({ wRst { wFree with pend := some { src := 4, at_ := 999999999999 } } with gtr := { st := .run } }), ({ src := 4, at_ := 999999999999 }), by decide, rfl, by decide⟩,
   ⟨(wRst { hold := some { level := 1, src := 3 } }), ({ level := 1, src := 3 }), rfl, by decide, by decide, fwOk_made, by decide⟩,
   ⟨(wRst { hold := some { level := 2, src := 4 }, refOk := true }), ({ level := 2, src := 4 }), rfl, by decide⟩,
   ⟨({ wRst {} with gld := { pwren := false } }), ({}), rfl, by decide⟩,
   ⟨(wRst { hold := some { at_ := 1000000000000 } }), ({ at_ := 1000000000000 }), rfl, by decide⟩⟩

theorem witness_GladeActs :
    (∃ s : State, s.up = true ∧ s.standby = true ∧ s.cores = false ∧ s.seam.relayWin = none) ∧
    (∃ s : State, s.up = true ∧ s.rst.refOk = true) ∧
    (∃ s : State, s.HostReady 0x3000 ∧ s.sleepOk = true) ∧
    (∃ s : State, s.HostReady 0x3000 ∧ s.sleepOk = false) ∧
    (∃ s : State, s.HostReady 0x3000) ∧
    (∃ s : State, s.gld.pwren = false ∧ s.gld.wakePin = true) ∧
    (∃ s : State, s.gld.pwren = false ∧ s.gld.wakePin = false) ∧
    (∃ s : State, s.gld.pwren = false ∧ s.gld.wakeAlarm = true ∧ s.gld.alarm ≠ 0 ∧ s.gld.sec s.mono = s.gld.alarm) ∧
    (∃ s : State, ∃ n : Fin 2, s.gld.run[n] = 1 ∧ s.up = true) ∧
    (∃ s : State, ∃ x : Int, ∃ ts : Vector Int 8, s.up = true ∧ -550 ≤ x ∧ x ≤ 1750 ∧ ts = Vector.replicate 8 x) :=
  ⟨⟨({ wStandby with img := { st := .run }, seam := { wStandby.seam with relayWin := none } }), by decide⟩,
   ⟨(wRst wFree), by decide⟩,
   ⟨(wRst wFree), ⟨by decide, by decide, by decide, by decide⟩, by decide⟩,
   ⟨wRunning, ⟨by decide, by decide, by decide, by decide⟩, by decide⟩,
   ⟨(wRst wFree), ⟨by decide, by decide, by decide, by decide⟩⟩,
   ⟨(wGld { pwren := false }), by decide⟩,
   ⟨(wGld { pwren := false, wakePin := false }), by decide⟩,
   ⟨(wGld { pwren := false, wakeAlarm := true, alarm := 1000000 }), by decide⟩,
   ⟨(wGld { run := #v[0, 1] }), 1, by decide⟩,
   ⟨(wRst wFree), 1750, (Vector.replicate 8 1750), by decide⟩⟩

end Sys2Proof.Tests.WitnessReset
end

