-- ==== Sys2Proof/Tests/WitnessSeam.lean ====
section
/-! SUPPORT. For each statement about the pair, states and operands that meet its hypotheses. -/

namespace Sys2Proof.Tests.WitnessSeam

set_option Elab.async false

open Sys2Proof Sys2Proof.Machine

/-- A paired unit in START. -/
def wStart (other : Bool) : State := { wUp with seam := { pair := some { peerId := 5 }, role := .start, other := other } }

/-- A paired unit in START that hears its peer. -/
def wStartUp (other : Bool) : State := { wStandby with seam := { wStandby.seam with role := .start, other := other } }

def wSby (m : Seam → Seam) : State := { wStandby with seam := m wStandby.seam }

def wAct (m : Seam → Seam) : State := { wActive with seam := m wActive.seam }

def wRole (r : SeamRole) : State := wSby (fun m => { m with role := r })

/-- A frame of the active, and one of the standby. -/
def wDown (typ len : Nat) (pay : List Byte) : SeamFrame := { typ := typ, len := len, gen := 1, lseq := 1, pay := pay }

def wUpward (typ len : Nat) (pay : List Byte) : SeamFrame := { wDown typ len pay with flags := 1 }

/-- The one segment of an entry or image. -/
def wJournal (typ : Nat) : SeamFrame := SeamFrame.sized { wDown typ 0 (leBytes 2 0 ++ leBytes 2 1) with entry := some {}, lseq := 0 }

theorem wJournal_len (typ : Nat) : (wJournal typ).plain.length ≤ 1024 := by
  show (leBytes 2 0 ++ leBytes 2 1 ++ entryPart (leBytes 2 0 ++ leBytes 2 1) (journalBytes {})).length ≤ 1024
  rw [entryPart, if_neg (by decide), List.length_append, List.length_take]
  have : (leBytes 2 0 ++ leBytes 2 1).length = 4 := by decide
  omega

theorem wJournal_takes {typ : Nat} (h : typ = 1 ∨ typ = 7) : wStandby.SeamTakes typ (wTagged wStandby (wJournal typ)) := by
  have b : seamLenBad { wJournal typ with cipher := List.replicate (wJournal typ).len 0 } = false := by
    have l : ¬1024 < (wJournal typ).len := Nat.not_lt.mpr (wJournal_len typ)
    have e : (wJournal typ).len = (wJournal typ).plain.length := rfl
    have g : seamLen typ = none := by rcases h with rfl | rfl <;> decide
    show (decide (1024 < (wJournal typ).len) || (wJournal typ).len != (List.replicate (wJournal typ).len (0 : Byte)).length
      || (wJournal typ).len != (wJournal typ).plain.length || (match seamLen typ with | some n => (wJournal typ).len != n | none => false)) = false
    rw [decide_eq_false l, List.length_replicate, ← e, g, bne_self_eq_false]
    rfl
  apply wTagged_takes
  simp only [seamChecks, seamForm, b]
  rcases h with rfl | rfl <;> decide

def wStatus : SeamFrame := wDown 3 48 (SeamStatus.bytes {})

def wRelay : RelayPend := { tag := 6, write := false, addr := 64, left := 2, words := [], got := [], at_ := 0, chan := 0 }

def wRelaying : State := wAct (fun m => { m with relay := some wRelay })

/-- The first tick of a takeover has a result. -/
def wTaking : State :=
  { wRole .taking with cnp := { started := true, mode := .hold, ticks := 1, ready := some { tick := 1, entries := [], alloc := [], told := [] } } }

def wHolding : State :=
  { wRole .taking with seam := { (wRole .taking).seam with echo := (Vector.replicate 4 (Vector.replicate 4 {})).set 0 (Vector.replicate 4 { last := some (3, 4) }) }, mb := { bus := Vector.replicate 4 { fcs := .active } } }

def wEcho (e : EchoSt) (s : State) : State := { s with seam := { s.seam with echo := Vector.replicate 4 (Vector.replicate 4 e) }, mb := { bus := Vector.replicate 4 { fcs := .active } } }

def wSwapRec : SeamPair := { peerId := 5, swapEn := true, swapH := 24 }

theorem witness_SeamLanesAct :
    (∃ s : State, s.paired = true ∧ s.seam.role = .start ∧ (s.seam.upLanes = [] ∨ s.seamKey s.seam.gen = none) ∧ s.seam.startAt + (if s.prefersActive then 2000000 else 7000000) ≤ s.mono ∧ s.seam.other = false) ∧
    (∃ s : State, s.paired = true ∧ s.seam.role = .start ∧ (s.seam.upLanes = [] ∨ s.seamKey s.seam.gen = none) ∧ s.seam.startAt + (if s.prefersActive then 2000000 else 7000000) ≤ s.mono ∧ s.seam.other = true) ∧
    (∃ s : State, s.paired = true) ∧
    (∃ s : State, s.paired = true ∧ ∃ k : Fin 2, ∃ t0, s.seam.lane[k].downAt = some t0 ∧ t0 + 100000 ≤ s.mono) ∧
    (∃ s : State, s.paired = true ∧ ∃ k : Fin 2, s.clk.noKeys = false ∧ s.seam.lane[k].downAt = none) ∧
    (∃ s : State, s.paired = true ∧ s.seam.peerLost = false ∧ s.seam.lastAt + 30000 ≤ s.mono ∧ (∀ r, s.seam.relay = some r → r.chan = 0)) ∧
    (∃ s : State, s.paired = true ∧ ∃ k : Nat, s.seamKey s.seam.gen = some k ∧ s.seam.upLanes ≠ [] ∧ s.seam.txSeq ≤ 0xFFFFFFF0) :=
  ⟨⟨(wStart false), by decide⟩,
   ⟨(wStart true), by decide⟩,
   ⟨wStandby, by decide⟩,
   ⟨(wSby (fun m => { m with lane := (Vector.replicate 2 {}).set 0 { downAt := some 0 } })), by decide, 0, 0, rfl, by decide⟩,
   ⟨(wStartUp false), by decide, 1, by decide⟩,
   ⟨wActive, by decide, by decide, by decide, ofAll (by decide)⟩,
   ⟨wActive, by decide, (Config.hkdfExpand 77 (ascii "SEAM-GEN" ++ leBytes 4 1)), rfl, by decide⟩⟩

theorem witness_SeamFramesAct :
    (∃ s : State, ∃ f : SeamFrame, s.SeamTakes 1 f ∧ s.seam.role = .standby ∧ s.seam.gap f = false ∧ (segTake f s.seam.asm).2 = true ∧ ∃ e : JFull, f.entry = some e) ∧
    (∃ s : State, ∃ f : SeamFrame, s.SeamTakes 2 f ∧ f.gen = s.seam.gen) ∧
    (∃ s : State, ∃ f : SeamFrame, let x := f.status
  s.SeamTakes 3 f ∧ s.seam.role ≠ .start) ∧
    (∃ s : State, ∃ f : SeamFrame, let x := f.status
  s.SeamTakes 3 f ∧ s.seam.role = .start ∧ s.seam.other = false ∧ s.wins x.prefActive = true) ∧
    (∃ s : State, ∃ f : SeamFrame, let x := f.status
  s.SeamTakes 3 f ∧ s.seam.role = .start ∧ (s.seam.other = true ∨ s.wins x.prefActive = false)) ∧
    (∃ s : State, ∃ f : SeamFrame, s.SeamTakes 4 f ∧ s.gtr.unfit = false) ∧
    (∃ s : State, ∃ f : SeamFrame, s.SeamTakes 5 f) ∧
    (∃ s : State, ∃ f : SeamFrame, s.SeamTakes 6 f ∧ leAt f.pay 0 4 = 0xFFFFFFFF ∧ (∀ r, s.seam.relay = some r → r.chan = 0)) ∧
    (∃ s : State, ∃ f : SeamFrame, s.SeamTakes 7 f ∧ s.seam.role = .standby ∧ s.seam.gap f = false ∧ (segTake f s.seam.snapAsm).2 = true ∧ ∃ e : JFull, f.entry = some e) ∧
    (∃ s : State, ∃ f : SeamFrame, s.SeamTakes 8 f ∧ relayOk f = true ∧ leAt f.pay 4 1 = 1) ∧
    (∃ s : State, ∃ f : SeamFrame, ∃ r : RelayPend, s.SeamTakes 9 f ∧ s.seam.relay = some r ∧ leAt f.pay 0 4 = r.tag ∧ leAt f.pay 4 4 = 0 ∧ leAt f.pay 8 4 = r.left ∧ r.write = false ∧ r.chan = 0) ∧
    (∃ s : State, ∃ f : SeamFrame, s.up = true ∧ s.seam.pair.isSome = true ∧ s.seam.upLanes ≠ [] ∧ s.seamJudge f = .crc ∧ f.typ = 1) ∧
    (∃ s : State, ∃ f : SeamFrame, s.up = true ∧ s.seam.pair.isSome = true ∧ s.seam.upLanes ≠ [] ∧ s.seamJudge f = .form ∧ f.typ = 4) ∧
    (∃ s : State, ∃ f : SeamFrame, s.up = true ∧ s.seam.pair.isSome = true ∧ s.seam.upLanes ≠ [] ∧ s.seamJudge f = .late ∧ f.typ = 3) ∧
    (∃ s : State, ∃ f : SeamFrame, s.up = true ∧ s.seam.pair.isSome = true ∧ s.seam.upLanes ≠ [] ∧ s.seamJudge f = .auth ∧ f.typ = 2) ∧
    (∃ s : State, ∃ f : SeamFrame, s.up = true ∧ s.seam.pair.isSome = true ∧ s.seam.upLanes ≠ [] ∧ s.seamJudge f = .role ∧ f.typ = 5) :=
  ⟨⟨wStandby, (wTagged wStandby (wJournal 1)), wJournal_takes (.inl rfl), by decide, by decide, by decide, ({}), rfl⟩,
   ⟨wActive, (wTagged wActive (wUpward 2 4 [7, 0, 0, 0])), wTagged_takes 2 (by decide), by decide⟩,
   ⟨wStandby, (wTagged wStandby (wStatus)), wTagged_takes 3 (by decide), by decide⟩,
   ⟨(wStartUp false), (wTagged (wStartUp false) (wStatus)), wTagged_takes 3 (by decide), by decide⟩,
   ⟨(wStartUp true), (wTagged (wStartUp true) (wStatus)), wTagged_takes 3 (by decide), by decide⟩,
   ⟨wStandby, (wTagged wStandby (wDown 4 12 (List.replicate 12 1))), wTagged_takes 4 (by decide), by decide⟩,
   ⟨(wRole .released), (wTagged (wRole .released) (wDown 5 4 [0, 0, 0, 0])), wTagged_takes 5 (by decide)⟩,
   ⟨wActive, (wTagged wActive (wUpward 6 4 [0xFF, 0xFF, 0xFF, 0xFF])), wTagged_takes 6 (by decide), by decide, ofAll (by decide)⟩,
   ⟨wStandby, (wTagged wStandby (wJournal 7)), wJournal_takes (.inr rfl), by decide, by decide, by decide, ({}), rfl⟩,
   ⟨wStandby, (wTagged wStandby (wDown 8 16 [6, 0, 0, 0, 1, 0, 0, 0, 64, 0, 0, 0, 1, 0, 0, 0])), wTagged_takes 8 (by decide), by decide⟩,
   ⟨wRelaying, (wTagged wRelaying (wUpward 9 24 [6, 0, 0, 0, 0, 0, 0, 0, 2, 0, 0, 0, 0, 0, 0, 0, 1, 0, 0, 0, 2, 0, 0, 0])), wRelay, wTagged_takes 9 (by decide), rfl, by decide⟩,
   ⟨wStandby, ({ wDown 1 0 [] with check := 1 }), by decide +kernel⟩,
   ⟨wStandby, (wChecked (wDown 4 8 [])), by decide, by decide, by decide, wChecked_form (by decide), by decide⟩,
   ⟨wStandby, (wChecked { wStatus with gen := 0 }), by decide, by decide, by decide, wChecked_late ⟨by decide, by decide⟩ (by decide), by decide⟩,
   ⟨({ wActive with clk := {} }), (wChecked (wUpward 2 4 [0, 0, 0, 0])), by decide, by decide, by decide, wChecked_auth ⟨by decide, by decide⟩ (by decide) rfl rfl, by decide⟩,
   ⟨wStandby, (wTagged wStandby (wDown 5 4 [0, 0, 0, 0])), by decide, by decide, by decide, wTagged_judge (by decide), by decide⟩⟩

theorem witness_SeamRolesAct :
    (∃ s : State, s.paired = true ∧ s.seam.drive = false ∧ s.seam.role = .standby ∧ s.seam.seenLow = true ∧ s.gtr.unfit = false) ∧
    (∃ s : State, s.paired = true ∧ s.seam.drive = false ∧ s.seam.role ≠ .standby) ∧
    (∃ s : State, s.paired = true ∧ s.seam.drive = false ∧ s.seam.role = .standby) ∧
    (∃ s : State, s.paired = true ∧ s.seam.drive = false ∧ s.seam.role = .start) ∧
    (∃ s : State, s.paired = true ∧ s.seam.drive = false ∧ s.seam.role = .released) ∧
    (∃ s : State, s.paired = true ∧ ∃ r : Nat, s.seam.role = .active ∧ s.seam.fit = true ∧ s.releaseCause r = true ∧ r ≠ 7) ∧
    (∃ s : State, s.paired = true ∧ ∃ r : Nat, s.seam.role = .active ∧ s.seam.fit = true ∧ s.releaseCause r = true ∧ r = 7) ∧
    (∃ s : State, s.paired = true ∧ ∃ t0, s.seam.relAt = some t0 ∧ t0 + 100 ≤ s.mono) ∧
    (∃ s : State, s.paired = true ∧ s.canopyOn = true ∧ s.seam.role = .taking ∧ 0 < s.cnp.ticks ∧ s.cnp.ready.isSome = true ∧ s.portsHanded = true ∧ s.seam.txSeq ≤ 0xFFFFFFF0) ∧
    (∃ s : State, s.paired = true ∧ s.HostReady 0x6000 ∧ s.swapOk = true) ∧
    (∃ s : State, s.paired = true ∧ s.HostReady 0x6000 ∧ s.swapOk = false) ∧
    (∃ s : State, s.paired = true ∧ (s.seam.role = .start ∨ s.seam.role = .taking ∨ s.seam.role = .released)) ∧
    (∃ s : State, s.paired = true ∧ ∃ r : SeamPair, s.seam.pair = some r ∧ r.swapEn = true ∧ s.seam.swapAt + r.swapH * 3600000000 ≤ s.mono ∧ s.swapOk = true) :=
  ⟨⟨(wSby (fun m => { m with seenLow := true, other := true })), by decide⟩,
   ⟨(wRole .released), by decide⟩,
   ⟨wStandby, by decide⟩,
   ⟨(wRole .start), by decide⟩,
   ⟨(wRole .released), by decide +kernel⟩,
   ⟨({ wActive with rst := { hold := none, refOk := true, band := 4 } }), by decide, 6, by decide +kernel⟩,
   ⟨({ wActive with gtr := { st := .run, hbWait := true } }), by decide, 7, by decide +kernel⟩,
   ⟨(wAct (fun m => { m with role := .released, relAt := some 0 })), by decide, 0, rfl, by decide⟩,
   ⟨wTaking, by decide⟩,
   ⟨wActive, by decide, ⟨by decide, by decide, by decide, by decide⟩, by decide⟩,
   ⟨(wAct (fun m => { m with fit := false })), by decide, ⟨by decide, by decide, by decide, by decide⟩, by decide⟩,
   ⟨(wRole .taking), by decide +kernel⟩,
   ⟨(wAct (fun m => { m with pair := some wSwapRec })), by decide, wSwapRec, rfl, by decide⟩⟩

theorem witness_SeamEchoAndRelayAct :
    (∃ s : State, s.paired = true ∧ ∃ b : Fin 4, ∃ g : Fin 4, ∃ d : List Byte, ∃ t0 : Nat, s.seam.role = .standby ∧ s.gtr.unfit = false ∧ s.seam.echo[b][g].wait = some (d, t0) ∧ t0 ≤ s.mono ∧ s.mb.bus[b].fcs ≠ .busOff) ∧
    (∃ s : State, s.paired = true ∧ ∃ b : Fin 4, ∃ g : Fin 4, ∃ d : List Byte, ∃ t0 : Nat, s.seam.role = .active ∧ s.seam.echo[b][g].expect = some (d, t0) ∧ t0 + 1000 ≤ s.mono) ∧
    (∃ s : State, s.paired = true ∧ ∃ b : Fin 4, s.seam.role = .taking ∧ b.val < s.fuses.variant.buses ∧ s.mb.bus[b].fcs ≠ .off ∧ s.mb.bus[b].fcs ≠ .busOff ∧ s.heardPairs b ≠ []) ∧
    (∃ s : State, s.paired = true ∧ ∃ t0, s.seam.role = .active ∧ s.seam.resync = true ∧ s.seam.resyncAt = some t0 ∧ t0 + 1000000 ≤ s.mono) ∧
    (∃ s : State, s.paired = true ∧ ∃ r : RelayPend, s.seam.relay = some r ∧ r.at_ + 100000 ≤ s.mono ∧ r.chan = 0 ∧ r.write = false) ∧
    (∃ s : State, s.paired = true ∧ ∃ t0, s.seam.relayWin = some t0 ∧ t0 ≤ s.mono) :=
  ⟨⟨(wEcho { wait := some ([1, 2], 0) } wStandby), by decide, 3, 0, ([1, 2]), 0, by decide, by decide, rfl, by decide⟩,
   ⟨(wEcho { expect := some ([1, 2], 0) } wActive), by decide, 0, 3, ([1, 2]), 0, by decide, rfl, by decide⟩,
   ⟨wHolding, by decide, 0, by decide⟩,
   ⟨(wAct (fun m => { m with resync := true, resyncAt := some 0 })), by decide, 0, by decide, by decide, rfl, by decide⟩,
   ⟨wRelaying, by decide, wRelay, rfl, by decide⟩,
   ⟨(wSby (fun m => { m with relayWin := some 5 })), by decide, 5, rfl, by decide⟩⟩

end Sys2Proof.Tests.WitnessSeam
end

