-- ==== Sys2Proof/Tests/WitnessSleeve.lean ====
section
/-! SUPPORT. For each statement about the Sleeve, states and operands that meet its hypotheses. -/

namespace Sys2Proof.Tests.WitnessSleeve

set_option Elab.async false

open Sys2Proof Sys2Proof.Machine

/-- A Sleeve in RUN with the key 5 on lane 0. -/
def wSleeve : Sleeve :=
  { st := .run, powered := true, legal := some {}, clkV := true, utc := 5000000000, mc := 50000000, lane := #v[{ key := some 5, ctr := some 8 }, {}] }

def wSlv (f : Sleeve → Sleeve) : State := { wUp with slv := f wSleeve }

/-- The firmware of the manufacture verifies. -/
theorem wSlv_verifies : Config.hssVerify Config.metroPublic (wSlv id).slv.fw.img (wSlv id).slv.fw.sig = true := by
  simp only [wSlv, wSleeve, id, Config.hssVerify, Config.sigVerify, Config.hssOne, beq_self_eq_true, Bool.true_or]

def wService (f : Sleeve → Sleeve) : State := wSlv (fun x => { f x with st := .service })

def wOff : State := wSlv (fun x => { x with powered := false })

/-- A command frame of code `code` that the Sleeve takes. -/
def wCmd (code alen : Nat) (args : List Byte) : CmdFrame :=
  { lane := 0, alen := alen, ctr := 9, args := args, tag := tag16 5 (CmdFrame.head code { lane := 0, alen := alen, ctr := 9, args := args, tag := [] }) }

/-- A frame of the Sleeve link with the contents `bs` and a right check. -/
def wLinkFrame (bs : List Byte) : List Byte := bs ++ leBytes 4 (crc32c bs)

def wSample : List Byte := wLinkFrame ([0x51, 5, 1, 0] ++ List.replicate 103 1 ++ [8, 0, 0, 0, 0] ++ List.replicate 12 0)

/-- The one segment of record 1. -/
def wRecord : List Byte := wLinkFrame ([0x52, 3, 0, 0, 1, 0, 0, 0, 0, 0, 1, 0, 4, 0, 0, 0, 1, 2, 3, 4] ++ List.replicate 104 0)

def wPairing : Pairing := { serial := 3, key := 9 }

/-- Port 0 has a paired head. -/
def wHead0 (h : Head) : State := wSlv (fun x => { x with head := (Vector.replicate 12 {}).set 0 { h with pair := some wPairing, st := .ok } })

def wHeadSample : List Byte := [0xA5, 0, 1, 2, 3, 4, 5, 6, 7, 8] ++ leBytes 2 (crc16 [0xA5, 0, 1, 2, 3, 4, 5, 6, 7, 8])

/-- A sample of the intake with the value `v` in every channel. -/
def wAc (v : Int) : AcCodes := { u := Vector.replicate 3 v, i := Vector.replicate 3 v, n := v }

def wIn (i : Intake) : State := wSlv (fun x => { x with inp := i })

def wHeadAuth : List Byte := [0x5B, 0, 7, 0, 0, 0, 0, 0] ++ tag16 9 ([7, 0, 0, 0, 0, 0] ++ ([] : List (List Byte)).reverse.flatten)

/-- A session on port 0. -/
def wSession (x : Sess) (f : Sleeve → Sleeve) : State := wSlv (fun y => f { y with sess := (Vector.replicate 12 none).set 0 (some x), head := Vector.replicate 12 { st := .ok } })

def wRec : Rec := { seq := 4, body := [1], sig := [2], ocmf := none, formedAt := 0, sent := 0 }

def wTamp (t : Tamp) : State := wSlv (fun x => { x with tamp := Vector.replicate 5 t, inp := { valid := true } })

set_option maxRecDepth 100000 in
theorem witness_SleeveLinkReceives :
    (∃ s : State, s.linkUp = true ∧ ∃ bs : List Byte, bs.length = 128 ∧ leAt bs 0 1 = 0x51 ∧ leAt bs 124 4 = crc32c (bs.take 124) ∧ ((bs.drop 112).take 12).any (· != 0) = false) ∧
    (∃ s : State, s.linkUp = true ∧ ∃ bs : List Byte, leAt bs 124 4 ≠ crc32c (bs.take 124)) ∧
    (∃ s : State, s.linkUp = true ∧ ∃ p : Fin 12, (∀ t0, s.slvLink.port[p].lastOk = some t0 → t0 + 10000 ≤ s.mono)) ∧
    (∃ s : State, s.linkUp = true ∧ ∃ bs : List Byte, bs.length = 128 ∧ leAt bs 0 1 = 0x52 ∧ leAt bs 124 4 = crc32c (bs.take 124) ∧ leAt bs 1 1 = 3 ∧ leAt ((bs.drop 4).take 120) 4 2 = 0 ∧ leAt ((bs.drop 4).take 120) 6 2 = 1 ∧ leAt ((bs.drop 4).take 120) 9 3 = 0 ∧ 0 < leAt ((bs.drop 4).take 120) 8 1 ∧ leAt ((bs.drop 4).take 120) 8 1 ≤ 108 ∧ (((bs.drop 4).take 120).drop (12 + leAt ((bs.drop 4).take 120) 8 1)).all (· == 0) = true ∧ s.slvLink.asm = [] ∧ (∀ d ∈ s.slvLink.done, d.1 ≠ leAt ((bs.drop 4).take 120) 0 4)) :=
  ⟨⟨(wSlv id), by decide, wSample, by decide +kernel⟩,
   ⟨(wSlv id), by decide, (List.replicate 128 1), by decide +kernel⟩,
   ⟨(wSlv id), by decide, 11, ofAll (by decide)⟩,
   ⟨(wSlv id), by decide, wRecord, by decide +kernel⟩⟩

theorem witness_SleeveHeadsMeasure :
    (∃ s : State, s.slvOn = true) ∧
    (∃ s : State, s.slvOn = true ∧ ∃ p : Fin 12, ∃ q : Pairing, s.hasPort p = true ∧ s.slv.paired p = some q ∧ ∃ bs : List Byte, bs.length = 12 ∧ leAt bs 0 1 = 0xA5 ∧ leAt bs 10 2 = crc16 (bs.take 10) ∧ s.slv.head[p].count ≤ leAt bs 1 1) ∧
    (∃ s : State, s.slvOn = true ∧ ∃ p : Fin 12, ∃ q : Pairing, s.hasPort p = true ∧ s.slv.paired p = some q ∧ ∃ bs : List Byte, bs.length = 24 ∧ leAt bs 0 1 = 0x5B ∧ s.slv.head[p].count = 256 ∧ s.slv.head[p].bad = false ∧ (∀ l, s.slv.head[p].lastBlock = some l → l < leAt bs 2 6) ∧ s.slv.registers = true ∧ bs.drop 8 = tag16 q.key (((bs.drop 2).take 6) ++ s.slv.head[p].bytes.reverse.flatten)) ∧
    (∃ s : State, s.slvOn = true ∧ ∃ p : Fin 12, ∃ q : Pairing, s.hasPort p = true ∧ s.slv.paired p = some q ∧ ∃ bs : List Byte, bs.length = 24 ∧ leAt bs 0 1 = 0x5B ∧ s.slv.head[p].bad = true) ∧
    (∃ s : State, s.slvOn = true ∧ ∃ p : Fin 12, s.hasPort p = true ∧ s.slv.head[p].st = .ok ∧ s.slv.head[p].lastVer + 250000 ≤ s.slv.mc) ∧
    (∃ s : State, s.slvOn = true ∧ ∃ p : Fin 12, s.hasPort p = true ∧ s.slv.st = .service ∧ atD s.slv.lp.heads p none = none) :=
  ⟨⟨(wSlv id), by decide⟩,
   ⟨(wHead0 {}), by decide, 0, wPairing, by decide, rfl, wHeadSample, by decide +kernel⟩,
   ⟨(wHead0 { count := 256 }), by decide, 0, wPairing, by decide, rfl, wHeadAuth, by decide, by decide, by decide, by decide, ofAll (by decide), by decide, rfl⟩,
   ⟨(wHead0 { bad := true, count := 256 }), by decide, 0, wPairing, by decide, rfl, wHeadAuth, by decide⟩,
   ⟨(wHead0 {}), by decide, 0, by decide⟩,
   ⟨(wService id), by decide, 0, by decide⟩⟩

theorem witness_SleeveIntakeMeasures :
    (∃ s : State, s.slvOn = true) ∧
    (∃ s : State, s.slvOn = true ∧ ∃ xs : List AcCodes, ∃ a : Rat, ∃ b : Rat, s.slv.registers = true ∧ let u : Sleeve := { s.slv with inp := s.slv.inp.take xs }
  u.inp.start = some a ∧ u.cycleEnd a = some b) ∧
    (∃ s : State, s.slvOn = true ∧ s.slv.lp.nLatch ≤ s.slv.inp.cycles) ∧
    (∃ s : State, s.slvOn = true ∧ ∃ t0, s.slv.inp.noRefAt = some t0 ∧ t0 + 1500000 / s.slv.lp.fNom ≤ s.slv.mc) ∧
    (∃ s : State, s.slvOn = true ∧ ∃ xs : List AcCodes, ∃ p : Rat, ∃ b : Rat, s.slv.st = .run ∧ let u : Sleeve := { s.slv with inp := s.slv.inp.take xs }
  let uh : Vector Nat 3 := Vector.ofFn (fun k => u.uHalf p b k.val)
  u.refreshAt (u.inp.refAt.getD 0) = some b ∧ u.inp.refPrev = some p ∧ s.slv.inp.sag.on = false ∧ uh.toList.any (· < s.slv.lp.sagThr) = true) ∧
    (∃ s : State, s.slvOn = true ∧ ∃ xs : List AcCodes, ∃ p : Rat, ∃ b : Rat, s.slv.st = .run ∧ let u : Sleeve := { s.slv with inp := s.slv.inp.take xs }
  let uh : Vector Nat 3 := Vector.ofFn (fun k => u.uHalf p b k.val)
  u.refreshAt (u.inp.refAt.getD 0) = some b ∧ u.inp.refPrev = some p ∧ s.slv.inp.sag.on = true ∧ uh.toList.all (s.slv.lp.sagThr + s.slv.lp.hyst ≤ ·) = true ∧ s.slv.reg.distNext < 16) :=
  ⟨⟨(wSlv id), by decide⟩,
   ⟨(wIn { buf := [wAc 5, wAc (-5)], start := some 0, ref := some 0 }), by decide, ([wAc 5]), 0, (3 / 2), by decide +kernel⟩,
   ⟨(wSlv (fun x => { x with inp := { cycles := 50 } })), by decide⟩,
   ⟨(wSlv (fun x => { x with inp := { noRefAt := some 0 } })), by decide, 0, rfl, by decide⟩,
   ⟨(wIn { buf := [wAc 5, wAc (-5)], refPrev := some (-1 / 2), refAt := some 0, ref := some 0 }), by decide, ([wAc 5]), (-1 / 2), (1 / 2), by decide +kernel⟩,
   ⟨(wIn { buf := List.replicate 90 (wAc 230), freerun := true, refPrev := some 8, refAt := some 9, sag := { on := true } }), by decide, ([]), 8, 89, by decide +kernel⟩⟩

theorem witness_SleeveStatesChange :
    (∃ s : State, s.hasSleeve = true ∧ s.slv.powered = true) ∧
    (∃ s : State, s.hasSleeve = true ∧ s.slv.powered = true) ∧
    (∃ s : State, s.hasSleeve = true ∧ s.slv.powered = true ∧ ∃ l : LegalParams, s.slv.st ≠ .fatal ∧ Config.hssVerify Config.metroPublic s.slv.fw.img s.slv.fw.sig = true ∧ s.slv.legal = some l) ∧
    (∃ s : State, s.hasSleeve = true ∧ s.slv.powered = true ∧ ∃ r : Int, s.slv.st = .run ∧ 500 < r.natAbs) ∧
    (∃ s : State, s.hasSleeve = true ∧ s.slv.powered = true ∧ ∃ r : Int, ∃ x : Int, s.slv.st = .run ∧ r.natAbs ≤ 500 ∧ 10000 < x.natAbs) ∧
    (∃ s : State, s.hasSleeve = true ∧ s.slv.powered = true ∧ ∃ r : Int, ∃ x : Int, ∃ a : Bool, ∃ b : Bool, s.slv.st = .run ∧ r.natAbs ≤ 500 ∧ x.natAbs ≤ 10000 ∧ a = false ∧ b = false) ∧
    (∃ s : State, s.hasSleeve = true ∧ s.slv.powered = true ∧ ∃ r : Int, ∃ x : Int, ∃ a : Bool, ∃ b : Bool, s.slv.st = .run ∧ r.natAbs ≤ 500 ∧ x.natAbs ≤ 10000 ∧ a ≠ b) ∧
    (∃ s : State, s.hasSleeve = true ∧ s.slv.powered = true ∧ s.slv.st = .run) ∧
    (∃ s : State, s.hasSleeve = true ∧ s.slv.powered = true ∧ ∃ l : LegalParams, s.slv.st = .service ∧ s.slv.legal = some l) ∧
    (∃ s : State, s.hasSleeve = true ∧ s.slv.powered = true ∧ (s.slv.st = .service ∨ (s.slv.st = .fatal ∧ s.slv.fwOk = false))) ∧
    (∃ s : State, s.hasSleeve = true ∧ s.slv.powered = true ∧ ∃ l : LegalParams, s.slv.st = .service ∧ l.ok = true) ∧
    (∃ s : State, s.hasSleeve = true ∧ s.slv.powered = false) ∧
    (∃ s : State, s.hasSleeve = true ∧ s.slv.powered = false) :=
  ⟨⟨(wSlv id), by decide⟩,
   ⟨(wSlv id), by decide⟩,
   ⟨(wSlv id), by decide, by decide, ({}), by decide, wSlv_verifies, rfl⟩,
   ⟨(wSlv id), by decide, by decide, 501, by decide⟩,
   ⟨(wSlv id), by decide, by decide, (-500), (-10001), by decide⟩,
   ⟨(wSlv id), by decide, by decide, 0, 10000, false, false, by decide⟩,
   ⟨(wSlv id), by decide, by decide, 0, 0, true, false, by decide⟩,
   ⟨(wSlv id), by decide⟩,
   ⟨(wService id), by decide, by decide, ({}), by decide, rfl⟩,
   ⟨(wService id), by decide⟩,
   ⟨(wService id), by decide, by decide, ({ tariffPk := List.replicate 60 1 }), by decide +kernel⟩,
   ⟨wOff, by decide⟩,
   ⟨wOff, by decide⟩⟩

theorem witness_SleeveCommandsAct :
    (∃ s : State, ∃ f : CmdFrame, s.SlvTakes 0x01 f ∧ f.LengthOk 0) ∧
    (∃ s : State, ∃ f : CmdFrame, let u := s.slvAt 0x10 f
  s.SlvTakes 0x10 f ∧ f.LengthOk 12 ∧ u.logFull = false ∧ setTimeOk (leAt f.args40 0 8) (leAtI f.args40 8 2) u = true) ∧
    (∃ s : State, ∃ f : CmdFrame, let u := s.slvAt 0x20 f
  s.SlvTakes 0x20 f ∧ u.logFull = false ∧ f.alen = 40 ∧ leAt f.args40 0 1 = 0 ∧ leAt f.args40 1 1 = 0 ∧ leAt f.args40 2 1 = 103) ∧
    (∃ s : State, ∃ f : CmdFrame, ∃ p : Fin 12, leAt f.args40 0 1 = p.val ∧ let u := s.slvAt 0x30 f
  s.SlvTakes 0x30 f ∧ f.LengthOk 12 ∧ s.slv.registers = true ∧ u.trusts p = true ∧ u.sess[p] = none) ∧
    (∃ s : State, ∃ f : CmdFrame, ∃ p : Fin 12, leAt f.args40 0 1 = p.val ∧ let u := s.slvAt 0x31 f
  ∃ x : Sess, s.SlvTakes 0x31 f ∧ f.LengthOk 8 ∧ s.slv.registers = true ∧ leAt f.args40 1 1 ≤ 17 ∧ u.sess[p] = some x ∧ x.num = leAt f.args40 4 4) ∧
    (∃ s : State, ∃ f : CmdFrame, ∃ code : Nat, cmdLen code = none ∧ s.SlvTakes code f) ∧
    (∃ s : State, ∃ f : CmdFrame, s.slvOn = true ∧ s.slv.lane[f.lane].key = none) ∧
    (∃ s : State, ∃ f : CmdFrame, ∃ k : Nat, ∃ c : Nat, s.slvOn = true ∧ s.slv.lane[f.lane].key = some k ∧ f.tag = tag16 k (f.head 0x01) ∧ s.slv.lane[f.lane].ctr = some c ∧ f.ctr ≤ c) :=
  ⟨⟨(wSlv id), (wCmd 0x01 0 []), ⟨by decide, by decide, by decide, ⟨_, rfl, rfl⟩, ofAll (by decide)⟩, ⟨by decide, by decide⟩⟩,
   ⟨(wSlv id), (wCmd 0x10 12 (leBytes 8 5030 ++ leBytes 2 60)), ⟨by decide, by decide, by decide, ⟨_, rfl, rfl⟩, ofAll (by decide)⟩, ⟨by decide, by decide⟩, by decide +kernel⟩,
   ⟨(wSlv id), (wCmd 0x20 40 ([0, 0, 103] ++ List.replicate 37 1)), ⟨by decide, by decide, by decide, ⟨_, rfl, rfl⟩, ofAll (by decide)⟩, by decide +kernel⟩,
   ⟨(wSlv (fun x => { x with head := Vector.replicate 12 { st := .ok, pair := some wPairing } })), (wCmd 0x30 12 [11, 1, 0, 0, 7, 0, 0, 0]), 11, by decide, ⟨by decide, by decide, by decide, ⟨_, rfl, rfl⟩, ofAll (by decide)⟩, ⟨by decide, by decide⟩, by decide +kernel⟩,
   ⟨(wSession { num := 7 } id), (wCmd 0x31 8 [0, 17, 0, 0, 7, 0, 0, 0]), 0, by decide, ({ num := 7 }), ⟨by decide, by decide, by decide, ⟨_, rfl, rfl⟩, ofAll (by decide)⟩, ⟨by decide, by decide⟩, by decide +kernel⟩,
   ⟨(wSlv id), (wCmd 0x40 0 []), 0x40, by decide, ⟨by decide, by decide, by decide, ⟨_, rfl, rfl⟩, ofAll (by decide)⟩⟩,
   ⟨(wSlv (fun x => { x with lane := Vector.replicate 2 {} })), (wCmd 1 0 []), by decide⟩,
   ⟨(wSlv (fun x => { x with lane := Vector.replicate 2 { key := some 5, ctr := some 9 } })), (wCmd 1 0 []), 5, 9, by decide, rfl, rfl, rfl, by decide⟩⟩

theorem witness_BillingAndTamperAct :
    (∃ s : State, ∃ p : Fin 12, ∃ x : Sess, s.slvOn = true ∧ (∀ k : Fin 2, s.slv.lane[k].aliveAt + 10000000 ≤ s.slv.mc) ∧ s.slv.sess[p] = some x) ∧
    (∃ s : State, ∃ seq : Nat, ∃ r : Rec, s.slvOn = true ∧ s.slv.recs.find? (fun r => r.seq == seq) = some r ∧ r.sent = 0 ∧ r.formedAt + 1000000 ≤ s.slv.mc) ∧
    (∃ s : State, ∃ p : Fin 12, ∃ x : Sess, s.slvOn = true ∧ s.hasPort p = true ∧ s.slv.registers = true ∧ s.slv.gate[p].notice = true ∧ s.slv.gate[p].noticeAt + s.slv.lp.leadT * 1000000 ≤ s.slv.mc ∧ s.slv.sess[p] = some x ∧ x.prepaid = true ∧ s.slv.gate[p].open_ = false) ∧
    (∃ s : State, ∃ p : Fin 12, s.slvOn = true ∧ s.hasPort p = true ∧ s.slv.gate[p].open_ = true ∧ s.slv.gate[p].judged = false ∧ s.slv.gate[p].openAt + 200000 ≤ s.slv.mc) ∧
    (∃ s : State, ∃ k : Fin 5, ∃ a : Nat, s.hasSleeve = true ∧ s.slv.tamp[k].heldAt = some a ∧ s.slv.tamp[k].active = false ∧ (a + (if k.val = 0 ∨ k.val = 1 then 10000000 else if k.val = 2 then 5000000 else 50000) ≤ s.slv.mc) ∧ s.slv.powered = true ∧ (k.val < 3 → s.slv.intakeOn = true)) ∧
    (∃ s : State, ∃ k : Fin 5, ∃ a : Nat, s.hasSleeve = true ∧ s.slv.tamp[k].goneAt = some a ∧ s.slv.tamp[k].active = true ∧ a + (if k.val < 3 then 10000000 else 50000) ≤ s.slv.mc ∧ s.slv.powered = true ∧ (k.val < 3 → s.slv.intakeOn = true)) ∧
    (∃ s : State, s.hasSleeve = true ∧ s.slv.powered = true ∧ bitOf 0 s.slv.lp.tampM = true) ∧
    (∃ s : State, s.hasSleeve = true ∧ s.slv.powered = false ∧ s.slv.vbks = true) :=
  ⟨⟨(wSession { num := 12, prepaid := true } id), 0, ({ num := 12, prepaid := true }), by decide, by decide, rfl⟩,
   ⟨(wSlv (fun x => { x with recs := [wRec] })), 4, wRec, by decide, rfl, by decide⟩,
   ⟨(wSession { num := 12, prepaid := true } (fun y => { y with gate := Vector.replicate 12 { notice := true } })), 0, ({ num := 12, prepaid := true }), by decide, by decide, by decide, by decide, by decide, rfl, by decide⟩,
   ⟨(wSlv (fun x => { x with gate := Vector.replicate 12 { open_ := true } })), 0, by decide⟩,
   ⟨(wTamp { heldAt := some 0 }), 0, 0, by decide, rfl, by decide⟩,
   ⟨(wTamp { active := true, goneAt := some 0 }), 4, 0, by decide, rfl, by decide⟩,
   ⟨(wSlv id), by decide⟩,
   ⟨wOff, by decide⟩⟩

end Sys2Proof.Tests.WitnessSleeve
end

