-- ==== Sys2Proof/Tests/WitnessStated.lean ====
section
/-! SUPPORT. For each statement about single rules, states and operands that meet its hypotheses. -/

namespace Sys2Proof.Tests.WitnessStated

set_option Elab.async false

open Sys2Proof Sys2Proof.Machine

/-- A unit with a queue whose producer is stalled. -/
def wStalled : State := { wUp with thk := { stalled := [3], used := [(3, 1)] } }

/-- Two Cuff channels conduct; channel 1 has the higher rank. -/
def wShed : State :=
  { wUp with cuf := { hist := [(999999999999, 2401)], ch := ((Vector.replicate 16 ({} : CufCh)).set 0 { cfg := some { shedRank := 2 }, on := true }).set 1 { cfg := some { ch := 1, shedRank := 7 }, on := true } } }

def wShedNow : State := { wUp with cuf := { hist := [(999999999999, 2401)], shedAt := some 999999999999 } }

def wSrcHost : State := { wUp with cfg := { cnpIntake := some { srcHost := true } } }

/-- A paired unit that has waited for its peer in START. -/
def wStart : State := { wUp with seam := { pair := some { peerId := 5 }, role := .start } }

/-- A RELEASE frame, its tag left to `wTagged`. -/
def wRelease : SeamFrame := { typ := 4, len := 12, gen := 1, lseq := 1, pay := List.replicate 12 1 }

/-- A unit in the power-on reset whose root key is the one of its check value. -/
def wHeld : State := { mono := 1000000, rst := { hold := some {} } }

/-- A unit with Bramble running. -/
def wBrm : State := { wUp with brm := { run := true } }

def wPay : List Byte := List.replicate 28 0

theorem witness_FabricStallsOncePerEpisode :
    (∃ s : State, ∃ q : Nat, s.up = true ∧ q ∉ s.thk.stalled) ∧
    (∃ s : State, ∃ q : Nat, s.up = true ∧ q ∈ s.thk.stalled) ∧
    (∃ s : State, ∃ q : Nat, s.up = true ∧ q ∈ s.thk.stalled ∧ 0 < s.thk.inUse q) :=
  ⟨⟨wUp, 3, by decide⟩,
   ⟨wStalled, 3, by decide⟩,
   ⟨wStalled, 3, by decide⟩⟩

theorem witness_TotalCurrentSheds :
    (∃ s : State, ∃ xs : List (Nat × Nat), xs = s.cuf.hist.filter (fun e => s.mono < e.1 + 100000) ∧ sumN (xs.map (·.2)) ≤ 2400 * xs.length) ∧
    (∃ s : State, ∃ xs : List (Nat × Nat), xs = s.cuf.hist.filter (fun e => s.mono < e.1 + 100000) ∧ ∃ n : Fin 16, 2400 * xs.length < sumN (xs.map (·.2)) ∧ (∀ t0, s.cuf.shedAt = some t0 → t0 + 10000 ≤ s.mono) ∧ cufBefore s.cuf s.mono s.cuf.ch[n] = true ∧ (∀ k : Fin 16, k ≠ n → cufBefore s.cuf s.mono s.cuf.ch[k] = true → ((s.cuf.ch[k].cfg.map (·.shedRank)).getD 0) < ((s.cuf.ch[n].cfg.map (·.shedRank)).getD 0) ∨ (((s.cuf.ch[k].cfg.map (·.shedRank)).getD 0) = ((s.cuf.ch[n].cfg.map (·.shedRank)).getD 0) ∧ k < n))) ∧
    (∃ s : State, ∃ xs : List (Nat × Nat), xs = s.cuf.hist.filter (fun e => s.mono < e.1 + 100000) ∧ ∃ t0, 2400 * xs.length < sumN (xs.map (·.2)) ∧ s.cuf.shedAt = some t0 ∧ s.mono < t0 + 10000) :=
  ⟨⟨({ wUp with cuf := { hist := [(999999999999, 2400)] } }), ([(999999999999, 2400)]), by decide⟩,
   ⟨wShed, ([(999999999999, 2401)]), by decide, 1, by decide, ofAll (by decide), by decide⟩,
   ⟨wShedNow, ([(999999999999, 2401)]), by decide, 999999999999, by decide, rfl, by decide⟩⟩

theorem witness_HostMeasuresIntake :
    (∃ s : State, s.HostReady 0x802C ∧ (s.cfg.cnpIntake.getD {}).srcHost = true) ∧
    (∃ s : State, s.HostReady 0x802C ∧ (s.cfg.cnpIntake.getD {}).srcHost = false) :=
  ⟨⟨wSrcHost, ⟨by decide, by decide, by decide, by decide⟩, by decide⟩,
   ⟨wUp, ⟨by decide, by decide, by decide, by decide⟩, by decide⟩⟩

theorem witness_EpochRises :
    (∃ s : State, s.paired = true ∧ s.seam.role = .start ∧ s.seam.upLanes = [] ∧ s.seam.other = false ∧ s.seam.startAt + 7000000 ≤ s.mono ∧ s.cnp.started = false) ∧
    (∃ c, c ∈ [Instr.powerOnReset 0, .powerOnReset 1, .brownOut, .pinReset 1000]) :=
  ⟨⟨wStart, by decide⟩,
   ⟨.brownOut, by decide⟩⟩

theorem witness_EpochRises_release : ∃ (s : State) (f : SeamFrame), s.SeamTakes 4 f ∧ s.gtr.unfit = false :=
  ⟨wStandby, wTagged wStandby wRelease, wTagged_takes 4 (by decide), by decide⟩


theorem wHeld_rootGood : wHeld.clk.rootGood wHeld.fuses.devId { errors := 2622 } = true := by
  simp [wHeld, Cloak.rootGood, Cloak.attempt, Twice.take, Twice.of, Copy.ok, rootCheck, Config.rootSecret]

theorem witness_CloakMarginTold :
    ∃ (s : State) (h : Hold) (bad rest : List RootTry) (r : RootTry), s.rst.hold = some h ∧ h.level < 2 ∧ h.at_ + h.least ≤ s.mono ∧
      s.gld.pwren = true ∧ s.fuses.mapOk = true ∧ bad.length < 4 ∧ s.fuses.fwOk = true ∧
      (∀ x ∈ bad, s.clk.rootGood s.fuses.devId x = false) ∧ s.clk.rootGood s.fuses.devId r = true :=
  ⟨wHeld, {}, [], [], { errors := 2622 }, by decide, by decide, by decide, by decide, by decide, by decide, fwOk_made, by decide, wHeld_rootGood⟩


theorem witness_NoisyFramesNacked :
    (∃ s : State, ∃ nbr : Option (Fin 64), ∃ h : List Byte, ∃ pay : List Byte, ∃ xs : List Int, ∃ ft : Nat, ∃ tm : Nat, ∃ total : Nat, ∃ erased : Nat, s.brmOn = true ∧ h = leBytes 1 ft ++ leBytes 1 tm ++ leBytes 2 pay.length ++ [0xFF, 0, 0] ∧ 28 ≤ pay.length ∧ pay.length ≤ 252 ∧ ((ft = 4 ∧ tm = 0 ∧ total = paySymbols pay.length 0 true) ∨ (ft = 0 ∧ tm < 16 ∧ ∃ n, nbr = some n ∧ s.brm.nbr[n].st ≠ .empty ∧ ∃ m, s.brm.nbr[n].rx.find? (fun m => m.2 == tm) = some m ∧ 14 ≤ toneBits m.1 ∧ total = paySymbols pay.length (toneBits m.1) false)) ∧ erased = ((List.range total).filter (symErased (s.cfg.brmGlobal.getD {}).blankThr xs)).length ∧ leAt pay (pay.length - 4) 4 ≠ crc32c (pay.take (pay.length - 4)) ∧ leAt pay 5 1 = 0 ∧ total ≤ 4 * erased) ∧
    (∃ s : State, ∃ nbr : Option (Fin 64), ∃ h : List Byte, ∃ pay : List Byte, ∃ xs : List Int, ∃ ft : Nat, ∃ tm : Nat, ∃ total : Nat, ∃ erased : Nat, s.brmOn = true ∧ h = leBytes 1 ft ++ leBytes 1 tm ++ leBytes 2 pay.length ++ [0xFF, 0, 0] ∧ 28 ≤ pay.length ∧ pay.length ≤ 252 ∧ ((ft = 4 ∧ tm = 0 ∧ total = paySymbols pay.length 0 true) ∨ (ft = 0 ∧ tm < 16 ∧ ∃ n, nbr = some n ∧ s.brm.nbr[n].st ≠ .empty ∧ ∃ m, s.brm.nbr[n].rx.find? (fun m => m.2 == tm) = some m ∧ 14 ≤ toneBits m.1 ∧ total = paySymbols pay.length (toneBits m.1) false)) ∧ erased = ((List.range total).filter (symErased (s.cfg.brmGlobal.getD {}).blankThr xs)).length ∧ leAt pay (pay.length - 4) 4 ≠ crc32c (pay.take (pay.length - 4)) ∧ (4 * erased < total ∨ leAt pay 5 1 ≠ 0)) :=
  ⟨⟨wBrm, none, ([4, 0, 28, 0, 0xFF, 0, 0]), wPay, (wLoud (1168 + 144 * 66)), 4, 0, 66, 66, by decide, by decide, by decide, by decide, (Or.inl ⟨rfl, rfl, by decide⟩), wLoud_count (by decide), by decide +kernel⟩,
   ⟨wBrm, none, ([4, 0, 28, 0, 0xFF, 0, 0]), wPay, ([]), 4, 0, 66, 0, by decide, by decide, by decide, by decide, (Or.inl ⟨rfl, rfl, by decide⟩), by decide +kernel⟩⟩

end Sys2Proof.Tests.WitnessStated
end

