-- ==== Sys2Proof/Tests/WitnessWhole.lean ====
section
/-! SUPPORT. For the statements about the device as a whole, states and commands that meet their hypotheses. -/

namespace Sys2Proof.Tests.WitnessWhole

set_option Elab.async false

open Sys2Proof Sys2Proof.Machine

/-- A device whose flash holds a byte, whose log holds two entries, and for which a command waits. -/
def wBusy : State :=
  { wUp with
    img := { flash := #v[[(17, 3)], []] }
    thk := { log := [{ seq := 4, ts := 0, sec := 0, ev := 1, detail := 0 }, { seq := 5, ts := 0, sec := 0, ev := 2, detail := 0 }], logSeq := 5 }
    pending := [.canopyTick, .gladeXtalLoss] }

theorem wBusy_inv : wBusy.Inv := ⟨by unfold flashOk; decide, by unfold logOk; decide, by unfold ringOk; decide⟩

theorem witness_QueueIsServed : (∃ s : State, s.pending = []) ∧ ∃ (c : Instr) (s t : State), exec c s = .next t :=
  ⟨⟨wUp, rfl⟩, .creditReturn 3, wUp, _, rfl⟩

theorem witness_EveryStepKeepsInv : ∃ s t : State, s.Inv ∧ step s = .next t := ⟨wBusy, _, wBusy_inv, rfl⟩

theorem witness_LikeUnitsKeptApart : ∃ (c : Instr) (s t : State), exec c s = .next t := ⟨.portStep 1 [], wUp, _, rfl⟩

end Sys2Proof.Tests.WitnessWhole
end

section
/-! The intake measurement that the host writes (spec/03_canopy_limits_and_faults.md R69), and the event of an access that ends with
NOT_IN_STATE (spec/17_thicket_and_events.md R467). -/

namespace Sys2Proof.Machine

/-! ### An access that ends with NOT_IN_STATE -/

/-- Outside a reset the event of the access is the one that its chapter names, else not-in-state; the address is recorded. -/
theorem State.judged_notInState_thk (a : Nat) (s : State) (h : s.up = true) :
    (s.judged .notInState a).thk =
      ({ ((s.thk.pulseTag.endWith Status.notInState.code a).countNis (some a)) with own := none } : Thicket).raise
        (s.thk.own.getD .notInState) a s.tb s.sec :=
  State.raiseAt_thk _ _ _ h

theorem State.judged_notInState_told (a : Nat) (s : State) (h : s.up = true) :
    (s.judged .notInState a).told (s.thk.own.getD .notInState) :=
  State.raiseAt_told _ _ _ h

theorem State.judged_notInState_nisAddr (a : Nat) (s : State) (h : s.up = true) :
    (s.judged .notInState a).thk.nisAddr = a := by
  rw [State.judged_notInState_thk a s h]
  rfl

/-- No event becomes pending besides that of the access. -/
theorem State.judged_notInState_ev (a : Nat) (s : State) (h : s.up = true) :
    (s.judged .notInState a).thk.ev = s.thk.ev ||| 2 ^ (s.thk.own.getD .notInState).num := by
  rw [State.judged_notInState_thk a s h]
  rfl

theorem State.answered_emit (st : Status) (ws : List Nat) (s : State) : (s.emit (.done st ws)).answered st ws :=
  List.getLast?_concat

/-- A host write that its page refuses with nothing changed ends with that status. -/
theorem State.hostWrite_refused (a w : Nat) (g : Page) (o : Nat) (s : State) (st : Status) (h : s.HostReady a) (ha : a % 4 = 0)
    (hp : pageOf a = some (g, o)) (hs : st ≠ .ok) (hw : pageWrite g o w s = some (st, s)) :
    s.hostWrite a w = (s.judged st a).emit (.done st []) := by
  have hg : g.present s.fuses.variant = true := by
    have hpres := h.present
    unfold absentAt at hpres
    rw [hp] at hpres
    simpa using hpres
  have hwrite : s.writeAt a w = (st, s) := by
    unfold State.writeAt
    simp [ha, hp, hg, hw, stored, hs]
  have hswap : s.swapAway a w = false := by simp [State.swapAway, h.serves]
  unfold State.hostWrite
  rw [hswap, Bool.and_false, if_neg Bool.false_ne_true]
  exact State.hostCommand_refused a (fun s => s.writeAt a w) s st h hs hwrite

/-! ### CNP_PMEAS_HOST -/

theorem pageOf_pmeasHost : pageOf 0x802C = some (.cnp, 0x02C) := by decide

theorem pageWrite_pmeasHost (w : Nat) (s : State) : pageWrite .cnp 0x02C w s = some (pmeasWrite w s) := rfl

/-- The state that has taken the written word, in 0.1 kW, as a new measurement (R68, R69). -/
def State.hostMeasured (w : Nat) (s : State) : State :=
  State.measure ((dec 32 w : Rat) / 10) { s with cnp := { s.cnp with pmeasHost := dec 32 w } }

theorem pmeasWrite_of_srcHost {w : Nat} {s : State} (h : (s.cfg.cnpIntake.getD {}).srcHost = true) :
    pmeasWrite w s = (.ok, s.hostMeasured w) := by
  unfold pmeasWrite
  rw [h]
  rfl

theorem pmeasWrite_of_not_srcHost {w : Nat} {s : State} (h : (s.cfg.cnpIntake.getD {}).srcHost = false) :
    pmeasWrite w s = (.notInState, s) := by
  unfold pmeasWrite
  rw [h]
  rfl

/-- R69 with SRC = 1: besides THK_ and the answer, the command leaves the new measurement. -/
theorem exec_pmeasHostWrite_of_srcHost (w : Word) (s : State) (h : s.HostReady 0x802C)
    (hsrc : (s.cfg.cnpIntake.getD {}).srcHost = true) :
    ∃ k, exec (.pmeasHostWrite w) s =
      .next { s.hostMeasured w.toNat with thk := k, out := (s.hostMeasured w.toNat).out ++ [.done .ok []] } := by
  obtain ⟨k, hk⟩ := State.hostWrite_ok 0x802C w.toNat .cnp 0x02C s (s.hostMeasured w.toNat) h (by decide) pageOf_pmeasHost
    (by rw [pageWrite_pmeasHost, pmeasWrite_of_srcHost hsrc])
  exact ⟨k, congrArg Host.Outcome.next hk⟩

/-- R69 with SRC = 0: the command ends with NOT_IN_STATE. -/
theorem exec_pmeasHostWrite_of_not_srcHost (w : Word) (s : State) (h : s.HostReady 0x802C)
    (hsrc : (s.cfg.cnpIntake.getD {}).srcHost = false) :
    exec (.pmeasHostWrite w) s = .next ((s.judged .notInState 0x802C).emit (.done .notInState [])) :=
  congrArg Host.Outcome.next (State.hostWrite_refused 0x802C w.toNat .cnp 0x02C s .notInState h (by decide) pageOf_pmeasHost
    (by decide) (by rw [pageWrite_pmeasHost, pmeasWrite_of_not_srcHost hsrc]))

/-- The clause of O8 for SRC = 1 holds. -/
theorem pmeasHostWrite_measures (w : Word) (s : State) (h : s.HostReady 0x802C)
    (hsrc : (s.cfg.cnpIntake.getD {}).srcHost = true) :
    ∃ t, exec (.pmeasHostWrite w) s = .next t ∧ t.answered .ok [] ∧
      t.cnp.pmeasHost = dec 32 w.toNat ∧ t.cnp.pMeas = (dec 32 w.toNat : Rat) / 10 ∧ t.cnp.measAt = s.mono ∧
      t.cnp.measStale = false ∧ t.cnp = (s.hostMeasured w.toNat).cnp := by
  obtain ⟨k, hk⟩ := exec_pmeasHostWrite_of_srcHost w s h hsrc
  exact ⟨_, hk, List.getLast?_concat, rfl, rfl, rfl, rfl, rfl⟩

/-- The clause of O8 for SRC = 0 holds with the event that the device raises: not-in-state, where no chapter's own event stands for
the access. -/
theorem pmeasHostWrite_notInState (w : Word) (s : State) (h : s.HostReady 0x802C)
    (hsrc : (s.cfg.cnpIntake.getD {}).srcHost = false) :
    ∃ t, exec (.pmeasHostWrite w) s = .next t ∧ t.answered .notInState [] ∧ t.cnp = s.cnp ∧
      t.told (s.thk.own.getD .notInState) ∧ t.thk.nisAddr = 0x802C :=
  ⟨_, exec_pmeasHostWrite_of_not_srcHost w s h hsrc, State.answered_emit _ _ _, State.judged_cnp _ _ _,
    State.judged_notInState_told _ s h.up, State.judged_notInState_nisAddr _ s h.up⟩

/-- A unit out of reset, its intake on the meter (SRC = 0), in which the key-missing event still stands in place of not-in-state. -/
def ownEventStands : State := { rst := { hold := none, refOk := true }, thk := { own := some .keyMissing } }

theorem ownEventStands_hostReady : ownEventStands.HostReady 0x802C := ⟨by decide, by decide, by decide, by decide⟩

theorem ownEventStands_not_told : ¬ ((ownEventStands.judged .notInState 0x802C).emit (.done .notInState [])).told .notInState := by
  unfold State.told
  rw [State.emit_thk, State.judged_notInState_ev _ _ ownEventStands_hostReady.up]
  decide

/-- Refutes O8: the statement allows a state in which `thk.own` still names an event in place of not-in-state; the refused write then
raises that event, and not-in-state is not pending. -/
theorem not_hostMeasuresIntake : ¬ Obligations.HostMeasuresIntake := by
  unfold Obligations.HostMeasuresIntake
  intro h
  have hsrc : (ownEventStands.cfg.cnpIntake.getD {}).srcHost = false := by decide
  obtain ⟨t, hexec, _, _, htold, _⟩ := (h ownEventStands 0 ownEventStands_hostReady).2 hsrc
  rw [exec_pmeasHostWrite_of_not_srcHost 0 _ ownEventStands_hostReady hsrc] at hexec
  cases hexec
  exact ownEventStands_not_told htold

end Sys2Proof.Machine
end

section
/-! The epoch of Canopy (spec/04_module_bus.md R112, spec/10_seam_pair.md R298): what raises it, and what keeps it. -/

namespace Sys2Proof.Machine

/-- A view of the state that each step of a fold keeps, the fold keeps. -/
theorem foldl_keeps {α β : Type} {view : State → β} {f : State → α → State} (l : List α) (s : State)
    (h : ∀ t, ∀ x ∈ l, view (f t x) = view t) : view (l.foldl f s) = view s :=
  List.foldlRecOn (motive := fun t => view t = view s) l f rfl (fun t ht x hx => (h t x hx).trans ht)

/-! ### The start of Canopy -/

/-- The base of the epoch is a matter of Seam and of the own epoch alone. -/
theorem State.epochBase_congr {s t : State} (hseam : t.seam = s.seam) (hmb : t.mb.epoch = s.mb.epoch) :
    t.epochBase = s.epochBase := by
  unfold State.epochBase
  rw [hseam, hmb]

/-- Canopy starts in a unit that runs single or is active (R421): the epoch follows its base. -/
theorem State.canopyStart_of_not_started {s : State} (h : s.cnp.started = false)
    (hrole : s.seam.role = .single ∨ s.seam.role = .active) :
    s.canopyStart.cnp.started = true ∧ s.canopyStart.mb.epoch = nextEpoch s.epochBase := by
  have hgo : (s.cnp.started || !(s.seam.role == .single || s.seam.role == .active)) = false := by
    rcases hrole with hr | hr <;> simp [h, hr]
  unfold State.canopyStart
  rw [hgo, if_neg Bool.false_ne_true]
  exact ⟨rfl, rfl⟩

/-! ### The first-leaf records -/

/-- Only a SEAM_PAIR record changes Seam. -/
theorem State.applyRec_seam (s : State) (x : ImgRec) (h : ∀ r, x ≠ .seamPair r) : (s.applyRec x).seam = s.seam := by
  cases x with
  | vpPort r =>
    exact ((State.checkPathStart_moves r _).frame.get .seam (by decide)).trans
      ((State.portStart_moves r.port s).frame.get .seam (by decide))
  | seamPair r => exact absurd rfl (h r)
  | lacChain r => exact (State.lacStart_moves r.chain s).frame.get .seam (by decide)
  | cufChan r => exact (State.cufApply_moves r s).frame.get .seam (by decide)
  | hemCfg r => exact (State.hemDo_moves _ s).frame.get .seam (by decide)
  | hstNet r => exact (State.netStart_moves r s).frame.get .seam (by decide)
  | hstOcpp r => exact (State.ocppStart_moves s).frame.get .seam (by decide)
  | _ => rfl

theorem State.applyRecs_seam (rs : List (Nat × ImgRec)) (s : State) (h : ∀ x ∈ rs, ∀ r, x.2 ≠ .seamPair r) :
    (s.applyRecs rs).seam = s.seam :=
  foldl_keeps rs { s with cfg := rs.foldl (fun c r => c.add r.2) s.cfg } (fun t x hx => t.applyRec_seam x.2 (h x hx))

theorem State.busStart_epoch (s : State) : s.busStart.mb.epoch = s.mb.epoch :=
  foldl_keeps (view := fun t => t.mb.epoch) (List.finRange 4) s (fun t b _ => by dsimp only; split <;> rfl)

/-- What the first-leaf records have done before Canopy starts: the ports without a record, Gaiter's inputs and the buses follow. -/
def State.leafReady (rs : List (Nat × ImgRec)) (s : State) : State := ((s.applyRecs rs).portsRest.gtrDo applyInputs).busStart

theorem State.applyLeaf_eq (rs : List (Nat × ImgRec)) (s : State) : s.applyLeaf rs = (s.leafReady rs).canopyStart := rfl

theorem State.leafReady_moves (rs : List (Nat × ImgRec)) (s : State) :
    Moves [.fresh, .cfg, .thk, .mb, .ports, .v2g, .twins, .cpc, .gtr, .slvLink, .slvCtr, .seam, .lac, .brm, .cuf, .hem, .clk, .hst,
      .sessNext, .sessTop, .out] s (s.leafReady rs) :=
  (State.busStart_moves _).to (by decide) <| (State.gtrDo_moves _ _).to (by decide) <|
    (State.portsRest_moves _).to (by decide) <| (State.applyRecs_moves rs s).weaken (by decide)

theorem State.leafReady_seam (rs : List (Nat × ImgRec)) (s : State) (h : ∀ x ∈ rs, ∀ r, x.2 ≠ .seamPair r) :
    (s.leafReady rs).seam = s.seam := by
  have hbus := (State.busStart_moves ((s.applyRecs rs).portsRest.gtrDo applyInputs)).frame.get .seam (by decide)
  have hgtr := (State.gtrDo_moves applyInputs (s.applyRecs rs).portsRest).frame.get .seam (by decide)
  have hports := (State.portsRest_moves (s.applyRecs rs)).frame.get .seam (by decide)
  exact ((hbus.trans hgtr).trans hports).trans (State.applyRecs_seam rs s h)

theorem State.leafReady_epoch (rs : List (Nat × ImgRec)) (s : State) : (s.leafReady rs).mb.epoch = s.mb.epoch := by
  have hgtr := (State.gtrDo_moves applyInputs (s.applyRecs rs).portsRest).frame.get .mb (by decide)
  have hports := (State.portsRest_moves (s.applyRecs rs)).frame.get .mb (by decide)
  have hrecs := (State.applyRecs_moves rs s).frame.get .mb (by decide)
  exact (State.busStart_epoch _).trans (congrArg BusUnit.epoch ((hgtr.trans hports).trans hrecs))

/-- In a unit that runs single the first-leaf records start Canopy. -/
theorem State.applyLeaf_starts (rs : List (Nat × ImgRec)) (s : State) (h : ∀ x ∈ rs, ∀ r, x.2 ≠ .seamPair r)
    (hrole : s.seam.role = .single) (hstart : s.cnp.started = false) :
    (s.applyLeaf rs).cnp.started = true ∧ (s.applyLeaf rs).mb.epoch = nextEpoch s.epochBase := by
  have hseam := State.leafReady_seam rs s h
  have hcnp := (State.leafReady_moves rs s).frame.get .cnp (by decide)
  rw [State.applyLeaf_eq, ← State.epochBase_congr hseam (State.leafReady_epoch rs s)]
  exact State.canopyStart_of_not_started ((congrArg Canopy.started hcnp).trans hstart) (.inl (by rw [hseam, hrole]))

theorem State.applyLeaf_role (rs : List (Nat × ImgRec)) (s : State) (h : ∀ x ∈ rs, ∀ r, x.2 ≠ .seamPair r) :
    (s.applyLeaf rs).seam.role = s.seam.role := by
  have hstart := (State.canopyStart_moves (s.leafReady rs)).frame.get .seam (by decide)
  exact congrArg Seam.role (hstart.trans (State.leafReady_seam rs s h))

/-- An accepted first-leaf block is due (R417): the loader keeps its records. -/
theorem leafApply_of_leafOf {f : Fuses} {anchor : Nat} {l : Loader} {a : LeafOk} (hst : l.st = .flb)
    (ha : l.leafOf f anchor l.slot false = .ok a) : ∃ u, leafApply f anchor l = some u ∧ u.leaf = a.got.recs := by
  unfold leafApply
  rw [if_neg (by simp [hst]), ha]
  exact ⟨_, rfl, rfl⟩

theorem State.startChoice_of_role_ne {s : State} (h : s.seam.role ≠ .start) : s.startChoice = s := by
  simp [State.startChoice, h]

theorem firstLeafApply_starts (s : State) (a : LeafOk) (hup : s.up = true) (hst : s.img.st = .flb)
    (ha : s.img.leafOf s.fuses s.imgAnchor s.img.slot false = .ok a) (hrole : s.seam.role = .single)
    (hrecs : ∀ x ∈ a.got.recs, ∀ r, x.2 ≠ .seamPair r) (hstart : s.cnp.started = false) :
    ∃ t, exec .firstLeafApply s = .next t ∧ t.cnp.started = true ∧ t.mb.epoch = nextEpoch s.epochBase := by
  obtain ⟨u, hu, hleaf⟩ := leafApply_of_leafOf hst ha
  have hnot : ((s.imgPut u).applyLeaf a.got.recs).seam.role ≠ .start := by
    rw [State.applyLeaf_role _ _ hrecs]
    exact fun e => SeamRole.noConfusion (hrole.symm.trans e)
  have hforce : s.leafIntoForce = (s.imgPut u).applyLeaf a.got.recs := by
    unfold State.leafIntoForce
    rw [hu]
    dsimp only
    rw [hleaf, State.startChoice_of_role_ne hnot]
  refine ⟨s.leafIntoForce, ?_, ?_⟩
  · change Host.Outcome.next (s.onlyIf s.up State.leafIntoForce) = _
    rw [hup]
    rfl
  · rw [hforce]
    exact State.applyLeaf_starts a.got.recs (s.imgPut u) hrecs hrole hstart

/-! ### The role choice -/

/-- A unit that becomes active starts Canopy (spec/10_seam_pair.md Table 10.1). -/
theorem State.becomeActive_starts {s : State} (h : s.cnp.started = false) :
    s.becomeActive.cnp.started = true ∧ s.becomeActive.mb.epoch = nextEpoch s.epochBase :=
  State.canopyStart_of_not_started (s := s.seamMod (fun m => { m with role := .active, drive := true, synced := false })) h (.inr rfl)

/-- 7 s without a lane are enough whatever the strap prefers (R283). -/
theorem State.chooseAlone_active {s : State} (hrole : s.seam.role = .start) (hlanes : s.seam.upLanes = [])
    (hother : s.seam.other = false) (hlate : s.seam.startAt + 7000000 ≤ s.mono) : s.chooseAlone = s.becomeActive := by
  have hpassed : State.passed s.seam.startAt (if s.prefersActive then 2000000 else 7000000) s = true := by
    unfold State.passed
    split <;> exact decide_eq_true (by omega)
  unfold State.chooseAlone
  rw [if_neg (by simp [hrole, hlanes, hpassed]), if_neg (by simp [hother])]

theorem roleChoiceTimeout_starts (s : State) (hpaired : s.paired = true) (hrole : s.seam.role = .start) (hlanes : s.seam.upLanes = [])
    (hother : s.seam.other = false) (hlate : s.seam.startAt + 7000000 ≤ s.mono) (hstart : s.cnp.started = false) :
    ∃ t, exec .roleChoiceTimeout s = .next t ∧ t.cnp.started = true ∧ t.mb.epoch = nextEpoch s.epochBase := by
  refine ⟨s.becomeActive, ?_, State.becomeActive_starts hstart⟩
  change Host.Outcome.next (s.onlyIf s.paired State.chooseAlone) = _
  rw [hpaired, ← State.chooseAlone_active hrole hlanes hother hlate]
  rfl

/-! ### The pair link keeps what has been mirrored -/

theorem State.keyMissed_seam (s : State) : s.keyMissed.seam = s.seam := (State.keyMissed_moves s).frame.get .seam (by decide)

theorem State.seamPut_mir (both : Bool) (f : SeamFrame) (s : State) : (s.seamPut both f).seam.mir = s.seam.mir := by
  unfold State.seamPut
  extract_lets a
  have ha : a.seam.mir = s.seam.mir := by
    unfold a
    split <;> rfl
  clear_value a
  rw [← ha]
  split
  · split
    · rfl
    · rw [State.keyMissed_seam]
  · rfl

theorem State.seamAccept_mir (f : SeamFrame) (s : State) : (s.seamAccept f).seam.mir = s.seam.mir := by
  unfold State.seamAccept
  dsimp only
  split <;> rfl

theorem State.askResync_mir (s : State) : s.askResync.seam.mir = s.seam.mir := by
  unfold State.askResync
  split
  · exact State.seamPut_mir ..
  · rfl

theorem State.seamTake_mir (f : SeamFrame) (s : State) : (s.seamTake f).1.seam.mir = s.seam.mir := by
  unfold State.seamTake
  dsimp only
  split
  · exact (State.askResync_mir _).trans (State.seamAccept_mir f s)
  · exact State.seamAccept_mir f s

/-! ### The takeover -/

@[simp] theorem State.seamMod_mb (f : Seam → Seam) (s : State) : (s.seamMod f).mb = s.mb := rfl

theorem State.groupEnded_mb (b : Fin 4) (j : Nat) (ok : Bool) (data : List Byte) (s : State) :
    (s.groupEnded b j ok data).mb = s.mb := rfl

theorem State.canSend_epoch (b : Fin 4) (id : Nat) (data : List Byte) (s : State) :
    (s.canSend b id data).mb.epoch = s.mb.epoch := rfl

theorem State.groupResult_epoch (b : Fin 4) (j : Nat) (r : TxResult) (f : TxFrame) (s : State) :
    (s.groupResult b j r f).mb.epoch = s.mb.epoch := by
  unfold State.groupResult
  dsimp only
  by_cases hr : r = .ok
  · rw [if_pos hr, State.canSend_epoch, apply_ite State.mb, State.groupEnded_mb, ite_self]
    rfl
  · rw [if_neg hr, State.raiseAt_mb, apply_ite State.mb, State.groupEnded_mb, ite_self]
    rfl

theorem State.withdrawGroup_epoch (b : Fin 4) (j : Nat) (s : State) : (s.withdrawGroup b j).mb.epoch = s.mb.epoch := by
  unfold State.withdrawGroup
  split
  · rfl
  · exact State.groupResult_epoch ..

/-- The echoes in the transmit buffers of every bus are withdrawn (R294). -/
def State.withdrawEchoes (s : State) : State :=
  (List.finRange 4).foldl (fun (s : State) b => (List.range 4).foldl (fun s j => s.withdrawGroup b j) s) s

theorem State.withdrawEchoes_epoch (s : State) : s.withdrawEchoes.mb.epoch = s.mb.epoch := by
  unfold State.withdrawEchoes
  exact foldl_keeps (view := fun t => t.mb.epoch) _ s (fun t b _ =>
    foldl_keeps (view := fun t => t.mb.epoch) _ t (fun u j _ => State.withdrawGroup_epoch b j u))

theorem State.withdrawEchoes_seam (s : State) : s.withdrawEchoes.seam = s.seam :=
  foldl_keeps _ s (fun t b _ => foldl_keeps _ t (fun u j _ => (State.withdrawGroup_moves b j u).frame.get .seam (by decide)))

/-- The mirrored items bring the epoch last mirrored, else the own one stands (R298). -/
theorem State.restoreItems_epoch (s : State) :
    s.restoreItems.mb.epoch = nextEpoch (s.seam.mir.epoch.getD s.mb.epoch) := by
  unfold State.restoreItems
  dsimp only
  split <;> (cases s.seam.mir.epoch <;> rfl)

theorem State.restoreLinks_epoch (e : Option JHeld) (s : State) : (s.restoreLinks e).mb.epoch = s.mb.epoch := by
  cases e with
  | none => rfl
  | some j => exact foldl_keeps (view := fun t => t.mb.epoch) _ s (fun _ _ _ => rfl)

theorem Canopy.resume_started (e : Option JHeld) (now : Nat) : (Canopy.resume e now).started = true := by
  cases e <;> rfl

/-- Gaiter, the units that are off in standby and the trim loops go on without Canopy and the buses. -/
theorem State.restoreUnits_moves (s : State) :
    Moves [.fresh, .thk, .ports, .v2g, .cpc, .gtr, .slvLink, .slvCtr, .lac, .brm, .cuf, .clk, .hst, .sessNext, .sessTop, .out] s
      s.restoreGaiter.sideStart.restoreTrims :=
  (State.restoreTrims_moves _).to (by decide) <| (State.sideStart_moves _).to (by decide) <|
    (State.restoreGaiter_moves s).weaken (by decide)

/-- The role that a takeover begins with (R297). -/
def Seam.takingOver (mono tb reason : Nat) (m : Seam) : Seam := { m with
  role := .taking, drive := true, seenLow := false, resync := false, fit := false, t0 := mono, takeTs := tb % 2 ^ 32,
  reason := reason % 16, holdN := Vector.replicate 4 0
  echo := m.echo.map (fun v => v.map (fun x => { x with wait := none })) }

/-- The standby has announced the takeover and withdrawn its echoes: what its mirrored items then come into. -/
def State.takingOver (reason : Nat) (s : State) : State :=
  State.withdrawEchoes ((s.raise .takeoverStarted).seamMod
    (Seam.takingOver (s.raise .takeoverStarted).mono (s.raise .takeoverStarted).tb reason))

/-- The mirrored items and Canopy with the last complete entry are in force (R297, R298). -/
def State.resumed (reason : Nat) (s : State) : State :=
  let e := (s.raise .takeoverStarted).seam.lastGood
  let a := ((s.takingOver reason).restoreItems.restoreLinks e).seamMod
    (fun m => { m with handed := ((s.takingOver reason).restoreItems.restoreLinks e).ports.map (fun q => !q.kCmd) })
  { a with cnp := Canopy.resume e a.mono }

theorem State.takeover_eq (reason : Nat) (s : State) :
    s.takeover reason = (s.resumed reason).restoreGaiter.sideStart.restoreTrims := rfl

theorem State.takingOver_epoch (reason : Nat) (s : State) : (s.takingOver reason).mb.epoch = s.mb.epoch := by
  unfold State.takingOver
  rw [State.withdrawEchoes_epoch, State.seamMod_mb, State.raise_mb]

theorem State.takingOver_mir (reason : Nat) (s : State) : (s.takingOver reason).seam.mir = s.seam.mir := by
  unfold State.takingOver
  rw [State.withdrawEchoes_seam, ← State.raise_seam .takeoverStarted s]
  rfl

theorem State.resumed_epoch (reason : Nat) (s : State) :
    (s.resumed reason).mb.epoch = nextEpoch (s.seam.mir.epoch.getD s.mb.epoch) :=
  calc (s.resumed reason).mb.epoch
    _ = (s.takingOver reason).restoreItems.mb.epoch := State.restoreLinks_epoch ..
    _ = nextEpoch ((s.takingOver reason).seam.mir.epoch.getD (s.takingOver reason).mb.epoch) := State.restoreItems_epoch _
    _ = nextEpoch (s.seam.mir.epoch.getD s.mb.epoch) := by rw [State.takingOver_mir, State.takingOver_epoch]

/-- A takeover starts Canopy (R297): the epoch follows the one last mirrored, else the own one (R298). -/
theorem State.takeover_starts (reason : Nat) (s : State) :
    (s.takeover reason).cnp.started = true ∧
      (s.takeover reason).mb.epoch = nextEpoch (s.seam.mir.epoch.getD s.mb.epoch) := by
  have hcnp := (State.restoreUnits_moves (s.resumed reason)).frame.get .cnp (by decide)
  have hmb := (State.restoreUnits_moves (s.resumed reason)).frame.get .mb (by decide)
  rw [State.takeover_eq]
  exact ⟨(congrArg Canopy.started hcnp).trans (Canopy.resume_started _ _),
    (congrArg BusUnit.epoch hmb).trans (State.resumed_epoch reason s)⟩

/-- A frame that the pair link takes is acted on. -/
theorem State.onSeam_of_takes {typ : Nat} {f : SeamFrame} {s : State} (act : State → State) (h : s.SeamTakes typ f) :
    s.onSeam typ f act = act s := by
  have hpair : s.seam.pair.isNone = false := by
    rw [← Option.not_isSome, h.pair]
    rfl
  have hlanes : s.seam.upLanes.isEmpty = false := by simpa using h.lanes
  unfold State.onSeam
  rw [if_neg (by simp [h.up, hpair, hlanes, h.typ_]), h.ok]

theorem release_starts (s : State) (f : SeamFrame) (h : s.SeamTakes 4 f) (hfit : s.gtr.unfit = false) :
    ∃ t, exec (.release f) s = .next t ∧ t.cnp.started = true ∧
      t.mb.epoch = nextEpoch (s.seam.mir.epoch.getD s.mb.epoch) := by
  have htake := (State.seamTake_moves f s).frame
  have hgtr : (s.seamTake f).1.gtr = s.gtr := htake.get .gtr (by decide)
  have hmb : (s.seamTake f).1.mb = s.mb := htake.get .mb (by decide)
  have hact : s.onSeam 4 f (State.releaseIn f) = (s.seamTake f).1.takeover (leAt f.pay 0 1) := by
    rw [State.onSeam_of_takes _ h]
    unfold State.releaseIn
    dsimp only
    rw [hgtr, hfit, if_neg Bool.false_ne_true]
  refine ⟨_, congrArg Host.Outcome.next hact, ?_⟩
  have hstarts := State.takeover_starts (leAt f.pay 0 1) (s.seamTake f).1
  rwa [State.seamTake_mir, hmb] at hstarts

/-! ### The resets -/

theorem State.powerLow_epoch {k : Nat} (s : State) (h : k ≠ 2) : (s.powerLow k).mb.epoch = s.mb.epoch := by
  unfold State.powerLow
  rw [if_pos h]
  rfl

/-- A source of a system reset keeps the epoch, also where a power-on reset is in progress. -/
theorem State.systemSource_epoch (src : Nat) (s : State) : (s.systemSource src).mb.epoch = s.mb.epoch := by
  unfold State.systemSource
  dsimp only
  split
  · split <;> rfl
  · rfl

theorem reset_keeps_epoch (s : State) (c : Instr) (hc : c ∈ [Instr.powerOnReset 0, .powerOnReset 1, .brownOut, .pinReset 1000]) :
    ∃ t, exec c s = .next t ∧ t.mb.epoch = s.mb.epoch := by
  simp only [List.mem_cons, List.not_mem_nil, or_false] at hc
  rcases hc with rfl | rfl | rfl | rfl
  · exact ⟨s.powerLow 0, rfl, s.powerLow_epoch (by decide)⟩
  · exact ⟨s.powerLow 1, rfl, s.powerLow_epoch (by decide)⟩
  · exact ⟨s.powerResetNow 2, rfl, rfl⟩
  · exact ⟨s.systemSource 3, rfl, s.systemSource_epoch 3⟩

/-- Settles O9: each of the three starts takes the next epoch from its base, and the resets leave it. -/
theorem epochRises : Obligations.EpochRises := by
  unfold Obligations.EpochRises
  intro s
  exact ⟨firstLeafApply_starts s, roleChoiceTimeout_starts s, release_starts s, reset_keeps_epoch s⟩

end Sys2Proof.Machine
end

section
/-! Noise on the site link (spec/12_bramble_site_link.md R345): what the header of a DATA frame whose payload CRC fails makes the
controller put out, where each frame of its own has begun and where one still waits for the medium (R343). -/

namespace Sys2Proof.Machine

/-! ### What Bramble puts out -/

theorem State.brmEff_frames_out (fs : List (BrmFrame × Nat)) (s : State) :
    ((fs.map (fun p => BrmOut.frame p.1 p.2)).foldl State.brmEff s).out = s.out ++ fs.map (fun p => .brm (.frame p.1 p.2)) := by
  induction fs generalizing s with
  | nil => simp
  | cons p fs ih => simp [ih, State.brmEff]

/-- The frames that a function of Bramble puts out, the device sends. -/
theorem State.brmDo_out {f : BX → BX} {s : State} (fs : List (BrmFrame × Nat))
    (h : (f s.bctx).out = fs.map (fun p => .frame p.1 p.2)) :
    (s.brmDo f).out = s.out ++ fs.map (fun p => .brm (.frame p.1 p.2)) := by
  unfold State.brmDo
  dsimp only
  rw [h]
  exact State.brmEff_frames_out fs _

/-! ### Frames that have still to begin -/

/-- Every frame of this station had begun at `p`. -/
structure BX.Begun (p : Nat) (x : BX) : Prop where
  nbr : ∀ n < 65, ∀ f, (x.nb n).cur = some f → f.sentAt ≤ p
  bcast : ∀ f, x.b.bcast = some f → f.sentAt ≤ p

/-- Where each unicast frame had begun, none draws another slot. -/
theorem late_eq_nil {p : Nat} {x : BX} (h : ∀ n < 65, ∀ f, (x.nb n).cur = some f → f.sentAt ≤ p) :
    (List.range 65).filter (fun n => (x.nb n).cur.any (fun f => decide (p < f.sentAt))) = [] := by
  rw [List.filter_eq_nil_iff]
  intro n hn
  cases hcur : (x.nb n).cur with
  | none => simp
  | some f => simpa using h n (List.mem_range.mp hn) f hcur

/-- A station with every frame begun defers nothing (R343). -/
theorem brmDefer_of_begun {p : Nat} {x : BX} (h : x.Begun p) : brmDefer p x = x := by
  have hcast : x.b.bcast.filter (fun f => decide (p < f.sentAt)) = none := by
    simpa [Option.filter_eq_none_iff] using h.bcast
  simp only [brmDefer, late_eq_nil h.nbr, sortBy, List.foldl_nil, hcast]

/-- A frame that contends again is put out again. -/
theorem brmAgain_out (f : BrmTx) (ack : Bool) (x : BX) : ∃ p : BrmFrame × Nat, (brmAgain f ack x).2.out = x.out ++ [.frame p.1 p.2] :=
  ⟨(_, _), rfl⟩

/-- A broadcast that has still to begin at the preamble goes out again (R343). -/
theorem brmDefer_out_of_bcast {p : Nat} {x : BX} {f : BrmTx} (hnbr : ∀ n < 65, ∀ f, (x.nb n).cur = some f → f.sentAt ≤ p)
    (hcast : x.b.bcast = some f) (hlate : p < f.sentAt) : ∃ q : BrmFrame × Nat, (brmDefer p x).out = x.out ++ [.frame q.1 q.2] := by
  have hwaits : x.b.bcast.filter (fun f => decide (p < f.sentAt)) = some f := by simp [hcast, hlate]
  simp only [brmDefer, late_eq_nil hnbr, sortBy, List.foldl_nil, hwaits]
  exact brmAgain_out f false x

/-! ### The header of a DATA frame -/

/-- The header of a DATA frame (Table 12.1): frame type and mode, tone map, length, unlocked mains, no reference, and its CRC. -/
def dataFch (ft tm plen : Nat) : List Byte :=
  let h := leBytes 1 ft ++ leBytes 1 tm ++ leBytes 2 plen ++ [0xFF, 0, 0]
  h ++ leBytes 1 (crc8 h)

theorem crcBit_lt {k : CrcKind} (r : Nat) (b : Bool) (h : k.poly < 2 ^ k.width) : crcBit k r b < 2 ^ k.width := by
  have hsh : r * 2 % 2 ^ k.width < 2 ^ k.width := Nat.mod_lt _ (Nat.two_pow_pos _)
  unfold crcBit
  dsimp only
  split
  · exact Nat.xor_lt_two_pow hsh h
  · exact hsh

/-- A CRC-8 has 8 bits. -/
theorem crc8_lt (bs : List Byte) : crc8 bs < 256 :=
  have hreg := List.foldlRecOn (motive := fun r => r < 2 ^ 8) (bs.flatMap (crcByteBits crc8Kind)) (crcBit crc8Kind) (by decide)
    (fun r _ b _ => crcBit_lt (k := crc8Kind) r b (by decide))
  Nat.xor_lt_two_pow hreg (by decide)

theorem dataFch_mode {ft : Nat} (tm plen : Nat) (h : ft < 256) : leAt (dataFch ft tm plen) 0 1 = ft := by
  simpa [dataFch, leBytes, leAt, leNat] using h

theorem dataFch_map (ft : Nat) {tm : Nat} (plen : Nat) (h : tm < 256) : leAt (dataFch ft tm plen) 1 1 = tm := by
  simpa [dataFch, leBytes, leAt, leNat] using h

theorem dataFch_length (ft tm : Nat) {plen : Nat} (h : plen < 65536) : leAt (dataFch ft tm plen) 2 2 = plen := by
  simp [dataFch, leBytes, leAt, leNat]
  omega

theorem dataFch_zcd (ft tm plen : Nat) : leAt (dataFch ft tm plen) 4 1 = 0xFF := rfl

theorem dataFch_ref (ft tm plen : Nat) : leAt (dataFch ft tm plen) 5 1 = 0 := rfl

theorem dataFch_reserved (ft tm plen : Nat) : leAt (dataFch ft tm plen) 6 1 = 0 := rfl

theorem dataFch_crc (ft tm plen : Nat) : crc8 ((dataFch ft tm plen).take 7) = leAt (dataFch ft tm plen) 7 1 := by
  rw [dataFch, leAt_append_leBytes _ _ (by simp), List.take_left' (by simp)]
  exact (Nat.mod_eq_of_lt (crc8_lt _)).symm

theorem dataFch_bytes (ft tm plen : Nat) : (dataFch ft tm plen).length = 8 := by simp [dataFch]

/-! ### The judgement of a payload whose CRC fails -/

theorem paySymbols_robo_pos (plen bits : Nat) : 0 < paySymbols plen bits true := by
  simp only [paySymbols, if_true]
  omega

theorem paySymbols_toned_pos (plen : Nat) {bits : Nat} (h : 0 < bits) : 0 < paySymbols plen bits false := by
  simp only [paySymbols, Bool.false_eq_true, if_false]
  exact Nat.div_pos (by omega) h

/-- The payload of a DATA frame has `total` symbols: in robust mode, or under a tone map that the neighbour's entry holds. -/
def BX.Decodes (nbr : Option Nat) (plen ft tm total : Nat) (x : BX) : Prop :=
  (ft = 4 ∧ tm = 0 ∧ total = paySymbols plen 0 true) ∨
    (ft = 0 ∧ tm < 16 ∧ ∃ n m, nbr = some n ∧ (x.nb n).rx.find? (fun m => m.2 == tm) = some m ∧ 0 < toneBits m.1 ∧
      total = paySymbols plen (toneBits m.1) false)

theorem BX.Decodes.total_pos {nbr : Option Nat} {plen ft tm total : Nat} {x : BX} (h : x.Decodes nbr plen ft tm total) : 0 < total := by
  obtain ⟨_, _, rfl⟩ | ⟨_, _, _, _, _, _, hbits, rfl⟩ := h
  · exact paySymbols_robo_pos plen 0
  · exact paySymbols_toned_pos plen hbits

/-- The tone map that the header names is one that the neighbour's entry holds. -/
theorem BX.Decodes.map_known {nbr : Option Nat} {plen ft tm total : Nat} {x : BX} (h : x.Decodes nbr plen ft tm total) (hft : ft ≠ 4) :
    ∃ n, nbr = some n ∧ (x.nb n).rx.any (fun m => m.2 == tm) = true := by
  obtain ⟨h4, _⟩ | ⟨_, _, n, m, hnbr, hfind, _⟩ := h
  · exact absurd h4 hft
  · have hm := List.find?_some (p := fun m : List Nat × Nat => m.2 == tm) hfind
    exact ⟨n, hnbr, List.any_eq_true.mpr ⟨m, List.mem_of_find?_eq_some hfind, hm⟩⟩

/-- The receiver finds the number of symbols from its maps for the neighbour. -/
theorem BX.Decodes.total_eq {nbr : Option Nat} {plen ft tm total : Nat} {x : BX} (h : x.Decodes nbr plen ft tm total)
    {maps : List (List Nat × Nat)} (hmaps : ∀ n, nbr = some n → maps = (x.nb n).rx) :
    paySymbols plen (((maps.find? (fun m => m.2 == tm)).map (fun m => toneBits m.1)).getD 0) (decide (ft = 4)) = total := by
  obtain ⟨rfl, rfl, rfl⟩ | ⟨rfl, _, n, m, hnbr, hfind, _, rfl⟩ := h
  · rfl
  · rw [hmaps n hnbr, hfind]
    rfl

/-- A payload is for the controller, and at least a quarter of its symbols are erasures (R345). -/
def noisy (total thr : Nat) (pay : List Byte) (xs : List Int) : Bool :=
  decide (leAt pay 5 1 = 0 ∧ total ≤ 4 * ((List.range total).filter (symErased thr xs)).length)

/-- The medium after a frame that may ask for an answer: what of this station had not begun defers (R343). -/
def BX.hearing (energy : Nat) (x : BX) : BX :=
  brmDefer (x.now - 16128) (x.mod (fun b => { b with idleAt := x.now + energy + (1152 + 16128) }))

/-- The neighbour that a header comes from has been heard on the direct link. -/
def BX.nearBy (nbr : Option Nat) (x : BX) : BX :=
  match nbr with
  | some n => if (x.nb n).st = NbrSt.empty then x else brmNear n x
  | none => x

/-- A failing payload CRC is counted. -/
def BX.crcFailed (x : BX) : BX := x.mod (fun b => { b with eCrc := satInc 8 b.eCrc })

/-- The NACK with NOISE that answers a payload (R345), AIFS after its end. -/
def noiseNack (pay : List Byte) (x : BX) : BrmFrame × Nat :=
  ({ fch := fchBytes 2 false 0 0 (x.zcd (x.now + 1152)) (leAt pay (pay.length - 4) 1 % 128 + 128), atten := x.g.txLevel }, x.now + 1152)

/-- The controller answers a payload with NACK and NOISE, and counts it. -/
def BX.nackNoise (pay : List Byte) (x : BX) : BX :=
  brmReply 2 (leAt pay (pay.length - 4) 1 % 128 + 128) (x.mod (fun b => { b with eNoise := satInc 8 b.eNoise }))

theorem BX.nackNoise_out (pay : List Byte) (x : BX) :
    (x.nackNoise pay).out = x.out ++ [.frame (noiseNack pay x).1 (noiseNack pay x).2] := rfl

/-- What every change of an entry keeps of it, a change of the table keeps at every index. -/
theorem atD_updN_keeps {α β : Type} {n : Nat} (view : α → β) (v : Vector α n) (i k : Nat) (f : α → α) (d : α)
    (h : ∀ a, view (f a) = view a) : view (atD (updN v i f) k d) = view (atD v k d) := by
  unfold atD updN
  by_cases hk : k < n
  · by_cases hi : i < n
    · by_cases hik : i = k
      · subst hik; simp [hk, h]
      · simp [hk, hi, hik]
    · simp [hk, hi]
  · simp [hk]

theorem BX.setNb_rx (x : BX) (k n : Nat) {f : BrmNbr → BrmNbr} (h : ∀ b, (f b).rx = b.rx) :
    ((x.setNb k f).nb n).rx = (x.nb n).rx :=
  atD_updN_keeps BrmNbr.rx x.b.nbr k n f {} h

theorem brmNear_rx (k n : Nat) (x : BX) : ((brmNear k x).nb n).rx = (x.nb n).rx :=
  calc ((brmNear k x).nb n).rx
    _ = ((brmHeard k x).nb n).rx := BX.setNb_rx _ k n (fun _ => rfl)
    _ = (x.nb n).rx := BX.setNb_rx _ k n (fun _ => rfl)

theorem BX.nearBy_rx (nbr : Option Nat) (n : Nat) (x : BX) : ((x.nearBy nbr).nb n).rx = (x.nb n).rx := by
  unfold BX.nearBy
  split
  · split
    · rfl
    · exact brmNear_rx ..
  · rfl

theorem BX.nearBy_out (nbr : Option Nat) (x : BX) : (x.nearBy nbr).out = x.out := by
  unfold BX.nearBy
  split
  · split <;> rfl
  · rfl

theorem noiseNack_nearBy (pay : List Byte) (nbr : Option Nat) (x : BX) : noiseNack pay (x.nearBy nbr) = noiseNack pay x := by
  unfold BX.nearBy
  split
  · split <;> rfl
  · rfl

theorem BX.nearBy_g (nbr : Option Nat) (x : BX) : (x.nearBy nbr).g = x.g := by
  unfold BX.nearBy
  split
  · split <;> rfl
  · rfl

/-- The header decodes, so the frame that fails is counted, and answered where it is noisy (R345); with no ZCD the neighbour's phase
stays. -/
theorem fchReceive_of_crcFails {ft tm total : Nat} {pay : List Byte} {nbr : Option Nat} {x : BX} (energy : Nat) (xs : List Int)
    (hdec : (x.hearing energy).Decodes nbr pay.length ft tm total) (hmin : 28 ≤ pay.length) (hmax : pay.length ≤ 252)
    (hcrc : leAt pay (pay.length - 4) 4 ≠ crc32c (pay.take (pay.length - 4))) :
    fchReceive (dataFch ft tm pay.length) nbr energy pay xs x =
      if noisy total (x.hearing energy).g.blankThr pay xs then ((x.hearing energy).nearBy nbr).crcFailed.nackNoise pay
      else ((x.hearing energy).nearBy nbr).crcFailed := by
  have hmode : (ft = 4 ∧ tm = 0) ∨ (ft = 0 ∧ tm < 16) := by
    obtain ⟨h4, h0, _⟩ | ⟨h0, hlt, _⟩ := hdec
    · exact .inl ⟨h4, h0⟩
    · exact .inr ⟨h0, hlt⟩
  unfold fchReceive
  extract_lets ft' ty robo tm' plen zcd zmax form crcOk asks y z z' w maps bits symbols erased
  have hft : ft' = ft := dataFch_mode tm pay.length (by omega)
  have htm : tm' = tm := dataFch_map ft pay.length (by omega)
  have hlen : plen = pay.length := dataFch_length ft tm (by omega)
  have hty : ty = 0 := by omega
  have hrobo : robo = decide (ft = 4) := by
    unfold robo
    rw [hft]
    obtain ⟨rfl, -⟩ | ⟨rfl, -⟩ := hmode <;> rfl
  have hform : form :=
    ⟨dataFch_bytes .., dataFch_crc .., by omega, by omega, by omega, by rw [hrobo, decide_eq_true_eq]; omega,
      by rw [if_pos hty]; omega, .inr (dataFch_zcd ..), fun _ => dataFch_ref .., dataFch_reserved ..⟩
  have hfail : crcOk = false := by simp [crcOk, hcrc]
  have hasks : asks = true := by simp [asks, hform, hty, hfail]
  have hy : y = x.hearing energy := by simp only [y, hasks, if_true, BX.hearing]
  have hz : z' = (x.hearing energy).nearBy nbr := by
    rw [← hy]
    unfold z'
    split
    · exact if_neg (fun h => h.1 (dataFch_zcd ..))
    · rfl
  have hw : w = ((x.hearing energy).nearBy nbr).crcFailed := congrArg BX.crcFailed hz
  have hmaps : ∀ n, nbr = some n → maps = ((x.hearing energy).nb n).rx := by
    rintro n rfl
    rw [← BX.nearBy_rx (some n), ← hz]
    rfl
  have hsymbols : symbols = total := by
    rw [← hdec.total_eq hmaps, ← hrobo, ← htm, ← hlen]
  have hthr : w.g.blankThr = (x.hearing energy).g.blankThr := by rw [hw]; exact congrArg _ (BX.nearBy_g ..)
  rw [if_neg (not_not.mpr hform), if_neg (not_not.mpr hty), if_neg, if_pos (by rw [hfail]; rfl)]
  · have hpos := hdec.total_pos
    have hcond : (leAt pay 5 1 = 0 ∧ symbols ≠ 0 ∧ symbols ≤ erased * 4) ↔
        noisy total (x.hearing energy).g.blankThr pay xs = true := by
      rw [noisy, decide_eq_true_eq, ← hthr, ← hsymbols]
      omega
    simp only [hcond, ← hw]
    rfl
  · by_cases h4 : ft = 4
    · simp [hrobo, h4]
    · obtain ⟨n, rfl, hany⟩ := hdec.map_known h4
      rw [← htm, ← BX.nearBy_rx (some n), ← hz] at hany
      simp [hany]

/-- The controller puts out what defers, then the answer to a noisy payload. -/
theorem fchReceive_out_of_crcFails {ft tm total : Nat} {pay : List Byte} {nbr : Option Nat} {x : BX} {fs : List (BrmFrame × Nat)}
    (energy : Nat) (xs : List Int) (hdec : (x.hearing energy).Decodes nbr pay.length ft tm total) (hmin : 28 ≤ pay.length)
    (hmax : pay.length ≤ 252) (hcrc : leAt pay (pay.length - 4) 4 ≠ crc32c (pay.take (pay.length - 4)))
    (hout : (x.hearing energy).out = fs.map (fun p => .frame p.1 p.2)) :
    (fchReceive (dataFch ft tm pay.length) nbr energy pay xs x).out =
      (fs ++ if noisy total (x.hearing energy).g.blankThr pay xs then [noiseNack pay (x.hearing energy)] else []).map
        (fun p => .frame p.1 p.2) := by
  have hcount : ((x.hearing energy).nearBy nbr).crcFailed.out = fs.map (fun p => .frame p.1 p.2) :=
    (BX.nearBy_out nbr _).trans hout
  have hnack : noiseNack pay ((x.hearing energy).nearBy nbr).crcFailed = noiseNack pay (x.hearing energy) :=
    noiseNack_nearBy pay nbr _
  rw [fchReceive_of_crcFails energy xs hdec hmin hmax hcrc, List.map_append]
  split
  · rw [BX.nackNoise_out, hcount, hnack]
    rfl
  · rw [hcount, List.map_nil, List.append_nil]

/-- FCH_RECEIVE of such a frame sends what defers, then the answer to a noisy payload. -/
theorem exec_fchReceive_out {ft tm total : Nat} {pay : List Byte} {nbr : Option (Fin 64)} {s : State} {fs : List (BrmFrame × Nat)}
    (energy : Nat) (xs : List Int) (hon : s.brmOn = true)
    (hdec : (s.bctx.hearing energy).Decodes (nbr.map (·.val)) pay.length ft tm total) (hmin : 28 ≤ pay.length)
    (hmax : pay.length ≤ 252) (hcrc : leAt pay (pay.length - 4) 4 ≠ crc32c (pay.take (pay.length - 4)))
    (hout : (s.bctx.hearing energy).out = fs.map (fun p => .frame p.1 p.2)) :
    ∃ t, exec (.fchReceive (dataFch ft tm pay.length) nbr energy pay xs) s = .next t ∧ t.out = s.out ++
      (fs ++ if noisy total (s.bctx.hearing energy).g.blankThr pay xs then [noiseNack pay (s.bctx.hearing energy)] else []).map
        (fun p => .brm (.frame p.1 p.2)) := by
  have hdo : s.onBramble (fchReceive (dataFch ft tm pay.length) (nbr.map (·.val)) energy pay xs) =
      s.brmDo (fchReceive (dataFch ft tm pay.length) (nbr.map (·.val)) energy pay xs) := by
    rw [State.onBramble, hon, State.onlyIf_true]
  exact ⟨_, congrArg Host.Outcome.next hdo, State.brmDo_out _ (fchReceive_out_of_crcFails energy xs hdec hmin hmax hcrc hout)⟩

/-! ### With every frame of this station begun -/

theorem BX.hearing_of_begun {x : BX} (energy : Nat) (h : x.Begun (x.now - 16128)) :
    x.hearing energy = x.mod (fun b => { b with idleAt := x.now + energy + (1152 + 16128) }) :=
  brmDefer_of_begun ⟨h.nbr, h.bcast⟩

/-- R345 holds where every frame of this station had begun at the preamble: NACK with NOISE answers a noisy payload, and nothing
else is sent. -/
theorem exec_fchReceive_out_of_begun {ft tm total : Nat} {pay : List Byte} {nbr : Option (Fin 64)} {s : State}
    (energy : Nat) (xs : List Int) (hon : s.brmOn = true) (hbegun : s.bctx.Begun (s.mono - 16128))
    (hdec : s.bctx.Decodes (nbr.map (·.val)) pay.length ft tm total) (hmin : 28 ≤ pay.length) (hmax : pay.length ≤ 252)
    (hcrc : leAt pay (pay.length - 4) 4 ≠ crc32c (pay.take (pay.length - 4))) :
    ∃ t, exec (.fchReceive (dataFch ft tm pay.length) nbr energy pay xs) s = .next t ∧ t.out = s.out ++
      if noisy total (s.cfg.brmGlobal.getD {}).blankThr pay xs then
        [.brm (.frame (noiseNack pay s.bctx).1 (noiseNack pay s.bctx).2)] else [] := by
  have hhear := BX.hearing_of_begun (x := s.bctx) energy hbegun
  obtain ⟨t, hexec, hout⟩ :=
    exec_fchReceive_out (fs := []) energy xs hon (by rw [hhear]; exact hdec) hmin hmax hcrc (by rw [hhear]; rfl)
  refine ⟨t, hexec, hout.trans ?_⟩
  rw [hhear, List.nil_append, apply_ite (List.map _)]
  rfl

/-! ### A broadcast that waits for the medium -/

theorem symErased_nil (thr k : Nat) : symErased thr [] k = false := by
  simp [symErased, blanked, squares, sumN]

/-- Samples that are all absent erase no symbol. -/
theorem erased_nil (thr total : Nat) : ((List.range total).filter (symErased thr [])).length = 0 := by
  simp [symErased_nil]

/-- A unit whose Bramble runs, with a beacon that begins 1 ms from now. -/
def beaconWaits : State :=
  { mono := 100000, rst := { hold := none, refOk := true }
    brm := { run := true, bcast := some { ftype := 0x01, cls := .control, body := [], seq := 0, sentAt := 101000 } } }

theorem beaconWaits_defers (energy : Nat) : ∃ q : BrmFrame × Nat, (beaconWaits.bctx.hearing energy).out = [.frame q.1 q.2] :=
  brmDefer_out_of_bcast (f := { ftype := 0x01, cls := .control, body := [], seq := 0, sentAt := 101000 })
    (fun n hn g hg => by simp [BX.nb, BX.mod, State.bctx, beaconWaits, atD, hn] at hg) rfl (by decide)

/-- 28 bytes of zero: a payload for the controller whose CRC fails. -/
def zeroPayload : List Byte := List.replicate 28 0

theorem zeroPayload_crcFails : leAt zeroPayload (zeroPayload.length - 4) 4 ≠ crc32c (zeroPayload.take (zeroPayload.length - 4)) := by
  decide +kernel

/-- Refutes O11: a station with a frame of its own that has still to begin defers to the frame heard, and puts its own out anew (R343);
so a frame is sent although no symbol of the failing payload is erased. -/
theorem not_noisyFramesNacked : ¬ Obligations.NoisyFramesNacked := by
  unfold Obligations.NoisyFramesNacked
  intro h
  have hon : beaconWaits.brmOn = true := by decide
  obtain ⟨q, hq⟩ := beaconWaits_defers 0
  obtain ⟨t, hexec, hout⟩ := exec_fchReceive_out (nbr := none) (fs := [q]) (ft := 4) (tm := 0) 0 [] hon (.inl ⟨rfl, rfl, rfl⟩)
    (by decide) (by decide) zeroPayload_crcFails hq
  obtain ⟨u, hexec', hout'⟩ := (h beaconWaits none _ zeroPayload 0 [] 4 0 _ _ hon rfl (by decide) (by decide)
    (.inl ⟨rfl, rfl, rfl⟩) rfl zeroPayload_crcFails).2 (.inl (by rw [erased_nil]; decide))
  have htu : t = u := Host.Outcome.next.inj (hexec.symm.trans hexec')
  rw [htu, hout'] at hout
  simp at hout

end Sys2Proof.Machine
end

section
/-! The total-current rule of Cuff (spec/13_cuff_and_hem.md R366, R374): when it acts, which channel it chooses, and what becomes of
the channels. -/

namespace Sys2Proof.Machine

/-! ### Channels by number -/

theorem atD_val {α : Type} {n : Nat} (v : Vector α n) (i : Fin n) (d : α) : atD v i d = v[i] := dif_pos i.isLt

theorem updN_val {α : Type} {n : Nat} (v : Vector α n) (i : Fin n) (f : α → α) : updN v i f = upd v i f := dif_pos i.isLt

theorem Cuff.get_val (c : Cuff) (n : Fin 16) : c.get n = c.ch[n] := atD_val c.ch n {}

theorem Cuff.set_ch (c : Cuff) (n : Fin 16) (f : CufCh → CufCh) : (c.set n f).ch = upd c.ch n f := updN_val c.ch n f

theorem Cuff.set_same (c : Cuff) (n : Fin 16) (f : CufCh → CufCh) : (c.set n f).ch[n] = f c.ch[n] := by
  rw [Cuff.set_ch, upd_same]

theorem Cuff.set_other (c : Cuff) {n k : Fin 16} (f : CufCh → CufCh) (h : k ≠ n) : (c.set n f).ch[k] = c.ch[k] := by
  rw [Cuff.set_ch, upd_other c.ch n k f h]

/-! ### A channel in FAULT -/

theorem cufOn_of_fault (c : Cuff) {k : CufCh} (h : k.fault = true) : cufOn c k = false := by simp [cufOn, h]

/-- TOTAL is the cause also of a channel that an OVERCURRENT of the same step has put into FAULT (R374). -/
theorem cufTotalFault_total (now : Nat) (k : CufCh) :
    (cufTotalFault now k).fault = true ∧ (cufTotalFault now k).cause = .total := by
  unfold cufTotalFault cufFault
  cases h : k.fault <;> simp

/-! ### The channel that the rule chooses -/

/-- The channels, by number, that conducted when the rule came. -/
def Cuff.conducting (now : Nat) (c : Cuff) : List Nat := (List.range 16).filter (fun n => cufBefore c now (c.get n))

theorem Cuff.mem_conducting (now : Nat) (c : Cuff) (n : Fin 16) : n.val ∈ c.conducting now ↔ cufBefore c now c.ch[n] = true := by
  simp [Cuff.conducting, Cuff.get_val]

theorem Cuff.lt_of_mem_conducting {now : Nat} {c : Cuff} {k : Nat} (h : k ∈ c.conducting now) : k < 16 :=
  List.mem_range.mp (List.mem_filter.mp h).1

/-- The place of a channel in the order of the rule: by SHED_RANK, then by number. -/
def Cuff.shedKey (c : Cuff) (n : Nat) : Nat := ((c.get n).cfg.map (·.shedRank)).getD 0 * 16 + n

theorem Cuff.shedKey_lt (c : Cuff) {k n : Fin 16}
    (h : (c.ch[k].cfg.map (·.shedRank)).getD 0 < (c.ch[n].cfg.map (·.shedRank)).getD 0 ∨
      ((c.ch[k].cfg.map (·.shedRank)).getD 0 = (c.ch[n].cfg.map (·.shedRank)).getD 0 ∧ k < n)) :
    c.shedKey k < c.shedKey n := by
  unfold Cuff.shedKey
  rw [Cuff.get_val, Cuff.get_val]
  omega

/-- A place above all others in a list is its greatest. -/
theorem argmax_eq_some_of_forall_lt {l : List Nat} {f : Nat → Nat} {n : Nat} (hn : n ∈ l)
    (h : ∀ k ∈ l, k ≠ n → f k < f n) : l.argmax f = some n := by
  refine List.argmax_eq_some_iff.mpr ⟨hn, fun k hk => ?_, fun k hk hle => ?_⟩
  · by_cases hkn : k = n
    · rw [hkn]
    · exact (h k hk hkn).le
  · have hkn : k = n := by
      by_contra hne
      exact (h k hk hne).not_ge hle
    rw [hkn]

/-- A fold that keeps the greatest so far finds the greatest. -/
theorem foldl_eq_argmax {f : Nat → Nat} {g : Option Nat → Nat → Option Nat} (l : List Nat) (hnone : ∀ n, g none n = some n)
    (hsome : ∀ m n, g (some m) n = if f m < f n then some n else some m) : l.foldl g none = l.argmax f := by
  have hg : g = List.argAux fun b c => f c < f b := by
    funext b n
    cases b with
    | none => exact hnone n
    | some m => exact hsome m n
  rw [hg, List.argmax]

/-- The highest rank chooses, and among equal ranks the highest number (R366). -/
theorem Cuff.argmax_shedKey {now : Nat} {c : Cuff} {n : Fin 16} (hn : cufBefore c now c.ch[n] = true)
    (h : ∀ k : Fin 16, k ≠ n → cufBefore c now c.ch[k] = true →
      (c.ch[k].cfg.map (·.shedRank)).getD 0 < (c.ch[n].cfg.map (·.shedRank)).getD 0 ∨
        ((c.ch[k].cfg.map (·.shedRank)).getD 0 = (c.ch[n].cfg.map (·.shedRank)).getD 0 ∧ k < n)) :
    (c.conducting now).argmax c.shedKey = some n.val := by
  refine argmax_eq_some_of_forall_lt ((c.mem_conducting now n).mpr hn) fun k hk hkn => ?_
  obtain ⟨j, rfl⟩ : ∃ j : Fin 16, j.val = k := ⟨⟨k, Cuff.lt_of_mem_conducting hk⟩, rfl⟩
  exact c.shedKey_lt (h j (fun e => hkn (congrArg Fin.val e)) ((c.mem_conducting now j).mp hk))

/-! ### What the rule does -/

theorem cuffOver_iff (now : Nat) (c : Cuff) : cuffOver now c = true ↔
    2400 * (c.hist.filter (fun e => now < e.1 + 100000)).length <
      sumN ((c.hist.filter (fun e => now < e.1 + 100000)).map (·.2)) := decide_eq_true_iff

/-- The rule has not acted in the last 10 ms. -/
def Cuff.ShedDue (now : Nat) (c : Cuff) : Prop := ∀ t0, c.shedAt = some t0 → t0 + 10000 ≤ now

theorem cuffTotal_of_not_over {now : Nat} {c : Cuff} (h : ¬ cuffOver now c = true) : cuffTotal now c = { c with shedAt := none } := by
  simp [cuffTotal, h]

theorem cuffTotal_of_recent {now t0 : Nat} {c : Cuff} (h : cuffOver now c = true) (hshed : c.shedAt = some t0)
    (hrecent : now < t0 + 10000) : cuffTotal now c = c := by
  simp [cuffTotal, h, hshed, hrecent]

theorem cuffTotal_of_due {now n : Nat} {c : Cuff} (h : cuffOver now c = true) (hdue : c.ShedDue now)
    (hn : (c.conducting now).argmax c.shedKey = some n) :
    cuffTotal now c = { c.set n (cufTotalFault now) with tshed := true, shedAt := some now } := by
  unfold cuffTotal
  rw [if_neg (by simp [h]), if_neg]
  · dsimp only
    rw [foldl_eq_argmax (f := c.shedKey) _ (fun _ => rfl) (fun _ _ => rfl), ← Cuff.conducting, hn]
  · cases hshed : c.shedAt with
    | none => simp
    | some t => simp [hdue t hshed]

/-! ### The command -/

theorem exec_totalCurrentShed (s : State) : exec .totalCurrentShed s = .next { s with cuf := cuffTotal s.mono s.cuf } := rfl

/-- The chosen channel goes into FAULT with cause TOTAL, and no other channel changes (R366). -/
theorem exec_totalCurrentShed_of_due {s : State} {n : Fin 16} (hover : cuffOver s.mono s.cuf = true) (hdue : s.cuf.ShedDue s.mono)
    (hn : (s.cuf.conducting s.mono).argmax s.cuf.shedKey = some n.val) :
    ∃ t, exec .totalCurrentShed s = .next t ∧ t.cuf.ch[n].fault = true ∧ t.cuf.ch[n].cause = .total ∧ t.cuf.tshed = true ∧
      t.cuf.shedAt = some s.mono ∧ cufOn t.cuf t.cuf.ch[n] = false ∧ ∀ k : Fin 16, k ≠ n → t.cuf.ch[k] = s.cuf.ch[k] := by
  have hch : (s.cuf.set n (cufTotalFault s.mono)).ch[n] = cufTotalFault s.mono s.cuf.ch[n] := s.cuf.set_same n _
  obtain ⟨hfault, hcause⟩ := cufTotalFault_total s.mono s.cuf.ch[n]
  rw [← hch] at hfault hcause
  rw [exec_totalCurrentShed, cuffTotal_of_due hover hdue hn]
  exact ⟨_, rfl, hfault, hcause, rfl, rfl, cufOn_of_fault _ hfault, fun k hk => s.cuf.set_other _ hk⟩

/-- Settles O7: by rank and number the chosen channel stands above every other that conducted, so the rule finds it; the rule rests
while the sum is at or below 24.0 A, and for 10 ms after it has acted. -/
theorem totalCurrentSheds : Obligations.TotalCurrentSheds := by
  unfold Obligations.TotalCurrentSheds
  rintro s xs rfl
  have hover := cuffOver_iff s.mono s.cuf
  refine ⟨fun hsum => ?_, fun n hsum hdue hon hrank => ?_, fun t0 hsum hshed hrecent => ?_⟩
  · rw [exec_totalCurrentShed, cuffTotal_of_not_over (fun h => (hover.mp h).not_ge hsum)]
  · exact exec_totalCurrentShed_of_due (hover.mpr hsum) hdue (Cuff.argmax_shedKey hon hrank)
  · rw [exec_totalCurrentShed, cuffTotal_of_recent (hover.mpr hsum) hshed hrecent]

end Sys2Proof.Machine
end

section
/-! The root secret at the end of a reset (spec/14_cloak_keys.md R388 to R390): the first attempt that passes its check, what Cloak makes
of it, and the events that are pending when the release has ended. -/

namespace Sys2Proof.Machine

/-! ### An event that is pending stays so -/

theorem bitOf_eq_testBit (i v : Nat) : bitOf i v = v.testBit i := by
  rw [bitOf, Nat.testBit_eq_decide_div_mod_eq, Nat.shiftRight_eq_div_pow]
  rfl

/-- Up or in reset is a matter of the reset unit alone. -/
theorem State.up_congr {s t : State} (h : t.rst = s.rst) : t.up = s.up := by
  unfold State.up
  rw [h]

theorem State.told_raise {e : Ev} {s : State} (e' : Ev) (h : s.told e) : (s.raise e').told e := by
  cases hup : s.up with
  | false => simpa [State.raise, State.raiseAt, hup] using h
  | true =>
    have hthk : (s.raise e').thk = s.thk.raise e' 0 s.tb s.sec := s.raiseAt_thk e' 0 hup
    unfold State.told at h ⊢
    rw [bitOf_eq_testBit] at h
    rw [hthk, bitOf_eq_testBit, Thicket.raise, Nat.testBit_or, h, Bool.true_or]

theorem State.told_raises {e : Ev} {s : State} (es : List Ev) (h : s.told e) : (s.raises es).told e :=
  List.foldlRecOn (motive := State.told e) es _ h (fun _ ht e' _ => State.told_raise e' ht)

theorem State.told_wrongState {e : Ev} {s : State} (e' : Option Ev) (h : s.told e) : (s.wrongState e').told e :=
  State.told_raise _ h

theorem State.told_fallbackNet {e : Ev} {s : State} (h : s.told e) : s.fallbackNet.told e := by
  unfold State.told
  rw [(State.fallbackNet_moves s).frame.get .thk (by decide)]
  exact h

theorem State.told_tamperLate {e : Ev} {s : State} (h : s.told e) : s.tamperLate.told e :=
  List.foldlRecOn (motive := State.told e) _ _ h (fun _ ht _ _ => State.told_raise _ ht)

/-! ### The events of a unit's function are raised -/

/-- Outside a reset each event of a list is pending once the list has been raised. -/
theorem State.raises_told {e : Ev} {es : List Ev} {s : State} (hup : s.up = true) (he : e ∈ es) : (s.raises es).told e := by
  induction es generalizing s with
  | nil => cases he
  | cons x es ih =>
    rcases List.mem_cons.mp he with rfl | hmem
    · exact State.told_raises es (s.raise_told e hup)
    · exact ih ((State.up_congr (s.raise_rst x)).trans hup) hmem

/-- Outside a reset the events of a function of Cloak are pending when it has been run. -/
theorem State.clkDo_told {e : Ev} {f : Cloak → CkX} {s : State} (hup : s.up = true) (he : e ∈ (f s.clk).evs) :
    (s.clkDo f).told e := by
  have h : (({ s with clk := (f s.clk).c } : State).raises (f s.clk).evs).told e := State.raises_told hup he
  unfold State.clkDo
  dsimp only
  split
  · exact State.told_wrongState _ h
  · exact h

/-! ### The first attempt that passes -/

/-- Of the first `n` of a list, those before an element stand, then the element. -/
theorem take_append_cons {α : Type} {bad : List α} {n : Nat} (r : α) (rest : List α) (h : bad.length < n) :
    (bad ++ r :: rest).take n = bad ++ r :: rest.take (n - bad.length - 1) := by
  rw [List.take_append, List.take_of_length_le h.le, List.take_cons (Nat.sub_pos_of_lt h)]

theorem find?_append_cons {α : Type} {p : α → Bool} {bad : List α} {r : α} (rest : List α) (hbad : ∀ x ∈ bad, p x = false)
    (hr : p r = true) : (bad ++ r :: rest).find? p = some r := by
  have hnone : bad.find? p = none := List.find?_eq_none.mpr (fun x hx => by simp [hbad x hx])
  rw [List.find?_append, hnone, Option.none_or, List.find?_cons_of_pos hr]

theorem findIdx_append_cons {α : Type} {p : α → Bool} {bad : List α} {r : α} (rest : List α) (hbad : ∀ x ∈ bad, p x = false)
    (hr : p r = true) : (bad ++ r :: rest).findIdx p = bad.length := by
  have hlen : bad.findIdx p = bad.length := List.findIdx_eq_length.mpr hbad
  rw [List.findIdx_append, if_neg (by omega), List.findIdx_cons, hr, cond_true, Nat.zero_add]

/-- What Cloak makes of an attempt that passes after `n` that fail (R388, R390). -/
def Cloak.accept (devId : Nat) (r : RootTry) (n : Nat) (c : Cloak) : CkX :=
  let prk := rootPrk devId (((c.attempt r).map (·.1)).getD 0)
  let m := decide (8 * 32768 < r.errors * 100)
  { c := { c.restore prk with
      ready := true, rootFail := false, margin := m, attempts := n + 1, prk := some prk, slots := deriveSlots prk (c.restore prk).slots }
    evs := if m then [.cloakMargin] else [] }

/-- The first attempt that passes its check is the one accepted, where fewer than 4 stand before it (R388, R389). -/
theorem rootRegenerate_eq_accept {devId : Nat} {c : Cloak} {bad : List RootTry} {r : RootTry} (rest : List RootTry)
    (hfew : bad.length < 4) (hbad : ∀ x ∈ bad, c.rootGood devId x = false) (hr : c.rootGood devId r = true) :
    rootRegenerate devId (bad ++ r :: rest) c = c.accept devId r bad.length := by
  unfold rootRegenerate
  simp only [take_append_cons r rest hfew, find?_append_cons _ hbad hr, findIdx_append_cons _ hbad hr]
  rfl

/-- MARGIN is set exactly by more than 8 % of the 32,768 bits (R390). -/
theorem Cloak.accept_margin (devId : Nat) (r : RootTry) (n : Nat) (c : Cloak) :
    (c.accept devId r n).c.margin = decide (8 * 32768 < 100 * r.errors) := by
  rw [Nat.mul_comm 100]
  rfl

/-- More than 8 % raises the Cloak-margin event (R390). -/
theorem Cloak.cloakMargin_mem_accept {devId n : Nat} {r : RootTry} {c : Cloak} (h : 8 * 32768 < 100 * r.errors) :
    .cloakMargin ∈ (c.accept devId r n).evs := by
  have hm : decide (8 * 32768 < r.errors * 100) = true := decide_eq_true (by omega)
  simp only [Cloak.accept, hm, if_true, List.mem_singleton]

/-! ### The release -/

/-- A power-on or system reset whose time is over, with the supply and the fuse map in place and a firmware that verifies, is released
(R437, R441). -/
theorem State.releaseNow_eq_releaseMain {h : Hold} {s : State} (tries : List RootTry) (hhold : s.rst.hold = some h) (hlevel : h.level < 2)
    (htime : h.at_ + h.least ≤ s.mono) (hpwren : s.gld.pwren = true) (hmap : s.fuses.mapOk = true) (hfw : s.fuses.fwOk = true) :
    s.releaseNow tries = s.releaseMain h tries := by
  unfold State.releaseNow
  rw [hhold]
  dsimp only
  rw [if_neg (Nat.not_lt.mpr htime), if_neg (Nat.ne_of_lt hlevel), if_neg (by simp [hpwren, hmap, hfw])]

/-- The release leaves in Cloak what the regeneration gives. -/
theorem State.releaseMain_clk (h : Hold) (tries : List RootTry) (s : State) :
    (s.releaseMain h tries).clk = (rootRegenerate s.fuses.devId tries s.clk).c := by
  unfold State.releaseMain
  dsimp only
  rw [(State.tamperLate_moves _).frame.get .clk (by decide), State.raise_clk,
    (State.fallbackNet_moves _).frame.get .clk (by decide), State.clkDo_clk]

/-- The events of the regeneration are pending after the release: the main die is out of reset when Cloak raises them. -/
theorem State.releaseMain_told {e : Ev} {tries : List RootTry} {s : State} (h : Hold)
    (he : e ∈ (rootRegenerate s.fuses.devId tries s.clk).evs) : (s.releaseMain h tries).told e :=
  State.told_tamperLate (State.told_raise _ (State.told_fallbackNet (State.clkDo_told rfl he)))

/-- Settles O10: the first attempt that passes is the one accepted; its share of corrected bits alone sets MARGIN, and the event that it
raises outlives the rest of the release. -/
theorem cloakMarginTold : Obligations.CloakMarginTold := by
  unfold Obligations.CloakMarginTold
  intro s h bad rest r hhold hlevel htime hpwren hmap hfew hfw hbad hr
  have hrelease := State.releaseNow_eq_releaseMain (bad ++ r :: rest) hhold hlevel htime hpwren hmap hfw
  have haccept := rootRegenerate_eq_accept rest hfew hbad hr
  have hclk : (s.releaseMain h (bad ++ r :: rest)).clk = (s.clk.accept s.fuses.devId r bad.length).c := by
    rw [State.releaseMain_clk, haccept]
  refine ⟨_, congrArg Host.Outcome.next hrelease, ?_, ?_, ?_, fun hover => ?_⟩
  · rw [hclk]
    rfl
  · rw [hclk]
    rfl
  · rw [hclk, Cloak.accept_margin]
  · exact State.releaseMain_told h (haccept ▸ Cloak.cloakMargin_mem_accept hover)

end Sys2Proof.Machine
end

section
/-! The stall episodes of Thicket's producers (spec/17_thicket_and_events.md R462): what the first overdue wait of a producer counts and
raises, that a further one changes nothing, and that the credit with which the producer sends ends the episode. -/

namespace Sys2Proof.Machine

/-! ### The count of an event -/

/-- Every event has its place among the 64 of THK_EV and THK_EVCNT (R470). -/
theorem Ev.num_lt (e : Ev) : e.num < 64 := by
  cases e <;> decide

/-- A raise counts its event, saturating (R470). -/
theorem Thicket.raise_cnt_self (e : Ev) (idx tb sec : Nat) (t : Thicket) :
    (t.raise e idx tb sec).cnt[e.num]! = satInc 8 t.cnt[e.num]! := by
  have hlt : e.num < 64 := Ev.num_lt e
  have hupd : (t.raise e idx tb sec).cnt = t.cnt.set e.num (satInc 8 t.cnt[e.num]) hlt := dif_pos hlt
  rw [hupd, getElem!_pos (t.cnt.set _ _ hlt) e.num hlt, getElem!_pos t.cnt e.num hlt, Vector.getElem_set_self]

/-! ### The count of a class -/

/-- A stall counts in its own class alone. -/
theorem Thicket.stall_counts (c : TrafficClass) (t : Thicket) :
    (t.stall c).sRt = (if c = .rt then satInc 8 t.sRt else t.sRt) ∧
      (t.stall c).sSys = (if c = .sys then satInc 8 t.sSys else t.sSys) ∧
      (t.stall c).sBulk = (if c = .bulk then satInc 8 t.sBulk else t.sBulk) := by
  cases c <;> exact ⟨rfl, rfl, rfl⟩

/-- The counts of the events are not those of the classes. -/
@[simp] theorem Thicket.stall_cnt (c : TrafficClass) (t : Thicket) : (t.stall c).cnt = t.cnt := by
  cases c <;> rfl

/-! ### The episode of a producer -/

/-- A queue whose producer is not yet in an episode enters one, with all its entries in use. -/
def Thicket.episode (c : TrafficClass) (q : Nat) (t : Thicket) : Thicket :=
  { t.stall c with stalled := t.stalled ++ [q], used := mirPut q (depthOf q) t.used }

theorem Thicket.mem_stalled_episode (c : TrafficClass) (q : Nat) (t : Thicket) : q ∈ (t.episode c q).stalled :=
  List.mem_append_right _ (List.mem_singleton_self q)

theorem Thicket.stalledAt_of_mem {q : Nat} {t : Thicket} (c : TrafficClass) (h : q ∈ t.stalled) : t.stalledAt c q = (t, false) :=
  if_pos (List.contains_iff_mem.mpr h)

theorem Thicket.stalledAt_of_notMem {q : Nat} {t : Thicket} (c : TrafficClass) (h : q ∉ t.stalled) :
    t.stalledAt c q = (t.episode c q, true) :=
  if_neg (mt List.contains_iff_mem.mp h)

/-- Within its episode a producer raises and counts nothing more. -/
theorem State.stall_of_mem {q : Nat} {s : State} (c : TrafficClass) (h : q ∈ s.thk.stalled) : s.stall c q = s := by
  unfold State.stall
  rw [Thicket.stalledAt_of_mem c h]
  rfl

/-- Outside an episode one begins, and its event is raised. -/
theorem State.stall_of_notMem {q : Nat} {s : State} (c : TrafficClass) (h : q ∉ s.thk.stalled) :
    s.stall c q = ({ s with thk := s.thk.episode c q } : State).raiseAt .fabricStall q := by
  unfold State.stall
  rw [Thicket.stalledAt_of_notMem c h]
  rfl

/-- An item that leaves the full queue of a stalled producer lets the producer send: it is in no episode any more. -/
theorem Thicket.notMem_stalled_credit {q : Nat} {t : Thicket} (hq : q ∈ t.stalled) (hused : 0 < t.inUse q) :
    q ∉ (t.credit q).stalled := by
  have hcredit : t.credit q = { t with stalled := delSet q t.stalled } := by
    unfold Thicket.credit
    rw [if_neg (Nat.ne_of_gt hused), if_pos (List.contains_iff_mem.mpr hq)]
  rw [hcredit]
  simp [delSet]

/-! ### The commands -/

/-- Outside a reset FABRIC_STALL is the stall itself. -/
theorem exec_fabricStall_of_up {s : State} (c : TrafficClass) (q : Nat) (hup : s.up = true) :
    exec (.fabricStall c q) s = .next (s.stall c q) :=
  congrArg Host.Outcome.next (if_pos hup)

/-- Outside a reset CREDIT_RETURN gives the credit back. -/
theorem exec_creditReturn_of_up {s : State} (q : Nat) (hup : s.up = true) :
    exec (.creditReturn q) s = .next (s.thkMod (Thicket.credit q)) :=
  congrArg Host.Outcome.next (if_pos hup)

/-- Settles O6: whether the queue stands among the stalled ones decides both what FABRIC_STALL does and what the returned credit ends. -/
theorem fabricStallsOncePerEpisode : Obligations.FabricStallsOncePerEpisode := by
  unfold Obligations.FabricStallsOncePerEpisode
  intro s c q hup
  refine ⟨fun hq => ?_, fun hq => ?_, fun hq hused => ?_⟩
  · have hexec := (exec_fabricStall_of_up c q hup).trans (congrArg Host.Outcome.next (State.stall_of_notMem c hq))
    have hthk := State.raiseAt_thk .fabricStall q { s with thk := s.thk.episode c q } hup
    refine ⟨_, hexec, ?_, State.raiseAt_told _ _ _ hup, ?_, ?_⟩
    · rw [hthk]
      exact Thicket.mem_stalled_episode c q s.thk
    · rw [hthk, Thicket.raise_cnt_self, Thicket.episode, Thicket.stall_cnt]
    · rw [hthk]
      exact Thicket.stall_counts c s.thk
  · rw [exec_fabricStall_of_up c q hup, State.stall_of_mem c hq]
  · exact ⟨_, exec_creditReturn_of_up q hup, Thicket.notMem_stalled_credit hq hused⟩

end Sys2Proof.Machine
end

section
/-! What every command may change (O3, O4), and what follows of the queue (O1) and of the state at reset (O2). The lists of parts that each
operation moves (Laws/) are put beside the list of its command. -/

namespace Sys2Proof.Machine

/-! ### Updates of one part -/

/-- An update that leaves the flash, the log, the journal ring and the output as they are moves what it touches. -/
theorem Moves.of_touches {ps : List Part} {s t : State} (h : Touches ps s t) (himg : t.img = s.img) (hthk : t.thk = s.thk)
    (hseam : t.seam = s.seam) (hout : t.out = s.out) : Moves ps s t :=
  ⟨h, fun i => himg ▸ i, fun i => hthk ▸ i, fun i => hseam ▸ i, hout ▸ List.prefix_rfl⟩

theorem State.setCnp_moves (c : Canopy) (s : State) : Moves [.cnp] s { s with cnp := c } :=
  .of_touches (fun q hq => by cases q <;> first | exact absurd (by decide) hq | rfl) rfl rfl rfl rfl

theorem State.setGld_moves (g : Glade) (s : State) : Moves [.gld] s { s with gld := g } :=
  .of_touches (fun q hq => by cases q <;> first | exact absurd (by decide) hq | rfl) rfl rfl rfl rfl

theorem State.setSlvLink_moves (l : SlvLink) (s : State) : Moves [.slvLink] s { s with slvLink := l } :=
  .of_touches (fun q hq => by cases q <;> first | exact absurd (by decide) hq | rfl) rfl rfl rfl rfl

/-! ### Frames taken from a bus, and the debug reset -/

theorem State.statusFrame_moves (b : Fin 4) (s : State) : Moves [.thk, .cnp, .mb, .hst, .out] s
    (if !s.cores then s else match s.takeRx b isStatus with | none => s | some (x, s) => s.takeStatus b x) := by
  split
  · exact .refl _ _
  · split
    case h_1 => exact .refl _ _
    case h_2 x t htake => exact (State.takeStatus_moves ..).to (by decide) ((State.takeRx_pair htake).weaken (by decide))

theorem State.announce_moves (b : Fin 4) (s : State) : Moves [.thk, .mb, .hst, .out] s
    (match s.takeRx b isAnnounce with | none => s | some (x, s) => if s.answersAnnounce then s.takeAnnounce b x else s) := by
  split
  case h_1 => exact .refl _ _
  case h_2 x t htake =>
    have htaken : Moves [.thk, .mb, .hst, .out] s t := (State.takeRx_pair htake).weaken (by decide)
    split
    · exact (State.takeAnnounce_moves ..).to (by decide) htaken
    · exact htaken

theorem State.debugReset_moves (sys : Bool) (s : State) : Moves [.tb, .cfg, .rst, .gld, .thk, .site, .cnp, .mb, .ports, .v2g, .twins,
    .cpc, .gtr, .slvLink, .slvCtr, .seam, .lac, .brm, .hem, .clk, .img, .hst, .sessNext, .hiCap] s
    (if sys then s.systemSource 6 else s.coreHold 6) := by
  split
  · exact (State.systemSource_moves ..).weaken (by decide)
  · exact (State.coreHold_moves ..).weaken (by decide)

/-! ### A host write to a register of a known page -/

/-- A host write changes what the write of its page changes, beside THK_, the host interfaces and the output. -/
theorem State.hostWrite_page_moves {ps : List Part} (hs : [.thk, .hst, .out] ⊆ ps) {a w o : Nat} {g : Page} {s : State}
    (ha : pageOf a = some (g, o)) (hw : ∀ y, pageWrite g o w s = some y → Moves ps s y.2) : Moves ps s (s.hostWrite a w) := by
  have hwrite : Moves ps s (s.writeAt a w).2 := by
    unfold State.writeAt
    split
    · exact .refl _ _
    · next g' o' hpage =>
      have hg : some (g', o') = some (g, o) := by
        split at hpage
        · exact hpage.symm.trans ha
        · cases hpage
      obtain ⟨rfl, rfl⟩ := Prod.mk.inj (Option.some.inj hg)
      split
      · exact .refl _ _
      · split
        · exact .refl _ _
        · next y hy => exact stored_moves (hs (by decide)) _ _ (hw y hy)
  unfold State.hostWrite
  split
  · exact (State.finish_moves a (.notInState, s)).weaken hs
  · exact State.hostCommand_moves hs _ _ _ hwrite

theorem pageOf_vpCtrl (p : Fin 12) : pageOf (vpCtrlAddr p) = some (.vp p, 0) := by
  revert p; decide

theorem pageOf_vpBpt (p : Fin 12) : pageOf (vpCtrlAddr p + 0x30) = some (.vp p, 0x30) := by
  revert p; decide

theorem pageOf_cufCh (n : Fin 16) : pageOf (0x9100 + 0x10 * n.val) = some (.cuf, 0x100 + 0x10 * n.val) := by
  revert n; decide

theorem LoopCoeff.offset_lt (k : LoopCoeff) : k.offset < 0x40 := by
  cases k <;> decide

theorem pageOf_of_cpc {a : Nat} (hlow : 0x40000 ≤ a) (hhigh : a < 0x60000) : pageOf a = some (.cpc, a - 0x40000) := by
  unfold pageOf
  iterate 19 rw [if_neg (by omega)]
  rw [if_pos hhigh]

theorem pageOf_loopAddr (n : Fin 64) {o : Nat} (ho : o < 0x40) : pageOf (loopAddr n o) = some (.cpc, 0x1000 + 0x40 * n.val + o) := by
  have hn := n.isLt
  have haddr : loopAddr n o = 0x41000 + 0x40 * n.val + o := rfl
  have hoff : 0x41000 + 0x40 * n.val + o - 0x40000 = 0x1000 + 0x40 * n.val + o := by omega
  rw [pageOf_of_cpc (by omega) (by omega), haddr, hoff]

theorem State.hostWrite_cnp_moves {a o : Nat} (ha : pageOf a = some (.cnp, o)) (w : Nat) (s : State) :
    Moves [.thk, .cnp, .hst, .out] s (s.hostWrite a w) :=
  State.hostWrite_page_moves (by decide) ha (fun _ hy => (cnpWrite_moves (h := hy) ..).weaken (by decide))

theorem State.hostWrite_gtr_moves {a o : Nat} (ha : pageOf a = some (.gtr, o)) (w : Nat) (s : State) :
    Moves [.fresh, .thk, .ports, .v2g, .cpc, .gtr, .slvLink, .slvCtr, .cuf, .clk, .hst, .sessNext, .sessTop, .out] s (s.hostWrite a w) :=
  State.hostWrite_page_moves (by decide) ha (fun _ hy => gtrWrite_moves (h := hy) ..)

theorem State.hostWrite_seam_moves {a o : Nat} (ha : pageOf a = some (.seam, o)) (w : Nat) (s : State) :
    Moves [.thk, .cnp, .mb, .seam, .clk, .hst, .out] s (s.hostWrite a w) :=
  State.hostWrite_page_moves (by decide) ha (fun _ hy => seamWrite_moves (h := hy) ..)

theorem State.hostWrite_lac_moves {a o : Nat} (ha : pageOf a = some (.lac, o)) (w : Nat) (s : State) :
    Moves [.thk, .lac, .hst, .out] s (s.hostWrite a w) :=
  State.hostWrite_page_moves (by decide) ha (fun _ hy => lacWrite_moves (h := hy) ..)

theorem State.hostWrite_brm_moves {a o : Nat} (ha : pageOf a = some (.brm, o)) (w : Nat) (s : State) :
    Moves [.fresh, .thk, .ports, .v2g, .cpc, .gtr, .slvLink, .slvCtr, .brm, .cuf, .clk, .hst, .sessNext, .sessTop, .out] s
      (s.hostWrite a w) :=
  State.hostWrite_page_moves (by decide) ha (fun _ hy => brmWrite_moves (h := hy) ..)

theorem State.hostWrite_hem_moves {a o : Nat} (ha : pageOf a = some (.hem, o)) (w : Nat) (s : State) :
    Moves [.thk, .hem, .hst, .out] s (s.hostWrite a w) :=
  State.hostWrite_page_moves (by decide) ha (fun _ hy => hemWrite_moves (h := hy) ..)

theorem State.hostWrite_clk_moves {a o : Nat} (ha : pageOf a = some (.clk, o)) (w : Nat) (s : State) :
    Moves [.thk, .clk, .hst, .hiCap, .out] s (s.hostWrite a w) :=
  State.hostWrite_page_moves (by decide) ha (fun _ hy => clkWrite_moves (h := hy) ..)

theorem State.hostWrite_gld_moves {a o : Nat} (ha : pageOf a = some (.gld, o)) (w : Nat) (s : State) :
    Moves [.gld, .thk, .hst, .out] s (s.hostWrite a w) :=
  State.hostWrite_page_moves (by decide) ha (fun _ hy => (gldWrite_moves (h := hy) ..).weaken (by decide))

theorem State.hostWrite_thk_moves {a o : Nat} (ha : pageOf a = some (.thk, o)) (w : Nat) (s : State) :
    Moves [.thk, .hst, .hiCap, .out] s (s.hostWrite a w) :=
  State.hostWrite_page_moves (by decide) ha (fun _ hy => thkWrite_moves (h := hy) ..)

theorem State.hostWrite_hst_moves {a o : Nat} (ha : pageOf a = some (.hst, o)) (w : Nat) (s : State) :
    Moves [.fresh, .thk, .hst, .out] s (s.hostWrite a w) :=
  State.hostWrite_page_moves (by decide) ha (fun _ hy => (hstWrite_moves (h := hy) ..).weaken (by decide))

theorem State.hostWrite_cuf_moves {a o : Nat} (ha : pageOf a = some (.cuf, o)) (w : Nat) (s : State) :
    Moves [.thk, .cuf, .hst, .out] s (s.hostWrite a w) :=
  State.hostWrite_page_moves (by decide) ha (fun _ hy => (cufWrite_moves (h := hy) ..).weaken (by decide))

theorem State.hostWrite_cpc_moves {a o : Nat} (ha : pageOf a = some (.cpc, o)) (w : Nat) (s : State) :
    Moves [.thk, .cpc, .hst, .out] s (s.hostWrite a w) :=
  State.hostWrite_page_moves (by decide) ha (fun _ hy => cpcWrite_moves (h := hy) ..)

theorem State.hostWrite_vp_moves {p : Fin 12} {a o : Nat} (ha : pageOf a = some (.vp p, o)) (w : Nat) (s : State) :
    Moves [.fresh, .thk, .ports, .v2g, .twins, .slvLink, .slvCtr, .cuf, .clk, .hst, .sessNext, .sessTop, .out] s (s.hostWrite a w) :=
  State.hostWrite_page_moves (by decide) ha (fun y hy => by
    have hvp : vpWrite p o w s = some y := (dif_pos p.isLt).symm.trans hy
    exact vpWrite_moves (h := hvp) ..)

/-! ### The commands -/

/-- A list of parts that the check finds within another is within it; the lists may belong to commands with any operands. -/
theorem within {qs ps : List Part} (h : decide (qs ⊆ ps) = true) : qs ⊆ ps := of_decide_eq_true h

/-- A command completes where its operation moves parts that are listed for it. -/
theorem completes {qs : List Part} {c : Instr} {s t : State} (he : exec c s = .next t) (h : Moves qs s t) (hs : qs ⊆ c.parts) :
    ∃ t, exec c s = .next t ∧ Moves c.parts s t :=
  ⟨t, he, h.weaken hs⟩

/-- As `completes`, for an operation made of several. -/
theorem completes_of {c : Instr} {s t : State} (he : exec c s = .next t) (h : Moves c.parts s t) :
    ∃ t, exec c s = .next t ∧ Moves c.parts s t :=
  ⟨t, he, h⟩

/-- Every command completes and moves at most its parts. -/
theorem exec_moves (c : Instr) (s : State) : ∃ t, exec c s = .next t ∧ Moves c.parts s t := by
  cases c with
  | registerWrite | resetSysWrite | resetCoreWrite =>
    exact completes rfl (State.hostWrite_moves ..) (within rfl)
  | canopyTick =>
    exact completes rfl (.onlyIf _ _ (fun _ => State.tick_moves ..)) (within rfl)
  | solveComplete =>
    exact completes rfl (.onlyIf _ _ (fun _ => State.solved_moves ..)) (within rfl)
  | solveBudgetExpired =>
    exact completes rfl (.onlyIf _ _ (fun _ => State.solveBudget_moves ..)) (within rfl)
  | groupFrameRelease =>
    exact completes rfl (.onlyIf _ _ (fun _ => State.releaseFrames_moves ..)) (within rfl)
  | selectionTimeout =>
    exact completes_of rfl
      (.onlyIf _ _ (fun _ => (State.raiseAt_moves ..).to (within rfl) ((State.setCnp_moves ..).weaken (within rfl))))
  | releaseHoldExpiry =>
    exact completes rfl (.onlyIf _ _ (fun _ => State.releaseOne_moves ..)) (within rfl)
  | blockRelease | ceilingRefExpiry =>
    exact completes rfl (.onlyIf _ _ (fun _ => State.setCnp_moves ..)) (within rfl)
  | freezeWrite | clrMax | pmeasHostWrite | bufSocWrite | bufRefWrite =>
    exact completes rfl (State.hostWrite_cnp_moves rfl _ _) (within rfl)
  | intakeMeasurement =>
    exact completes rfl (.onlyIf _ _ (fun _ => State.measure_moves ..)) (within rfl)
  | intakeStale =>
    exact completes rfl (.onlyIf _ _ (fun _ => State.intakeLost_moves ..)) (within rfl)
  | bufferStale =>
    exact completes_of rfl (.onlyIf _ _ (fun _ => (State.raise_moves ..).to (within rfl) ((State.setCnp_moves ..).weaken (within rfl))))
  | canFrameReceive =>
    exact completes rfl (State.frameIn_moves ..) (within rfl)
  | oneShotResult =>
    exact completes rfl (.onlyIf _ _ (fun _ => State.oneShot_moves ..)) (within rfl)
  | busOff | busOffRecovery =>
    exact completes_of rfl
      (.onlyIf _ _ (fun _ => (State.raiseAt_moves ..).to (within rfl) ((State.busMod_moves ..).weaken (within rfl))))
  | portLimitFrameSend =>
    exact completes rfl (.onlyIf _ _ (fun _ => State.sendLimits_moves ..)) (within rfl)
  | statusFrame =>
    exact completes rfl (State.statusFrame_moves ..) (within rfl)
  | moduleLostTimeout =>
    exact completes rfl (.onlyIf _ _ (fun _ => State.loseModule_moves ..)) (within rfl)
  | announce =>
    exact completes rfl (State.announce_moves ..) (within rfl)
  | pilotStateAccept | proximityChange | contactorPullInExpiry | contactorDisagree | abruptEndOpen | failedAnswerClose
  | tLinkExpiry | tAuthExpiry | sequenceTimerExpiry | checkTimeout | cableCheckPass | tPcExpiry
  | powerDeliveryConditionTimeout | shortDeclared | shortCheckPathOff | stopRampComplete | faultMinTimeExpiry | creditNotice =>
    exact completes rfl (State.onPort_moves ..) (within rfl)
  | portStep =>
    exact completes rfl (.onlyIf _ _ (fun _ => State.stepPort_moves ..)) (within rfl)
  | contactorsAgreeClosed =>
    exact completes_of rfl
      (.onlyIf _ _ (fun _ => (State.handPort_moves ..).to (within rfl) ((State.onPort_moves ..).weaken (within rfl))))
  | contactorsAgreeOpen =>
    exact completes rfl (.onlyIf _ _ (fun _ => State.onPort_moves ..)) (within rfl)
  | sdpRequest =>
    exact completes rfl (.onlyIf _ _ (fun _ => State.sdp_moves ..)) (within rfl)
  | v2gConnectionOpen | v2gConnectionClosed | tlsHandshakeFail | supportedAppProtocolReq | sessionSetupReq
  | serviceDiscoveryReq | serviceSelectionReq | authorizationReq | cableCheckReq | preChargeReq | powerDeliveryReq
  | chargeLoopReq | sessionStopReq | certificateInstallationReq =>
    exact completes rfl (State.portMsg_moves ..) (within rfl)
  | portEnableWrite | portStop | clrLock =>
    exact completes rfl (State.hostWrite_vp_moves (pageOf_vpCtrl _) _ _) (within rfl)
  | bptTgtWrite =>
    exact completes rfl (State.hostWrite_vp_moves (pageOf_vpBpt _) _ _) (within rfl)
  | tempMeasurement =>
    exact completes rfl (.onlyIf _ _ (fun _ => State.measureTemp_moves ..)) (within rfl)
  | flowPulseEdge =>
    exact completes rfl (.onlyIf _ _ (fun _ => State.flowPulse_moves ..)) (within rfl)
  | flowTimeout | flowFaultClear =>
    exact completes rfl (.onlyIf _ _ (fun _ => State.twinMod_moves ..)) (within rfl)
  | thermalEvaluation =>
    exact completes rfl (.onlyIf _ _ (fun _ => State.evalTwin_moves ..)) (within rfl)
  | fastModeExit =>
    exact completes rfl (.onlyIf _ _ (fun _ => State.quietTwin_moves ..)) (within rfl)
  | loopSample =>
    exact completes rfl (.onlyIf _ _ (fun _ => State.sampleLoop_moves ..)) (within rfl)
  | loopFaultRecovery | injectionEnd =>
    exact completes rfl (.onlyIf _ _ (fun _ => State.cpcPut_moves ..)) (within rfl)
  | loopModeWrite | loopManWrite | loopPvhWrite =>
    exact completes rfl (State.hostWrite_cpc_moves (pageOf_loopAddr _ (by decide)) _ _) (within rfl)
  | loopCoeffWrite =>
    exact completes rfl (State.hostWrite_cpc_moves (pageOf_loopAddr _ (LoopCoeff.offset_lt _)) _ _) (within rfl)
  | injectionStart | injectionStop =>
    exact completes rfl (State.hostWrite_cpc_moves rfl _ _) (within rfl)
  | gaiterCycle | clockCheckWindow | safetyContactChange | inputDebounceDone | inputDiscrepancy | testPulseStart
  | testPulseSample | testMaskEnd | comparatorCrossing | comparatorReturn | comparatorSelfTest | fcTestLate
  | portResponseTimeout | softRampLimit | safeOutputOffPulse | safeOutputReadback | degradedTimerExpiry | handoverTimeout
  | gaiterLeaveHold =>
    exact completes rfl (State.onGaiter_moves ..) (within rfl)
  | resume | softWrite =>
    exact completes rfl (State.hostWrite_gtr_moves rfl _ _) (within rfl)
  | gateRequest | gateWithdraw =>
    exact completes rfl (.onlyIf _ _ (fun _ => State.onGaiter_moves ..)) (within rfl)
  | heartbeat =>
    exact completes rfl (.onlyIf _ _ (fun _ => State.beat_moves ..)) (within rfl)
  | heartbeatLost =>
    exact completes rfl (.onlyIf _ _ (fun _ => State.hbLost_moves ..)) (within rfl)
  | sampleFrameReceive =>
    exact completes rfl (.onlyIf _ _ (fun _ => State.sampleIn_moves ..)) (within rfl)
  | portMeasurementInvalid =>
    exact completes rfl (.onlyIf _ _ (fun _ => State.setSlvLink_moves ..)) (within rfl)
  | recordFrameReceive =>
    exact completes rfl (.onlyIf _ _ (fun _ => State.recordIn_moves ..)) (within rfl)
  | sleeveSampleSend =>
    exact completes rfl (.onlyIf _ _ (fun _ => State.sendSample_moves ..)) (within rfl)
  | headSampleFrame | headAuthFrame | headErrorTimeout | gateFeedbackCheck =>
    exact completes rfl (.onlyIf _ _ (fun _ => State.onSleeve_moves ..)) (within rfl)
  | headPairing =>
    exact completes rfl (.onlyIf _ _ (fun _ => State.pairHead_moves ..)) (within rfl)
  | sleeveCommit | lineCycleEnd | intakeLatch | freerunEnter | keepalive | setTime | tariffSeg | sessionStart | sessionStop
  | linkLossClose | firmwareLoad | recordResend =>
    exact completes rfl (State.onSlv_moves ..) (within rfl)
  | sleevePowerFail | sleeveWatchdog | sleeveSampleEnd | halfCycleRefresh | metrologySelfTest | serviceSessionOpen
  | serviceSessionClose | legalParamLoad =>
    exact completes rfl (State.onSleeve_moves ..) (within rfl)
  | sleevePowerOn =>
    exact completes rfl (.onlyIf _ _ (fun _ => State.powerSleeve_moves ..)) (within rfl)
  | unknownCommand | creditGateOpen =>
    exact completes rfl (.onlyIf _ _ (fun _ => State.onSlv_moves ..)) (within rfl)
  | tamperConditionBegin =>
    exact completes rfl (.onlyIf _ _ (fun _ => State.slvDo_moves ..)) (within rfl)
  | tamperConditionEnd | coverSwitchSample | vbksLoss =>
    exact completes rfl (.onlyIf _ _ (fun _ => State.slvMod_moves ..)) (within rfl)
  | roleChoiceTimeout =>
    exact completes rfl (.onlyIf _ _ (fun _ => State.chooseAlone_moves ..)) (within rfl)
  | laneDown | laneRetrain | resyncComplete =>
    exact completes_of rfl
      (.onlyIf _ _ (fun _ => (State.judgeFit_moves ..).to (within rfl) ((State.seamMod_moves _ _ id).weaken (within rfl))))
  | peerLost =>
    exact completes rfl (.onlyIf _ _ (fun _ => State.losePeer_moves ..)) (within rfl)
  | statusSend =>
    exact completes_of rfl
      (.onlyIf _ _ (fun _ => (State.seamPut_moves ..).to (within rfl) ((State.judgeFit_moves ..).weaken (within rfl))))
  | journal =>
    exact completes_of rfl (State.onSeam_moves (within rfl) _ _ _ _ (fun _ => State.journalIn_moves ..))
  | ack =>
    exact completes_of rfl (State.onSeam_moves (within rfl) _ _ _ _ (fun _ => State.ackIn_moves ..))
  | status =>
    exact completes_of rfl (State.onSeam_moves (within rfl) _ _ _ _ (fun _ => State.statusIn_moves ..))
  | release =>
    exact completes_of rfl (State.onSeam_moves (within rfl) _ _ _ _ (fun _ => State.releaseIn_moves ..))
  | handover =>
    exact completes_of rfl
      (State.onSeam_moves (within rfl) _ _ _ _ (fun _ =>
        (State.handedOver_moves ..).to (within rfl) ((State.seamAccept_moves ..).weaken (within rfl))))
  | resyncReq =>
    exact completes_of rfl (State.onSeam_moves (within rfl) _ _ _ _ (fun _ => State.resyncIn_moves ..))
  | snapshotFrame =>
    exact completes_of rfl (State.onSeam_moves (within rfl) _ _ _ _ (fun _ => State.snapshotIn_moves ..))
  | relay =>
    exact completes_of rfl (State.onSeam_moves (within rfl) _ _ _ _ (fun _ => State.relayIn_moves ..))
  | relayRsp =>
    exact completes_of rfl (State.onSeam_moves (within rfl) _ _ _ _ (fun _ => State.relayRspIn_moves ..))
  | relayTimeout =>
    exact completes rfl (.onlyIf _ _ (fun _ => State.relayLate_moves ..)) (within rfl)
  | relayWindowEnd | ownNRelease =>
    exact completes rfl (.onlyIf _ _ (fun _ => State.seamMod_moves _ _ id)) (within rfl)
  | ownNHigh =>
    exact completes rfl (.onlyIf _ _ (fun _ => State.ownHigh_moves ..)) (within rfl)
  | ownNLow =>
    exact completes rfl (.onlyIf _ _ (fun _ => State.ownLow_moves ..)) (within rfl)
  | releaseCause =>
    exact completes rfl (.onlyIf _ _ (fun _ => State.release_moves ..)) (within rfl)
  | takeoverFirstTick =>
    exact completes rfl (.onlyIf _ _ (fun _ => State.firstTick_moves ..)) (within rfl)
  | echoEligible =>
    exact completes rfl (.onlyIf _ _ (fun _ => State.echoDue_moves ..)) (within rfl)
  | echoCheckTimeout =>
    exact completes rfl (.onlyIf _ _ (fun _ => State.echoLate_moves ..)) (within rfl)
  | holdFrameSend =>
    exact completes_of rfl (.onlyIf _ _ (fun _ => .foldl (fun _ _ => State.sendHolds_moves ..) _ _ _ (.refl _ _)))
  | swap =>
    exact completes rfl (State.hostWrite_seam_moves rfl _ _) (within rfl)
  | scheduledSwap =>
    exact completes rfl (.onlyIf _ _ (fun _ => State.swapWrite_moves ..)) (within rfl)
  | lacingRunWrite | owtRequest =>
    exact completes rfl (State.hostWrite_lac_moves rfl _ _) (within rfl)
  | wakeDone | enumeration | lacingFaultRetry | lacingResponse | lacingResponseTimeout | lacingNodeLost | owtRead
  | owTestLate =>
    exact completes rfl (State.onLacing_moves ..) (within rfl)
  | sweepPeriod =>
    exact completes rfl (State.sweepPeriod_moves ..) (within rfl)
  | fchReceive | beacon | join | tmreq | tmr | values | estop | leave | brambleAck | brambleNack | ackTimeout | zeroCrossing
  | tmrTimeout | beaconSend | bramblePartnerLost | pulseBeacon | fallbackEstop | ctrlBeaconSend | bindingStale =>
    exact completes rfl (State.onBramble_moves ..) (within rfl)
  | joinAck | set =>
    exact completes rfl (State.onPartner_moves ..) (within rfl)
  | toneMapRefresh =>
    exact completes rfl (.onlyIf _ _ (fun _ => State.onBramble_moves ..)) (within rfl)
  | toneMapRefreshWrite =>
    exact completes rfl (State.hostWrite_brm_moves rfl _ _) (within rfl)
  | cuffProtectionCheck | totalCurrentShed | cuffRetry =>
    exact completes rfl (State.cufMod_moves ..) (within rfl)
  | clampEventEnd =>
    exact completes rfl (State.clampEnd_moves ..) (within rfl)
  | cufClr =>
    exact completes rfl (State.hostWrite_cuf_moves rfl _ _) (within rfl)
  | cufChannelWrite =>
    exact completes rfl (State.hostWrite_cuf_moves (pageOf_cufCh _) _ _) (within rfl)
  | cuffForce | cuffStandbyOff =>
    exact completes rfl (.onlyIf _ _ (fun _ => State.cufMod_moves ..)) (within rfl)
  | vlsLoss =>
    exact completes_of rfl (Moves.foldl (fun _ _ => State.driversDrop_moves ..) _ _ _ ((State.cufMod_moves ..).weaken (within rfl)))
  | vselChange | softStartComplete | hemShort | hiccupExpiry | hicClear | hemUndervoltage | hemOvervoltage | hemVinOut
  | hemVinOk | phaseOvercurrent | phaseShed | phaseAdd | fastCondition | shedBlockExpiry | hemLoopUpdate =>
    exact completes rfl (State.onHem_moves ..) (within rfl)
  | hemClr =>
    exact completes rfl (State.hostWrite_hem_moves rfl _ _) (within rfl)
  | keyUpdateGo | attestationGo =>
    exact completes rfl (State.hostWrite_clk_moves rfl _ _) (within rfl)
  | keyUpdateJudged =>
    exact completes rfl (State.keyJudged_moves ..) (within rfl)
  | pairBinding =>
    exact completes rfl (State.bindPair_moves ..) (within rfl)
  | attestationDone | rngHealthFail | rngRecover | drbgReseed =>
    exact completes rfl (State.onCloak_moves ..) (within rfl)
  | strapLatch =>
    exact completes rfl (.onlyIf _ _ (fun _ => State.imgRaise_moves _ _ _ (flashOk_strapLatch _ _))) (within rfl)
  | loaderStart =>
    exact completes rfl (.onlyIf _ _ (fun _ => State.imgRaise_moves _ _ _ (flashOk_loaderStart _ _ _))) (within rfl)
  | firstLeafApply =>
    exact completes rfl (.onlyIf _ _ (fun _ => State.leafIntoForce_moves ..)) (within rfl)
  | firstLeafRefused =>
    exact completes rfl (.onlyIf _ _ (fun _ => State.imgRaise_moves _ _ _ (flashOk_leafRefused _ _ _ _))) (within rfl)
  | restApply =>
    exact completes rfl (.onlyIf _ _ (fun _ => State.restIntoForce_moves ..)) (within rfl)
  | restRefused =>
    exact completes rfl (.onlyIf _ _ (fun _ => State.restFails_moves ..)) (within rfl)
  | heartbeatStop =>
    exact completes rfl (.onlyIf _ _ (fun _ => State.imgPut_moves _ _ id)) (within rfl)
  | imageErase =>
    exact completes rfl (State.imgOp_moves _ _ (flashOk_imgErase _ _)) (within rfl)
  | imageProg =>
    exact completes rfl (State.imgOpFree_moves _ _ (fun _ => flashOk_imgProg _ _ _ _)) (within rfl)
  | imageCheck =>
    exact completes rfl (State.imgOp_moves _ _ (flashOk_imgCheck _ _ _ _ _)) (within rfl)
  | imageSelect =>
    exact completes rfl (State.imgOpFree_moves _ _ (fun _ => flashOk_imgSelect _ _ _ _)) (within rfl)
  | imageOpDone =>
    exact completes rfl (.onlyIf _ _ (fun _ => State.imgPut_moves _ _ (flashOk_imgOpDone _))) (within rfl)
  | powerOnReset =>
    exact completes rfl (State.powerLow_moves ..) (within rfl)
  | brownOut =>
    exact completes rfl (State.powerResetNow_moves ..) (within rfl)
  | pinReset =>
    exact completes rfl (State.pinLow_moves ..) (within rfl)
  | watchdogExpiry | lockUp =>
    exact completes rfl (State.pendReset_moves ..) (within rfl)
  | appCoreRestart =>
    exact completes rfl (.onlyIf _ _ (fun _ => State.appRestart_moves ..)) (within rfl)
  | debugResetRequest =>
    exact completes rfl (.onlyIf _ _ (fun _ => State.debugReset_moves ..)) (within rfl)
  | clockFailure =>
    exact completes rfl (State.clockFails_moves ..) (within rfl)
  | deferredSystemReset =>
    exact completes rfl (.onlyIf _ _ (fun _ => State.deferred_moves ..)) (within rfl)
  | releaseSequence =>
    exact completes rfl (State.releaseNow_moves ..) (within rfl)
  | pllStop | pllRequest =>
    exact completes rfl (.onlyIf _ _ (fun _ => State.pllSet_moves ..)) (within rfl)
  | gladeXtalLoss | gladeXtalReturn =>
    exact completes rfl (State.gldMod_moves ..) (within rfl)
  | gladeSleep | gldClrCnt =>
    exact completes rfl (State.hostWrite_gld_moves rfl _ _) (within rfl)
  | gladeWake =>
    exact completes rfl (.onlyIf _ _ (fun _ => State.gldMod_moves ..)) (within rfl)
  | enclosureTamperSample =>
    exact completes rfl (State.tamperStep_moves ..) (within rfl)
  | temperatureRead =>
    exact completes rfl (.onlyIf _ _ (fun _ => State.temperature_moves ..)) (within rfl)
  | creditReturn =>
    exact completes rfl (.onlyIf _ _ (fun _ => State.thkMod_moves _ _ (logOk_credit _ _).mpr)) (within rfl)
  | transactionTimeout =>
    exact completes rfl (.onlyIf _ _ (fun _ => State.tagTimeout_moves ..)) (within rfl)
  | fabricStall =>
    exact completes rfl (.onlyIf _ _ (fun _ => State.stall_moves ..)) (within rfl)
  | dataErrorDetected =>
    exact completes rfl (.onlyIf _ _ (fun _ => State.dataError_moves ..)) (within rfl)
  | softwareEvent =>
    exact completes rfl (State.hostWrite_thk_moves rfl _ _) (within rfl)
  | spiRead =>
    exact completes_of rfl (State.onSpi_moves (within rfl) _ _ _ _ _ _ _ (fun _ => State.spiReadWords_moves ..))
  | spiWrite =>
    exact completes_of rfl (State.onSpi_moves (within rfl) _ _ _ _ _ _ _ (fun _ => State.spiWriteWords_moves ..))
  | spiPeerRead | spiPeerWrite =>
    exact completes_of rfl (State.onSpi_moves (within rfl) _ _ _ _ _ _ _ (fun _ => State.spiPeer_moves ..))
  | spiCrcReport =>
    exact completes rfl (State.hostWrite_hst_moves rfl _ _) (within rfl)
  | esingConnect =>
    exact completes rfl (.onlyIf _ _ (fun _ => State.esingAccept_moves ..)) (within rfl)
  | esingIdleClose =>
    exact completes_of rfl (.onlyIf _ _ (fun _ => (State.emit_moves ..).to (within rfl) ((State.connMod_moves ..).weaken (within rfl))))
  | read =>
    exact completes_of rfl (State.onEsing_moves (of_decide_eq_true rfl) _ _ _ (fun _ _ => State.esDoRead_moves ..))
  | write =>
    exact completes_of rfl (State.onEsing_moves (of_decide_eq_true rfl) _ _ _ (fun _ _ => State.esDoWrite_moves ..))
  | log =>
    exact completes_of rfl (State.onEsing_moves (of_decide_eq_true rfl) _ _ _ (fun _ _ => (State.esDoLog_moves ..).weaken (within rfl)))
  | sub =>
    exact completes_of rfl (State.onEsing_moves (of_decide_eq_true rfl) _ _ _ (fun _ _ => (State.esDoSub_moves ..).weaken (within rfl)))
  | scheduleEvaluation =>
    exact completes rfl (.onlyIf _ _ (fun _ => State.schedule_moves ..)) (within rfl)
  | setChargingProfile =>
    exact completes rfl (.onlyIf _ _ (fun _ => State.takeProfile_moves ..)) (within rfl)
  | requestStartTransaction =>
    exact completes_of rfl (.onlyIf _ _ (fun _ => (State.emit_moves ..).to (within rfl) ((State.ocppMod_moves ..).weaken (within rfl))))
  | requestStopTransaction =>
    exact completes rfl (.onlyIf _ _ (fun _ => State.txStop_moves ..)) (within rfl)
  | changeAvailability =>
    exact completes_of rfl (.onlyIf _ _ (fun _ => (State.emit_moves ..).to (within rfl) ((vpEnable_moves ..).weaken (within rfl))))
  | ocppReset =>
    exact completes rfl (.onlyIf _ _ (fun _ => State.backOfficeReset_moves ..)) (within rfl)
  | ocppUnsupportedCall =>
    exact completes rfl (.onlyIf _ _ (fun _ => State.emit_moves ..)) (within rfl)
  | authorizeResponse =>
    exact completes_of rfl
      (.onlyIf _ _ (fun _ => (State.portDo_moves ..).to (within rfl) ((State.ocppMod_moves ..).weaken (within rfl))))
  | meterValuesSend =>
    exact completes rfl (.onlyIf _ _ (fun _ => State.meterValues_moves ..)) (within rfl)
  | transactionEnded =>
    exact completes_of rfl (.onlyIf _ _ (fun _ => .foldl (fun _ _ => State.endTx_moves ..) _ _ _ (.refl _ _)))
  | recordWaitTimeout =>
    exact completes_of rfl (.onlyIf _ _ (fun _ => .foldl (fun _ _ => State.recordLate_moves ..) _ _ _ (.refl _ _)))
  | ocppLinkLost =>
    exact completes rfl (.onlyIf _ _ (fun _ => State.linkLost_moves ..)) (within rfl)
  | ocppReconnect =>
    exact completes rfl (.onlyIf _ _ (fun _ => State.reconnect_moves ..)) (within rfl)
  | bootAccepted =>
    exact completes rfl (.onlyIf _ _ (fun _ => State.bootDone_moves ..)) (within rfl)
  | seamLaneTrained =>
    exact completes rfl (.onlyIf _ _ (fun _ => State.laneUp_moves ..)) (within rfl)
  | vgladePowerOn =>
    exact completes rfl (State.setGld_moves ..) (within rfl)

/-- Settles O4: each operation of the model moves only the parts listed beside it, and the list of a command covers those of its
operation. -/
theorem unitsKeptApart : Obligations.UnitsKeptApart := by
  unfold Obligations.UnitsKeptApart
  intro c s
  obtain ⟨t, he, h⟩ := exec_moves c s
  exact ⟨t, he, h.frame⟩

/-- A step on an empty queue takes nothing back. -/
theorem State.idle_keeps (s : State) (i : s.Inv) : s.idle.Inv ∧ s.out <+: s.idle.out :=
  ⟨⟨i.flash, i.log, i.ring⟩, List.prefix_rfl⟩

/-- Settles O3: every operation that moves keeps the invariant and only appends to the output; so does the idle step. -/
theorem everyStepKeepsInv : Obligations.EveryStepKeepsInv := by
  unfold Obligations.EveryStepKeepsInv
  intro s t hinv hstep
  unfold step at hstep
  split at hstep
  · cases hstep
    obtain ⟨hkept, l, hl⟩ := s.idle_keeps hinv
    exact ⟨hkept, l, hl.symm⟩
  · next c rest _ =>
    obtain ⟨u, he, h⟩ := exec_moves c { s with pending := rest }
    cases he.symm.trans hstep
    obtain ⟨l, hl⟩ := h.sent
    exact ⟨h.inv ⟨hinv.flash, hinv.log, hinv.ring⟩, l, hl.symm⟩

/-- No command has the queue, the model's clock or the fuses among its parts. -/
theorem parts_all (c : Instr) : c.parts.all (fun q => q ≠ .pending ∧ q ≠ .mono ∧ q ≠ .fuses) = true := by
  cases c <;> rfl

theorem parts_exclude (c : Instr) : .pending ∉ c.parts ∧ .mono ∉ c.parts ∧ .fuses ∉ c.parts := by
  have hall := fun q hq => of_decide_eq_true (List.all_eq_true.1 (parts_all c) q hq)
  exact ⟨fun h => (hall _ h).1 rfl, fun h => (hall _ h).2.1 rfl, fun h => (hall _ h).2.2 rfl⟩

/-- Settles O1: the step of a queue with a command is that command's `exec`; an empty queue takes the idle step; the frame of every
command leaves the queue, the clock and the fuses alone. -/
theorem queueIsServed : Obligations.QueueIsServed := by
  unfold Obligations.QueueIsServed
  refine ⟨fun _ _ _ => rfl, fun s hempty => ⟨s.idle, ?_, rfl, hempty, rfl, rfl, rfl⟩, fun c s t he => ?_⟩
  · unfold step
    rw [hempty]
  · obtain ⟨u, hu, h⟩ := exec_moves c s
    cases hu.symm.trans he
    obtain ⟨hpending, hmono, hfuses⟩ := parts_exclude c
    exact ⟨h.frame.get .pending hpending, h.frame.get .mono hmono, h.frame.get .fuses hfuses⟩

/-! ### The state at reset -/

theorem State.reset_inv : State.reset.Inv where
  flash := by unfold flashOk; decide
  log := by unfold logOk; decide
  ring := by unfold ringOk; decide

theorem State.reset_ports (p : Fin 12) : State.reset.ports[p] = {} := Vector.getElem_replicate p.isLt

theorem State.reset_gates (p : Fin 12) : State.reset.gtr.gates[p] = {} := Vector.getElem_replicate p.isLt

theorem State.reset_channels (n : Fin 16) : State.reset.cuf.ch[n] = {} := Vector.getElem_replicate n.isLt

/-- Settles O2: the invariant holds of empty stores, and each unit starts at the defaults of its structure. -/
theorem resetStateHolds : Obligations.ResetStateHolds := by
  unfold Obligations.ResetStateHolds
  refine ⟨State.reset_inv, rfl, rfl, rfl, rfl, rfl, rfl, rfl, rfl, fun p => ?_, fun n => ?_, rfl, rfl⟩
  · rw [State.reset_ports, State.reset_gates]
    exact ⟨rfl, rfl⟩
  · rw [State.reset_channels]
    rfl

end Sys2Proof.Machine
end

section
/-! Like units are kept apart (O5), the module buses: what is done on bus `b` leaves another bus `d` as it was. -/

namespace Sys2Proof.Machine

theorem updN_other {α : Type} {n : Nat} (v : Vector α n) {i : Nat} {j : Fin n} (f : α → α) (h : j.val ≠ i) : (updN v i f)[j] = v[j] := by
  unfold updN
  split
  · exact Vector.getElem_set_ne _ _ (Ne.symm h)
  · rfl

section
variable {b d : Fin 4} (hd : d ≠ b)
include hd

theorem State.busMod_other (f : MBus → MBus) (s : State) : (s.busMod b f).mb.bus[d] = s.mb.bus[d] := upd_other _ _ _ _ hd

theorem State.linkMod_other (a : Nat) (f : PmLink → PmLink) (s : State) : (s.linkMod b a f).mb.bus[d] = s.mb.bus[d] :=
  State.busMod_other hd _ _

theorem State.offers_other (s : State) : (s.offers b).mb.bus[d] = s.mb.bus[d] := State.busMod_other hd _ _

theorem State.canSend_other (id : Nat) (data : List Byte) (s : State) : (s.canSend b id data).mb.bus[d] = s.mb.bus[d] :=
  State.busMod_other hd _ _

theorem State.confine_other (t r : Nat) (s : State) : (s.confine b t r).mb.bus[d] = s.mb.bus[d] := by
  unfold State.confine
  dsimp only
  split <;> simp only [State.raiseAt_mb, State.busMod_other hd]

theorem State.countTx_other (r : TxResult) (w : TxFlaw) (s : State) : (s.countTx b r w).mb.bus[d] = s.mb.bus[d] :=
  State.confine_other hd _ _ _

theorem State.highPriority_other (x : RxFrame) (s : State) : (s.highPriority b x).mb.bus[d] = s.mb.bus[d] := by
  simp only [State.highPriority, State.raiseAt_mb, State.busMod_other hd]

theorem State.groupResult_other (j : Nat) (r : TxResult) (f : TxFrame) (s : State) : (s.groupResult b j r f).mb.bus[d] = s.mb.bus[d] := by
  unfold State.groupResult
  dsimp only
  simp only [apply_ite (fun t : State => t.mb.bus[d]), State.canSend_other hd, State.raiseAt_mb, State.groupEnded_mb,
    State.busMod_other hd, ite_self]

theorem State.withdrawGroup_other (j : Nat) (s : State) : (s.withdrawGroup b j).mb.bus[d] = s.mb.bus[d] := by
  unfold State.withdrawGroup
  split
  · rfl
  · exact (State.offers_other hd _).trans (State.groupResult_other hd _ _ _ _)

/-! ### A frame received -/

theorem State.canAccept_other (f : CanFrame) (s : State) : (s.canAccept b f).1.mb.bus[d] = s.mb.bus[d] := by
  unfold State.canAccept
  dsimp only
  repeat' split
  all_goals simp only [State.busMod_other hd, State.highPriority_other hd]

theorem State.canReceive_other (f : CanFrame) (s : State) : (s.canReceive b f).1.mb.bus[d] = s.mb.bus[d] := by
  unfold State.canReceive
  dsimp only
  repeat' split
  all_goals simp only [State.busMod_other hd, State.canAccept_other hd, State.confine_other hd]

omit hd in
theorem State.echoMod_mb (b : Fin 4) (g : Nat) (f : EchoSt → EchoSt) (s : State) : (s.echoMod b g f).mb = s.mb := rfl

omit hd in
theorem State.echoFail_mb (b : Fin 4) (missing : Bool) (s : State) : (s.echoFail b missing).mb = s.mb :=
  (State.echoFail_moves b missing s).frame.get .mb (by decide)

theorem State.echoHeard_other (x : RxFrame) (s : State) : (s.echoHeard b x).mb.bus[d] = s.mb.bus[d] := by
  unfold State.echoHeard
  dsimp only
  repeat' split
  all_goals simp only [State.echoMod_mb, State.echoFail_mb, State.withdrawGroup_other hd]

theorem State.frameIn_other (f : CanFrame) (s : State) : (s.frameIn b f).mb.bus[d] = s.mb.bus[d] := by
  have hrx := State.canReceive_other hd f s
  unfold State.frameIn
  split
  · next t he => rwa [he] at hrx
  · next t x he =>
    rw [he] at hrx
    exact (State.echoHeard_other hd x t).trans hrx

/-! ### An attempt for a frame of the device -/

theorem State.oneShotGroup_other (j : Nat) (r : TxResult) (w : TxFlaw) (s : State) :
    (s.oneShotGroup b j r w).mb.bus[d] = s.mb.bus[d] := by
  unfold State.oneShotGroup
  split
  · rfl
  · exact (State.countTx_other hd _ _ _).trans (State.groupResult_other hd _ _ _ _)

theorem State.holdResult_other (r : TxResult) (s : State) : (s.holdResult b r).mb.bus[d] = s.mb.bus[d] := by
  unfold State.holdResult
  repeat' split
  all_goals simp only [State.canSend_other hd, State.raiseAt_mb, State.busMod_other hd]

theorem State.oneShotHold_other (r : TxResult) (w : TxFlaw) (s : State) : (s.oneShotHold b r w).mb.bus[d] = s.mb.bus[d] := by
  unfold State.oneShotHold
  split
  · rfl
  · exact (State.countTx_other hd _ _ _).trans (State.holdResult_other hd _ _)

theorem State.retryResult_other (slot : Nat) (r : TxResult) (w : TxFlaw) (s : State) :
    (s.retryResult b slot r w).mb.bus[d] = s.mb.bus[d] := by
  unfold State.retryResult
  dsimp only
  generalize (if slot = 5 then s.mb.bus[b].txLimit else s.mb.bus[b].txMgmt.head?) = o
  cases o with
  | none => rfl
  | some f =>
    dsimp only
    rw [State.countTx_other hd]
    split
    · rw [State.canSend_other hd, State.busMod_other hd]
    · rfl

omit hd in
theorem State.expectEcho_mb (b : Fin 4) (j : Nat) (data : List Byte) (s : State) : (s.expectEcho b j data).mb = s.mb :=
  (State.expectEcho_moves b j data s).frame.get .mb (by decide)

theorem State.attemptEnd_other (slot : Nat) (r : TxResult) (w : TxFlaw) (s : State) :
    (s.attemptEnd b slot r w).mb.bus[d] = s.mb.bus[d] := by
  unfold State.attemptEnd
  repeat' split
  all_goals
    simp only [State.retryResult_other hd, State.oneShotHold_other hd, State.expectEcho_mb, State.oneShotGroup_other hd]

theorem State.oneShot_other (slot : Nat) (r : TxResult) (w : TxFlaw) (s : State) : (s.oneShot b slot r w).mb.bus[d] = s.mb.bus[d] := by
  unfold State.oneShot
  rw [State.offers_other hd, State.busMod_other hd, State.attemptEnd_other hd]

/-! ### Frames that Canopy queues, and frames that it takes from the receive queue -/

theorem State.queueLimit_other (data : List Byte) (seq : Nat) (s : State) : (s.queueLimit b data seq).mb.bus[d] = s.mb.bus[d] := by
  unfold State.queueLimit
  split
  · rfl
  · rw [State.offers_other hd, State.busMod_other hd]

theorem State.sendLimits_other (s : State) : (s.sendLimits b).mb.bus[d] = s.mb.bus[d] := by
  unfold State.sendLimits
  dsimp only
  rw [State.queueLimit_other hd, State.busMod_other hd]

theorem State.queueMgmt_other (data : List Byte) (s : State) : (s.queueMgmt b data).mb.bus[d] = s.mb.bus[d] := by
  unfold State.queueMgmt
  split
  · rfl
  · rw [State.offers_other hd, State.busMod_other hd]

theorem State.takeRx_other {ok : Nat → Bool} {s t : State} {x : RxFrame} (h : s.takeRx b ok = some (x, t)) :
    t.mb.bus[d] = s.mb.bus[d] := by
  unfold State.takeRx at h
  dsimp only at h
  split at h
  · cases h
  · cases h
    exact State.busMod_other hd _ _

omit hd in
theorem State.readStatus_mb (pm : Nat) (m : ModStatus) (s : State) : (s.readStatus pm m).mb = s.mb :=
  (State.readStatus_moves pm m s).frame.get .mb (by decide)

theorem State.loseModule_other (a : Nat) (s : State) : (s.loseModule b a).mb.bus[d] = s.mb.bus[d] := State.linkMod_other hd _ _ _

theorem State.takeStatus_other (x : RxFrame) (s : State) : (s.takeStatus b x).mb.bus[d] = s.mb.bus[d] := by
  unfold State.takeStatus
  dsimp only
  repeat' split
  all_goals
    simp only [State.busMod_other hd, State.loseModule_other hd, State.readStatus_mb, State.linkMod_other hd]

theorem State.takeAnnounce_other (x : RxFrame) (s : State) : (s.takeAnnounce b x).mb.bus[d] = s.mb.bus[d] := by
  unfold State.takeAnnounce State.admitModule
  dsimp only
  repeat' split
  all_goals simp only [State.raiseAt_mb, State.linkMod_other hd, State.queueMgmt_other hd]

end

/-! ### The commands -/

theorem State.onlyIf_keeps {β : Type} {view : State → β} {f : State → State} (c : Bool) (s : State) (h : view (f s) = view s) :
    view (s.onlyIf c f) = view s := by
  cases c
  · rfl
  · exact h

/-- A command for a bus leaves the other buses as they are. -/
theorem bus_othersStay (c : Instr) {b : Fin 4} (hc : c.which = .bus b) {s t : State} (he : exec c s = .next t) :
    (Which.bus b).othersStay s t := by
  intro d hd
  cases c with
  | canFrameReceive => cases hc; cases he; exact State.frameIn_other hd _ _
  | oneShotResult => cases hc; cases he; exact State.onlyIf_keeps (view := fun t => t.mb.bus[d]) _ _ (State.oneShot_other hd _ _ _ _)
  | busOff | busOffRecovery =>
    cases hc; cases he
    refine State.onlyIf_keeps (view := fun t => t.mb.bus[d]) _ _ ?_
    simp only [State.raiseAt_mb, State.busMod_other hd]
  | portLimitFrameSend => cases hc; cases he; exact State.onlyIf_keeps (view := fun t => t.mb.bus[d]) _ _ (State.sendLimits_other hd _)
  | statusFrame =>
    cases hc; cases he
    split
    · rfl
    · split
      · rfl
      · next htake => exact (State.takeStatus_other hd _ _).trans (State.takeRx_other hd htake)
  | announce =>
    cases hc; cases he
    split
    · rfl
    · next htake =>
      split
      · exact (State.takeAnnounce_other hd _ _).trans (State.takeRx_other hd htake)
      · exact State.takeRx_other hd htake
  | _ => cases hc

end Sys2Proof.Machine
end

section
/-! Like units are kept apart (O5): cable twins, loops, Lacing chains, Cuff channels, safety inputs, Sleeve heads and image slots. A host
write first: what it does beside the write of its page is quiet for every unit but Thicket and the event links. -/

namespace Sys2Proof.Machine

/-! ### What a host access does beside its page -/

/-- From `s` to `t` only THK_, the event links of the host and the output have changed: not the OCPP client. -/
structure Quiet (s t : State) : Prop where
  moves : Moves [.thk, .hst, .out] s t
  ocpp : t.hst.ocpp = s.hst.ocpp

theorem Quiet.refl (s : State) : Quiet s s := ⟨.refl _ _, rfl⟩

theorem Quiet.trans {s t u : State} (h : Quiet s t) (k : Quiet t u) : Quiet s u := ⟨h.moves.trans k.moves, k.ocpp.trans h.ocpp⟩

theorem esNotify_ocpp (e : Nat) (entry : LogE) (k : Nat) (s : State) : (esNotify e entry k s).hst.ocpp = s.hst.ocpp := by
  unfold esNotify
  repeat' split
  all_goals rfl

theorem State.raiseAt_ocpp (e : Ev) (i : Nat) (s : State) : (s.raiseAt e i).hst.ocpp = s.hst.ocpp := by
  unfold State.raiseAt
  split
  · rfl
  · exact (esNotify_ocpp ..).trans (esNotify_ocpp ..)

theorem State.raiseAt_quiet (e : Ev) (i : Nat) (s : State) : Quiet s (s.raiseAt e i) := ⟨State.raiseAt_moves .., State.raiseAt_ocpp ..⟩

theorem State.raise_quiet (e : Ev) (s : State) : Quiet s (s.raise e) := State.raiseAt_quiet ..

theorem State.raises_quiet (es : List Ev) (s : State) : Quiet s (s.raises es) :=
  List.foldlRecOn (motive := Quiet s) es _ (.refl s) (fun t h e _ => h.trans (t.raise_quiet e))

theorem State.raisesAt_quiet (es : List (Ev × Nat)) (s : State) : Quiet s (s.raisesAt es) :=
  List.foldlRecOn (motive := Quiet s) es _ (.refl s) (fun t h e _ => h.trans (t.raiseAt_quiet e.1 e.2))

theorem State.emit_quiet (o : Out) (s : State) : Quiet s (s.emit o) := ⟨(State.emit_moves ..).weaken (by decide), rfl⟩

theorem State.judged_ocpp (st : Status) (a : Nat) (s : State) : (s.judged st a).hst.ocpp = s.hst.ocpp := by
  unfold State.judged
  dsimp only
  split
  · exact State.raiseAt_ocpp ..
  · rfl

theorem State.judged_quiet (st : Status) (a : Nat) (s : State) : Quiet s (s.judged st a) := ⟨State.judged_moves .., State.judged_ocpp ..⟩

theorem State.finish_quiet (a : Nat) (r : Status × State) : Quiet r.2 (State.finish a r) :=
  (State.judged_quiet r.1 a r.2).trans (State.emit_quiet _ _)

theorem stored_quiet (a : Nat) (r : Status × State) : Quiet r.2 (stored a r).2 where
  moves := stored_moves (by decide) a r (.refl _ _)
  ocpp := by unfold stored; split <;> rfl

theorem State.waits_quiet (a : Nat) (ws : List Nat) (pad : Nat) (spi : Option (List Byte)) (s : State) :
    Quiet s (s.waits a ws pad spi) where
  moves := State.waits_moves ..
  ocpp := by
    unfold State.waits
    split
    · rfl
    · exact State.judged_ocpp ..

/-- A host command does its function or not; what it does besides is quiet. -/
theorem State.hostCommand_cases (a : Nat) (f : State → Status × State) (s : State) :
    Quiet s (s.hostCommand a f) ∨ Quiet (f s).2 (s.hostCommand a f) := by
  unfold State.hostCommand
  split
  · exact .inl (.refl s)
  · split
    · exact .inl (State.emit_quiet ..)
    · split
      · exact .inl (State.waits_quiet ..)
      · split
        · exact .inl (State.finish_quiet a (.notPresent, s))
        · exact .inr ((stored_quiet a (f s)).trans (State.finish_quiet ..))

theorem State.writeAt_cases {a w o : Nat} {g : Page} {s : State} (ha : pageOf a = some (g, o)) :
    Quiet s (s.writeAt a w).2 ∨ ∃ y, pageWrite g o w s = some y ∧ Quiet y.2 (s.writeAt a w).2 := by
  unfold State.writeAt
  split
  · exact .inl (.refl s)
  · next g' o' hpage =>
    have hg : some (g', o') = some (g, o) := by
      split at hpage
      · exact hpage.symm.trans ha
      · cases hpage
    obtain ⟨rfl, rfl⟩ := Prod.mk.inj (Option.some.inj hg)
    split
    · exact .inl (.refl s)
    · split
      · exact .inl (.refl s)
      · next y hy => exact .inr ⟨y, hy, stored_quiet a y⟩

/-- A host write does the write of its page or not; what it does besides is quiet. -/
theorem State.hostWrite_cases {a w o : Nat} {g : Page} {s : State} (ha : pageOf a = some (g, o)) :
    Quiet s (s.hostWrite a w) ∨ ∃ y, pageWrite g o w s = some y ∧ Quiet y.2 (s.hostWrite a w) := by
  unfold State.hostWrite
  split
  · exact .inl (State.finish_quiet a (.notInState, s))
  · rcases State.hostCommand_cases a (fun s => s.writeAt a w) s with h | h
    · exact .inl h
    · rcases State.writeAt_cases (w := w) ha with k | ⟨y, hy, k⟩
      · exact .inl (k.trans h)
      · exact .inr ⟨y, hy, k.trans h⟩

/-- What the write of a page keeps, the host write keeps, where it is no matter of Thicket, host or output. -/
theorem State.hostWrite_keeps {β : Type} {view : State → β} {a w o : Nat} {g : Page} {s : State} (ha : pageOf a = some (g, o))
    (hview : ∀ t u, Quiet t u → view u = view t) (hw : ∀ y, pageWrite g o w s = some y → view y.2 = view s) :
    view (s.hostWrite a w) = view s := by
  rcases State.hostWrite_cases (w := w) (s := s) ha with h | ⟨y, hy, h⟩
  · exact hview _ _ h
  · exact (hview _ _ h).trans (hw y hy)

/-! ### Cable twins -/

section
variable {p q : Fin 12} (hq : q ≠ p)
include hq

theorem State.twinMod_other (f : Twin → Twin) (s : State) : (s.twinMod p f).twins[q] = s.twins[q] := upd_other _ _ _ _ hq

theorem State.twinPut_other (w : Twin) (s : State) : (s.twinPut p w).twins[q] = s.twins[q] := by
  have hcpc (r : Coppice × Bool) (t : State) : (t.cpcPut r).twins = t.twins := (State.cpcPut_moves r t).frame.get .twins (by decide)
  unfold State.twinPut
  dsimp only
  split
  · exact (congrArg (fun v : Vector Twin 12 => v[q]) (hcpc _ _)).trans (State.twinMod_other hq _ _)
  · exact State.twinMod_other hq _ _

theorem State.measureTemp_other (k : Nat) (ohm : Nat) (t : Int) (s : State) : (s.measureTemp p k ohm t).twins[q] = s.twins[q] := by
  unfold State.measureTemp
  simp only [apply_ite (fun t : State => t.twins[q]), State.raiseAt_twins, State.twinPut_other hq, ite_self]

theorem State.flowPulse_other (s : State) : (s.flowPulse p).twins[q] = s.twins[q] := by
  unfold State.flowPulse
  dsimp only
  split <;> simp only [State.raiseAt_twins, State.twinPut_other hq]

theorem State.evalTwin_other (s : State) : (s.evalTwin p).twins[q] = s.twins[q] := by
  unfold State.evalTwin
  split
  · rfl
  · dsimp only
    exact (foldl_keeps (view := fun t : State => t.twins[q]) _ _ (fun t e _ => by simp only [State.raiseAt_twins])).trans
      (State.twinPut_other hq _ _)

theorem State.quietTwin_other (s : State) : (s.quietTwin p).twins[q] = s.twins[q] := by
  unfold State.quietTwin
  split
  · rfl
  · exact State.twinMod_other hq _ _

end

/-- A command for the twin of a port leaves the other twins as they are. -/
theorem twin_othersStay (c : Instr) {p : Fin 12} (hc : c.which = .twin p) {s t : State} (he : exec c s = .next t) :
    (Which.twin p).othersStay s t := by
  intro q hq
  cases c with
  | tempMeasurement => cases hc; cases he; exact State.onlyIf_keeps (view := fun t => t.twins[q]) _ _ (State.measureTemp_other hq _ _ _ _)
  | flowPulseEdge => cases hc; cases he; exact State.onlyIf_keeps (view := fun t => t.twins[q]) _ _ (State.flowPulse_other hq _)
  | flowTimeout | flowFaultClear =>
    cases hc; cases he; exact State.onlyIf_keeps (view := fun t => t.twins[q]) _ _ (State.twinMod_other hq _ _)
  | thermalEvaluation => cases hc; cases he; exact State.onlyIf_keeps (view := fun t => t.twins[q]) _ _ (State.evalTwin_other hq _)
  | fastModeExit => cases hc; cases he; exact State.onlyIf_keeps (view := fun t => t.twins[q]) _ _ (State.quietTwin_other hq _)
  | _ => cases hc

/-! ### Loops -/

section
variable {n k : Fin 64} (hk : k ≠ n)
include hk

theorem Coppice.setLoop_other (f : Loop → Loop) (c : Coppice) : (c.setLoop n f).loops[k] = c.loops[k] :=
  updN_other _ _ (fun e => hk (Fin.ext e))

theorem loopCoeff_other (x : LoopCoeff) (v : Nat) (c : Coppice) : (loopCoeff n x v c).1.loops[k] = c.loops[k] := by
  unfold loopCoeff
  dsimp only
  repeat' split
  all_goals simp only [Coppice.setLoop_other hk]

theorem loopMan_other (v : Nat) (c : Coppice) : (loopMan n v c).1.loops[k] = c.loops[k] := by
  unfold loopMan
  repeat' split
  all_goals simp only [Coppice.setLoop_other hk]

theorem loopPvh_other (v : Nat) (c : Coppice) : (loopPvh n v c).1.loops[k] = c.loops[k] := by
  unfold loopPvh
  repeat' split
  all_goals simp only [Coppice.setLoop_other hk]

end

/-- A write to the CPC_ register of a loop is the loop's own. -/
theorem pageWrite_loop (n : Fin 64) {o : Nat} (ho : o < 0x40) (w : Nat) (s : State) :
    pageWrite .cpc (0x1000 + 0x40 * n.val + o) w s = cpcLoopWrite n o w s := by
  have hn := n.isLt
  have hslot : slotOf (0x1000 + 0x40 * n.val + o) 0x1000 0x40 64 = some (n.val, o) := by
    unfold slotOf
    rw [if_pos (by omega), show (0x1000 + 0x40 * n.val + o - 0x1000) / 0x40 = n.val by omega,
      show (0x1000 + 0x40 * n.val + o - 0x1000) % 0x40 = o by omega]
  change cpcWrite _ w s = _
  unfold cpcWrite
  rw [hslot]

theorem hostWrite_loop_other {n k : Fin 64} {o w : Nat} {s : State} (ho : o < 0x40)
    (h : ∀ y, cpcLoopWrite n o w s = some y → y.2.cpc.loops[k] = s.cpc.loops[k]) :
    (s.hostWrite (loopAddr n o) w).cpc.loops[k] = s.cpc.loops[k] := by
  refine State.hostWrite_keeps (view := fun t => t.cpc.loops[k]) (pageOf_loopAddr n ho) (fun t u hu => ?_) (fun y hy => ?_)
  · exact congrArg (fun c : Coppice => c.loops[k]) (hu.moves.frame.get .cpc (by decide))
  · exact h y ((pageWrite_loop n ho w s).symm.trans hy)

/-- A command for a loop leaves the other loops as they are. -/
theorem loop_othersStay (c : Instr) {n : Fin 64} (hc : c.which = .loop n) {s t : State} (he : exec c s = .next t) :
    (Which.loop n).othersStay s t := by
  intro k hk
  cases c with
  | loopCoeffWrite m x w =>
    cases hc; cases he
    refine hostWrite_loop_other x.offset_lt (fun y hy => ?_)
    cases x <;> · cases hy; exact loopCoeff_other hk _ _ _
  | loopManWrite => cases hc; cases he; exact hostWrite_loop_other (by decide) (fun y hy => by cases hy; exact loopMan_other hk _ _)
  | loopPvhWrite => cases hc; cases he; exact hostWrite_loop_other (by decide) (fun y hy => by cases hy; exact loopPvh_other hk _ _)
  | _ => cases hc

/-! ### Lacing chains -/

theorem State.lacDo_othersStay (c : Fin 4) (f : LX → LX) (s : State) : (Which.chain c).othersStay s (s.lacDo c f) := by
  cases hr : s.cfg.lacChain.find? (fun r => r.chain == c.val) with
  | none =>
    have hsame : s.lacDo c f = s := by unfold State.lacDo; rw [hr]
    rw [hsame]
    exact ⟨rfl, rfl, rfl, fun _ _ => rfl⟩
  | some r =>
    unfold Which.othersStay
    rw [State.lacDo_lac c f s r hr]
    exact ⟨rfl, rfl, rfl, fun d hd => upd_other _ _ _ _ hd⟩

theorem State.onLacing_othersStay (c : Fin 4) (f : LX → LX) (s : State) : (Which.chain c).othersStay s (s.onLacing c f) := by
  unfold State.onLacing State.onlyIf
  split
  · exact State.lacDo_othersStay ..
  · exact ⟨rfl, rfl, rfl, fun _ _ => rfl⟩

/-- A command for a chain leaves the other chains and what they share as they are. -/
theorem chain_othersStay (c : Instr) {k : Fin 4} (hc : c.which = .chain k) {s t : State} (he : exec c s = .next t) :
    (Which.chain k).othersStay s t := by
  cases c with
  | wakeDone | enumeration | lacingFaultRetry | lacingResponse | lacingResponseTimeout | lacingNodeLost | owtRead | owTestLate =>
    cases hc; cases he; exact State.onLacing_othersStay ..
  | _ => cases hc

/-! ### Cuff channels -/

/-- From `c` to `d` Cuff has changed in channel `n` at most. -/
def Cuff.Only (n : Fin 16) (c d : Cuff) : Prop :=
  d.freq = c.freq ∧ d.total = c.total ∧ d.tshed = c.tshed ∧ ∀ k : Fin 16, k ≠ n → d.ch[k] = c.ch[k]

theorem Cuff.Only.refl (n : Fin 16) (c : Cuff) : c.Only n c := ⟨rfl, rfl, rfl, fun _ _ => rfl⟩

theorem Cuff.set_only (n : Fin 16) (f : CufCh → CufCh) (c : Cuff) : c.Only n (c.set n f) :=
  ⟨rfl, rfl, rfl, fun _ hk => c.set_other f hk⟩

theorem cuffRetry_only (now : Nat) (n : Fin 16) (c : Cuff) : c.Only n (cuffRetry now n c) := by
  unfold cuffRetry
  dsimp only
  split
  · split
    · exact Cuff.set_only ..
    · exact .refl ..
  · exact .refl ..

theorem cuffClamp_only (now : Nat) (n : Fin 16) (e : Nat) (c : Cuff) : c.Only n (cuffClamp now n e c).1 := Cuff.set_only ..

theorem cuffWrite_only (n : Fin 16) (w : Nat) (c : Cuff) : c.Only n (cuffWrite n w c).2 := by
  unfold cuffWrite
  dsimp only
  split
  · exact .refl ..
  · split <;>
    · split
      · exact .refl ..
      · exact Cuff.set_only ..

theorem State.clampEnd_only (n : Fin 16) (e : Nat) (s : State) : s.cuf.Only n (s.clampEnd n e).cuf := by
  have h := cuffClamp_only s.mono n e s.cuf
  unfold State.clampEnd
  dsimp only
  split
  · rw [State.raiseAt_cuf]
    exact h
  · exact h

/-- A write to the CUF_ control register of a channel is the channel's own. -/
theorem pageWrite_cufCh {n : Fin 16} {w : Nat} {s : State} {y : Status × State}
    (h : pageWrite .cuf (0x100 + 0x10 * n.val) w s = some y) : s.cuf.Only n y.2.cuf := by
  have hn := n.isLt
  have hslot : slotOf (0x100 + 0x10 * n.val) 0x100 0x10 16 = some (n.val, 0) := by
    unfold slotOf
    rw [if_pos (by omega), show (0x100 + 0x10 * n.val - 0x100) / 0x10 = n.val by omega,
      show (0x100 + 0x10 * n.val - 0x100) % 0x10 = 0 by omega]
  replace h : cufWrite (0x100 + 0x10 * n.val) w s = some y := h
  unfold cufWrite cufChWrite at h
  rw [hslot] at h
  dsimp only at h
  rw [if_pos rfl] at h
  split at h
  · cases h; exact .refl ..
  · split at h
    · cases h; exact .refl ..
    · cases h; exact cuffWrite_only ..

theorem hostWrite_cufCh_only (n : Fin 16) (w : Nat) (s : State) : s.cuf.Only n (s.hostWrite (0x9100 + 0x10 * n.val) w).cuf := by
  rcases State.hostWrite_cases (w := w) (s := s) (pageOf_cufCh n) with h | ⟨y, hy, h⟩
  · have hcuf : (s.hostWrite (0x9100 + 0x10 * n.val) w).cuf = s.cuf := h.moves.frame.get .cuf (by decide)
    rw [hcuf]
    exact .refl ..
  · have hcuf : (s.hostWrite (0x9100 + 0x10 * n.val) w).cuf = y.2.cuf := h.moves.frame.get .cuf (by decide)
    rw [hcuf]
    exact pageWrite_cufCh hy

/-- A command for a channel leaves the other channels and what they share as they are. -/
theorem channel_othersStay (c : Instr) {n : Fin 16} (hc : c.which = .channel n) {s t : State} (he : exec c s = .next t) :
    (Which.channel n).othersStay s t := by
  change s.cuf.Only n t.cuf
  cases c with
  | cuffRetry => cases hc; cases he; exact cuffRetry_only ..
  | clampEventEnd => cases hc; cases he; exact State.clampEnd_only ..
  | cufChannelWrite => cases hc; cases he; exact hostWrite_cufCh_only ..
  | cuffForce =>
    cases hc; cases he
    unfold State.onlyIf
    split
    · exact Cuff.set_only ..
    · exact .refl ..
  | _ => cases hc

/-! ### Safety inputs -/

section
variable {n k : Fin 16} (hk : k ≠ n)
include hk

theorem GCtx.setIn_other (f : SafIn → SafIn) (c : GCtx) : (c.setIn n f).g.ins[k] = c.g.ins[k] :=
  updN_other _ _ (fun e => hk (Fin.ext e))

omit hk in
theorem hardTrip_ins (x : Cause) (c : GCtx) : (hardTrip x c).g.ins = c.g.ins := by
  unfold hardTrip
  split <;> rfl

omit hk in
theorem respond_ins (n : Nat) (r : GtrInput) (c : GCtx) : (respond n r c).g.ins = c.g.ins := by
  unfold respond
  split
  · rfl
  · exact hardTrip_ins ..
  · rfl
  · exact List.foldlRecOn (motive := fun d : GCtx => d.g.ins = c.g.ins) _ _ rfl (fun _ h _ _ => h)

theorem becomeOpen_other (r : GtrInput) (c : GCtx) : (becomeOpen n r c).g.ins[k] = c.g.ins[k] := by
  unfold becomeOpen
  split
  · exact (congrArg (fun v : Vector SafIn 16 => v[k]) (respond_ins ..)).trans (GCtx.setIn_other hk _ _)
  · rfl

theorem inputFault_other (r : GtrInput) (c : GCtx) : (inputFault n r c).g.ins[k] = c.g.ins[k] := by
  unfold inputFault
  split
  · rfl
  · exact (becomeOpen_other hk _ _).trans (GCtx.setIn_other hk _ _)

theorem contactOpened_other (r : GtrInput) (c : GCtx) : (contactOpened n r c).g.ins[k] = c.g.ins[k] := by
  unfold contactOpened
  split
  · exact (congrArg (fun v : Vector SafIn 16 => v[k]) (hardTrip_ins ..)).trans (GCtx.setIn_other hk _ _)
  · exact becomeOpen_other hk _ _

theorem judgeInput_other (isB : Bool) (r : GtrInput) (c : GCtx) : (judgeInput n isB r c).g.ins[k] = c.g.ins[k] := by
  have hlate : (if waitLate r (c.inp n) c.now false then inputFault n r c else c).g.ins[k] = c.g.ins[k] := by
    split
    · exact inputFault_other hk _ _
    · rfl
  unfold judgeInput
  simp only [apply_ite (fun d : GCtx => d.g.ins[k]), contactOpened_other hk, GCtx.setIn_other hk, ite_self]
  simpa only [apply_ite (fun d : GCtx => d.g.ins[k])] using hlate

theorem judgeChange_other (isB : Bool) (x : SafIn) (c : GCtx) : (judgeChange n isB x c).g.ins[k] = c.g.ins[k] := by
  unfold judgeChange
  split
  · rfl
  · split
    · exact judgeInput_other hk _ _ _
    · rfl

theorem contactChange_other (isB level : Bool) (c : GCtx) : (contactChange n isB level c).g.ins[k] = c.g.ins[k] := by
  unfold contactChange
  simp only [apply_ite (fun d : GCtx => d.g.ins[k]), judgeChange_other hk, GCtx.setIn_other hk, ite_self]

theorem debounceDone_other (c : GCtx) : (debounceDone n c).g.ins[k] = c.g.ins[k] := by
  unfold debounceDone
  split
  · rfl
  · split
    · exact GCtx.setIn_other hk _ _
    · rfl

theorem discrepancy_other (c : GCtx) : (discrepancy n c).g.ins[k] = c.g.ins[k] := by
  unfold discrepancy
  split
  · rfl
  · split
    · exact inputFault_other hk _ _
    · rfl

omit hk in
theorem State.onGaiter_ins (f : GCtx → GCtx) (s : State) (h : (f s.gctx).g.ins[k] = s.gtr.ins[k]) :
    (s.onGaiter f).gtr.ins[k] = s.gtr.ins[k] := by
  refine State.onlyIf_keeps (view := fun t : State => t.gtr.ins[k]) _ _ ?_
  rw [State.gtrDo_gtr]
  exact h

end

/-- A command for a safety input leaves the other inputs as they are. -/
theorem input_othersStay (c : Instr) {n : Fin 16} (hc : c.which = .input n) {s t : State} (he : exec c s = .next t) :
    (Which.input n).othersStay s t := by
  intro k hk
  cases c with
  | safetyContactChange => cases hc; cases he; exact State.onGaiter_ins _ _ (contactChange_other hk _ _ _)
  | inputDebounceDone => cases hc; cases he; exact State.onGaiter_ins _ _ (debounceDone_other hk _)
  | inputDiscrepancy => cases hc; cases he; exact State.onGaiter_ins _ _ (discrepancy_other hk _)
  | _ => cases hc

/-! ### Sleeve heads -/

section
variable {p q : Fin 12} (hq : q ≠ p)
include hq

omit hq in
theorem setNotice_head (p : Nat) (s : Sleeve) : (setNotice p s).head = s.head := by
  unfold setNotice
  dsimp only
  split <;> rfl

omit hq in
theorem openGate_head (p : Nat) (s : Sleeve) : (openGate p s).head = s.head := by
  unfold openGate
  dsimp only
  split <;> rfl

omit hq in
theorem creditCheck_head (p : Nat) (verified low : Bool) (blk : Rat) (s : Sleeve) : (creditCheck p verified low blk s).head = s.head := by
  unfold creditCheck
  dsimp only
  repeat' split
  all_goals simp only [openGate_head, setNotice_head]

omit hq in
theorem formRecord_head (p : Nat) (x : Sess) (en : SessEnergy) (a b : Nat) (s : Sleeve) : (formRecord p x en a b s).head = s.head := rfl

omit hq in
theorem latchStop_head (p : Nat) (s : Sleeve) : (latchStop p s).head = s.head := by
  unfold latchStop
  dsimp only
  split
  · rfl
  · exact List.foldlRecOn (motive := fun t : Sleeve => t.head = s.head) _ _ rfl (fun _ h _ _ => h)

omit hq in
theorem commitBlock_head (p : Nat) (e : Energy) (s : Sleeve) : (commitBlock p e s).head = s.head := rfl

theorem head_updN_other (f : Head → Head) (s : Sleeve) : (updN s.head p f)[q] = s.head[q] := updN_other _ _ (fun e => hq (Fin.ext e))

omit hq in
theorem sessGap_head (p n : Nat) (s : Sleeve) : (sessGap p n s).head = s.head := by
  unfold sessGap
  dsimp only
  split <;> rfl

theorem gapBlock_other (s : Sleeve) : (gapBlock p s).head[q] = s.head[q] := by
  unfold gapBlock
  simp only [sessGap_head, head_updN_other hq]

omit hq in
/-- The end of a block changes in the heads the one of its port. -/
theorem closeBlock_head (p : Nat) (verified : Bool) (block : Nat) (x : SX) :
    ∃ f, (closeBlock p verified block x).s.head = updN x.s.head p f := by
  unfold closeBlock SX.mod
  dsimp only
  cases verified
  · refine ⟨fun h => { h with gaps := satInc 8 h.gaps, okRun := 0 }, ?_⟩
    simp only [Bool.false_and, Bool.false_eq_true, if_false]
    repeat' split
    all_goals simp only [creditCheck_head, latchStart, latchStop_head, gapBlock, sessGap_head]
  · refine ⟨fun h => { h with
      lastBlock := some block, lastVer := x.s.mc, okRun := h.okRun + 1, ovr := if h.blkOvr then satInc 8 h.ovr else h.ovr,
      st := if h.st = .error ∧ 16 ≤ h.okRun + 1 then .ok else h.st }, ?_⟩
    simp only [Bool.true_and, if_true]
    repeat' split
    all_goals simp only [creditCheck_head, latchStart, latchStop_head, commitBlock]

theorem closeBlock_other (verified : Bool) (block : Nat) (x : SX) : (closeBlock p verified block x).s.head[q] = x.s.head[q] := by
  obtain ⟨f, hf⟩ := closeBlock_head p verified block x
  exact (congrArg (fun v : Vector Head 12 => v[q]) hf).trans (head_updN_other hq f x.s)

theorem blockEnd_other (verified : Bool) (block : Nat) (x : SX) : (blockEnd p verified block x).s.head[q] = x.s.head[q] :=
  (head_updN_other hq _ _).trans (closeBlock_other hq _ _ _)

theorem headError_other (x : SX) : (headError p x).s.head[q] = x.s.head[q] := by
  have hset (f : Head → Head) : (updN x.s.head p f)[q] = x.s.head[q] := head_updN_other hq _ _
  unfold headError
  split
  · dsimp only
    repeat' split
    all_goals simp only [SX.mod, SX.raise, setNotice_head, hset]
  · rfl

theorem headSample_other (bs : List Byte) (x : SX) : (headSample p bs x).s.head[q] = x.s.head[q] := by
  have hend (c : Bool) : (if c then blockEnd p false 0 x else x).s.head[q] = x.s.head[q] := by
    cases c
    · rfl
    · exact blockEnd_other hq _ _ _
  unfold headSample
  split
  · rfl
  · split
    · rfl
    · simp only [apply_ite (fun y : SX => y.s.head[q]), headError_other hq, SX.mod, head_updN_other hq, blockEnd_other hq, ite_self]

theorem headAuth_other (bs : List Byte) (x : SX) : (headAuth p bs x).s.head[q] = x.s.head[q] := by
  unfold headAuth
  split
  · rfl
  · split
    · rfl
    · simp only [apply_ite (fun y : SX => y.s.head[q]), headError_other hq, SX.mod, head_updN_other hq, blockEnd_other hq, ite_self]

theorem headTimeout_other (x : SX) : (headTimeout p x).s.head[q] = x.s.head[q] := by
  unfold headTimeout
  dsimp only
  split
  · exact headError_other hq _
  · rfl

theorem headPair_other (d : HeadData) (key : Nat) (x : SX) : (headPair p d key x).s.head[q] = x.s.head[q] := by
  unfold headPair
  split
  · rfl
  · dsimp only
    split
    · exact head_updN_other hq _ _
    · exact (headError_other hq _).trans (head_updN_other hq _ _)

omit hq in
theorem State.onSleeve_head (f : SX → SX) (s : State) (h : ∀ x : SX, (f x).s.head[q] = x.s.head[q]) :
    (s.onSleeve f).slv.head[q] = s.slv.head[q] := by
  refine State.onlyIf_keeps (view := fun t : State => t.slv.head[q]) _ _ ?_
  rw [State.slvDo_slv]
  exact h _

theorem State.pairHead_other (d : HeadData) (s : State) : (s.pairHead p d).slv.head[q] = s.slv.head[q] := by
  unfold State.pairHead
  dsimp only
  rw [State.emit_slv, State.slvDo_slv]
  exact headPair_other hq _ _ _

end

/-- A command for a head leaves the other heads as they are. -/
theorem head_othersStay (c : Instr) {p : Fin 12} (hc : c.which = .head p) {s t : State} (he : exec c s = .next t) :
    (Which.head p).othersStay s t := by
  intro q hq
  have hkeep {f : State → State} (c : Bool) (h : (f s).slv.head[q] = s.slv.head[q]) : (s.onlyIf c f).slv.head[q] = s.slv.head[q] :=
    State.onlyIf_keeps (view := fun t : State => t.slv.head[q]) _ _ h
  cases c with
  | headSampleFrame => cases hc; cases he; exact hkeep _ (State.onSleeve_head _ _ (headSample_other hq _))
  | headAuthFrame => cases hc; cases he; exact hkeep _ (State.onSleeve_head _ _ (headAuth_other hq _))
  | headErrorTimeout => cases hc; cases he; exact hkeep _ (State.onSleeve_head _ _ (headTimeout_other hq))
  | headPairing => cases hc; cases he; exact hkeep _ (State.pairHead_other hq _ _)
  | _ => cases hc

/-! ### Image slots -/

section
variable {k j : Fin 2} (hj : j ≠ k)
include hj

theorem flash_set_other (v : Vector Store 2) (x : Store) : (v.set k x)[j] = v[j] := by
  rw [vec_get_set, if_neg hj]

theorem imgErase_other (l : Loader) : (imgErase k l).2.flash[j] = l.flash[j] := by
  unfold imgErase
  split
  · rfl
  · exact flash_set_other hj _ _

theorem imgProg_other (verify : Bool) (free : List Byte) (l : Loader) : (imgProg k verify free l).2.flash[j] = l.flash[j] := by
  unfold imgProg
  dsimp only
  repeat' split
  all_goals first | rfl | exact flash_set_other hj _ _

theorem imgSelect_other (verify : Bool) (free : List Byte) (l : Loader) : (imgSelect k verify free l).2.flash[j] = l.flash[j] := by
  unfold imgSelect
  dsimp only
  repeat' split
  all_goals first | rfl | exact flash_set_other hj _ _

omit hj in
theorem State.hostCommand_flash {a : Nat} {f : State → Status × State} {s : State} (h : (f s).2.img.flash[j] = s.img.flash[j]) :
    (s.hostCommand a f).img.flash[j] = s.img.flash[j] := by
  have himg {t u : State} (hq : Quiet t u) : u.img.flash[j] = t.img.flash[j] :=
    congrArg (fun l : Loader => l.flash[j]) (hq.moves.frame.get .img (by decide))
  rcases State.hostCommand_cases a f s with hq | hq
  · exact himg hq
  · exact (himg hq).trans h

end

/-- A command for an image slot leaves the other slot as it is. -/
theorem slot_othersStay (c : Instr) {k : Fin 2} (hc : c.which = .slot k) {s t : State} (he : exec c s = .next t) :
    (Which.slot k).othersStay s t := by
  intro j hj
  cases c with
  | imageErase => cases hc; cases he; exact State.hostCommand_flash (imgErase_other hj _)
  | imageProg => cases hc; cases he; exact State.hostCommand_flash (imgProg_other hj _ _ _)
  | imageSelect => cases hc; cases he; exact State.hostCommand_flash (imgSelect_other hj _ _ _)
  | _ => cases hc

end Sys2Proof.Machine
end

section
/-! Like units are kept apart (O5): vehicle ports. A port is its stack, its transport, Canopy's entry for it and its transaction. -/

namespace Sys2Proof.Machine

/-- All that belongs to port `q`: its stack, its transport, Canopy's entry for it, its transaction. -/
def State.portView (q : Fin 12) (s : State) : Port × V2gLink × CnpPortSt × Option OcppTx :=
  (s.ports[q], s.v2g[q], s.cnp.ports[q], s.hst.ocpp.tx[q])

theorem State.portView_congr {q : Fin 12} {s t : State} (hports : t.ports[q] = s.ports[q]) (hv2g : t.v2g[q] = s.v2g[q])
    (hcnp : t.cnp.ports[q] = s.cnp.ports[q]) (htx : t.hst.ocpp.tx[q] = s.hst.ocpp.tx[q]) : t.portView q = s.portView q := by
  unfold State.portView
  rw [hports, hv2g, hcnp, htx]

/-- What is quiet is quiet for a port. -/
theorem Quiet.portView {s t : State} (h : Quiet s t) (q : Fin 12) : t.portView q = s.portView q := by
  have hports : t.ports = s.ports := h.moves.frame.get .ports (by decide)
  have hv2g : t.v2g = s.v2g := h.moves.frame.get .v2g (by decide)
  have hcnp : t.cnp = s.cnp := h.moves.frame.get .cnp (by decide)
  unfold State.portView
  rw [hports, hv2g, hcnp, h.ocpp]

/-- A move of other parts than ports, transports, Canopy and host leaves a port as it is. -/
theorem Moves.portView {ps : List Part} {s t : State} (h : Moves ps s t) (hn : .ports ∉ ps ∧ .v2g ∉ ps ∧ .cnp ∉ ps ∧ .hst ∉ ps)
    (q : Fin 12) : t.portView q = s.portView q := by
  obtain ⟨hports, hv2g, hcnp, hhst⟩ := hn
  have h1 : t.ports = s.ports := h.frame.get .ports hports
  have h2 : t.v2g = s.v2g := h.frame.get .v2g hv2g
  have h3 : t.cnp = s.cnp := h.frame.get .cnp hcnp
  have h4 : t.hst = s.hst := h.frame.get .hst hhst
  unfold State.portView
  rw [h1, h2, h3, h4]

/-! ### What concerns no port -/

theorem State.wrongState_portView (e : Option Ev) (q : Fin 12) (s : State) : (s.wrongState e).portView q = s.portView q :=
  (State.raise_quiet _ _).portView q

theorem State.keyMissed_portView (q : Fin 12) (s : State) : s.keyMissed.portView q = s.portView q := State.wrongState_portView _ _ _

theorem State.slvSend_portView (code : Nat) (args : List Byte) (q : Fin 12) (s : State) :
    (s.slvSend code args).portView q = s.portView q := by
  unfold State.slvSend
  split
  · rfl
  · split
    · exact State.keyMissed_portView q s
    · rfl

theorem State.ocppSend_portView (kind : OcppKind) (p tx : Nat) (rc oc : Option (List Byte)) (q : Fin 12) (s : State) :
    (s.ocppSend kind p tx rc oc).portView q = s.portView q := by
  unfold State.ocppSend newMsg
  dsimp only
  split <;> rfl

theorem State.ocppMod_portView {f : Ocpp → Ocpp} {q : Fin 12} {s : State} (h : (f s.hst.ocpp).tx[q] = s.hst.ocpp.tx[q]) :
    (s.ocppMod f).portView q = s.portView q := State.portView_congr rfl rfl rfl h

/-! ### What concerns port `p` -/

section
variable {p q : Fin 12} (hq : q ≠ p)
include hq

theorem State.setPort_other (f : Port → Port) (s : State) : ({ s with ports := upd s.ports p f } : State).portView q = s.portView q :=
  State.portView_congr (upd_other _ _ _ _ hq) rfl rfl rfl

theorem State.linkOf2g_other (f : V2gLink → V2gLink) (s : State) : (s.linkOf2g p f).portView q = s.portView q :=
  State.portView_congr rfl (upd_other _ _ _ _ hq) rfl rfl

theorem State.ocppFollow_other (before : Port) (s : State) : (s.ocppFollow p before).portView q = s.portView q := by
  unfold State.ocppFollow
  split
  · rfl
  · dsimp only
    split
    · rw [State.ocppSend_portView]
      exact State.portView_congr rfl rfl rfl (upd_other _ _ _ _ hq)
    · split
      · rfl
      · split
        · exact State.portView_congr rfl rfl rfl (upd_other _ _ _ _ hq)
        · rfl

theorem State.portEff_other (token : Nat) (e : PEff) (s : State) : (s.portEff p token e).portView q = s.portView q := by
  cases e with
  | ev e => exact (State.raiseAt_quiet ..).portView q
  | answer | close => exact ((State.emit_quiet ..).portView q).trans (State.linkOf2g_other hq _ _)
  | keyMiss => exact State.keyMissed_portView q s
  | rngMiss => exact State.wrongState_portView _ q s
  | sleeveStart => exact State.slvSend_portView _ _ q _
  | sleeveStop => exact State.slvSend_portView _ _ q s
  | askAuth | useHeld | newSess => rfl

theorem State.portRun_other (token : Nat) (f : PCtx → PCtx) (s : State) : (s.portRun p token f).portView q = s.portView q := by
  unfold State.portRun
  dsimp only
  rw [State.ocppFollow_other hq, (State.checkPath_moves ..).portView (by decide)]
  exact (foldl_keeps (view := State.portView q) _ _ (fun t e _ => t.portEff_other hq token e)).trans (s.setPort_other hq _)

theorem State.portDo_portView (token : Nat) (f : PCtx → PCtx) (s : State) : (s.portDo p token f).portView q = s.portView q := by
  unfold State.portDo
  dsimp only
  split <;> simp only [State.portRun_other hq]

theorem State.onPort_other (f : PCtx → PCtx) (s : State) : (s.onPort p f).portView q = s.portView q :=
  State.onlyIf_keeps _ _ (State.portDo_portView hq _ _ _)

theorem State.hear2g_other (m : PortMsg) (s : State) : (s.hear2g p m).portView q = s.portView q := by
  unfold State.hear2g
  split
  · split
    · rfl
    · exact State.portView_congr rfl (upd_other _ _ _ _ hq) rfl rfl
  · exact State.linkOf2g_other hq _ _
  · split
    · exact State.linkOf2g_other hq _ _
    · rfl

theorem State.tidy2g_other (s : State) : (s.tidy2g p).portView q = s.portView q := by
  unfold State.tidy2g
  split
  · exact State.linkOf2g_other hq _ _
  · rfl

theorem State.freshDemand_other (s : State) : (s.freshDemand p).portView q = s.portView q := by
  unfold State.freshDemand
  split
  · exact State.portView_congr rfl rfl (upd_other _ _ _ _ hq) rfl
  · rfl

omit hq in
theorem State.handPort_portView (p q : Fin 12) (s : State) : (s.handPort p).portView q = s.portView q := by
  unfold State.handPort
  split <;> rfl

theorem State.portMsg_other (token : Nat) (m : PortMsg) (s : State) : (s.portMsg p token m).portView q = s.portView q := by
  refine State.onlyIf_keeps _ _ ?_
  dsimp only
  split <;> simp only [State.freshDemand_other hq, State.tidy2g_other hq, State.portDo_portView hq, State.hear2g_other hq]

theorem State.stepPort_other (ts : List PortTrig) (s : State) : (s.stepPort p ts).portView q = s.portView q := by
  unfold State.stepPort
  dsimp only
  have hheard := foldl_keeps (view := State.portView q) (f := fun (t : State) (x : PortTrig) =>
    match x with | .msg m => t.hear2g p m | _ => t) ts s (fun t x _ => by
      cases x with
      | msg m => exact State.hear2g_other hq m t
      | _ => rfl)
  split <;> simp only [State.freshDemand_other hq, State.handPort_portView, State.tidy2g_other hq, State.portDo_portView hq]
  all_goals exact hheard

theorem State.sdp_other (s : State) : (s.sdp p).portView q = s.portView q := by
  unfold State.sdp
  split
  · exact State.portMsg_other hq _ _ _
  · rfl

/-! ### Registers of the port -/

theorem vpEnable_other (b : Bool) (s : State) : (vpEnable p b s).2.portView q = s.portView q := State.portDo_portView hq _ _ _

theorem vpCtrlWrite_other (w : Nat) (s : State) : (vpCtrlWrite p w s).2.portView q = s.portView q := by
  unfold vpCtrlWrite vpStop vpClrLock
  repeat' split
  all_goals simp only [State.portDo_portView hq, vpEnable_other hq]

theorem vpBptWrite_other (w : Nat) (s : State) : (vpBptWrite p w s).2.portView q = s.portView q := by
  unfold vpBptWrite
  dsimp only
  split <;> simp only [State.portDo_portView hq]

omit hq in
theorem State.hostWrite_portView {a w o : Nat} {s : State} (ha : pageOf a = some (.vp p, o))
    (h : ∀ y, vpWrite p o w s = some y → y.2.portView q = s.portView q) : (s.hostWrite a w).portView q = s.portView q :=
  State.hostWrite_keeps ha (fun _ _ hu => hu.portView q) (fun y hy => h y ((dif_pos p.isLt).symm.trans hy))

theorem hostWrite_vpCtrl_other (w : Nat) (s : State) : (s.hostWrite (vpCtrlAddr p) w).portView q = s.portView q :=
  State.hostWrite_portView (pageOf_vpCtrl p) (fun y hy => by cases hy; exact vpCtrlWrite_other hq w s)

theorem hostWrite_vpBpt_other (w : Nat) (s : State) : (s.hostWrite (vpCtrlAddr p + 0x30) w).portView q = s.portView q :=
  State.hostWrite_portView (pageOf_vpBpt p) (fun y hy => by cases hy; exact vpBptWrite_other hq w s)

/-! ### Transactions of the port -/

omit hq in
theorem State.authorize_portView (q : Fin 12) (ok : Bool) (token : Nat) (s : State) :
    (s.ocppMod (Ocpp.cacheToken ok token)).portView q = s.portView q :=
  State.ocppMod_portView (by unfold Ocpp.cacheToken; split <;> rfl)

theorem State.meterValues_other (s : State) : (s.meterValues p).portView q = s.portView q := by
  unfold State.meterValues
  split
  · split
    · rw [State.ocppSend_portView]
      exact State.ocppMod_portView (upd_other _ _ _ _ hq)
    · rfl
  · rfl

theorem State.txClose_other (n : Nat) (s : State) : (s.txClose p n).portView q = s.portView q :=
  State.ocppMod_portView (upd_other _ _ _ _ hq)

theorem State.endTx_other (t : OcppTx) (s : State) : (s.endTx p t).portView q = s.portView q := by
  unfold State.endTx
  split
  · rw [State.txClose_other hq, State.ocppSend_portView]
  · split
    · rw [State.txClose_other hq, State.ocppSend_portView]
    · rfl

theorem State.recordLate_other (t : OcppTx) (s : State) : (s.recordLate p t).portView q = s.portView q := by
  unfold State.recordLate
  split
  · exact (State.ocppMod_portView (upd_other _ _ _ _ hq)).trans (State.ocppSend_portView ..)
  · rfl

end

/-! ### The commands -/

theorem port_portView (c : Instr) {p q : Fin 12} (hq : q ≠ p) (hc : c.which = .port p) {s t : State} (he : exec c s = .next t) :
    t.portView q = s.portView q := by
  cases c with
  | pilotStateAccept | proximityChange | contactorPullInExpiry | contactorDisagree | abruptEndOpen | failedAnswerClose | tLinkExpiry
  | tAuthExpiry | sequenceTimerExpiry | checkTimeout | cableCheckPass | tPcExpiry | powerDeliveryConditionTimeout | shortDeclared
  | shortCheckPathOff | stopRampComplete | faultMinTimeExpiry | creditNotice => cases hc; cases he; exact State.onPort_other hq _ _
  | contactorsAgreeClosed =>
    cases hc; cases he
    exact State.onlyIf_keeps _ _ ((State.handPort_portView ..).trans (State.onPort_other hq _ _))
  | contactorsAgreeOpen => cases hc; cases he; exact State.onlyIf_keeps _ _ (State.onPort_other hq _ _)
  | portStep => cases hc; cases he; exact State.onlyIf_keeps _ _ (State.stepPort_other hq _ _)
  | sdpRequest => cases hc; cases he; exact State.onlyIf_keeps _ _ (State.sdp_other hq _)
  | v2gConnectionOpen | v2gConnectionClosed | tlsHandshakeFail | supportedAppProtocolReq | sessionSetupReq | serviceDiscoveryReq
  | serviceSelectionReq | authorizationReq | cableCheckReq | preChargeReq | powerDeliveryReq | chargeLoopReq | sessionStopReq
  | certificateInstallationReq => cases hc; cases he; exact State.portMsg_other hq _ _ _
  | portEnableWrite | portStop | clrLock => cases hc; cases he; exact hostWrite_vpCtrl_other hq _ _
  | bptTgtWrite => cases hc; cases he; exact hostWrite_vpBpt_other hq _ _
  | changeAvailability =>
    cases hc; cases he
    exact State.onlyIf_keeps _ _ (((State.emit_quiet ..).portView q).trans (vpEnable_other hq _ _))
  | authorizeResponse =>
    cases hc; cases he
    exact State.onlyIf_keeps _ _ ((State.portDo_portView hq _ _ _).trans (State.authorize_portView q _ _ _))
  | requestStartTransaction =>
    cases hc; cases he
    exact State.onlyIf_keeps _ _ (((State.emit_quiet ..).portView q).trans (State.ocppMod_portView rfl))
  | meterValuesSend => cases hc; cases he; exact State.onlyIf_keeps _ _ (State.meterValues_other hq _)
  | transactionEnded =>
    cases hc; cases he
    refine State.onlyIf_keeps _ _ ?_
    exact foldl_keeps (view := State.portView q) (f := fun s t => s.endTx p t) _ _ (fun t x _ => t.endTx_other hq x)
  | recordWaitTimeout =>
    cases hc; cases he
    refine State.onlyIf_keeps _ _ ?_
    exact foldl_keeps (view := State.portView q) (f := fun s t => s.recordLate p t) _ _ (fun t x _ => t.recordLate_other hq x)
  | _ => cases hc

/-- A command for a port leaves the other ports as they are. -/
theorem port_othersStay (c : Instr) {p : Fin 12} (hc : c.which = .port p) {s t : State} (he : exec c s = .next t) :
    (Which.port p).othersStay s t := by
  intro q hq
  obtain ⟨hports, hrest⟩ := Prod.mk.inj (port_portView c hq hc he)
  obtain ⟨hv2g, hrest⟩ := Prod.mk.inj hrest
  obtain ⟨hcnp, htx⟩ := Prod.mk.inj hrest
  exact ⟨hports, hv2g, hcnp, htx⟩

/-- Settles O5: by the kind of the unit that the command is for. -/
theorem likeUnitsKeptApart : Obligations.LikeUnitsKeptApart := by
  unfold Obligations.LikeUnitsKeptApart
  intro c s t he
  cases hc : c.which with
  | port => exact port_othersStay c hc he
  | twin => exact twin_othersStay c hc he
  | loop => exact loop_othersStay c hc he
  | chain => exact chain_othersStay c hc he
  | channel => exact channel_othersStay c hc he
  | input => exact input_othersStay c hc he
  | head => exact head_othersStay c hc he
  | bus => exact bus_othersStay c hc he
  | slot => exact slot_othersStay c hc he
  | none => trivial

end Sys2Proof.Machine
end

section
/-! ## The host's writes of Canopy's registers (O14: `CanopyHostWrites`) -/

namespace Sys2Proof.Machine

/-! ### A host write that is done, and one that is refused -/

/-- A write that its page carries out leaves the state that the page gives, save THK_ and the answer. -/
theorem State.hostWrite_done (a w : Nat) (g : Page) (o : Nat) (s t : State) (h : s.HostReady a) (ha : a % 4 = 0)
    (hp : pageOf a = some (g, o)) (hw : pageWrite g o w s = some (.ok, t)) :
    ∃ k, (.next (s.hostWrite a w) : Host.Outcome State Fault Refusal) = .next { t with thk := k, out := t.out ++ [.done .ok []] } := by
  obtain ⟨k, hk⟩ := State.hostWrite_ok a w g o s t h ha hp hw
  exact ⟨k, congrArg Host.Outcome.next hk⟩

theorem State.answered_append (st : Status) (ws : List Nat) (s t : State) (k : Thicket) :
    State.answered st ws { t with thk := k, out := s.out ++ [.done st ws] } := List.getLast?_concat

/-- A write that its page refuses leaves the access as a detected error and the answer with the code (R451, R458). -/
theorem State.hostWrite_refusal (a w : Nat) (g : Page) (o : Nat) (s : State) (st : Status) (h : s.HostReady a) (ha : a % 4 = 0)
    (hp : pageOf a = some (g, o)) (hs : st ≠ .ok) (hw : pageWrite g o w s = some (st, s)) :
    (.next (s.hostWrite a w) : Host.Outcome State Fault Refusal) = .next ((s.judged st a).emit (.done st [])) :=
  congrArg Host.Outcome.next (State.hostWrite_refused a w g o s st h ha hp hs hw)

/-! ### CNP_CTRL -/

theorem bitOf_putB (i : Nat) (b : Bool) : bitOf i (putB i b) = b := by
  cases b
  · simp [bitOf, putB, put]
  · simp [bitOf, putB, put, Nat.shiftLeft_shiftRight]

theorem bitOf_freezeWord (b : Bool) : bitOf 0 (putB 0 b) = b ∧ bitOf 8 (putB 0 b) = false := by
  cases b <;> exact ⟨rfl, rfl⟩

theorem bitOf_clrMaxWord (b : Bool) : bitOf 0 (putB 0 b + putB 8 true) = b ∧ bitOf 8 (putB 0 b + putB 8 true) = true := by
  cases b <;> exact ⟨rfl, rfl⟩

theorem pageOf_cnpCtrl : pageOf 0x8000 = some (.cnp, 0) := by decide

/-- FREEZE is taken where it is as before or after a diagnostic boot. -/
theorem cnpCtrlWrite_of_allowed (w : Nat) (s : State) (h : bitOf 0 w = s.cnp.freeze ∨ bitOf 3 s.img.strap = true) :
    cnpCtrlWrite w s =
      (.ok, { s with cnp := { s.cnp with freeze := bitOf 0 w, timeMax := if bitOf 8 w then 0 else s.cnp.timeMax } }) := by
  unfold cnpCtrlWrite
  rcases h with h | h <;> simp [h]

theorem cnpCtrlWrite_of_forbidden (w : Nat) (s : State) (h : bitOf 0 w ≠ s.cnp.freeze) (hs : bitOf 3 s.img.strap = false) :
    cnpCtrlWrite w s = (.notInState, s) := by
  unfold cnpCtrlWrite
  simp [h, hs]

theorem freezeWrite_done (on : Bool) (s : State) (hr : s.HostReady 0x8000) (h : on = s.cnp.freeze ∨ bitOf 3 s.img.strap = true) :
    ∃ t, exec (.freezeWrite on) s = .next t ∧ t.cnp = { s.cnp with freeze := on } ∧ t.answered .ok [] := by
  obtain ⟨hfreeze, hclear⟩ := bitOf_freezeWord on
  obtain ⟨k, hk⟩ := State.hostWrite_done 0x8000 (putB 0 on) .cnp 0 s _ hr rfl pageOf_cnpCtrl
    (congrArg some (cnpCtrlWrite_of_allowed _ s (by rwa [hfreeze])))
  exact ⟨_, hk, by simp [hfreeze, hclear], State.answered_append ..⟩

theorem freezeWrite_refused (on : Bool) (s : State) (hr : s.HostReady 0x8000) (h : on ≠ s.cnp.freeze)
    (hs : bitOf 3 s.img.strap = false) :
    ∃ t, exec (.freezeWrite on) s = .next t ∧ t.cnp = s.cnp ∧ t.answered .notInState [] :=
  ⟨_, State.hostWrite_refusal 0x8000 (putB 0 on) .cnp 0 s .notInState hr rfl pageOf_cnpCtrl (by decide)
    (congrArg some (cnpCtrlWrite_of_forbidden _ s (by rwa [(bitOf_freezeWord on).1]) hs)),
    State.judged_cnp .., State.answered_emit ..⟩

theorem clrMax_done (s : State) (hr : s.HostReady 0x8000) :
    ∃ t, exec .clrMax s = .next t ∧ t.cnp = { s.cnp with timeMax := 0 } ∧ t.answered .ok [] := by
  obtain ⟨hfreeze, hclear⟩ := bitOf_clrMaxWord s.cnp.freeze
  obtain ⟨k, hk⟩ := State.hostWrite_done 0x8000 (putB 0 s.cnp.freeze + putB 8 true) .cnp 0 s _ hr rfl pageOf_cnpCtrl
    (congrArg some (cnpCtrlWrite_of_allowed _ s (.inl hfreeze)))
  exact ⟨_, hk, by simp [hfreeze, hclear], State.answered_append ..⟩

/-! ### The buffer registers -/

theorem bufSocWrite_done (w : Word) (s : State) (hr : s.HostReady 0x8030) (hb : s.hasBuffer = true) :
    ∃ t, exec (.bufSocWrite w) s = .next t ∧ t.answered .ok [] ∧
      t.cnp = { s.cnp with
        bufSocW := min 10000 (w.toNat % 2 ^ 14), soc := min 10000 (w.toNat % 2 ^ 14), socAt := s.mono, socStale := false } := by
  have hw : Machine.bufSocWrite w.toNat s = (.ok, { s with cnp := { s.cnp with
      bufSocW := min 10000 (w.toNat % 2 ^ 14), soc := min 10000 (w.toNat % 2 ^ 14), socAt := s.mono, socStale := false } }) := by
    simp [Machine.bufSocWrite, hb]
  obtain ⟨k, hk⟩ := State.hostWrite_done 0x8030 w.toNat .cnp 0x30 s _ hr rfl (by decide) (congrArg some hw)
  exact ⟨_, hk, State.answered_append .., rfl⟩

theorem bufRefWrite_done (w : Word) (s : State) (hr : s.HostReady 0x8034) (hb : s.hasBuffer = true) :
    ∃ t, exec (.bufRefWrite w) s = .next t ∧ t.cnp = { s.cnp with bufRef := dec 32 w.toNat } ∧ t.answered .ok [] := by
  have hw : Machine.bufRefWrite w.toNat s = (.ok, { s with cnp := { s.cnp with bufRef := dec 32 w.toNat } }) := by
    simp [Machine.bufRefWrite, hb]
  obtain ⟨k, hk⟩ := State.hostWrite_done 0x8034 w.toNat .cnp 0x34 s _ hr rfl (by decide) (congrArg some hw)
  exact ⟨_, hk, rfl, State.answered_append ..⟩

theorem bufSocWrite_refused (w : Word) (s : State) (hr : s.HostReady 0x8030) (hb : s.hasBuffer = false) :
    ∃ t, exec (.bufSocWrite w) s = .next t ∧ t.cnp = s.cnp ∧ t.answered .notInState [] :=
  ⟨_, State.hostWrite_refusal 0x8030 w.toNat .cnp 0x30 s .notInState hr rfl (by decide) (by decide)
    (congrArg some (by simp [Machine.bufSocWrite, hb])), State.judged_cnp .., State.answered_emit ..⟩

theorem bufRefWrite_refused (w : Word) (s : State) (hr : s.HostReady 0x8034) (hb : s.hasBuffer = false) :
    ∃ t, exec (.bufRefWrite w) s = .next t ∧ t.cnp = s.cnp ∧ t.answered .notInState [] :=
  ⟨_, State.hostWrite_refusal 0x8034 w.toNat .cnp 0x34 s .notInState hr rfl (by decide) (by decide)
    (congrArg some (by simp [Machine.bufRefWrite, hb])), State.judged_cnp .., State.answered_emit ..⟩

/-- Settles O14: each write of Canopy's registers through the one rule for host writes, done or refused by its page. -/
theorem canopyHostWrites : Obligations.CanopyHostWrites := by
  unfold Obligations.CanopyHostWrites
  intro s
  refine ⟨fun hr => ⟨fun on h => freezeWrite_done on s hr h, fun on h hs => freezeWrite_refused on s hr h hs, clrMax_done s hr⟩,
    fun hr w => ⟨fun hsrc => ?_, fun hsrc => ?_⟩,
    fun hr w => ⟨bufSocWrite_done w s hr, bufSocWrite_refused w s hr⟩,
    fun hr w => ⟨bufRefWrite_done w s hr, bufRefWrite_refused w s hr⟩⟩
  · obtain ⟨t, ht, hans, hhost, hmeas, hat, hstale, -⟩ := pmeasHostWrite_measures w s hr hsrc
    exact ⟨t, ht, hhost, hmeas, hat, hstale, hans⟩
  · obtain ⟨t, ht, hans, hcnp, -⟩ := pmeasHostWrite_notInState w s hr hsrc
    exact ⟨t, ht, hcnp, hans⟩

end Sys2Proof.Machine
end

section
/-! ## Events over sequences of operations, conditional commands, and folds (shared by the obligations from O12 on) -/

namespace Sys2Proof.Machine

theorem State.onlyIf_of {c : Bool} (h : c = true) (f : State → State) (s : State) : s.onlyIf c f = f s := by rw [h]; rfl

/-! ### Pending events stay pending -/

theorem State.told_raiseAt {e : Ev} {s : State} (e' : Ev) (i : Nat) (h : s.told e) : (s.raiseAt e' i).told e := by
  cases hup : s.up with
  | false => simpa [State.raiseAt, hup] using h
  | true =>
    unfold State.told at h ⊢
    rw [bitOf_eq_testBit] at h
    rw [s.raiseAt_thk e' i hup, bitOf_eq_testBit, Thicket.raise, Nat.testBit_or, h, Bool.true_or]

theorem State.told_raisesAt {e : Ev} {s : State} (es : List (Ev × Nat)) (h : s.told e) : (s.raisesAt es).told e :=
  List.foldlRecOn (motive := State.told e) es _ h (fun _ ht _ _ => State.told_raiseAt _ _ ht)

/-- Raising events leaves everything but the events, the host's view of them and the outputs. -/
theorem State.raisesAt_keeps {β : Type} {view : State → β} (h : ∀ (e : Ev) (i : Nat) (s : State), view (s.raiseAt e i) = view s)
    (es : List (Ev × Nat)) (s : State) : view (s.raisesAt es) = view s :=
  foldl_keeps es s (fun t x _ => h x.1 x.2 t)

@[simp] theorem State.raisesAt_cnp (es : List (Ev × Nat)) (s : State) : (s.raisesAt es).cnp = s.cnp :=
  State.raisesAt_keeps (view := State.cnp) State.raiseAt_cnp es s
@[simp] theorem State.raisesAt_mb (es : List (Ev × Nat)) (s : State) : (s.raisesAt es).mb = s.mb :=
  State.raisesAt_keeps (view := State.mb) State.raiseAt_mb es s
@[simp] theorem State.raisesAt_gtr (es : List (Ev × Nat)) (s : State) : (s.raisesAt es).gtr = s.gtr :=
  State.raisesAt_keeps (view := State.gtr) State.raiseAt_gtr es s
@[simp] theorem State.raisesAt_rst (es : List (Ev × Nat)) (s : State) : (s.raisesAt es).rst = s.rst :=
  State.raisesAt_keeps (view := State.rst) State.raiseAt_rst es s
@[simp] theorem State.raisesAt_mono (es : List (Ev × Nat)) (s : State) : (s.raisesAt es).mono = s.mono :=
  State.raisesAt_keeps (view := State.mono) State.raiseAt_mono es s

/-- Every event of a raised list is pending after it. -/
theorem State.raisesAt_told {e : Ev × Nat} {es : List (Ev × Nat)} (he : e ∈ es) (s : State) (h : s.up = true) :
    (s.raisesAt es).told e.1 := by
  induction es generalizing s with
  | nil => cases he
  | cons x es ih =>
    have hup : (s.raiseAt x.1 x.2).up = true := h ▸ State.up_congr (State.raiseAt_rst ..)
    rcases List.mem_cons.1 he with rfl | he
    · exact State.told_raisesAt es (State.raiseAt_told _ _ s h)
    · exact ih he _ hup

/-! ### Folds -/

/-- What one element of a list brings about, and no element undoes, holds after the fold. -/
theorem foldl_reaches {σ α : Type} {f : σ → α → σ} {Q P : σ → Prop} {l : List α} {x : α} (hx : x ∈ l)
    (hQ : ∀ t y, Q t → Q (f t y)) (hset : ∀ t, Q t → P (f t x)) (hP : ∀ t y, Q t → P t → P (f t y)) (s : σ) (hs : Q s) :
    P (l.foldl f s) := by
  have keeps (m : List α) (t : σ) (hq : Q t) (hp : P t) : P (m.foldl f t) :=
    (List.foldlRecOn (motive := fun t => Q t ∧ P t) m f ⟨hq, hp⟩ (fun t ht y _ => ⟨hQ t y ht.1, hP t y ht.1 ht.2⟩)).2
  induction l generalizing s with
  | nil => cases hx
  | cons y l ih =>
    rcases List.mem_cons.1 hx with rfl | hx
    · exact keeps l _ (hQ s _ hs) (hset s hs)
    · exact ih hx _ (hQ s y hs)

/-- `foldl_keeps` over any type of states. -/
theorem foldl_view {σ α β : Type} {view : σ → β} {f : σ → α → σ} (h : ∀ t x, view (f t x) = view t) (l : List α) (s : σ) :
    view (l.foldl f s) = view s :=
  List.foldlRecOn (motive := fun t => view t = view s) l f rfl (fun t ht x _ => (h t x).trans ht)

/-! ### Vectors -/

theorem updN_same {α : Type} {n : Nat} (v : Vector α n) (i : Nat) (f : α → α) (h : i < n) : (updN v i f)[i] = f v[i] := by
  unfold updN
  rw [dif_pos h]
  simp

theorem updN_ne {α : Type} {n : Nat} (v : Vector α n) {i j : Nat} (f : α → α) (h : j < n) (hij : i ≠ j) : (updN v i f)[j] = v[j] := by
  unfold updN
  split
  · exact Vector.getElem_set_ne _ _ hij
  · rfl

theorem atD_lt {α : Type} {n : Nat} (v : Vector α n) {i : Nat} (d : α) (h : i < n) : atD v i d = v[i] := dif_pos h

theorem atD_updN_same {α : Type} {n : Nat} (v : Vector α n) {i : Nat} (f : α → α) (d : α) (h : i < n) :
    atD (updN v i f) i d = f (atD v i d) := by
  rw [atD_lt _ _ h, atD_lt _ _ h, updN_same _ _ _ h]

theorem atD_updN_ne {α : Type} {n : Nat} (v : Vector α n) {i j : Nat} (f : α → α) (d : α) (h : i ≠ j) :
    atD (updN v i f) j d = atD v j d := by
  unfold atD
  split
  · exact updN_ne v f _ h
  · rfl

/-- Every element of `mapIdx` is its function's value. -/
theorem mapIdx_get {α : Type} {n : Nat} (v : Vector α n) (f : Nat → α → α) {j : Nat} (h : j < n) : (mapIdx v f)[j] = f j v[j] := by
  have upTo (m : Nat) : ((List.range m).foldl (fun v i => updN v i (f i)) v)[j] = if j < m then f j v[j] else v[j] := by
    induction m with
    | zero => rfl
    | succ m ih =>
      rw [List.range_succ, List.foldl_append]
      simp only [List.foldl_cons, List.foldl_nil]
      by_cases hm : m = j
      · subst hm
        rw [updN_same _ _ _ h, ih, if_neg (by omega), if_pos (by omega)]
      · rw [updN_ne _ _ h hm, ih]
        exact if_congr (by omega) rfl rfl
  exact (upTo n).trans (if_pos h)

theorem atD_mapIdx {α : Type} {n : Nat} (v : Vector α n) (f : Nat → α → α) {j : Nat} (d : α) (h : j < n) :
    atD (mapIdx v f) j d = f j (atD v j d) := by
  rw [atD_lt _ _ h, atD_lt _ _ h, mapIdx_get v f h]

end Sys2Proof.Machine
end

section
/-! ## Canopy's tick, its solve and the release of its frames (O12: `CanopyTicksAndSolves`) -/

namespace Sys2Proof.Machine

/-! ### The tick's own registers: what no part of a tick changes but its frame -/

/-- Canopy's registers that only its start, its takeover, the frame of a tick and the end of a solve change. -/
def Canopy.pace (c : Canopy) : (Bool × CnpMode × Nat × Nat × Bool × Option (JEntry × Nat)) × Nat × Nat × Nat :=
  ((c.started, c.mode, c.tick, c.ticks, c.restIn, c.restore), c.timeLast, c.timeMax, c.cntBudget)

theorem Canopy.of_pace {c d : Canopy} (h : d.pace = c.pace) :
    d.started = c.started ∧ d.mode = c.mode ∧ d.tick = c.tick ∧ d.ticks = c.ticks ∧ d.restIn = c.restIn ∧ d.restore = c.restore ∧
      d.timeLast = c.timeLast ∧ d.timeMax = c.timeMax ∧ d.cntBudget = c.cntBudget := by
  simp only [Canopy.pace, Prod.mk.injEq] at h
  obtain ⟨⟨h1, h2, h3, h4, h5, h6⟩, h7, h8, h9⟩ := h
  exact ⟨h1, h2, h3, h4, h5, h6, h7, h8, h9⟩

section
variable (i : CnpIn) (c : Canopy) (n : Nat)

@[simp] theorem Canopy.setMod_pace (f : CnpModSt → CnpModSt) : (c.setMod n f).pace = c.pace := rfl
@[simp] theorem Canopy.setPort_pace (f : CnpPortSt → CnpPortSt) : (c.setPort n f).pace = c.pace := rfl
@[simp] theorem Canopy.loss_pace (k : Nat) : (c.loss n k).pace = c.pace := rfl

@[simp] theorem Canopy.lossRefs_pace (a : Rat) : (c.lossRefs n a).pace = c.pace := by
  simp [Canopy.lossRefs, apply_ite Canopy.pace]

@[simp] theorem Canopy.block_pace (k : Nat) (lost : Bool) (hold : Nat) (buf : Bool) : (c.block n k lost hold buf).pace = c.pace := by
  simp [Canopy.block]

@[simp] theorem loseMod_pace (buf : Bool) : (loseMod buf c n).pace = c.pace := by
  unfold loseMod
  extract_lets m d
  have hd : d.pace = c.pace := by simp [d, apply_ite Canopy.pace]
  exact hd

@[simp] theorem judgeMod_pace : (judgeMod i c n).pace = c.pace := by
  simp [judgeMod, apply_ite Canopy.pace]

theorem siteMod_pace : (siteMod i c n).pace = c.pace := by
  simp [siteMod, apply_ite Canopy.pace]

theorem siteStep_pace : (siteStep i c).pace = c.pace := foldl_view (fun _ _ => siteMod_pace ..) _ _

theorem portTick_pace : (portTick i c).pace = c.pace := rfl

theorem Canopy.lx_pace (l : Rat) : Canopy.pace { c with lx := l } = c.pace := rfl

theorem bufStep_pace : (bufStep i c).pace = c.pace := by
  unfold bufStep
  split
  · rfl
  · rfl

theorem selMod_pace : (selMod i c n).pace = c.pace := by
  unfold selMod
  dsimp only
  split
  · split <;> simp
    split <;> simp [apply_ite Canopy.pace]
  · simp [apply_ite Canopy.pace]
  · split <;> simp [apply_ite Canopy.pace]
  · rfl

theorem engage_pace (r : PortRow) (m k : Nat) : (engage i r m k c).pace = c.pace := by
  induction k generalizing c with
  | zero => rfl
  | succ k ih =>
    unfold engage
    split
    · rfl
    · split
      · rfl
      · exact ih _

theorem engagePort_pace (r : PortRow) : (engagePort i c r).pace = c.pace := by
  unfold engagePort
  split
  · rfl
  · simp only
    split
    · exact engage_pace ..
    · rfl

theorem preempt_pace (rs : List PortRow) (r : PortRow) : (preempt i rs c r).pace = c.pace := by
  unfold preempt
  extract_lets free
  split
  · split
    · rfl
    · split <;> rfl
  · rfl

theorem selectStep_pace (rs : List PortRow) : (selectStep i rs c).pace = c.pace := by
  unfold selectStep
  simp only
  rw [foldl_view (view := Canopy.pace) (fun _ _ => preempt_pace ..),
    foldl_view (view := Canopy.pace) (f := releaseCount i) (fun _ _ => rfl),
    foldl_view (view := Canopy.pace) (fun _ _ => engagePort_pace ..),
    foldl_view (view := Canopy.pace) (fun _ _ => selMod_pace ..)]

theorem publish_pace (w : TickWork) (r : Rounded) (g : Bool) (act : List Nat) : (publish w r g act c).pace = c.pace := by
  refine foldl_view (view := Canopy.pace) ?_ w.ports c
  exact fun _ _ => rfl

theorem finishInfeasible_pace (w : TickWork) (cert : Bool) : (finishInfeasible w cert c).1.pace = c.pace :=
  publish_pace ..

/-- A normal tick leaves them as they are but MODE. -/
theorem runTick_pace (present : List Nat) : (runTick i present c).1.pace = Canopy.pace { c with mode := nextMode c } := by
  unfold runTick
  extract_lets d rs e w evs f
  have hf : f.pace = d.pace := selectStep_pace ..
  split
  · exact hf
  · exact (finishInfeasible_pace ..).trans hf

theorem releaseEntry_tick (lo hi : Bool) (w : TickWork) (e : Nat) : (releaseEntry lo hi w e).tick = w.tick := by
  unfold releaseEntry
  split <;> rfl

theorem releaseAll_tick (w : TickWork) : (releaseAll w).tick = w.tick :=
  foldl_view (view := TickWork.tick) (fun _ _ => releaseEntry_tick ..) _ _

end

/-! ### The core of a tick -/

/-- What a tick works on once it has latched its inputs: a journal entry too old is given up (R93). -/
def Canopy.base (i : CnpIn) (c : Canopy) : Canopy :=
  if (tickLatch i c).restore.isSome && !(tickLatch i c).recent i then oldEntry i (tickLatch i c) else tickLatch i c

theorem Canopy.base_keeps {β : Type} {view : Canopy → β} (i : CnpIn) (h : ∀ d : Canopy, view (oldEntry i d) = view d) (c : Canopy) :
    view (c.base i) = view (tickLatch i c) := by
  unfold Canopy.base
  split
  · exact h _
  · rfl

/-- A tick up to its mode: what it has latched, taken from the site and computed before MODE and the result. -/
def Canopy.begun (i : CnpIn) (c : Canopy) : Canopy :=
  let c2 := bufStep i (portTick i (siteStep i (c.base i)))
  { c2 with lx := lxOf i c2 }

theorem begun_pace_base (i : CnpIn) (c : Canopy) : (c.begun i).pace = (c.base i).pace :=
  (Canopy.lx_pace _ _).trans ((bufStep_pace i _).trans ((portTick_pace i _).trans (siteStep_pace i _)))

theorem Canopy.begun_pace (i : CnpIn) (c : Canopy) :
    (c.begun i).started = c.started ∧ (c.begun i).tick = (c.tick + 1) % 2 ^ 32 ∧ (c.begun i).ticks = c.ticks + 1 ∧
      (c.begun i).restIn = c.restIn ∧ (c.restore = none → (c.begun i).restore = none) := by
  obtain ⟨hst, -, htick, hticks, hin, hres, -⟩ := Canopy.of_pace (begun_pace_base i c)
  refine ⟨hst.trans ?_, htick.trans ?_, hticks.trans ?_, hin.trans ?_, fun h => hres.trans ?_⟩
  · exact Canopy.base_keeps (view := Canopy.started) i (fun _ => rfl) c
  · exact Canopy.base_keeps (view := Canopy.tick) i (fun _ => rfl) c
  · exact Canopy.base_keeps (view := Canopy.ticks) i (fun _ => rfl) c
  · exact Canopy.base_keeps (view := Canopy.restIn) i (fun _ => rfl) c
  · have hnone : (tickLatch i c).restore.isSome = false := by simp [tickLatch, h]
    unfold Canopy.base
    rw [hnone]
    exact h

/-- What a tick makes of the state it has begun (R58, R60, R92). -/
def Canopy.carriedOut (i : CnpIn) (present : List Nat) (c : Canopy) : Canopy × List (Ev × Nat) :=
  if i.clearing then (clearingTick (present.map (portRow i (c.begun i))) (c.begun i), [])
  else if (c.begun i).recent i then (holdTick (c.base i) { c.begun i with mode := .hold }, [])
  else runTick i present (c.begun i)

theorem tickCore_of_started (i : CnpIn) (present : List Nat) (c : Canopy) (h : c.started = true) :
    (tickCore i present c).1 = (c.carriedOut i present).1 := by
  unfold tickCore
  rw [h]
  rfl

theorem tickCore_of_clearing (i : CnpIn) (present : List Nat) (c : Canopy) (h : c.started = true) (hc : i.clearing = true) :
    (tickCore i present c).1 = clearingTick (present.map (portRow i (c.begun i))) (c.begun i) := by
  rw [tickCore_of_started i present c h, Canopy.carriedOut, if_pos hc]

theorem tickCore_of_running (i : CnpIn) (present : List Nat) (c : Canopy) (h : c.started = true) (hc : i.clearing = false)
    (hr : c.restore = none) : (tickCore i present c).1 = (runTick i present (c.begun i)).1 := by
  have hrecent : (c.begun i).recent i = false := by
    unfold Canopy.recent
    rw [(Canopy.begun_pace i c).2.2.2.2 hr]
  rw [tickCore_of_started i present c h, Canopy.carriedOut, hc, hrecent]
  rfl

theorem clearMod_sel (c : Canopy) {n : Nat} (h : n < 256) :
    (atD (mapIdx c.mods (fun _ => clearMod)) n {}).sel = 0xF := by
  rw [atD_mapIdx _ _ _ h]
  unfold clearMod
  split <;> rfl

theorem cleared_keeps {β : Type} {view : Canopy → β} (h : ∀ (d : Canopy) (p : Nat) f, view (d.setPort p f) = view d)
    (rs : List PortRow) (c : Canopy) : view (rs.foldl (fun x q => x.setPort q.p q.cleared) c) = view c :=
  foldl_view (fun _ _ => h _ _ _) rs c

/-- Clearing turns the mode to CLEARING, ends the solve, and readies 0 A and selection none for every module (R60). -/
theorem clearingTick_clears (rs : List PortRow) (c : Canopy) :
    (clearingTick rs c).mode = .clearing ∧ (clearingTick rs c).work = none ∧ (clearingTick rs c).tick = c.tick ∧
      (clearingTick rs c).ticks = c.ticks ∧
      ∃ r, (clearingTick rs c).ready = some r ∧ r.tick = c.tick ∧ (∀ e ∈ r.entries, e.sp = 0 ∧ e.sel = 0xF) ∧ ∀ a ∈ r.alloc, a.2 = 0 := by
  refine ⟨rfl, rfl, (cleared_keeps (view := Canopy.tick) (fun _ _ _ => rfl) rs _),
    (cleared_keeps (view := Canopy.ticks) (fun _ _ _ => rfl) rs _), _, rfl,
    (cleared_keeps (view := Canopy.tick) (fun _ _ _ => rfl) rs _), fun e he => ?_, fun a ha => ?_⟩
  · obtain ⟨e', he', rfl⟩ := List.mem_map.1 he
    obtain ⟨n, hn, rfl⟩ := List.mem_map.1 he'
    refine ⟨rfl, ?_⟩
    simp only [Canopy.mod, cleared_keeps (view := Canopy.mods) (fun _ _ _ => rfl) rs]
    exact clearMod_sel c (List.mem_range.1 (List.mem_filter.1 hn).1)
  · obtain ⟨p, -, rfl⟩ := List.mem_map.1 ha
    rfl

/-- Every tick of a started Canopy counts. -/
theorem tickCore_counts (i : CnpIn) (present : List Nat) (c : Canopy) (h : c.started = true) :
    (tickCore i present c).1.tick = (c.tick + 1) % 2 ^ 32 ∧ (tickCore i present c).1.ticks = c.ticks + 1 := by
  obtain ⟨-, htick, hticks, -⟩ := Canopy.begun_pace i c
  rw [tickCore_of_started i present c h]
  unfold Canopy.carriedOut
  split
  · obtain ⟨-, -, ht, hk, -⟩ := clearingTick_clears (present.map (portRow i (c.begun i))) (c.begun i)
    exact ⟨ht.trans htick, hk.trans hticks⟩
  · split
    · exact ⟨htick, hticks⟩
    · obtain ⟨-, -, ht, hk, -⟩ := Canopy.of_pace (runTick_pace i (c.begun i) present)
      exact ⟨ht.trans htick, hk.trans hticks⟩


/-! ### CANOPY_TICK -/

theorem State.readStatus_pace (pm : Nat) (t : ModStatus) (s : State) : (s.readStatus pm t).cnp.pace = s.cnp.pace := by
  unfold State.readStatus
  extract_lets r m
  split
  · rfl
  · split
    · exact (congrArg Canopy.pace (State.raiseAt_cnp ..)).trans rfl
    · rfl

theorem State.linkMod_cnp (b : Fin 4) (a : Nat) (f : PmLink → PmLink) (s : State) : (s.linkMod b a f).cnp = s.cnp := rfl

theorem State.busMod_cnp (b : Fin 4) (f : MBus → MBus) (s : State) : (s.busMod b f).cnp = s.cnp := rfl

theorem State.loseModule_cnp (b : Fin 4) (a : Nat) (s : State) : (s.loseModule b a).cnp = s.cnp := rfl

theorem State.takeStatus_pace (b : Fin 4) (x : RxFrame) (s : State) : (s.takeStatus b x).cnp.pace = s.cnp.pace := by
  simp only [State.takeStatus, apply_ite (fun u : State => u.cnp.pace), State.loseModule_cnp, State.busMod_cnp,
    State.readStatus_pace, State.linkMod_cnp, ite_self]

theorem State.readWaiting_pace (s : State) : s.readWaiting.cnp.pace = s.cnp.pace := by
  unfold State.readWaiting
  refine foldl_view (view := fun s : State => s.cnp.pace) (fun t b => ?_) _ _
  exact foldl_view (view := fun s : State => s.cnp.pace) (fun u x => State.takeStatus_pace b x u) _ _

/-- The site as a tick finds it: the waiting status frames read, the ports snapshot, the site registers set. -/
def State.snapped (s : State) : State := s.readWaiting.snapPorts.siteTick

theorem State.snapped_cnp (s : State) : s.snapped.cnp = s.readWaiting.cnp :=
  ((State.siteTick_moves _).frame.get .cnp (by decide)).trans ((State.snapPorts_moves _).frame.get .cnp (by decide))

theorem State.snapped_gtr (s : State) : s.snapped.gtr = s.gtr :=
  ((State.siteTick_moves _).frame.get .gtr (by decide)).trans
    (((State.snapPorts_moves _).frame.get .gtr (by decide)).trans ((State.readWaiting_moves _).frame.get .gtr (by decide)))

theorem State.arrived_cnp (s : State) : s.arrived.cnp = s.cnp := rfl

theorem State.tick_eq (s : State) : s.tick =
    ((State.raisesAt (tickCore s.snapped.cnpIn s.snapped.presentPorts s.snapped.cnp).2
      { s.snapped with cnp := (tickCore s.snapped.cnpIn s.snapped.presentPorts s.snapped.cnp).1 }).arrived).journalTick := rfl

theorem State.tick_cnp (s : State) : s.tick.cnp = (tickCore s.snapped.cnpIn s.snapped.presentPorts s.snapped.cnp).1 := by
  rw [State.tick_eq, (State.journalTick_moves _).frame.get .cnp (by decide), State.arrived_cnp, State.raisesAt_cnp]

theorem State.cnpIn_clearing (s : State) : s.cnpIn.clearing = s.clearing := rfl

theorem State.snapped_clearing (s : State) : s.snapped.cnpIn.clearing = s.clearing := by
  rw [State.cnpIn_clearing]
  unfold State.clearing
  rw [State.snapped_gtr]

theorem canopyTick_counts (s : State) (h : s.canopyOn = true) :
    ∃ t, exec .canopyTick s = .next t ∧ t.cnp.tick = (s.cnp.tick + 1) % 2 ^ 32 ∧ t.cnp.ticks = s.cnp.ticks + 1 ∧
      (s.clearing = true → t.cnp.mode = .clearing ∧ t.cnp.work = none ∧
        ∃ r, t.cnp.ready = some r ∧ r.tick = t.cnp.tick ∧ (∀ e ∈ r.entries, e.sp = 0 ∧ e.sel = 0xF) ∧ ∀ a ∈ r.alloc, a.2 = 0) ∧
      (s.clearing = false → s.cnp.restore = none → t.cnp.mode = if s.cnp.restIn then .run else .reduced) := by
  have hstarted : s.cnp.started = true := by
    unfold State.canopyOn at h
    simp only [Bool.and_eq_true] at h
    exact h.1.2
  obtain ⟨hs, -, htick, hticks, hin, hres, -⟩ := Canopy.of_pace ((congrArg Canopy.pace s.snapped_cnp).trans s.readWaiting_pace)
  obtain ⟨hct, hck⟩ := tickCore_counts s.snapped.cnpIn s.snapped.presentPorts s.snapped.cnp (hs.trans hstarted)
  refine ⟨s.tick, congrArg Host.Outcome.next (State.onlyIf_of h _ s), ?_, ?_, fun hc => ?_, fun hc hr => ?_⟩
  · rw [State.tick_cnp, hct, htick]
  · rw [State.tick_cnp, hck, hticks]
  · rw [State.tick_cnp, tickCore_of_clearing _ _ _ (hs.trans hstarted) (s.snapped_clearing.trans hc)]
    obtain ⟨hmode, hwork, ht, -, r, hready, hrt, hent, hal⟩ :=
      clearingTick_clears (s.snapped.presentPorts.map (portRow s.snapped.cnpIn (s.snapped.cnp.begun s.snapped.cnpIn)))
        (s.snapped.cnp.begun s.snapped.cnpIn)
    exact ⟨hmode, hwork, r, hready, hrt.trans ht.symm, hent, hal⟩
  · rw [State.tick_cnp, tickCore_of_running _ _ _ (hs.trans hstarted) (s.snapped_clearing.trans hc) (hres.trans hr)]
    obtain ⟨-, hmode, -⟩ := Canopy.of_pace (runTick_pace s.snapped.cnpIn (s.snapped.cnp.begun s.snapped.cnpIn) s.snapped.presentPorts)
    rw [hmode, ← hin]
    unfold nextMode
    rw [(Canopy.begun_pace s.snapped.cnpIn s.snapped.cnp).2.2.2.1]


/-! ### The end of a solve -/

/-- A result has been published for the tick `n`: no solve runs and the result waits for its release. -/
def Canopy.readyFor (n : Nat) (c : Canopy) : Prop := c.work = none ∧ ∃ r, c.ready = some r ∧ r.tick = n

theorem publish_readyFor (w : TickWork) (r : Rounded) (g : Bool) (act : List Nat) (c : Canopy) :
    (publish w r g act c).readyFor w.tick := ⟨rfl, _, rfl, rfl⟩

theorem finishInfeasible_readyFor (w : TickWork) (cert : Bool) (c : Canopy) : (finishInfeasible w cert c).1.readyFor w.tick := by
  obtain ⟨hw, r, hr, ht⟩ := publish_readyFor (releaseAll w) (infeasibleRounded w) true [] c
  exact ⟨hw, r, hr, ht.trans (releaseAll_tick w)⟩

theorem finishWith_readyFor (w : TickWork) (x : SolvePoint) (r : Rounded) (res : CnpResult) (c : Canopy) :
    (finishWith w x r res c).readyFor w.tick := publish_readyFor w r _ _ c

theorem finishWith_pace (w : TickWork) (x : SolvePoint) (r : Rounded) (res : CnpResult) (c : Canopy) :
    (finishWith w x r res c).pace = c.pace := publish_pace _ w r _ _

theorem solved_cnp (us : Nat) (e : SolveEnd) (s : State) (h : s.canopyOn = true) :
    ∃ t, exec (.solveComplete us e) s = .next t ∧ t.cnp = (solveEnd us e s.cnp).1 :=
  ⟨_, congrArg Host.Outcome.next (State.onlyIf_of h _ s), State.raisesAt_cnp _ _⟩

/-- What the solver's own stop leaves of the times. -/
def Canopy.timed (us : Nat) (c : Canopy) : Canopy := { c with timeLast := sat 10 us, timeMax := max c.timeMax (sat 10 us) }

theorem sat_of_le {us : Nat} (h : us ≤ 600) : sat 10 us = us := by
  unfold sat
  omega

theorem solveEnd_optimum {us : Nat} {w : TickWork} {x : SolvePoint} {c : Canopy} (hw : c.work = some w) (hu : us ≤ 600)
    (hx : optimumOk w x = true) : solveEnd us (.optimum x) c = (finishPoint w x .optimal (c.timed us), []) := by
  unfold solveEnd
  split
  · next hn => cases hn.symm.trans hw
  · next w' hw' =>
    cases hw'.symm.trans hw
    exact if_pos (Bool.and_eq_true_iff.2 ⟨hx, decide_eq_true hu⟩)

theorem solveEnd_certificate {us : Nat} {w : TickWork} {x : SolvePoint} {c : Canopy} (hw : c.work = some w) (hu : us ≤ 600)
    (hx : certificateOk w x = true) : solveEnd us (.certificate x) c = finishInfeasible w true (c.timed us) := by
  unfold solveEnd
  split
  · next hn => cases hn.symm.trans hw
  · next w' hw' =>
    cases hw'.symm.trans hw
    exact if_pos (Bool.and_eq_true_iff.2 ⟨hx, decide_eq_true hu⟩)

theorem solveComplete_optimum (s : State) (h : s.canopyOn = true) (w : TickWork) (us : Nat) (x : SolvePoint)
    (hw : s.cnp.work = some w) (hu : us ≤ 600) (hx : optimumOk w x = true) :
    ∃ t, exec (.solveComplete us (.optimum x)) s = .next t ∧ t.cnp.work = none ∧ t.cnp.timeLast = us ∧
      t.cnp.timeMax = max s.cnp.timeMax us ∧ (∃ r, t.cnp.ready = some r ∧ r.tick = w.tick) ∧
      t.cnp.result = (if w.released then .infeasible else .optimal) := by
  obtain ⟨t, ht, hc⟩ := solved_cnp us (.optimum x) s h
  rw [solveEnd_optimum hw hu hx] at hc
  obtain ⟨hwork, hready⟩ := finishWith_readyFor w x (repairAll w (roundAll w x)) .optimal (s.cnp.timed us)
  obtain ⟨-, -, -, -, -, -, hlast, hmax, -⟩ :=
    Canopy.of_pace (finishWith_pace w x (repairAll w (roundAll w x)) .optimal (s.cnp.timed us))
  refine ⟨t, ht, ?_, ?_, ?_, ?_, ?_⟩ <;> rw [hc]
  · exact hwork
  · exact hlast.trans (sat_of_le hu)
  · exact hmax.trans (congrArg (max s.cnp.timeMax) (sat_of_le hu))
  · exact hready
  · rfl

theorem solveComplete_certificate (s : State) (h : s.canopyOn = true) (w : TickWork) (us : Nat) (x : SolvePoint)
    (hw : s.cnp.work = some w) (hu : us ≤ 600) (hx : certificateOk w x = true) :
    ∃ t, exec (.solveComplete us (.certificate x)) s = .next t ∧ t.cnp.work = none ∧
      t.cnp.result = .infeasible ∧ t.cnp.certCarry = true ∧ ∃ r, t.cnp.ready = some r ∧ r.tick = w.tick := by
  obtain ⟨t, ht, hc⟩ := solved_cnp us (.certificate x) s h
  rw [solveEnd_certificate hw hu hx] at hc
  obtain ⟨hwork, hready⟩ := finishInfeasible_readyFor w true (s.cnp.timed us)
  refine ⟨t, ht, ?_, ?_, ?_, ?_⟩ <;> rw [hc]
  · exact hwork
  · rfl
  · rfl
  · exact hready

/-! ### The solver's limit -/

/-- What the limit leaves of the times and the count. -/
def Canopy.overBudget (c : Canopy) : Canopy :=
  { c with timeLast := 600, timeMax := max c.timeMax 600, cntBudget := satInc 16 c.cntBudget }

theorem budgetFinish_ends (x : SolvePoint) (w : TickWork) (c : Canopy) :
    (budgetFinish x w c).1.readyFor w.tick ∧ (budgetFinish x w c).1.pace = c.pace := by
  unfold budgetFinish
  split
  · exact ⟨finishWith_readyFor .., finishWith_pace ..⟩
  · extract_lets f r
    split
    · exact ⟨finishInfeasible_readyFor .., finishInfeasible_pace ..⟩
    · exact ⟨finishWith_readyFor .., finishWith_pace ..⟩

theorem budgetEnd_of_work {now : Nat} {x : SolvePoint} {w : TickWork} {c : Canopy} (hw : c.work = some w) (h : c.workAt + 720 ≤ now) :
    budgetEnd now x c = ((budgetFinish x w c.overBudget).1, (Ev.canopyBudget, 0) :: (budgetFinish x w c.overBudget).2) := by
  unfold budgetEnd
  split
  · next hn => cases hn.symm.trans hw
  · next w' hw' =>
    cases hw'.symm.trans hw
    exact if_neg (Nat.not_lt.2 h)

theorem solveBudgetExpired_ends (s : State) (h : s.canopyOn = true) (w : TickWork) (x : SolvePoint) (hw : s.cnp.work = some w)
    (hat : s.cnp.workAt + 720 ≤ s.mono) :
    ∃ t, exec (.solveBudgetExpired x) s = .next t ∧ t.cnp.work = none ∧ t.cnp.timeLast = 600 ∧
      t.cnp.cntBudget = satInc 16 s.cnp.cntBudget ∧ t.told .canopyBudget ∧ ∃ r, t.cnp.ready = some r ∧ r.tick = w.tick := by
  obtain ⟨⟨hwork, hready⟩, hpace⟩ := budgetFinish_ends x w s.cnp.overBudget
  obtain ⟨-, -, -, -, -, -, hlast, -, hcnt⟩ := Canopy.of_pace hpace
  have hcnp : (s.solveBudget x).cnp = (budgetFinish x w s.cnp.overBudget).1 := by
    unfold State.solveBudget
    rw [budgetEnd_of_work hw hat]
    exact State.raisesAt_cnp _ _
  have htold : (s.solveBudget x).told .canopyBudget := by
    unfold State.solveBudget
    rw [budgetEnd_of_work hw hat]
    exact State.raisesAt_told (e := (Ev.canopyBudget, 0)) List.mem_cons_self _
      ((State.up_congr (s := s) rfl).trans (State.up_of_canopyOn h))
  refine ⟨_, congrArg Host.Outcome.next (State.onlyIf_of h _ s), ?_, ?_, ?_, htold, ?_⟩ <;> rw [hcnp]
  · exact hwork
  · exact hlast
  · exact hcnt
  · exact hready


/-! ### The transmit buffers of a bus -/

theorem State.busMod_same (b : Fin 4) (f : MBus → MBus) (s : State) : (s.busMod b f).mb.bus[b] = f s.mb.bus[b] := upd_same _ _ _

theorem State.offers_same (b : Fin 4) (s : State) : (s.offers b).mb.bus[b] = s.mb.bus[b].offer := State.busMod_same ..

/-- What the end of group frame `f` leaves of its controller (R103). -/
def MBus.groupDone (j : Nat) (r : TxResult) (f : TxFrame) (ts : Nat) (m : MBus) : MBus :=
  { m with
    txGrp := updN m.txGrp j (fun _ => none)
    grpTx := updN m.grpTx j (fun _ => { result := r, seq := f.seq, ts := ts })
    arb := if r = .arbLost then satInc 16 m.arb else m.arb
    err := if r = .error ∨ r = .withdrawn then satInc 16 m.err else m.err }

theorem State.groupResult_same (b : Fin 4) (j : Nat) (r : TxResult) (f : TxFrame) (s : State) :
    ∃ now cycles, (s.groupResult b j r f).mb.bus[b] =
      if r = .ok then (s.mb.bus[b].groupDone j r f (s.tb % 2 ^ 32)).busy now cycles
      else s.mb.bus[b].groupDone j r f (s.tb % 2 ^ 32) := by
  obtain ⟨u, hres, hu⟩ : ∃ u : State,
      s.groupResult b j r f = (if r = .ok then u.canSend b f.id f.data else u.raiseAt .oneShotFail b) ∧
        u.mb = (s.busMod b (MBus.groupDone j r f (s.tb % 2 ^ 32))).mb := by
    refine ⟨_, rfl, ?_⟩
    simp only [apply_ite State.mb, State.groupEnded_mb, ite_self]
    rfl
  have hbus : u.mb.bus[b] = s.mb.bus[b].groupDone j r f (s.tb % 2 ^ 32) := by
    rw [hu]
    exact State.busMod_same ..
  rw [hres]
  by_cases hr : r = .ok
  · simp only [if_pos hr, ← hbus]
    exact ⟨_, _, State.busMod_same b (MBus.busy _ _) u⟩
  · simp only [if_neg hr, State.raiseAt_mb]
    exact ⟨0, 0, hbus⟩

/-- What a group frame's end keeps of its controller. -/
theorem State.groupResult_keeps {β : Type} {view : MBus → β} (hbusy : ∀ now cycles m, view (MBus.busy now cycles m) = view m)
    (b : Fin 4) (j : Nat) (r : TxResult) (f : TxFrame) (s : State)
    (hdone : view (s.mb.bus[b].groupDone j r f (s.tb % 2 ^ 32)) = view s.mb.bus[b]) :
    view (s.groupResult b j r f).mb.bus[b] = view s.mb.bus[b] := by
  obtain ⟨now, cycles, h⟩ := s.groupResult_same b j r f
  rw [h]
  split
  · rw [hbusy, hdone]
  · exact hdone

theorem State.groupResult_fcs (b : Fin 4) (j : Nat) (r : TxResult) (f : TxFrame) (s : State) :
    (s.groupResult b j r f).mb.bus[b].fcs = s.mb.bus[b].fcs :=
  State.groupResult_keeps (view := MBus.fcs) (fun _ _ _ => rfl) b j r f s rfl

theorem State.groupResult_txGrp (b : Fin 4) {j k : Nat} (hjk : j ≠ k) (hk : k < 4) (r : TxResult) (f : TxFrame) (s : State) :
    (s.groupResult b j r f).mb.bus[b].txGrp[k] = s.mb.bus[b].txGrp[k] :=
  State.groupResult_keeps (view := fun m => m.txGrp[k]) (fun _ _ _ => rfl) b j r f s (updN_ne _ _ hk hjk)

theorem State.withdrawGroup_fcs (b : Fin 4) (j : Nat) (s : State) : (s.withdrawGroup b j).mb.bus[b].fcs = s.mb.bus[b].fcs := by
  unfold State.withdrawGroup
  split
  · rfl
  · rw [State.offers_same]
    exact State.groupResult_fcs ..

theorem State.withdrawGroup_txGrp (b : Fin 4) {j k : Nat} (hjk : j ≠ k) (hk : k < 4) (s : State) :
    (s.withdrawGroup b j).mb.bus[b].txGrp[k] = s.mb.bus[b].txGrp[k] := by
  unfold State.withdrawGroup
  split
  · rfl
  · rw [State.offers_same]
    exact State.groupResult_txGrp b hjk hk ..

theorem State.queueGroup_other {b d : Fin 4} (hd : d ≠ b) (j : Nat) (data : List Byte) (seq : Nat) (s : State) :
    (s.queueGroup b j data seq).mb.bus[d] = s.mb.bus[d] := by
  unfold State.queueGroup
  simp only [apply_ite (fun t : State => t.mb.bus[d]), State.groupResult_other hd, State.offers_other hd, State.busMod_other hd,
    State.withdrawGroup_other hd, ite_self]

/-- A group frame in its buffer. -/
def MBus.queued (j : Nat) (f : TxFrame) (m : MBus) : MBus := { m with txGrp := updN m.txGrp j (fun _ => some f) }

theorem State.queueGroup_same (b : Fin 4) (j : Nat) (data : List Byte) (seq : Nat) (s : State) :
    let t := s.withdrawGroup b j
    let f : TxFrame := { id := 0x010 + j, data := data, seq := seq }
    (s.queueGroup b j data seq).mb.bus[b] =
      if t.mb.bus[b].fcs = .busOff then (t.groupResult b j .error f).mb.bus[b] else (t.mb.bus[b].queued j f).offer := by
  intro t f
  unfold State.queueGroup
  rw [apply_ite (fun u : State => u.mb.bus[b])]
  exact if_congr Iff.rfl rfl ((State.offers_same ..).trans (congrArg MBus.offer (State.busMod_same ..)))

/-- What queueing a group frame keeps of its controller. -/
theorem State.queueGroup_keeps {β : Type} {view : MBus → β} (hbusy : ∀ now cycles m, view (MBus.busy now cycles m) = view m)
    (hoffer : ∀ m, view (MBus.offer m) = view m) {j : Nat} (hdone : ∀ r f ts m, view (MBus.groupDone j r f ts m) = view m)
    (hqueued : ∀ f m, view (MBus.queued j f m) = view m) (b : Fin 4) (data : List Byte) (seq : Nat) (s : State) :
    view (s.queueGroup b j data seq).mb.bus[b] = view s.mb.bus[b] := by
  have ht : view (s.withdrawGroup b j).mb.bus[b] = view s.mb.bus[b] := by
    unfold State.withdrawGroup
    split
    · rfl
    · exact (congrArg view (State.offers_same ..)).trans ((hoffer _).trans (State.groupResult_keeps hbusy b j _ _ s (hdone ..)))
  rw [State.queueGroup_same]
  split
  · exact (State.groupResult_keeps hbusy b j _ _ _ (hdone ..)).trans ht
  · rw [hoffer, hqueued, ht]

theorem State.queueGroup_fcs (b d : Fin 4) (j : Nat) (data : List Byte) (seq : Nat) (s : State) :
    (s.queueGroup b j data seq).mb.bus[d].fcs = s.mb.bus[d].fcs := by
  by_cases hd : d = b
  · subst hd
    exact State.queueGroup_keeps (view := MBus.fcs) (fun _ _ _ => rfl) (fun _ => rfl) (fun _ _ _ _ => rfl) (fun _ _ => rfl) ..
  · rw [State.queueGroup_other hd]

theorem State.queueGroup_txGrp (b d : Fin 4) {j : Nat} (k : Fin 4) (hjk : b = d → j ≠ k.val) (data : List Byte) (seq : Nat) (s : State) :
    (s.queueGroup b j data seq).mb.bus[d].txGrp[k] = s.mb.bus[d].txGrp[k] := by
  by_cases hd : d = b
  · subst hd
    exact State.queueGroup_keeps (view := fun m => m.txGrp[k]) (fun _ _ _ => rfl) (fun _ => rfl)
      (fun _ _ _ _ => updN_ne _ _ k.isLt (hjk rfl)) (fun _ _ => updN_ne _ _ k.isLt (hjk rfl)) ..
  · rw [State.queueGroup_other hd]

/-- A group frame queued on a controller that is not in bus-off waits in its buffer. -/
theorem State.queueGroup_waits (b : Fin 4) (j : Fin 4) (data : List Byte) (seq : Nat) (s : State) (h : s.mb.bus[b].fcs ≠ .busOff) :
    (s.queueGroup b j data seq).mb.bus[b].txGrp[j] = some { id := 0x010 + j, data := data, seq := seq } := by
  have ht : (s.withdrawGroup b j).mb.bus[b].fcs ≠ .busOff := by
    rw [State.withdrawGroup_fcs]
    exact h
  have hbus := (State.queueGroup_same b j data seq s).trans (if_neg ht)
  exact (congrArg (fun m : MBus => m.txGrp[j]) hbus).trans (updN_same _ _ _ j.isLt)


/-! ### GROUP_FRAME_RELEASE -/

/-- What the sending of group frames leaves of Canopy: what is sent and ready, the counters of ticks, and the head of the buses. -/
def State.released (s : State) : Option TickResult × Option TickResult × Nat × Nat × Nat × Nat :=
  (s.cnp.sent, s.cnp.ready, s.cnp.cntBudget, s.cnp.ticks, s.mb.seq, s.mb.epoch)

theorem State.groupEnded_released (b : Fin 4) (j : Nat) (ok : Bool) (data : List Byte) (s : State) :
    (s.groupEnded b j ok data).released = s.released := by
  have hview {β : Type} (view : Canopy → β) (h : ∀ (c : Canopy) v, view { c with mods := v } = view c) :
      view (s.groupEnded b j ok data).cnp = view s.cnp := foldl_view (fun c _ => h c _) _ _
  unfold State.released
  rw [hview Canopy.sent (fun _ _ => rfl), hview Canopy.ready (fun _ _ => rfl), hview Canopy.cntBudget (fun _ _ => rfl),
    hview Canopy.ticks (fun _ _ => rfl), State.groupEnded_mb]

theorem State.raiseAt_released (e : Ev) (i : Nat) (s : State) : (s.raiseAt e i).released = s.released := by
  simp only [State.released, State.raiseAt_cnp, State.raiseAt_mb]

theorem State.busMod_released (b : Fin 4) (f : MBus → MBus) (s : State) : (s.busMod b f).released = s.released := rfl

theorem State.offers_released (b : Fin 4) (s : State) : (s.offers b).released = s.released := rfl

theorem State.canSend_released (b : Fin 4) (id : Nat) (data : List Byte) (s : State) : (s.canSend b id data).released = s.released := rfl

theorem State.groupResult_released (b : Fin 4) (j : Nat) (r : TxResult) (f : TxFrame) (s : State) :
    (s.groupResult b j r f).released = s.released := by
  simp only [State.groupResult, apply_ite State.released, State.canSend_released, State.raiseAt_released,
    State.groupEnded_released, State.busMod_released, ite_self]

theorem State.withdrawGroup_released (b : Fin 4) (j : Nat) (s : State) : (s.withdrawGroup b j).released = s.released := by
  unfold State.withdrawGroup
  split
  · rfl
  · exact (State.offers_released ..).trans (State.groupResult_released ..)

theorem State.queueGroup_released (b : Fin 4) (j : Nat) (data : List Byte) (seq : Nat) (s : State) :
    (s.queueGroup b j data seq).released = s.released := by
  simp only [State.queueGroup, apply_ite State.released, State.groupResult_released, State.offers_released,
    State.busMod_released, State.withdrawGroup_released, ite_self]

theorem State.withdrawWaiting_released (s : State) : s.withdrawWaiting.released = s.released :=
  foldl_view (fun _ _ => foldl_view (fun _ _ => State.withdrawGroup_released ..) _ _) _ _

theorem State.withdrawWaiting_fcs (d : Fin 4) (s : State) : s.withdrawWaiting.mb.bus[d].fcs = s.mb.bus[d].fcs := by
  refine foldl_view (view := fun t : State => t.mb.bus[d].fcs) (fun t b => ?_) _ _
  refine foldl_view (view := fun t : State => t.mb.bus[d].fcs) (fun t j => ?_) _ _
  by_cases hd : d = b
  · subst hd
    exact State.withdrawGroup_fcs ..
  · rw [State.withdrawGroup_other hd]

theorem markSent_keeps {β : Type} {view : Canopy → β} (hm : ∀ (c : Canopy) v, view { c with mods := v } = view c)
    (hp : ∀ (c : Canopy) v, view { c with ports := v } = view c)
    (hs : ∀ (c : Canopy) r, view { c with sent := r, ready := none, work := none } = view c) (r : TickResult) (c : Canopy) :
    view (markSent r c) = view c := by
  unfold markSent
  extract_lets inGrp c1 c2 c3 c4
  have h2 : view c2 = view c1 := foldl_view (fun c _ => hm c _) _ _
  have h3 : view c3 = view c2 := foldl_view (fun c _ => hp c _) _ _
  have h4 : view c4 = view c3 := foldl_view (fun c _ => hp c _) _ _
  rw [hs, h4, h3, h2]
  exact hm c _

/-- A ready result that is released: what waits is withdrawn, Canopy has sent the result, and its frames are queued. -/
def State.sending (r : TickResult) (s : State) : State := { s.withdrawWaiting with cnp := markSent r s.withdrawWaiting.cnp }

theorem State.releaseFrames_of_ready (s : State) (r : TickResult) (h : s.cnp.ready = some r) :
    s.releaseFrames = (s.sending r).sendGroups r.entries := by
  have hres : releaseResult s.cnp = (some r, false) := by
    unfold releaseResult
    rw [h]
  unfold State.releaseFrames
  rw [hres]
  rfl

theorem State.sending_released (r : TickResult) (s : State) :
    (s.sending r).released = (some r, none, s.cnp.cntBudget, s.cnp.ticks, s.mb.seq, s.mb.epoch) := by
  have h := s.withdrawWaiting_released
  simp only [State.released, Prod.mk.injEq] at h
  obtain ⟨-, -, hcnt, hticks, hseq, hepoch⟩ := h
  simp only [State.released, State.sending, markSent_keeps (view := Canopy.cntBudget) (fun _ _ => rfl) (fun _ _ => rfl) (fun _ _ => rfl),
    markSent_keeps (view := Canopy.ticks) (fun _ _ => rfl) (fun _ _ => rfl) (fun _ _ => rfl), hcnt, hticks, hseq, hepoch]
  rfl

theorem State.seqNow_congr {s t : State} (h : t.cnp.ticks = s.cnp.ticks) : t.seqNow = s.seqNow := by
  unfold State.seqNow
  rw [h]

/-- The frames of the result on one bus. -/
def State.sendBus (es : List GrpEntry) (seq : Nat) (s : State) (b : Fin 4) : State :=
  (groupsOf b.val es).foldl (fun s j => s.queueGroup b j (groupFrame s.mb.epoch seq b.val j es) seq) s

theorem State.sendGroups_eq (es : List GrpEntry) (s : State) :
    s.sendGroups es = s.busSet.foldl (State.sendBus es s.seqNow) { s with mb := { s.mb with seq := s.seqNow } } := rfl

theorem State.sendBus_released (es : List GrpEntry) (seq : Nat) (s : State) (b : Fin 4) : (s.sendBus es seq b).released = s.released :=
  foldl_view (fun _ _ => State.queueGroup_released ..) _ _


/-- The group frame `j` of bus `b` with the epoch `e` and the number `q` waits in its buffer. -/
def State.frameWaits (b j : Fin 4) (es : List GrpEntry) (e q : Nat) (s : State) : Prop :=
  s.mb.bus[b].txGrp[j] = some { id := 0x010 + j.val, data := groupFrame e q b j es, seq := q }

/-- Bus `b` takes frames of the epoch `e`. -/
def State.takesFrames (b : Fin 4) (e : Nat) (s : State) : Prop := s.mb.bus[b].fcs ≠ .busOff ∧ s.mb.epoch = e

theorem State.queueGroup_takes {b : Fin 4} {e : Nat} (d : Fin 4) (i : Nat) (data : List Byte) (seq : Nat) {s : State}
    (h : s.takesFrames b e) : (s.queueGroup d i data seq).takesFrames b e := by
  refine ⟨?_, ?_⟩
  · rw [State.queueGroup_fcs]
    exact h.1
  · have hrel := State.queueGroup_released d i data seq s
    simp only [State.released, Prod.mk.injEq] at hrel
    exact hrel.2.2.2.2.2.trans h.2

/-- A frame on the same or another bus keeps a waiting frame, or is that frame again. -/
theorem State.queueGroup_frameWaits {b j : Fin 4} {es : List GrpEntry} {e q : Nat} (d : Fin 4) (i : Nat) {s : State}
    (h : s.takesFrames b e) (hw : s.frameWaits b j es e q) :
    (s.queueGroup d i (groupFrame s.mb.epoch q d.val i es) q).frameWaits b j es e q := by
  by_cases hsame : d = b ∧ i = j.val
  · obtain ⟨rfl, rfl⟩ := hsame
    rw [h.2]
    exact State.queueGroup_waits d j _ q s h.1
  · exact (State.queueGroup_txGrp d b j (fun hd hi => hsame ⟨hd, hi⟩) _ q s).trans hw

theorem State.sendBus_takes {b : Fin 4} {e : Nat} (es : List GrpEntry) (q : Nat) (d : Fin 4) {s : State} (h : s.takesFrames b e) :
    (s.sendBus es q d).takesFrames b e :=
  List.foldlRecOn (motive := State.takesFrames b e) _ _ h (fun _ ht _ _ => State.queueGroup_takes _ _ _ _ ht)

theorem State.sendBus_frameWaits {b j : Fin 4} {es : List GrpEntry} {e q : Nat} (d : Fin 4) {s : State}
    (h : s.takesFrames b e) (hw : s.frameWaits b j es e q) : (s.sendBus es q d).frameWaits b j es e q :=
  (List.foldlRecOn (motive := fun t : State => t.takesFrames b e ∧ t.frameWaits b j es e q) _ _ ⟨h, hw⟩
    (fun _ ht _ _ => ⟨State.queueGroup_takes _ _ _ _ ht.1, State.queueGroup_frameWaits _ _ ht.1 ht.2⟩)).2

/-- Every group frame of a present and running bus waits once the result is sent. -/
theorem State.sendGroups_frameWaits {b j : Fin 4} {es : List GrpEntry} {e : Nat} {s : State} (hb : b ∈ s.busSet)
    (hj : j.val ∈ groupsOf b es) (h : s.takesFrames b e) : (s.sendGroups es).frameWaits b j es e s.seqNow := by
  rw [State.sendGroups_eq]
  refine foldl_reaches (Q := State.takesFrames b e) (P := State.frameWaits b j es e s.seqNow) hb
    (fun t d ht => State.sendBus_takes es _ d ht) (fun t ht => ?_) (fun t d ht hw => State.sendBus_frameWaits d ht hw) _ h
  refine foldl_reaches (Q := State.takesFrames b e) hj (fun u i hu => State.queueGroup_takes b i _ _ hu) (fun u hu => ?_)
    (fun u i hu hw => State.queueGroup_frameWaits b i hu hw) t ht
  rw [hu.2]
  exact State.queueGroup_waits b j _ _ u hu.1

theorem State.busSet_iff (s : State) (b : Fin 4) : b ∈ s.busSet ↔ b.val < s.fuses.variant.buses ∧ s.mb.bus[b].fcs ≠ .off := by
  unfold State.busSet
  simp only [List.mem_filter, List.mem_finRange, true_and, Bool.and_eq_true, decide_eq_true_eq, bne_iff_ne]

theorem groupFrameRelease_sends (s : State) (hon : s.canopyOn = true) (r : TickResult) (hr : s.cnp.ready = some r)
    (hrole : s.seam.role ≠ .taking) (hticks : 0 < s.cnp.ticks) :
    ∃ t, exec .groupFrameRelease s = .next t ∧
      t.cnp.sent = some r ∧ t.cnp.ready = none ∧ t.cnp.cntBudget = s.cnp.cntBudget ∧ t.mb.seq = s.seqNow ∧
      ∀ b : Fin 4, b.val < s.fuses.variant.buses → s.mb.bus[b].fcs ≠ .off → s.mb.bus[b].fcs ≠ .busOff →
        ∀ j : Fin 4, j.val ∈ groupsOf b r.entries →
          t.mb.bus[b].txGrp[j] = some { id := 0x010 + j.val, data := groupFrame s.mb.epoch s.seqNow b j r.entries, seq := s.seqNow } := by
  have hbefore := s.sending_released r
  simp only [State.released, Prod.mk.injEq] at hbefore
  obtain ⟨hsent, hready, hcnt, htk, -, hepoch⟩ := hbefore
  have hseq : (s.sending r).seqNow = s.seqNow := State.seqNow_congr htk
  have hafter : ((s.sending r).sendGroups r.entries).released =
      State.released { s.sending r with mb := { (s.sending r).mb with seq := (s.sending r).seqNow } } := by
    rw [State.sendGroups_eq]
    exact foldl_view (fun t b => State.sendBus_released ..) _ _
  simp only [State.released, Prod.mk.injEq] at hafter
  obtain ⟨asent, aready, acnt, -, aseq, -⟩ := hafter
  refine ⟨s.releaseFrames, congrArg Host.Outcome.next (State.onlyIf_of (by simp [hon, hrole, hticks]) _ s), ?_⟩
  rw [State.releaseFrames_of_ready s r hr]
  refine ⟨asent.trans hsent, aready.trans hready, acnt.trans hcnt, aseq.trans hseq, fun b hb hoff hbus j hj => ?_⟩
  have hfcs : (s.sending r).mb.bus[b].fcs = s.mb.bus[b].fcs := State.withdrawWaiting_fcs b s
  have hfuses : (s.sending r).fuses = s.fuses := (State.withdrawWaiting_moves s).frame.get .fuses (by decide)
  have hwaits := State.sendGroups_frameWaits (s := s.sending r) (e := s.mb.epoch)
    ((State.busSet_iff _ b).2 ⟨hfuses ▸ hb, hfcs ▸ hoff⟩) hj ⟨hfcs ▸ hbus, hepoch⟩
  rw [hseq] at hwaits
  exact hwaits

/-- Settles O12: the tick through the registers that only its frame changes, the end of a solve through the publication of its result,
and the release through the frames that each bus queues. -/
theorem canopyTicksAndSolves : Obligations.CanopyTicksAndSolves := by
  unfold Obligations.CanopyTicksAndSolves
  intro s h
  exact ⟨canopyTick_counts s h,
    fun w us x hw hu => ⟨solveComplete_optimum s h w us x hw hu, solveComplete_certificate s h w us x hw hu⟩,
    fun w x hw hat => solveBudgetExpired_ends s h w x hw hat,
    fun r hr hrole hticks => groupFrameRelease_sends s h r hr hrole hticks⟩

end Sys2Proof.Machine
end

section
/-! ## The timers of Canopy's modules, ports, intake and buffer (O13: `CanopyTimersAct`) -/

namespace Sys2Proof.Machine

theorem CnpIn.mem_model_lt {i : CnpIn} {c : Canopy} {n : Nat} (h : n ∈ i.model c) : n < 256 :=
  List.mem_range.1 (List.mem_filter.1 h).1

/-- The module that R47 chooses is one of the model. -/
theorem releaseChoice_lt {i : CnpIn} {c : Canopy} {p : Nat} {ok : Nat → Bool} {n : Nat} (h : releaseChoice i c p ok = some n) :
    n < 256 := by
  have hall : ∀ m, releaseChoice i c p ok = some m → m < 256 := by
    unfold releaseChoice
    refine List.foldlRecOn (motive := fun best : Option Nat => ∀ m, best = some m → m < 256) _ _ (fun _ hm => nomatch hm)
      (fun best hbest x hx m hm => ?_)
    have hx256 : x < 256 := CnpIn.mem_model_lt (List.mem_filter.1 (List.mem_filter.1 hx).1).1
    cases best with
    | none => exact Option.some.inj hm ▸ hx256
    | some b =>
      have hcases : some x = some m ∨ some b = some m := by
        by_cases hreach : reach (i.mcfg b).mask ≤ reach (i.mcfg x).mask
        · exact .inl ((if_pos hreach).symm.trans hm)
        · exact .inr ((if_neg hreach).symm.trans hm)
      exact hcases.elim (fun hxm => Option.some.inj hxm ▸ hx256) (hbest m)
  exact hall n h

theorem State.releaseOne_of_choice {p : Fin 12} {s : State} {n : Nat} (h : releaseChoice s.cnpIn s.cnp p (fun _ => true) = some n) :
    s.releaseOne p = { s with cnp := { s.cnp with
      mods := updN s.cnp.mods n CnpModSt.letGo
      ports := upd s.cnp.ports p (fun q => { q with relTicks := 0 }) } } := by
  unfold State.releaseOne
  rw [h]

theorem releaseHoldExpiry_releases (s : State) (p : Fin 12) (n : Nat) (hdue : s.releaseDue p = true)
    (hn : releaseChoice s.cnpIn s.cnp p (fun _ => true) = some n) :
    ∃ t, exec (.releaseHoldExpiry p) s = .next t ∧ t.cnp.ports[p] = { s.cnp.ports[p] with relTicks := 0 } ∧
      t.cnp.mod n = { s.cnp.mod n with st := .releasing, byRule := true } ∧ ∀ m, m ≠ n → t.cnp.mod m = s.cnp.mod m := by
  have hlt : n < 256 := releaseChoice_lt hn
  refine ⟨s.releaseOne p, congrArg Host.Outcome.next (State.onlyIf_of hdue _ s), ?_⟩
  rw [State.releaseOne_of_choice hn]
  exact ⟨upd_same _ _ _, atD_updN_same _ _ _ hlt, fun m hm => atD_updN_ne _ _ _ (Ne.symm hm)⟩

section
variable (s : State) (h : s.canopyOn = true)
include h

theorem selectionTimeout_unselects (pm : Fin 256) (hst : s.cnp.mods[pm].st = .engaging)
    (hat : s.cnp.mods[pm].engagedAt + (s.cfg.cnpGlobal.getD {}).tSel * 1000 ≤ s.mono) :
    ∃ t, exec (.selectionTimeout pm) s = .next t ∧ t.told .selectionTimeout ∧
      t.cnp.mods[pm] = { s.cnp.mods[pm] with st := .free, sel := 0xF, selFail := satInc 4 s.cnp.mods[pm].selFail } := by
  have hlate : s.selectionLate pm = true := by
    unfold State.selectionLate
    rw [atD_val]
    simp only [h, hst, State.passed, Bool.true_and, beq_self_eq_true, decide_eq_true_eq]
    exact hat
  refine ⟨_, congrArg Host.Outcome.next (State.onlyIf_of hlate _ s),
    State.raiseAt_told _ _ _ ((State.up_congr (s := s) rfl).trans (State.up_of_canopyOn h)), ?_⟩
  exact (congrArg (fun c : Canopy => c.mods[pm]) (State.raiseAt_cnp ..)).trans (upd_same _ _ _)

theorem blockRelease_frees (pm : Fin 256) (t0 : Nat) (hst : s.cnp.mods[pm].st = .blocked) (hlost : s.cnp.mods[pm].lost = false)
    (hhold : s.cnp.mods[pm].holdUntil ≤ s.mono) (hok : s.cnp.mods[pm].okSince = some t0) (ht0 : t0 + 10000000 ≤ s.mono) :
    ∃ t, exec (.blockRelease pm) s = .next t ∧
      t.cnp.mods[pm] = { s.cnp.mods[pm] with st := .free, holdUntil := 0, okSince := none } := by
  have hover : s.cnp.mods[pm].blockOver s.mono = true := by
    unfold CnpModSt.blockOver
    rw [hst, hlost, hok, decide_eq_true hhold]
    simp [ht0]
  exact ⟨_, congrArg Host.Outcome.next (State.onlyIf_of (Bool.and_eq_true_iff.2 ⟨h, hover⟩) _ s), upd_same _ _ _⟩

theorem ceilingRefExpiry_drops (p : Fin 12) (i : Int) (href : s.cnp.ports[p].ceilRef = some i) (ht : 250 ≤ s.cnp.ports[p].ceilTicks) :
    ∃ t, exec (.ceilingRefExpiry p) s = .next t ∧ t.cnp.ports[p] = { s.cnp.ports[p] with ceilRef := none, ceilTicks := 0 } := by
  have hc : (s.canopyOn && (s.cnp.ports[p]).ceilRef.isSome && decide (250 ≤ (s.cnp.ports[p]).ceilTicks)) = true := by
    rw [h, href, decide_eq_true ht]
    rfl
  exact ⟨_, congrArg Host.Outcome.next (State.onlyIf_of hc _ s), upd_same _ _ _⟩

/-- A new measurement: U takes a larger sample at once, L_x follows, and the trim stays. -/
theorem intakeMeasurement_measures (hsrc : (s.cfg.cnpIntake.getD {}).srcHost = false) (w : Int) :
    ∃ t, exec (.intakeMeasurement w) s = .next t ∧
      t.cnp.pMeas = (w : Rat) / 1000 ∧ t.cnp.measAt = s.mono ∧ t.cnp.measStale = false ∧
      t.cnp.lx = t.cnp.u + ((s.cfg.cnpIntake.getD {}).gMargin : Rat) + s.cnp.tau ∧
      ((s.cnp.measStale = true ∨ s.cnp.u < (w : Rat) / 1000 - s.cnpIn.pModel s.cnp) →
        t.cnp.u = max 0 ((w : Rat) / 1000 - s.cnpIn.pModel s.cnp)) := by
  have hc : (s.canopyOn && !(s.cfg.cnpIntake.getD {}).srcHost) = true := by rw [h, hsrc]; rfl
  refine ⟨_, congrArg Host.Outcome.next (State.onlyIf_of hc _ s), rfl, rfl, rfl, rfl, fun hlarge => ?_⟩
  exact congrArg (max 0) (if_pos hlarge)

theorem intakeStale_raises (hst : s.cnp.measStale = false)
    (hat : s.cnp.measAt + (s.cfg.cnpIntake.getD {}).measTmo * 1000 ≤ s.mono) :
    ∃ t, exec .intakeStale s = .next t ∧ t.told .intakeStale ∧ t.cnp.measStale = true ∧ t.cnp.tau = s.cnp.tau ∧
      t.cnp.lx = ((s.cfg.cnpIntake.getD {}).lStale : Rat) / 10 := by
  have hlate : s.intakeLate = true := by
    unfold State.intakeLate
    rw [h, hst]
    exact decide_eq_true hat
  have hcnp : s.intakeLost.cnp = { s.cnp with measStale := true, lx := ((s.cfg.cnpIntake.getD {}).lStale : Rat) / 10 } :=
    State.raise_cnp ..
  refine ⟨_, congrArg Host.Outcome.next (State.onlyIf_of hlate _ s),
    State.raise_told _ _ ((State.up_congr (s := s) rfl).trans (State.up_of_canopyOn h)), ?_⟩
  rw [hcnp]
  exact ⟨rfl, rfl, rfl⟩

theorem bufferStale_raises (hb : s.hasBuffer = true) (hst : s.cnp.socStale = false)
    (hat : s.cnp.socAt + (s.cfg.cnpBuffer.getD {}).socTmo * 100000 ≤ s.mono) :
    ∃ t, exec .bufferStale s = .next t ∧ t.told .bufferStale ∧ t.cnp = { s.cnp with socStale := true } := by
  have hlate : s.socLate = true := by
    unfold State.socLate
    rw [h, hb, hst,
      show State.passed s.cnp.socAt ((s.cfg.cnpBuffer.getD {}).socTmo * 100000) s = true from decide_eq_true hat]
    rfl
  exact ⟨_, congrArg Host.Outcome.next (State.onlyIf_of hlate _ s),
    State.raise_told _ _ ((State.up_congr (s := s) rfl).trans (State.up_of_canopyOn h)), State.raise_cnp ..⟩

end

/-- Settles O13: each timer's condition holds, and its operation gives the fields. -/
theorem canopyTimersAct : Obligations.CanopyTimersAct := by
  unfold Obligations.CanopyTimersAct
  intro s h
  exact ⟨selectionTimeout_unselects s h, releaseHoldExpiry_releases s, blockRelease_frees s h, ceilingRefExpiry_drops s h,
    intakeMeasurement_measures s h, intakeStale_raises s h, bufferStale_raises s h⟩

end Sys2Proof.Machine
end

section
/-! ## Receipt and transmission on a module bus (O15: `BusMovesFrames`) -/

namespace Sys2Proof.Machine

/-! ### What has been sent -/

theorem Sends.emit (o : Out) (s : State) : Sends o s (s.emit o) := ⟨[o], rfl, List.mem_singleton_self o⟩

theorem Sends.after {o : Out} {s t u : State} (h : Sends o s t) (hu : t.out <+: u.out) : Sends o s u := by
  obtain ⟨l, hl, ho⟩ := h
  obtain ⟨k, hk⟩ := hu
  exact ⟨l ++ k, by rw [← hk, hl, List.append_assoc], List.mem_append_left _ ho⟩

theorem Sends.before {o : Out} {s t u : State} (hs : s.out <+: t.out) (h : Sends o t u) : Sends o s u := by
  obtain ⟨l, hl, ho⟩ := h
  obtain ⟨k, hk⟩ := hs
  exact ⟨k ++ l, by rw [hl, ← hk, List.append_assoc], List.mem_append_right _ ho⟩

theorem State.canSend_sends (b : Fin 4) (id : Nat) (data : List Byte) (s : State) : Sends (.can b id data) s (s.canSend b id data) :=
  Sends.emit (.can b id data) (s.busMod b _)

/-! ### What the end of an attempt leaves of a controller's buffers -/

/-- A view of a controller that sees neither what it offers, nor its error counters, nor its load. -/
structure MBus.Steady {β : Type} (view : MBus → β) : Prop where
  offered : ∀ (m : MBus) o, view { m with offered := o } = view m
  counters : ∀ (m : MBus) t r f n, view { m with tec := t, recv := r, fcs := f, boff := n } = view m
  load : ∀ now cycles (m : MBus), view (MBus.busy now cycles m) = view m

section
variable {β : Type} {view : MBus → β} (hv : MBus.Steady view)
include hv

theorem MBus.Steady.confine (t r : Nat) (m : MBus) : view (MBus.confine t r m) = view m := by
  unfold MBus.confine
  extract_lets d
  have hd : view d = view m := hv.counters m _ _ m.fcs m.boff
  split
  · exact hd
  · split
    · exact (hv.counters d _ _ _ _).trans hd
    · exact (hv.counters d d.tec d.recv _ d.boff).trans hd

theorem State.confine_view (b : Fin 4) (t r : Nat) (s : State) : view (s.confine b t r).mb.bus[b] = view s.mb.bus[b] := by
  have h : view (s.busMod b (MBus.confine t r)).mb.bus[b] = view s.mb.bus[b] :=
    (congrArg view (State.busMod_same ..)).trans (hv.confine ..)
  unfold State.confine
  extract_lets u
  rw [apply_ite (fun w : State => view w.mb.bus[b]), State.raiseAt_mb, ite_self]
  exact h

theorem State.countTx_view (b : Fin 4) (r : TxResult) (w : TxFlaw) (s : State) :
    view (s.countTx b r w).mb.bus[b] = view s.mb.bus[b] := State.confine_view hv ..

theorem State.offers_view (b : Fin 4) (s : State) : view (s.offers b).mb.bus[b] = view s.mb.bus[b] :=
  (congrArg view (State.offers_same ..)).trans (hv.offered ..)

theorem State.oneShot_view (b : Fin 4) (slot : Nat) (r : TxResult) (w : TxFlaw) (s : State) :
    view (s.oneShot b slot r w).mb.bus[b] = view (s.attemptEnd b slot r w).mb.bus[b] := by
  unfold State.oneShot
  rw [State.offers_view hv]
  exact (congrArg view (State.busMod_same ..)).trans (hv.offered ..)

theorem State.canSend_view (b : Fin 4) (id : Nat) (data : List Byte) (s : State) :
    view (s.canSend b id data).mb.bus[b] = view s.mb.bus[b] :=
  (congrArg view (State.busMod_same ..)).trans (hv.load ..)

end

theorem State.oneShot_sends {o : Out} (b : Fin 4) (slot : Nat) (r : TxResult) (w : TxFlaw) (s : State)
    (h : Sends o s (s.attemptEnd b slot r w)) : Sends o s (s.oneShot b slot r w) := h.after List.prefix_rfl

/-! ### The end of an attempt for a group frame -/

theorem atD_fin {α : Type} {n : Nat} {v : Vector α n} {i : Fin n} {a : α} (d : α) (h : v[i] = a) : atD v i d = a :=
  (atD_val v i d).trans h

theorem State.attemptEnd_group {b j : Fin 4} {s : State} {f : TxFrame} (hf : s.mb.bus[b].txGrp[j] = some f) (r : TxResult) (w : TxFlaw) :
    s.attemptEnd b j r w =
      if r = .ok then ((s.groupResult b j r f).countTx b r w).expectEcho b j f.data else (s.groupResult b j r f).countTx b r w := by
  have hat : atD s.mb.bus[b].txGrp j none = some f := atD_fin none hf
  unfold State.attemptEnd
  rw [if_neg (by omega), if_neg (by omega)]
  split
  · next h => cases hat.symm.trans h
  · next g h =>
    cases hat.symm.trans h
    unfold State.oneShotGroup
    split
    · next h' => cases hat.symm.trans h'
    · next g' h' =>
      cases hat.symm.trans h'
      rfl


theorem State.expectEcho_out (b : Fin 4) (j : Nat) (data : List Byte) (s : State) : (s.expectEcho b j data).out = s.out := by
  unfold State.expectEcho
  exact State.onlyIf_keeps (view := State.out) _ s rfl

theorem State.oneShot_group_view {β : Type} {view : MBus → β} (hv : MBus.Steady view) {b j : Fin 4} {s : State} {f : TxFrame}
    (hf : s.mb.bus[b].txGrp[j] = some f) (r : TxResult) (w : TxFlaw) :
    view (s.oneShot b j r w).mb.bus[b] = view (s.mb.bus[b].groupDone j r f (s.tb % 2 ^ 32)) := by
  have hcount : view ((s.groupResult b j r f).countTx b r w).mb.bus[b] = view (s.mb.bus[b].groupDone j r f (s.tb % 2 ^ 32)) := by
    rw [State.countTx_view hv]
    obtain ⟨now, cycles, h⟩ := s.groupResult_same b j r f
    rw [h]
    split
    · exact hv.load ..
    · rfl
  rw [State.oneShot_view hv, State.attemptEnd_group hf]
  split
  · exact (congrArg (fun u : BusUnit => view u.bus[b]) (State.expectEcho_mb ..)).trans hcount
  · exact hcount

theorem State.groupResult_sends {b : Fin 4} {j : Nat} {f : TxFrame} {s : State} : Sends (.can b f.id f.data) s (s.groupResult b j .ok f) := by
  obtain ⟨u, hu, hres⟩ : ∃ u : State, u.out = s.out ∧ s.groupResult b j .ok f = u.canSend b f.id f.data := by
    refine ⟨_, ?_, rfl⟩
    exact (apply_ite State.out ..).trans (ite_self _)
  have h := State.canSend_sends b f.id f.data u
  rw [hres]
  obtain ⟨l, hl, ho⟩ := h
  exact ⟨l, hu ▸ hl, ho⟩

theorem oneShotResult_group_ok {b j : Fin 4} {s : State} {f : TxFrame} (hf : s.mb.bus[b].txGrp[j] = some f) (w : TxFlaw) :
    (s.oneShot b j .ok w).mb.bus[b].txGrp[j] = none ∧
      (s.oneShot b j .ok w).mb.bus[b].grpTx[j] = { result := .ok, seq := f.seq, ts := s.tb % 2 ^ 32 } ∧
      Sends (.can b f.id f.data) s (s.oneShot b j .ok w) := by
  refine ⟨?_, ?_, State.oneShot_sends _ _ _ _ _ ?_⟩
  · exact (State.oneShot_group_view (view := fun m => m.txGrp[j]) ⟨fun _ _ => rfl, fun _ _ _ _ _ => rfl, fun _ _ _ => rfl⟩ hf _ _).trans
      (updN_same _ _ _ j.isLt)
  · exact (State.oneShot_group_view (view := fun m => m.grpTx[j]) ⟨fun _ _ => rfl, fun _ _ _ _ _ => rfl, fun _ _ _ => rfl⟩ hf _ _).trans
      (updN_same _ _ _ j.isLt)
  · rw [State.attemptEnd_group hf, if_pos rfl]
    refine Sends.after (t := s.groupResult b j .ok f) State.groupResult_sends ?_
    rw [State.expectEcho_out]
    exact (State.countTx_moves ..).sent

/-! ### Setpoints go back where the frame was lost (R105) -/

/-- A module whose frame was not sent goes back to the setpoint last sent. -/
def CnpModSt.takeBack (m : CnpModSt) : CnpModSt := { m with sp := m.okSp }

theorem State.groupEnded_lost (b : Fin 4) (j : Fin 4) (e : Fin 16) (data : List Byte) (s : State) :
    ((s.groupEnded b j false data).cnp.mod (64 * b.val + 16 * j.val + e.val)).sp =
      (s.cnp.mod (64 * b.val + 16 * j.val + e.val)).okSp := by
  let pm := 64 * b.val + 16 * j.val + e.val
  have hlt : pm < 256 := by omega
  have hfold : (s.groupEnded b j false data).cnp =
      (List.range 16).foldl (fun c i => c.setMod (64 * b.val + 16 * j.val + i) CnpModSt.takeBack) s.cnp := rfl
  rw [hfold]
  refine foldl_reaches (Q := fun c : Canopy => (c.mod pm).okSp = (s.cnp.mod pm).okSp)
    (P := fun c : Canopy => (c.mod pm).sp = (s.cnp.mod pm).okSp) (x := e.val) (List.mem_range.2 e.isLt)
    (fun c i hc => ?_) (fun c hc => ?_) (fun c i hc hp => ?_) s.cnp rfl
  · exact (atD_updN_keeps CnpModSt.okSp _ _ _ CnpModSt.takeBack _ (fun _ => rfl)).trans hc
  · exact (congrArg CnpModSt.sp (atD_updN_same _ CnpModSt.takeBack _ hlt)).trans hc
  · by_cases hi : 64 * b.val + 16 * j.val + i = pm
    · rw [hi]
      exact (congrArg CnpModSt.sp (atD_updN_same _ CnpModSt.takeBack _ hlt)).trans hc
    · exact (congrArg CnpModSt.sp (atD_updN_ne _ CnpModSt.takeBack _ hi)).trans hp

theorem oneShotResult_group_lost {b j : Fin 4} {s : State} {f : TxFrame} (hf : s.mb.bus[b].txGrp[j] = some f) (w : TxFlaw)
    (hon : s.up = true) (hact : s.standby = false) (e : Fin 16) :
    (s.oneShot b j .arbLost w).mb.bus[b].txGrp[j] = none ∧
      (s.oneShot b j .arbLost w).mb.bus[b].arb = satInc 16 s.mb.bus[b].arb ∧ (s.oneShot b j .arbLost w).told .oneShotFail ∧
      ((s.oneShot b j .arbLost w).cnp.mod (64 * b.val + 16 * j.val + e.val)).sp =
        (s.cnp.mod (64 * b.val + 16 * j.val + e.val)).okSp := by
  have hend : s.attemptEnd b j .arbLost w = (s.groupResult b j .arbLost f).countTx b .arbLost w :=
    (State.attemptEnd_group hf _ _).trans (if_neg (by decide))
  have hlost : s.groupResult b j .arbLost f =
      ((s.busMod b (MBus.groupDone j .arbLost f (s.tb % 2 ^ 32))).groupEnded b j false f.data).raiseAt .oneShotFail b := by
    unfold State.groupResult
    have hstand : (s.busMod b (MBus.groupDone j .arbLost f (s.tb % 2 ^ 32))).standby = false := hact
    exact (if_neg (by decide)).trans (congrArg (fun t : State => t.raiseAt .oneShotFail b) (if_neg (Bool.eq_false_iff.1 hstand)))
  refine ⟨?_, ?_, ?_, ?_⟩
  · exact (State.oneShot_group_view (view := fun m => m.txGrp[j]) ⟨fun _ _ => rfl, fun _ _ _ _ _ => rfl, fun _ _ _ => rfl⟩ hf _ _).trans
      (updN_same _ _ _ j.isLt)
  · exact State.oneShot_group_view (view := MBus.arb) ⟨fun _ _ => rfl, fun _ _ _ _ _ => rfl, fun _ _ _ => rfl⟩ hf _ _
  · have htold : (s.attemptEnd b j .arbLost w).told .oneShotFail := by
      rw [hend, hlost]
      unfold State.countTx State.confine
      extract_lets m t
      have ht : t.told .oneShotFail := State.raiseAt_told _ _ _ ((State.up_congr (s := s) rfl).trans hon)
      split
      · exact State.told_raiseAt _ _ ht
      · exact ht
    exact htold
  · have hcnp : (s.oneShot b j .arbLost w).cnp = ((s.busMod b (MBus.groupDone j .arbLost f (s.tb % 2 ^ 32))).groupEnded b j false f.data).cnp := by
      have hcount : ((s.groupResult b j .arbLost f).countTx b .arbLost w).cnp = (s.groupResult b j .arbLost f).cnp :=
        (State.countTx_moves ..).frame.get .cnp (by decide)
      refine (congrArg State.cnp hend).trans (hcount.trans ?_)
      rw [hlost, State.raiseAt_cnp]
    rw [hcnp]
    exact State.groupEnded_lost b j e f.data _

/-! ### The end of an attempt for a HOLD, limit or management frame -/

theorem State.oneShot_hold (b : Fin 4) (f : TxFrame) (rest : List TxFrame) (w : TxFlaw) (s : State) (hf : s.mb.bus[b].txHold = f :: rest) :
    (s.oneShot b 4 .ok w).mb.bus[b].txHold = rest ∧ Sends (.can b f.id f.data) s (s.oneShot b 4 .ok w) := by
  have hend : s.attemptEnd b 4 .ok w = (s.holdResult b .ok).countTx b .ok w := by
    unfold State.attemptEnd State.oneShotHold
    rw [if_neg (by decide), if_pos rfl, hf]
    rfl
  obtain ⟨u, hu, hbus, hres⟩ : ∃ u : State, u.out = s.out ∧ u.mb.bus[b].txHold = rest ∧ s.holdResult b .ok = u.canSend b f.id f.data := by
    unfold State.holdResult
    rw [hf]
    refine ⟨s.busMod b _, rfl, ?_, if_pos rfl⟩
    exact congrArg MBus.txHold (State.busMod_same ..)
  have hv : MBus.Steady MBus.txHold := ⟨fun _ _ => rfl, fun _ _ _ _ _ => rfl, fun _ _ _ => rfl⟩
  refine ⟨?_, State.oneShot_sends _ _ _ _ _ ?_⟩
  · rw [State.oneShot_view hv, hend, State.countTx_view hv, hres, State.canSend_view hv]
    exact hbus
  · rw [hend, hres]
    refine Sends.after (t := u.canSend b f.id f.data) ?_ (State.countTx_moves ..).sent
    exact Sends.before (hu ▸ List.prefix_rfl) (State.canSend_sends b f.id f.data u)

/-- The buffer of a frame that is sent again until it is sent (R103): slot 5 or 6. -/
def MBus.retried (slot : Nat) (m : MBus) : Option TxFrame := if slot = 5 then m.txLimit else m.txMgmt.head?

/-- The buffer once its frame has been sent. -/
def MBus.takeOut (slot : Nat) (m : MBus) : MBus := if slot = 5 then { m with txLimit := none } else { m with txMgmt := m.txMgmt.tail }

theorem State.attemptEnd_retry {b : Fin 4} {slot : Nat} (hslot : 5 ≤ slot) {f : TxFrame} {s : State}
    (hf : s.mb.bus[b].retried slot = some f) (r : TxResult) (w : TxFlaw) :
    s.attemptEnd b slot r w = (if r = .ok then (s.busMod b (MBus.takeOut slot)).canSend b f.id f.data else s).countTx b r w := by
  unfold State.attemptEnd State.retryResult
  rw [if_pos hslot]
  dsimp only
  split
  · next h => cases h.symm.trans hf
  · next g h =>
    cases h.symm.trans hf
    unfold MBus.takeOut
    split
    · rfl
    · rfl

theorem State.oneShot_retry_view {β : Type} {view : MBus → β} (hv : MBus.Steady view) {b : Fin 4} {slot : Nat} (hslot : 5 ≤ slot)
    {f : TxFrame} {s : State} (hf : s.mb.bus[b].retried slot = some f) (r : TxResult) (w : TxFlaw) :
    view (s.oneShot b slot r w).mb.bus[b] = if r = .ok then view (s.mb.bus[b].takeOut slot) else view s.mb.bus[b] := by
  rw [State.oneShot_view hv, State.attemptEnd_retry hslot hf, State.countTx_view hv]
  rw [apply_ite (fun u : State => view u.mb.bus[b]), State.canSend_view hv]
  exact if_congr Iff.rfl (congrArg view (State.busMod_same ..)) rfl

theorem State.oneShot_retry_sends {b : Fin 4} {slot : Nat} (hslot : 5 ≤ slot) {f : TxFrame} {s : State}
    (hf : s.mb.bus[b].retried slot = some f) (w : TxFlaw) : Sends (.can b f.id f.data) s (s.oneShot b slot .ok w) := by
  refine State.oneShot_sends _ _ _ _ _ ?_
  rw [State.attemptEnd_retry hslot hf, if_pos rfl]
  refine Sends.after (t := (s.busMod b (MBus.takeOut slot)).canSend b f.id f.data) ?_ (State.countTx_moves ..).sent
  exact Sends.before (List.prefix_rfl) (State.canSend_sends b f.id f.data (s.busMod b (MBus.takeOut slot)))

theorem State.oneShot_limit (b : Fin 4) (f : TxFrame) (r : TxResult) (w : TxFlaw) (s : State) (hf : s.mb.bus[b].txLimit = some f) :
    (s.oneShot b 5 r w).mb.bus[b].txLimit = (if r = .ok then none else some f) ∧
      (r = .ok → Sends (.can b f.id f.data) s (s.oneShot b 5 r w)) := by
  have hv : MBus.Steady MBus.txLimit := ⟨fun _ _ => rfl, fun _ _ _ _ _ => rfl, fun _ _ _ => rfl⟩
  have hheld : s.mb.bus[b].retried 5 = some f := hf
  refine ⟨?_, fun hr => hr ▸ State.oneShot_retry_sends (by decide) hheld w⟩
  exact (State.oneShot_retry_view hv (by decide) hheld r w).trans (if_congr Iff.rfl rfl hf)

theorem State.oneShot_mgmt (b : Fin 4) (f : TxFrame) (rest : List TxFrame) (r : TxResult) (w : TxFlaw) (s : State)
    (hf : s.mb.bus[b].txMgmt = f :: rest) :
    (s.oneShot b 6 r w).mb.bus[b].txMgmt = (if r = .ok then rest else f :: rest) ∧
      (r = .ok → Sends (.can b f.id f.data) s (s.oneShot b 6 r w)) := by
  have hv : MBus.Steady MBus.txMgmt := ⟨fun _ _ => rfl, fun _ _ _ _ _ => rfl, fun _ _ _ => rfl⟩
  have hhead : s.mb.bus[b].retried 6 = some f := congrArg List.head? hf
  refine ⟨?_, fun hr => hr ▸ State.oneShot_retry_sends (by decide) hhead w⟩
  exact (State.oneShot_retry_view hv (by decide) hhead r w).trans (if_congr Iff.rfl (congrArg List.tail hf) hf)

/-! ### Bus-off and the port limit frame -/

theorem State.up_of_busOn {b : Fin 4} {s : State} (h : s.busOn b = true) : s.up = true := by
  unfold State.busOn at h
  simp only [Bool.and_eq_true] at h
  exact h.1.2

theorem State.not_busOff_of_busOn {b : Fin 4} {s : State} (h : s.busOn b = true) : s.mb.bus[b].fcs ≠ .busOff := by
  intro hoff
  unfold State.busOn at h
  rw [hoff] at h
  simp at h

theorem busOff_enters (b : Fin 4) (s : State) (h : s.busOn b = true) :
    ∃ t, exec (.busOff b) s = .next t ∧ t.told .busOff ∧ t.mb.bus[b].fcs = .busOff ∧ t.mb.bus[b].boff = satInc 16 s.mb.bus[b].boff := by
  have hbus : ((s.busMod b MBus.enterOff).raiseAt .busOff b).mb.bus[b] = s.mb.bus[b].enterOff :=
    (congrArg (fun m : BusUnit => m.bus[b]) (State.raiseAt_mb ..)).trans (State.busMod_same ..)
  exact ⟨_, congrArg Host.Outcome.next (State.onlyIf_of h _ s),
    State.raiseAt_told _ _ _ ((State.up_congr (s := s) rfl).trans (State.up_of_busOn h)),
    congrArg MBus.fcs hbus, congrArg MBus.boff hbus⟩

theorem busOffRecovery_leaves (b : Fin 4) (s : State) (hup : s.up = true) (h : s.mb.bus[b].fcs = .busOff) :
    ∃ t, exec (.busOffRecovery b) s = .next t ∧ t.told .busRecovered ∧
      t.mb.bus[b] = { s.mb.bus[b] with fcs := .active, tec := 0, recv := 0 } := by
  have hc : (s.up && (s.mb.bus[b]).fcs == .busOff) = true := by rw [hup, h]; rfl
  exact ⟨_, congrArg Host.Outcome.next (State.onlyIf_of hc _ s),
    State.raiseAt_told _ _ _ ((State.up_congr (s := s) rfl).trans hup),
    (congrArg (fun m : BusUnit => m.bus[b]) (State.raiseAt_mb ..)).trans (State.busMod_same ..)⟩

theorem portLimitFrameSend_queues (b : Fin 4) (s : State) (hon : s.canopyOn = true) (hb : s.busOn b = true)
    (hdue : s.mb.bus[b].limitVals ≠ s.vlims ∨ ∀ t0, s.mb.bus[b].limitAt = some t0 → t0 + 10000 ≤ s.mono) :
    ∃ t, exec (.portLimitFrameSend b) s = .next t ∧ t.mb.bus[b].limitVals = s.vlims ∧ t.mb.bus[b].limitAt = some s.mono ∧
      t.mb.bus[b].txLimit = some { id := 0x020, data := limitFrame s.mb.epoch s.seqNow b s.vlims, seq := s.seqNow } := by
  have hc : s.limitDue b = true := by
    unfold State.limitDue
    rw [hon, hb]
    dsimp only
    rcases hdue with hvals | hat
    · simp only [bne_iff_ne.2 hvals, Bool.true_and, Bool.true_or]
    · split
      · next t0 h0 => simp only [State.passed, decide_eq_true (hat t0 h0), Bool.or_true, Bool.true_and]
      · simp only [Bool.or_true, Bool.true_and]
  let d : MBus := { s.mb.bus[b] with limitVals := s.vlims, limitAt := some s.mono }
  let e : MBus := { d with txLimit := some { id := 0x020, data := limitFrame s.mb.epoch s.seqNow b s.vlims, seq := s.seqNow } }
  have hbus : (s.sendLimits b).mb.bus[b] = e.offer := by
    unfold State.sendLimits State.queueLimit
    have hd : (s.busMod b (fun m => { m with limitVals := s.vlims, limitAt := some s.mono })).mb.bus[b] = d := State.busMod_same ..
    have hfcs : (s.busMod b (fun m => { m with limitVals := s.vlims, limitAt := some s.mono })).mb.bus[b].fcs ≠ .busOff := by
      rw [hd]
      exact State.not_busOff_of_busOn hb
    rw [if_neg hfcs, State.offers_same]
    refine congrArg MBus.offer ((State.busMod_same ..).trans ?_)
    rw [hd]
  exact ⟨_, congrArg Host.Outcome.next (State.onlyIf_of hc _ s), congrArg MBus.limitVals hbus, congrArg MBus.limitAt hbus,
    congrArg MBus.txLimit hbus⟩


/-! ### Receipt -/

/-- What a controller that hears a good frame has done before the frame is filtered: its load and its error counters are counted. -/
def State.heard (b : Fin 4) (f : CanFrame) (s : State) : State :=
  let s := s.busMod b (MBus.busy s.mono (80 * f.busTime))
  if s.listens b then s else s.confine b (s.mb.bus[b]).tec (recNext f.flaw (s.mb.bus[b]).recv)

theorem State.canReceive_of_good {b : Fin 4} {f : CanFrame} {s : State} (hon : s.busOn b = true) (hres : f.resRecessive = false)
    (hflaw : f.flaw = .none) : s.canReceive b f = (s.heard b f).canAccept b f := by
  unfold State.canReceive
  rw [hon, hres]
  exact if_pos hflaw

theorem State.heard_moves (b : Fin 4) (f : CanFrame) (s : State) : Moves [.thk, .mb, .hst, .out] s (s.heard b f) := by
  have hbusy : Moves [.thk, .mb, .hst, .out] s (s.busMod b (MBus.busy s.mono (80 * f.busTime))) :=
    (State.busMod_moves ..).weaken (by decide)
  unfold State.heard
  extract_lets t
  split
  · exact hbusy
  · exact (State.confine_moves ..).to (by decide) hbusy

theorem State.heard_view {β : Type} {view : MBus → β} (hv : MBus.Steady view) (b : Fin 4) (f : CanFrame) (s : State) :
    view (s.heard b f).mb.bus[b] = view s.mb.bus[b] := by
  have hbusy : view (s.busMod b (MBus.busy s.mono (80 * f.busTime))).mb.bus[b] = view s.mb.bus[b] :=
    (congrArg view (State.busMod_same ..)).trans (hv.load ..)
  unfold State.heard
  extract_lets t
  rw [apply_ite (fun u : State => view u.mb.bus[b]), State.confine_view hv, ite_self]
  exact hbusy

theorem State.heard_tb (b : Fin 4) (f : CanFrame) (s : State) : (s.heard b f).tb = s.tb :=
  (State.heard_moves b f s).frame.get .tb (by decide)

/-- The frame as the device keeps it. -/
def State.rxOf (f : CanFrame) (s : State) : RxFrame := { id := f.id, data := f.data, ts := s.tb % 2 ^ 32, at_ := s.mono }

/-- The identifier belongs to the high-priority buffer (R101). -/
def State.isPriority (b : Fin 4) (f : CanFrame) (s : State) : Bool := f.id &&& (s.busRec b).hpMask == (s.busRec b).hpId &&& (s.busRec b).hpMask


section
variable {b : Fin 4} {f : CanFrame} {s : State} (hext : f.ext = false) (hrtr : f.rtr = false)
include hext hrtr

theorem State.canAccept_of_base : s.canAccept b f =
    if !s.isPriority b f && !(s.mb.bus[b]).accepts f.id then (s, none)
    else if !profileOk b f.id f.data then (s.busMod b (fun m => { m with badLen := satInc 8 m.badLen }), none)
    else if s.isPriority b f then (s.highPriority b (s.rxOf f), some (s.rxOf f))
    else if isAnnounce f.id && !s.answersAnnounce then (s, none)
    else if 64 ≤ (s.mb.bus[b]).rxq.length then (s.busMod b (fun m => { m with ovf := satInc 8 m.ovf }), none)
    else (s.busMod b (fun m => { m with rxq := m.rxq ++ [s.rxOf f] }), none) := by
  unfold State.canAccept
  dsimp only
  rw [if_neg (by rw [hext, hrtr]; decide)]
  rfl

theorem State.canAccept_priority (hp : s.isPriority b f = true) (hprof : profileOk b f.id f.data = true) :
    s.canAccept b f = (s.highPriority b (s.rxOf f), some (s.rxOf f)) := by
  rw [State.canAccept_of_base hext hrtr, hp, hprof]
  rfl

section
variable (hp : s.isPriority b f = false) (hacc : (s.mb.bus[b]).accepts f.id = true)
include hp hacc

theorem State.canAccept_unfit (hprof : profileOk b f.id f.data = false) :
    s.canAccept b f = (s.busMod b (fun m => { m with badLen := satInc 8 m.badLen }), none) := by
  rw [State.canAccept_of_base hext hrtr, hp, hacc, hprof]
  rfl

theorem State.canAccept_queue (hprof : profileOk b f.id f.data = true) (hann : isAnnounce f.id = true → s.answersAnnounce = true) :
    s.canAccept b f =
      if 64 ≤ (s.mb.bus[b]).rxq.length then (s.busMod b (fun m => { m with ovf := satInc 8 m.ovf }), none)
      else (s.busMod b (fun m => { m with rxq := m.rxq ++ [s.rxOf f] }), none) := by
  have hann' : (isAnnounce f.id && !s.answersAnnounce) = false := by
    cases ha : isAnnounce f.id
    · rfl
    · rw [hann ha]; rfl
  rw [State.canAccept_of_base hext hrtr, hp, hacc, hprof, hann']
  rfl

end
end

/-! ### A priority frame goes on to the pair link -/

theorem State.told_seamMod {e : Ev} {s : State} (f : Seam → Seam) (h : s.told e) : (s.seamMod f).told e := h

theorem State.told_groupResult {e : Ev} {s : State} (b : Fin 4) (j : Nat) (r : TxResult) (f : TxFrame) (h : s.told e) :
    (s.groupResult b j r f).told e := by
  unfold State.groupResult
  extract_lets t u
  have ht : t.told e := h
  have hu : u.told e := by
    unfold u
    split
    · exact ht
    · exact ht
  split
  · exact hu
  · exact State.told_raiseAt _ _ hu

theorem State.told_judgeFit {e : Ev} {s : State} (h : s.told e) : s.judgeFit.told e := by
  unfold State.judgeFit
  extract_lets c fit t
  have ht : t.told e := h
  split
  · exact State.told_raise _ ht
  · exact ht

theorem State.told_echoHeard {e : Ev} {s : State} (b : Fin 4) (x : RxFrame) (h : s.told e) : (s.echoHeard b x).told e := by
  unfold State.echoHeard
  split
  · exact h
  · extract_lets g c e' q
    have hw : (s.withdrawGroup b g).told e := by
      unfold State.withdrawGroup
      split
      · exact h
      · exact State.told_groupResult b g _ _ h
    split
    · split
      · exact hw
      · exact h
    · split
      · split
        · split
          · exact h
          · split
            · exact h
            · exact State.told_judgeFit h
        · exact h
      · exact h

theorem State.echoHeard_view {β : Type} {view : MBus → β} (hv : MBus.Steady view)
    (hdone : ∀ j r f ts m, view (MBus.groupDone j r f ts m) = view m) (b : Fin 4) (x : RxFrame) (s : State) :
    view (s.echoHeard b x).mb.bus[b] = view s.mb.bus[b] := by
  have hw (g : Nat) : view (s.withdrawGroup b g).mb.bus[b] = view s.mb.bus[b] := by
    unfold State.withdrawGroup
    split
    · rfl
    · exact (State.offers_view hv ..).trans (State.groupResult_keeps hv.load b g _ _ s (hdone ..))
  have hmb {t u : State} (h : t.mb = u.mb) : view t.mb.bus[b] = view u.mb.bus[b] := congrArg (fun m : BusUnit => view m.bus[b]) h
  unfold State.echoHeard
  split
  · rfl
  · extract_lets g c e q
    split
    · split
      · exact (hmb (State.echoMod_mb ..)).trans (hw g)
      · rfl
    · split
      · split
        · split
          · rfl
          · split
            · exact hmb (State.echoMod_mb ..)
            · exact (hmb (State.echoFail_mb ..)).trans (hmb (State.echoMod_mb ..))
        · rfl
      · rfl

/-! ### CAN_FRAME_RECEIVE -/

theorem State.frameIn_of_none {b : Fin 4} {f : CanFrame} {s t : State} (h : s.canReceive b f = (t, none)) : s.frameIn b f = t := by
  unfold State.frameIn
  rw [h]

theorem State.frameIn_of_some {b : Fin 4} {f : CanFrame} {s t : State} {x : RxFrame} (h : s.canReceive b f = (t, some x)) :
    s.frameIn b f = t.echoHeard b x := by
  unfold State.frameIn
  rw [h]

theorem State.heard_isPriority (b : Fin 4) (f : CanFrame) (s : State) : (s.heard b f).isPriority b f = s.isPriority b f := by
  unfold State.isPriority State.busRec
  rw [(State.heard_moves b f s).frame.get .cfg (by decide)]

section
variable {b : Fin 4} {f : CanFrame} {s : State} (hon : s.busOn b = true) (hres : f.resRecessive = false) (hflaw : f.flaw = .none)
  (hext : f.ext = false) (hrtr : f.rtr = false)
include hon hres hflaw hext hrtr

theorem canFrameReceive_priority (hp : s.isPriority b f = true) (hprof : profileOk b f.id f.data = true) :
    ∃ t, exec (.canFrameReceive b f) s = .next t ∧ t.told .priorityFrame ∧
      t.mb.bus[b].hpBuf = some { id := f.id, data := f.data, ts := s.tb % 2 ^ 32, at_ := s.mono } ∧ t.mb.bus[b].hpId = f.id ∧
      t.mb.bus[b].hpNew = true ∧ t.mb.bus[b].hpOvr = (s.mb.bus[b].hpOvr || s.mb.bus[b].hpNew) ∧
      t.mb.bus[b].rxq = s.mb.bus[b].rxq := by
  let u := s.heard b f
  have hx : u.rxOf f = s.rxOf f := by
    unfold State.rxOf
    rw [show u.tb = s.tb from State.heard_tb b f s, show u.mono = s.mono from (State.heard_moves b f s).frame.get .mono (by decide)]
  have hup : u.up = true := (State.up_congr ((State.heard_moves b f s).frame.get .rst (by decide))).trans (State.up_of_busOn hon)
  have hin : s.frameIn b f = (u.highPriority b (u.rxOf f)).echoHeard b (u.rxOf f) :=
    State.frameIn_of_some ((State.canReceive_of_good hon hres hflaw).trans
      (State.canAccept_priority hext hrtr ((State.heard_isPriority b f s).trans hp) hprof))
  have hbus : (u.highPriority b (u.rxOf f)).mb.bus[b] = { u.mb.bus[b] with
      hpBuf := some (u.rxOf f), hpId := f.id, hpTs := (u.rxOf f).ts, hpNew := true, hpOvr := u.mb.bus[b].hpOvr || u.mb.bus[b].hpNew } :=
    (congrArg (fun m : BusUnit => m.bus[b]) (State.raiseAt_mb ..)).trans (State.busMod_same ..)
  have hview {β : Type} (view : MBus → β) (hv : MBus.Steady view) (hd : ∀ j r f ts m, view (MBus.groupDone j r f ts m) = view m) :
      view (s.frameIn b f).mb.bus[b] = view (u.highPriority b (u.rxOf f)).mb.bus[b] := by
    rw [hin]
    exact State.echoHeard_view hv hd b _ _
  refine ⟨_, rfl, ?_, ?_, ?_, ?_, ?_, ?_⟩
  · rw [hin]
    exact State.told_echoHeard b _ (State.raiseAt_told _ _ _ ((State.up_congr (s := u) rfl).trans hup))
  · refine (hview MBus.hpBuf ⟨fun _ _ => rfl, fun _ _ _ _ _ => rfl, fun _ _ _ => rfl⟩ (fun _ _ _ _ _ => rfl)).trans ?_
    rw [hbus, hx]
    rfl
  · exact (hview MBus.hpId ⟨fun _ _ => rfl, fun _ _ _ _ _ => rfl, fun _ _ _ => rfl⟩ (fun _ _ _ _ _ => rfl)).trans
      (congrArg MBus.hpId hbus)
  · exact (hview MBus.hpNew ⟨fun _ _ => rfl, fun _ _ _ _ _ => rfl, fun _ _ _ => rfl⟩ (fun _ _ _ _ _ => rfl)).trans
      (congrArg MBus.hpNew hbus)
  · refine (hview MBus.hpOvr ⟨fun _ _ => rfl, fun _ _ _ _ _ => rfl, fun _ _ _ => rfl⟩ (fun _ _ _ _ _ => rfl)).trans ?_
    exact (congrArg MBus.hpOvr hbus).trans
      (State.heard_view (view := fun m => m.hpOvr || m.hpNew) ⟨fun _ _ => rfl, fun _ _ _ _ _ => rfl, fun _ _ _ => rfl⟩ b f s)
  · refine (hview MBus.rxq ⟨fun _ _ => rfl, fun _ _ _ _ _ => rfl, fun _ _ _ => rfl⟩ (fun _ _ _ _ _ => rfl)).trans ?_
    exact (congrArg MBus.rxq hbus).trans
      (State.heard_view (view := MBus.rxq) ⟨fun _ _ => rfl, fun _ _ _ _ _ => rfl, fun _ _ _ => rfl⟩ b f s)

theorem canFrameReceive_normal (hp : s.isPriority b f = false) (hacc : s.mb.bus[b].accepts f.id = true)
    (hann : isAnnounce f.id = true → s.answersAnnounce = true) :
    (profileOk b f.id f.data = true → s.mb.bus[b].rxq.length < 64 → ∃ t, exec (.canFrameReceive b f) s = .next t ∧
      t.mb.bus[b].rxq = s.mb.bus[b].rxq ++ [{ id := f.id, data := f.data, ts := s.tb % 2 ^ 32, at_ := s.mono }]) ∧
    (profileOk b f.id f.data = true → 64 ≤ s.mb.bus[b].rxq.length → ∃ t, exec (.canFrameReceive b f) s = .next t ∧
      t.mb.bus[b].rxq = s.mb.bus[b].rxq ∧ t.mb.bus[b].ovf = satInc 8 s.mb.bus[b].ovf) ∧
    (profileOk b f.id f.data = false → ∃ t, exec (.canFrameReceive b f) s = .next t ∧
      t.mb.bus[b].rxq = s.mb.bus[b].rxq ∧ t.mb.bus[b].badLen = satInc 8 s.mb.bus[b].badLen) := by
  let u := s.heard b f
  have hm := (State.heard_moves b f s).frame
  have hview {β : Type} (view : MBus → β) (hv : MBus.Steady view) : view u.mb.bus[b] = view s.mb.bus[b] := State.heard_view hv b f s
  have hrxq : u.mb.bus[b].rxq = s.mb.bus[b].rxq := hview MBus.rxq ⟨fun _ _ => rfl, fun _ _ _ _ _ => rfl, fun _ _ _ => rfl⟩
  have hovf : u.mb.bus[b].ovf = s.mb.bus[b].ovf := hview MBus.ovf ⟨fun _ _ => rfl, fun _ _ _ _ _ => rfl, fun _ _ _ => rfl⟩
  have hbad : u.mb.bus[b].badLen = s.mb.bus[b].badLen := hview MBus.badLen ⟨fun _ _ => rfl, fun _ _ _ _ _ => rfl, fun _ _ _ => rfl⟩
  have hacc' : u.mb.bus[b].accepts f.id = true :=
    (hview (MBus.accepts f.id) ⟨fun _ _ => rfl, fun _ _ _ _ _ => rfl, fun _ _ _ => rfl⟩).trans hacc
  have hp' : u.isPriority b f = false := (State.heard_isPriority b f s).trans hp
  have hann' : isAnnounce f.id = true → u.answersAnnounce = true := by
    intro ha
    rw [← hann ha]
    unfold State.answersAnnounce State.canopyOn State.cores State.standby
    rw [hm.get .rst (by decide), hm.get .cnp (by decide), hm.get .seam (by decide), hm.get .img (by decide)]
  have hrec := State.canReceive_of_good (b := b) (f := f) hon hres hflaw
  have hx : u.rxOf f = s.rxOf f := by
    unfold State.rxOf
    rw [show u.tb = s.tb from State.heard_tb b f s, show u.mono = s.mono from hm.get .mono (by decide)]
  refine ⟨fun hprof hlen => ⟨_, rfl, ?_⟩, fun hprof hlen => ⟨_, rfl, ?_⟩, fun hprof => ⟨_, rfl, ?_⟩⟩
  · have hin : s.frameIn b f = u.busMod b (fun m => { m with rxq := m.rxq ++ [u.rxOf f] }) :=
      State.frameIn_of_none (hrec.trans ((State.canAccept_queue hext hrtr hp' hacc' hprof hann').trans (if_neg (by rw [hrxq]; omega))))
    rw [hin]
    refine (congrArg MBus.rxq (State.busMod_same ..)).trans ?_
    rw [hx]
    exact congrArg (· ++ _) hrxq
  · have hin : s.frameIn b f = u.busMod b (fun m => { m with ovf := satInc 8 m.ovf }) :=
      State.frameIn_of_none (hrec.trans ((State.canAccept_queue hext hrtr hp' hacc' hprof hann').trans (if_pos (by rw [hrxq]; omega))))
    rw [hin]
    exact ⟨(congrArg MBus.rxq (State.busMod_same ..)).trans hrxq,
      (congrArg MBus.ovf (State.busMod_same ..)).trans (congrArg (satInc 8) hovf)⟩
  · have hin : s.frameIn b f = u.busMod b (fun m => { m with badLen := satInc 8 m.badLen }) :=
      State.frameIn_of_none (hrec.trans (State.canAccept_unfit hext hrtr hp' hacc' hprof))
    rw [hin]
    exact ⟨(congrArg MBus.rxq (State.busMod_same ..)).trans hrxq,
      (congrArg MBus.badLen (State.busMod_same ..)).trans (congrArg (satInc 8) hbad)⟩

end

/-! ### ONE_SHOT_RESULT -/

theorem exec_oneShotResult {b : Fin 4} {slot : Fin 7} {s : State} (hon : s.busOn b = true) (hl : s.listens b = false)
    (hend : s.mb.bus[b].mayEnd slot = true) (r : TxResult) (w : TxFlaw) :
    exec (.oneShotResult b slot r w) s = .next (s.oneShot b slot r w) :=
  congrArg Host.Outcome.next (State.onlyIf_of (by rw [hon, hl, hend]; rfl) _ s)

/-- Settles O15: received frames through what the controller keeps of them, attempts through the views that the error counters and the
offered frame do not touch. -/
theorem busMovesFrames : Obligations.BusMovesFrames := by
  unfold Obligations.BusMovesFrames
  refine ⟨fun s b f hon hres hflaw hext hrtr => ⟨fun hp hprof => ?_, fun hp hacc hann => ?_⟩, fun s b => ⟨?_, ?_, ?_, ?_, ?_, ?_, ?_⟩⟩
  · exact canFrameReceive_priority hon hres hflaw hext hrtr (beq_iff_eq.2 hp) hprof
  · exact canFrameReceive_normal hon hres hflaw hext hrtr (beq_eq_false_iff_ne.2 hp) hacc hann
  · intro hon hl j f w hf hend
    refine ⟨⟨_, exec_oneShotResult hon hl hend _ _, oneShotResult_group_ok hf w⟩, fun hact e => ?_⟩
    exact ⟨_, exec_oneShotResult hon hl hend _ _, oneShotResult_group_lost hf w (State.up_of_busOn hon) hact e⟩
  · exact fun hon hl f rest w hf hend => ⟨_, exec_oneShotResult hon hl hend _ _, State.oneShot_hold b f rest w s hf⟩
  · exact fun hon hl f r w hf hend => ⟨_, exec_oneShotResult hon hl hend _ _, State.oneShot_limit b f r w s hf⟩
  · exact fun hon hl f rest r w hf hend => ⟨_, exec_oneShotResult hon hl hend _ _, State.oneShot_mgmt b f rest r w s hf⟩
  · exact busOff_enters b s
  · exact busOffRecovery_leaves b s
  · exact portLimitFrameSend_queues b s

end Sys2Proof.Machine
end

section
/-! ## Status frames, lost modules and ANNOUNCE (O16: `BusJudgesModules`) -/

namespace Sys2Proof.Machine

/-! ### Taking a frame from the queue -/

/-- The frames of the receive queue that something reads. -/
def MBus.readable (m : MBus) : List RxFrame := m.rxq.filter (fun y => isStatus y.id || isAnnounce y.id)

theorem State.takeRx_of_find {b : Fin 4} {ok : Nat → Bool} {s : State} {x : RxFrame}
    (h : s.mb.bus[b].readable.find? (fun y => ok y.id) = some x) :
    s.takeRx b ok = some (x, s.busMod b (fun m => { m with rxq := s.mb.bus[b].readable.erase x })) := by
  unfold State.takeRx
  dsimp only
  split
  · next hn => cases hn.symm.trans h
  · next y hy =>
    cases hy.symm.trans h
    rfl

/-- The unit whose controller `b` has taken `x` from its queue. -/
def State.took (b : Fin 4) (x : RxFrame) (s : State) : State := s.busMod b (fun m => { m with rxq := s.mb.bus[b].readable.erase x })

def MBus.setRxq (q : List RxFrame) (m : MBus) : MBus := { m with rxq := q }

/-- A controller with the link of address `a` changed. -/
def MBus.modLink (a : Nat) (f : PmLink → PmLink) (m : MBus) : MBus := { m with link := updN m.link a f }

theorem State.took_same (b : Fin 4) (x : RxFrame) (s : State) :
    (s.took b x).mb.bus[b] = s.mb.bus[b].setRxq (s.mb.bus[b].readable.erase x) := State.busMod_same ..

theorem State.linkMod_same (b : Fin 4) (a : Nat) (f : PmLink → PmLink) (s : State) :
    (s.linkMod b a f).mb.bus[b] = s.mb.bus[b].modLink a f := State.busMod_same ..

theorem isStatus_lt {n : Nat} (h : isStatus n = true) : n - 0x100 < 64 := by
  unfold isStatus at h
  simp only [Bool.and_eq_true, decide_eq_true_eq] at h
  omega

theorem isAnnounce_lt {n : Nat} (h : isAnnounce n = true) : n - 0x740 < 64 := by
  unfold isAnnounce at h
  simp only [Bool.and_eq_true, decide_eq_true_eq] at h
  omega

/-! ### STATUS_FRAME -/

/-- What a status frame leaves of the link of its module, `g` frames having been missed. -/
def PmLink.hear (g : Nat) (t : ModStatus) (l : PmLink) : PmLink := { l with scnt := t.scnt, gaps := sat 8 (l.gaps + g), last := some t }

/-- A module declared lost (R22, R122). -/
def PmLink.lose (l : PmLink) : PmLink := { l with lost := true, admitted := false, fresh := false, gone := l.gone || l.admitted }

theorem exec_statusFrame {b : Fin 4} {s : State} {x : RxFrame} (hc : s.cores = true)
    (h : s.mb.bus[b].readable.find? (fun y => isStatus y.id) = some x) :
    exec (.statusFrame b) s = .next ((s.took b x).takeStatus b x) := by
  refine congrArg Host.Outcome.next ?_
  rw [hc]
  unfold State.took
  simp only [Bool.not_true, Bool.false_eq_true, if_false]
  rw [State.takeRx_of_find h]

/-- A new status frame of an admitted module: its link follows, and a departure loses the module. -/
theorem State.takeStatus_of_admitted {b : Fin 4} {x : RxFrame} {s : State} {a : Nat} (ha : x.id - 0x100 = a)
    (hadm : (atD s.mb.bus[b].link a {}).admitted = true)
    (hnew : (atD s.mb.bus[b].link a {}).last.map (·.scnt) ≠ some (statusOf x).scnt) :
    ∃ g u, u.mb = (s.linkMod b a (PmLink.hear g (statusOf x))).mb ∧
      s.takeStatus b x = if (statusOf x).depart then u.loseModule b a else u := by
  refine ⟨match (atD s.mb.bus[b].link a {}).last with
    | some o => scntGap o.scnt (statusOf x).scnt
    | none => 0, _, State.readStatus_mb (64 * b.val + a) (statusOf x) _, ?_⟩
  unfold State.takeStatus
  simp only [ha, hadm, Bool.not_true, Bool.false_eq_true, if_false, if_neg hnew]
  rfl

theorem State.linkMod_rxq (b : Fin 4) (a : Nat) (f : PmLink → PmLink) (s : State) :
    (s.linkMod b a f).mb.bus[b].rxq = s.mb.bus[b].rxq := (congrArg MBus.rxq (State.linkMod_same ..)).trans rfl

theorem State.linkMod_link (b : Fin 4) {a : Nat} (ha : a < 64) (f : PmLink → PmLink) (s : State) :
    atD (s.linkMod b a f).mb.bus[b].link a {} = f (atD s.mb.bus[b].link a {}) :=
  (congrArg (fun m : MBus => atD m.link a {}) (State.linkMod_same ..)).trans (atD_updN_same _ _ _ ha)

theorem State.bus_congr {β : Type} (view : MBus → β) {s t : State} (h : s.mb = t.mb) (b : Fin 4) :
    view s.mb.bus[b] = view t.mb.bus[b] := congrArg (fun m : BusUnit => view m.bus[b]) h

theorem State.took_link (b : Fin 4) (x : RxFrame) (s : State) : (s.took b x).mb.bus[b].link = s.mb.bus[b].link :=
  (congrArg MBus.link (State.took_same b x s)).trans rfl

theorem State.took_rxq (b : Fin 4) (x : RxFrame) (s : State) : (s.took b x).mb.bus[b].rxq = s.mb.bus[b].readable.erase x :=
  congrArg MBus.rxq (State.took_same b x s)

theorem statusFrame_hears {b : Fin 4} {x : RxFrame} {s : State} {a : Nat} (ha : x.id - 0x100 = a) (hc : s.cores = true)
    (h : s.mb.bus[b].readable.find? (fun y => isStatus y.id) = some x) (hadm : (atD s.mb.bus[b].link a {}).admitted = true)
    (hnew : (atD s.mb.bus[b].link a {}).last.map (·.scnt) ≠ some (statusOf x).scnt) :
    ∃ t, exec (.statusFrame b) s = .next t ∧
        t.mb.bus[b].rxq = s.mb.bus[b].readable.erase x ∧ (atD t.mb.bus[b].link a {}).last = some (statusOf x) ∧
        (atD t.mb.bus[b].link a {}).lost = ((statusOf x).depart || (atD s.mb.bus[b].link a {}).lost) ∧
        (atD t.mb.bus[b].link a {}).admitted = !(statusOf x).depart := by
  have hlt : a < 64 := ha ▸ isStatus_lt (by simpa using List.find?_some h)
  obtain ⟨g, u, hmb, hg⟩ := State.takeStatus_of_admitted (s := s.took b x) (b := b) ha
    (by rw [State.took_link]; exact hadm) (by rw [State.took_link]; exact hnew)
  refine ⟨_, exec_statusFrame hc h, ?_⟩
  rw [hg]
  have hrxq : u.mb.bus[b].rxq = s.mb.bus[b].readable.erase x :=
    (State.bus_congr MBus.rxq hmb b).trans ((State.linkMod_rxq ..).trans (State.took_rxq b x s))
  have hlink : atD u.mb.bus[b].link a {} = (atD s.mb.bus[b].link a {}).hear g (statusOf x) := by
    rw [State.bus_congr (fun m => atD m.link a {}) hmb b, State.linkMod_link b hlt, State.took_link]
  cases hd : (statusOf x).depart with
  | false =>
    refine ⟨hrxq, congrArg PmLink.last hlink, (congrArg PmLink.lost hlink).trans ?_, (congrArg PmLink.admitted hlink).trans hadm⟩
    exact (Bool.false_or _).symm
  | true =>
    have hlose := (State.linkMod_link b hlt PmLink.lose u).trans (congrArg PmLink.lose hlink)
    exact ⟨(State.linkMod_rxq ..).trans hrxq, congrArg PmLink.last hlose, congrArg PmLink.lost hlose, congrArg PmLink.admitted hlose⟩

/-- A frame of a module that is not admitted is counted (R121). -/
def MBus.countUnadmitted (m : MBus) : MBus := { m with unadm := satInc 8 m.unadm }

theorem statusFrame_counts {b : Fin 4} {x : RxFrame} {s : State} {a : Nat} (ha : x.id - 0x100 = a) (hc : s.cores = true)
    (h : s.mb.bus[b].readable.find? (fun y => isStatus y.id) = some x) (hadm : (atD s.mb.bus[b].link a {}).admitted = false) :
    ∃ t, exec (.statusFrame b) s = .next t ∧ t.mb.bus[b].rxq = s.mb.bus[b].readable.erase x ∧
      t.mb.bus[b].unadm = satInc 8 s.mb.bus[b].unadm ∧ t.mb.bus[b].link = s.mb.bus[b].link := by
  have htake : (s.took b x).takeStatus b x = (s.took b x).busMod b MBus.countUnadmitted := by
    unfold State.takeStatus
    simp only [ha, State.took_link, hadm, Bool.not_false, if_true]
    rfl
  have hbus : ((s.took b x).takeStatus b x).mb.bus[b] = (s.mb.bus[b].setRxq (s.mb.bus[b].readable.erase x)).countUnadmitted := by
    rw [htake, State.busMod_same, State.took_same]
  exact ⟨_, exec_statusFrame hc h, congrArg MBus.rxq hbus, (congrArg MBus.unadm hbus).trans rfl, (congrArg MBus.link hbus).trans rfl⟩

/-! ### MODULE_LOST_TIMEOUT -/

theorem moduleLostTimeout_loses (b : Fin 4) (a : Fin 64) (s : State) (m : ModStatus) (hc : s.cores = true)
    (hadm : s.mb.bus[b].link[a].admitted = true) (hlast : s.mb.bus[b].link[a].last = some m) (hat : m.at_ + 35000 < s.mono) :
    ∃ t, exec (.moduleLostTimeout (Fin.ofNat 256 (64 * b.val + a.val))) s = .next t ∧
      t.mb.bus[b].link[a] = { s.mb.bus[b].link[a] with lost := true, admitted := false, fresh := false, gone := true } := by
  have hpm : (Fin.ofNat 256 (64 * b.val + a.val)).val = 64 * b.val + a.val := Nat.mod_eq_of_lt (by omega)
  have hb : Fin.ofNat 4 ((Fin.ofNat 256 (64 * b.val + a.val)).val / 64) = b := by
    rw [hpm, Fin.ext_iff, Fin.ofNat_eq_cast, Fin.val_natCast]
    omega
  have ha : (Fin.ofNat 256 (64 * b.val + a.val)).val % 64 = a.val := by omega
  have hlink : s.linkOf (Fin.ofNat 256 (64 * b.val + a.val)).val = s.mb.bus[b].link[a] := by
    unfold State.linkOf
    rw [ha, show (Fin.ofNat 256 (64 * b.val + a.val)).val / 64 = b.val by omega, atD_val, atD_val]
  have hlate : s.statusLate (Fin.ofNat 256 (64 * b.val + a.val)).val = true := by
    unfold State.statusLate
    dsimp only
    rw [hlink, hc, hadm, hlast]
    exact decide_eq_true hat
  refine ⟨_, congrArg Host.Outcome.next (State.onlyIf_of hlate _ s), ?_⟩
  rw [hb, ha]
  have hlose : (s.loseModule b a).mb.bus[b].link[a] = s.mb.bus[b].link[a].lose :=
    (congrArg (fun m : MBus => m.link[a]) (State.linkMod_same ..)).trans (updN_same _ _ _ a.isLt)
  rw [hlose]
  unfold PmLink.lose
  rw [hadm, Bool.or_true]


/-! ### ANNOUNCE -/

/-- What is written to the buffer of management frames. -/
def MBus.queueMgmt (data : List Byte) (m : MBus) : MBus := { m with txMgmt := m.txMgmt ++ [{ id := 0x600, data := data }] }

theorem State.queueMgmt_same (b : Fin 4) (data : List Byte) (s : State) :
    (s.queueMgmt b data).mb.bus[b] = if s.mb.bus[b].fcs = .busOff then s.mb.bus[b] else (s.mb.bus[b].queueMgmt data).offer := by
  unfold State.queueMgmt
  rw [apply_ite (fun u : State => u.mb.bus[b])]
  exact if_congr Iff.rfl rfl ((State.offers_same ..).trans (congrArg MBus.offer (State.busMod_same ..)))

theorem State.queueMgmt_keeps {β : Type} {view : MBus → β} (hoffer : ∀ m, view (MBus.offer m) = view m)
    (hq : ∀ data m, view (MBus.queueMgmt data m) = view m) (b : Fin 4) (data : List Byte) (s : State) :
    view (s.queueMgmt b data).mb.bus[b] = view s.mb.bus[b] := by
  rw [State.queueMgmt_same]
  split
  · rfl
  · rw [hoffer, hq]

/-- A link whose module is admitted (R21, R124). -/
def PmLink.accept (serial : Nat) (l : PmLink) : PmLink :=
  { l with
    admitted := true, lost := false, refuse := 0, serial := serial, fresh := !l.admitted || l.fresh, announced := none,
    last := if l.admitted then l.last else none }

/-- A link whose module is refused (R124). -/
def PmLink.reject (res serial now : Nat) (l : PmLink) : PmLink :=
  { l with refuse := res, announced := if l.admitted then l.announced else some (serial, now) }

/-- The answer of an ANNOUNCE: the reply is queued, and the link follows the result. -/
def State.answerAnnounce (b : Fin 4) (a res serial : Nat) (s : State) : State :=
  let t := s.queueMgmt b (admitReply a res serial)
  if res = 0 then
    let u := t.linkMod b a (PmLink.accept serial)
    if (atD s.mb.bus[b].link a {}).admitted then u else u.raiseAt .partnerAdmitted (64 * b.val + a)
  else (t.linkMod b a (PmLink.reject res serial s.mono)).raiseAt .partnerRefused (64 * b.val + a)

theorem State.queueMgmt_mono (b : Fin 4) (data : List Byte) (s : State) : (s.queueMgmt b data).mono = s.mono :=
  (State.queueMgmt_moves b data s).frame.get .mono (by decide)

theorem State.takeAnnounce_eq {b : Fin 4} {x : RxFrame} {s : State} {a : Nat} (ha : x.id - 0x740 = a)
    (h : ¬(s.cnp.mode = .reduced ∧ (s.cfg.cnpModule.find? (fun r => r.pm == 64 * b.val + a)).isNone)) :
    s.takeAnnounce b x = s.answerAnnounce b a
      (announceResult (s.cfg.cnpModule.find? (fun r => r.pm == 64 * b.val + a)) (atD s.mb.bus[b].link a {}) s.mono (leAt x.data 4 8) x.data
        (s.modulesFull b ((s.cfg.cnpModule.find? (fun r => r.pm == 64 * b.val + a)).any (·.buf)))) (leAt x.data 4 8) := by
  unfold State.takeAnnounce State.answerAnnounce
  simp only [ha, if_neg h, State.queueMgmt_mono]
  rfl

theorem State.answerAnnounce_bus (b : Fin 4) (a res serial : Nat) (s : State) :
    ∃ f : PmLink → PmLink, (res = 0 → f = PmLink.accept serial) ∧ (res ≠ 0 → f = PmLink.reject res serial s.mono) ∧
      (s.answerAnnounce b a res serial).mb.bus[b] = (s.queueMgmt b (admitReply a res serial)).mb.bus[b].modLink a f := by
  have hmb {t u : State} (h : t.mb = u.mb) : t.mb.bus[b] = u.mb.bus[b] := congrArg (fun m : BusUnit => m.bus[b]) h
  unfold State.answerAnnounce
  by_cases h : res = 0
  · refine ⟨PmLink.accept serial, fun _ => rfl, fun hn => absurd h hn, ?_⟩
    simp only [if_pos h, apply_ite (fun t : State => t.mb.bus[b]), State.raiseAt_mb, ite_self]
    exact State.linkMod_same ..
  · refine ⟨PmLink.reject res serial s.mono, fun hn => absurd hn h, fun _ => rfl, ?_⟩
    simp only [if_neg h, State.raiseAt_mb]
    exact State.linkMod_same ..

theorem State.answerAnnounce_told (b : Fin 4) (a res serial : Nat) (s : State) (hup : s.up = true) :
    (res = 0 → (atD s.mb.bus[b].link a {}).admitted = false → (s.answerAnnounce b a res serial).told .partnerAdmitted) ∧
      (res ≠ 0 → (s.answerAnnounce b a res serial).told .partnerRefused) := by
  have hq : (s.queueMgmt b (admitReply a res serial)).up = true :=
    (State.up_congr ((State.queueMgmt_moves ..).frame.get .rst (by decide))).trans hup
  unfold State.answerAnnounce
  refine ⟨fun h hadm => ?_, fun h => ?_⟩
  · simp only [if_pos h, hadm, Bool.false_eq_true, if_false]
    exact State.raiseAt_told _ _ _ ((State.up_congr (s := s.queueMgmt b (admitReply a res serial)) rfl).trans hq)
  · simp only [if_neg h]
    exact State.raiseAt_told _ _ _ ((State.up_congr (s := s.queueMgmt b (admitReply a res serial)) rfl).trans hq)

theorem State.took_linkOf (b : Fin 4) (x : RxFrame) (s : State) (n : Nat) : (s.took b x).linkOf n = s.linkOf n := by
  unfold State.linkOf
  have hlink : (atD (s.took b x).mb.bus (n / 64) {}).link = (atD s.mb.bus (n / 64) {}).link := by
    have hupd : (s.took b x).mb.bus = updN s.mb.bus b (MBus.setRxq (s.mb.bus[b].readable.erase x)) :=
      (updN_val s.mb.bus b (MBus.setRxq (s.mb.bus[b].readable.erase x))).symm
    rw [hupd]
    exact atD_updN_keeps MBus.link _ _ _ _ _ (fun _ => rfl)
  rw [hlink]

theorem State.took_modulesFull (b : Fin 4) (x : RxFrame) (s : State) (c : Nat) (buf : Bool) :
    (s.took b x).modulesFull c buf = s.modulesFull c buf := by
  unfold State.modulesFull
  simp only [State.took_linkOf]
  rfl

theorem announce_answers {b : Fin 4} {x : RxFrame} {s : State} {a : Nat} (ha : x.id - 0x740 = a)
    (h : s.mb.bus[b].readable.find? (fun y => isAnnounce y.id) = some x) (hans : s.answersAnnounce = true) {res : Nat}
    (hres : res = announceResult (s.cfg.cnpModule.find? (fun r => r.pm == 64 * b.val + a)) (atD s.mb.bus[b].link a {}) s.mono
      (leAt x.data 4 8) x.data (s.modulesFull b ((s.cfg.cnpModule.find? (fun r => r.pm == 64 * b.val + a)).any (·.buf))))
    (hmode : s.cnp.mode = .run ∨ (s.cfg.cnpModule.find? (fun r => r.pm == 64 * b.val + a)).isSome = true) :
    ∃ t, exec (.announce b) s = .next t ∧ t.mb.bus[b].rxq = s.mb.bus[b].readable.erase x ∧
        (s.mb.bus[b].fcs ≠ .busOff → t.mb.bus[b].txMgmt =
          s.mb.bus[b].txMgmt ++ [{ id := 0x600, data := admitReply a res (leAt x.data 4 8) }]) ∧
        (res = 0 → (atD t.mb.bus[b].link a {}).admitted = true ∧ (atD t.mb.bus[b].link a {}).serial = leAt x.data 4 8 ∧
          ((atD s.mb.bus[b].link a {}).admitted = false → t.told .partnerAdmitted)) ∧
        (res ≠ 0 → (atD t.mb.bus[b].link a {}).refuse = res ∧
          (atD t.mb.bus[b].link a {}).admitted = (atD s.mb.bus[b].link a {}).admitted ∧ t.told .partnerRefused) := by
  have hlt : a < 64 := ha ▸ isAnnounce_lt (by simpa using List.find?_some h)
  have hup : s.up = true := by
    unfold State.answersAnnounce at hans
    exact State.up_of_canopyOn (Bool.and_eq_true_iff.1 hans).1
  have hknown : ¬(s.cnp.mode = .reduced ∧ (s.cfg.cnpModule.find? (fun r => r.pm == 64 * b.val + a)).isNone) := by
    rintro ⟨hred, hnone⟩
    rcases hmode with hrun | hsome
    · cases hred.symm.trans hrun
    · rw [Option.isNone_iff_eq_none.1 hnone] at hsome
      cases hsome
  have hexec : exec (.announce b) s = .next ((s.took b x).answerAnnounce b a res (leAt x.data 4 8)) := by
    have htake := State.takeAnnounce_eq (s := s.took b x) (b := b) ha hknown
    rw [State.took_modulesFull, State.took_link] at htake
    rw [hres]
    refine congrArg Host.Outcome.next ?_
    rw [State.takeRx_of_find h]
    exact (if_pos hans).trans htake
  obtain ⟨f, haccept, hreject, hbus⟩ := (s.took b x).answerAnnounce_bus b a res (leAt x.data 4 8)
  obtain ⟨htold0, htold⟩ := (s.took b x).answerAnnounce_told b a res (leAt x.data 4 8) hup
  rw [State.took_link] at htold0
  have hlink : atD ((s.took b x).answerAnnounce b a res (leAt x.data 4 8)).mb.bus[b].link a {} = f (atD s.mb.bus[b].link a {}) := by
    rw [hbus]
    refine (atD_updN_same _ _ _ hlt).trans (congrArg f ?_)
    rw [State.queueMgmt_keeps (view := MBus.link) (fun _ => rfl) (fun _ _ => rfl), State.took_link]
  refine ⟨_, hexec, ?_, fun hoff => ?_, fun h0 => ⟨?_, ?_, htold0 h0⟩, fun h0 => ⟨?_, ?_, htold h0⟩⟩
  · rw [hbus]
    exact (State.queueMgmt_keeps (view := MBus.rxq) (fun _ => rfl) (fun _ _ => rfl) ..).trans (State.took_rxq b x s)
  · have hfcs : (s.took b x).mb.bus[b].fcs ≠ .busOff := by
      rw [State.took_same]
      exact hoff
    rw [hbus]
    refine (congrArg MBus.txMgmt ((State.queueMgmt_same ..).trans (if_neg hfcs))).trans ?_
    rw [State.took_same]
    rfl
  · rw [hlink, haccept h0]
    rfl
  · rw [hlink, haccept h0]
    rfl
  · rw [hlink, hreject h0]
    rfl
  · rw [hlink, hreject h0]
    rfl

/-- Settles O16: the oldest frame of its kind is taken from the queue, and the link of its module and the reply follow the judgement. -/
theorem busJudgesModules : Obligations.BusJudgesModules := by
  unfold Obligations.BusJudgesModules
  rintro s b x q rfl
  refine ⟨fun hc h => ⟨statusFrame_hears rfl hc h, statusFrame_counts rfl hc h⟩,
    fun a m hc hadm hlast hat => moduleLostTimeout_loses b a s m hc hadm hlast hat,
    fun h hans hmode => announce_answers rfl h hans rfl hmode⟩

end Sys2Proof.Machine
end

section
/-! ## Pilot, proximity and contactors of a port (O17: `PortTriggersAct`) -/

namespace Sys2Proof.Machine

/-! ### What a function of a port leaves in the port -/

/-- A function of a port that asks for no authorisation leaves in the port what it gives. -/
theorem State.onPort_port {p : Fin 12} {f : PCtx → PCtx} {s : State} (hs : s.stackUp p = true)
    (ha : (f (s.pctx p)).p.auth = .asked → s.ports[p].auth = .asked) : (s.onPort p f).ports[p] = (f (s.pctx p)).p := by
  unfold State.onPort
  rw [hs]
  have h := State.portDo_ports p 0 f s ha
  exact (congrArg (fun v : Vector Port 12 => v[p]) h).trans (upd_same _ _ _)

/-- The end of a session that leaves the contactors to open later (R143), for the reasons that lock nothing. -/
theorem abruptEnd_facts {r : EndReason} {c : PCtx} (hr : r.locks = false) (hs : c.p.shortAt = none) :
    (abruptEnd r c).p.st = .fault ∧ (abruptEnd r c).p.endR = r ∧ (abruptEnd r c).p.faultAt = c.e.now ∧
      (abruptEnd r c).p.gateReq = false ∧ (abruptEnd r c).p.auth = .none := by
  rw [abruptEnd_p _ _ hr hs]
  simp [leaveSession_p]

/-- What such an end leaves of the inputs of the port. -/
theorem abruptEnd_inputs {r : EndReason} {c : PCtx} (hr : r.locks = false) (hs : c.p.shortAt = none) :
    (abruptEnd r c).p.prox = c.p.prox ∧ (abruptEnd r c).p.k0 = c.p.k0 ∧ (abruptEnd r c).p.k1 = c.p.k1 ∧
      (abruptEnd r c).p.cntInsul = if r = .insulation then satInc 8 c.p.cntInsul else c.p.cntInsul := by
  rw [abruptEnd_p _ _ hr hs]
  simp [leaveSession_p, countEnd_simple]

theorem auth_none_not_asked {p : Port} {q : Auth} (h : p.auth = .none) : p.auth = .asked → q = .asked := fun ha => by
  rw [h] at ha
  cases ha

/-! ### The pilot -/

/-- Three periods of one new class in a measured state: the class is accepted, the plateaus and the duty are shown. -/
theorem pilotPeriods_of_new {x y z : PilotPeriod} {k : PilotClass} {c : PCtx} (hm : c.p.st.measured = true)
    (hx : pilotClass c.p.st.pwm x.hi x.lo = k) (hy : pilotClass c.p.st.pwm y.hi y.lo = k) (hz : pilotClass c.p.st.pwm z.hi z.lo = k)
    (hk : c.p.cls ≠ some k) :
    pilotPeriods x y z c = pilotAccept k (c.mod (fun p => { p with
      hi := satI 10 z.hi, lo := satI 10 z.lo, duty := min 1000 ((2 * (x.duty + y.duty + z.duty) + 3) / 6) })) := by
  unfold pilotPeriods
  rw [hm]
  simp [hx, hy, hz, hk]

theorem pilotAccept_setup {k : PilotClass} {c : PCtx} (hk : k = .b ∨ k = .c) (hst : c.p.st = .setup) :
    pilotAccept k c = c.mod (fun p => { p with cls := some k }) := by
  unfold pilotAccept
  rcases hk with rfl | rfl <;> simp [hst, PortState.measured, PortState.wave]

theorem pilotAccept_energy {k : PilotClass} {c : PCtx} (hk : k ≠ .c) (hst : c.p.st = .energy) :
    pilotAccept k c = abruptEnd .pilot (c.mod (fun p => { p with cls := some k })) := by
  unfold pilotAccept
  simp [hst, PortState.measured, PortState.wave, hk]

/-! ### Proximity -/

theorem proxChange_in {mv : Nat} {c : PCtx} (hlo : c.e.cfg.pxLo ≤ mv) (hhi : mv ≤ c.e.cfg.pxHi) (hst : c.p.st = .setup) :
    (proxChange mv c).p = { c.p with prox := true } := by
  unfold proxChange tryLink
  simp only [hlo, hhi, decide_true, Bool.and_self, if_true]
  split
  · next h => rw [← h]
  · simp [hst]

theorem proxChange_out {mv : Nat} {c : PCtx} (hhi : c.e.cfg.pxHi < mv) (hprox : c.p.prox = true) (hst : c.p.st = .energy) :
    proxChange mv c = abruptEnd .proximity (c.mod (fun p => { p with prox := false })) := by
  have hout : (decide (c.e.cfg.pxLo ≤ mv) && decide (mv ≤ c.e.cfg.pxHi)) = false := by
    rw [decide_eq_false (Nat.not_le.2 hhi), Bool.and_false]
  unfold proxChange
  simp [hout, hprox, hst]

/-! ### Contactors -/

/-- The port as the feedback of a mismatch leaves it. -/
def Port.seen (f0 f1 : Bool) (m : Mismatch) (p : Port) : Port := { p with k0 := f0, k1 := f1, mis := m }

theorem setFeedback_mismatch {f0 f1 : Bool} {c : PCtx} (hf : (f0 && f1) = false) (hk : c.p.kCmd = true) :
    setFeedback f0 f1 c = c.mod (Port.seen f0 f1 (if c.p.mis = .none then .since c.e.now else c.p.mis)) := by
  have hmis : Port.mismatch { c.p with k0 := f0, k1 := f1 } = true := by
    unfold Port.mismatch
    dsimp only
    rw [hk]
    revert hf
    cases f0 <;> cases f1 <;> simp
  unfold setFeedback PCtx.mod
  simp only [hmis, Bool.not_true, Bool.false_eq_true, if_false]
  rfl

theorem disagree_begins {f0 f1 : Bool} {c : PCtx} (hf : (f0 && f1) = false) (hk : c.p.kCmd = true) (hm : c.p.mis = .none)
    (ht : 0 < c.e.cfg.tFb) : disagree f0 f1 c = c.mod (Port.seen f0 f1 (.since c.e.now)) := by
  unfold disagree
  rw [setFeedback_mismatch hf hk, if_pos hm]
  have hlt : c.e.now < c.e.now + c.e.cfg.tFb * 1000 := by omega
  unfold disagreeStep
  simp [Port.seen, hlt]

/-- A disagreement in ENERGY that has lasted T_FB: the contactor has dropped, unless the Sleeve opened its gate (R154). -/
theorem disagree_lasts {f0 f1 : Bool} {c : PCtx} {t0 : Nat} (hf : (f0 && f1) = false) (hk : c.p.kCmd = true) (hm : c.p.mis = .since t0)
    (ht : t0 + c.e.cfg.tFb * 1000 ≤ c.e.now) (ha : c.p.agreed = true) (hst : c.p.st = .energy) :
    disagree f0 f1 c = abruptEnd (if c.e.sgate then .dropped else .credit)
      ((c.mod (Port.seen f0 f1 (.since t0))).mod (fun p => { p with agreed := false, mis := .told })) := by
  have hne : c.p.mis ≠ .none := by rw [hm]; exact fun h => nomatch h
  have hpast : ¬c.e.now < t0 + c.e.cfg.tFb * 1000 := by omega
  unfold disagree
  rw [setFeedback_mismatch hf hk, if_neg hne, hm]
  unfold disagreeStep
  simp [Port.seen, hpast, hk, hst, ha]
  rfl

theorem agreeClosed_energy {c : PCtx} (hk : c.p.kCmd = true) (hst : c.p.st = .precharge) (hpd : c.p.pdMet = true)
    (hsh : c.p.shortAt = none) :
    (agreeClosed c).p.st = .energy ∧ (agreeClosed c).p.k0 = true ∧ (agreeClosed c).p.k1 = true ∧ (agreeClosed c).p.agreed = true ∧
      (agreeClosed c).p.chkOn = false ∧ (agreeClosed c).p.auth = c.p.auth := by
  simp [agreeClosed, setFeedback, enterEnergy, hk, hst, hpd, hsh]

theorem agreeOpen_ended {c : PCtx} (hk : c.p.kCmd = false) (hst : c.p.st = .opening) :
    (agreeOpen c).p.st = .ended ∧ (agreeOpen c).p.k0 = false ∧ (agreeOpen c).p.k1 = false ∧ (agreeOpen c).p.endR = c.p.pendR ∧
      (agreeOpen c).p.auth = .none := by
  simp [agreeOpen, setFeedback, hk, hst, enterEnded_p, leaveSession_p]

theorem abruptOpen_opens {c : PCtx} {t0 : Nat} (ha : c.p.abruptAt = some t0) (hk : c.p.kCmd = true)
    (h : c.p.measI.natAbs < c.e.cfg.iOpen * 10 ∨ t0 + 100000 ≤ c.e.now) :
    (abruptOpen c).p.kCmd = false ∧ (abruptOpen c).p.drive = .off ∧ (abruptOpen c).p.abruptAt = none ∧
      (abruptOpen c).p.auth = c.p.auth := by
  unfold abruptOpen
  simp only [ha, if_pos h, cmdOpen_p, PCtx.mod_p, hk, if_true]
  exact ⟨rfl, rfl, rfl, rfl⟩

theorem failClose_closes {c : PCtx} {d : Nat} {m : Bool} (hf : c.p.failPend = some (d, m)) (ht : d ≤ c.e.now) :
    failClose c = (c.mod (fun p => { p with failPend := none, conn := none })).add .close := by
  unfold failClose
  simp only [hf, if_pos ht]

theorem State.handPort_ports (p : Fin 12) (s : State) : (s.handPort p).ports = s.ports := by
  unfold State.handPort
  split <;> rfl

section
variable {s : State} {p : Fin 12} (hs : s.stackUp p = true)
include hs

theorem pilotStateAccept_setup {x y z : PilotPeriod} {k : PilotClass} (hx : pilotClass s.ports[p].st.pwm x.hi x.lo = k)
    (hy : pilotClass s.ports[p].st.pwm y.hi y.lo = k) (hz : pilotClass s.ports[p].st.pwm z.hi z.lo = k) (hnew : s.ports[p].cls ≠ some k)
    (hk : k = .b ∨ k = .c) (hst : s.ports[p].st = .setup) :
    ∃ t, exec (.pilotStateAccept p x y z) s = .next t ∧
        t.ports[p].cls = some k ∧ t.ports[p].st = .setup ∧ t.ports[p].hi = satI 10 z.hi ∧ t.ports[p].lo = satI 10 z.lo ∧
        t.ports[p].duty = min 1000 ((2 * (x.duty + y.duty + z.duty) + 3) / 6) := by
  have hm : (s.pctx p).p.st.measured = true := (congrArg PortState.measured hst).trans rfl
  have hf := (pilotPeriods_of_new hm hx hy hz hnew).trans (pilotAccept_setup hk hst)
  have hq := State.onPort_port (f := pilotPeriods x y z) hs (by rw [hf]; exact id)
  refine ⟨_, rfl, ?_⟩
  rw [hq, hf]
  exact ⟨rfl, hst, rfl, rfl, rfl⟩

theorem pilotStateAccept_energy {x y z : PilotPeriod} {k : PilotClass} (hx : pilotClass s.ports[p].st.pwm x.hi x.lo = k)
    (hy : pilotClass s.ports[p].st.pwm y.hi y.lo = k) (hz : pilotClass s.ports[p].st.pwm z.hi z.lo = k) (hnew : s.ports[p].cls ≠ some k)
    (hk : k ≠ .c) (hst : s.ports[p].st = .energy) (hsh : s.ports[p].shortAt = none) :
    ∃ t, exec (.pilotStateAccept p x y z) s = .next t ∧
        t.ports[p].st = .fault ∧ t.ports[p].endR = .pilot ∧ t.ports[p].faultAt = s.mono ∧ t.ports[p].gateReq = false := by
  have hm : (s.pctx p).p.st.measured = true := (congrArg PortState.measured hst).trans rfl
  have hf := (pilotPeriods_of_new hm hx hy hz hnew).trans (pilotAccept_energy hk hst)
  obtain ⟨h1, h2, h3, h4, h5⟩ := abruptEnd_facts (r := .pilot) rfl (c := ((s.pctx p).mod (fun p => { p with
      hi := satI 10 z.hi, lo := satI 10 z.lo, duty := min 1000 ((2 * (x.duty + y.duty + z.duty) + 3) / 6) })).mod
    (fun p => { p with cls := some k })) hsh
  have hq := State.onPort_port (f := pilotPeriods x y z) hs (by rw [hf]; exact auth_none_not_asked h5)
  refine ⟨_, rfl, ?_⟩
  rw [hq, hf]
  exact ⟨h1, h2, h3, h4⟩

theorem proximityChange_in {mv : Nat} (hlo : (s.vp p).pxLo ≤ mv) (hhi : mv ≤ (s.vp p).pxHi) (hst : s.ports[p].st = .setup) :
    ∃ t, exec (.proximityChange p mv) s = .next t ∧ t.ports[p].prox = true ∧ t.ports[p].st = .setup := by
  have hf : (proxChange mv (s.pctx p)).p = { (s.pctx p).p with prox := true } := proxChange_in hlo hhi hst
  have hq := State.onPort_port (f := proxChange mv) hs (by rw [hf]; exact id)
  refine ⟨_, rfl, ?_⟩
  rw [hq, hf]
  exact ⟨rfl, hst⟩

theorem proximityChange_out {mv : Nat} (hhi : (s.vp p).pxHi < mv) (hprox : s.ports[p].prox = true) (hst : s.ports[p].st = .energy)
    (hsh : s.ports[p].shortAt = none) :
    ∃ t, exec (.proximityChange p mv) s = .next t ∧ t.ports[p].prox = false ∧ t.ports[p].st = .fault ∧
        t.ports[p].endR = .proximity := by
  have hf := proxChange_out (mv := mv) (c := s.pctx p) hhi hprox hst
  obtain ⟨h1, h2, -, -, h5⟩ := abruptEnd_facts (r := .proximity) rfl (c := (s.pctx p).mod (fun p => { p with prox := false })) hsh
  obtain ⟨hp, -⟩ := abruptEnd_inputs (r := .proximity) rfl (c := (s.pctx p).mod (fun p => { p with prox := false })) hsh
  have hq := State.onPort_port (f := proxChange mv) hs (by rw [hf]; exact auth_none_not_asked h5)
  refine ⟨_, rfl, ?_⟩
  rw [hq, hf]
  exact ⟨hp, h1, h2⟩

/-! ### Contactors -/

theorem contactorPullInExpiry_holds (hd : s.ports[p].drive = .pull) (ht : s.ports[p].kCmdAt + (s.vp p).tPull * 10000 ≤ s.mono) :
    ∃ t, exec (.contactorPullInExpiry p) s = .next t ∧ t.ports[p] = { s.ports[p] with drive := .hold } := by
  have hf : pullInDone (s.pctx p) = (s.pctx p).mod (fun p => { p with drive := .hold }) := if_pos ⟨hd, ht⟩
  have hq := State.onPort_port (f := pullInDone) hs (by rw [hf]; exact id)
  exact ⟨_, rfl, hq.trans (congrArg PCtx.p hf)⟩

theorem contactorDisagree_begins {f0 f1 : Bool} (hf : (f0 && f1) = false) (hk : s.ports[p].kCmd = true) (hm : s.ports[p].mis = .none)
    (ht : 0 < (s.vp p).tFb) :
    ∃ t, exec (.contactorDisagree p f0 f1) s = .next t ∧ t.ports[p] = { s.ports[p] with k0 := f0, k1 := f1, mis := .since s.mono } := by
  have hd := disagree_begins (c := s.pctx p) hf hk hm ht
  have hq := State.onPort_port (f := disagree f0 f1) hs (by rw [hd]; exact id)
  exact ⟨_, rfl, hq.trans (congrArg PCtx.p hd)⟩

theorem contactorDisagree_ends {f0 f1 : Bool} {t0 : Nat} (hf : (f0 && f1) = false) (hk : s.ports[p].kCmd = true)
    (hm : s.ports[p].mis = .since t0) (ht : t0 + (s.vp p).tFb * 1000 ≤ s.mono) (ha : s.ports[p].agreed = true)
    (hst : s.ports[p].st = .energy) (hsh : s.ports[p].shortAt = none) :
    ∃ t, exec (.contactorDisagree p f0 f1) s = .next t ∧ t.ports[p].st = .fault ∧ t.ports[p].k0 = f0 ∧ t.ports[p].k1 = f1 ∧
          t.ports[p].endR = (if s.sleeveGate p then .dropped else .credit) := by
  have hd := disagree_lasts (c := s.pctx p) hf hk hm ht ha hst
  have hr : (if s.sleeveGate p then EndReason.dropped else EndReason.credit).locks = false := by split <;> rfl
  let c := ((s.pctx p).mod (Port.seen f0 f1 (.since t0))).mod (fun p => { p with agreed := false, mis := .told })
  obtain ⟨h1, h2, -, -, h5⟩ := abruptEnd_facts (c := c) hr hsh
  obtain ⟨-, h6, h7, -⟩ := abruptEnd_inputs (c := c) hr hsh
  have hq := State.onPort_port (f := disagree f0 f1) hs (by rw [hd]; exact auth_none_not_asked h5)
  refine ⟨_, rfl, ?_⟩
  rw [hq, hd]
  exact ⟨h1, h6, h7, h2⟩

theorem contactorsAgreeClosed_energy (hk : s.ports[p].kCmd = true) (hst : s.ports[p].st = .precharge) (hpd : s.ports[p].pdMet = true)
    (hsh : s.ports[p].shortAt = none) :
    ∃ t, exec (.contactorsAgreeClosed p) s = .next t ∧ t.ports[p].st = .energy ∧ t.ports[p].k0 = true ∧ t.ports[p].k1 = true ∧
        t.ports[p].agreed = true ∧ t.ports[p].chkOn = false := by
  obtain ⟨h1, h2, h3, h4, h5, h6⟩ := agreeClosed_energy (c := s.pctx p) hk hst hpd hsh
  have hq := State.onPort_port (f := agreeClosed) hs (by rw [h6]; exact id)
  refine ⟨_, congrArg Host.Outcome.next (State.onlyIf_of hk _ s), ?_⟩
  have hp : ((s.onPort p agreeClosed).handPort p).ports[p] = (agreeClosed (s.pctx p)).p :=
    (congrArg (fun v : Vector Port 12 => v[p]) (State.handPort_ports ..)).trans hq
  rw [hp]
  exact ⟨h1, h2, h3, h4, h5⟩

theorem contactorsAgreeOpen_ended (hk : s.ports[p].kCmd = false) (hst : s.ports[p].st = .opening) :
    ∃ t, exec (.contactorsAgreeOpen p) s = .next t ∧ t.ports[p].st = .ended ∧ t.ports[p].k0 = false ∧ t.ports[p].k1 = false ∧
        t.ports[p].endR = s.ports[p].pendR := by
  obtain ⟨h1, h2, h3, h4, h5⟩ := agreeOpen_ended (c := s.pctx p) hk hst
  have hq := State.onPort_port (f := agreeOpen) hs (auth_none_not_asked h5)
  refine ⟨_, congrArg Host.Outcome.next (State.onlyIf_of (by rw [hk]; rfl) _ s), ?_⟩
  rw [hq]
  exact ⟨h1, h2, h3, h4⟩

theorem abruptEndOpen_opens {t0 : Nat} (ha : s.ports[p].abruptAt = some t0) (hk : s.ports[p].kCmd = true)
    (h : s.ports[p].measI.natAbs < (s.vp p).iOpen * 10 ∨ t0 + 100000 ≤ s.mono) :
    ∃ t, exec (.abruptEndOpen p) s = .next t ∧ t.ports[p].kCmd = false ∧ t.ports[p].drive = .off ∧ t.ports[p].abruptAt = none := by
  obtain ⟨h1, h2, h3, h4⟩ := abruptOpen_opens (c := s.pctx p) ha hk h
  have hq := State.onPort_port (f := abruptOpen) hs (by rw [h4]; exact id)
  refine ⟨_, rfl, ?_⟩
  rw [hq]
  exact ⟨h1, h2, h3⟩

end

/-! ### What a port's function sends -/

theorem Sends.foldl {α : Type} {ps : List Part} {f : State → α → State} (hf : ∀ t x, Moves ps t (f t x)) {o : Out} {x : α}
    (hx : ∀ t, Sends o t (f t x)) {l : List α} (hl : x ∈ l) (s : State) : Sends o s (l.foldl f s) := by
  obtain ⟨l₁, l₂, rfl⟩ := List.append_of_mem hl
  rw [List.foldl_append, List.foldl_cons]
  exact ((hx _).before (Moves.foldl hf l₁ _ _ (.refl _ s)).sent).after (Moves.foldl hf l₂ _ _ (.refl _ _)).sent

/-- What an effect of a port's function sends is sent anew. -/
theorem State.portDo_sends (p : Fin 12) (token : Nat) (f : PCtx → PCtx) (s : State) {x : PEff} (hx : x ∈ (f (s.pctx p)).eff) {o : Out}
    (ho : ∀ t : State, Sends o t (t.portEff p token x)) : Sends o s (s.portDo p token f) := by
  have h1 : Sends o s (s.portRun p token f) := by
    unfold State.portRun
    dsimp only
    refine Sends.after (Sends.after ?_ (State.checkPath_moves ..).sent) (State.ocppFollow_moves ..).sent
    exact Sends.foldl (s := { s with ports := upd s.ports p (fun _ => (f (s.pctx p)).p) }) (State.portEff_moves p token) ho hx
  unfold State.portDo
  dsimp only
  split
  · exact h1.after (State.portRun_moves ..).sent
  · exact h1

theorem State.portDo_sendsAnswer (p : Fin 12) (token : Nat) (f : PCtx → PCtx) (s : State) {a : V2gAns}
    (hx : .answer a ∈ (f (s.pctx p)).eff) : Sends (.v2g p a) s (s.portDo p token f) :=
  State.portDo_sends p token f s hx (fun _ => ⟨_, rfl, List.mem_singleton_self _⟩)

theorem State.portDo_sendsClose (p : Fin 12) (token : Nat) (f : PCtx → PCtx) (s : State) (hx : .close ∈ (f (s.pctx p)).eff) :
    Sends (.v2gClose p) s (s.portDo p token f) :=
  State.portDo_sends p token f s hx (fun _ => ⟨_, rfl, List.mem_singleton_self _⟩)

theorem failedAnswerClose_closes {s : State} {p : Fin 12} (hs : s.stackUp p = true) {d : Nat} {m : Bool}
    (hf : s.ports[p].failPend = some (d, m)) (ht : d ≤ s.mono) :
    ∃ t, exec (.failedAnswerClose p) s = .next t ∧ t.ports[p].conn = none ∧ t.ports[p].failPend = none ∧
        Sends (.v2gClose p.val) s t := by
  have hc := failClose_closes (c := s.pctx p) hf ht
  have hq := State.onPort_port (f := failClose) hs (by rw [hc]; exact id)
  have hclose : PEff.close ∈ (failClose (s.pctx p)).eff := by
    rw [hc]
    exact List.mem_append_right _ (List.mem_singleton_self _)
  refine ⟨_, rfl, ?_, ?_, ?_⟩
  · rw [hq, hc]
    rfl
  · rw [hq, hc]
    rfl
  · unfold State.onPort
    rw [hs]
    exact State.portDo_sendsClose p 0 failClose s hclose

/-- Settles O17: each trigger through what its function gives of the port. -/
theorem portTriggersAct : Obligations.PortTriggersAct := by
  unfold Obligations.PortTriggersAct
  intro s p hs
  refine ⟨fun x y z k hx hy hz hnew => ⟨pilotStateAccept_setup hs hx hy hz hnew, pilotStateAccept_energy hs hx hy hz hnew⟩,
    fun mv => proximityChange_in hs, fun mv => proximityChange_out hs, contactorPullInExpiry_holds hs,
    fun f0 f1 hf hk ha hst hsh ht => ⟨fun hm => contactorDisagree_begins hs hf hk hm ht,
      fun t0 hm hat => contactorDisagree_ends hs hf hk hm hat ha hst hsh⟩,
    contactorsAgreeClosed_energy hs, contactorsAgreeOpen_ended hs, fun t0 => abruptEndOpen_opens hs,
    fun d m => failedAnswerClose_closes hs⟩

end Sys2Proof.Machine
end

section
/-! ## The timers and conditions of Table 5.6 (O18: `PortTimersAct`) -/

namespace Sys2Proof.Machine

/-! ### What each timer does to the port -/

section
variable {c : PCtx}

/-- A FAILED answer to come changes the connection and what is awaited of the vehicle only. -/
theorem failNext_keeps {β : Type} {view : Port → β} (h : ∀ (p : Port) a b d, view { p with pdAt := a, conn := b, failPend := d } = view p)
    (m : Bool) (c : PCtx) : view (failNext m c).p = view c.p := by
  rw [failNext_p]
  split
  · rfl
  · split
    · exact h c.p none none c.p.failPend
    · exact h c.p c.p.pdAt c.p.conn (some (c.e.now + 2000000, m))

theorem linkTimeout_ends (hst : c.p.st = .link) (ht : c.p.linkAt + c.e.cfg.tLink * 1000000 ≤ c.e.now) :
    linkTimeout c = abruptEnd .link c := if_pos ⟨hst, ht⟩

theorem seqTimeout_ends {d : Nat} (hd : seqLimit c.p.st = some d) (ht : c.p.seqAt + d ≤ c.e.now) : seqTimeout c = abruptEnd .comm c := by
  unfold seqTimeout
  simp only [hd, if_pos ht]

theorem authTimeout_ends (hst : c.p.st = .setup) (ha : c.p.auth = .asked ∨ c.p.auth = .waiting)
    (ht : c.p.authAt + c.e.cfg.tAuth * 1000000 ≤ c.e.now) : authTimeout c = enterEnded .auth (failNext false c) := if_pos ⟨hst, ha, ht⟩

theorem enterEnded_facts (r : EndReason) (c : PCtx) :
    (enterEnded r c).p.st = .ended ∧ (enterEnded r c).p.endR = r ∧ (enterEnded r c).p.auth = .none := by
  rw [enterEnded_p, leaveSession_p]
  exact ⟨rfl, rfl, rfl⟩

theorem checkTimeout_ends (hst : c.p.st = .check) (hp : c.p.checkPassed = false) (hsh : c.p.shortAt = none)
    (ht : c.p.checkAt + 20000000 ≤ c.e.now) : checkTimeout c = abruptEnd .insulation (failNext false c) :=
  if_pos ⟨hst, by rw [hp]; rfl, by rw [hsh]; rfl, ht⟩

theorem checkPass_passes {t0 : Nat} (ho : c.p.checkOkSince = some t0) (ht : t0 + c.e.cfg.tImd * 100000 ≤ c.e.now)
    (hst : c.p.st = .check) (hp : c.p.checkPassed = false) (hh : checkHolds c = true) :
    checkPass c = c.mod (fun p => { p with checkPassed := true }) := by
  unfold checkPass
  simp only [ho]
  exact if_pos ⟨hst, by rw [hp]; rfl, hh, ht⟩

theorem pcTimeout_ends (hst : c.p.st = .precharge) (hpd : c.p.pdAt = none) (hsh : c.p.shortAt = none)
    (ht : c.p.pcAt + c.e.cfg.tPc * 100000 ≤ c.e.now) : pcTimeout c = abruptEnd .precharge (failNext false c) :=
  if_pos ⟨hst, by rw [hpd]; rfl, by rw [hsh]; rfl, ht⟩

theorem deliverTimeout_ends {t0 : Nat} (hpd : c.p.pdAt = some t0) (ht : t0 + 1000000 ≤ c.e.now) (hst : c.p.st = .precharge)
    (hm : c.p.pdMet = false) (hsh : c.p.shortAt = none) :
    deliverTimeout c = abruptEnd .precharge (c.add (.answer { req := .powerDelivery, code := .failed, sid := c.p.sid })) := by
  unfold deliverTimeout
  simp only [hpd]
  exact if_pos ⟨hst, by rw [hm]; rfl, by rw [hsh]; rfl, ht⟩

/-- A short declared where the port has a check path: phase OFF and counted, the state as before (R147). -/
theorem shortDeclare_declares {t0 : Nat} (ho : c.p.shortSince = some t0) (ht : t0 + c.e.cfg.tSc * 10000 ≤ c.e.now)
    (hst : c.p.st = .check ∨ c.p.st = .precharge) (hsh : c.p.shortAt = none) (hcu : c.e.cfg.chkCu ≠ 0xFF) :
    shortDeclare c = failNext true (c.mod (fun p => { countEnd .short p with
      phaseOff := true, shortAt := some c.e.now, shortSince := none, pendR := .short })) := by
  unfold shortDeclare
  simp only [ho]
  rw [if_pos ⟨hst, by rw [hsh]; rfl, ht⟩, if_neg]
  rw [failNext_e]
  exact hcu

theorem stopRamp_opens (hst : c.p.st = .stopping)
    (h : c.p.measI.natAbs < c.e.cfg.iOpen * 10 ∨ c.p.stopAt + c.e.cfg.tStop * 100000 ≤ c.e.now) :
    (stopRamp c).p.st = .opening ∧ (stopRamp c).p.kCmd = false ∧ (stopRamp c).p.drive = .off ∧ (stopRamp c).p.auth = c.p.auth := by
  unfold stopRamp
  rw [if_pos ⟨hst, h⟩, cmdOpen_p]
  split
  · exact ⟨rfl, rfl, rfl, rfl⟩
  · next hk => exact ⟨rfl, Bool.eq_false_iff.2 hk, rfl, rfl⟩

theorem faultMin_ends (hst : c.p.st = .fault) (hp : c.p.prox = false) (ht : c.p.faultAt + 5000000 ≤ c.e.now) :
    faultMin c = c.mod (fun p => { p with st := .idle, cls := none }) := if_pos ⟨hst, hp, ht⟩

theorem shortPathOff_ends {t0 : Nat} (ho : c.p.shortAt = some t0) (h : c.p.measI.natAbs < 5 ∨ t0 + 20000 ≤ c.e.now) :
    shortPathOff c = abruptEnd .short c := by
  unfold shortPathOff
  simp only [ho, if_pos h]

/-- The end of a short that was declared: LOCKED at the third within 10 min, else FAULT (Table 5.6). -/
theorem abruptEnd_short {t0 : Nat} (ho : c.p.shortAt = some t0) :
    (abruptEnd .short c).p.chkOn = false ∧ (abruptEnd .short c).p.endR = .short ∧ (abruptEnd .short c).p.auth = .none ∧
      (abruptEnd .short c).p.st = if 3 ≤ (lastTenMin c.e.now c.p.lockTimes).length + 1 then .locked else .fault := by
  have hmod : c.mod id = c := rfl
  unfold abruptEnd enterFault
  simp only [ho, Option.isSome_some, if_true, hmod, leaveSession_p, leaveSession_e, true_or, decide_true, Bool.true_or, Bool.true_and]
  split <;> simp [leaveSession_p]

end

section
variable {s : State} {p : Fin 12} (hs : s.stackUp p = true)
include hs

/-- A timer whose function ends the session abruptly. -/
theorem State.onPort_abrupt {f : PCtx → PCtx} {r : EndReason} {c : PCtx} (hr : r.locks = false) (hsh : c.p.shortAt = none)
    (hf : f (s.pctx p) = abruptEnd r c) :
    (s.onPort p f).ports[p].st = .fault ∧ (s.onPort p f).ports[p].endR = r ∧
      (s.onPort p f).ports[p].cntInsul = if r = .insulation then satInc 8 c.p.cntInsul else c.p.cntInsul := by
  obtain ⟨h1, h2, -, -, h5⟩ := abruptEnd_facts hr hsh
  obtain ⟨-, -, -, h6⟩ := abruptEnd_inputs hr hsh
  rw [State.onPort_port hs (by rw [hf]; exact auth_none_not_asked h5), hf]
  exact ⟨h1, h2, h6⟩

/-! ### The timers -/

theorem tAuthExpiry_ends (hst : s.ports[p].st = .setup) (ha : s.ports[p].auth = .asked ∨ s.ports[p].auth = .waiting)
    (ht : s.ports[p].authAt + (s.vp p).tAuth * 1000000 ≤ s.mono) :
    ∃ t, exec (.tAuthExpiry p) s = .next t ∧ t.ports[p].st = .ended ∧ t.ports[p].endR = .auth ∧ t.ports[p].auth = .none := by
  have hf := authTimeout_ends (c := s.pctx p) hst ha ht
  obtain ⟨h1, h2, h3⟩ := enterEnded_facts .auth (failNext false (s.pctx p))
  have hq := State.onPort_port (f := authTimeout) hs (by rw [hf]; exact auth_none_not_asked h3)
  refine ⟨_, rfl, ?_⟩
  rw [hq, hf]
  exact ⟨h1, h2, h3⟩

theorem checkTimeout_acts (hst : s.ports[p].st = .check) (hp : s.ports[p].checkPassed = false) (hsh : s.ports[p].shortAt = none)
    (ht : s.ports[p].checkAt + 20000000 ≤ s.mono) :
    ∃ t, exec (.checkTimeout p) s = .next t ∧ t.ports[p].st = .fault ∧ t.ports[p].endR = .insulation ∧
        t.ports[p].cntInsul = satInc 8 s.ports[p].cntInsul := by
  have hsh' : (failNext false (s.pctx p)).p.shortAt = none := (failNext_keeps (view := Port.shortAt) (fun _ _ _ _ => rfl) ..).trans hsh
  obtain ⟨h1, h2, h3⟩ := State.onPort_abrupt hs (f := checkTimeout) (r := .insulation) rfl hsh' (checkTimeout_ends hst hp hsh ht)
  refine ⟨_, rfl, h1, h2, h3.trans ?_⟩
  exact congrArg (satInc 8) (failNext_keeps (view := Port.cntInsul) (fun _ _ _ _ => rfl) ..)

theorem cableCheckPass_passes {t0 : Nat} (ho : s.ports[p].checkOkSince = some t0) (ht : t0 + (s.vp p).tImd * 100000 ≤ s.mono)
    (hst : s.ports[p].st = .check) (hp : s.ports[p].checkPassed = false) (hh : checkHolds (s.pctx p) = true) :
    ∃ t, exec (.cableCheckPass p) s = .next t ∧ t.ports[p] = { s.ports[p] with checkPassed := true } := by
  have hf := checkPass_passes (c := s.pctx p) ho ht hst hp hh
  have hq := State.onPort_port (f := checkPass) hs (by rw [hf]; exact id)
  exact ⟨_, rfl, hq.trans (congrArg PCtx.p hf)⟩

theorem tPcExpiry_ends (hst : s.ports[p].st = .precharge) (hpd : s.ports[p].pdAt = none) (hsh : s.ports[p].shortAt = none)
    (ht : s.ports[p].pcAt + (s.vp p).tPc * 100000 ≤ s.mono) :
    ∃ t, exec (.tPcExpiry p) s = .next t ∧ t.ports[p].st = .fault ∧ t.ports[p].endR = .precharge := by
  have hsh' : (failNext false (s.pctx p)).p.shortAt = none := (failNext_keeps (view := Port.shortAt) (fun _ _ _ _ => rfl) ..).trans hsh
  obtain ⟨h1, h2, -⟩ := State.onPort_abrupt hs (f := pcTimeout) (r := .precharge) rfl hsh' (pcTimeout_ends hst hpd hsh ht)
  exact ⟨_, rfl, h1, h2⟩

theorem shortDeclared_declares {t0 : Nat} (ho : s.ports[p].shortSince = some t0) (ht : t0 + (s.vp p).tSc * 10000 ≤ s.mono)
    (hst : s.ports[p].st = .check ∨ s.ports[p].st = .precharge) (hcu : (s.vp p).chkCu ≠ 0xFF) (hsh : s.ports[p].shortAt = none) :
    ∃ t, exec (.shortDeclared p) s = .next t ∧ t.ports[p].phaseOff = true ∧ t.ports[p].shortAt = some s.mono ∧
        t.ports[p].cntShort = satInc 8 s.ports[p].cntShort ∧ t.ports[p].st = s.ports[p].st := by
  have hf := shortDeclare_declares (c := s.pctx p) ho ht hst hsh hcu
  have hq := State.onPort_port (f := shortDeclare) hs (by
    rw [hf, failNext_keeps (view := Port.auth) (fun _ _ _ _ => rfl)]
    exact id)
  refine ⟨_, rfl, ?_⟩
  rw [hq, hf]
  exact ⟨failNext_keeps (view := Port.phaseOff) (fun _ _ _ _ => rfl) .., failNext_keeps (view := Port.shortAt) (fun _ _ _ _ => rfl) ..,
    failNext_keeps (view := Port.cntShort) (fun _ _ _ _ => rfl) .., failNext_keeps (view := Port.st) (fun _ _ _ _ => rfl) ..⟩

theorem stopRampComplete_opens (hst : s.ports[p].st = .stopping)
    (h : s.ports[p].measI.natAbs < (s.vp p).iOpen * 10 ∨ s.ports[p].stopAt + (s.vp p).tStop * 100000 ≤ s.mono) :
    ∃ t, exec (.stopRampComplete p) s = .next t ∧ t.ports[p].st = .opening ∧ t.ports[p].kCmd = false ∧ t.ports[p].drive = .off := by
  obtain ⟨h1, h2, h3, h4⟩ := stopRamp_opens (c := s.pctx p) hst h
  have hq := State.onPort_port (f := stopRamp) hs (by rw [h4]; exact id)
  refine ⟨_, rfl, ?_⟩
  rw [hq]
  exact ⟨h1, h2, h3⟩

theorem faultMinTimeExpiry_ends (hst : s.ports[p].st = .fault) (hp : s.ports[p].prox = false)
    (ht : s.ports[p].faultAt + 5000000 ≤ s.mono) :
    ∃ t, exec (.faultMinTimeExpiry p) s = .next t ∧ t.ports[p] = { s.ports[p] with st := .idle, cls := none } := by
  have hf := faultMin_ends (c := s.pctx p) hst hp ht
  have hq := State.onPort_port (f := faultMin) hs (by rw [hf]; exact id)
  exact ⟨_, rfl, hq.trans (congrArg PCtx.p hf)⟩

theorem shortCheckPathOff_ends {t0 : Nat} (ho : s.ports[p].shortAt = some t0) (h : s.ports[p].measI.natAbs < 5 ∨ t0 + 20000 ≤ s.mono) :
    ∃ t, exec (.shortCheckPathOff p) s = .next t ∧ t.ports[p].chkOn = false ∧ t.ports[p].endR = .short ∧
      t.ports[p].st = (if 3 ≤ (lastTenMin s.mono s.ports[p].lockTimes).length + 1 then .locked else .fault) := by
  have hf := shortPathOff_ends (c := s.pctx p) ho h
  obtain ⟨h1, h2, h3, h4⟩ := abruptEnd_short (c := s.pctx p) ho
  have hq := State.onPort_port (f := shortPathOff) hs (by rw [hf]; exact auth_none_not_asked h3)
  refine ⟨_, rfl, ?_⟩
  rw [hq, hf]
  exact ⟨h1, h2, h4⟩

end

/-! ### A message of the vehicle reaches the port -/

theorem State.hear2g_ports (p : Fin 12) (m : PortMsg) (s : State) : (s.hear2g p m).ports = s.ports :=
  (State.hear2g_moves p s m).frame.get .ports (by decide)

theorem State.tidy2g_ports (p : Fin 12) (s : State) : (s.tidy2g p).ports = s.ports :=
  (State.tidy2g_moves p s).frame.get .ports (by decide)

/-- Where the stack runs, a message is heard, judged by the port, and tidied up after. -/
theorem State.portMsg_eq {p : Fin 12} {s : State} (hs : s.stackUp p = true) (token : Nat) (m : PortMsg) :
    s.portMsg p token m = (if m.demands then (((s.hear2g p m).portDo p token (doMsg m)).tidy2g p).freshDemand p
      else ((s.hear2g p m).portDo p token (doMsg m)).tidy2g p) := by
  unfold State.portMsg
  rw [hs]
  rfl

theorem State.freshDemand_ports (p : Fin 12) (s : State) : (s.freshDemand p).ports = s.ports :=
  (State.freshDemand_moves p s).frame.get .ports (by decide)

theorem State.portMsg_port {p : Fin 12} {s : State} (hs : s.stackUp p = true) {token : Nat} {m : PortMsg}
    (ha : (doMsg m ((s.hear2g p m).pctx p)).p.auth = .asked → s.ports[p].auth = .asked) :
    (s.portMsg p token m).ports[p] = (doMsg m ((s.hear2g p m).pctx p)).p := by
  have hheard : (s.hear2g p m).ports[p] = s.ports[p] := congrArg (fun v : Vector Port 12 => v[p]) (State.hear2g_ports p m s)
  have hdo := State.portDo_ports p token (doMsg m) (s.hear2g p m) (fun h => hheard ▸ ha h)
  have hports : (s.portMsg p token m).ports = ((s.hear2g p m).portDo p token (doMsg m)).ports := by
    rw [State.portMsg_eq hs]
    split
    · rw [State.freshDemand_ports, State.tidy2g_ports]
    · rw [State.tidy2g_ports]
  exact (congrArg (fun v : Vector Port 12 => v[p]) (hports.trans hdo)).trans (upd_same _ _ _)

theorem State.portMsg_sends {p : Fin 12} {s : State} (hs : s.stackUp p = true) (token : Nat) (m : PortMsg) {o : Out}
    (h : Sends o (s.hear2g p m) ((s.hear2g p m).portDo p token (doMsg m))) : Sends o s (s.portMsg p token m) := by
  rw [State.portMsg_eq hs]
  have htidy := (h.before (State.hear2g_moves p s m).sent).after (State.tidy2g_moves p ((s.hear2g p m).portDo p token (doMsg m))).sent
  split
  · exact htidy.after (State.freshDemand_moves ..).sent
  · exact htidy

/-- SECC discovery on an up link (R138, Table 5.6). -/
theorem sdpRequest_answers {s : State} {p : Fin 12} (hs : s.stackUp p = true) (hst : s.ports[p].st = .link) :
    ∃ t, exec (.sdpRequest p) s = .next t ∧ t.ports[p].st = .setup ∧ t.ports[p].seqAt = s.mono ∧
      ∃ n, 49152 ≤ n ∧ n ≤ 65535 ∧ Sends (.sdp p.val (s.portPins p).link.phy n) s t := by
  have hf : doMsg .sdp (s.pctx p) = (s.pctx p).mod (fun q => { q with st := .setup, seqAt := s.mono }) := if_pos hst
  have hq := State.portMsg_port (m := .sdp) (token := 0) hs (fun h => by rw [show s.hear2g p .sdp = s from rfl, hf] at h; exact h)
  have hq' : (s.portMsg p 0 .sdp).ports[p] = { s.ports[p] with st := .setup, seqAt := s.mono } := hq.trans (congrArg PCtx.p hf)
  have hsdp : s.sdp p = ((s.portMsg p 0 .sdp).free.2).emit
      (.sdp p (s.portPins p).link.phy (49152 + (s.portMsg p 0 .sdp).free.1 % 16384)) := if_pos hst
  refine ⟨s.sdp p, congrArg Host.Outcome.next (State.onlyIf_of hs _ s), ?_⟩
  rw [hsdp]
  refine ⟨congrArg Port.st hq', congrArg Port.seqAt hq', 49152 + (s.portMsg p 0 .sdp).free.1 % 16384, Nat.le_add_right _ _, by omega, ?_⟩
  refine Sends.before ?_ (Sends.emit _ (s.portMsg p 0 .sdp).free.2)
  exact (State.portMsg_moves p 0 .sdp s).sent

/-- Settles O18: each timer's function under its condition, and the end that it brings. -/
theorem portTimersAct : Obligations.PortTimersAct := by
  unfold Obligations.PortTimersAct
  refine ⟨fun s p hs hsh => ⟨fun hst ht => ?_, sdpRequest_answers hs, tAuthExpiry_ends hs, fun d hd ht => ?_,
    fun hst hp => checkTimeout_acts hs hst hp hsh, fun t0 => cableCheckPass_passes hs, fun hst hpd => tPcExpiry_ends hs hst hpd hsh,
    fun t0 hpd ht hst hm => ?_, fun t0 ho ht hst hcu => shortDeclared_declares hs ho ht hst hcu hsh, stopRampComplete_opens hs,
    faultMinTimeExpiry_ends hs⟩, fun s p t0 hs ho h => shortCheckPathOff_ends hs ho h⟩
  · obtain ⟨h1, h2, -⟩ := State.onPort_abrupt hs (f := linkTimeout) (r := .link) rfl hsh (linkTimeout_ends hst ht)
    exact ⟨_, rfl, h1, h2⟩
  · obtain ⟨h1, h2, -⟩ := State.onPort_abrupt hs (f := seqTimeout) (r := .comm) rfl hsh (seqTimeout_ends hd ht)
    exact ⟨_, rfl, h1, h2⟩
  · obtain ⟨h1, h2, -⟩ := State.onPort_abrupt hs (f := deliverTimeout) (r := .precharge)
      (c := (s.pctx p).add (.answer { req := .powerDelivery, code := .failed, sid := (s.pctx p).p.sid })) rfl hsh
      (deliverTimeout_ends hpd ht hst hm hsh)
    exact ⟨_, rfl, h1, h2⟩

end Sys2Proof.Machine
end

section
/-! ## Connections and messages of the vehicle (O19: `VehicleMessagesAct`) -/

namespace Sys2Proof.Machine

/-! ### A message that is judged -/

/-- A message with a head is heard by the connection only: the port and what it reads of other units stay. -/
theorem State.hear2g_pctx {m : PortMsg} {h : V2gHead} (hm : m.head = some h) (p : Fin 12) (s : State) : (s.hear2g p m).pctx p = s.pctx p := by
  cases m with
  | connOpen | connClosed | tlsFail | sdp => cases hm
  | _ => rfl

/-- The port once an accepted message has restarted the sequence timer. -/
def PCtx.heard (c : PCtx) : PCtx := c.mod (fun p => { p with seqAt := c.e.now })

theorem State.V2gReady.judged {s : State} {p : Fin 12} {h : V2gHead} (r : s.V2gReady p h) {req : V2gReq}
    (ha : allowed (s.vp p) req s.ports[p] = true) (f : PCtx → PCtx) : judge req h f (s.pctx p) = f (s.pctx p).heard := by
  obtain ⟨k, hk, happ, hsid⟩ := r.conn
  exact judge_accepts hk r.noFail r.form r.len r.exi (.inl happ) (fun _ => .inl (by rw [hsid]; rfl)) (.inr (.inl hsid)) ha

section
variable {s : State} {p : Fin 12} {m : PortMsg} {h : V2gHead}

/-- A message that gives the port context `c`. -/
theorem State.portMsg_gives {c : PCtx} (hs : s.stackUp p = true) {token : Nat} (hm : m.head = some h) (hc : doMsg m (s.pctx p) = c)
    (ha : c.p.auth = .asked → s.ports[p].auth = .asked) : (s.portMsg p token m).ports[p] = c.p := by
  have hpctx := State.hear2g_pctx hm p s
  rw [State.portMsg_port hs (by rw [hpctx, hc]; exact ha), hpctx, hc]

theorem State.portMsg_sendsAnswer {c : PCtx} (hs : s.stackUp p = true) {token : Nat} (hm : m.head = some h) (hc : doMsg m (s.pctx p) = c)
    {a : V2gAns} (ha : .answer a ∈ c.eff) : Sends (.v2g p a) s (s.portMsg p token m) := by
  refine State.portMsg_sends hs token m (State.portDo_sendsAnswer p token (doMsg m) (s.hear2g p m) ?_)
  rw [State.hear2g_pctx hm, hc]
  exact ha

end

/-! ### Requests of a session -/

/-- A command to close changes what stands about the contactors only. -/
theorem cmdClose_keeps {β : Type} {view : Port → β}
    (h : ∀ (p : Port) a b d e f, view { p with kCmd := a, kCmdAt := b, drive := d, agreed := e, mis := f } = view p) (c : PCtx) :
    view (cmdClose c).p = view c.p := by
  unfold cmdClose
  split
  · rfl
  · exact h c.p true c.e.now .pull false _

/-- Entry to CHECK (Table 5.6). -/
theorem enterCheck_facts (v i : Nat) (c : PCtx) :
    (enterCheck v i c).p.st = .check ∧ (enterCheck v i c).p.checkAt = c.e.now ∧ (enterCheck v i c).p.evV = sat 16 v ∧
      (enterCheck v i c).p.evI = sat 16 i ∧ (enterCheck v i c).p.reported = true ∧ (enterCheck v i c).p.auth = c.p.auth := by
  unfold enterCheck
  dsimp only
  split
  · simp only [PCtx.add_p]
    exact ⟨cmdClose_keeps (view := Port.st) (fun _ _ _ _ _ _ => rfl) _, cmdClose_keeps (view := Port.checkAt) (fun _ _ _ _ _ _ => rfl) _,
      cmdClose_keeps (view := Port.evV) (fun _ _ _ _ _ _ => rfl) _, cmdClose_keeps (view := Port.evI) (fun _ _ _ _ _ _ => rfl) _,
      cmdClose_keeps (view := Port.reported) (fun _ _ _ _ _ _ => rfl) _, cmdClose_keeps (view := Port.auth) (fun _ _ _ _ _ _ => rfl) _⟩
  · exact ⟨rfl, rfl, rfl, rfl, rfl, rfl⟩

section
variable {s : State} {p : Fin 12} {h : V2gHead} (r : s.V2gReady p h)
include r

section
variable (hst : s.ports[p].st = .setup)
include hst

theorem serviceDiscoveryReq_answers :
    ∃ t, exec (.serviceDiscoveryReq p h) s = .next t ∧ t.ports[p] = { s.ports[p] with seqAt := s.mono } ∧
          Sends (.v2g p.val {
            req := .serviceDiscovery, code := .ok, sid := s.ports[p].sid, proto := s.ports[p].proto,
            bpt := (s.vp p).bpt && decide (s.ports[p].proto = some .iso20) }) s t := by
  have hc : doMsg (.serviceDiscovery h) (s.pctx p) = serviceDiscovery (s.pctx p).heard :=
    r.judged (req := .serviceDiscovery) (decide_eq_true hst) _
  exact ⟨_, rfl, State.portMsg_gives r.stack rfl hc id,
    State.portMsg_sendsAnswer r.stack rfl hc (List.mem_append_right _ (List.mem_singleton_self _))⟩

theorem serviceSelectionReq_selects :
    ∃ t, exec (.serviceSelectionReq p h false) s = .next t ∧ t.ports[p] = { s.ports[p] with seqAt := s.mono, bpt := false } := by
  have hc : doMsg (.serviceSelection h false) (s.pctx p) = serviceSelection false (s.pctx p).heard :=
    r.judged (req := .serviceSelection) (decide_eq_true hst) _
  exact ⟨_, rfl, State.portMsg_gives r.stack rfl hc id⟩

theorem authorizationReq_finishes (hauth : s.ports[p].auth = .given) (pnc : Bool) (tok : Nat) (cert : List Byte) :
    ∃ t, exec (.authorizationReq p h pnc tok cert) s = .next t ∧ t.ports[p] = { s.ports[p] with seqAt := s.mono } ∧
          Sends (.v2g p.val {
            req := .authorization, code := .finished, sid := s.ports[p].sid, proto := s.ports[p].proto,
            bpt := s.ports[p].bpt, v := s.ports[p].measV }) s t := by
  have hf : authorization pnc cert (s.pctx p).heard = ansV .authorization .finished (s.pctx p).heard := by
    have hgiven : (s.pctx p).heard.p.auth = .given := hauth
    unfold authorization
    rw [hgiven]
  have hc : doMsg (.authorization h pnc cert) (s.pctx p) = ansV .authorization .finished (s.pctx p).heard :=
    (r.judged (req := .authorization) (decide_eq_true hst) _).trans hf
  exact ⟨_, rfl, State.portMsg_gives r.stack rfl hc id,
    State.portMsg_sendsAnswer r.stack rfl hc (List.mem_append_right _ (List.mem_singleton_self _))⟩

theorem cableCheckReq_checks (hauth : s.ports[p].auth = .given) (hgate : s.gtr.gates[p].en = true) (v i : Nat) :
    ∃ t, exec (.cableCheckReq p h v i) s = .next t ∧
          t.ports[p].st = .check ∧ t.ports[p].checkAt = s.mono ∧ t.ports[p].evV = sat 16 v ∧ t.ports[p].evI = sat 16 i ∧
          t.ports[p].reported = true := by
  have hf : cableCheck v i (s.pctx p).heard = ansV .cableCheck .ongoing (enterCheck v i (s.pctx p).heard) := by
    have hsetup : (s.pctx p).heard.p.st = .setup := hst
    unfold cableCheck
    rw [hsetup]
    exact if_pos ⟨hauth, hgate⟩
  have hc : doMsg (.cableCheck h v i) (s.pctx p) = ansV .cableCheck .ongoing (enterCheck v i (s.pctx p).heard) :=
    (r.judged (req := .cableCheck) (by unfold allowed; rw [hst]; rfl) _).trans hf
  obtain ⟨e1, e2, e3, e4, e5, e6⟩ := enterCheck_facts v i (s.pctx p).heard
  have hq := State.portMsg_gives (token := 0) r.stack rfl hc (fun ha => e6.symm.trans ha)
  refine ⟨_, rfl, ?_⟩
  rw [hq]
  exact ⟨e1, e2, e3, e4, e5⟩

theorem certificateInstallationReq_answers (hpnc : (s.vp p).pnc = true) (hproto : s.ports[p].proto = some .iso20) :
    ∃ t, exec (.certificateInstallationReq p h) s = .next t ∧ t.ports[p] = { s.ports[p] with seqAt := s.mono } := by
  have hc : doMsg (.certificateInstallation h) (s.pctx p) = ansV .certificateInstallation .ok (s.pctx p).heard :=
    r.judged (req := .certificateInstallation) (by unfold allowed; simp only [hst, hpnc, hproto]; rfl) _
  exact ⟨_, rfl, State.portMsg_gives r.stack rfl hc id⟩

end

theorem preChargeReq_enters (hst : s.ports[p].st = .check) (hpass : s.ports[p].checkPassed = true) (v : Nat) (i : Int) :
    ∃ t, exec (.preChargeReq p h v i) s = .next t ∧
        t.ports[p].st = .precharge ∧ t.ports[p].tgtV = sat 16 v ∧ t.ports[p].tgtI = satI 16 i ∧ t.ports[p].pcAt = s.mono := by
  have hc : doMsg (.preCharge h v i) (s.pctx p) = preCharge v i (s.pctx p).heard :=
    r.judged (req := .preCharge) (by unfold allowed; simp only [hst, hpass]; rfl) _
  have hf : (preCharge v i (s.pctx p).heard).p = { (s.pctx p).heard.p with
      st := .precharge, pcAt := s.mono, pdAt := none, pdMet := false, tgtV := sat 16 v, tgtI := satI 16 i } := by
    have hcheck : (s.pctx p).heard.p.st = .check := hst
    unfold preCharge
    rw [if_pos hcheck]
    rfl
  have hq := State.portMsg_gives (token := 0) r.stack rfl hc (by rw [hf]; exact id)
  refine ⟨_, rfl, ?_⟩
  rw [hq, hf]
  exact ⟨rfl, rfl, rfl, rfl⟩

section
variable (hst : s.ports[p].st = .energy)
include hst

theorem powerDeliveryReq_stops :
    ∃ t, exec (.powerDeliveryReq p h false) s = .next t ∧ t.ports[p].st = .stopping ∧ t.ports[p].pendR = .vehicle ∧
          t.ports[p].tgtI = 0 ∧ t.ports[p].vehStop = true := by
  have hf : powerDelivery false (s.pctx p).heard = ansV .powerDelivery .ok (beginStop .vehicle false (s.pctx p).heard) := by
    have henergy : (s.pctx p).heard.p.st = .energy := hst
    unfold powerDelivery
    rw [henergy]
    rfl
  have hc := (r.judged (req := .powerDelivery) (by unfold allowed; rw [hst]; rfl) (powerDelivery false)).trans hf
  have hq := State.portMsg_gives (m := .powerDelivery h false) (token := 0) r.stack rfl hc id
  refine ⟨_, rfl, ?_⟩
  rw [hq]
  exact ⟨rfl, rfl, rfl, rfl⟩

theorem chargeLoopReq_follows (q : LoopReq) :
    ∃ t, exec (.chargeLoopReq p h q) s = .next t ∧ t.ports[p].st = .energy ∧ t.ports[p].tgtI = satI 16 q.tgtI ∧
          t.ports[p].evI = sat 16 q.maxI ∧ t.ports[p].evP = q.maxP ∧ t.ports[p].evDis = q.disI ∧ t.ports[p].seqAt = s.mono ∧
          t.ports[p].looped = true ∧ t.ports[p].dynamic = (q.dynamic && decide (s.ports[p].proto = some .iso20)) := by
  have hc : doMsg (.chargeLoop h q) (s.pctx p) = chargeLoop q (s.pctx p).heard :=
    r.judged (req := .chargeLoop) (by unfold allowed; rw [hst]; rfl) _
  have hf : (chargeLoop q (s.pctx p).heard).p = { (s.pctx p).heard.p with
      looped := true, dynamic := q.dynamic && decide ((s.pctx p).heard.p.proto = some .iso20), tgtI := satI 16 q.tgtI, tgtV := sat 16 q.tgtV,
      evI := sat 16 q.maxI, evV := sat 16 q.maxV, evP := q.maxP, evDis := q.disI } := by
    have henergy : (s.pctx p).heard.p.st = .energy := hst
    unfold chargeLoop
    rw [if_pos henergy]
    rfl
  have hq := State.portMsg_gives (token := 0) r.stack rfl hc (by rw [hf]; exact id)
  refine ⟨_, rfl, ?_⟩
  rw [hq, hf]
  exact ⟨hst, rfl, rfl, rfl, rfl, rfl, rfl, rfl⟩

theorem sessionStopReq_stops :
    ∃ t, exec (.sessionStopReq p h) s = .next t ∧ t.ports[p].st = .stopping ∧ t.ports[p].pendR = .vehicle := by
  have hf : sessionStop (s.pctx p).heard = ansV .sessionStop .ok (beginStop .vehicle false (s.pctx p).heard) := by
    have henergy : (s.pctx p).heard.p.st = .energy := hst
    unfold sessionStop
    rw [henergy]
  have hc := (r.judged (req := .sessionStop) (by unfold allowed; rw [hst]; rfl) sessionStop).trans hf
  have hq := State.portMsg_gives (m := .sessionStop h) (token := 0) r.stack rfl hc id
  refine ⟨_, rfl, ?_⟩
  rw [hq]
  exact ⟨rfl, rfl⟩

end
end

/-! ### What a port's function does to the rest of the device -/

/-- Where no authorisation is newly asked, the port's function runs once. -/
theorem State.portDo_eq_portRun (p : Fin 12) (token : Nat) (f : PCtx → PCtx) (s : State)
    (h : (f (s.pctx p)).p.auth = .asked → s.ports[p].auth = .asked) : s.portDo p token f = s.portRun p token f := by
  have hp : (s.portRun p token f).ports[p] = (f (s.pctx p)).p := by rw [State.portRun_ports]; exact upd_same _ _ _
  unfold State.portDo
  dsimp only
  rw [hp]
  by_cases k : (f (s.pctx p)).p.auth = .asked
  · simp only [k, h k, decide_true, Bool.not_true, Bool.and_false, Bool.false_and, Bool.false_eq_true, if_false]
  · simp only [k, decide_false, Bool.false_and, Bool.false_eq_true, if_false]

/-- The device with the port's function done and its effects taken, in their order. -/
def State.portEffects (p : Fin 12) (token : Nat) (c : PCtx) (s : State) : State :=
  c.eff.foldl (fun a x => a.portEff p token x) { s with ports := upd s.ports p (fun _ => c.p) }

theorem State.portRun_moves_effects (p : Fin 12) (token : Nat) (f : PCtx → PCtx) (s : State) :
    Moves [.cuf, .hst, .out] (s.portEffects p token (f (s.pctx p))) (s.portRun p token f) :=
  ((State.checkPath_moves p s.ports[p].chkOn (s.portEffects p token (f (s.pctx p)))).weaken (by decide)).trans
    ((State.ocppFollow_moves p s.ports[p] _).weaken (by decide))

theorem State.told_portEff {e : Ev} (p : Fin 12) (token : Nat) (x : PEff) {s : State} (h : s.told e) : (s.portEff p token x).told e := by
  cases x with
  | ev e' => exact State.told_raiseAt e' p h
  | keyMiss => exact State.told_wrongState _ h
  | rngMiss => exact State.told_wrongState _ h
  | sleeveStart | sleeveStop =>
    simp only [State.portEff, State.slvSend]
    split
    · exact h
    · split
      · exact State.told_wrongState _ h
      · exact h
  | answer | close | askAuth | useHeld | newSess => exact h

/-- A key that is missed is told, whatever follows it. -/
theorem State.portEffects_told_keyMissing (p : Fin 12) (token : Nat) {c : PCtx} {s : State} (hup : s.up = true)
    (hx : .keyMiss ∈ c.eff) : (s.portEffects p token c).told .keyMissing :=
  foldl_reaches (Q := fun t : State => t.up = true) hx
    (fun t y hq => (State.up_congr ((State.portEff_moves p token t y).frame.get .rst (by decide))).trans hq)
    (fun t hq => State.raise_told .keyMissing _ hq)
    (fun t y _ ht => State.told_portEff p token y ht) _ hup

/-! ### Connections -/

theorem State.hear2g_open {s : State} {p : Fin 12} (hc : s.ports[p].conn = none) (isn : Nat) (tls : Option TlsHello) :
    ∃ l : V2gLink, (l.seqIn = (isn + 1) % 2 ^ 32 ∧ l.tls = tls.isSome ∧ l.recIn = 0 ∧ l.recOut = 0) ∧
      s.hear2g p (.connOpen isn tls) = { s.linkOf2g p (fun _ => l) with fresh := s.fresh + 1 } := by
  unfold State.hear2g
  simp only [hc, Option.isSome_none, Bool.false_eq_true, if_false]
  exact ⟨_, ⟨rfl, rfl, rfl, rfl⟩, rfl⟩

theorem connOpen_opens {c : PCtx} {tls : Option TlsHello} (hc : c.p.conn = none) (hst : c.p.st = .setup)
    (hok : ∀ h, tls = some h → h.ok = true) (hkey : tls = none ∨ c.e.tlsKey = true) :
    connOpen tls c = c.mod (fun p => { p with conn := some { tls := tls.isSome } }) := by
  unfold connOpen
  rw [hc, if_neg (by decide), if_pos (.inl hst)]
  have hmiss : (tls.isSome && !c.e.tlsKey) = false := by
    rcases hkey with rfl | hk
    · rfl
    · simp [hk]
  have hall : tls.any (fun h => !h.ok) = false := by
    cases tls with
    | none => rfl
    | some h => simp [hok h rfl]
  simp only [PCtx.mod_e, hmiss, hall, Bool.false_eq_true, if_false]

theorem tlsFail_setup {c : PCtx} (hc : c.p.conn.isSome = true) (hst : c.p.st = .setup) :
    tlsFail c = enterEnded .tls ((c.mod (fun p => { p with conn := none, failPend := none })).add .close) := by
  unfold tlsFail
  rw [if_neg (by simp [Option.isSome_iff_ne_none.1 hc])]
  exact if_pos hst

theorem enterEnded_conn {r : EndReason} {c : PCtx} (hf : c.p.failPend = none) : (enterEnded r c).p.conn = none := by
  rw [enterEnded_p, leaveSession_p]
  simp only [hf, Option.isSome_none, Bool.false_eq_true, if_false]

theorem enterEnded_eff {r : EndReason} {c : PCtx} {x : PEff} (hx : x ∈ c.eff) : x ∈ (enterEnded r c).eff := by
  unfold enterEnded leaveSession reportStop
  dsimp only [PCtx.mod]
  split <;> split <;> simp [PCtx.add, hx]

/-- A handshake that fails: the session is ended with TLS, and a key that is missing is told (R138, R391). -/
theorem connOpen_fails {c : PCtx} {h : TlsHello} (hc : c.p.conn = none) (hst : c.p.st = .setup) (hbad : c.e.tlsKey = false ∨ h.ok = false) :
    (connOpen (some h) c).p.conn = none ∧ (connOpen (some h) c).p.st = .ended ∧ (connOpen (some h) c).p.endR = .tls ∧
      (connOpen (some h) c).p.auth = .none ∧ (c.e.tlsKey = false → .keyMiss ∈ (connOpen (some h) c).eff) := by
  have fails (d : PCtx) (hd : d.p.conn.isSome = true) (hs : d.p.st = .setup) (hx : c.e.tlsKey = false → .keyMiss ∈ d.eff) :
      (tlsFail d).p.conn = none ∧ (tlsFail d).p.st = .ended ∧ (tlsFail d).p.endR = .tls ∧ (tlsFail d).p.auth = .none ∧
        (c.e.tlsKey = false → .keyMiss ∈ (tlsFail d).eff) := by
    rw [tlsFail_setup hd hs]
    obtain ⟨h1, h2, h3⟩ := enterEnded_facts .tls ((d.mod (fun p => { p with conn := none, failPend := none })).add .close)
    exact ⟨enterEnded_conn rfl, h1, h2, h3, fun hk => enterEnded_eff (List.mem_append_left _ (hx hk))⟩
  unfold connOpen
  rw [hc, if_neg (by decide), if_pos (.inl hst)]
  cases hk : c.e.tlsKey with
  | false =>
    have h := fails ((c.mod (fun p => { p with conn := some { tls := true } })).add .keyMiss) rfl hst
      (fun _ => List.mem_append_right _ (List.mem_singleton_self _))
    simpa [hk] using h
  | true =>
    have hno : h.ok = false := hbad.resolve_left (by rw [hk]; exact Bool.noConfusion)
    have h := fails (c.mod (fun p => { p with conn := some { tls := true } })) rfl hst (fun hn => by rw [hk] at hn; cases hn)
    simpa [hk, hno] using h

theorem State.tidy2g_none {s : State} {p : Fin 12} (h : s.ports[p].conn = none) : (s.tidy2g p).v2g[p] = {} := by
  unfold State.tidy2g
  rw [h]
  exact upd_same _ _ _

theorem State.tidy2g_some {s : State} {p : Fin 12} (h : s.ports[p].conn.isSome = true) : s.tidy2g p = s := by
  unfold State.tidy2g
  exact if_neg (by rw [Option.isNone_iff_eq_none]; exact Option.isSome_iff_ne_none.1 h)

theorem State.up_of_stackUp {s : State} {p : Fin 12} (h : s.stackUp p = true) : s.up = true := by
  unfold State.stackUp State.portUp at h
  simp only [Bool.and_eq_true] at h
  exact h.1.1.1.2

section
variable {s : State} {p : Fin 12} (hs : s.stackUp p = true)
include hs

section
variable (hc : s.ports[p].conn = none) (hst : s.ports[p].st = .setup)
include hc hst

theorem v2gConnectionOpen_opens (isn : Nat) (tls : Option TlsHello) (hok : ∀ h, tls = some h → h.ok = true)
    (hkey : tls = none ∨ s.serviceKey 0 = true) :
    ∃ t, exec (.v2gConnectionOpen p isn tls) s = .next t ∧ t.ports[p] = { s.ports[p] with conn := some { tls := tls.isSome } } ∧
          t.v2g[p].seqIn = (isn + 1) % 2 ^ 32 ∧ t.v2g[p].tls = tls.isSome ∧ t.v2g[p].recIn = 0 ∧ t.v2g[p].recOut = 0 := by
  obtain ⟨l, hl, hear⟩ := State.hear2g_open hc isn tls
  have hf : doMsg (.connOpen isn tls) ((s.hear2g p (.connOpen isn tls)).pctx p) =
      ((s.hear2g p (.connOpen isn tls)).pctx p).mod (fun p => { p with conn := some { tls := tls.isSome } }) := by
    rw [hear]
    exact connOpen_opens hc hst hok hkey
  have hq : (s.portMsg p 0 (.connOpen isn tls)).ports[p] = { s.ports[p] with conn := some { tls := tls.isSome } } := by
    rw [State.portMsg_port hs (by rw [hf, hear]; exact id), hf, hear]
    rfl
  have hmsg : s.portMsg p 0 (.connOpen isn tls) =
      ((s.hear2g p (.connOpen isn tls)).portRun p 0 (doMsg (.connOpen isn tls))).tidy2g p := by
    rw [State.portMsg_eq hs, State.portDo_eq_portRun p 0 _ _ (by rw [hf, hear]; exact id)]
    rfl
  have hconn : ((s.hear2g p (.connOpen isn tls)).portRun p 0 (doMsg (.connOpen isn tls))).ports[p].conn = some { tls := tls.isSome } := by
    have h := congrArg Port.conn hq
    rwa [hmsg, State.tidy2g_ports] at h
  have hv : (s.portMsg p 0 (.connOpen isn tls)).v2g[p] = l := by
    rw [hmsg, State.tidy2g_some (by rw [hconn]; rfl),
      (State.portRun_moves_effects p 0 (doMsg (.connOpen isn tls)) _).frame.get .v2g (by decide), hf, hear]
    exact upd_same _ _ _
  refine ⟨_, rfl, hq, ?_⟩
  rw [hv]
  exact hl

theorem v2gConnectionOpen_fails (isn : Nat) (h : TlsHello) (hbad : s.serviceKey 0 = false ∨ h.ok = false) :
    ∃ t, exec (.v2gConnectionOpen p isn (some h)) s = .next t ∧
        t.ports[p].conn = none ∧ t.ports[p].st = .ended ∧ t.ports[p].endR = .tls ∧ t.v2g[p] = {} ∧
        (s.serviceKey 0 = false → t.told .keyMissing) := by
  obtain ⟨l, -, hear⟩ := State.hear2g_open hc isn (some h)
  obtain ⟨h1, h2, h3, h4, h5⟩ := connOpen_fails (c := (s.hear2g p (.connOpen isn (some h))).pctx p) (h := h)
    (by rw [hear]; exact hc) (by rw [hear]; exact hst) (by rw [hear]; exact hbad)
  have hnot := auth_none_not_asked (q := s.ports[p].auth) h4
  have hnot' := auth_none_not_asked (q := (s.hear2g p (.connOpen isn (some h))).ports[p].auth) h4
  have hq : (s.portMsg p 0 (.connOpen isn (some h))).ports[p] = _ := State.portMsg_port (m := .connOpen isn (some h)) hs hnot
  have hmsg : s.portMsg p 0 (.connOpen isn (some h)) =
      ((s.hear2g p (.connOpen isn (some h))).portRun p 0 (doMsg (.connOpen isn (some h)))).tidy2g p := by
    rw [State.portMsg_eq hs, State.portDo_eq_portRun p 0 (doMsg (.connOpen isn (some h))) _ hnot']
    rfl
  have hrun : ((s.hear2g p (.connOpen isn (some h))).portRun p 0 (doMsg (.connOpen isn (some h)))).ports[p].conn = none := by
    have hn := congrArg Port.conn hq
    rw [hmsg, State.tidy2g_ports] at hn
    exact hn.trans h1
  refine ⟨_, rfl, (congrArg Port.conn hq).trans h1, (congrArg Port.st hq).trans h2, (congrArg Port.endR hq).trans h3, ?_, fun hk => ?_⟩
  · rw [hmsg]
    exact State.tidy2g_none hrun
  · have hup : (s.hear2g p (.connOpen isn (some h))).up = true := by
      rw [hear]
      exact State.up_of_stackUp hs
    have htold := State.portEffects_told_keyMissing p 0 hup (h5 (by rw [hear]; exact hk))
    have hthk := (((State.portRun_moves_effects p 0 (doMsg (.connOpen isn (some h))) (s.hear2g p (.connOpen isn (some h)))).weaken
      (by decide : _ ⊆ [.cuf, .hst, .out, .v2g])).trans ((State.tidy2g_moves p _).weaken (by decide))).frame.get .thk (by decide)
    unfold State.told at htold ⊢
    rw [hmsg, hthk]
    exact htold

end

section
variable {k : Conn} (hc : s.ports[p].conn = some k)
include hc

theorem tlsHandshakeFail_ends (hst : s.ports[p].st = .setup) :
    ∃ t, exec (.tlsHandshakeFail p) s = .next t ∧ t.ports[p].conn = none ∧ t.ports[p].st = .ended ∧ t.ports[p].endR = .tls := by
  have hpctx : (s.hear2g p .tlsFail).pctx p = s.pctx p := rfl
  have hm : doMsg .tlsFail (s.pctx p) =
      enterEnded .tls (((s.pctx p).mod (fun p => { p with conn := none, failPend := none })).add .close) :=
    tlsFail_setup (c := s.pctx p) (Option.isSome_of_eq_some hc) hst
  obtain ⟨h1, h2, h3⟩ := enterEnded_facts .tls (((s.pctx p).mod (fun p => { p with conn := none, failPend := none })).add .close)
  have hq : (s.portMsg p 0 .tlsFail).ports[p] = _ :=
    State.portMsg_port (m := .tlsFail) hs (by rw [hpctx, hm]; exact auth_none_not_asked h3)
  refine ⟨_, rfl, ?_⟩
  rw [hq, hpctx, hm]
  exact ⟨enterEnded_conn rfl, h1, h2⟩

section
variable (hf : s.ports[p].failPend = none)
include hf

theorem v2gConnectionClosed_ends (hst : s.ports[p].st = .energy) (hsh : s.ports[p].shortAt = none) :
    ∃ t, exec (.v2gConnectionClosed p) s = .next t ∧ t.ports[p].conn = none ∧ t.ports[p].st = .fault ∧ t.ports[p].endR = .comm := by
  have hfun : connClosed (s.pctx p) = abruptEnd .comm ((s.pctx p).mod (fun p => { p with conn := none, failPend := none })) := by
    have hconn : (s.pctx p).p.conn = some k := hc
    have hfail : (s.pctx p).p.failPend = none := hf
    have henergy : (s.pctx p).p.st = .energy := hst
    unfold connClosed
    rw [hconn, hfail, if_neg (by simp)]
    simp only [PCtx.mod_p, henergy]
    rfl
  obtain ⟨h1, h2, -, -, h5⟩ := abruptEnd_facts (r := .comm) rfl (c := (s.pctx p).mod (fun p => { p with conn := none, failPend := none })) hsh
  have hclosed : (abruptEnd .comm ((s.pctx p).mod (fun p => { p with conn := none, failPend := none }))).p.conn = none := by
    rw [abruptEnd_p _ _ rfl hsh]
    simp [leaveSession_p, countEnd_simple]
  have hpctx : (s.hear2g p .connClosed).pctx p = s.pctx p := rfl
  have hm : doMsg .connClosed (s.pctx p) = abruptEnd .comm ((s.pctx p).mod (fun p => { p with conn := none, failPend := none })) := hfun
  have hq : (s.portMsg p 0 .connClosed).ports[p] = _ :=
    State.portMsg_port (m := .connClosed) hs (by rw [hpctx, hm]; exact auth_none_not_asked h5)
  refine ⟨_, rfl, ?_⟩
  rw [hq, hpctx, hm]
  exact ⟨hclosed, h1, h2⟩

theorem supportedAppProtocolReq_agrees {h : V2gHead} {offers : List Proto} {o : Proto} (h1 : h.formOk = true) (h2 : h.len ≤ 16376)
    (h3 : h.exiOk = true) (hsid : k.sid = none ∨ k.sid = some h.sid) (happ : k.app = true → k.sid ≠ none) (hst : s.ports[p].st = .setup)
    (ho : offers.find? (s.pctx p).carries = some o) :
    ∃ t, exec (.supportedAppProtocolReq p h offers) s = .next t ∧ t.ports[p].proto = some o ∧
          t.ports[p].seqAt = s.mono ∧ Sends (.v2g p.val { req := .appProtocol, code := .ok, proto := some o }) s t := by
  have hj : doMsg (.appProtocol h offers) (s.pctx p) = appProtocol offers (s.pctx p).heard :=
    judge_accepts (c := s.pctx p) hc hf h1 h2 h3 (.inr rfl) (fun ha => .inl (Option.isSome_iff_ne_none.2 (happ ha)))
      (hsid.imp_right .inl) (by simp only [State.pctx_p, allowed, hst]; rfl)
  have ho' : offers.find? (s.pctx p).heard.carries = some o := ho
  have hd : doMsg (.appProtocol h offers) (s.pctx p) =
      ((s.pctx p).heard.mod (fun p => { p with proto := some o, conn := p.conn.map (fun x => { x with app := true }) })).add
        (.answer { req := .appProtocol, code := .ok, proto := some o }) := by
    rw [hj]
    unfold appProtocol
    rw [ho']
  have hq := State.portMsg_gives (m := .appProtocol h offers) (token := 0) hs rfl hd id
  exact ⟨_, rfl, congrArg Port.proto hq, congrArg Port.seqAt hq,
    State.portMsg_sendsAnswer hs rfl hd (List.mem_append_right _ (List.mem_singleton_self _))⟩

theorem sessionSetupReq_starts {h : V2gHead} (h1 : h.formOk = true) (h2 : h.len ≤ 16376) (h3 : h.exiOk = true) (happ : k.app = true)
    (hst : s.ports[p].st = .setup) (hr : s.clk.rngFail = false) :
    ∃ t, exec (.sessionSetupReq p h) s = .next t ∧ t.ports[p].sess = s.sessNext % 2 ^ 32 ∧
          t.sessNext = (s.sessNext + 1) % 2 ^ 32 ∧
          t.ports[p].sid = leNat (beBytes 4 (s.sessNext % 2 ^ 32)) + (Config.freeValue s.fresh % 2 ^ 32) * 2 ^ 32 := by
  have hj : doMsg (.sessionSetup h) (s.pctx p) = sessionSetup h.sid h.evcc (s.pctx p).heard :=
    judge_accepts (c := s.pctx p) hc hf h1 h2 h3 (.inl happ) (fun _ => .inr rfl) (.inr (.inr rfl))
      (by simp only [State.pctx_p, allowed, hst]; rfl)
  have hset : sessionSetup h.sid h.evcc (s.pctx p).heard = (((s.pctx p).heard.mod (fun p => { p with
      sess := s.sessNext % 2 ^ 32, evcc := h.evcc,
      sid := leNat (beBytes 4 (s.sessNext % 2 ^ 32)) + (Config.freeValue s.fresh % 2 ^ 32) * 2 ^ 32,
      conn := p.conn.map (fun x => { x with
        sid := some (leNat (beBytes 4 (s.sessNext % 2 ^ 32)) + (Config.freeValue s.fresh % 2 ^ 32) * 2 ^ 32) }),
      auth := .none })).add .newSess).add (.answer {
        req := .sessionSetup, code := if h.sid = 0 then .ok else .okNewSession,
        sid := leNat (beBytes 4 (s.sessNext % 2 ^ 32)) + (Config.freeValue s.fresh % 2 ^ 32) * 2 ^ 32, proto := s.ports[p].proto }) := by
    have hrng : (s.pctx p).heard.e.rngOk = true := (congrArg (!·) hr).trans rfl
    have hsetup : (s.pctx p).heard.p.st ≠ .ended := fun he => by
      have : s.ports[p].st = .ended := he
      rw [hst] at this
      cases this
    unfold sessionSetup
    simp only [hrng, if_neg hsetup, Bool.not_true, Bool.false_eq_true, if_false]
    rfl
  have hd := hj.trans hset
  have hq := State.portMsg_gives (m := .sessionSetup h) (token := 0) hs rfl hd (fun ha => nomatch ha)
  have hsess : (s.portMsg p 0 (.sessionSetup h)).sessNext = (s.sessNext + 1) % 2 ^ 32 := by
    have hpctx := State.hear2g_pctx (m := .sessionSetup h) rfl p s
    rw [State.portMsg_eq hs, State.portDo_eq_portRun p 0 _ _ (by rw [hpctx, hd]; exact fun ha => nomatch ha)]
    have hm := (((State.portRun_moves_effects p 0 (doMsg (.sessionSetup h)) (s.hear2g p (.sessionSetup h))).weaken
      (by decide : _ ⊆ [.cuf, .hst, .out, .v2g])).trans ((State.tidy2g_moves p _).weaken (by decide))).frame.get .sessNext (by decide)
    refine Eq.trans hm ?_
    rw [hpctx, hd]
    rfl
  exact ⟨_, rfl, congrArg Port.sess hq, hsess, congrArg Port.sid hq⟩

end
end
end

/-- Settles O19: each message through what its function gives of the port, after it is judged. -/
theorem vehicleMessagesAct : Obligations.VehicleMessagesAct := by
  unfold Obligations.VehicleMessagesAct
  intro s p hs
  refine ⟨fun hc hst => ⟨v2gConnectionOpen_opens hs hc hst, v2gConnectionOpen_fails hs hc hst⟩,
    fun k hc hf => ⟨v2gConnectionClosed_ends hs hc hf, tlsHandshakeFail_ends hs hc,
      fun h offers o h1 h2 h3 => supportedAppProtocolReq_agrees hs hc hf h1 h2 h3,
      fun h h1 h2 h3 => sessionSetupReq_starts hs hc hf h1 h2 h3⟩,
    fun h r => ⟨fun hst => ⟨serviceDiscoveryReq_answers r hst, serviceSelectionReq_selects r hst,
      authorizationReq_finishes r hst, cableCheckReq_checks r hst, certificateInstallationReq_answers r hst⟩,
      preChargeReq_enters r, fun hst => ⟨powerDeliveryReq_stops r hst, chargeLoopReq_follows r hst, sessionStopReq_stops r hst⟩⟩⟩

end Sys2Proof.Machine
end

section
/-! ## Credit, host writes and the 1 ms step of a port (O20: `PortHostActs`) -/

namespace Sys2Proof.Machine

/-! ### The 1 ms step of a port that is turned off by the clearing of the stack -/

/-- A port that has just been faulted, its contactors commanded open: no timer of a step has anything to do with it. -/
structure PCtx.Cleared (c : PCtx) : Prop where
  st : c.p.st = .fault
  endR : c.p.endR = .clearing
  kCmd : c.p.kCmd = false
  drive : c.p.drive = .off
  faultAt : c.p.faultAt = c.e.now
  shortAt : c.p.shortAt = none
  shortSince : c.p.shortSince = none
  checkOkSince : c.p.checkOkSince = none
  pdAt : c.p.pdAt = none
  auth : c.p.auth = .none
  mis : c.p.mis = .none ∨ c.p.mis = .since c.e.now

theorem Port.newCmd_mis (now : Nat) (p : Port) : (p.newCmd now).mis = .none ∨ (p.newCmd now).mis = .since now := by
  unfold Port.newCmd
  cases p.mismatch with
  | true => exact .inr rfl
  | false => exact .inl rfl

theorem clearingStep_cleared {c : PCtx} (hcl : c.e.clearing = true) (hs : c.p.st.inSession = true)
    (hm : c.p.kCmd = false → c.p.mis = .none) : (clearingStep c).Cleared ∧ (clearingStep c).e = c.e := by
  have hf : clearingStep c = cmdOpen (enterFault .clearing c) := by
    unfold clearingStep
    rw [hcl, hs]
    rfl
  have he : (clearingStep c).e = c.e := by
    rw [hf]
    unfold cmdOpen
    split <;> exact enterFault_e .clearing c
  have hp : (clearingStep c).p = (cmdOpen (enterFault .clearing c)).p := congrArg PCtx.p hf
  rw [cmdOpen_p, enterFault_p _ _ rfl, enterFault_e, leaveSession_p] at hp
  refine ⟨?_, he⟩
  cases hk : c.p.kCmd with
  | true =>
    rw [if_pos hk] at hp
    have hmis : (clearingStep c).p.mis = .none ∨ (clearingStep c).p.mis = .since (clearingStep c).e.now := by
      rw [hp, he]
      exact Port.newCmd_mis _ _
    exact {
      st := congrArg Port.st hp, endR := congrArg Port.endR hp, kCmd := congrArg Port.kCmd hp, drive := congrArg Port.drive hp,
      faultAt := (congrArg Port.faultAt hp).trans (congrArg PEnv.now he).symm, shortAt := congrArg Port.shortAt hp,
      shortSince := congrArg Port.shortSince hp, checkOkSince := congrArg Port.checkOkSince hp, pdAt := congrArg Port.pdAt hp,
      auth := congrArg Port.auth hp, mis := hmis }
  | false =>
    rw [if_neg (by rw [hk]; exact Bool.noConfusion)] at hp
    exact {
      st := congrArg Port.st hp, endR := congrArg Port.endR hp, kCmd := (congrArg Port.kCmd hp).trans hk, drive := congrArg Port.drive hp,
      faultAt := (congrArg Port.faultAt hp).trans (congrArg PEnv.now he).symm, shortAt := congrArg Port.shortAt hp,
      shortSince := congrArg Port.shortSince hp, checkOkSince := congrArg Port.checkOkSince hp, pdAt := congrArg Port.pdAt hp,
      auth := congrArg Port.auth hp, mis := .inl ((congrArg Port.mis hp).trans (hm hk)) }

namespace PCtx.Cleared

variable {c : PCtx} (h : c.Cleared)
include h

theorem disagreeStep (ht : 0 < c.e.cfg.tFb) : disagreeStep c = c := by
  unfold Machine.disagreeStep
  rcases h.mis with hm | hm
  · rw [hm]
  · rw [hm]
    exact if_pos (by omega)

theorem insulationStep : (insulationStep c).Cleared := by
  have hf : Machine.insulationStep c = c.mod (fun p => { p with imdSeen := c.e.imdOk }) := by
    unfold Machine.insulationStep
    exact if_neg (by simp [h.st])
  rw [hf]
  exact { h with }

theorem abruptOpen : (abruptOpen c).Cleared := by
  unfold Machine.abruptOpen
  split
  · exact h
  · split
    · unfold cmdOpen
      rw [if_neg (by simp [h.kCmd])]
      exact { h with drive := rfl }
    · exact h

theorem failClose : (failClose c).Cleared := by
  unfold Machine.failClose
  split
  · split
    · exact { h with }
    · exact h
  · exact h

/-- Only the end of an abrupt opening and of a FAILED answer have anything to do. -/
theorem timerStep_eq : timerStep c = Machine.failClose (faultMin (Machine.abruptOpen c)) := by
  have h1 : pullInDone c = c := if_neg (by simp [h.drive])
  have h2 : pilotErrStep c = c := by
    unfold pilotErrStep
    split
    · exact if_neg (by simp [h.st])
    · rfl
  have h3 : linkTimeout c = c := if_neg (by simp [h.st])
  have h4 : authTimeout c = c := if_neg (by simp [h.st])
  have h5 : checkPass c = c := by
    unfold checkPass
    rw [h.checkOkSince]
  have h6 : checkTimeout c = c := if_neg (by simp [h.st])
  have h7 : shortDeclare c = c := by
    unfold shortDeclare
    rw [h.shortSince]
  have h8 : shortPathOff c = c := by
    unfold shortPathOff
    rw [h.shortAt]
  have h9 : deliverStep c = c := if_neg (by simp [h.st])
  have h10 : deliverTimeout c = c := by
    unfold deliverTimeout
    rw [h.pdAt]
  have h11 : pcTimeout c = c := if_neg (by simp [h.st])
  have h12 : seqTimeout c = c := by
    unfold seqTimeout
    rw [h.st]
    rfl
  have h13 : stopRamp c = c := if_neg (by simp [h.st])
  simp only [timerStep, h1, h2, h3, h4, h5, h6, h7, h8, h9, h10, h11, h12, h13]

theorem faultMin_same : faultMin c = c := if_neg (by rw [h.faultAt]; omega)

theorem timerStep : (timerStep c).Cleared := by
  rw [h.timerStep_eq, h.abruptOpen.faultMin_same]
  exact h.abruptOpen.failClose

end PCtx.Cleared

theorem portStep_cleared {c : PCtx} (hcl : c.e.clearing = true) (hs : c.p.st.inSession = true) (ht : 0 < c.e.cfg.tFb)
    (hm : c.p.kCmd = false → c.p.mis = .none) : (portStep [] c).Cleared := by
  obtain ⟨hc, he⟩ := clearingStep_cleared hcl hs hm
  have hf : portStep [] c = timerStep (insulationStep (disagreeStep (clearingStep c))) := by
    simp only [portStep, List.filter_nil, List.foldl_nil]
  rw [hf, hc.disagreeStep (by rw [he]; exact ht)]
  exact hc.insulationStep.timerStep

theorem portStep_clears {s : State} {p : Fin 12} (hs : s.stackUp p = true) (hcl : s.clearing = true) (hin : s.ports[p].st.inSession = true)
    (ht : 0 < (s.vp p).tFb) (hm : s.ports[p].kCmd = false → s.ports[p].mis = .none) :
    ∃ t, exec (.portStep p []) s = .next t ∧ t.ports[p].st = .fault ∧ t.ports[p].endR = .clearing ∧ t.ports[p].kCmd = false := by
  have h := portStep_cleared (c := s.pctx p) hcl hin ht hm
  have hdo := State.portDo_ports p 0 (portStep []) s (auth_none_not_asked h.auth)
  have hq : (s.stepPort p []).ports[p] = (portStep [] (s.pctx p)).p := by
    have hstep : s.stepPort p [] = ((s.portDo p 0 (portStep [])).tidy2g p).handPort p := by
      simp only [State.stepPort, List.foldl_nil, List.any_nil, Bool.false_eq_true, if_false]
    rw [hstep, State.handPort_ports, State.tidy2g_ports, hdo]
    exact upd_same _ _ _
  refine ⟨_, congrArg Host.Outcome.next (State.onlyIf_of hs _ s), ?_⟩
  rw [hq]
  exact ⟨h.st, h.endR, h.kCmd⟩

theorem creditNotice_stops {s : State} {p : Fin 12} (hs : s.stackUp p = true) (hst : s.ports[p].st = .energy) :
    ∃ t, exec (.creditNotice p) s = .next t ∧ t.ports[p].st = .stopping ∧ t.ports[p].pendR = .credit ∧ t.ports[p].tgtI = 0 := by
  have hf : creditNotice (s.pctx p) = beginStop .credit true (s.pctx p) := if_pos hst
  have hq := State.onPort_port (f := creditNotice) hs (by rw [hf]; exact id)
  refine ⟨_, rfl, ?_⟩
  rw [hq, hf]
  exact ⟨rfl, rfl, rfl⟩

/-! ### Host writes -/

section
variable {s : State} {p : Fin 12} (hr : s.HostReady (vpCtrlAddr p))
include hr

/-- A write of VPn_CTRL that the port's function `f` carries out. -/
theorem State.vpCtrl_done {w : Nat} {f : PCtx → PCtx} (hw : vpCtrlWrite p w s = (.ok, s.portDo p 0 f))
    (ha : (f (s.pctx p)).p.auth = .asked → s.ports[p].auth = .asked) :
    ∃ t, (.next (s.hostWrite (vpCtrlAddr p) w) : Host.Outcome State Fault Refusal) = .next t ∧ t.ports[p] = (f (s.pctx p)).p ∧
      t.answered .ok [] := by
  have hp : pageWrite (.vp p) 0 w s = some (.ok, s.portDo p 0 f) := (dif_pos p.isLt).trans (congrArg some hw)
  have ha4 : vpCtrlAddr p % 4 = 0 := by unfold vpCtrlAddr; omega
  obtain ⟨k, hk⟩ := State.hostWrite_done (vpCtrlAddr p) w (.vp p) 0 s _ hr ha4 (pageOf_vpCtrl p) hp
  exact ⟨_, hk, (congrArg (fun v : Vector Port 12 => v[p]) (State.portDo_ports p 0 f s ha)).trans (upd_same _ _ _), State.answered_append ..⟩

theorem portEnableWrite_disables (hrun : s.ports[p].run = true) (hst : s.ports[p].st = .idle) :
    ∃ t, exec (.portEnableWrite p false) s = .next t ∧ t.ports[p].enable = false ∧ t.ports[p].st = .disabled ∧ t.answered .ok [] := by
  have hf : enableWrite false (s.pctx p) = (leaveSession s.ports[p].endR ((s.pctx p).mod (fun p => { p with enable := false }))).mod
      (fun p => { p with st := .disabled, cls := none }) := by
    have hrun' : (s.pctx p).p.run = true := hrun
    have hidle : (s.pctx p).p.st = .idle := hst
    unfold enableWrite
    simp only [PCtx.mod_p, hrun', hidle]
    rfl
  have hp : (enableWrite false (s.pctx p)).p = { (leaveSession s.ports[p].endR ((s.pctx p).mod (fun p => { p with enable := false }))).p with
      st := .disabled, cls := none } := congrArg PCtx.p hf
  rw [leaveSession_p] at hp
  obtain ⟨t, ht, hq, hans⟩ := State.vpCtrl_done hr (w := 0) (f := enableWrite false) rfl (by rw [hp]; exact fun ha => nomatch ha)
  refine ⟨t, ht, ?_, ?_, hans⟩
  · rw [hq, hp]
    rfl
  · rw [hq, hp]

theorem portStop_stops (hst : s.ports[p].st = .energy) :
    ∃ t, exec (.portStop p) s = .next t ∧ t.ports[p].st = .stopping ∧ t.ports[p].pendR = .host ∧
        t.ports[p].portStop = true ∧ t.answered .ok [] := by
  have hf : portStopWrite (s.pctx p) = (beginStop .host true (s.pctx p), true) := if_pos hst
  have hw : vpCtrlWrite p 2 s = (.ok, s.portDo p 0 (fun c => (portStopWrite c).1)) := by
    have hstop : vpCtrlWrite p 2 s = vpStop p s := rfl
    rw [hstop]
    exact if_pos (congrArg Prod.snd hf)
  obtain ⟨t, ht, hq, hans⟩ := State.vpCtrl_done hr hw (by rw [hf]; exact id)
  rw [hf] at hq
  exact ⟨t, ht, congrArg Port.st hq, congrArg Port.pendR hq, congrArg Port.portStop hq, hans⟩

theorem clrLock_unlocks (hst : s.ports[p].st = .locked) (hen : s.ports[p].enable = true) (h0 : s.ports[p].k0 = false)
    (h1 : s.ports[p].k1 = false) : ∃ t, exec (.clrLock p) s = .next t ∧ t.ports[p].st = .idle ∧ t.answered .ok [] := by
  have hf : clrLockWrite (s.pctx p) = ((s.pctx p).mod (fun p => { p with st := if p.enable then .idle else .disabled, cls := none }), true) :=
    if_pos ⟨hst, by simp only [State.pctx_p, h0, h1]; rfl⟩
  have hw : vpCtrlWrite p 4 s = (.ok, s.portDo p 0 (fun c => (clrLockWrite c).1)) := by
    have hclr : vpCtrlWrite p 4 s = vpClrLock p s := rfl
    rw [hclr]
    exact if_pos (congrArg Prod.snd hf)
  obtain ⟨t, ht, hq, hans⟩ := State.vpCtrl_done hr hw (by rw [hf]; exact id)
  rw [hf] at hq
  exact ⟨t, ht, (congrArg Port.st hq).trans (if_pos hen), hans⟩

/-- The registers of one port lie in one page. -/
theorem State.HostReady.vpBpt : s.HostReady (vpCtrlAddr p + 0x30) where
  up := hr.up
  serves := hr.serves
  code := by
    have h := hr.code
    have hlo : ¬ vpCtrlAddr p < 0x5000 := by unfold vpCtrlAddr; omega
    unfold State.codeRuns at h ⊢
    rw [decide_eq_false hlo, Bool.and_false, Bool.or_false] at h
    rw [h, Bool.true_or]
  present := by
    have h := hr.present
    unfold absentAt at h ⊢
    rw [pageOf_vpCtrl] at h
    rw [pageOf_vpBpt]
    exact h

theorem bptTgtWrite_sets (hin : s.ports[p].inBpt = true) (w : Word) :
    ∃ t, exec (.bptTgtWrite p w) s = .next t ∧ t.ports[p].bptTgt = dec 16 w.toNat ∧
        t.ports[p].bptValid = bitOf 16 w.toNat ∧ t.answered .ok [] := by
  have hf : Machine.bptTgtWrite (dec 16 w.toNat) (bitOf 16 w.toNat) (s.pctx p) =
      ((s.pctx p).mod (fun p => { p with bptTgt := dec 16 w.toNat, bptValid := bitOf 16 w.toNat }), true) := if_pos hin
  have hw : vpBptWrite p w.toNat s =
      (.ok, s.portDo p 0 (fun c => (Machine.bptTgtWrite (dec 16 w.toNat) (bitOf 16 w.toNat) c).1)) :=
    if_pos (congrArg Prod.snd hf)
  have hp : pageWrite (.vp p) 0x30 w.toNat s = some _ := (dif_pos p.isLt).trans (congrArg some hw)
  have ha4 : (vpCtrlAddr p + 0x30) % 4 = 0 := by unfold vpCtrlAddr; omega
  obtain ⟨k, hk⟩ := State.hostWrite_done (vpCtrlAddr p + 0x30) w.toNat (.vp p) 0x30 s _ hr.vpBpt ha4 (pageOf_vpBpt p) hp
  have hq := (congrArg (fun v : Vector Port 12 => v[p]) (State.portDo_ports p 0
    (fun c => (Machine.bptTgtWrite (dec 16 w.toNat) (bitOf 16 w.toNat) c).1) s (by rw [hf]; exact id))).trans (upd_same _ _ _)
  rw [hf] at hq
  exact ⟨_, hk, congrArg Port.bptTgt hq, congrArg Port.bptValid hq, State.answered_append ..⟩

end

/-- Settles O20: credit, the clearing of the stack, and the host's writes of a port. -/
theorem portHostActs : Obligations.PortHostActs := by
  unfold Obligations.PortHostActs
  intro s p
  refine ⟨creditNotice_stops, portStep_clears, fun hr hup => ⟨portEnableWrite_disables hr ?_, portStop_stops hr, clrLock_unlocks hr,
    fun w hin => bptTgtWrite_sets hr hin w⟩⟩
  unfold State.portUp at hup
  simp only [Bool.and_eq_true] at hup
  exact hup.2

end Sys2Proof.Machine
end

section
/-! ## The cable sensors and the thermal twin of a port (O21: `TwinActs`) -/

namespace Sys2Proof.Machine

/-! ### What the steps of the twin leave -/

theorem fastStep_keeps {β : Type} {view : Twin → β} (h : ∀ (w : Twin) a b, view { w with fast := a, quietSince := b } = view w)
    (k : TwCable) (now : Nat) (w : Twin) : view (fastStep k now w) = view w := by
  unfold fastStep
  split
  · exact h w true none
  · exact h w w.fast (some (w.quietSince.getD now))

theorem jStep_keeps {β : Type} {view : Twin → β} (h : ∀ (w : Twin) a b, view { w with jDue := a, jAt := b } = view w)
    (now : Nat) (w : Twin) : view (jStep now w) = view w := by
  simp only [jStep, apply_ite view, h w true (some now), ite_self]

theorem twinBegin_keeps {β : Type} {view : Twin → β} (h : ∀ (w : Twin) n a b, view { w with nodes := n, seeded := a, seedAt := b } = view w)
    (w : Twin) : view (twinBegin w) = view w := by
  unfold twinBegin
  split
  · next t _ => exact h w ⟨t, t, t⟩ true none
  · rfl

theorem twinStart_keeps {β : Type} {view : Twin → β}
    (h : ∀ (w : Twin) n a b c, view { w with nodes := n, seeded := a, seedAt := b, started := c } = view w)
    (now : Nat) (w : Twin) : view (twinStart now w) = view w := by
  have hbegin (u : Twin) : view (twinBegin u) = view u := twinBegin_keeps (fun w n a b => h w n a b w.started) u
  have hstart (u : Twin) : view { u with started := true } = view u := h u u.nodes u.seeded u.seedAt true
  have hseed (u : Twin) : view { u with seedAt := some now } = view u := h u u.nodes u.seeded (some now) u.started
  unfold twinStart
  split
  · dsimp only
    split
    · exact (hstart { twinBegin w with seedAt := some now }).trans ((hseed (twinBegin w)).trans (hbegin w))
    · exact hstart w
  · rfl

/-- A follow-up of the twin leaves its sensors. -/
theorem follow_keeps {β : Type} {view : Twin → β}
    (h : ∀ (w : Twin) n a b c d e, view { w with nodes := n, seeded := a, seedAt := b, started := c, fast := d, quietSince := e } = view w)
    (r : Option TwCable) (now : Nat) (w : Twin) : view (w.follow r now) = view w := by
  unfold Twin.follow
  cases r with
  | none => rfl
  | some k =>
    exact (fastStep_keeps (fun w a b => h w w.nodes w.seeded w.seedAt w.started a b) k now _).trans
      (twinStart_keeps (fun w n a b c => h w n a b c w.fast w.quietSince) now w)

theorem State.twinPut_twins (p : Fin 12) (w : Twin) (s : State) : (s.twinPut p w).twins = upd s.twins p (fun _ => w) := by
  unfold State.twinPut State.cpcPut
  dsimp only
  split
  · split
    · exact State.raise_twins ..
    · rfl
  · rfl

theorem State.twinPut_same (p : Fin 12) (w : Twin) (s : State) : (s.twinPut p w).twins[p] = w :=
  (congrArg (fun v : Vector Twin 12 => v[p]) (State.twinPut_twins p w s)).trans (upd_same _ _ _)

theorem State.twinPut_up (p : Fin 12) (w : Twin) (s : State) (h : s.up = true) : (s.twinPut p w).up = true :=
  (State.up_congr ((State.twinPut_moves p w s).frame.get .rst (by decide))).trans h

theorem State.up_of_inputsUp {s : State} {p : Fin 12} (h : s.inputsUp p = true) : s.up = true := by
  unfold State.inputsUp at h
  simp only [Bool.and_eq_true] at h
  exact h.1.2

/-! ### Sensor inputs (R159) -/

theorem Twin.input_setInput (w : Twin) (k : Fin 3) (x : TempIn) : (w.setInput k x).input k = x := by
  match k with
  | 0 => rfl
  | 1 => rfl
  | 2 => rfl

theorem Twin.input_follow (r : Option TwCable) (now : Nat) (w : Twin) (k : Nat) : (w.follow r now).input k = w.input k :=
  follow_keeps (view := fun w : Twin => w.input k) (fun _ _ _ _ _ _ _ => rfl) r now w

theorem tempMeasure_in {ohm : Nat} {v : Int} {x : TempIn} (hlo : 800 ≤ ohm) (hhi : ohm ≤ 1900) (hx : x.fault = false) :
    tempMeasure ohm v x = { x with t := satI 16 v, run := 0, seen := true } := by
  have hout : (decide (ohm < 800) || decide (1900 < ohm)) = false := by simp [hlo, hhi]
  unfold tempMeasure
  simp only [hout, hx]
  rfl

theorem tempMeasure_third {ohm : Nat} {v : Int} {x : TempIn} (hout : ohm < 800 ∨ 1900 < ohm) (hx : x.fault = false) (hrun : 2 ≤ x.run) :
    (tempMeasure ohm v x).fault = true := by
  have ho : (decide (ohm < 800) || decide (1900 < ohm)) = true := by simpa using hout
  have h3 : decide (3 ≤ x.run + 1) = true := by simpa using hrun
  unfold tempMeasure
  simp only [ho, hx, Bool.true_eq_false, if_false, h3, if_true, Bool.or_self]

/-- A faulted input of the cable puts the twin into fast mode. -/
theorem fastStep_of_fault {c : TwCable} {now : Nat} {w : Twin} {k : Fin 2} (h : (w.input k).fault = true) :
    (fastStep c now w).fast = true := by
  have hused : usedFault c w = true := by
    unfold usedFault
    match k with
    | 0 => rw [show w.ta.fault = true from h, Bool.true_or, Bool.true_or, Bool.true_or]
    | 1 => rw [show w.tb.fault = true from h, Bool.or_true, Bool.true_or, Bool.true_or]
  have hcond : fastCond c now w = true := by
    unfold fastCond
    rw [hused, Bool.or_true, Bool.true_or]
  unfold fastStep
  rw [if_pos hcond]

section
variable {s : State} {p : Fin 12} (hs : s.inputsUp p = true)
include hs

theorem tempMeasurement_reads (k : Fin 3) (ohm : Nat) (v : Int) (hlo : 800 ≤ ohm) (hhi : ohm ≤ 1900)
    (hf : (s.twins[p].input k).fault = false) :
    ∃ t, exec (.tempMeasurement p k ohm v) s = .next t ∧
          t.twins[p].input k = { s.twins[p].input k with t := satI 16 v, run := 0, seen := true } := by
  have hx := tempMeasure_in (v := v) hlo hhi hf
  refine ⟨_, congrArg Host.Outcome.next (State.onlyIf_of hs _ s), ?_⟩
  have htw : (s.measureTemp p k ohm v).twins =
      upd s.twins p (fun _ => (s.twins[p].setInput k (tempMeasure ohm v (s.twins[p].input k))).follow (s.cable p) s.mono) := by
    unfold State.measureTemp
    dsimp only
    rw [apply_ite State.twins, State.raiseAt_twins, ite_self, State.twinPut_twins]
  have hq := (congrArg (fun v : Vector Twin 12 => v[p]) htw).trans (upd_same _ _ _)
  exact (congrArg (Twin.input k) hq).trans ((Twin.input_follow ..).trans ((Twin.input_setInput ..).trans hx))

/-- The third reading in a row out of range: the input is faulted and the twin goes to fast mode (R159, R164). -/
theorem tempMeasurement_faults (k : Fin 2) (ohm : Nat) (v : Int) (c : TwCable) (hout : ohm < 800 ∨ 1900 < ohm)
    (hf : (s.twins[p].input k).fault = false) (hrun : 2 ≤ (s.twins[p].input k).run) (hc : s.cable p = some c) :
    ∃ t, exec (.tempMeasurement p (k.castLE (by decide)) ohm v) s = .next t ∧
          (t.twins[p].input k).fault = true ∧ t.twins[p].fast = true ∧ t.told .cableSensorFault := by
  obtain ⟨x, hxdef⟩ : ∃ x, tempMeasure ohm v (s.twins[p].input k) = x := ⟨_, rfl⟩
  have hx : x.fault = true := hxdef ▸ tempMeasure_third hout hf hrun
  obtain ⟨w, hw⟩ : ∃ w, (s.twins[p].setInput k x).follow (s.cable p) s.mono = w := ⟨_, rfl⟩
  have hm : s.measureTemp p k ohm v = (s.twinPut p w).raiseAt .cableSensorFault p := by
    have hused : (decide ((k : Nat) ≠ 2) || c.pinEn) = true := by
      rw [decide_eq_true (by omega), Bool.true_or]
    rw [← hw, hc]
    unfold State.measureTemp
    simp only [hxdef, hc, hused, hx, hf]
    rfl
  have hin : w.input k = x := by
    rw [← hw, Twin.input_follow]
    exact Twin.input_setInput _ (k.castLE (by decide)) x
  have hq : ((s.twinPut p w).raiseAt .cableSensorFault p).twins[p] = w := by
    rw [State.raiseAt_twins]
    exact State.twinPut_same p w s
  refine ⟨_, congrArg Host.Outcome.next (State.onlyIf_of hs _ s), ?_⟩
  have hm' : s.measureTemp p (k.castLE (by decide : 2 ≤ 3) : Fin 3) ohm v = _ := hm
  rw [hm', hq]
  refine ⟨(congrArg TempIn.fault hin).trans hx, ?_, State.raiseAt_told _ _ _ (State.twinPut_up p w s (State.up_of_inputsUp hs))⟩
  have hfast : fastStep c s.mono (twinStart s.mono (s.twins[p].setInput k x)) = w := by
    rw [← hw, hc]
    rfl
  have hin' : (twinStart s.mono (s.twins[p].setInput k x)).input k = x :=
    (twinStart_keeps (view := fun w : Twin => w.input k) (fun _ _ _ _ _ => rfl) ..).trans (Twin.input_setInput _ (k.castLE (by decide)) x)
  rw [← hfast]
  exact fastStep_of_fault (by rw [hin']; exact hx)

/-! ### Flow (R160) -/

theorem flowPulseEdge_measures {t0 : Nat} {c : TwCable} (h0 : s.twins[p].lastEdge = some t0) (ht : t0 < s.mono) (hc : s.cable p = some c) :
    ∃ t, exec (.flowPulseEdge p) s = .next t ∧ t.twins[p].lastEdge = some s.mono ∧
          t.twins[p].q = 60 * 1000000 / ((c.kFlow : Rat) * ((s.mono - t0 : Nat) : Rat)) ∧
          t.twins[p].flFault = (s.twins[p].flFault || decide (22 < (edgesIn s.mono s.twins[p].edges).length + 1)) := by
  obtain ⟨x, hx⟩ : ∃ x, flowEdge p s.mono (s.cable p) s.twins[p] = x := ⟨_, rfl⟩
  have hedge : x.1.lastEdge = some s.mono ∧ x.1.q = 60 * 1000000 / ((c.kFlow : Rat) * ((s.mono - t0 : Nat) : Rat)) ∧
      x.1.flFault = (s.twins[p].flFault || decide (22 < (edgesIn s.mono s.twins[p].edges).length + 1)) := by
    rw [← hx]
    unfold flowEdge
    simp only [h0, hc, if_neg (by omega : ¬ s.mono = t0), List.length_append, List.length_singleton, and_self]
  have hq : (s.flowPulse p).twins[p] = x.1.follow (s.cable p) s.mono := by
    have htw : (s.flowPulse p).twins = upd s.twins p (fun _ => x.1.follow (s.cable p) s.mono) := by
      unfold State.flowPulse
      dsimp only
      rw [apply_ite State.twins, State.raiseAt_twins, ite_self, State.twinPut_twins, hx]
    exact (congrArg (fun v : Vector Twin 12 => v[p]) htw).trans (upd_same _ _ _)
  refine ⟨_, congrArg Host.Outcome.next (State.onlyIf_of hs _ s), ?_⟩
  obtain ⟨h1, h2, h3⟩ := hedge
  exact ⟨(congrArg Twin.lastEdge hq).trans ((follow_keeps (fun _ _ _ _ _ _ _ => rfl) ..).trans h1),
    (congrArg Twin.q hq).trans ((follow_keeps (fun _ _ _ _ _ _ _ => rfl) ..).trans h2),
    (congrArg Twin.flFault hq).trans ((follow_keeps (fun _ _ _ _ _ _ _ => rfl) ..).trans h3)⟩

theorem flowTimeout_stops (h : ∀ t0, s.twins[p].lastEdge = some t0 → t0 + 2000000 ≤ s.mono) :
    ∃ t, exec (.flowTimeout p) s = .next t ∧ t.twins[p] = { s.twins[p] with q := 0 } := by
  refine ⟨_, congrArg Host.Outcome.next (State.onlyIf_of hs _ s), (upd_same _ _ _).trans ?_⟩
  unfold flowTimeout
  split
  · next t0 h0 => exact if_pos (h t0 h0)
  · rfl

theorem flowFaultClear_clears (hf : s.twins[p].flFault = true) (ht : s.twins[p].flHighAt + 1000000 ≤ s.mono) :
    ∃ t, exec (.flowFaultClear p) s = .next t ∧ t.twins[p] = { s.twins[p] with flFault := false } :=
  ⟨_, congrArg Host.Outcome.next (State.onlyIf_of hs _ s), (upd_same _ _ _).trans (if_pos ⟨hf, ht⟩)⟩

end

/-! ### The evaluation of the model (R161, R162) -/

/-- What follows the model in an evaluation changes the capacity and its timers only. -/
theorem capEval_keeps {β : Type} {view : Twin → β}
    (h : ∀ (w : Twin) a b c d e f, view { w with cTh := a, cut := b, lastStep := c, steps := d, raiseSince := e, lastRaise := f } = view w)
    (k : TwCable) (rating alloc now : Nat) (w : Twin) : view (capEval k rating alloc now w).1 = view w := by
  have hfault (w : Twin) : view (capFault k rating w) = view w := by
    unfold capFault
    split
    · exact h w _ w.cut w.lastStep w.steps w.raiseSince w.lastRaise
    · rfl
  have hcut (w : Twin) : view (capCut k rating w).1 = view w := by
    unfold capCut
    extract_lets
    split
    · exact h w _ true w.lastStep w.steps w.raiseSince w.lastRaise
    · rfl
  have hfree (w : Twin) : view (capFree rating alloc w) = view w := by
    unfold capFree
    split
    · exact h w _ w.cut w.lastStep w.steps w.raiseSince w.lastRaise
    · rfl
  have hthr (w : Twin) : view (capThrottle k rating now w).1 = view w := by
    unfold capThrottle
    extract_lets
    split
    · exact h w _ w.cut (some now) _ w.raiseSince w.lastRaise
    · rfl
  have hraise (l : Bool) (w : Twin) : view (capRaise k rating now l w) = view w := by
    unfold capRaise
    split
    · exact h w w.cTh w.cut w.lastStep w.steps none none
    · extract_lets
      split
      · exact h w _ w.cut w.lastStep w.steps _ (some now)
      · exact h w w.cTh w.cut w.lastStep w.steps _ w.lastRaise
  exact (hraise _ _).trans ((hthr _).trans ((hfree _).trans ((hcut _).trans (hfault w))))

/-- The twin before the model of an evaluation: the samples of the last period are taken. -/
def Twin.sampled (now : Nat) (w : Twin) : Twin := { twinStart now w with seedAt := none, sumI2 := 0, nTicks := 0 }

/-- The twin after the model, before the mode and the journal are judged. -/
def Twin.evaluated (k : TwCable) (rating alloc now : Nat) (i2 : Rat) (ms : Nat) (w : Twin) : Twin :=
  if !w.started then
    if w.capSet then { capFault k rating w with raiseSince := none, lastRaise := none } else { w with cTh := 0 }
  else if !w.capSet then
    { modelEval k rating alloc i2 ms w with
      cTh := gridDown rating (modelEval k rating alloc i2 ms w).iAllow, capSet := true, raiseSince := none, lastRaise := none }
  else (capEval k rating alloc now (modelEval k rating alloc i2 ms w)).1

theorem twinEval_eq (k : TwCable) (rating alloc now : Nat) (w : Twin) :
    (twinEval k rating alloc now w).1 = jStep now (fastStep k now ((w.sampled now).evaluated k rating alloc now
      (if (twinStart now w).nTicks = 0 then 0 else (twinStart now w).sumI2 / ((twinStart now w).nTicks : Rat))
      (2 * (twinStart now w).nTicks))) := by
  unfold twinEval Twin.evaluated Twin.sampled
  generalize twinStart now w = u
  by_cases hst : u.started = true
  · by_cases hcap : u.capSet = true
    · simp only [hst, hcap, modelEval, Bool.not_true, Bool.false_eq_true, if_false]
    · simp only [hst, hcap, modelEval, Bool.not_true, Bool.not_false, Bool.false_eq_true, if_false, if_true]
  · by_cases hcap : u.capSet = true
    · simp only [hst, hcap, Bool.not_false, if_true]
    · simp only [hst, hcap, Bool.not_false, Bool.false_eq_true, if_false, if_true]

/-- What the mode and the journal leave alone is as the model and the capacity gave it. -/
theorem twinEval_keeps {β : Type} {view : Twin → β}
    (h : ∀ (w : Twin) a b c d, view { w with fast := a, quietSince := b, jDue := c, jAt := d } = view w)
    (k : TwCable) (rating alloc now : Nat) (w : Twin) :
    view (twinEval k rating alloc now w).1 = view ((w.sampled now).evaluated k rating alloc now
      (if (twinStart now w).nTicks = 0 then 0 else (twinStart now w).sumI2 / ((twinStart now w).nTicks : Rat))
      (2 * (twinStart now w).nTicks)) := by
  rw [twinEval_eq]
  exact (jStep_keeps (fun w c d => h w w.fast w.quietSince c d) now _).trans
    (fastStep_keeps (fun w a b => h w a b w.jDue w.jAt) k now _)

theorem twinStart_idle {now : Nat} {w : Twin} (ha : w.ta.valid = false) (hb : w.tb.valid = false) : twinStart now w = w := by
  unfold twinStart
  rw [ha, hb]
  rfl

theorem twinStart_started {now : Nat} {w : Twin} (hst : w.started = true) (hseed : w.seeded = true) (hat : w.seedAt ≠ some now) :
    twinStart now w = w := by
  unfold twinStart
  split
  · dsimp only
    rw [if_neg (by simp [hseed, hat]), ← hst]
  · rfl

theorem capFault_cTh (k : TwCable) (rating : Nat) (w : Twin) :
    (capFault k rating w).cTh = if (w.ta.fault || w.tb.fault || (k.pinEn && w.tc.fault)) then
      min w.cTh (gridDown rating (rating * k.failCap / 100)) else w.cTh := by
  unfold capFault
  split <;> rfl

theorem capFault_nTicks (k : TwCable) (rating : Nat) (w : Twin) : (capFault k rating w).nTicks = w.nTicks := by
  unfold capFault
  split <;> rfl

section
variable {s : State} {p : Fin 12} {c : TwCable} (hs : s.stackUp p = true) (hc : s.cable p = some c)
include hs hc

/-- An evaluation leaves the port's twin as the twin's own function gives it. -/
theorem thermalEvaluation_twin : ∃ t, exec (.thermalEvaluation p) s = .next t ∧
    t.twins[p] = (twinEval c (s.rating p) (s.cnp.ports[p]).alloc.natAbs s.mono (s.twins[p])).1 := by
  refine ⟨_, congrArg Host.Outcome.next (State.onlyIf_of hs _ s), ?_⟩
  unfold State.evalTwin
  simp only [hc]
  refine (congrArg (fun v : Vector Twin 12 => v[p]) (foldl_keeps (view := State.twins) _ _ (fun t e _ => State.raiseAt_twins e p t))).trans ?_
  exact State.twinPut_same ..

/-- A twin that has no valid reading: C_th is 0 until it has been set, then held to the cap of a failed sensor (R163). -/
theorem thermalEvaluation_waits (hst : s.twins[p].started = false) (ha : s.twins[p].ta.valid = false) (hb : s.twins[p].tb.valid = false) :
    ∃ t, exec (.thermalEvaluation p) s = .next t ∧ t.twins[p].cTh = (
          if s.twins[p].capSet then
            (if s.twins[p].ta.fault || s.twins[p].tb.fault || (c.pinEn && s.twins[p].tc.fault)
              then min s.twins[p].cTh (gridDown (s.rating p) (s.rating p * c.failCap / 100)) else s.twins[p].cTh)
          else 0) ∧ t.twins[p].nTicks = 0 := by
  obtain ⟨t, ht, hq⟩ := thermalEvaluation_twin hs hc
  refine ⟨t, ht, ?_⟩
  rw [hq, twinEval_keeps (view := Twin.cTh) (fun _ _ _ _ _ => rfl), twinEval_keeps (view := Twin.nTicks) (fun _ _ _ _ _ => rfl)]
  unfold Twin.sampled Twin.evaluated
  rw [twinStart_idle ha hb]
  generalize s.twins[p] = w at hst ⊢
  simp only [hst, Bool.not_false, if_true]
  constructor
  · rw [apply_ite Twin.cTh]
    exact if_congr Iff.rfl (capFault_cTh ..) rfl
  · rw [apply_ite Twin.nTicks]
    dsimp only
    rw [capFault_nTicks, ite_self]

/-- A twin that runs: the nodes go on by the samples of the period, and the allowance follows them (R161, R162). -/
theorem thermalEvaluation_runs (hst : s.twins[p].started = true) (hseed : s.twins[p].seeded = true)
    (hat : s.twins[p].seedAt ≠ some s.mono) :
    ∃ t, exec (.thermalEvaluation p) s = .next t ∧
        t.twins[p].nodes = twinRun c (if s.twins[p].nTicks = 0 then 0 else s.twins[p].sumI2 / (s.twins[p].nTicks : Rat))
          (qOfModel s.twins[p]) (tLocOf c s.twins[p]) (2 * s.twins[p].nTicks) s.twins[p].nodes ∧
        t.twins[p].iAllow = iAllowOf c (s.rating p) (qOfModel s.twins[p]) (tLocOf c s.twins[p]) t.twins[p].nodes ∧
        t.twins[p].sumI2 = 0 ∧ t.twins[p].nTicks = 0 ∧
        (s.twins[p].capSet = false → t.twins[p].cTh = gridDown (s.rating p) t.twins[p].iAllow) := by
  obtain ⟨t, ht, hq⟩ := thermalEvaluation_twin hs hc
  refine ⟨t, ht, ?_⟩
  rw [hq, twinEval_keeps (view := Twin.nodes) (fun _ _ _ _ _ => rfl), twinEval_keeps (view := Twin.iAllow) (fun _ _ _ _ _ => rfl),
    twinEval_keeps (view := Twin.sumI2) (fun _ _ _ _ _ => rfl), twinEval_keeps (view := Twin.nTicks) (fun _ _ _ _ _ => rfl),
    twinEval_keeps (view := Twin.cTh) (fun _ _ _ _ _ => rfl)]
  unfold Twin.sampled Twin.evaluated
  rw [twinStart_started hst hseed hat]
  generalize s.twins[p] = w at hst ⊢
  simp only [hst, Bool.not_true, Bool.false_eq_true, if_false]
  by_cases hcap : w.capSet = true
  · simp only [hcap, Bool.not_true, Bool.false_eq_true, if_false]
    rw [capEval_keeps (view := Twin.nodes) (fun _ _ _ _ _ _ _ => rfl), capEval_keeps (view := Twin.iAllow) (fun _ _ _ _ _ _ _ => rfl),
      capEval_keeps (view := Twin.sumI2) (fun _ _ _ _ _ _ _ => rfl), capEval_keeps (view := Twin.nTicks) (fun _ _ _ _ _ _ _ => rfl)]
    exact ⟨rfl, rfl, rfl, rfl, fun h => nomatch h⟩
  · rw [Bool.not_eq_true] at hcap
    simp only [hcap, Bool.not_false, if_true]
    exact ⟨rfl, rfl, rfl, rfl, fun _ => trivial⟩

theorem fastModeExit_exits {t0 : Nat} (hq : s.twins[p].quietSince = some t0) (ht : t0 + 10000000 ≤ s.mono)
    (hf : s.twins[p].fast = true) (hn : fastCond c s.mono s.twins[p] = false) :
    ∃ t, exec (.fastModeExit p) s = .next t ∧ t.twins[p] = { s.twins[p] with fast := false } := by
  refine ⟨_, congrArg Host.Outcome.next (State.onlyIf_of hs _ s), ?_⟩
  have hexit : fastExit c s.mono s.twins[p] = { s.twins[p] with fast := false } := by
    unfold fastExit
    simp only [hq]
    exact if_pos ⟨hf, by rw [hn]; rfl, ht⟩
  unfold State.quietTwin
  simp only [hc]
  exact (upd_same _ _ _).trans hexit

end

/-- Settles O21: the sensors of the cable, the flow and the evaluation of the twin. -/
theorem twinActs : Obligations.TwinActs := by
  unfold Obligations.TwinActs
  intro s p
  refine ⟨fun hs => ⟨fun k ohm v => tempMeasurement_reads hs k ohm v, fun k ohm v c hout hf hrun hc => ?_, fun t0 c => flowPulseEdge_measures hs,
    flowTimeout_stops hs, flowFaultClear_clears hs⟩,
    fun hs c hc => ⟨thermalEvaluation_waits hs hc, thermalEvaluation_runs hs hc⟩,
    fun hs c t0 hc => fastModeExit_exits hs hc⟩
  exact tempMeasurement_faults hs k ohm v c hout hf hrun hc

end Sys2Proof.Machine
end

section
/-! ## A sample of a loop and its way out of FAULT (O22: `LoopsSample`) -/

namespace Sys2Proof.Machine

/-- Loop 3 stands in FAULT with its output at a clamp, its process value valid for 2 s, and OFF as the mode last written; OUT_SAFE is
1.0, which is neither OUT_MIN nor OUT_MAX. -/
def clampedInFault : State :=
  { mono := 2000000, rst := { hold := none, refOk := true },
    cpc := { loops := (Vector.replicate 64 {}).set 3 { recd := some { outSafe := 0x3F800000 }, st := .fault, sat := true, validSince := some 0 } } }

/-- Going to OFF gives OUT_SAFE, and with it takes the loop off its clamp. -/
theorem clampedInFault_recovers : ∃ t, exec (.loopFaultRecovery 3) clampedInFault = .next t ∧ t.cpc.loops[3].sat = false :=
  ⟨_, congrArg Host.Outcome.next (State.onlyIf_of (by decide) _ clampedInFault), by decide +kernel⟩

/-- Refutes O22: the clause of MODE 0 keeps every field but the state and the output, but the status SAT (Table 6.7) follows the output:
in `clampedInFault` it is set, and the way out of FAULT clears it. -/
theorem not_loopsSample : ¬ Obligations.LoopsSample := by
  unfold Obligations.LoopsSample
  intro h
  obtain ⟨-, -, hout⟩ := h clampedInFault 3 { outSafe := 0x3F800000 } (by decide) (by decide) (by decide) (by decide)
  obtain ⟨t, ht, heq⟩ := (hout 0 (by decide) (by decide) (by decide)).1 (by decide)
  obtain ⟨u, hu, hsat⟩ := clampedInFault_recovers
  have htu : t = u := Host.Outcome.next.inj (ht.symm.trans hu)
  have hset : t.cpc.loops[3].sat = true := (congrArg Loop.sat heq).trans (by decide)
  rw [htu, hsat] at hset
  cases hset

end Sys2Proof.Machine
end

section
/-! ## Host writes of a loop's registers, and the injection (O23: `LoopWritesAct`) -/

namespace Sys2Proof.Machine

/-! ### A host write that is done keeps the pending events of its page -/

/-- A write that its page carries out leaves the events that the page's own state has pending. -/
theorem State.hostWrite_told (a w : Nat) (g : Page) (o : Nat) (s t : State) (h : s.HostReady a) (ha : a % 4 = 0)
    (hp : pageOf a = some (g, o)) (hw : pageWrite g o w s = some (.ok, t)) {e : Ev} (he : t.told e) : (s.hostWrite a w).told e := by
  have hg : g.present s.fuses.variant = true := by
    have := h.present
    unfold absentAt at this
    rw [hp] at this
    simpa using this
  have hstored : s.writeAt a w = stored a (.ok, t) := by
    unfold State.writeAt
    simp only [ha, if_true, hp, hg, Bool.not_true, Bool.false_eq_true, if_false, hw]
  have hswap : s.swapAway a w = false := by simp [State.swapAway, h.serves]
  unfold State.hostWrite State.hostCommand
  simp only [hswap, h.up, h.serves, h.code, h.present, hstored, Bool.not_true, Bool.and_false, Bool.false_eq_true, if_false]
  exact he

/-! ### Loops by number -/

theorem Coppice.loop_val (c : Coppice) (n : Fin 64) : c.loop n = c.loops[n] := atD_val _ _ _

theorem Coppice.setLoop_same (c : Coppice) (n : Fin 64) (f : Loop → Loop) : (c.setLoop n f).loops[n] = f c.loops[n] :=
  updN_same _ _ _ n.isLt

theorem Coppice.setLoop_ne (c : Coppice) (n : Fin 64) {k : Nat} (f : Loop → Loop) (h : k ≠ n) : (c.setLoop k f).loops[n] = c.loops[n] :=
  updN_ne _ _ n.isLt h

theorem injStop_loops (why : Nat) (c : Coppice) : (injStop why c).1.loops = c.loops := by
  unfold injStop
  split <;> rfl

theorem injAbort_loops (n why : Nat) (c : Coppice) : (injAbort n why c).1.loops = c.loops := by
  unfold injAbort
  split
  · split
    · exact injStop_loops ..
    · rfl
  · rfl

theorem injAbort_get (m why : Nat) (c : Coppice) (n : Fin 64) : (injAbort m why c).1.loops[n] = c.loops[n] :=
  congrArg (fun v : Vector Loop 64 => v[n]) (injAbort_loops m why c)

/-- A loop that leaves AUTO or is out of it keeps itself as it stands: only its parent follows. -/
theorem childLeft_self {c : Coppice} {n : Fin 64} (h : c.loops[n].st ≠ .auto) : (childLeft c n).1.loops[n] = c.loops[n] := by
  unfold childLeft
  split
  · next p _ =>
    split
    · next hp =>
      have hne : p ≠ n := fun he => h (by rw [← Coppice.loop_val, ← he]; exact hp)
      exact (injAbort_get ..).trans (Coppice.setLoop_ne c n _ hne)
    · rfl
  · rfl

theorem modeMoved_self {c : Coppice} {n : Fin 64} (h : c.loops[n].st ≠ .auto) : (modeMoved n c).1.loops[n] = c.loops[n] := by
  unfold modeMoved
  rw [if_neg (by rw [Coppice.loop_val]; exact h)]
  exact (injAbort_get ..).trans (childLeft_self h)

theorem State.cpcPut_cpc (r : Coppice × Bool) (s : State) : (s.cpcPut r).cpc = r.1 := by
  unfold State.cpcPut
  simp only [apply_ite State.cpc, State.raise_cpc, ite_self]

/-! ### Writes of a loop -/

theorem LoopCoeff.page (k : LoopCoeff) (n : Nat) (w : Nat) (s : State) : cpcLoopWrite n k.offset w s = some (cpcCoeffWrite n k w s) := by
  cases k <;> rfl

/-- A finite float is written as it is. -/
theorem word_mod (w : Word) : w.toNat % 2 ^ 32 = w.toNat := Nat.mod_eq_of_lt w.isLt

section
variable {s : State} {n : Fin 64} (hr : s.HostReady 0x41000)
include hr

/-- The loops' registers lie in one page. -/
theorem State.HostReady.loopAddr {o : Nat} (ho : o < 0x40) : s.HostReady (loopAddr n o) where
  up := hr.up
  serves := hr.serves
  code := by
    have h := hr.code
    have hlo : ¬ Machine.loopAddr n o < 0x5000 := by unfold Machine.loopAddr; omega
    unfold State.codeRuns at h ⊢
    rw [decide_eq_false (by omega : ¬ 0x41000 < 0x5000), Bool.and_false, Bool.or_false] at h
    rw [h, Bool.true_or]
  present := by
    have h := hr.present
    unfold absentAt at h ⊢
    rw [pageOf_of_cpc (by omega) (by omega)] at h
    rw [pageOf_loopAddr n ho]
    exact h

/-- A write of a loop's register that is carried out. -/
theorem State.loopWrite_done {o w : Nat} {t : State} (ho : o < 0x40) (h4 : o % 4 = 0) (hw : cpcLoopWrite n o w s = some (.ok, t)) :
    ∃ u, (.next (s.hostWrite (loopAddr n o) w) : Host.Outcome State Fault Refusal) = .next u ∧ u.cpc = t.cpc ∧ u.answered .ok [] := by
  obtain ⟨k, hk⟩ := State.hostWrite_done (loopAddr n o) w .cpc _ s t (hr.loopAddr ho) (by unfold loopAddr; omega) (pageOf_loopAddr n ho)
    ((pageWrite_loop n ho w s).trans hw)
  exact ⟨_, hk, rfl, State.answered_append ..⟩

/-- A write of a loop's register that is refused leaves Coppice as it was. -/
theorem State.loopWrite_refused {o w : Nat} {st : Status} (ho : o < 0x40) (h4 : o % 4 = 0) (hst : st ≠ .ok)
    (hw : cpcLoopWrite n o w s = some (st, s)) :
    ∃ u, (.next (s.hostWrite (loopAddr n o) w) : Host.Outcome State Fault Refusal) = .next u ∧ u.cpc = s.cpc ∧ u.answered st [] :=
  ⟨_, State.hostWrite_refusal (loopAddr n o) w .cpc _ s st (hr.loopAddr ho) (by unfold loopAddr; omega) (pageOf_loopAddr n ho) hst
    ((pageWrite_loop n ho w s).trans hw), State.judged_cpc .., State.answered_emit ..⟩

theorem loopPvhWrite_sets {r : CpcLoop} (hrec : s.cpc.loops[n].recd = some r) (w : Word) (hf : fFinite w.toNat = true) :
    ∃ t, exec (.loopPvhWrite n w) s = .next t ∧ t.cpc.loops[n] = { s.cpc.loops[n] with pvh := w.toNat } ∧ t.answered .ok [] := by
  have hw : loopPvh n w.toNat s.cpc = (s.cpc.setLoop n (fun l => { l with pvh := w.toNat }), .ok) := by
    unfold loopPvh
    simp only [hf, Coppice.loop_val, hrec, Bool.not_true, Bool.false_eq_true, if_false, Option.isNone_some]
  obtain ⟨u, hu, hcpc, hans⟩ := State.loopWrite_done (n := n) (o := 0x2C) (w := w.toNat) hr (by decide) rfl
    (t := { s with cpc := s.cpc.setLoop n (fun l => { l with pvh := w.toNat }) })
    (congrArg some (by unfold cpcPvhWrite; rw [word_mod, hw]))
  refine ⟨u, hu, ?_, hans⟩
  rw [hcpc]
  exact Coppice.setLoop_same ..

theorem loopManWrite_sets (w : Word) (hf : fFinite w.toNat = true) (hst : s.cpc.loops[n].st = .manual) :
    ∃ t, exec (.loopManWrite n w) s = .next t ∧ t.cpc.loops[n] = { s.cpc.loops[n] with man := w.toNat } ∧ t.answered .ok [] := by
  have hw : loopMan n w.toNat s.cpc = (s.cpc.setLoop n (fun l => { l with man := w.toNat }), .ok) := by
    unfold loopMan
    simp only [hf, Coppice.loop_val, hst, Bool.not_true, Bool.false_eq_true, if_false, if_true]
  obtain ⟨u, hu, hcpc, hans⟩ := State.loopWrite_done (n := n) (o := 0x10) (w := w.toNat) hr (by decide) rfl
    (t := { s with cpc := s.cpc.setLoop n (fun l => { l with man := w.toNat }) })
    (congrArg some (by unfold cpcManWrite; rw [word_mod, hw]))
  refine ⟨u, hu, ?_, hans⟩
  rw [hcpc]
  exact Coppice.setLoop_same ..

theorem loopManWrite_refused (w : Word) (hf : fFinite w.toNat = true) (hst : s.cpc.loops[n].st ≠ .manual) :
    ∃ t, exec (.loopManWrite n w) s = .next t ∧ t.cpc = s.cpc ∧ t.answered .notInState [] := by
  have hw : loopMan n w.toNat s.cpc = (s.cpc, .notInState) := by
    unfold loopMan
    rw [Coppice.loop_val, if_neg hst]
    simp only [hf, Bool.not_true, Bool.false_eq_true, if_false]
  exact State.loopWrite_refused (n := n) (o := 0x10) (w := w.toNat) hr (by decide) rfl (by decide)
    (congrArg some (by unfold cpcManWrite; rw [word_mod, hw]))

theorem loopCoeffWrite_refused (k : LoopCoeff) (w : Word) (hf : fFinite w.toNat = false) :
    ∃ t, exec (.loopCoeffWrite n k w) s = .next t ∧ t.cpc = s.cpc ∧ t.answered .badValue [] := by
  have hw : loopCoeff n k w.toNat s.cpc = (s.cpc, .badValue) := by
    unfold loopCoeff
    rw [hf]
    rfl
  exact State.loopWrite_refused (n := n) (o := k.offset) (w := w.toNat) hr (LoopCoeff.offset_lt k) (by cases k <;> rfl) (by decide)
    ((k.page n w.toNat s).trans (congrArg some (by unfold cpcCoeffWrite; rw [word_mod, hw])))

/-- A coefficient that is taken. -/
theorem loopCoeffWrite_done {k : LoopCoeff} {w : Word} {f : Loop → Loop} (hw : loopCoeff n k w.toNat s.cpc = (s.cpc.setLoop n f, .ok)) :
    ∃ t, exec (.loopCoeffWrite n k w) s = .next t ∧ t.cpc.loops[n] = f s.cpc.loops[n] ∧ t.answered .ok [] := by
  obtain ⟨u, hu, hcpc, hans⟩ := State.loopWrite_done (n := n) (o := k.offset) (w := w.toNat) hr (LoopCoeff.offset_lt k)
    (by cases k <;> rfl) (t := { s with cpc := s.cpc.setLoop n f })
    ((k.page n w.toNat s).trans (congrArg some (by unfold cpcCoeffWrite; rw [word_mod, hw])))
  refine ⟨u, hu, ?_, hans⟩
  rw [hcpc]
  exact Coppice.setLoop_same ..

theorem loopModeWrite_refused {r : CpcLoop} (hrec : s.cpc.loops[n].recd = some r) (w : Word) (hm : w.toNat % 4 = 3) :
    ∃ t, exec (.loopModeWrite n w) s = .next t ∧ t.cpc = s.cpc ∧ t.answered .badValue [] := by
  have hw : cpcModeWrite n w.toNat s = (.badValue, s) := by
    unfold cpcModeWrite
    simp only [Coppice.loop_val, hrec, Option.isNone_some, Bool.false_eq_true, if_false, if_pos hm]
  exact State.loopWrite_refused (n := n) (o := 0) (w := w.toNat) hr (by decide) rfl (by decide) (congrArg some hw)

theorem loopModeWrite_manual {r : CpcLoop} (hrec : s.cpc.loops[n].recd = some r) (w : Word) (hm : w.toNat % 4 = 1)
    (hst : s.cpc.loops[n].st = .off) :
    ∃ t, exec (.loopModeWrite n w) s = .next t ∧
      t.cpc.loops[n] = { s.cpc.loops[n] with mode := 1, st := .manual, man := r.outSafe } ∧ t.answered .ok [] := by
  have hw : cpcModeWrite n w.toNat s = (.ok, s.cpcPut (loopMode n 1 s.cpc)) := by
    unfold cpcModeWrite
    rw [hm]
    simp only [Coppice.loop_val, hrec, Option.isNone_some, Bool.false_eq_true, if_false, Nat.reduceEqDiff]
  obtain ⟨c, hc, hself⟩ : ∃ c : Coppice, loopMode n 1 s.cpc = modeMoved n c ∧
      c.loops[n] = { s.cpc.loops[n] with mode := 1, st := .manual, man := r.outSafe } := by
    refine ⟨(s.cpc.setLoop n (fun l => { l with mode := 1 })).setLoop n (fun l => { l with st := .manual, man := r.outSafe }), ?_, ?_⟩
    · unfold loopMode
      simp only [Coppice.loop_val, hrec, hst]
    · rw [Coppice.setLoop_same, Coppice.setLoop_same]
  obtain ⟨u, hu, hcpc, hans⟩ := State.loopWrite_done (n := n) (o := 0) (w := w.toNat) hr (by decide) rfl (congrArg some hw)
  refine ⟨u, hu, ?_, hans⟩
  rw [hcpc, State.cpcPut_cpc, hc, modeMoved_self (by rw [hself]; exact LoopState.noConfusion), hself]

end

/-! ### The injection (R183, R184) -/

theorem putB_eq (i : Nat) (b : Bool) : putB i b = b.toNat * 2 ^ i := by
  cases b <;> simp [putB, put, Nat.shiftLeft_eq]

theorem bitOf_eq_iff (i v : Nat) (b : Bool) : bitOf i v = b ↔ v / 2 ^ i % 2 = b.toNat := by
  unfold bitOf
  rw [Nat.shiftRight_eq_div_pow]
  rcases Nat.mod_two_eq_zero_or_one (v / 2 ^ i) with h | h <;> cases b <;> simp [h]

/-- CPC_INJ_CTRL as the model writes it, before START and STOP. -/
theorem Coppice.injFields_eq (c : Coppice) : c.injFields = c.injLoop % 64 + c.injPoint.toNat * 64 + c.injForm % 4 * 128 +
    c.injOrder % 4 * 512 + c.injHold % 256 * 65536 := by
  unfold Coppice.injFields
  rw [putB_eq]
  simp only [put, Nat.shiftLeft_eq]
  omega

theorem Coppice.injCtrl_start {c : Coppice} (hl : c.injLoop < 64) (hf : c.injForm ≤ 2) (ho : c.injOrder < 4) (hh : c.injHold < 256) :
    field 0 6 (c.injFields + putB 11 true) = c.injLoop ∧ bitOf 6 (c.injFields + putB 11 true) = c.injPoint ∧
      field 7 2 (c.injFields + putB 11 true) = c.injForm ∧ field 9 2 (c.injFields + putB 11 true) = c.injOrder ∧
      field 16 8 (c.injFields + putB 11 true) = c.injHold ∧ bitOf 11 (c.injFields + putB 11 true) = true := by
  have hb := Bool.toNat_lt c.injPoint
  rw [Coppice.injFields_eq, putB_eq, bitOf_eq_iff, bitOf_eq_iff, Bool.toNat_true]
  unfold field
  simp only [Nat.shiftRight_eq_div_pow]
  omega

theorem Coppice.injCtrl_stop (c : Coppice) :
    bitOf 11 (c.injFields + putB 12 true) = false ∧ bitOf 12 (c.injFields + putB 12 true) = true := by
  have hb := Bool.toNat_lt c.injPoint
  rw [Coppice.injFields_eq, putB_eq, bitOf_eq_iff, bitOf_eq_iff, Bool.toNat_true, Bool.toNat_false]
  omega

section
variable {s : State}

theorem injectionStart_starts {r : CpcLoop} (hr : s.HostReady 0x40010) (hrange : injRangeOk s.cpc = true) (hl : s.cpc.injLoop < 64)
    (ho : s.cpc.injOrder < 4) (hh : s.cpc.injHold < 256) (hno : s.cpc.inj = none) (hrec : (s.cpc.loop s.cpc.injLoop).recd = some r)
    (htest : r.test = true) (hst : (s.cpc.loop s.cpc.injLoop).st = .manual ∨ (s.cpc.loop s.cpc.injLoop).st = .auto)
    (hcl : s.clearing = false) (hfast : s.loopFast s.cpc.injLoop = false) :
    ∃ t j, exec .injectionStart s = .next t ∧ t.cpc.inj = some j ∧ j.loop = s.cpc.injLoop ∧
        j.len = s.cpc.injLen ∧ j.k = 0 ∧ j.lfsr = 2 ^ prbsOrder s.cpc.injOrder - 1 ∧ t.cpc.cap = [] ∧ t.cpc.capState = 1 ∧
        t.answered .ok [] := by
  have hform : s.cpc.injForm ≤ 2 := by
    unfold injRangeOk at hrange
    simp only [Bool.and_eq_true, decide_eq_true_eq] at hrange
    exact hrange.1.1.1.1.1
  obtain ⟨h0, h6, h7, h9, h16, h11⟩ := Coppice.injCtrl_start hl hform ho hh
  obtain ⟨c, j, hstart, hj, hloop, hlen, hk, hlfsr, hcap, hcapState⟩ : ∃ c j, injStart s.clearing (s.loopFast s.cpc.injLoop) s.cpc = (c, .ok) ∧
      c.inj = some j ∧ j.loop = s.cpc.injLoop ∧ j.len = s.cpc.injLen ∧ j.k = 0 ∧ j.lfsr = 2 ^ prbsOrder s.cpc.injOrder - 1 ∧
      c.cap = [] ∧ c.capState = 1 := by
    have hcond : (s.cpc.inj.isSome || !(s.cpc.loop s.cpc.injLoop).recd.any (·.test) || (s.cpc.loop s.cpc.injLoop).st = .off ||
        (s.cpc.loop s.cpc.injLoop).st = .fault || (s.cpc.loop s.cpc.injLoop).st = .track || s.clearing ||
        s.loopFast s.cpc.injLoop) = false := by
      rw [hno, hrec, hcl, hfast]
      rcases hst with h | h <;> simp [h, htest]
    unfold injStart
    simp only [hrange, hcond, Bool.not_true, Bool.false_eq_true, if_false]
    exact ⟨_, _, rfl, rfl, rfl, rfl, rfl, rfl, rfl, rfl⟩
  have hw : injCtrlWrite (s.cpc.injFields + putB 11 true) s = (.ok, { s with cpc := c }) := by
    unfold injCtrlWrite
    simp only [h0, h6, h7, h9, h16, h11, if_true, hstart]
  obtain ⟨k, hdone⟩ := State.hostWrite_done 0x40010 _ .cpc 0x10 s _ hr rfl (by decide) (congrArg some hw)
  exact ⟨_, j, hdone, hj, hloop, hlen, hk, hlfsr, hcap, hcapState, State.answered_append ..⟩

theorem injectionStop_stops {j : Inj} (hr : s.HostReady 0x40010) (hj : s.cpc.inj = some j) :
    ∃ t, exec .injectionStop s = .next t ∧ t.cpc.inj = none ∧ t.cpc.capState = 3 ∧
      t.cpc.capAbort = 1 ∧ t.told .injectionEnded ∧ t.answered .ok [] := by
  obtain ⟨h11, h12⟩ := s.cpc.injCtrl_stop
  have hstop : ∀ c : Coppice, c.inj = some j → injStop 1 c = ({ c with inj := none, capState := 3, capAbort := 1 }, true) := fun c hc => by
    unfold injStop
    rw [hc]
    rfl
  obtain ⟨c, hc, hnone, hstate, habort⟩ : ∃ c : Coppice, injCtrlWrite (s.cpc.injFields + putB 12 true) s = (.ok, s.cpcPut (c, true)) ∧
      c.inj = none ∧ c.capState = 3 ∧ c.capAbort = 1 := by
    unfold injCtrlWrite
    simp only [h11, h12, Bool.false_eq_true, if_false, if_true]
    exact ⟨_, congrArg (fun r => (Status.ok, s.cpcPut r)) (hstop _ hj), rfl, rfl, rfl⟩
  have hput : (s.cpcPut (c, true)).cpc = c := State.cpcPut_cpc ..
  have htold : (s.cpcPut (c, true)).told .injectionEnded := State.raise_told .injectionEnded _ hr.up
  obtain ⟨k, hdone⟩ := State.hostWrite_done 0x40010 _ .cpc 0x10 s _ hr rfl (by decide) (congrArg some hc)
  refine ⟨_, rfl, ?_⟩
  have heq := Host.Outcome.next.inj hdone
  refine ⟨?_, ?_, ?_, State.hostWrite_told 0x40010 _ .cpc 0x10 s _ hr rfl (by decide) (congrArg some hc) htold, ?_⟩
  · rw [heq]
    exact (congrArg Coppice.inj hput).trans hnone
  · rw [heq]
    exact (congrArg Coppice.capState hput).trans hstate
  · rw [heq]
    exact (congrArg Coppice.capAbort hput).trans habort
  · rw [heq]
    exact State.answered_append ..

theorem injectionEnd_ends {j : Inj} (hs : s.side = true) (hj : s.cpc.inj = some j) (hk : j.len ≤ j.k) :
    ∃ t, exec .injectionEnd s = .next t ∧ t.cpc.inj = none ∧ t.cpc.capState = 2 ∧ t.cpc.capAbort = 0 ∧ t.told .injectionEnded := by
  have hend : injEnd s.cpc = ({ s.cpc with inj := none, capState := 2, capAbort := 0 }, true) := by
    unfold injEnd injStop
    simp only [hj, if_pos hk]
    rfl
  have hup : s.up = true := by
    unfold State.side at hs
    simp only [Bool.and_eq_true] at hs
    exact hs.1
  refine ⟨_, congrArg Host.Outcome.next (State.onlyIf_of hs _ s), ?_⟩
  have hput := State.cpcPut_cpc (injEnd s.cpc) s
  rw [hput, hend]
  exact ⟨rfl, rfl, rfl, State.raise_told .injectionEnded _ hup⟩

end

/-- Settles O23: the writes of a loop's page, and the injection from its start to its end. -/
theorem loopWritesAct : Obligations.LoopWritesAct := by
  unfold Obligations.LoopWritesAct
  refine ⟨fun s n r w hr hrec => ⟨loopModeWrite_manual hr hrec w, loopModeWrite_refused hr hrec w,
    fun hf => loopCoeffWrite_done (f := fun l => { l with kp := w.toNat }) hr ?_,
    fun hf hlt => loopCoeffWrite_done (f := fun l => { l with outMin := w.toNat }) hr ?_,
    fun k => loopCoeffWrite_refused hr k w, loopManWrite_sets hr w, loopManWrite_refused hr w,
    loopPvhWrite_sets hr hrec w⟩,
    fun s => ⟨fun r => injectionStart_starts, fun j => injectionStop_stops, fun j => injectionEnd_ends⟩⟩
  · unfold loopCoeff
    simp only [hf, Coppice.loop_val, hrec, Bool.not_true, Bool.false_eq_true, if_false]
  · unfold loopCoeff
    simp only [hf, Coppice.loop_val, hrec, hlt, Bool.not_true, Bool.false_eq_true, if_false, if_true]

end Sys2Proof.Machine
end

section
/-! ## Gaiter's cycle, and the ways between the site states (O24: `GaiterCycles`, O27: `GatesAndStatesAct`) -/

namespace Sys2Proof.Machine

/-! ### A cause taken earlier in the same cycle

`Gaiter.low` keeps what stood before the first cause of the present cycle (R204). A cause that goes before it takes it back, and with it
the site state. Neither statement speaks of this field. -/

/-- A RESUME of the present cycle has led from CLEARING to RUN; then the trip latch of this standby sets. -/
def resumedThenTripped : State :=
  { mono := 1000000, rst := { hold := none, refOk := true },
    gtr := { st := .run, standby := true, latch := some {}, tempNext := 2000000,
             low := some { rank := 6, st := .clearing, trip := true, cause := {}, softAt := 0, softLimit := 0, clrAt := 0 } } }

theorem resumedThenTripped_cycle : (gaiterCycle {} resumedThenTripped.gctx).g.st = .clearing := by decide +kernel

/-- Refutes O24: in `resumedThenTripped` the cycle takes the RESUME back, so the standby is in CLEARING after it, not in RUN. -/
theorem not_gaiterCycles : ¬ Obligations.GaiterCycles := by
  unfold Obligations.GaiterCycles
  intro h
  obtain ⟨t, ht, hst, -⟩ := (h resumedThenTripped (by decide)).1 {} (by decide) (by decide) (by decide) (by decide)
  have hcycle : t.gtr.st = .clearing := by
    have hexec : exec (.gaiterCycle {}) resumedThenTripped = .next (resumedThenTripped.gtrDo (gaiterCycle {})) :=
      congrArg Host.Outcome.next (State.onlyIf_of (by decide) _ resumedThenTripped)
    rw [← Host.Outcome.next.inj (hexec.symm.trans ht), State.gtrDo_gtr]
    exact resumedThenTripped_cycle
  rw [hst] at hcycle
  cases hcycle

/-- A RESUME of the present cycle has led from CLEARING to DEGRADED, whose timer ends at this instant. -/
def resumedAtTimerEnd : State :=
  { mono := 1000000, rst := { hold := none, refOk := true },
    gtr := { st := .degraded, degEnd := some 1000000,
             low := some { rank := 6, st := .clearing, trip := true, cause := {}, softAt := 0, softLimit := 0, clrAt := 0 } } }

theorem resumedAtTimerEnd_expiry : (degExpiry resumedAtTimerEnd.gctx).g.st = .clearing := by decide +kernel

/-- Refutes O27: in `resumedAtTimerEnd` the end of the degraded timer goes before the RESUME and takes it back, so the site state is
CLEARING after it, not SOFT. -/
theorem not_gatesAndStatesAct : ¬ Obligations.GatesAndStatesAct := by
  unfold Obligations.GatesAndStatesAct
  intro h
  obtain ⟨-, -, -, -, -, -, hdeg, -⟩ := h resumedAtTimerEnd (by decide)
  obtain ⟨t, ht, hst, -⟩ := hdeg 1000000 (by decide) (by decide) (by decide) (by decide) (by decide)
  have hexpiry : t.gtr.st = .clearing := by
    have hexec : exec .degradedTimerExpiry resumedAtTimerEnd = .next (resumedAtTimerEnd.gtrDo degExpiry) :=
      congrArg Host.Outcome.next (State.onlyIf_of (by decide) _ resumedAtTimerEnd)
    rw [← Host.Outcome.next.inj (hexec.symm.trans ht), State.gtrDo_gtr]
    exact resumedAtTimerEnd_expiry
  rw [hst] at hexpiry
  cases hexpiry

end Sys2Proof.Machine
end

section
/-! ## Safety inputs and their test pulses (O25: `SafetyInputsAct`) -/

namespace Sys2Proof.Machine

/-! ### Events that Gaiter raises -/

theorem State.told_portRun {e : Ev} (p : Fin 12) (token : Nat) (f : PCtx → PCtx) {s : State} (h : s.told e) :
    (s.portRun p token f).told e := by
  have heff : (s.portEffects p token (f (s.pctx p))).told e :=
    List.foldlRecOn (motive := State.told e) _ _ h (fun _ ht x _ => State.told_portEff p token x ht)
  unfold State.told at heff ⊢
  rw [(State.portRun_moves_effects p token f s).frame.get .thk (by decide)]
  exact heff

theorem State.told_portDo {e : Ev} (p : Fin 12) (token : Nat) (f : PCtx → PCtx) {s : State} (h : s.told e) :
    (s.portDo p token f).told e := by
  unfold State.portDo
  dsimp only
  split
  · exact State.told_portRun p token _ (State.told_portRun p token f h)
  · exact State.told_portRun p token f h

theorem State.told_gtrEff {e : Ev} (x : GEff) {s : State} (h : s.told e) : (s.gtrEff x).told e := by
  cases x with
  | ev e' => exact State.told_raiseAt _ _ h
  | endPort p si =>
    unfold State.gtrEff State.endPort
    dsimp only
    split
    · split
      · exact State.told_portDo _ _ _ h
      · exact h
    · exact h

theorem State.told_clearingAbort {e : Ev} (b : Bool) {s : State} (h : s.told e) : (s.clearingAbort b).told e := by
  unfold State.clearingAbort
  dsimp only
  split
  · split
    · exact State.told_raise _ h
    · exact h
  · exact h

/-- An event among the effects of Gaiter's function is told. -/
theorem State.gtrDo_told {e : Ev} {f : GCtx → GCtx} {s : State} (hup : s.up = true) (he : .ev e ∈ (f s.gctx).eff) : (s.gtrDo f).told e := by
  unfold State.gtrDo
  refine State.told_clearingAbort _ ?_
  exact foldl_reaches (Q := fun t : State => t.up = true) he
    (fun t y hq => (State.up_congr ((State.gtrEff_moves t y).frame.get .rst (by decide))).trans hq)
    (fun t hq => State.raiseAt_told e _ t hq) (fun t y _ ht => State.told_gtrEff y ht) _ hup

/-- Gaiter's function where the device is up: its state, and the events of its effects. -/
theorem State.onGaiter_exec {s : State} (hs : s.up = true) (f : GCtx → GCtx) :
    ∃ t, (.next (s.onGaiter f) : Host.Outcome State Fault Refusal) = .next t ∧ t.gtr = (f s.gctx).g ∧
      ∀ e, .ev e ∈ (f s.gctx).eff → t.told e :=
  ⟨s.gtrDo f, congrArg Host.Outcome.next (State.onlyIf_of hs _ s), State.gtrDo_gtr f s, fun _ he => State.gtrDo_told hs he⟩

/-! ### The trip latch (R199) -/

@[simp] theorem outsFollow_eff (c : GCtx) : (outsFollow c).eff = c.eff := rfl

theorem gatesOff_en (g : Gaiter) (p : Fin 12) : (gatesOff g).gates[p].en = false :=
  congrArg Gate.en (mapIdx_get g.gates (fun _ (x : Gate) => { x with en := false, dropAt := none }) p.isLt)

/-- What a qualifying event does to Gaiter. -/
theorem hardTrip_trips {k : Cause} {c : GCtx} (hd : c.g.disarmed = false) :
    (hardTrip k c).g.trip = true ∧ (hardTrip k c).g.latch = some (c.g.latch.getD k) ∧ (hardTrip k c).g.trips = satInc 16 c.g.trips ∧
      ∀ p : Fin 12, (hardTrip k c).g.gates[p].en = false := by
  unfold hardTrip
  rw [if_neg (by rw [hd]; exact Bool.false_ne_true)]
  exact ⟨rfl, rfl, rfl, fun p => gatesOff_en c.g p⟩

theorem hardTrip_eff (k : Cause) (c : GCtx) : (hardTrip k c).eff = c.eff := by
  unfold hardTrip
  split <;> rfl

/-! ### What the judging of an input keeps -/

/-- The context once a discrepancy that has lasted too long has faulted the input (R194). -/
def GCtx.lateChecked (n : Nat) (r : GtrInput) (c : GCtx) : GCtx := if waitLate r (c.inp n) c.now false then inputFault n r c else c

/-- The input once a change of contact `isB` has been taken into what is owed and into its FAULT (R194). -/
def SafIn.judged (r : GtrInput) (isB : Bool) (now : Nat) (x : SafIn) : SafIn :=
  clearFault r { x with wait := if x.fault then none else nextWait r isB now x }

theorem judgeInput_eq (n : Nat) (isB : Bool) (r : GtrInput) (c : GCtx) :
    judgeInput n isB r c = (
      if kOpen isB r (((c.lateChecked n r).setIn n (SafIn.judged r isB (c.lateChecked n r).now)).inp n)
      then contactOpened n r ((c.lateChecked n r).setIn n (SafIn.judged r isB (c.lateChecked n r).now))
      else (c.lateChecked n r).setIn n (SafIn.judged r isB (c.lateChecked n r).now)) := rfl

/-- The records of the inputs, their application and the test mask of contact A are as before. -/
structure GCtx.SameInputs (c d : GCtx) : Prop where
  ins : d.ins = c.ins
  applied : d.g.applied = c.g.applied
  maskA : d.g.maskA = c.g.maskA
  now : d.now = c.now

namespace GCtx.SameInputs

theorem refl (c : GCtx) : c.SameInputs c := ⟨rfl, rfl, rfl, rfl⟩

theorem trans {c d e : GCtx} (h : c.SameInputs d) (k : d.SameInputs e) : c.SameInputs e :=
  ⟨k.ins.trans h.ins, k.applied.trans h.applied, k.maskA.trans h.maskA, k.now.trans h.now⟩

theorem inRec {c d : GCtx} (h : c.SameInputs d) (n : Nat) : d.inRec n = c.inRec n := by
  unfold GCtx.inRec
  rw [h.ins]

theorem setIn (n : Nat) (f : SafIn → SafIn) (c : GCtx) : c.SameInputs (c.setIn n f) := ⟨rfl, rfl, rfl, rfl⟩

theorem of_mod (c : GCtx) (f : Gaiter → Gaiter) (h : (f c.g).applied = c.g.applied ∧ (f c.g).maskA = c.g.maskA) :
    c.SameInputs (c.mod f) := ⟨rfl, h.1, h.2, rfl⟩

theorem outsFollow (c : GCtx) : c.SameInputs (outsFollow c) := by
  unfold Machine.outsFollow
  exact of_mod c _ ⟨rfl, rfl⟩

theorem hardTrip (k : Cause) (c : GCtx) : c.SameInputs (hardTrip k c) := by
  unfold Machine.hardTrip
  split
  · exact refl c
  · exact (of_mod c _ ⟨rfl, rfl⟩).trans (outsFollow _)

theorem respond (n : Nat) (r : GtrInput) (c : GCtx) : c.SameInputs (respond n r c) := by
  unfold Machine.respond
  split
  · exact ⟨rfl, rfl, rfl, rfl⟩
  · exact hardTrip ..
  · exact ⟨rfl, rfl, rfl, rfl⟩
  · refine List.foldlRecOn (motive := c.SameInputs) _ _ (refl c) ?_
    intro d h p _
    exact h.trans ⟨rfl, rfl, rfl, rfl⟩

theorem becomeOpen (n : Nat) (r : GtrInput) (c : GCtx) : c.SameInputs (becomeOpen n r c) := by
  unfold Machine.becomeOpen
  split
  · exact (setIn n _ c).trans (respond ..)
  · exact refl c

theorem inputFault (n : Nat) (r : GtrInput) (c : GCtx) : c.SameInputs (inputFault n r c) := by
  unfold Machine.inputFault
  split
  · exact refl c
  · refine trans ?_ (becomeOpen ..)
    exact ⟨rfl, rfl, rfl, rfl⟩

theorem contactOpened (n : Nat) (r : GtrInput) (c : GCtx) : c.SameInputs (contactOpened n r c) := by
  unfold Machine.contactOpened
  split
  · exact (setIn n _ c).trans (hardTrip ..)
  · exact becomeOpen ..

theorem lateChecked (n : Nat) (r : GtrInput) (c : GCtx) : c.SameInputs (c.lateChecked n r) := by
  unfold GCtx.lateChecked
  split
  · exact inputFault ..
  · exact refl c

theorem judgeInput (n : Nat) (isB : Bool) (r : GtrInput) (c : GCtx) : c.SameInputs (judgeInput n isB r c) := by
  have hset := (lateChecked n r c).trans (setIn n (SafIn.judged r isB (c.lateChecked n r).now) _)
  rw [judgeInput_eq]
  split
  · exact hset.trans (contactOpened ..)
  · exact hset

theorem judgeChange (n : Nat) (isB : Bool) (x : SafIn) (c : GCtx) : c.SameInputs (judgeChange n isB x c) := by
  unfold Machine.judgeChange
  split
  · exact refl c
  · split
    · exact judgeInput ..
    · exact refl c

end GCtx.SameInputs

/-! ### What the judging of an input does to it -/

section
variable (n : Fin 16) (r : GtrInput) (c : GCtx)

theorem GCtx.inp_val : c.inp n = c.g.ins[n] := atD_val _ _ _

theorem GCtx.setIn_same (f : SafIn → SafIn) : (c.setIn n f).g.ins[n] = f c.g.ins[n] := updN_same _ _ _ n.isLt

theorem hardTrip_get (k : Cause) : (hardTrip k c).g.ins[n] = c.g.ins[n] :=
  congrArg (fun v : Vector SafIn 16 => v[n]) (hardTrip_ins k c)

theorem respond_get (m : Nat) : (respond m r c).g.ins[n] = c.g.ins[n] :=
  congrArg (fun v : Vector SafIn 16 => v[n]) (respond_ins m r c)

theorem becomeOpen_self : (becomeOpen n r c).g.ins[n] = { c.g.ins[n] with closed := false } := by
  unfold becomeOpen
  rw [GCtx.inp_val]
  split
  · exact (respond_get n r _ n).trans (GCtx.setIn_same n c _)
  · next h =>
    rw [Bool.not_eq_true] at h
    rw [← h]

theorem contactOpened_self : (contactOpened n r c).g.ins[n] = { c.g.ins[n] with closed := false } := by
  unfold contactOpened
  split
  · exact (hardTrip_get n _ _).trans (GCtx.setIn_same n c _)
  · exact becomeOpen_self n r c

theorem respond_eff {x : GEff} (hx : x ∈ c.eff) (m : Nat) : x ∈ (respond m r c).eff := by
  unfold respond
  split
  · exact List.mem_append_left _ hx
  · rw [hardTrip_eff]
    exact hx
  · exact hx
  · exact List.foldlRecOn (motive := fun d : GCtx => x ∈ d.eff) _ _ hx (fun _ h _ _ => List.mem_append_left _ h)

theorem becomeOpen_eff {x : GEff} (hx : x ∈ c.eff) (m : Nat) : x ∈ (becomeOpen m r c).eff := by
  unfold becomeOpen
  split
  · exact respond_eff r (c.setIn m (fun x => { x with closed := false })) hx m
  · exact hx

variable {r c}

/-- An input that enters FAULT is open, and the discrepancy is told (R194). -/
theorem inputFault_faults (hf : c.g.ins[n].fault = false) :
    (inputFault n r c).g.ins[n].fault = true ∧ (inputFault n r c).g.ins[n].closed = false ∧
      .ev .inputDiscrepancy ∈ (inputFault n r c).eff := by
  unfold inputFault
  rw [GCtx.inp_val, if_neg (by rw [hf]; exact Bool.false_ne_true)]
  dsimp only
  rw [becomeOpen_self]
  refine ⟨?_, rfl, becomeOpen_eff r _ (List.mem_append_right _ (List.mem_singleton_self _)) n⟩
  exact congrArg SafIn.fault (GCtx.setIn_same n c _)

/-- A faulted input that is open stays so; another enters FAULT. -/
theorem inputFault_open (h : c.g.ins[n].fault = false ∨ c.g.ins[n].closed = false) :
    (inputFault n r c).g.ins[n].fault = true ∧ (inputFault n r c).g.ins[n].closed = false := by
  by_cases hf : c.g.ins[n].fault = true
  · unfold inputFault
    rw [GCtx.inp_val, if_pos hf]
    exact ⟨hf, h.resolve_left (by rw [hf]; exact Bool.noConfusion)⟩
  · obtain ⟨h1, h2, -⟩ := inputFault_faults n (r := r) (Bool.not_eq_true _ ▸ hf)
    exact ⟨h1, h2⟩

end

section
variable (n : Fin 16) (r : GtrInput)

/-- The contacts of an input and their masks: what the judging of the input leaves alone. -/
theorem SafIn.judged_keeps {β : Type} {view : SafIn → β}
    (h : ∀ (x : SafIn) w f b, view { x with wait := w, fault := f, bothOpen := b } = view x) (isB : Bool) (now : Nat) (x : SafIn) :
    view (x.judged r isB now) = view x := by
  unfold SafIn.judged clearFault
  simp only [apply_ite view, h, ite_self]

theorem inputFault_keeps {β : Type} {view : SafIn → β}
    (h : ∀ (x : SafIn) w f b c, view { x with wait := w, fault := f, bothOpen := b, closed := c } = view x) (c : GCtx) :
    view (inputFault n r c).g.ins[n] = view c.g.ins[n] := by
  unfold inputFault
  split
  · rfl
  · rw [becomeOpen_self]
    refine Eq.trans ?_ (h c.g.ins[n] none true (aOpen r c.g.ins[n] && bOpen r c.g.ins[n]) false)
    exact congrArg (fun x : SafIn => view { x with closed := false }) (GCtx.setIn_same n c _)

variable {r} {c : GCtx}

theorem judgeInput_keeps {β : Type} {view : SafIn → β}
    (h : ∀ (x : SafIn) w f b c, view { x with wait := w, fault := f, bothOpen := b, closed := c } = view x) (isB : Bool) :
    view (judgeInput n isB r c).g.ins[n] = view c.g.ins[n] := by
  have hclosed (x : SafIn) : view { x with closed := false } = view x := h x x.wait x.fault x.bothOpen false
  have hlate : view (c.lateChecked n r).g.ins[n] = view c.g.ins[n] := by
    unfold GCtx.lateChecked
    split
    · exact inputFault_keeps n r h c
    · rfl
  have hset : view ((c.lateChecked n r).setIn n (SafIn.judged r isB (c.lateChecked n r).now)).g.ins[n] = view c.g.ins[n] := by
    rw [GCtx.setIn_same, SafIn.judged_keeps r (fun x w f b => h x w f b x.closed)]
    exact hlate
  rw [judgeInput_eq]
  split
  · rw [contactOpened_self, hclosed]
    exact hset
  · exact hset

theorem kOpen_congr {isB : Bool} {x y : SafIn} (ha : x.a = y.a) (hb : x.b = y.b) (hma : x.aMasked = y.aMasked) (hmb : x.bMasked = y.bMasked) :
    kOpen isB r x = kOpen isB r y := by
  unfold kOpen aOpen bOpen
  rw [ha, hb, hma, hmb]

/-- The contact still signals as it does when the input has been judged. -/
theorem kOpen_judged (isB : Bool) :
    kOpen isB r (((c.lateChecked n r).setIn n (SafIn.judged r isB (c.lateChecked n r).now)).inp n) = kOpen isB r c.g.ins[n] := by
  have hkeeps {β : Type} (view : SafIn → β)
      (h : ∀ (x : SafIn) w f b c, view { x with wait := w, fault := f, bothOpen := b, closed := c } = view x) :
      view ((c.lateChecked n r).setIn n (SafIn.judged r isB (c.lateChecked n r).now)).g.ins[n] = view c.g.ins[n] := by
    rw [GCtx.setIn_same, SafIn.judged_keeps r (fun x w f b => h x w f b x.closed)]
    unfold GCtx.lateChecked
    split
    · exact inputFault_keeps n r h c
    · rfl
  rw [GCtx.inp_val]
  exact kOpen_congr (hkeeps SafIn.a fun _ _ _ _ _ => rfl) (hkeeps SafIn.b fun _ _ _ _ _ => rfl)
    (hkeeps SafIn.aMasked fun _ _ _ _ _ => rfl) (hkeeps SafIn.bMasked fun _ _ _ _ _ => rfl)

/-- An input with an open contact is open once it has been judged. -/
theorem judgeInput_closed {isB : Bool} (h : kOpen isB r c.g.ins[n] = true) : (judgeInput n isB r c).g.ins[n].closed = false := by
  rw [judgeInput_eq, kOpen_judged, if_pos h, contactOpened_self]

theorem judgeInput_late_free {isB : Bool} (hw : c.g.ins[n].wait = none) (h : kOpen isB r c.g.ins[n] = true) :
    judgeInput n isB r c = contactOpened n r (c.setIn n (SafIn.judged r isB c.now)) := by
  have hlate : c.lateChecked n r = c := by
    unfold GCtx.lateChecked waitLate
    rw [GCtx.inp_val, hw]
    exact if_neg Bool.false_ne_true
  have hopen := kOpen_judged n (c := c) (r := r) isB
  rw [hlate] at hopen
  rw [judgeInput_eq, hlate, hopen, if_pos h]

end

section
variable {s : State} {n : Fin 16} {r : GtrInput} (hs : s.up = true) (hrec : s.gctx.inRec n = some r) (happ : s.gtr.applied = true)
include hs hrec happ

/-- A contact of a HARD input opens: the trip latch sets (R199). -/
theorem safetyContactChange_trips (hresp : r.resp = .hard) (hw : s.gtr.ins[n].wait = none) (ha : s.gtr.ins[n].a = true)
    (hd : s.gtr.disarmed = false) (hm : s.gtr.maskA = none) :
    ∃ t, exec (.safetyContactChange n false false) s = .next t ∧ t.gtr.ins[n].a = false ∧ t.gtr.ins[n].closed = false ∧
        t.gtr.trip = true ∧ t.gtr.latch = some (s.gtr.latch.getD { kind := 1, idx := n, ts := s.tb % 2 ^ 32 }) ∧
        t.gtr.trips = satInc 16 s.gtr.trips ∧ ∀ p : Fin 12, t.gtr.gates[p].en = false := by
  obtain ⟨d, hdef⟩ : ∃ d, s.gctx.setIn n (SafIn.take false false (maskOpen s.gctx false) s.mono) = d := ⟨_, rfl⟩
  have hmask : maskOpen s.gctx false = false := congrArg Option.isSome hm
  have hin : d.g.ins[n] = SafIn.take false false false s.mono s.gtr.ins[n] := by
    rw [← hdef, hmask]
    exact GCtx.setIn_same n _ _
  have hopen : kOpen false r d.g.ins[n] = true := by
    rw [hin]
    simp [SafIn.take, kOpen, aOpen]
  have hclosed : kOpen false r (s.gctx.inp n) = false := by
    have hins : s.gctx.inp n = s.gtr.ins[n] := GCtx.inp_val n _
    rw [hins]
    unfold kOpen aOpen
    rw [ha]
    rfl
  have hf : contactChange n false false s.gctx = hardTrip (d.causeAt 1 n)
      ((d.setIn n (SafIn.judged r false d.now)).setIn n (fun x => { x with closed := false })) := by
    have hins : s.gctx.inp n = s.gtr.ins[n] := GCtx.inp_val n _
    have hchange : contactChange n false false s.gctx = judgeChange n false (s.gctx.inp n) d := by
      unfold contactChange
      rw [hins, ← hdef]
      exact if_neg (by rw [ha]; exact Bool.noConfusion)
    have hjudge : judgeChange n false (s.gctx.inp n) d = judgeInput n false r d := by
      have hrec' : d.inRec n = some r := by rw [← hdef]; exact hrec
      have happ' : d.g.applied = true := by rw [← hdef]; exact happ
      have hnow : kOpen false r (d.inp n) = true := by rw [GCtx.inp_val]; exact hopen
      unfold judgeChange
      rw [hrec', happ']
      dsimp only
      rw [hclosed, hnow]
      rfl
    rw [hchange, hjudge, judgeInput_late_free n (by rw [hin]; exact hw) hopen]
    unfold contactOpened
    exact if_pos hresp
  obtain ⟨t, ht, hg, -⟩ := State.onGaiter_exec hs (contactChange n false false)
  refine ⟨t, ht, ?_⟩
  rw [hf] at hg
  have hdis : ((d.setIn n (SafIn.judged r false d.now)).setIn n (fun x => { x with closed := false })).g.disarmed = false := by
    rw [← hdef]
    exact hd
  obtain ⟨h1, h2, h3, h4⟩ := hardTrip_trips (k := d.causeAt 1 n) hdis
  have hself : t.gtr.ins[n] = { (d.g.ins[n]).judged r false d.now with closed := false } := by
    rw [hg, hardTrip_get, GCtx.setIn_same, GCtx.setIn_same]
  refine ⟨?_, by rw [hself], by rw [hg]; exact h1, ?_, ?_, fun p => by rw [hg]; exact h4 p⟩
  · rw [hself]
    exact (SafIn.judged_keeps (view := SafIn.a) r (fun _ _ _ _ => rfl) ..).trans (by rw [hin]; rfl)
  · rw [hg, h2, ← hdef]
    rfl
  · rw [hg, h3, ← hdef]
    rfl

theorem inputDebounceDone_closes (hb : bothClosed r s.gtr.ins[n] = true) (hc : s.gtr.ins[n].closed = false)
    (hf : s.gtr.ins[n].fault = false) (ht : max (aSince r s.gtr.ins[n]) (bSince r s.gtr.ins[n]) + r.tDeb * 1000 ≤ s.mono) :
    ∃ t, exec (.inputDebounceDone n) s = .next t ∧ t.gtr.ins[n] = { s.gtr.ins[n] with closed := true } := by
  have hfun : debounceDone n s.gctx = s.gctx.setIn n (fun x => { x with closed := true }) := by
    have hins : s.gctx.inp n = s.gtr.ins[n] := GCtx.inp_val n _
    unfold debounceDone
    simp only [hrec, hins]
    refine if_pos ⟨happ, ?_, ?_⟩
    · unfold debouncing
      rw [hb, hc, hf]
      rfl
    · unfold settled
      rw [hb]
      exact decide_eq_true ht
  obtain ⟨t, ht, hg, -⟩ := State.onGaiter_exec hs (debounceDone n)
  refine ⟨t, ht, ?_⟩
  rw [hg, hfun]
  exact GCtx.setIn_same n _ _

theorem inputDiscrepancy_faults {w : DiscWait} (hw : s.gtr.ins[n].wait = some w) (hf : s.gtr.ins[n].fault = false)
    (hat : w.at_ + r.tDisc * 10000 ≤ s.mono) :
    ∃ t, exec (.inputDiscrepancy n) s = .next t ∧ t.gtr.ins[n].fault = true ∧ t.gtr.ins[n].closed = false ∧ t.told .inputDiscrepancy := by
  have hfun : discrepancy n s.gctx = inputFault n r s.gctx := by
    have hins : s.gctx.inp n = s.gtr.ins[n] := GCtx.inp_val n _
    have hlate : waitLate r (s.gctx.inp n) s.mono true = true := by
      unfold waitLate
      rw [hins, hw]
      simp [hat]
    unfold discrepancy
    rw [hrec]
    exact if_pos (by rw [Bool.and_eq_true]; exact ⟨happ, hlate⟩)
  obtain ⟨t, ht, hg, htold⟩ := State.onGaiter_exec hs (discrepancy n)
  obtain ⟨h1, h2, h3⟩ := inputFault_faults n (r := r) (c := s.gctx) hf
  rw [hfun] at hg htold
  exact ⟨t, ht, by rw [hg]; exact h1, by rw [hg]; exact h2, htold _ h3⟩

end

/-! ### Test pulses (R195) -/

/-- A fold over all indices whose steps touch their own index only: at one index it is the step of that index. -/
theorem foldl_finRange_at {N : Nat} {σ β : Type} {view : σ → β} {R : σ → σ → Prop} {f : σ → Fin N → σ} (n : Fin N)
    (hrefl : ∀ c, R c c) (htrans : ∀ c d e, R c d → R d e → R c e) (hstep : ∀ c k, R c (f c k))
    (hother : ∀ c k, n ≠ k → view (f c k) = view c) (c : σ) :
    ∃ d, R c d ∧ view d = view c ∧ view ((List.finRange N).foldl f c) = view (f d n) ∧ R c ((List.finRange N).foldl f c) := by
  have hR (l : List (Fin N)) (c : σ) : R c (l.foldl f c) :=
    List.foldlRecOn (motive := R c) l f (hrefl c) (fun d h k _ => htrans _ _ _ h (hstep d k))
  have hview (l : List (Fin N)) (hl : n ∉ l) (c : σ) : view (l.foldl f c) = view c :=
    List.foldlRecOn (motive := fun d => view d = view c) l f rfl
      (fun d h k hk => (hother d k (fun e => hl (e ▸ hk))).trans h)
  obtain ⟨l₁, l₂, hl⟩ := List.append_of_mem (List.mem_finRange n)
  have hnd : (l₁ ++ n :: l₂).Nodup := hl ▸ List.nodup_finRange N
  have h1 : n ∉ l₁ := fun h => (List.nodup_append.1 hnd).2.2 n h n (List.mem_cons_self ..) rfl
  have h2 : n ∉ l₂ := (List.nodup_cons.1 (List.nodup_append.1 hnd).2.1).1
  refine ⟨l₁.foldl f c, hR l₁ c, hview l₁ h1 c, ?_, hR _ c⟩
  rw [hl, List.foldl_append, List.foldl_cons]
  exact hview l₂ h2 _

/-- The sample of a test pulse, for one input. -/
def GCtx.pulseOne (m : Nat) (c : GCtx) (k : Fin 16) : GCtx :=
  match c.inRec k with
  | some r => if r.test && bitOf k m then inputFault k r c else c
  | none => c

/-- The end of a mask, for one input. -/
def GCtx.unmaskOne (srcB : Bool) (c : GCtx) (k : Fin 16) : GCtx :=
  judgeChange k srcB (c.inp k) (c.setIn k (SafIn.unmask srcB c.now))

theorem foldl_inputs (f : GCtx → Nat → GCtx) (c : GCtx) :
    (List.range 16).foldl f c = (List.finRange 16).foldl (fun c (k : Fin 16) => f c k) c := by
  rw [← List.map_coe_finRange_eq_range, List.foldl_map]

theorem GCtx.pulseOne_same (m : Nat) (c : GCtx) (k : Fin 16) : c.SameInputs (c.pulseOne m k) := by
  unfold GCtx.pulseOne
  split
  · split
    · exact .inputFault ..
    · exact .refl c
  · exact .refl c

theorem GCtx.unmaskOne_same (srcB : Bool) (c : GCtx) (k : Fin 16) : c.SameInputs (c.unmaskOne srcB k) :=
  (GCtx.SameInputs.setIn k _ c).trans (.judgeChange ..)

theorem GCtx.pulseOne_other {n k : Fin 16} (h : n ≠ k) (m : Nat) (c : GCtx) : (c.pulseOne m k).g.ins[n] = c.g.ins[n] := by
  unfold GCtx.pulseOne
  split
  · split
    · exact inputFault_other h _ _
    · rfl
  · rfl

theorem GCtx.unmaskOne_other {n k : Fin 16} (h : n ≠ k) (srcB : Bool) (c : GCtx) : (c.unmaskOne srcB k).g.ins[n] = c.g.ins[n] :=
  (judgeChange_other h _ _ _).trans (GCtx.setIn_other h _ _)

section
variable {s : State} {n : Fin 16} {r : GtrInput} (hs : s.up = true) (hrec : s.gctx.inRec n = some r) (happ : s.gtr.applied = true)

include hs in
theorem testPulseStart_masks {srcB : Bool} (hm : (if srcB then s.gtr.maskA else s.gtr.maskB) = none) :
    ∃ t, exec (.testPulseStart srcB) s = .next t ∧
      t.gtr = if srcB then { s.gtr with maskB := some s.mono } else { s.gtr with maskA := some s.mono } := by
  have hfun : pulseStart srcB s.gctx =
      s.gctx.mod (fun g => if srcB then { g with maskB := some s.mono } else { g with maskA := some s.mono }) := by
    have hm' : (if srcB then s.gctx.g.maskA else s.gctx.g.maskB) = none := hm
    unfold pulseStart
    rw [hm']
    exact if_neg Bool.false_ne_true
  obtain ⟨t, ht, hg, -⟩ := State.onGaiter_exec hs (pulseStart srcB)
  exact ⟨t, ht, hg.trans (congrArg GCtx.g hfun)⟩

include hs hrec happ

theorem testPulseSample_faults {t0 m : Nat} (hm : s.gtr.maskA = some t0) (ht : t0 + 180 ≤ s.mono) (htest : r.test = true)
    (hbit : bitOf n m = true) (hf : s.gtr.ins[n].fault = false) :
    ∃ t, exec (.testPulseSample false m) s = .next t ∧ t.gtr.ins[n].fault = true ∧ t.gtr.ins[n].closed = false := by
  have hfun : pulseSample false m s.gctx = (List.finRange 16).foldl (GCtx.pulseOne m) s.gctx := by
    have hmask : s.gctx.g.maskA = some t0 := hm
    have happ' : s.gctx.g.applied = true := happ
    have hnot : ¬ (s.gctx.now < t0 + 180 ∨ (!s.gctx.g.applied) = true) := by
      rw [happ']
      rintro (h | h)
      · exact absurd ht (Nat.not_le.2 h)
      · cases h
    unfold pulseSample
    rw [if_neg Bool.false_ne_true, hmask]
    exact (if_neg hnot).trans (foldl_inputs _ _)
  obtain ⟨d, hd, hin, hout, -⟩ := foldl_finRange_at (view := fun c : GCtx => c.g.ins[n]) (R := GCtx.SameInputs) (f := GCtx.pulseOne m) n
    GCtx.SameInputs.refl (fun _ _ _ => GCtx.SameInputs.trans) (fun c k => c.pulseOne_same m k)
    (fun c k hk => GCtx.pulseOne_other hk m c) s.gctx
  have hself : d.pulseOne m n = inputFault n r d := by
    unfold GCtx.pulseOne
    rw [hd.inRec, hrec]
    exact if_pos (by rw [htest, hbit]; rfl)
  obtain ⟨h1, h2, -⟩ := inputFault_faults n (r := r) (c := d) ((congrArg SafIn.fault hin).trans hf)
  obtain ⟨t, ht, hg, -⟩ := State.onGaiter_exec hs (pulseSample false m)
  refine ⟨t, ht, ?_⟩
  rw [hg, hfun, hout, hself]
  exact ⟨h1, h2⟩

omit hs hrec happ in
theorem maskEnd_eq {t0 : Nat} (hm : s.gtr.maskA = some t0) (ht : t0 + 240 ≤ s.mono) :
    maskEnd false s.gctx = (List.finRange 16).foldl (GCtx.unmaskOne false) (s.gctx.mod (fun g => { g with maskA := none })) := by
  have hmask : s.gctx.g.maskA = some t0 := hm
  unfold maskEnd
  rw [if_neg Bool.false_ne_true, hmask]
  exact (if_neg (Nat.not_lt.2 ht)).trans (foldl_inputs _ _)

omit hs hrec happ in
theorem SafIn.unmask_a (now : Nat) (x : SafIn) : (x.unmask false now).aMasked = false ∧ (x.unmask false now).a = x.a := by
  unfold SafIn.unmask
  rw [if_neg Bool.false_ne_true]
  split
  · exact ⟨rfl, rfl⟩
  · next h => exact ⟨Bool.eq_false_iff.2 h, rfl⟩

omit hs hrec happ in
/-- The end of the mask of contact A at one input: the mask is gone, and an opening that it hid counts. -/
theorem GCtx.unmaskOne_self {d : GCtx} (hr : d.inRec n = some r) (ha : d.g.applied = true) :
    (d.unmaskOne false n).g.ins[n].aMasked = false ∧
      (r.test = true → d.g.ins[n].aMasked = true → d.g.ins[n].a = false → (d.unmaskOne false n).g.ins[n].closed = false) := by
  obtain ⟨e, hedef⟩ : ∃ e, d.setIn n (SafIn.unmask false d.now) = e := ⟨_, rfl⟩
  have he : e.g.ins[n] = d.g.ins[n].unmask false d.now := by
    rw [← hedef]
    exact GCtx.setIn_same n d _
  obtain ⟨hmask, hlevel⟩ := SafIn.unmask_a d.now d.g.ins[n]
  have hjudge : d.unmaskOne false n =
      if kOpen false r d.g.ins[n] != kOpen false r e.g.ins[n] then judgeInput n false r e else e := by
    have hre : e.inRec n = some r := by rw [← hedef]; exact hr
    have hae : e.g.applied = true := by rw [← hedef]; exact ha
    have hd : d.inp n = d.g.ins[n] := GCtx.inp_val n d
    have hi : e.inp n = e.g.ins[n] := GCtx.inp_val n e
    unfold GCtx.unmaskOne
    rw [hedef]
    unfold judgeChange
    rw [hre, hae, hd, hi]
    rfl
  constructor
  · rw [hjudge]
    split
    · exact (judgeInput_keeps (view := SafIn.aMasked) n (fun _ _ _ _ _ => rfl) false).trans ((congrArg SafIn.aMasked he).trans hmask)
    · exact (congrArg SafIn.aMasked he).trans hmask
  · intro htest hmasked hopen
    have hbefore : kOpen false r d.g.ins[n] = false := by
      unfold kOpen aOpen
      rw [htest, hmasked, hopen]
      rfl
    have hafter : kOpen false r e.g.ins[n] = true := by
      unfold kOpen aOpen
      rw [he, hmask, hlevel, hopen, Bool.and_false]
      rfl
    rw [hjudge, hbefore, hafter]
    exact judgeInput_closed n hafter

theorem testMaskEnd_counts {t0 : Nat} (hm : s.gtr.maskA = some t0) (ht : t0 + 240 ≤ s.mono) :
    ∃ t, exec (.testMaskEnd false) s = .next t ∧ t.gtr.maskA = none ∧
      t.gtr.ins[n].aMasked = false ∧ (r.test = true → s.gtr.ins[n].aMasked = true → s.gtr.ins[n].a = false → t.gtr.ins[n].closed = false) := by
  obtain ⟨d, hd, hin, hout, hend⟩ := foldl_finRange_at (view := fun c : GCtx => c.g.ins[n]) (R := GCtx.SameInputs)
    (f := GCtx.unmaskOne false) n GCtx.SameInputs.refl (fun _ _ _ => GCtx.SameInputs.trans) (fun c k => c.unmaskOne_same false k)
    (fun c k hk => GCtx.unmaskOne_other hk false c) (s.gctx.mod (fun g => { g with maskA := none }))
  obtain ⟨h1, h2⟩ := GCtx.unmaskOne_self (n := n) (d := d) ((hd.inRec n).trans hrec) (hd.applied.trans happ)
  have hin' : d.g.ins[n] = s.gtr.ins[n] := hin
  rw [hin'] at h2
  obtain ⟨t, hexec, hg, -⟩ := State.onGaiter_exec hs (maskEnd false)
  refine ⟨t, hexec, ?_⟩
  rw [hg, maskEnd_eq hm ht]
  refine ⟨hend.maskA, ?_⟩
  rw [hout]
  exact ⟨h1, h2⟩

end

/-- Settles O25: a change of a contact, the debounce and the discrepancy of an input, and the test pulses. -/
theorem safetyInputsAct : Obligations.SafetyInputsAct := by
  unfold Obligations.SafetyInputsAct
  intro s n r hs hrec happ
  exact ⟨safetyContactChange_trips hs hrec happ, inputDebounceDone_closes hs hrec happ,
    fun w hw => inputDiscrepancy_faults hs hrec happ hw, fun hm => testPulseStart_masks (srcB := false) hs hm,
    fun hm => testPulseStart_masks (srcB := true) hs hm, fun t0 m => testPulseSample_faults hs hrec happ,
    fun t0 => testMaskEnd_counts hs hrec happ⟩

end Sys2Proof.Machine
end

section
/-! ## The fast comparators and their self-test (O26: `ComparatorsAct`) -/

namespace Sys2Proof.Machine

/-! ### What trips, soft requests and changes of the site state leave alone -/

/-- A view of Gaiter that does not see the trip path, the site state, its causes, the gates and the outputs. -/
def Gaiter.Blind {β : Type} (view : Gaiter → β) : Prop :=
  ∀ (g : Gaiter) st trip latch cause softAt softLimit clrAt low gates trips hbWait so softs pendSoft, view { g with
    st := st, trip := trip, latch := latch, cause := cause, softAt := softAt, softLimit := softLimit, clrAt := clrAt, low := low,
    gates := gates, trips := trips, hbWait := hbWait, so := so, softs := softs, pendSoft := pendSoft } = view g

theorem Gaiter.blind_fc : Gaiter.Blind Gaiter.fc := fun _ _ _ _ _ _ _ _ _ _ _ _ _ _ _ => rfl
theorem Gaiter.blind_diag : Gaiter.Blind Gaiter.diag := fun _ _ _ _ _ _ _ _ _ _ _ _ _ _ _ => rfl

/-- A cycle at the trip latch, once its cause is taken out of it. -/
def takeLatch (k : Cause) (rank : Nat) (c : GCtx) : GCtx :=
  if c.g.standby then c.ev .safetyTrip
  else match c.g.st with
  | .run | .degraded | .soft => (enterClearing (recordCause k (keepLow rank c))).ev .safetyTrip
  | _ => c.ev .safetyTrip

theorem settleTrip_none {c : GCtx} (hl : c.g.latch = none) : settleTrip c = c := by
  unfold settleTrip
  rw [hl]

theorem settleTrip_some {k : Cause} {c : GCtx} (hl : c.g.latch = some k) : settleTrip c =
    takeLatch k (if k.kind = 4 then 2 else 1) ((outrank (if k.kind = 4 then 2 else 1) c).mod (fun g => { g with latch := none })) := by
  unfold settleTrip
  rw [hl]
  rfl

/-- A soft request at the site state, once it is counted. -/
def beginSoft (limit : Nat) (k : Cause) (c : GCtx) : GCtx :=
  match c.g.st with
  | .run | .degraded =>
    goState .soft ((recordCause k (keepLow (softRank k) c)).mod (fun g => { g with softAt := c.now, softLimit := limit }))
  | _ => c

theorem softOne_eq (limit : Nat) (c : GCtx) (k : Cause) :
    softOne limit c k = beginSoft limit k ((outrank (softRank k) c).mod (fun g => { g with softs := satInc 16 g.softs })) := rfl

section
variable {β : Type} {view : Gaiter → β} (h : Gaiter.Blind view)
include h

theorem outsFollow_blind (c : GCtx) : view (outsFollow c).g = view c.g :=
  h c.g c.g.st c.g.trip c.g.latch c.g.cause c.g.softAt c.g.softLimit c.g.clrAt c.g.low c.g.gates c.g.trips c.g.hbWait _ c.g.softs
    c.g.pendSoft

theorem goState_blind (st : GState) (c : GCtx) : view (goState st c).g = view c.g := by
  unfold goState
  split
  · rfl
  · exact (outsFollow_blind h _).trans (h c.g st c.g.trip c.g.latch c.g.cause c.g.softAt c.g.softLimit c.g.clrAt c.g.low c.g.gates c.g.trips
      c.g.hbWait c.g.so c.g.softs c.g.pendSoft)

theorem hardTrip_blind (k : Cause) (c : GCtx) : view (hardTrip k c).g = view c.g := by
  unfold hardTrip
  split
  · rfl
  · exact (outsFollow_blind h _).trans (h c.g c.g.st true _ c.g.cause c.g.softAt c.g.softLimit c.g.clrAt c.g.low _ _
      c.g.hbWait c.g.so c.g.softs c.g.pendSoft)

theorem recordCause_blind (k : Cause) (c : GCtx) : view (recordCause k c).g = view c.g := by
  unfold recordCause
  split
  · rfl
  · rfl
  · exact h c.g c.g.st c.g.trip c.g.latch k c.g.softAt c.g.softLimit c.g.clrAt c.g.low c.g.gates c.g.trips c.g.hbWait c.g.so c.g.softs
      c.g.pendSoft

theorem enterClearing_blind (c : GCtx) : view (enterClearing c).g = view c.g :=
  (goState_blind h _ _).trans (h c.g c.g.st true c.g.latch c.g.cause c.g.softAt c.g.softLimit _ c.g.low _ c.g.trips false c.g.so c.g.softs
    c.g.pendSoft)

theorem keepLow_blind (rank : Nat) (c : GCtx) : view (keepLow rank c).g = view c.g :=
  h c.g c.g.st c.g.trip c.g.latch c.g.cause c.g.softAt c.g.softLimit c.g.clrAt _ c.g.gates c.g.trips c.g.hbWait c.g.so c.g.softs
    c.g.pendSoft

theorem outrank_blind (rank : Nat) (c : GCtx) : view (outrank rank c).g = view c.g := by
  unfold outrank
  split
  · rfl
  · next x _ =>
    split
    · rfl
    · refine (outsFollow_blind h _).trans ?_
      dsimp only [GCtx.mod]
      split
      · exact h c.g x.st _ c.g.latch x.cause x.softAt x.softLimit x.clrAt none _ c.g.trips c.g.hbWait c.g.so c.g.softs c.g.pendSoft
      · exact h c.g x.st _ c.g.latch x.cause x.softAt x.softLimit x.clrAt none c.g.gates c.g.trips c.g.hbWait c.g.so c.g.softs
          c.g.pendSoft

theorem latchTaken_blind (c : GCtx) : view (c.mod (fun g => { g with latch := none })).g = view c.g :=
  h c.g c.g.st c.g.trip none c.g.cause c.g.softAt c.g.softLimit c.g.clrAt c.g.low c.g.gates c.g.trips c.g.hbWait c.g.so c.g.softs
    c.g.pendSoft

theorem takeLatch_blind (k : Cause) (rank : Nat) (c : GCtx) : view (takeLatch k rank c).g = view c.g := by
  have hclear : view (enterClearing (recordCause k (keepLow rank c))).g = view c.g :=
    (enterClearing_blind h _).trans ((recordCause_blind h k _).trans (keepLow_blind h rank c))
  unfold takeLatch
  split
  · rfl
  · split
    · exact hclear
    · exact hclear
    · exact hclear
    · rfl

theorem settleTrip_blind (c : GCtx) : view (settleTrip c).g = view c.g := by
  cases hl : c.g.latch with
  | none => rw [settleTrip_none hl]
  | some k => rw [settleTrip_some hl, takeLatch_blind h, latchTaken_blind h, outrank_blind h]

theorem beginSoft_blind (limit : Nat) (k : Cause) (c : GCtx) : view (beginSoft limit k c).g = view c.g := by
  have hsoft : view (goState .soft ((recordCause k (keepLow (softRank k) c)).mod (fun g => { g with softAt := c.now, softLimit := limit }))).g =
      view c.g := by
    refine (goState_blind h _ _).trans (Eq.trans ?_ ((recordCause_blind h k _).trans (keepLow_blind h (softRank k) c)))
    obtain ⟨d, hd⟩ : ∃ d, recordCause k (keepLow (softRank k) c) = d := ⟨_, rfl⟩
    rw [hd]
    exact h d.g d.g.st d.g.trip d.g.latch d.g.cause c.now limit d.g.clrAt d.g.low d.g.gates d.g.trips d.g.hbWait d.g.so d.g.softs
      d.g.pendSoft
  unfold beginSoft
  split
  · exact hsoft
  · exact hsoft
  · rfl

theorem softOne_blind (limit : Nat) (c : GCtx) (k : Cause) : view (softOne limit c k).g = view c.g := by
  rw [softOne_eq, beginSoft_blind h]
  refine Eq.trans ?_ (outrank_blind h (softRank k) c)
  obtain ⟨d, hd⟩ : ∃ d, outrank (softRank k) c = d := ⟨_, rfl⟩
  rw [hd]
  exact h d.g d.g.st d.g.trip d.g.latch d.g.cause d.g.softAt d.g.softLimit d.g.clrAt d.g.low d.g.gates d.g.trips d.g.hbWait d.g.so _
    d.g.pendSoft

theorem takeSoft_blind (c : GCtx) : view (takeSoft c).g = view c.g := by
  obtain ⟨d, hd⟩ : ∃ d, settleTrip c = d := ⟨_, rfl⟩
  have hpend : view (d.mod (fun g => { g with pendSoft := [] })).g = view d.g :=
    h d.g d.g.st d.g.trip d.g.latch d.g.cause d.g.softAt d.g.softLimit d.g.clrAt d.g.low d.g.gates d.g.trips d.g.hbWait d.g.so d.g.softs []
  unfold takeSoft
  rw [hd]
  refine (foldl_view (view := fun c : GCtx => view c.g) (fun t k => softOne_blind h 100000 t k) _ _).trans (hpend.trans ?_)
  rw [← hd]
  exact settleTrip_blind h c

theorem softReq_blind (limit : Nat) (k : Cause) (c : GCtx) : view (softReq limit k c).g = view c.g :=
  (softOne_blind h limit _ k).trans (takeSoft_blind h c)

end

/-! ### Diagnostics (R192) -/

theorem bitOf_add_pow {b v : Nat} (h : bitOf b v = false) : bitOf b (v + 2 ^ b) = true := by
  rw [bitOf_eq_iff] at h ⊢
  rw [Nat.add_div_right _ (Nat.two_pow_pos b), Nat.add_mod, h]
  rfl

/-- A diagnostic flag stands once it is set. -/
theorem setDiag_diag (bit : Nat) (c : GCtx) : bitOf bit (setDiag bit c).g.diag = true := by
  unfold setDiag
  split
  · next h => exact h
  · next h => exact bitOf_add_pow (Bool.eq_false_iff.2 h)

theorem setDiag_fc (bit : Nat) (c : GCtx) : (setDiag bit c).g.fc = c.g.fc := by
  unfold setDiag
  split <;> rfl

/-- An essential fault, flagged and recorded. -/
def essentialFlagged (bit : Nat) (c : GCtx) : GCtx :=
  let d := (setDiag bit c).mod (fun g => { g with ess := some (g.ess.getD bit) })
  if c.g.standby && !c.g.unfit && bitOf bit c.g.diag then d.ev .gaiterDiagnostic else d

/-- What a flagged essential fault does to the trip path (R192, R212). -/
def essentialActs (bit : Nat) (c : GCtx) : GCtx :=
  if c.g.standby then c.mod (fun g => { g with trip := false, disarmed := true, unfit := true, latch := none })
  else match (outrank 2 c).g.st with
    | .run | .degraded | .soft => settleTrip (hardTrip ((outrank 2 c).causeAt 4 bit) (settleTrip (outrank 2 c)))
    | _ => hardTrip ((outrank 2 c).causeAt 4 bit) (outrank 2 c)

theorem essential_eq (bit : Nat) (c : GCtx) : essential bit c = essentialActs bit (essentialFlagged bit c) := rfl

section
variable {β : Type} {view : Gaiter → β} (h : Gaiter.Blind view)
include h

/-- An essential fault moves, beyond its flag, the trip path and the fitness of a standby only. -/
theorem essential_blind (hess : ∀ (g : Gaiter) e d u, view { g with ess := e, disarmed := d, unfit := u } = view g) (bit : Nat) (c : GCtx) :
    view (essential bit c).g = view (setDiag bit c).g := by
  have hflag : view (essentialFlagged bit c).g = view (setDiag bit c).g := by
    have hd : view ((setDiag bit c).mod (fun g => { g with ess := some (g.ess.getD bit) })).g = view (setDiag bit c).g :=
      hess (setDiag bit c).g _ (setDiag bit c).g.disarmed (setDiag bit c).g.unfit
    unfold essentialFlagged
    dsimp only
    split
    · exact hd
    · exact hd
  have hacts (d : GCtx) : view (essentialActs bit d).g = view d.g := by
    unfold essentialActs
    split
    · exact (hess { d.g with trip := false, latch := none } d.g.ess true true).trans
        (h d.g d.g.st false none d.g.cause d.g.softAt d.g.softLimit d.g.clrAt d.g.low d.g.gates d.g.trips d.g.hbWait d.g.so d.g.softs
          d.g.pendSoft)
    · have hout := outrank_blind h 2 d
      have hall (k : Cause) : view (settleTrip (hardTrip k (settleTrip (outrank 2 d)))).g = view d.g :=
        (settleTrip_blind h _).trans ((hardTrip_blind h k _).trans ((settleTrip_blind h _).trans hout))
      split
      · exact hall _
      · exact hall _
      · exact hall _
      · exact (hardTrip_blind h _ _).trans hout
  rw [essential_eq]
  exact (hacts _).trans hflag

end

/-- A non-essential fault, once it is flagged: degraded mode, or a soft request of its own. -/
def nonEssentialActs (bit : Nat) (first : Bool) (c : GCtx) : GCtx :=
  let c := if c.glob.degEn && c.g.degEnd.isNone then c.mod (fun g => { g with degEnd := some (c.now + c.glob.degTime * 60000000) }) else c
  match c.g.st with
  | .run => if c.glob.degEn then goState .degraded c else if first then softReq 100000 (c.causeAt 4 bit) c else c
  | _ => c

theorem nonEssential_eq (bit : Nat) (c : GCtx) : nonEssential bit c =
    if (setDiag bit (takeSoft c)).g.standby then setDiag bit (takeSoft c)
    else nonEssentialActs bit (!(bitOf bit c.g.diag)) (outrank 4 (setDiag bit (takeSoft c))) := rfl

theorem nonEssential_diag (bit : Nat) (c : GCtx) : bitOf bit (nonEssential bit c).g.diag = true := by
  have hacts (first : Bool) (d : GCtx) : (nonEssentialActs bit first d).g.diag = d.g.diag := by
    obtain ⟨e, hedef, he⟩ : ∃ e, (if d.glob.degEn && d.g.degEnd.isNone then
        d.mod (fun g => { g with degEnd := some (d.now + d.glob.degTime * 60000000) }) else d) = e ∧ e.g.diag = d.g.diag := by
      refine ⟨_, rfl, ?_⟩
      split <;> rfl
    unfold nonEssentialActs
    dsimp only
    rw [hedef]
    split
    · split
      · exact (goState_blind Gaiter.blind_diag _ _).trans he
      · split
        · exact (softReq_blind Gaiter.blind_diag _ _ _).trans he
        · exact he
    · exact he
  rw [nonEssential_eq]
  split
  · exact setDiag_diag bit _
  · rw [hacts, outrank_blind Gaiter.blind_diag]
    exact setDiag_diag bit _

/-! ### Comparators (R197, R198) -/

section
variable {s : State} {n : Fin 24} {r : GtrCmp} (hs : s.up = true) (hrec : s.gctx.cmpRec n = some r)
include hs hrec

theorem comparatorCrossing_trips (ha : s.gtr.fc[n].active = false) (hd : s.gtr.disarmed = false)
    (hl : ∀ t0, s.gtr.fc[n].lastTest = some t0 → t0 + 40 ≤ s.mono) :
    ∃ t, exec (.comparatorCrossing n) s = .next t ∧ t.gtr.fc[n].active = true ∧
      t.gtr.fc[n].cross = true ∧ t.gtr.trip = true ∧ t.gtr.latch = some (s.gtr.latch.getD { kind := 3, idx := n, ts := s.tb % 2 ^ 32 }) ∧
      ∀ p : Fin 12, t.gtr.gates[p].en = false := by
  have hcmp : s.gctx.cmp n = s.gtr.fc[n] := atD_val _ _ _
  have hmask : testMasked s.mono s.gtr.fc[n] = false := by
    unfold testMasked
    split
    · next t0 h => exact decide_eq_false (Nat.not_lt.2 (hl t0 h))
    · rfl
  obtain ⟨d, hd0⟩ : ∃ d, s.gctx.setCmp n (fun x => { x with active := true, cross := true, hidden := false }) = d := ⟨_, rfl⟩
  have hself : d.g.fc[n] = { s.gtr.fc[n] with active := true, cross := true, hidden := false } := by
    rw [← hd0]
    exact updN_same _ _ _ n.isLt
  have hf : crossing n s.gctx = hardTrip (d.causeAt 3 n) d := by
    have hmask' : testMasked s.gctx.now (s.gctx.cmp n) = false := by rw [hcmp]; exact hmask
    unfold crossing
    rw [hrec]
    dsimp only
    rw [hmask', hcmp, if_neg (by rw [ha]; exact Bool.false_ne_true), if_neg Bool.false_ne_true, hd0]
  have hdis : d.g.disarmed = false := by rw [← hd0]; exact hd
  obtain ⟨h1, h2, -, h4⟩ := hardTrip_trips (k := d.causeAt 3 n) hdis
  have hfc : (hardTrip (d.causeAt 3 n) d).g.fc[n] = d.g.fc[n] :=
    congrArg (fun v : Vector FastCmp 24 => v[n]) (hardTrip_blind Gaiter.blind_fc _ d)
  obtain ⟨t, ht, hg, -⟩ := State.onGaiter_exec hs (crossing n)
  refine ⟨t, ht, ?_⟩
  rw [hg, hf, hfc, hself]
  refine ⟨rfl, rfl, h1, ?_, h4⟩
  rw [h2, ← hd0]
  rfl

omit hrec in
theorem comparatorReturn_clears :
    ∃ t, exec (.comparatorReturn n) s = .next t ∧ t.gtr.fc[n] = { s.gtr.fc[n] with active := false, hidden := false } ∧
      t.gtr.st = s.gtr.st ∧ t.gtr.trip = s.gtr.trip := by
  obtain ⟨t, ht, hg, -⟩ := State.onGaiter_exec hs (cmpReturn n)
  refine ⟨t, ht, ?_⟩
  rw [hg]
  exact ⟨updN_same _ _ _ n.isLt, rfl, rfl⟩

section
variable (htest : r.selfTest = true) (hq : s.testQuiet n = true) (ha : s.gtr.fc[n].active = false)
  (hl : ∀ t0, s.gtr.fc[n].lastTest = some t0 → t0 + 60000000 ≤ s.mono)
include htest hq ha hl

omit hs in
theorem selfTest_eq (ok : Bool) : selfTest n (s.testQuiet n) ok s.gctx =
    if ok then s.gctx.setCmp n (fun x => { x with lastTest := some s.mono, lastPass := if ok then s.mono else x.lastPass })
    else essential 10 (s.gctx.setCmp n (fun x => { x with lastTest := some s.mono, lastPass := if ok then s.mono else x.lastPass })) := by
  have hcmp : s.gctx.cmp n = s.gtr.fc[n] := atD_val _ _ _
  unfold selfTest
  rw [hrec]
  dsimp only
  rw [hcmp, ha]
  refine if_pos ?_
  simp only [htest, hq, Bool.true_and, Bool.not_false, Bool.and_true]
  split
  · next t0 h => exact decide_eq_true (hl t0 h)
  · rfl

theorem comparatorSelfTest_passes :
    ∃ t, exec (.comparatorSelfTest n true) s = .next t ∧
        t.gtr.fc[n] = { s.gtr.fc[n] with lastTest := some s.mono, lastPass := s.mono } ∧ t.gtr.diag = s.gtr.diag := by
  obtain ⟨t, ht, hg, -⟩ := State.onGaiter_exec hs (selfTest n (s.testQuiet n) true)
  refine ⟨t, ht, ?_⟩
  rw [hg, selfTest_eq hrec htest hq ha hl]
  exact ⟨updN_same _ _ _ n.isLt, rfl⟩

theorem comparatorSelfTest_fails :
    ∃ t, exec (.comparatorSelfTest n false) s = .next t ∧ t.gtr.fc[n].lastTest = some s.mono ∧ bitOf 10 t.gtr.diag = true := by
  obtain ⟨t, ht, hg, -⟩ := State.onGaiter_exec hs (selfTest n (s.testQuiet n) false)
  refine ⟨t, ht, ?_⟩
  rw [hg, selfTest_eq hrec htest hq ha hl, if_neg Bool.false_ne_true,
    essential_blind Gaiter.blind_diag (fun _ _ _ _ => rfl)]
  refine ⟨?_, setDiag_diag 10 _⟩
  have hfc := (essential_blind Gaiter.blind_fc (fun _ _ _ _ => rfl) 10
    (s.gctx.setCmp n (fun x => { x with lastTest := some s.mono, lastPass := if false then s.mono else x.lastPass }))).trans (setDiag_fc 10 _)
  exact (congrArg (fun v : Vector FastCmp 24 => v[n].lastTest) hfc).trans (congrArg FastCmp.lastTest (updN_same _ _ _ n.isLt))

end

theorem fcTestLate_flags (htest : r.selfTest = true) (happ : s.gtr.applied = true)
    (ht : max s.gtr.fc[n].lastPass s.gtr.appliedAt + (s.cfg.gtrGlobal.getD {}).fcTestMax * 3600000000 ≤ s.mono) :
    ∃ t, exec (.fcTestLate n) s = .next t ∧ bitOf 11 t.gtr.diag = true := by
  have hcmp : s.gctx.cmp n = s.gtr.fc[n] := atD_val _ _ _
  have hf : testLate n s.gctx = nonEssential 11 s.gctx := by
    unfold testLate
    rw [hrec]
    exact if_pos ⟨htest, happ, by rw [hcmp]; exact ht⟩
  obtain ⟨t, hexec, hg, -⟩ := State.onGaiter_exec hs (testLate n)
  refine ⟨t, hexec, ?_⟩
  rw [hg, hf]
  exact nonEssential_diag 11 _

end

/-- Settles O26: a crossing and its return, the self-test, and a test that is late. -/
theorem comparatorsAct : Obligations.ComparatorsAct := by
  unfold Obligations.ComparatorsAct
  intro s n r hs hrec
  exact ⟨comparatorCrossing_trips hs hrec, comparatorReturn_clears hs,
    fun htest hq ha hl => ⟨comparatorSelfTest_passes hs hrec htest hq ha hl, comparatorSelfTest_fails hs hrec htest hq ha hl⟩,
    fcTestLate_flags hs hrec⟩

end Sys2Proof.Machine
end

section
/-! ## The main die's side of the Sleeve link (O28: `SleeveLinkReceives`) -/

namespace Sys2Proof.Machine

/-! ### A sample frame (R228, R230) -/

/-- The sum of a port with a sample of voltage `v` and current `i`. -/
def SlvPort.sampled (now : Nat) (v i : Int) (q : SlvPort) : SlvPort :=
  { sumV := q.sumV + v, sumI := q.sumI + i, n := q.n + 1, lastOk := some now, invalid := false }

/-- A fold of updates at places of a list without repetition: one that is in the list is updated once. -/
theorem foldl_updN_get {α β : Type} {n : Nat} (key : β → Nat) (f : β → α → α) (l : List β) (hl : (l.map key).Nodup) (v : Vector α n) (p : Fin n) :
    (∀ x ∈ l, key x = p → (l.foldl (fun v x => updN v (key x) (f x)) v)[p] = f x v[p]) ∧
      ((∀ x ∈ l, key x ≠ p) → (l.foldl (fun v x => updN v (key x) (f x)) v)[p] = v[p]) := by
  induction l generalizing v with
  | nil => exact ⟨fun x hx => (List.not_mem_nil hx).elim, fun _ => rfl⟩
  | cons y ys ih =>
    obtain ⟨hy, hys⟩ := List.nodup_cons.1 hl
    obtain ⟨hin, hout⟩ := ih hys (updN v (key y) (f y))
    rw [List.foldl_cons]
    constructor
    · intro x hx hp
      rcases List.mem_cons.1 hx with rfl | hx
      · have hrest : ∀ z ∈ ys, key z ≠ p := fun z hz he => hy (List.mem_map.2 ⟨z, hz, he.trans hp.symm⟩)
        rw [hout hrest]
        have hself : (updN v p (f x))[p.val] = f x v[p.val] := updN_same v p (f x) p.isLt
        rw [hp]
        exact hself
      · have hne : key y ≠ p := fun he => hy (List.mem_map.2 ⟨x, hx, hp.trans he.symm⟩)
        rw [hin x hx hp]
        exact congrArg (f x) (updN_ne v (f y) p.isLt hne)
    · intro h
      rw [hout (fun z hz => h z (List.mem_cons_of_mem _ hz))]
      exact updN_ne v (f y) p.isLt (h y (List.mem_cons_self ..))

/-- The samples of a frame: the ports whose flag OK is set, with their codes. -/
def frameSamples (bs : List Byte) : List (Nat × Int × Int) :=
  ((List.range 12).filter (fun p => bitOf p (leAt bs 2 2))).map (fun p => (p, leAtI bs (4 + 8 * p) 4, leAtI bs (8 + 8 * p) 4))

theorem frameSamples_nodup (bs : List Byte) : ((frameSamples bs).map (fun x => x.1)).Nodup := by
  unfold frameSamples
  rw [List.map_map]
  have hid : ((fun x : Nat × Int × Int => x.1) ∘ fun p => (p, leAtI bs (4 + 8 * p) 4, leAtI bs (8 + 8 * p) 4)) = id := rfl
  rw [hid, List.map_id]
  exact List.Nodup.filter _ List.nodup_range

section
variable {bs : List Byte} {k : Fin 2} {l : SlvLink} (now : Nat) (hlen : bs.length = 128) (hty : leAt bs 0 1 = 0x51)
  (hcrc : leAt bs 124 4 = crc32c (bs.take 124)) (hpad : ((bs.drop 112).take 12).any (· != 0) = false)
include hlen hty hcrc hpad

/-- The link once a good frame has been taken: the stream and the gap count, and the samples of the ports with a record. -/
theorem linkSample_good :
    (linkSample k bs now l).2.stream[k].fseq = some (leAt bs 1 1) ∧ (linkSample k bs now l).2.stream[k].record = bitOf 3 (leAt bs 107 1) ∧
      (linkSample k bs now l).2.gaps = sat 16 (l.gaps + fseqGap l.stream[k].fseq (leAt bs 1 1)) ∧
      (linkSample k bs now l).2.port = if bitOf 3 (leAt bs 107 1) then
        (frameSamples bs).foldl (fun v x => updN v x.1 (SlvPort.sampled now x.2.1 x.2.2)) l.port else l.port := by
  have hgood : ¬ (bs.length ≠ 128 ∨ leAt bs 0 1 ≠ 0x51 ∨ leAt bs 124 4 ≠ crc32c (bs.take 124) ∨ ((bs.drop 112).take 12).any (· != 0) = true) := by
    rw [hpad]
    simp [hlen, hty, hcrc]
  unfold linkSample
  rw [if_neg hgood]
  dsimp only
  cases hrec : bitOf 3 (leAt bs 107 1) with
  | false =>
    simp only [Bool.not_false, if_true, Bool.false_eq_true, if_false]
    refine ⟨?_, ?_, trivial, trivial⟩
    · exact congrArg SlvStream.fseq (upd_same _ _ _)
    · exact congrArg SlvStream.record (upd_same _ _ _)
  | true =>
    simp only [Bool.not_true, Bool.false_eq_true, if_false, if_true]
    refine ⟨?_, ?_, trivial, rfl⟩
    · exact congrArg SlvStream.fseq (upd_same _ _ _)
    · exact congrArg SlvStream.record (upd_same _ _ _)

theorem linkSample_port (p : Fin 12) :
    (bitOf 3 (leAt bs 107 1) = true → bitOf p (leAt bs 2 2) = true → (linkSample k bs now l).2.port[p] =
      (l.port[p]).sampled now (leAtI bs (4 + 8 * p.val) 4) (leAtI bs (8 + 8 * p.val) 4)) ∧
    (bitOf p (leAt bs 2 2) = false → (linkSample k bs now l).2.port[p] = l.port[p]) := by
  obtain ⟨-, -, -, hport⟩ := linkSample_good (k := k) (l := l) now hlen hty hcrc hpad
  obtain ⟨hin, hout⟩ := foldl_updN_get (fun x : Nat × Int × Int => x.1) (fun x => SlvPort.sampled now x.2.1 x.2.2) (frameSamples bs)
    (frameSamples_nodup bs) l.port p
  rw [hport]
  constructor
  · intro h3 hp
    rw [if_pos h3]
    exact hin (p, _, _) (List.mem_map.2 ⟨p, List.mem_filter.2 ⟨List.mem_range.2 p.isLt, hp⟩, rfl⟩) rfl
  · intro hp
    split
    · refine hout (fun x hx he => ?_)
      obtain ⟨q, hq, rfl⟩ := List.mem_map.1 hx
      obtain ⟨-, hq⟩ := List.mem_filter.1 hq
      rw [show q = p.val from he, hp] at hq
      cases hq
    · rfl

end

theorem State.sampleIn_slvLink (k : Fin 2) (bs : List Byte) (s : State) : (s.sampleIn k bs).slvLink = (linkSample k bs s.mono s.slvLink).2 := by
  unfold State.sampleIn
  dsimp only
  split
  · split <;> rfl
  · rfl

section
variable {s : State} (hs : s.linkUp = true)
include hs

theorem sampleFrameReceive_takes (k : Fin 2) (bs : List Byte) (hlen : bs.length = 128) (hty : leAt bs 0 1 = 0x51)
    (hcrc : leAt bs 124 4 = crc32c (bs.take 124)) (hpad : ((bs.drop 112).take 12).any (· != 0) = false) :
    ∃ t, exec (.sampleFrameReceive k bs) s = .next t ∧
        t.slvLink.stream[k].fseq = some (leAt bs 1 1) ∧ t.slvLink.stream[k].record = bitOf 3 (leAt bs 107 1) ∧
        t.slvLink.gaps = sat 16 (s.slvLink.gaps + fseqGap s.slvLink.stream[k].fseq (leAt bs 1 1)) ∧
        (∀ p : Fin 12, bitOf 3 (leAt bs 107 1) = true → bitOf p (leAt bs 2 2) = true → t.slvLink.port[p] =
          { sumV := s.slvLink.port[p].sumV + leAtI bs (4 + 8 * p.val) 4, sumI := s.slvLink.port[p].sumI + leAtI bs (8 + 8 * p.val) 4,
            n := s.slvLink.port[p].n + 1, lastOk := some s.mono, invalid := false }) ∧
        (∀ p : Fin 12, bitOf p (leAt bs 2 2) = false → t.slvLink.port[p] = s.slvLink.port[p]) := by
  refine ⟨_, congrArg Host.Outcome.next (State.onlyIf_of hs _ s), ?_⟩
  rw [State.sampleIn_slvLink]
  obtain ⟨h1, h2, h3, -⟩ := linkSample_good (k := k) (l := s.slvLink) s.mono hlen hty hcrc hpad
  exact ⟨h1, h2, h3, fun p => (linkSample_port s.mono hlen hty hcrc hpad p).1, fun p => (linkSample_port s.mono hlen hty hcrc hpad p).2⟩

theorem sampleFrameReceive_counts (k : Fin 2) (bs : List Byte) (hcrc : leAt bs 124 4 ≠ crc32c (bs.take 124)) :
    ∃ t, exec (.sampleFrameReceive k bs) s = .next t ∧ t.slvLink = { s.slvLink with crcErr := satInc 16 s.slvLink.crcErr } := by
  refine ⟨_, congrArg Host.Outcome.next (State.onlyIf_of hs _ s), ?_⟩
  rw [State.sampleIn_slvLink]
  exact congrArg Prod.snd (if_pos (.inr (.inr (.inl hcrc))))

theorem portMeasurementInvalid_marks (p : Fin 12) (h : ∀ t0, s.slvLink.port[p].lastOk = some t0 → t0 + 10000 ≤ s.mono) :
    ∃ t, exec (.portMeasurementInvalid p) s = .next t ∧ t.slvLink.port[p] = { s.slvLink.port[p] with invalid := true } := by
  have hlate : s.sampleLate p = true := by
    unfold State.sampleLate
    rw [hs, Bool.true_and]
    split
    · next t0 h0 => exact decide_eq_true (h t0 h0)
    · rfl
  exact ⟨_, congrArg Host.Outcome.next (State.onlyIf_of hlate _ s), upd_same _ _ _⟩

/-- A record in one segment is complete at once (R272). -/
theorem recordFrameReceive_completes (bs : List Byte) (hlen : bs.length = 128) (hty : leAt bs 0 1 = 0x52)
    (hcrc : leAt bs 124 4 = crc32c (bs.take 124)) (h3 : leAt bs 1 1 = 3) {b : List Byte} (hb : (bs.drop 4).take 120 = b)
    (hseg : leAt b 4 2 = 0) (htot : leAt b 6 2 = 1) (hzero : leAt b 9 3 = 0) (hpos : 0 < leAt b 8 1) (hmax : leAt b 8 1 ≤ 108)
    (hpad : (b.drop (12 + leAt b 8 1)).all (· == 0) = true) (hasm : s.slvLink.asm = []) (hnew : ∀ d ∈ s.slvLink.done, d.1 ≠ leAt b 0 4) :
    ∃ t, exec (.recordFrameReceive bs) s = .next t ∧
        t.slvLink.done = s.slvLink.done ++ [(leAt b 0 4, false, (b.drop 12).take (leAt b 8 1))] ∧ t.told .recordReady := by
  have hup : s.up = true := by
    unfold State.linkUp at hs
    simp only [Bool.and_eq_true] at hs
    exact hs.1
  have hclean : recClean 3 b = true := by
    unfold recClean
    simp only [hzero, hpad]
    rfl
  have hgood : ¬ (bs.length ≠ 128 ∨ leAt bs 0 1 ≠ 0x52 ∨ leAt bs 124 4 ≠ crc32c (bs.take 124) ∨ (!recClean (leAt bs 1 1) b) = true) := by
    rw [h3, hclean]
    simp [hlen, hty, hcrc]
  have hdone : s.slvLink.done.any (fun d => d.1 == leAt b 0 4 && d.2.1 == false) = false := by
    rw [List.any_eq_false]
    intro d hd
    simp [hnew d hd]
  obtain ⟨l, hl, hld⟩ : ∃ l, linkRecord bs s.slvLink = (l, true) ∧
      l.done = s.slvLink.done ++ [(leAt b 0 4, false, (b.drop 12).take (leAt b 8 1))] := by
    have hbit : bitOf 15 0 = false := rfl
    unfold linkRecord
    rw [hb, if_neg hgood]
    simp only [h3, hseg, htot, hbit, hdone, hasm, List.find?_nil, Option.getD_none, List.filter_nil, linkRecord.mirSeg, List.any_nil, insertBy]
    have hlim : ¬ (leAt b 8 1 = 0 ∨ 108 < leAt b 8 1 ∨ 1 ≤ 0 % 32768) := by omega
    rw [if_neg hlim]
    simp
  have hrec : s.recordIn bs = State.raise .recordReady { s with slvLink := l } := by
    unfold State.recordIn
    rw [hl]
    rfl
  refine ⟨_, congrArg Host.Outcome.next (State.onlyIf_of hs _ s), ?_⟩
  rw [hrec]
  exact ⟨(congrArg SlvLink.done (State.raise_slvLink ..)).trans hld, State.raise_told .recordReady _ hup⟩

end

/-- Settles O28: sample frames, their loss, and a record that comes in one segment. -/
theorem sleeveLinkReceives : Obligations.SleeveLinkReceives := by
  unfold Obligations.SleeveLinkReceives
  intro s hs
  exact ⟨sampleFrameReceive_takes hs, sampleFrameReceive_counts hs, portMeasurementInvalid_marks hs,
    fun bs hlen hty hcrc h3 => recordFrameReceive_completes hs bs hlen hty hcrc h3 rfl⟩

end Sys2Proof.Machine
end

section
/-! ## The heads and the forward link of the Sleeve (O29: `SleeveHeadsMeasure`) -/

namespace Sys2Proof.Machine

/-! ### The Sleeve at work -/

/-- The Sleeve's function where it works: the Sleeve as the function leaves it, and its events where the main die is up. -/
theorem State.onSleeve_exec {s : State} (hs : s.slvOn = true) (f : SX → SX) :
    ∃ t, (.next (s.onSleeve f) : Host.Outcome State Fault Refusal) = .next t ∧ t.slv = (f { s := s.slv }).s ∧
      ∀ e ∈ (f { s := s.slv }).evs, s.up = true → t.told e := by
  refine ⟨s.slvDo f, congrArg Host.Outcome.next (State.onlyIf_of hs _ s), slvDo_slv f s, fun e he hup => ?_⟩
  exact State.raises_told (s := { s with slv := (f { s := s.slv }).s }) hup he

/-- A command for one head, where its port exists. -/
theorem State.onHead_exec {s : State} {p : Fin 12} (hs : s.slvOn = true) (hp : s.hasPort p = true) (f : SX → SX) :
    ∃ t, (.next (s.onlyIf (s.hasPort p) (State.onSleeve f)) : Host.Outcome State Fault Refusal) = .next t ∧
      t.slv = (f { s := s.slv }).s ∧ ∀ e ∈ (f { s := s.slv }).evs, s.up = true → t.told e := by
  rw [State.onlyIf_of hp]
  exact State.onSleeve_exec hs f

theorem Sleeve.powered_of_slvOn {s : State} (hs : s.slvOn = true) : s.slv.powered = true := by
  unfold State.slvOn at hs
  simp only [Bool.and_eq_true] at hs
  exact hs.2

/-! ### What the end of a block leaves -/

theorem setNotice_reg (p : Nat) (s : Sleeve) : (setNotice p s).reg = s.reg := by
  unfold setNotice
  dsimp only
  split <;> rfl

theorem openGate_reg (p : Nat) (s : Sleeve) : (openGate p s).reg = s.reg := by
  unfold openGate
  dsimp only
  split <;> rfl

theorem creditCheck_reg (p : Nat) (verified low : Bool) (blk : Rat) (s : Sleeve) : (creditCheck p verified low blk s).reg = s.reg := by
  unfold creditCheck
  dsimp only
  repeat' split
  all_goals simp only [openGate_reg, setNotice_reg]

theorem latchStop_port (p : Nat) (s : Sleeve) : (latchStop p s).reg.port = s.reg.port := by
  unfold latchStop
  dsimp only
  split
  · rfl
  · exact List.foldlRecOn (motive := fun t : Sleeve => t.reg.port = s.reg.port) _ _ rfl (fun _ h _ _ => h)

theorem sessGap_reg (p n : Nat) (s : Sleeve) : (sessGap p n s).reg = s.reg := by
  unfold sessGap
  dsimp only
  split <;> rfl

/-- The head at the end of a block that is registered. -/
def Head.verified (block mc : Nat) (h : Head) : Head :=
  { h with
    lastBlock := some block, lastVer := mc, okRun := h.okRun + 1, ovr := if h.blkOvr then satInc 8 h.ovr else h.ovr,
    st := if h.st = .error ∧ 16 ≤ h.okRun + 1 then .ok else h.st }

/-- The head at the end of a block that is a gap. -/
def Head.gap (h : Head) : Head := { h with gaps := satInc 8 h.gaps, okRun := 0 }

/-- The sums of a port with a block's energy. -/
def Energy.plus (a e : Energy) : Energy := { imp := a.imp + e.imp, exp := a.exp + e.exp, cimp := a.cimp + e.cimp, cexp := a.cexp + e.cexp }

theorem closeBlock_gap (p block : Nat) (x : SX) :
    (closeBlock p false block x).s.head = updN x.s.head p Head.gap ∧ (closeBlock p false block x).s.reg.port = x.s.reg.port := by
  unfold closeBlock SX.mod
  dsimp only
  simp only [Bool.false_and, Bool.false_eq_true, if_false]
  constructor
  · repeat' split
    all_goals simp only [creditCheck_head, latchStart, latchStop_head, gapBlock, sessGap_head]
    all_goals rfl
  · repeat' split
    all_goals simp only [creditCheck_reg, latchStart, latchStop_port, gapBlock, sessGap_reg]

theorem closeBlock_verified (p block : Nat) (x : SX) (hr : x.s.registers = true) :
    (closeBlock p true block x).s.head = updN x.s.head p (Head.verified block x.s.mc) ∧
      (closeBlock p true block x).s.reg.port = updN x.s.reg.port p (fun a => a.plus (atD x.s.head p {}).pend) := by
  have hport (e : Energy) (s : Sleeve) : (commitBlock p e s).reg.port = updN s.reg.port p (fun a => a.plus e) := by
    unfold commitBlock
    dsimp only
    repeat' split
    all_goals rfl
  unfold closeBlock SX.mod
  dsimp only
  simp only [hr, Bool.true_and, if_true]
  constructor
  · repeat' split
    all_goals simp only [creditCheck_head, latchStart, latchStop_head, commitBlock]
    all_goals rfl
  · repeat' split
    all_goals simp only [creditCheck_reg, latchStart, latchStop_port, hport]

theorem blockEnd_head (p block : Nat) (v : Bool) (x : SX) :
    (blockEnd p v block x).s.head = updN (closeBlock p v block x).s.head p newBlock := rfl

theorem blockEnd_reg (p block : Nat) (v : Bool) (x : SX) : (blockEnd p v block x).s.reg = (closeBlock p v block x).s.reg := rfl

/-- The head once its block has ended as a gap. -/
theorem blockEnd_gap (p : Fin 12) (block : Nat) (x : SX) :
    (blockEnd p false block x).s.head[p] = newBlock (x.s.head[p]).gap ∧ (blockEnd p false block x).s.reg.port[p] = x.s.reg.port[p] := by
  obtain ⟨h1, h2⟩ := closeBlock_gap p block x
  constructor
  · have hh : (blockEnd p false block x).s.head = updN (updN x.s.head p Head.gap) p newBlock := by rw [blockEnd_head, h1]
    refine (congrArg (fun v : Vector Head 12 => v[p]) hh).trans ((updN_same _ _ _ p.isLt).trans ?_)
    exact congrArg newBlock (updN_same _ _ _ p.isLt)
  · exact congrArg (fun v : Vector Energy 12 => v[p]) h2

theorem blockEnd_verified (p : Fin 12) (block : Nat) (x : SX) (hr : x.s.registers = true) :
    (blockEnd p true block x).s.head[p] = newBlock ((x.s.head[p]).verified block x.s.mc) ∧
      (blockEnd p true block x).s.reg.port[p] = (x.s.reg.port[p]).plus (x.s.head[p]).pend := by
  obtain ⟨h1, h2⟩ := closeBlock_verified p block x hr
  constructor
  · have hh : (blockEnd p true block x).s.head = updN (updN x.s.head p (Head.verified block x.s.mc)) p newBlock := by rw [blockEnd_head, h1]
    refine (congrArg (fun v : Vector Head 12 => v[p]) hh).trans ((updN_same _ _ _ p.isLt).trans ?_)
    exact congrArg newBlock (updN_same _ _ _ p.isLt)
  · refine (congrArg (fun v : Vector Energy 12 => v[p]) h2).trans ((updN_same _ _ _ p.isLt).trans ?_)
    rw [atD_val]
    rfl

/-! ### A head in ERROR -/

theorem headError_keeps {β : Type} {view : Head → β} (h : ∀ (x : Head) a b, view { x with st := a, okRun := b } = view x) (p : Fin 12) (x : SX) :
    view (headError p x).s.head[p] = view x.s.head[p] := by
  have hset : view (updN x.s.head p (fun h => { h with st := .error, okRun := 0 }))[p] = view x.s.head[p] :=
    (congrArg view (updN_same _ _ _ p.isLt)).trans (h ..)
  unfold headError
  split
  · dsimp only
    split
    · split
      · exact (congrArg (fun v : Vector Head 12 => view v[p]) (setNotice_head p _)).trans hset
      · exact hset
    · exact hset
  · rfl

theorem headError_of_ok {p : Fin 12} {x : SX} (h : x.s.head[p].st = .ok) :
    (headError p x).s.head[p].st = .error ∧ Ev.headError ∈ (headError p x).evs := by
  have hset : (updN x.s.head p (fun h => { h with st := .error, okRun := 0 }))[p].st = .error :=
    congrArg Head.st (updN_same _ _ _ p.isLt)
  have hmem : Ev.headError ∈ x.evs ++ [Ev.headError] := List.mem_append_right _ (List.mem_singleton_self _)
  unfold headError
  rw [atD_val, if_pos h]
  dsimp only
  split
  · split
    · exact ⟨(congrArg (fun v : Vector Head 12 => v[p].st) (setNotice_head p _)).trans hset, hmem⟩
    · exact ⟨hset, hmem⟩
  · exact ⟨hset, hmem⟩

/-! ### The commands -/

/-- What a good sample frame, not of the next block, leaves of the head. -/
theorem headSample_good {p : Fin 12} {q : Pairing} {bs : List Byte} {x : SX} (hpow : x.s.powered = true) (hq : x.s.paired p = some q)
    (hlen : bs.length = 12) (hty : leAt bs 0 1 = 0xA5) (hcrc : leAt bs 10 2 = crc16 (bs.take 10))
    (hc : x.s.head[p].count ≤ leAt bs 1 1) :
    (headSample p bs x).s.head[p].count = leAt bs 1 1 + 1 ∧ (headSample p bs x).s.head[p].bytes = bs.take 10 :: x.s.head[p].bytes ∧
      (headSample p bs x).s.head[p].bad = (x.s.head[p].bad || decide (leAt bs 1 1 ≠ x.s.head[p].count)) ∧
      (headSample p bs x).s.head[p].pend = addSample q.iN (((atD x.s.lp.heads p none).map (·.rLoss)).getD 0)
        (headV q (leAtI bs 2 3) (leAtI bs 9 1)) (headI q (leAtI bs 5 3) (leAtI bs 9 1)) x.s.head[p].pend := by
  have hnot : ¬ ((!x.s.powered) = true ∨ bs.length ≠ 12 ∨ leAt bs 0 1 ≠ 0xA5) := by
    rw [hpow]
    simp [hlen, hty]
  have hgood : decide (crc16 (bs.take 10) = leAt bs 10 2) = true := decide_eq_true hcrc.symm
  have hnext : decide (leAt bs 1 1 < (atD x.s.head p {}).count) = false := by
    rw [atD_val]
    exact decide_eq_false (Nat.not_lt.2 hc)
  obtain ⟨f, hf, h1, h2, h3, h4⟩ : ∃ f : Head → Head, headSample p bs x =
      (if bitOf 2 (leAt bs 8 1) then headError p (x.mod (fun s => { s with head := updN s.head p f }))
        else x.mod (fun s => { s with head := updN s.head p f })) ∧
      (f x.s.head[p]).count = leAt bs 1 1 + 1 ∧ (f x.s.head[p]).bytes = bs.take 10 :: x.s.head[p].bytes ∧
      (f x.s.head[p]).bad = (x.s.head[p].bad || decide (leAt bs 1 1 ≠ x.s.head[p].count)) ∧
      (f x.s.head[p]).pend = addSample q.iN (((atD x.s.lp.heads p none).map (·.rLoss)).getD 0)
        (headV q (leAtI bs 2 3) (leAtI bs 9 1)) (headI q (leAtI bs 5 3) (leAtI bs 9 1)) x.s.head[p].pend := by
    unfold headSample
    rw [if_neg hnot, hq]
    dsimp only
    simp only [hgood, hnext, Bool.true_and, Bool.not_true, Bool.false_eq_true, if_false]
    exact ⟨_, rfl, rfl, rfl, rfl, rfl⟩
  have hself : (x.mod (fun s => { s with head := updN s.head p f })).s.head[p] = f x.s.head[p] := updN_same _ _ _ p.isLt
  have hview {β : Type} (view : Head → β) (h : ∀ (x : Head) a b, view { x with st := a, okRun := b } = view x) :
      view (headSample p bs x).s.head[p] = view (f x.s.head[p]) := by
    rw [hf]
    split
    · exact (headError_keeps h p _).trans (congrArg view hself)
    · exact congrArg view hself
  exact ⟨(hview Head.count fun _ _ _ => rfl).trans h1, (hview Head.bytes fun _ _ _ => rfl).trans h2,
    (hview Head.bad fun _ _ _ => rfl).trans h3, (hview Head.pend fun _ _ _ => rfl).trans h4⟩

section
variable {p : Fin 12} {q : Pairing} {bs : List Byte} {x : SX} (hpow : x.s.powered = true) (hq : x.s.paired p = some q)
  (hlen : bs.length = 24) (hty : leAt bs 0 1 = 0x5B)
include hpow hq hlen hty

/-- A block that is whole, newer than the last one, and whose tag matches is registered. -/
theorem headAuth_registers (hcount : x.s.head[p].count = 256) (hbad : x.s.head[p].bad = false)
    (hnew : ∀ l, x.s.head[p].lastBlock = some l → l < leAt bs 2 6)
    (htag : bs.drop 8 = tag16 q.key (((bs.drop 2).take 6) ++ x.s.head[p].bytes.reverse.flatten)) :
    headAuth p bs x =
      blockEnd p true (leAt bs 2 6) (x.mod (fun s => { s with head := updN s.head p (fun h => { h with mismatch := false }) })) := by
  have hnot : ¬ ((!x.s.powered) = true ∨ bs.length ≠ 24 ∨ leAt bs 0 1 ≠ 0x5B) := by
    rw [hpow]
    simp [hlen, hty]
  have hh : atD x.s.head p {} = x.s.head[p] := atD_val _ _ _
  unfold headAuth
  rw [if_neg hnot, hq]
  dsimp only
  rw [hh, hbad, hcount]
  simp only [htag, decide_true, Bool.not_true, Bool.not_false, Bool.true_and, beq_self_eq_true, if_true, Bool.and_true]
  split
  · next l hl => rw [decide_eq_true (hnew l hl), if_neg Bool.false_ne_true]
  · rw [if_neg Bool.false_ne_true]

/-- A block with a sample missing is a gap. -/
theorem headAuth_gap (hbad : x.s.head[p].bad = true) : headAuth p bs x = blockEnd p false (leAt bs 2 6) x := by
  have hnot : ¬ ((!x.s.powered) = true ∨ bs.length ≠ 24 ∨ leAt bs 0 1 ≠ 0x5B) := by
    rw [hpow]
    simp [hlen, hty]
  have hh : atD x.s.head p {} = x.s.head[p] := atD_val _ _ _
  unfold headAuth
  rw [if_neg hnot, hq]
  dsimp only
  rw [hh, hbad]
  simp only [Bool.not_true, Bool.false_and, Bool.false_eq_true, if_false]

end

/-- The entry of a head in the legal parameters, once a head with the data `d` has been paired (R232). -/
def HeadData.enter (d : HeadData) (o : Option HeadParam) : Option HeadParam :=
  match o with
  | some h => if h.serial = d.serial then some { h with iN := d.iN } else some h
  | none => some { serial := d.serial, iN := d.iN }

/-- The Sleeve with the data of a head and its link key stored. -/
def Sleeve.storePairing (p : Nat) (d : HeadData) (key : Nat) (v : Sleeve) : Sleeve :=
  { v with
    legalNew := true, legal := v.legal.map (fun l => { l with heads := updN l.heads p d.enter }),
    head := updN v.head p (fun h => { newBlock h with
      pair := some { serial := d.serial, iN := d.iN, vRated := d.vRated, cal := d.cal, key := key }, st := .ok, mismatch := false,
      lastBlock := none, okRun := 0, lastVer := v.mc }) }

theorem headPair_stores {p : Fin 12} {d : HeadData} {key : Nat} {x : SX} (hpow : x.s.powered = true) (hst : x.s.st = .service)
    (hp : ((x.s.storePairing p d key).paired p).isSome = true) : headPair p d key x = x.mod (Sleeve.storePairing p d key) := by
  have hnot : ¬ ((!x.s.powered) = true ∨ x.s.st ≠ .service ∨ 12 ≤ p.val) := by
    rw [hpow, hst]
    simp
  obtain ⟨q, hq⟩ := Option.isSome_iff_exists.1 hp
  have hq' : (x.mod (Sleeve.storePairing p d key)).s.paired p = some q := hq
  unfold headPair
  rw [if_neg hnot]
  exact (congrArg (fun o : Option Pairing => match o with
    | some _ => x.mod (Sleeve.storePairing p d key)
    | none => headError p (x.mod (Sleeve.storePairing p d key))) hq')

/-- Pairing a head in SERVICE that the legal parameters do not name (R232). -/
theorem headPair_pairs {p : Fin 12} {d : HeadData} {key : Nat} {x : SX} (hpow : x.s.powered = true) (hst : x.s.st = .service)
    (hl : atD x.s.lp.heads p none = none) :
    ∃ v, (headPair p d key x).s = v ∧ v.head[p].st = .ok ∧ v.head[p].lastBlock = none ∧
        v.head[p].pair = some { serial := d.serial, iN := d.iN, vRated := d.vRated, cal := d.cal, key := key } ∧
        (∀ l, x.s.legal.isSome = true → v.legal = some l → l.heads[p] = some { serial := d.serial, iN := d.iN }) := by
  obtain ⟨v, hv⟩ : ∃ v, x.s.storePairing p d key = v := ⟨_, rfl⟩
  have hhead : v.head[p] = { newBlock x.s.head[p] with
      pair := some { serial := d.serial, iN := d.iN, vRated := d.vRated, cal := d.cal, key := key }, st := .ok, mismatch := false,
      lastBlock := none, okRun := 0, lastVer := x.s.mc } := by
    rw [← hv]
    exact updN_same _ _ _ p.isLt
  have hlegal : (x.s.legal = none ∧ v.legal = none) ∨
      ∃ l, v.legal = some l ∧ l.heads[p] = some { serial := d.serial, iN := d.iN } := by
    rw [← hv]
    cases h : x.s.legal with
    | none => exact .inl ⟨rfl, by simp [Sleeve.storePairing, h]⟩
    | some l =>
      have hnone : l.heads[p] = none := by
        have h' : atD l.heads p none = none := by
          rw [show x.s.lp = l by unfold Sleeve.lp; rw [h]; rfl] at hl
          exact hl
        rwa [atD_val] at h'
      refine .inr ⟨{ l with heads := updN l.heads p d.enter }, by simp [Sleeve.storePairing, h], ?_⟩
      refine (updN_same l.heads p d.enter p.isLt).trans ?_
      rw [show l.heads[p.val] = none from hnone]
      rfl
  have hpair : (v.paired p).isSome = true := by
    have hh : atD v.head p {} = v.head[p] := atD_val _ _ _
    unfold Sleeve.paired
    rw [hh, hhead]
    dsimp only
    rcases hlegal with ⟨-, hn⟩ | ⟨l, hn, hs⟩
    · have hlp : v.lp = {} := by unfold Sleeve.lp; rw [hn]; rfl
      have hnone : atD v.lp.heads p none = none := by rw [hlp, atD_val]; exact Vector.getElem_replicate p.isLt
      rw [hnone]
      rfl
    · have hlp : v.lp = l := by unfold Sleeve.lp; rw [hn]; rfl
      have hsome : atD v.lp.heads p none = some { serial := d.serial, iN := d.iN } := by rw [hlp, atD_val]; exact hs
      rw [hsome]
      simp
  refine ⟨v, ?_, by rw [hhead], by rw [hhead], by rw [hhead], fun l hsome hl => ?_⟩
  · rw [headPair_stores hpow hst (by rw [hv]; exact hpair), ← hv]
    rfl
  · rcases hlegal with ⟨hn, -⟩ | ⟨l', hl', hs⟩
    · rw [hn] at hsome
      cases hsome
    · rw [hl] at hl'
      cases hl'
      exact hs

theorem mirrorSend_fseq (q : List (Nat × List Byte)) (v : Sleeve) : (mirrorSend q v).2.fseq = v.fseq := by
  unfold mirrorSend
  dsimp only
  split <;> rfl

/-- The Sleeve sends its sample frame first, and counts it. -/
theorem sampleSend_frames (free : Nat → Nat) {v : Sleeve} (hpow : v.powered = true) :
    ∃ fs w, sampleSend free v = (sampleFrame free v :: fs, w) ∧ w.fseq = (v.fseq + 1) % 256 := by
  obtain ⟨f, hf⟩ : ∃ f, sampleFrame free v = f := ⟨_, rfl⟩
  obtain ⟨u, hu, hfseq⟩ : ∃ u : Sleeve, ({ v with fseq := (v.fseq + 1) % 256, head := v.head.map (fun h => { h with fwd := none }) } : Sleeve) = u ∧
      u.fseq = (v.fseq + 1) % 256 := ⟨_, rfl, rfl⟩
  unfold sampleSend
  rw [if_neg (by rw [hpow]; exact Bool.false_ne_true), hf]
  dsimp only
  rw [hu]
  refine ⟨_, _, rfl, ?_⟩
  dsimp only
  split
  · exact (mirrorSend_fseq _ _).trans ((mirrorSend_fseq _ _).trans hfseq)
  · exact (mirrorSend_fseq _ _).trans hfseq

section
variable {s : State} (hs : s.slvOn = true)
include hs

theorem sleeveSampleSend_sends :
    ∃ t, exec .sleeveSampleSend s = .next t ∧ t.slv.fseq = (s.slv.fseq + 1) % 256 ∧
      Sends (.slvFrame (sampleFrame (fun i => Config.freeValue (s.fresh + i)) s.slv)) s t := by
  obtain ⟨fs, v, hsend, hv⟩ := sampleSend_frames (fun i => Config.freeValue (s.fresh + i)) (Sleeve.powered_of_slvOn hs)
  refine ⟨_, congrArg Host.Outcome.next (State.onlyIf_of hs _ s), ?_⟩
  unfold State.sendSample
  rw [hsend]
  exact ⟨hv, _, rfl, List.mem_map_of_mem (List.mem_cons_self ..)⟩

section
variable {p : Fin 12} (hp : s.hasPort p = true)
include hp

section
variable {q : Pairing} (hq : s.slv.paired p = some q)
include hq

theorem headSampleFrame_adds (bs : List Byte) (hlen : bs.length = 12) (hty : leAt bs 0 1 = 0xA5)
    (hcrc : leAt bs 10 2 = crc16 (bs.take 10)) (hc : s.slv.head[p].count ≤ leAt bs 1 1) :
    ∃ t, exec (.headSampleFrame p bs) s = .next t ∧ t.slv.head[p].count = leAt bs 1 1 + 1 ∧
          t.slv.head[p].bytes = bs.take 10 :: s.slv.head[p].bytes ∧
          t.slv.head[p].bad = (s.slv.head[p].bad || decide (leAt bs 1 1 ≠ s.slv.head[p].count)) ∧
          t.slv.head[p].pend = addSample q.iN (((atD s.slv.lp.heads p none).map (·.rLoss)).getD 0) (headV q (leAtI bs 2 3) (leAtI bs 9 1))
            (headI q (leAtI bs 5 3) (leAtI bs 9 1)) s.slv.head[p].pend := by
  obtain ⟨t, ht, hg, -⟩ := State.onHead_exec hs hp (headSample p bs)
  refine ⟨t, ht, ?_⟩
  rw [hg]
  exact headSample_good (x := { s := s.slv }) (Sleeve.powered_of_slvOn hs) hq hlen hty hcrc hc

theorem headAuthFrame_registers (bs : List Byte) (hlen : bs.length = 24) (hty : leAt bs 0 1 = 0x5B) (hcount : s.slv.head[p].count = 256)
    (hbad : s.slv.head[p].bad = false) (hnew : ∀ l, s.slv.head[p].lastBlock = some l → l < leAt bs 2 6) (hr : s.slv.registers = true)
    (htag : bs.drop 8 = tag16 q.key (((bs.drop 2).take 6) ++ s.slv.head[p].bytes.reverse.flatten)) :
    ∃ t, exec (.headAuthFrame p bs) s = .next t ∧ t.slv.head[p].lastBlock = some (leAt bs 2 6) ∧ t.slv.head[p].count = 0 ∧
          t.slv.head[p].mismatch = false ∧ t.slv.reg.port[p].imp = s.slv.reg.port[p].imp + s.slv.head[p].pend.imp ∧
          t.slv.reg.port[p].exp = s.slv.reg.port[p].exp + s.slv.head[p].pend.exp := by
  obtain ⟨t, ht, hg, -⟩ := State.onHead_exec hs hp (headAuth p bs)
  refine ⟨t, ht, ?_⟩
  rw [hg, headAuth_registers (x := { s := s.slv }) (Sleeve.powered_of_slvOn hs) hq hlen hty hcount hbad hnew htag]
  obtain ⟨x, hx⟩ : ∃ x : SX, SX.mod { s := s.slv } (fun v => { v with head := updN v.head p (fun h => { h with mismatch := false }) }) = x :=
    ⟨_, rfl⟩
  have hhead : x.s.head[p] = { s.slv.head[p] with mismatch := false } := by
    rw [← hx]
    exact updN_same _ _ _ p.isLt
  have hreg : x.s.reg = s.slv.reg := by rw [← hx]; rfl
  obtain ⟨h1, h2⟩ := blockEnd_verified p (leAt bs 2 6) x (by rw [← hx]; exact hr)
  rw [hx, h1, h2, hhead, hreg]
  exact ⟨rfl, rfl, rfl, rfl, rfl⟩

theorem headAuthFrame_gap (bs : List Byte) (hlen : bs.length = 24) (hty : leAt bs 0 1 = 0x5B) (hbad : s.slv.head[p].bad = true) :
    ∃ t, exec (.headAuthFrame p bs) s = .next t ∧
        t.slv.head[p].gaps = satInc 8 s.slv.head[p].gaps ∧ t.slv.head[p].count = 0 ∧ t.slv.reg.port[p] = s.slv.reg.port[p] := by
  obtain ⟨t, ht, hg, -⟩ := State.onHead_exec hs hp (headAuth p bs)
  refine ⟨t, ht, ?_⟩
  obtain ⟨h1, h2⟩ := blockEnd_gap p (leAt bs 2 6) { s := s.slv }
  rw [hg, headAuth_gap (x := { s := s.slv }) (Sleeve.powered_of_slvOn hs) hq hlen hty hbad, h1, h2]
  exact ⟨rfl, rfl, rfl⟩

end

theorem headErrorTimeout_errs (hst : s.slv.head[p].st = .ok) (ht : s.slv.head[p].lastVer + 250000 ≤ s.slv.mc) :
    ∃ t, exec (.headErrorTimeout p) s = .next t ∧ t.slv.head[p].st = .error ∧ (s.up = true → t.told .headError) := by
  have hf : headTimeout p { s := s.slv } = headError p { s := s.slv } := by
    have hh : atD s.slv.head p {} = s.slv.head[p] := atD_val _ _ _
    unfold headTimeout
    dsimp only
    rw [hh]
    exact if_pos ⟨Sleeve.powered_of_slvOn hs, hst, ht⟩
  obtain ⟨t, hexec, hg, htold⟩ := State.onHead_exec hs hp (headTimeout p)
  obtain ⟨h1, h2⟩ := headError_of_ok (x := { s := s.slv }) hst
  rw [hf] at hg htold
  exact ⟨t, hexec, by rw [hg]; exact h1, htold _ h2⟩

theorem headPairing_pairs (d : HeadData) (hst : s.slv.st = .service) (hl : atD s.slv.lp.heads p none = none) :
    let key := Config.freeValue s.fresh % 2 ^ 256
    ∃ t, exec (.headPairing p d) s = .next t ∧ t.slv.head[p].st = .ok ∧ t.slv.head[p].lastBlock = none ∧
        t.slv.head[p].pair = some { serial := d.serial, iN := d.iN, vRated := d.vRated, cal := d.cal, key := key } ∧
        (∀ l, s.slv.legal.isSome = true → t.slv.legal = some l → l.heads[p] = some { serial := d.serial, iN := d.iN }) ∧
        Sends (.headKey p key) s t := by
  intro key
  obtain ⟨x, hx, h1, h2, h3, h4⟩ := headPair_pairs (x := { s := s.slv }) (d := d) (key := key) (Sleeve.powered_of_slvOn hs) hst hl
  have hcond : (s.hasPort p && s.slvOn && s.slv.st == .service) = true := by rw [hp, hs, hst]; rfl
  have hslv : (s.pairHead p d).slv = x := by
    unfold State.pairHead
    rw [State.emit_slv, State.slvDo_slv]
    exact hx
  refine ⟨_, congrArg Host.Outcome.next (State.onlyIf_of hcond _ s), ?_⟩
  rw [hslv]
  refine ⟨h1, h2, h3, h4, ?_⟩
  exact Sends.before (State.slvDo_moves (headPair p d key) s.free.2).sent (Sends.emit _ _)

end
end

/-- Settles O29: the forward link's sample, the frames of a head, its timeout and its pairing. -/
theorem sleeveHeadsMeasure : Obligations.SleeveHeadsMeasure := by
  unfold Obligations.SleeveHeadsMeasure
  intro s hs
  exact ⟨sleeveSampleSend_sends hs, fun p q hp hq => ⟨headSampleFrame_adds hs hp hq, headAuthFrame_registers hs hp hq,
    headAuthFrame_gap hs hp hq⟩, fun p hp => headErrorTimeout_errs hs hp, fun p d hp => headPairing_pairs hs hp d⟩

end Sys2Proof.Machine
end

section
/-! ## The Sleeve's time and its intake (O30: `SleeveIntakeMeasures`) -/

namespace Sys2Proof.Machine

/-! ### The instants of a stretch of kept time (R264) -/

theorem multiplesIn_le {p a b m : Int} (h : m ∈ multiplesIn p a b) : m ≤ b := by
  unfold multiplesIn at h
  split at h
  · cases h
  · next hp =>
    simp only [List.mem_map, bind_pure_comp, List.map_eq_map, List.mem_range] at h
    obtain ⟨-, ⟨k, hk, rfl⟩, rfl⟩ := h
    calc (a / p + 1 + k) * p ≤ b / p * p := Int.mul_le_mul_of_nonneg_right (by omega) (by omega)
      _ ≤ b := Int.ediv_mul_le b (by omega)

theorem getLast_insertBy_max (b : Nat) {l : List Nat} (h : ∀ y ∈ l, y ≤ b) : (insertBy id b l).getLast? = some b := by
  induction l with
  | nil => rfl
  | cons y ys ih =>
    have hy : ¬ b < y := Nat.not_lt.2 (h y (List.mem_cons_self ..))
    simp only [insertBy, id_eq, if_neg hy]
    rw [List.getLast?_cons, ih (fun z hz => h z (List.mem_cons_of_mem _ hz))]
    rfl

theorem getLast_insertBy_of {x b : Nat} (hx : x ≤ b) {l : List Nat} (h : l.getLast? = some b) : (insertBy id x l).getLast? = some b := by
  induction l with
  | nil => cases h
  | cons y ys ih =>
    simp only [insertBy, id_eq]
    split
    · rw [List.getLast?_cons, h]
      rfl
    · next hxy =>
      rw [List.getLast?_cons] at h ⊢
      cases hys : ys.getLast? with
      | none =>
        rw [List.getLast?_eq_none_iff] at hys
        subst hys
        have hyb : y = b := Option.some.inj h
        have : x = b := by omega
        rw [this]
        rfl
      | some z =>
        rw [hys] at h
        rw [ih (by rw [hys]; exact h)]
        rfl

/-- A sorted list that holds its bound ends with it. -/
theorem getLast_sortBy {b : Nat} {l : List Nat} (hl : ∀ y ∈ l, y ≤ b) (hb : b ∈ l) : (sortBy id l).getLast? = some b := by
  have main : ∀ (l acc : List Nat), (∀ y ∈ l, y ≤ b) → (∀ y ∈ acc, y ≤ b) → (b ∈ l ∨ acc.getLast? = some b) →
      (l.foldl (fun acc x => insertBy id x acc) acc).getLast? = some b := by
    intro l
    induction l with
    | nil => intro acc _ _ h; exact h.resolve_left List.not_mem_nil
    | cons x xs ih =>
      intro acc hl hacc h
      have hx := hl x (List.mem_cons_self ..)
      refine ih _ (fun y hy => hl y (List.mem_cons_of_mem _ hy)) (fun y hy => ?_) ?_
      · rcases (mem_insertBy _ _ _ _).1 hy with rfl | hy
        · exact hx
        · exact hacc y hy
      · rcases h with h | h
        · rcases List.mem_cons.1 h with rfl | h
          · exact .inr (getLast_insertBy_max b hacc)
          · exact .inl h
        · exact .inr (getLast_insertBy_of hx h)
  exact main l [] hl (fun y hy => by cases hy) (.inl hb)

theorem mem_addSet {α : Type} [DecidableEq α] {x y : α} {l : List α} : y ∈ addSet x l ↔ y = x ∨ y ∈ l := by
  unfold addSet
  split
  · next hx => exact ⟨.inr, fun h => h.elim (fun h => h ▸ hx) id⟩
  · simp only [List.mem_append, List.mem_singleton]
    exact or_comm

theorem mem_foldl_addSet {α : Type} [DecidableEq α] {y : α} (l acc : List α) :
    y ∈ l.foldl (fun acc m => addSet m acc) acc ↔ y ∈ l ∨ y ∈ acc := by
  induction l generalizing acc with
  | nil => simp
  | cons x xs ih =>
    rw [List.foldl_cons, ih, mem_addSet, List.mem_cons]
    tauto

theorem getLast_instants (v : Sleeve) (a d : Nat) : (instants v a (a + d)).getLast? = some (a + d) := by
  refine getLast_sortBy (fun y hy => ?_) ?_
  · rcases (mem_foldl_addSet _ _).1 hy with hy | hy
    · rcases List.mem_append.1 hy with hy | hy
      · obtain ⟨m, hm, rfl⟩ := List.mem_map.1 hy
        have := multiplesIn_le hm
        omega
      · have := (List.mem_filter.1 hy).2
        simp only [Bool.and_eq_true, decide_eq_true_eq] at this
        exact this.2
    · rcases mem_addSet.1 hy with rfl | hy
      · exact Nat.le_refl _
      · obtain ⟨m, hm, rfl⟩ := List.mem_map.1 hy
        have := multiplesIn_le hm
        omega
  · exact (mem_foldl_addSet _ _).2 (.inr (mem_addSet.2 (.inl rfl)))

/-! ### What kept time, blocks and commands leave of the Sleeve -/

/-- The Sleeve without what its time, its blocks and its commands change: registers, clock, tables, sessions, gates, records, and the counts
of refused commands. -/
def Sleeve.base (v : Sleeve) : Sleeve :=
  { v with
    reg := {}, utc := 0, mc := 0, off := 0, corr := [], clkV := false, clkLast := 0, act := none, pas := none, asm := none, tariff := 0,
    deflt := false, head := Vector.replicate 12 {}, sess := Vector.replicate 12 none, gate := Vector.replicate 12 {},
    closing := Vector.replicate 12 [], lastClosed := Vector.replicate 12 [], recSeq := 0, leaf := 0, leafTop := 0, recs := [], outq := [],
    chAuth := 0, chReplay := 0, chOther := 0 }

/-- Kept time and the legal clock, with its offset. -/
def Sleeve.clock (v : Sleeve) : Nat × Nat × Bool × Int := (v.mc, v.utc, v.clkV, v.off)

theorem Sleeve.base_eq_powered {v w : Sleeve} (h : v.base = w.base) : v.powered = w.powered := congrArg (a₁ := v.base) (a₂ := w.base) Sleeve.powered h
theorem Sleeve.base_eq_st {v w : Sleeve} (h : v.base = w.base) : v.st = w.st := congrArg (a₁ := v.base) (a₂ := w.base) Sleeve.st h
theorem Sleeve.base_eq_stopped {v w : Sleeve} (h : v.base = w.base) : v.stopped = w.stopped := congrArg (a₁ := v.base) (a₂ := w.base) Sleeve.stopped h
theorem Sleeve.base_eq_legal {v w : Sleeve} (h : v.base = w.base) : v.legal = w.legal := congrArg (a₁ := v.base) (a₂ := w.base) Sleeve.legal h
theorem Sleeve.base_eq_cmdq {v w : Sleeve} (h : v.base = w.base) : v.cmdq = w.cmdq := congrArg (a₁ := v.base) (a₂ := w.base) Sleeve.cmdq h

theorem demComplete_base (d : DemInt) (v : Sleeve) : (demComplete d v).base = v.base ∧ (demComplete d v).clock = v.clock := by
  unfold demComplete
  dsimp only
  split <;> exact ⟨rfl, rfl⟩

theorem endDemand_base (b : Bool) (v : Sleeve) : (endDemand b v).base = v.base ∧ (endDemand b v).clock = v.clock := by
  unfold endDemand
  dsimp only
  split
  · split
    · exact demComplete_base _ _
    · exact ⟨rfl, rfl⟩
  · exact demComplete_base _ v

theorem settle_base (v : Sleeve) : (settle v).base = v.base ∧ (settle v).clock = v.clock := by
  have hper : (settlePeriods v).base = v.base ∧ (settlePeriods v).clock = v.clock := by
    unfold settlePeriods
    exact List.foldlRecOn (motive := fun t : Sleeve => t.base = v.base ∧ t.clock = v.clock) _ _ ⟨rfl, rfl⟩
      (fun t h m _ => by split <;> exact h)
  have htab : ∀ w : Sleeve, (settleTable w).base = w.base ∧ (settleTable w).clock = w.clock := by
    intro w
    unfold settleTable
    repeat' split
    all_goals exact ⟨rfl, rfl⟩
  have htar : ∀ w : Sleeve, (settleTariff w).base = w.base ∧ (settleTariff w).clock = w.clock := by
    intro w
    unfold settleTariff
    split <;> exact ⟨rfl, rfl⟩
  have hlat : ∀ w : Sleeve, (settleLatest w).base = w.base ∧ (settleLatest w).clock = w.clock := fun _ => ⟨rfl, rfl⟩
  unfold settle
  rw [(hlat _).1, (htar _).1, (htab _).1, (hlat _).2, (htar _).2, (htab _).2]
  exact hper

theorem atInstant_base (b m : Nat) (v : Sleeve) : (atInstant b m v).base = v.base ∧ (atInstant b m v).clock = (m, b, v.clkV, v.off) := by
  unfold atInstant
  dsimp only
  split
  · exact ⟨(settle_base _).1.trans (endDemand_base _ _).1, (settle_base _).2.trans (endDemand_base _ _).2⟩
  · exact settle_base _

/-- The boundaries of one instant of legal time, as `passTime` goes through it. -/
def passInstant (gap pf : Bool) (a m : Nat) (s : Sleeve) (b : Nat) : Sleeve :=
  let before : Sleeve := { s with utc := b - 1 }
  let s := if gap && !before.frozen then { s with tariff := (tariffNow before).1 } else s
  let s := atInstant b (m + (b - a)) s
  if pf then { s with reg := { s.reg with dem := { s.reg.dem with pf := true } } } else s

theorem passInstant_base (gap pf : Bool) (a m : Nat) (v : Sleeve) (b : Nat) :
    (passInstant gap pf a m v b).base = v.base ∧ (passInstant gap pf a m v b).clock = (m + (b - a), b, v.clkV, v.off) := by
  obtain ⟨w, hw, hbase, hclk, hoff⟩ : ∃ w : Sleeve, (if gap && !({ v with utc := b - 1 } : Sleeve).frozen
      then { v with tariff := (tariffNow { v with utc := b - 1 }).1 } else v) = w ∧ w.base = v.base ∧ w.clkV = v.clkV ∧ w.off = v.off := by
    split <;> exact ⟨_, rfl, rfl, rfl, rfl⟩
  obtain ⟨hb, hc⟩ := atInstant_base b (m + (b - a)) w
  unfold passInstant
  dsimp only
  rw [hw, ← hclk, ← hoff, ← hbase, ← hb, ← hc]
  generalize atInstant b (m + (b - a)) w = x
  split <;> exact ⟨rfl, rfl⟩

theorem foldl_passInstant_base (gap pf : Bool) (a m : Nat) (l : List Nat) (v : Sleeve) :
    (l.foldl (passInstant gap pf a m) v).base = v.base ∧ (l.foldl (passInstant gap pf a m) v).clock =
      match l.getLast? with
      | some b => (m + (b - a), b, v.clkV, v.off)
      | none => v.clock := by
  induction l using List.reverseRecOn with
  | nil => exact ⟨rfl, rfl⟩
  | append_singleton l b ih =>
    obtain ⟨ihb, ihc⟩ := ih
    obtain ⟨hb, hc⟩ := passInstant_base gap pf a m (l.foldl (passInstant gap pf a m) v) b
    have hpart : (l.foldl (passInstant gap pf a m) v).clkV = v.clkV ∧ (l.foldl (passInstant gap pf a m) v).off = v.off := by
      generalize l.foldl (passInstant gap pf a m) v = w at ihc
      split at ihc <;> exact ⟨congrArg (fun c => c.2.2.1) ihc, congrArg (fun c => c.2.2.2) ihc⟩
    rw [List.foldl_append, List.foldl_cons, List.foldl_nil, List.getLast?_append]
    refine ⟨hb.trans ihb, hc.trans ?_⟩
    rw [hpart.1, hpart.2]
    rfl

theorem passTime_of_clkV {gap pf : Bool} {d : Nat} {v : Sleeve} (h : v.clkV = true) :
    passTime gap pf d v = (instants v v.utc (v.utc + d)).foldl (passInstant gap pf v.utc v.mc) v := by
  unfold passTime passInstant
  rw [if_pos h]

/-- The interval ends of a stretch of kept time without a clock leave the rest as it was. -/
theorem demandEnds_base (l : List Int) (v : Sleeve) :
    (l.foldl (fun s b => endDemand false { s with mc := b.toNat }) v).base = v.base ∧
      (l.foldl (fun s b => endDemand false { s with mc := b.toNat }) v).clock.2 = v.clock.2 := by
  refine List.foldlRecOn (motive := fun t : Sleeve => t.base = v.base ∧ t.clock.2 = v.clock.2) _ _ ⟨rfl, rfl⟩ (fun t h b _ => ?_)
  obtain ⟨hb, hc⟩ := endDemand_base false ({ t with mc := b.toNat } : Sleeve)
  exact ⟨hb.trans h.1, (congrArg Prod.snd hc).trans h.2⟩

theorem foldl_passInstant_to (gap pf : Bool) (a m d : Nat) {l : List Nat} (hl : l.getLast? = some (a + d)) (v : Sleeve) :
    (l.foldl (passInstant gap pf a m) v).base = v.base ∧ (l.foldl (passInstant gap pf a m) v).clock = (m + d, a + d, v.clkV, v.off) := by
  obtain ⟨hb, hc⟩ := foldl_passInstant_base gap pf a m l v
  rw [hl] at hc
  refine ⟨hb, hc.trans ?_⟩
  dsimp only
  rw [Nat.add_sub_cancel_left]

theorem passTime_base_of_clkV {gap pf : Bool} {d : Nat} {v : Sleeve} (h : v.clkV = true) :
    (passTime gap pf d v).base = v.base ∧ (passTime gap pf d v).clock = (v.mc + d, v.utc + d, v.clkV, v.off) := by
  obtain ⟨hb, hc⟩ := foldl_passInstant_to gap pf v.utc v.mc d (getLast_instants v v.utc d) v
  rw [passTime_of_clkV h]
  exact ⟨hb, hc⟩

/-- What a stretch of kept time without a clock ends with: the default tariff, and a table that activates at once. -/
def Sleeve.unclocked (m : Nat) (s : Sleeve) : Sleeve :=
  let s := { s with mc := m, tariff := s.lp.defTariff, deflt := true }
  match s.pas with
  | some t => if t.activate = 0 then { s with act := some t, pas := none } else s
  | none => s

theorem Sleeve.unclocked_base (m : Nat) (v : Sleeve) : (v.unclocked m).base = v.base ∧ (v.unclocked m).clock = (m, v.clock.2) := by
  unfold Sleeve.unclocked
  dsimp only
  split
  · split <;> exact ⟨rfl, rfl⟩
  · exact ⟨rfl, rfl⟩

/-- The branch of `passTime` without a clock, for any length `n` of an interval (a numeral there would be counted down). -/
theorem unclocked_eq (n d : Nat) (v : Sleeve) :
    (let m := v.mc
     let s := (multiplesIn n m (m + d)).foldl (fun s b => endDemand false { s with mc := b.toNat }) v
     let s := { s with mc := m + d, tariff := s.lp.defTariff, deflt := true }
     match s.pas with
     | some t => if t.activate = 0 then { s with act := some t, pas := none } else s
     | none => s) =
      ((multiplesIn n v.mc (v.mc + d)).foldl (fun s b => endDemand false { s with mc := b.toNat }) v).unclocked (v.mc + d) := rfl

theorem passTime_of_not_clkV {gap pf : Bool} {d : Nat} {v : Sleeve} (h : v.clkV ≠ true) :
    passTime gap pf d v =
      ((multiplesIn (demStep v) v.mc (v.mc + d)).foldl (fun s b => endDemand false { s with mc := b.toNat }) v).unclocked (v.mc + d) := by
  unfold passTime
  rw [if_neg h]
  exact unclocked_eq (demStep v) d v

theorem passTime_base_of_not_clkV {gap pf : Bool} {d : Nat} {v : Sleeve} (h : v.clkV ≠ true) :
    (passTime gap pf d v).base = v.base ∧ (passTime gap pf d v).clock = (v.mc + d, v.clock.2) := by
  rw [passTime_of_not_clkV h]
  obtain ⟨hb, hc⟩ := demandEnds_base (multiplesIn (demStep v) v.mc (v.mc + d)) v
  obtain ⟨ub, uc⟩ := Sleeve.unclocked_base (v.mc + d) ((multiplesIn (demStep v) v.mc (v.mc + d)).foldl
    (fun s b => endDemand false { s with mc := b.toNat }) v)
  exact ⟨ub.trans hb, uc.trans (congrArg (Prod.mk (v.mc + d)) hc)⟩

/-- Kept time goes on by `d` µs, and a valid clock with it (R225, R264). -/
theorem passTime_base (gap pf : Bool) (d : Nat) (v : Sleeve) :
    (passTime gap pf d v).base = v.base ∧
      (passTime gap pf d v).clock = (v.mc + d, if v.clkV then v.utc + d else v.utc, v.clkV, v.off) := by
  by_cases h : v.clkV = true
  · rw [if_pos h]
    exact passTime_base_of_clkV h
  · rw [if_neg h]
    exact passTime_base_of_not_clkV h

/-! ### The blocks and the commands of a sample -/

theorem creditCheck_base (p : Nat) (verified low : Bool) (blk : Rat) (v : Sleeve) :
    (creditCheck p verified low blk v).base = v.base ∧ (creditCheck p verified low blk v).clock = v.clock := by
  have hn : ∀ u : Sleeve, (setNotice p u).base = u.base ∧ (setNotice p u).clock = u.clock := by
    intro u
    unfold setNotice
    dsimp only
    split <;> exact ⟨rfl, rfl⟩
  have ho : ∀ u : Sleeve, (openGate p u).base = u.base ∧ (openGate p u).clock = u.clock := by
    intro u
    unfold openGate
    dsimp only
    split <;> exact ⟨rfl, rfl⟩
  unfold creditCheck
  dsimp only
  repeat' split
  all_goals simp only [hn, ho, and_self]

theorem formRecord_base (p : Nat) (x : Sess) (en : SessEnergy) (a b : Nat) (v : Sleeve) :
    (formRecord p x en a b v).base = v.base ∧ (formRecord p x en a b v).clock = v.clock := ⟨rfl, rfl⟩

theorem latchStop_base (p : Nat) (v : Sleeve) : (latchStop p v).base = v.base ∧ (latchStop p v).clock = v.clock := by
  unfold latchStop
  dsimp only
  split
  · exact ⟨rfl, rfl⟩
  · exact List.foldlRecOn (motive := fun t : Sleeve => t.base = v.base ∧ t.clock = v.clock) _ _ ⟨rfl, rfl⟩ (fun _ h _ _ => h)

theorem sessGap_base (p n : Nat) (v : Sleeve) : (sessGap p n v).base = v.base ∧ (sessGap p n v).clock = v.clock := by
  unfold sessGap
  dsimp only
  split <;> exact ⟨rfl, rfl⟩

theorem closeBlock_base (p : Nat) (verified : Bool) (block : Nat) (x : SX) :
    (closeBlock p verified block x).s.base = x.s.base ∧ (closeBlock p verified block x).s.clock = x.s.clock := by
  obtain ⟨w, hw, hb, hc⟩ : ∃ w, (if verified && x.s.registers then commitBlock p (atD x.s.head p {}).pend x.s
      else if verified then x.s else gapBlock p x.s) = w ∧ w.base = x.s.base ∧ w.clock = x.s.clock := by
    refine ⟨_, rfl, ?_⟩
    split
    · exact ⟨rfl, rfl⟩
    · split
      · exact ⟨rfl, rfl⟩
      · exact sessGap_base p 1 _
  have hcheck : ∀ (low : Bool) (e : Rat) (u : Sleeve), u.base = w.base → u.clock = w.clock →
      (creditCheck p verified low e (latchStart p (latchStop p u))).base = w.base ∧
        (creditCheck p verified low e (latchStart p (latchStop p u))).clock = w.clock := fun low e u hu hv =>
    ⟨(creditCheck_base ..).1.trans ((latchStop_base p u).1.trans hu), (creditCheck_base ..).2.trans ((latchStop_base p u).2.trans hv)⟩
  have hlatch : ∀ u : Sleeve, u.base = w.base → u.clock = w.clock →
      (latchStart p (latchStop p u)).base = w.base ∧ (latchStart p (latchStop p u)).clock = w.clock := fun u hu hv =>
    ⟨(latchStop_base p u).1.trans hu, (latchStop_base p u).2.trans hv⟩
  unfold closeBlock SX.mod
  dsimp only
  rw [hw, ← hb, ← hc]
  split
  · split
    · cases verified <;> exact hcheck _ _ _ rfl rfl
    · cases verified <;> exact hlatch _ rfl rfl
  · cases verified <;> exact hlatch _ rfl rfl

theorem blockMissed_base (p : Nat) (x : SX) :
    (blockMissed p x).s.base = x.s.base ∧ (blockMissed p x).s.clock = x.s.clock :=
  closeBlock_base p false 0 x

/-- The rest of the Sleeve and its kept time are as before. -/
def Sleeve.Same (v w : Sleeve) : Prop := w.base = v.base ∧ w.mc = v.mc

namespace Sleeve.Same

theorem refl (v : Sleeve) : v.Same v := ⟨rfl, rfl⟩

theorem trans {u v w : Sleeve} (h : u.Same v) (k : v.Same w) : u.Same w := ⟨k.1.trans h.1, k.2.trans h.2⟩

theorem of_clock {v w : Sleeve} (h : w.base = v.base ∧ w.clock = v.clock) : v.Same w := ⟨h.1, congrArg Prod.fst h.2⟩

theorem after {u v w : Sleeve} (k : v.Same w) (h : u.Same v) : u.Same w := h.trans k

theorem powered {v w : Sleeve} (h : v.Same w) (hp : v.powered = true) : w.powered = true := (base_eq_powered h.1).trans hp

theorem ite {c : Prop} [Decidable c] {u v w : Sleeve} (hv : u.Same v) (hw : u.Same w) : u.Same (if c then v else w) := by
  split
  · exact hv
  · exact hw

theorem reg {u v : Sleeve} (h : u.Same v) (r : SlvReg) : u.Same { v with reg := r } := h

end Sleeve.Same

theorem logAdd_same (k : LogKind) {v : Sleeve} (hp : v.powered = true) : v.Same (logAdd k v) := by
  unfold logAdd
  dsimp only
  rw [if_pos hp, if_pos hp]
  exact ⟨rfl, rfl⟩

theorem setClock_same (new : Nat) (off : Int) {v : Sleeve} (hp : v.powered = true) : v.Same (setClock new off v) := by
  have he : ∀ u : Sleeve, u.Same (settle u) := fun u => .of_clock (settle_base u)
  have hd : ∀ u : Sleeve, u.Same (endDemand true u) := fun u => .of_clock (endDemand_base true u)
  obtain ⟨w, hw, hs⟩ : ∃ w, logAdd (.timeSet (if v.clkV then v.utcS else 0) new) v = w ∧ v.Same w := ⟨_, rfl, logAdd_same _ hp⟩
  refine hs.trans ?_
  unfold setClock
  dsimp only
  rw [hw]
  refine .ite ?valid ?unset
  case valid =>
    refine .trans ?_ (he _)
    refine .ite (.reg ?_ _) ?_
    all_goals exact .ite (.reg ((hd _).after ⟨rfl, rfl⟩) _) ⟨rfl, rfl⟩
  case unset =>
    refine .trans ?_ (he _)
    refine .ite (.reg (.reg ?_ _) _) (.reg ?_ _)
    all_goals exact (hd _).after ⟨rfl, rfl⟩


theorem setTime_same (new : Nat) (off : Int) {v : Sleeve} (hp : v.powered = true) : v.Same (setTime new off v) := by
  unfold setTime
  dsimp only
  split
  · exact setClock_same new off hp
  · exact setClock_same new off hp

theorem setTimeCmd_same (args : List Byte) {v : Sleeve} (hp : v.powered = true) : v.Same (setTimeCmd args v).2 := by
  unfold setTimeCmd
  dsimp only
  repeat' split
  · exact .refl v
  · exact setTime_same _ _ hp
  · exact .refl v

theorem tariffSeg_same (n : Nat) (args : List Byte) {v : Sleeve} (hp : v.powered = true) : v.Same (tariffSeg n args v).2 := by
  have hlog : v.Same (logAdd .tableRefused { v with asm := none }) := logAdd_same (v := { v with asm := none }) _ hp
  unfold tariffSeg
  dsimp only
  generalize (if leAt args 1 1 = 102 then 24 else 40) = want
  split
  · exact .refl v
  split
  · exact ⟨rfl, rfl⟩
  split
  · exact .ite ⟨rfl, rfl⟩ (.refl v)
  split
  · exact ⟨rfl, rfl⟩
  split
  · split
    · exact ⟨rfl, rfl⟩
    · exact hlog
  · exact hlog

theorem sessionStart_same (args : List Byte) (v : Sleeve) : v.Same (sessionStart args v).2 := by
  unfold sessionStart
  dsimp only
  repeat' split
  all_goals exact ⟨rfl, rfl⟩

theorem slvSessionStop_same (args : List Byte) (v : Sleeve) : v.Same (slvSessionStop args v).2 := by
  unfold slvSessionStop
  dsimp only
  repeat' split
  all_goals exact ⟨rfl, rfl⟩

theorem cmdReply_same (f : CmdFrame) (r : CmdRes) (v : Sleeve) : v.Same (cmdReply f r v) := by
  unfold cmdReply countRes pushRec
  cases r <;> exact ⟨rfl, rfl⟩

theorem cmdDo_same (code : Nat) (f : CmdFrame) {v : Sleeve} (hp : v.powered = true) : v.Same (cmdDo code f v).2 := by
  unfold cmdDo
  split
  · exact .refl v
  · split
    · exact .refl v
    · exact setTimeCmd_same _ hp
    · exact tariffSeg_same _ _ hp
    · exact sessionStart_same _ v
    · exact slvSessionStop_same _ v
    · exact .refl v

/-- A command carried out leaves kept time, and what is not among its registers, sessions, tables and clock. -/
theorem cmdRun_same (c : Nat × CmdFrame) {v : Sleeve} (hp : v.powered = true) : v.Same (cmdRun v c) := by
  unfold cmdRun
  dsimp only
  split
  · exact cmdReply_same ..
  · split
    · exact cmdReply_same ..
    · exact (cmdReply_same ..).after (cmdDo_same _ _ hp)

theorem foldl_cmdRun_same (l : List (Nat × CmdFrame)) {v : Sleeve} (hp : v.powered = true) : v.Same (l.foldl cmdRun v) :=
  List.foldlRecOn (motive := v.Same) _ _ (.refl v) (fun _ h c _ => h.trans (cmdRun_same c (h.powered hp)))

/-! ### A sample of the Sleeve -/

/-- What comes before the commands of a sample: kept time, and the blocks whose frames have not come. -/
def beforeCommands (x : SX) : SX :=
  let x := x.mod (passTime false false 250)
  let x := x.mod (fun s => { s with head := s.head.map (fun h =>
    if h.pair.isSome then { h with since := h.since + 1, age := h.age + 1 } else h) })
  (List.range 12).foldl (fun x p =>
    if (atD x.s.head p {}).pair.isSome ∧ 258 ≤ (atD x.s.head p {}).since then blockMissed p x else x) x

theorem sampleEnd_eq {x : SX} (hp : x.s.powered = true) :
    sampleEnd x = (beforeCommands x).mod (fun s => s.cmdq.foldl cmdRun { s with cmdq := [] }) := by
  unfold sampleEnd beforeCommands
  rw [if_neg (by rw [hp]; exact Bool.false_ne_true)]

theorem beforeCommands_base (x : SX) : (beforeCommands x).s.base = x.s.base ∧
    (beforeCommands x).s.clock = (x.s.mc + 250, if x.s.clkV then x.s.utc + 250 else x.s.utc, x.s.clkV, x.s.off) := by
  obtain ⟨hb, hc⟩ := passTime_base false false 250 x.s
  rw [← hb, ← hc]
  unfold beforeCommands
  generalize passTime false false 250 = pass
  obtain ⟨y, hy, h0⟩ : ∃ y, (x.mod pass).mod (fun s => { s with head := s.head.map (fun h =>
      if h.pair.isSome then { h with since := h.since + 1, age := h.age + 1 } else h) }) = y ∧
      (y.s.base = (pass x.s).base ∧ y.s.clock = (pass x.s).clock) := ⟨_, rfl, rfl, rfl⟩
  dsimp only
  rw [hy]
  exact List.foldlRecOn (motive := fun y : SX => y.s.base = (pass x.s).base ∧ y.s.clock = (pass x.s).clock) _ _ h0
    (fun y h p _ => by
      split
      · exact ⟨(blockMissed_base p y).1.trans h.1, (blockMissed_base p y).2.trans h.2⟩
      · exact h)

/-- The Sleeve before the commands of a sample are carried out, without the queue that holds them. -/
theorem sampleEnd_facts {x : SX} (hp : x.s.powered = true) :
    ({ x.s with cmdq := [] } : Sleeve).base = (sampleEnd x).s.base ∧ (sampleEnd x).s.mc = x.s.mc + 250 ∧
      (x.s.cmdq = [] → (sampleEnd x).s.clock = (beforeCommands x).s.clock) := by
  obtain ⟨hb, hc⟩ := beforeCommands_base x
  rw [sampleEnd_eq hp]
  generalize beforeCommands x = y at hb hc ⊢
  have hmc : y.s.mc = x.s.mc + 250 := congrArg Prod.fst hc
  have hq : y.s.cmdq = x.s.cmdq := Sleeve.base_eq_cmdq hb
  have hpow : y.s.powered = true := (Sleeve.base_eq_powered hb).trans hp
  have hs := foldl_cmdRun_same y.s.cmdq (v := { y.s with cmdq := [] }) hpow
  refine ⟨?_, hs.2.trans hmc, fun h => ?_⟩
  · exact (congrArg (fun b : Sleeve => { b with cmdq := [] }) hb.symm).trans hs.1.symm
  · unfold SX.mod
    dsimp only
    rw [hq, h]
    rfl

/-! ### The intake -/

/-- A disturbance that begins: what the detector then holds (R244). -/
theorem detStep_begins {s : Sleeve} {kind crossed ext extPh : Nat} {beginC endC : Bool} {worse : Nat → Bool} {x : SX} {d : Det}
    (hd : d.on = false) (hb : beginC = true) :
    detStep s kind beginC endC crossed ext extPh worse x d =
      (x, { on := true, mask := crossed, mc := s.mc, utc := s.stampUtc, ext := ext, extPh := extPh }) := by
  unfold detStep
  rw [if_neg (by rw [hd]; exact Bool.false_ne_true), if_pos hb]

/-- What a detector does to the Sleeve and its events: nothing, or one entry at the next place and the counts of its kind (R244). -/
theorem detStep_cases (s : Sleeve) (kind crossed ext extPh : Nat) (beginC endC : Bool) (worse : Nat → Bool) (x : SX) (d : Det) :
    (detStep s kind beginC endC crossed ext extPh worse x d).1 = x ∨
      ∃ e r, (detStep s kind beginC endC crossed ext extPh worse x d).1 =
          ((x.mod (fun s => { s with reg := r })).raise .supplyDisturbance) ∧
        r.dist = updN x.s.reg.dist x.s.reg.distNext (fun _ => e) ∧ r.distNext = (x.s.reg.distNext + 1) % 16 ∧
        (kind ≠ 1 → r.cntSag = x.s.reg.cntSag) := by
  unfold detStep
  split
  · dsimp only
    split
    · exact .inr ⟨_, _, rfl, rfl, rfl, fun h => if_neg h⟩
    · exact .inl rfl
  · split <;> exact .inl rfl

/-- A disturbance that ends: its entry, and the counts of its kind (R244). -/
theorem detStep_ends {s : Sleeve} {kind crossed ext extPh : Nat} {beginC endC : Bool} {worse : Nat → Bool} {x : SX} {d : Det}
    (hd : d.on = true) (he : endC = true) :
    ∃ e r, detStep s kind beginC endC crossed ext extPh worse x d = ((x.mod (fun s => { s with reg := r })).raise .supplyDisturbance, {}) ∧
      e.kind = kind ∧ e.dur = (s.mc - d.mc) / 1000 % 2 ^ 32 ∧ r.dist = updN x.s.reg.dist x.s.reg.distNext (fun _ => e) ∧
      r.distNext = (x.s.reg.distNext + 1) % 16 ∧ (kind = 1 → r.cntSag = satInc 16 x.s.reg.cntSag) := by
  unfold detStep
  rw [if_pos hd]
  dsimp only
  rw [if_pos he]
  refine ⟨_, _, rfl, rfl, ?_, rfl, rfl, fun h => if_pos h⟩
  dsimp only
  split <;> rfl

/-- A sag has been entered at place `n` with `c` sags then counted, at most `k` entries ago, and its event is raised. -/
structure SagEntered (n : Nat) (e : DistEntry) (c k : Nat) (x : SX) : Prop where
  entry : atD x.s.reg.dist n {} = e
  count : x.s.reg.cntSag = c
  next : ∃ j, 1 ≤ j ∧ j ≤ k ∧ x.s.reg.distNext = (n + j) % 16
  event : .supplyDisturbance ∈ x.evs

/-- A detector of another kind enters its disturbance elsewhere. -/
theorem SagEntered.detStep {n c k : Nat} {e : DistEntry} {x : SX} (h : SagEntered n e c k x) (hn : n < 16) (hk : k < 16)
    {s : Sleeve} {kind : Nat} (hkind : kind ≠ 1) {crossed ext extPh : Nat} {beginC endC : Bool} {worse : Nat → Bool} {d : Det} :
    SagEntered n e c (k + 1) (detStep s kind beginC endC crossed ext extPh worse x d).1 := by
  obtain ⟨j, h1, hj, hnext⟩ := h.next
  rcases detStep_cases s kind crossed ext extPh beginC endC worse x d with he | ⟨e', r, he, hdist, hn', hcnt⟩
  · rw [he]
    exact ⟨h.entry, h.count, ⟨j, h1, by omega, hnext⟩, h.event⟩
  · rw [he]
    refine ⟨?_, (hcnt hkind).trans h.count, ⟨j + 1, by omega, by omega, hn'.trans (by rw [hnext]; omega)⟩, List.mem_append_left _ h.event⟩
    have hne : x.s.reg.distNext ≠ n := by rw [hnext]; omega
    exact (congrArg (fun v => atD v n ({} : DistEntry)) hdist).trans ((atD_updN_ne x.s.reg.dist _ _ hne).trans h.entry)

section

variable {uh uc : Vector Nat 3} {x : SX}

theorem halfJudge_sagBegins (hon : x.s.inp.sag.on = false) (hlow : uh.toList.any (· < x.s.lp.sagThr) = true) :
    (halfJudge uh uc x).s.inp.sag.on = true ∧ (halfJudge uh uc x).s.inp.sag.mc = x.s.mc ∧
      (halfJudge uh uc x).s.inp.sag.ext = min uh[0] (min uh[1] uh[2]) := by
  unfold halfJudge
  dsimp only
  rw [detStep_begins hon hlow]
  exact ⟨rfl, rfl, rfl⟩

theorem halfJudge_sagEnds (hon : x.s.inp.sag.on = true) (hall : uh.toList.all (x.s.lp.sagThr + x.s.lp.hyst ≤ ·) = true)
    (hn : x.s.reg.distNext < 16) :
    ∃ e, SagEntered x.s.reg.distNext e (satInc 16 x.s.reg.cntSag) 3 (halfJudge uh uc x) ∧ (halfJudge uh uc x).s.inp.sag.on = false ∧
      e.kind = 1 ∧ e.dur = (x.s.mc - x.s.inp.sag.mc) / 1000 % 2 ^ 32 := by
  unfold halfJudge
  dsimp only
  obtain ⟨e, r, hsag, hkind, hdur, hdist, hnext, hcnt⟩ := detStep_ends (s := x.s) (kind := 1)
    (crossed := maskOf 3 (fun k => decide (uh.toList.getD k 0 < x.s.lp.sagThr))) (ext := min uh[0] (min uh[1] uh[2]))
    (extPh := uh.toList.findIdx (· == min uh[0] (min uh[1] uh[2]))) (beginC := uh.toList.any (· < x.s.lp.sagThr))
    (worse := fun e => min uh[0] (min uh[1] uh[2]) < e) (x := x) hon hall
  rw [hsag]
  have hent : SagEntered x.s.reg.distNext e (satInc 16 x.s.reg.cntSag) 1
      ((x.mod (fun s => { s with reg := r })).raise .supplyDisturbance) :=
    { entry := (congrArg (fun v => atD v x.s.reg.distNext ({} : DistEntry)) hdist).trans (atD_updN_same _ _ _ hn)
      count := hcnt rfl
      next := ⟨1, Nat.le_refl 1, Nat.le_refl 1, hnext⟩
      event := List.mem_append_right _ (List.mem_singleton_self _) }
  have hswell := hent.detStep hn (by decide) (s := x.s) (kind := 2) (by decide)
    (crossed := maskOf 3 (fun k => decide (x.s.lp.swellThr < uc.toList.getD k 0))) (ext := max uc[0] (max uc[1] uc[2]))
    (extPh := uc.toList.findIdx (· == max uc[0] (max uc[1] uc[2]))) (beginC := uc.toList.any (x.s.lp.swellThr < ·))
    (endC := uc.toList.all (· ≤ x.s.lp.swellThr - x.s.lp.hyst)) (worse := fun e => e < max uc[0] (max uc[1] uc[2])) (d := x.s.inp.swell)
  have hintr := hswell.detStep hn (by decide) (s := x.s) (kind := 3) (by decide)
    (crossed := maskOf 3 (fun k => decide (uh.toList.getD k 0 < x.s.lp.intThr))) (ext := min uh[0] (min uh[1] uh[2]))
    (extPh := uh.toList.findIdx (· == min uh[0] (min uh[1] uh[2]))) (beginC := uh.toList.all (· < x.s.lp.intThr))
    (endC := uh.toList.any (x.s.lp.intThr + x.s.lp.hyst ≤ ·)) (worse := fun e => min uh[0] (min uh[1] uh[2]) < e) (d := x.s.inp.intr)
  exact ⟨e, ⟨hintr.entry, hintr.count, hintr.next, hintr.event⟩, rfl, hkind, hdur⟩

end

/-- The commands that change the Sleeve alone, where it works. -/
theorem State.onSlv_exec {s : State} (hs : s.slvOn = true) (f : Sleeve → Sleeve) :
    (.next (s.onSlv f) : Host.Outcome State Fault Refusal) = .next { s with slv := f s.slv } :=
  congrArg Host.Outcome.next (State.onlyIf_of hs _ s)

theorem Sleeve.runs_of_registers {v : Sleeve} (h : v.registers = true) : v.powered = true ∧ v.st ≠ .boot ∧ v.st ≠ .fatal := by
  unfold Sleeve.registers at h
  simp only [Bool.and_eq_true, Bool.or_eq_true, beq_iff_eq] at h
  obtain ⟨⟨hp, -⟩, hst⟩ := h
  refine ⟨hp, ?_, ?_⟩ <;> rcases hst with h | h <;> rw [h] <;> decide

theorem Intake.take_keeps (xs : List AcCodes) (i : Intake) :
    (i.take xs).cycSeq = i.cycSeq ∧ (i.take xs).cycles = i.cycles ∧ (i.take xs).sag = i.sag := by
  unfold Intake.take
  exact ⟨rfl, rfl, rfl⟩

/-- What a line cycle leaves in the intake and adds to the total registers (R242, R261). -/
theorem cycleDone_facts (a b : Rat) {u : Sleeve} (hr : u.registers = true) {P : Fin 3 → Rat}
    (hP : (fun k : Fin 3 => spanMean a b (fun x => u.prim k.val x * u.prim (3 + k.val) x)) = P) :
    ∃ v, cycleDone a b u = v ∧ v.inp.valid = true ∧ v.inp.start = some b ∧ v.inp.cycSeq = (u.inp.cycSeq + 1) % 2 ^ 16 ∧
      v.inp.cycles = u.inp.cycles + 1 ∧ v.inp.pcyc = satI 32 (P 0 + P 1 + P 2).floor ∧
      atD v.reg.er 12 0 = atD u.reg.er 12 0 + max (P 0 + P 1 + P 2) 0 * ((b - a) / 8000) * 1000 ∧
      atD v.reg.er 13 0 = atD u.reg.er 13 0 + max (-(P 0 + P 1 + P 2)) 0 * ((b - a) / 8000) * 1000 := by
  subst hP
  unfold cycleDone
  dsimp only
  rw [if_pos hr]
  refine ⟨_, rfl, rfl, rfl, rfl, rfl, rfl, ?_, ?_⟩
  all_goals
    rw [atD_mapIdx _ _ _ (by decide)]
    simp only [List.map_cons, List.map_nil, List.cons_append, List.nil_append, List.getD_cons_succ, List.getD_cons_zero]

theorem Sleeve.inp_keeps {v u : Sleeve} {i : Intake} (hu : ({ v with inp := i } : Sleeve) = u) :
    u.inp = i ∧ u.reg = v.reg ∧ u.mc = v.mc ∧ u.lp = v.lp ∧ u.registers = v.registers := by
  subst hu
  exact ⟨rfl, rfl, rfl, rfl, rfl⟩

section

variable {s : State} (hs : s.slvOn = true)

include hs

theorem sleeveSampleEnd_advances :
    ∃ t, exec .sleeveSampleEnd s = .next t ∧ t.slv.mc = s.slv.mc + 250 ∧ t.slv.cmdq = [] ∧
      (s.slv.cmdq = [] → t.slv.utc = (if s.slv.clkV then s.slv.utc + 250 else s.slv.utc)) := by
  have hp := Sleeve.powered_of_slvOn hs
  obtain ⟨t, ht, hslv, -⟩ := State.onSleeve_exec hs sampleEnd
  obtain ⟨hb, hmc, hclk⟩ := sampleEnd_facts (x := { s := s.slv }) hp
  refine ⟨t, ht, by rw [hslv]; exact hmc, by rw [hslv]; exact (Sleeve.base_eq_cmdq hb).symm, fun h => ?_⟩
  rw [hslv]
  exact congrArg (fun c => c.2.1) ((hclk h).trans (beforeCommands_base _).2)

theorem lineCycleEnd_measures (xs : List AcCodes) (a b : Rat) (hr : s.slv.registers = true) {u : Sleeve}
    (hu : ({ s.slv with inp := s.slv.inp.take xs } : Sleeve) = u) (ha : u.inp.start = some a) (hb : u.cycleEnd a = some b) :
    let P : Fin 3 → Rat := fun k => spanMean a b (fun x => u.prim k.val x * u.prim (3 + k.val) x)
    let T : Rat := (b - a) / 8000
    ∃ t, exec (.lineCycleEnd xs) s = .next t ∧ t.slv.inp.valid = true ∧ t.slv.inp.start = some b ∧
      t.slv.inp.cycSeq = (s.slv.inp.cycSeq + 1) % 2 ^ 16 ∧
      t.slv.inp.cycles = s.slv.inp.cycles + 1 ∧ t.slv.inp.pcyc = satI 32 (P 0 + P 1 + P 2).floor ∧
      atD t.slv.reg.er 12 0 = atD s.slv.reg.er 12 0 + max (P 0 + P 1 + P 2) 0 * T * 1000 ∧
      atD t.slv.reg.er 13 0 = atD s.slv.reg.er 13 0 + max (-(P 0 + P 1 + P 2)) 0 * T * 1000 := by
  intro P T
  obtain ⟨hp, hboot, hfatal⟩ := Sleeve.runs_of_registers hr
  have hnot : ¬ ((!s.slv.powered) = true ∨ s.slv.st = .boot ∨ s.slv.st = .fatal) := by
    rw [hp]
    simp [hboot, hfatal]
  have hcyc : lineCycle xs s.slv = cycleDone a b u := by
    unfold lineCycle
    rw [if_neg hnot, hu]
    dsimp only
    rw [ha]
    dsimp only
    rw [hb]
  obtain ⟨h1, h2, -, -, hreg⟩ := Sleeve.inp_keeps hu
  obtain ⟨k1, k2, -⟩ := Intake.take_keeps xs s.slv.inp
  obtain ⟨v, hv, hfacts⟩ := cycleDone_facts a b (hreg.trans hr) rfl
  rw [h1, h2, k1, k2] at hfacts
  refine ⟨{ s with slv := v }, ?_, hfacts⟩
  rw [← hv, ← hcyc]
  exact State.onSlv_exec hs (lineCycle xs)

theorem intakeLatch_latches (hn : s.slv.lp.nLatch ≤ s.slv.inp.cycles) :
    ∃ t, exec .intakeLatch s = .next t ∧ t.slv.inp.cycles = 0 ∧
      t.slv.inp.lcnt = (s.slv.inp.lcnt + 1) % 2 ^ 24 ∧ t.slv.inp.latE = s.slv.reg.er.map wh ∧ t.slv.inp.latMc = s.slv.mcS ∧
      ∀ k : Fin 3, t.slv.inp.latP[k] = satI 32 (s.slv.inp.sumP[k] / (s.slv.inp.cycles : Rat)).floor := by
  have hnot : ¬ ((!s.slv.powered) = true ∨ s.slv.inp.cycles < s.slv.lp.nLatch) := by
    rw [Sleeve.powered_of_slvOn hs]
    simpa using hn
  refine ⟨_, State.onSlv_exec hs intakeLatch, ?_⟩
  unfold Machine.intakeLatch
  dsimp only
  rw [if_neg hnot]
  exact ⟨rfl, rfl, rfl, rfl, fun k => Vector.getElem_map ..⟩

theorem freerunEnter_enters (t0 : Nat) (h0 : s.slv.inp.noRefAt = some t0) (ht : t0 + 1500000 / s.slv.lp.fNom ≤ s.slv.mc) :
    ∃ t, exec .freerunEnter s = .next t ∧
      t.slv = { s.slv with inp := { s.slv.inp with freerun := true, start := some (s.slv.inp.start.getD s.slv.inp.last) } } := by
  refine ⟨_, State.onSlv_exec hs freerunEnter, ?_⟩
  unfold Machine.freerunEnter
  dsimp only
  rw [h0]
  dsimp only
  rw [if_pos ⟨Sleeve.powered_of_slvOn hs, ht⟩]

/-- The half-cycle values of a running Sleeve with a refresh before are judged (R244). -/
theorem halfCycle_judges (xs : List AcCodes) (p b : Rat) (hst : s.slv.st = .run) {u : Sleeve}
    (hu : ({ s.slv with inp := s.slv.inp.take xs } : Sleeve) = u)
    (hb : u.refreshAt (u.inp.refAt.getD 0) = some b) (hp : u.inp.refPrev = some p) :
    ∃ t x, exec (.halfCycleRefresh xs) s = .next t ∧
      halfJudge (Vector.ofFn (fun k => u.uHalf p b k.val)) (Vector.ofFn (fun k => u.uHalfUp p b k.val)) { s := u } = x ∧
      t.slv.inp.sag = x.s.inp.sag ∧ t.slv.inp.refAt = some b ∧ t.slv.reg = x.s.reg ∧ (∀ e ∈ x.evs, s.up = true → t.told e) := by
  have hnot : ¬ ((!s.slv.powered) = true ∨ s.slv.st = .boot ∨ s.slv.st = .fatal) := by
    rw [Sleeve.powered_of_slvOn hs, hst]
    decide
  obtain ⟨x, hx⟩ : ∃ x, halfJudge (Vector.ofFn (fun k => u.uHalf p b k.val)) (Vector.ofFn (fun k => u.uHalfUp p b k.val)) { s := u } = x :=
    ⟨_, rfl⟩
  have hhalf : halfCycle xs { s := s.slv } =
      x.mod (fun s => { s with inp := { s.inp with refPrev := some (u.inp.refAt.getD 0), refAt := some b } }) := by
    have htake : SX.mod { s := s.slv } (fun s => { s with inp := s.inp.take xs }) = { s := u } := congrArg (fun v => ({ s := v } : SX)) hu
    unfold halfCycle
    rw [if_neg hnot, htake]
    dsimp only
    rw [hb]
    dsimp only
    rw [hp]
    dsimp only
    rw [hx]
  obtain ⟨t, ht, hslv, hev⟩ := State.onSleeve_exec hs (halfCycle xs)
  rw [hhalf] at hslv hev
  exact ⟨t, x, ht, hx, by rw [hslv]; rfl, by rw [hslv]; rfl, by rw [hslv]; rfl, hev⟩

theorem halfCycleRefresh_sags (xs : List AcCodes) (p b : Rat) (hst : s.slv.st = .run) {u : Sleeve}
    (hu : ({ s.slv with inp := s.slv.inp.take xs } : Sleeve) = u)
    (hb : u.refreshAt (u.inp.refAt.getD 0) = some b) (hp : u.inp.refPrev = some p) {uh : Vector Nat 3}
    (huh : Vector.ofFn (fun k => u.uHalf p b k.val) = uh) :
    (s.slv.inp.sag.on = false → uh.toList.any (· < s.slv.lp.sagThr) = true → ∃ t, exec (.halfCycleRefresh xs) s = .next t ∧
      t.slv.inp.sag.on = true ∧ t.slv.inp.refAt = some b ∧ t.slv.inp.sag.mc = s.slv.mc ∧ t.slv.inp.sag.ext = min uh[0] (min uh[1] uh[2])) ∧
    (s.slv.inp.sag.on = true → uh.toList.all (s.slv.lp.sagThr + s.slv.lp.hyst ≤ ·) = true → s.slv.reg.distNext < 16 →
      ∃ t, exec (.halfCycleRefresh xs) s = .next t ∧ t.slv.inp.sag.on = false ∧ t.slv.reg.cntSag = satInc 16 s.slv.reg.cntSag ∧
        (atD t.slv.reg.dist s.slv.reg.distNext {}).kind = 1 ∧
        (atD t.slv.reg.dist s.slv.reg.distNext {}).dur = (s.slv.mc - s.slv.inp.sag.mc) / 1000 % 2 ^ 32 ∧
        (s.up = true → t.told .supplyDisturbance)) := by
  obtain ⟨t, x, ht, hx, hsag, href, hreg, hev⟩ := halfCycle_judges hs xs p b hst hu hb hp
  rw [huh] at hx
  obtain ⟨hinp, k4, k3, k2, -⟩ := Sleeve.inp_keeps hu
  have k1 : u.inp.sag = s.slv.inp.sag := by rw [hinp]; exact (Intake.take_keeps xs s.slv.inp).2.2
  rw [← k1, ← k2, ← k3, ← k4]
  refine ⟨fun hon hlow => ?_, fun hon hall hn => ?_⟩
  · obtain ⟨h1, h2, h3⟩ := halfJudge_sagBegins (uc := Vector.ofFn (fun k => u.uHalfUp p b k.val)) (x := { s := u }) hon hlow
    rw [hx, ← hsag] at h1 h2 h3
    exact ⟨t, ht, h1, href, h2, h3⟩
  · obtain ⟨e, he, h1, h2, h3⟩ := halfJudge_sagEnds (uc := Vector.ofFn (fun k => u.uHalfUp p b k.val)) (x := { s := u }) hon hall hn
    rw [hx] at he h1
    rw [← hsag] at h1
    have hent : atD t.slv.reg.dist u.reg.distNext {} = e := by rw [hreg]; exact he.entry
    exact ⟨t, ht, h1, by rw [hreg]; exact he.count, by rw [hent]; exact h2, by rw [hent]; exact h3, hev _ he.event⟩

end

/-- Settles O30: a sample's kept time is that of its last instant, a line cycle's energies are added at their own places, and a sag's entry
stands while the other two detectors enter theirs at the places after it. -/
theorem sleeveIntakeMeasures : Obligations.SleeveIntakeMeasures := by
  unfold Obligations.SleeveIntakeMeasures
  intro s hs
  exact ⟨sleeveSampleEnd_advances hs, fun xs a b hr => lineCycleEnd_measures hs xs a b hr rfl, intakeLatch_latches hs,
    freerunEnter_enters hs, fun xs p b hst => fun hb hp => halfCycleRefresh_sags hs xs p b hst rfl hb hp rfl⟩

end Sys2Proof.Machine
end

section
/-! ## The Sleeve's power, states, firmware and legal parameters (O31: `SleeveStatesChange`) -/

namespace Sys2Proof.Machine

/-! ### A start of the Sleeve -/

/-- What a start restores (R222, R224, R225): the registers of the first copy, kept time and the clock, and the firmware that runs. -/
def startRestore (d : Nat) (s : Sleeve) : Sleeve :=
  let utcNow := s.utc + d
  let mcNow := if s.lostBoth then (s.mram.mc / 1000000 + 1) * 1000000 + d else s.mc + d
  let clk := s.clkV && !s.lostBoth
  let s := { s with powered := true, stopped := false, cmdq := [], reg := s.mram, clkV := clk, mc := mcNow, utc := utcNow,
                    leaf := if s.leaf = 0 then 0 else max s.leaf s.leafTop,
                    fwVer := s.fw.version, fwHash := beBytes 32 (Config.sha256 s.fw.img),
                    fwOk := Config.hssVerify Config.metroPublic s.fw.img s.fw.sig }
  { s with reg := { s.reg with dem := { s.reg.dem with pf := s.reg.dem.pf || (s.everRan && !s.wdog) }, subs := [] } }

/-- The boundaries that the clock passed, and the log's entries and gaps of a start. -/
def startPass (lost : Bool) (s : Sleeve) : Sleeve :=
  let s := if s.clkV ∧ s.everRan ∧ s.reg.lutc < s.utc then
      let back := s.utc - s.reg.lutc
      passTime true (!s.wdog) back { s with utc := s.reg.lutc, mc := s.mc - back }
    else settleTariff s
  let s := if s.everRan && lost then logAdd .uncommitted s else s
  let s := if s.wdog then logAdd .watchdog s else s
  if s.everRan ∧ lost then (List.range 12).foldl (fun s p => sessGap p 15 s) s else s

/-- The blocks in progress at a start are gaps. -/
def startBlocks (x : SX) : SX :=
  if x.s.everRan then (List.range 12).foldl (fun x p =>
      if (atD x.s.head p {}).pair.isSome then blockEnd p false 0 x else x) x else x

/-- The conditions that begin afresh at a start, and the tamper events that wait for it. -/
def startFresh (x : SX) : SX :=
  let x := x.mod (fun s => { s with
    wdog := false, writeOk := true,
    tamp := mapIdx s.tamp (fun k t => if k < 3 then { t with heldAt := none, goneAt := none } else t),
    lostBoth := false, everRan := true, commitAt := s.mc,
    lane := s.lane.map (fun l => { l with aliveAt := s.mc }),
    head := s.head.map (fun h => { h with lastVer := s.mc }),
    inp := { s.inp with
      valid := false, freerun := false, buf := [], start := none, refAt := none, refPrev := none, ref := none, noRefAt := some s.mc } })
  let n := x.s.pendTamp
  raiseN .meterTamper n (x.mod (fun s => { s with pendTamp := 0 }))

/-- The state that a start leads to. -/
def startState (x : SX) : SX :=
  if !x.s.fwOk then fatalTo x
  else if x.s.legal.isNone then slvTo .unsealed x
  else slvTo .run x

theorem slvStart_eq (lost : Bool) (d : Nat) (x : SX) :
    slvStart lost d x = startState (startFresh (startBlocks ((slvTo .boot x).mod (fun s => startPass lost (startRestore d s))))) := by
  unfold slvStart
  generalize slvTo .boot x = y
  rfl

theorem Sleeve.base_eq_mram {v w : Sleeve} (h : v.base = w.base) : v.mram = w.mram :=
  congrArg (a₁ := v.base) (a₂ := w.base) Sleeve.mram h
theorem Sleeve.base_eq_lostBoth {v w : Sleeve} (h : v.base = w.base) : v.lostBoth = w.lostBoth :=
  congrArg (a₁ := v.base) (a₂ := w.base) Sleeve.lostBoth h
theorem Sleeve.base_eq_vbks {v w : Sleeve} (h : v.base = w.base) : v.vbks = w.vbks := congrArg (a₁ := v.base) (a₂ := w.base) Sleeve.vbks h
theorem Sleeve.base_eq_fwVer {v w : Sleeve} (h : v.base = w.base) : v.fwVer = w.fwVer :=
  congrArg (a₁ := v.base) (a₂ := w.base) Sleeve.fwVer h
theorem Sleeve.base_eq_fwHash {v w : Sleeve} (h : v.base = w.base) : v.fwHash = w.fwHash :=
  congrArg (a₁ := v.base) (a₂ := w.base) Sleeve.fwHash h
theorem Sleeve.base_eq_fwOk {v w : Sleeve} (h : v.base = w.base) : v.fwOk = w.fwOk := congrArg (a₁ := v.base) (a₂ := w.base) Sleeve.fwOk h

theorem raiseN_s (e : Ev) (n : Nat) (x : SX) : (raiseN e n x).s = x.s := by
  induction n generalizing x with
  | zero => rfl
  | succ n ih => exact ih _

theorem startPass_base (lost : Bool) {v : Sleeve} (hp : v.powered = true) : (startPass lost v).base = v.base := by
  have htar : (settleTariff v).base = v.base := by
    unfold settleTariff
    split <;> rfl
  have hlog : ∀ (k : LogKind) (u : Sleeve), u.base = v.base → (logAdd k u).base = v.base := fun k u hu =>
    (logAdd_same k ((Sleeve.base_eq_powered hu).trans hp)).1.trans hu
  have hlogIf : ∀ (c : Bool) (k : LogKind) (u : Sleeve), u.base = v.base → (if c then logAdd k u else u).base = v.base := by
    intro c k u hu
    split
    · exact hlog k u hu
    · exact hu
  have hgap : ∀ (c : Prop) [Decidable c] (u : Sleeve), u.base = v.base →
      (if c then (List.range 12).foldl (fun s p => sessGap p 15 s) u else u).base = v.base := by
    intro c _ u hu
    split
    · exact List.foldlRecOn (motive := fun t : Sleeve => t.base = v.base) _ _ hu (fun t h p _ => (sessGap_base p 15 t).1.trans h)
    · exact hu
  unfold startPass
  refine hgap _ _ (hlogIf _ _ _ (hlogIf _ _ _ ?_))
  split
  · exact (passTime_base ..).1
  · exact htar

theorem startBlocks_base (x : SX) : (startBlocks x).s.base = x.s.base := by
  unfold startBlocks
  split
  · refine List.foldlRecOn (motive := fun y : SX => y.s.base = x.s.base) _ _ rfl (fun y h p _ => ?_)
    split
    · exact (closeBlock_base p false 0 y).1.trans h
    · exact h
  · rfl

/-- Where a start of the Sleeve stands before it goes on to its state (R222, R225, R265). -/
structure Started (v w : Sleeve) : Prop where
  boot : w.st = .boot
  powered : w.powered = true
  stopped : w.stopped = false
  vbks : w.vbks = v.vbks
  legal : w.legal = v.legal
  fwVer : w.fwVer = v.fw.version
  fwHash : w.fwHash = beBytes 32 (Config.sha256 v.fw.img)
  fwOk : w.fwOk = Config.hssVerify Config.metroPublic v.fw.img v.fw.sig

theorem slvTo_boot (x : SX) : ∃ l, slvTo .boot x = { s := { x.s with st := .boot }, evs := l } := by
  unfold slvTo
  split
  · next h =>
    refine ⟨x.evs, ?_⟩
    rw [← h]
  · exact ⟨_, rfl⟩

theorem slvStart_starts (lost : Bool) (d : Nat) (x : SX) :
    ∃ y, slvStart lost d x = startState y ∧ Started x.s y.s := by
  obtain ⟨l, hl⟩ := slvTo_boot x
  obtain ⟨w, hw⟩ : ∃ w, startRestore d { x.s with st := .boot } = w := ⟨_, rfl⟩
  have hstart : Started x.s w := by
    rw [← hw]
    exact ⟨rfl, rfl, rfl, rfl, rfl, rfl, rfl, rfl⟩
  have hbase : (startBlocks { s := startPass lost w, evs := l }).s.base = w.base :=
    (startBlocks_base _).trans (startPass_base lost hstart.powered)
  have e : slvStart lost d x = startState (startFresh (startBlocks { s := startPass lost w, evs := l })) := by
    rw [slvStart_eq, hl, ← hw]
    rfl
  refine ⟨_, e, ?_⟩
  generalize startBlocks { s := startPass lost w, evs := l } = y at hbase ⊢
  unfold startFresh
  dsimp only
  rw [raiseN_s]
  obtain ⟨h1, h2, h3, h4, h5, h6, h7, h8⟩ := hstart
  exact { boot := (Sleeve.base_eq_st hbase).trans h1
          powered := (Sleeve.base_eq_powered hbase).trans h2
          stopped := (Sleeve.base_eq_stopped hbase).trans h3
          vbks := (Sleeve.base_eq_vbks hbase).trans h4
          legal := (Sleeve.base_eq_legal hbase).trans h5
          fwVer := (Sleeve.base_eq_fwVer hbase).trans h6
          fwHash := (Sleeve.base_eq_fwHash hbase).trans h7
          fwOk := (Sleeve.base_eq_fwOk hbase).trans h8 }

/-- A start whose firmware verifies, with legal parameters, goes on to RUN with its event. -/
theorem startState_run {y : SX} (hb : y.s.st = .boot) (hok : y.s.fwOk = true) (hl : y.s.legal ≠ none) :
    startState y = { s := { y.s with st := .run }, evs := y.evs ++ [.sleeveState] } := by
  have hn : y.s.legal.isNone = false := by
    cases h : y.s.legal with
    | none => exact absurd h hl
    | some l => rfl
  unfold startState slvTo
  rw [if_neg (by rw [hok]; exact Bool.false_ne_true), if_neg (by rw [hn]; exact Bool.false_ne_true),
    if_neg (by rw [hb]; exact fun h => nomatch h)]
  rfl

theorem openGate_base (p : Nat) (v : Sleeve) : (openGate p v).base = v.base := by
  unfold openGate
  dsimp only
  split <;> rfl

theorem setNotice_base (p : Nat) (v : Sleeve) : (setNotice p v).base = v.base := by
  unfold setNotice
  dsimp only
  split <;> rfl

theorem fatalTo_facts {x : SX} (h : x.s.st ≠ .fatal) :
    (fatalTo x).s.base = ({ x.s with st := .fatal } : Sleeve).base ∧ .sleeveState ∈ (fatalTo x).evs := by
  unfold fatalTo slvTo SX.raise SX.mod
  rw [if_neg h]
  generalize List.range 12 = ports
  dsimp only
  refine ⟨?_, List.mem_append_right _ (List.mem_singleton_self _)⟩
  refine List.foldlRecOn (motive := fun t : Sleeve => t.base = ({ x.s with st := .fatal } : Sleeve).base) _ _ rfl (fun t ht p _ => ?_)
  split
  · exact (openGate_base p _).trans ((setNotice_base p t).trans ht)
  · exact ht

/-- The state that a start leads to (Table 8.8). -/
theorem startState_base {y : SX} (hb : y.s.st = .boot) :
    (startState y).s.base =
      ({ y.s with st := if y.s.fwOk = false then .fatal else if y.s.legal = none then .unsealed else .run } : Sleeve).base := by
  cases hok : y.s.fwOk with
  | false =>
    unfold startState
    rw [hok, if_pos (by rfl), if_pos rfl]
    exact (fatalTo_facts (by rw [hb]; decide)).1
  | true =>
    cases hl : y.s.legal with
    | none =>
      unfold startState slvTo
      rw [hok, if_neg (by decide), hl, if_pos (by rfl), if_neg (by rw [hb]; exact fun h => nomatch h), if_neg (by decide), if_pos rfl]
      rfl
    | some l =>
      rw [startState_run hb hok (by rw [hl]; exact Option.some_ne_none l), if_neg (by decide), if_neg (Option.some_ne_none l)]

/-! ### Service -/

/-- What a SERVICE session's work leaves, before the session's close is entered in the log (R247, R266, R280). -/
def svcDone (w : SvcWork) (s : Sleeve) : Sleeve :=
  let s := if w.archive then { s with reg := { s.reg with log := [] } } else s
  let s := match w.time with | some (t, o) => setClock t o s | none => s
  match w.peerKey with
    | some k => if s.lp.peer = 1 then { s with lane := updN s.lane 1 (fun l => { l with key := some k }) } else s
    | none => s

theorem svcClose_of_service {w : SvcWork} {x : SX} (hp : x.s.powered = true) (hst : x.s.st = .service) :
    svcClose w x =
      let s := svcDone w x.s
      let s := { s with tampElec := 0, tampMech := 0, tamp := s.tamp.map (fun t => { t with latch := false }) }
      let s := logAdd .serviceExit s
      if s.legal.isSome then
        slvTo .run { x with s := { s with parCnt := if s.legalNew then (s.parCnt + 1) % 2 ^ 16 else s.parCnt, legalNew := false } }
      else slvTo .unsealed { x with s := s } := by
  unfold svcClose
  rw [if_neg (by rw [hp, hst]; decide)]
  rfl

theorem svcDone_facts (w : SvcWork) {v : Sleeve} (hp : v.powered = true) :
    (svcDone w v).st = v.st ∧ (svcDone w v).legal = v.legal ∧ (svcDone w v).tamp = v.tamp := by
  obtain ⟨a, ha, h1, h2, h3, h4⟩ : ∃ a : Sleeve, (if w.archive then { v with reg := { v.reg with log := [] } } else v) = a ∧
      a.powered = true ∧ a.st = v.st ∧ a.legal = v.legal ∧ a.tamp = v.tamp := by
    split
    · exact ⟨_, rfl, hp, rfl, rfl, rfl⟩
    · exact ⟨_, rfl, hp, rfl, rfl, rfl⟩
  have hclk : ∀ t o, (setClock t o a).st = v.st ∧ (setClock t o a).legal = v.legal ∧ (setClock t o a).tamp = v.tamp := fun t o => by
    have hb := (setClock_same t o h1).1
    generalize setClock t o a = b at hb
    exact ⟨(Sleeve.base_eq_st hb).trans h2, (Sleeve.base_eq_legal hb).trans h3,
      (congrArg Sleeve.tamp hb : b.base.tamp = a.base.tamp).trans h4⟩
  unfold svcDone
  rw [ha]
  dsimp only
  split
  · split
    · split
      · exact hclk _ _
      · exact hclk _ _
    · split
      · exact ⟨h2, h3, h4⟩
      · exact ⟨h2, h3, h4⟩
  · split
    · exact hclk _ _
    · exact ⟨h2, h3, h4⟩

/-- What the end of a service clears: the latches and the counters of tamper. -/
def Sleeve.tampCleared (v : Sleeve) : Sleeve :=
  { v with tampElec := 0, tampMech := 0, tamp := v.tamp.map (fun t => { t with latch := false }) }

theorem logAdd_state (k : LogKind) (v : Sleeve) : (logAdd k v).st = v.st ∧ (logAdd k v).legal = v.legal ∧
    (logAdd k v).tampElec = v.tampElec ∧ (logAdd k v).tampMech = v.tampMech ∧ (logAdd k v).tamp = v.tamp := by
  unfold logAdd
  exact ⟨rfl, rfl, rfl, rfl, rfl⟩

theorem slvTo_s (st : SlvState) (x : SX) : (slvTo st x).s = { x.s with st := st } := by
  unfold slvTo
  split
  · next h => rw [← h]
  · rfl

theorem svcClose_closes {w : SvcWork} {x : SX} {l : LegalParams} (hp : x.s.powered = true) (hst : x.s.st = .service)
    (hl : x.s.legal = some l) :
    (svcClose w x).s.st = .run ∧ (svcClose w x).s.tampElec = 0 ∧ (svcClose w x).s.tampMech = 0 ∧
      ∀ k : Fin 5, (svcClose w x).s.tamp[k].latch = false := by
  obtain ⟨-, hlegal, -⟩ := svcDone_facts w hp
  obtain ⟨-, hkept, helec, hmech, htamp⟩ := logAdd_state .serviceExit (svcDone w x.s).tampCleared
  rw [svcClose_of_service hp hst]
  have hfold : ({ svcDone w x.s with
      tampElec := 0, tampMech := 0, tamp := (svcDone w x.s).tamp.map (fun t => { t with latch := false }) } : Sleeve) =
      (svcDone w x.s).tampCleared := rfl
  dsimp only
  rw [hfold]
  generalize logAdd .serviceExit (svcDone w x.s).tampCleared = u at hkept helec hmech htamp ⊢
  have hsome : u.legal.isSome = true := by
    rw [hkept]
    exact (congrArg Option.isSome (hlegal.trans hl)).trans rfl
  rw [if_pos hsome, slvTo_s]
  refine ⟨rfl, helec, hmech, fun k => ?_⟩
  have hk : u.tamp[k] = { (svcDone w x.s).tamp[k] with latch := false } := by
    rw [htamp]
    exact Vector.getElem_map (fun t : Tamp => { t with latch := false }) k.isLt
  exact congrArg Tamp.latch hk

theorem headsJudge_legal (x : SX) : (headsJudge x).s.legal = x.s.legal := by
  unfold headsJudge
  refine List.foldlRecOn (motive := fun y : SX => y.s.legal = x.s.legal) _ _ rfl (fun y h p _ => ?_)
  split
  · unfold headError SX.raise SX.mod
    dsimp only
    split
    · split
      · split
        · exact (Sleeve.base_eq_legal (setNotice_base p _)).trans h
        · exact h
      · exact h
    · exact h
  · exact h

/-! ### The commands -/

section

variable {s : State} (hs : s.hasSleeve = true)

include hs

theorem State.slvOn_of_powered (hp : s.slv.powered = true) : s.slvOn = true := by
  unfold State.slvOn
  rw [hs, hp]
  rfl

section

variable (hp : s.slv.powered = true)

include hp

theorem sleeveCommit_writes :
    ∃ t, exec .sleeveCommit s = .next t ∧ t.slv.mram = { s.slv.reg with mc := s.slv.mc } ∧
      t.slv.mram2 = { s.slv.reg with mc := s.slv.mc } ∧ t.slv.commitAt = s.slv.mc :=
  ⟨_, State.onSlv_exec (State.slvOn_of_powered hs hp) slvCommit, rfl, rfl, rfl⟩

theorem sleevePowerFail_stops (c v : Bool) {u : Sleeve} (hu : (sampleEnd { s := s.slv }).s = u) :
    ∃ t, exec (.sleevePowerFail c v) s = .next t ∧ t.slv.powered = false ∧ t.slv.stopped = true ∧ t.slv.writeOk = c ∧
      t.slv.mram = (if c then { u.reg with mc := s.slv.mc + 250 } else s.slv.mram) ∧ t.slv.vbks = v ∧
      t.slv.lostBoth = (s.slv.lostBoth || !v) ∧ t.slv.clkV = (u.clkV && v) := by
  obtain ⟨t, ht, hslv, -⟩ := State.onSleeve_exec (State.slvOn_of_powered hs hp) (slvPowerFail c v)
  obtain ⟨hb, hmc, -⟩ := sampleEnd_facts (x := { s := s.slv }) hp
  rw [hu] at hb hmc
  have hfail : (slvPowerFail c v { s := s.slv }).s =
      (fun s : Sleeve =>
        let s := if c then slvCommit s else s
        let s := { s with powered := false, stopped := true, writeOk := c, vbks := true }
        if v then s else slvVbksLoss s) u := by
    unfold slvPowerFail
    rw [if_neg (by rw [hp]; exact Bool.false_ne_true), ← hu]
    rfl
  have hmram : u.mram = s.slv.mram := (Sleeve.base_eq_mram hb).symm
  have hlost : u.lostBoth = s.slv.lostBoth := (Sleeve.base_eq_lostBoth hb).symm
  rw [hfail] at hslv
  refine ⟨t, ht, ?_⟩
  rw [hslv, ← hlost, ← hmram, ← hmc]
  cases c <;> cases v <;> simp [slvVbksLoss, slvCommit]

theorem sleeveWatchdog_starts (l : LegalParams) (hst : s.slv.st ≠ .fatal)
    (hsig : Config.hssVerify Config.metroPublic s.slv.fw.img s.slv.fw.sig = true) (hl : s.slv.legal = some l) :
    ∃ t, exec .sleeveWatchdog s = .next t ∧ t.slv.st = .run ∧ t.slv.powered = true ∧ (s.up = true → t.told .sleeveState) := by
  obtain ⟨t, ht, hslv, hev⟩ := State.onSleeve_exec (State.slvOn_of_powered hs hp) slvWatchdog
  obtain ⟨y, hy, hst'⟩ := slvStart_starts true 0 { s := { s.slv with wdog := true } }
  have hdog : slvWatchdog { s := s.slv } = { s := { y.s with st := .run }, evs := y.evs ++ [.sleeveState] } := by
    have hlegal : y.s.legal ≠ none := by
      rw [hst'.legal]
      exact fun h => nomatch h.symm.trans hl
    rw [← startState_run hst'.boot (hst'.fwOk.trans hsig) hlegal, ← hy]
    unfold slvWatchdog
    rw [if_neg (by rw [hp]; simpa using hst)]
    rfl
  rw [hdog] at hslv hev
  exact ⟨t, ht, by rw [hslv], by rw [hslv]; exact hst'.powered, hev _ (List.mem_append_right _ (List.mem_singleton_self _))⟩

theorem metrologySelfTest_judges (r x : Int) (a b : Bool) (hst : s.slv.st = .run) :
    (500 < r.natAbs → ∃ t, exec (.metrologySelfTest r x a b) s = .next t ∧ t.slv.st = .fatal ∧ (s.up = true → t.told .sleeveState)) ∧
    (r.natAbs ≤ 500 → 10000 < x.natAbs → ∃ t, exec (.metrologySelfTest r x a b) s = .next t ∧ t.slv.st = .fatal) ∧
    (r.natAbs ≤ 500 → x.natAbs ≤ 10000 → a = false → b = false → ∃ t, exec (.metrologySelfTest r x a b) s = .next t ∧ t.slv.st = .fatal) ∧
    (r.natAbs ≤ 500 → x.natAbs ≤ 10000 → a ≠ b → ∃ t, exec (.metrologySelfTest r x a b) s = .next t ∧
      t.slv = logAdd .repair { s.slv with
        mram := if a then s.slv.mram else s.slv.mram2, mram2 := if a then s.slv.mram else s.slv.mram2 }) := by
  obtain ⟨t, ht, hslv, hev⟩ := State.onSleeve_exec (State.slvOn_of_powered hs hp) (slvSelfTest r x a b)
  have hnot : ¬ ((!s.slv.powered) = true ∨ s.slv.st = .boot ∨ s.slv.st = .fatal) := by
    rw [hp, hst]
    decide
  have hworks : (s.slv.st == .run || s.slv.st == .service) = true := by
    rw [hst]
    rfl
  have hfatal : ∀ k, slvSelfTest r x a b { s := s.slv } = slvFatal k { s := s.slv } →
      t.slv.st = .fatal ∧ (s.up = true → t.told .sleeveState) := by
    intro k h
    rw [h] at hslv hev
    obtain ⟨hb, he⟩ := fatalTo_facts (x := SX.mod { s := s.slv } (logAdd (.fatalCause k)))
      (show s.slv.st ≠ .fatal by rw [hst]; decide)
    exact ⟨(congrArg Sleeve.st hslv).trans (Sleeve.base_eq_st hb), hev _ he⟩
  unfold slvSelfTest at hfatal hslv
  dsimp only at hfatal hslv
  rw [if_neg hnot, hworks] at hfatal hslv
  refine ⟨fun h => ?_, fun h1 h2 => ?_, fun h1 h2 ha hb => ?_, fun h1 h2 hab => ?_⟩
  · exact ⟨t, ht, hfatal 1 (by rw [if_pos ⟨rfl, h⟩])⟩
  · exact ⟨t, ht, (hfatal 2 (by rw [if_neg (by omega), if_pos ⟨rfl, h2⟩])).1⟩
  · exact ⟨t, ht, (hfatal 3 (by rw [if_neg (by omega), if_neg (by omega), if_pos (by rw [ha, hb]; exact ⟨rfl, rfl, rfl⟩)])).1⟩
  · rw [if_neg (by omega), if_neg (by omega), if_neg (by cases a <;> cases b <;> simp_all), if_pos (by simpa using hab)] at hslv
    exact ⟨t, ht, hslv⟩

theorem serviceSessionOpen_opens (hst : s.slv.st = .run) :
    ∃ t, exec (.serviceSessionOpen true) s = .next t ∧ t.slv.st = .service ∧ (s.up = true → t.told .sleeveState) := by
  obtain ⟨t, ht, hslv, hev⟩ := State.onSleeve_exec (State.slvOn_of_powered hs hp) (svcOpen true)
  have hns : ¬ (SX.mod { s := s.slv } (logAdd .serviceEntry)).s.st = .service := by
    show ¬ s.slv.st = .service
    rw [hst]
    decide
  unfold svcOpen slvTo at hslv hev
  rw [if_pos (by rw [hp, hst]; rfl), if_neg hns] at hslv hev
  exact ⟨t, ht, by rw [hslv]; rfl, hev _ (List.mem_append_right _ (List.mem_singleton_self _))⟩

theorem serviceSessionClose_closes (l : LegalParams) (w : SvcWork) (hst : s.slv.st = .service) (hl : s.slv.legal = some l) :
    ∃ t, exec (.serviceSessionClose w) s = .next t ∧ t.slv.st = .run ∧ t.slv.tampElec = 0 ∧ t.slv.tampMech = 0 ∧
      ∀ k : Fin 5, t.slv.tamp[k].latch = false := by
  obtain ⟨t, ht, hslv, -⟩ := State.onSleeve_exec (State.slvOn_of_powered hs hp) (svcClose w)
  refine ⟨t, ht, ?_⟩
  rw [hslv]
  exact svcClose_closes hp hst hl

theorem firmwareLoad_stores (v : Nat) (img sig : List Byte) (hst : s.slv.st = .service ∨ (s.slv.st = .fatal ∧ s.slv.fwOk = false)) :
    ∃ t, exec (.firmwareLoad v img sig) s = .next t ∧ t.slv = { s.slv with fw := { version := v % 2 ^ 24, img := img, sig := sig } } := by
  refine ⟨_, State.onSlv_exec (State.slvOn_of_powered hs hp) (fwLoad v img sig), ?_⟩
  unfold fwLoad
  rcases hst with h | ⟨h, hok⟩
  · rw [if_pos (by rw [hp, h]; rfl)]
  · rw [if_pos (by rw [hp, h, hok]; rfl)]

theorem legalParamLoad_stores (l : LegalParams) (sig : List Byte) (hst : s.slv.st = .service) (hok : l.ok = true) :
    ∃ t, exec (.legalParamLoad l sig) s = .next t ∧
      t.slv.legal = (if Config.hssVerify Config.metroPublic (Config.legalLayout l.words) sig then some l else s.slv.legal) := by
  obtain ⟨t, ht, hslv, -⟩ := State.onSleeve_exec (State.slvOn_of_powered hs hp) (legalLoad l sig)
  refine ⟨t, ht, ?_⟩
  rw [hslv]
  unfold legalLoad
  cases hv : Config.hssVerify Config.metroPublic (Config.legalLayout l.words) sig with
  | true =>
    rw [if_pos (show (s.slv.powered && s.slv.st == .service && l.ok && true) = true by rw [hp, hst, hok]; rfl), if_pos rfl]
    exact headsJudge_legal _
  | false => rw [if_neg (by rw [Bool.and_false]; exact Bool.false_ne_true), if_neg Bool.false_ne_true]

end

section

variable (hp : s.slv.powered = false)

include hp

theorem State.unpowered_exec (f : State → State) :
    (.next (s.onlyIf (s.hasSleeve && !s.slv.powered) f) : Host.Outcome State Fault Refusal) = .next (f s) :=
  congrArg Host.Outcome.next (State.onlyIf_of (by rw [hs, hp]; rfl) f s)

end

end

/-- An interruption that a start ends changes the intake's detector and the registers alone. -/
theorem slvPowerOn_start (d refresh n : Nat) (v : Bool) {x : SX} (hp : x.s.powered = false) :
    ∃ i r, (slvPowerOn d refresh n v x).s = { (slvStart (!x.s.writeOk) d (x.mod (fun s => { s with vbks := v }))).s with inp := i, reg := r } := by
  unfold slvPowerOn
  rw [if_neg (by rw [hp]; exact Bool.false_ne_true)]
  dsimp only
  split
  · exact ⟨_, _, rfl⟩
  · exact ⟨_, _, rfl⟩

theorem sleevePowerOn_starts {s : State} (hs : s.hasSleeve = true) (hp : s.slv.powered = false) (e r : Nat) (v : Bool) :
    ∃ t, exec (.sleevePowerOn e r v) s = .next t ∧ t.slv.powered = true ∧ t.slv.stopped = false ∧ t.slv.vbks = v ∧
      t.slv.fwVer = s.slv.fw.version ∧ t.slv.fwHash = beBytes 32 (Config.sha256 s.slv.fw.img) ∧
      t.slv.st = (if Config.hssVerify Config.metroPublic s.slv.fw.img s.slv.fw.sig = false then .fatal
        else if s.slv.legal = none then .unsealed else .run) := by
  obtain ⟨y, hy, hst⟩ := slvStart_starts (!s.slv.writeOk) e { s := { s.slv with vbks := v } }
  have hbase := startState_base hst.boot
  obtain ⟨i, k, hon⟩ := slvPowerOn_start e r s.free.1 v (x := { s := s.slv }) hp
  have hon' : (slvPowerOn e r s.free.1 v { s := s.slv }).s = { (startState y).s with inp := i, reg := k } := by
    rw [hon, ← hy]
    rfl
  refine ⟨s.powerSleeve e r v, State.unpowered_exec hs hp _, ?_⟩
  rw [show (s.powerSleeve e r v).slv = { (startState y).s with inp := i, reg := k } from (State.slvDo_slv _ _).trans hon']
  generalize (startState y).s = z at hbase ⊢
  refine ⟨(Sleeve.base_eq_powered hbase).trans hst.powered, (Sleeve.base_eq_stopped hbase).trans hst.stopped,
    (Sleeve.base_eq_vbks hbase).trans hst.vbks, (Sleeve.base_eq_fwVer hbase).trans hst.fwVer,
    (Sleeve.base_eq_fwHash hbase).trans hst.fwHash, (Sleeve.base_eq_st hbase).trans ?_⟩
  rw [hst.fwOk, hst.legal]

theorem vbksLoss_loses {s : State} (hs : s.hasSleeve = true) (hp : s.slv.powered = false) :
    ∃ t, exec .vbksLoss s = .next t ∧ t.slv = { s.slv with vbks := false, lostBoth := true, clkV := false } := by
  refine ⟨_, State.unpowered_exec hs hp (State.slvMod slvVbksLoss), ?_⟩
  unfold State.slvMod slvVbksLoss
  rw [if_neg (by rw [hp]; exact Bool.false_ne_true)]

/-- Settles O31: a start restores, passes its boundaries and leaves BOOT for the state that its signature and its legal parameters give;
the other commands of the Sleeve's states do what Table 8.8 says of them. -/
theorem sleeveStatesChange : Obligations.SleeveStatesChange := by
  unfold Obligations.SleeveStatesChange
  intro s hs
  refine ⟨fun hp => ⟨sleeveCommit_writes hs hp, fun c v => sleevePowerFail_stops hs hp c v rfl, ?_, metrologySelfTest_judges hs hp,
    serviceSessionOpen_opens hs hp, serviceSessionClose_closes hs hp, firmwareLoad_stores hs hp, legalParamLoad_stores hs hp⟩,
    fun hp => ⟨sleevePowerOn_starts hs hp, vbksLoss_loses hs hp⟩⟩
  exact fun l hst hsig hl => sleeveWatchdog_starts hs hp l hst hsig hl

end Sys2Proof.Machine
end

section
/-! ## The command frames of the Sleeve (O32: `SleeveCommandsAct`) -/

namespace Sys2Proof.Machine

/-- An authentic frame that is newer than the last one of its lane is accepted (R247). -/
theorem slvCommand_accepts {code k : Nat} {f : CmdFrame} {v : Sleeve} (hp : v.powered = true) (hk : v.lane[f.lane].key = some k)
    (htag : f.tag = tag16 k (f.head code)) (hctr : v.lane[f.lane].ctr = none) : slvCommand code f v = slvAccept code f v := by
  unfold slvCommand
  rw [if_neg (by rw [hp]; exact Bool.false_ne_true)]
  dsimp only
  rw [hk, hctr]
  dsimp only
  rw [if_neg (by simp [htag]), if_neg Bool.false_ne_true]

/-- A SET_TIME to second 0 with offset 0, under the key 0 of its lane. -/
def setTimeToZero : CmdFrame :=
  { lane := 0, alen := 0, ctr := 1, args := [],
    tag := tag16 0 (CmdFrame.head 0x10 { lane := 0, alen := 0, ctr := 1, args := [], tag := [] }) }

/-- A running Sleeve whose valid clock shows second 0, and whose lanes have the key 0. -/
def sleeveAtZero : State :=
  { slv := { powered := true, st := .run, clkV := true, lane := Vector.replicate 2 { key := some 0 } } }

theorem sleeveAtZero_takes : sleeveAtZero.SlvTakes 0x10 setTimeToZero where
  on := by decide
  boot := by decide
  fatal := by decide
  tag := ⟨0, rfl, rfl⟩
  newer := fun _ h => nomatch h

/-- At the end of the sample the clock shows the second that the frame sets, with the fraction that it had. -/
theorem setTimeToZero_keeps_fraction : (sampleEnd { s := slvAccept 0x10 setTimeToZero sleeveAtZero.slv }).s.utc = 250 := by decide +kernel

/-- Refutes O32: a SET_TIME to the second that the clock already shows leaves the fraction of that second (`sleeveAtZero`, with
`setTimeToZero`: the clock stands at 250 µs after its sample, not at 0). -/
theorem not_sleeveCommandsAct : ¬ Obligations.SleeveCommandsAct := by
  unfold Obligations.SleeveCommandsAct
  intro h
  obtain ⟨t, ht, -, v, hv, hutc, -⟩ := (h sleeveAtZero setTimeToZero).2.1 sleeveAtZero_takes ⟨by decide, by decide⟩ (by decide +kernel)
    (by decide +kernel)
  have hset := State.onSlv_exec sleeveAtZero_takes.on (slvCommand 0x10 setTimeToZero)
  rw [slvCommand_accepts rfl rfl rfl rfl] at hset
  have hts : t = { sleeveAtZero with slv := slvAccept 0x10 setTimeToZero sleeveAtZero.slv } := Host.Outcome.next.inj (ht.symm.trans hset)
  have hon : t.slvOn = true := by
    rw [hts]
    rfl
  obtain ⟨w, hw, hwslv, -⟩ := State.onSleeve_exec hon sampleEnd
  have hvw : v = w := Host.Outcome.next.inj (hv.symm.trans hw)
  rw [hvw, hwslv, hts, setTimeToZero_keeps_fraction] at hutc
  exact absurd hutc (by decide)

end Sys2Proof.Machine
end

section
/-! ## Link loss, records, gates and tamper (O33: `BillingAndTamperAct`) -/

namespace Sys2Proof.Machine

/-! ### Link loss (R251) -/

/-- The step of `linkLossClose` for one port. -/
def closeForLinkLoss (s : Sleeve) (p : Nat) : Sleeve :=
  match atD s.sess p none with
  | none => s
  | some x =>
    let e := atD s.reg.port p {}
    let x := if x.latched then x else { x with latched := true, startImp := wh e.imp, startExp := wh e.exp }
    let x := { x with endR := 255, linkLoss := true, mcStop := s.mcS, tStop := s.stampUtc, clkStop := s.clkV }
    let en := atD s.reg.sess p {}
    let s := { s with sess := updN s.sess p (fun _ => none), lastClosed := updN s.lastClosed p (fun l => x.num :: l),
                      reg := { s.reg with sess := updN s.reg.sess p (fun _ => {}) },
                      gate := updN s.gate p (fun g => if x.prepaid then
                          { g with open_ := true, openAt := s.mc, judged := false, linkLoss := true } else g) }
    formRecord p x en (wh e.imp) (wh e.exp) s

theorem linkLossClose_eq (s : Sleeve) : linkLossClose s = (List.range 12).foldl closeForLinkLoss s := rfl

/-- What one port of the Sleeve shows of its session. -/
def Sleeve.sessionAt (v : Sleeve) (p : Fin 12) : Option Sess × List Nat × SlvGate := (v.sess[p], v.lastClosed[p], v.gate[p])

theorem closeForLinkLoss_none {v : Sleeve} {q : Nat} (h : atD v.sess q none = none) : closeForLinkLoss v q = v := by
  unfold closeForLinkLoss
  rw [h]

theorem closeForLinkLoss_some {v : Sleeve} {q : Fin 12} {x : Sess} (h : v.sess[q] = some x) :
    ∃ w, closeForLinkLoss v q = w ∧ w.recSeq = v.recSeq + 1 ∧
      w.sess = updN v.sess q (fun _ => none) ∧ w.lastClosed = updN v.lastClosed q (fun l => x.num :: l) ∧
      w.gate = updN v.gate q (fun g => if x.prepaid then
        { g with open_ := true, openAt := v.mc, judged := false, linkLoss := true } else g) := by
  have hx : atD v.sess q none = some x := (atD_val _ _ _).trans h
  unfold closeForLinkLoss
  rw [hx]
  dsimp only
  split
  · exact ⟨_, rfl, rfl, rfl, rfl, rfl⟩
  · exact ⟨_, rfl, rfl, rfl, rfl, rfl⟩

theorem closeForLinkLoss_other {v : Sleeve} {p : Fin 12} {q : Nat} (hq : q ≠ p) :
    (closeForLinkLoss v q).sessionAt p = v.sessionAt p := by
  unfold closeForLinkLoss
  split
  · rfl
  · exact congrArg₂ Prod.mk (updN_ne _ _ p.isLt hq) (congrArg₂ Prod.mk (updN_ne _ _ p.isLt hq) (updN_ne _ _ p.isLt hq))

theorem closeForLinkLoss_recSeq (v : Sleeve) (q : Nat) : v.recSeq ≤ (closeForLinkLoss v q).recSeq := by
  unfold closeForLinkLoss
  split
  · exact Nat.le_refl _
  · exact Nat.le_succ _

/-- A fold over the places of a vector: those before place `p`, that place, and those after it. -/
theorem foldl_range_at {N : Nat} {σ : Type} (f : σ → Nat → σ) (s : σ) (p : Fin N) :
    ∃ l₁ l₂ : List Nat, p.val ∉ l₁ ∧ p.val ∉ l₂ ∧ (List.range N).foldl f s = l₂.foldl f (f (l₁.foldl f s) p) := by
  obtain ⟨l₁, l₂, hl⟩ := List.append_of_mem (List.mem_range.2 p.isLt)
  have hnd : (l₁ ++ p.val :: l₂).Nodup := hl ▸ List.nodup_range
  refine ⟨l₁, l₂, fun h => (List.nodup_append.1 hnd).2.2 _ h _ (List.mem_cons_self ..) rfl,
    (List.nodup_cons.1 (List.nodup_append.1 hnd).2.1).1, ?_⟩
  rw [hl, List.foldl_append, List.foldl_cons]

theorem foldl_closeForLinkLoss (l : List Nat) (v : Sleeve) :
    v.recSeq ≤ (l.foldl closeForLinkLoss v).recSeq ∧ ∀ p : Fin 12, p.val ∉ l → (l.foldl closeForLinkLoss v).sessionAt p = v.sessionAt p :=
  ⟨List.foldlRecOn (motive := fun t : Sleeve => v.recSeq ≤ t.recSeq) l _ (Nat.le_refl _) (fun t h q _ => h.trans (closeForLinkLoss_recSeq t q)),
   fun p hp => List.foldlRecOn (motive := fun t : Sleeve => t.sessionAt p = v.sessionAt p) l _ rfl
     (fun _ h _ hq => (closeForLinkLoss_other (fun e => hp (e ▸ hq))).trans h)⟩

/-- The loss of the link closes an open session with its mark and its record; a prepaid one's gate opens (R251, R277). -/
theorem linkLossClose_closes {v : Sleeve} {p : Fin 12} {x : Sess} (h : v.sess[p] = some x) :
    ∃ w, linkLossClose v = w ∧ w.sess[p] = none ∧ w.lastClosed[p] = x.num :: v.lastClosed[p] ∧ v.recSeq < w.recSeq ∧
      (x.prepaid = true → w.gate[p].open_ = true ∧ w.gate[p].linkLoss = true) := by
  obtain ⟨l₁, l₂, h₁, h₂, hl⟩ := foldl_range_at closeForLinkLoss v p
  obtain ⟨hle₁, hat₁⟩ := foldl_closeForLinkLoss l₁ v
  have hb := hat₁ p h₁
  generalize l₁.foldl closeForLinkLoss v = a at hl hle₁ hb
  have hsess : a.sess[p] = some x := (congrArg Prod.fst hb).trans h
  have hlast : a.lastClosed[p] = v.lastClosed[p] := congrArg (fun c => c.2.1) hb
  obtain ⟨b, hab, hrec, hbs, hbl, hbg⟩ := closeForLinkLoss_some hsess
  rw [hab] at hl
  obtain ⟨hle₂, hat₂⟩ := foldl_closeForLinkLoss l₂ b
  have hc := hat₂ p h₂
  rw [← hl] at hle₂ hc
  have hone : b.sess[p] = none ∧ b.lastClosed[p] = x.num :: v.lastClosed[p] ∧
      (x.prepaid = true → b.gate[p].open_ = true ∧ b.gate[p].linkLoss = true) := by
    have e1 := (congrArg (fun v : Vector _ 12 => v[p]) hbs).trans (updN_same _ _ _ p.isLt)
    have e2 := (congrArg (fun v : Vector _ 12 => v[p]) hbl).trans (updN_same _ _ _ p.isLt)
    have e3 := (congrArg (fun v : Vector _ 12 => v[p]) hbg).trans (updN_same _ _ _ p.isLt)
    refine ⟨e1, e2.trans (congrArg (x.num :: ·) hlast), fun hx => ?_⟩
    rw [hx, if_pos rfl] at e3
    exact ⟨congrArg SlvGate.open_ e3, congrArg SlvGate.linkLoss e3⟩
  refine ⟨_, linkLossClose_eq v, (congrArg Prod.fst hc).trans hone.1, (congrArg (fun c => c.2.1) hc).trans hone.2.1, by omega, fun hx => ?_⟩
  have hg : ((List.range 12).foldl closeForLinkLoss v).gate[p] = b.gate[p] := congrArg (fun c => c.2.2) hc
  rw [hg]
  exact hone.2.2 hx

/-! ### Tamper -/

theorem tampBegin_begins {k : Fin 5} {a : Nat} {x : SX} (hheld : x.s.tamp[k].heldAt = some a) (hact : x.s.tamp[k].active = false)
    (ht : a + (if k.val = 0 ∨ k.val = 1 then 10000000 else if k.val = 2 then 5000000 else 50000) ≤ x.s.mc) (hp : x.s.powered = true)
    (hon : k.val < 3 → x.s.intakeOn = true) :
    ∃ w, tampBegin k x = { s := w, evs := x.evs ++ [.meterTamper] } ∧ w.tamp[k].active = true ∧ w.tamp[k].latch = true ∧
      w.tampElec = (if k.val < 3 then satInc 8 x.s.tampElec else x.s.tampElec) ∧
      w.tampMech = (if k.val < 3 then x.s.tampMech else satInc 8 x.s.tampMech) := by
  have hnot : ¬ (x.s.tamp[k].active = true ∨
      x.s.mc < a + (if k.val = 0 ∨ k.val = 1 then 10000000 else if k.val = 2 then 5000000 else 50000)) := by
    rw [hact]
    simpa using ht
  have hnot' : ¬ (k.val < 3 ∧ (!x.s.intakeOn) = true) := fun ⟨h, h'⟩ => by rw [hon h] at h'; cases h'
  have hraise : ∀ y : SX, y.s.powered = true →
      (if y.s.powered then y.raise .meterTamper else y.mod (fun s => { s with pendTamp := s.pendTamp + 1 })) = y.raise .meterTamper :=
    fun y h => if_pos h
  unfold tampBegin
  dsimp only
  rw [hheld]
  dsimp only
  rw [if_neg hnot, if_neg hnot', hraise]
  · refine ⟨_, rfl, ?_, ?_, rfl, rfl⟩
    · exact congrArg Tamp.active (upd_same x.s.tamp k _)
    · exact congrArg Tamp.latch (upd_same x.s.tamp k _)
  · exact hp

theorem tampEnd_ends {k : Fin 5} {a : Nat} {v : Sleeve} (hgone : v.tamp[k].goneAt = some a) (hact : v.tamp[k].active = true)
    (ht : a + (if k.val < 3 then 10000000 else 50000) ≤ v.mc) (hon : k.val < 3 → v.intakeOn = true) :
    (tampEnd k v).tamp[k] = { v.tamp[k] with active := false } := by
  have hnot : ¬ ((!v.tamp[k].active) = true ∨ v.mc < a + (if k.val < 3 then 10000000 else 50000) ∨ (k.val < 3 ∧ (!v.intakeOn) = true)) := by
    rintro (h | h | ⟨h, h'⟩)
    · rw [hact] at h
      cases h
    · omega
    · rw [hon h] at h'
      cases h'
  have he : tampEnd k v = logAdd (.tamperEnd k.val) { v with tamp := upd v.tamp k (fun t => { t with active := false }) } := by
    unfold tampEnd
    dsimp only
    rw [hgone]
    dsimp only
    rw [if_neg hnot]
  rw [he]
  exact upd_same v.tamp k _

/-! ### The commands -/

section

variable {s : State}

theorem linkLossClose_exec (hs : s.slvOn = true) (p : Fin 12) (x : Sess) (halive : ∀ k : Fin 2, s.slv.lane[k].aliveAt + 10000000 ≤ s.slv.mc)
    (hx : s.slv.sess[p] = some x) :
    ∃ t, exec .linkLossClose s = .next t ∧ t.slv.sess[p] = none ∧ t.slv.lastClosed[p] = x.num :: s.slv.lastClosed[p] ∧
      s.slv.recSeq < t.slv.recSeq ∧ (x.prepaid = true → t.slv.gate[p].open_ = true ∧ t.slv.gate[p].linkLoss = true) := by
  have hall : s.slv.lane.toList.all (fun l => decide (l.aliveAt + 10000000 ≤ s.slv.mc)) = true := by
    rw [List.all_eq_true]
    intro l hl
    obtain ⟨i, hi, rfl⟩ := Vector.mem_iff_getElem.1 (Vector.mem_toList_iff.1 hl)
    exact decide_eq_true (halive ⟨i, hi⟩)
  obtain ⟨w, hw, hfacts⟩ := linkLossClose_closes hx
  have he : linkLoss s.slv = w := by
    unfold linkLoss
    rw [if_pos ⟨Sleeve.powered_of_slvOn hs, hall⟩, hw]
  refine ⟨{ s with slv := w }, ?_, hfacts⟩
  rw [← he]
  exact State.onSlv_exec hs linkLoss

theorem recordResend_resends (hs : s.slvOn = true) (seq : Nat) (r : Rec) (hr : s.slv.recs.find? (fun r => r.seq == seq) = some r)
    (hsent : r.sent = 0) (ht : r.formedAt + 1000000 ≤ s.slv.mc) :
    ∃ t, exec (.recordResend seq) s = .next t ∧ t.slv.recs = s.slv.recs.map (fun q => if q.seq = seq then { q with sent := q.sent + 1 } else q) ∧
      (segFrames r.seq false (r.body ++ r.sig)) <+: (t.slv.outq.drop s.slv.outq.length) := by
  have he : recResend seq s.slv =
      sendRec r { s.slv with recs := s.slv.recs.map (fun q => if q.seq = seq then { q with sent := q.sent + 1 } else q) } := by
    unfold recResend
    rw [hr]
    dsimp only
    rw [hsent]
    exact if_pos ⟨Sleeve.powered_of_slvOn hs, ht⟩
  refine ⟨{ s with slv := recResend seq s.slv }, State.onSlv_exec hs (recResend seq), ?_⟩
  rw [he]
  unfold sendRec
  refine ⟨rfl, ?_⟩
  dsimp only
  rw [List.append_assoc, List.drop_left]
  exact List.prefix_append _ _

theorem creditGateOpen_opens (hs : s.slvOn = true) (p : Fin 12) (x : Sess) (hport : s.hasPort p = true) (hr : s.slv.registers = true)
    (hn : s.slv.gate[p].notice = true) (ht : s.slv.gate[p].noticeAt + s.slv.lp.leadT * 1000000 ≤ s.slv.mc) (hx : s.slv.sess[p] = some x)
    (hpre : x.prepaid = true) (hopen : s.slv.gate[p].open_ = false) :
    ∃ t, exec (.creditGateOpen p) s = .next t ∧ t.slv.gate[p].open_ = true ∧ t.slv.gate[p].openAt = s.slv.mc ∧
      t.slv.sess[p] = some { x with creditFl := true } := by
  have hg : atD s.slv.gate p {} = s.slv.gate[p] := atD_val _ _ _
  have hxs : atD s.slv.sess p none = some x := (atD_val _ _ _).trans hx
  have he : creditGate p s.slv = openGate p s.slv := by
    unfold creditGate
    dsimp only
    rw [hg, hxs, if_pos ⟨hr, hn, ht, by simpa using hpre⟩]
  refine ⟨{ s with slv := creditGate p s.slv }, ?_, ?_⟩
  · rw [← State.onSlv_exec hs (creditGate p)]
    exact congrArg Host.Outcome.next (State.onlyIf_of hport _ s)
  · rw [he]
    unfold openGate
    dsimp only
    rw [hg, if_neg (by rw [hopen]; exact Bool.false_ne_true)]
    refine ⟨congrArg SlvGate.open_ (updN_same s.slv.gate p _ p.isLt), congrArg SlvGate.openAt (updN_same s.slv.gate p _ p.isLt), ?_⟩
    exact (updN_same s.slv.sess p _ p.isLt).trans (congrArg (Option.map (fun x : Sess => { x with creditFl := true })) hx)

theorem gateFeedbackCheck_judges (hs : s.slvOn = true) (p : Fin 12) (fb : Bool) (hport : s.hasPort p = true)
    (hopen : s.slv.gate[p].open_ = true) (hj : s.slv.gate[p].judged = false) (ht : s.slv.gate[p].openAt + 200000 ≤ s.slv.mc) :
    ∃ t, exec (.gateFeedbackCheck p fb) s = .next t ∧ t.slv.gate[p].fb = fb ∧
      t.slv.gate[p].judged = true ∧ t.slv.gate[p].fail = (s.slv.gate[p].fail || fb) ∧ (fb = true → s.up = true → t.told .sleeveGateFail) := by
  obtain ⟨t, hex, hslv, hev⟩ := State.onHead_exec hs hport (gateFeedback p fb)
  obtain ⟨v, hv⟩ : ∃ v : Sleeve, { s.slv with gate := updN s.slv.gate p (fun g => { g with fb := fb }) } = v := ⟨_, rfl⟩
  have hvg : v.gate[p] = { s.slv.gate[p] with fb := fb } := by
    rw [← hv]
    exact updN_same s.slv.gate p _ p.isLt
  have hvm : v.mc = s.slv.mc := by rw [← hv]
  have hg : atD v.gate p {} = v.gate[p] := atD_val _ _ _
  have hdue : (v.gate[p]).open_ = true ∧ (!(v.gate[p]).judged) = true ∧ (v.gate[p]).openAt + 200000 ≤ v.mc := by
    rw [hvg, hvm]
    exact ⟨hopen, by rw [hj]; rfl, ht⟩
  obtain ⟨w, hw⟩ : ∃ w : Sleeve, { v with gate := updN v.gate p (fun g => { g with judged := true, fail := g.fail || fb }) } = w := ⟨_, rfl⟩
  have hwg : w.gate[p] = { s.slv.gate[p] with fb := fb, judged := true, fail := s.slv.gate[p].fail || fb } := by
    rw [← hw]
    exact (updN_same v.gate p _ p.isLt).trans (congrArg (fun g : SlvGate => { g with judged := true, fail := g.fail || fb }) hvg)
  have he : gateFeedback p fb { s := s.slv } =
      if fb then ((SX.mod { s := w } (fun s => logAdd (.gateFail p)
        { s with sess := updN s.sess p (fun o => o.map (fun q => { q with gateFail := true })) })).raise .sleeveGateFail) else { s := w } := by
    unfold gateFeedback
    rw [if_neg (by rw [Sleeve.powered_of_slvOn hs]; exact Bool.false_ne_true),
      show SX.mod { s := s.slv } (fun s => { s with gate := updN s.gate p (fun g => { g with fb := fb }) }) = { s := v } by rw [← hv]; rfl]
    dsimp only
    rw [hg, if_pos hdue, ← hw]
    rfl
  rw [he] at hslv hev
  have hgate : t.slv.gate[p] = w.gate[p] := by
    rw [hslv]
    split <;> rfl
  refine ⟨t, hex, ?_⟩
  rw [hgate, hwg]
  refine ⟨rfl, rfl, rfl, fun hfb => ?_⟩
  rw [hfb, if_pos rfl] at hev
  exact hev _ (List.mem_append_right _ (List.mem_singleton_self _))

theorem tamperConditionBegin_begins (hs : s.hasSleeve = true) (k : Fin 5) (a : Nat) (hheld : s.slv.tamp[k].heldAt = some a)
    (hact : s.slv.tamp[k].active = false)
    (ht : a + (if k.val = 0 ∨ k.val = 1 then 10000000 else if k.val = 2 then 5000000 else 50000) ≤ s.slv.mc) (hp : s.slv.powered = true)
    (hon : k.val < 3 → s.slv.intakeOn = true) :
    ∃ t, exec (.tamperConditionBegin k) s = .next t ∧ t.slv.tamp[k].active = true ∧ t.slv.tamp[k].latch = true ∧
      t.slv.tampElec = (if k.val < 3 then satInc 8 s.slv.tampElec else s.slv.tampElec) ∧
      t.slv.tampMech = (if k.val < 3 then s.slv.tampMech else satInc 8 s.slv.tampMech) ∧ (s.up = true → t.told .meterTamper) := by
  obtain ⟨w, hw, h1, h2, h3, h4⟩ := tampBegin_begins (x := { s := s.slv }) hheld hact ht hp hon
  obtain ⟨t, hex, hslv, hev⟩ := State.onSleeve_exec (State.slvOn_of_powered hs hp) (tampBegin k)
  rw [hw] at hslv hev
  refine ⟨t, ?_, ?_⟩
  · rw [← hex]
    exact congrArg Host.Outcome.next ((State.onlyIf_of hs _ s).trans (State.onlyIf_of (State.slvOn_of_powered hs hp) _ s).symm)
  · rw [hslv]
    exact ⟨h1, h2, h3, h4, hev _ (List.mem_append_right _ (List.mem_singleton_self _))⟩

theorem tamperConditionEnd_ends (hs : s.hasSleeve = true) (k : Fin 5) (a : Nat) (hgone : s.slv.tamp[k].goneAt = some a)
    (hact : s.slv.tamp[k].active = true) (ht : a + (if k.val < 3 then 10000000 else 50000) ≤ s.slv.mc)
    (hon : k.val < 3 → s.slv.intakeOn = true) :
    ∃ t, exec (.tamperConditionEnd k) s = .next t ∧ t.slv.tamp[k] = { s.slv.tamp[k] with active := false } :=
  ⟨_, congrArg Host.Outcome.next (State.onlyIf_of hs _ s), tampEnd_ends hgone hact ht hon⟩

theorem coverSwitchSample_powered (hs : s.hasSleeve = true) (hp : s.slv.powered = true) (hm : bitOf 0 s.slv.lp.tampM = true) :
    (∃ t, exec (.coverSwitchSample true false) s = .next t ∧ t.slv.mc = s.slv.mc ∧
      t.slv.tamp[(3 : Fin 5)].heldAt = some (s.slv.tamp[(3 : Fin 5)].heldAt.getD s.slv.mc)) ∧
    (∃ t, exec (.coverSwitchSample false false) s = .next t ∧ t.slv.tamp[(3 : Fin 5)].heldAt = none) := by
  have hcover : ∀ m : Bool, ∃ w, coverSample m false s.slv = w ∧ w.mc = s.slv.mc ∧
      w.tamp[(3 : Fin 5)] = tampCycle (m && bitOf 0 s.slv.lp.tampM) s.slv.mc s.slv.tamp[(3 : Fin 5)] := by
    intro m
    refine ⟨_, rfl, ?_⟩
    unfold coverSample
    rw [if_neg (by rw [hp]; exact fun h => nomatch h.1), if_pos hp]
    refine ⟨rfl, ?_⟩
    exact (updN_ne _ _ (by decide) (by decide)).trans (updN_same s.slv.tamp 3 _ (by decide))
  obtain ⟨w, hw, hmc, ht⟩ := hcover true
  obtain ⟨u, hu, -, ht'⟩ := hcover false
  refine ⟨⟨{ s with slv := w }, ?_, hmc, ?_⟩, { s with slv := u }, ?_, ?_⟩
  · rw [← hw]
    exact congrArg Host.Outcome.next (State.onlyIf_of hs _ s)
  · rw [hm] at ht
    exact congrArg Tamp.heldAt ht
  · rw [← hu]
    exact congrArg Host.Outcome.next (State.onlyIf_of hs _ s)
  · exact congrArg Tamp.heldAt ht'

theorem coverSwitchSample_unpowered (hs : s.hasSleeve = true) (hp : s.slv.powered = false) (hv : s.slv.vbks = true) (m u : Bool) :
    ∃ t, exec (.coverSwitchSample m u) s = .next t ∧ t.slv.mc = s.slv.mc + 10000 := by
  refine ⟨_, congrArg Host.Outcome.next (State.onlyIf_of hs _ s), ?_⟩
  unfold State.slvMod coverSample
  rw [if_neg (by rw [hv]; simp), if_neg (by rw [hp]; exact Bool.false_ne_true)]

end

/-- Settles O33: each command through the one function of the Sleeve that carries it out; the close of R251 port by port. -/
theorem billingAndTamperAct : Obligations.BillingAndTamperAct := by
  unfold Obligations.BillingAndTamperAct
  intro s
  exact ⟨fun p x hs halive hx => linkLossClose_exec hs p x halive hx, fun seq r hs hr hsent ht => recordResend_resends hs seq r hr hsent ht,
    fun p x hs hport hr hn ht hx hpre hopen => creditGateOpen_opens hs p x hport hr hn ht hx hpre hopen,
    fun p fb hs hport hopen hj ht => gateFeedbackCheck_judges hs p fb hport hopen hj ht,
    fun k a hs hheld hact ht hp hon => tamperConditionBegin_begins hs k a hheld hact ht hp hon,
    fun k a hs hgone hact ht _ hon => tamperConditionEnd_ends hs k a hgone hact ht hon,
    fun hs hp hm => coverSwitchSample_powered hs hp hm, fun hs hp hv => coverSwitchSample_unpowered hs hp hv⟩

end Sys2Proof.Machine
end

section
/-! ## Rules of the pair link: what sending, judging and acceptance leave of Seam -/

namespace Sys2Proof.Machine

/-! ### The part of Seam that sending does not touch -/

/-- Seam without what its frames count and queue: generation, sequence numbers, entries kept, and the queues of the lanes. -/
def Seam.core (m : Seam) : Seam :=
  { m with
    gen := 0, genKey := none, txSeq := 0, rxSeq := none, asked := false, jSent := none, jAck := none, unacked := [], kept := [], held := none,
    lane := m.lane.map (fun l => { l with freeAt := 0 }) }

theorem map_updN {α β : Type} {n : Nat} {g : α → β} {f : α → α} (h : ∀ a, g (f a) = g a) (v : Vector α n) (i : Nat) :
    (updN v i f).map g = v.map g := by
  apply Vector.ext
  intro j hj
  rw [Vector.getElem_map, Vector.getElem_map]
  by_cases hij : i = j
  · subst hij
    rw [updN_same _ _ _ hj, h]
  · rw [updN_ne _ _ hj hij]

theorem Seam.setGen_core (g : Nat) (m : Seam) : (m.setGen g).core = m.core := rfl

theorem Seam.core_lane {m n : Seam} (h : m.core = n.core) (k : Fin 2) : m.lane[k].up = n.lane[k].up ∧ m.lane[k].downAt = n.lane[k].downAt := by
  have hv : m.lane.map (fun l => { l with freeAt := 0 }) = n.lane.map (fun l => { l with freeAt := 0 }) :=
    congrArg (a₁ := m.core) (a₂ := n.core) Seam.lane h
  have hk := congrArg (fun v : Vector SeamLane 2 => v[k]) hv
  simp only [Fin.getElem_fin, Vector.getElem_map, SeamLane.mk.injEq, and_true] at hk
  exact hk

theorem Seam.core_role {m n : Seam} (h : m.core = n.core) : m.role = n.role := congrArg (a₁ := m.core) (a₂ := n.core) Seam.role h
theorem Seam.core_drive {m n : Seam} (h : m.core = n.core) : m.drive = n.drive := congrArg (a₁ := m.core) (a₂ := n.core) Seam.drive h
theorem Seam.core_other {m n : Seam} (h : m.core = n.core) : m.other = n.other := congrArg (a₁ := m.core) (a₂ := n.core) Seam.other h
theorem Seam.core_pair {m n : Seam} (h : m.core = n.core) : m.pair = n.pair := congrArg (a₁ := m.core) (a₂ := n.core) Seam.pair h
theorem Seam.core_relay {m n : Seam} (h : m.core = n.core) : m.relay = n.relay := congrArg (a₁ := m.core) (a₂ := n.core) Seam.relay h
theorem Seam.core_synced {m n : Seam} (h : m.core = n.core) : m.synced = n.synced := congrArg (a₁ := m.core) (a₂ := n.core) Seam.synced h
theorem Seam.core_ring {m n : Seam} (h : m.core = n.core) : m.ring = n.ring := congrArg (a₁ := m.core) (a₂ := n.core) Seam.ring h
theorem Seam.core_takes {m n : Seam} (h : m.core = n.core) : m.takes = n.takes := congrArg (a₁ := m.core) (a₂ := n.core) Seam.takes h

/-! ### The peer is judged -/

theorem State.judgeFit_seam (s : State) : ∃ c f, s.judgeFit.seam = { s.seam with cond := c, fit := f } := by
  unfold State.judgeFit
  dsimp only
  split
  · exact ⟨_, _, State.raise_seam ..⟩
  · exact ⟨_, _, rfl⟩

theorem State.judgeFit_mono (s : State) : s.judgeFit.mono = s.mono := s.judgeFit_moves.frame.get .mono (by decide)

theorem Seam.upLanes_lane {m n : Seam} (h : m.lane = n.lane) : m.upLanes = n.upLanes := by
  unfold Seam.upLanes
  rw [h]

theorem State.judgeFit_upLanes (s : State) : s.judgeFit.seam.upLanes = s.seam.upLanes := by
  obtain ⟨c, f, h⟩ := s.judgeFit_seam
  exact Seam.upLanes_lane (by rw [h])

theorem State.seamKey_congr {s t : State} (gen : Nat) (hclk : t.clk = s.clk) (hgen : t.seam.gen = s.seam.gen)
    (hkey : t.seam.genKey = s.seam.genKey) (hpair : t.seam.pair = s.seam.pair) : t.seamKey gen = s.seamKey gen := by
  unfold State.seamKey
  rw [hclk, hgen, hkey, hpair]

theorem State.judgeFit_seamKey (s : State) (gen : Nat) : s.judgeFit.seamKey gen = s.seamKey gen := by
  obtain ⟨c, f, h⟩ := s.judgeFit_seam
  exact State.seamKey_congr gen (s.judgeFit_moves.frame.get .clk (by decide)) (by rw [h]) (by rw [h]) (by rw [h])

/-! ### Sending -/

theorem foldl_place_map (now n : Nat) (ls : List Nat) (v : Vector SeamLane 2) :
    (ls.foldl (fun v l => updN v l (SeamLane.place now n)) v).map (fun l => { l with freeAt := 0 }) = v.map (fun l => { l with freeAt := 0 }) :=
  List.foldlRecOn (motive := fun w : Vector SeamLane 2 => w.map (fun l => ({ l with freeAt := 0 } : SeamLane)) = v.map (fun l => { l with freeAt := 0 }))
    ls _ rfl (fun _ h _ _ => (map_updN (g := fun l : SeamLane => { l with freeAt := 0 }) (f := SeamLane.place now n) (fun _ => rfl) _ _).trans h)

theorem State.seamPut_core (both : Bool) (f : SeamFrame) (s : State) : (s.seamPut both f).seam.core = s.seam.core := by
  unfold State.seamPut
  extract_lets a
  have ha : a.seam.core = s.seam.core := by
    unfold a
    split <;> rfl
  clear_value a
  rw [← ha]
  split
  · split
    · rfl
    · rw [State.keyMissed_seam]
  · exact congrArg (fun v => ({ a.seam.core with lane := v } : Seam)) (foldl_place_map ..)

theorem State.seamSend_core (typ : Nat) (pay : List Byte) (s : State) : (s.seamSend typ pay).seam.core = s.seam.core :=
  State.seamPut_core ..

theorem State.askResync_core (s : State) : s.askResync.seam.core = s.seam.core := by
  unfold State.askResync
  split
  · exact State.seamSend_core ..
  · rfl

theorem mem_lanesFor {both : Bool} {now l : Nat} {m : Seam} (h : l ∈ m.lanesFor both now) : l ∈ m.upLanes := by
  unfold Seam.lanesFor at h
  split at h
  · next a b hl =>
    rw [hl]
    split at h
    · exact h
    · split at h
      · exact List.mem_cons_of_mem _ h
      · exact List.mem_cons.2 (.inl (List.mem_singleton.1 h))
  · exact h

theorem lanesFor_ne_nil {both : Bool} {now : Nat} {m : Seam} (h : m.upLanes ≠ []) : m.lanesFor both now ≠ [] := by
  unfold Seam.lanesFor
  split
  · repeat' split
    all_goals exact List.cons_ne_nil _ _
  · exact h

/-- A frame of a generation with room goes out with the key of that generation on a lane that is up (R285, R286). -/
theorem State.seamPut_sends (both : Bool) (f : SeamFrame) {s : State} {k : Nat} (hk : s.seamKey s.seam.gen = some k)
    (hl : s.seam.upLanes ≠ []) (hseq : s.seam.txSeq ≤ 0xFFFFFFF0) :
    ∃ l v, s.seamPut both f = ({ s with seam := { s.seam with txSeq := s.seam.txSeq + 1, lane := v } } : State).emits
        ((s.seam.lanesFor both s.mono).map (fun l => .seam l (s.seam.frame k f))) ∧
      l ∈ s.seam.upLanes ∧ Sends (.seam l (s.seam.frame k f)) s (s.seamPut both f) := by
  obtain ⟨l, hmem⟩ := List.exists_mem_of_ne_nil _ (lanesFor_ne_nil (both := both) (now := s.mono) hl)
  have he : s.seamPut both f = ({ s with seam := { s.seam with
      txSeq := s.seam.txSeq + 1
      lane := (s.seam.lanesFor both s.mono).foldl (fun v l => updN v l (SeamLane.place s.mono (32 + (s.seam.frame k f).len))) s.seam.lane } } : State).emits
        ((s.seam.lanesFor both s.mono).map (fun l => .seam l (s.seam.frame k f))) := by
    unfold State.seamPut
    rw [if_neg (by omega)]
    dsimp only
    rw [hk]
    rfl
  exact ⟨l, _, he, mem_lanesFor hmem, _, congrArg State.out he, List.mem_map_of_mem hmem⟩

theorem Seam.frame_fields (key : Nat) (m : Seam) (f : SeamFrame) :
    (m.frame key f).typ = f.typ ∧ (m.frame key f).pay = f.pay ∧ (m.frame key f).gen = m.gen ∧ (m.frame key f).lseq = m.txSeq ∧
      (m.frame key f).cipher = seamCipher key (m.frame key f) ∧ (m.frame key f).tag = seamTag key (m.frame key f) ∧
      (m.frame key f).check = seamCheck (m.frame key f) := ⟨rfl, rfl, rfl, rfl, rfl, rfl, rfl⟩

end Sys2Proof.Machine
end

section
/-! ## Lanes, peer and role choice of a pair (O34: `SeamLanesAct`) -/

namespace Sys2Proof.Machine

/-! ### The role choice (R283) -/

theorem State.becomeActive_role (s : State) : s.becomeActive.seam.role = .active ∧ s.becomeActive.seam.drive = true := by
  have h : s.becomeActive.seam = { s.seam with role := .active, drive := true, synced := false } :=
    (State.canopyStart_moves _).frame.get .seam (by decide)
  rw [h]
  exact ⟨rfl, rfl⟩

theorem handoverDone_standby (c : GCtx) : (handoverDone c).g.standby = true := rfl

theorem State.becomeStandby_role (s : State) :
    s.becomeStandby.seam.role = .standby ∧ s.becomeStandby.seam.drive = false ∧ s.becomeStandby.gtr.standby = true := by
  unfold State.becomeStandby
  dsimp only
  generalize (List.filter (fun c => c.st != LacSt.off) s.lac.ch.toList).foldl (fun (s : State) _ => s.raise .lacingChain) s = a
  have hgtr : (a.gtrDo handoverDone).gtr.standby = true := (congrArg Gaiter.standby (State.gtrDo_gtr _ _)).trans (handoverDone_standby _)
  generalize a.gtrDo handoverDone = b at hgtr ⊢
  exact ⟨(Seam.core_role (State.askResync_core _)).trans rfl, (Seam.core_drive (State.askResync_core _)).trans rfl,
    (congrArg Gaiter.standby ((State.askResync_moves _).frame.get .gtr (by decide))).trans hgtr⟩

theorem State.chooseAlone_chooses {s : State} (hrole : s.seam.role = .start) (hkey : s.seam.upLanes = [] ∨ s.seamKey s.seam.gen = none)
    (hlate : s.seam.startAt + (if s.prefersActive then 2000000 else 7000000) ≤ s.mono) :
    s.chooseAlone = if s.seam.other then s.becomeStandby else s.becomeActive := by
  have hnot : ¬ (s.seam.role ≠ .start ∨ ((!s.seam.upLanes.isEmpty) = true ∧ (s.seamKey s.seam.gen).isSome = true) ∨
      (!State.passed s.seam.startAt (if s.prefersActive then 2000000 else 7000000) s) = true) := by
    rintro (h | ⟨h1, h2⟩ | h)
    · exact h hrole
    · rcases hkey with hk | hk
      · rw [hk] at h1
        cases h1
      · rw [hk] at h2
        cases h2
    · unfold State.passed at h
      rw [decide_eq_true hlate] at h
      cases h
  unfold State.chooseAlone
  exact if_neg hnot

/-- An access relayed for a host on SPI ends with its answer (R306). -/
theorem State.relayBreak_spi {s : State} (h : ∀ r, s.seam.relay = some r → r.chan = 0) :
    ∃ l, s.relayBreak = { s with seam := { s.seam with relay := none }, out := s.out ++ l } := by
  unfold State.relayBreak
  cases hr : s.seam.relay with
  | none =>
    have he : ({ s.seam with relay := none } : Seam) = s.seam := by rw [← hr]
    refine ⟨[], ?_⟩
    rw [he, List.append_nil]
  | some r =>
    refine ⟨[spiEnd r.sent .notInState (if r.write then [] else r.got)], ?_⟩
    unfold State.relayAnswer State.relayDone
    dsimp only
    rw [if_pos (h r hr), if_pos (h r hr)]
    rfl

theorem State.up_of_paired {s : State} (h : s.paired = true) : s.up = true := by
  unfold State.paired at h
  simp only [Bool.and_eq_true] at h
  exact h.1

/-! ### The commands -/

section

variable {s : State} (hs : s.paired = true)

include hs

theorem State.paired_exec (f : State → State) :
    (.next (s.onlyIf s.paired f) : Host.Outcome State Fault Refusal) = .next (f s) :=
  congrArg Host.Outcome.next (State.onlyIf_of hs f s)

theorem roleChoiceTimeout_chooses (hrole : s.seam.role = .start) (hkey : s.seam.upLanes = [] ∨ s.seamKey s.seam.gen = none)
    (hlate : s.seam.startAt + (if s.prefersActive then 2000000 else 7000000) ≤ s.mono) :
    (s.seam.other = false → ∃ t, exec .roleChoiceTimeout s = .next t ∧ t.seam.role = .active ∧ t.seam.drive = true) ∧
    (s.seam.other = true → ∃ t, exec .roleChoiceTimeout s = .next t ∧ t.seam.role = .standby ∧ t.seam.drive = false ∧
      t.gtr.standby = true) := by
  have hex : exec .roleChoiceTimeout s = .next (if s.seam.other then s.becomeStandby else s.becomeActive) := by
    rw [← State.chooseAlone_chooses hrole hkey hlate]
    exact State.paired_exec hs _
  refine ⟨fun ho => ?_, fun ho => ?_⟩
  · rw [ho, if_neg Bool.false_ne_true] at hex
    exact ⟨_, hex, State.becomeActive_role s⟩
  · rw [ho, if_pos rfl] at hex
    exact ⟨_, hex, State.becomeStandby_role s⟩

theorem laneDown_drops (k : Fin 2) :
    ∃ t, exec (.laneDown k) s = .next t ∧ t.seam.lane[k] = { s.seam.lane[k] with up := false } ∧
      ∀ j : Fin 2, j ≠ k → t.seam.lane[j] = s.seam.lane[j] := by
  obtain ⟨c, f, h⟩ := State.judgeFit_seam (s.seamMod (fun m => { m with lane := upd m.lane k SeamLane.drop }))
  have hlane := congrArg Seam.lane h
  refine ⟨_, State.paired_exec hs _, ?_, fun j hj => ?_⟩
  · exact (congrArg (fun v : Vector SeamLane 2 => v[k]) hlane).trans (upd_same ..)
  · exact (congrArg (fun v : Vector SeamLane 2 => v[j]) hlane).trans (upd_other _ _ _ _ hj)

theorem laneRetrain_trains (k : Fin 2) (t0 : Nat) (ht0 : s.seam.lane[k].downAt = some t0) (ht : t0 + 100000 ≤ s.mono) :
    ∃ t, exec .laneRetrain s = .next t ∧ t.seam.lane[k] = { up := true, downAt := none } := by
  obtain ⟨c, f, h⟩ := State.judgeFit_seam (s.seamMod (fun m => { m with lane := m.lane.map (SeamLane.retrain s.mono) }))
  have hlane := congrArg Seam.lane h
  refine ⟨_, State.paired_exec hs _, ?_⟩
  have hk : SeamLane.retrain s.mono s.seam.lane[k] = { up := true, downAt := none } := by
    unfold SeamLane.retrain
    rw [ht0]
    exact if_pos ht
  exact (congrArg (fun v : Vector SeamLane 2 => v[k]) hlane).trans ((Vector.getElem_map ..).trans hk)

theorem seamLaneTrained_trains (k : Fin 2) (hkeys : s.clk.noKeys = false) (hdown : s.seam.lane[k].downAt = none) :
    ∃ t, exec (.seamLaneTrained k) s = .next t ∧ t.seam.lane[k].up = true ∧ t.seam.lane[k].downAt = none := by
  obtain ⟨c, f, h⟩ := State.judgeFit_seam (s.seamMod (fun m => { m with lane := upd m.lane k SeamLane.train }))
  have hlane := (congrArg (fun v : Vector SeamLane 2 => v[k]) (congrArg Seam.lane h)).trans (upd_same s.seam.lane k SeamLane.train)
  have htrain : SeamLane.train s.seam.lane[k] = { up := true } := by
    unfold SeamLane.train
    rw [hdown]
    rfl
  refine ⟨s.laneUp k, congrArg Host.Outcome.next (State.onlyIf_of (by rw [hs, hkeys]; rfl) _ s), ?_⟩
  have hcore : (s.laneUp k).seam.core = (s.seamMod (fun m => { m with lane := upd m.lane k SeamLane.train })).judgeFit.seam.core := by
    unfold State.laneUp
    dsimp only
    split
    · exact State.askResync_core _
    · rfl
  obtain ⟨h1, h2⟩ := Seam.core_lane hcore k
  exact ⟨h1.trans (congrArg SeamLane.up (hlane.trans htrain)), h2.trans (congrArg SeamLane.downAt (hlane.trans htrain))⟩

theorem peerLost_loses (hlost : s.seam.peerLost = false) (hlate : s.seam.lastAt + 30000 ≤ s.mono)
    (hrelay : ∀ r, s.seam.relay = some r → r.chan = 0) :
    ∃ t, exec .peerLost s = .next t ∧ t.seam.peerLost = true ∧ t.seam.relay = none ∧ t.seam.synced = s.seam.synced ∧
      t.site = s.site ∧ t.told .peerLost := by
  have hdue : s.peerLate = true := by
    unfold State.peerLate State.passed
    rw [hs, hlost, decide_eq_true hlate]
    rfl
  obtain ⟨a, ha⟩ : ∃ a, ((s.seamMod (fun m => { m with peerLost := true })).raise .peerLost).judgeFit = a := ⟨_, rfl⟩
  obtain ⟨c, f, h⟩ := State.judgeFit_seam ((s.seamMod (fun m => { m with peerLost := true })).raise .peerLost)
  rw [ha, State.raise_seam] at h
  have hsite : a.site = s.site := by
    rw [← ha]
    exact ((State.judgeFit_moves _).frame.get .site (by decide)).trans ((State.raise_moves _ _).frame.get .site (by decide))
  have htold : a.told .peerLost := by
    rw [← ha]
    exact State.told_judgeFit (State.raise_told _ _ (State.up_of_paired hs))
  obtain ⟨l, hl⟩ := State.relayBreak_spi (s := a) (by rw [h]; exact hrelay)
  have hex : exec .peerLost s = .next { a with seam := { a.seam with relay := none }, out := a.out ++ l } := by
    rw [← hl, ← ha]
    exact congrArg Host.Outcome.next (State.onlyIf_of hdue _ s)
  exact ⟨_, hex, by rw [h]; rfl, rfl, by rw [h]; rfl, hsite, htold⟩

theorem statusSend_sends (k : Nat) (hk : s.seamKey s.seam.gen = some k) (hl : s.seam.upLanes ≠ []) (hseq : s.seam.txSeq ≤ 0xFFFFFFF0) :
    ∃ t l f, exec .statusSend s = .next t ∧
      t.seam.txSeq = s.seam.txSeq + 1 ∧ Sends (.seam l f) s t ∧ l ∈ s.seam.upLanes ∧ f.typ = 3 ∧ f.gen = s.seam.gen ∧
      f.lseq = s.seam.txSeq ∧ f.cipher = seamCipher k f ∧ f.tag = seamTag k f ∧ f.check = seamCheck f := by
  obtain ⟨c, fit, h⟩ := s.judgeFit_seam
  have hgen : s.judgeFit.seam.gen = s.seam.gen := by rw [h]
  have htx : s.judgeFit.seam.txSeq = s.seam.txSeq := by rw [h]
  obtain ⟨l, v, he, hmem, hsend⟩ := State.seamPut_sends false s.judgeFit.statusFrame (s := s.judgeFit) (k := k)
    (by rw [hgen, State.judgeFit_seamKey]; exact hk) (by rw [State.judgeFit_upLanes]; exact hl) (by rw [htx]; exact hseq)
  obtain ⟨htyp, -, hg, hq, hc, ht, hchk⟩ := Seam.frame_fields k s.judgeFit.seam s.judgeFit.statusFrame
  rw [State.judgeFit_upLanes] at hmem
  refine ⟨_, l, _, State.paired_exec hs _, ?_, hsend.before s.judgeFit_moves.sent, hmem, htyp, hg.trans hgen, hq.trans htx, hc, ht, hchk⟩
  rw [he, ← htx]
  rfl

end

/-- Settles O34: each command through the rules of judging, sending and becoming standby. -/
theorem seamLanesAct : Obligations.SeamLanesAct := by
  unfold Obligations.SeamLanesAct
  intro s hs
  exact ⟨fun hrole hkey hlate => roleChoiceTimeout_chooses hs hrole hkey hlate,
    fun k => ⟨laneDown_drops hs k, laneRetrain_trains hs k, seamLaneTrained_trains hs k⟩,
    fun hlost hlate hrelay => peerLost_loses hs hlost hlate hrelay, statusSend_sends hs⟩

end Sys2Proof.Machine
end

section
/-! ## The roles of a pair (O36: `SeamRolesAct`) -/

namespace Sys2Proof.Machine

/-! ### Events that stay pending -/

theorem State.told_of_thk {e : Ev} {s t : State} (ht : t.thk = s.thk) (h : s.told e) : t.told e := by
  unfold State.told at h ⊢
  rw [ht]
  exact h

theorem State.told_gtrDo {e : Ev} (f : GCtx → GCtx) {s : State} (h : s.told e) : (s.gtrDo f).told e := by
  unfold State.gtrDo
  dsimp only
  exact State.told_clearingAbort _ (List.foldlRecOn (motive := State.told e) _ _ (show State.told e { s with gtr := (f s.gctx).g } from h)
    (fun _ ht x _ => State.told_gtrEff x ht))

theorem State.told_withdrawGroup {e : Ev} {s : State} (b : Fin 4) (j : Nat) (h : s.told e) : (s.withdrawGroup b j).told e := by
  unfold State.withdrawGroup
  split
  · exact h
  · exact State.told_of_thk rfl (State.told_groupResult b j _ _ h)

theorem State.told_withdrawEchoes {e : Ev} {s : State} (h : s.told e) : s.withdrawEchoes.told e :=
  List.foldlRecOn (motive := State.told e) _ _ h (fun _ ht b _ =>
    List.foldlRecOn (motive := State.told e) _ _ ht (fun _ hu j _ => State.told_withdrawGroup b j hu))

theorem State.told_lacEff {e : Ev} {s : State} (x : LacOut) (h : s.told e) : (s.lacEff x).told e := by
  cases x
  case ev e' => exact State.told_raise e' h
  case beyond => exact State.told_raise _ (State.told_of_thk rfl h)
  all_goals exact State.told_of_thk rfl h

theorem State.told_lacStart {e : Ev} {s : State} (n : Nat) (h : s.told e) : (s.lacStart n).told e := by
  unfold State.lacStart
  split
  · split
    · unfold State.lacDo
      split
      · exact h
      · exact List.foldlRecOn (motive := State.told e) _ _ (State.told_of_thk rfl h) (fun _ ht x _ => State.told_lacEff x ht)
    · exact h
  · exact h

theorem State.told_sideStart {e : Ev} {s : State} (h : s.told e) : s.sideStart.told e := by
  obtain ⟨a, ha⟩ : ∃ a : State, { s with cpc := { s.cpc with
      loops := s.cfg.cpcLoop.foldl (fun v (r : CpcLoop) => updN v r.loop (fun _ => loopStart r)) s.cpc.loops } } = a := ⟨_, rfl⟩
  have hta : a.told e := by
    rw [← ha]
    exact h
  obtain ⟨b, hb⟩ : ∃ b, a.cfg.lacChain.foldl (fun (s : State) (r : LacChain) => s.lacStart r.chain) a = b := ⟨_, rfl⟩
  have htb : b.told e := by
    rw [← hb]
    exact List.foldlRecOn (motive := State.told e) _ _ hta (fun _ ht r _ => State.told_lacStart _ ht)
  unfold State.sideStart
  rw [ha]
  dsimp only
  rw [hb]
  exact State.told_of_thk ((State.cufTake_moves _).frame.get .thk (by decide)) htb

theorem State.told_restoreGaiter {e : Ev} {s : State} (h : s.told e) : s.restoreGaiter.told e := by
  unfold State.restoreGaiter
  dsimp only
  refine List.foldlRecOn (motive := State.told e) _ _ (State.told_gtrDo _ h) (fun t ht p _ => ?_)
  split
  · exact State.told_gtrDo _ ht
  · exact ht

theorem State.told_restoreUnits {e : Ev} {s : State} (h : s.told e) : s.restoreGaiter.sideStart.restoreTrims.told e :=
  State.told_of_thk ((State.restoreTrims_moves _).frame.get .thk (by decide)) (State.told_sideStart (State.told_restoreGaiter h))

/-! ### A takeover begins (R297) -/

theorem State.takingOver_seam (reason : Nat) (s : State) : (s.takingOver reason).seam = s.seam.takingOver s.mono s.tb reason := by
  unfold State.takingOver
  rw [State.withdrawEchoes_seam]
  unfold State.seamMod
  dsimp only
  rw [State.raise_seam, State.raise_mono, State.raise_tb]

theorem State.resumed_seam (reason : Nat) (s : State) :
    ∃ h, (s.resumed reason).seam = { s.seam.takingOver s.mono s.tb reason with handed := h } := by
  obtain ⟨a, ha⟩ : ∃ a, (s.takingOver reason).restoreItems.restoreLinks (s.raise .takeoverStarted).seam.lastGood = a := ⟨_, rfl⟩
  have hseam : a.seam = s.seam.takingOver s.mono s.tb reason := by
    rw [← ha, ← State.takingOver_seam]
    exact ((State.restoreLinks_moves _ _).frame.get .seam (by decide)).trans ((State.restoreItems_moves _).frame.get .seam (by decide))
  refine ⟨a.ports.map (fun q => !q.kCmd), ?_⟩
  unfold State.resumed
  dsimp only
  rw [ha]
  unfold State.seamMod
  dsimp only
  rw [hseam]

/-- The unit that takes over drives OWN_N, holds Canopy, and says so (Table 10.7). -/
theorem State.takeover_facts (reason : Nat) {s : State} (hup : s.up = true) :
    (∃ h, (s.takeover reason).seam = { s.seam.takingOver s.mono s.tb reason with handed := h }) ∧
      (s.takeover reason).cnp.mode = .hold ∧ (s.takeover reason).told .takeoverStarted := by
  rw [State.takeover_eq]
  refine ⟨?_, ?_, ?_⟩
  · rw [(State.restoreUnits_moves (s.resumed reason)).frame.get .seam (by decide)]
    exact State.resumed_seam reason s
  · rw [(State.restoreUnits_moves (s.resumed reason)).frame.get .cnp (by decide)]
    unfold State.resumed Canopy.resume
    dsimp only
    split <;> rfl
  · refine State.told_restoreUnits ?_
    have hthk : (s.resumed reason).thk = (s.takingOver reason).thk :=
      ((State.restoreLinks_moves _ _).frame.get .thk (by decide)).trans ((State.restoreItems_moves _).frame.get .thk (by decide))
    refine State.told_of_thk hthk ?_
    unfold State.takingOver
    exact State.told_withdrawEchoes (State.told_seamMod _ (State.raise_told _ s hup))

/-! ### Control is released (R296) -/

theorem State.relayEnd_seam (s : State) : s.relayEnd.seam = { s.seam with relay := none } := by
  unfold State.relayEnd
  cases hr : s.seam.relay with
  | none => exact (show ({ s.seam with relay := none } : Seam) = s.seam by rw [← hr]).symm
  | some r =>
    unfold State.relayDone
    dsimp only
    split
    · rfl
    · exact (State.esAnswer_moves ..).frame.get .seam (by decide)

theorem State.release_facts (r : Nat) (s : State) :
    (s.release r).seam.role = .released ∧ (s.release r).seam.fit = false ∧ (r ≠ 7 → (s.release r).seam.relAt = some s.mono) ∧
      (r = 7 → (s.release r).seam.drive = false) := by
  unfold State.release
  dsimp only
  rw [State.relayEnd_seam, (State.withdrawAll_moves _).frame.get .seam (by decide)]
  refine ⟨rfl, rfl, fun h => ?_, fun h => ?_⟩
  · rw [if_neg h]
    rfl
  · rw [if_pos h]
    rfl

/-! ### The commands -/

section

variable {s : State} (hs : s.paired = true)

include hs

theorem ownNHigh_exec (hd : s.seam.drive = false) :
    exec .ownNHigh s = .next (let a := s.seamMod (fun m => { m with other := false })
      if a.standby && a.seam.seenLow && !a.gtr.unfit then a.takeover a.seam.reason else a) := by
  refine (State.paired_exec hs State.ownHigh).trans (congrArg Host.Outcome.next ?_)
  unfold State.ownHigh
  rw [hd, if_neg Bool.false_ne_true]

theorem ownNHigh_takesOver (hd : s.seam.drive = false) (hrole : s.seam.role = .standby) (hlow : s.seam.seenLow = true)
    (hfit : s.gtr.unfit = false) :
    ∃ t, exec .ownNHigh s = .next t ∧ t.seam.role = .taking ∧ t.seam.drive = true ∧ t.told .takeoverStarted := by
  obtain ⟨a, ha⟩ : ∃ a, s.seamMod (fun m => { m with other := false }) = a := ⟨_, rfl⟩
  have hup : a.up = true := by
    rw [← ha]
    exact State.up_of_paired hs
  have hgo : (a.standby && a.seam.seenLow && !a.gtr.unfit) = true := by
    rw [← ha]
    show (s.seam.role == .standby && s.seam.seenLow && !s.gtr.unfit) = true
    rw [hrole, hlow, hfit]
    rfl
  have hex := ownNHigh_exec hs hd
  dsimp only at hex
  rw [ha, if_pos hgo] at hex
  obtain ⟨⟨h, hseam⟩, -, htold⟩ := State.takeover_facts a.seam.reason hup
  exact ⟨_, hex, by rw [hseam]; rfl, by rw [hseam]; rfl, htold⟩

theorem ownNHigh_of_not_standby (hd : s.seam.drive = false) (hrole : s.seam.role ≠ .standby) :
    exec .ownNHigh s = .next { s with seam := { s.seam with other := false } } := by
  have hnot : (s.seam.role == .standby) = false := by simpa using hrole
  rw [ownNHigh_exec hs hd]
  refine congrArg Host.Outcome.next (if_neg ?_)
  show ¬ (s.seam.role == .standby && s.seam.seenLow && !s.gtr.unfit) = true
  rw [hnot]
  exact Bool.false_ne_true

theorem ownNLow_exec (hd : s.seam.drive = false) :
    exec .ownNLow s = .next (let a := s.seamMod (fun m => { m with other := true, lowAt := if m.other then m.lowAt else s.mono })
      match a.seam.role with
      | .standby => a.seamMod (fun m => { m with seenLow := true })
      | .start => a.becomeStandby
      | .released => a.handedOver
      | _ => a) := by
  refine (State.paired_exec hs State.ownLow).trans (congrArg Host.Outcome.next ?_)
  unfold State.ownLow
  rw [hd, if_neg Bool.false_ne_true] <;> rfl

theorem ownNLow_of_standby (hd : s.seam.drive = false) (hrole : s.seam.role = .standby) :
    ∃ t, exec .ownNLow s = .next t ∧ t.seam.other = true ∧ t.seam.seenLow = true ∧ t.seam.role = .standby := by
  have hex := ownNLow_exec hs hd
  simp only [State.seamMod, hrole] at hex
  exact ⟨_, hex, rfl, rfl, rfl⟩

theorem ownNLow_of_start (hd : s.seam.drive = false) (hrole : s.seam.role = .start) :
    ∃ t, exec .ownNLow s = .next t ∧ t.seam.role = .standby := by
  have hex := ownNLow_exec hs hd
  simp only [State.seamMod, hrole] at hex
  exact ⟨_, hex, (State.becomeStandby_role _).1⟩

theorem ownNLow_of_released (hd : s.seam.drive = false) (hrole : s.seam.role = .released) :
    ∃ t, exec .ownNLow s = .next t ∧ t.seam.other = true ∧ t.gtr.standby = true ∧ t.rst.pend.isSome = true := by
  have hex := ownNLow_exec hs hd
  simp only [State.seamMod, hrole] at hex
  exact ⟨_, hex, congrArg Seam.other ((State.handedOver_moves _).frame.get .seam (by decide)),
    (congrArg Gaiter.standby (State.gtrDo_gtr _ _)).trans (handoverDone_standby _), rfl⟩

theorem releaseCause_exec (r : Nat) (hrole : s.seam.role = .active) (hfit : s.seam.fit = true) (hc : s.releaseCause r = true) :
    exec (.releaseCause r) s = .next (s.release r) := by
  refine congrArg Host.Outcome.next (State.onlyIf_of ?_ _ s)
  show (s.paired && s.seam.role == .active && s.seam.fit && s.releaseCause r) = true
  rw [hs, hrole, hfit, hc]
  rfl

theorem ownNRelease_exec {t0 : Nat} (ht : s.seam.relAt = some t0) (hlate : t0 + 100 ≤ s.mono) :
    exec .ownNRelease s = .next { s with seam := { s.seam with drive := false, relAt := none } } := by
  refine congrArg Host.Outcome.next (State.onlyIf_of ?_ _ s)
  unfold State.ownDue
  rw [hs, ht]
  exact decide_eq_true hlate

end

/-! ### The takeover is complete (R298) -/

theorem State.seamPut_gen (both : Bool) (f : SeamFrame) {s : State} (hseq : s.seam.txSeq ≤ 0xFFFFFFF0) :
    (s.seamPut both f).seam.gen = s.seam.gen := by
  unfold State.seamPut
  rw [if_neg (Nat.not_lt.mpr hseq)]
  dsimp only
  split
  · split
    · rfl
    · rw [State.keyMissed_seam]
  · rfl

theorem State.takeoverDone_seam {s : State} (hseq : s.seam.txSeq ≤ 0xFFFFFFF0) :
    s.takeoverDone.seam.role = .active ∧ s.takeoverDone.seam.takes = satInc 8 s.seam.takes ∧ s.takeoverDone.seam.gen = s.seam.gen + 1 ∧
      s.takeoverDone.seam.txSeq = 0 ∧ s.takeoverDone.seam.lastTake = some s.mono := by
  obtain ⟨a, ha⟩ : ∃ a, s.seamSend 5 (leBytes 2 s.mb.epoch ++ leBytes 2 0) = a := ⟨_, rfl⟩
  have htakes : a.seam.takes = s.seam.takes := by
    rw [← ha]
    exact Seam.core_takes (State.seamSend_core ..)
  have hgen : a.seam.gen = s.seam.gen := by
    rw [← ha]
    exact State.seamPut_gen _ _ hseq
  have hmono : a.mono = s.mono := by
    rw [← ha]
    exact (State.seamSend_moves ..).frame.get .mono (by decide)
  unfold State.takeoverDone
  dsimp only
  rw [ha]
  refine ⟨rfl, ?_, ?_, rfl, ?_⟩
  · show satInc 8 (a.raise .takeoverDone).seam.takes = _
    rw [State.raise_seam, htakes]
  · show (a.raise .takeoverDone).seam.gen + 1 = _
    rw [State.raise_seam, hgen]
  · show some (a.raise .takeoverDone).mono = _
    rw [State.raise_mono, hmono]

theorem State.takeoverDone_told {s : State} (hup : s.up = true) : s.takeoverDone.told .takeoverDone := by
  unfold State.takeoverDone
  dsimp only
  refine State.told_seamMod _ (State.raise_told _ _ ?_)
  exact (State.up_congr ((State.seamSend_moves ..).frame.get .rst (by decide))).trans hup

theorem State.sendGroups_ready (es : List GrpEntry) (s : State) : (s.sendGroups es).cnp.ready = s.cnp.ready := by
  rw [State.sendGroups_eq]
  exact congrArg (fun x : _ × _ × _ => x.2.1) (foldl_view (view := State.released) (fun _ _ => State.sendBus_released ..) _ _)

theorem State.releaseFrames_ready {s : State} (h : s.cnp.ready.isSome = true) : s.releaseFrames.cnp.ready = none := by
  obtain ⟨r, hr⟩ := Option.isSome_iff_exists.mp h
  rw [State.releaseFrames_of_ready s r hr]
  have hrel := s.sending_released r
  simp only [State.released, Prod.mk.injEq] at hrel
  exact (State.sendGroups_ready ..).trans hrel.2.1

theorem takeoverFirstTick_completes {s : State} (hup : s.up = true) (hc : s.canopyOn = true) (hrole : s.seam.role = .taking)
    (hticks : 0 < s.cnp.ticks) (hready : s.cnp.ready.isSome = true) (hports : s.portsHanded = true) (hseq : s.seam.txSeq ≤ 0xFFFFFFF0) :
    ∃ t, exec .takeoverFirstTick s = .next t ∧ t.seam.role = .active ∧ t.seam.takes = satInc 8 s.seam.takes ∧
      t.seam.gen = s.seam.gen + 1 ∧ t.seam.txSeq = 0 ∧ t.seam.lastTake = some s.mono ∧ t.told .takeoverDone ∧ t.cnp.ready = none := by
  have hgo : (s.canopyOn && s.seam.role == .taking) = true := by
    rw [hc, hrole]
    rfl
  have hfirst : s.firstTick = s.releaseFrames.takeoverDone := by
    unfold State.firstTick
    rw [if_neg (Nat.pos_iff_ne_zero.mp hticks)]
    dsimp only
    rw [hready, hports]
    rfl
  have hseam : s.releaseFrames.seam = s.seam := (State.releaseFrames_moves s).frame.get .seam (by decide)
  have hmono : s.releaseFrames.mono = s.mono := (State.releaseFrames_moves s).frame.get .mono (by decide)
  have hupF : s.releaseFrames.up = true := (State.up_congr ((State.releaseFrames_moves s).frame.get .rst (by decide))).trans hup
  obtain ⟨hr, htakes, hgen, htx, hlast⟩ := State.takeoverDone_seam (s := s.releaseFrames) (by rw [hseam]; exact hseq)
  refine ⟨s.releaseFrames.takeoverDone, ?_, hr, ?_, ?_, htx, ?_, State.takeoverDone_told hupF, ?_⟩
  · rw [← hfirst]
    exact congrArg Host.Outcome.next (State.onlyIf_of hgo _ s)
  · rw [htakes, hseam]
  · rw [hgen, hseam]
  · rw [hlast, hmono]
  · rw [(State.takeoverDone_moves _).frame.get .cnp (by decide)]
    exact State.releaseFrames_ready hready

/-! ### Swap (R305) -/

theorem State.swapWrite_swaps {s : State} (h : s.swapOk = true) :
    ∃ t, s.swapWrite = (.ok, t) ∧ t.seam.role = .released ∧ t.seam.swapAt = s.mono := by
  obtain ⟨hrole, -⟩ := State.release_facts 8 s
  unfold State.swapWrite
  rw [if_pos h]
  generalize s.release 8 = a at hrole ⊢
  exact ⟨_, rfl, hrole, rfl⟩

theorem swap_accepted {s : State} (hr : s.HostReady 0x6000) (h : s.swapOk = true) :
    ∃ t, exec .swap s = .next t ∧ t.seam.role = .released ∧ t.seam.swapAt = s.mono ∧ t.answered .ok [] := by
  obtain ⟨u, hu, hrole, hat⟩ := State.swapWrite_swaps h
  have hw : pageWrite .seam 0 1 s = some (.ok, u) := congrArg some hu
  obtain ⟨k, hk⟩ := State.hostWrite_done 0x6000 1 .seam 0 s u hr rfl (by decide) hw
  exact ⟨_, hk, hrole, hat, State.answered_append ..⟩

theorem swap_refused {s : State} (hr : s.HostReady 0x6000) (h : s.swapOk = false) :
    ∃ t, exec .swap s = .next t ∧ t.seam = s.seam ∧ t.answered .notInState [] := by
  have hw : pageWrite .seam 0 1 s = some (.notInState, s) := by
    refine congrArg some ?_
    unfold State.swapWrite
    rw [h]
    rfl
  exact ⟨_, State.hostWrite_refusal 0x6000 1 .seam 0 s .notInState hr rfl (by decide) (by decide) hw, State.judged_seam .., State.answered_emit ..⟩

/-- A unit that neither serves a host nor stands by answers a swap itself. -/
theorem swap_of_no_control {s : State} (hup : s.up = true)
    (hrole : s.seam.role = .start ∨ s.seam.role = .taking ∨ s.seam.role = .released) :
    ∃ t, exec .swap s = .next t ∧ t.seam = s.seam ∧ t.answered .notInState [] := by
  have haway : (s.up && s.swapAway 0x6000 1) = true := by
    rw [hup]
    unfold State.swapAway State.servesHost State.standby
    obtain h | h | h := hrole <;> rw [h] <;> rfl
  refine ⟨State.finish 0x6000 (.notInState, s), congrArg Host.Outcome.next ?_, State.judged_seam .., State.answered_emit ..⟩
  unfold State.hostWrite
  rw [if_pos haway]

theorem scheduledSwap_swaps {s : State} (hs : s.paired = true) {r : SeamPair} (hp : s.seam.pair = some r) (hen : r.swapEn = true)
    (hlate : s.seam.swapAt + r.swapH * 3600000000 ≤ s.mono) (h : s.swapOk = true) :
    ∃ t, exec .scheduledSwap s = .next t ∧ t.seam.role = .released ∧ t.seam.swapAt = s.mono := by
  have hdue : s.swapDue = true := by
    unfold State.swapDue
    rw [hs, hp, h, Bool.and_true, Bool.true_and]
    dsimp only
    rw [hen, Bool.true_and]
    exact decide_eq_true hlate
  obtain ⟨u, hu, hrole, hat⟩ := State.swapWrite_swaps h
  have hex : exec .scheduledSwap s = .next s.swapWrite.2 := congrArg Host.Outcome.next (State.onlyIf_of hdue _ s)
  rw [hu] at hex
  exact ⟨u, hex, hrole, hat⟩

/-- Settles O36: the rules of the roles of a pair. -/
theorem seamRolesAct : Obligations.SeamRolesAct := by
  intro s hs
  have hup := State.up_of_paired hs
  refine ⟨fun hd => ⟨ownNHigh_takesOver hs hd, ownNHigh_of_not_standby hs hd, ownNLow_of_standby hs hd, ownNLow_of_start hs hd,
    ownNLow_of_released hs hd⟩, fun r hrole hfit hc => ?_, fun _ => ownNRelease_exec hs, takeoverFirstTick_completes hup,
    fun hr => ⟨swap_accepted hr, swap_refused hr⟩, swap_of_no_control hup, fun _ => scheduledSwap_swaps hs⟩
  obtain ⟨hr, hf, hat, hdrive⟩ := State.release_facts r s
  have hex := releaseCause_exec hs r hrole hfit hc
  exact ⟨fun h7 => ⟨_, hex, hr, hat h7, hf⟩, fun h7 => ⟨_, hex, hr, hdrive h7, hf⟩⟩

end Sys2Proof.Machine
end

section
/-! ## Echo, HOLD frames, resync and the relay's times (O37: `SeamEchoAndRelayAct`) -/

namespace Sys2Proof.Machine

/-! ### HOLD frames of a bus (R294) -/

/-- One more HOLD frame for a pair that a group was last heard with. -/
def State.sendHold (b : Fin 4) (s : State) (x : Nat × Nat) : State :=
  let s := s.seamMod (fun m => { m with holdN := upd m.holdN b (fun n => n + 1) })
  s.queueHold b (holdFrame x.1 x.2 b s.seam.holdN[b]) x.2

theorem State.sendHolds_eq (b : Fin 4) (s : State) : s.sendHolds b = (s.heardPairs b).foldl (State.sendHold b) s := rfl

/-- What the HOLD frames of one bus change of the pair and of the bus. -/
def State.holdView (b : Fin 4) (s : State) : MBus × Nat := (s.mb.bus[b], s.seam.holdN[b])

theorem State.queueHold_other {b d : Fin 4} (hd : b ≠ d) (data : List Byte) (seq : Nat) (s : State) :
    (s.queueHold d data seq).mb.bus[b] = s.mb.bus[b] := by
  unfold State.queueHold
  dsimp only
  split
  · exact (State.holdResult_other hd ..).trans (State.busMod_other hd ..)
  · exact (State.offers_other hd ..).trans (State.busMod_other hd ..)

theorem State.queueHold_same {b : Fin 4} (data : List Byte) (seq : Nat) {s : State} (h : s.mb.bus[b].fcs ≠ .busOff) :
    (s.queueHold b data seq).mb.bus[b].fcs = s.mb.bus[b].fcs ∧
      (s.queueHold b data seq).mb.bus[b].txHold = s.mb.bus[b].txHold ++ [{ id := 0x01C, data := data, seq := seq }] := by
  unfold State.queueHold
  dsimp only
  rw [State.busMod_same, if_neg h, State.offers_same, State.busMod_same]
  exact ⟨rfl, rfl⟩

theorem State.sendHold_other {b d : Fin 4} (hd : b ≠ d) (s : State) (x : Nat × Nat) : (s.sendHold d x).holdView b = s.holdView b := by
  unfold State.sendHold State.holdView
  dsimp only
  rw [State.queueHold_other hd, (State.queueHold_moves _ _ _ _).frame.get .seam (by decide)]
  exact Prod.ext rfl (upd_other _ _ _ _ hd)

theorem State.sendHold_echo (b : Fin 4) (s : State) (x : Nat × Nat) : (s.sendHold b x).seam.echo = s.seam.echo := by
  unfold State.sendHold
  dsimp only
  rw [(State.queueHold_moves _ _ _ _).frame.get .seam (by decide)]
  rfl

theorem State.sendHold_same (b : Fin 4) {s : State} (x : Nat × Nat) (h : s.mb.bus[b].fcs ≠ .busOff) :
    (s.sendHold b x).mb.bus[b].fcs = s.mb.bus[b].fcs ∧ (s.sendHold b x).seam.holdN[b] = s.seam.holdN[b] + 1 ∧
      (s.sendHold b x).mb.bus[b].txHold = s.mb.bus[b].txHold ++
        [{ id := 0x01C, data := holdFrame x.1 x.2 b (s.seam.holdN[b] + 1), seq := x.2 }] := by
  have hn : (upd s.seam.holdN b (fun n => n + 1))[b] = s.seam.holdN[b] + 1 := upd_same ..
  obtain ⟨a, ha⟩ : ∃ a, s.seamMod (fun m => { m with holdN := upd m.holdN b (fun n => n + 1) }) = a := ⟨_, rfl⟩
  have hbus : a.mb.bus[b] = s.mb.bus[b] := by
    rw [← ha]
    rfl
  have han : a.seam.holdN[b] = s.seam.holdN[b] + 1 := by
    rw [← ha]
    exact hn
  obtain ⟨hfcs, hq⟩ := State.queueHold_same (holdFrame x.1 x.2 b a.seam.holdN[b]) x.2 (s := a) (by rw [hbus]; exact h)
  unfold State.sendHold
  dsimp only
  rw [ha, hfcs, hq, (State.queueHold_moves _ _ _ _).frame.get .seam (by decide), hbus, han]
  exact ⟨rfl, rfl, rfl⟩

theorem State.foldl_sendHold (b : Fin 4) (l : List (Nat × Nat)) {s : State} (h : s.mb.bus[b].fcs ≠ .busOff) :
    (l.foldl (State.sendHold b) s).seam.holdN[b] = s.seam.holdN[b] + l.length ∧
      (l.foldl (State.sendHold b) s).mb.bus[b].txHold = s.mb.bus[b].txHold ++ (l.zipIdx (s.seam.holdN[b] + 1)).map (fun x =>
        ({ id := 0x01C, data := holdFrame x.1.1 x.1.2 b x.2, seq := x.1.2 } : TxFrame)) := by
  induction l generalizing s with
  | nil => exact ⟨rfl, (List.append_nil _).symm⟩
  | cons x l ih =>
    obtain ⟨hfcs, hn, hq⟩ := State.sendHold_same b x h
    obtain ⟨ihn, ihq⟩ := ih (s := s.sendHold b x) (by rw [hfcs]; exact h)
    rw [List.foldl_cons]
    refine ⟨?_, ?_⟩
    · rw [ihn, hn, List.length_cons]
      omega
    · rw [ihq, hq, hn, List.append_assoc]
      rfl

/-- The HOLD frames of every present bus that runs. -/
theorem State.sendHolds_all {b : Fin 4} {s : State} (hb : b.val < s.fuses.variant.buses) (hoff : s.mb.bus[b].fcs ≠ .off)
    (hbus : s.mb.bus[b].fcs ≠ .busOff) :
    (s.busSet.foldl (fun (s : State) b => s.sendHolds b) s).seam.holdN[b] = s.seam.holdN[b] + (s.heardPairs b).length ∧
      (s.busSet.foldl (fun (s : State) b => s.sendHolds b) s).mb.bus[b].txHold = s.mb.bus[b].txHold ++
        ((s.heardPairs b).zipIdx (s.seam.holdN[b] + 1)).map (fun x =>
          ({ id := 0x01C, data := holdFrame x.1.1 x.1.2 b x.2, seq := x.1.2 } : TxFrame)) := by
  have hin : (decide (b.val < s.fuses.variant.buses) && s.mb.bus[b].fcs != .off) = true := by
    rw [decide_eq_true hb, bne_iff_ne.mpr hoff]
    rfl
  unfold State.busSet
  rw [List.foldl_filter]
  obtain ⟨d, hR, hview, hlast, -⟩ := foldl_finRange_at (view := State.holdView b) (R := fun c d : State => d.seam.echo = c.seam.echo)
    (f := fun t k => if (decide (k.val < s.fuses.variant.buses) && s.mb.bus[k].fcs != .off) = true then t.sendHolds k else t) b
    (fun _ => rfl) (fun _ _ _ h h' => h'.trans h)
    (fun c k => by
      split
      · exact foldl_view (view := fun t : State => t.seam.echo) (fun t x => State.sendHold_echo k t x) _ c
      · rfl)
    (fun c k hk => by
      split
      · exact foldl_view (fun t x => State.sendHold_other hk t x) _ c
      · rfl) s
  rw [if_pos hin] at hlast
  have hheard : d.heardPairs b = s.heardPairs b := by
    unfold State.heardPairs
    rw [hR]
  obtain ⟨hdbus, hdn⟩ := Prod.ext_iff.mp hview
  obtain ⟨hlbus, hln⟩ := Prod.ext_iff.mp hlast
  dsimp only [State.holdView] at hdbus hdn hlbus hln
  obtain ⟨hn, hq⟩ := State.foldl_sendHold b (s.heardPairs b) (s := d) (by rw [hdbus]; exact hbus)
  rw [State.sendHolds_eq, hheard] at hlbus hln
  exact ⟨by rw [hln, hn, hdn], by rw [hlbus, hq, hdbus, hdn]⟩

/-! ### The commands -/

section

variable {s : State} (hs : s.paired = true)

include hs

theorem echoEligible_queues {b g : Fin 4} {d : List Byte} {t0 : Nat} (hrole : s.seam.role = .standby) (hfit : s.gtr.unfit = false)
    (hw : s.seam.echo[b][g].wait = some (d, t0)) (ht : t0 ≤ s.mono) (hbus : s.mb.bus[b].fcs ≠ .busOff) :
    ∃ t, exec (.echoEligible b g) s = .next t ∧ t.seam.echo[b][g].wait = none ∧
      t.mb.bus[b].txGrp[g] = some { id := 0x010 + g.val, data := d, seq := leAt (controlOf d) 2 2 } := by
  have hgo : (s.paired && s.standby && !s.gtr.unfit) = true := by
    unfold State.standby
    rw [hs, hrole, hfit]
    rfl
  have hdue : s.echoDue b g = (s.echoMod b g (fun k => { k with wait := none })).queueGroup b g d (leAt (controlOf d) 2 2) := by
    unfold State.echoDue State.echoOf
    rw [atD_val, hw]
    exact if_pos ht
  refine ⟨s.echoDue b g, congrArg Host.Outcome.next (State.onlyIf_of hgo _ s), ?_, ?_⟩
  · rw [hdue, (State.queueGroup_moves _ _ _ _ _).frame.get .seam (by decide)]
    refine (congrArg (fun v : Vector EchoSt 4 => v[g].wait) (upd_same s.seam.echo b (fun v => updN v g.val _))).trans ?_
    rw [updN_val, upd_same]
  · rw [hdue]
    exact State.queueGroup_waits b g d _ _ hbus

theorem echoCheckTimeout_counts {b g : Fin 4} {d : List Byte} {t0 : Nat} (hrole : s.seam.role = .active)
    (hx : s.seam.echo[b][g].expect = some (d, t0)) (ht : t0 + 1000 ≤ s.mono) :
    ∃ t, exec (.echoCheckTimeout b g) s = .next t ∧ t.seam.echo[b][g].expect = none ∧ t.seam.missing = satInc 16 s.seam.missing := by
  have hgo : (s.paired && s.seam.role == .active) = true := by
    rw [hs, hrole]
    rfl
  have hlate : s.echoLate b g = (s.echoMod b g (fun k => { k with expect := none })).echoFail b true := by
    unfold State.echoLate State.echoOf
    rw [atD_val, hx]
    exact if_pos (decide_eq_true ht)
  have hecho : (upd s.seam.echo b (fun v => updN v g.val (fun k => { k with expect := none })))[b][g].expect = none := by
    refine (congrArg (fun v : Vector EchoSt 4 => v[g].expect) (upd_same s.seam.echo b (fun v => updN v g.val _))).trans ?_
    rw [updN_val, upd_same]
  refine ⟨s.echoLate b g, congrArg Host.Outcome.next (State.onlyIf_of hgo _ s), ?_⟩
  rw [hlate]
  unfold State.echoFail
  obtain ⟨c, f, hseam⟩ := State.judgeFit_seam ((s.echoMod b g (fun k => { k with expect := none })).seamMod (fun m => { m with
    mismatch := if true then m.mismatch else satInc 16 m.mismatch
    missing := if true then satInc 16 m.missing else m.missing
    echoBad := upd m.echoBad b (fun l => ((s.echoMod b g (fun k => { k with expect := none })).mono :: l).filter
      (fun t => decide ((s.echoMod b g (fun k => { k with expect := none })).mono < t + 1000000))) }))
  rw [hseam]
  exact ⟨hecho, rfl⟩

theorem holdFrameSend_queues {b : Fin 4} (hrole : s.seam.role = .taking) (hb : b.val < s.fuses.variant.buses)
    (hoff : s.mb.bus[b].fcs ≠ .off) (hbus : s.mb.bus[b].fcs ≠ .busOff) :
    ∃ t, exec .holdFrameSend s = .next t ∧ t.seam.holdN[b] = s.seam.holdN[b] + (s.heardPairs b).length ∧
      t.mb.bus[b].txHold = s.mb.bus[b].txHold ++ ((s.heardPairs b).zipIdx (s.seam.holdN[b] + 1)).map (fun x =>
        ({ id := 0x01C, data := holdFrame x.1.1 x.1.2 b x.2, seq := x.1.2 } : TxFrame)) := by
  have hgo : (s.paired && s.seam.role == .taking) = true := by
    rw [hs, hrole]
    rfl
  exact ⟨_, congrArg Host.Outcome.next (State.onlyIf_of hgo _ s), State.sendHolds_all hb hoff hbus⟩

theorem resyncComplete_completes {t0 : Nat} (hrole : s.seam.role = .active) (hre : s.seam.resync = true)
    (hat : s.seam.resyncAt = some t0) (ht : t0 + 1000000 ≤ s.mono) :
    ∃ t, exec .resyncComplete s = .next t ∧ t.seam.gen = s.seam.gen + 1 ∧ t.seam.synced = true ∧ t.seam.resync = false ∧
      t.seam.txSeq = 0 ∧ t.seam.rxSeq = none := by
  have hgo : s.resyncDue = true := by
    unfold State.resyncDue
    rw [hs, hrole, hre, hat]
    dsimp only
    rw [show State.passed t0 1000000 s = true from decide_eq_true ht]
    rfl
  obtain ⟨c, f, hseam⟩ := State.judgeFit_seam (s.seamMod Seam.resynced)
  refine ⟨_, congrArg Host.Outcome.next (State.onlyIf_of hgo _ s), ?_⟩
  rw [hseam]
  exact ⟨rfl, rfl, rfl, rfl, rfl⟩

theorem relayTimeout_ends {r : RelayPend} (hr : s.seam.relay = some r) (ht : r.at_ + 100000 ≤ s.mono) (hchan : r.chan = 0)
    (hread : r.write = false) :
    ∃ t, exec .relayTimeout s = .next t ∧ t.seam.relay = none ∧ Sends (spiEnd r.sent .busy r.got) s t := by
  have hlate : s.relayLate = ({ s with seam := { s.seam with relay := none } } : State).emit (spiEnd r.sent .busy r.got) := by
    unfold State.relayLate
    rw [hr]
    dsimp only
    rw [if_pos (show State.passed r.at_ 100000 s = true from decide_eq_true ht)]
    unfold State.relayAnswer State.relayDone
    rw [hchan, hread]
    rfl
  refine ⟨s.relayLate, State.paired_exec hs _, ?_⟩
  rw [hlate]
  exact ⟨rfl, [_], rfl, List.mem_singleton_self _⟩

theorem relayWindowEnd_ends {t0 : Nat} (hw : s.seam.relayWin = some t0) (ht : t0 ≤ s.mono) :
    exec .relayWindowEnd s = .next { s with seam := { s.seam with relayWin := none } } := by
  refine congrArg Host.Outcome.next (State.onlyIf_of ?_ _ s)
  unfold State.windowOver
  rw [hs, hw]
  exact decide_eq_true ht

end

/-- Settles O37: the rules of echo, HOLD frames, resync and the relay's times. -/
theorem seamEchoAndRelayAct : Obligations.SeamEchoAndRelayAct := fun _ hs =>
  ⟨fun _ _ _ _ hrole hfit hw ht hbus => echoEligible_queues hs hrole hfit hw ht hbus,
    fun _ _ _ _ hrole hx ht => echoCheckTimeout_counts hs hrole hx ht,
    fun _ hrole hb hoff hbus _ => holdFrameSend_queues hs hrole hb hoff hbus,
    fun _ => resyncComplete_completes hs,
    fun _ => relayTimeout_ends hs,
    fun _ => relayWindowEnd_ends hs⟩

end Sys2Proof.Machine
end

section
/-! ## Frames of the pair link (O35: `SeamFramesAct`) -/

namespace Sys2Proof.Machine

/-! ### A frame is accepted (R287, R288) -/

/-- What an accepted frame changes: a newer GEN, its LSEQ, and the peer is present. -/
def Seam.accepted (f : SeamFrame) (now : Nat) (m : Seam) : Seam :=
  { (if m.gen < f.gen then { m.setGen f.gen with resync := m.resync && m.role != .standby } else m) with
    rxSeq := some f.lseq, lastAt := now, peerLost := false }

theorem State.seamAccept_eq (f : SeamFrame) (s : State) : s.seamAccept f = { s with seam := s.seam.accepted f s.mono } := by
  unfold State.seamAccept Seam.accepted
  by_cases h : s.seam.gen < f.gen
  · rw [if_pos h, if_pos h]
    rfl
  · rw [if_neg h, if_neg h]
    rfl

theorem Seam.accepted_keeps {β : Type} {view : Seam → β} (hgen : ∀ (m : Seam) g r, view { m.setGen g with resync := r } = view m)
    (hseq : ∀ (m : Seam) q t, view { m with rxSeq := q, lastAt := t, peerLost := false } = view m) (f : SeamFrame) (now : Nat) (m : Seam) :
    view (m.accepted f now) = view m := by
  unfold Seam.accepted
  rw [hseq]
  split
  · exact hgen ..
  · rfl

theorem Seam.accepted_role (f : SeamFrame) (now : Nat) (m : Seam) : (m.accepted f now).role = m.role :=
  Seam.accepted_keeps (view := Seam.role) (fun _ _ _ => rfl) (fun _ _ _ => rfl) ..
theorem Seam.accepted_lane (f : SeamFrame) (now : Nat) (m : Seam) : (m.accepted f now).lane = m.lane :=
  Seam.accepted_keeps (view := Seam.lane) (fun _ _ _ => rfl) (fun _ _ _ => rfl) ..
theorem Seam.accepted_pair (f : SeamFrame) (now : Nat) (m : Seam) : (m.accepted f now).pair = m.pair :=
  Seam.accepted_keeps (view := Seam.pair) (fun _ _ _ => rfl) (fun _ _ _ => rfl) ..
theorem Seam.accepted_other (f : SeamFrame) (now : Nat) (m : Seam) : (m.accepted f now).other = m.other :=
  Seam.accepted_keeps (view := Seam.other) (fun _ _ _ => rfl) (fun _ _ _ => rfl) ..
theorem Seam.accepted_relay (f : SeamFrame) (now : Nat) (m : Seam) : (m.accepted f now).relay = m.relay :=
  Seam.accepted_keeps (view := Seam.relay) (fun _ _ _ => rfl) (fun _ _ _ => rfl) ..
theorem Seam.accepted_asm (f : SeamFrame) (now : Nat) (m : Seam) : (m.accepted f now).asm = m.asm :=
  Seam.accepted_keeps (view := Seam.asm) (fun _ _ _ => rfl) (fun _ _ _ => rfl) ..
theorem Seam.accepted_snapAsm (f : SeamFrame) (now : Nat) (m : Seam) : (m.accepted f now).snapAsm = m.snapAsm :=
  Seam.accepted_keeps (view := Seam.snapAsm) (fun _ _ _ => rfl) (fun _ _ _ => rfl) ..

theorem Seam.accepted_txSeq {f : SeamFrame} {m : Seam} (now : Nat) (h : m.txSeq ≤ 0xFFFFFFF0) :
    (m.accepted f now).txSeq ≤ 0xFFFFFFF0 := by
  unfold Seam.accepted
  split
  · exact Nat.zero_le _
  · exact h

theorem else_of_ite_ok {P : Prop} [Decidable P] {a b : SeamVerdict} (h : (if P then a else b) = .ok) (ha : a ≠ .ok) : ¬ P ∧ b = .ok := by
  by_cases hp : P
  · exact absurd ((if_pos hp).symm.trans h) ha
  · exact ⟨hp, (if_neg hp).symm.trans h⟩

/-- An accepted frame is not older than its GEN, its key is there, and the role of the unit may receive it. -/
theorem State.seamJudge_ok {f : SeamFrame} {s : State} (h : s.seamJudge f = .ok) :
    s.seam.gen ≤ f.gen ∧ (∃ k, s.seamKey f.gen = some k) ∧ seamAllowed s.seam.role f.typ = true := by
  unfold State.seamJudge at h
  dsimp only at h
  obtain ⟨-, h⟩ := else_of_ite_ok h (by decide)
  obtain ⟨-, h⟩ := else_of_ite_ok h (by decide)
  obtain ⟨-, h⟩ := else_of_ite_ok h (by decide)
  obtain ⟨hlate, h⟩ := else_of_ite_ok h (by decide)
  refine ⟨Nat.not_lt.mp (fun hlt => hlate (Or.inl hlt)), ?_⟩
  cases hk : s.seamKey f.gen with
  | none =>
    rw [hk] at h
    cases h
  | some k =>
    rw [hk] at h
    obtain ⟨-, h⟩ := else_of_ite_ok h (by decide)
    refine ⟨⟨k, rfl⟩, ?_⟩
    by_contra hno
    exact absurd ((if_neg hno).symm.trans h) (by decide)

/-- The key that the pair key gives a new generation (R286). -/
def State.freshKey (gen : Nat) (s : State) : Option Nat :=
  if s.clk.noKeys then none
  else if s.clk.bound.isNone ∨ s.clk.bound ≠ s.seam.pair.map (·.peerId) then none
  else (s.clk.usable 2 [.hmac] 1).map (fun k => Config.hkdfExpand k.key (ascii "SEAM-GEN" ++ leBytes 4 gen))

theorem State.seamKey_fresh {gen : Nat} {s : State} (h : ¬ (gen = s.seam.gen ∧ s.seam.genKey.isSome = true)) :
    s.seamKey gen = s.freshKey gen := by
  unfold State.seamKey State.freshKey
  rw [if_neg h]

theorem State.freshKey_congr {s t : State} (gen : Nat) (hclk : t.clk = s.clk) (hpair : t.seam.pair = s.seam.pair) :
    t.freshKey gen = s.freshKey gen := by
  unfold State.freshKey
  rw [hclk, hpair]

theorem Seam.accepted_of_new {f : SeamFrame} {m : Seam} (now : Nat) (h : m.gen < f.gen) :
    (m.accepted f now).gen = f.gen ∧ (m.accepted f now).genKey = none := by
  unfold Seam.accepted
  rw [if_pos h]
  exact ⟨rfl, rfl⟩

theorem Seam.accepted_of_same {f : SeamFrame} {m : Seam} (now : Nat) (h : f.gen = m.gen) :
    m.accepted f now = { m with rxSeq := some f.lseq, lastAt := now, peerLost := false } := by
  unfold Seam.accepted
  rw [if_neg (by omega)]

/-- The unit sends under the generation of the frame that it has accepted. -/
theorem State.seamAccept_key {f : SeamFrame} {s : State} (h : s.seam.gen ≤ f.gen) :
    (s.seamAccept f).seamKey (s.seamAccept f).seam.gen = s.seamKey f.gen := by
  rw [State.seamAccept_eq]
  by_cases hlt : s.seam.gen < f.gen
  · obtain ⟨hgen, hkey⟩ := Seam.accepted_of_new s.mono hlt
    rw [State.seamKey_fresh (fun hh => by rw [hkey] at hh; exact absurd hh.2 (by decide)),
      State.seamKey_fresh (fun hh => by omega)]
    dsimp only
    rw [hgen]
    exact State.freshKey_congr _ rfl (Seam.accepted_pair ..)
  · have heq : f.gen = s.seam.gen := by omega
    rw [Seam.accepted_of_same s.mono heq, heq]
    exact State.seamKey_congr _ rfl rfl rfl rfl

theorem State.seamTake_of_no_gap {f : SeamFrame} {s : State} (h : s.standby = false ∨ s.seam.gap f = false) :
    s.seamTake f = (s.seamAccept f, true) := by
  have hbad : (s.standby && s.seam.gap f) = false := by
    obtain h | h := h
    · rw [h, Bool.false_and]
    · rw [h, Bool.and_false]
  unfold State.seamTake
  rw [hbad]
  rfl

theorem State.seamTake_core (f : SeamFrame) (s : State) : (s.seamTake f).1.seam.core = (s.seamAccept f).seam.core := by
  unfold State.seamTake
  dsimp only
  split
  · exact State.askResync_core _
  · rfl

theorem State.seamTake_role (f : SeamFrame) (s : State) : (s.seamTake f).1.seam.role = s.seam.role := by
  rw [Seam.core_role (State.seamTake_core f s), State.seamAccept_eq]
  exact Seam.accepted_role ..

theorem State.onSeam_exec {typ : Nat} {f : SeamFrame} {s : State} (act : State → State) (h : s.SeamTakes typ f) :
    (.next (s.onSeam typ f act) : Host.Outcome State Fault Refusal) = .next (act s) :=
  congrArg Host.Outcome.next (State.onSeam_of_takes act h)

/-! ### Entries and images (R289, R290, R304) -/

theorem State.storeEntry_stores (q : Nat) (e : JFull) {s : State} {k : Nat} (hk : s.seamKey s.seam.gen = some k)
    (hl : s.seam.upLanes ≠ []) (hseq : s.seam.txSeq ≤ 0xFFFFFFF0) :
    ∃ l a, (s.storeEntry q e).seam.ring.head?.map (fun h => (h.lseq, h.e, h.at_)) = some (q, e, s.mono) ∧
      (s.storeEntry q e).seam.held = some q ∧ (s.storeEntry q e).seam.rxSeq = s.seam.rxSeq ∧
      Sends (.seam l a) s (s.storeEntry q e) ∧ a.typ = 2 ∧ a.pay = leBytes 4 q := by
  obtain ⟨b, hb⟩ : ∃ b, s.seamMod (fun m => Seam.holdTwins s.mono e.x { m.store q s.mono e with mir := m.mir.merge e.x }) = b := ⟨_, rfl⟩
  obtain ⟨l, v, he, -, hsend⟩ := State.seamPut_sends false { typ := 2, len := (leBytes 4 q).length, pay := leBytes 4 q } (s := b) (k := k)
    (by rw [← hb]; exact hk) (by rw [← hb]; exact hl) (by rw [← hb]; exact hseq)
  obtain ⟨htyp, hpay, -⟩ := Seam.frame_fields k b.seam { typ := 2, len := (leBytes 4 q).length, pay := leBytes 4 q }
  have hst : s.storeEntry q e = b.seamPut false { typ := 2, len := (leBytes 4 q).length, pay := leBytes 4 q } := by
    rw [← hb]
    rfl
  rw [hst]
  have hout : b.out = s.out := by
    rw [← hb]
    rfl
  refine ⟨l, _, ?_, ?_, ?_, hsend.before (by rw [hout]), htyp, hpay⟩ <;> rw [he, ← hb] <;> rfl

theorem journal_stores {f : SeamFrame} {s : State} (h : s.SeamTakes 1 f) (hgap : s.seam.gap f = false)
    (hseg : (segTake f s.seam.asm).2 = true) {e : JFull} (he : f.entry = some e) :
    ∃ t l a, exec (.journal f) s = .next t ∧ t.seam.ring.head?.map (fun h => (h.lseq, h.e, h.at_)) = some (f.lseq, e, s.mono) ∧
      t.seam.held = some f.lseq ∧ t.seam.rxSeq = some f.lseq ∧ Sends (.seam l a) s t ∧ a.typ = 2 ∧ a.pay = leBytes 4 f.lseq := by
  obtain ⟨hgen, ⟨k, hk⟩, -⟩ := State.seamJudge_ok h.ok
  have hkey := State.seamAccept_key (f := f) hgen
  rw [hk, State.seamAccept_eq] at hkey
  have hx : (segTake f (s.seam.accepted f s.mono).asm).2 = true := by
    rw [Seam.accepted_asm]
    exact hseg
  obtain ⟨b, hb⟩ : ∃ b, ({ s with seam := s.seam.accepted f s.mono } : State).seamMod
    (fun m => { m with asm := (segTake f (s.seam.accepted f s.mono).asm).1 }) = b := ⟨_, rfl⟩
  have hin : s.journalIn f = b.storeEntry f.lseq e := by
    unfold State.journalIn
    rw [State.seamTake_of_no_gap (Or.inr hgap), he, State.seamAccept_eq]
    dsimp only
    rw [if_pos hx, hb]
  have hlanes : b.seam.upLanes = s.seam.upLanes := by
    rw [← hb]
    exact Seam.upLanes_lane (Seam.accepted_lane f s.mono s.seam)
  obtain ⟨l, a, hring, hheld, hrx, hsend, htyp, hpay⟩ := State.storeEntry_stores f.lseq e (s := b) (k := k)
    (by rw [← hb]; exact hkey) (by rw [hlanes]; exact h.lanes) (by rw [← hb]; exact Seam.accepted_txSeq s.mono h.seq)
  have hmono : b.mono = s.mono := by
    rw [← hb]
    rfl
  have hrxb : b.seam.rxSeq = some f.lseq := by
    rw [← hb]
    rfl
  have hout : b.out = s.out := by
    rw [← hb]
    rfl
  refine ⟨_, l, a, State.onSeam_exec _ h, ?_⟩
  rw [hin, ← hmono]
  exact ⟨hring, hheld, hrx.trans hrxb, hsend.before (by rw [hout]), htyp, hpay⟩

theorem snapshotFrame_takes {f : SeamFrame} {s : State} (h : s.SeamTakes 7 f) (hgap : s.seam.gap f = false)
    (hseg : (segTake f s.seam.snapAsm).2 = true) {e : JFull} (he : f.entry = some e) :
    ∃ t, exec (.snapshotFrame f) s = .next t ∧ t.seam.ring.head?.map (fun h => (h.lseq, h.e, h.at_)) = some (f.lseq, e, s.mono) ∧
      t.seam.mir = e.x ∧ t.seam.held = some f.lseq := by
  have hx : (segTake f (s.seam.accepted f s.mono).snapAsm).2 = true := by
    rw [Seam.accepted_snapAsm]
    exact hseg
  have hin : (s.snapshotIn f).seam = Seam.takeImage f.lseq s.mono e
      { s.seam.accepted f s.mono with snapAsm := (segTake f (s.seam.accepted f s.mono).snapAsm).1 } := by
    unfold State.snapshotIn
    rw [State.seamTake_of_no_gap (Or.inr hgap), he, State.seamAccept_eq]
    dsimp only
    rw [if_pos hx]
    rfl
  refine ⟨_, State.onSeam_exec _ h, ?_⟩
  rw [hin]
  exact ⟨rfl, rfl, rfl⟩

/-! ### Frames of the active and of the standby -/

theorem ack_takes {f : SeamFrame} {s : State} (h : s.SeamTakes 2 f) (hgen : f.gen = s.seam.gen) :
    ∃ t, exec (.ack f) s = .next t ∧ t.seam.jAck = some (leAt f.pay 0 4) ∧
      t.seam.unacked = s.seam.unacked.filter (fun n => decide (leAt f.pay 0 4 < n)) ∧ t.seam.peerLost = false := by
  refine ⟨_, State.onSeam_exec _ h, ?_⟩
  unfold State.ackIn
  dsimp only
  rw [State.seamAccept_eq, Seam.accepted_of_same s.mono hgen]
  obtain ⟨c, fit, hseam⟩ := State.judgeFit_seam (({ s with seam := { s.seam with rxSeq := some f.lseq, lastAt := s.mono, peerLost := false } } : State).seamMod
    (fun m => { m with
      jAck := some (leAt f.pay 0 4), unacked := m.unacked.filter (fun n => decide (leAt f.pay 0 4 < n)),
      resyncAt := if m.resync then some (m.resyncAt.getD s.mono) else m.resyncAt }))
  rw [hseam]
  exact ⟨rfl, rfl, rfl⟩


theorem State.chooseRole_of_started (p : Bool) {s : State} (h : s.seam.role ≠ .start) : s.chooseRole p = s := if_pos h

theorem State.chooseRole_of_start (p : Bool) {s : State} (h : s.seam.role = .start) :
    s.chooseRole p = if s.seam.other || !s.wins p then s.becomeStandby else s.becomeActive := by
  unfold State.chooseRole
  rw [if_neg (fun hne => hne h)]

theorem State.wins_congr {s t : State} (p : Bool) (himg : t.img = s.img) (hfuses : t.fuses = s.fuses) (hpair : t.seam.pair = s.seam.pair) :
    t.wins p = s.wins p := by
  unfold State.wins State.prefersActive
  rw [himg, hfuses, hpair]

/-- The STATUS of the peer is recorded. -/
def State.statusHeard (f : SeamFrame) (s : State) : State :=
  ((s.seamTake f).1).seamMod (fun m => { m with peer := some f.status, lastStatusAt := some s.mono })

theorem State.statusIn_eq (f : SeamFrame) (s : State) :
    s.statusIn f = ((s.statusHeard f).chooseRole f.status.prefActive).judgeFit := rfl

theorem State.statusHeard_role (f : SeamFrame) (s : State) : (s.statusHeard f).seam.role = s.seam.role := State.seamTake_role f s

theorem status_of_started {f : SeamFrame} {s : State} (h : s.SeamTakes 3 f) (hrole : s.seam.role ≠ .start) :
    ∃ t, exec (.status f) s = .next t ∧ t.seam.peer = some f.status ∧ t.seam.lastStatusAt = some s.mono ∧ t.seam.role = s.seam.role := by
  have hr := State.statusHeard_role f s
  obtain ⟨c, fit, hseam⟩ := State.judgeFit_seam (s.statusHeard f)
  refine ⟨_, State.onSeam_exec _ h, ?_⟩
  rw [State.statusIn_eq, State.chooseRole_of_started _ (by rw [hr]; exact hrole), hseam]
  exact ⟨rfl, rfl, hr⟩

/-- In START the STATUS of the peer decides the role (R283). -/
theorem State.statusHeard_of_start {f : SeamFrame} {s : State} (hrole : s.seam.role = .start) :
    (s.statusHeard f).seam.other = s.seam.other ∧ ∀ p, (s.statusHeard f).wins p = s.wins p := by
  have hst : s.standby = false := by
    unfold State.standby
    rw [hrole]
    rfl
  have heq : s.statusHeard f = ({ s with seam := s.seam.accepted f s.mono } : State).seamMod
      (fun m => { m with peer := some f.status, lastStatusAt := some s.mono }) := by
    unfold State.statusHeard
    rw [State.seamTake_of_no_gap (Or.inl hst), State.seamAccept_eq]
  rw [heq]
  exact ⟨Seam.accepted_other f s.mono s.seam, fun p => State.wins_congr p rfl rfl (Seam.accepted_pair f s.mono s.seam)⟩

theorem status_activates {f : SeamFrame} {s : State} (h : s.SeamTakes 3 f) (hrole : s.seam.role = .start) (hother : s.seam.other = false)
    (hwins : s.wins f.status.prefActive = true) :
    ∃ t, exec (.status f) s = .next t ∧ t.seam.peer = some f.status ∧ t.seam.role = .active ∧ t.seam.drive = true := by
  obtain ⟨ho, hw⟩ := State.statusHeard_of_start (f := f) hrole
  obtain ⟨hr, hd⟩ := State.becomeActive_role (s.statusHeard f)
  have hpeer : (s.statusHeard f).becomeActive.seam.peer = some f.status :=
    congrArg Seam.peer ((State.canopyStart_moves _).frame.get .seam (by decide))
  obtain ⟨c, fit, hseam⟩ := State.judgeFit_seam (s.statusHeard f).becomeActive
  refine ⟨_, State.onSeam_exec _ h, ?_⟩
  rw [State.statusIn_eq, State.chooseRole_of_start _ ((State.statusHeard_role f s).trans hrole), ho, hw, hother, hwins,
    if_neg (by decide), hseam]
  exact ⟨hpeer, hr, hd⟩

theorem status_stands_by {f : SeamFrame} {s : State} (h : s.SeamTakes 3 f) (hrole : s.seam.role = .start)
    (hlose : s.seam.other = true ∨ s.wins f.status.prefActive = false) :
    ∃ t, exec (.status f) s = .next t ∧ t.seam.role = .standby ∧ t.seam.drive = false := by
  obtain ⟨ho, hw⟩ := State.statusHeard_of_start (f := f) hrole
  obtain ⟨hr, hd, -⟩ := State.becomeStandby_role (s.statusHeard f)
  have hgo : (s.seam.other || !s.wins f.status.prefActive) = true := by
    obtain h | h := hlose <;> rw [h]
    · exact Bool.true_or _
    · exact Bool.or_true _
  obtain ⟨c, fit, hseam⟩ := State.judgeFit_seam (s.statusHeard f).becomeStandby
  refine ⟨_, State.onSeam_exec _ h, ?_⟩
  rw [State.statusIn_eq, State.chooseRole_of_start _ ((State.statusHeard_role f s).trans hrole), ho, hw, if_pos hgo, hseam]
  exact ⟨hr, hd⟩

theorem State.takeover_started (reason : Nat) (s : State) : (s.takeover reason).cnp.started = true := (State.takeover_starts reason s).1

theorem release_takesOver {f : SeamFrame} {s : State} (h : s.SeamTakes 4 f) (hfit : s.gtr.unfit = false) :
    ∃ t, exec (.release f) s = .next t ∧ t.seam.role = .taking ∧ t.seam.drive = true ∧ t.seam.reason = leAt f.pay 0 1 % 16 ∧
      t.seam.t0 = s.mono ∧ t.cnp.started = true ∧ t.cnp.mode = .hold ∧ t.told .takeoverStarted := by
  have htake := (State.seamTake_moves f s).frame
  have hmono : (s.seamTake f).1.mono = s.mono := htake.get .mono (by decide)
  have hup : (s.seamTake f).1.up = true := (State.up_congr (htake.get .rst (by decide))).trans h.up
  have hin : s.releaseIn f = (s.seamTake f).1.takeover (leAt f.pay 0 1) := by
    unfold State.releaseIn
    dsimp only
    rw [htake.get .gtr (by decide), hfit, if_neg Bool.false_ne_true]
  obtain ⟨⟨hd, hseam⟩, hmode, htold⟩ := State.takeover_facts (leAt f.pay 0 1) hup
  refine ⟨_, State.onSeam_exec _ h, ?_⟩
  rw [hin, hseam, ← hmono]
  exact ⟨rfl, rfl, rfl, rfl, State.takeover_started .., hmode, htold⟩

/-! ### HANDOVER (R296) -/

theorem handoverDone_gates (c : GCtx) (p : Fin 12) : (handoverDone c).g.gates[p].en = false :=
  gatesOff_en { c.g with hbWait := false, standby := true } p

theorem handover_hands {f : SeamFrame} {s : State} (h : s.SeamTakes 5 f) :
    ∃ t, exec (.handover f) s = .next t ∧ t.gtr.standby = true ∧ t.rst.pend.isSome = true ∧
      ∀ p : Fin 12, t.ports[p].duty = 0 ∧ t.gtr.gates[p].en = false := by
  have hgtr := State.gtrDo_gtr handoverDone (s.seamAccept f)
  refine ⟨_, State.onSeam_exec _ h, (congrArg Gaiter.standby hgtr).trans (handoverDone_standby _), rfl, fun p => ⟨?_, ?_⟩⟩
  · exact congrArg Port.duty (Vector.getElem_map _ p.isLt)
  · exact (congrArg (fun g : Gaiter => g.gates[p].en) hgtr).trans (handoverDone_gates _ p)

/-! ### A full resync (R304) -/

theorem State.fullResync_resyncs (s : State) :
    s.fullResync.seam.resync = true ∧ s.fullResync.seam.synced = false ∧ s.fullResync.seam.resyncAt = none ∧
      s.fullResync.seam.relay = s.seam.relay := by
  obtain ⟨a, ha⟩ : ∃ a, (segments 7 { c := s.jEntry, x := s.jItems }).foldl (fun (s : State) f => s.seamPut false f) s = a := ⟨_, rfl⟩
  have hcore : a.seam.core = s.seam.core := by
    rw [← ha]
    exact foldl_view (view := fun t : State => t.seam.core) (fun t g => State.seamPut_core false g t) _ s
  have hr : a.seam.relay = s.seam.relay := Seam.core_relay hcore
  obtain ⟨c, fit, hseam⟩ := State.judgeFit_seam (a.seamMod (fun m => { m with resync := true, synced := false, resyncAt := none, sentX := s.jItems }))
  unfold State.fullResync
  dsimp only
  rw [ha, hseam]
  exact ⟨rfl, rfl, rfl, hr⟩

theorem resyncReq_resyncs {f : SeamFrame} {s : State} (h : s.SeamTakes 6 f) (hlast : leAt f.pay 0 4 = 0xFFFFFFFF)
    (hrelay : ∀ r, s.seam.relay = some r → r.chan = 0) :
    ∃ t, exec (.resyncReq f) s = .next t ∧ t.seam.resync = true ∧ t.seam.synced = false ∧ t.seam.resyncAt = none := by
  obtain ⟨hre, hsync, hat, hrel⟩ := State.fullResync_resyncs (s.seamAccept f)
  have hreq : (s.seamAccept f).resyncRequest (leAt f.pay 0 4) = (s.seamAccept f).fullResync := by
    unfold State.resyncRequest
    rw [hlast]
    exact if_neg (fun hh => hh.1 rfl)
  have hin : s.resyncIn f = (s.seamAccept f).fullResync.relayBreak := by
    unfold State.resyncIn
    dsimp only
    rw [hreq, if_pos hre]
  have hsame : (s.seamAccept f).seam.relay = s.seam.relay := by
    rw [State.seamAccept_eq]
    exact Seam.accepted_relay ..
  obtain ⟨l, hl⟩ := State.relayBreak_spi (s := (s.seamAccept f).fullResync) (by rw [hrel, hsame]; exact hrelay)
  refine ⟨_, State.onSeam_exec _ h, ?_⟩
  rw [hin, hl]
  exact ⟨hre, hsync, hat⟩

/-! ### The relay (R306) -/

theorem relay_opens {f : SeamFrame} {s : State} (h : s.SeamTakes 8 f) (hok : relayOk f = true) (hread : leAt f.pay 4 1 = 1) :
    ∃ t, exec (.relay f) s = .next t ∧ t.seam.relayWin = some (s.mono + 1000000) := by
  obtain ⟨a, ha⟩ : ∃ a, ((s.seamTake f).1).seamMod (fun m => { m with relayWin := some (s.mono + 1000000) }) = a := ⟨_, rfl⟩
  have hup : a.up = true := by
    rw [← ha]
    exact (State.up_congr ((State.seamTake_moves f s).frame.get .rst (by decide))).trans h.up
  have hmono : a.mono = s.mono := by
    rw [← ha]
    exact (State.seamTake_moves f s).frame.get .mono (by decide)
  have hrun := (State.readRun_moves (leAt f.pay 12 4) (leAt f.pay 8 4) a).frame
  obtain ⟨r, hr⟩ : ∃ r, State.readRun (leAt f.pay 12 4) (leAt f.pay 8 4) a = r := ⟨_, rfl⟩
  have hin : s.relayIn f = r.2.2.relayReply (leAt f.pay 0 4) r.1 r.2.1.length r.2.1 := by
    unfold State.relayIn
    dsimp only
    rw [hok, if_neg (by decide), if_pos hread, ha, hr]
  rw [hr] at hrun
  refine ⟨_, State.onSeam_exec _ h, ?_⟩
  rw [hin]
  unfold State.relayReply
  rw [if_pos ((State.up_congr (hrun.get .rst (by decide))).trans hup)]
  show some _ = some _
  rw [hrun.get .mono (by decide), hmono]

theorem relayRsp_ends {f : SeamFrame} {s : State} {r : RelayPend} (h : s.SeamTakes 9 f) (hr : s.seam.relay = some r)
    (htag : leAt f.pay 0 4 = r.tag) (hst : leAt f.pay 4 4 = 0) (hall : leAt f.pay 8 4 = r.left) (hread : r.write = false) (hchan : r.chan = 0) :
    ∃ t, exec (.relayRsp f) s = .next t ∧ t.seam.relay = none ∧
      Sends (spiEnd r.sent .ok (r.got ++ (wordsFrom (f.pay.drop 16) r.left).take r.left)) s t := by
  have hrel : (s.seamAccept f).seam.relay = some r := by
    rw [State.seamAccept_eq]
    exact (Seam.accepted_relay ..).trans hr
  have hout : (s.seamAccept f).out = s.out := by rw [State.seamAccept_eq]
  have hin : s.relayRspIn f = ({ s.seamAccept f with seam := { (s.seamAccept f).seam with relay := none } } : State).emit
      (spiEnd r.sent .ok (r.got ++ (wordsFrom (f.pay.drop 16) r.left).take r.left)) := by
    unfold State.relayRspIn
    dsimp only
    rw [hrel]
    dsimp only
    rw [if_neg (fun hne => hne htag), hst, hall]
    unfold State.relayNext RelayPend.advance State.relayAnswer State.relayDone
    dsimp only
    rw [Nat.sub_self, hread, hchan, if_neg (fun hh => Nat.lt_irrefl 0 hh.2)]
    rfl
  refine ⟨_, State.onSeam_exec _ h, ?_⟩
  rw [hin]
  exact ⟨rfl, [_], congrArg (· ++ [_]) hout, List.mem_singleton_self _⟩

/-! ### Refused frames (Table 10.4) -/

section

variable {s : State} {f : SeamFrame} (hup : s.up = true) (hpair : s.seam.pair.isSome = true) (hlanes : s.seam.upLanes ≠ [])

include hup hpair hlanes

/-- A frame that a unit of a running pair hears under its own command is judged. -/
theorem State.onSeam_heard {typ : Nat} (act : State → State) (htyp : f.typ = typ) :
    s.onSeam typ f act = match s.seamJudge f with
      | .crc => s.seamMod (fun m => { m with crcErr := satInc 8 m.crcErr })
      | .form => s.seamMod (fun m => { m with badLen := satInc 8 m.badLen })
      | .late => s.seamMod (fun m => { m with late := satInc 8 m.late })
      | .auth => s.seamAuthFail
      | .role => s.wrongState (some .seamProtocol)
      | .ok => act s := by
  have hnone : s.seam.pair.isNone = false := by
    rw [← Option.not_isSome, hpair]
    rfl
  have hempty : s.seam.upLanes.isEmpty = false := by simpa using hlanes
  unfold State.onSeam
  rw [if_neg (by simp [hup, hnone, hempty, htyp])] <;> rfl

omit hup hpair hlanes in
/-- Both lanes go down after tag failures (R287). -/
theorem State.lanesFail_drops (now : Nat) (a : State) :
    (a.seamMod (fun m => { m with authTimes := [], lane := m.lane.map (fun _ => { up := false, downAt := some now }) })).judgeFit.seam.auth =
        a.seam.auth ∧
      ∀ k : Fin 2, (a.seamMod (fun m => { m with
        authTimes := [], lane := m.lane.map (fun _ => { up := false, downAt := some now }) })).judgeFit.seam.lane[k].up = false := by
  obtain ⟨c, fit, hseam⟩ := State.judgeFit_seam (a.seamMod (fun m => { m with
    authTimes := [], lane := m.lane.map (fun _ => { up := false, downAt := some now }) }))
  have hauth := congrArg Seam.auth hseam
  refine ⟨hauth, fun k => ?_⟩
  have hl := congrArg Seam.lane hseam
  exact (congrArg (fun v : Vector SeamLane 2 => v[k].up) hl).trans
    (congrArg SeamLane.up (Vector.getElem_map (fun _ => { up := false, downAt := some now }) k.isLt))

theorem ack_auth_fails (hj : s.seamJudge f = .auth) (htyp : f.typ = 2) :
    ∃ t, exec (.ack f) s = .next t ∧ t.seam.auth = satInc 8 s.seam.auth ∧
      (2 ≤ (s.seam.authTimes.filter (fun t => decide (s.mono < t + 1000000))).length → ∀ k : Fin 2, t.seam.lane[k].up = false) := by
  have hex := State.onSeam_heard hup hpair hlanes (State.ackIn f) htyp
  rw [hj] at hex
  refine ⟨_, congrArg Host.Outcome.next hex, ?_⟩
  obtain ⟨ts, hts⟩ : ∃ ts, (s.mono :: s.seam.authTimes).filter (fun t => decide (s.mono < t + 1000000)) = ts := ⟨_, rfl⟩
  have hlen : ts.length = (s.seam.authTimes.filter (fun t => decide (s.mono < t + 1000000))).length + 1 := by
    rw [← hts, List.filter_cons_of_pos (by rw [decide_eq_true_eq]; omega), List.length_cons]
  unfold State.seamAuthFail
  dsimp only
  rw [hts]
  split
  · exact ⟨(State.lanesFail_drops ..).1, fun _ => (State.lanesFail_drops ..).2⟩
  · next hfew => exact ⟨rfl, fun h2 => by omega⟩

theorem handover_role_fails (hj : s.seamJudge f = .role) (htyp : f.typ = 5) :
    ∃ t, exec (.handover f) s = .next t ∧ t.seam = s.seam ∧ t.told .seamProtocol ∧ t.thk.nis = satInc 16 s.thk.nis := by
  have hex := State.onSeam_heard hup hpair hlanes (fun s => (s.seamAccept f).handedOver) htyp
  rw [hj] at hex
  have hup' : ({ s with thk := s.thk.countNis none } : State).up = true := hup
  refine ⟨_, congrArg Host.Outcome.next hex, (State.raise_seam ..).trans rfl, State.raise_told _ _ hup', ?_⟩
  exact congrArg Thicket.nis (State.raiseAt_thk _ 0 _ hup')

end

/-- Settles O35: the rules of accepted and refused frames of the pair link. -/
theorem seamFramesAct : Obligations.SeamFramesAct := by
  refine ⟨fun s f => ⟨fun h _ hgap hseg e he => journal_stores h hgap hseg he, ack_takes, fun h => ⟨status_of_started h, status_activates h,
    status_stands_by h⟩, release_takesOver, handover_hands, resyncReq_resyncs, fun h _ hgap hseg e he => snapshotFrame_takes h hgap hseg he,
    relay_opens, fun r h hr htag hst hall hread hchan => relayRsp_ends h hr htag hst hall hread hchan⟩,
    fun s f hup hpair hlanes => ⟨fun hj htyp => ?_, fun hj htyp => ?_, fun hj htyp => ?_, ack_auth_fails hup hpair hlanes,
    handover_role_fails hup hpair hlanes⟩⟩
  · refine congrArg Host.Outcome.next ((State.onSeam_heard hup hpair hlanes (State.journalIn f) htyp).trans ?_)
    rw [hj]
    rfl
  · refine congrArg Host.Outcome.next ((State.onSeam_heard hup hpair hlanes (State.releaseIn f) htyp).trans ?_)
    rw [hj]
    rfl
  · refine congrArg Host.Outcome.next ((State.onSeam_heard hup hpair hlanes (State.statusIn f) htyp).trans ?_)
    rw [hj]
    rfl

end Sys2Proof.Machine
end

section
/-! ## Rules of the stack chains -/

namespace Sys2Proof.Machine

theorem State.up_of_lacOn {c : Fin 4} {s : State} (h : s.lacOn c = true) : s.up = true := by
  unfold State.lacOn State.lacRuns State.side at h
  simp only [Bool.and_eq_true] at h
  obtain ⟨-, ⟨hup, -⟩, -⟩ := h
  exact hup

theorem State.onLacing_exec {c : Fin 4} {s : State} (h : s.lacOn c = true) (f : LX → LX) :
    (.next (s.onLacing c f) : Host.Outcome State Fault Refusal) = .next (s.lacDo c f) :=
  congrArg Host.Outcome.next (State.onlyIf_of h _ s)

section

variable {c : Fin 4} {r : LacChain} {s : State} (hr : s.cfg.lacChain.find? (fun r => r.chain == c.val) = some r)

include hr

theorem State.lacDo_eq (f : LX → LX) :
    s.lacDo c f = (f (s.lacAt c r)).out.foldl State.lacEff { s with lac := { s.lac with ch := upd s.lac.ch c (fun _ => (f (s.lacAt c r)).c) } } := by
  unfold State.lacDo
  rw [hr]
  rfl

/-- A function of a chain leaves what it computes. -/
theorem State.lacDo_ch (f : LX → LX) : (s.lacDo c f).lac.ch[c] = (f (s.lacAt c r)).c :=
  (congrArg (fun l : Lacing => l.ch[c]) (State.lacDo_lac c f s r hr)).trans (upd_same ..)

theorem State.lacDo_sends (f : LX → LX) {o : LacOut} (ho : o ∈ (f (s.lacAt c r)).out) (hout : ∀ t : State, t.lacEff o = t.emit (.lac o)) :
    Sends (.lac o) s (s.lacDo c f) := by
  rw [State.lacDo_eq hr]
  refine foldl_reaches (Q := fun t : State => s.out <+: t.out) ho (fun t x ht => ht.trans (State.lacEff_moves t x).sent) (fun t ht => ?_)
    (fun t x _ hp => hp.after (State.lacEff_moves t x).sent) _ (List.prefix_refl _)
  rw [hout]
  exact (Sends.emit _ t).before ht

theorem State.lacDo_told (f : LX → LX) {e : Ev} (hup : s.up = true) (he : .ev e ∈ (f (s.lacAt c r)).out) : (s.lacDo c f).told e := by
  rw [State.lacDo_eq hr]
  exact foldl_reaches (Q := fun t : State => t.up = true) he
    (fun t x ht => (State.up_congr ((State.lacEff_moves t x).frame.get .rst (by decide))).trans ht)
    (fun t ht => State.raise_told e t ht) (fun t x _ hp => State.told_lacEff x hp) _ hup

end

/-- A function of one chain leaves the others. -/
theorem State.lacDo_other {c d : Fin 4} (h : d ≠ c) (f : LX → LX) (s : State) : (s.lacDo c f).lac.ch[d] = s.lac.ch[d] := by
  cases hr : s.cfg.lacChain.find? (fun r => r.chain == c.val) with
  | none =>
    unfold State.lacDo
    rw [hr]
  | some r => exact (congrArg (fun l : Lacing => l.ch[d]) (State.lacDo_lac c f s r hr)).trans (upd_other _ _ _ _ h)

theorem State.lacDo_swid (c : Fin 4) (f : LX → LX) (s : State) :
    (s.lacDo c f).lac.run = s.lac.run ∧ (s.lacDo c f).lac.swid = s.lac.swid ∧ (s.lacDo c f).lac.sweep = s.lac.sweep := by
  cases hr : s.cfg.lacChain.find? (fun r => r.chain == c.val) with
  | none =>
    unfold State.lacDo
    rw [hr]
    exact ⟨rfl, rfl, rfl⟩
  | some r =>
    rw [State.lacDo_lac c f s r hr]
    exact ⟨rfl, rfl, rfl⟩

/-! ### The wake pattern (Table 11.6) -/

theorem LX.to_st (st : LacSt) (x : LX) : (x.to st).c = { x.c with st := st } := by
  unfold LX.to
  by_cases h : x.c.st = st
  · rw [if_pos h, ← h]
  · rw [if_neg h]
    rfl

theorem LX.to_out {st : LacSt} {x : LX} (h : x.c.st ≠ st) : (x.to st).out = x.out ++ [.ev .lacingChain] := by
  unfold LX.to
  rw [if_neg h]
  rfl

theorem LX.to_keeps (st : LacSt) (x : LX) : x.out <+: (x.to st).out := by
  by_cases h : x.c.st = st
  · unfold LX.to
    rw [if_pos h]
  · rw [LX.to_out h]
    exact List.prefix_append ..

theorem lacWake_c (x : LX) : (lacWake x).c = { x.c with
    wakeAt := x.now, cmd := none, todo := [], busy := [], owt := none, idents := [], enumDone := false, st := .wake } :=
  LX.to_st ..

theorem lacWake_sends (x : LX) : .wake x.n ∈ (lacWake x).out :=
  (LX.to_keeps ..).subset (List.mem_append_right _ (List.mem_singleton_self _))

theorem lacWake_told {x : LX} (h : x.c.st ≠ .wake) : .ev .lacingChain ∈ (lacWake x).out := by
  unfold lacWake
  rw [LX.to_out]
  · exact List.mem_append_right _ (List.mem_singleton_self _)
  · exact h

/-- A chain that wakes (Table 11.6). -/
theorem State.lacDo_wakes {c : Fin 4} {r : LacChain} {s : State} (hr : s.cfg.lacChain.find? (fun r => r.chain == c.val) = some r)
    {f : LX → LX} {x : LX} (hf : f (s.lacAt c r) = lacWake x) (hn : x.n = c) (hnow : x.now = s.mono) :
    (s.lacDo c f).lac.ch[c].st = .wake ∧ (s.lacDo c f).lac.ch[c].wakeAt = s.mono ∧ Sends (.lac (.wake c)) s (s.lacDo c f) := by
  have hch := State.lacDo_ch hr f
  rw [hf, lacWake_c, hnow] at hch
  refine ⟨by rw [hch], by rw [hch], ?_⟩
  rw [← hn]
  exact State.lacDo_sends hr f (by rw [hf]; exact lacWake_sends x) (fun _ => rfl)

/-! ### Commands of a chain (R314, R320) -/

theorem LX.sendAt_of_run {x : LX} (h : x.c.st = .run) : x.sendAt = max x.now (x.c.convAt + 1580 + x.g.settle * 100) := if_pos h

theorem LX.sendAt_of_not_run {x : LX} (h : x.c.st ≠ .run) : x.sendAt = x.now := if_neg h

theorem lacSend_c (op : LacOp) (again : Bool) (x : LX) : (lacSend op again x).c = { x.c with
    cseq := (x.c.cseq + 1) % 256, cmd := some { op := op, cseq := x.c.cseq, retried := again, sentAt := x.sendAt } } := rfl

theorem lacSend_out (op : LacOp) (again : Bool) (x : LX) : (lacSend op again x).out = x.out ++
    [.frame x.n x.sendAt (lacFrame (op.form x.g).1 (op.form x.g).2.1 (op.form x.g).2.2.1 (op.form x.g).2.2.2.1 (op.form x.g).2.2.2.2 x.c.cseq)] :=
  rfl

end Sys2Proof.Machine
end

section
/-! ## Stack chains start (O38: `LacingChainsStart`) -/

namespace Sys2Proof.Machine

/-! ### LAC_CTRL -/

/-- The chain with its RUN bit as the host writes it (Table 11.6). -/
def State.lacTurn (w : Nat) (s : State) (c : Fin 4) : State :=
  if !s.lacOn c then s
  else if bitOf c w && s.lac.ch[c].st == .off then s.lacDo c lacWake
  else if !bitOf c w && s.lac.ch[c].st == .run then s.lacDo c lacSleep
  else s

theorem lacCtrlWrite_accepts {w : Nat} {s : State}
    (h : ∀ c : Fin 4, bitOf c w ≠ bitOf c s.lac.run → ∃ r ∈ s.cfg.lacChain, r.chain = c.val) :
    lacCtrlWrite w s = (.ok, (List.finRange 4).foldl (State.lacTurn w) { s with lac := { s.lac with run := field 0 4 w } }) := by
  have hall : ¬ (List.range 4).any (fun c => (bitOf c w != bitOf c s.lac.run) && !s.cfg.lacChain.any (fun r => r.chain == c)) = true := by
    rw [List.any_eq_true]
    rintro ⟨c, hc, hbad⟩
    rw [Bool.and_eq_true, Bool.not_eq_true', bne_iff_ne] at hbad
    obtain ⟨r, hr, hrc⟩ := h ⟨c, List.mem_range.mp hc⟩ hbad.1
    have hany : s.cfg.lacChain.any (fun r => r.chain == c) = true := List.any_eq_true.mpr ⟨r, hr, beq_iff_eq.mpr hrc⟩
    rw [hany] at hbad
    exact absurd hbad.2 (by decide)
  unfold lacCtrlWrite
  dsimp only
  rw [if_neg hall]
  rfl

theorem lacCtrlWrite_refuses {w : Nat} {s : State} (c : Fin 4) (hbit : bitOf c w ≠ bitOf c s.lac.run)
    (h : ∀ r ∈ s.cfg.lacChain, r.chain ≠ c.val) : lacCtrlWrite w s = (.notInState, s) := by
  have hany : s.cfg.lacChain.any (fun r => r.chain == c.val) = false :=
    List.any_eq_false.mpr (fun r hr => by rw [beq_iff_eq]; exact h r hr)
  unfold lacCtrlWrite
  dsimp only
  refine if_pos (List.any_eq_true.mpr ⟨c.val, List.mem_range.mpr c.isLt, ?_⟩)
  rw [hany, bne_iff_ne.mpr hbit]
  rfl

theorem State.lacTurn_moves (w : Nat) (s : State) (c : Fin 4) : Moves [.thk, .lac, .hst, .out] s (s.lacTurn w c) := by
  unfold State.lacTurn
  split
  · exact .refl _ _
  split
  · exact State.lacDo_moves ..
  split
  · exact State.lacDo_moves ..
  · exact .refl _ _

theorem State.lacTurn_other (w : Nat) (s : State) {c d : Fin 4} (h : d ≠ c) : (s.lacTurn w c).lac.ch[d] = s.lac.ch[d] := by
  unfold State.lacTurn
  split
  · rfl
  split
  · exact State.lacDo_other h ..
  split
  · exact State.lacDo_other h ..
  · rfl

theorem State.lacTurn_run (w : Nat) (s : State) (c : Fin 4) : (s.lacTurn w c).lac.run = s.lac.run := by
  unfold State.lacTurn
  split
  · rfl
  split
  · exact (State.lacDo_swid ..).1
  split
  · exact (State.lacDo_swid ..).1
  · rfl

theorem State.lacOn_congr {s t : State} (c : Fin 4) (hf : t.fuses = s.fuses) (hr : t.rst = s.rst) (hseam : t.seam = s.seam) :
    t.lacOn c = s.lacOn c := by
  unfold State.lacOn State.lacRuns State.side State.standby State.releasedRole
  rw [hf, hseam, State.up_congr hr]

theorem find_chain_of_mem {c : Fin 4} {s : State} (h : ∃ r ∈ s.cfg.lacChain, r.chain = c.val) :
    ∃ r, s.cfg.lacChain.find? (fun r => r.chain == c.val) = some r := by
  obtain ⟨r, hr, hc⟩ := h
  exact Option.isSome_iff_exists.mp (List.find?_isSome.mpr ⟨r, hr, beq_iff_eq.mpr hc⟩)

theorem lacSleep_c (x : LX) : (lacSleep x).c = { x.c with
    cseq := (x.c.cseq + 1) % 256, cmd := none, todo := [], busy := [], owt := none, complete := false,
    node := x.c.node.map (fun nd => { nd with maskW := 0 }), st := .off } := LX.to_st ..

/-- What the write of its RUN bit does to a chain. -/
theorem State.lacTurn_turns {w : Nat} {s : State} {c : Fin 4} (hon : s.lacOn c = true) {r : LacChain}
    (hr : s.cfg.lacChain.find? (fun r => r.chain == c.val) = some r) :
    (bitOf c w = true → s.lac.ch[c].st = .off → (s.lacTurn w c).lac.ch[c].st = .wake ∧ (s.lacTurn w c).lac.ch[c].wakeAt = s.mono ∧
      Sends (.lac (.wake c)) s (s.lacTurn w c)) ∧
    (bitOf c w = false → s.lac.ch[c].st = .run → (s.lacTurn w c).lac.ch[c].st = .off ∧ (s.lacTurn w c).lac.ch[c].cmd = none) ∧
    (bitOf c w = true → s.lac.ch[c].st ≠ .off → (s.lacTurn w c).lac.ch[c] = s.lac.ch[c]) := by
  unfold State.lacTurn
  rw [hon, if_neg (by decide)]
  refine ⟨fun hbit hst => ?_, fun hbit hst => ?_, fun hbit hst => ?_⟩
  · rw [hbit, hst, if_pos (by decide)]
    exact State.lacDo_wakes hr (x := s.lacAt c r) rfl rfl rfl
  · rw [hbit, hst, if_neg (by decide), if_pos (by decide), State.lacDo_ch hr, lacSleep_c]
    exact ⟨rfl, rfl⟩
  · have hoff : (s.lac.ch[c].st == .off) = false := by simpa using hst
    rw [hbit, hoff, if_neg (by decide)]
    rfl

theorem finRange_split {n : Nat} (c : Fin n) : ∃ l m, List.finRange n = l ++ c :: m ∧ c ∉ l ∧ c ∉ m := by
  obtain ⟨l, m, h⟩ := List.append_of_mem (List.mem_finRange c)
  have hnd := List.nodup_finRange n
  rw [h, List.nodup_append] at hnd
  obtain ⟨-, hm, hd⟩ := hnd
  exact ⟨l, m, h, fun hl => hd c hl c List.mem_cons_self rfl, (List.nodup_cons.mp hm).1⟩

theorem State.lacTurns_moves (w : Nat) (l : List (Fin 4)) (s : State) : Moves [.thk, .lac, .hst, .out] s (l.foldl (State.lacTurn w) s) :=
  Moves.foldl (fun t c => State.lacTurn_moves w t c) l _ _ (.refl _ s)

theorem State.lacTurns_other (w : Nat) {l : List (Fin 4)} {c : Fin 4} (h : c ∉ l) (s : State) :
    (l.foldl (State.lacTurn w) s).lac.ch[c] = s.lac.ch[c] :=
  List.foldlRecOn (motive := fun t : State => t.lac.ch[c] = s.lac.ch[c]) l _ rfl
    (fun t ht d hd => (State.lacTurn_other w t (fun he : c = d => h (he ▸ hd))).trans ht)

/-- What the write does to all chains. -/
theorem State.lacTurns_turn {w : Nat} {s : State} {c : Fin 4} (hon : s.lacOn c = true) (hc : ∃ r ∈ s.cfg.lacChain, r.chain = c.val) :
    (bitOf c w = true → s.lac.ch[c].st = .off → ((List.finRange 4).foldl (State.lacTurn w) s).lac.ch[c].st = .wake ∧
      ((List.finRange 4).foldl (State.lacTurn w) s).lac.ch[c].wakeAt = s.mono ∧
      Sends (.lac (.wake c)) s ((List.finRange 4).foldl (State.lacTurn w) s)) ∧
    (bitOf c w = false → s.lac.ch[c].st = .run → ((List.finRange 4).foldl (State.lacTurn w) s).lac.ch[c].st = .off ∧
      ((List.finRange 4).foldl (State.lacTurn w) s).lac.ch[c].cmd = none) ∧
    (bitOf c w = true → s.lac.ch[c].st ≠ .off → ((List.finRange 4).foldl (State.lacTurn w) s).lac.ch[c] = s.lac.ch[c]) := by
  obtain ⟨l, m, hsplit, hl, hm⟩ := finRange_split c
  obtain ⟨r, hr⟩ := find_chain_of_mem hc
  obtain ⟨d, hd⟩ : ∃ d, l.foldl (State.lacTurn w) s = d := ⟨_, rfl⟩
  have hmoves : Moves [.thk, .lac, .hst, .out] s d := by
    rw [← hd]
    exact State.lacTurns_moves w l s
  have hch : d.lac.ch[c] = s.lac.ch[c] := by
    rw [← hd]
    exact State.lacTurns_other w hl s
  have hond : d.lacOn c = true := (State.lacOn_congr c (hmoves.frame.get .fuses (by decide)) (hmoves.frame.get .rst (by decide))
    (hmoves.frame.get .seam (by decide))).trans hon
  have hfold : (List.finRange 4).foldl (State.lacTurn w) s = m.foldl (State.lacTurn w) (d.lacTurn w c) := by
    rw [hsplit, List.foldl_append, hd, List.foldl_cons]
  have hafter := State.lacTurns_other w hm (d.lacTurn w c)
  have hmono : d.mono = s.mono := hmoves.frame.get .mono (by decide)
  obtain ⟨hwake, hsleep, hstay⟩ := State.lacTurn_turns (w := w) hond (r := r) (by rw [hmoves.frame.get .cfg (by decide)]; exact hr)
  rw [hfold, hafter]
  rw [hch, hmono] at hwake
  rw [hch] at hsleep hstay
  refine ⟨fun hbit hst => ?_, hsleep, hstay⟩
  obtain ⟨h1, h2, h3⟩ := hwake hbit hst
  exact ⟨h1, h2, (h3.before hmoves.sent).after (State.lacTurns_moves w m _).sent⟩

theorem lacingRunWrite_turns {w : Word} {s : State} (hr : s.HostReady 0x24000)
    (h : ∀ c : Fin 4, bitOf c w.toNat ≠ bitOf c s.lac.run → ∃ r ∈ s.cfg.lacChain, r.chain = c.val) :
    ∃ t, exec (.lacingRunWrite w) s = .next t ∧ t.lac.run = w.toNat % 16 ∧ t.answered .ok [] ∧
      ∀ c : Fin 4, s.lacOn c = true → (∃ r ∈ s.cfg.lacChain, r.chain = c.val) →
        (bitOf c w.toNat = true → s.lac.ch[c].st = .off → t.lac.ch[c].st = .wake ∧ t.lac.ch[c].wakeAt = s.mono ∧
          Sends (.lac (.wake c)) s t) ∧
        (bitOf c w.toNat = false → s.lac.ch[c].st = .run → t.lac.ch[c].st = .off ∧ t.lac.ch[c].cmd = none) ∧
        (bitOf c w.toNat = true → s.lac.ch[c].st ≠ .off → t.lac.ch[c] = s.lac.ch[c]) := by
  obtain ⟨u, hu⟩ : ∃ u, ({ s with lac := { s.lac with run := field 0 4 w.toNat } } : State) = u := ⟨_, rfl⟩
  have hw : pageWrite .lac 0 w.toNat s = some (.ok, (List.finRange 4).foldl (State.lacTurn w.toNat) u) := by
    rw [← hu]
    exact congrArg some (lacCtrlWrite_accepts h)
  obtain ⟨k, hk⟩ := State.hostWrite_done 0x24000 w.toNat .lac 0 s _ hr rfl (by decide) hw
  have hrun : ((List.finRange 4).foldl (State.lacTurn w.toNat) u).lac.run = w.toNat % 16 := by
    rw [foldl_view (view := fun t : State => t.lac.run) (fun t c => State.lacTurn_run _ t c), ← hu]
    exact Nat.mod_eq_of_lt (Nat.mod_lt _ (by decide)) |>.symm.trans (by simp)
  refine ⟨_, hk, hrun, State.answered_append .., fun c hon hc => ?_⟩
  obtain ⟨hwake, hsleep, hstay⟩ := State.lacTurns_turn (w := w.toNat) (s := u) (c := c) (by rw [← hu]; exact hon) (by rw [← hu]; exact hc)
  have hmono : u.mono = s.mono := by rw [← hu]
  have hout : u.out = s.out := by rw [← hu]
  have hch : u.lac.ch[c] = s.lac.ch[c] := by rw [← hu]
  rw [hch, hmono] at hwake
  rw [hch] at hsleep hstay
  refine ⟨fun hbit hst => ?_, hsleep, hstay⟩
  obtain ⟨h1, h2, h3⟩ := hwake hbit hst
  exact ⟨h1, h2, (h3.before (s := s) (by rw [hout])).after (List.prefix_append _ _)⟩

theorem lacingRunWrite_refused {w : Word} {c : Fin 4} {s : State} (hr : s.HostReady 0x24000) (hbit : bitOf c w.toNat ≠ bitOf c s.lac.run)
    (h : ∀ r ∈ s.cfg.lacChain, r.chain ≠ c.val) :
    ∃ t, exec (.lacingRunWrite w) s = .next t ∧ t.lac = s.lac ∧ t.answered .notInState [] :=
  ⟨_, State.hostWrite_refusal 0x24000 w.toNat .lac 0 s .notInState hr rfl (by decide) (by decide)
    (congrArg some (lacCtrlWrite_refuses c hbit h)), (State.judged_moves ..).frame.get .lac (by decide), State.answered_emit ..⟩

/-! ### Enumeration (R316) -/

theorem lacWakeDone_starts {x : LX} (h : x.c.st = .wake) (hlate : x.c.wakeAt + 10000 ≤ x.now) :
    (lacWakeDone x).c.st = .enum ∧ (lacWakeDone x).c.cmd = some { op := .ident 0, cseq := x.c.cseq, sentAt := x.now } ∧
      (lacWakeDone x).out = x.out ++ [.ev .lacingChain] ++ [.frame x.n x.now (lacFrame 0x01 0 0x40 8 [] x.c.cseq)] := by
  obtain ⟨y, hy⟩ : ∃ y, (x.mod (fun c => { c with
    idents := [], enumDone := false, more := false, cmd := none, todo := [], busy := [] })) = y := ⟨_, rfl⟩
  have hst : y.c.st = .wake := by
    rw [← hy]
    exact h
  have hto : y.to .enum = (y.mod (fun c => { c with st := .enum })).put (.ev .lacingChain) := if_neg (by rw [hst]; decide)
  have hdone : lacWakeDone x = lacSend (.ident 0) false ((y.mod (fun c => { c with st := .enum })).put (.ev .lacingChain)) := by
    unfold lacWakeDone
    rw [if_pos ⟨h, hlate⟩, hy, hto]
  rw [hdone, ← hy]
  exact ⟨rfl, rfl, rfl⟩

/-- A node after an enumeration that found `found` of the identities `ids`. -/
def LacNode.enumerated (found : Nat) (ids : List Nat) (h : Nat) (nd : LacNode) : LacNode :=
  if h < found then { nd with serial := ids.getD h 0, lost := false, miss := 0, got := false, known := false, refused := false }
  else { lost := nd.lost, serial := ids.getD h 0, refused := decide (h < ids.length) }

/-- A chain after an enumeration that found `found` of the identities `ids`. -/
def LacCh.enumerated (found nodes now : Nat) (ids : List Nat) (c : LacCh) : LacCh :=
  { c with
    found := found, partial_ := decide (found < nodes), attempts := 0, admitAt := now, evald := true,
    owtDone := true, complete := false, st := .run,
    node := mapIdx c.node (LacNode.enumerated found ids) }

theorem LacCh.enumerated_node {found : Nat} (nodes now : Nat) (ids : List Nat) (c : LacCh) {h : Fin 32} (hh : h.val < found) :
    (c.enumerated found nodes now ids).node[h].serial = ids.getD h 0 ∧ (c.enumerated found nodes now ids).node[h].lost = false := by
  unfold LacCh.enumerated
  dsimp only
  rw [Fin.getElem_fin, mapIdx_get _ _ h.isLt]
  unfold LacNode.enumerated
  rw [if_pos hh]
  exact ⟨rfl, rfl⟩

theorem lacEnum_runs {x : LX} (hst : x.c.st = .enum) (hdone : x.c.enumDone = true) {i : Nat} {is : List Nat} (hids : x.c.idents = i :: is) :
    (lacEnum x).c = x.c.enumerated (min (is.length + 1) x.r.nodes) x.r.nodes x.now (i :: is) ∧ .ev .lacingChain ∈ (lacEnum x).out := by
  have hgo : ¬ (x.c.st ≠ .enum ∨ (!x.c.enumDone) = true) := by
    rw [hst, hdone]
    decide
  unfold lacEnum
  rw [if_neg hgo, hids]
  refine ⟨LX.to_st .., ?_⟩
  dsimp only
  rw [LX.to_out]
  · exact List.mem_append_right _ (List.mem_singleton_self _)
  · show x.c.st ≠ .run
    rw [hst]
    decide

theorem lacEnum_faults {x : LX} (hst : x.c.st = .enum) (hdone : x.c.enumDone = true) (hids : x.c.idents = []) (hn : 2 ≤ x.c.attempts) :
    (lacEnum x).c = { x.c with attempts := 0, faultAt := x.now, found := 0, st := .fault } ∧ .ev .lacingChain ∈ (lacEnum x).out := by
  have hgo : ¬ (x.c.st ≠ .enum ∨ (!x.c.enumDone) = true) := by
    rw [hst, hdone]
    decide
  unfold lacEnum
  rw [if_neg hgo, hids]
  dsimp only
  rw [if_pos (by omega)]
  refine ⟨LX.to_st .., ?_⟩
  rw [LX.to_out]
  · exact List.mem_append_right _ (List.mem_singleton_self _)
  · show x.c.st ≠ .fault
    rw [hst]
    decide

theorem lacEnum_wakes {x : LX} (hst : x.c.st = .enum) (hdone : x.c.enumDone = true) (hids : x.c.idents = []) (hn : x.c.attempts < 2) :
    lacEnum x = lacWake (x.mod (fun c => { c with attempts := x.c.attempts + 1 })) := by
  have hgo : ¬ (x.c.st ≠ .enum ∨ (!x.c.enumDone) = true) := by
    rw [hst, hdone]
    decide
  unfold lacEnum
  rw [if_neg hgo, hids]
  dsimp only
  rw [if_neg (by omega)]

/-! ### The commands of a chain -/

section

variable {c : Fin 4} {r : LacChain} {s : State} (hon : s.lacOn c = true)
  (hr : s.cfg.lacChain.find? (fun r => r.chain == c.val) = some r)

include hon hr

theorem wakeDone_enumerates (hst : s.lac.ch[c].st = .wake) (hlate : s.lac.ch[c].wakeAt + 10000 ≤ s.mono) :
    ∃ t, exec (.wakeDone c) s = .next t ∧ t.lac.ch[c].st = .enum ∧
      t.lac.ch[c].cmd = some { op := .ident 0, cseq := s.lac.ch[c].cseq, sentAt := s.mono } ∧ t.told .lacingChain ∧
      Sends (.lac (.frame c s.mono (lacFrame 0x01 0 0x40 8 [] s.lac.ch[c].cseq))) s t := by
  obtain ⟨h1, h2, h3⟩ := lacWakeDone_starts (x := s.lacAt c r) hst hlate
  have hch := State.lacDo_ch hr lacWakeDone
  refine ⟨_, State.onLacing_exec hon _, by rw [hch, h1], by rw [hch, h2]; rfl, ?_, ?_⟩
  · exact State.lacDo_told hr _ (State.up_of_lacOn hon) (by rw [h3]; exact List.mem_append_left _ (List.mem_append_right _ (List.mem_singleton_self _)))
  · exact State.lacDo_sends hr _ (by rw [h3]; exact List.mem_append_right _ (List.mem_singleton_self _)) (fun _ => rfl)

theorem enumeration_runs (hst : s.lac.ch[c].st = .enum) (hdone : s.lac.ch[c].enumDone = true) {i : Nat} {is : List Nat}
    (hids : s.lac.ch[c].idents = i :: is) :
    ∃ t, exec (.enumeration c) s = .next t ∧ t.lac.ch[c].st = .run ∧ t.lac.ch[c].found = min (is.length + 1) r.nodes ∧
      t.lac.ch[c].partial_ = decide (min (is.length + 1) r.nodes < r.nodes) ∧ t.lac.ch[c].attempts = 0 ∧ t.told .lacingChain ∧
      ∀ h : Fin 32, h.val < min (is.length + 1) r.nodes → t.lac.ch[c].node[h].serial = (i :: is).getD h 0 ∧ t.lac.ch[c].node[h].lost = false := by
  obtain ⟨h1, h2⟩ := lacEnum_runs (x := s.lacAt c r) hst hdone hids
  have hch := (State.lacDo_ch hr lacEnum).trans h1
  refine ⟨_, State.onLacing_exec hon _, by rw [hch]; rfl, by rw [hch]; rfl, by rw [hch]; rfl, by rw [hch]; rfl,
    State.lacDo_told hr _ (State.up_of_lacOn hon) h2, fun h hh => ?_⟩
  rw [hch]
  exact LacCh.enumerated_node _ _ _ _ hh

theorem enumeration_faults (hst : s.lac.ch[c].st = .enum) (hdone : s.lac.ch[c].enumDone = true) (hids : s.lac.ch[c].idents = [])
    (hn : 2 ≤ s.lac.ch[c].attempts) :
    ∃ t, exec (.enumeration c) s = .next t ∧ t.lac.ch[c].st = .fault ∧ t.lac.ch[c].faultAt = s.mono ∧ t.lac.ch[c].found = 0 ∧
      t.told .lacingChain := by
  obtain ⟨h1, h2⟩ := lacEnum_faults (x := s.lacAt c r) hst hdone hids hn
  have hch := (State.lacDo_ch hr lacEnum).trans h1
  exact ⟨_, State.onLacing_exec hon _, by rw [hch], by rw [hch]; rfl, by rw [hch], State.lacDo_told hr _ (State.up_of_lacOn hon) h2⟩

theorem enumeration_wakes (hst : s.lac.ch[c].st = .enum) (hdone : s.lac.ch[c].enumDone = true) (hids : s.lac.ch[c].idents = [])
    (hn : s.lac.ch[c].attempts < 2) :
    ∃ t, exec (.enumeration c) s = .next t ∧ t.lac.ch[c].st = .wake ∧ t.lac.ch[c].attempts = s.lac.ch[c].attempts + 1 ∧
      t.lac.ch[c].wakeAt = s.mono ∧ Sends (.lac (.wake c)) s t := by
  have hf := lacEnum_wakes (x := s.lacAt c r) hst hdone hids hn
  have hch := State.lacDo_ch hr lacEnum
  rw [hf, lacWake_c] at hch
  obtain ⟨h1, h2, h3⟩ := State.lacDo_wakes hr hf rfl rfl
  exact ⟨_, State.onLacing_exec hon _, h1, by rw [hch]; rfl, h2, h3⟩

theorem lacingFaultRetry_wakes (hst : s.lac.ch[c].st = .fault) (hlate : s.lac.ch[c].faultAt + 10000000 ≤ s.mono) :
    ∃ t, exec (.lacingFaultRetry c) s = .next t ∧ t.lac.ch[c].st = .wake ∧ t.lac.ch[c].wakeAt = s.mono ∧ Sends (.lac (.wake c)) s t :=
  ⟨_, State.onLacing_exec hon _, State.lacDo_wakes hr (f := lacRetry) (x := s.lacAt c r) (if_pos ⟨hst, hlate⟩) rfl rfl⟩

end

/-- Settles O38: the rules of the start of stack chains. -/
theorem lacingChainsStart : Obligations.LacingChainsStart := fun _ =>
  ⟨fun hr _ h => lacingRunWrite_turns hr h, fun hr _ _ hbit h => lacingRunWrite_refused hr hbit h,
    fun _ _ hon hr => ⟨wakeDone_enumerates hon hr, fun hst hdone => ⟨fun _ _ => enumeration_runs hon hr hst hdone,
      enumeration_faults hon hr hst hdone, enumeration_wakes hon hr hst hdone⟩, lacingFaultRetry_wakes hon hr⟩⟩

end Sys2Proof.Machine
end

section
/-! ## Sweeps of the stack chains (O39: `LacingSweeps`) -/

namespace Sys2Proof.Machine

/-! ### What the evaluation of a sweep leaves -/

/-- From `x` to `y` a chain has kept GATE and the outputs that it has made. -/
def LX.Follows (x y : LX) : Prop := x.out <+: y.out ∧ y.c.gate = x.c.gate

theorem LX.Follows.refl (x : LX) : x.Follows x := ⟨List.prefix_refl _, rfl⟩

theorem LX.Follows.trans {x y z : LX} (h : x.Follows y) (h' : y.Follows z) : x.Follows z := ⟨h.1.trans h'.1, h'.2.trans h.2⟩

theorem LX.follows_mod (x : LX) {f : LacCh → LacCh} (h : ∀ c, (f c).gate = c.gate) : x.Follows (x.mod f) := ⟨List.prefix_refl _, h _⟩

theorem LX.follows_node (x : LX) (h : Nat) (f : LacNode → LacNode) : x.Follows (x.node h f) := x.follows_mod (fun _ => rfl)

theorem LX.follows_puts (x : LX) (n : Nat) (o : LacOut) : x.Follows (x.puts n o) := ⟨List.prefix_append .., rfl⟩

theorem LX.follows_foldl {α : Type} {f : LX → α → LX} (h : ∀ (y : LX) (a : α), y.Follows (f y a)) (l : List α) (x : LX) : x.Follows (l.foldl f x) :=
  List.foldlRecOn (motive := x.Follows) l f (.refl x) (fun y hy a _ => hy.trans (h y a))

theorem LX.follows_nodes (x : LX) (l : List Nat) (f : LX → Nat → LacNode → LacNode) : x.Follows (l.foldl (fun x h => x.node h (f x h)) x) :=
  LX.follows_foldl (fun y h => y.follows_node h (f y h)) l x

theorem lacExtremes_follows (x : LX) : x.Follows (lacExtremes x) := x.follows_mod (fun _ => rfl)

theorem lacLimits_follows (x : LX) : x.Follows (lacLimits x) := by
  unfold lacLimits
  extract_lets cell temp temps old new y any
  have hy : x.Follows y := LX.follows_foldl (fun z h => z.follows_node h _) _ x
  exact (hy.trans (y.follows_mod (fun _ => rfl))).trans (LX.follows_puts ..)

theorem lacEligible_follows (x : LX) : x.Follows (lacEligible x) := LX.follows_foldl (fun z h => z.follows_node h _) _ x

theorem lacEvaluate_follows (x : LX) : x.Follows (lacEvaluate x) := by
  unfold lacEvaluate
  extract_lets x1 full sum x2 x3 devOld x4 x5 newDev
  have h1 : x.Follows x1 := by
    refine LX.follows_foldl (fun y h => ?_) _ x
    split
    · exact .refl y
    · exact y.follows_node ..
  have h2 : x.Follows x2 := h1.trans (x1.follows_mod (fun _ => rfl))
  split
  · exact h2
  have h3 : x.Follows x3 := h2.trans (x2.follows_mod (fun _ => rfl))
  have h4 : x.Follows x4 := h3.trans ((lacExtremes_follows x3).trans (lacLimits_follows _))
  have h5 : x.Follows x5 := h4.trans (LX.follows_foldl (fun z h => z.follows_node h _) _ x4)
  exact (h5.trans (x5.follows_puts ..)).trans (lacEligible_follows _)

theorem lacBegin_follows (n : Nat) (ops : List LacOp) (x : LX) : x.Follows (lacBegin n ops x) := x.follows_mod (fun _ => rfl)

theorem lacSend_follows (op : LacOp) (again : Bool) (x : LX) : x.Follows (lacSend op again x) := ⟨List.prefix_append .., rfl⟩

theorem lacNext_follows (n : Nat) (x : LX) : x.Follows (lacNext n x) := by
  induction n generalizing x with
  | zero => exact .refl x
  | succ n ih =>
    unfold lacNext
    split
    · exact .refl x
    split
    · exact LX.Follows.trans (x.follows_mod (fun _ => rfl)) (lacSend_follows _ false _)
    split
    · exact .refl x
    split
    · exact (lacBegin_follows ..).trans (ih _)
    · dsimp only
      refine LX.Follows.trans ?_ ((lacBegin_follows ..).trans (ih _))
      split
      · exact .refl x
      · exact lacEvaluate_follows x
    · exact (lacBegin_follows ..).trans (ih _)
    · exact (lacBegin_follows ..).trans (ih _)
    · exact .refl x

/-- A chain that awaits no response sends the next command of its step. -/
theorem lacNext_sends (n : Nat) {x : LX} (hcmd : x.c.cmd = none) (hst : x.c.st = .run) {op : LacOp} {rest : List LacOp}
    (htodo : x.c.todo = op :: rest) :
    ∃ d, lacNext (n + 1) x = lacSend op false (x.mod (fun c => { c with todo := rest, owtDone := d })) := by
  have hgo : ¬ (x.c.cmd.isSome = true ∨ (x.c.st ≠ .run ∧ x.c.st ≠ .enum)) := by
    rw [hcmd, hst]
    decide
  unfold lacNext
  rw [if_neg hgo, htodo]
  exact ⟨_, rfl⟩

/-! ### A sweep period (R320, R321) -/

/-- CONVERT goes out. -/
def LX.convert (x : LX) : LX :=
  let gate := x.g.balGate || decide (x.swid % x.g.gateEvery = 0)
  let data := leBytes 1 x.swid ++ leBytes 1 x.g.settle ++ leBytes 1 (if gate then 1 else 0)
  (x.put (.frame x.n x.now (lacFrame 0x10 0xFF 0 3 data x.c.cseq))).mod (fun c =>
    { c with cseq := (c.cseq + 1) % 256, cmd := none, gate := gate, convAt := x.now, evald := false, owtDone := false, busy := [],
             node := mapIdx c.node (fun _ nd => { nd with got := false }) })

theorem LX.convert_unit (x : LX) : x.convert.now = x.now ∧ x.convert.g = x.g ∧ x.convert.n = x.n := by
  dsimp only [LX.convert, LX.mod, LX.put]
  exact ⟨rfl, rfl, rfl⟩

theorem LX.convert_chain (x : LX) : x.convert.c.st = x.c.st ∧ x.convert.c.cmd = none ∧ x.convert.c.busy = [] ∧
    x.convert.c.found = x.c.found ∧ x.convert.c.cseq = (x.c.cseq + 1) % 256 ∧ x.convert.c.convAt = x.now := by
  dsimp only [LX.convert, LX.mod, LX.put]
  exact ⟨rfl, rfl, rfl, rfl, rfl, rfl⟩

theorem lacSweep_of_run {x : LX} (hst : x.c.st = .run) (hev : x.c.evald = true) :
    lacSweep x = lacNext 6 (lacBegin 2 (x.convert.nodes.map LacOp.read) x.convert) := by
  have henum : ¬ (x.c.st = .enum ∧ x.c.cmd.isNone = true) := by
    rw [hst]
    exact fun h => absurd h.1 (by decide)
  unfold lacSweep LX.convert
  rw [if_neg henum, if_neg (fun h => h hst)]
  dsimp only
  rw [if_pos hev]

theorem lacSweep_converts {x : LX} (hst : x.c.st = .run) (hev : x.c.evald = true) :
    (lacSweep x).c.gate = (x.g.balGate || decide (x.swid % x.g.gateEvery = 0)) ∧
      .frame x.n x.now (lacFrame 0x10 0xFF 0 3 (leBytes 1 x.swid ++ leBytes 1 x.g.settle ++ leBytes 1 (if (lacSweep x).c.gate then 1 else 0))
        x.c.cseq) ∈ (lacSweep x).out := by
  have hf : x.convert.Follows (lacSweep x) := by
    rw [lacSweep_of_run hst hev]
    exact (lacBegin_follows ..).trans (lacNext_follows ..)
  have hgate : (lacSweep x).c.gate = (x.g.balGate || decide (x.swid % x.g.gateEvery = 0)) := hf.2
  refine ⟨hgate, hf.1.subset ?_⟩
  rw [hgate]
  exact List.mem_append_right _ (List.mem_singleton_self _)

/-- A chain that begins the reads of its nodes sends the first of them where they fit the period. -/
theorem lacBegin_reads {x : LX} (hst : x.c.st = .run) (hcmd : x.c.cmd = none) (hbusy : x.c.busy = []) (hn : 0 < x.c.found)
    (hfit : x.fits (sumN (((List.range x.c.found).map LacOp.read).map (LacOp.time x.g))) = true) :
    ∃ d, lacNext 6 (lacBegin 2 (x.nodes.map LacOp.read) x) = lacSend (.read 0) false (x.mod (fun c => { c with
      step := 2, busy := [], todo := ((List.range x.c.found).map LacOp.read).tail, owtDone := d })) := by
  obtain ⟨m, hm⟩ : ∃ m, x.c.found = m + 1 := ⟨x.c.found - 1, by omega⟩
  have hreads : (List.range x.c.found).map LacOp.read = .read 0 :: ((List.range x.c.found).map LacOp.read).tail := by
    rw [hm, List.range_succ_eq_map]
    rfl
  have hbegin : lacBegin 2 (x.nodes.map LacOp.read) x = x.mod (fun c => { c with
      step := 2, busy := [], todo := (List.range x.c.found).map LacOp.read }) := by
    unfold lacBegin LX.nodes
    dsimp only
    rw [hbusy, List.nil_append, if_pos hfit]
  obtain ⟨d, hd⟩ := lacNext_sends 5 (x := x.mod (fun c => { c with step := 2, busy := [], todo := (List.range x.c.found).map LacOp.read }))
    hcmd hst hreads
  exact ⟨d, by rw [hbegin, hd]; rfl⟩

/-- The reads of a sweep follow CONVERT where they fit the period. -/
theorem lacSweep_reads {x : LX} (hst : x.c.st = .run) (hev : x.c.evald = true) (hn : 0 < x.c.found)
    (hfit : sumN (((List.range x.c.found).map LacOp.read).map (LacOp.time x.g)) + 2000 ≤ x.g.sweepP * 1000) :
    (lacSweep x).c.cmd = some { op := .read 0, cseq := (x.c.cseq + 1) % 256, sentAt := x.now + 1580 + x.g.settle * 100 } ∧
      .frame x.n (x.now + 1580 + x.g.settle * 100) (lacFrame 0x01 0 0 48 [] ((x.c.cseq + 1) % 256)) ∈ (lacSweep x).out ∧
      (lacSweep x).c.todo = ((List.range x.c.found).map LacOp.read).tail := by
  obtain ⟨hnow, hg, hxn⟩ := x.convert_unit
  obtain ⟨hcst, hcmd, hbusy, hfound, hseq, hconv⟩ := x.convert_chain
  have hsw := lacSweep_of_run hst hev
  generalize x.convert = y at hnow hg hxn hcst hcmd hbusy hfound hseq hconv hsw
  have hfits : y.fits (sumN (((List.range y.c.found).map LacOp.read).map (LacOp.time y.g))) = true := by
    unfold LX.fits
    rw [hnow, hg, hfound, hconv]
    exact decide_eq_true (by omega)
  obtain ⟨d, hd⟩ := lacBegin_reads (hcst.trans hst) hcmd hbusy (hfound ▸ hn) hfits
  have hat : max y.now (y.c.convAt + 1580 + y.g.settle * 100) = x.now + 1580 + x.g.settle * 100 := by
    rw [hnow, hconv, hg]
    omega
  obtain ⟨z, hz⟩ : ∃ z, y.mod (fun c => { c with
      step := 2, busy := [], todo := ((List.range y.c.found).map LacOp.read).tail, owtDone := d }) = z := ⟨_, rfl⟩
  have hzat : z.sendAt = x.now + 1580 + x.g.settle * 100 := by
    rw [← hat, ← hz]
    exact LX.sendAt_of_run (hcst.trans hst)
  have hzseq : z.c.cseq = (x.c.cseq + 1) % 256 := by
    rw [← hseq, ← hz]
    rfl
  have hztodo : z.c.todo = ((List.range x.c.found).map LacOp.read).tail := by
    rw [← hfound, ← hz]
    rfl
  have hzn : z.n = x.n := by
    rw [← hxn, ← hz]
    rfl
  rw [hsw, hd, hz, lacSend_c, lacSend_out, hzat, hzseq, hzn]
  exact ⟨rfl, List.mem_append_right _ (List.mem_singleton_self _), hztodo⟩

/-! ### All chains at a sweep period -/

theorem State.lacDos_moves (f : LX → LX) (l : List (Fin 4)) (s : State) :
    Moves [.thk, .lac, .hst, .out] s (l.foldl (fun (s : State) c => s.lacDo c f) s) :=
  Moves.foldl (fun t c => State.lacDo_moves c f t) l _ _ (.refl _ s)

theorem State.lacDos_other (f : LX → LX) {l : List (Fin 4)} {c : Fin 4} (h : c ∉ l) (s : State) :
    (l.foldl (fun (s : State) c => s.lacDo c f) s).lac.ch[c] = s.lac.ch[c] :=
  List.foldlRecOn (motive := fun t : State => t.lac.ch[c] = s.lac.ch[c]) l _ rfl
    (fun t ht d hd => (State.lacDo_other (fun he : c = d => h (he ▸ hd)) f t).trans ht)

theorem State.lacDos_swid (f : LX → LX) (l : List (Fin 4)) (s : State) :
    (l.foldl (fun (s : State) c => s.lacDo c f) s).lac.swid = s.lac.swid ∧ (l.foldl (fun (s : State) c => s.lacDo c f) s).lac.sweep = s.lac.sweep :=
  ⟨foldl_view (view := fun t : State => t.lac.swid) (fun t c => (State.lacDo_swid c f t).2.1) l s,
    foldl_view (view := fun t : State => t.lac.sweep) (fun t c => (State.lacDo_swid c f t).2.2) l s⟩

/-- Each chain of a list has its turn once. -/
theorem State.lacDos_at (f : LX → LX) {p : Fin 4 → Bool} {c : Fin 4} (hp : p c = true) {r : LacChain} {s : State}
    (hr : s.cfg.lacChain.find? (fun r => r.chain == c.val) = some r) :
    (((List.finRange 4).filter p).foldl (fun (s : State) c => s.lacDo c f) s).lac.ch[c] = (f (s.lacAt c r)).c ∧
      ∀ o, o ∈ (f (s.lacAt c r)).out → (∀ t : State, t.lacEff o = t.emit (.lac o)) →
        Sends (.lac o) s (((List.finRange 4).filter p).foldl (fun (s : State) c => s.lacDo c f) s) := by
  obtain ⟨l, m, hsplit, hl, hm⟩ := finRange_split c
  obtain ⟨d, hd⟩ : ∃ d, (l.filter p).foldl (fun (s : State) c => s.lacDo c f) s = d := ⟨_, rfl⟩
  have hmoves : Moves [.thk, .lac, .hst, .out] s d := by
    rw [← hd]
    exact State.lacDos_moves f _ s
  have hat : d.lacAt c r = s.lacAt c r := by
    unfold State.lacAt
    rw [← hd, State.lacDos_other f (fun h => hl (List.mem_filter.mp h).1), (State.lacDos_swid f _ s).1, hd,
      hmoves.frame.get .cfg (by decide), hmoves.frame.get .mono (by decide)]
  have hrd : d.cfg.lacChain.find? (fun r => r.chain == c.val) = some r := by
    rw [hmoves.frame.get .cfg (by decide)]
    exact hr
  rw [hsplit, List.filter_append, List.filter_cons_of_pos hp, List.foldl_append, hd, List.foldl_cons]
  refine ⟨?_, fun o ho hout => ?_⟩
  · rw [State.lacDos_other f (fun h => hm (List.mem_filter.mp h).1), State.lacDo_ch hrd, hat]
  · exact ((State.lacDo_sends hrd f (by rw [hat]; exact ho) hout).before hmoves.sent).after (State.lacDos_moves f _ _).sent

theorem sweepPeriod_sweeps {s : State} {c : Fin 4} {r : LacChain} (hon : s.lacOn c = true)
    (hr : s.cfg.lacChain.find? (fun r => r.chain == c.val) = some r) (hst : s.lac.ch[c].st = .run) (hev : s.lac.ch[c].evald = true) :
    let g := s.cfg.lacGlobal.getD {}
    let conv := s.mono + 1580 + g.settle * 100
    ∃ t, exec .sweepPeriod s = .next t ∧ t.lac.swid = (s.lac.swid + 1) % 256 ∧ t.lac.sweep = (s.lac.sweep + 1) % 2 ^ 32 ∧
      Sends (.lac (.frame c s.mono (lacFrame 0x10 0xFF 0 3
        (leBytes 1 t.lac.swid ++ leBytes 1 g.settle ++ leBytes 1 (if t.lac.ch[c].gate then 1 else 0)) s.lac.ch[c].cseq))) s t ∧
      t.lac.ch[c].gate = (g.balGate || decide (t.lac.swid % g.gateEvery = 0)) ∧
      (0 < s.lac.ch[c].found →
        sumN (((List.range s.lac.ch[c].found).map LacOp.read).map (LacOp.time g)) + 2000 ≤ g.sweepP * 1000 →
        t.lac.ch[c].cmd = some { op := .read 0, cseq := (s.lac.ch[c].cseq + 1) % 256, sentAt := conv } ∧
        Sends (.lac (.frame c conv (lacFrame 0x01 0 0 48 [] ((s.lac.ch[c].cseq + 1) % 256)))) s t ∧
        t.lac.ch[c].todo = ((List.range s.lac.ch[c].found).map LacOp.read).tail) := by
  intro g conv
  have hrun : s.lacRunning.isEmpty = false := by
    rw [List.isEmpty_eq_false_iff_exists_mem]
    refine ⟨c, List.mem_filter.mpr ⟨List.mem_finRange c, ?_⟩⟩
    rw [hon, hst]
    rfl
  obtain ⟨u, hu⟩ : ∃ u, ({ s with lac := s.lac.nextSweep } : State) = u := ⟨_, rfl⟩
  have hex : s.sweepPeriod = ((List.finRange 4).filter (fun c => s.lacOn c)).foldl (fun (s : State) c => s.lacDo c lacSweep) u := by
    unfold State.sweepPeriod
    rw [hrun, if_neg (by decide), hu]
  obtain ⟨hch, hsend⟩ := State.lacDos_at lacSweep (p := fun c => s.lacOn c) hon (s := u) (r := r) (by rw [← hu]; exact hr)
  obtain ⟨hswid, hsweep⟩ := State.lacDos_swid lacSweep ((List.finRange 4).filter (fun c => s.lacOn c)) u
  have husw : u.lac.swid = (s.lac.swid + 1) % 256 ∧ u.lac.sweep = (s.lac.sweep + 1) % 2 ^ 32 := by
    rw [← hu]
    exact ⟨rfl, rfl⟩
  obtain ⟨x, hx⟩ : ∃ x, u.lacAt c r = x := ⟨_, rfl⟩
  have hxst : x.c.st = .run ∧ x.c.evald = true := by
    rw [← hx, ← hu]
    exact ⟨hst, hev⟩
  have hxc : x.c = s.lac.ch[c] ∧ x.n = c ∧ x.g = g ∧ x.now = s.mono ∧ x.swid = u.lac.swid := by
    rw [← hx, ← hu]
    exact ⟨rfl, rfl, rfl, rfl, rfl⟩
  have huout : u.out = s.out := by rw [← hu]
  rw [hx] at hch hsend
  obtain ⟨hxc, hxn, hxg, hxnow, hxsw⟩ := hxc
  obtain ⟨hgate, hconv⟩ := lacSweep_converts hxst.1 hxst.2
  refine ⟨_, rfl, ?_⟩
  rw [hex, hch, hswid, hsweep]
  rw [hxn, hxnow, hxg, hxsw, hxc] at hconv
  refine ⟨husw.1, husw.2, (hsend _ hconv (fun _ => rfl)).before (by rw [huout]), by rw [hgate, hxg, hxsw], fun hn hfit => ?_⟩
  obtain ⟨hcmd, hread, htodo⟩ := lacSweep_reads hxst.1 hxst.2 (by rw [hxc]; exact hn) (by rw [hxc, hxg]; exact hfit)
  rw [hxnow, hxg, hxc] at hcmd hread
  rw [hxn] at hread
  rw [hxc] at htodo
  exact ⟨hcmd, (hsend _ hread (fun _ => rfl)).before (by rw [huout]), htodo⟩

theorem sweepPeriod_of_none {s : State} (h : s.lacRunning = []) :
    ∃ t, exec .sweepPeriod s = .next t ∧ t.lac.swid = s.lac.swid ∧ t.lac.sweep = s.lac.sweep := by
  refine ⟨_, rfl, ?_⟩
  unfold State.sweepPeriod
  rw [h, List.isEmpty_nil, if_pos rfl]
  exact State.lacDos_swid ..

/-! ### Responses and repeats (R314) -/

/-- A good block of results is taken, and the next command goes out. -/
theorem lacResponse_reads {x : LX} (hst : x.c.st = .run) {k : LacCmd} {h : Nat} {op : LacOp} {rest : List LacOp} {bs : List Byte}
    (hcmd : x.c.cmd = some k) (hop : k.op = .read h) (htodo : x.c.todo = op :: rest) (hlen : bs.length = 55)
    (hcrc : crc16 (bs.take 53) = leAt bs 53 2) (h0 : leAt bs 0 1 = 0x81) (h1 : leAt bs 1 1 = h) (h2 : leAt bs 2 1 = k.cseq)
    (h3 : leAt bs 3 1 = 48) (hsw : leAt ((bs.drop 4).take 48) 36 1 = x.swid) (hbusy : bitOf 2 (leAt bs 52 1) = false) :
    ∃ d, lacResponse bs x = lacSend op false (((x.node h (fun nd =>
      openReport (takeResult x.g x.c.gate x.now ((bs.drop 4).take 48) (leAt bs 52 1) nd))).mod (fun c => { c with cmd := none })).mod
        (fun c => { c with todo := rest, owtDone := d })) := by
  obtain ⟨d, hd⟩ := lacNext_sends 5 (x := (x.node h (fun nd =>
    openReport (takeResult x.g x.c.gate x.now ((bs.drop 4).take 48) (leAt bs 52 1) nd))).mod (fun c => { c with cmd := none })) rfl hst htodo
  refine ⟨d, hd ▸ ?_⟩
  unfold lacResponse
  rw [hcmd]
  dsimp only
  rw [hop]
  dsimp only [LacOp.form, LacOp.rlen]
  have hshort : ¬ (bs.length < 2 ∨ crc16 (bs.take (bs.length - 2)) ≠ leAt bs (bs.length - 2) 2) := by
    rw [hlen]
    exact fun hb => hb.elim (by decide) (fun hc => hc hcrc)
  have hform : ¬ (bs.length < 7 ∨ 48 < leAt bs 3 1 ∨ leAt bs 3 1 ≠ 48 ∨ bs.length ≠ 7 + leAt bs 3 1) := by
    rw [hlen, h3]
    decide
  have hecho : ¬ (leAt bs 0 1 ≠ 0x01 + 0x80 ∨ leAt bs 1 1 ≠ h ∨ leAt bs 2 1 ≠ k.cseq) := by
    rw [h0, h1, h2]
    simp
  have hready : ¬ bitOf 2 (leAt bs (4 + 48) 1) = true := by
    rw [show bitOf 2 (leAt bs (4 + 48) 1) = false from hbusy]
    exact Bool.false_ne_true
  refine (if_neg hshort).trans ((if_neg hform).trans ((if_neg hecho).trans ?_))
  rw [h3, if_neg (not_not.mpr hsw), if_neg hready]

/-- What a good block of results leaves of its chain. -/
theorem lacResponse_reads_c {x : LX} (hst : x.c.st = .run) {k : LacCmd} {h : Nat} {op : LacOp} {rest : List LacOp} {bs : List Byte}
    (hcmd : x.c.cmd = some k) (hop : k.op = .read h) (htodo : x.c.todo = op :: rest) (hlen : bs.length = 55)
    (hcrc : crc16 (bs.take 53) = leAt bs 53 2) (h0 : leAt bs 0 1 = 0x81) (h1 : leAt bs 1 1 = h) (h2 : leAt bs 2 1 = k.cseq)
    (h3 : leAt bs 3 1 = 48) (hsw : leAt ((bs.drop 4).take 48) 36 1 = x.swid) (hbusy : bitOf 2 (leAt bs 52 1) = false) :
    (lacResponse bs x).c.node = updN x.c.node h (fun nd =>
      openReport (takeResult x.g x.c.gate x.now ((bs.drop 4).take 48) (leAt bs 52 1) nd)) ∧
    (lacResponse bs x).c.cmd = some { op := op, cseq := x.c.cseq, sentAt := max x.now (x.c.convAt + 1580 + x.g.settle * 100) } ∧
    (lacResponse bs x).c.todo = rest := by
  obtain ⟨d, hd⟩ := lacResponse_reads hst hcmd hop htodo hlen hcrc h0 h1 h2 h3 hsw hbusy
  rw [hd, lacSend_c, LX.sendAt_of_run (by exact hst)]
  dsimp only [LX.mod, LX.node]
  exact ⟨rfl, rfl, rfl⟩

/-- A command that has failed once is repeated. -/
theorem lacRepeat_repeats {x : LX} {k : LacCmd} (hcmd : x.c.cmd = some k) (hfirst : k.retried = false) :
    lacRepeat x = lacSend k.op true (x.mod (fun c => { c with cmd := none })) := by
  unfold lacRepeat
  rw [hcmd]
  dsimp only
  rw [hfirst]
  rfl

theorem lacResponse_crc {x : LX} {k : LacCmd} (hcmd : x.c.cmd = some k) {bs : List Byte}
    (hbad : bs.length < 2 ∨ crc16 (bs.take (bs.length - 2)) ≠ leAt bs (bs.length - 2) 2) :
    lacResponse bs x = lacRepeat (x.mod (fun c => { c with eCrc := satInc 8 c.eCrc })) := by
  unfold lacResponse
  rw [hcmd]
  exact if_pos hbad

theorem lacTimeout_late {x : LX} {k : LacCmd} (hcmd : x.c.cmd = some k) (hlate : k.sentAt + 100 + 20 * (k.op.form x.g).2.1 ≤ x.now) :
    lacTimeout x = lacRepeat (x.mod (fun c => { c with eTmo := satInc 8 c.eTmo })) := by
  unfold lacTimeout
  rw [hcmd]
  exact if_pos hlate

/-- Nodes whose results are missing are lost. -/
def lacLose (x : LX) (k : Nat) : LX :=
  if 3 ≤ (x.nd k).miss then x.node k (fun nd => { nd with lost := true, miss := 0 }) else x

theorem lacLost_eq {x : LX} {h : Nat} (hst : x.c.st = .run) (hh : h < x.c.found) (hmiss : 3 ≤ (x.nd h).miss) :
    lacLost h x = lacWake (x.nodes.foldl lacLose x) := if_pos ⟨hst, hh, hmiss⟩

theorem foldl_lacLose (x : LX) (m : Nat) :
    ∃ v, (List.range m).foldl lacLose x = { x with c := { x.c with node := v } } ∧
      ∀ j : Fin 32, v[j] = if j.val < m ∧ 3 ≤ x.c.node[j].miss then { x.c.node[j] with lost := true, miss := 0 } else x.c.node[j] := by
  induction m with
  | zero => exact ⟨x.c.node, rfl, fun j => (if_neg (fun h => Nat.not_lt_zero _ h.1)).symm⟩
  | succ m ih =>
    obtain ⟨v, hv, hnode⟩ := ih
    rw [List.range_succ, List.foldl_append, hv, List.foldl_cons, List.foldl_nil]
    have hsame (j : Fin 32) (hj : m ≠ j.val) :
        v[j] = if j.val < m + 1 ∧ 3 ≤ x.c.node[j].miss then { x.c.node[j] with lost := true, miss := 0 } else x.c.node[j] := by
      rw [hnode j]
      exact if_congr (and_congr_left (fun _ => by omega)) rfl rfl
    have hat (j : Fin 32) (hj : m = j.val) : v[j] = x.c.node[j] := by
      rw [hnode j, if_neg (fun h => by omega)]
    unfold lacLose
    split
    · next hmiss =>
      refine ⟨updN v m (fun nd => { nd with lost := true, miss := 0 }), rfl, fun j => ?_⟩
      by_cases hj : m = j.val
      · subst hj
        have hm3 : 3 ≤ x.c.node[j].miss := by
          have hnd : 3 ≤ (atD v j.val {}).miss := hmiss
          rw [atD_val, hat j rfl] at hnd
          exact hnd
        rw [updN_val, upd_same, hat j rfl, if_pos ⟨Nat.lt_succ_self _, hm3⟩]
      · exact (updN_ne v _ j.isLt hj).trans (hsame j hj)
    · next hmiss =>
      refine ⟨v, rfl, fun j => ?_⟩
      by_cases hj : m = j.val
      · subst hj
        have hm3 : ¬ 3 ≤ x.c.node[j].miss := by
          have hnd : ¬ 3 ≤ (atD v j.val {}).miss := hmiss
          rw [atD_val, hat j rfl] at hnd
          exact hnd
        rw [hat j rfl, if_neg (fun h => hm3 h.2)]
      · exact hsame j hj

/-! ### The commands of a chain -/

section

variable {s : State} {c : Fin 4} {r : LacChain} (hon : s.lacOn c = true)
  (hr : s.cfg.lacChain.find? (fun r => r.chain == c.val) = some r) (hst : s.lac.ch[c].st = .run)

include hon hr hst

theorem lacingResponse_takes {k : LacCmd} {h : Fin 32} {op : LacOp} {rest : List LacOp} {bs : List Byte} (hcmd : s.lac.ch[c].cmd = some k)
    (hop : k.op = .read h.val) (htodo : s.lac.ch[c].todo = op :: rest) (hlen : bs.length = 55) (hcrc : crc16 (bs.take 53) = leAt bs 53 2)
    (h0 : leAt bs 0 1 = 0x81) (h1 : leAt bs 1 1 = h.val) (h2 : leAt bs 2 1 = k.cseq) (h3 : leAt bs 3 1 = 48)
    (hsw : leAt ((bs.drop 4).take 48) 36 1 = s.lac.swid) (hbusy : bitOf 2 (leAt bs 52 1) = false) :
    ∃ t, exec (.lacingResponse c bs) s = .next t ∧
      t.lac.ch[c].node[h] = openReport (takeResult (s.cfg.lacGlobal.getD {}) s.lac.ch[c].gate s.mono ((bs.drop 4).take 48) (leAt bs 52 1)
        s.lac.ch[c].node[h]) ∧
      t.lac.ch[c].cmd = some { op := op, cseq := s.lac.ch[c].cseq, sentAt := max s.mono (s.lac.ch[c].convAt + 1580 + (s.cfg.lacGlobal.getD {}).settle * 100) } ∧ t.lac.ch[c].todo = rest ∧
      ∀ j : Fin 32, j ≠ h → t.lac.ch[c].node[j] = s.lac.ch[c].node[j] := by
  obtain ⟨hnode, hnext, hrest⟩ := lacResponse_reads_c (x := s.lacAt c r) hst hcmd hop htodo hlen hcrc h0 h1 h2 h3 hsw hbusy
  have hch := State.lacDo_ch hr (lacResponse bs)
  refine ⟨_, State.onLacing_exec hon _, ?_, by rw [hch]; exact hnext, by rw [hch]; exact hrest, fun j hj => ?_⟩
  · rw [hch, hnode, updN_val, upd_same]
    rfl
  · rw [hch, hnode, updN_val, upd_other _ _ _ _ hj]
    rfl

omit hon in
/-- A failed command of a running chain is sent once more. -/
theorem repeat_resends {f : LX → LX} {g : LacCh → LacCh} {k : LacCmd} (hf : f (s.lacAt c r) = lacRepeat ((s.lacAt c r).mod g))
    (hg : ∀ m, (g m).cmd = m.cmd ∧ (g m).st = m.st ∧ (g m).convAt = m.convAt ∧ (g m).cseq = m.cseq)
    (hcmd : s.lac.ch[c].cmd = some k) (hfirst : k.retried = false) :
    (s.lacDo c f).lac.ch[c] = { g s.lac.ch[c] with
      cseq := (s.lac.ch[c].cseq + 1) % 256
      cmd := some { op := k.op, cseq := s.lac.ch[c].cseq, retried := true,
                    sentAt := max s.mono (s.lac.ch[c].convAt + 1580 + (s.cfg.lacGlobal.getD {}).settle * 100) } } := by
  obtain ⟨hgcmd, hgst, hgconv, hgseq⟩ := hg s.lac.ch[c]
  rw [State.lacDo_ch hr, hf, lacRepeat_repeats (k := k) (hgcmd.trans hcmd) hfirst, lacSend_c, LX.sendAt_of_run (hgst.trans hst)]
  dsimp only [LX.mod, State.lacAt]
  rw [hgconv, hgseq]

theorem lacingResponse_repeats {k : LacCmd} {bs : List Byte} (hcmd : s.lac.ch[c].cmd = some k) (hfirst : k.retried = false)
    (hbad : bs.length < 2 ∨ crc16 (bs.take (bs.length - 2)) ≠ leAt bs (bs.length - 2) 2) :
    ∃ t, exec (.lacingResponse c bs) s = .next t ∧ t.lac.ch[c] = { s.lac.ch[c] with
      eCrc := satInc 8 s.lac.ch[c].eCrc, cseq := (s.lac.ch[c].cseq + 1) % 256, cmd := some { op := k.op, cseq := s.lac.ch[c].cseq, retried := true, sentAt := max s.mono (s.lac.ch[c].convAt + 1580 + (s.cfg.lacGlobal.getD {}).settle * 100) } } :=
  ⟨_, State.onLacing_exec hon _, repeat_resends hr hst (lacResponse_crc (x := s.lacAt c r) hcmd hbad) (fun _ => ⟨rfl, rfl, rfl, rfl⟩) hcmd hfirst⟩

theorem lacingResponseTimeout_repeats {k : LacCmd} (hcmd : s.lac.ch[c].cmd = some k) (hfirst : k.retried = false)
    (hlate : k.sentAt + 100 + 20 * (k.op.form (s.cfg.lacGlobal.getD {})).2.1 ≤ s.mono) :
    ∃ t, exec (.lacingResponseTimeout c) s = .next t ∧ t.lac.ch[c] = { s.lac.ch[c] with
      eTmo := satInc 8 s.lac.ch[c].eTmo, cseq := (s.lac.ch[c].cseq + 1) % 256, cmd := some { op := k.op, cseq := s.lac.ch[c].cseq, retried := true, sentAt := max s.mono (s.lac.ch[c].convAt + 1580 + (s.cfg.lacGlobal.getD {}).settle * 100) } } :=
  ⟨_, State.onLacing_exec hon _, repeat_resends hr hst (lacTimeout_late (x := s.lacAt c r) hcmd hlate) (fun _ => ⟨rfl, rfl, rfl, rfl⟩) hcmd hfirst⟩

theorem lacingNodeLost_wakes {h : Fin 32} (hh : h.val < s.lac.ch[c].found) (hmiss : 3 ≤ s.lac.ch[c].node[h].miss) :
    ∃ t, exec (.lacingNodeLost c h) s = .next t ∧ t.lac.ch[c].st = .wake ∧ t.lac.ch[c].wakeAt = s.mono ∧ Sends (.lac (.wake c)) s t ∧
      t.told .lacingChain ∧ ∀ j : Fin 32, t.lac.ch[c].node[j].lost =
        (s.lac.ch[c].node[j].lost || (decide (j.val < s.lac.ch[c].found) && decide (3 ≤ s.lac.ch[c].node[j].miss))) := by
  have hnd : 3 ≤ ((s.lacAt c r).nd h).miss := (congrArg LacNode.miss (atD_val s.lac.ch[c].node h {})).symm ▸ hmiss
  obtain ⟨v, hv, hnode⟩ := foldl_lacLose (s.lacAt c r) s.lac.ch[c].found
  have hf : lacLost h (s.lacAt c r) = lacWake { s.lacAt c r with c := { s.lac.ch[c] with node := v } } :=
    (lacLost_eq hst hh hnd).trans (congrArg lacWake hv)
  obtain ⟨h1, h2, h3⟩ := State.lacDo_wakes hr hf rfl rfl
  have hch := State.lacDo_ch hr (lacLost h)
  rw [hf, lacWake_c] at hch
  refine ⟨_, State.onLacing_exec hon _, h1, h2, h3, State.lacDo_told hr _ (State.up_of_lacOn hon) ?_, fun j => ?_⟩
  · rw [hf]
    refine lacWake_told ?_
    show s.lac.ch[c].st ≠ .wake
    rw [hst]
    decide
  · rw [hch]
    have hj := congrArg LacNode.lost (hnode j)
    refine hj.trans ?_
    show (if j.val < s.lac.ch[c].found ∧ 3 ≤ s.lac.ch[c].node[j].miss then _ else _ : LacNode).lost = _
    by_cases hb : j.val < s.lac.ch[c].found ∧ 3 ≤ s.lac.ch[c].node[j].miss
    · rw [if_pos hb, decide_eq_true hb.1, decide_eq_true hb.2]
      exact (Bool.or_true _).symm
    · rw [if_neg hb, ← Bool.decide_and, decide_eq_false hb]
      exact (Bool.or_false _).symm

end

/-- Settles O39: the rules of sweeps, responses, repeats and lost nodes. -/
theorem lacingSweeps : Obligations.LacingSweeps :=
  ⟨fun _ _ _ hon hr hst hev => sweepPeriod_sweeps hon hr hst hev, fun _ h => sweepPeriod_of_none h,
    fun _ _ _ hon hr hst => ⟨fun _ _ _ _ _ hcmd hop htodo hlen hcrc h0 h1 h2 h3 hsw hbusy =>
        lacingResponse_takes hon hr hst hcmd hop htodo hlen hcrc h0 h1 h2 h3 hsw hbusy,
      fun _ _ hcmd hfirst hbad => lacingResponse_repeats hon hr hst hcmd hfirst hbad,
      fun _ hcmd hfirst hlate => lacingResponseTimeout_repeats hon hr hst hcmd hfirst hlate,
      fun _ hh hmiss => lacingNodeLost_wakes hon hr hst hh hmiss⟩⟩

end Sys2Proof.Machine
end

section
/-! ## The open-wire test (O40: `LacingWireTests`) -/

namespace Sys2Proof.Machine

theorem LacOp.form_owt (g : LacGlobal) (op : LacOp) : (op.form g).1 = 0x20 ↔ ∃ h, op = .owt h := by
  cases op <;> simp [LacOp.form]

/-- A test of the chain is running exactly where its block is to be read or its command is out. -/
theorem LX.testing_iff (x : LX) : x.testing = true ↔ x.c.owt.isSome = true ∨ ∃ k, x.c.cmd = some k ∧ (k.op.form x.g).1 = 0x20 := by
  unfold LX.testing
  rw [Bool.or_eq_true]
  refine or_congr_right ?_
  cases x.c.cmd with
  | none => simp
  | some k =>
    obtain ⟨op, cseq, again, at_⟩ := k
    cases op <;> simp [LacOp.form]

theorem owtRequest_takes {h : Nat} {x : LX} (hst : x.c.st = .run) (hh : h < x.c.found) (hmask : (x.nd h).maskW = 0) (hreq : x.c.req = none)
    (htest : x.testing = false) (hsus : ∀ k < x.c.found, (x.nd k).suspect = 0) :
    owtRequest h x = (x.mod (fun c => { c with req := some h }), true) := by
  have hnone : x.nodes.any (fun k => (x.nd k).suspect ≠ 0) = false := by
    rw [List.any_eq_false]
    intro k hk
    rw [hsus k (List.mem_range.mp hk)]
    decide
  have hgo : ¬ (x.c.st ≠ .run ∨ x.c.found ≤ h ∨ (x.nd h).maskW ≠ 0 ∨ x.c.req.isSome = true ∨ x.testing = true ∨
      x.nodes.any (fun k => (x.nd k).suspect ≠ 0) = true) := by
    rw [hst, hmask, hreq, htest, hnone]
    simp [hh]
  exact if_neg hgo

theorem owtRequest_refuses {h : Nat} {x : LX}
    (hbad : x.c.found ≤ h ∨ (x.nd h).maskW ≠ 0 ∨ x.c.req.isSome = true ∨ x.testing = true) : owtRequest h x = (x, false) :=
  if_pos (Or.inr (hbad.imp_right (Or.imp_right (Or.imp_right Or.inl))))

/-- What a chain without a command in flight does with the block of a test (R328). -/
theorem lacNext_rests {x : LX} (hst : x.c.st = .run) (hcmd : x.c.cmd = none) (hstep : x.c.step = 5) (hbusy : x.c.busy = []) (htodo : x.c.todo = []) :
    lacNext 6 x = lacBegin 6 [] x := by
  have hgo (y : LX) (hc : y.c.cmd = none) (hs : y.c.st = .run) : ¬ (y.c.cmd.isSome = true ∨ (y.c.st ≠ .run ∧ y.c.st ≠ .enum)) := by
    rw [hc, hs]
    decide
  have hbegin : (lacBegin 6 [] x).c.todo = [] := by
    show (if x.fits (sumN ((x.c.busy ++ []).map (LacOp.time x.g))) then x.c.busy ++ [] else [] : List LacOp) = []
    rw [hbusy]
    exact ite_self _
  have hfirst : lacNext 6 x = lacNext 5 (lacBegin 6 [] x) := by
    rw [lacNext, if_neg (hgo x hcmd hst), htodo]
    dsimp only
    rw [if_neg (not_not.mpr hst), hstep]
    rfl
  rw [hfirst, lacNext, if_neg (hgo (lacBegin 6 [] x) hcmd hst), hbegin]
  dsimp only
  rw [if_neg (not_not.mpr (show (lacBegin 6 [] x).c.st = .run from hst))]
  rfl

theorem LX.puts_c (n : Nat) (o : LacOut) (x : LX) : (x.puts n o).c = x.c := rfl

/-- What a node's open-wire block leaves of its chain (R328, R330). -/
theorem owJudge_c {h : Nat} (hh : h < 32) (d : List Byte) (x : LX) :
    (owJudge h d x).c.st = x.c.st ∧ (owJudge h d x).c.cmd = x.c.cmd ∧ (owJudge h d x).c.step = x.c.step ∧
      (owJudge h d x).c.busy = x.c.busy ∧ (owJudge h d x).c.todo = x.c.todo ∧ (owJudge h d x).c.owt = none ∧
      (owJudge h d x).c.tests = satInc 8 x.c.tests ∧ ((owJudge h d x).nd h).testedAt = some x.now ∧ ((owJudge h d x).nd h).late = false := by
  unfold owJudge
  extract_lets dl thr open_ nd any new x1 x2
  refine ⟨rfl, rfl, rfl, rfl, rfl, rfl, rfl, ?_⟩
  have hnd : ((x2.puts new.length (.ev .openWire)).nd h) = atD x1.c.node h {} := rfl
  have hx1 : atD x1.c.node h {} = _ := atD_updN_same x.c.node _ {} hh
  rw [hnd, hx1]
  exact ⟨rfl, rfl⟩

/-- The response to the read of a test's block is judged, and the chain rests. -/
theorem lacResponse_judges {x : LX} (hst : x.c.st = .run) {k : LacCmd} {h : Nat} (hh : h < 32) {bs : List Byte} (hcmd : x.c.cmd = some k)
    (hop : k.op = .owRead h) (hstep : x.c.step = 5) (hbusy : x.c.busy = []) (htodo : x.c.todo = []) (hlen : bs.length = 39)
    (hcrc : crc16 (bs.take 37) = leAt bs 37 2) (h0 : leAt bs 0 1 = 0x81) (h1 : leAt bs 1 1 = h) (h2 : leAt bs 2 1 = k.cseq)
    (h3 : leAt bs 3 1 = 32) (hready : bitOf 2 (leAt bs 36 1) = false) :
    (lacResponse bs x).c.owt = none ∧ (lacResponse bs x).c.cmd = none ∧ (lacResponse bs x).c.tests = satInc 8 x.c.tests ∧
      ((lacResponse bs x).nd h).testedAt = some x.now ∧ ((lacResponse bs x).nd h).late = false := by
  have hshort : ¬ (bs.length < 2 ∨ crc16 (bs.take (bs.length - 2)) ≠ leAt bs (bs.length - 2) 2) := by
    rw [hlen]
    exact fun hb => hb.elim (by decide) (fun hc => hc hcrc)
  have hform : ¬ (bs.length < 7 ∨ 48 < leAt bs 3 1 ∨ leAt bs 3 1 ≠ 32 ∨ bs.length ≠ 7 + leAt bs 3 1) := by
    rw [hlen, h3]
    decide
  have hecho : ¬ (leAt bs 0 1 ≠ 0x01 + 0x80 ∨ leAt bs 1 1 ≠ h ∨ leAt bs 2 1 ≠ k.cseq) := by
    rw [h0, h1, h2]
    simp
  have hfree : ¬ bitOf 2 (leAt bs (4 + 32) 1) = true := by
    rw [show bitOf 2 (leAt bs (4 + 32) 1) = false from hready]
    exact Bool.false_ne_true
  obtain ⟨y, hy⟩ : ∃ y, owJudge h ((bs.drop 4).take 32) (x.mod (fun c => { c with cmd := none })) = y := ⟨_, rfl⟩
  obtain ⟨hyst, hycmd, hystep, hybusy, hytodo, hyowt, hytests, hyat, hylate⟩ :=
    owJudge_c hh ((bs.drop 4).take 32) (x.mod (fun c => { c with cmd := none }))
  rw [hy] at hyst hycmd hystep hybusy hytodo hyowt hytests hyat hylate
  have hres : lacResponse bs x = lacBegin 6 [] y := by
    rw [← lacNext_rests (hyst.trans hst) hycmd (hystep.trans hstep) (hybusy.trans hbusy) (hytodo.trans htodo), ← hy]
    unfold lacResponse
    rw [hcmd]
    dsimp only
    rw [hop]
    dsimp only [LacOp.form, LacOp.rlen]
    refine (if_neg hshort).trans ((if_neg hform).trans ((if_neg hecho).trans ?_))
    rw [h3, if_neg hfree]
  rw [hres]
  exact ⟨hyowt, hycmd, hytests, hyat, hylate⟩

theorem owtRead_sends {x : LX} {h t0 : Nat} {again : Bool} (howt : x.c.owt = some (h, t0, again)) (hcmd : x.c.cmd = none)
    (hlate : t0 + x.g.owSettle * 2000 + 2600 ≤ x.now) :
    owtRead none x = lacSend (.owRead h) again x ∧ ∀ bs, owtRead (some bs) x = lacResponse bs (lacSend (.owRead h) again x) := by
  have hgo : ¬ (x.c.cmd.isSome = true ∨ x.now < t0 + x.g.owSettle * 2000 + 2600) := by
    rw [hcmd]
    exact fun hb => hb.elim (by decide) (fun hlt => by omega)
  unfold owtRead
  rw [howt]
  dsimp only
  rw [if_neg hgo]
  exact ⟨rfl, fun _ => if_neg hgo⟩

theorem owLate_marks {x : LX} {h : Nat} (hh : h < 32) (hst : x.c.st = .run) (hfound : h < x.c.found) (hfresh : (x.nd h).late = false)
    (hlate : ((x.nd h).testedAt.getD x.c.admitAt) + x.g.owPeriod * 120000000 ≤ x.now) :
    ((owLate h x).nd h).late = true ∧ (owLate h x).c.owLate = true ∧ .ev .openWireTestLate ∈ (owLate h x).out := by
  have hgo : x.c.st = .run ∧ h < x.c.found ∧ (!(x.nd h).late) = true ∧ ((x.nd h).testedAt.getD x.c.admitAt) + x.g.owPeriod * 120000000 ≤ x.now :=
    ⟨hst, hfound, by rw [hfresh]; rfl, hlate⟩
  unfold owLate
  rw [if_pos hgo]
  refine ⟨congrArg LacNode.late (atD_updN_same x.c.node (fun nd => { nd with late := true }) {} hh), rfl, ?_⟩
  exact List.mem_append_right _ (List.mem_singleton_self _)

/-! ### The commands -/

section

variable {s : State} {c : Fin 4} {r : LacChain} (hon : s.lacOn c = true)
  (hr : s.cfg.lacChain.find? (fun r => r.chain == c.val) = some r)

include hon hr

/-- A write of LAC_OWT for a present chain (R329). -/
theorem lacOwtWrite_eq {w : Nat} {h : Nat} (hbit : bitOf 7 w = true) (hc : field 0 2 w = c.val) (hh : field 2 5 w = h) :
    lacOwtWrite w s = if (owtRequest h (s.lacAt c r)).2 then (.ok, s.lacDo c (fun x => (owtRequest h x).1)) else (.notInState, s) := by
  have hpresent : c.val < s.fuses.variant.chains := by
    unfold State.lacOn at hon
    rw [Bool.and_eq_true, decide_eq_true_eq] at hon
    exact hon.1
  have hfin : Fin.ofNat 4 (field 0 2 w) = c := by
    rw [hc]
    exact Fin.ext (Nat.mod_eq_of_lt c.isLt)
  have hctx : s.lacCtx c = some (s.lacAt c r) := by
    unfold State.lacCtx
    rw [hr]
    rfl
  unfold lacOwtWrite
  rw [hbit, if_neg (by decide), if_neg (by omega)]
  dsimp only
  rw [hfin, hctx, hon, hh, Bool.true_and]

theorem owtRequest_accepted {w : Word} {h : Fin 32} (hready : s.HostReady 0x24004) (hst : s.lac.ch[c].st = .run)
    (hbit : bitOf 7 w.toNat = true) (hc : field 0 2 w.toNat = c.val)
    (hh : field 2 5 w.toNat = h.val) (hfound : h.val < s.lac.ch[c].found) (hmask : s.lac.ch[c].node[h].maskW = 0) (hreq : s.lac.ch[c].req = none)
    (howt : s.lac.ch[c].owt = none) (hcmd : ∀ k, s.lac.ch[c].cmd = some k → (k.op.form (s.cfg.lacGlobal.getD {})).1 ≠ 0x20)
    (hsus : ∀ j : Fin 32, j.val < s.lac.ch[c].found → s.lac.ch[c].node[j].suspect = 0) :
    ∃ t, exec (.owtRequest w) s = .next t ∧ t.lac.ch[c] = { s.lac.ch[c] with req := some h.val } ∧ t.answered .ok [] := by
  have hmask' : ((s.lacAt c r).nd h).maskW = 0 := (congrArg LacNode.maskW (atD_val s.lac.ch[c].node h {})).trans hmask
  have hsus' (k : Nat) (hk : k < s.lac.ch[c].found) : ((s.lacAt c r).nd k).suspect = 0 := by
    show (atD s.lac.ch[c].node k {}).suspect = 0
    by_cases hk32 : k < 32
    · exact (congrArg LacNode.suspect (atD_lt _ _ hk32)).trans (hsus ⟨k, hk32⟩ hk)
    · exact congrArg LacNode.suspect (dif_neg hk32)
  have htest : (s.lacAt c r).testing = false := by
    rw [Bool.eq_false_iff]
    intro ht
    obtain ho | ⟨k, hk, hop⟩ := (LX.testing_iff _).mp ht
    · exact absurd ((congrArg Option.isSome howt).symm.trans ho) (by decide)
    · exact hcmd k hk hop
  have hreq' := owtRequest_takes (h := h) (x := s.lacAt c r) hst hfound hmask' hreq htest hsus'
  have hw : pageWrite .lac 4 w.toNat s = some (.ok, s.lacDo c (fun x => (owtRequest h x).1)) := by
    refine congrArg some ((lacOwtWrite_eq hon hr hbit hc hh).trans ?_)
    rw [hreq']
    rfl
  obtain ⟨k, hk⟩ := State.hostWrite_done 0x24004 w.toNat .lac 4 s _ hready rfl (by decide) hw
  refine ⟨_, hk, ?_, State.answered_append ..⟩
  refine (State.lacDo_ch hr _).trans ?_
  rw [hreq']
  rfl

theorem owtRequest_refused {w : Word} {h : Fin 32} (hready : s.HostReady 0x24004) (hbit : bitOf 7 w.toNat = true)
    (hc : field 0 2 w.toNat = c.val) (hh : field 2 5 w.toNat = h.val)
    (hbad : s.lac.ch[c].found ≤ h.val ∨ s.lac.ch[c].node[h].maskW ≠ 0 ∨ s.lac.ch[c].req.isSome = true ∨ s.lac.ch[c].owt.isSome = true ∨
      ∃ k, s.lac.ch[c].cmd = some k ∧ (k.op.form (s.cfg.lacGlobal.getD {})).1 = 0x20) :
    ∃ t, exec (.owtRequest w) s = .next t ∧ t.lac = s.lac ∧ t.answered .notInState [] := by
  have hmask : ((s.lacAt c r).nd h).maskW = s.lac.ch[c].node[h].maskW := congrArg LacNode.maskW (atD_val s.lac.ch[c].node h {})
  have hno := owtRequest_refuses (h := h) (x := s.lacAt c r)
    (hbad.imp_right (Or.imp (fun hm => by rw [hmask]; exact hm) (Or.imp_right (LX.testing_iff _).mpr)))
  have hw : pageWrite .lac 4 w.toNat s = some (.notInState, s) := by
    refine congrArg some ((lacOwtWrite_eq hon hr hbit hc hh).trans ?_)
    rw [hno]
    rfl
  exact ⟨_, State.hostWrite_refusal 0x24004 w.toNat .lac 4 s .notInState hready rfl (by decide) (by decide) hw,
    (State.judged_moves ..).frame.get .lac (by decide), State.answered_emit ..⟩

theorem owtRead_reads (hst : s.lac.ch[c].st = .run) {h t0 : Nat} {again : Bool} (howt : s.lac.ch[c].owt = some (h, t0, again))
    (hcmd : s.lac.ch[c].cmd = none) (hlate : t0 + (s.cfg.lacGlobal.getD {}).owSettle * 2000 + 2600 ≤ s.mono) :
    let out := max s.mono (s.lac.ch[c].convAt + 1580 + (s.cfg.lacGlobal.getD {}).settle * 100)
    ∃ t, exec (.owtRead c none) s = .next t ∧
      t.lac.ch[c].cmd = some { op := .owRead h, cseq := s.lac.ch[c].cseq, retried := again, sentAt := out } ∧
      Sends (.lac (.frame c out (lacFrame 0x01 h 0x60 32 [] s.lac.ch[c].cseq))) s t := by
  intro out
  have hf := (owtRead_sends (x := s.lacAt c r) howt hcmd hlate).1
  have hout := lacSend_out (.owRead h) again (s.lacAt c r)
  have hch := State.lacDo_ch hr (owtRead none)
  rw [LX.sendAt_of_run hst] at hout
  rw [hf, lacSend_c, LX.sendAt_of_run hst] at hch
  refine ⟨_, State.onLacing_exec hon _, by rw [hch]; rfl, State.lacDo_sends hr _ ?_ (fun _ => rfl)⟩
  rw [hf, hout]
  exact List.mem_append_right _ (List.mem_singleton_self _)

theorem owtRead_judges (hst : s.lac.ch[c].st = .run) {h t0 : Nat} {again : Bool} (howt : s.lac.ch[c].owt = some (h, t0, again))
    (hcmd : s.lac.ch[c].cmd = none) (hlate : t0 + (s.cfg.lacGlobal.getD {}).owSettle * 2000 + 2600 ≤ s.mono) {bs : List Byte} (hh : h < 32)
    (hstep : s.lac.ch[c].step = 5) (hbusy : s.lac.ch[c].busy = []) (htodo : s.lac.ch[c].todo = []) (hlen : bs.length = 39)
    (hcrc : crc16 (bs.take 37) = leAt bs 37 2) (h0 : leAt bs 0 1 = 0x81) (h1 : leAt bs 1 1 = h) (h2 : leAt bs 2 1 = s.lac.ch[c].cseq)
    (h3 : leAt bs 3 1 = 32) (hready : bitOf 2 (leAt bs 36 1) = false) :
    ∃ t, exec (.owtRead c (some bs)) s = .next t ∧ t.lac.ch[c].owt = none ∧ t.lac.ch[c].cmd = none ∧
      t.lac.ch[c].tests = satInc 8 s.lac.ch[c].tests ∧ (atD t.lac.ch[c].node h {}).testedAt = some s.mono ∧
      (atD t.lac.ch[c].node h {}).late = false := by
  have hf := (owtRead_sends (x := s.lacAt c r) howt hcmd hlate).2 bs
  have hj := lacResponse_judges (x := lacSend (.owRead h) again (s.lacAt c r)) hst hh rfl rfl hstep hbusy htodo hlen hcrc h0 h1 h2 h3 hready
  rw [← hf] at hj
  have hch := State.lacDo_ch hr (owtRead (some bs))
  refine ⟨_, State.onLacing_exec hon _, ?_⟩
  rw [hch]
  exact hj

theorem owTestLate_marks (hst : s.lac.ch[c].st = .run) {h : Fin 32} (hfound : h.val < s.lac.ch[c].found)
    (hfresh : s.lac.ch[c].node[h].late = false)
    (hlate : (s.lac.ch[c].node[h].testedAt.getD s.lac.ch[c].admitAt) + (s.cfg.lacGlobal.getD {}).owPeriod * 120000000 ≤ s.mono) :
    ∃ t, exec (.owTestLate c h) s = .next t ∧ t.lac.ch[c].node[h].late = true ∧ t.lac.ch[c].owLate = true ∧ t.told .openWireTestLate := by
  have hnd : (s.lacAt c r).nd h = s.lac.ch[c].node[h] := atD_val s.lac.ch[c].node h {}
  obtain ⟨h1, h2, h3⟩ := owLate_marks (x := s.lacAt c r) h.isLt hst hfound (by rw [hnd]; exact hfresh) (by rw [hnd]; exact hlate)
  have hch := State.lacDo_ch hr (owLate h)
  refine ⟨_, State.onLacing_exec hon _, ?_, by rw [hch, h2], State.lacDo_told hr _ (State.up_of_lacOn hon) h3⟩
  rw [hch]
  exact (congrArg LacNode.late (atD_val (owLate h (s.lacAt c r)).c.node h {})).symm.trans h1

end

/-- Settles O40: the rules of the open-wire test of a node. -/
theorem lacingWireTests : Obligations.LacingWireTests := fun _ _ _ hon hr hst =>
  ⟨fun _ _ hready hbit hc hh => ⟨owtRequest_accepted hon hr hready hst hbit hc hh, owtRequest_refused hon hr hready hbit hc hh⟩,
    fun _ _ _ howt hcmd hlate => ⟨owtRead_reads hon hr hst howt hcmd hlate, fun _ hh hstep hbusy htodo hlen hcrc h0 h1 h2 h3 hready =>
      owtRead_judges hon hr hst howt hcmd hlate hh hstep hbusy htodo hlen hcrc h0 h1 h2 h3 hready⟩,
    fun _ hfound hfresh hlate => owTestLate_marks hon hr hst hfound hfresh hlate⟩

end Sys2Proof.Machine
end

section
/-! ## Emergency stops on the site link (O41: `BrambleHears`, O44: `BrambleFallback`) -/

namespace Sys2Proof.Machine

/-! ### A RESUME of the same cycle

As for the ends of Gaiter's timers (`resumedAtTimerEnd`): the cause of a stop on the site link goes before a RESUME of the present cycle
and takes it back, so the site is in CLEARING again, not in SOFT. -/

/-- A controller in RUN by a RESUME of the present cycle; the image names one emergency-stop station, which is not admitted. -/
def resumedUnderStation : State :=
  { mono := 1000000, rst := { hold := none, refOk := true },
    clk := { ready := true, slots := (Vector.replicate 64 {}).set 0 { typ := .hmac, usage := 2, key := 7 } },
    cfg := { brmGlobal := some {}, brmPartner := [{ addr := some 0xABC, kind := 2 }] },
    brm := { run := true, zc := { lock := true, last := some 990000 } },
    gtr := { st := .run,
             low := some { rank := 6, st := .clearing, trip := true, cause := {}, softAt := 0, softLimit := 0, clrAt := 0 } } }

theorem resumedUnderStation_on : resumedUnderStation.brmOn = true := by decide

theorem State.brmDo_of_eq {f g : BX → BX} {s : State} (h : f s.bctx = g s.bctx) : s.brmDo f = s.brmDo g := by
  unfold State.brmDo
  rw [h]

/-! ### A signed ESTOP frame -/

/-- The head and body of an ESTOP: from a node that is no neighbour, in session 9 with number 1, the button pressed. -/
def stopHead : List Byte := [0x12, 0, 0xFD, 0, 0xFD, 0, 0, 0xFE, 9, 0, 0, 0, 1, 0, 4, 0, 0, 1, 0, 0]

/-- The frame: the head, its MIC under key 7, and the CRC of both. -/
def stopFrame : List Byte := stopHead ++ brmMic 7 stopHead ++ leBytes 4 (crc32c (stopHead ++ brmMic 7 stopHead))

theorem length_brmMic (k : Nat) (bs : List Byte) : (brmMic k bs).length = 8 := by simp [brmMic, beBytes]

theorem length_stopFrame : stopFrame.length = 32 := by simp [stopFrame, stopHead, length_brmMic]

theorem leAt_stopFrame {i n : Nat} (h : i + n ≤ 20) : leAt stopFrame i n = leAt stopHead i n := by
  rw [stopFrame, List.append_assoc]
  exact leAt_append_left _ h

theorem stopFrame_body : (stopFrame.drop 16).take 4 = [0, 1, 0, 0] := by
  rw [stopFrame, List.append_assoc]
  rfl

theorem stopFrame_signed : stopFrame.take 20 = stopHead ∧ (stopFrame.drop 20).take 8 = brmMic 7 stopHead := by
  rw [stopFrame, List.append_assoc]
  exact ⟨rfl, by rw [List.drop_left' (by rfl), List.take_left' (length_brmMic _ _)]⟩

theorem stopFrame_crc : leAt stopFrame 28 4 = crc32c (stopFrame.take 28) := by
  have hlen : (stopHead ++ brmMic 7 stopHead).length = 28 := by simp [stopHead, length_brmMic]
  have htake : stopFrame.take 28 = stopHead ++ brmMic 7 stopHead := by
    rw [stopFrame]
    exact List.take_left' hlen
  rw [htake, stopFrame, leAt_append_leBytes _ _ hlen, show (256 : Nat) ^ 4 = 2 ^ 32 by norm_num, Nat.mod_eq_of_lt (crc32c_lt _)]

/-- Under the key 7 an ESTOP of a station that is not admitted is taken (R346, R358). -/
theorem brmJudge_stopFrame {x : BX} (hk : x.key = some 7) (hs : (brmStop none x).isSome = true) :
    brmJudge stopFrame x = (x, some { src := 0xFD, nbr := none, body := [0, 1, 0, 0] }) := by
  obtain ⟨hhead, hmic⟩ := stopFrame_signed
  have e {i n v : Nat} (h : i + n ≤ 20) (hv : leAt stopHead i n = v) : leAt stopFrame i n = v := (leAt_stopFrame h).trans hv
  have haddr : (stopFrame.drop 2).take 4 = [0xFD, 0, 0xFD, 0] := by
    rw [stopFrame, List.append_assoc]
    rfl
  unfold brmJudge
  simp only [length_stopFrame, e (i := 14) (n := 2) (v := 4) (by decide) (by decide), e (i := 0) (n := 1) (v := 0x12) (by decide) (by decide),
    e (i := 1) (n := 1) (v := 0) (by decide) (by decide), e (i := 5) (n := 1) (v := 0) (by decide) (by decide),
    e (i := 2) (n := 1) (v := 0xFD) (by decide) (by decide), e (i := 4) (n := 1) (v := 0xFD) (by decide) (by decide), stopFrame_body, hk]
  rw [if_neg (by rw [show 32 - 4 = 28 from rfl, stopFrame_crc]; simp), if_neg (by decide), if_neg ?_, if_neg ?_]
  · rw [if_neg (by decide), if_neg (by decide), if_pos (by simp), if_pos ⟨trivial, hs⟩]
    rfl
  · simp [hhead, hmic]
  · simp [haddr, show bitOf 3 0 = false by decide]; decide

theorem resumedUnderStation_stop : (resumedUnderStation.brmDo (brmPress 0xABC true)).gtr.st = .clearing := by decide +kernel

theorem brmEstop_stopFrame : brmEstop stopFrame resumedUnderStation.bctx = brmPress 0xABC true resumedUnderStation.bctx := by
  unfold brmEstop
  rw [brmJudge_stopFrame (by decide +kernel) (by decide +kernel)]
  rfl

/-- Refutes O41: in `resumedUnderStation` the ESTOP of the station takes the RESUME back, so the site is in CLEARING after it, not in SOFT. -/
theorem not_brambleHears : ¬ Obligations.BrambleHears := by
  unfold Obligations.BrambleHears
  intro h
  obtain ⟨-, -, -, hstop, -⟩ := h resumedUnderStation resumedUnderStation_on
  obtain ⟨t, ht, hst, -⟩ := hstop stopFrame [0, 1, 0, 0] 0xFD 0xABC
    (congrArg Prod.snd (brmJudge_stopFrame (by decide +kernel) (by decide +kernel))) (by decide +kernel) (by decide) (by decide) (by decide) (by decide)
  have hexec : exec (.estop stopFrame) resumedUnderStation = .next (resumedUnderStation.brmDo (brmEstop stopFrame)) :=
    congrArg Host.Outcome.next (State.onlyIf_of resumedUnderStation_on _ resumedUnderStation)
  rw [← Host.Outcome.next.inj (hexec.symm.trans ht), State.brmDo_of_eq brmEstop_stopFrame, resumedUnderStation_stop] at hst
  cases hst

/-! ### The fallback path -/

/-- The ESTOP of the station stands in the windows of the first phase. -/
def stopWindows : Vector Nat 3 := #v[fbFrame 2 0xABC 1, 0, 0]

theorem resumedUnderStation_fallback :
    (resumedUnderStation.brmDo (fallbackEstop [stopWindows[0], stopWindows[1], stopWindows[2]])).gtr.st = .clearing := by decide +kernel

/-- Refutes O44: an ESTOP on the fallback path takes the RESUME of `resumedUnderStation` back as well. -/
theorem not_brambleFallback : ¬ Obligations.BrambleFallback := by
  unfold Obligations.BrambleFallback
  intro h
  obtain ⟨hframe, -⟩ := (h resumedUnderStation resumedUnderStation_on).1 (by decide) (by decide)
  obtain ⟨-, -, hstop⟩ := hframe stopWindows 0 (by decide)
  obtain ⟨t, ht, hst, -⟩ := hstop 0xABC (by decide +kernel) (by decide) (by decide +kernel) (by decide) (by decide) (by decide)
  have hexec : exec (.fallbackEstop stopWindows[0] stopWindows[1] stopWindows[2]) resumedUnderStation =
      .next (resumedUnderStation.brmDo (fallbackEstop [stopWindows[0], stopWindows[1], stopWindows[2]])) :=
    congrArg Host.Outcome.next (State.onlyIf_of resumedUnderStation_on _ resumedUnderStation)
  rw [← Host.Outcome.next.inj (hexec.symm.trans ht), resumedUnderStation_fallback] at hst
  cases hst

end Sys2Proof.Machine
end

section
/-! ## Rules of the site link -/

namespace Sys2Proof.Machine

theorem State.up_of_brmOn {s : State} (h : s.brmOn = true) : s.up = true := by
  unfold State.brmOn State.side at h
  simp only [Bool.and_eq_true] at h
  obtain ⟨⟨-, hup, -⟩, -⟩ := h
  exact hup

theorem State.onBramble_exec {s : State} (h : s.brmOn = true) (f : BX → BX) :
    (.next (s.onBramble f) : Host.Outcome State Fault Refusal) = .next (s.brmDo f) :=
  congrArg Host.Outcome.next (State.onlyIf_of h _ s)

theorem State.told_brmEff {e : Ev} {s : State} (o : BrmOut) (h : s.told e) : (s.brmEff o).told e := by
  cases o with
  | frame f t => exact State.told_of_thk rfl h
  | fb b a => exact State.told_of_thk rfl h
  | lost a => exact State.told_of_thk rfl h
  | soft =>
    show (s.softRequest 7 0).told e
    unfold State.softRequest
    exact State.told_gtrDo _ h
  | ev e' =>
    unfold State.brmEff
    split
    · exact State.told_raise _ (State.told_of_thk rfl h)
    · exact State.told_wrongState _ h
    · exact State.told_raise _ h
    · next heq => cases heq
    · next hne _ => exact absurd rfl (hne e')

theorem State.up_brmEff {s : State} (o : BrmOut) (h : s.up = true) : (s.brmEff o).up = true :=
  (State.up_congr ((State.brmEff_moves s o).frame.get .rst (by decide))).trans h

/-- An event that a function of Bramble raises becomes pending. -/
theorem State.brmDo_told (f : BX → BX) {s : State} {e : Ev} (hup : s.up = true) (he : .ev e ∈ (f s.bctx).out)
    (hraise : ∀ t : State, t.up = true → (t.brmEff (.ev e)).told e) : (s.brmDo f).told e :=
  foldl_reaches (Q := fun t : State => t.up = true) he (fun _ o ht => State.up_brmEff o ht) (fun t ht => hraise t ht)
    (fun _ o _ hp => State.told_brmEff o hp) _ hup

/-- What a function of Bramble sends, the device sends. -/
theorem State.brmDo_sends (f : BX → BX) {s : State} {o : BrmOut} (ho : o ∈ (f s.bctx).out)
    (hsend : ∀ t : State, t.brmEff o = t.emit (.brm o)) : Sends (.brm o) s (s.brmDo f) := by
  refine foldl_reaches (Q := fun t : State => s.out <+: t.out) ho (fun t x ht => ht.trans (State.brmEff_moves t x).sent) (fun t ht => ?_)
    (fun t x _ hp => hp.after (State.brmEff_moves t x).sent) _ (List.prefix_refl _)
  rw [hsend]
  exact (Sends.emit _ t).before ht

/-! ### What is heard (R350, R352)

Hearing a partner changes when it was heard, and lets an unreachable one be admitted again; the rest of Bramble stands still. -/

/-- A neighbour but for what hearing it changes. -/
def BrmNbr.core (n : BrmNbr) : BrmNbr :=
  { n with heardAt := none, linkAt := none, rxSeq := none, st := if n.st = .unreachable then .admitted else n.st }

/-- Bramble but for what a frame that is judged changes. -/
def Bramble.core (b : Bramble) : Bramble := { b with joins := [], idleAt := 0, nbr := b.nbr.map BrmNbr.core, eLate := 0, eAuth := 0, eBad := 0, eCrc := 0 }

/-- From `x` to `y` Bramble has heard frames and answered them. -/
structure BX.Hears (x y : BX) : Prop where
  now : y.now = x.now
  g : y.g = x.g
  parts : y.parts = x.parts
  binds : y.binds = x.binds
  epoch : y.epoch = x.epoch
  own : y.own = x.own
  key : y.key = x.key
  draws : y.draws = x.draws
  fresh : y.fresh = x.fresh
  core : y.b.core = x.b.core
  out : ∃ l : List (BrmFrame × Nat), y.out = x.out ++ l.map (fun p => .frame p.1 p.2)

theorem BX.Hears.refl (x : BX) : x.Hears x := ⟨rfl, rfl, rfl, rfl, rfl, rfl, rfl, rfl, rfl, rfl, [], (List.append_nil _).symm⟩

theorem BX.Hears.trans {x y z : BX} (h : x.Hears y) (k : y.Hears z) : x.Hears z := by
  obtain ⟨l, hl⟩ := h.out
  obtain ⟨m, hm⟩ := k.out
  exact ⟨k.now.trans h.now, k.g.trans h.g, k.parts.trans h.parts, k.binds.trans h.binds, k.epoch.trans h.epoch, k.own.trans h.own,
    k.key.trans h.key, k.draws.trans h.draws, k.fresh.trans h.fresh, k.core.trans h.core,
    l ++ m, by rw [hm, hl, List.append_assoc, List.map_append]⟩

theorem BX.hears_mod (x : BX) {f : Bramble → Bramble} (h : ∀ b, (f b).core = b.core) : x.Hears (x.mod f) :=
  ⟨rfl, rfl, rfl, rfl, rfl, rfl, rfl, rfl, rfl, h x.b, [], (List.append_nil _).symm⟩

theorem BX.hears_setNb (x : BX) (n : Nat) {f : BrmNbr → BrmNbr} (h : ∀ b, (f b).core = b.core) : x.Hears (x.setNb n f) := by
  refine x.hears_mod (fun b => ?_)
  unfold Bramble.core
  dsimp only
  rw [map_updN h]

theorem brmHeard_hears (n : Nat) (x : BX) : x.Hears (brmHeard n x) :=
  x.hears_setNb n (fun b => by unfold BrmNbr.core; dsimp only; cases b.st <;> rfl)

theorem brmNear_hears (n : Nat) (x : BX) : x.Hears (brmNear n x) :=
  (brmHeard_hears n x).trans ((brmHeard n x).hears_setNb n (fun _ => rfl))

theorem brmHear_hears (src tx : Nat) (x : BX) : x.Hears (brmHear src tx x) := by
  unfold brmHear
  dsimp only
  have step (a : Nat) (f : Nat → BX → BX) (hf : ∀ n (y : BX), y.Hears (f n y)) (y : BX) :
      y.Hears (if 1 ≤ a ∧ a ≤ 0x40 ∧ (y.nb (nbrOf a)).st ≠ .empty then f (nbrOf a) y else y) := by
    split
    · exact hf _ y
    · exact .refl y
  exact (step src brmHeard brmHeard_hears x).trans (step tx brmNear brmNear_hears _)

theorem brmReply_hears (ty ref : Nat) (x : BX) : x.Hears (brmReply ty ref x) :=
  ⟨rfl, rfl, rfl, rfl, rfl, rfl, rfl, rfl, rfl, rfl, [(_, _)], rfl⟩

/-! ### Entries of neighbours -/

theorem BX.nb_lt (x : BX) {n : Nat} (h : n < 65) : x.b.nbr[n] = x.nb n := (atD_lt _ _ h).symm

theorem BX.nb_setNb (x : BX) {n : Nat} (f : BrmNbr → BrmNbr) (h : n < 65) : (x.setNb n f).nb n = f (x.nb n) := atD_updN_same _ f {} h

theorem updN_updN {α : Type} {n : Nat} (v : Vector α n) (i : Nat) (f g : α → α) : updN (updN v i f) i g = updN v i (fun a => g (f a)) := by
  by_cases h : i < n
  · simp [updN, h]
  · simp [updN, h]

theorem BX.setNb_setNb (x : BX) (n : Nat) (f g : BrmNbr → BrmNbr) : (x.setNb n f).setNb n g = x.setNb n (fun b => g (f b)) :=
  congrArg (fun v => x.mod (fun b => { b with nbr := v })) (updN_updN x.b.nbr n f g)

/-! ### Attempts (R343, R344) -/

/-- When a frame of a class starts that contends for the medium now. -/
def BX.contendAt (cls : BrmCls) (x : BX) : Nat := max x.now x.b.idleAt + 1152 + 576 * (x.slot cls).1

/-- A slot drawn is one of its class. -/
theorem BX.contendAt_slot (cls : BrmCls) (x : BX) :
    ∃ j < (slotWindow cls).2, x.contendAt cls = max x.now x.b.idleAt + 1152 + 576 * ((slotWindow cls).1 + j) :=
  ⟨_, Nat.mod_lt _ (by cases cls <;> decide), rfl⟩

/-- A frame has gone out once more: what it says is as before. -/
structure BrmTx.Again (f g : BrmTx) : Prop where
  tries : g.tries = f.tries + 1
  ftype : g.ftype = f.ftype
  cls : g.cls = f.cls
  body : g.body = f.body
  seq : g.seq = f.seq

/-- Bramble after `fr` has gone out as the frame `g` in flight to neighbour `n`. -/
def BX.flying (n : Nat) (g : BrmTx) (fr : BrmFrame) (idle : Nat) (x : BX) : BX :=
  { x with b := { x.b with idleAt := idle, nbr := updN x.b.nbr n (fun b => { b with cur := some g }) },
           draws := x.draws + 1, out := x.out ++ [.frame fr g.sentAt] }

theorem BX.flying_nb (x : BX) {n : Nat} (g : BrmTx) (fr : BrmFrame) (idle : Nat) (h : n < 65) :
    (x.flying n g fr idle).nb n = { x.nb n with cur := some g } :=
  atD_updN_same x.b.nbr (fun b => { b with cur := some g }) {} h

/-- A frame of the controller in robust mode, whose header is that of Table 12.1. -/
def BX.robust (pay : List Byte) (start : Nat) (x : BX) : BrmFrame :=
  { fch := fchBytes 0 true 0 pay.length (x.zcd start) 0, pay := pay, atten := x.g.txLevel }

/-- With the site key an attempt sends the frame in a slot of its class; a JOIN_ACK goes out in robust mode, straight to its partner. -/
theorem brmAttempt_key {x : BX} {k : Nat} (hk : x.key = some k) (n : Nat) (f : BrmTx) :
    ∃ g fr idle, brmAttempt n f x = x.flying n g fr idle ∧ f.Again g ∧ g.sentAt = x.contendAt f.cls ∧
      (f.ftype = 0x03 → g.sent = brmPayload k 0x03 f.cls true [] 0 0xFD 0 0xFD (x.nb n).sid f.seq f.body ∧ fr = x.robust g.sent g.sentAt) := by
  unfold brmAttempt
  rw [hk]
  refine ⟨_, _, _, rfl, ⟨rfl, rfl, rfl, rfl, rfl⟩, rfl, fun h3 => ?_⟩
  dsimp only
  rw [if_pos h3, if_neg (by simp [h3])]
  exact ⟨rfl, rfl⟩

/-- With no frame in flight or waiting a new one goes out at once, unless a refresh holds it (R342). -/
theorem brmSend_goes {x : BX} {k n : Nat} (hk : x.key = some k) (hn : n < 65) (hcur : (x.nb n).cur = none) (hq : (x.nb n).queue = [])
    {ftype : Nat} (hpend : (x.nb n).pend = false ∨ ftype = 0x04) (cls : BrmCls) (body : List Byte) :
    ∃ g fr idle, brmSend n ftype cls none body x =
        (x.setNb n (fun b => { b with queue := [], txSeq := (b.txSeq + 1) % 65536 })).flying n g fr idle ∧
      g.tries = 1 ∧ g.ftype = ftype ∧ g.cls = cls ∧ g.sentAt = x.contendAt cls ∧
      (ftype = 0x03 → g.sent = brmPayload k 0x03 cls true [] 0 0xFD 0 0xFD (x.nb n).sid (x.nb n).txSeq body ∧ fr = x.robust g.sent g.sentAt) := by
  obtain ⟨f, hf⟩ : ∃ f : BrmTx, ({ ftype := ftype, cls := cls, body := body, seq := (x.nb n).txSeq, bind := none } : BrmTx) = f := ⟨_, rfl⟩
  have hfcls : f.cls = cls := by rw [← hf]
  have hftype : f.ftype = ftype := by rw [← hf]
  obtain ⟨y, hy⟩ : ∃ y, x.setNb n (fun b => { b with queue := [f], txSeq := (b.txSeq + 1) % 65536 }) = y := ⟨_, rfl⟩
  have hynb : y.nb n = { x.nb n with queue := [f], txSeq := ((x.nb n).txSeq + 1) % 65536 } := by
    rw [← hy]
    exact x.nb_setNb _ hn
  have hz : y.setNb n (fun b => { b with queue := b.queue.erase f }) = x.setNb n (fun b => { b with queue := [], txSeq := (b.txSeq + 1) % 65536 }) := by
    rw [← hy, BX.setNb_setNb]
    simp only [List.erase_cons_head]
  obtain ⟨g, fr, idle, hgo, again, hat, hack⟩ := brmAttempt_key (x := y.setNb n (fun b => { b with queue := b.queue.erase f }))
    (k := k) (by rw [← hy]; exact hk) n f
  have hsend : brmSend n ftype cls none body x = brmNext n y := by
    unfold brmSend
    dsimp only
    rw [hf, hq, ← hy]
    rfl
  have hnext : brmNext n y = brmAttempt n f (y.setNb n (fun b => { b with queue := b.queue.erase f })) := by
    unfold brmNext
    dsimp only
    rw [hynb]
    dsimp only
    rw [hcur]
    have hfind : [f].find? (fun g => g.cls = .emerg || !(x.nb n).pend || g.ftype == 0x04) = some f := by
      rw [List.find?_cons_of_pos]
      obtain h | h := hpend
      · simp [h]
      · simp [hftype, h]
    rw [hfind]
    rfl
  refine ⟨g, fr, idle, by rw [hsend, hnext, hgo, hz], ?_, again.ftype.trans hftype, again.cls.trans hfcls, ?_, fun h3 => ?_⟩
  · rw [again.tries, ← hf]
  · rw [hat, hz, hfcls]
    rfl
  · obtain ⟨hsent, hfr⟩ := hack (hftype.trans h3)
    rw [hz] at hsent hfr
    refine ⟨?_, hfr⟩
    rw [hsent, BX.nb_setNb _ _ hn, hfcls, ← hf]

end Sys2Proof.Machine
end

section
/-! ## Attempts, refreshes, beacons and lost partners of the site link (O43: `BrambleSends`) -/

namespace Sys2Proof.Machine

/-! ### Answers to a frame in flight (R344, R345) -/

/-- With nothing waiting nothing goes out. -/
theorem brmNext_of_nil {x : BX} {n : Nat} (h : (x.nb n).queue = []) : brmNext n x = x := by
  unfold brmNext
  dsimp only
  rw [h]
  split <;> rfl

/-- A neighbour that has been heard on the direct link. -/
def BrmNbr.near (now : Nat) (b : BrmNbr) : BrmNbr :=
  { b with heardAt := some now, linkAt := some now, st := if b.st = .unreachable then .admitted else b.st }

theorem brmNear_eq (n : Nat) (x : BX) : brmNear n x = x.setNb n (BrmNbr.near x.now) := BX.setNb_setNb _ _ _ _

/-- The first hop of a frame with no route is its partner. -/
theorem nbrOf_direct (n : Nat) {f : BrmTx} (h : f.route = []) : nbrOf (f.route.getD 0 (shortOf n)) = n := by
  rw [h]
  rfl

section
variable {x : BX} {n : Nat} {f : BrmTx} (hcur : (x.nb n).cur = some f) (hq : (x.nb n).queue = []) (hroute : f.route = []) (hn : n < 65)
include hcur hq hroute hn

/-- The answer comes: the frame is done, and its errors are forgotten. -/
theorem brmAck_nb {ref : Nat} (href : crc32c (f.sent.take (f.sent.length - 4)) % 256 = ref) :
    (brmAck n ref x).nb n = { (x.nb n).near x.now with cur := none, errs := 0 } := by
  unfold brmAck
  rw [hcur]
  dsimp only
  rw [if_pos href, nbrOf_direct n hroute, brmNear_eq, BX.setNb_setNb, BX.setNb_setNb, brmNext_of_nil]
  · exact x.nb_setNb _ hn
  · rw [x.nb_setNb _ hn]
    exact hq

/-- The refusal with NOISE comes for a telemetry frame after its last attempt. -/
theorem brmNack_last {ref : Nat} (href : crc32c (f.sent.take (f.sent.length - 4)) % 128 = ref % 128) (hnoise : bitOf 7 ref = true)
    (hcls : f.cls = .telemetry) (htries : 2 ≤ f.tries) :
    (brmNack n ref x).nb n = { (x.nb n).near x.now with cur := none } ∧
      (brmNack n ref x).b.eNoise = satInc 8 x.b.eNoise ∧ (brmNack n ref x).b.eDrop = satInc 8 x.b.eDrop := by
  obtain ⟨y, hy⟩ : ∃ y, x.mod (fun b => { b with eNoise := satInc 8 b.eNoise }) = y := ⟨_, rfl⟩
  have hynb : y.nb n = x.nb n := by rw [← hy]; rfl
  have hnow : y.now = x.now := by rw [← hy]; rfl
  obtain ⟨z, hz⟩ : ∃ z, y.setNb n (BrmNbr.near y.now) = z := ⟨_, rfl⟩
  have hznb : z.nb n = (x.nb n).near x.now := by rw [← hz, y.nb_setNb _ hn, hynb, hnow]
  have hfail : brmNack n ref x = brmFailed n f z := by
    unfold brmNack
    rw [hcur]
    dsimp only
    rw [if_pos href, nbrOf_direct n hroute, brmNear_eq, if_pos hnoise, hy, hz]
    unfold brmFail
    rw [show (z.nb n).cur = some f by rw [hznb]; exact hcur]
    dsimp only
    rw [if_pos (by rw [hcls]; exact htries), hnoise]
    rfl
  have hdone : brmFailed n f z = (z.setNb n (fun b => { b with cur := none })).mod (fun b => { b with eDrop := satInc 8 b.eDrop }) := by
    unfold brmFailed
    rw [hcls]
    dsimp only
    refine brmNext_of_nil ?_
    show ((z.setNb n (fun b => { b with cur := none })).nb n).queue = []
    rw [z.nb_setNb _ hn, hznb]
    exact hq
  rw [hfail, hdone]
  refine ⟨?_, ?_, ?_⟩
  · show (z.setNb n (fun b => { b with cur := none })).nb n = _
    rw [z.nb_setNb _ hn, hznb]
  · rw [← hz, ← hy]
    rfl
  · rw [← hz, ← hy]
    rfl

omit hq in
/-- The refusal comes before the last attempt, with no refresh pending: the frame goes out again. -/
theorem brmNack_again {k ref : Nat} (hk : x.key = some k) (href : crc32c (f.sent.take (f.sent.length - 4)) % 128 = ref % 128)
    (htries : f.tries < maxTries f.cls) (hpend : (x.nb n).pend = false) :
    ∃ g, ((brmNack n ref x).nb n).cur = some g ∧ f.Again g ∧ g.sentAt = (brmNear n x).contendAt f.cls := by
  obtain ⟨y, hy⟩ : ∃ y, (if bitOf 7 ref then x.mod (fun b => { b with eNoise := satInc 8 b.eNoise }) else x) = y := ⟨_, rfl⟩
  obtain ⟨z, hz⟩ : ∃ z, y.setNb n (BrmNbr.near y.now) = z := ⟨_, rfl⟩
  obtain ⟨w, hw⟩ : ∃ w, (if !bitOf 7 ref then z.setNb n (fun b => { b with errs := satInc 8 b.errs }) else z) = w := ⟨_, rfl⟩
  have hynb : y.nb n = x.nb n := by rw [← hy]; split <;> rfl
  have hznb : z.nb n = (x.nb n).near y.now := by rw [← hz, y.nb_setNb _ hn, hynb]
  have hwkey : w.key = some k := by rw [← hw, ← hz, ← hy]; split <;> split <;> exact hk
  have hslot : w.contendAt f.cls = (brmNear n x).contendAt f.cls := by rw [← hw, ← hz, ← hy]; split <;> split <;> rfl
  have hwcore : (w.nb n).pend = false := by
    rw [← hw]
    split
    · rw [z.nb_setNb _ hn, hznb]
      exact hpend
    · rw [hznb]
      exact hpend
  have hfail : brmNack n ref x = brmAttempt n f w := by
    unfold brmNack
    rw [hcur]
    dsimp only
    rw [if_pos href, nbrOf_direct n hroute, brmNear_eq, hy, hz]
    unfold brmFail
    rw [show (z.nb n).cur = some f by rw [hznb]; exact hcur]
    dsimp only
    rw [nbrOf_direct n hroute, hw, if_neg (by omega), if_neg (by simp [hwcore])]
  obtain ⟨g, fr, idle, hgo, again, hat, -⟩ := brmAttempt_key hwkey n f
  refine ⟨g, ?_, again, hat.trans hslot⟩
  rw [hfail, hgo, BX.flying_nb _ _ _ _ hn]

/-- No answer has come to the last attempt of a frame of control: the partner is unreachable. -/
theorem brmAckTimeout_last (hlate : f.sentAt + f.dur + 5760 ≤ x.now) (hcls : f.cls = .control) (htries : 5 ≤ f.tries)
    (hst : (x.nb n).st = .admitted) :
    brmAckTimeout n x = ((x.setNb n (fun b => { b with errs := satInc 8 b.errs, cur := none, st := .unreachable })).put (.lost (x.nb n).addr)) := by
  obtain ⟨y, hy⟩ : ∃ y, x.setNb n (fun b => { b with errs := satInc 8 b.errs }) = y := ⟨_, rfl⟩
  obtain ⟨z, hz⟩ : ∃ z, y.setNb n (fun b => { b with cur := none }) = z := ⟨_, rfl⟩
  have hynb : y.nb n = { x.nb n with errs := satInc 8 (x.nb n).errs } := by rw [← hy, x.nb_setNb _ hn]
  have hznb : z.nb n = { x.nb n with errs := satInc 8 (x.nb n).errs, cur := none } := by rw [← hz, y.nb_setNb _ hn, hynb]
  have hfail : brmAckTimeout n x = brmFailed n f y := by
    unfold brmAckTimeout
    rw [hcur]
    dsimp only
    rw [if_pos (by omega)]
    unfold brmFail
    rw [hcur]
    dsimp only
    rw [nbrOf_direct n hroute, hy, if_pos (by rw [hcls]; exact htries), if_pos rfl]
  rw [hfail]
  unfold brmFailed
  rw [hz, hcls]
  dsimp only
  rw [if_pos (by rw [hznb]; exact hst), brmNext_of_nil, hznb, ← hz, ← hy, BX.setNb_setNb, BX.setNb_setNb]
  show ((z.setNb n (fun b => { b with st := .unreachable })).nb n).queue = []
  rw [z.nb_setNb _ hn, hznb]
  exact hq

end

/-! ### Zero crossings (R338) -/

theorem zeroCrossing_zc (x : BX) {t : Nat} (ht : x.b.zc.last = some t) :
    (x.b.zc.lock = false → 500000 / x.g.mainsF * 95 ≤ (x.now - t) * 100 → (x.now - t) * 100 ≤ 500000 / x.g.mainsF * 105 →
      (zeroCrossing x).b.zc = { lock := true, last := some x.now, half := x.now - t, ign := 0 }) ∧
    (x.b.zc.lock = true → t + x.b.zc.half + 500 < x.now → x.now < t + x.b.zc.half + x.b.zc.half / 2 → x.b.zc.ign < 9 →
      (zeroCrossing x).b.zc = { x.b.zc with ign := x.b.zc.ign + 1 }) ∧
    (x.b.zc.lock = true → 500 < x.b.zc.half / 2 → t + x.b.zc.half ≤ x.now + 500 → x.now ≤ t + x.b.zc.half + 500 →
      (zeroCrossing x).b.zc = { x.b.zc with last := some x.now, half := x.now - t, ign := 0 }) := by
  unfold zeroCrossing BX.mod
  dsimp only
  rw [ht]
  dsimp only
  have one (h0 : x.b.zc.half ≤ x.now - t + x.b.zc.half / 2) (h1 : x.now - t + x.b.zc.half / 2 < 2 * x.b.zc.half) :
      max 1 ((x.now - t + x.b.zc.half / 2) / x.b.zc.half) = 1 := by
    have : (x.now - t + x.b.zc.half / 2) / x.b.zc.half = 1 := Nat.div_eq_of_lt_le (by omega) (by omega)
    rw [this]
    rfl
  refine ⟨fun hl h1 h2 => ?_, fun hl h1 h2 h3 => ?_, fun hl h1 h2 h3 => ?_⟩
  · rw [if_neg (by rw [hl]; exact Bool.false_ne_true), if_pos ⟨h1, h2⟩]
  · rw [if_pos hl, one (by omega) (by omega), if_neg ?_, if_neg (by omega)]
    rw [if_pos (by omega)]
    omega
  · rw [if_pos hl, one (by omega) (by omega), if_pos ?_]
    · dsimp only
      rw [Nat.div_one]
    · split <;> omega

/-! ### Refreshes (R342) and beacons (R349) -/

/-- What waits goes out; the tone map, and what holds it, stay. -/
theorem brmNext_refresh (x : BX) (n : Nat) :
    ((brmNext n x).nb n).pend = (x.nb n).pend ∧ ((brmNext n x).nb n).pendAt = (x.nb n).pendAt ∧
      ((brmNext n x).nb n).tx = (x.nb n).tx ∧ ((brmNext n x).nb n).retryAt = (x.nb n).retryAt := by
  obtain ⟨view, hview⟩ : ∃ view : BrmNbr → Bool × Nat × Option (List Nat × Nat) × Option Nat,
      view = fun b => (b.pend, b.pendAt, b.tx, b.retryAt) := ⟨_, rfl⟩
  have keeps (f : BrmNbr → BrmNbr) (y : BX) (h : ∀ b, view (f b) = view b) : view ((y.setNb n f).nb n) = view (y.nb n) :=
    atD_updN_keeps view y.b.nbr n n f {} h
  have attempt (f : BrmTx) (y : BX) : view ((brmAttempt n f y).nb n) = view (y.nb n) := by
    obtain hk | ⟨k, hk⟩ := Option.eq_none_or_eq_some y.key
    · unfold brmAttempt
      rw [hk]
      rfl
    · obtain ⟨g, fr, idle, hgo, -⟩ := brmAttempt_key hk n f
      rw [hgo]
      exact atD_updN_keeps view y.b.nbr n n _ {} (fun _ => by rw [hview])
  have key : view ((brmNext n x).nb n) = view (x.nb n) := by
    unfold brmNext
    dsimp only
    split
    · rfl
    · split
      · rfl
      · exact (attempt _ _).trans (keeps _ x (fun _ => by rw [hview]))
  rw [hview] at key
  simp only [Prod.mk.injEq] at key
  exact key

theorem refreshStart_nb {x : BX} {k n : Nat} (hk : x.key = some k) (hn : n < 65) (hcur : (x.nb n).cur = none) (hq : (x.nb n).queue = []) :
    ∃ f, ((refreshStart n x).nb n).cur = some f ∧ ((refreshStart n x).nb n).pend = true ∧ ((refreshStart n x).nb n).pendAt = x.now ∧
      f.ftype = 0x04 ∧ f.tries = 1 := by
  obtain ⟨y, hy⟩ : ∃ y, x.setNb n (fun b => { b with pend := true, pendAt := x.now, retryAt := none }) = y := ⟨_, rfl⟩
  have hynb : y.nb n = { x.nb n with pend := true, pendAt := x.now, retryAt := none } := by rw [← hy, x.nb_setNb _ hn]
  obtain ⟨g, fr, idle, hgo, htries, htype, -⟩ := brmSend_goes (x := y) (k := k) (by rw [← hy]; exact hk) hn (by rw [hynb]; exact hcur)
    (by rw [hynb]; exact hq) (ftype := 0x04) (.inr rfl) .control []
  have hstart : refreshStart n x = brmSend n 0x04 .control none [] y := by rw [← hy]; rfl
  have hnb : (refreshStart n x).nb n = { y.nb n with queue := [], txSeq := ((y.nb n).txSeq + 1) % 65536, cur := some g } := by
    rw [hstart, hgo, BX.flying_nb _ _ _ _ hn, y.nb_setNb _ hn]
  rw [hnb, hynb]
  exact ⟨g, rfl, rfl, rfl, htype, htries⟩

/-- A refresh that starts holds the neighbour's frames, whether or not its TMREQ goes out. -/
theorem refreshStart_pend (x : BX) {n : Nat} (hn : n < 65) :
    ((refreshStart n x).nb n).pend = true ∧ ((refreshStart n x).nb n).pendAt = x.now := by
  unfold refreshStart brmSend
  dsimp only
  obtain ⟨hp, hat, -⟩ := brmNext_refresh ((x.setNb n (fun b => { b with pend := true, pendAt := x.now, retryAt := none })).setNb n _) n
  rw [hp, hat, BX.nb_setNb _ _ hn, BX.nb_setNb _ _ hn]
  exact ⟨rfl, rfl⟩

theorem tmrTimeout_nb {x : BX} {n : Nat} (hn : n < 65) (hpend : (x.nb n).pend = true) (hlate : (x.nb n).pendAt + 400000 ≤ x.now) :
    ((tmrTimeout n x).nb n).pend = false ∧ ((tmrTimeout n x).nb n).tx = none ∧
      ((tmrTimeout n x).nb n).retryAt = some (x.now + 10000000) := by
  unfold tmrTimeout
  dsimp only
  rw [if_pos ⟨hpend, hlate⟩]
  obtain ⟨h1, -, h2, h3⟩ := brmNext_refresh (x.setNb n (fun b => { b with pend := false, tx := none, retryAt := some (x.now + 10000000) })) n
  rw [x.nb_setNb _ hn] at h1 h2 h3
  exact ⟨h1, h2, h3⟩

/-- The body of a beacon after the controller's address. -/
theorem beacon_body (own kind epoch n : Nat) (l : List Byte) :
    leAt (leBytes 6 own ++ leBytes 1 kind ++ leBytes 2 epoch ++ leBytes 2 0 ++ leBytes 1 0xFE ++ leBytes 1 n ++ l) 0 6 = own % 2 ^ 48 ∧
    leAt (leBytes 6 own ++ leBytes 1 kind ++ leBytes 2 epoch ++ leBytes 2 0 ++ leBytes 1 0xFE ++ leBytes 1 n ++ l) 9 2 = 0 ∧
    leAt (leBytes 6 own ++ leBytes 1 kind ++ leBytes 2 epoch ++ leBytes 2 0 ++ leBytes 1 0xFE ++ leBytes 1 n ++ l) 11 1 = 0xFE := by
  refine ⟨?_, rfl, rfl⟩
  simp only [List.append_assoc]
  rw [leAt_append_left _ (show 0 + 6 ≤ (leBytes 6 own).length from Nat.le_refl 6)]
  exact leAt_append_leBytes [] own rfl

/-- A broadcast contends with a frame in robust mode, and leaves the count of beacons as it is. -/
theorem brmContend_robust (cls : BrmCls) (pay : List Byte) (x : BX) :
    ∃ dur y, brmContend cls pay none false x = (x.contendAt cls, dur, y) ∧ y.b.bcnSeq = x.b.bcnSeq ∧
      BrmOut.frame (x.robust pay (x.contendAt cls)) (x.contendAt cls) ∈ y.out :=
  ⟨_, _, rfl, rfl, List.mem_append_right _ (List.mem_singleton_self _)⟩

/-- With the site key a beacon goes out in robust mode in a slot of telemetry. -/
theorem beaconSend_bcast {x : BX} {k : Nat} (hk : x.key = some k) :
    ∃ f, (beaconSend x).b.bcast = some f ∧ (beaconSend x).b.bcnSeq = (x.b.bcnSeq + 1) % 65536 ∧
      f.sent = brmPayload k 0x01 .telemetry false [] 0 0xFF 0 0xFF 0 x.b.bcnSeq f.body ∧
      BrmOut.frame (x.robust f.sent f.sentAt) f.sentAt ∈ (beaconSend x).out ∧
      leAt f.body 0 6 = x.own % 2 ^ 48 ∧ leAt f.body 9 2 = 0 ∧ leAt f.body 11 1 = 0xFE ∧ f.sentAt = x.contendAt .telemetry := by
  unfold beaconSend
  rw [hk]
  dsimp only
  obtain ⟨hown, hzero, hend⟩ := beacon_body x.own x.free x.epoch _ _
  obtain ⟨dur, y, hcontend, hseq, hframe⟩ := brmContend_robust .telemetry _ x
  rw [hcontend]
  exact ⟨_, rfl, congrArg (fun n => (n + 1) % 65536) hseq, rfl, hframe, hown, hzero, hend, rfl⟩

/-! ### Lost partners (R350) -/

/-- An admitted partner that has not been heard for too long is lost, and the event tells of it. -/
theorem brmLostTimeout_nb {x : BX} {n t : Nat} (hn : n < 65) (ht : (x.nb n).heardAt = some t) (hlate : t + x.g.lostN * x.g.bcnP * 1000000 ≤ x.now)
    (hst : (x.nb n).st = .admitted) :
    ((brmLostTimeout n x).nb n).st = .lost ∧ ((brmLostTimeout n x).nb n).queue = [] ∧
      BrmOut.ev .bramblePartnerLost ∈ (brmLostTimeout n x).out := by
  unfold brmLostTimeout
  rw [ht]
  dsimp only
  rw [if_pos hlate]
  unfold brmLost
  dsimp only
  rw [if_pos (.inl hst)]
  obtain ⟨y, hy⟩ : ∃ y, x.setNb n (fun b => { b with st := .lost, queue := [], cur := none, pend := false }) = y := ⟨_, rfl⟩
  have hynb : y.nb n = { x.nb n with st := .lost, queue := [], cur := none, pend := false } := by rw [← hy, x.nb_setNb _ hn]
  rw [hy]
  obtain ⟨z, hz⟩ : ∃ z, (y.put (.ev .bramblePartnerLost)).put (.lost (x.nb n).addr) = z := ⟨_, rfl⟩
  have hznb : z.nb n = y.nb n := by rw [← hz]; rfl
  have hout : BrmOut.ev .bramblePartnerLost ∈ z.out := by
    rw [← hz]
    exact List.mem_append_left _ (List.mem_append_right _ (List.mem_singleton.mpr rfl))
  rw [hz]
  split
  · exact ⟨(congrArg BrmNbr.st (hznb.trans hynb)).trans rfl, (congrArg BrmNbr.queue (hznb.trans hynb)).trans rfl, List.mem_append_left _ hout⟩
  · exact ⟨(congrArg BrmNbr.st (hznb.trans hynb)).trans rfl, (congrArg BrmNbr.queue (hznb.trans hynb)).trans rfl, hout⟩

/-! ### A host's write of BRM_CTRL.REFRESH (R361) -/

theorem pageOf_brmCtrl : pageOf 0xA000 = some (.brm, 0) := by decide

/-- The word that asks neighbour `n` for a refresh. -/
theorem refreshWord (n : Fin 64) : field 0 6 (put 0 6 n.val + putB 6 true) = n.val ∧ bitOf 6 (put 0 6 n.val + putB 6 true) = true := by
  revert n
  decide

theorem brmCtrlWrite_refreshes {n : Fin 64} {s : State} (hsel : s.brm.nbrSel = n.val) (hon : s.brmOn = true)
    (hst : s.brm.nbr[n].st = .admitted) (hpend : s.brm.nbr[n].pend = false) :
    brmCtrlWrite (put 0 6 s.brm.nbrSel + putB 6 true) s =
      (.ok, State.brmDo (refreshStart n) { s with brm := { s.brm with nbrSel := n.val } }) := by
  obtain ⟨hfield, hbit⟩ := refreshWord n
  have hnb : atD s.brm.nbr n.val {} = s.brm.nbr[n] := atD_lt _ _ _
  unfold brmCtrlWrite
  rw [hsel, hfield, hbit]
  dsimp only
  rw [hnb, hon, hst, hpend]
  rfl

theorem brmCtrlWrite_refuses {n : Fin 64} {s : State} (hsel : s.brm.nbrSel = n.val) (hst : s.brm.nbr[n].st ≠ .admitted) :
    brmCtrlWrite (put 0 6 s.brm.nbrSel + putB 6 true) s = (.notInState, s) := by
  obtain ⟨hfield, hbit⟩ := refreshWord n
  have hnb : atD s.brm.nbr n.val {} = s.brm.nbr[n] := atD_lt _ _ _
  unfold brmCtrlWrite
  rw [hsel, hfield, hbit]
  dsimp only
  rw [hnb, if_neg (by decide), if_pos ?_]
  rw [beq_eq_false_iff_ne.mpr hst, Bool.and_false]
  rfl

theorem State.brmDo_nbr (f : BX → BX) (s : State) {n : Nat} (h : n < 65) : (s.brmDo f).brm.nbr[n] = (f s.bctx).nb n :=
  (congrArg (fun b : Bramble => b.nbr[n]) (State.brmDo_brm f s)).trans ((f s.bctx).nb_lt h)

/-- A frame in flight is answered, refused, or late (R344, R345). -/
theorem flight_ends {s : State} {n : Nat} (hn : n < 65) {f : BrmTx} {ref : Nat} (hcur : s.brm.nbr[n].cur = some f) (hq : s.brm.nbr[n].queue = [])
    (hroute : f.route = []) :
    (crc32c (f.sent.take (f.sent.length - 4)) % 256 = ref →
      (s.brmDo (brmAck n ref)).brm.nbr[n] = { s.brm.nbr[n].near s.mono with cur := none, errs := 0 }) ∧
    (crc32c (f.sent.take (f.sent.length - 4)) % 128 = ref % 128 → bitOf 7 ref = true → f.cls = .telemetry → 2 ≤ f.tries →
      (s.brmDo (brmNack n ref)).brm.nbr[n] = { s.brm.nbr[n].near s.mono with cur := none } ∧
        (s.brmDo (brmNack n ref)).brm.eNoise = satInc 8 s.brm.eNoise ∧ (s.brmDo (brmNack n ref)).brm.eDrop = satInc 8 s.brm.eDrop) ∧
    (∀ k, s.siteKey = some k → crc32c (f.sent.take (f.sent.length - 4)) % 128 = ref % 128 → f.tries < maxTries f.cls →
      s.brm.nbr[n].pend = false → ∃ g, (s.brmDo (brmNack n ref)).brm.nbr[n].cur = some g ∧ f.Again g ∧
        ∃ j < (slotWindow f.cls).2, g.sentAt = max s.mono s.brm.idleAt + 1152 + 576 * ((slotWindow f.cls).1 + j)) ∧
    (f.sentAt + f.dur + 5760 ≤ s.mono → f.cls = .control → 5 ≤ f.tries → s.brm.nbr[n].st = .admitted →
      (s.brmDo (brmAckTimeout n)).brm.nbr[n] = { s.brm.nbr[n] with st := .unreachable, cur := none, errs := satInc 8 s.brm.nbr[n].errs } ∧
        Sends (.brm (.lost s.brm.nbr[n].addr)) s (s.brmDo (brmAckTimeout n))) := by
  have hnb : s.brm.nbr[n] = s.bctx.nb n := s.bctx.nb_lt hn
  rw [hnb] at hcur hq ⊢
  refine ⟨fun href => ?_, fun href hnoise hcls htries => ?_, fun k hk href htries hpend => ?_, fun hlate hcls htries hst => ?_⟩
  · exact (State.brmDo_nbr _ s hn).trans (brmAck_nb hcur hq hroute hn href)
  · obtain ⟨h1, h2, h3⟩ := brmNack_last hcur hq hroute hn href hnoise hcls htries
    exact ⟨(State.brmDo_nbr _ s hn).trans h1, (congrArg Bramble.eNoise (State.brmDo_brm _ s)).trans h2,
      (congrArg Bramble.eDrop (State.brmDo_brm _ s)).trans h3⟩
  · obtain ⟨g, h1, h2, h3⟩ := brmNack_again hcur hroute hn hk href htries hpend
    obtain ⟨j, hj, hslot⟩ := (brmNear n s.bctx).contendAt_slot f.cls
    exact ⟨g, (congrArg BrmNbr.cur (State.brmDo_nbr _ s hn)).trans h1, h2, j, hj, h3.trans hslot⟩
  · have hdone := brmAckTimeout_last hcur hq hroute hn hlate hcls htries hst
    refine ⟨(State.brmDo_nbr _ s hn).trans ?_, State.brmDo_sends _ ?_ (fun _ => rfl)⟩
    · rw [hdone]
      exact s.bctx.nb_setNb _ hn
    · rw [hdone]
      exact List.mem_append_right _ (List.mem_singleton.mpr rfl)

/-- A refresh that is due starts, and one that draws no map ends (R342). -/
theorem refresh_runs {s : State} {n : Nat} (hn : n < 65) :
    (∀ k, s.siteKey = some k → s.brm.nbr[n].cur = none → s.brm.nbr[n].queue = [] →
      ∃ f, (s.brmDo (refreshStart n)).brm.nbr[n].cur = some f ∧ (s.brmDo (refreshStart n)).brm.nbr[n].pend = true ∧
        (s.brmDo (refreshStart n)).brm.nbr[n].pendAt = s.mono ∧ f.ftype = 0x04 ∧ f.tries = 1) ∧
    (s.brm.nbr[n].pend = true → s.brm.nbr[n].pendAt + 400000 ≤ s.mono →
      (s.brmDo (tmrTimeout n)).brm.nbr[n].pend = false ∧ (s.brmDo (tmrTimeout n)).brm.nbr[n].tx = none ∧
        (s.brmDo (tmrTimeout n)).brm.nbr[n].retryAt = some (s.mono + 10000000)) := by
  rw [State.brmDo_nbr _ s hn, State.brmDo_nbr _ s hn, show s.brm.nbr[n] = s.bctx.nb n from s.bctx.nb_lt hn]
  exact ⟨fun k hk hcur hq => refreshStart_nb hk hn hcur hq, fun hpend hlate => tmrTimeout_nb hn hpend hlate⟩

theorem partner_falls_silent {s : State} (hon : s.brmOn = true) {n t : Nat} (hn : n < 65) (ht : s.brm.nbr[n].heardAt = some t)
    (hlate : t + (s.cfg.brmGlobal.getD {}).lostN * (s.cfg.brmGlobal.getD {}).bcnP * 1000000 ≤ s.mono) (hst : s.brm.nbr[n].st = .admitted) :
    (s.brmDo (brmLostTimeout n)).brm.nbr[n].st = .lost ∧ (s.brmDo (brmLostTimeout n)).brm.nbr[n].queue = [] ∧
      (s.brmDo (brmLostTimeout n)).told .bramblePartnerLost := by
  have hnb : s.brm.nbr[n] = s.bctx.nb n := s.bctx.nb_lt hn
  rw [hnb] at ht hst
  obtain ⟨h1, h2, h3⟩ := brmLostTimeout_nb hn ht hlate hst
  rw [State.brmDo_nbr _ s hn]
  exact ⟨h1, h2, State.brmDo_told _ (State.up_of_brmOn hon) h3 (fun u hu => State.raise_told _ u hu)⟩

/-- Settles O43: each answer to a frame in flight, each timer and each crossing does what its rule says; a new frame goes out in a slot of
its class (`brmSend_goes`, `brmAttempt_key`). -/
theorem brambleSends : Obligations.BrambleSends := by
  unfold Obligations.BrambleSends
  intro s
  refine ⟨fun hon => ⟨fun n f ref hcur hq hroute => ?_, fun hl t0 ht h1 h2 => ?_, fun hl t0 ht => ⟨fun h1 h2 h3 => ?_, fun h1 h2 h3 => ?_⟩,
    fun n k hk hcur hq hdue => ?_, fun n hpend hlate => ?_, fun k hk => ?_, fun n t0 ht hlate hst => ?_⟩, fun n hready hsel => ⟨?_, ?_⟩⟩
  · obtain ⟨hack, hlast, hagain, htimeout⟩ := flight_ends n.isLt (ref := ref) hcur hq hroute
    refine ⟨fun h => ?_, fun h1 h2 h3 h4 => ?_, fun k hk h1 h2 h3 => ?_, fun h1 h2 h3 h4 => ?_⟩
    · exact ⟨_, State.onBramble_exec hon _, hack h⟩
    · exact ⟨_, State.onBramble_exec hon _, hlast h1 h2 h3 h4⟩
    · obtain ⟨g, hg, again, j, hj, hat⟩ := hagain k hk h1 h2 h3
      exact ⟨_, g, State.onBramble_exec hon _, hg, again.tries, again.seq, again.body, j, hj, hat⟩
    · obtain ⟨hnb, hlost⟩ := htimeout h1 h2 h3 h4
      exact ⟨_, State.onBramble_exec hon _, (congrArg BrmNbr.st hnb).trans rfl, (congrArg BrmNbr.cur hnb).trans rfl,
        (congrArg BrmNbr.errs hnb).trans rfl, hlost⟩
  · exact ⟨_, State.onBramble_exec hon zeroCrossing, (congrArg Bramble.zc (State.brmDo_brm _ s)).trans ((zeroCrossing_zc s.bctx ht).1 hl h1 h2)⟩
  · exact ⟨_, State.onBramble_exec hon zeroCrossing, (congrArg Bramble.zc (State.brmDo_brm _ s)).trans ((zeroCrossing_zc s.bctx ht).2.1 hl h1 h2 h3)⟩
  · exact ⟨_, State.onBramble_exec hon zeroCrossing, (congrArg Bramble.zc (State.brmDo_brm _ s)).trans ((zeroCrossing_zc s.bctx ht).2.2 hl h1 h2 h3)⟩
  · obtain ⟨f, hf⟩ := (refresh_runs (Nat.lt_succ_of_lt n.isLt)).1 k hk hcur hq
    exact ⟨_, f, (congrArg Host.Outcome.next (State.onlyIf_of hdue _ s)).trans (State.onBramble_exec hon _), hf⟩
  · exact ⟨_, State.onBramble_exec hon _, (refresh_runs (Nat.lt_succ_of_lt n.isLt)).2 hpend hlate⟩
  · obtain ⟨f, hbcast, hseq, hsent, hout, hown, hcost, hparent, hat⟩ := beaconSend_bcast (x := s.bctx) hk
    obtain ⟨j, hj, hslot⟩ := s.bctx.contendAt_slot .telemetry
    exact ⟨_, f, State.onBramble_exec hon _, (congrArg Bramble.bcast (State.brmDo_brm _ s)).trans hbcast,
      (congrArg Bramble.bcnSeq (State.brmDo_brm _ s)).trans hseq, hsent, State.brmDo_sends _ hout (fun _ => rfl), hown, hcost, hparent, j, hj,
      hat.trans hslot⟩
  · exact ⟨_, State.onBramble_exec hon _, partner_falls_silent hon (Nat.lt_succ_of_lt n.isLt) ht hlate hst⟩
  · intro hon hst hpend
    obtain ⟨k, hk⟩ := State.hostWrite_done 0xA000 (put 0 6 s.brm.nbrSel + putB 6 true) _ _ s _ hready (by decide) pageOf_brmCtrl
      (congrArg some (brmCtrlWrite_refreshes hsel hon hst hpend))
    obtain ⟨h1, h2⟩ := refreshStart_pend { s with brm := { s.brm with nbrSel := n.val } }.bctx (Nat.lt_succ_of_lt n.isLt)
    have hnb := State.brmDo_nbr (refreshStart n) { s with brm := { s.brm with nbrSel := n.val } } (Nat.lt_succ_of_lt n.isLt)
    exact ⟨_, hk, (congrArg BrmNbr.pend hnb).trans h1, (congrArg BrmNbr.pendAt hnb).trans h2, State.answered_append ..⟩
  · intro hst
    exact ⟨_, State.hostWrite_refusal 0xA000 (put 0 6 s.brm.nbrSel + putB 6 true) _ _ s .notInState hready (by decide) pageOf_brmCtrl (by decide)
      (congrArg some (brmCtrlWrite_refuses hsel hst)), State.judged_brm .., State.answered_emit ..⟩

end Sys2Proof.Machine
end

section
/-! ## Admission, and what a partner takes from the controller (O42: `BrambleAdmits`) -/

namespace Sys2Proof.Machine

/-! ### A frame that is taken (Table 12.6) -/

/-- Where a judgement takes the frame, `x` has heard it. -/
def BX.Takes (x : BX) (r : BX × Option BrmIn) : Prop := r.2.isSome = true → x.Hears r.1

theorem BX.takes_ite {x : BX} {c : Prop} [Decidable c] {a b : BX × Option BrmIn} (ha : x.Takes a) (hb : x.Takes b) :
    x.Takes (if c then a else b) := by
  split
  · exact ha
  · exact hb

theorem BX.takes_none (x y : BX) : x.Takes (y, none) := fun h => absurd h Bool.false_ne_true

theorem BX.takes_some {x y : BX} (h : x.Hears y) (i : BrmIn) : x.Takes (y, some i) := fun _ => h

/-- A frame that is taken changes what has been heard, and may be acknowledged. -/
theorem brmJudge_takes (bs : List Byte) (x : BX) : x.Takes (brmJudge bs x) := by
  have ack (y : BX) (h : x.Hears y) : x.Hears (brmHear (leAt bs 2 1) (leAt bs 4 1)
      (if bitOf 2 (leAt bs 1 1) then brmReply 1 (leAt bs (bs.length - 4) 1) y else y)) := by
    refine h.trans (BX.Hears.trans ?_ (brmHear_hears _ _ _))
    split
    · exact brmReply_hears ..
    · exact .refl y
  unfold brmJudge
  refine BX.takes_ite (BX.takes_none x _) (BX.takes_ite (BX.takes_none x _) (BX.takes_ite (BX.takes_none x _) ?_))
  refine BX.takes_ite (BX.takes_none x _) (BX.takes_ite (BX.takes_none x _) (BX.takes_ite ?_ (BX.takes_ite (BX.takes_ite ?_ ?_) ?_)))
  · refine BX.takes_ite (BX.takes_none x _) (BX.takes_ite (BX.takes_none x _) (BX.takes_some (ack _ ?_) _))
    exact x.hears_mod (fun _ => rfl)
  · exact BX.takes_some (ack x (.refl x)) _
  · exact BX.takes_none x _
  · split
    · exact BX.takes_some (ack x (.refl x)) _
    · refine BX.takes_ite (BX.takes_none x _) (BX.takes_ite (BX.takes_none x _) (BX.takes_some (ack _ ?_) _))
      exact x.hears_setNb _ (fun _ => rfl)

/-! ### Who is admitted (R20, R349) -/

section
variable {a b : BrmNbr} (h : a.core = b.core)
include h

/-- Hearing leaves who is here, who is nobody, and who is lost. -/
theorem BrmNbr.st_of_core : (a.st == .admitted || a.st == .unreachable) = (b.st == .admitted || b.st == .unreachable) ∧
    (a.st == .empty) = (b.st == .empty) ∧ (a.st == .lost) = (b.st == .lost) := by
  have hst : (if a.st = .unreachable then .admitted else a.st) = (if b.st = .unreachable then .admitted else b.st) := congrArg BrmNbr.st h
  revert hst
  cases a.st <;> cases b.st <;> decide

theorem BrmNbr.addr_of_core : a.addr = b.addr := (congrArg BrmNbr.addr h :)

theorem BrmNbr.kind_of_core : a.kind = b.kind := (congrArg BrmNbr.kind h :)

end

/-- Two tables of neighbours that differ in what hearing changes. -/
def BX.Alike (x y : BX) : Prop := x.b.nbr.map BrmNbr.core = y.b.nbr.map BrmNbr.core

theorem BX.Hears.alike {x y : BX} (h : x.Hears y) : y.Alike x := congrArg Bramble.nbr h.core

theorem BX.Alike.nb {x y : BX} (h : x.Alike y) (n : Nat) : (x.nb n).core = (y.nb n).core := by
  have view (z : BX) : (z.nb n).core = atD (z.b.nbr.map BrmNbr.core) n {} := by
    unfold BX.nb atD
    split
    · exact (Vector.getElem_map ..).symm
    · rfl
  rw [view, view, show x.b.nbr.map BrmNbr.core = y.b.nbr.map BrmNbr.core from h]

/-- What is chosen of two lists that are alike is alike. -/
theorem filter_map_core {l m : List BrmNbr} (h : l.map BrmNbr.core = m.map BrmNbr.core) {p : BrmNbr → Bool}
    (hp : ∀ a b : BrmNbr, a.core = b.core → p a = p b) : (l.filter p).map BrmNbr.core = (m.filter p).map BrmNbr.core := by
  induction l generalizing m with
  | nil =>
    obtain rfl : m = [] := List.map_eq_nil_iff.mp h.symm
    rfl
  | cons a l ih =>
    obtain _ | ⟨b, m⟩ := m
    · exact absurd h (by simp)
    · obtain ⟨hab, hlm⟩ := List.cons.inj h
      rw [List.filter_cons, List.filter_cons, hp a b hab]
      split
      · rw [List.map_cons, List.map_cons, hab, ih hlm]
      · exact ih hlm

theorem brmAdmit_of_alike {x y : BX} (h : x.Alike y) (hparts : x.parts = y.parts) (addr kind : Nat) :
    brmAdmit addr kind x = brmAdmit addr kind y := by
  have hlist : x.b.nbr.toList.map BrmNbr.core = y.b.nbr.toList.map BrmNbr.core := by
    rw [← Vector.toList_map, ← Vector.toList_map, show x.b.nbr.map BrmNbr.core = y.b.nbr.map BrmNbr.core from h]
  have hothers := filter_map_core hlist (p := fun n => (n.st == .admitted || n.st == .unreachable) && n.addr ≠ addr)
    (fun a b hab => by rw [(BrmNbr.st_of_core hab).1, BrmNbr.addr_of_core hab])
  have hlen {l m : List BrmNbr} (hlm : l.map BrmNbr.core = m.map BrmNbr.core) : l.length = m.length := by
    rw [← List.length_map (f := BrmNbr.core), hlm, List.length_map]
  have hwild (q : BrmNbr → Bool) (hq : ∀ a b : BrmNbr, a.core = b.core → q a = q b) := hlen (filter_map_core hothers hq)
  unfold brmAdmit
  rw [hparts]
  dsimp only
  split
  · rw [hlen hothers]
  · split
    · rw [hlen hothers, hwild]
      exact fun a b hab => by rw [BrmNbr.kind_of_core hab, BrmNbr.addr_of_core hab]
    · rfl

theorem brmEntry_of_alike {x y : BX} (h : x.Alike y) (addr : Nat) : brmEntry addr x = brmEntry addr y := by
  have hst (n : Nat) := BrmNbr.st_of_core (h.nb n)
  have hadr (n : Nat) := BrmNbr.addr_of_core (h.nb n)
  have hany (n : Nat) : (x.nb n).st ≠ .empty ↔ (y.nb n).st ≠ .empty := by
    rw [← bne_iff_ne, ← bne_iff_ne, bne, bne, (hst n).2.1]
  unfold brmEntry
  simp only [hany, hadr, (hst _).2.1, (hst _).2.2]

/-! ### JOIN (R348, R349) -/

/-- Bramble has taken a JOIN with the body `d`. -/
def BX.joining (d : List Byte) (x : BX) : BX :=
  x.mod (setRemote (leAt d 0 6) (fun r => { r with nonce := leAt d 7 4 }) { addr := leAt d 0 6, kind := leAt d 6 1 })

/-- The body of a JOIN_ACK. -/
def joinAckBody (d : List Byte) (res short sid : Nat) : List Byte :=
  leBytes 6 (leAt d 0 6) ++ leBytes 4 (leAt d 7 4) ++ leBytes 1 res ++ leBytes 1 short ++ leBytes 4 sid

/-- The result of a JOIN (R349). -/
def BX.joinRes (d : List Byte) (x : BX) : Nat :=
  if leAt d 11 1 ≠ 1 then 3 else if brmAdmit (leAt d 0 6) (leAt d 6 1) x ≠ 0 then brmAdmit (leAt d 0 6) (leAt d 6 1) x
  else if 0xFFFF ≤ x.b.admNo then 4 else 0

/-- The session of the next partner that is admitted. -/
def BX.nextSid (x : BX) : Nat := (x.epoch % 65536) * 65536 + (x.b.admNo + 1)

/-- The partner has entry `n` (R349). -/
def BX.admitted (n : Nat) (d : List Byte) (x : BX) : BX :=
  ((x.mod (fun b => { b with admNo := b.admNo + 1, fbOnly := b.fbOnly.filter (· ≠ leAt d 0 6) })).setNb n (fun b =>
    { addr := leAt d 0 6, kind := leAt d 6 1, st := .admitted, phase := b.phase, sid := x.nextSid, heardAt := some x.now,
      linkAt := b.linkAt, tmrAt := x.now })).put (.ev .partnerAdmitted)

theorem BX.joining_nbr (d : List Byte) (x : BX) : (x.joining d).b.nbr = x.b.nbr ∧ (x.joining d).b.admNo = x.b.admNo ∧
    (x.joining d).b.zc = x.b.zc ∧ (x.joining d).b.idleAt = x.b.idleAt := by
  unfold BX.joining BX.mod setRemote
  dsimp only
  split <;> exact ⟨rfl, rfl, rfl, rfl⟩

section
variable {x y : BX} {bs d : List Byte} {src : Nat} {nb : Option Nat} (hjudge : brmJudge bs x = (y, some ⟨src, nb, d⟩)) (hty : leAt bs 0 1 = 0x02)
  (hver : leAt d 11 1 = 1)
include hjudge hty hver

theorem brmJoin_admits {n : Nat} (hadmit : brmAdmit (leAt d 0 6) (leAt d 6 1) (y.joining d) = 0) (hno : (y.joining d).b.admNo < 0xFFFF)
    (hentry : brmEntry (leAt d 0 6) (y.joining d) = some n) :
    brmJoin bs x = brmSend n 0x03 .control none (joinAckBody d 0 (shortOf n) (y.joining d).nextSid) ((y.joining d).admitted n d) := by
  have hres : (y.joining d).joinRes d = 0 := by
    unfold BX.joinRes
    rw [if_neg (not_not_intro hver), if_neg (not_not_intro hadmit), if_neg (Nat.not_le.mpr hno)]
  unfold brmJoin
  rw [hjudge]
  dsimp only
  rw [if_neg (not_not_intro hty)]
  refine (if_neg (not_not_intro hres)).trans ?_
  have hsend : brmSend n 0x03 .control none (joinAckBody d ((y.joining d).joinRes d) (shortOf n) (y.joining d).nextSid)
      ((y.joining d).admitted n d) = brmSend n 0x03 .control none (joinAckBody d 0 (shortOf n) (y.joining d).nextSid) ((y.joining d).admitted n d) := by
    rw [hres]
  rw [show brmEntry (leAt d 0 6) (y.mod (setRemote (leAt d 0 6) (fun r => { r with nonce := leAt d 7 4 }) { addr := leAt d 0 6, kind := leAt d 6 1 })) =
    some n from hentry]
  exact hsend

theorem brmJoin_refuses (hadmit : brmAdmit (leAt d 0 6) (leAt d 6 1) (y.joining d) = 1) :
    brmJoin bs x = brmSend 64 0x03 .control none (joinAckBody d 1 0xFE 0) (y.joining d) := by
  have hres : (y.joining d).joinRes d = 1 := by
    unfold BX.joinRes
    rw [if_neg (not_not_intro hver), if_pos (by rw [hadmit]; decide), hadmit]
  unfold brmJoin
  rw [hjudge]
  dsimp only
  rw [if_neg (not_not_intro hty)]
  refine (if_pos (show (y.joining d).joinRes d ≠ 0 by rw [hres]; decide)).trans ?_
  have hsend : brmSend 64 0x03 .control none (joinAckBody d ((y.joining d).joinRes d) 0xFE 0)
      (if (y.joining d).joinRes d = 2 then (y.joining d).put (.ev .partnerRefused) else y.joining d) =
      brmSend 64 0x03 .control none (joinAckBody d 1 0xFE 0) (y.joining d) := by
    rw [hres, if_neg (by decide)]
  exact hsend

end

theorem BX.robust_of_eq {x y : BX} (hzc : y.b.zc = x.b.zc) (hg : y.g = x.g) (pay : List Byte) (start : Nat) :
    y.robust pay start = x.robust pay start := by
  unfold BX.robust BX.zcd
  rw [hzc, hg]

/-- Bramble after a JOIN that is judged: the rest is as it was. -/
theorem BX.Hears.joining {x y : BX} (h : x.Hears y) (d : List Byte) :
    (y.joining d).Alike x ∧ (y.joining d).b.zc = x.b.zc ∧ (y.joining d).b.admNo = x.b.admNo := by
  obtain ⟨hnbr, hno, hzc, -⟩ := y.joining_nbr d
  exact ⟨(congrArg (fun v : Vector BrmNbr 65 => v.map BrmNbr.core) hnbr).trans h.alike, hzc.trans (congrArg Bramble.zc h.core :),
    hno.trans (congrArg Bramble.admNo h.core :)⟩

section
variable {s : State} {bs : List Byte} {i : BrmIn} {k : Nat} (hon : s.brmOn = true) (hj : (brmJudge bs s.bctx).2 = some i)
  (hty : leAt bs 0 1 = 0x02) (hk : s.siteKey = some k) (hver : leAt i.body 11 1 = 1)
include hon hj hty hk hver

theorem join_admits (n : Fin 64) (hadmit : brmAdmit (leAt i.body 0 6) (leAt i.body 6 1) s.bctx = 0) (hno : s.brm.admNo < 0xFFFF)
    (hentry : brmEntry (leAt i.body 0 6) s.bctx = some n.val) :
    ∃ t f, exec (.join bs) s = .next t ∧ t.brm.nbr[n].cur = some f ∧ t.brm.admNo = s.brm.admNo + 1 ∧ t.brm.nbr[n].st = .admitted ∧
      t.brm.nbr[n].addr = leAt i.body 0 6 ∧ t.brm.nbr[n].kind = leAt i.body 6 1 ∧
      t.brm.nbr[n].sid = (s.mb.epoch % 65536) * 65536 + (s.brm.admNo + 1) ∧ t.brm.nbr[n].txSeq = 1 ∧
      t.brm.nbr[n].heardAt = some s.mono ∧ t.told .partnerAdmitted ∧ f.tries = 1 ∧ f.cls = .control ∧
      f.sent = brmPayload k 0x03 .control true [] 0 0xFD 0 0xFD t.brm.nbr[n].sid 0 (joinAckBody i.body 0 (n.val + 1) t.brm.nbr[n].sid) ∧
      Sends (.brm (.frame (s.bctx.robust f.sent f.sentAt) f.sentAt)) s t := by
  obtain ⟨src, nb, d⟩ := i
  obtain ⟨y, hy⟩ : ∃ y, (brmJudge bs s.bctx).1 = y := ⟨_, rfl⟩
  have hears : s.bctx.Hears y := hy ▸ brmJudge_takes bs s.bctx (by rw [hj]; rfl)
  have hjudge : brmJudge bs s.bctx = (y, some ⟨src, nb, d⟩) := Prod.ext hy hj
  obtain ⟨halike, hzc, hadmNo⟩ := hears.joining d
  have hn : n.val < 65 := Nat.lt_succ_of_lt n.isLt
  have hjoin := brmJoin_admits hjudge hty hver ((brmAdmit_of_alike halike hears.parts _ _).trans hadmit) (hadmNo ▸ hno)
    ((brmEntry_of_alike halike _).trans hentry)
  have hsid : (y.joining d).nextSid = (s.mb.epoch % 65536) * 65536 + (s.brm.admNo + 1) := by
    unfold BX.nextSid
    rw [hadmNo, show (y.joining d).epoch = s.mb.epoch from hears.epoch]
    rfl
  obtain ⟨z, hz⟩ : ∃ z, (y.joining d).admitted n.val d = z := ⟨_, rfl⟩
  have hznb : z.nb n.val = {
      addr := leAt d 0 6, kind := leAt d 6 1, st := .admitted, phase := ((y.joining d).nb n.val).phase, sid := (y.joining d).nextSid,
      heardAt := some y.now, linkAt := ((y.joining d).nb n.val).linkAt, tmrAt := y.now } := by
    rw [← hz]
    exact BX.nb_setNb _ _ hn
  rw [hz] at hjoin
  obtain ⟨g, fr, idle, hgo, htries, -, hcls, -, hsent⟩ := brmSend_goes (x := z) (k := k) (by rw [← hz]; exact hears.key.trans hk) hn
    (by rw [hznb]) (by rw [hznb]) (ftype := 0x03) (.inl (by rw [hznb])) .control (joinAckBody d 0 (shortOf n.val) (y.joining d).nextSid)
  obtain ⟨hpay, hfr⟩ := hsent rfl
  have hnb : (s.brmDo (brmJoin bs)).brm.nbr[n] = { z.nb n.val with queue := [], txSeq := ((z.nb n.val).txSeq + 1) % 65536, cur := some g } := by
    refine (State.brmDo_nbr _ s hn).trans ?_
    rw [hjoin, hgo, BX.flying_nb _ _ _ _ hn, z.nb_setNb _ hn]
  rw [hznb] at hnb hpay
  have hsidt : (s.brmDo (brmJoin bs)).brm.nbr[n].sid = (y.joining d).nextSid := (congrArg BrmNbr.sid hnb :)
  have hout : (brmJoin bs s.bctx).out = z.out ++ [.frame fr g.sentAt] := by
    rw [hjoin, hgo]
    rfl
  have hrobust : fr = s.bctx.robust g.sent g.sentAt := by
    rw [hfr]
    exact BX.robust_of_eq (by rw [← hz]; exact hzc) (by rw [← hz]; exact hears.g) _ _
  refine ⟨_, g, State.onBramble_exec hon _, (congrArg BrmNbr.cur hnb :), ?_, (congrArg BrmNbr.st hnb :), (congrArg BrmNbr.addr hnb :),
    (congrArg BrmNbr.kind hnb :), hsidt.trans hsid, (congrArg BrmNbr.txSeq hnb :), ?_, ?_, htries, hcls, ?_, ?_⟩
  · refine (congrArg Bramble.admNo (State.brmDo_brm _ s)).trans ?_
    rw [hjoin, hgo, ← hz]
    exact congrArg (· + 1) hadmNo
  · exact (congrArg BrmNbr.heardAt hnb).trans (congrArg some hears.now)
  · refine State.brmDo_told _ (State.up_of_brmOn hon) ?_ (fun u hu => State.raise_told .partnerAdmitted u hu)
    rw [hout, ← hz]
    exact List.mem_append_left _ (List.mem_append_right _ (List.mem_singleton.mpr rfl))
  · rw [hsidt]
    exact hpay
  · refine State.brmDo_sends _ ?_ (fun _ => rfl)
    rw [hout, ← hrobust]
    exact List.mem_append_right _ (List.mem_singleton.mpr rfl)

theorem join_refuses (hadmit : brmAdmit (leAt i.body 0 6) (leAt i.body 6 1) s.bctx = 1) (hcur : s.brm.nbr[(64 : Fin 65)].cur = none)
    (hq : s.brm.nbr[(64 : Fin 65)].queue = []) (hpend : s.brm.nbr[(64 : Fin 65)].pend = false) :
    ∃ t f, exec (.join bs) s = .next t ∧ t.brm.nbr[(64 : Fin 65)].cur = some f ∧ t.brm.admNo = s.brm.admNo ∧
      (∀ n : Fin 64, t.brm.nbr[n].sid = s.brm.nbr[n].sid ∧ t.brm.nbr[n].addr = s.brm.nbr[n].addr) ∧ f.tries = 1 ∧ f.cls = .control ∧
      f.sent = brmPayload k 0x03 .control true [] 0 0xFD 0 0xFD s.brm.nbr[(64 : Fin 65)].sid s.brm.nbr[(64 : Fin 65)].txSeq
        (joinAckBody i.body 1 0xFE 0) ∧
      Sends (.brm (.frame (s.bctx.robust f.sent f.sentAt) f.sentAt)) s t := by
  obtain ⟨src, nb, d⟩ := i
  obtain ⟨y, hy⟩ : ∃ y, (brmJudge bs s.bctx).1 = y := ⟨_, rfl⟩
  have hears : s.bctx.Hears y := hy ▸ brmJudge_takes bs s.bctx (by rw [hj]; rfl)
  have hjudge : brmJudge bs s.bctx = (y, some ⟨src, nb, d⟩) := Prod.ext hy hj
  obtain ⟨halike, hzc, hadmNo⟩ := hears.joining d
  have hjoin := brmJoin_refuses hjudge hty hver ((brmAdmit_of_alike halike hears.parts _ _).trans hadmit)
  obtain ⟨z, hz⟩ : ∃ z, y.joining d = z := ⟨_, rfl⟩
  rw [hz] at hjoin halike hzc hadmNo
  have hcore : (z.nb 64).core = s.brm.nbr[(64 : Fin 65)].core := halike.nb 64
  obtain ⟨g, fr, idle, hgo, htries, -, hcls, -, hsent⟩ := brmSend_goes (x := z) (k := k) (by rw [← hz]; exact hears.key.trans hk)
    (show 64 < 65 by decide) ((congrArg BrmNbr.cur hcore :).trans hcur) ((congrArg BrmNbr.queue hcore :).trans hq) (ftype := 0x03)
    (.inl ((congrArg BrmNbr.pend hcore :).trans hpend)) .control (joinAckBody d 1 0xFE 0)
  obtain ⟨hpay, hfr⟩ := hsent rfl
  have hout : (brmJoin bs s.bctx).out = z.out ++ [.frame fr g.sentAt] := by
    rw [hjoin, hgo]
    rfl
  have hrobust : fr = s.bctx.robust g.sent g.sentAt := by
    rw [hfr]
    exact BX.robust_of_eq hzc (by rw [← hz]; exact hears.g) _ _
  have hsid : (z.nb 64).sid = s.brm.nbr[(64 : Fin 65)].sid := (congrArg BrmNbr.sid hcore :)
  have hseq : (z.nb 64).txSeq = s.brm.nbr[(64 : Fin 65)].txSeq := (congrArg BrmNbr.txSeq hcore :)
  have hother (n : Fin 64) : (s.brmDo (brmJoin bs)).brm.nbr[n] = z.nb n.val := by
    refine (State.brmDo_nbr _ s (Nat.lt_succ_of_lt n.isLt)).trans ?_
    rw [hjoin, hgo]
    have hne : 64 ≠ n.val := Nat.ne_of_gt n.isLt
    exact (atD_updN_ne _ _ ({} : BrmNbr) hne).trans (atD_updN_ne z.b.nbr _ {} hne)
  refine ⟨_, g, State.onBramble_exec hon _, ?_, ?_, fun n => ?_, htries, hcls, ?_, State.brmDo_sends _ ?_ (fun _ => rfl)⟩
  · refine (congrArg BrmNbr.cur (State.brmDo_nbr _ s (show 64 < 65 by decide))).trans ?_
    rw [hjoin, hgo, BX.flying_nb _ _ _ _ (by decide)]
  · refine (congrArg Bramble.admNo (State.brmDo_brm _ s)).trans ?_
    rw [hjoin, hgo]
    exact hadmNo
  · have hn : (z.nb n.val).core = s.brm.nbr[n].core := (halike.nb n.val).trans (congrArg BrmNbr.core (s.bctx.nb_lt (Nat.lt_succ_of_lt n.isLt)).symm)
    exact ⟨(congrArg BrmNbr.sid (hother n)).trans (congrArg BrmNbr.sid hn :), (congrArg BrmNbr.addr (hother n)).trans (congrArg BrmNbr.addr hn :)⟩
  · rw [hpay, hsid, hseq]
  · rw [hout, ← hrobust]
    exact List.mem_append_right _ (List.mem_singleton.mpr rfl)

end

/-! ### What a partner takes (R348, R359) -/

theorem leAt_drop_take (bs : List Byte) {a n o k : Nat} (h : o + k ≤ n) : leAt ((bs.drop a).take n) o k = leAt bs (a + o) k := by
  unfold leAt
  rw [List.drop_take, List.take_take, List.drop_drop, Nat.min_eq_left (by omega)]

theorem State.onPartner_exec {s : State} (h : s.fuses.variant.bramble = true) (f : BX → BX) :
    (.next (s.onPartner f) : Host.Outcome State Fault Refusal) = .next (s.brmDo f) :=
  congrArg Host.Outcome.next (State.onlyIf_of h _ s)

/-- A partner takes a JOIN_ACK that names it with its last nonce and admits it. -/
def BrmRemote.joined (d : List Byte) (r : BrmRemote) : BrmRemote :=
  if r.addr = leAt d 0 6 ∧ r.nonce = leAt d 6 4 ∧ leAt d 10 1 = 0 then { r with short := leAt d 11 1, sid := some (leAt d 12 4), seq := none }
  else r

theorem brmJoinAck_remote {bs : List Byte} (hlen : bs.length = 44) (hty : leAt bs 0 1 = 0x03) (x : BX) :
    (brmJoinAck bs x).b.remote = x.b.remote.map (BrmRemote.joined ((bs.drop 16).take 16)) := by
  unfold brmJoinAck
  dsimp only
  rw [if_neg (by simp [hlen, hty])]
  rfl

/-- The SET of the bytes `bs` is for this partner, and new. -/
def BrmRemote.takesSet (bs : List Byte) (r : BrmRemote) : Bool :=
  r.short == leAt bs 3 1 && r.sid == some (leAt bs 8 4) && (match r.seq with | some q => newer (leAt bs 12 2) q | none => true)

/-- A partner takes a SET at `now`. -/
def BrmRemote.set (bs : List Byte) (now : Nat) (r : BrmRemote) : BrmRemote :=
  let d := (bs.drop 16).take 8
  if r.takesSet bs then
    { r with seq := some (leAt bs 12 2),
             chans := insertBy (·.1) (leAt d 0 1, leAt d 4 4, leAt d 2 2, now) (r.chans.filter (fun c => c.1 ≠ leAt d 0 1)) }
  else r

theorem brmSet_remote {bs : List Byte} (hlen : bs.length = 36) (hty : leAt bs 0 1 = 0x10) (x : BX) :
    (brmSet bs x).b.remote = x.b.remote.map (BrmRemote.set bs x.now) := by
  unfold brmSet
  dsimp only
  rw [if_neg (by simp [hlen, hty])]
  rfl

theorem BrmRemote.set_chans {bs : List Byte} {r : BrmRemote} (h : r.takesSet bs = true) (now : Nat) :
    (r.set bs now).addr = r.addr ∧ (r.set bs now).seq = some (leAt bs 12 2) ∧
      (leAt bs 16 1, leAt bs 20 4, leAt bs 18 2, now) ∈ (r.set bs now).chans := by
  unfold BrmRemote.set
  dsimp only
  rw [if_pos h]
  refine ⟨rfl, rfl, (mem_insertBy _ _ _ _).mpr (.inl ?_)⟩
  rw [leAt_drop_take bs (by decide), leAt_drop_take bs (by decide), leAt_drop_take bs (by decide)]

/-- Settles O42: the JOIN that is taken is answered with a JOIN_ACK, in the name of the entry that the partner gets (`join_admits`) or of
entry 64 (`join_refuses`); a partner takes what names it. -/
theorem brambleAdmits : Obligations.BrambleAdmits := by
  unfold Obligations.BrambleAdmits
  intro s bs
  refine ⟨fun i k hon hj hty hk hver => ⟨fun n hadmit hno hentry => ?_, fun hadmit hcur hq hpend => ?_⟩, fun hv hlen hty => ?_,
    fun hv hlen hty => ?_⟩
  · exact join_admits hon hj hty hk hver n hadmit hno hentry
  · exact join_refuses hon hj hty hk hver hadmit hcur hq hpend
  · refine ⟨_, State.onPartner_exec hv _, fun r hr => ?_⟩
    have hmem : r.joined ((bs.drop 16).take 16) ∈ (s.brmDo (brmJoinAck bs)).brm.remote := by
      rw [State.brmDo_brm, brmJoinAck_remote hlen hty]
      exact List.mem_map_of_mem hr
    unfold BrmRemote.joined at hmem
    refine ⟨fun h1 h2 h3 => ?_, fun h => ?_⟩
    · rw [if_pos ⟨h1, h2, h3⟩] at hmem
      exact hmem
    · rw [if_neg (fun hc => h.elim (absurd hc.1) (absurd hc.2.1))] at hmem
      exact hmem
  · refine ⟨_, State.onPartner_exec hv _, fun r hr => ?_⟩
    have hmem : r.set bs s.mono ∈ (s.brmDo (brmSet bs)).brm.remote := by
      rw [State.brmDo_brm, brmSet_remote hlen hty]
      exact List.mem_map_of_mem hr
    refine ⟨fun hshort hsid hnew => ⟨_, hmem, BrmRemote.set_chans ?_ s.mono⟩, fun hsid => ?_⟩
    · unfold BrmRemote.takesSet
      rw [hshort, hsid]
      obtain hseq | ⟨q, hseq⟩ := Option.eq_none_or_eq_some r.seq
      · simp [hseq]
      · simp [hseq, hnew q hseq]
    · have hkeeps : r.set bs s.mono = r := by
        unfold BrmRemote.set BrmRemote.takesSet
        simp [hsid]
      rw [hkeeps] at hmem
      exact hmem

end Sys2Proof.Machine
end

section
/-! ## Cuff's protection of a channel (O45: `CuffProtects`) -/

namespace Sys2Proof.Machine

/-! ### The protection check (R365, R374) -/

/-- A channel after a step has measured it: what it shows, and the spans that the protection counts. -/
def CufCh.measured (c : Cuff) (now : Nat) (m : CufMeas) (k : CufCh) : CufCh :=
  let on := cufOn c k
  let i := k.compared m
  let ilim := (k.cfg.map (·.ilimC)).getD 40
  let low := on && decide (i < 1)
  let k := { k with i := i, tj := m.tj, shortSince := since (on && m.lim) now k.shortSince,
                    ocSince := since (on && decide (ilim * 10 < i)) now k.ocSince,
                    lowSince := since low now k.lowSince }
  { k with open_ := heldFor k.lowSince 100000 now || (k.open_ && low) }

/-- The time for which an overcurrent may last (Table 13.6). -/
def CufCh.toc (k : CufCh) : Nat := (k.cfg.map (·.tOc)).getD 10

/-- The first rule that holds puts the channel in FAULT: SHORT, THERMAL, OVERCURRENT (R374). -/
def CufCh.judged (now : Nat) (m : CufMeas) (toc : Nat) (k : CufCh) : CufCh :=
  if heldFor k.shortSince 50 now then cufFault .short now k
  else if 150 < m.tj then cufFault .thermal now k
  else if heldFor k.ocSince (toc * 1000) now then cufFault .overcurrent now k
  else k

theorem CufCh.measured_keeps (c : Cuff) (now : Nat) (m : CufMeas) (k : CufCh) :
    (k.measured c now m).cfg = k.cfg ∧ (k.measured c now m).tj = m.tj ∧ (k.measured c now m).i = k.compared m ∧
      (k.measured c now m).fault = k.fault ∧ (k.measured c now m).faults = k.faults ∧ (k.measured c now m).wait = k.wait ∧
      (k.measured c now m).dutyNow = k.dutyNow :=
  ⟨rfl, rfl, rfl, rfl, rfl, rfl, rfl⟩

/-- The check of a channel whose period has begun or goes on. -/
def CufCh.checked (c : Cuff) (now : Nat) (m : CufMeas) (k : CufCh) : CufCh := (k.measured c now m).judged now m k.toc

theorem cufCheck_eq (c : Cuff) (rate now : Nat) (m : CufMeas) (k : CufCh) :
    cufCheck c rate now m k = (k.begin (c.begins rate now k) m).checked c now m := rfl

theorem CufCh.judged_keeps (now : Nat) (m : CufMeas) (toc : Nat) (k : CufCh) :
    (k.judged now m toc).wait = k.wait ∧ (k.judged now m toc).dutyNow = k.dutyNow := by
  have fault (cause : CufCause) : (cufFault cause now k).wait = k.wait ∧ (cufFault cause now k).dutyNow = k.dutyNow := by
    unfold cufFault
    split <;> exact ⟨rfl, rfl⟩
  unfold CufCh.judged
  split
  · exact fault _
  · split
    · exact fault _
    · split
      · exact fault _
      · exact ⟨rfl, rfl⟩

/-- The start of a period leaves what the protection has counted, and the faults. -/
theorem CufCh.begin_keeps (b : Bool) (m : CufMeas) (k : CufCh) :
    (k.begin b m).fault = k.fault ∧ (k.begin b m).faults = k.faults ∧ (k.begin b m).cfg = k.cfg ∧
      (k.begin b m).shortSince = k.shortSince ∧ (k.begin b m).ocSince = k.ocSince := by
  unfold CufCh.begin
  split <;> exact ⟨rfl, rfl, rfl, rfl, rfl⟩

theorem fault_of_cufOn {c : Cuff} {k : CufCh} (h : cufOn c k = true) : k.fault = false := by
  unfold cufOn at h
  simp only [Bool.and_eq_true, Bool.not_eq_true'] at h
  exact h.1.2

theorem since_off (b : Bool) (now : Nat) (o : Option Nat) : since (false && b) now o = none := rfl

theorem heldFor_some (t d now : Nat) : heldFor (some t) d now = decide (t + d ≤ now) := rfl

theorem heldFor_none (d now : Nat) : heldFor none d now = false := rfl

section
variable {c : Cuff} {now : Nat} {m : CufMeas} {k : CufCh}

/-- Off, and not too hot, a channel meets no rule. -/
theorem CufCh.judged_of_off (hon : cufOn c k = false) (htj : m.tj ≤ 150) :
    k.checked c now m = k.measured c now m := by
  have hshort : (k.measured c now m).shortSince = none := by
    unfold CufCh.measured
    dsimp only
    rw [hon]
    exact since_off ..
  have hoc : (k.measured c now m).ocSince = none := by
    unfold CufCh.measured
    dsimp only
    rw [hon]
    exact since_off ..
  unfold CufCh.checked CufCh.judged
  rw [hshort, hoc, heldFor_none, heldFor_none, if_neg Bool.false_ne_true, if_neg (show ¬ 150 < m.tj by omega), if_neg Bool.false_ne_true]

theorem CufCh.judged_short {t0 : Nat} (hon : cufOn c k = true) (hlim : m.lim = true) (hsince : k.shortSince = some t0) (hlong : t0 + 50 ≤ now) :
    k.checked c now m = cufFault .short now (k.measured c now m) := by
  have hheld : heldFor (k.measured c now m).shortSince 50 now = true := by
    unfold CufCh.measured
    dsimp only
    rw [hon, hlim, hsince]
    exact decide_eq_true hlong
  exact if_pos hheld

theorem CufCh.judged_thermal (hlim : m.lim = false) (htj : 150 < m.tj) :
    k.checked c now m = cufFault .thermal now (k.measured c now m) := by
  have hshort : heldFor (k.measured c now m).shortSince 50 now = false := by
    unfold CufCh.measured
    dsimp only
    rw [hlim, Bool.and_false]
    rfl
  exact (if_neg (by rw [hshort]; exact Bool.false_ne_true)).trans (if_pos htj)

theorem CufCh.judged_overcurrent {r : CufChan} {t0 : Nat} (hon : cufOn c k = true) (hlim : m.lim = false) (htj : m.tj ≤ 150)
    (hcfg : k.cfg = some r) (hover : r.ilimC * 10 < k.compared m) (hsince : k.ocSince = some t0) (hlong : t0 + r.tOc * 1000 ≤ now) :
    k.checked c now m = cufFault .overcurrent now (k.measured c now m) := by
  have hshort : heldFor (k.measured c now m).shortSince 50 now = false := by
    unfold CufCh.measured
    dsimp only
    rw [hlim, Bool.and_false]
    rfl
  have hoc : (k.measured c now m).ocSince = some t0 := by
    unfold CufCh.measured
    dsimp only
    rw [hon, hcfg, hsince]
    dsimp only [Option.map_some, Option.getD_some]
    rw [decide_eq_true hover]
    rfl
  have htoc : k.toc = r.tOc := by
    unfold CufCh.toc
    rw [hcfg]
    rfl
  unfold CufCh.checked CufCh.judged
  rw [hshort, hoc, htoc, heldFor_some, if_neg Bool.false_ne_true, if_neg (show ¬ 150 < m.tj by omega), if_pos (decide_eq_true hlong)]

end

theorem cufFault_new (cause : CufCause) (now : Nat) {k : CufCh} (h : k.fault = false) :
    (cufFault cause now k).fault = true ∧ (cufFault cause now k).cause = cause ∧ (cufFault cause now k).faultAt = now ∧
      (cufFault cause now k).faults = satInc 8 k.faults := by
  unfold cufFault
  rw [if_neg (by rw [h]; exact Bool.false_ne_true)]
  exact ⟨rfl, rfl, rfl, rfl⟩

/-- A check judges each channel on its own. -/
theorem cuffCheck_ch (rate now : Nat) (ms : List CufMeas) (c : Cuff) (n : Fin 16) :
    (cuffCheck rate now ms c).ch[n] = cufCheck c rate now (ms.getD n {}) c.ch[n] :=
  mapIdx_get c.ch (fun n k => cufCheck c rate now (ms.getD n {}) k) n.isLt

theorem cuffCheck_pos (rate now : Nat) (ms : List CufMeas) (c : Cuff) (g : Fin 4) :
    (cuffCheck rate now ms c).pos[g] = (c.pos[g] + rate * (256 * (c.freq[g] * (now - c.posAt)))) % 256000000000 := by
  refine (mapIdx_get c.pos (fun g _ => c.pgAt rate now g % pgParts) g.isLt).trans ?_
  unfold Cuff.pgAt
  rw [atD_val c.pos g, atD_val c.freq g]
  rfl

theorem cuff_checks (s : State) (n : Fin 16) (ms : List CufMeas) (m : CufMeas) (hm : ms.getD n {} = m) :
    let b := s.cuf.begins s.pgRate s.mono s.cuf.ch[n]
    let k := s.cuf.ch[n].begin b m
    (cuffCheck s.pgRate s.mono ms s.cuf).ch[n] = k.checked s.cuf s.mono m := by
  dsimp only
  rw [cuffCheck_ch, hm, cufCheck_eq]

/-! ### Retries (R367) and clamp events (R368) -/

section
variable {c : Cuff} {now : Nat} {n : Fin 16} {r : CufChan} (hcfg : c.ch[n].cfg = some r)
include hcfg

/-- The retries of the 60 s before the instant at which the next one is due. -/
theorem cuffRetry_retries (hfault : c.ch[n].fault = true) (hretry : r.retryN ≠ 0) (hdue : c.ch[n].faultAt + r.retryT * 100000 ≤ now)
    (hfew : (c.ch[n].retryLog.filter (fun t => decide (c.ch[n].faultAt + r.retryT * 100000 < t + 60000000))).length < r.retryN) :
    (cuffRetry now n c).ch[n].fault = false ∧ (cuffRetry now n c).ch[n].wait = true ∧ (cuffRetry now n c).ch[n].cause = .none ∧
      (cuffRetry now n c).ch[n].retries = satInc 8 c.ch[n].retries := by
  unfold cuffRetry
  dsimp only
  rw [Cuff.get_val, hcfg]
  dsimp only
  rw [if_pos ⟨hfault, hretry, hdue, hfew⟩, Cuff.set_same]
  exact ⟨rfl, rfl, rfl, rfl⟩

theorem cuffRetry_waits
    (hmany : r.retryN ≤ (c.ch[n].retryLog.filter (fun t => decide (c.ch[n].faultAt + r.retryT * 100000 < t + 60000000))).length) :
    cuffRetry now n c = c := by
  unfold cuffRetry
  dsimp only
  rw [Cuff.get_val, hcfg]
  dsimp only
  exact if_neg (fun h => Nat.not_lt.mpr hmany h.2.2.2)

end

/-- A channel after a clamp event of `e` mJ, before it is judged. -/
def CufCh.clamped (now e : Nat) (k : CufCh) : CufCh :=
  { k with clamps := ((now, e) :: k.clamps).filter (fun v => now ≤ v.1 + 10000000), last := sat 11 e, events := satInc 8 k.events }

theorem sumN_cons (x : Nat) (xs : List Nat) : sumN (x :: xs) = x + sumN xs := by
  unfold sumN
  rw [← List.sum_eq_foldl, ← List.sum_eq_foldl, List.sum_cons]

/-- The event joins the window sum. -/
theorem cufSum_clamped (now e : Nat) (k : CufCh) : cufSum now (k.clamped now e) = e + cufSum now k := by
  unfold cufSum CufCh.clamped
  dsimp only
  rw [List.filter_filter, List.filter_congr (fun v _ => Bool.and_self _), List.filter_cons_of_pos (by simp)]
  exact sumN_cons _ _

/-- An event above 150 mJ locks the channel. -/
theorem cuffClamp_locks {now e : Nat} {c : Cuff} {n : Fin 16} (hbig : 150 < e) (hlock : c.ch[n].lock = false) :
    cuffClamp now n e c = (c.set n (fun _ => { c.ch[n].clamped now e with
      lock := true, clampOver := true, locks := satInc 8 c.ch[n].locks }), true) := by
  unfold cuffClamp
  rw [Cuff.get_val, decide_eq_true hbig]
  dsimp only
  rw [Bool.or_true, hlock]
  simp only [Bool.or_true, Bool.not_false, Bool.and_self, if_true]
  rfl

/-- A small event that keeps the window sum small leaves the lock as it is. -/
theorem cuffClamp_counts {now e : Nat} {c : Cuff} {n : Fin 16} (hsmall : e ≤ 150) (hsum : e + cufSum now c.ch[n] < 1200) :
    cuffClamp now n e c = (c.set n (fun _ => c.ch[n].clamped now e), false) := by
  have hlow : decide (1200 ≤ cufSum now (c.ch[n].clamped now e)) = false := by
    rw [cufSum_clamped]
    exact decide_eq_false (by omega)
  unfold cuffClamp
  rw [Cuff.get_val, decide_eq_false (Nat.not_lt.mpr hsmall)]
  dsimp only
  rw [show decide (1200 ≤ cufSum now { c.ch[n] with
    clamps := ((now, e) :: c.ch[n].clamps).filter (fun v => now ≤ v.1 + 10000000), last := sat 11 e, events := satInc 8 c.ch[n].events }) = false
    from hlow]
  rfl

theorem State.clampEnd_cuf (n e : Nat) (s : State) : (s.clampEnd n e).cuf = (cuffClamp s.mono n e s.cuf).1 := by
  unfold State.clampEnd
  dsimp only
  split
  · exact (State.raiseAt_cuf ..).trans rfl
  · rfl

theorem cufOn_of_lock (c : Cuff) {k : CufCh} (h : k.lock = true) : cufOn c k = false := by simp [cufOn, h]

/-- What the check leaves of channel `n`. -/
theorem State.cuffCheck_ch {s : State} {n : Fin 16} {ms : List CufMeas} {m : CufMeas} (hm : ms.getD n {} = m) :
    (s.cufMod (cuffCheck s.pgRate s.mono ms)).cuf.ch[n] =
      (s.cuf.ch[n].begin (s.cuf.begins s.pgRate s.mono s.cuf.ch[n]) m).checked s.cuf s.mono m :=
  cuff_checks s n ms m hm

/-- Settles O45: the check of a channel is that of its measured spans (`cufCheck_eq`), of which the first that is too long makes the fault;
retries and clamp events change their channel alone. -/
theorem cuffProtects : Obligations.CuffProtects := by
  unfold Obligations.CuffProtects
  intro s n
  refine ⟨fun ms m hm => ?_, fun r hcfg hfault hretry hdue => ⟨fun hfew => ?_, fun hmany => ?_⟩, fun xs hbig hlock => ?_,
    fun xs e he hsmall hsum => ?_⟩
  · have hch := State.cuffCheck_ch (s := s) hm
    obtain ⟨b, hb⟩ : ∃ b, s.cuf.begins s.pgRate s.mono s.cuf.ch[n] = b := ⟨_, rfl⟩
    obtain ⟨k, hk⟩ : ∃ k, s.cuf.ch[n].begin b m = k := ⟨_, rfl⟩
    obtain ⟨kfault, kfaults, kcfg, kshort, koc⟩ := s.cuf.ch[n].begin_keeps b m
    rw [hb, hk] at hch
    dsimp only
    rw [hb, hk]
    rw [hk] at kfault kfaults kcfg kshort koc
    refine ⟨⟨_, rfl, rfl, fun hbegins => ?_, cuffCheck_pos _ _ _ _⟩, fun hoff htj => ?_, fun t0 hon hlim hsince hlong => ?_,
      fun hfault hlim htj => ?_, fun r t0 hon hlim htj hcfg hover hsince hlong => ?_⟩
    · rw [hch]
      obtain ⟨hwait, hduty⟩ := CufCh.judged_keeps s.mono m k.toc (k.measured s.cuf s.mono m)
      subst hbegins
      exact ⟨hwait.trans (by rw [← hk]; rfl), hduty.trans (by rw [← hk]; rfl)⟩
    · rw [CufCh.judged_of_off hoff htj] at hch
      refine ⟨_, rfl, ?_⟩
      rw [hch]
      exact ⟨kfault, rfl, rfl⟩
    · rw [CufCh.judged_short hon hlim (kshort.trans hsince) hlong] at hch
      obtain ⟨h1, h2, h3, h4⟩ := cufFault_new .short s.mono (k := k.measured s.cuf s.mono m) (fault_of_cufOn hon)
      refine ⟨_, rfl, ?_⟩
      rw [hch]
      exact ⟨h1, h2, h3, h4.trans (congrArg (satInc 8) kfaults), cufOn_of_fault _ h1⟩
    · rw [CufCh.judged_thermal hlim htj] at hch
      obtain ⟨h1, h2, -⟩ := cufFault_new .thermal s.mono (k := k.measured s.cuf s.mono m) (kfault.trans hfault)
      refine ⟨_, rfl, ?_⟩
      rw [hch]
      exact ⟨h1, h2⟩
    · rw [CufCh.judged_overcurrent hon hlim htj (kcfg.trans hcfg) hover (koc.trans hsince) hlong] at hch
      obtain ⟨h1, h2, -⟩ := cufFault_new .overcurrent s.mono (k := k.measured s.cuf s.mono m) (fault_of_cufOn hon)
      refine ⟨_, rfl, ?_⟩
      rw [hch]
      exact ⟨h1, h2⟩
  · exact ⟨_, rfl, cuffRetry_retries hcfg hfault hretry hdue hfew⟩
  · exact congrArg Host.Outcome.next (congrArg (fun c => { s with cuf := c }) (cuffRetry_waits hcfg hmany))
  · have hclamp := cuffClamp_locks (now := s.mono) hbig hlock
    have hcuf := (s.clampEnd_cuf n (clampEnergy xs)).trans (congrArg Prod.fst hclamp)
    refine ⟨_, rfl, ?_⟩
    rw [hcuf, Cuff.set_same]
    refine ⟨rfl, rfl, rfl, rfl, fun hup => ?_, cufOn_of_lock _ rfl⟩
    unfold State.clampEnd
    rw [hclamp]
    exact State.raiseAt_told _ _ _ hup
  · subst he
    have hcuf := (s.clampEnd_cuf n (clampEnergy xs)).trans (congrArg Prod.fst (cuffClamp_counts (now := s.mono) hsmall hsum))
    refine ⟨_, rfl, ?_⟩
    rw [hcuf, Cuff.set_same]
    exact ⟨rfl, cufSum_clamped .., rfl⟩

end Sys2Proof.Machine
end

section
/-! ## Commands to Cuff's channels (O46: `CuffCommandsAct`) -/

namespace Sys2Proof.Machine

/-! ### CUF_CLR (R367, R368) -/

/-- A change of the channels in a mask is done to each of them, and to no other. -/
theorem foldl_set_ch (f : CufCh → CufCh) {l : List Nat} (hl : l.Nodup) (c : Cuff) (n : Fin 16) :
    (l.foldl (fun c k => c.set k f) c).ch[n] = if n.val ∈ l then f c.ch[n] else c.ch[n] := by
  induction l generalizing c with
  | nil => rfl
  | cons k l ih =>
    obtain ⟨hk, hl⟩ := List.nodup_cons.mp hl
    rw [List.foldl_cons, ih hl]
    by_cases hn : n.val = k
    · subst hn
      rw [if_neg hk, if_pos (List.mem_cons_self ..), Cuff.set_same]
    · have hother : (c.set k f).ch[n] = c.ch[n] := updN_ne c.ch f n.isLt (Ne.symm hn)
      rw [hother]
      exact if_congr (by simp [hn]) rfl rfl

theorem bitsOf_nodup (n m : Nat) : (bitsOf n m).Nodup := List.nodup_range.filter _

/-- The bits of a word's low half. -/
theorem mem_bitsOf_low (k : Fin 16) (w : Nat) : k.val ∈ bitsOf 16 (w % 2 ^ 16) ↔ bitOf k w = true := by
  unfold bitsOf
  rw [List.mem_filter, List.mem_range, bitOf_eq_testBit, bitOf_eq_testBit, Nat.testBit_mod_two_pow]
  simp [k.isLt]

/-- What a write of CUF_CLR does to a channel that it names. -/
def CufCh.cleared (k : CufCh) : CufCh :=
  if k.fault || k.lock then { k.anew with fault := false, lock := false, cause := .none, clampOver := false } else k

theorem cuffClr_clears {now w : Nat} {c : Cuff} (h : ∀ k : Fin 16, bitOf k w = true → clrRefused now c.ch[k] = false) :
    cuffClr now (w % 2 ^ 16) c = some ((bitsOf 16 (w % 2 ^ 16)).foldl (fun c k => c.set k CufCh.cleared) c) := by
  have hnone : (bitsOf 16 (w % 2 ^ 16)).any (fun n => clrRefused now (c.get n)) = false := by
    rw [List.any_eq_false]
    intro k hk
    have hlt : k < 16 := List.mem_range.mp (List.mem_filter.mp hk).1
    rw [show c.get k = c.ch[(⟨k, hlt⟩ : Fin 16)] from Cuff.get_val c ⟨k, hlt⟩, h ⟨k, hlt⟩ ((mem_bitsOf_low ⟨k, hlt⟩ w).mp hk)]
    exact Bool.false_ne_true
  unfold cuffClr
  rw [if_neg (by rw [hnone]; exact Bool.false_ne_true)]
  rfl

theorem cuffClr_refuses {now w : Nat} {c : Cuff} {n : Fin 16} (hn : bitOf n w = true) (h : clrRefused now c.ch[n] = true) :
    cuffClr now (w % 2 ^ 16) c = none := by
  refine if_pos (List.any_eq_true.mpr ⟨n.val, (mem_bitsOf_low n w).mpr hn, ?_⟩)
  rw [Cuff.get_val]
  exact h

theorem pageOf_cufClr : pageOf 0x9008 = some (.cuf, 8) := by decide

section
variable {s : State} {n : Fin 16} {w : Word} (hready : s.HostReady 0x9008)
include hready

theorem cufClr_clears (h : ∀ k : Fin 16, bitOf k w.toNat = true → clrRefused s.mono s.cuf.ch[k] = false) :
    ∃ t, exec (.cufClr w) s = .next t ∧ t.answered .ok [] ∧
      (bitOf n w.toNat = true → (s.cuf.ch[n].fault || s.cuf.ch[n].lock) = true →
        t.cuf.ch[n] = { s.cuf.ch[n].anew with fault := false, lock := false, cause := .none, clampOver := false }) ∧
      (bitOf n w.toNat = false → t.cuf.ch[n] = s.cuf.ch[n]) := by
  have hclr : cufClrWrite w.toNat s = (.ok, { s with cuf := (bitsOf 16 (w.toNat % 2 ^ 16)).foldl (fun c k => c.set k CufCh.cleared) s.cuf }) := by
    unfold cufClrWrite
    rw [cuffClr_clears h]
  obtain ⟨k, hk⟩ := State.hostWrite_done 0x9008 w.toNat _ _ s _ hready (by decide) pageOf_cufClr (congrArg some hclr)
  have hch := foldl_set_ch CufCh.cleared (bitsOf_nodup 16 (w.toNat % 2 ^ 16)) s.cuf n
  refine ⟨_, hk, State.answered_append .., fun hbit hbad => hch.trans ?_, fun hbit => hch.trans ?_⟩
  · rw [if_pos ((mem_bitsOf_low n _).mpr hbit)]
    exact if_pos hbad
  · exact if_neg (fun hmem => absurd ((mem_bitsOf_low n _).mp hmem) (by rw [hbit]; exact Bool.false_ne_true))

theorem cufClr_refuses (hbit : bitOf n w.toNat = true) (h : clrRefused s.mono s.cuf.ch[n] = true) :
    ∃ t, exec (.cufClr w) s = .next t ∧ t.cuf = s.cuf ∧ t.answered .notInState [] := by
  have hclr : cufClrWrite w.toNat s = (.notInState, s) := by
    unfold cufClrWrite
    rw [cuffClr_refuses hbit h]
  exact ⟨_, State.hostWrite_refusal 0x9008 w.toNat _ _ s .notInState hready (by decide) pageOf_cufClr (by decide) (congrArg some hclr),
    State.judged_cuf .., State.answered_emit ..⟩

end

/-! ### CUF_CHn_CTRL (R363, R368, R369) -/

section
variable {s : State} {n : Fin 16} {w : Word} (hready : s.HostReady (0x9100 + 0x10 * n.val)) (hfitted : n.val < s.fuses.variant.cuffs)
include hready hfitted

/-- The page does what Cuff answers; in STANDBY no host is served. -/
theorem pageWrite_cufCh_eq : pageWrite .cuf (0x100 + 0x10 * n.val) w.toNat s =
    some ((cuffWrite n w.toNat s.cuf).1, { s with cuf := (cuffWrite n w.toNat s.cuf).2 }) := by
  have hn := n.isLt
  have hslot : slotOf (0x100 + 0x10 * n.val) 0x100 0x10 16 = some (n.val, 0) := by
    unfold slotOf
    rw [if_pos (by omega), show (0x100 + 0x10 * n.val - 0x100) / 0x10 = n.val by omega,
      show (0x100 + 0x10 * n.val - 0x100) % 0x10 = 0 by omega]
  have hstandby : s.standby = false := by
    have hserves := hready.serves
    unfold State.servesHost at hserves
    unfold State.standby
    revert hserves
    cases s.seam.role <;> decide
  show cufWrite (0x100 + 0x10 * n.val) w.toNat s = _
  unfold cufWrite cufChWrite
  rw [hslot]
  dsimp only
  rw [if_neg (by omega), if_pos rfl, if_neg (by omega), hstandby, Bool.false_and, if_neg Bool.false_ne_true]

theorem cufChannelWrite_commands {r : CufChan} (hcfg : s.cuf.ch[n].cfg = some r) (howner : r.owner = 0) (hlock : s.cuf.ch[n].lock = false)
    (hduty : field 1 10 w.toNat ≤ 1000) : ∃ t, exec (.cufChannelWrite n w) s = .next t ∧
      t.cuf.ch[n] = { s.cuf.ch[n].command (bitOf 0 w.toNat) (field 1 10 w.toNat) with phase := field 11 8 w.toNat } ∧ t.answered .ok [] := by
  have hwrite : cuffWrite n w.toNat s.cuf = (.ok, s.cuf.set n (fun k =>
      { k.command (bitOf 0 w.toNat) (field 1 10 w.toNat) with phase := field 11 8 w.toNat })) := by
    unfold cuffWrite
    dsimp only
    rw [Cuff.get_val, hcfg, hlock]
    dsimp only
    rw [if_neg (Nat.not_lt.mpr hduty), if_neg (by simp [howner])]
  have hpage := pageWrite_cufCh_eq hready hfitted (w := w)
  rw [hwrite] at hpage
  obtain ⟨k, hk⟩ := State.hostWrite_done _ w.toNat _ _ s _ hready (by omega) (pageOf_cufCh n) hpage
  exact ⟨_, hk, Cuff.set_same .., State.answered_append ..⟩

/-- What Cuff refuses changes nothing. -/
theorem cufChannelWrite_refuses {st : Status} (hst : st ≠ .ok) (hwrite : cuffWrite n w.toNat s.cuf = (st, s.cuf)) :
    ∃ t, exec (.cufChannelWrite n w) s = .next t ∧ t.cuf = s.cuf ∧ t.answered st [] := by
  have hpage := pageWrite_cufCh_eq hready hfitted (w := w)
  rw [hwrite] at hpage
  exact ⟨_, State.hostWrite_refusal _ w.toNat _ _ s st hready (by omega) (pageOf_cufCh n) hst hpage, State.judged_cuf .., State.answered_emit ..⟩

end

theorem cuffWrite_badValue {n : Fin 16} {w : Nat} (c : Cuff) (h : 1000 < field 1 10 w) : cuffWrite n w c = (.badValue, c) := if_pos h

theorem cuffWrite_locked {n : Fin 16} {w : Nat} {c : Cuff} (hduty : field 1 10 w ≤ 1000) (hlock : c.ch[n].lock = true) :
    cuffWrite n w c = (.notInState, c) := by
  unfold cuffWrite
  dsimp only
  rw [if_neg (Nat.not_lt.mpr hduty), Cuff.get_val, hlock, Bool.or_true, if_pos rfl]

/-! ### What turns channels off (R370, R372, R373) -/

theorem cufOn_of_force (c : Cuff) {k : CufCh} (h : k.force = true) : cufOn c k = false := by simp [cufOn, h]

/-- A channel commanded off gives no pulse at any frequency of its generator. -/
theorem cufCmd_off {c : Cuff} (hfreq : ∀ g : Fin 4, 0 < c.freq[g]) (k : CufCh) : cufCmd c (k.command false 0) = 0 := by
  have hpos (g : Nat) : 0 < atD c.freq g 1000 := by
    unfold atD
    split
    · next h => exact hfreq ⟨g, h⟩
    · decide
  unfold cufCmd CufCh.command
  dsimp only
  split
  · next r _ =>
    split
    · rw [if_pos rfl, if_pos (by have := hpos r.pg; omega)]
    · rw [if_neg Bool.false_ne_true]
  · rw [if_neg Bool.false_ne_true]

theorem cuffAllOff_ch (c : Cuff) (n : Fin 16) : (cuffAllOff c).ch[n] = c.ch[n].command false 0 :=
  mapIdx_get c.ch (fun _ k => k.command false 0) n.isLt

theorem cuffClear_ch (c : Cuff) (n : Fin 16) : (cuffClear c).ch[n] = { ({} : CufCh) with cfg := c.ch[n].cfg } :=
  mapIdx_get c.ch (fun _ k => { ({} : CufCh) with cfg := k.cfg }) n.isLt

/-- Every channel is commanded off. -/
def Cuff.Off (c : Cuff) : Prop := ∀ n : Fin 16, c.ch[n].command false 0 = c.ch[n]

/-- A port that ends a check path turns a channel off that is off. -/
theorem cuffDuty_off {c : Cuff} (h : c.Off) (owner n : Nat) : cuffDuty owner n 0 c = c := by
  have hset : (cuffDuty owner n 0 c).ch = c.ch := by
    apply Vector.ext
    intro j hj
    unfold cuffDuty Cuff.set
    by_cases hn : n = j
    · subst hn
      rw [updN_same _ _ _ hj]
      split
      · exact h ⟨n, hj⟩
      · rfl
    · exact updN_ne c.ch _ hj hn
  exact congrArg (fun v => { c with ch := v }) hset

/-- A function of a port starts no check path. -/
def NoCheck (f : PCtx → PCtx) : Prop := ∀ c : PCtx, (f c).p.chkOn = true → c.p.chkOn = true

theorem State.portRun_off {p : Fin 12} {token : Nat} {f : PCtx → PCtx} (hf : NoCheck f) {s : State} (h : s.cuf.Off) :
    (s.portRun p token f).cuf = s.cuf := by
  obtain ⟨u, hu⟩ : ∃ u, (f (s.pctx p)).eff.foldl (fun a x => a.portEff p token x) { s with ports := upd s.ports p fun _ => (f (s.pctx p)).p } = u :=
    ⟨_, rfl⟩
  have hmoves := (hu ▸ (Moves.foldl (fun t x => State.portEff_moves p token t x) (f (s.pctx p)).eff _ _
    (.refl _ { s with ports := upd s.ports p fun _ => (f (s.pctx p)).p })) :
    Moves _ { s with ports := upd s.ports p fun _ => (f (s.pctx p)).p } u).frame
  have hcuf : u.cuf = s.cuf := hmoves.get .cuf (by decide)
  have hports : u.ports = upd s.ports p fun _ => (f (s.pctx p)).p := hmoves.get .ports (by decide)
  have hchk : u.ports[p].chkOn = (f (s.pctx p)).p.chkOn :=
    congrArg Port.chkOn ((congrArg (fun v : Vector Port 12 => v[p]) hports).trans (upd_same ..))
  have hcheck : (u.checkPath p s.ports[p].chkOn).cuf = u.cuf := by
    unfold State.checkPath
    dsimp only
    split
    · rfl
    · next hne =>
      have hoff : u.ports[p].chkOn = false := by
        rw [hchk]
        by_contra hon
        have hon := Bool.not_eq_false _ |>.mp hon
        have hwas : s.ports[p].chkOn = true := hf (s.pctx p) hon
        exact hne (.inl (by rw [hchk, hon, hwas]))
      rw [hoff, if_neg Bool.false_ne_true]
      exact cuffDuty_off (hcuf ▸ h) _ _
  have hrun : s.portRun p token f = (u.checkPath p s.ports[p].chkOn).ocppFollow p s.ports[p] := by
    rw [← hu]
    rfl
  rw [hrun]
  exact ((State.ocppFollow_moves ..).frame.get .cuf (by decide)).trans (hcheck.trans hcuf)

theorem State.portDo_off {p : Fin 12} {token : Nat} {f : PCtx → PCtx} (hf : NoCheck f) (hanswer : ∀ ok, NoCheck (authAnswer ok)) {s : State}
    (h : s.cuf.Off) : (s.portDo p token f).cuf = s.cuf := by
  have hrun := State.portRun_off (p := p) (token := token) hf h
  unfold State.portDo
  dsimp only
  split
  · exact (State.portRun_off (hanswer _) (hrun ▸ h)).trans hrun
  · exact hrun

theorem authAnswer_noCheck (ok : Bool) : NoCheck (authAnswer ok) := by
  intro c h
  unfold authAnswer at h
  split at h
  · split at h
    · exact h
    · exact absurd h (by rw [show (enterEnded .auth (failNext false c)).p.chkOn = false from rfl]; exact Bool.false_ne_true)
  · exact h

theorem driversLost_noCheck : NoCheck driversLost := by
  intro c h
  unfold driversLost at h
  dsimp only at h
  split at h
  · next hclosed =>
    have hoff (r : EndReason) (d : PCtx) : (abruptEnd r d).p.chkOn = false := by
      unfold abruptEnd
      dsimp only
      split <;> rfl
    rw [hoff] at h
    exact absurd h Bool.false_ne_true
  · exact h

theorem State.driversDrop_off {s : State} (h : s.cuf.Off) (p : Fin 12) : (s.driversDrop p).cuf = s.cuf := by
  unfold State.driversDrop
  split
  · exact State.portDo_off driversLost_noCheck authAnswer_noCheck h
  · rfl

theorem cuffClear_off (c : Cuff) : (cuffClear c).Off := by
  intro n
  rw [cuffClear_ch]
  rfl

/-- Without VLS Cuff is cleared, whatever the ports do then. -/
theorem vlsLoss_cuf (s : State) : ∃ t, exec .vlsLoss s = .next t ∧ t.cuf = cuffClear s.cuf :=
  ⟨_, rfl, List.foldlRecOn (motive := fun t : State => t.cuf = cuffClear s.cuf) _ _ rfl
    (fun _ ht p _ => (State.driversDrop_off (ht ▸ cuffClear_off s.cuf) p).trans ht)⟩

theorem cufOn_of_off {c : Cuff} {f : Vector Nat 4} (hf : c.freq = f) (hfreq : ∀ g : Fin 4, 0 < f[g]) (k : CufCh) :
    cufOn c (k.command false 0) = false := by
  subst hf
  unfold cufOn
  rw [cufCmd_off hfreq]
  rfl

theorem cufOn_allOff (c : Cuff) (n : Fin 16) (hfreq : ∀ g : Fin 4, 0 < c.freq[g]) : cufOn (cuffAllOff c) (cuffAllOff c).ch[n] = false := by
  have hsame : (cuffAllOff c).freq = c.freq := by rw [cuffAllOff]
  rw [cuffAllOff_ch]
  exact cufOn_of_off hsame hfreq _

/-- Settles O46: the write of CUF_CLR clears all channels it names or none, that of a channel does what Cuff answers; Gaiter's force, the
loss of VLS and STANDBY turn channels off. -/
theorem cuffCommandsAct : Obligations.CuffCommandsAct := by
  unfold Obligations.CuffCommandsAct
  intro s n w
  refine ⟨fun hready => ⟨fun h => cufClr_clears hready h, fun hbit h => cufClr_refuses hready hbit h⟩,
    fun hready hfitted => ⟨fun r hcfg howner hlock hduty => cufChannelWrite_commands hready hfitted hcfg howner hlock hduty,
      fun hduty => cufChannelWrite_refuses hready hfitted (by decide) (cuffWrite_badValue s.cuf hduty),
      fun hduty hlock => cufChannelWrite_refuses hready hfitted (by decide) (cuffWrite_locked hduty hlock)⟩,
    fun on hleaf hforced => ?_, ?_, fun hdrive hother hlow => ?_⟩
  · have hdo : (s.leafIn && s.forced n == on) = true := by rw [hleaf, hforced, beq_self_eq_true]; rfl
    have hch : (cuffForce n on s.cuf).ch[n] = { (if s.cuf.ch[n].force && !on then s.cuf.ch[n].anew else s.cuf.ch[n]) with force := on } :=
      Cuff.set_same ..
    exact ⟨_, congrArg Host.Outcome.next (State.onlyIf_of hdo _ s), hch, fun hon => cufOn_of_force _ ((congrArg CufCh.force hch).trans hon)⟩
  · obtain ⟨t, ht, hcuf⟩ := vlsLoss_cuf s
    rw [← cuffClear_ch, ← hcuf]
    exact ⟨t, ht, rfl, congrArg Cuff.total hcuf, congrArg Cuff.tshed hcuf, congrArg Cuff.freq hcuf⟩
  · have hlost : s.ownLost = true := by
      unfold State.ownLost State.passed
      rw [hdrive, hother, decide_eq_true hlow]
      rfl
    exact ⟨_, congrArg Host.Outcome.next (State.onlyIf_of hlost _ s), cuffAllOff_ch s.cuf n, cufOn_allOff s.cuf n⟩

end Sys2Proof.Machine
end

section
/-! ## Hem: its start, its protection and its phases (O47: `HemStarts`, O48: `HemProtects`) -/

namespace Sys2Proof.Machine

/-! ### Functions of Hem -/

/-- Hem as a function of it finds it. -/
def State.hctx (s : State) : HX := { h := s.hem, e := s.hemEnv }

theorem State.onHem_exec {s : State} (h : s.up = true) (f : HX → HX) :
    (.next (s.onHem f) : Host.Outcome State Fault Refusal) = .next (s.hemDo f) :=
  congrArg Host.Outcome.next (State.onlyIf_of h _ s)

theorem State.hemDo_told {f : HX → HX} {s : State} {e : Ev} (hup : s.up = true) (he : e ∈ (f s.hctx).evs) : (s.hemDo f).told e :=
  State.raises_told (s := { s with hem := (f s.hctx).h }) hup he

/-- A function that raises nothing changes Hem alone. -/
theorem State.hemDo_of_silent {f : HX → HX} {s : State} (h : (f s.hctx).evs = []) : s.hemDo f = { s with hem := (f s.hctx).h } :=
  congrArg (fun es => ({ s with hem := (f s.hctx).h } : State).raises es) h

section
variable {s : State} {c : HemCfg} (hup : s.up = true) (hcfg : s.hem.cfg = some c)

/-! ### Starts (R379, R380, Table 13.3) -/

/-- A start of Hem with its record: all enabled phases take part, and VREF begins at the output. -/
theorem hemSoftStart_starts {x : HX} (h : x.h.cfg = some c) :
    (hemSoftStart x).h.st = .softstart ∧ (hemSoftStart x).h.vref = x.h.vout ∧
      (hemSoftStart x).h.active = c.phases &&& (15 - x.h.phFlt % 16) ∧ (hemSoftStart x).h.target = x.h.target := by
  unfold hemSoftStart
  rw [h]
  exact ⟨rfl, rfl, rfl, rfl⟩

theorem hemVinIn_iff {h : Hem} (hc : h.cfg = some c) : hemVinIn h = true ↔ c.vinMin ≤ h.vin ∧ h.vin ≤ c.vinMax := by
  unfold hemVinIn
  rw [hc]
  simp

include hcfg in
theorem vselChange_invalid (code : Fin 8) (hv : c.vout[code] = 0) :
    vselChange code s.hctx = (s.hctx.mod (fun h => { h with vselBad := true })).raise .hemVsel := by
  unfold vselChange
  rw [show s.hctx.h.cfg = some c from hcfg, Nat.mod_eq_of_lt code.isLt]
  dsimp only
  rw [atD_val, if_pos hv]

include hcfg in
theorem vselChange_valid (code : Fin 8) (hv : c.vout[code] ≠ 0) :
    vselChange code s.hctx = hemTryStart (s.hctx.mod (fun h => { h with vsel := code.val, target := c.vout[code], vselBad := false })) := by
  unfold vselChange
  rw [show s.hctx.h.cfg = some c from hcfg, Nat.mod_eq_of_lt code.isLt]
  dsimp only
  rw [atD_val, if_neg hv]

include hup hcfg in
theorem vselChange_acts (code : Fin 8) :
    (c.vout[code] = 0 → ∃ t, exec (.vselChange code) s = .next t ∧ t.hem = { s.hem with vselBad := true } ∧ t.told .hemVsel) ∧
    (c.vout[code] ≠ 0 → s.hem.st ≠ .off → ∃ t, exec (.vselChange code) s = .next t ∧
      t.hem = { s.hem with vsel := code.val, target := c.vout[code], vselBad := false }) ∧
    (c.vout[code] ≠ 0 → s.hem.st = .off → c.vinMin ≤ s.hem.vin → s.hem.vin ≤ c.vinMax → ∃ t, exec (.vselChange code) s = .next t ∧
      t.hem.st = .softstart ∧ t.hem.vref = s.hem.vout ∧ t.hem.target = c.vout[code]) := by
  refine ⟨fun hv => ?_, fun hv hst => ?_, fun hv hst hlow hhigh => ?_⟩
  · have hdo := vselChange_invalid hcfg code hv
    refine ⟨_, State.onHem_exec hup _, (State.hemDo_hem _ s).trans (congrArg HX.h hdo), State.hemDo_told hup ?_⟩
    rw [hdo]
    exact List.mem_append_right _ (List.mem_singleton.mpr rfl)
  · refine ⟨_, State.onHem_exec hup _, (State.hemDo_hem _ s).trans ((congrArg HX.h (vselChange_valid hcfg code hv)).trans ?_)⟩
    unfold hemTryStart
    rw [if_neg (fun h => hst h.1)]
    rfl
  · obtain ⟨x, hx⟩ : ∃ x, s.hctx.mod (fun h => { h with vsel := code.val, target := c.vout[code], vselBad := false }) = x := ⟨_, rfl⟩
    have hxcfg : x.h.cfg = some c := by rw [← hx]; exact hcfg
    have hstart : vselChange code s.hctx = hemSoftStart x := by
      rw [vselChange_valid hcfg code hv, hx]
      refine if_pos ⟨by rw [← hx]; exact hst, by rw [← hx]; rfl, (hemVinIn_iff hxcfg).mpr ?_⟩
      rw [← hx]
      exact ⟨hlow, hhigh⟩
    obtain ⟨h1, h2, -, h4⟩ := hemSoftStart_starts hxcfg
    refine ⟨_, State.onHem_exec hup _, ?_⟩
    rw [State.hemDo_hem, show vselChange code { h := s.hem, e := s.hemEnv } = hemSoftStart x from hstart, h1, h2, h4, ← hx]
    exact ⟨rfl, rfl, rfl⟩

/-- Within 3 % of its target the output is up (R380). -/
theorem output_near {vout target : Nat} (hlow : 97 * target ≤ 100 * vout) (hhigh : 100 * vout ≤ 103 * target) :
    absQ ((vout : Rat) - target) ≤ target * 3 / 100 := by
  have hl : (97 : Rat) * target ≤ 100 * vout := by exact_mod_cast hlow
  have hh : (100 : Rat) * vout ≤ 103 * target := by exact_mod_cast hhigh
  unfold absQ
  split <;> linarith

include hup in
theorem softStart_completes (hst : s.hem.st = .softstart) (href : s.hem.vref = s.hem.target) (hlow : 97 * s.hem.target ≤ 100 * s.hem.vout)
    (hhigh : 100 * s.hem.vout ≤ 103 * s.hem.target) :
    ∃ t, exec .softStartComplete s = .next t ∧ t.hem.st = .run ∧ t.hem.runAt = s.mono := by
  have hdo : softStartDone s.hctx = s.hctx.mod (fun h => { h with st := .run, runAt := s.mono, shedOk := none, addN := 0 }) :=
    if_pos ⟨hst, href, output_near hlow hhigh⟩
  refine ⟨_, State.onHem_exec hup _, ?_⟩
  rw [State.hemDo_hem, show softStartDone { h := s.hem, e := s.hemEnv } = _ from hdo]
  exact ⟨rfl, rfl⟩

include hup hcfg in
theorem hiccup_expires (hst : s.hem.st = .hiccup) (hdue : s.hem.hicAt + c.tHic * 1000 ≤ s.mono) :
    ∃ t, exec .hiccupExpiry s = .next t ∧ t.hem.st = .softstart ∧ t.hem.vref = s.hem.vout ∧ t.hem.active = c.phases &&& (15 - s.hem.phFlt % 16) := by
  have hdo : hiccupExpiry s.hctx = hemSoftStart s.hctx := by
    unfold hiccupExpiry
    rw [show s.hctx.h.cfg = some c from hcfg]
    exact if_pos ⟨hst, hdue⟩
  obtain ⟨h1, h2, h3, -⟩ := hemSoftStart_starts (x := s.hctx) hcfg
  refine ⟨_, State.onHem_exec hup _, ?_⟩
  rw [State.hemDo_hem, show hiccupExpiry { h := s.hem, e := s.hemEnv } = _ from hdo]
  exact ⟨h1, h2, h3⟩

include hup in
theorem hicClear_clears (hst : s.hem.st = .run) (hlong : s.hem.runAt + 1000000 ≤ s.mono) :
    exec .hicClear s = .next { s with hem := { s.hem with hic := 0 } } := by
  have hdo : hicClear s.hctx = s.hctx.mod (fun h => { h with hic := 0 }) := if_pos ⟨hst, hlong⟩
  refine (State.onHem_exec hup _).trans (congrArg Host.Outcome.next ((State.hemDo_of_silent ?_).trans ?_))
  · rw [hdo]
    rfl
  · rw [hdo]
    rfl

include hup hcfg in
theorem hemVinOk_starts {t0 : Nat} (hst : s.hem.st = .vinWait) (hok : s.hem.vinOk = some t0) (hlong : t0 + 10000 ≤ s.mono) :
    ∃ t, exec .hemVinOk s = .next t ∧ t.hem.st = .softstart ∧ t.hem.vref = s.hem.vout := by
  have hheld : heldFor s.hem.vinOk 10000 s.mono = true := by
    rw [hok, heldFor_some]
    exact decide_eq_true hlong
  have hdo : hemVinOk s.hctx = hemSoftStart s.hctx := if_pos ⟨hst, hheld⟩
  obtain ⟨h1, h2, -⟩ := hemSoftStart_starts (x := s.hctx) hcfg
  refine ⟨_, State.onHem_exec hup _, ?_⟩
  rw [State.hemDo_hem, show hemVinOk { h := s.hem, e := s.hemEnv } = _ from hdo]
  exact ⟨h1, h2⟩

/-! ### The HP0 period (R377, R383) -/

/-- What a period shows and how it regulates, but for the phases' shares. -/
structure Hem.Shows (h k : Hem) : Prop where
  vref : k.vref = h.vref
  vout : k.vout = h.vout
  vin : k.vin = h.vin
  iph : k.iph = h.iph
  pwm : k.pwm = h.pwm
  iHist : k.iHist = h.iHist
  integ : k.integ = h.integ
  iC : k.iC = h.iC

theorem hemShares_shows (h : Hem) : h.Shows (hemShares h) := by
  unfold hemShares
  dsimp only
  split
  · split
    · exact ⟨rfl, rfl, rfl, rfl, rfl, rfl, rfl, rfl⟩
    · exact ⟨rfl, rfl, rfl, rfl, rfl, rfl, rfl, rfl⟩
  · exact ⟨rfl, rfl, rfl, rfl, rfl, rfl, rfl, rfl⟩

theorem hemSpans_shows (c : HemCfg) (m : HemMeas) (now : Nat) (h : Hem) : h.Shows (hemSpans c m now h) :=
  ⟨rfl, rfl, rfl, rfl, rfl, rfl, rfl, rfl⟩

theorem Hem.Shows.trans {h k l : Hem} (a : h.Shows k) (b : k.Shows l) : h.Shows l :=
  ⟨b.vref.trans a.vref, b.vout.trans a.vout, b.vin.trans a.vin, b.iph.trans a.iph, b.pwm.trans a.pwm, b.iHist.trans a.iHist,
    b.integ.trans a.integ, b.iC.trans a.iC⟩

/-- VREF stays at its target. -/
theorem hemRef_of_target (c : HemCfg) {h : Hem} (href : h.vref = h.target) : hemRef c h = h.vref := by
  have hstep : 0 ≤ (c.ssRate * 10 : Rat) / c.fSw := by positivity
  unfold hemRef
  dsimp only
  rw [← href, if_neg (lt_irrefl _)]
  exact max_eq_left (sub_le_self _ hstep)

/-- Hem after it has sensed and VREF has moved. -/
def Hem.sensed (c : HemCfg) (m : HemMeas) (now : Nat) (h : Hem) : Hem :=
  let k := hemSense c m now true h
  { k with vref := hemRef c k }

theorem hemLoop_run {x : HX} {c : HemCfg} {m : HemMeas} (hcfg : x.h.cfg = some c) (hst : x.h.st = .run) :
    (hemRegulate c m (x.h.sensed c m x.e.now)).Shows (hemLoop m x).h := by
  have hdo : (hemLoop m x).h = hemSpans c m x.e.now (hemShares (hemRegulate c m (x.h.sensed c m x.e.now))) := by
    unfold hemLoop
    rw [hcfg]
    dsimp only
    rw [hst]
    rfl
  rw [hdo]
  exact (hemShares_shows _).trans (hemSpans_shows ..)

/-- What a period in RUN shows, and the current command that it gives. -/
theorem Hem.sensed_facts (c : HemCfg) (m : HemMeas) (now : Nat) {h : Hem} (href : h.vref = h.target) :
    (h.sensed c m now).vref = h.vref ∧ (h.sensed c m now).vout = sat 16 (hemVout c m).floor.toNat ∧ (h.sensed c m now).vin = sat 16 m.vin ∧
      (h.sensed c m now).integ = h.integ ∧ ∀ p : Fin 4, (h.sensed c m now).iph[p] = roundHalfAway (hemMean c m.sense[p]) ∧
        (h.sensed c m now).pwm[p] = { start := 25 * p.val,
                                      len := if bitOf p h.active then hemTurnOff c (h.iC * (h.share[p] : Rat) / 32) 0 m.sense[p] else 0 } := by
  refine ⟨hemRef_of_target c (h := hemSense c m now true h) href, rfl, rfl, rfl, fun p => ⟨?_, ?_⟩⟩
  · refine (mapIdx_get h.iph (fun n _ => roundHalfAway (hemMean c (atD m.sense n []))) p.isLt).trans ?_
    rw [atD_val]
  · refine (mapIdx_get h.pwm (fun n _ => hemPulse c m true h n) p.isLt).trans ?_
    unfold hemPulse
    rw [atD_val, atD_val, Bool.true_and]

include hup hcfg in
theorem hemLoop_updates (m : HemMeas) (hst : s.hem.st = .run) (href : s.hem.vref = s.hem.target) :
    ∃ t, exec (.hemLoopUpdate m) s = .next t ∧ t.hem.vref = s.hem.vref ∧ t.hem.vout = sat 16 (hemVout c m).floor.toNat ∧
      t.hem.vin = sat 16 m.vin ∧
      (∀ p : Fin 4, t.hem.iph[p] = roundHalfAway (hemMean c m.sense[p]) ∧ t.hem.pwm[p] =
        { start := 25 * p.val, len := if bitOf p s.hem.active then hemTurnOff c (s.hem.iC * (s.hem.share[p] : Rat) / 32) 0 m.sense[p] else 0 }) ∧
      (∀ e : Rat, e = t.hem.vref / 100 - (c.droop : Rat) / 1000 * (hemTot t.hem / 10) / (phCount c.phases * (c.iPh : Rat) / 10) - hemVout c m / 100 →
        t.hem.integ = clampQ 0 ((c.ilimPk : Rat) / 10) (s.hem.integ + fVal c.ki * e / (c.fSw * 1000)) ∧
        t.hem.iC = clampQ 0 ((c.ilimPk : Rat) / 10) (fVal c.kp * e + t.hem.integ)) := by
  obtain ⟨k, hk⟩ : ∃ k, s.hem.sensed c m s.mono = k := ⟨_, rfl⟩
  obtain ⟨kref, kout, kin, kinteg, kphase⟩ := Hem.sensed_facts c m s.mono href
  rw [hk] at kref kout kin kinteg kphase
  have hshow : (hemRegulate c m k).Shows (s.hemDo (hemLoop m)).hem := by
    rw [State.hemDo_hem, ← hk]
    exact hemLoop_run (x := s.hctx) hcfg hst
  have htot : hemTot (s.hemDo (hemLoop m)).hem = hemTot k := congrArg (fun l => sumQ l / 16) hshow.iHist
  refine ⟨_, State.onHem_exec hup _, hshow.vref.trans kref, hshow.vout.trans kout, hshow.vin.trans kin, fun p => ⟨?_, ?_⟩, fun e he => ?_⟩
  · exact (congrArg (fun v : Vector Int 4 => v[p]) hshow.iph).trans (kphase p).1
  · exact (congrArg (fun v : Vector HemPulse 4 => v[p]) hshow.pwm).trans (kphase p).2
  · rw [htot, show (s.hemDo (hemLoop m)).hem.vref = k.vref from hshow.vref] at he
    rw [hshow.integ, hshow.iC, he, ← kinteg]
    exact ⟨rfl, rfl⟩

/-! ### HEM_CTRL.CLR (Table 13.3) -/

theorem pageOf_hemCtrl : pageOf 0x7000 = some (.hem, 0) := by decide

/-- A start may follow; it leaves the counts of faults as they are. -/
theorem hemTryStart_from_off {x : HX} (h : x.h.st = .off) :
    ((hemTryStart x).h.st = .off ∨ (hemTryStart x).h.st = .softstart) ∧ (hemTryStart x).h.hic = x.h.hic ∧
      (hemTryStart x).h.phFlt = x.h.phFlt := by
  unfold hemTryStart
  split
  · unfold hemSoftStart
    split
    · exact ⟨.inl h, rfl, rfl⟩
    · exact ⟨.inr rfl, rfl, rfl⟩
  · exact ⟨.inl h, rfl, rfl⟩

theorem hemClr_writes (hready : s.HostReady 0x7000) :
    (s.hem.st = .latched → ∃ t, exec .hemClr s = .next t ∧ (t.hem.st = .off ∨ t.hem.st = .softstart) ∧ t.hem.hic = 0 ∧ t.hem.phFlt = 0 ∧
      t.answered .ok []) ∧
    (s.hem.st ≠ .latched → ∃ t, exec .hemClr s = .next t ∧ t.hem = s.hem ∧ t.answered .notInState []) := by
  have hbit : (!bitOf 0 1) = false := by decide
  refine ⟨fun hst => ?_, fun hst => ?_⟩
  · have hclr : hemClr s.hctx = (hemTryStart (s.hctx.mod (fun h => { h with st := .off, hic := 0, phFlt := 0 })), true) := if_pos hst
    have hwrite : hemClrWrite 1 s = (.ok, s.hemDo (fun x => (hemClr x).1)) := by
      unfold hemClrWrite
      rw [hbit, if_neg Bool.false_ne_true]
      exact if_pos (congrArg Prod.snd hclr)
    obtain ⟨k, hk⟩ := State.hostWrite_done 0x7000 1 _ _ s _ hready (by decide) pageOf_hemCtrl (congrArg some hwrite)
    have hhem := (State.hemDo_hem (fun x => (hemClr x).1) s).trans (congrArg (fun r : HX × Bool => r.1.h) hclr)
    obtain ⟨h1, h2, h3⟩ := hemTryStart_from_off (x := s.hctx.mod (fun h => { h with st := .off, hic := 0, phFlt := 0 })) rfl
    rw [← hhem] at h1 h2 h3
    exact ⟨_, hk, h1, h2, h3, State.answered_append ..⟩
  · have hwrite : hemClrWrite 1 s = (.notInState, s) := by
      have hclr : hemClr s.hctx = (s.hctx, false) := if_neg hst
      unfold hemClrWrite
      rw [hbit, if_neg Bool.false_ne_true]
      exact if_neg (by rw [show hemClr { h := s.hem, e := s.hemEnv } = (s.hctx, false) from hclr]; exact Bool.false_ne_true)
    exact ⟨_, State.hostWrite_refusal 0x7000 1 _ _ s .notInState hready (by decide) pageOf_hemCtrl (by decide) (congrArg some hwrite),
      State.judged_hem .., State.answered_emit ..⟩

end

/-- Settles O47: what each trigger of a start does, what a period in RUN shows and regulates, and the write that clears a latched Hem. -/
theorem hemStarts : Obligations.HemStarts := by
  unfold Obligations.HemStarts
  intro s c hup hcfg
  exact ⟨vselChange_acts hup hcfg, softStart_completes hup, hiccup_expires hup hcfg, hicClear_clears hup, fun _ => hemVinOk_starts hup hcfg,
    hemLoop_updates hup hcfg, hemClr_writes⟩

/-! ### Faults (R381, R382, R385, Table 13.3) -/

/-- A fault joins the ring as a record of 32 bytes that begins with its kind. -/
theorem hemRecord_eq (kind : Nat) (hkind : kind < 256) (x : HX) : ∃ b, hemRecord kind x =
    x.mod (fun h => { h with ring := (b :: h.ring).take 8, faults := satInc 8 h.faults }) ∧ leAt b 0 1 = kind ∧ b.length = 32 := by
  refine ⟨_, rfl, ?_, ?_⟩
  · simp only [List.append_assoc]
    rw [leAt_append_left _ (show 0 + 1 ≤ (leBytes 1 kind).length by simp)]
    exact (leAt_append_leBytes [] kind rfl).trans (Nat.mod_eq_of_lt hkind)
  · simp

section
variable {s : State} {c : HemCfg} (hup : s.up = true) (hcfg : s.hem.cfg = some c)

/-- A fault of Hem: its state and its phases after it, and the event. -/
theorem State.hemDo_fault {f : HX → HX} {x : HX} {st : HemSt} (hup : s.up = true) (hf : f s.hctx = (hemOff st x).raise .hemFault) :
    (s.hemDo f).hem = (hemOff st x).h ∧ (s.hemDo f).told .hemFault := by
  refine ⟨(State.hemDo_hem _ s).trans ((congrArg HX.h hf).trans rfl), State.hemDo_told hup ?_⟩
  rw [hf]
  exact List.mem_append_right _ (List.mem_singleton.mpr rfl)

include hup hcfg in
theorem hemShort_faults {t0 : Nat} (hst : s.hem.st = .softstart) (hlow : s.hem.lowHalf = some t0) (hlong : t0 + 500 ≤ s.mono) :
    (s.hem.hic + 1 < c.nHic → ∃ t, exec .hemShort s = .next t ∧ t.hem.st = .hiccup ∧ t.hem.hic = s.hem.hic + 1 ∧ t.hem.hicAt = s.mono ∧
      t.hem.active = 0 ∧ t.told .hemFault) ∧
    (c.nHic ≤ s.hem.hic + 1 → ∃ t, exec .hemShort s = .next t ∧ t.hem.st = .latched ∧ t.hem.active = 0 ∧
      t.hem.faults = satInc 8 s.hem.faults ∧ t.told .hemFault) := by
  have hheld : heldFor s.hem.lowHalf 500 s.mono = true := by
    rw [hlow, heldFor_some]
    exact decide_eq_true hlong
  refine ⟨fun hfew => ?_, fun hmany => ?_⟩
  · obtain ⟨x, hx⟩ : ∃ x, (if s.hctx.h.hic = 0 then hemRecord 1 s.hctx else s.hctx) = x := ⟨_, rfl⟩
    have hhic : x.h.hic = s.hem.hic := by
      rw [← hx]
      split <;> rfl
    have hnow : x.e.now = s.mono := by
      rw [← hx]
      split <;> rfl
    have hdo : hemShort s.hctx =
        (hemOff .hiccup (x.mod (fun h => { h with hic := h.hic + 1, hicAt := x.e.now, hiccups := satInc 8 h.hiccups }))).raise .hemFault := by
      unfold hemShort
      rw [show s.hctx.h.cfg = some c from hcfg]
      dsimp only
      rw [if_pos ⟨hst, .inl hheld⟩, if_pos (show s.hctx.h.hic + 1 < c.nHic from hfew), hx]
    obtain ⟨hhem, htold⟩ := State.hemDo_fault hup hdo
    refine ⟨_, State.onHem_exec hup _, ?_⟩
    rw [hhem]
    exact ⟨rfl, congrArg (· + 1) hhic, hnow, rfl, htold⟩
  · have hdo : hemShort s.hctx = (hemOff .latched ((hemRecord 6 s.hctx).mod (fun h => { h with hic := h.hic + 1 }))).raise .hemFault := by
      unfold hemShort
      rw [show s.hctx.h.cfg = some c from hcfg]
      dsimp only
      rw [if_pos ⟨hst, .inl hheld⟩, if_neg (show ¬ s.hctx.h.hic + 1 < c.nHic from Nat.not_lt.mpr hmany)]
    obtain ⟨hhem, htold⟩ := State.hemDo_fault hup hdo
    refine ⟨_, State.onHem_exec hup _, ?_⟩
    rw [hhem]
    exact ⟨rfl, rfl, rfl, htold⟩

include hup in
theorem hemUv_faults {t0 : Nat} (hst : s.hem.st = .run) (hlow : s.hem.low85 = some t0) (hlong : t0 + 1000 ≤ s.mono) :
    ∃ t, exec .hemUndervoltage s = .next t ∧ t.hem.st = .hiccup ∧ t.hem.hic = 1 ∧ t.hem.active = 0 ∧ t.told .hemFault := by
  have hheld : heldFor s.hem.low85 1000 s.mono = true := by
    rw [hlow, heldFor_some]
    exact decide_eq_true hlong
  have hdo : hemUv s.hctx = (hemOff .hiccup ((hemRecord 2 s.hctx).mod
      (fun h => { h with hic := 1, hicAt := s.mono, hiccups := satInc 8 h.hiccups }))).raise .hemFault := if_pos ⟨hst, hheld⟩
  obtain ⟨hhem, htold⟩ := State.hemDo_fault hup hdo
  refine ⟨_, State.onHem_exec hup _, ?_⟩
  rw [hhem]
  exact ⟨rfl, rfl, rfl, htold⟩

include hup in
theorem hemOv_faults {t0 : Nat} (hst : s.hem.st = .run ∨ s.hem.st = .softstart) (hhigh : s.hem.high115 = some t0) (hlong : t0 + 20 ≤ s.mono) :
    ∃ t, exec .hemOvervoltage s = .next t ∧ t.hem.st = .latched ∧ t.hem.active = 0 ∧ t.told .hemFault ∧
      ∃ b, t.hem.ring = (b :: s.hem.ring).take 8 ∧ leAt b 0 1 = 3 ∧ b.length = 32 := by
  have hheld : heldFor s.hem.high115 20 s.mono = true := by
    rw [hhigh, heldFor_some]
    exact decide_eq_true hlong
  have hdo : hemOv s.hctx = (hemOff .latched (hemRecord 3 s.hctx)).raise .hemFault := if_pos ⟨hst, hheld⟩
  obtain ⟨hhem, htold⟩ := State.hemDo_fault hup hdo
  obtain ⟨b, hrec, hkind, hlen⟩ := hemRecord_eq 3 (by decide) s.hctx
  refine ⟨_, State.onHem_exec hup _, ?_⟩
  rw [hhem, hrec]
  exact ⟨rfl, rfl, htold, b, rfl, hkind, hlen⟩

include hup hcfg in
theorem hemVinOut_faults (hst : s.hem.st = .run ∨ s.hem.st = .softstart ∨ s.hem.st = .hiccup) (hout : s.hem.vin < c.vinMin ∨ c.vinMax < s.hem.vin) :
    ∃ t, exec .hemVinOut s = .next t ∧ t.hem.st = .vinWait ∧ t.hem.active = 0 ∧ t.told .hemFault := by
  have hnot : (!hemVinIn s.hem) = true := by
    rw [Bool.not_eq_true', ← Bool.not_eq_true, hemVinIn_iff hcfg]
    omega
  have hdo : hemVinOut s.hctx = (hemOff .vinWait (hemRecord 5 s.hctx)).raise .hemFault := if_pos ⟨hst, hnot⟩
  obtain ⟨hhem, htold⟩ := State.hemDo_fault hup hdo
  refine ⟨_, State.onHem_exec hup _, ?_⟩
  rw [hhem]
  exact ⟨rfl, rfl, htold⟩

/-- Hem without the phase `p` (R382). -/
def HX.withoutPhase (p : Nat) (x : HX) : HX :=
  ((hemRecord 4 x).mod (fun h => { h with
    active := h.active - 2 ^ p, phFlt := h.phFlt ||| 2 ^ p, shedding := if h.shedding = some p then none else h.shedding })).raise .hemFault

include hup hcfg in
theorem phaseOc_faults (p : Fin 4) (hst : s.hem.st = .run) (hactive : bitOf p s.hem.active = true) (hpeaks : 256 ≤ s.hem.peaks[p]) :
    ∃ t, exec (.phaseOvercurrent p) s = .next t ∧ t.hem.phFlt = s.hem.phFlt ||| 2 ^ p.val ∧ t.told .hemFault ∧
      (c.phases &&& (15 - t.hem.phFlt % 16) = 0 → t.hem.st = .latched ∧ t.hem.active = 0) ∧
      (c.phases &&& (15 - t.hem.phFlt % 16) ≠ 0 → t.hem.st = .run ∧ t.hem.active = s.hem.active - 2 ^ p.val) := by
  have hdo : phaseOc p s.hctx = if ((s.hctx.withoutPhase p).h.cfg.map (·.phases)).getD 0 &&& (15 - (s.hctx.withoutPhase p).h.phFlt % 16) = 0
      then (hemOff .latched (s.hctx.withoutPhase p)).raise .hemFault else s.hctx.withoutPhase p :=
    if_pos ⟨hst, hactive, by rw [show atD s.hctx.h.peaks p 0 = s.hem.peaks[p] from atD_val ..]; exact hpeaks⟩
  have hphases : ((s.hctx.withoutPhase p).h.cfg.map (·.phases)).getD 0 = c.phases := by
    rw [show (s.hctx.withoutPhase p).h.cfg = some c from hcfg]
    rfl
  have hflt : (s.hctx.withoutPhase p).h.phFlt = s.hem.phFlt ||| 2 ^ p.val := rfl
  rw [hphases, hflt] at hdo
  by_cases hnone : c.phases &&& (15 - (s.hem.phFlt ||| 2 ^ p.val) % 16) = 0
  · rw [if_pos hnone] at hdo
    obtain ⟨hhem, htold⟩ := State.hemDo_fault hup hdo
    refine ⟨_, State.onHem_exec hup _, ?_⟩
    rw [hhem]
    exact ⟨rfl, htold, fun _ => ⟨rfl, rfl⟩, fun h => absurd hnone h⟩
  · rw [if_neg hnone] at hdo
    have hhem := (State.hemDo_hem (phaseOc p) s).trans (congrArg HX.h hdo)
    have htold : (s.hemDo (phaseOc p)).told .hemFault := by
      refine State.hemDo_told hup ?_
      rw [hdo]
      exact List.mem_append_right _ (List.mem_singleton.mpr rfl)
    refine ⟨_, State.onHem_exec hup _, ?_⟩
    rw [hhem]
    exact ⟨rfl, htold, fun h => absurd h hnone, fun _ => ⟨hst, rfl⟩⟩

/-! ### Phases (R383, R384) -/

/-- A function that is a change of Hem alone. -/
theorem State.hemDo_mod {f : HX → HX} {g : Hem → Hem} (hf : f s.hctx = s.hctx.mod g) : s.hemDo f = { s with hem := g s.hem } := by
  rw [State.hemDo_of_silent (by rw [hf]; rfl), hf]
  rfl

include hup hcfg in
theorem phaseShed_begins {t0 p : Nat} (hst : s.hem.st = .run) (hblk : s.hem.blkAt = none) (hshed : s.hem.shedding = none)
    (hmin : c.minPh < phCount s.hem.active) (hok : s.hem.shedOk = some t0) (hlong : t0 + c.tShed * 1000 ≤ s.mono)
    (hlast : (bitsOf 4 s.hem.active).getLast? = some p) :
    exec .phaseShed s = .next { s with hem := { s.hem with shedding := some p, shedOk := none } } := by
  have hheld : heldFor s.hem.shedOk (c.tShed * 1000) s.mono = true := by
    rw [hok, heldFor_some]
    exact decide_eq_true hlong
  have hdo : phaseShed s.hctx = s.hctx.mod (fun h => { h with shedding := some p, shedOk := none }) := by
    unfold phaseShed
    rw [show s.hctx.h.cfg = some c from hcfg]
    dsimp only
    rw [if_pos ⟨hst, by rw [show s.hctx.h.blkAt = none from hblk]; rfl, by rw [show s.hctx.h.shedding = none from hshed]; rfl, hmin, hheld⟩,
      show (bitsOf 4 s.hctx.h.active).getLast? = some p from hlast]
  exact (State.onHem_exec hup _).trans (congrArg Host.Outcome.next (State.hemDo_mod hdo))

include hup hcfg in
theorem phaseAdd_adds {p : Nat} (hst : s.hem.st = .run) (hadd : 16 ≤ s.hem.addN)
    (hfirst : (bitsOf 4 (c.phases &&& (15 - s.hem.phFlt % 16) &&& (15 - s.hem.active % 16))).head? = some p) :
    exec .phaseAdd s = .next { s with hem := { s.hem with
      active := s.hem.active + 2 ^ p, share := updN s.hem.share p (fun _ => 0), addN := 0 } } := by
  have hdo : phaseAdd s.hctx =
      s.hctx.mod (fun h => { h with active := h.active + 2 ^ p, share := updN h.share p (fun _ => 0), addN := 0 }) := by
    unfold phaseAdd
    rw [show s.hctx.h.cfg = some c from hcfg]
    dsimp only
    rw [if_pos ⟨hst, hadd⟩,
      show (bitsOf 4 (c.phases &&& (15 - s.hctx.h.phFlt % 16) &&& (15 - s.hctx.h.active % 16))).head? = some p from hfirst]
  exact (State.onHem_exec hup _).trans (congrArg Host.Outcome.next (State.hemDo_mod hdo))

include hup hcfg in
theorem fastCondition_acts (hst : s.hem.st = .run) (hdroop : (s.hem.vout : Rat) + c.dvFast < s.hem.vref) :
    ∃ t, exec .fastCondition s = .next t ∧ t.hem.shedding = none ∧ t.hem.active = c.phases &&& (15 - s.hem.phFlt % 16) ∧
      t.hem.blkAt = some s.mono ∧ t.hem.share = Vector.replicate 4 32 ∧
      t.hem.aborts = (if s.hem.shedding.isSome then satInc 8 s.hem.aborts else s.hem.aborts) := by
  have hdo : hemFast s.hctx = s.hctx.mod (fun h => { h with
      aborts := if h.shedding.isSome then satInc 8 h.aborts else h.aborts, shedding := none,
      active := c.phases &&& (15 - h.phFlt % 16), share := Vector.replicate 4 32, blkAt := some s.mono, shedOk := none }) := by
    unfold hemFast
    rw [show s.hctx.h.cfg = some c from hcfg]
    exact if_pos ⟨hst, .inl (decide_eq_true hdroop)⟩
  refine ⟨_, (State.onHem_exec hup _).trans (congrArg Host.Outcome.next (State.hemDo_mod hdo)), ?_⟩
  exact ⟨rfl, rfl, rfl, rfl, rfl⟩

include hup in
theorem shedBlockEnd_ends {t0 : Nat} (hblk : s.hem.blkAt = some t0) (hlong : t0 + 1000000 ≤ s.mono) :
    exec .shedBlockExpiry s = .next { s with hem := { s.hem with blkAt := none } } := by
  have hheld : heldFor s.hem.blkAt 1000000 s.mono = true := by
    rw [hblk, heldFor_some]
    exact decide_eq_true hlong
  have hdo : shedBlockEnd s.hctx = s.hctx.mod (fun h => { h with blkAt := none }) := if_pos hheld
  exact (State.onHem_exec hup _).trans (congrArg Host.Outcome.next (State.hemDo_mod hdo))

end

/-- Settles O48: a fault of Hem records itself, turns its phases off and raises the event; phases are shed and added one by one. -/
theorem hemProtects : Obligations.HemProtects := by
  unfold Obligations.HemProtects
  intro s c hup hcfg
  exact ⟨fun _ => hemShort_faults hup hcfg, fun _ => hemUv_faults hup, fun _ => hemOv_faults hup, hemVinOut_faults hup hcfg,
    phaseOc_faults hup hcfg, fun _ _ => phaseShed_begins hup hcfg, fun _ => phaseAdd_adds hup hcfg, fastCondition_acts hup hcfg,
    fun _ => shedBlockEnd_ends hup⟩

end Sys2Proof.Machine
end

section
/-! ## Cloak: key-update messages, pair binding and attestation (O49: `CloakTakesKeys`, O50: `CloakAttests`) -/

namespace Sys2Proof.Machine

/-! ### Functions of Cloak -/

theorem State.onCloak_exec {s : State} (h : s.up = true) (f : Cloak → CkX) : s.onCloak f = s.clkDo f := State.onlyIf_of h _ s

/-- A request of the device's own that completes with NOT_IN_STATE raises its event. -/
theorem State.clkDo_miss {f : Cloak → CkX} {s : State} {e : Ev} (hup : s.up = true) (hmiss : (f s.clk).miss = some e) : (s.clkDo f).told e := by
  have hup' : (({ s with clk := (f s.clk).c } : State).raises (f s.clk).evs).up = true :=
    (State.up_congr ((State.raises_moves (f s.clk).evs { s with clk := (f s.clk).c }).frame.get .rst (by decide))).trans hup
  unfold State.clkDo
  dsimp only
  rw [hmiss, Option.isSome_some, if_pos rfl]
  exact State.raise_told e _ hup'

/-- A change of Cloak that raises nothing is all that happens. -/
theorem State.clkDo_quiet (f : Cloak → Cloak) (s : State) : s.clkDo (quiet f) = { s with clk := f s.clk } := rfl

/-- The engines of Cloak serve where a host is served. -/
theorem State.engines_of_serves {s : State} (h : s.servesHost = true) : s.engines = true := by
  unfold State.servesHost at h
  unfold State.engines State.standby
  revert h
  cases s.seam.role <;> simp

/-- What a page refuses, it may have changed. -/
theorem State.hostWrite_refuses {a w : Nat} {g : Page} {o : Nat} {s t : State} {st : Status} (h : s.HostReady a) (ha : a % 4 = 0)
    (hp : pageOf a = some (g, o)) (hs : st ≠ .ok) (hw : pageWrite g o w s = some (st, t)) :
    s.hostWrite a w = (t.judged st a).emit (.done st []) := by
  have hg : g.present s.fuses.variant = true := by
    have hpres := h.present
    unfold absentAt at hpres
    rw [hp] at hpres
    simpa using hpres
  have hwrite : s.writeAt a w = (st, t) := by
    unfold State.writeAt
    simp [ha, hp, hg, hw, stored, hs]
  have hswap : s.swapAway a w = false := by simp [State.swapAway, h.serves]
  unfold State.hostWrite State.hostCommand
  rw [hswap, Bool.and_false, if_neg Bool.false_ne_true]
  simp only [h.up, h.serves, h.code, h.present, hwrite, Bool.not_true, Bool.false_eq_true, if_false, stored, hs]
  rfl

/-! ### Key-update messages (R395 to R397) -/

theorem pageOf_kuCtrl : pageOf 0x20048 = some (.clk, 0x48) := by decide

section
variable {s : State} (hready : s.HostReady 0x20048)
include hready

theorem kuCtrlWrite_eq : kuCtrlWrite 1 s = ((kuGo s.clk).1, { s with clk := (kuGo s.clk).2 }) := by
  unfold kuCtrlWrite
  rw [show (!bitOf 0 1) = false by decide, if_neg Bool.false_ne_true, State.engines_of_serves hready.serves, if_neg (by decide)]

theorem keyUpdateGo_takes (hjob : s.clk.job = none) (hkeys : s.clk.noKeys = false) : ∃ t, exec .keyUpdateGo s = .next t ∧
    t.clk = { s.clk with job := some (winBytes 0 801 s.clk.ku) } ∧ t.answered .ok [] := by
  have hgo : kuGo s.clk = (.ok, { s.clk with job := some (winBytes 0 801 s.clk.ku) }) := by
    unfold kuGo
    rw [hjob, hkeys]
    rfl
  have hwrite := kuCtrlWrite_eq hready
  rw [hgo] at hwrite
  obtain ⟨k, hk⟩ := State.hostWrite_done 0x20048 1 _ _ s _ hready (by decide) pageOf_kuCtrl (congrArg some hwrite)
  exact ⟨_, hk, rfl, State.answered_append ..⟩

theorem keyUpdateGo_refuses (h : s.clk.job.isSome = true ∨ s.clk.noKeys = true) :
    ∃ t, exec .keyUpdateGo s = .next t ∧ t.clk = s.clk ∧ t.answered .notInState [] := by
  have hgo : kuGo s.clk = (.notInState, s.clk) := if_pos (Bool.or_eq_true_iff.mpr h)
  have hwrite := kuCtrlWrite_eq hready
  rw [hgo] at hwrite
  exact ⟨_, State.hostWrite_refusal 0x20048 1 _ _ s .notInState hready (by decide) pageOf_kuCtrl (by decide) (congrArg some hwrite),
    State.judged_clk .., State.answered_emit ..⟩

end

section
variable {f : Fuses} {ka free r key : Nat} {c : Cloak} {m : List Byte} (hjob : c.job = some m) (hjudge : kuJudge f ka c m = (r, key))
include hjob hjudge

/-- A refused message changes its result and is counted. -/
theorem kuJudged_refused (hr : r ≠ 0) :
    kuJudged f ka free c = { c := { c with job := none, result := r, kuRefused := satInc 16 c.kuRefused } } := by
  unfold kuJudged
  rw [hjob]
  dsimp only
  rw [hjudge]
  dsimp only
  rw [if_pos hr]

/-- An accepted message commits, unless GENERATE finds the random source stopped. -/
theorem kuJudged_accepted (hr : r = 0) (hrng : (kuParse m).op = 2 → c.rngFail = false) :
    ∃ n, kuJudged f ka free c = {
      c := { kuCommit (kuParse m) (if (kuParse m).op = 2 then drawKey (kuParse m).ktype free else key) { c with job := none } with
        result := 0, requests := n }
      evs := [.keyUpdate] } := by
  unfold kuJudged
  rw [hjob]
  dsimp only
  rw [hjudge]
  dsimp only
  rw [if_neg (not_not_intro hr), if_neg (fun h => by rw [hrng h.1] at h; exact absurd h.2 Bool.false_ne_true)]
  exact ⟨_, rfl⟩

end

theorem else_of_fst {α β : Type} {c : Prop} [Decidable c] {a r : α} {b : β} {k : α × β} {key : β} (hne : a ≠ r)
    (h : (if c then (a, b) else k) = (r, key)) : ¬ c ∧ k = (r, key) := by
  split at h
  · exact absurd (congrArg Prod.fst h) hne
  · next hc => exact ⟨hc, h⟩

/-- An accepted message names a slot that messages write (row 6 of Table 14.4). -/
theorem kuJudge_slot {f : Fuses} {ka key : Nat} {c : Cloak} {m : List Byte} (h : kuJudge f ka c m = (0, key)) : kuSlotOk (kuParse m) = true := by
  unfold kuJudge at h
  obtain ⟨-, h⟩ := else_of_fst (by decide) h
  obtain ⟨-, h⟩ := else_of_fst (by decide) h
  obtain ⟨-, h⟩ := else_of_fst (by decide) h
  obtain ⟨-, h⟩ := else_of_fst (by decide) h
  obtain ⟨-, h⟩ := else_of_fst (by decide) h
  obtain ⟨hslot, -⟩ := else_of_fst (by decide) h
  simpa using hslot

theorem kuSlot_lt {k : KuMsg} (h : kuSlotOk k = true) : k.slot < 64 := by
  unfold kuSlotOk at h
  split at h
  · rw [beq_iff_eq] at h
    omega
  · simp only [Bool.or_eq_true, Bool.and_eq_true, beq_iff_eq, decide_eq_true_eq] at h
    omega

/-- A message that sets its slot sets it to this content. -/
def kuContent (k : KuMsg) (key : Nat) (c : Cloak) : KeySlot :=
  let v := ((atD c.slots k.slot {}).version + 1) % 2 ^ 16
  if k.op = 3 then { version := v }
  else { typ := (KeyType.ofKtype k.ktype).getD .empty, origin := if k.op = 2 then 1 else 3, usage := k.usage % 32, version := v, key := key }

theorem kuCommit_slot {k : KuMsg} (key : Nat) (c : Cloak) (hop : k.op ≠ 4) (hslot : k.slot < 64) :
    (kuCommit k key c).kuCtr = k.counter ∧ (kuCommit k key c).job = c.job ∧ atD (kuCommit k key c).slots k.slot {} = kuContent k key c := by
  unfold kuCommit kuContent
  dsimp only
  rw [if_neg hop]
  split
  · exact ⟨rfl, rfl, atD_updN_same _ _ _ hslot⟩
  · exact ⟨rfl, rfl, atD_updN_same _ _ _ hslot⟩

theorem kuCommit_anchor {k : KuMsg} (key : Nat) (c : Cloak) (hop : k.op = 4) :
    (kuCommit k key c).anchor = some (Twice.of anchorBytes (leNat (k.wkey.take 32))) ∧ (kuCommit k key c).slots = c.slots := by
  unfold kuCommit
  dsimp only
  rw [if_pos hop]
  exact ⟨rfl, rfl⟩

section
variable {s : State} {m : List Byte} {key : Nat} (hup : s.up = true) (hjob : s.clk.job = some m)
include hup hjob

theorem keyJudged_refuses {r : Nat} (hjudge : kuJudge s.fuses s.fuses.kaHash s.clk m = (r, key)) (hr : r ≠ 0) :
    ∃ t, exec .keyUpdateJudged s = .next t ∧ t.clk = { s.clk with job := none, result := r, kuRefused := satInc 16 s.clk.kuRefused } :=
  ⟨_, congrArg Host.Outcome.next (State.onCloak_exec (s := s.free.2) hup _),
    (State.clkDo_clk _ s.free.2).trans (congrArg CkX.c (kuJudged_refused (c := s.clk) hjob hjudge hr))⟩

/-- An accepted message commits and raises its event. -/
theorem keyJudged_accepts (hjudge : kuJudge s.fuses s.fuses.kaHash s.clk m = (0, key)) (hrng : (kuParse m).op = 2 → s.clk.rngFail = false) :
    ∃ t n, exec .keyUpdateJudged s = .next t ∧ t.told .keyUpdate ∧ t.clk =
      { kuCommit (kuParse m) (if (kuParse m).op = 2 then drawKey (kuParse m).ktype (Config.freeValue s.fresh) else key)
          { s.clk with job := none } with result := 0, requests := n } := by
  obtain ⟨n, hn⟩ := kuJudged_accepted (free := Config.freeValue s.fresh) hjob hjudge rfl hrng
  refine ⟨_, n, congrArg Host.Outcome.next (State.onCloak_exec (s := s.free.2) hup _), State.clkDo_told hup ?_,
    (State.clkDo_clk _ s.free.2).trans (congrArg CkX.c hn)⟩
  rw [show kuJudged s.fuses s.fuses.kaHash s.free.1 s.free.2.clk = _ from hn]
  exact List.mem_singleton.mpr rfl

/-- An accepted message that sets its slot. -/
theorem keyJudged_sets (hjudge : kuJudge s.fuses s.fuses.kaHash s.clk m = (0, key)) (hrng : (kuParse m).op = 2 → s.clk.rngFail = false)
    (hop : (kuParse m).op ≠ 4) :
    ∃ t, exec .keyUpdateJudged s = .next t ∧ t.told .keyUpdate ∧ t.clk.result = 0 ∧ t.clk.job = none ∧ t.clk.kuCtr = (kuParse m).counter ∧
      atD t.clk.slots (kuParse m).slot {} = kuContent (kuParse m)
        (if (kuParse m).op = 2 then drawKey (kuParse m).ktype (Config.freeValue s.fresh) else key) s.clk := by
  obtain ⟨t, n, ht, htold, hclk⟩ := keyJudged_accepts hup hjob hjudge hrng
  obtain ⟨hctr, hnone, hslot⟩ := kuCommit_slot (if (kuParse m).op = 2 then drawKey (kuParse m).ktype (Config.freeValue s.fresh) else key)
    { s.clk with job := none } hop (kuSlot_lt (kuJudge_slot hjudge))
  refine ⟨t, ht, htold, ?_⟩
  rw [hclk]
  exact ⟨rfl, hnone, hctr, hslot⟩

end

/-! ### Pair binding (R392, R400) -/

theorem takeLeaf_none {c : Cloak} (h : 1048576 ≤ c.leaf) : takeLeaf c = none := if_pos h

theorem takeLeaf_some {c : Cloak} (h : c.leaf < 1048576) :
    ∃ n evs, takeLeaf c = some (c.leaf, { c := { c with leaf := c.leaf + 1, nRes := n }, evs := evs }) :=
  ⟨_, _, if_neg (Nat.not_le.mpr h)⟩

section
variable {s : State} {r : SeamPair} {cert : IdCert} {epk sig : List Byte} (hup : s.up = true) (hpair : s.seam.pair = some r)
  (hbound : s.clk.bound ≠ some r.peerId)

/-- The binding of the pair's key at work in Cloak. -/
def State.binding (cert : IdCert) (epk sig : List Byte) (peer : Nat) (s : State) : CkX :=
  pairBind s.fuses peer (drawKey 4 (Config.freeValue s.fresh)) cert epk sig s.clk

include hup hpair in
/-- What the device does around it leaves Cloak and the event as they are. -/
theorem bindPair_clk : (s.bindPair cert epk sig).clk = (s.binding cert epk sig r.peerId).c ∧
    ∀ e, (s.binding cert epk sig r.peerId).miss = some e → (s.bindPair cert epk sig).told e := by
  obtain ⟨a, ha⟩ : ∃ a, s.free.2.clkDo (pairBind s.fuses r.peerId (drawKey 4 s.free.1) cert epk sig) = a := ⟨_, rfl⟩
  obtain ⟨b, hb⟩ : ∃ b, (if a.clk.bound = s.clk.bound then a else { a with seam := { a.seam with genKey := s.seamKey s.seam.gen } }) = b := ⟨_, rfl⟩
  have haclk : a.clk = (s.binding cert epk sig r.peerId).c := by
    rw [← ha]
    exact State.clkDo_clk _ s.free.2
  have hbclk : b.clk = a.clk := by rw [← hb]; split <;> rfl
  have hbthk : b.thk = a.thk := by rw [← hb]; split <;> rfl
  have hbind : s.bindPair cert epk sig = if b.clk.leaf = s.clk.leaf then b
      else b.emit (.pairBind s.clk.cert (Config.ecPublic 4 (drawKey 4 s.free.1))
        (leBytes 2964 (Config.hssSign (s.clk.slot 0).key s.clk.leaf (Config.ecPublic 4 (drawKey 4 s.free.1))))) := by
    unfold State.bindPair
    rw [hpair]
    dsimp only
    rw [State.onCloak_exec (s := s.free.2) hup, ha, hb]
  have hclk : (s.bindPair cert epk sig).clk = b.clk := by rw [hbind]; split <;> rfl
  have hthk : (s.bindPair cert epk sig).thk = b.thk := by rw [hbind]; split <;> rfl
  refine ⟨hclk.trans (hbclk.trans haclk), fun e he => State.told_of_thk (hthk.trans hbthk) ?_⟩
  rw [← ha]
  exact State.clkDo_miss (s := s.free.2) hup he

include hbound in
/-- What pairing does with the peer's proof (R392): it needs keys, random values and a leaf. -/
theorem binding_cases :
    (s.clk.noKeys = true → s.binding cert epk sig r.peerId = keyMissing s.clk) ∧
    (s.clk.noKeys = false → (s.clk.rngFail = true ∨ 1048576 ≤ s.clk.leaf) →
      s.binding cert epk sig r.peerId = { c := s.clk, miss := some .notInState }) ∧
    (s.clk.noKeys = false → s.clk.rngFail = false → s.clk.leaf < 1048576 → ∃ n evs,
      ((cert.ok = false ∨ cert.devId ≠ r.peerId ∨ Config.hssVerify cert.idPk epk sig = false) →
        s.binding cert epk sig r.peerId = { c := { s.clk with leaf := s.clk.leaf + 1, nRes := n }, evs := evs }) ∧
      (cert.ok = true → cert.devId = r.peerId → Config.hssVerify cert.idPk epk sig = true →
        s.binding cert epk sig r.peerId = {
          c := { s.clk with
            leaf := s.clk.leaf + 1, nRes := n, bound := some r.peerId, requests := s.clk.requests + 1
            slots := updN s.clk.slots 2 (fun k => {
              typ := .hmac, origin := 2, usage := 18, version := (k.version + 1) % 2 ^ 16,
              key := pairKey (drawKey 4 (Config.freeValue s.fresh)) epk s.fuses.devId r.peerId }) }
          evs := evs })) := by
  unfold State.binding pairBind
  rw [if_neg hbound]
  refine ⟨fun hkeys => if_pos hkeys, fun hkeys hno => ?_, fun hkeys hrng hleaf => ?_⟩
  · rw [if_neg (by rw [hkeys]; exact Bool.false_ne_true)]
    by_cases hrng : s.clk.rngFail = true
    · rw [if_pos hrng]
    · rw [if_neg hrng, takeLeaf_none (hno.resolve_left hrng)]
  · obtain ⟨n, evs, htake⟩ := takeLeaf_some hleaf
    rw [if_neg (by rw [hkeys]; exact Bool.false_ne_true), if_neg (by rw [hrng]; exact Bool.false_ne_true), htake]
    refine ⟨n, evs, fun hbad => if_pos ?_, fun hok hid hsig => if_neg ?_⟩
    · rcases hbad with h | h | h <;> simp [h]
    · simp [hok, hid, hsig]

include hup hpair hbound in
theorem pairBinding_acts :
    (s.clk.noKeys = true → ∃ t, exec (.pairBinding cert epk sig) s = .next t ∧
      t.clk = { s.clk with keyMiss := satInc 16 s.clk.keyMiss } ∧ t.told .keyMissing) ∧
    (s.clk.noKeys = false → (s.clk.rngFail = true ∨ 1048576 ≤ s.clk.leaf) → ∃ t, exec (.pairBinding cert epk sig) s = .next t ∧
      t.clk = s.clk ∧ t.told .notInState) ∧
    (s.clk.noKeys = false → s.clk.rngFail = false → s.clk.leaf < 1048576 → cert.ok = true → cert.devId = r.peerId →
      Config.hssVerify cert.idPk epk sig = true → ∃ t, exec (.pairBinding cert epk sig) s = .next t ∧
      t.clk.bound = some r.peerId ∧ t.clk.leaf = s.clk.leaf + 1 ∧ t.clk.slots[2].typ = .hmac ∧ t.clk.slots[2].origin = 2 ∧
      t.clk.slots[2].version = (s.clk.slots[2].version + 1) % 2 ^ 16 ∧
      t.clk.slots[2].key = pairKey (drawKey 4 (Config.freeValue s.fresh)) epk s.fuses.devId r.peerId) ∧
    (s.clk.noKeys = false → s.clk.rngFail = false → s.clk.leaf < 1048576 →
      (cert.ok = false ∨ cert.devId ≠ r.peerId ∨ Config.hssVerify cert.idPk epk sig = false) →
      ∃ t, exec (.pairBinding cert epk sig) s = .next t ∧ t.clk.bound = s.clk.bound ∧ t.clk.slots = s.clk.slots ∧
        t.clk.leaf = s.clk.leaf + 1) := by
  obtain ⟨hclk, htold⟩ := bindPair_clk (cert := cert) (epk := epk) (sig := sig) hup hpair
  obtain ⟨hnone, hno, hbind⟩ := binding_cases (cert := cert) (epk := epk) (sig := sig) hbound
  refine ⟨fun hkeys => ?_, fun hkeys h => ?_, fun hkeys hrng hleaf hok hid hsig => ?_, fun hkeys hrng hleaf hbad => ?_⟩
  · rw [hnone hkeys] at hclk htold
    exact ⟨_, rfl, hclk, htold _ rfl⟩
  · rw [hno hkeys h] at hclk htold
    exact ⟨_, rfl, hclk, htold _ rfl⟩
  · obtain ⟨n, evs, -, hgood⟩ := hbind hkeys hrng hleaf
    rw [hgood hok hid hsig] at hclk
    refine ⟨_, rfl, ?_⟩
    rw [hclk]
    dsimp only
    rw [updN_same _ 2 _ (by decide)]
    exact ⟨rfl, rfl, rfl, rfl, rfl, rfl⟩
  · obtain ⟨n, evs, hrefused, -⟩ := hbind hkeys hrng hleaf
    rw [hrefused hbad] at hclk
    refine ⟨_, rfl, ?_⟩
    rw [hclk]
    exact ⟨rfl, rfl, rfl⟩

end

/-- Settles O49: the write of GO takes the message, its judgement refuses or commits it, and the pair's key is bound where the peer's proof
holds. -/
theorem cloakTakesKeys : Obligations.CloakTakesKeys := by
  unfold Obligations.CloakTakesKeys
  intro s
  refine ⟨fun hready => ⟨keyUpdateGo_takes hready, keyUpdateGo_refuses hready⟩, fun m r key hup hjob hjudge => ?_,
    fun r cert epk sig hup hpair hbound => pairBinding_acts hup hpair hbound⟩
  refine ⟨keyJudged_refuses hup hjob hjudge, fun hr hop => ?_, fun hr hop hrng => ?_, fun hr hop => ?_, fun hr hop => ?_⟩
  · subst hr
    obtain ⟨t, ht, htold, hres, hnone, hctr, hslot⟩ := keyJudged_sets hup hjob hjudge
      (fun h => absurd (hop.symm.trans h) (by decide)) (by rw [hop]; decide)
    rw [hop, if_neg (by decide)] at hslot
    refine ⟨t, ht, hres, hnone, hctr, htold, ?_⟩
    rw [hslot]
    unfold kuContent
    dsimp only
    rw [hop]
    exact ⟨rfl, rfl, rfl⟩
  · subst hr
    obtain ⟨t, ht, htold, hres, -, hctr, hslot⟩ := keyJudged_sets hup hjob hjudge (fun _ => hrng) (by rw [hop]; decide)
    rw [if_pos hop] at hslot
    refine ⟨t, ht, hres, hctr, htold, ?_⟩
    rw [hslot]
    unfold kuContent
    dsimp only
    rw [hop]
    exact ⟨rfl, rfl⟩
  · subst hr
    obtain ⟨t, ht, htold, hres, -, hctr, hslot⟩ := keyJudged_sets hup hjob hjudge
      (fun h => absurd (hop.symm.trans h) (by decide)) (by rw [hop]; decide)
    refine ⟨t, ht, hres, hctr, htold, ?_⟩
    rw [hslot]
    unfold kuContent
    dsimp only
    rw [hop]
    rfl
  · subst hr
    obtain ⟨t, n, ht, htold, hclk⟩ := keyJudged_accepts hup hjob hjudge (fun h => absurd (hop.symm.trans h) (by decide))
    obtain ⟨hanchor, hslots⟩ := kuCommit_anchor
      (if (kuParse m).op = 2 then drawKey (kuParse m).ktype (Config.freeValue s.fresh) else key) { s.clk with job := none } hop
    refine ⟨t, ht, ?_, ?_, htold⟩
    · rw [hclk]
      exact hanchor
    · rw [hclk]
      exact hslots

/-! ### Attestation (R401) -/

theorem pageOf_attCtrl : pageOf 0x20054 = some (.clk, 0x54) := by decide

/-- The word that asks for a statement on a slot. -/
theorem attWord (n : Fin 64) : field 0 6 (put 0 6 n.val + putB 6 true) = n.val ∧ bitOf 6 (put 0 6 n.val + putB 6 true) = true := refreshWord n

theorem noAttest_iff (c : Cloak) (n : Nat) :
    c.noAttest n = true ↔ (c.slot n).typ = .empty ∨ (5 ≤ n ∧ n ≤ 15) ∨ c.noKeys = true := by
  unfold Cloak.noAttest
  simp only [Bool.or_eq_true, Bool.and_eq_true, beq_iff_eq, decide_eq_true_eq, or_assoc]

section
variable {s : State} {n : Fin 64} (hready : s.HostReady 0x20054)
include hready

/-- What GO does to the device: the events of the leaf taken, and the event of its own where the slot is not one to attest. -/
theorem attCtrlWrite_eq : attCtrlWrite n.val true s = ((attWrite n.val true s.clk).1,
    if s.clk.attJob.isNone && s.clk.noAttest n.val then
      { ({ s with clk := (attWrite n.val true s.clk).2.c } : State).raises (attWrite n.val true s.clk).2.evs with
        thk := { (({ s with clk := (attWrite n.val true s.clk).2.c } : State).raises (attWrite n.val true s.clk).2.evs).thk with
          own := some .keyMissing } }
    else ({ s with clk := (attWrite n.val true s.clk).2.c } : State).raises (attWrite n.val true s.clk).2.evs) := by
  unfold attCtrlWrite
  rw [State.engines_of_serves hready.serves]
  rfl

omit hready in
theorem pageWrite_attCtrl : pageWrite .clk 0x54 (put 0 6 n.val + putB 6 true) s = some (attCtrlWrite n.val true s) := by
  show some (attCtrlWrite (field 0 6 _) (bitOf 6 _) s) = _
  rw [(attWord n).1, (attWord n).2]

theorem attestationGo_takes (hjob : s.clk.attJob = none) (htyp : (s.clk.slot n).typ ≠ .empty) (hslot : n.val < 5 ∨ 15 < n.val)
    (hkeys : s.clk.noKeys = false) (hleaf : s.clk.leaf < 1048576) :
    ∃ t, exec (.attestationGo n) s = .next t ∧ t.answered .ok [] ∧ t.clk.attSlot = n.val ∧ t.clk.attDone = false ∧ t.clk.leaf = s.clk.leaf + 1 ∧
      t.clk.attJob = some { num := n.val, slot := s.clk.slot n, kuCtr := s.clk.kuCtr, leaf := s.clk.leaf, challenge := winBytes 40 8 s.clk.att } := by
  have hattest : s.clk.noAttest n.val = false := by
    rw [← Bool.not_eq_true, noAttest_iff]
    rintro (h | h | h)
    · exact htyp h
    · omega
    · rw [hkeys] at h
      exact absurd h Bool.false_ne_true
  obtain ⟨m, evs, htake⟩ := takeLeaf_some hleaf
  have hatt : attWrite n.val true s.clk = (.ok, {
      c := { s.clk with leaf := s.clk.leaf + 1, nRes := m, attSlot := n.val, attDone := false, attJob := some {
        num := n.val, slot := s.clk.slot n.val, kuCtr := s.clk.kuCtr, leaf := s.clk.leaf, challenge := winBytes 40 8 s.clk.att } }
      evs := evs }) := by
    unfold attWrite
    rw [hjob, hattest, htake]
    rfl
  have hwrite := attCtrlWrite_eq hready (n := n)
  rw [hatt, hattest, Bool.and_false, if_neg Bool.false_ne_true] at hwrite
  obtain ⟨k, hk⟩ := State.hostWrite_done 0x20054 _ _ _ s _ hready (by decide) pageOf_attCtrl
    (pageWrite_attCtrl.trans (congrArg some hwrite))
  refine ⟨_, hk, State.answered_append .., ?_⟩
  dsimp only
  rw [State.raises_clk]
  exact ⟨rfl, rfl, rfl, rfl⟩

theorem attestationGo_busy (h : s.clk.attJob.isSome = true ∨ s.clk.noAttest n = false ∧ 1048576 ≤ s.clk.leaf) :
    ∃ t, exec (.attestationGo n) s = .next t ∧ t.clk = s.clk ∧ t.answered .notInState [] := by
  have hatt : attWrite n.val true s.clk = (.notInState, { c := s.clk }) := by
    unfold attWrite
    rw [if_neg (by decide)]
    by_cases hjob : s.clk.attJob.isSome = true
    · rw [if_pos hjob]
    · obtain ⟨hattest, hleaf⟩ := h.resolve_left hjob
      rw [if_neg hjob, if_neg (by rw [hattest]; exact Bool.false_ne_true), takeLeaf_none hleaf]
  have hnot : (s.clk.attJob.isNone && s.clk.noAttest n.val) = false := by
    rcases h with h | h
    · cases hjob : s.clk.attJob with
      | none => rw [hjob] at h; exact absurd h Bool.false_ne_true
      | some j => rfl
    · rw [h.1, Bool.and_false]
  have hwrite := attCtrlWrite_eq hready (n := n)
  rw [hatt, hnot, if_neg Bool.false_ne_true] at hwrite
  exact ⟨_, State.hostWrite_refusal 0x20054 _ _ _ s .notInState hready (by decide) pageOf_attCtrl (by decide)
    (pageWrite_attCtrl.trans (congrArg some hwrite)), State.judged_clk .., State.answered_emit ..⟩

theorem attestationGo_misses (hjob : s.clk.attJob = none)
    (h : (s.clk.slot n).typ = .empty ∨ (5 ≤ n.val ∧ n.val ≤ 15) ∨ s.clk.noKeys = true) :
    ∃ t, exec (.attestationGo n) s = .next t ∧ t.clk = { s.clk with keyMiss := satInc 16 s.clk.keyMiss } ∧ t.answered .notInState [] ∧
      t.told .keyMissing := by
  have hattest : s.clk.noAttest n.val = true := (noAttest_iff ..).mpr h
  have hatt : attWrite n.val true s.clk = (.notInState, { c := { s.clk with keyMiss := satInc 16 s.clk.keyMiss } }) := by
    unfold attWrite
    rw [hjob, hattest]
    rfl
  have hwrite := attCtrlWrite_eq hready (n := n)
  rw [hatt, hattest, hjob, Option.isNone_none, Bool.true_and, if_pos rfl] at hwrite
  refine ⟨_, congrArg Host.Outcome.next (State.hostWrite_refuses (st := .notInState) hready (by decide) pageOf_attCtrl (by decide)
    (pageWrite_attCtrl.trans (congrArg some hwrite))), State.judged_clk .., State.answered_emit .., ?_⟩
  exact State.judged_notInState_told 0x20054 _ hready.up

end

/-- Settles O50: GO takes a statement, or is refused; the source of random values stops, recovers and is reseeded. -/
theorem cloakAttests : Obligations.CloakAttests := by
  unfold Obligations.CloakAttests
  intro s
  refine ⟨fun n hready => ⟨attestationGo_takes hready, attestationGo_busy hready, attestationGo_misses hready⟩,
    fun hup => ⟨fun j hj => ?_, ?_, fun n hfail hmany => ?_, fun n hfail hfew => ?_, fun hrng hdue => ?_⟩⟩
  · have hdone : attDone s.fuses s.clk = { s.clk with
        attJob := none, attDone := true
        att := winPut 0 (attBody s.fuses.devId j ++ leBytes 2964 (Config.hssSign (s.clk.slot 0).key j.leaf (attBody s.fuses.devId j))) s.clk.att } := by
      unfold attDone
      rw [hj]
    refine ⟨_, congrArg Host.Outcome.next (State.onCloak_exec hup _), ?_⟩
    rw [State.clkDo_quiet, hdone]
    exact ⟨rfl, rfl, rfl⟩
  · exact congrArg Host.Outcome.next (State.onCloak_exec hup _)
  · refine congrArg Host.Outcome.next ((State.onCloak_exec hup _).trans ((State.clkDo_quiet ..).trans ?_))
    unfold rngRecover
    rw [if_neg (by rw [hfail]; decide), if_pos hmany]
  · refine congrArg Host.Outcome.next ((State.onCloak_exec hup _).trans ((State.clkDo_quiet ..).trans ?_))
    unfold rngRecover
    rw [if_neg (by rw [hfail]; decide), if_neg (Nat.not_le.mpr hfew)]
  · refine congrArg Host.Outcome.next ((State.onCloak_exec hup _).trans ((State.clkDo_quiet ..).trans ?_))
    unfold drbgReseed
    rw [if_pos ⟨hrng, hdue⟩]

end Sys2Proof.Machine
end

section
/-! ## The loader's start (O51: `LoaderStarts`) -/

namespace Sys2Proof.Machine

/-- The rest of the image does not pass (the flash is empty) in the Gaiter cycle in which a RESUME led from CLEARING to RUN: as in
`resumedThenTripped`, `Gaiter.low` keeps what stood before the RESUME, and a cause that goes before it takes it back. -/
def resumedThenRefused : State :=
  { mono := 1000000, rst := { hold := none, refOk := true }, img := { st := .rest },
    gtr := { st := .run,
             low := some { rank := 6, st := .clearing, trip := true, cause := {}, softAt := 0, softLimit := 0, clrAt := 0 } } }

theorem resumedThenRefused_whole :
    resumedThenRefused.img.wholeOf resumedThenRefused.fuses resumedThenRefused.imgAnchor resumedThenRefused.img.slot false =
      .error { reason := 1, part := 0, off := 0 } := rfl

theorem resumedThenRefused_fails : (State.restFails true resumedThenRefused).gtr.st = .clearing := by decide +kernel

/-- Refutes O51: in `resumedThenRefused` the refused rest of the image takes the RESUME back, so the site is in CLEARING, not in SOFT. -/
theorem not_loaderStarts : ¬ Obligations.LoaderStarts := by
  unfold Obligations.LoaderStarts
  intro h
  obtain ⟨-, hrefused, -⟩ := h.2 resumedThenRefused (by decide)
  obtain ⟨t, ht, -, -, -, -, -, hsoft⟩ := hrefused _ rfl resumedThenRefused_whole
  have hexec : exec (.restRefused true) resumedThenRefused = .next (State.restFails true resumedThenRefused) :=
    congrArg Host.Outcome.next (State.onlyIf_of (by decide) _ resumedThenRefused)
  have hclearing : t.gtr.st = .clearing := by
    rw [← Host.Outcome.next.inj (hexec.symm.trans ht)]
    exact resumedThenRefused_fails
  rw [(hsoft rfl rfl rfl).1] at hclearing
  cases hclearing

end Sys2Proof.Machine
end

section
/-! ## The image operations of a host (O52: `ImageOperationsAct`) -/

namespace Sys2Proof.Machine

/-! ### The erased part of a slot -/

/-- In canonical form no stored byte is an erased one, so a page whose bytes all read as erased holds no stored byte (R427). -/
theorem pageErased_of_get {m : Store} {page : Nat} (hwf : Store.wf m = true)
    (herased : ∀ j < 4096, Store.get m (page * 4096 + j) = 0xFF) : pageErased m page = true := by
  obtain ⟨hbytes, hsorted⟩ := (Store.wf_iff m).1 hwf
  refine List.all_eq_true.2 fun c hc => ?_
  rw [Bool.or_eq_true, decide_eq_true_eq, decide_eq_true_eq]
  by_contra hin
  rw [not_or] at hin
  obtain ⟨hlow, hhigh⟩ := hin
  unfold pageSize at hlow hhigh
  have hread := herased (c.1 - page * 4096) (by omega)
  rw [show page * 4096 + (c.1 - page * 4096) = c.1 by omega] at hread
  have hfind : m.find? (fun d => d.1 == c.1) = some c := by
    obtain ⟨d, hd⟩ : ∃ d, m.find? (fun d => d.1 == c.1) = some d :=
      Option.isSome_iff_exists.1 (List.find?_isSome.2 ⟨c, hc, beq_self_eq_true _⟩)
    have hsame : d.1 = c.1 := by simpa using List.find?_some hd
    rw [hd, Option.some.injEq]
    by_contra hne
    have hlt := List.pairwise_iff_getElem.1 hsorted
    obtain ⟨i, hi, rfl⟩ := List.getElem_of_mem (List.mem_of_find?_eq_some hd)
    obtain ⟨j, hj, rfl⟩ := List.getElem_of_mem hc
    rcases Nat.lt_trichotomy i j with hij | rfl | hij
    · exact absurd hsame (Nat.ne_of_lt (hlt i j hi hj hij))
    · exact hne rfl
    · exact absurd hsame (Nat.ne_of_gt (hlt j i hj hi hij))
  unfold Store.get at hread
  rw [hfind] at hread
  exact hbytes c hc hread

theorem not_pageErased_of_get {m : Store} {page j : Nat} (hj : j < 4096) (hread : Store.get m (page * 4096 + j) ≠ 0xFF) :
    pageErased m page = false := by
  rw [Bool.eq_false_iff]
  intro hall
  apply hread
  unfold Store.get
  rw [List.find?_eq_none.2 fun c hc heq => ?_]
  · rfl
  · have hout := List.all_eq_true.1 hall c hc
    rw [beq_iff_eq] at heq
    rw [Bool.or_eq_true, decide_eq_true_eq, decide_eq_true_eq, heq] at hout
    unfold pageSize at hout
    omega

/-- What a write of bytes gives back where they were written. -/
theorem Store.read_write (m : Store) (a : Nat) (bs : List Byte) {n : Nat} (hlen : bs.length = n) :
    Store.read (Store.write m a bs) a n = bs := by
  subst hlen
  apply List.ext_getElem
  · simp only [Store.read, List.length_map, List.length_range]
  · intro i hi hi'
    simp only [Store.read, List.getElem_map, List.getElem_range]
    rw [Store.get_write, dif_pos ⟨by omega, by omega⟩]
    simp only [Nat.add_sub_cancel_left]

/-- What a write of bytes leaves outside them. -/
theorem Store.get_write_outside (m : Store) {a k : Nat} (bs : List Byte) (hout : k < a ∨ a + bs.length ≤ k) :
    Store.get (Store.write m a bs) k = Store.get m k := by
  rw [Store.get_write, dif_neg (by omega)]

theorem winBytes_length (o n : Nat) (m : List (Nat × Nat)) : (winBytes o n m).length = 4 * n := by
  unfold winBytes
  rw [List.length_flatMap]
  simp only [leBytes_length, List.map_const', List.sum_replicate, List.length_range, smul_eq_mul]
  omega

theorem winPage_length (l : Loader) : l.winPage.length = 4096 := winBytes_length 0 1024 l.win

theorem flash_set_same (v : Vector Store 2) (k : Fin 2) (x : Store) : (v.set k x)[k] = x := by
  rw [vec_get_set, if_pos rfl]

theorem otherSlot_ne (k : Fin 2) : otherSlot k ≠ k := by revert k; decide

theorem flag_set_same (v : Vector Bool 2) (k : Fin 2) (b : Bool) : (v.set k b)[k] = b := Vector.getElem_set_self _

/-! ### The loader's answer to an image operation -/

theorem State.hostCommand_refuses (a : Nat) (f : State → Status × State) (s t : State) (st : Status) (h : s.HostReady a)
    (hs : st ≠ .ok) (hf : f s = (st, t)) : s.hostCommand a f = (t.judged st a).emit (.done st []) := by
  unfold State.hostCommand
  simp only [h.up, h.serves, h.code, h.present, hf, Bool.not_true, Bool.false_eq_true, if_false, stored, hs]
  rfl

section
variable {s : State} (hready : s.HostReady 0x70)
include hready

theorem State.imgOp_ok {f : State → Status × Loader} {l : Loader} (hf : f s = (.ok, l)) :
    ∃ t, s.imgOp f = t ∧ t.answered .ok [] ∧ t.img = l := by
  obtain ⟨k, hk⟩ := State.hostCommand_ok 0x70 (fun s => ((f s).1, s.imgPut (f s).2)) s (s.imgPut l) hready (by simp only [hf])
  exact ⟨_, hk, List.getLast?_concat, rfl⟩

theorem State.imgOpFree_ok {f : List Byte → State → Status × Loader} {l : Loader}
    (hf : f (leBytes 4096 s.free.1) s = (.ok, l)) : ∃ t, s.imgOpFree f = t ∧ t.answered .ok [] ∧ t.img = l := by
  obtain ⟨k, hk⟩ := State.hostCommand_ok 0x70
    (fun s => ((f (leBytes 4096 s.free.1) s).1, s.free.2.imgPut (f (leBytes 4096 s.free.1) s).2)) s (s.free.2.imgPut l) hready
    (by simp only [hf])
  exact ⟨_, hk, List.getLast?_concat, rfl⟩

theorem State.imgOp_refused {f : State → Status × Loader} (hf : f s = (.notInState, s.img)) :
    ∃ t, s.imgOp f = t ∧ t.img = s.img ∧ t.answered .notInState [] := by
  refine ⟨_, State.hostCommand_refuses 0x70 (fun s => ((f s).1, s.imgPut (f s).2)) s (s.imgPut s.img) .notInState hready
    (by decide) (by simp only [hf]), ?_, State.answered_emit ..⟩
  exact State.judged_img _ _ _

theorem State.imgOpFree_refused {f : List Byte → State → Status × Loader}
    (hf : f (leBytes 4096 s.free.1) s = (.notInState, s.img)) :
    ∃ t, s.imgOpFree f = t ∧ t.img = s.img ∧ t.answered .notInState [] := by
  refine ⟨_, State.hostCommand_refuses 0x70
    (fun s => ((f (leBytes 4096 s.free.1) s).1, s.free.2.imgPut (f (leBytes 4096 s.free.1) s).2)) s (s.free.2.imgPut s.img)
    .notInState hready (by decide) (by simp only [hf]), ?_, State.answered_emit ..⟩
  exact State.judged_img _ _ _

end

/-! ### The operations, a lemma per branch of Table 15.9 -/

section
variable {l : Loader} {k : Fin 2}

theorem imgErase_refused (h : (l.opBlocked || l.inUse k) = true) : imgErase k l = (.notInState, l) := by
  rw [imgErase, if_pos h]

theorem imgSelect_unchecked {verify : Bool} {free : List Byte} (h : l.mram.checked[k] = false) :
    imgSelect k verify free l = (.notInState, l) := by
  rw [imgSelect, if_pos (by rw [h, Bool.not_false, Bool.or_true])]

theorem imgCheck_passes {f : Fuses} {anchor : Nat} {x : LeafOk × RecsOk} (hfree : l.opBlocked = false)
    (hwhole : l.wholeOf f anchor k true = .ok x) :
    imgCheck f anchor true k l = (.ok, { l.busy .check { result := some 0 } with
      mram := { l.mram with bad := l.mram.bad.set k false, checked := l.mram.checked.set k true } }) := by
  have hreason : checkReason f anchor true k l = 0 := by rw [checkReason, if_pos rfl, hwhole]
  rw [imgCheck, hfree, if_neg Bool.false_ne_true, hreason]
  exact if_pos rfl

theorem imgCheck_fails {f : Fuses} {anchor : Nat} {e : ImgBad} (hfree : l.opBlocked = false)
    (hwhole : l.wholeOf f anchor k true = .error e) (hne : e.reason ≠ 0) :
    imgCheck f anchor true k l = (.ok, l.busy .check { failed := true, result := some e.reason }) := by
  have hreason : checkReason f anchor true k l = e.reason := by rw [checkReason, if_pos rfl, hwhole]
  rw [imgCheck, hfree, if_neg Bool.false_ne_true, hreason]
  exact if_neg hne

theorem imgSelect_plain {verify : Bool} {free : List Byte} (hfree : l.opBlocked = false) (hchecked : l.mram.checked[k] = true)
    (hstaged : l.mram.staged = none) :
    imgSelect k verify free l = (.ok, { l.busy .select {} with mram := { l.mram with sel := some k } }) := by
  unfold imgSelect
  rw [hfree, hchecked, hstaged]
  rfl

/-- SELECT of a slot whose page 0 is staged: the page is written first, then the slot is named (R427, R428). -/
theorem imgSelect_staged {free pg : List Byte} (hfree : l.opBlocked = false) (hchecked : l.mram.checked[k] = true)
    (hstaged : l.mram.staged = some (k, pg)) (herased : pageErased l.flash[k] 0 = true) :
    ∃ l', imgSelect k true free l = (.ok, l') ∧ l'.mram.sel = some k ∧ l'.mram.staged = none ∧
      l'.flash = l.flash.set k (Store.write l.flash[k] 0 pg) := by
  refine ⟨{ l.busy .select {} with
    flash := l.flash.set k (Store.write l.flash[k] 0 pg), mram := { l.mram with sel := some k, staged := none } }, ?_, rfl, rfl, rfl⟩
  unfold imgSelect
  rw [hfree, hchecked, hstaged]
  dsimp only
  rw [if_neg (by decide), if_neg (fun h => h rfl), herased]
  rfl

section
variable (hfree : l.opBlocked = false) (hidle : l.inUse k = false)
include hfree hidle

theorem imgErase_free : imgErase k l = (.ok, { l.busy .erase {} with
    flash := l.flash.set k []
    mram := { l.mram with
      bad := l.mram.bad.set k false
      checked := l.mram.checked.set k false
      sel := if l.mram.sel = some k then none else l.mram.sel
      staged := match l.mram.staged with
        | some (x, p) => if x = k then none else some (x, p)
        | none => none } }) := by
  unfold imgErase
  rw [hfree, hidle]
  rfl

theorem imgProg_staged {free : List Byte} (hpage : l.page = 0) : imgProg k true free l =
    (.ok, { l.busy .prog {} with
      mram := { l.mram with checked := l.mram.checked.set k false, staged := some (k, l.winPage) } }) := by
  unfold imgProg
  rw [hfree, hidle, hpage]
  rfl

theorem imgProg_written {free : List Byte} (hpage : 0 < l.page) (herased : pageErased l.flash[k] l.page = true) :
    imgProg k true free l =
    (.ok, { l.busy .prog {} with
      mram := { l.mram with checked := l.mram.checked.set k false }
      flash := l.flash.set k (Store.write l.flash[k] (l.page * 4096) l.winPage) }) := by
  unfold imgProg
  rw [hfree, hidle]
  dsimp only
  rw [if_neg (by decide), if_neg (Nat.ne_of_gt hpage), if_pos herased, if_pos rfl, if_pos rfl, show pageSize = 4096 from rfl]

theorem imgProg_notErased {free : List Byte} (hpage : 0 < l.page) (hused : pageErased l.flash[k] l.page = false) :
    imgProg k true free l =
    (.ok, { l.busy .prog { failed := true, result := some 13 } with
      mram := { l.mram with checked := l.mram.checked.set k false } }) := by
  unfold imgProg
  rw [hfree, hidle]
  dsimp only
  rw [if_neg (by decide), if_neg (Nat.ne_of_gt hpage), if_neg (ne_true_of_eq_false hused)]

end

end

/-! ### The operations as commands -/

section
variable {s : State} {k : Fin 2} (hready : s.HostReady 0x70)
include hready

theorem exec_imageErase_refused (h : (s.img.opBlocked || s.img.inUse k) = true) :
    ∃ t, exec (.imageErase k) s = .next t ∧ t.img = s.img ∧ t.answered .notInState [] := by
  obtain ⟨t, ht, himg⟩ := State.imgOp_refused hready (f := fun s => imgErase k s.img) (imgErase_refused h)
  exact ⟨t, congrArg Host.Outcome.next ht, himg⟩

theorem exec_imageErase (hfree : s.img.opBlocked = false) (hidle : s.img.inUse k = false) :
    ∃ t, exec (.imageErase k) s = .next t ∧ t.answered .ok [] ∧ t.img.opState = 1 ∧
      (∀ a, Store.get t.img.flash[k] a = 0xFF) ∧ t.img.flash[otherSlot k] = s.img.flash[otherSlot k] ∧ t.img.mram.bad[k] = false ∧
      t.img.mram.checked[k] = false ∧ t.img.mram.sel ≠ some k := by
  obtain ⟨t, ht, hans, himg⟩ := State.imgOp_ok hready (f := fun s => imgErase k s.img) (imgErase_free hfree hidle)
  refine ⟨t, congrArg Host.Outcome.next ht, hans, ?_⟩
  rw [himg]
  refine ⟨rfl, fun a => ?_, flash_set_other (otherSlot_ne k) _ _, flag_set_same _ k _, flag_set_same _ k _, ?_⟩
  · exact congrArg (Store.get · a) (flash_set_same s.img.flash k [])
  · dsimp only
    split
    · exact nofun
    · assumption

theorem exec_imageProg_staged (hfree : s.img.opBlocked = false) (hidle : s.img.inUse k = false) (hpage : s.img.page = 0) :
    ∃ t, exec (.imageProg k true) s = .next t ∧ t.answered .ok [] ∧ t.img.mram.staged = some (k, s.img.winPage) ∧
      t.img.flash = s.img.flash ∧ t.img.mram.checked[k] = false := by
  obtain ⟨t, ht, hans, himg⟩ := State.imgOpFree_ok hready (f := fun bs s => imgProg k true bs s.img) (imgProg_staged hfree hidle hpage)
  refine ⟨t, congrArg Host.Outcome.next ht, hans, ?_⟩
  rw [himg]
  exact ⟨rfl, rfl, flag_set_same _ k _⟩

theorem exec_imageProg_written (hfree : s.img.opBlocked = false) (hidle : s.img.inUse k = false) (hpage : 0 < s.img.page)
    (herased : ∀ j < 4096, Store.get s.img.flash[k] (s.img.page * 4096 + j) = 0xFF) (hflash : flashOk s.img) :
    ∃ t, exec (.imageProg k true) s = .next t ∧ t.answered .ok [] ∧
      Store.read t.img.flash[k] (s.img.page * 4096) 4096 = s.img.winPage ∧
      (∀ a, a < s.img.page * 4096 ∨ (s.img.page + 1) * 4096 ≤ a → Store.get t.img.flash[k] a = Store.get s.img.flash[k] a) ∧
      t.img.flash[otherSlot k] = s.img.flash[otherSlot k] ∧ t.img.mram.checked[k] = false := by
  obtain ⟨t, ht, hans, himg⟩ := State.imgOpFree_ok hready (f := fun bs s => imgProg k true bs s.img)
    (imgProg_written hfree hidle hpage (pageErased_of_get (hflash k) herased))
  have hpg := congrArg (fun l : Loader => l.flash[k]) himg
  dsimp only at hpg
  rw [flash_set_same] at hpg
  refine ⟨t, congrArg Host.Outcome.next ht, hans, ?_, fun a ha => ?_, ?_, ?_⟩
  · rw [hpg]
    exact Store.read_write _ _ _ (winPage_length _)
  · rw [hpg]
    exact Store.get_write_outside _ _ (by rw [winPage_length]; omega)
  · rw [himg]
    exact flash_set_other (otherSlot_ne k) _ _
  · rw [himg]
    exact flag_set_same _ k _

theorem exec_imageProg_notErased (hfree : s.img.opBlocked = false) (hidle : s.img.inUse k = false) (hpage : 0 < s.img.page)
    (hused : ∃ j < 4096, Store.get s.img.flash[k] (s.img.page * 4096 + j) ≠ 0xFF) :
    ∃ t, exec (.imageProg k true) s = .next t ∧ t.img.flash = s.img.flash ∧
      t.img.op = some (.prog, { failed := true, result := some 13 }) := by
  obtain ⟨j, hj, hread⟩ := hused
  obtain ⟨t, ht, -, himg⟩ := State.imgOpFree_ok hready (f := fun bs s => imgProg k true bs s.img)
    (imgProg_notErased hfree hidle hpage (not_pageErased_of_get hj hread))
  refine ⟨t, congrArg Host.Outcome.next ht, ?_⟩
  rw [himg]
  exact ⟨rfl, rfl⟩

theorem exec_imageCheck_passes (hfree : s.img.opBlocked = false) {x : LeafOk × RecsOk}
    (hwhole : s.img.wholeOf s.fuses s.imgAnchor k true = .ok x) :
    ∃ t, exec (.imageCheck k true) s = .next t ∧ t.answered .ok [] ∧
      t.img.mram.checked[k] = true ∧ t.img.mram.bad[k] = false ∧ t.img.op = some (.check, { result := some 0 }) ∧
      t.img.flash = s.img.flash := by
  obtain ⟨t, ht, hans, himg⟩ := State.imgOp_ok hready (f := fun s => imgCheck s.fuses s.imgAnchor true k s.img)
    (imgCheck_passes hfree hwhole)
  refine ⟨t, congrArg Host.Outcome.next ht, hans, ?_⟩
  rw [himg]
  exact ⟨flag_set_same _ k _, flag_set_same _ k _, rfl, rfl⟩

theorem exec_imageCheck_fails (hfree : s.img.opBlocked = false) {e : ImgBad}
    (hwhole : s.img.wholeOf s.fuses s.imgAnchor k true = .error e) (hne : e.reason ≠ 0) :
    ∃ t, exec (.imageCheck k true) s = .next t ∧ t.answered .ok [] ∧
      t.img.op = some (.check, { failed := true, result := some e.reason }) ∧ t.img.mram = s.img.mram := by
  obtain ⟨t, ht, hans, himg⟩ := State.imgOp_ok hready (f := fun s => imgCheck s.fuses s.imgAnchor true k s.img)
    (imgCheck_fails hfree hwhole hne)
  refine ⟨t, congrArg Host.Outcome.next ht, hans, ?_⟩
  rw [himg]
  exact ⟨rfl, rfl⟩

theorem exec_imageSelect_unchecked (hunchecked : s.img.mram.checked[k] = false) :
    ∃ t, exec (.imageSelect k true) s = .next t ∧ t.img = s.img ∧ t.answered .notInState [] := by
  obtain ⟨t, ht, himg⟩ := State.imgOpFree_refused hready (f := fun bs s => imgSelect k true bs s.img) (imgSelect_unchecked hunchecked)
  exact ⟨t, congrArg Host.Outcome.next ht, himg⟩

theorem exec_imageSelect_plain (hfree : s.img.opBlocked = false) (hchecked : s.img.mram.checked[k] = true)
    (hstaged : s.img.mram.staged = none) :
    ∃ t, exec (.imageSelect k true) s = .next t ∧ t.answered .ok [] ∧ t.img.mram.sel = some k ∧ t.img.flash = s.img.flash := by
  obtain ⟨t, ht, hans, himg⟩ := State.imgOpFree_ok hready (f := fun bs s => imgSelect k true bs s.img)
    (imgSelect_plain hfree hchecked hstaged)
  refine ⟨t, congrArg Host.Outcome.next ht, hans, ?_⟩
  rw [himg]
  exact ⟨rfl, rfl⟩

theorem exec_imageSelect_staged (hfree : s.img.opBlocked = false) {pg : List Byte} (hchecked : s.img.mram.checked[k] = true)
    (hstaged : s.img.mram.staged = some (k, pg)) (hlen : pg.length = 4096) (hflash : flashOk s.img)
    (herased : ∀ j < 4096, Store.get s.img.flash[k] j = 0xFF) :
    ∃ t, exec (.imageSelect k true) s = .next t ∧ t.answered .ok [] ∧ t.img.mram.sel = some k ∧ t.img.mram.staged = none ∧
      Store.read t.img.flash[k] 0 4096 = pg := by
  have hpage : pageErased s.img.flash[k] 0 = true :=
    pageErased_of_get (hflash k) fun j hj => by rw [Nat.zero_mul, Nat.zero_add]; exact herased j hj
  obtain ⟨l, hselect, hsel, hnone, hpg⟩ := imgSelect_staged (free := leBytes 4096 s.free.1) hfree hchecked hstaged hpage
  obtain ⟨t, ht, hans, himg⟩ := State.imgOpFree_ok hready (f := fun bs s => imgSelect k true bs s.img) hselect
  refine ⟨t, congrArg Host.Outcome.next ht, hans, himg ▸ hsel, himg ▸ hnone, ?_⟩
  rw [himg, hpg, flash_set_same]
  exact Store.read_write _ _ _ hlen

theorem exec_imageOpDone {o : ImgOp} {e : OpEnd} (hop : s.img.op = some (o, e)) : exec .imageOpDone s =
    .next { s with
      img := { s.img with op := none, opState := (if e.failed then 3 else 2), result := e.result.getD s.img.result } } := by
  have hdone : imgOpDone s.img =
      { s.img with op := none, opState := (if e.failed then 3 else 2), result := e.result.getD s.img.result } := by
    unfold imgOpDone
    rw [hop]
  exact congrArg Host.Outcome.next
    ((State.onlyIf_of hready.up _ s).trans (congrArg (fun l => { s with img := l }) hdone))

end

/-- Settles O52: each operation by its lemma, from the loader's answer in Table 15.9. -/
theorem imageOperationsAct : Obligations.ImageOperationsAct := by
  unfold Obligations.ImageOperationsAct
  intro s k hready
  refine ⟨fun h => ?_, fun _ h => ?_, exec_imageErase hready, fun hfree hidle => ⟨?_, ?_, ?_⟩, fun hfree => ⟨?_, ?_⟩, fun hfree => ⟨?_, ?_, ?_⟩,
    fun _ _ => exec_imageOpDone hready⟩
  · exact exec_imageErase_refused hready (by rw [h, Bool.true_or])
  · exact exec_imageErase_refused hready (by rw [h, Bool.or_true])
  · exact exec_imageProg_staged hready hfree hidle
  · exact exec_imageProg_written hready hfree hidle
  · exact exec_imageProg_notErased hready hfree hidle
  · exact fun _ => exec_imageCheck_passes hready hfree
  · exact fun _ => exec_imageCheck_fails hready hfree
  · exact exec_imageSelect_unchecked hready
  · exact exec_imageSelect_plain hready hfree
  · exact fun _ => exec_imageSelect_staged hready hfree

end Sys2Proof.Machine
end

section
/-! ## Sources that reset the device at once (O53: `ResetsBegin`) -/

namespace Sys2Proof.Machine

/-- A running Gaiter whose `low` keeps CLEARING under a rank that a soft request of kind 6 goes before. The rules of R204 write a lower
rank there; the statement, over every state, does not bound the field. -/
def clearingKeptLow : State :=
  { mono := 1000000, rst := { hold := none, refOk := true },
    gtr := { st := .run,
             low := some { rank := 7, st := .clearing, trip := true, cause := {}, softAt := 0, softLimit := 0, clrAt := 0 } } }

theorem clearingKeptLow_written : (clearingKeptLow.hostWrite 0x2004 0xA5C30001).gtr.st = .clearing := by decide +kernel

/-- Refutes O53: in `clearingKeptLow` the soft request of the host's deferred system reset brings back what `Gaiter.low` keeps, so the
site is in CLEARING, not in SOFT. -/
theorem not_resetsBegin : ¬ Obligations.ResetsBegin := by
  unfold Obligations.ResetsBegin
  intro h
  obtain ⟨-, -, -, -, -, -, -, -, -, hwrite⟩ := h clearingKeptLow
  obtain ⟨-, hsys, -⟩ := hwrite 0xA5C30001 ⟨by decide, by decide, by decide, by decide⟩
  obtain ⟨t, ht, -, hsoft, -⟩ := (hsys (by decide) (by decide)).2.2 rfl rfl rfl rfl
  have hexec : exec (.resetSysWrite 0xA5C30001) clearingKeptLow = .next (clearingKeptLow.hostWrite 0x2004 0xA5C30001) := rfl
  have hclearing : t.gtr.st = .clearing := by
    rw [← Host.Outcome.next.inj (hexec.symm.trans ht)]
    exact clearingKeptLow_written
  rw [hsoft] at hclearing
  cases hclearing

end Sys2Proof.Machine
end

section
/-! ## Deferred system resets and the release sequence (O54: `ResetsWait`) -/

namespace Sys2Proof.Machine

/-! ### A core reset with a system reset pending (R433) -/

theorem State.up_of_free {s : State} (h : s.rst.hold = none) : s.up = true := by
  unfold State.up
  rw [h]

theorem State.coreHold_free {s : State} (src : Nat) (h : s.rst.hold = none) : s.coreHold src =
    { s with
      gld := s.gld.count src
      slvCtr := { s.slvCtr with next := s.slvCtr.top }
      rst := { s.rst with hold := some { level := 2, src := src, at_ := s.mono } }
      mb := { s.mb with bus := s.mb.bus.map MBus.dropAnnounces } } := by
  unfold State.coreHold
  dsimp only
  rw [h]
  rfl

/-- A source of a deferred reset that fires while nothing is held: a core reset begins, and the system reset waits. -/
theorem State.pendReset_free {s : State} (src cause : Nat) {p : PendReset} (h : s.rst.hold = none)
    (hp : p = s.rst.pend.getD { src := src, at_ := s.mono }) : s.pendReset src cause =
    { s with
      gld := s.gld.count src
      rst := { s.rst with
        hold := some { level := 2, src := src, at_ := s.mono }, coresOut := true
        pend := some { p with causes := p.causes ||| 2 ^ cause } }
      slvCtr := { s.slvCtr with next := s.slvCtr.top }
      mb := { s.mb with bus := s.mb.bus.map MBus.dropAnnounces } } := by
  subst hp
  unfold State.pendReset
  rw [State.up_of_free h, Bool.not_true, if_neg Bool.false_ne_true, State.coreHold_free src h]

theorem exec_watchdogExpiry {s : State} (h : s.rst.hold = none) (app : Bool) {p : PendReset}
    (hp : p = s.rst.pend.getD { src := 4, at_ := s.mono }) : exec (.watchdogExpiry app) s =
      .next { s with
        gld := s.gld.count 4
        rst := { s.rst with
          hold := some { level := 2, src := 4, at_ := s.mono }, coresOut := true
          pend := some { p with causes := p.causes ||| (if app then 4 else 2) } }
        slvCtr := { s.slvCtr with next := s.slvCtr.top }
        mb := { s.mb with bus := s.mb.bus.map MBus.dropAnnounces } } := by
  cases app with
  | false => exact congrArg Host.Outcome.next (State.pendReset_free 4 1 h hp)
  | true => exact congrArg Host.Outcome.next (State.pendReset_free 4 2 h hp)

/-! ### Clocks that fail (R437, R443) -/

/-- Outside a reset a clock failure is marked, and source 7 makes a core reset with a system reset pending. -/
theorem State.clockFails_free {s : State} {m : Nat} (h : s.rst.hold = none) (hm : m ≠ 0) :
    ∃ p, s.clockFails m =
      { s with
        gld := s.gld.count 7
        rst := { s.rst.clocksFail m with hold := some { level := 2, src := 7, at_ := s.mono }, coresOut := true, pend := some p }
        slvCtr := { s.slvCtr with next := s.slvCtr.top }
        mb := { s.mb with bus := s.mb.bus.map MBus.dropAnnounces } } := by
  have hhold : (s.rst.clocksFail m).hold = none := by
    unfold Rst.clocksFail
    split
    · exact h
    · exact h
  unfold State.clockFails
  rw [if_neg hm, State.up_of_free h, if_pos rfl]
  exact ⟨_, State.pendReset_free (s := { s with rst := s.rst.clocksFail m }) 7 _ hhold rfl⟩

theorem exec_clockFailure_reference {s : State} {m : Fin 16} (h : s.rst.hold = none) (hm : bitOf 0 m = true) :
    ∃ t, exec (.clockFailure m) s = .next t ∧ t.rst.fail = s.rst.fail ||| 1 ∧ t.rst.refOk = false ∧
      (∀ k : Fin 3, t.rst.lock[k] = false) ∧ t.rst.hold = some { level := 2, src := 7, at_ := s.mono } ∧ t.rst.pend.isSome = true ∧
      t.gld = s.gld.count 7 := by
  have hne : (m : Nat) ≠ 0 := fun h0 => by rw [h0] at hm; exact absurd hm (by decide)
  obtain ⟨p, hfails⟩ := State.clockFails_free h hne
  have hrst : s.rst.clocksFail m = { s.rst with fail := s.rst.fail ||| 1, refOk := false, lock := Vector.replicate 3 false } := if_pos hm
  rw [hrst] at hfails
  exact ⟨_, congrArg Host.Outcome.next hfails, rfl, rfl, fun k => Vector.getElem_replicate k.isLt, rfl, rfl, rfl⟩

theorem exec_clockFailure_pll {s : State} {k : Fin 3} {m : Fin 16} (h : s.rst.hold = none) (hm : m.val = 2 ^ (k.val + 1)) :
    ∃ t, exec (.clockFailure m) s = .next t ∧ t.rst.fail = s.rst.fail ||| 2 ^ (k.val + 1) ∧ t.rst.refOk = s.rst.refOk ∧
      t.rst.lock[k] = false ∧ (∀ j : Fin 3, j ≠ k → t.rst.lock[j] = s.rst.lock[j]) := by
  obtain ⟨p, hfails⟩ := State.clockFails_free h (m := m) (by rw [hm]; exact (Nat.two_pow_pos _).ne')
  have hzero : bitOf 0 m = false := by
    rw [bitOf_eq_testBit, hm, Nat.testBit_two_pow]
    exact decide_eq_false (Nat.succ_ne_zero _)
  have hrst : s.rst.clocksFail m =
      { s.rst with fail := s.rst.fail ||| m, lock := mapIdx s.rst.lock (fun i l => l && !bitOf (i + 1) m) } :=
    if_neg (ne_true_of_eq_false hzero)
  rw [hrst] at hfails
  have hbit : ∀ j : Fin 3, bitOf (j.val + 1) m = decide (k = j) := fun j => by
    rw [bitOf_eq_testBit, hm, Nat.testBit_two_pow]
    exact decide_eq_decide.2 (by rw [Fin.ext_iff]; omega)
  have hlock : ∀ j : Fin 3, (mapIdx s.rst.lock (fun i l => l && !bitOf (i + 1) m))[j] = (s.rst.lock[j] && !decide (k = j)) := fun j => by
    exact (mapIdx_get _ _ j.isLt).trans (by rw [hbit]; rfl)
  refine ⟨_, congrArg Host.Outcome.next hfails, congrArg (s.rst.fail ||| ·) hm, rfl, ?_, fun j hj => ?_⟩
  · exact (hlock k).trans (by rw [decide_eq_true rfl, Bool.not_true, Bool.and_false])
  · exact (hlock j).trans (by rw [decide_eq_false hj.symm, Bool.not_false, Bool.and_true])

/-! ### Application cores that restart (R430) -/

theorem exec_appCoreRestart_alone {s : State} {core : Nat} (hup : s.up = true)
    (halone : ∀ c t0, s.rst.appAt = some (c, t0) → c = core ∨ t0 + 1000000 < s.mono) : exec (.appCoreRestart core) s =
      .next { s with gld := s.gld.count 4, rst := { s.rst with appAt := some (core, s.mono) } } := by
  have hsecond : s.secondCore core = false := by
    unfold State.secondCore
    split
    · next c t0 happ =>
      rw [Bool.and_eq_false_iff, bne_eq_false_iff_eq, decide_eq_false_iff_not, Nat.not_le]
      exact halone c t0 happ
    · rfl
  exact congrArg Host.Outcome.next ((State.onlyIf_of hup _ s).trans (if_neg (ne_true_of_eq_false hsecond)))

theorem exec_appCoreRestart_second {s : State} {core c t0 : Nat} (h : s.rst.hold = none) (happ : s.rst.appAt = some (c, t0))
    (hother : c ≠ core) (hin : s.mono ≤ t0 + 1000000) : ∃ t, exec (.appCoreRestart core) s = .next t ∧
      t.rst.hold = some { level := 2, src := 4, at_ := s.mono } ∧ t.rst.pend.isSome = true := by
  have hsecond : s.secondCore core = true := by
    unfold State.secondCore
    rw [happ]
    exact Bool.and_eq_true_iff.2 ⟨bne_iff_ne.2 hother, decide_eq_true hin⟩
  have hexec : exec (.appCoreRestart core) s = .next (s.pendReset 4 2) :=
    congrArg Host.Outcome.next ((State.onlyIf_of (State.up_of_free h) _ s).trans (if_pos hsecond))
  rw [State.pendReset_free 4 2 h rfl] at hexec
  exact ⟨_, hexec, rfl, rfl⟩

/-! ### The pending system reset (R433) -/

/-- Outside a power-on or system reset no reset of a lower level stands, so the source counts as it is. -/
theorem State.meets_up {s : State} (hup : s.up = true) (src : Nat) : s.meets 1 src = src := by
  unfold State.meets
  unfold State.up at hup
  split
  · next h hhold =>
    rw [hhold] at hup
    rw [if_neg]
    rintro ⟨hone, -⟩
    rw [eq_of_beq hup] at hone
    exact absurd hone (by decide)
  · rfl

theorem exec_deferredSystemReset_due {s : State} {p : PendReset} (hup : s.up = true) (hpend : s.rst.pend = some p)
    (hdue : s.gaiterSafe = true ∨ p.at_ + 700000 ≤ s.mono) : ∃ t, exec .deferredSystemReset s = .next t ∧
      t.rst.hold = some { level := 1, src := p.src, defer := s.rst.coresOut, at_ := s.mono } ∧ t.rst.pend = none ∧ t.cfg = {} ∧
      t.cuf = s.cuf := by
  have hready : s.pendDue p = true := by
    unfold State.pendDue
    rcases hdue with hsafe | htime
    · rw [hsafe, Bool.true_or, Bool.true_or]
    · rw [show State.passed p.at_ 700000 s = true from decide_eq_true htime, Bool.or_true]
  have hdeferred : s.deferred = s.sysResetNow { level := 1, src := p.src, defer := s.rst.coresOut } := by
    unfold State.deferred
    rw [hpend]
    exact if_pos hready
  refine ⟨_, congrArg Host.Outcome.next ((State.onlyIf_of hup _ s).trans hdeferred), ?_, rfl, rfl, rfl⟩
  exact congrArg (fun src => some ({ level := 1, src := src, defer := s.rst.coresOut, at_ := s.mono } : Hold)) (State.meets_up hup p.src)

theorem exec_deferredSystemReset_waits {s : State} {p : PendReset} (hup : s.up = true) (hpend : s.rst.pend = some p)
    (hsafe : s.gaiterSafe = false) (hstandby : s.gtr.standby = false) (htime : s.mono < p.at_ + 700000) :
    exec .deferredSystemReset s = .next s := by
  have hwaits : s.pendDue p = false := by
    unfold State.pendDue State.gatesParted
    rw [hsafe, hstandby, show State.passed p.at_ 700000 s = false from decide_eq_false (Nat.not_le.2 htime)]
    rfl
  have hdeferred : s.deferred = s := by
    unfold State.deferred
    rw [hpend]
    exact if_neg (ne_true_of_eq_false hwaits)
  exact congrArg Host.Outcome.next ((State.onlyIf_of hup _ s).trans hdeferred)

/-! ### The release (R388, R389, R437, R438) -/

section
variable {s : State} {h : Hold} (tries : List RootTry)

theorem State.releaseMain_rst : (s.releaseMain h tries).rst = s.rst.released h := by
  unfold State.releaseMain
  rw [(State.tamperLate_moves _).frame.get .rst (by decide), State.raise_rst, (State.fallbackNet_moves _).frame.get .rst (by decide),
    (State.clkDo_moves _ _).frame.get .rst (by decide)]

theorem State.releaseMain_tb : (s.releaseMain h tries).tb = 30 := by
  unfold State.releaseMain
  rw [(State.tamperLate_moves _).frame.get .tb (by decide), State.raise_tb, (State.fallbackNet_moves _).frame.get .tb (by decide),
    (State.clkDo_moves _ _).frame.get .tb (by decide)]

theorem State.releaseMain_restarted : (s.releaseMain h tries).told .deviceRestarted := by
  unfold State.releaseMain
  refine State.told_tamperLate (State.raise_told _ _ ?_)
  refine State.up_of_free ?_
  rw [(State.fallbackNet_moves _).frame.get .rst (by decide), (State.clkDo_moves _ _).frame.get .rst (by decide)]
  rfl

end

/-- One attempt with few enough bit errors, whose check passes, gives the root secret (R388 to R390). -/
theorem rootRegenerate_good {devId : Nat} {c : Cloak} {r : RootTry} {x : Helper}
    (hhelper : c.helper.take Helper.bytes (fun _ => 0) = some x) (hfew : r.errors * 100 ≤ 15 * 32768)
    (hcheck : rootCheck (rootPrk devId (Config.helperSecret x.data)) = x.check) :
    (rootRegenerate devId [r] c).c.ready = true ∧ (rootRegenerate devId [r] c).c.attempts = 1 ∧
      (rootRegenerate devId [r] c).c.prk = some (rootPrk devId (Config.helperSecret x.data)) ∧
      (rootRegenerate devId [r] c).c.margin = decide (8 * 32768 < 100 * r.errors) := by
  have hattempt : c.attempt r = some (Config.helperSecret x.data, x.check) := by
    unfold Cloak.attempt
    rw [hhelper, Option.map_some, if_pos hfew]
  have hgood : c.rootGood devId r = true := by
    unfold Cloak.rootGood
    rw [hattempt]
    exact beq_iff_eq.2 hcheck
  have haccept : rootRegenerate devId [r] c = c.accept devId r 0 :=
    rootRegenerate_eq_accept (bad := []) [] (by decide) (fun _ h => by cases h) hgood
  rw [haccept, Nat.mul_comm 100]
  refine ⟨rfl, rfl, ?_, rfl⟩
  unfold Cloak.accept
  rw [hattempt]
  rfl

theorem rootRegenerate_nil (devId : Nat) (c : Cloak) : rootRegenerate devId [] c =
    { c := { c with ready := false, rootFail := true, margin := false, attempts := 4, prk := none }, evs := [.cloakFault] } := rfl

section
variable {s : State} {h : Hold} {tries : List RootTry} (hhold : s.rst.hold = some h)
include hhold

theorem State.releaseNow_main (hlevel : h.level < 2) (htime : h.at_ + h.least ≤ s.mono) (hfw : s.fuses.fwOk = true)
    (hpower : h.level = 0 → s.gld.pwren = true ∧ s.fuses.mapOk = true) : s.releaseNow tries = s.releaseMain h tries := by
  unfold State.releaseNow
  rw [hhold]
  dsimp only
  rw [if_neg (Nat.not_lt.mpr htime), if_neg (Nat.ne_of_lt hlevel), if_neg]
  rintro (⟨hzero, hoff⟩ | hbad)
  · obtain ⟨hpwren, hmap⟩ := hpower hzero
    rw [hpwren, hmap] at hoff
    cases hoff
  · rw [hfw] at hbad
    cases hbad

theorem State.releaseNow_cores (hlevel : h.level = 2) (htime : h.at_ + h.least ≤ s.mono) (href : s.rst.refOk = true) :
    s.releaseNow tries = s.releaseCores h := by
  unfold State.releaseNow
  rw [hhold]
  dsimp only
  rw [if_neg (Nat.not_lt.mpr htime), if_pos hlevel, if_pos href]

theorem State.releaseNow_early (htime : s.mono < h.at_ + h.least) : s.releaseNow tries = s := by
  unfold State.releaseNow
  rw [hhold]
  exact if_pos htime

theorem State.releaseNow_unfit (hlevel : h.level < 2)
    (hunfit : h.level = 0 ∧ (s.gld.pwren = false ∨ s.fuses.mapOk = false) ∨ s.fuses.fwOk = false) : s.releaseNow tries = s := by
  have hstop : (h.level = 0 ∧ !(s.gld.pwren && s.fuses.mapOk)) ∨ s.fuses.fwOk = false := by
    refine hunfit.imp_left fun ⟨hzero, hoff⟩ => ⟨hzero, ?_⟩
    rcases hoff with hpwren | hmap
    · rw [hpwren]
      rfl
    · rw [hmap, Bool.and_false]
      rfl
  unfold State.releaseNow
  rw [hhold]
  dsimp only
  rw [if_neg (Nat.ne_of_lt hlevel), if_pos hstop]
  exact ite_self s

theorem exec_releaseSequence_main (hlevel : h.level < 2) (htime : h.at_ + h.least ≤ s.mono) (hfw : s.fuses.fwOk = true)
    (hpower : h.level = 0 → s.gld.pwren = true ∧ s.fuses.mapOk = true) : ∃ t, exec (.releaseSequence tries) s = .next t ∧
      t.rst.hold = none ∧ t.rst.src = h.src ∧
      t.rst.level = h.level ∧ t.rst.defer = h.defer ∧ t.rst.seen = s.rst.seen ||| 2 ^ (h.src - 1) ∧ t.rst.refOk = true ∧
      (∀ k : Fin 3, t.rst.lock[k] = true) ∧ t.tb = 30 ∧ t.told .deviceRestarted ∧
      (∀ r x, tries = [r] → s.clk.helper.take Helper.bytes (fun _ => 0) = some x → r.errors * 100 ≤ 15 * 32768 →
        rootCheck (rootPrk s.fuses.devId (Config.helperSecret x.data)) = x.check → t.clk.ready = true ∧ t.clk.attempts = 1 ∧
        t.clk.prk = some (rootPrk s.fuses.devId (Config.helperSecret x.data)) ∧ t.clk.margin = decide (8 * 32768 < 100 * r.errors)) ∧
      (tries = [] → t.clk.ready = false ∧ t.clk.rootFail = true ∧ t.clk.attempts = 4 ∧ t.told .cloakFault) := by
  refine ⟨_, congrArg Host.Outcome.next (State.releaseNow_main hhold hlevel htime hfw hpower), ?_⟩
  rw [State.releaseMain_rst, State.releaseMain_clk]
  refine ⟨rfl, rfl, rfl, rfl, rfl, rfl, fun k => Vector.getElem_replicate k.isLt, State.releaseMain_tb tries,
    State.releaseMain_restarted tries, ?_, ?_⟩
  · rintro r x rfl hhelper hfew hcheck
    exact rootRegenerate_good hhelper hfew hcheck
  · rintro rfl
    refine ⟨rfl, rfl, rfl, State.releaseMain_told h ?_⟩
    rw [rootRegenerate_nil]
    exact List.mem_singleton_self _

end

/-- Settles O54: each source by its lemma, then the release by the level of the reset in progress. -/
theorem resetsWait : Obligations.ResetsWait := by
  unfold Obligations.ResetsWait
  refine ⟨fun s => ⟨fun h app _ hp => exec_watchdogExpiry h app hp, fun _ h hp => ?_, fun _ h => exec_clockFailure_reference h,
    fun _ _ h => exec_clockFailure_pll h, fun _ hup => exec_appCoreRestart_alone hup, fun _ _ _ h => exec_appCoreRestart_second h,
    fun _ hup => exec_deferredSystemReset_due hup, fun _ hup => exec_deferredSystemReset_waits hup⟩,
    fun s h tries hhold => ⟨exec_releaseSequence_main hhold, fun hlevel htime href => ?_, fun hlevel hunfit => ?_, fun htime => ?_⟩⟩
  · exact congrArg Host.Outcome.next (State.pendReset_free 8 1 h hp)
  · refine congrArg Host.Outcome.next ((State.releaseNow_cores hhold hlevel htime href).trans ?_)
    unfold State.releaseCores Rst.cause
    rw [hlevel]
  · exact congrArg Host.Outcome.next (State.releaseNow_unfit hhold hlevel hunfit)
  · exact congrArg Host.Outcome.next (State.releaseNow_early hhold htime)

end Sys2Proof.Machine
end

section
/-! ## PLLs, Glade, and the temperature bands (O55: `GladeActs`) -/

namespace Sys2Proof.Machine

/-! ### Entry to SHUTDOWN takes no event back -/

theorem State.told_keyMissed {e : Ev} {s : State} (h : s.told e) : s.keyMissed.told e :=
  State.told_wrongState (s := { s with clk := (keyMissing s.clk).c }) _ h

theorem State.told_seamPut {e : Ev} {s : State} (both : Bool) (f : SeamFrame) (h : s.told e) : (s.seamPut both f).told e := by
  unfold State.seamPut
  extract_lets t
  have ht : t.told e := by
    unfold t
    split
    · exact h
    · exact h
  split
  · split
    · exact ht
    · exact State.told_keyMissed ht
  · exact ht

theorem State.told_holdResult {e : Ev} {s : State} (b : Fin 4) (r : TxResult) (h : s.told e) : (s.holdResult b r).told e := by
  unfold State.holdResult
  split
  · exact h
  · dsimp only
    split
    · exact h
    · exact State.told_raiseAt _ _ h

theorem State.told_withdrawAll {e : Ev} {s : State} (h : s.told e) : s.withdrawAll.told e := by
  unfold State.withdrawAll
  refine List.foldlRecOn (motive := State.told e) _ _ h (fun t ht b _ => ?_)
  have hgroups : ((List.range 4).foldl (fun s j => s.withdrawGroup b j) t).told e :=
    List.foldlRecOn (motive := State.told e) _ _ ht (fun _ hu j _ => State.told_withdrawGroup b j hu)
  extract_lets u
  have hholds : ((u.mb.bus[b]).txHold.foldl (fun s _ => s.holdResult b .withdrawn) u).told e :=
    List.foldlRecOn (motive := State.told e) _ _ hgroups (fun _ hu _ _ => State.told_holdResult b .withdrawn hu)
  exact State.told_of_thk ((State.offers_moves _ _).frame.get .thk (by decide))
    (State.told_of_thk ((State.busMod_moves _ _ _).frame.get .thk (by decide)) hholds)

theorem State.told_release {e : Ev} {s : State} (reason : Nat) (h : s.told e) : (s.release reason).told e := by
  unfold State.release
  extract_lets t
  have ht : t.told e := by
    unfold t
    split
    · exact h
    · exact State.told_seamMod _ (State.told_seamPut _ _ h)
  exact State.told_of_thk ((State.relayEnd_moves _).frame.get .thk (by decide)) (State.told_withdrawAll (State.told_seamMod _ ht))

theorem State.told_shutdownEntry {e : Ev} {s : State} (h : s.told e) : s.shutdownEntry.told e := by
  unfold State.shutdownEntry
  split
  · exact State.told_release 6 h
  · split
    · exact State.told_gtrDo _ h
    · exact h

theorem State.temperature_rst (ts : Vector Int 8) (s : State) : (s.temperature ts).rst = (tempRead s.mono ts s.rst).r := by
  unfold State.temperature
  extract_lets r a b
  have hb : b.rst = r.r := by
    unfold b
    split
    · exact State.raise_rst ..
    · rfl
  split
  · rw [(State.shutdownEntry_moves _).frame.get .rst (by decide), hb]
  · exact hb

theorem State.temperature_told {ts : Vector Int 8} {s : State} (hup : s.up = true)
    (hhold : (tempRead s.mono ts s.rst).r.hold = s.rst.hold) (hevent : (tempRead s.mono ts s.rst).event = true) :
    (s.temperature ts).told .dieTemperature := by
  have hraised : (({ s with rst := (tempRead s.mono ts s.rst).r } : State).raise .dieTemperature).told .dieTemperature := by
    refine State.raise_told _ _ ?_
    unfold State.up at hup ⊢
    rw [hhold]
    exact hup
  unfold State.temperature
  dsimp only
  rw [if_pos hevent]
  split
  · exact State.told_shutdownEntry hraised
  · exact hraised

/-! ### Eight equal readings (R453, R454) -/

theorem median5_uniform (x : Int) : median5 [x, x, x, x, x] = x := by
  simp [median5, sortLt, insertLt]

/-- A reading within the limits of R453 is valid among equal ones. -/
theorem sensorValid_uniform {x : Int} (hlow : -550 ≤ x) (hhigh : x ≤ 1750) {n : Nat} (hn : n < 6) :
    sensorValid [x, x, x, x, x, x] n = true := by
  have hread : [x, x, x, x, x, x].getD n 0 = x := by
    rw [show [x, x, x, x, x, x] = List.replicate 6 x from rfl, List.getD_eq_getElem?_getD, List.getElem?_replicate, if_pos hn]
    rfl
  have hrest : [x, x, x, x, x, x].eraseIdx n = [x, x, x, x, x] := by
    rw [show [x, x, x, x, x, x] = List.replicate 6 x from rfl, List.eraseIdx_replicate, if_pos hn]
    rfl
  unfold sensorValid
  rw [hread, hrest, median5_uniform]
  simp only [hlow, hhigh, Int.sub_self, decide_true, Bool.and_true]
  decide

theorem maskOf_true {n : Nat} {f : Nat → Bool} (h : ∀ i < n, f i = true) :
    maskOf n f = maskOf n (fun _ => true) := by
  unfold maskOf
  refine List.foldl_ext _ _ _ fun m i hi => ?_
  rw [h i (List.mem_range.1 hi)]

/-- Since when the hottest sensor reads 125 °C or more, where all read `x`. -/
def hotSince (now : Nat) (x : Int) (r : Rst) : Option Nat := if 1250 ≤ x then some (r.hotAt.getD now) else none

/-- The band that equal readings `x` lead to. -/
def uniformBand (now : Nat) (x : Int) (r : Rst) : Nat :=
  bandNext (match hotSince now x r with
    | some a => decide (a + 10000 ≤ now)
    | none => false) r.band x

theorem tempRead_uniform (now : Nat) {x : Int} (r : Rst) (hlow : -550 ≤ x) (hhigh : x ≤ 1750) :
    tempRead now (Vector.replicate 8 x) r =
      { r := { r with
          temp := Vector.replicate 8 x, valid := 0x3F, band := uniformBand now x r, noSens := false, tMax := x
          hotAt := hotSince now x r }
        event := (uniformBand now x r == 3 || uniformBand now x r == 4) && r.band != uniformBand now x r
        shut := uniformBand now x r == 4 && r.band != 4 } := by
  have hvalid : maskOf 6 (sensorValid [x, x, x, x, x, x]) = 0x3F :=
    maskOf_true fun _ hn => sensorValid_uniform hlow hhigh hn
  have hmax : [x, x, x, x, x].foldl max x = x := by
    simp only [List.foldl_cons, List.foldl_nil, max_self]
  unfold tempRead
  rw [show (Vector.replicate 8 x).toList.take 6 = [x, x, x, x, x, x] from rfl]
  dsimp only
  rw [hvalid]
  rw [show (bitsOf 6 0x3F).map (fun n => [x, x, x, x, x, x].getD n 0) = [x, x, x, x, x, x] from rfl]
  dsimp only
  rw [hmax]
  rfl

section
variable {now : Nat} {x : Int} {r : Rst}

theorem uniformBand_hot {t0 : Nat} (hx : 1250 ≤ x) (hhot : r.hotAt = some t0) (htime : t0 + 10000 ≤ now) : uniformBand now x r = 4 := by
  unfold uniformBand hotSince
  rw [if_pos hx, hhot]
  dsimp only
  rw [Option.getD_some, decide_eq_true htime]
  rfl

theorem uniformBand_cool (hx : x < 1250) : uniformBand now x r = bandNext false r.band x := by
  unfold uniformBand hotSince
  rw [if_neg (not_le.2 hx)]

/-- What the readings alone lead up to (R453). -/
def bandUp (t : Int) : Nat := if 1100 ≤ t then 3 else if 850 ≤ t then 2 else if -200 ≤ t then 1 else 0

/-- One step down, 5 °C below the band's lower edge (R453). -/
def bandFall (t : Int) (b : Nat) : Nat := if t ≤ bandEdge b - 50 then b - 1 else b

def bandDown (t : Int) (b : Nat) : Nat :=
  if bandFall t b = b then b
  else if bandFall t (b - 1) = b - 1 then b - 1 else if bandFall t (b - 2) = b - 2 then b - 2 else bandFall t (b - 3)

theorem bandNext_cool (b : Nat) (t : Int) : bandNext false b t = max (bandUp t) (bandDown t b) := by
  unfold bandNext bandUp bandDown bandFall
  simp only [decide_eq_true_eq]
  rfl

theorem bandFall_le (t : Int) (b : Nat) : bandFall t b ≤ b := by
  unfold bandFall
  split
  · exact Nat.sub_le b 1
  · exact le_rfl

theorem bandDown_le (t : Int) (b : Nat) : bandDown t b ≤ b := by
  have hlast := bandFall_le t (b - 3)
  unfold bandDown
  split
  · exact le_rfl
  · split
    · exact Nat.sub_le b 1
    · split
      · exact Nat.sub_le b 2
      · omega

/-- Rising readings lead to the band that they stand in. -/
theorem bandNext_rises {b : Nat} {t : Int} (hb : b ≤ bandUp t) : bandNext false b t = bandUp t := by
  rw [bandNext_cool]
  exact max_eq_left ((bandDown_le t b).trans hb)

/-- From SHUTDOWN the band falls to HOT at 120 °C (R453). -/
theorem bandNext_falls {t : Int} (hlow : 1100 ≤ t) (hhigh : t ≤ 1200) : bandNext false 4 t = 3 := by
  have hfour : bandFall t 4 = 3 := if_pos (show t ≤ 1250 - 50 by omega)
  have hthree : bandFall t 3 = 3 := if_neg (show ¬ t ≤ 1100 - 50 by omega)
  have hdown : bandDown t 4 = 3 := by
    unfold bandDown
    rw [hfour, if_neg (by decide), show 4 - 1 = 3 from rfl, hthree, if_pos rfl]
  rw [bandNext_cool, hdown, bandUp, if_pos hlow]
  rfl

end

section
variable {s : State} {x : Int} (hup : s.up = true) (hlow : -550 ≤ x) (hhigh : x ≤ 1750)
include hlow hhigh

theorem State.temperature_uniform : (s.temperature (Vector.replicate 8 x)).rst = { s.rst with
    temp := Vector.replicate 8 x, valid := 0x3F, band := uniformBand s.mono x s.rst, noSens := false, tMax := x
    hotAt := hotSince s.mono x s.rst } := by
  rw [State.temperature_rst, tempRead_uniform _ _ hlow hhigh]

include hup

/-- A change of band to HOT or SHUTDOWN is told (R455). -/
theorem State.temperature_uniform_told {b : Nat} (hband : uniformBand s.mono x s.rst = b) (hhot : b = 3 ∨ b = 4)
    (hne : s.rst.band ≠ b) : (s.temperature (Vector.replicate 8 x)).told .dieTemperature := by
  refine State.temperature_told hup ?_ ?_
  · rw [tempRead_uniform _ _ hlow hhigh]
  · rw [tempRead_uniform _ _ hlow hhigh, hband]
    refine Bool.and_eq_true_iff.2 ⟨?_, bne_iff_ne.2 hne⟩
    rcases hhot with rfl | rfl
    · rfl
    · rfl

theorem exec_temperatureRead {ts : Vector Int 8} (hts : ts = Vector.replicate 8 x) :
    ∃ t, exec (.temperatureRead ts) s = .next t ∧ t.rst.temp = ts ∧ t.rst.tMax = x ∧ t.rst.valid = 0x3F ∧ t.rst.noSens = false ∧
      (∀ t0, 1250 ≤ x → s.rst.hotAt = some t0 → t0 + 10000 ≤ s.mono → t.rst.band = 4 ∧ (s.rst.band ≠ 4 → t.told .dieTemperature)) ∧
      (1100 ≤ x → x < 1250 → s.rst.band < 3 ∨ (s.rst.band = 4 ∧ x ≤ 1200) → t.rst.band = 3 ∧ t.told .dieTemperature) ∧
      (850 ≤ x → x < 1100 → s.rst.band ≤ 2 → t.rst.band = 2) ∧ (-200 ≤ x → x < 800 → s.rst.band ≤ 1 → t.rst.band = 1) := by
  subst hts
  refine ⟨_, congrArg Host.Outcome.next (State.onlyIf_of hup _ s), ?_⟩
  rw [State.temperature_uniform hlow hhigh]
  refine ⟨rfl, rfl, rfl, rfl, fun t0 hx hhot htime => ?_, fun hx hcool hfrom => ?_, fun hx hcool hfrom => ?_, fun hx hcool hfrom => ?_⟩
  · have hband := uniformBand_hot hx hhot htime
    exact ⟨hband, State.temperature_uniform_told hup hlow hhigh hband (.inr rfl)⟩
  · have hband : uniformBand s.mono x s.rst = 3 := by
      have hthree : bandUp x = 3 := if_pos hx
      rw [uniformBand_cool hcool]
      rcases hfrom with hbelow | ⟨hfour, hfall⟩
      · rw [bandNext_rises (by rw [hthree]; exact hbelow.le), hthree]
      · rw [hfour, bandNext_falls hx hfall]
    exact ⟨hband, State.temperature_uniform_told hup hlow hhigh hband (.inl rfl) (by omega)⟩
  · have htwo : bandUp x = 2 := (if_neg (not_le.2 hcool)).trans (if_pos hx)
    exact (uniformBand_cool (by omega)).trans ((bandNext_rises (by rw [htwo]; exact hfrom)).trans htwo)
  · have hone : bandUp x = 1 := (if_neg (by omega)).trans ((if_neg (by omega)).trans (if_pos hx))
    exact (uniformBand_cool (by omega)).trans ((bandNext_rises (by rw [hone]; exact hfrom)).trans hone)

end

/-! ### PLLs and Glade -/

section
variable {s : State}

theorem exec_pllStop (hup : s.up = true) (hstandby : s.standby = true) (hcores : s.cores = false) (hwin : s.seam.relayWin = none) :
    ∃ t, exec (.pllStop 0) s = .next t ∧ t.rst.lock[0] = false ∧ t.rst.lock[1] = s.rst.lock[1] ∧ t.rst.lock[2] = s.rst.lock[2] := by
  have hidle : s.pllIdle 0 = true := by
    unfold State.pllIdle
    rw [hup, hstandby, hcores, hwin]
    rfl
  refine ⟨_, congrArg Host.Outcome.next (State.onlyIf_of hidle _ s), updN_same _ 0 _ (by decide), ?_, ?_⟩
  · exact updN_ne s.rst.lock (i := 0) (j := 1) _ (by decide) (by decide)
  · exact updN_ne s.rst.lock (i := 0) (j := 2) _ (by decide) (by decide)

theorem exec_pllRequest (k : Fin 3) (hup : s.up = true) (href : s.rst.refOk = true) :
    ∃ t, exec (.pllRequest k) s = .next t ∧ t.rst.lock[k] = true :=
  ⟨_, congrArg Host.Outcome.next (State.onlyIf_of (Bool.and_eq_true_iff.2 ⟨hup, href⟩) _ s), updN_same _ k.val _ k.isLt⟩

section
variable (hready : s.HostReady 0x3000)
include hready

theorem exec_gladeSleep (hok : s.sleepOk = true) :
    ∃ t, exec .gladeSleep s = .next t ∧ t.gld = { s.gld with sleepAt := some s.mono } ∧ t.answered .ok [] := by
  have hwrite : gldCtrlWrite 1 s = (.ok, { s with gld := { s.gld with sleepAt := some s.mono } }) := by
    unfold gldCtrlWrite
    rw [hok]
    rfl
  obtain ⟨k, hk⟩ := State.hostWrite_done 0x3000 1 .gld 0 s _ hready (by decide) rfl (congrArg some hwrite)
  exact ⟨_, hk, rfl, List.getLast?_concat⟩

theorem exec_gladeSleep_refused (hok : s.sleepOk = false) :
    ∃ t, exec .gladeSleep s = .next t ∧ t.gld = s.gld ∧ t.answered .notInState [] := by
  have hwrite : gldCtrlWrite 1 s = (.notInState, s) := by
    unfold gldCtrlWrite
    rw [hok]
    rfl
  exact ⟨_, State.hostWrite_refusal 0x3000 1 .gld 0 s .notInState hready (by decide) rfl (by decide) (congrArg some hwrite),
    State.judged_gld .., State.answered_emit ..⟩

theorem exec_gldClrCnt :
    ∃ t, exec .gldClrCnt s = .next t ∧ t.gld = { s.gld with resets := Vector.replicate 8 0 } ∧ t.answered .ok [] := by
  have hwrite : gldCtrlWrite 2 s = (.ok, { s with gld := { s.gld with resets := Vector.replicate 8 0 } }) := rfl
  obtain ⟨k, hk⟩ := State.hostWrite_done 0x3000 2 .gld 0 s _ hready (by decide) rfl (congrArg some hwrite)
  exact ⟨_, hk, rfl, List.getLast?_concat⟩

end

theorem exec_gladeWake_ignored {src : Nat} (hwake : wakeOk s.mono src s.gld = false) : exec (.gladeWake src) s = .next s := by
  refine congrArg Host.Outcome.next (if_neg ?_)
  rw [hwake, Bool.and_false]
  exact Bool.false_ne_true

section
variable (hoff : s.gld.pwren = false)
include hoff

theorem exec_gladeWake {src : Nat} (hwake : wakeOk s.mono src s.gld = true) :
    exec (.gladeWake src) s = .next { s with gld := { s.gld with pwren := true, wake := src } } := by
  refine congrArg Host.Outcome.next (State.onlyIf_of ?_ _ s)
  rw [hoff, hwake]
  rfl

end

/-- The second open sample of a pad begins an opening (R452). -/
theorem tamperSample_begins (now : Nat) {g : Glade} (n : Fin 2) (hrun : g.run[n] = 1) :
    ∃ g', tamperSample now (n == 0) (n == 1) g = (g', 2 ^ n.val) ∧ bitOf n g'.latch = true ∧ g'.cnt[n] = satInc 8 g.cnt[n] ∧
      g'.ts = g.sec now := by
  have hbegins : maskOf 2 (fun i => atD (mapIdx g.run (fun j k => if atD (#v[n == 0, n == 1] : Vector Bool 2) j false then k + 1 else 0)) i 0 == 2)
      = 2 ^ n.val := by
    have hat : ∀ i < 2, (atD (mapIdx g.run (fun j k => if atD (#v[n == 0, n == 1] : Vector Bool 2) j false then k + 1 else 0)) i 0 == 2)
        = decide (i = n.val) := fun i hi => by
      rw [atD_mapIdx _ _ _ hi]
      match n, i, hi with
      | 0, 0, _ => rw [atD_lt g.run 0 (by decide)]; exact beq_iff_eq.2 (congrArg (· + 1) hrun)
      | 0, 1, _ => rfl
      | 1, 0, _ => rfl
      | 1, 1, _ => rw [atD_lt g.run 0 (by decide)]; exact beq_iff_eq.2 (congrArg (· + 1) hrun)
    unfold maskOf
    rw [show List.range 2 = [0, 1] from rfl]
    simp only [List.foldl_cons, List.foldl_nil, hat 0 (by decide), hat 1 (by decide)]
    match n with
    | 0 => rfl
    | 1 => rfl
  have hbit : bitOf n (2 ^ n.val) = true := by
    rw [bitOf_eq_testBit, Nat.testBit_two_pow_self]
  unfold tamperSample
  dsimp only
  rw [hbegins, if_neg (Nat.two_pow_pos _).ne']
  refine ⟨_, rfl, ?_, ?_, rfl⟩
  · rw [bitOf_eq_testBit] at hbit ⊢
    rw [Nat.testBit_or, hbit, Bool.or_true]
  · exact (mapIdx_get g.cnt _ n.isLt).trans (if_pos hbit)

theorem exec_enclosureTamperSample (n : Fin 2) (hrun : s.gld.run[n] = 1) (hup : s.up = true) :
    ∃ t, exec (.enclosureTamperSample (n == 0) (n == 1)) s = .next t ∧
      bitOf n t.gld.latch = true ∧ t.gld.cnt[n] = satInc 8 s.gld.cnt[n] ∧ t.gld.ts = s.gld.sec s.mono ∧ t.told .enclosureTamper := by
  obtain ⟨g, hsample, hlatch, hcnt, hts⟩ := tamperSample_begins s.mono n hrun
  have hstep : s.tamperStep (n == 0) (n == 1) = ({ s with gld := g } : State).raiseAt .enclosureTamper n := by
    unfold State.tamperStep State.tamperReport
    rw [hsample]
    dsimp only
    rw [if_pos (show State.up { s with gld := g } = true from hup)]
    match n with
    | 0 => rfl
    | 1 => rfl
  have hgld : (({ s with gld := g } : State).raiseAt .enclosureTamper n).gld = g := State.raiseAt_gld ..
  refine ⟨_, congrArg Host.Outcome.next hstep, ?_⟩
  rw [hgld]
  exact ⟨hlatch, hcnt, hts, State.raiseAt_told _ _ _ hup⟩

end

/-- Settles O55: the PLLs and Glade by their lemmas, the bands by the reading that all eight sensors give. -/
theorem gladeActs : Obligations.GladeActs := by
  unfold Obligations.GladeActs
  intro s
  refine ⟨exec_pllStop, fun k => exec_pllRequest k, rfl, rfl,
    fun hready => ⟨exec_gladeSleep hready, exec_gladeSleep_refused hready, exec_gldClrCnt hready⟩,
    fun hoff => ⟨exec_gladeWake hoff (src := 1), exec_gladeWake_ignored (src := 1), fun halarm hne hsec => ?_⟩,
    fun n => exec_enclosureTamperSample n, rfl, fun _ _ hup hlow hhigh => exec_temperatureRead hup hlow hhigh⟩
  refine exec_gladeWake hoff ?_
  unfold wakeOk
  rw [halarm, hsec, Bool.true_and, beq_self_eq_true, Bool.and_true]
  exact bne_iff_ne.2 hne

end Sys2Proof.Machine
end

section
/-! ## Thicket: credits, tags, stalls, detected errors and the software event (O56: `ThicketActs`) -/

namespace Sys2Proof.Machine

/-! ### Credits and tags (R458, R461) -/

theorem mirGet_mirPut (off v : Nat) (m : List (Nat × Nat)) : mirGet off (mirPut off v m) = v := by
  have hgone : ∀ e ∈ m.filter (fun e => e.1 ≠ off), e.1 ≠ off := fun e he => by simpa using List.of_mem_filter he
  unfold mirPut mirGet
  dsimp only
  split
  · next hv =>
    rw [List.find?_eq_none.2 fun e he => by simpa using hgone e he, hv]
    rfl
  · rw [find_insertBy (·.1) (off, v) _ off hgone, if_pos rfl]
    rfl

theorem Thicket.credit_running {q : Nat} {t : Thicket} (hused : 0 < t.inUse q) (hq : q ∉ t.stalled) :
    (t.credit q).inUse q + 1 = t.inUse q := by
  have hcredit : t.credit q = { t with used := mirPut q (t.inUse q - 1) t.used } := by
    unfold Thicket.credit
    rw [if_neg (Nat.ne_of_gt hused), if_neg (mt List.contains_iff_mem.mp hq)]
  rw [hcredit, Thicket.inUse, mirGet_mirPut]
  omega

theorem Thicket.credit_stalled {q : Nat} {t : Thicket} (hused : 0 < t.inUse q) (hq : q ∈ t.stalled) :
    t.credit q = { t with stalled := delSet q t.stalled } := by
  unfold Thicket.credit
  rw [if_neg (Nat.ne_of_gt hused), if_pos (List.contains_iff_mem.mpr hq)]

theorem exec_transactionTimeout {s : State} {k : Fin 128} {x : Trans} (hup : s.up = true) (hover : s.thk.overdue k s.mono = some x) :
    ∃ t, exec (.transactionTimeout k) s = .next t ∧
      t.thk = { s.thk with
        trans := s.thk.trans.filter (fun y => y.tag != x.tag), sTmo := satInc 8 s.thk.sTmo, last := 7, lastAddr := x.addr } ∧
      t.out = s.out ++ [match x.spi with
        | none => .done .busy (x.words ++ List.replicate x.pad 0)
        | some sent => spiEnd sent .busy (x.words ++ List.replicate x.pad 0)] := by
  have htimeout : s.tagTimeout k = (s.thkMod (Thicket.timeout x)).reply x.spi .busy (x.words ++ List.replicate x.pad 0) := by
    unfold State.tagTimeout
    rw [hover]
  exact ⟨_, congrArg Host.Outcome.next ((State.onlyIf_of hup _ s).trans htimeout), rfl, rfl⟩

/-! ### What a detection leaves in Thicket (R463, R464) -/

/-- Thicket's record of detections: its counters and the row of the last one. -/
def Thicket.found (t : Thicket) : Nat × Nat × Nat × Nat := (t.derr, t.eSram, t.eQueue, t.eCrc)

theorem State.raise_found (e : Ev) (s : State) : (s.raise e).thk.found = s.thk.found := by
  cases hup : s.up with
  | false => rw [State.raise, State.raiseAt, hup]; rfl
  | true =>
    rw [show (s.raise e).thk = s.thk.raise e 0 s.tb s.sec from s.raiseAt_thk e 0 hup]
    rfl

theorem State.detect_found (g : ErrGuard) (row : Nat) (lost : Bool) (s : State) :
    (s.detect g row lost).thk.found = (s.thk.detect g row lost).found := State.raise_found _ _

theorem State.detect_derr (g : ErrGuard) (row : Nat) (lost : Bool) (s : State) : (s.detect g row lost).thk.derr = row :=
  congrArg Prod.fst (State.detect_found g row lost s)

theorem State.detect_told (g : ErrGuard) (row : Nat) (lost : Bool) {s : State} (hup : s.up = true) :
    (s.detect g row lost).told .dataError := State.raise_told _ _ hup

theorem State.detect_up (g : ErrGuard) (row : Nat) (lost : Bool) {s : State} (hup : s.up = true) : (s.detect g row lost).up = true :=
  (State.up_congr (State.raise_rst ..)).trans hup

/-- What detections of row 2 leave: the loader as it was, the row, and the event. -/
def ConfigFound (s t : State) : Prop := t.img = s.img ∧ t.up = true ∧ t.thk.derr = 2 ∧ t.told .dataError

theorem ConfigFound.first {s : State} (hup : s.up = true) : ConfigFound s (s.detect .sram 2 false) :=
  ⟨State.raise_img .., State.detect_up _ _ _ hup, State.detect_derr .., State.detect_told _ _ _ hup⟩

theorem ConfigFound.next {s t : State} (h : ConfigFound s t) : ConfigFound s (t.detect .crc 2 false) := by
  obtain ⟨himg, hup, -, -⟩ := h
  exact ⟨(State.raise_img ..).trans himg, State.detect_up _ _ _ hup, State.detect_derr .., State.detect_told _ _ _ hup⟩

theorem State.told_imgRefusedNow {s : State} (l : Loader) (hup : s.up = true) : (s.imgRefusedNow l).told .imageRefused := by
  have hraised : ((s.imgPut l).raise .imageRefused).told .imageRefused := State.raise_told _ _ hup
  unfold State.imgRefusedNow State.softRequest
  exact State.told_gtrDo _ hraised

theorem State.imgRefusedNow_img (l : Loader) (s : State) : (s.imgRefusedNow l).img = l := by
  unfold State.imgRefusedNow State.softRequest
  rw [(State.gtrDo_moves _ _).frame.get .img (by decide)]
  exact State.raise_img ..

theorem State.imgRefusedNow_cnp (l : Loader) (s : State) : (s.imgRefusedNow l).cnp = { s.cnp with rampDown := true } := by
  unfold State.imgRefusedNow State.softRequest
  rw [(State.gtrDo_moves _ _).frame.get .cnp (by decide)]
  exact congrArg (fun c : Canopy => { c with rampDown := true }) (State.raise_cnp _ (s.imgPut l))

section
variable {s : State} (hup : s.up = true)
include hup

theorem exec_dataError {e : DataErr} {t : State} (h : s.dataError e = t) : exec (.dataErrorDetected e) s = .next t :=
  congrArg Host.Outcome.next ((State.onlyIf_of hup _ s).trans h)

theorem exec_dataError_canopy : ∃ t, exec (.dataErrorDetected .canopy) s = .next t ∧ t.thk.derr = 1 ∧
    t.thk.eSram = satInc 8 s.thk.eSram ∧ t.cnp.ready = none ∧ t.told .dataError :=
  ⟨_, exec_dataError hup rfl, State.detect_derr .., congrArg (fun x => x.2.1) (State.detect_found .sram 1 false s), rfl,
    State.detect_told .sram 1 false hup⟩

theorem exec_dataError_config {off : Nat} (fails : Nat) (hrun : s.img.st = .run) (hleaf : ∀ x ∈ s.img.leaf, x.1 ≠ off) :
    (fails < 2 → ∃ t, exec (.dataErrorDetected (.config off fails)) s = .next t ∧ t.img = s.img ∧ t.thk.derr = 2 ∧ t.told .dataError) ∧
    (2 ≤ fails → ∃ t, exec (.dataErrorDetected (.config off fails)) s = .next t ∧ t.img.st = .refused ∧ t.img.errReason = 7 ∧
      t.cnp.rampDown = true ∧ t.told .imageRefused) := by
  obtain ⟨d, hd⟩ : ∃ d, (List.range fails).foldl (fun (s : State) _ => s.detect .crc 2 false) (s.detect .sram 2 false) = d := ⟨_, rfl⟩
  have hfound : ConfigFound s d := by
    rw [← hd]
    exact List.foldlRecOn (motive := ConfigFound s) _ _ (ConfigFound.first hup) (fun _ ht _ _ => ht.next)
  obtain ⟨himg, hdup, hderr, htold⟩ := hfound
  have hexec : exec (.dataErrorDetected (.config off fails)) s = .next (d.reread off fails) :=
    exec_dataError hup (congrArg (State.reread off fails) hd)
  have hrereads : d.rereads off = 2 := by
    unfold State.rereads State.inLeaf
    rw [himg]
    refine if_neg fun hin => ?_
    obtain ⟨x, hx, hoff⟩ := List.any_eq_true.1 hin
    exact hleaf x hx (eq_of_beq hoff)
  refine ⟨fun hfew => ?_, fun hmany => ?_⟩
  · have hstays : d.reread off fails = d := by
      unfold State.reread
      exact if_neg fun h => absurd (hrereads ▸ h.2) (Nat.not_le.2 hfew)
    rw [hstays] at hexec
    exact ⟨d, hexec, himg, hderr, htold⟩
  · have hrefused : d.reread off fails = d.imgRefusedNow (d.img.toRefused ⟨7, if d.inLeaf off then 0 else 1, off⟩) := by
      unfold State.reread
      exact if_pos ⟨by rw [himg]; exact hrun, by rw [hrereads]; exact hmany⟩
    rw [hrefused] at hexec
    refine ⟨_, hexec, ?_, ?_, ?_, State.told_imgRefusedNow _ hdup⟩
    · rw [State.imgRefusedNow_img]
      rfl
    · rw [State.imgRefusedNow_img]
      rfl
    · rw [State.imgRefusedNow_cnp]

omit hup in
/-- A twin that is preset again runs in fast mode, with no cap of its own (R465 row 6). -/
theorem twinAgain_restarts (w : Twin) : (twinAgain w).fast = true ∧ (twinAgain w).capSet = false ∧ (twinAgain w).cTh = 0 := by
  unfold twinAgain twinBegin
  split
  · exact ⟨rfl, rfl, rfl⟩
  · exact ⟨rfl, rfl, rfl⟩

omit hup in
theorem State.twinPut_twin (p : Fin 12) (w : Twin) (s : State) : (s.twinPut p w).twins[p] = w := by
  have hmod : (s.twinMod p (fun _ => w)).twins[p] = w := upd_same s.twins p _
  unfold State.twinPut
  dsimp only
  split
  · exact (congrArg (fun v : Vector Twin 12 => v[p]) ((State.cpcPut_moves _ _).frame.get .twins (by decide))).trans hmod
  · exact hmod

omit hup in
theorem State.twinPut_found (p : Fin 12) (w : Twin) (s : State) : (s.twinPut p w).thk.found = s.thk.found := by
  unfold State.twinPut
  dsimp only
  split
  · unfold State.cpcPut
    dsimp only
    split
    · exact State.raise_found _ _
    · rfl
  · rfl

theorem exec_dataError_twin (p : Fin 12) : ∃ t, exec (.dataErrorDetected (.twin p)) s = .next t ∧ t.thk.derr = 6 ∧
    t.twins[p].fast = true ∧ t.twins[p].capSet = false ∧ t.twins[p].cTh = 0 := by
  obtain ⟨a, ha⟩ : ∃ a, s.detect .sram 6 false = a := ⟨_, rfl⟩
  have hexec : exec (.dataErrorDetected (.twin p)) s = .next (a.twinPut p (twinAgain a.twins[p])) := by
    rw [← ha]
    exact exec_dataError hup rfl
  have hderr : (a.twinPut p (twinAgain a.twins[p])).thk.derr = 6 := by
    have hsame := congrArg Prod.fst (State.twinPut_found p (twinAgain a.twins[p]) a)
    have hdet := State.detect_derr .sram 6 false s
    rw [ha] at hdet
    exact hsame.trans hdet
  refine ⟨_, hexec, hderr, ?_⟩
  have hagain := twinAgain_restarts a.twins[p]
  rwa [← State.twinPut_twin p (twinAgain a.twins[p]) a] at hagain

theorem exec_dataError_frame : ∃ t, exec (.dataErrorDetected (.frame true)) s = .next t ∧ t.thk.derr = 7 ∧
    t.thk.eCrc = satInc 8 s.thk.eCrc ∧ t.told .dataError :=
  ⟨_, exec_dataError hup rfl, State.detect_derr .., congrArg (fun x => x.2.2.2) (State.detect_found .crc 7 false s),
    State.detect_told .crc 7 false hup⟩

theorem exec_dataError_access (a : Nat) : ∃ t, exec (.dataErrorDetected (.access a)) s = .next t ∧ t.answered .dataError [] ∧
    t.thk.last = 6 ∧ t.thk.lastAddr = a := by
  refine ⟨_, exec_dataError hup rfl, State.answered_emit .., ?_, ?_⟩
  · rfl
  · rfl

theorem exec_fabricStall_new (c : TrafficClass) {q : Nat} (hq : q ∉ s.thk.stalled) : ∃ t, exec (.fabricStall c q) s = .next t ∧
    t.thk.sRt = (if c = .rt then satInc 8 s.thk.sRt else s.thk.sRt) ∧
    t.thk.sBulk = (if c = .bulk then satInc 8 s.thk.sBulk else s.thk.sBulk) ∧ q ∈ t.thk.stalled ∧ t.told .fabricStall := by
  have hthk := State.raiseAt_thk .fabricStall q { s with thk := s.thk.episode c q } hup
  obtain ⟨hrt, -, hbulk⟩ := Thicket.stall_counts c s.thk
  refine ⟨_, (exec_fabricStall_of_up c q hup).trans (congrArg Host.Outcome.next (State.stall_of_notMem c hq)), ?_, ?_, ?_,
    State.raiseAt_told _ _ _ hup⟩
  · rw [hthk]
    exact hrt
  · rw [hthk]
    exact hbulk
  · rw [hthk]
    exact Thicket.mem_stalled_episode c q s.thk

end

/-- SOFTWARE_EVENT (R470): a host write of 1 to THK_EVCTRL. -/
theorem exec_softwareEvent {s : State} (hready : s.HostReady 0x4038) :
    ∃ t, exec .softwareEvent s = .next t ∧ t.told .software ∧ t.answered .ok [] := by
  have hwrite : pageWrite .thk 0x38 1 s = some (.ok, s.raise .software) := rfl
  have htold := State.hostWrite_told 0x4038 1 .thk 0x38 s _ hready (by decide) rfl hwrite (State.raise_told .software s hready.up)
  obtain ⟨k, hk⟩ := State.hostWrite_ok 0x4038 1 .thk 0x38 s _ hready (by decide) rfl hwrite
  refine ⟨_, rfl, htold, ?_⟩
  rw [hk]
  exact List.getLast?_concat

/-- Settles O56: credits and stalls by whether the producer stands stalled, detections row by row of Table 17.3. -/
theorem thicketActs : Obligations.ThicketActs := by
  unfold Obligations.ThicketActs
  intro s
  refine ⟨fun q hup hused => ⟨fun hq => ?_, fun hq => ?_⟩, fun _ _ => exec_transactionTimeout, fun q hup => ⟨fun hq c => ?_, fun hq => ?_, fun hq => ?_⟩,
    fun hup => ⟨exec_dataError_canopy hup, fun _ fails hrun hleaf => exec_dataError_config hup fails hrun hleaf, exec_dataError_twin hup,
      exec_dataError_frame hup, exec_dataError_access hup⟩, exec_softwareEvent⟩
  · exact ⟨_, exec_creditReturn_of_up q hup, Thicket.credit_running hused hq⟩
  · have hcredit := Thicket.credit_stalled hused hq
    exact ⟨_, exec_creditReturn_of_up q hup, (congrArg (Thicket.inUse q) hcredit :), (congrArg Thicket.stalled hcredit :)⟩
  · rw [exec_fabricStall_of_up c q hup, State.stall_of_mem c hq]
  · obtain ⟨t, ht, hrt, -, hin, htold⟩ := exec_fabricStall_new hup .rt hq
    exact ⟨t, ht, hrt, hin, htold⟩
  · obtain ⟨t, ht, hrt, hbulk, -, htold⟩ := exec_fabricStall_new hup .bulk hq
    exact ⟨t, ht, hbulk, hrt, htold⟩

end Sys2Proof.Machine
end

section
/-! ## Register accesses of a host over SPI (O57: `HostAccessesRegisters`) -/

namespace Sys2Proof.Machine

/-- A unit of a variant that has no pair link. -/
def withoutSeam : State := { rst := { hold := none, refOk := true }, fuses := { variant := .m } }

/-- An access to the absent unit with a word count of 0 completes with NOT_PRESENT (R468): the absent unit is found first. -/
theorem withoutSeam_read :
    (withoutSeam.onSpi (spiHead 0x0B 0x6000 0) 0x6000 (!spiCountOk 0) (absentAt 0x6000 withoutSeam.fuses.variant) false
      (State.spiReadWords (spiHead 0x0B 0x6000 0) 0x6000 0)).out = [spiEnd (spiHead 0x0B 0x6000 0) .notPresent []] := rfl

theorem notPresent_ne_badLength : spiEnd (spiHead 0x0B 0x6000 0) .notPresent [] ≠ spiEnd (spiHead 0x0B 0x6000 0) .badLength [] := by
  intro h
  obtain ⟨hst, -, -⟩ := Out.spi.inj h
  cases hst

/-- Refutes O57: a read of no words at an address of the pair link, which `withoutSeam` does not have, completes with NOT_PRESENT, not
with BAD_LENGTH; the statement asks for BAD_LENGTH at every address. -/
theorem not_hostAccessesRegisters : ¬ Obligations.HostAccessesRegisters := by
  unfold Obligations.HostAccessesRegisters
  intro h
  obtain ⟨-, -, -, -, -, -, hlength, -⟩ := h withoutSeam
  obtain ⟨⟨t, ht, hout, -⟩, -⟩ := hlength rfl rfl 0x6000 0 [] (.inl rfl)
  rw [← Host.Outcome.next.inj ht] at hout
  have hsent := withoutSeam_read.symm.trans hout
  exact notPresent_ne_badLength (List.singleton_inj.1 hsent)

end Sys2Proof.Machine
end

section
/-! ## The Esing server (O58: `EsingServes`) -/

namespace Sys2Proof.Machine

/-- A unit of a variant that has no pair link, with a client on connection 0. -/
def withoutSeamServing : State := { withoutSeam with hst := { conn := #v[some {}, none] } }

/-- The same unit when a request has been heard. -/
def withoutSeamHeard : State :=
  { withoutSeamServing with
    hst := { withoutSeamServing.hst with conn := updN withoutSeamServing.hst.conn 0 (Option.map (EsConn.heard withoutSeamServing.mono)) } }

/-- A read at an address of the absent unit completes with NOT_PRESENT (R468). -/
theorem withoutSeamServing_read :
    (withoutSeamServing.onEsing 0 (.read { len := 8 } 0x6000 1)).out = [.esing 0 .notPresent 0 []] := by decide +kernel

theorem withoutSeamHeard_readAt : State.readAt 0x6000 withoutSeamHeard = (.ok, 0, withoutSeamHeard) := rfl

/-- Refutes O58: a READ of one word at an address of the pair link, which `withoutSeamServing` does not have, completes with NOT_PRESENT;
the statement asks for OK wherever the register itself reads as 0. -/
theorem not_esingServes : ¬ Obligations.EsingServes := by
  unfold Obligations.EsingServes
  intro h
  obtain ⟨-, hconn⟩ := h withoutSeamServing rfl rfl
  obtain ⟨-, -, -, hread, -⟩ := hconn 0 {} rfl
  obtain ⟨t, ht, l, hout, hin⟩ := hread { len := 8 } 0x6000 0 withoutSeamHeard rfl rfl rfl rfl withoutSeamHeard_readAt rfl
  rw [← Host.Outcome.next.inj ht] at hout
  have hsent : [Out.esing 0 .notPresent 0 []] = l := withoutSeamServing_read.symm.trans hout
  rw [← hsent, List.mem_singleton] at hin
  obtain ⟨-, hst, -, -⟩ := Out.esing.inj hin
  cases hst

end Sys2Proof.Machine
end

section
/-! ## Charging profiles and the back office's requests (O59: `OcppRequestsAct`) -/

namespace Sys2Proof.Machine

/-! ### A port leaves the client's cache of tokens as it is -/

/-- Two states hold the same authorisation cache. -/
def SameCache (s t : State) : Prop := t.hst.ocpp.cache = s.hst.ocpp.cache

theorem State.wrongState_ocpp (e : Option Ev) (s : State) : (s.wrongState e).hst.ocpp = s.hst.ocpp := State.raiseAt_ocpp _ 0 _

theorem State.keyMissed_ocpp (s : State) : s.keyMissed.hst.ocpp = s.hst.ocpp := State.wrongState_ocpp _ _

theorem State.slvSend_ocpp (code : Nat) (args : List Byte) (s : State) : (s.slvSend code args).hst.ocpp = s.hst.ocpp := by
  unfold State.slvSend
  split
  · rfl
  · split
    · exact State.keyMissed_ocpp s
    · rfl

theorem State.portEff_cache (p : Fin 12) (token : Nat) (x : PEff) (s : State) : SameCache s (s.portEff p token x) := by
  cases x with
  | ev e => exact congrArg Ocpp.cache (State.raiseAt_ocpp e p s)
  | keyMiss => exact congrArg Ocpp.cache (State.keyMissed_ocpp s)
  | rngMiss => exact congrArg Ocpp.cache (State.wrongState_ocpp none s)
  | sleeveStart => exact congrArg Ocpp.cache (State.slvSend_ocpp _ _ _)
  | sleeveStop => exact congrArg Ocpp.cache (State.slvSend_ocpp _ _ _)
  | answer a => rfl
  | close => rfl
  | askAuth pnc cert => rfl
  | useHeld => rfl
  | newSess => rfl

theorem State.ocppSend_cache (kind : OcppKind) (p tx : Nat) (rc oc : Option (List Byte)) (s : State) :
    SameCache s (s.ocppSend kind p tx rc oc) := by
  unfold State.ocppSend
  dsimp only [newMsg]
  split
  · rfl
  · rfl

theorem State.ocppFollow_cache (p : Fin 12) (before : Port) (s : State) : SameCache s (s.ocppFollow p before) := by
  unfold State.ocppFollow
  split
  · rfl
  · dsimp only
    split
    · exact State.ocppSend_cache _ _ _ _ _ _
    · split
      · rfl
      · split
        · rfl
        · rfl

theorem State.portRun_cache (p : Fin 12) (token : Nat) (f : PCtx → PCtx) (s : State) : SameCache s (s.portRun p token f) := by
  unfold State.portRun
  extract_lets before c t u
  have ht : SameCache s t := rfl
  have hu : SameCache s u :=
    List.foldlRecOn (motive := SameCache s) _ _ ht (fun a ha x _ => (State.portEff_cache p token x a).trans ha)
  have hpath : SameCache s (u.checkPath p before.chkOn) :=
    (congrArg (fun h : Hst => h.ocpp.cache) ((State.checkPath_moves p before.chkOn u).frame.get .hst (by decide))).trans hu
  exact (State.ocppFollow_cache p before _).trans hpath

/-- A port that has asked already is not asked anew. -/
theorem State.portDo_asked {p : Fin 12} {s : State} (token : Nat) (f : PCtx → PCtx) (h : s.ports[p].auth = .asked) :
    s.portDo p token f = s.portRun p token f := by
  unfold State.portDo
  refine if_neg fun hask => ?_
  simp only [Bool.and_eq_true, Bool.not_eq_true', decide_eq_false_iff_not] at hask
  exact hask.1.2 h

/-! ### Profiles (R482) -/

theorem evaluate_limit (now : Nat) (u : Rat) (vs : List Rat) (o : Ocpp) (p : Fin 12) :
    (evaluate now u vs o).limit[p] = portLimitA o p now (vs.getD p 0) :=
  mapIdx_get o.limit (fun n _ => portLimitA o n now (vs.getD n 0)) p.isLt

theorem State.snapV_getD (s : State) (p : Fin 12) : (s.cnp.ports.toList.map (·.snapV)).getD p 0 = s.cnp.ports[p].snapV := by
  rw [List.getD_eq_getElem?_getD, List.getElem?_map, Vector.getElem?_toList, Vector.getElem?_eq_getElem p.isLt]
  rfl

theorem State.schedule_ocpp (now : Nat) (s : State) : (s.schedule now).hst.ocpp =
    evaluate (s.scheduleTime now) s.uPhase (s.cnp.ports.toList.map (·.snapV)) s.hst.ocpp := rfl

theorem exec_scheduleEvaluation {s : State} (now : Nat) (hon : s.clientOn = true) : ∃ t, exec (.scheduleEvaluation now) s = .next t ∧
    t.hst.ocpp.station = stationLimit s.hst.ocpp (s.scheduleTime now) s.uPhase ∧
    ∀ p : Fin 12, t.hst.ocpp.limit[p] = portLimitA s.hst.ocpp p (s.scheduleTime now) s.cnp.ports[p].snapV := by
  refine ⟨s.schedule now, congrArg Host.Outcome.next (State.onlyIf_of hon _ s), ?_⟩
  rw [State.schedule_ocpp]
  refine ⟨rfl, fun p => ?_⟩
  rw [evaluate_limit, State.snapV_getD]

theorem storeProfile_mem (f : Profile) (o : Ocpp) : f ∈ (storeProfile f o).profiles :=
  List.mem_append_right _ (List.mem_singleton_self f)

theorem storeProfile_unique {f g : Profile} {o : Ocpp} (hg : g ∈ (storeProfile f o).profiles) (hid : g.id = f.id) : g = f := by
  rcases List.mem_append.1 hg with hold | hnew
  · have hother := List.of_mem_filter hold
    dsimp only at hother
    rw [hid, beq_self_eq_true, Bool.true_or] at hother
    cases hother
  · exact List.mem_singleton.1 hnew

theorem stationLimit_congr {o o' : Ocpp} (h : o'.profiles = o.profiles) (now : Nat) (u : Rat) :
    stationLimit o' now u = stationLimit o now u := by
  unfold stationLimit
  rw [h]

section
variable {s : State} (hon : s.online = true)
include hon

theorem State.up_of_online : s.up = true := by
  unfold State.online State.clientOn State.cores at hon
  refine State.up_of_free (Option.isNone_iff_eq_none.1 ?_)
  simp only [Bool.and_eq_true] at hon
  exact hon.1.1.1.1.1

theorem State.standby_of_online : s.standby = false := by
  unfold State.online State.clientOn State.servesHost at hon
  simp only [Bool.and_eq_true, Bool.or_eq_true, beq_iff_eq] at hon
  unfold State.standby
  rcases hon.1.1.2 with h | h
  · rw [h]; rfl
  · rw [h]; rfl

theorem exec_setChargingProfile_rejected {f : Profile} (now : Nat) (hrej : profileRejected s.noPhaseVoltage s.hst.ocpp f = true) :
    exec (.setChargingProfile f now) s = .next { s with out := s.out ++ [.ocppCall "Rejected" f.id] } :=
  congrArg Host.Outcome.next ((State.onlyIf_of hon _ s).trans (if_pos hrej))

theorem exec_setChargingProfile_accepted {f : Profile} (now : Nat) (hacc : profileRejected s.noPhaseVoltage s.hst.ocpp f = false) :
    ∃ t, exec (.setChargingProfile f now) s = .next t ∧ f ∈ t.hst.ocpp.profiles ∧ (∀ g ∈ t.hst.ocpp.profiles, g.id = f.id → g = f) ∧
      t.hst.ocpp.station = stationLimit t.hst.ocpp (s.scheduleTime now) s.uPhase ∧ Sends (.ocppCall "Accepted" f.id) s t := by
  refine ⟨_, congrArg Host.Outcome.next ((State.onlyIf_of hon _ s).trans (if_neg (ne_true_of_eq_false hacc))),
    storeProfile_mem f s.hst.ocpp, fun g hg => storeProfile_unique (o := s.hst.ocpp) hg, ?_, ⟨[_], rfl, List.mem_singleton_self _⟩⟩
  exact (stationLimit_congr (o := storeProfile f s.hst.ocpp) rfl _ _).symm

/-! ### Transactions and availability (R140, R143, R481) -/

theorem State.online_port {p : Fin 12} (hport : s.hasPort p = true) : (s.online && s.hasPort p) = true := Bool.and_eq_true_iff.2 ⟨hon, hport⟩

theorem exec_requestStartTransaction {p : Fin 12} (hport : s.hasPort p = true) : ∃ t, exec (.requestStartTransaction p) s = .next t ∧
    t.hst.ocpp.held[p] = true ∧ (∀ q : Fin 12, q ≠ p → t.hst.ocpp.held[q] = s.hst.ocpp.held[q]) ∧ Sends (.ocppCall "Accepted" p) s t :=
  ⟨_, congrArg Host.Outcome.next (State.onlyIf_of (State.online_port hon hport) _ s), upd_same s.hst.ocpp.held p _,
    fun _ hq => upd_other s.hst.ocpp.held _ _ _ hq, ⟨[_], rfl, List.mem_singleton_self _⟩⟩

omit hon in
theorem enableWrite_idle {c : PCtx} (hrun : c.p.run = true) (hidle : c.p.st = .idle) : (enableWrite false c).p.enable = false ∧
    (enableWrite false c).p.st = .disabled ∧ (enableWrite false c).p.auth = .none := by
  obtain ⟨d, hd, henable⟩ : ∃ d, c.mod (fun p => { p with enable := false }) = d ∧ d.p.enable = false := ⟨_, rfl, rfl⟩
  have hout : enableWrite false c = (leaveSession d.p.endR d).mod (fun p => { p with st := .disabled, cls := none }) := by
    rw [← hd]
    unfold enableWrite
    dsimp only [PCtx.mod]
    rw [hrun, hidle]
    rfl
  have hleft : (leaveSession d.p.endR d).p.enable = false := by
    rw [leaveSession_p]
    exact henable
  rw [hout]
  refine ⟨hleft, rfl, ?_⟩
  show (leaveSession d.p.endR d).p.auth = .none
  rw [leaveSession_p]

theorem exec_changeAvailability {p : Fin 12} (hport : s.hasPort p = true) (hrun : s.ports[p].run = true) (hidle : s.ports[p].st = .idle) :
    ∃ t, exec (.changeAvailability p false) s = .next t ∧ t.ports[p].enable = false ∧ t.ports[p].st = .disabled ∧
      Sends (.ocppCall "Accepted" p) s t := by
  obtain ⟨henable, hst, hauth⟩ := enableWrite_idle (c := s.pctx p) hrun hidle
  have hp : (s.portDo p 0 (enableWrite false)).ports[p] = (enableWrite false (s.pctx p)).p :=
    (congrArg (fun v : Vector Port 12 => v[p]) (State.portDo_ports p 0 (enableWrite false) s (fun h => by rw [hauth] at h; cases h))).trans
      (upd_same _ _ _)
  have hsent := (State.portDo_moves p 0 (enableWrite false) s).sent
  have hexec : exec (.changeAvailability p false) s = .next ((s.portDo p 0 (enableWrite false)).emit (.ocppCall "Accepted" p)) :=
    congrArg Host.Outcome.next (State.onlyIf_of (State.online_port hon hport) _ s)
  generalize s.portDo p 0 (enableWrite false) = u at hp hsent hexec
  exact ⟨_, hexec, (congrArg Port.enable hp).trans henable, (congrArg Port.st hp).trans hst, Sends.before hsent (Sends.emit _ u)⟩

theorem exec_requestStopTransaction_unknown {n : Nat} (hnone : s.txPort n = none) :
    exec (.requestStopTransaction n) s = .next { s with out := s.out ++ [.ocppCall "Rejected" n] } := by
  refine congrArg Host.Outcome.next ((State.onlyIf_of hon _ s).trans ?_)
  unfold State.txStop
  rw [hnone]
  rfl

theorem exec_requestStopTransaction {n : Nat} {p : Fin 12} (htx : s.txPort n = some p) (hst : s.ports[p].st = .energy) :
    ∃ t, exec (.requestStopTransaction n) s = .next t ∧ t.ports[p].st = .stopping ∧ Sends (.ocppCall "Accepted" n) s t := by
  have hstop : portStopWrite (s.pctx p) = (beginStop .host true (s.pctx p), true) := if_pos hst
  have hvp : vpStop p s = (.ok, s.portDo p 0 (fun c => (portStopWrite c).1)) := if_pos (congrArg Prod.snd hstop)
  have htxStop : s.txStop n = (s.portDo p 0 (fun c => (portStopWrite c).1)).emit (.ocppCall "Accepted" n) := by
    unfold State.txStop
    rw [htx]
    dsimp only
    rw [hvp]
    rfl
  have hports := State.portDo_ports p 0 (fun c => (portStopWrite c).1) s (fun h => by
    rw [hstop] at h
    exact h)
  have hp : (s.portDo p 0 (fun c => (portStopWrite c).1)).ports[p] = (beginStop .host true (s.pctx p)).p :=
    (congrArg (fun v : Vector Port 12 => v[p]) hports).trans ((upd_same _ _ _).trans (congrArg (fun x => x.1.p) hstop))
  have hsent := (State.portDo_moves p 0 (fun c => (portStopWrite c).1) s).sent
  have hexec : exec (.requestStopTransaction n) s = .next (s.txStop n) := congrArg Host.Outcome.next (State.onlyIf_of hon _ s)
  rw [htxStop] at hexec
  generalize s.portDo p 0 (fun c => (portStopWrite c).1) = u at hp hsent hexec
  exact ⟨_, hexec, congrArg Port.st hp, Sends.before hsent (Sends.emit _ u)⟩

/-! ### Reset and unsupported requests (R481) -/

omit hon in
theorem sysResetRequest_safe {s : State} (hpend : s.rst.pend = none) (hsafe : s.gaiterSafe = true) :
    sysResetRequest s = (.ok, State.sysResetNow { level := 1, src := 5 } { s with gld := s.gld.count 5 }) := by
  have hgo : (State.gaiterSafe { s with gld := s.gld.count 5 } || State.standby { s with gld := s.gld.count 5 }) = true :=
    Bool.or_eq_true_iff.2 (.inl hsafe)
  unfold sysResetRequest
  rw [hpend]
  exact if_pos hgo

theorem exec_ocppReset_safe (hpend : s.rst.pend = none) (hsafe : s.gaiterSafe = true) : ∃ t, exec .ocppReset s = .next t ∧
    t.rst.hold = some { level := 1, src := 5, at_ := s.mono } ∧ t.out = s.out ++ [.ocppCall "Accepted" 0] := by
  have hreset : s.backOfficeReset = (sysResetRequest (s.emit (.ocppCall "Accepted" 0))).2 :=
    if_pos (congrArg Prod.fst (sysResetRequest_safe hpend hsafe))
  rw [sysResetRequest_safe (s := s.emit (.ocppCall "Accepted" 0)) hpend hsafe] at hreset
  refine ⟨_, congrArg Host.Outcome.next ((State.onlyIf_of hon _ s).trans hreset), ?_, rfl⟩
  exact congrArg (fun src => some ({ level := 1, src := src, at_ := s.mono } : Hold)) (State.meets_up (State.up_of_online hon) 5)

theorem exec_ocppReset_pending (hpend : s.rst.pend.isSome = true) :
    exec .ocppReset s = .next { s with out := s.out ++ [.ocppCall "Rejected" 0] } := by
  have hrefused : sysResetRequest s = (.notInState, s) := if_pos hpend
  refine congrArg Host.Outcome.next ((State.onlyIf_of hon _ s).trans ?_)
  unfold State.backOfficeReset
  rw [hrefused]
  rfl

theorem exec_ocppUnsupportedCall {b : String} (hb : b ∈ ocppUnsupported) :
    exec (.ocppUnsupportedCall b) s = .next { s with out := s.out ++ [.ocppCall "NotImplemented" 0] } :=
  congrArg Host.Outcome.next (State.onlyIf_of (Bool.and_eq_true_iff.2 ⟨hon, List.contains_iff_mem.2 hb⟩) _ s)

/-! ### The answer to an authorisation request (R140) -/

section
variable {p : Fin 12} {token : Nat} (hport : s.portUp p = true) (hst : s.ports[p].st = .setup) (hauth : s.ports[p].auth = .asked)

omit hon in
include hst hauth in
theorem authAnswer_setup (o : Ocpp → Ocpp) : authAnswer true ((s.ocppMod o).pctx p) = giveAuth ((s.ocppMod o).pctx p) ∧
    authAnswer false ((s.ocppMod o).pctx p) = enterEnded .auth (failNext false ((s.ocppMod o).pctx p)) :=
  ⟨if_pos ⟨hst, hauth⟩, if_pos ⟨hst, hauth⟩⟩

include hport hauth

/-- The answer is kept in the cache, and the port goes on with it. -/
theorem exec_authorizeResponse (ok : Bool) : ∃ t, exec (.authorizeResponse p ok token) s = .next t ∧
    t.ports[p] = (authAnswer ok ((s.ocppMod (Ocpp.cacheToken ok token)).pctx p)).p ∧
    t.hst.ocpp.cache = (s.hst.ocpp.cacheToken ok token).cache := by
  have hgo : (s.online && s.portUp p) = true := Bool.and_eq_true_iff.2 ⟨hon, hport⟩
  have hrun := State.portDo_asked (s := s.ocppMod (Ocpp.cacheToken ok token)) token (authAnswer ok) (p := p) hauth
  refine ⟨_, congrArg Host.Outcome.next ((State.onlyIf_of hgo _ s).trans hrun), ?_, ?_⟩
  · exact (congrArg (fun v : Vector Port 12 => v[p]) (State.portRun_ports p token (authAnswer ok) _)).trans (upd_same _ _ _)
  · exact State.portRun_cache p token (authAnswer ok) (s.ocppMod (Ocpp.cacheToken ok token))

include hst

theorem exec_authorizeResponse_accepted : ∃ t, exec (.authorizeResponse p true token) s = .next t ∧ t.ports[p].auth = .given ∧
    token ∈ t.hst.ocpp.cache := by
  obtain ⟨t, ht, hp, hcache⟩ := exec_authorizeResponse hon hport hauth (token := token) true
  refine ⟨t, ht, ?_, ?_⟩
  · rw [hp, (authAnswer_setup hst hauth _).1]
    rfl
  · rw [hcache]
    exact List.mem_cons_self

theorem exec_authorizeResponse_refused : ∃ t, exec (.authorizeResponse p false token) s = .next t ∧ t.ports[p].st = .ended ∧
    token ∉ t.hst.ocpp.cache := by
  obtain ⟨t, ht, hp, hcache⟩ := exec_authorizeResponse hon hport hauth (token := token) false
  refine ⟨t, ht, ?_, ?_⟩
  · rw [hp, (authAnswer_setup hst hauth _).2]
    rfl
  · rw [hcache]
    show token ∉ s.hst.ocpp.cache.filter (· ≠ token)
    rw [List.mem_filter]
    exact fun hin => of_decide_eq_true hin.2 rfl

end
end

/-- Settles O59: the schedules by `evaluate`, each request by its lemma. -/
theorem ocppRequestsAct : Obligations.OcppRequestsAct := by
  unfold Obligations.OcppRequestsAct
  intro s
  refine ⟨fun now => exec_scheduleEvaluation now, fun hon => ⟨fun f now => exec_setChargingProfile_rejected hon now,
    fun f now => exec_setChargingProfile_accepted hon now, fun p hport => ⟨exec_requestStartTransaction hon hport, exec_changeAvailability hon hport⟩,
    fun n => exec_requestStopTransaction_unknown hon, fun n p => exec_requestStopTransaction hon, exec_ocppReset_safe hon,
    exec_ocppReset_pending hon, fun b => exec_ocppUnsupportedCall hon, fun p token hport hst hauth => ⟨?_, ?_⟩⟩⟩
  · exact exec_authorizeResponse_accepted hon hport hst hauth
  · exact exec_authorizeResponse_refused hon hport hst hauth

end Sys2Proof.Machine
end

section
/-! ## Transactions and the link to the back office (O60: `OcppTransactionsAct`) -/

namespace Sys2Proof.Machine

/-! ### Messages to the back office (R483, R485) -/

theorem State.ocppSend_live {s : State} (kind : OcppKind) (p tx : Nat) (rc oc : Option (List Byte)) (h : s.hst.ocpp.st = 3) :
    s.ocppSend kind p tx rc oc =
      { s with
        hst := { s.hst with ocpp := { s.hst.ocpp with ctr := (s.hst.ocpp.ctr + 1) % 2 ^ 32 } }
        out := s.out ++ [s.ocppOut
          { kind := kind, port := p, tx := tx, gen := s.seam.gen, ctr := s.hst.ocpp.ctr, record := rc, ocmf := oc }] } := if_pos h

theorem State.ocppSend_waits {s : State} (kind : OcppKind) (p tx : Nat) (rc oc : Option (List Byte)) (h : s.hst.ocpp.st = 4)
    (hroom : s.hst.ocpp.queue.length < 4096) :
    s.ocppSend kind p tx rc oc =
      { s with
        hst := { s.hst with
          ocpp := { s.hst.ocpp with
            ctr := (s.hst.ocpp.ctr + 1) % 2 ^ 32
            queue := s.hst.ocpp.queue ++
              [{ kind := kind, port := p, tx := tx, gen := s.seam.gen, ctr := s.hst.ocpp.ctr, record := rc, ocmf := oc }] } } } := by
  unfold State.ocppSend
  dsimp only [newMsg]
  rw [if_neg (by rw [h]; decide), enqueue, if_pos hroom]

theorem State.ocppSend_sends {s : State} (kind : OcppKind) (p tx : Nat) (rc oc : Option (List Byte)) (h : s.hst.ocpp.st = 3) :
    Sends (s.ocppOut { kind := kind, port := p, tx := tx, gen := s.seam.gen, ctr := s.hst.ocpp.ctr, record := rc, ocmf := oc }) s
      (s.ocppSend kind p tx rc oc) := by
  rw [State.ocppSend_live kind p tx rc oc h]
  exact ⟨[_], rfl, List.mem_singleton_self _⟩

/-! ### The ended transactions of a port -/

/-- The ended transactions of a port in the client's record. -/
def Ocpp.over (p : Fin 12) (o : Ocpp) : List OcppTx := ((o.old ++ o.ended p).filter (·.1 == p)).map (·.2)

theorem State.endedTxs_eq (p : Fin 12) (s : State) : s.endedTxs p = s.hst.ocpp.over p := rfl

theorem Ocpp.over_eq (p : Fin 12) (o : Ocpp) :
    o.over p = (o.old.filter (·.1 == p)).map (·.2) ++ (o.tx[p].filter (·.endAt.isSome)).toList := by
  unfold Ocpp.over Ocpp.ended
  rw [List.filter_append, List.map_append]
  congr 1
  cases o.tx[p] with
  | none => rfl
  | some t =>
    cases hend : t.endAt with
    | none => simp [Option.filter, hend]
    | some e => simp [Option.filter, hend]

/-- A transaction that the client closes stands no longer among the ended ones of its port. -/
theorem Ocpp.over_close {p : Fin 12} {o : Ocpp} {x : OcppTx} (h : o.over p = [x]) :
    Ocpp.over p { o with
      tx := upd o.tx p (fun t => t.filter (·.num != x.num)), old := o.old.filter (fun t => t.1 != p || t.2.num != x.num) } = [] := by
  have hgone : ∀ t ∈ o.over p, t = x := fun t ht => List.mem_singleton.1 (h ▸ ht)
  rw [Ocpp.over_eq] at hgone ⊢
  refine List.append_eq_nil_iff.2 ⟨?_, ?_⟩
  · refine List.map_eq_nil_iff.2 (List.filter_eq_nil_iff.2 fun t ht hport => ?_)
    obtain ⟨hold, hkept⟩ := List.mem_filter.1 ht
    have hx := hgone t.2 (List.mem_append_left _ (List.mem_map_of_mem (List.mem_filter.2 ⟨hold, hport⟩)))
    rw [hx, eq_of_beq hport, bne_self_eq_false, bne_self_eq_false] at hkept
    cases hkept
  · have htx : (upd o.tx p (fun t => t.filter (·.num != x.num)))[p] = o.tx[p].filter (·.num != x.num) := upd_same _ _ _
    rw [htx]
    cases ho : o.tx[p] with
    | none => rfl
    | some t =>
      rw [ho] at hgone
      cases hend : t.endAt.isSome with
      | false => cases hnum : (t.num != x.num) <;> simp [Option.filter, hend, hnum]
      | true =>
        have hx := hgone t (List.mem_append_right _ (by simp [Option.filter, hend]))
        rw [hx]
        simp [Option.filter]

/-- A transaction whose record is late stays among the ended ones of its port, marked. -/
theorem Ocpp.over_late {p : Fin 12} {o : Ocpp} {x : OcppTx} (h : o.over p = [x]) :
    Ocpp.over p { o with
      tx := upd o.tx p (fun u => u.map (fun u => if u.num = x.num then { u with late := true } else u))
      old := o.old.map (fun u => if u.1 = p ∧ u.2.num = x.num then (p, { u.2 with late := true }) else u) } = [{ x with late := true }] := by
  have hmark : ∀ t : OcppTx, t = x → (if t.num = x.num then { t with late := true } else t) = { x with late := true } := by
    rintro t rfl
    exact if_pos rfl
  have hold : ∀ l : List (Fin 12 × OcppTx), ((l.map (fun u => if u.1 = p ∧ u.2.num = x.num then (p, { u.2 with late := true }) else u)).filter
      (·.1 == p)).map (·.2) = ((l.filter (·.1 == p)).map (·.2)).map (fun u => if u.num = x.num then { u with late := true } else u) := by
    intro l
    induction l with
    | nil => rfl
    | cons u l ih =>
      by_cases hp : u.1 = p
      · by_cases hn : u.2.num = x.num
        · simp [hp, hn, ih]
        · simp [hp, hn, ih]
      · simp [hp, ih]
  have htx : (o.tx[p].map (fun u => if u.num = x.num then { u with late := true } else u)).filter (·.endAt.isSome) =
      (o.tx[p].filter (·.endAt.isSome)).map (fun u => if u.num = x.num then { u with late := true } else u) := by
    cases o.tx[p] with
    | none => rfl
    | some t =>
      by_cases hn : t.num = x.num
      · cases hend : t.endAt.isSome <;> simp [Option.filter, hn, hend]
      · cases hend : t.endAt.isSome <;> simp [Option.filter, hn, hend]
  have hupd : (upd o.tx p (fun u => u.map (fun u => if u.num = x.num then { u with late := true } else u)))[p] =
      o.tx[p].map (fun u => if u.num = x.num then { u with late := true } else u) := upd_same _ _ _
  rw [Ocpp.over_eq] at h ⊢
  rw [hold, hupd, htx, Option.toList_map, ← List.map_append, h, List.map_singleton, hmark x rfl]

/-! ### Transactions (R483) -/

/-- The meter values of a transaction have been sent: the next ones are due an interval from `now`. -/
def Ocpp.metered (p : Fin 12) (x : OcppTx) (now : Nat) (o : Ocpp) : Ocpp :=
  { o with tx := upd o.tx p (fun _ => some { x with meterAt := now }) }

section
variable {s : State} (hon : s.clientOn = true)
include hon

section
variable {p : Fin 12} {x : OcppTx} (htx : s.hst.ocpp.tx[p] = some x)
include htx

theorem exec_meterValuesSend_early (hearly : s.mono < x.meterAt + s.meterInt * 1000000) : exec (.meterValuesSend p) s = .next s := by
  have hpassed : State.passed x.meterAt (s.meterInt * 1000000) s = false := decide_eq_false (Nat.not_le.2 hearly)
  refine congrArg Host.Outcome.next ((State.onlyIf_of hon _ s).trans ?_)
  unfold State.meterValues
  rw [htx]
  dsimp only
  rw [hpassed]
  exact if_neg fun h => Bool.false_ne_true h.2

theorem exec_meterValuesSend_due (hopen : x.endAt = none) (hdue : x.meterAt + s.meterInt * 1000000 ≤ s.mono) :
    exec (.meterValuesSend p) s =
      .next ((s.ocppMod (Ocpp.metered p x s.mono)).ocppSend .meter p x.num none none) := by
  have hpassed : State.passed x.meterAt (s.meterInt * 1000000) s = true := decide_eq_true hdue
  refine congrArg Host.Outcome.next ((State.onlyIf_of hon _ s).trans ?_)
  unfold State.meterValues
  rw [htx]
  exact if_pos ⟨by rw [hopen]; rfl, hpassed⟩

theorem exec_meterValuesSend_live (hopen : x.endAt = none) (hdue : x.meterAt + s.meterInt * 1000000 ≤ s.mono) (hst : s.hst.ocpp.st = 3) :
    ∃ t, exec (.meterValuesSend p) s = .next t ∧
      Sends (s.ocppOut { kind := .meter, port := p, tx := x.num, gen := s.seam.gen, ctr := s.hst.ocpp.ctr }) s t ∧
      t.hst.ocpp.tx[p] = some { x with meterAt := s.mono } ∧ t.hst.ocpp.ctr = (s.hst.ocpp.ctr + 1) % 2 ^ 32 := by
  have hexec := exec_meterValuesSend_due hon htx hopen hdue
  rw [State.ocppSend_live (s := s.ocppMod (Ocpp.metered p x s.mono)) _ _ _ _ _ hst] at hexec
  exact ⟨_, hexec, ⟨[_], rfl, List.mem_singleton_self _⟩, upd_same s.hst.ocpp.tx p _, rfl⟩

theorem exec_meterValuesSend_waits (hopen : x.endAt = none) (hdue : x.meterAt + s.meterInt * 1000000 ≤ s.mono) (hst : s.hst.ocpp.st = 4)
    (hroom : s.hst.ocpp.queue.length < 4096) : ∃ t, exec (.meterValuesSend p) s = .next t ∧ t.out = s.out ∧
      t.hst.ocpp.queue = s.hst.ocpp.queue ++ [{ kind := .meter, port := p, tx := x.num, gen := s.seam.gen, ctr := s.hst.ocpp.ctr }] := by
  have hexec := exec_meterValuesSend_due hon htx hopen hdue
  rw [State.ocppSend_waits (s := s.ocppMod (Ocpp.metered p x s.mono)) _ _ _ _ _ hst hroom] at hexec
  exact ⟨_, hexec, rfl, rfl⟩

end

section
variable {p : Fin 12} {x : OcppTx} (hover : s.endedTxs p = [x]) (hst : s.hst.ocpp.st = 3)
include hst hover

omit hon in
/-- A transaction is ended with a message, and closed. -/
theorem State.endTx_closes (kind : OcppKind) (rc oc : Option (List Byte)) :
    ((s.ocppSend kind p x.num rc oc).txClose p x.num).endedTxs p = [] ∧
      Sends (s.ocppOut { kind := kind, port := p, tx := x.num, gen := s.seam.gen, ctr := s.hst.ocpp.ctr, record := rc, ocmf := oc }) s
        ((s.ocppSend kind p x.num rc oc).txClose p x.num) := by
  have hsends := State.ocppSend_sends kind p x.num rc oc hst
  have hsame : (s.ocppSend kind p x.num rc oc).hst.ocpp.over p = [x] := by
    rw [State.ocppSend_live kind p x.num rc oc hst]
    exact hover
  exact ⟨Ocpp.over_close hsame, hsends⟩

omit hst in
theorem exec_transactionEnded : exec (.transactionEnded p) s = .next (s.endTx p x) := by
  refine congrArg Host.Outcome.next ((State.onlyIf_of hon _ s).trans ?_)
  rw [hover]
  rfl

theorem exec_transactionEnded_recorded {r : Nat × List Byte} (hrec : s.slvLink.recordOf x.num = some r) :
    ∃ t, exec (.transactionEnded p) s = .next t ∧ t.endedTxs p = [] ∧
      Sends (s.ocppOut { kind := if x.late then .late else .ended, port := p, tx := x.num, gen := s.seam.gen, ctr := s.hst.ocpp.ctr,
                         record := some r.2, ocmf := s.slvLink.ocmfOf r.1 }) s t := by
  have hend : s.endTx p x =
      (s.ocppSend (if x.late then .late else .ended) p x.num (some r.2) (s.slvLink.ocmfOf r.1)).txClose p x.num := by
    unfold State.endTx
    rw [hrec]
  have hexec := exec_transactionEnded hon hover
  rw [hend] at hexec
  exact ⟨_, hexec, State.endTx_closes hover hst _ _ _⟩

theorem exec_transactionEnded_unrecorded (hrec : s.slvLink.recordOf x.num = none) (hlate : x.late = false) (hno : s.noRecord x.num = true) :
    ∃ t, exec (.transactionEnded p) s = .next t ∧ t.endedTxs p = [] ∧
      Sends (s.ocppOut { kind := .ended, port := p, tx := x.num, gen := s.seam.gen, ctr := s.hst.ocpp.ctr }) s t := by
  have hend : s.endTx p x = (s.ocppSend .ended p x.num none none).txClose p x.num := by
    unfold State.endTx
    rw [hrec]
    dsimp only
    rw [hno, hlate]
    rfl
  have hexec := exec_transactionEnded hon hover
  rw [hend] at hexec
  exact ⟨_, hexec, State.endTx_closes hover hst _ _ _⟩

theorem exec_recordWaitTimeout {t0 : Nat} (hend : x.endAt = some t0) (hlate : x.late = false) (htime : t0 + 90000000 ≤ s.mono) :
    ∃ t, exec (.recordWaitTimeout p) s = .next t ∧ t.endedTxs p = [{ x with late := true }] ∧
      Sends (s.ocppOut { kind := .ended, port := p, tx := x.num, gen := s.seam.gen, ctr := s.hst.ocpp.ctr }) s t := by
  have hgo : (!x.late && State.passed (x.endAt.getD s.mono) 90000000 s) = true := by
    rw [hlate, hend, Option.getD_some, show State.passed t0 90000000 s = true from decide_eq_true htime]
    rfl
  have hrecord : s.recordLate p x = (s.ocppSend .ended p x.num none none).ocppMod (fun o => { o with
      tx := upd o.tx p (fun u => u.map (fun u => if u.num = x.num then { u with late := true } else u))
      old := o.old.map (fun u => if u.1 = p ∧ u.2.num = x.num then (p, { u.2 with late := true }) else u) }) := if_pos hgo
  have hexec : exec (.recordWaitTimeout p) s = .next (s.recordLate p x) := by
    refine congrArg Host.Outcome.next ((State.onlyIf_of hon _ s).trans ?_)
    rw [hover]
    rfl
  have hsends := State.ocppSend_sends .ended p x.num none none hst
  have hsame : (s.ocppSend .ended p x.num none none).hst.ocpp.over p = [x] := by
    rw [State.ocppSend_live .ended p x.num none none hst]
    exact hover
  rw [hrecord] at hexec
  exact ⟨_, hexec, Ocpp.over_late hsame, hsends⟩

end

/-! ### The link (R484) -/

theorem State.up_of_clientOn : s.up = true := by
  unfold State.clientOn State.cores at hon
  refine State.up_of_free (Option.isNone_iff_eq_none.1 ?_)
  simp only [Bool.and_eq_true] at hon
  exact hon.1.1.1.1

theorem exec_ocppLinkLost (hst : s.hst.ocpp.st = 3) : ∃ t, exec .ocppLinkLost s = .next t ∧ t.hst.ocpp.st = 4 ∧ t.hst.ocpp.delay = 1 ∧
    t.hst.ocpp.lostAt = s.mono ∧ t.hst.ocpp.queue = s.hst.ocpp.queue ∧ t.told .backOfficeLink := by
  have hlost : s.linkLost = (s.ocppMod (fun o => { o with st := 4, delay := 1, lostAt := s.mono })).raise .backOfficeLink := if_pos hst
  refine ⟨_, congrArg Host.Outcome.next ((State.onlyIf_of hon _ s).trans hlost), ?_⟩
  rw [show ((s.ocppMod (fun o => { o with st := 4, delay := 1, lostAt := s.mono })).raise .backOfficeLink).hst.ocpp = _ from
    State.raiseAt_ocpp .backOfficeLink 0 _]
  exact ⟨rfl, rfl, rfl, rfl, State.raise_told _ _ (State.up_of_clientOn hon)⟩

/-- A handshake that fails is counted, and the next attempt waits from now (R484). -/
def State.handshakeFails (d : Nat) (s : State) : State := s.tlsFails.ocppMod (fun o => { o with st := 4, delay := d, lostAt := s.mono })

omit hon in
theorem esNotify_tlsFail (e : Nat) (entry : LogE) (k : Nat) (s : State) : (esNotify e entry k s).hst.tlsFail = s.hst.tlsFail := by
  unfold esNotify
  split
  · rfl
  · split
    · rfl
    · split
      · rfl
      · rfl

omit hon in
theorem State.raise_tlsFail (e : Ev) (s : State) : (s.raise e).hst.tlsFail = s.hst.tlsFail := by
  unfold State.raise State.raiseAt
  split
  · rfl
  · dsimp only
    rw [esNotify_tlsFail, esNotify_tlsFail]

section
variable (hst : s.hst.ocpp.st = 4)
include hst

theorem exec_ocppReconnect_due (hdue : s.hst.ocpp.lostAt + s.hst.ocpp.delay * 1000000 ≤ s.mono) (h : TlsHello) :
    exec (.ocppReconnect h) s = .next (s.reconnect h) := by
  refine congrArg Host.Outcome.next (State.onlyIf_of (Bool.and_eq_true_iff.2 ⟨hon, ?_⟩) _ s)
  unfold State.reconnectDue
  rw [hst, show State.passed s.hst.ocpp.lostAt (s.hst.ocpp.delay * 1000000) s = true from decide_eq_true hdue]
  rfl

omit hon

theorem State.reconnect_opens {h : TlsHello} (hkey : s.serviceKey 1 = true) (hok : h.ok = true) :
    s.reconnect h = s.ocppMod (fun o => { o with st := 2, delay := min (2 * o.delay) s.tReconn }) := by
  unfold State.reconnect
  rw [hkey, hok]
  dsimp only
  rw [if_neg (by decide), if_pos rfl]
  unfold State.ocppMod
  dsimp only
  rw [if_pos hst]

theorem State.reconnect_refused {h : TlsHello} (hkey : s.serviceKey 1 = true) (hok : h.ok = false) :
    s.reconnect h = s.handshakeFails (min (2 * s.hst.ocpp.delay) s.tReconn) := by
  unfold State.reconnect
  rw [hkey, hok]
  dsimp only
  rw [if_neg (by decide), if_neg (by decide)]
  unfold State.handshakeFails State.ocppMod State.tlsFails
  dsimp only
  rw [hst]
  rfl

theorem State.reconnect_keyless {h : TlsHello} (hkey : s.serviceKey 1 = false) :
    s.reconnect h = s.keyMissed.handshakeFails (min (2 * s.hst.ocpp.delay) s.tReconn) := by
  have hocpp := State.keyMissed_ocpp s
  have hmono : s.keyMissed.mono = s.mono := (State.keyMissed_moves s).frame.get .mono (by decide)
  unfold State.reconnect
  rw [hkey]
  dsimp only
  rw [if_pos (by decide)]
  unfold State.handshakeFails State.ocppMod State.tlsFails
  dsimp only
  rw [hocpp, hst, hmono]
  rfl

include hon

theorem exec_ocppReconnect (hdue : s.hst.ocpp.lostAt + s.hst.ocpp.delay * 1000000 ≤ s.mono) (h : TlsHello) :
    ∃ t, exec (.ocppReconnect h) s = .next t ∧
      t.hst.ocpp.delay = min (2 * s.hst.ocpp.delay) s.tReconn ∧ (s.serviceKey 1 = true → h.ok = true → t.hst.ocpp.st = 2) ∧
      (s.serviceKey 1 = true → h.ok = false → t.hst.ocpp.st = 4 ∧ t.hst.ocpp.lostAt = s.mono ∧ t.hst.tlsFail = satInc 8 s.hst.tlsFail) ∧
      (s.serviceKey 1 = false → t.hst.ocpp.st = 4 ∧ t.hst.ocpp.lostAt = s.mono ∧ t.hst.tlsFail = satInc 8 s.hst.tlsFail ∧
        t.told .keyMissing) := by
  refine ⟨s.reconnect h, exec_ocppReconnect_due hon hst hdue h, ?_⟩
  cases hkey : s.serviceKey 1 with
  | false =>
    rw [State.reconnect_keyless hst hkey]
    have hmono : s.keyMissed.mono = s.mono := (State.keyMissed_moves s).frame.get .mono (by decide)
    have htls : s.keyMissed.hst.tlsFail = s.hst.tlsFail := State.raise_tlsFail _ _
    have htold : s.keyMissed.told .keyMissing :=
      State.raise_told .keyMissing { s with clk := (keyMissing s.clk).c, thk := s.thk.countNis none } (State.up_of_clientOn hon)
    exact ⟨rfl, fun h => (Bool.false_ne_true h).elim, fun h => (Bool.false_ne_true h).elim, fun _ =>
      ⟨rfl, hmono, congrArg (satInc 8) htls, htold⟩⟩
  | true =>
    cases hok : h.ok with
    | false =>
      rw [State.reconnect_refused hst hkey hok]
      exact ⟨rfl, fun _ h => (Bool.false_ne_true h).elim, fun _ _ => ⟨rfl, rfl, rfl⟩, fun h => (Bool.false_ne_true h.symm).elim⟩
    | true =>
      rw [State.reconnect_opens hst hkey hok]
      exact ⟨rfl, fun _ _ => rfl, fun _ h => (Bool.false_ne_true h.symm).elim, fun h => (Bool.false_ne_true h.symm).elim⟩

omit hon in
theorem exec_ocppReconnect_early (hearly : s.mono < s.hst.ocpp.lostAt + s.hst.ocpp.delay * 1000000) (h : TlsHello) :
    exec (.ocppReconnect h) s = .next s := by
  have hdue : s.reconnectDue = false := by
    unfold State.reconnectDue
    rw [hst, show State.passed s.hst.ocpp.lostAt (s.hst.ocpp.delay * 1000000) s = false from decide_eq_false (Nat.not_le.2 hearly)]
    rfl
  exact congrArg Host.Outcome.next (if_neg (by rw [hdue, Bool.and_false]; exact Bool.false_ne_true))

end

theorem exec_bootAccepted (hst : s.hst.ocpp.st = 2) : ∃ t, exec .bootAccepted s = .next t ∧ t.hst.ocpp.st = 3 ∧ t.hst.ocpp.queue = [] ∧
    t.told .backOfficeLink ∧ ∃ l, t.out = l ++ s.hst.ocpp.queue.map (fun m => s.ocppOut m) := by
  have hgo : (s.clientOn && s.hst.ocpp.st == 2) = true := by
    rw [hon, hst]
    rfl
  have hocpp : s.bootDone.hst.ocpp = { s.hst.ocpp with st := 3, delay := 1, queue := [] } :=
    State.raiseAt_ocpp .backOfficeLink 0 (s.ocppMod (fun o => { o with st := 3, delay := 1, queue := [] }))
  have htold : s.bootDone.told .backOfficeLink :=
    State.raise_told .backOfficeLink (s.ocppMod (fun o => { o with st := 3, delay := 1, queue := [] })) (State.up_of_clientOn hon)
  refine ⟨s.bootDone, congrArg Host.Outcome.next (State.onlyIf_of hgo _ s), ?_⟩
  rw [hocpp]
  exact ⟨rfl, rfl, htold, _, rfl⟩

end

/-- Settles O60: transactions by what the client sends and keeps, the link by the result of its handshake. -/
theorem ocppTransactionsAct : Obligations.OcppTransactionsAct := by
  unfold Obligations.OcppTransactionsAct
  intro s hon
  refine ⟨fun p x htx => ⟨exec_meterValuesSend_early hon htx, exec_meterValuesSend_live hon htx, exec_meterValuesSend_waits hon htx⟩,
    fun p x hover hst => ⟨fun r => exec_transactionEnded_recorded hon hover hst, exec_transactionEnded_unrecorded hon hover hst,
      fun t0 => exec_recordWaitTimeout hon hover hst⟩,
    exec_ocppLinkLost hon, exec_ocppReconnect hon, exec_ocppReconnect_early, exec_bootAccepted hon⟩

end Sys2Proof.Machine
end
